-- ==== Sys2Proof/Word.lean ====
section
/-! DEFINITION. The word types of the part: a byte, a 32-bit register word (R10) and a 64-bit double word. -/

namespace Sys2Proof

/-- One byte. -/
abbrev Byte := BitVec 8

/-- One register word: every register is 32 bits wide (R10). -/
abbrev Word := BitVec 32

/-- A 64-bit value: a fence, a time or a host address. -/
abbrev DWord := BitVec 64

end Sys2Proof
end

