-- ==== Sys2Proof/Syntax.lean ====
section
/-! DEFINITION. The commands of the part: one constructor of `Instr` per row of spec/opcode_table.json, and the
operand types they carry. The part takes its commands from outside: register accesses, host commands from
Isaend queues, management commands, fid instructions, and the events that reach it from wires, clocks and pins.
An event carries as operands what the part observes at it. -/

namespace Sys2Proof

/-- A fabric master (R661): a tenancy bridge, a fid, a DMA engine or the debug port. -/
inductive Master where
  | tenancy (t : Nat)
  | fid (f : Nat)
  | dma (d : Nat)
  | debug
  deriving DecidableEq, Repr

/-- Where a host command came from and how it completes (R628): tenancy, submission queue, CID,
and the fence signalled at an OK completion when SIGNAL is 1. `reserved` tells that a reserved bit or byte of the
command was set (R629, R636 BAD_FIELD). -/
structure Origin where
  tenancy : Nat
  sq : Nat
  cid : Nat
  signal : Bool
  fence : Nat
  fenceValue : DWord
  reserved : Bool
  deriving DecidableEq, Repr

/-- A video format (R140), its codes as WIR_FMT holds them (R189): scan 0 progressive, 1 interlaced, 2 PsF;
sampling 0 4:2:2, 1 4:4:4, 2 RGB, 3 4:2:0; depth 0, 1, 2 for 8, 10, 12 bits; level 0 not 3G, 1 A, 2 B-DL, 3 B-DS;
streams 0 one, 1 two, 2 four quadrants. -/
structure Format where
  width : Nat
  height : Nat
  rateNum : Nat
  rateDen : Nat
  scan : Nat
  sampling : Nat
  depth : Nat
  colour : Nat
  fullRange : Bool
  streams : Nat
  level : Nat
  byId : Bool
  lineTotal : Nat
  deriving DecidableEq, Repr

/-- The producer an ingress essence port is bound to (R29). -/
inductive Producer where
  | sdiDec (strand stream : Nat)
  | dispSink (dp : Nat)
  | rx2110 (flow : Nat)
  | sbOut (n : Nat)
  | cpOut (n : Nat)
  | player (n : Nat)
  deriving DecidableEq, Repr

/-- The consumer an egress essence port is bound to (R29). -/
inductive Consumer where
  | sdiEnc (strand stream : Nat)
  | dispSrc (dp : Nat)
  | tx2110 (flow : Nat)
  | sbIn (n : Nat)
  | layer (cp l : Nat)
  | recorder (n : Nat)
  deriving DecidableEq, Repr

/-- What an audio matrix port is bound to (R35): SDI or display de-embedded or re-embedded channels of a strand,
a channel of an ST 2110 audio flow, a slot of a SAP, a subframe of an AES3 port, or a sample rate converter. -/
inductive AudioEnd where
  | wire (strand channel : Nat)
  | flow (flow channel : Nat)
  | sap (sap slot : Nat)
  | aes (port subframe : Nat)
  | src (n : Nat)
  deriving DecidableEq, Repr

/-- One strand of a strand map or an early map: the parameters of R106, and for a bight's strands BIGHT_INIT
and LOCKDOWN_CLOSE. The entry stands on the leader and covers `width` strands. -/
structure StrandEntry where
  leader : Nat
  width : Nat
  proto : Nat
  rate : Nat
  customKbps : Nat
  fec : Bool
  hdmi : Bool
  source : Bool
  deriving DecidableEq, Repr

/-- The bight settings of a zone's strand map or of the early map. -/
structure BightEntry where
  bight : Nat
  init : Bool
  lockdownClose : Bool
  deriving DecidableEq, Repr

/-- EARLY_MAP (R47): bifurcation, early-service strands, their bights and taut hitches (egress, ingress). -/
structure EarlyMap where
  bifurcation : Nat
  strands : List StrandEntry
  bights : List BightEntry
  hitches : List (Nat × Nat)
  deriving DecidableEq, Repr

/-- One tenancy of TENANCY_PLAN (R47): lanyard period in ms and policy (none where the plan gives none, R650), DMA engines, share in percent, host reserve in MB/s. -/
structure TenancyEntry where
  period : Option Nat
  policy : Option Nat
  dmaEngines : List Nat
  share : Nat
  hostReserve : Nat
  partBase : Nat
  partCount : Nat
  deviceExtents : Nat
  deriving DecidableEq, Repr

/-- TENANCY_PLAN: the tenancies, the rig owner, whether the management port may request modes (R656),
its address (R655), and the RESPOND slot of R726. -/
structure TenancyPlan where
  tenancies : List TenancyEntry
  rigOwner : Nat
  mgmtModes : Bool
  mgmtAddress : Nat
  attestSlot : Option Nat
  deriving DecidableEq, Repr

/-- FRAME_STORE_PLAN: channel speed code (R431), the gigabytes of each module expected on each channel from M0 on (R432), spare pieces, budget percent. -/
structure StorePlan where
  speed : Nat
  modules : List (List Nat)
  spare : Nat
  budgetPct : Nat
  deriving DecidableEq, Repr

/-- A ring of frame-sync slots that the engine pool gives a sheet bend (R299). -/
structure SbPool where
  sb : Nat
  ringFrames : Nat
  slotBytes : Nat
  deriving DecidableEq, Repr

/-- ZONE_PLAN of one zone (R52): strand map, ownership and grants by object code, port bindings, engine pool with its frame rings, its coil surfaces by compositor and
bytes, the scaler of layers by their number, the display sources set to 4:2:0 (R144), and the timing generators, recorders and players in use; the audio plan with SAP directions and the modes of the
serial audio ports, each as the address of its mode register and the value there. -/
structure ZonePlan where
  strands : List StrandEntry
  bights : List BightEntry
  owners : List (Nat × Nat)
  grants : List (Nat × Nat)
  eis : List (Nat × Producer)
  eos : List (Nat × Consumer)
  amis : List (Nat × AudioEnd)
  amos : List (Nat × AudioEnd)
  gangs : List Nat
  layers : List (Nat × Nat)
  scalers : List (Nat × Nat)
  halved : List Nat
  timings : List Nat
  recorders : List Nat
  players : List Nat
  rings : List SbPool
  coils : List (Nat × Nat)
  sapRx : List (Nat × Nat × Nat)
  sapTx : List (Nat × Nat × Nat)
  portModes : List (Nat × Word)
  deriving DecidableEq, Repr

/-- What the sections of a rig image say whose byte layout the spec does not give: the early map, the tenancy plan, the frame-store plan, the register slices by master
group and target, and the zone plans. It is read from the plain bytes of those sections. -/
structure Plans where
  earlyMap : EarlyMap
  tenancyPlan : TenancyPlan
  storePlan : StorePlan
  slices : List (Nat × Nat × Nat)
  zones : List ZonePlan
  deriving DecidableEq, Repr

/-- A fid image (R590): kind, index, version, entry point and the words of code and data. -/
structure FidImage where
  kind : Nat
  index : Nat
  version : Nat
  entry : Nat
  code : List Word
  data : List Word
  deriving DecidableEq, Repr

/-- An entry of the section table (R46). -/
structure Section where
  typ : Nat
  zone : Nat
  sflags : Nat
  offset : Nat
  length : Nat
  plainLength : Nat
  digest : List Nat
  deriving DecidableEq, Repr

/-- What a rig slot holds: its bytes by sectors of 4 KiB, where not erased, and what its plan sections say. -/
structure RigImage where
  sectors : List (Nat × List Byte)
  plans : Plans
  deriving DecidableEq, Repr

/-- An AUX request to a SINK port in DisplayPort mode (R121). -/
inductive AuxRequest where
  | dpcdRead (addr len : Nat)
  | dpcdWrite (addr : Nat) (data : List Byte)
  | edidRead (segment offset len : Nat)
  deriving DecidableEq, Repr

/-- A DDC access to an HDMI SINK port (R121). -/
inductive DdcRequest where
  | edidRead (segment offset len : Nat)
  | scdcRead (offset : Nat)
  | scdcWrite (offset : Nat) (value : Byte)
  deriving DecidableEq, Repr

/-- The audio a decoder finds on its wire (R508, R509): none; LPCM with its channels, rate in kHz, and whether it is synchronous with the video; or high-bit-rate, one-bit, 3D or
multi-stream audio. -/
inductive WireAudio where
  | none
  | lpcm (channels rate : Nat) (synchronous : Bool)
  | other
  deriving DecidableEq, Repr

/-- What a decoder locks to (R152 to R154, R508): the timing it detects or, of a display sink, the main stream attributes; the InfoFrames and SDPs by type; and the audio on the wire. -/
structure LockObs where
  fmt : Format
  info : List (Nat × List Byte)
  audio : WireAudio
  deriving DecidableEq, Repr

/-- What a strand's clock recovery locks to (R89, R97): the strand, and the TMDS bit rate of the clock it receives in kbit/s. -/
structure ClockObs where
  strand : Nat
  kbps : Nat
  deriving DecidableEq, Repr

/-- A subframe with a parity error (R528): its AES3 input, whether it is subframe B, and its position in the channel status block. -/
structure ParityObs where
  ai : Nat
  sub : Bool
  position : Nat
  deriving DecidableEq, Repr

/-- What a RIG_WRITE_SLOT has to write (R66): the bytes of host memory, none where the read fails; and what the plan sections of the slot say once it is carried out, none as before. -/
structure SlotData where
  bytes : Option (List Byte)
  plans : Option Plans
  deriving DecidableEq, Repr

/-- What the receiver of an interface finds for one frame: whether it overflowed the receive buffer, corrected and uncorrectable codewords on it, and its bytes from the destination
address on, without the FCS. -/
structure RxFrame where
  overflow : Bool
  corrected : Nat
  uncorrectable : Nat
  frame : List Byte
  deriving DecidableEq, Repr

/-- A packet of a receive flow (R159, R164, R168, R169, R174): path 0 is A and 1 is B; its VLAN (0 untagged), addresses and UDP port; `unsupported` for IPv6, fragments and options;
its RTP header; and its RTP payload. -/
structure FlowPacket where
  path : Nat
  vlan : Nat
  src : Nat
  dst : Nat
  udpPort : Nat
  unsupported : Bool
  marker : Bool
  pt : Nat
  seq : Nat
  rtp : Nat
  ssrc : Nat
  payload : List Byte
  deriving DecidableEq, Repr

/-- A pixel or a pixel's worth of samples in component order: Y, Cb, Cr or R, G, B. In 4:2:2 lines the chroma of odd pixels is not used. -/
abbrev Px := Nat × Nat × Nat

/-- Who reaches a splice point (R218): a destination, a compositor's output, or a timing generator. -/
inductive PointOf where
  | dest (d : Nat)
  | cp (n : Nat)
  | gen (tg : Nat)
  deriving DecidableEq, Repr

/-- What a splice point observes: the line at which it comes, in the output's own numbering (R218, R219), the offset of the source (R211), the lead in 1/16 line and whether
the source is timed (R235), and how many frames of a promoted source's switching lines reached the pins, in time to be shown, since the last point (R214, R215). -/
structure SpliceObs where
  line : Nat
  align : Option Int
  timed : Bool
  lead : Int
  arrived : Nat
  deriving DecidableEq, Repr

/-- What a preroll entry observes: the time of the splice point at which its preroll frame ends (R257). -/
structure EntryObs where
  point : Nat
  deriving DecidableEq, Repr

/-- What a decision instant observes: per member in order, whether its source is timed (R235) and its offset (R211); whether a line buffer underran
and whether the run-ahead buffer is filled (R260); the time and the line of the splice point (R218); and for layers by number, whether a LIVE source is timed. -/
structure DecisionObs where
  timed : List Bool
  align : List (Option Int)
  underrun : Bool
  runAhead : Bool
  point : Nat
  line : Nat
  layersTimed : List (Nat × Bool)
  deriving DecidableEq, Repr

/-- What a switch observes: the line of the member's splice point (R218). -/
structure SwitchObs where
  line : Nat
  deriving DecidableEq, Repr

/-- A line of a source: its line number and its pixels, each with its alpha. -/
structure SrcLine where
  n : Nat
  px : List (Px × Nat)
  deriving DecidableEq, Repr

/-- Lines of a source. -/
abbrev SrcLines := List SrcLine

/-- An ancillary packet (R184): its DID and SDID, its data words with their parity bits, the line it came on, its horizontal offset, and whether it lies in the colour-difference
stream. Offset 0xFFE stands for the horizontal space, 0xFFD for the active part of a line. -/
structure AncPacket where
  did : Nat
  sdid : Nat
  words : List Nat
  line : Nat
  offset : Nat
  colour : Bool
  deriving DecidableEq, Repr

/-- What a timing generator's line start brings about, as the part observes it (R400, R405 to R413): an alignment point, with the
time since that of the essence that a generator under SOURCE is locked to reached its port; the least reader slack; a committed source that leaves the lead window of a destination;
a line an encoder sends; the start of a sheet bend's output frame, with the start time of the input frame being written where that will be there in time (R300); a line of a sheet bend with
the current, previous and next field and the frame it blends with, of a gang fed by quadrants with the four quadrants as one picture; a line of a compositor, with
the lines of its LIVE layers by layer and the layers whose data is not there in time; a line of a player; a read of the frame store corrected or not, at a store address;
a write CRC retry; a poisoned read of a sheet bend or of a hold buffer; and the ancillary packets that come with a frame, by the ingress port at which they entered the essence matrix. The slack of a
reader or of a writer is in ns, by the object that reads or writes (R412, R457). -/
inductive LineObs where
  | align (since : Nat)
  | slack (reader : Nat) (ns : Nat)
  | writer (writer : Nat) (ns : Nat)
  | slip (dest : Nat) (lead : Int)
  | encoder (eo : Nat) (lines : SrcLines)
  | sheetFrame (sb : Nat) (early : Option Nat)
  | sheetLine (sb line : Nat) (cur prev next other : SrcLines)
  | compose (cp line : Nat) (live : List (Nat × SrcLines)) (late : List Nat)
  | storeRead (ch addr : Nat) (uncorrectable : Bool)
  | writeRetry (ch : Nat)
  | player (p line : Nat)
  | sheetPoison (sb : Nat)
  | holdPoison (eo : Nat)
  | ancLine (eo ei : Nat) (packets : List AncPacket)
  deriving DecidableEq, Repr

/-- A writer that completes a frame (R795): a recorder, with whether its input was absent during the frame, the times at which this frame's alignment
point and the next one's reached the EO, and the frame's lines, fields interleaved; a sheet bend in SYNC timing, with the start time of its field or frame, whether it is field 2, and its cadence metrics D and K (R314). -/
inductive FrameWriter where
  | recorder (r : Nat) (absent : Bool) (time next : Nat) (rows : List (List Px))
  | sheet (sb : Nat) (start : Nat) (second : Bool) (d k : Nat)
  deriving DecidableEq, Repr

/-- How the training of a channel went (R432, R434): the gigabytes its modules name in their SPD, or none; whether the SPD could be read and rates them for the speed;
the REASON of R479 that the training itself found, 0 for trained; with the training time and the exit time of R458. -/
structure TrainResult where
  moduleA : Option Nat
  moduleB : Option Nat
  spdRead : Bool
  rated : Bool
  reason : Nat
  ms : Nat
  srExit : Nat
  deriving DecidableEq, Repr

/-- A BAR2 request (R442): a read of a length, or a write. -/
inductive Bar2 where
  | read (off len : Nat)
  | write (off : Nat) (data : List Byte)
  deriving DecidableEq, Repr

/-- A PTP message received by a port (R179, R550): whether it is an event or a general message, and what the port and the timebase
take from it: the domain, the offset measured and whether the rate lies within ±50 ppm, the delay response, a two-step follow-up,
and for Announce whether the best master clock algorithm over all ports now selects this port's master as the parent (R551). -/
inductive PtpMessage where
  | sync (domain : Nat) (offset : Int) (rateOk twoStep : Bool)
  | followUp (domain : Nat) (offset : Int) (rateOk : Bool)
  | delayResp (domain : Nat) (meanPathDelay : Int)
  | announce (domain : Nat) (best : Bool)
  deriving DecidableEq, Repr

/-- A DMA_COPY's parameters (R629, R645). -/
structure DmaRequest where
  dir : Nat
  lineLen : Nat
  src : Nat
  dst : Nat
  lines : Nat
  srcPitch : Nat
  dstPitch : Nat
  deriving DecidableEq, Repr

/-- How a DMA transfer ended (R646): bytes moved, a failed host read, poisoned store data, and the bytes read from the host. -/
structure DmaResult where
  moved : Nat
  hostReadFailed : Bool
  data : List Byte
  deriving DecidableEq, Repr

/-- One fetched command (R628): its 64 bytes, what FS reads from host memory for it (none where that read fails), and what the plan sections of the slot say once it is
carried out, for a RIG_WRITE_SLOT (none as before). -/
structure FetchEntry where
  bytes : List Byte
  block : Option (List Byte)
  plans : Option Plans
  deriving DecidableEq, Repr


/-- What a reference edge or frame observes (R550, R554): its time less the counter's in ns, and whether its rate lies within ±50 ppm. -/
structure RefObs where
  offset : Int
  rateOk : Bool
  deriving DecidableEq, Repr

/-- What a calibration run observes (R568, R569): that its input state held throughout, two measurements in the item's units (for
STRAND_LATENCY receive and transmit; for an ADC gain and offset), and for an ADC the VCAL and ground codes of each in 1/16 LSB. -/
structure CalObs where
  quiet : Bool
  first : Int × Int
  second : Int × Int
  codes1 : Int × Int
  codes2 : Int × Int
  deriving DecidableEq, Repr

/-- What the producer of an audio input supplied in a block (R482, R483): a sample with its V bit at each position, none where it is missing, and a channel status block that was
completed in it. -/
structure AudioObs where
  ami : Nat
  samples : List (Option (Int × Bool))
  status : Option (List Byte)
  deriving DecidableEq, Repr

/-- What reset release observes (R739, R682, R708, R728): the four conditions of release, the die temperature in 0.1 °C, the boot copy whose vendor signature verifies,
whether the TRNG's health tests pass and programmed root bits verify, and the tamper sources in alarm, bit n for code n. -/
structure ReleaseObs where
  resetHigh : Bool
  suppliesOk : Bool
  holdOk : Bool
  refclk : Bool
  tenths : Int
  bootCopy : Option Nat
  rootOk : Bool
  alarms : Nat
  deriving DecidableEq, Repr

/-- The commands, one per row of spec/opcode_table.json, in the table's order but for two without operands at the end: Lean compiles values of a
constructor with operands only up to a number of constructors before it. -/
inductive Instr where
  /-- A register write to a register with no row of its own takes effect by its access type, including W1C clears, RW and RWL writes (R14). -/
  | regWrite (m : Master) (addr size : Nat) (v : DWord)
  /-- An RWS write reaches an engine's shadow context, opening a staged change set or applying within 10 µs when the engine is not running (R254). -/
  | stagedWrite (m : Master) (addr : Nat) (v : Word)
  /-- VDD_AON enters its window and the device enters Reset with always-on state cleared (R738). -/
  | powerOn
  /-- RESET_N is held low for at least 1 µs and the device enters Reset (R738). -/
  | pin
  /-- A watched supply stays below its window for more than 50 µs and the device enters Reset (R738). -/
  | supply
  /-- The die stays above 115 °C for 1 ms and the device enters Reset (R738). -/
  | thermal
  /-- VDD_AON is lost and the device goes Off, with bight pairs closing passively (R741). -/
  | vddAonLost
  /-- Reset is released and Bring-up runs the boot ROM, ring scan, slot choice, load checks and early map (R760). -/
  | resetRelease (obs : ReleaseObs)
  /-- The remaining sections of the slot finish their checks, loading the image or falling back to the other slot or bare service (R63). -/
  | sectionsChecked
  /-- No early map is applied by 30 ms and the PCIe links leave Detect as 1×16 (R612). -/
  | linkDetectTimeout
  /-- A frame-store channel finishes SPD check and training, entering FILLING or FAILED (R434). -/
  | channelTrained (ch : Nat) (r : TrainResult)
  /-- Every channel is trained or failed, and the frame store enters service or stays out of it (R434). -/
  | inService
  /-- The zero fill completes an extent and it becomes ready in ascending order (R436). -/
  | extentReady
  /-- An unacknowledged AVS request is followed every 1 ms by a request for 0.800 V (R777). -/
  | avsRetry (ack : Bool)
  /-- A tamper source alarms, the latch is set, keys are zeroised and Lockdown is entered as the mode dictates (R730). -/
  | tamperAlarm (code : Nat)
  /-- The JTAG DBG_REQ instruction holds a debug request for the next reset (R722). -/
  | dbgReq
  /-- A TAP reset resets the debug port master and its outstanding transactions are discarded (R676). -/
  | tapReset (accepted : Nat)
  /-- A receiver in SEEK or LOS detects a signal and enters CDR (R97). -/
  | signalDetected (s : Nat)
  /-- Clock recovery locks and the receiver enters ADAPT (R97). -/
  | clockLocked (obs : ClockObs)
  /-- Equaliser adaptation converges and the receiver enters SYNC, or UP for RAW (R97). -/
  | adaptConverged (s : Nat) (ctle dfe : Nat)
  /-- ADAPT passes its bound without converging and the receiver returns to CDR (R98). -/
  | adaptFail (s : Nat)
  /-- The receiver reaches protocol alignment and enters UP (R97). -/
  | protoAligned (s : Nat) (skew : Int)
  /-- An SDI or Ethernet receiver spends 2 ms in SYNC without aligning (R796). -/
  | syncFail (s : Nat)
  /-- Loss of signal is detected, the receiver enters LOS and taut egresses go IDLE (R111). -/
  | los (s : Nat)
  /-- Protocol alignment is lost without loss of signal and the receiver returns to SYNC (R97). -/
  | protoLost (s : Nat)
  /-- A braid member's skew exceeds its limit and every member returns to SYNC (R104). -/
  | braidSkew (s : Nat)
  /-- A transmit PLL locks after a rate change and the transmitter may leave DISABLED (R100). -/
  | txPllLocked (s : Nat)
  /-- A bight pair completes OPENING or CLOSING (R136). -/
  | bightChange (k : Nat)
  /-- A write of STR_BIGHT_CTRL.OPEN_REQ requests a bight pair to open or close at its splice point (R132). -/
  | openReq (m : Master) (k : Nat) (v : Word)
  /-- A write of STR_PRBS_CTRL.INJECT inserts one error in the PRBS generator (R133). -/
  | inject (m : Master) (s : Nat) (v : Word)
  /-- A read of STR_PRBS_ERR returns and restarts the error count and copies the bits compared (R116). -/
  | strPrbsErrRead (m : Master) (s : Nat) (errors bits : Nat)
  /-- A write of STR_EYE_CTRL.START begins an eye monitor point (R119). -/
  | start (m : Master) (s : Nat) (v : Word)
  /-- An eye monitor point's dwell ends and its result is latched (R119). -/
  | eyeDone (s : Nat) (errors : Nat)
  /-- A write of STR_DP_SB_CTRL.HPD drives a SINK port's hot-plug level (R121). -/
  | hpd (m : Master) (dp : Nat) (v : Word)
  /-- A write of IRQ_HPD on a SINK port with HPD high produces a low pulse (R121). -/
  | irqHpdPulse (m : Master) (dp : Nat) (v : Word)
  /-- A SINK port answers an AUX transaction as DPCD replier or from the EDID window (R121). -/
  | auxTransaction (dp : Nat) (req : AuxRequest)
  /-- An HDMI SINK port serves a DDC access to EDID or SCDC (R121). -/
  | ddcTransaction (dp : Nat) (req : DdcRequest)
  /-- A SOURCE port sees HPD held high for 2 ms, reads EDID and trains (R123). -/
  | hpdAssert (dp : Nat)
  /-- A SOURCE port sees HPD held low for 2 ms as a disconnect (R123). -/
  | hpdDeassert (dp : Nat)
  /-- A SOURCE port sees a low HPD pulse of 0.25 to 2 ms (R123). -/
  | irqHpd (dp : Nat)
  /-- A write of EDID_RELOAD repeats the SOURCE port's EDID read (R123). -/
  | edidReload (m : Master) (dp : Nat) (v : Word)
  /-- The SOURCE port's EDID read completes into the EDID window (R123). -/
  | edidReady (dp : Nat) (data : List Word)
  /-- Display link training ends successfully (R137). -/
  | trainDone (dp lanes rate : Nat)
  /-- Display link training ends without success (R796). -/
  | trainFail (dp : Nat)
  /-- Command that changes the protocol, rate and braid of named strands (R109). -/
  | strandConfig (o : Origin) (cfg : StrandEntry)
  /-- The strands are retuned, go IDLE and SEEK, CHANGE_BUSY clears and the command completes (R109). -/
  | strandConfigDone (leader : Nat)
  /-- A decoder reports a detected format and WIR_FMT.LOCKED is set (R156). -/
  | formatLocked (s : Nat) (obs : LockObs)
  /-- A locked decoder sees a differing format, its essences become absent and it detects again (R155). -/
  | formatChange (s : Nat)
  /-- An aligned decoder finds a format it does not accept (R156). -/
  | formatUnknown (s : Nat)
  /-- A decoder exceeds 255 ancillary packets in a field and drops the rest (R186). -/
  | ancOverflow (s : Nat) (packets : Nat)
  /-- An Ethernet frame is received and answered, passed to a flow or PTP, or dropped (R157). -/
  | ethFrameRx (s : Nat) (f : RxFrame)
  /-- An EAPOL or LLDP frame is queued to the interface owner's event ring (R158). -/
  | mgmtRx (s : Nat) (etherType : Nat) (frame : List Byte)
  /-- An IGMP query is answered with membership reports for enabled flows (R160). -/
  | igmpQuery (s : Nat)
  /-- A packet of a receive flow is merged, checked and buffered for release (R168). -/
  | flowPacketRx (key : Nat) (p : FlowPacket)
  /-- A frame or audio block is released to its port at its RTP timestamp plus RX_DEPTH (R168). -/
  | flowRelease (cls flow ts : Nat) (fmt : Option Format)
  /-- A receive flow has no packet for RX_DEPTH plus one frame and its essence becomes absent (R169). -/
  | flowLost (key : Nat)
  /-- A 2022-7 path delivers no packet for 2 ms (R177). -/
  | pathLost (key path : Nat)
  /-- A send flow emits a paced packet on its interface or interfaces (R171). -/
  | flowPacketTx (key : Nat)
  /-- A PTP event or general message is timestamped and used by the port and the timebase (R179). -/
  | ptpMessageRx (s : Nat) (msg : PtpMessage)
  /-- An ETH_SEND_FRAME frame leaves the pins and the command completes (R162). -/
  | frameSent (s : Nat)
  /-- Command that binds a source to a destination, at once or as a NEXT splice (R201). -/
  | hitch (o : Origin) (dest source : Nat)
  /-- Command that releases a destination's hitch, at once or as a NEXT splice (R201). -/
  | unhitch (o : Origin) (dest : Nat)
  /-- Command that arms a splice on a destination (R203). -/
  | armSplice (o : Origin) (dest source mode group : Nat) (allowAbsent noPromote unhitch : Bool) (time : Nat)
  /-- Command that triggers an ON_TAKE group or destination (R225). -/
  | take (o : Origin) (group dest : Nat)
  /-- Command that cancels an armed or prerolling splice or group (R226). -/
  | cancelSplice (o : Origin) (group dest : Nat)
  /-- A write of SPL_ARM_CTRL.ARM arms a splice from the shadow values (R204). -/
  | arm (m : Master) (dest : Nat) (v : Word)
  /-- A write of SPL_ARM_CTRL.CANCEL cancels the destination's splice (R242). -/
  | cancel (m : Master) (dest : Nat) (v : Word)
  /-- A write of SPL_TAKE triggers TAKE for a group of the writer (R225). -/
  | splTake (m : Master) (v : Word)
  /-- A write of SPL_CANCEL cancels a group of the writer (R239). -/
  | splCancel (m : Master) (v : Word)
  /-- A timing generator starts a line, pacing readers, encoders and engines and reporting reader slack (R400). -/
  | lineStart (tg line : Nat) (obs : List LineObs)
  /-- A destination reaches its splice point, where pending transitions, returns and measurements take place (R218). -/
  | splicePoint (p : PointOf) (obs : SpliceObs)
  /-- A lock-step extension ends at the in-phase frame start and the generator is LOCKED (R409). -/
  | lockStepEnd (tg : Nat)
  /-- The re-time gap ends and the new timing starts (R416). -/
  | gapEnd (tg : Nat)
  /-- A hold runs out after HOLD_LIMIT frames and the output changes to fill (R232). -/
  | holdLimitExpiry (obj : Nat)
  /-- A change set's preroll frame begins and its entry checks, admission and wakes run (R258). -/
  | prerollEntry (set : Nat) (obs : EntryObs)
  /-- At the decision instant the set's members are checked and the commit is decided or the set rolls back (R262). -/
  | decision (tg : Option Nat) (set : Option Nat) (obs : DecisionObs)
  /-- A member reaches its switch instant and its shadow becomes live (R264). -/
  | switch (set member : Nat) (obs : SwitchObs)
  /-- The shadow context finishes its copy of the live context and held writes apply (R255). -/
  | shadowReload (engine : Nat)
  /-- After Local Fault, an ETH_BLOCK egress returns to the matrix at the new source's first idle block (R208). -/
  | ethBlockReturn (s : Nat)
  /-- A grant deadline passes without a grant and the change set is deferred (R276). -/
  | deferredPower (set : Nat)
  /-- No BATCH_CLOSE arrives within 1,000 ms and the batch is undone (R285). -/
  | batchTimeout (t sq : Nat)
  /-- Command that opens an atomic batch in a group (R278). -/
  | batchOpen (o : Origin) (group : Nat)
  /-- Command that turns the open batch into a group with a TAKE_MODE (R283). -/
  | batchClose (o : Origin) (mode time : Nat)
  /-- A writer completes a frame's writes, including a delay line's final COMPLETE header (R795). -/
  | frameComplete (w : FrameWriter)
  /-- Command that stages values of a sheet bend's registers (R630). -/
  | sbdSet (o : Origin) (n mask : Nat) (block : Option (List Word))
  /-- Command that loads a sheet bend coefficient bank or LUT (R330). -/
  | sbdTableLoad (o : Origin) (n table source : Nat) (words : Option (List Word))
  /-- A write of SBD_TBL_LOAD fills a LUT from a built-in curve (R328). -/
  | sbdTblLoad (m : Master) (n : Nat) (v : Word)
  /-- An access of SBD_TBL_DATA transfers a table word and advances the address (R334). -/
  | sbdTblData (m : Master) (n : Nat) (v : Option Word)
  /-- Command that stages compositor-wide values (R387). -/
  | compSet (o : Origin) (n mask : Nat) (block : Option (List Word))
  /-- Command that stages a layer's register values (R387). -/
  | layerSet (o : Origin) (n mask : Nat) (block : Option (List Word))
  /-- Command that registers a buffer and returns a handle (R370). -/
  | registerBuffer (o : Origin) (offset format width height pitch colour range : Nat)
  /-- Command that frees an unreferenced handle (R372). -/
  | releaseBuffer (o : Origin) (handle : Nat)
  /-- Command that makes a handle the pending buffer of a BUFFER layer (R373). -/
  | flip (o : Origin) (layer handle fence : Nat) (value : DWord) (target : Nat)
  /-- A write of CMP_L_FLIP performs a FLIP without fence or TARGET (R392). -/
  | cmpLFlip (m : Master) (layer : Nat) (v : Word)
  /-- Command that loads a compositor coefficient bank (R387). -/
  | compTableLoad (o : Origin) (n bank : Nat) (words : Option (List Word))
  /-- An access of CMP_TBL_DATA transfers a bank word and advances the address (R389). -/
  | cmpTblData (m : Master) (n : Nat) (v : Option Word)
  /-- Command that stages a timing generator's registers (R414). -/
  | timingSet (o : Origin) (n mask : Nat) (block : Option (List Word))
  /-- Command that sets the timing generator pacing an encoder EO (R428). -/
  | paceSet (o : Origin) (n mask : Nat) (block : Option (List Word))
  /-- Command that stages rectangle CRC registers (R429). -/
  | crcSet (o : Origin) (n mask : Nat) (block : Option (List Word))
  /-- A write of SCN_TABLE_LOAD fills the timing shadow registers from the built-in table (R402). -/
  | scnTableLoad (m : Master) (tg : Nat) (v : Word)
  /-- Command that configures a recorder (R469). -/
  | recorderSet (o : Origin) (n mask : Nat) (block : Option (List Word))
  /-- Command that configures a player (R469). -/
  | playerSet (o : Origin) (n mask : Nat) (block : Option (List Word))
  /-- Command that sets a player's cue to the oldest frame at or after a time (R469). -/
  | playerCue (o : Origin) (n time : Nat)
  /-- Command that moves a channel's lanes onto spares (R472). -/
  | evacuateChannel (o : Origin) (ch : Nat)
  /-- Command that powers a frame-store channel off or on (R474). -/
  | channelPower (o : Origin) (ch : Nat) (on : Bool)
  /-- Command that copies lanes back to their home channel (R475). -/
  | rebalance (o : Origin) (ch : Nat)
  /-- A piece copy finishes and its lane map entry changes (R473). -/
  | pieceCopied
  /-- 100 ms after MEM_PWR_EN falls the channel is OFF (R474). -/
  | powerOffSafe (ch : Nat)
  /-- A channel in service fails with ALERT and its lanes read poisoned (R449). -/
  | failed (ch : Nat)
  /-- The patrol scrub reads a piece using idle bandwidth (R448). -/
  | patrolScrub (reads : List (Nat × Nat × Bool)) (pass : Bool)
  /-- A channel enters self-refresh when slack and idleness allow (R458). -/
  | selfRefreshEntry (ch : Nat)
  /-- Least slack counts down to the exit margin or a host request arrives and the channel exits self-refresh (R458). -/
  | selfRefreshExit (ch : Nat) (host : Bool)
  /-- A BAR2 request reaches the tenancy's partition window, throttled and bounded (R442). -/
  | bar2Access (t : Nat) (q : Bar2)
  /-- A HOUSE block boundary: tracker estimates, audio hitch changes and fades take effect (R485). -/
  | blockBoundary (d : Nat) (obs : List AudioObs)
  /-- A tracker time-stamps a frame sync edge, preamble or decoded sample instant (R489). -/
  | sampleInstant (d time : Nat) (bclkOk : Bool)
  /-- No instant for 4 nominal frame periods and the tracker enters LOST (R492). -/
  | clkLost (d : Nat)
  /-- A write of a SAP direction's ENABLE starts or stops that direction (R519). -/
  | sapEnable (m : Master) (sap : Nat) (tx : Bool) (v : Word)
  /-- A capture tap writes one record for every 48 wire frames (R523). -/
  | tapRecord (sap time : Nat) (frames : List (List Int))
  /-- An AES3 input assembles a channel status block from a Z preamble (R527). -/
  | aes3Block (ai : Nat) (a b : List Byte)
  /-- No Z preamble arrives at frame 192 (R526). -/
  | blockSyncLost (ai : Nat)
  /-- A subframe with a parity error is replaced by the previous sample (R528). -/
  | parityErr (obs : ParityObs)
  /-- Command that binds an AMI to an AMO at a block boundary or switch instant (R495). -/
  | audioHitch (o : Origin) (amo ami group : Nat)
  /-- Command that releases an AMO's hitch (R495). -/
  | audioUnhitch (o : Origin) (amo group : Nat)
  /-- Command that writes AUD_AMO_CFG of a run of AMO ports (R535). -/
  | audioPortSet (o : Origin) (amo count fade agroup : Nat)
  /-- Command that writes a domain's MODE (R535). -/
  | audioDomainSet (o : Origin) (d mode : Nat)
  /-- Command that writes an aligned group's GROUP_SLIP (R535). -/
  | agroupSet (o : Origin) (g slip : Nat)
  /-- Command that writes selected SAP registers (R535). -/
  | sapSet (o : Origin) (n mask : Nat) (block : Option (List Word))
  /-- Command that writes a capture tap's registers (R535). -/
  | audioTapSet (o : Origin) (n : Nat) (ctrl : Word) (base size : Nat)
  /-- Command that configures an AES3 input or output (R535). -/
  | aesSet (o : Origin) (port : Nat) (cfg : Word) (cs : Option (List Byte))
  /-- Command that writes AUD_SRC_CFG of a run of converters (R535). -/
  | srcSet (o : Origin) (first count : Nat) (enable : Bool) (domain : Nat)
  /-- A PPS rising edge measures the 10M_PPS offset and applies an armed time of day (R550). -/
  | ppsEdge (obs : RefObs)
  /-- A REF_SYNC frame is detected and its alignment point measured (R550). -/
  | refSyncFrame (entry rate : Nat) (blackBurst : Bool) (obs : RefObs)
  /-- A reference is lost under its timeout and the next READY reference or HOLDOVER follows (R554). -/
  | refLost (ref : Nat)
  /-- A reference has qualified for QUAL seconds (R554). -/
  | refReady (ref : Nat)
  /-- A higher reference has stayed READY for HOLDOFF and revertive switching selects it (R556). -/
  | holdoffExpiry (ref : Nat)
  /-- A write of TMB_TOD_CTRL.ARM schedules the time of day (R553). -/
  | todArm (m : Master) (v : Word)
  /-- The die temperature is read every 100 ms and holdover rate corrected (R561). -/
  | tempSample (tenths : Int)
  /-- Command that starts a calibration run (R571). -/
  | calRun (o : Origin) (item strand : Nat) (vcalOk : Bool)
  /-- The background schedule starts a calibration run (R570). -/
  | bgCalStart (item index : Nat) (vcalOk : Bool)
  /-- A calibration run ends, writing the delta or ending with a failure status (R569). -/
  | calDone (item index : Nat) (obs : CalObs)
  /-- Command that writes a calibration set (R573). -/
  | calStore (o : Origin)
  /-- A calibration set is written every AUTO_STORE_H hours (R572). -/
  | autoStore
  /-- A copy's commit group becomes intact and the record is the newest (R691). -/
  | recordCommitted (cls bank : Nat) (flips done : List (Nat × Nat))
  /-- A background sector erase completes ahead of a write pointer (R693). -/
  | sectorErased (cls bank : Nat)
  /-- A write of REC_OWNER_CTRL.PROGRAM programs the staged owner key hash (R703). -/
  | program (m : Master) (v : Word)
  /-- A write of REC_OWNER_CTRL.LOCK blows the lock page antifuse (R704). -/
  | lock (m : Master) (v : Word)
  /-- Command that reads a record into host memory (R705). -/
  | recRead (o : Origin) (cls index length seq addr : Nat)
  /-- Command that places a clear or wrapped key in a slot (R716). -/
  | keyWrite (o : Origin) (slot attr wrap : Nat) (data : Option (List Byte))
  /-- Command that zeroises one or every slot (R716). -/
  | keyZero (o : Origin) (slot : Nat)
  /-- Command that derives a key or exports the wrapped rig key (R716). -/
  | keyDerive (o : Origin) (source target attr addr : Nat) (data : Option (List Byte))
  /-- Command that writes a slot as a KEY record (R716). -/
  | keyStore (o : Origin) (slot : Nat)
  /-- Command that returns the state digest and HMAC response (R716). -/
  | attest (o : Origin) (slot addr : Nat) (challenge : List Byte)
  /-- The state digest is recomputed after a change to an item (R725). -/
  | digestRecompute
  /-- Command that clears VALID and programs a rig slot from host memory (R66). -/
  | rigWriteSlot (o : Origin) (slot offset length : Nat) (data : SlotData)
  /-- The last page of a slot write is programmed and the command completes (R68). -/
  | rigWriteSlotDone (slot : Nat)
  /-- Command that runs every load check on a slot (R66). -/
  | rigVerifySlot (o : Origin) (slot : Nat)
  /-- The slot's checks end and VALID is set on success (R66). -/
  | rigVerifySlotDone (slot : Nat)
  /-- Command that sets the active or trial slot (R66). -/
  | rigSelectSlot (o : Origin) (slot : Nat) (trial : Bool)
  /-- Command that makes a trial image active and raises the floor (R61). -/
  | rigConfirm (o : Origin)
  /-- Command that re-rigs zones from a slot; zones enter VERIFYING (R73). -/
  | rigRezone (o : Origin) (slot mask : Nat)
  /-- The verification pass of the zones ends (R73). -/
  | zoneVerified (read : List (Nat × List Byte))
  /-- A zone's staging pass ends and it enters DRAINING (R73). -/
  | zoneStaged (read : List (Nat × List Byte))
  /-- Every output of the draining zone has reached fill and the zone is STOPPED (R75). -/
  | zoneStopped
  /-- The zone's new configuration is written and it returns to RUNNING (R77). -/
  | zoneRunning
  /-- Command that completes with OK (R633). -/
  | nop (o : Origin)
  /-- Command that writes a fence value (R642). -/
  | fenceSignal (o : Origin) (fence : Nat) (value : DWord)
  /-- Command that queues a DMA transfer (R645). -/
  | dmaCopy (o : Origin) (r : DmaRequest)
  /-- A DMA transfer ends and its completion is written (R646). -/
  | dmaDone (engine : Nat) (d : DmaResult)
  /-- Command that changes the operating mode (R743). -/
  | modeRequest (o : Origin) (mode time : Nat)
  /-- All outputs have stopped and sleep entry stores state and enters self-refresh and L1 (R745). -/
  | outputsStopped
  /-- Command that makes another tenancy ADRIFT (R653). -/
  | tenancyAdrift (o : Origin) (target : Nat)
  /-- Command that sets or changes a flow (R167). -/
  | flowSet (o : Origin) (descriptor : Option (List Byte))
  /-- Command that sends an EAPOL or LLDP frame (R162). -/
  | ethSendFrame (o : Origin) (s len : Nat) (frame : Option (List Byte))
  /-- Command that installs a MACsec association (R181). -/
  | macsecSaSet (o : Origin) (s : Nat) (receive : Bool) (channel an key : Nat) (pn : DWord) (ssci : Word) (salt : Nat)
  /-- Command that writes a tenancy's hook area (R605). -/
  | hookLoad (o : Origin) (f len : Nat) (data : Option (List Byte))
  /-- Command that writes FID_HOOK_CTRL and FID_HOOK_MASK (R605). -/
  | hookSet (o : Origin) (f : Nat) (splice : Bool) (period : Nat) (mask : Word)
  /-- Command that replaces a fid's code in place (R592). -/
  | fidUpdate (o : Origin) (f len : Nat) (image : Option (List Byte))
  /-- The fid waits, swaps its code bank and re-enters at ENTRY (R592). -/
  | fidUpdated (f : Nat)
  /-- The swap condition does not occur within 10 ms and the update completes with TIMEOUT (R592). -/
  | fidUpdateTimeout (f : Nat)
  /-- Command that restarts a faulted fid (R593). -/
  | fidRestart (o : Origin) (f : Nat)
  /-- A hook run reaches its 20 µs deadline and is aborted (R598). -/
  | hookTimeout (f : Nat)
  /-- A SPLICE run has not started 40 µs after preroll entry and is skipped (R602). -/
  | hookSkipped (f set t : Nat)
  /-- Fid instruction: register-register arithmetic and logic (R583). -/
  | alu (f : Nat) (hook : Bool)
  /-- Fid instruction: add immediate (R583). -/
  | addi (f : Nat) (hook : Bool)
  /-- Fid instruction: and immediate (R583). -/
  | andi (f : Nat) (hook : Bool)
  /-- Fid instruction: or immediate (R583). -/
  | ori (f : Nat) (hook : Bool)
  /-- Fid instruction: xor immediate (R583). -/
  | xori (f : Nat) (hook : Bool)
  /-- Fid instruction: shift by immediate (R583). -/
  | shi (f : Nat) (hook : Bool)
  /-- Fid instruction: load upper immediate (R583). -/
  | lui (f : Nat) (hook : Bool)
  /-- Fid instruction: set if less than immediate (R583). -/
  | slti (f : Nat) (hook : Bool)
  /-- Fid instruction: load a local word (R583). -/
  | ld (f : Nat) (hook : Bool)
  /-- Fid instruction: store a local word (R583). -/
  | st (f : Nat) (hook : Bool)
  /-- Fid instruction: read a register over the fabric (R583). -/
  | rgr (f : Nat) (hook : Bool)
  /-- Fid instruction: posted register write (R583). -/
  | rgw (f : Nat) (hook : Bool)
  /-- Fid instruction: buffer a shadow write (R586). -/
  | shw (f : Nat) (hook : Bool)
  /-- Fid instruction: apply buffered shadow writes as one unit in a locked sequence (R587). -/
  | cmt (f : Nat) (hook : Bool)
  /-- Fid instruction: read a fabric word (R583). -/
  | xld (f : Nat) (hook : Bool)
  /-- Fid instruction: posted fabric write (R583). -/
  | xst (f : Nat) (hook : Bool)
  /-- Fid instruction: branch if equal (R583). -/
  | beq (f : Nat) (hook : Bool)
  /-- Fid instruction: branch if not equal (R583). -/
  | bne (f : Nat) (hook : Bool)
  /-- Fid instruction: branch if less, signed (R583). -/
  | blt (f : Nat) (hook : Bool)
  /-- Fid instruction: branch if greater or equal, signed (R583). -/
  | bge (f : Nat) (hook : Bool)
  /-- Fid instruction: branch if less, unsigned (R583). -/
  | bltu (f : Nat) (hook : Bool)
  /-- Fid instruction: branch if greater or equal, unsigned (R583). -/
  | bgeu (f : Nat) (hook : Bool)
  /-- Fid instruction: jump and link (R583). -/
  | jal (f : Nat) (hook : Bool)
  /-- Fid instruction: jump register and link (R583). -/
  | jr (f : Nat) (hook : Bool)
  /-- Fid instruction: read the system counter (R583). -/
  | time (f : Nat) (hook : Bool)
  /-- Fid instruction: wait for pending events (R589). -/
  | wait (f : Nat) (hook : Bool)
  /-- Fid instruction: post a FID_NOTE (R588). -/
  | evt (f : Nat) (hook : Bool)
  /-- Fid instruction: read a CSR (R584). -/
  | csrr (f : Nat) (hook : Bool)
  /-- Fid instruction: write a CSR (R584). -/
  | csrw (f : Nat) (hook : Bool)
  /-- Fid instruction: end a hook run, keeping or dropping its writes (R599). -/
  | done (f : Nat) (hook : Bool)
  /-- Fid instruction: trap as BRK (R583). -/
  | brk (f : Nat) (hook : Bool)
  /-- A locked sequence is still open at FAB_LOCK_LIMIT and is released by force (R674). -/
  | lockBreak
  /-- A write of SYS_CTRL.REMAP maps the boot region to the ROM or work SRAM (R665). -/
  | remap (m : Master) (v : Word)
  /-- A write of SYS_CTRL.LOCK locks SYS_CTRL until reset (R666). -/
  | sysCtrlLock (m : Master) (v : Word)
  /-- A doorbell write advances a submission queue's tail (R622). -/
  | sqTail (t q : Nat) (v : Word)
  /-- A doorbell write consumes completion entries (R622). -/
  | cqHead (t c : Nat) (v : Word)
  /-- A doorbell write consumes event ring entries (R622). -/
  | evqHead (t : Nat) (v : Word)
  /-- FS fetches commands from a queue and checks and dispatches them (R623). -/
  | commandFetch (t q : Nat) (entries : List FetchEntry) (failed : Bool)
  /-- A vector's coalescing count or time is reached and a message is sent (R648). -/
  | msixMessage (t ring : Nat)
  /-- A write of TEN_LANYARD moors the tenancy and restarts its period (R650). -/
  | tenLanyard (m : Master) (t : Nat) (v : Word)
  /-- A write of TEN_LANYARD_CFG changes the lanyard period or policy (R650). -/
  | tenLanyardCfg (m : Master) (t : Nat) (v : Word)
  /-- PERIOD passes without a lanyard write and the tenancy becomes ADRIFT under its policy (R651). -/
  | lanyardLapse (t : Nat)
  /-- A write of TEN_FENCE_LO holds a low half (R642). -/
  | tenFenceLo (m : Master) (t n : Nat) (v : Word)
  /-- A write of TEN_FENCE_HI applies both fence halves (R642). -/
  | tenFenceHi (m : Master) (t n : Nat) (v : Word)
  /-- A function reset clears a tenancy's queues, table and fences and sets it ADRIFT (R654). -/
  | functionReset (t : Nat) (accepted : Nat) (moved : List (Nat × DmaResult))
  /-- Bus Master Enable is set and the tenancy's waiting requests proceed (R613). -/
  | busMasterEnable (t : Nat)
  /-- A TLP with bad ECRC is discarded and logged (R611). -/
  | ecrcError (link : Nat)
  /-- A PCIe locked read completes with Unsupported Request (R663). -/
  | lockedRead (t : Nat)
  /-- Management command returning identifiers (R656). -/
  | identify (pec : Bool)
  /-- Management command returning health status (R656). -/
  | health (pec : Bool)
  /-- Management command returning and clearing alert bits (R656). -/
  | alertStatus (pec : Bool)
  /-- Management mode request, acting as a wake from sleep (R744). -/
  | mgmtModeRequest (pec : Bool) (mode : Nat)
  /-- Management command reading record bytes (R656). -/
  | mgmtRecRead (pec : Bool) (cls index offset length : Nat)
  /-- Management command delivering a 32-byte challenge (R656). -/
  | attestChallenge (pec : Bool) (challenge : List Byte)
  /-- Management command returning the digest and response (R726). -/
  | attestResponse (pec : Bool)
  /-- A TLP arrives on a link during sleep and wakes the device (R747). -/
  | hostWake (link : Nat)
  /-- Supplies are in window, state is restored and the mode slept from resumes (R748). -/
  | wake (ticks : Nat)
  /-- A domain has been unused for PWR_IDLE_HOLD and is shut down (R754). -/
  | idleHoldExpiry (d : Nat)
  /-- A register read with behaviour of its own: an RC register returns and clears its value, TMB_COUNT_LO latches the upper half, SCN_SLACK_MIN restarts, and foreign or reserved reads return 0 (R14). -/
  | regRead (m : Master) (addr size : Nat)
  /-- A channel's zero fill writes its last piece and the channel leaves FILLING, for IN_SERVICE or, after CHANNEL_POWER ON, for EVACUATED with the command completing (R436). -/
  | channelFilled (ch : Nat)
  /-- A PTP port, as an end-to-end slave, sends a Delay_Req and takes its transmit timestamp at the pins to measure mean path delay (R179). -/
  | delayReq (s : Nat)
  /-- The X128, as AVSBus master, sends a new VDD_CORE target moved by at most 10 mV, no more often than once in 100 µs (R777). -/
  | avsRequest (mv : Nat) (ack : Bool)
  /-- The coarse counter reaches PWR_WAKE_TIME and wakes the device (R747). -/
  | timeWake
  /-- The belay grants a queued wake or shutdown within the step limit (R755). -/
  | belayGrant
  deriving DecidableEq, Repr

end Sys2Proof
end

