-- ==== Sys2Proof/Decode.lean ====
section
/-! DEFINITION. The command a word spells. No row of spec/opcode_table.json gives bits: a command reaches the part as a register access, a queue entry, a pin
or a line event, and the formats of queue entries (R628 to R633) are read by COMMAND_FETCH in Machine/Fetch.lean. -/

namespace Sys2Proof

/-- The command that a word spells by the table's bits: none, since no row gives bits. -/
def decodeTableWord (_nbits _w : Nat) : Option Instr := none

end Sys2Proof
end

