-- ==== Sys2Proof/Config.lean ====
section
/-! DEFINITION. What one part, its board or its owner fixes, and the free values: constants without a body, so no proof can
see what they are and every claim holds whatever they are. -/

namespace Sys2Proof.Config

/-- The ordering code is AXR-X128-E (R2): the temperature limit of PWR_TEMP_LIMIT is 105 °C, else 100 °C (R766). -/
opaque orderingE : Bool

/-- The factory sector's calibration words, by register offset of the FACT window (R576). -/
opaque factoryCal : Nat → Word

/-- The factory sector's VALID flag of a COUNTER_RATE bin (R576). -/
opaque factoryBinValid : Nat → Bool

/-- The factory sector's device serial number (R611, R656). -/
opaque deviceSerial : DWord

/-- A free value: a number nothing constrains, drawn by a counter of the state. -/
opaque freeNat : Nat → Nat

/-- A free value at a position of a draw: many of them drawn by one value of the counter. -/
opaque freeAt : Nat → Nat → Nat

/-- A free word, drawn by a counter of the state. -/
opaque freeWord : Nat → Word

/-- A byte the DPCD of a sink port answers with at an address (R121): the spec takes it from the port's configuration and gives no map. -/
opaque dpcdByte : Nat → Nat → Byte

/-- A byte an SCDC register of a sink port answers with before anything has written it (R121). -/
opaque scdcByte : Nat → Nat → Byte

/-- The wire rate in bit/s that an ST 2110-40 send flow is admitted at, by flow number (R173): the spec gives no figure for it. -/
opaque ancWireRate : Nat → Nat

/-- The MAC address a unicast packet of a send flow goes to, by interface and destination address: the spec says of ARP only that the part answers it (R157). -/
opaque nextHop : Nat → Nat → Nat

/-- The receive channel of an interface that an SCI selects (R180, R181): MACSEC_SA_SET names a channel by number and no SCI. -/
opaque sciChannel : Nat → Nat → Nat

/-- A tap of the 2:1 audio filter, of the first 48 of 95, in units of 2^-30, and what is added before its result is cut to an integer (R511 gives the response and the symmetry). -/
opaque filterTap : Nat → Int
opaque filterRound : Int

/-- The sample a sample-rate converter makes of the 144 input samples around its place, of which the fraction is given in units of 10^-15 of an input sample (R532 gives its response). -/
opaque converterSample : List Int → Nat → Int

/-- Time to live of the packets an interface sends, and the UDP port they come from (R164). -/
opaque ipTtl : Nat
opaque udpSource : Nat

/-- A chroma sample that a 4:2:0 sink interpolates for a line of a pair, even or odd, between its own pair's sample and the nearest other pair's (R144): two taps of no stated weight. -/
opaque chromaTap : Nat → Nat → Nat → Nat

/-- Which way a half goes when a source set to 4:2:0 averages two chroma samples (R144). -/
opaque chromaRoundUp : Bool

/-- N of the audio clock on an FRL link, by rate code (R512): the value HDMI recommends. -/
opaque frlN : Nat → Nat

/-- The line of a raster, by its height, on which the EDH packet goes (R184). -/
opaque edhLine : Nat → Nat

/-- The line of a raster, by its height and scan, on which timecode packets are placed (R184). -/
opaque atcLine : Nat → Nat → Nat

/-- The line of a raster that a generated payload identifier goes on, and a byte of it for a format's registers (R184). -/
opaque payloadLine : Nat → Nat → Nat
opaque payloadByte : Word → Word → Word → Nat → Nat

/-- The 256-bit root of the part's antifuse, by byte (R708, R709): drawn from the TRNG, never visible. -/
opaque root : Nat → Byte

/-- A word of the boot ROM by byte address (R664): the vendor's program. -/
opaque bootRom : Nat → Word

/-- SHA-384 of a boot copy, by copy and byte (R682, R724): the boot stage is the vendor's. -/
opaque bootDigest : Nat → Nat → Byte

end Sys2Proof.Config
end

