-- ==== Sys2Proof/Machine/Table.lean ====
section
/-! DEFINITION. Sparse tables kept as plain sorted lists: strictly rising keys, and (for the canonical form)
no entry equal to the value an unlisted key stands for. Registers, memories and every keyed collection of
the state are such tables, so equal contents are equal data. Also the bit-field helpers of R10. -/

namespace Sys2Proof.Machine

/-- A table: keys with their values, sorted by strictly rising key. -/
abbrev Tab (α : Type) := List (Nat × α)

/-- The value listed at key `k`. -/
def tabGet {α : Type} (k : Nat) : Tab α → Option α
  | [] => none
  | (a, v) :: r => if a = k then some v else tabGet k r

/-- The value at key `k`, or `d` where none is listed. -/
def tabGetD {α : Type} (d : α) (k : Nat) (t : Tab α) : α := (tabGet k t).getD d

/-- List value `v` at key `k`. -/
def tabSet {α : Type} (k : Nat) (v : α) : Tab α → Tab α
  | [] => [(k, v)]
  | (a, w) :: r =>
    if k < a then (k, v) :: (a, w) :: r
    else if k = a then (k, v) :: r
    else (a, w) :: tabSet k v r

/-- Unlist key `k`. -/
def tabDel {α : Type} (k : Nat) : Tab α → Tab α
  | [] => []
  | (a, w) :: r => if a = k then tabDel k r else (a, w) :: tabDel k r

/-- Write `v` at key `k` of a canonical table whose unlisted keys stand for `d`. -/
def tabPut {α : Type} [DecidableEq α] (d : α) (k : Nat) (v : α) (t : Tab α) : Tab α :=
  if v = d then tabDel k t else tabSet k v t

/-- Every key of the table is above `b`, strictly rising. -/
def tabAbove {α : Type} (b : Nat) : Tab α → Bool
  | [] => true
  | (a, _) :: r => decide (b < a) && tabAbove a r

/-- The keys rise strictly. -/
def tabSorted {α : Type} : Tab α → Bool
  | [] => true
  | (a, _) :: r => tabAbove a r

/-- Canonical form: keys rise strictly and no entry equals what an unlisted key stands for. -/
def tabCanon {α : Type} [DecidableEq α] (d : Nat → α) (t : Tab α) : Bool :=
  tabSorted t && t.all (fun e => decide (e.2 ≠ d e.1))

/-- Change every value by a function of its key. -/
def tabMap {α : Type} (f : Nat → α → α) : Tab α → Tab α
  | [] => []
  | (a, v) :: r => (a, f a v) :: tabMap f r

/-- Keep the entries that satisfy `p`. -/
def tabKeep {α : Type} (p : Nat → α → Bool) (t : Tab α) : Tab α := t.filter (fun e => p e.1 e.2)

/-- Field [hi:lo] of a word, as a number (R10). -/
def fld (w : Word) (hi lo : Nat) : Nat := (w.toNat >>> lo) % 2 ^ (hi + 1 - lo)

/-- The word with field [hi:lo] replaced by `v` (taken modulo the field's width). -/
def setFld (w : Word) (hi lo v : Nat) : Word :=
  BitVec.ofNat 32
    (w.toNat % 2 ^ lo + (v % 2 ^ (hi + 1 - lo)) <<< lo + (w.toNat >>> (hi + 1)) <<< (hi + 1))

/-- Bit `b` of a word. -/
def bitOf (w : Word) (b : Nat) : Bool := w.toNat.testBit b

/-- A number as a register word. -/
def wd (n : Nat) : Word := BitVec.ofNat 32 n

/-- The signed value of the low `n` bits of a number, two's complement. -/
def sx (n v : Nat) : Int :=
  if v % 2 ^ n < 2 ^ (n - 1) then (v % 2 ^ n : Nat) else ((v % 2 ^ n : Nat) : Int) - (2 ^ n : Nat)

/-- A signed number as `n` bits, two's complement, wrapping. -/
def ux (n : Nat) (i : Int) : Nat := (i % (2 ^ n : Nat)).toNat

/-- A signed number saturated to `n` bits, then as two's complement. -/
def uxSat (n : Nat) (i : Int) : Nat :=
  if (2 ^ (n - 1) : Nat) ≤ i then 2 ^ (n - 1) - 1
  else if i < -((2 ^ (n - 1) : Nat) : Int) then 2 ^ (n - 1)
  else ux n i

/-- 1 for true and 0 for false. -/
def b2n (b : Bool) : Nat := if b then 1 else 0

/-- Ceiling of a quotient of numbers. -/
def ceilDiv (a b : Nat) : Nat := (a + b - 1) / b

/-- The little-endian word of four bytes. -/
def wordOfBytes : List Byte → Word
  | a :: b :: c :: d :: _ => wd (a.toNat + b.toNat * 0x100 + c.toNat * 0x10000 + d.toNat * 0x1000000)
  | [a, b, c] => wd (a.toNat + b.toNat * 0x100 + c.toNat * 0x10000)
  | [a, b] => wd (a.toNat + b.toNat * 0x100)
  | [a] => wd a.toNat
  | [] => wd 0

/-- The number spelled by bytes, first byte least significant. -/
def leNat : List Byte → Nat
  | [] => 0
  | b :: r => b.toNat + 256 * leNat r

/-- `n` bytes of a number, first byte least significant. -/
def leBytes : Nat → Nat → List Byte
  | 0, _ => []
  | n + 1, v => BitVec.ofNat 8 v :: leBytes n (v / 256)

end Sys2Proof.Machine
end

