-- ==== Sys2Proof/Machine/Crypto.lean ====
section
/-! DEFINITION. The published functions chapter 17 and chapter 2 name: SHA-256 and SHA-384 (FIPS 180-4), HMAC (FIPS 198), the counter-mode KDF of
NIST SP 800-108 as R710 states it, AES (FIPS 197), AES key wrap (RFC 3394) and AES-256-GCM (SP 800-38D). The spec names them by their standards,
whose contents are taken from outside it (PRESUMED). Bytes are numbers below 256. -/

namespace Sys2Proof.Machine

open Sys2Proof

/-- Numbers as bytes, and bytes as numbers. -/
def natBytes (l : List Nat) : List Byte := l.map (fun n => BitVec.ofNat 8 n)
def byteNats (l : List Byte) : List Nat := l.map (fun b => b.toNat)

/-- Number of big-endian bytes. -/
def beNum (l : List Nat) : Nat := l.foldl (fun a b => 256 * a + b) 0

/-- `n` big-endian bytes of a number. -/
def beBytes (n v : Nat) : List Nat := (List.range n).map (fun i => v / 256 ^ (n - 1 - i) % 256)

/-- Cut a list into pieces of `n`, at most `k` of them. -/
def chunksN {α : Type} (n : Nat) : Nat → List α → List (List α)
  | 0, _ => []
  | k + 1, l => l.take n :: chunksN n k (l.drop n)

/-! CRC-32 -/

/-- One bit of the reflected CRC-32 (R422). -/
def crcBit (c : Nat) : Nat := if c % 2 = 1 then (c / 2) ^^^ 0xEDB88320 else c / 2

/-- One byte of the CRC-32. -/
def crcByte (c b : Nat) : Nat :=
  (List.range 8).foldl (fun c _ => crcBit c) (c ^^^ b)

/-! SHA-2 -/

/-- Round constants of SHA-256. -/
def sha256K : List Nat :=
  [0x428A2F98, 0x71374491, 0xB5C0FBCF, 0xE9B5DBA5, 0x3956C25B, 0x59F111F1, 0x923F82A4, 0xAB1C5ED5,
   0xD807AA98, 0x12835B01, 0x243185BE, 0x550C7DC3, 0x72BE5D74, 0x80DEB1FE, 0x9BDC06A7, 0xC19BF174] ++
  [0xE49B69C1, 0xEFBE4786, 0x0FC19DC6, 0x240CA1CC, 0x2DE92C6F, 0x4A7484AA, 0x5CB0A9DC, 0x76F988DA,
   0x983E5152, 0xA831C66D, 0xB00327C8, 0xBF597FC7, 0xC6E00BF3, 0xD5A79147, 0x06CA6351, 0x14292967] ++
  [0x27B70A85, 0x2E1B2138, 0x4D2C6DFC, 0x53380D13, 0x650A7354, 0x766A0ABB, 0x81C2C92E, 0x92722C85,
   0xA2BFE8A1, 0xA81A664B, 0xC24B8B70, 0xC76C51A3, 0xD192E819, 0xD6990624, 0xF40E3585, 0x106AA070] ++
  [0x19A4C116, 0x1E376C08, 0x2748774C, 0x34B0BCB5, 0x391C0CB3, 0x4ED8AA4A, 0x5B9CCA4F, 0x682E6FF3,
   0x748F82EE, 0x78A5636F, 0x84C87814, 0x8CC70208, 0x90BEFFFA, 0xA4506CEB, 0xBEF9A3F7, 0xC67178F2]

/-- Round constants of SHA-384. -/
def sha512K : List Nat :=
  [0x428A2F98D728AE22, 0x7137449123EF65CD, 0xB5C0FBCFEC4D3B2F, 0xE9B5DBA58189DBBC,
   0x3956C25BF348B538, 0x59F111F1B605D019, 0x923F82A4AF194F9B, 0xAB1C5ED5DA6D8118,
   0xD807AA98A3030242, 0x12835B0145706FBE, 0x243185BE4EE4B28C, 0x550C7DC3D5FFB4E2,
   0x72BE5D74F27B896F, 0x80DEB1FE3B1696B1, 0x9BDC06A725C71235, 0xC19BF174CF692694] ++
  [0xE49B69C19EF14AD2, 0xEFBE4786384F25E3, 0x0FC19DC68B8CD5B5, 0x240CA1CC77AC9C65,
   0x2DE92C6F592B0275, 0x4A7484AA6EA6E483, 0x5CB0A9DCBD41FBD4, 0x76F988DA831153B5,
   0x983E5152EE66DFAB, 0xA831C66D2DB43210, 0xB00327C898FB213F, 0xBF597FC7BEEF0EE4,
   0xC6E00BF33DA88FC2, 0xD5A79147930AA725, 0x06CA6351E003826F, 0x142929670A0E6E70] ++
  [0x27B70A8546D22FFC, 0x2E1B21385C26C926, 0x4D2C6DFC5AC42AED, 0x53380D139D95B3DF,
   0x650A73548BAF63DE, 0x766A0ABB3C77B2A8, 0x81C2C92E47EDAEE6, 0x92722C851482353B,
   0xA2BFE8A14CF10364, 0xA81A664BBC423001, 0xC24B8B70D0F89791, 0xC76C51A30654BE30,
   0xD192E819D6EF5218, 0xD69906245565A910, 0xF40E35855771202A, 0x106AA07032BBD1B8] ++
  [0x19A4C116B8D2D0C8, 0x1E376C085141AB53, 0x2748774CDF8EEB99, 0x34B0BCB5E19B48A8,
   0x391C0CB3C5C95A63, 0x4ED8AA4AE3418ACB, 0x5B9CCA4F7763E373, 0x682E6FF3D6B2B8A3,
   0x748F82EE5DEFB2FC, 0x78A5636F43172F60, 0x84C87814A1F0AB72, 0x8CC702081A6439EC,
   0x90BEFFFA23631E28, 0xA4506CEBDE82BDE9, 0xBEF9A3F7B2C67915, 0xC67178F2E372532B] ++
  [0xCA273ECEEA26619C, 0xD186B8C721C0C207, 0xEADA7DD6CDE0EB1E, 0xF57D4F7FEE6ED178,
   0x06F067AA72176FBA, 0x0A637DC5A2C898A6, 0x113F9804BEF90DAE, 0x1B710B35131C471B,
   0x28DB77F523047D84, 0x32CAAB7B40C72493, 0x3C9EBE0A15C9BEBC, 0x431D67C49C100D4C,
   0x4CC5D4BECB3E42B6, 0x597F299CFC657E2A, 0x5FCB6FAB3AD6FAEC, 0x6C44198C4A475817]

/-- Initial value of SHA-256. -/
def sha256H : List Nat :=
  [0x6A09E667, 0xBB67AE85, 0x3C6EF372, 0xA54FF53A, 0x510E527F, 0x9B05688C, 0x1F83D9AB, 0x5BE0CD19]

/-- Initial value of SHA-384. -/
def sha384H : List Nat :=
  [0xCBBB9D5DC1059ED8, 0x629A292A367CD507, 0x9159015A3070DD17, 0x152FECD8F70E5939,
   0x67332667FFC00B31, 0x8EB44A8768581511, 0xDB0C2E0D64F98FA7, 0x47B5481DBEFA4FA4]

/-- What differs between SHA-256 and SHA-384: word size, and the rotation and shift amounts of its four functions. -/
structure ShaShape where
  w : Nat
  s0 : Nat × Nat × Nat
  s1 : Nat × Nat × Nat
  e0 : Nat × Nat × Nat
  e1 : Nat × Nat × Nat
  k : List Nat

def sha256Shape : ShaShape := ⟨32, (7, 18, 3), (17, 19, 10), (2, 13, 22), (6, 11, 25), sha256K⟩
def sha384Shape : ShaShape := ⟨64, (1, 8, 7), (19, 61, 6), (28, 34, 39), (14, 18, 41), sha512K⟩

/-- A word of `w` bits written twice: its rotations to the right are its shifts, modulo the word. -/
def twice (w x : Nat) : Nat := x * (2 ^ w + 1)

/-- A function of the message schedule: two rotations and a shift. -/
def shaSmall (w : Nat) (r : Nat × Nat × Nat) (x : Nat) : Nat :=
  ((twice w x >>> r.1) ^^^ (twice w x >>> r.2.1)) % 2 ^ w ^^^ (x >>> r.2.2)

/-- A function of the rounds: three rotations. -/
def shaBig (w : Nat) (r : Nat × Nat × Nat) (x : Nat) : Nat :=
  (((twice w x >>> r.1) ^^^ (twice w x >>> r.2.1)) ^^^ (twice w x >>> r.2.2)) % 2 ^ w

/-- One round. `ws` holds the sixteen schedule words from this round on. -/
def shaRound (c : ShaShape) (st : List Nat × List Nat) (k : Nat) : List Nat × List Nat :=
  match st with
  | ([a, b, cc, d, e, f, g, h], w :: ws) =>
    let m := 2 ^ c.w
    let ch := (e &&& f) ^^^ ((m - 1 - e) &&& g)
    let maj := ((a &&& b) ^^^ (a &&& cc)) ^^^ (b &&& cc)
    let t1 := h + shaBig c.w c.e1 e + ch + k + w
    let t2 := shaBig c.w c.e0 a + maj
    let next := (shaSmall c.w c.s1 (ws.getD 13 0) + ws.getD 8 0 + shaSmall c.w c.s0 (ws.getD 0 0) + w) % m
    ([(t1 + t2) % m, a, b, cc, (d + t1) % m, e, f, g], ws ++ [next])
  | s => s

/-- One block of sixteen words. -/
def shaBlock (c : ShaShape) (h : List Nat) (block : List Nat) : List Nat :=
  let ws := (chunksN (c.w / 8) 16 block).map beNum
  (h.zip (c.k.foldl (shaRound c) (h, ws)).1).map (fun p => (p.1 + p.2) % 2 ^ c.w)

/-- Padding: a 1 bit, zeros, and the length in bits. -/
def shaPad (c : ShaShape) (m : List Nat) : List Nat :=
  let b := 2 * c.w
  let z := (b - (m.length + 1 + c.w / 4) % b) % b
  m ++ 0x80 :: List.replicate z 0 ++ beBytes (c.w / 4) (8 * m.length)

/-- The hash of a message as words. -/
def shaWords (c : ShaShape) (h0 : List Nat) (m : List Nat) : List Nat :=
  let p := shaPad c m
  (chunksN (2 * c.w) (p.length / (2 * c.w)) p).foldl (shaBlock c) h0

/-- SHA-256. -/
def sha256 (m : List Nat) : List Nat := (shaWords sha256Shape sha256H m).foldr (fun w acc => beBytes 4 w ++ acc) []

/-- SHA-384. -/
def sha384 (m : List Nat) : List Nat := ((shaWords sha384Shape sha384H m).take 6).foldr (fun w acc => beBytes 8 w ++ acc) []

/-- HMAC-SHA-256; keys here are at most one block long. -/
def hmac256 (key m : List Nat) : List Nat :=
  let k := (key ++ List.replicate 64 0).take 64
  sha256 (k.map (fun b => b ^^^ 0x5C) ++ sha256 (k.map (fun b => b ^^^ 0x36) ++ m))

/-- The KDF of R710 for up to 256 bits: block 1. -/
def kdf (kin label context : List Nat) (bits : Nat) : List Nat :=
  (hmac256 kin (beBytes 4 1 ++ label ++ 0 :: context ++ beBytes 4 bits)).take (bits / 8)

/-! AES -/

/-- Multiplication by x in the field of AES. -/
def xtime (a : Nat) : Nat := if 128 ≤ a then (2 * a) % 256 ^^^ 0x1B else 2 * a

/-- Multiplication in the field of AES. -/
def gmul (a b : Nat) : Nat :=
  ((List.range 8).foldl (fun (p : Nat × Nat) i => (if b.testBit i then p.1 ^^^ p.2 else p.1, xtime p.2)) (0, a)).1

/-- The inverse in the field: the 254th power. -/
def ginv (a : Nat) : Nat :=
  let a2 := gmul a a
  let a4 := gmul a2 a2
  let a8 := gmul a4 a4
  let a16 := gmul a8 a8
  let a32 := gmul a16 a16
  let a64 := gmul a32 a32
  gmul (gmul (gmul a64 a64) a64) (gmul (gmul a32 a16) (gmul a8 (gmul a4 a2)))

/-- Rotate a byte left. -/
def rotl8 (k a : Nat) : Nat := (a * 2 ^ k % 256) ||| (a / 2 ^ (8 - k))

/-- The S-box and its inverse. -/
def sbox (a : Nat) : Nat :=
  let b := ginv a
  (((b ^^^ rotl8 1 b) ^^^ (rotl8 2 b ^^^ rotl8 3 b)) ^^^ rotl8 4 b) ^^^ 0x63
def sboxInv (a : Nat) : Nat := ginv (((rotl8 1 a ^^^ rotl8 3 a) ^^^ rotl8 6 a) ^^^ 0x05)

/-- XOR of byte strings. -/
def xorBytes (a b : List Nat) : List Nat := (a.zip b).map (fun p => p.1 ^^^ p.2)

/-- The next word of a key schedule of `nk` key words, from the words so far. -/
def keyWord (nk : Nat) (ws : List (List Nat)) : List Nat :=
  let i := ws.length
  let t := ws.getD (i - 1) []
  let t :=
    if i % nk = 0 then
      let r := (t.drop 1 ++ t.take 1).map sbox
      xorBytes r [(List.range (i / nk - 1)).foldl (fun a _ => xtime a) 1, 0, 0, 0]
    else if 6 < nk ∧ i % nk = 4 then t.map sbox
    else t
  xorBytes (ws.getD (i - nk) []) t

/-- The round keys, 16 bytes each. -/
def roundKeys (key : List Nat) : List (List Nat) :=
  let nk := key.length / 4
  let ws := (List.range (4 * (nk + 7) - nk)).foldl (fun ws _ => ws ++ [keyWord nk ws]) (chunksN 4 nk key)
  chunksN 16 (nk + 7) (ws.foldr (fun w acc => w ++ acc) [])

/-- Byte `r` of column `c` moves by `r` columns. -/
def shiftRows (s : List Nat) : List Nat := (List.range 16).map (fun i => s.getD ((i + 4 * (i % 4)) % 16) 0)
def unshiftRows (s : List Nat) : List Nat := (List.range 16).map (fun i => s.getD ((i + 12 * (i % 4)) % 16) 0)

/-- One column times a circulant matrix. -/
def mixWith (m : List Nat) (s : List Nat) : List Nat :=
  (List.range 16).map (fun i =>
    (List.range 4).foldl (fun a j => a ^^^ gmul (s.getD (i / 4 * 4 + (i + j) % 4) 0) (m.getD j 0)) 0)

/-- AES encryption of a block. -/
def aesEnc (key blk : List Nat) : List Nat :=
  match roundKeys key with
  | [] => blk
  | k0 :: ks =>
    let s := ks.dropLast.foldl (fun s k => xorBytes (mixWith [2, 3, 1, 1] (shiftRows (s.map sbox))) k) (xorBytes blk k0)
    xorBytes (shiftRows (s.map sbox)) (ks.getLastD [])

/-- AES decryption of a block. -/
def aesDec (key blk : List Nat) : List Nat :=
  match (roundKeys key).reverse with
  | [] => blk
  | k0 :: ks =>
    let s := ks.dropLast.foldl (fun s k => mixWith [14, 11, 13, 9] (xorBytes ((unshiftRows s).map sboxInv) k)) (xorBytes blk k0)
    xorBytes ((unshiftRows s).map sboxInv) (ks.getLastD [])

/-- One step of key wrap: `st` is the check word and the registers. -/
def wrapStep (key : List Nat) (n : Nat) (st : List Nat × List (List Nat)) (t : Nat) : List Nat × List (List Nat) :=
  let b := aesEnc key (st.1 ++ st.2.getD (t % n) [])
  (xorBytes (b.take 8) (beBytes 8 (t + 1)), st.2.set (t % n) (b.drop 8))

/-- AES key wrap (RFC 3394). -/
def aesWrap (key data : List Nat) : List Nat :=
  let n := data.length / 8
  let r := (List.range (6 * n)).foldl (wrapStep key n) (List.replicate 8 0xA6, chunksN 8 n data)
  r.1 ++ r.2.foldr (fun w acc => w ++ acc) []

/-- One step of key unwrap. -/
def unwrapStep (key : List Nat) (n : Nat) (st : List Nat × List (List Nat)) (t : Nat) : List Nat × List (List Nat) :=
  let b := aesDec key (xorBytes st.1 (beBytes 8 (t + 1)) ++ st.2.getD (t % n) [])
  (b.take 8, st.2.set (t % n) (b.drop 8))

/-- AES key unwrap; none when its integrity check fails. -/
def aesUnwrap (key data : List Nat) : Option (List Nat) :=
  let n := data.length / 8 - 1
  let r := ((List.range (6 * n)).reverse).foldl (unwrapStep key n) (data.take 8, chunksN 8 n (data.drop 8))
  if r.1 = List.replicate 8 0xA6 then some (r.2.foldr (fun w acc => w ++ acc) []) else none

/-! GCM -/

/-- Multiplication in the field of GHASH, bit 0 leftmost. -/
def ghMul (x y : Nat) : Nat :=
  ((List.range 128).foldl (fun (p : Nat × Nat) i =>
    (if x.testBit (127 - i) then p.1 ^^^ p.2 else p.1,
     if p.2 % 2 = 1 then (p.2 / 2) ^^^ (0xE1 * 2 ^ 120) else p.2 / 2)) (0, y)).1

/-- A byte string padded to whole blocks. -/
def pad16 (l : List Nat) : List Nat := l ++ List.replicate ((16 - l.length % 16) % 16) 0

/-- GHASH of whole blocks. -/
def ghash (h : Nat) (m : List Nat) : Nat := (chunksN 16 (m.length / 16) m).foldl (fun a b => ghMul (a ^^^ beNum b) h) 0

/-- The key stream block of counter `i`. -/
def gcmStream (key iv : List Nat) (i : Nat) : List Nat := aesEnc key (iv ++ beBytes 4 i)

/-- Encrypt or decrypt by the key stream. -/
def gcmCrypt (key iv m : List Nat) : List Nat :=
  xorBytes m ((List.range ((m.length + 15) / 16)).foldr (fun i acc => gcmStream key iv (i + 2) ++ acc) [])

/-- The tag of a ciphertext. -/
def gcmTag (key iv aad c : List Nat) : List Nat :=
  let h := beNum (aesEnc key (List.replicate 16 0))
  xorBytes (beBytes 16 (ghash h (pad16 aad ++ pad16 c ++ beBytes 8 (8 * aad.length) ++ beBytes 8 (8 * c.length)))) (gcmStream key iv 1)

end Sys2Proof.Machine
end

