-- ==== Sys2Proof/Machine/RegMap.lean ====
section
/-! DEFINITION. The register map: every register window of the part, every register of each window with its
access type (R14), its reset value and the bits a write reaches, and one address function per register.
Each window names the file and rule of spec/ whose register table it is. -/

namespace Sys2Proof.Machine

/-- Access types of R14. -/
inductive Access where
  | ro | rw | rws | w1c | wo | rc | rwl
  deriving DecidableEq, Repr

/-- One register of a window: `n` instances, `stride` bytes apart, the first at `off`.
`reset` is the table's reset value (0 where the table names none: see `resetAt`); `mask` holds the bits a write reaches (R18). -/
structure RegRow where
  off : Nat
  n : Nat
  stride : Nat
  acc : Access
  reset : Nat
  mask : Nat
  deriving DecidableEq, Repr

/-- The kinds of register window. -/
inductive RegKind where
  | sys
  | ten
  | tenShared
  | tenPre
  | pwr
  | tmb
  | calStrand
  | calRate
  | calSensor
  | calRefsync
  | str
  | bight
  | braidMap
  | dpSb
  | edid
  | vflow
  | aflow
  | xflow
  | ethIf
  | msc
  | wir
  | splGlobal
  | splStrand
  | splEo
  | splEi
  | splGroup
  | sbd
  | gang
  | cmp
  | layer
  | scn
  | crc
  | pace
  | fst
  | fstCh
  | fstTen
  | fstRec
  | fstPly
  | laneMap
  | aud
  | audDom
  | ami
  | amo
  | sap
  | ai
  | ao
  | src
  | agrp
  | fidSys
  | fidHook
  | recs
  | key
  deriving DecidableEq, Repr

/-- A family of windows: base address, count and stride in two dimensions, and bytes in one window. -/
structure Region where
  kind : RegKind
  base : Nat
  s1 : Nat
  n1 : Nat
  s2 : Nat
  n2 : Nat
  size : Nat
  deriving DecidableEq, Repr

/-- Registers of a `sys` window (18/15/02: R765, R678, R80). -/
def rows_sys : List RegRow :=
  [⟨0x0, 1, 0x4, .ro, 0xB00128, 0x0⟩,
   ⟨0x4, 1, 0x4, .ro, 0x2, 0x0⟩,
   ⟨0x8, 1, 0x4, .ro, 0x0, 0x0⟩,
   ⟨0xC, 1, 0x4, .w1c, 0x0, 0xF⟩,
   ⟨0x10, 1, 0x4, .rwl, 0x0, 0x3⟩,
   ⟨0x14, 1, 0x4, .rw, 0x0, 0xF⟩,
   ⟨0x18, 1, 0x4, .ro, 0x0, 0x0⟩,
   ⟨0x1C, 1, 0x4, .ro, 0x0, 0x0⟩] ++
  [⟨0x200, 1, 0x4, .ro, 0x0, 0x0⟩,
   ⟨0x204, 1, 0x4, .ro, 0x0, 0x0⟩,
   ⟨0x208, 1, 0x4, .ro, 0x0, 0x0⟩,
   ⟨0x20C, 1, 0x4, .ro, 0x0, 0x0⟩,
   ⟨0x210, 1, 0x4, .ro, 0xFFFFFFFF, 0x0⟩,
   ⟨0x214, 1, 0x4, .ro, 0xFFFFFFFF, 0x0⟩,
   ⟨0x218, 1, 0x4, .ro, 0x0, 0x0⟩,
   ⟨0x21C, 1, 0x4, .ro, 0x0, 0x0⟩] ++
  [⟨0x220, 1, 0x4, .ro, 0x0, 0x0⟩,
   ⟨0x224, 1, 0x4, .w1c, 0x0, 0x3F⟩,
   ⟨0x230, 12, 0x4, .ro, 0x0, 0x0⟩,
   ⟨0x300, 1, 0x4, .ro, 0x7E, 0x0⟩,
   ⟨0x304, 1, 0x4, .w1c, 0x0, 0x7⟩,
   ⟨0x308, 1, 0x4, .rw, 0x0, 0x7⟩,
   ⟨0x30C, 1, 0x4, .ro, 0x0, 0x0⟩,
   ⟨0x310, 1, 0x4, .ro, 0x0, 0x0⟩] ++
  [⟨0x314, 1, 0x4, .rc, 0x0, 0x0⟩,
   ⟨0x318, 1, 0x4, .rc, 0x0, 0x0⟩,
   ⟨0x31C, 1, 0x4, .rw, 0x1000, 0x7FFF⟩,
   ⟨0x320, 1, 0x4, .ro, 0x0, 0x0⟩]

/-- Registers of a `ten` window (14: R659). -/
def rows_ten : List RegRow :=
  [⟨0x0, 1, 0x4, .ro, 0x0, 0x0⟩,
   ⟨0x4, 1, 0x4, .ro, 0x0, 0x0⟩,
   ⟨0x8, 1, 0x4, .wo, 0x0, 0xFFFFFFFF⟩,
   ⟨0xC, 1, 0x4, .rw, 0x0, 0x3FFFF⟩,
   ⟨0x10, 1, 0x4, .ro, 0xFFFFFFFF, 0x0⟩,
   ⟨0x14, 1, 0x4, .rc, 0x0, 0x0⟩,
   ⟨0x18, 1, 0x4, .w1c, 0x0, 0x7F⟩,
   ⟨0x1C, 1, 0x4, .rw, 0x7F, 0x7F⟩] ++
  [⟨0x20, 1, 0x4, .rc, 0x0, 0x0⟩,
   ⟨0x24, 1, 0x4, .rc, 0x0, 0x0⟩,
   ⟨0x28, 1, 0x4, .rc, 0x0, 0x0⟩,
   ⟨0x30, 1, 0x4, .rw, 0x0, 0xFFFFFFFF⟩,
   ⟨0x34, 1, 0x4, .rw, 0x0, 0xFFFFFFFF⟩,
   ⟨0x38, 1, 0x4, .rw, 0x0, 0xFFFFFF01⟩,
   ⟨0x3C, 1, 0x4, .rw, 0x0, 0xFFFF⟩,
   ⟨0x400, 64, 0x10, .rw, 0x0, 0xFFFFFFFF⟩] ++
  [⟨0x404, 64, 0x10, .rw, 0x0, 0xFFFFFFFF⟩,
   ⟨0x408, 64, 0x10, .rw, 0x0, 0xFFFF00FF⟩,
   ⟨0x40C, 64, 0x10, .ro, 0x0, 0x0⟩,
   ⟨0x800, 64, 0x10, .rw, 0x0, 0xFFFFFFFF⟩,
   ⟨0x804, 64, 0x10, .rw, 0x0, 0xFFFFFFFF⟩,
   ⟨0x808, 64, 0x10, .rw, 0x0, 0xFFFFFF01⟩,
   ⟨0x80C, 64, 0x10, .rw, 0x0, 0xFFFF⟩,
   ⟨0x1000, 256, 0x8, .rw, 0x0, 0xFFFFFFFF⟩] ++
  [⟨0x1004, 256, 0x8, .rw, 0x0, 0xFFFFFFFF⟩]

/-- Registers of a `tenShared` window (14: R660). -/
def rows_tenShared : List RegRow :=
  [⟨0x0, 1, 0x4, .ro, 0x0, 0x0⟩,
   ⟨0x4, 1, 0x4, .ro, 0x0, 0x0⟩]

/-- Registers of a `tenPre` window (06: R289). -/
def rows_tenPre : List RegRow :=
  [⟨0x0, 1, 0x4, .ro, 0x0, 0x0⟩,
   ⟨0x4, 1, 0x4, .ro, 0x0, 0x0⟩,
   ⟨0x8, 1, 0x4, .rc, 0x0, 0x0⟩,
   ⟨0xC, 1, 0x4, .rc, 0x0, 0x0⟩,
   ⟨0x10, 1, 0x4, .ro, 0x0, 0x0⟩,
   ⟨0x14, 1, 0x4, .ro, 0x0, 0x0⟩,
   ⟨0x18, 1, 0x4, .ro, 0x0, 0x0⟩,
   ⟨0x20, 13, 0x4, .rc, 0x0, 0x0⟩]

/-- Registers of a `pwr` window (18: R766). -/
def rows_pwr : List RegRow :=
  [⟨0x0, 1, 0x4, .ro, 0x3, 0x0⟩,
   ⟨0x4, 1, 0x4, .rw, 0x14, 0x3F⟩,
   ⟨0x8, 1, 0x4, .rw, 0x64, 0xFFFF⟩,
   ⟨0xC, 1, 0x4, .ro, 0x0, 0x0⟩,
   ⟨0x10, 1, 0x4, .rc, 0x0, 0x0⟩,
   ⟨0x14, 1, 0x4, .rc, 0x0, 0x0⟩,
   ⟨0x18, 1, 0x4, .rw, 0x0, 0xFFFFFFFF⟩,
   ⟨0x1C, 1, 0x4, .rw, 0x0, 0xFFFFFFFF⟩] ++
  [⟨0x20, 1, 0x4, .ro, 0x0, 0x0⟩,
   ⟨0x24, 1, 0x4, .w1c, 0x0, 0x3⟩,
   ⟨0x28, 1, 0x4, .rw, 0x0, 0x3⟩,
   ⟨0x2C, 1, 0x4, .ro, 0x0, 0x0⟩,
   ⟨0x30, 1, 0x4, .ro, 0x0, 0x0⟩,
   ⟨0x34, 1, 0x4, .rw, 0x0, 0xFF⟩,
   ⟨0x100, 8, 0x4, .ro, 0x0, 0x0⟩]

/-- Registers of a `tmb` window (12: R575). -/
def rows_tmb : List RegRow :=
  [⟨0x0, 1, 0x4, .ro, 0x1080, 0x0⟩,
   ⟨0x4, 1, 0x4, .rw, 0x3, 0x3⟩,
   ⟨0x8, 1, 0x4, .ro, 0x0, 0x0⟩,
   ⟨0xC, 1, 0x4, .w1c, 0x0, 0xFF⟩,
   ⟨0x10, 1, 0x4, .rw, 0x0, 0xFF⟩,
   ⟨0x14, 1, 0x4, .ro, 0x0, 0x0⟩,
   ⟨0x18, 1, 0x4, .ro, 0x0, 0x0⟩,
   ⟨0x1C, 1, 0x4, .rw, 0x0, 0xFFFFFFFF⟩] ++
  [⟨0x20, 1, 0x4, .rw, 0x0, 0xFFFF⟩,
   ⟨0x24, 1, 0x4, .rw, 0x0, 0x1⟩,
   ⟨0x30, 1, 0x4, .rw, 0x321, 0x777⟩,
   ⟨0x34, 1, 0x4, .ro, 0x0, 0x0⟩,
   ⟨0x38, 1, 0x4, .ro, 0x0, 0x0⟩,
   ⟨0x3C, 1, 0x4, .ro, 0x0, 0x0⟩,
   ⟨0x40, 1, 0x4, .rw, 0x1F4, 0xFFFF⟩,
   ⟨0x44, 1, 0x4, .rw, 0x3E8, 0xFFFFF⟩] ++
  [⟨0x48, 1, 0x4, .rw, 0x20A03E8, 0xFFFFFFFF⟩,
   ⟨0x4C, 1, 0x4, .rw, 0x0, 0xFFFFFFFF⟩,
   ⟨0x50, 1, 0x4, .rw, 0x0, 0xFFFFFFFF⟩,
   ⟨0x54, 1, 0x4, .rw, 0x0, 0xFFFFFFFF⟩,
   ⟨0x58, 1, 0x4, .ro, 0x0, 0x0⟩,
   ⟨0x5C, 1, 0x4, .ro, 0x0, 0x0⟩,
   ⟨0x60, 1, 0x4, .ro, 0x0, 0x0⟩,
   ⟨0x100, 1, 0x4, .rw, 0x1803, 0xFF03⟩] ++
  [⟨0x104, 1, 0x4, .ro, 0x0, 0x0⟩,
   ⟨0x108, 1, 0x4, .w1c, 0x0, 0x3F⟩,
   ⟨0x10C, 1, 0x4, .rw, 0x0, 0x3F⟩,
   ⟨0x110, 1, 0x4, .rw, 0xF4240, 0xFFFFFFFF⟩,
   ⟨0x114, 1, 0x4, .ro, 0x0, 0x0⟩,
   ⟨0x118, 1, 0x4, .rc, 0x0, 0x0⟩,
   ⟨0x11C, 1, 0x4, .rc, 0x0, 0x0⟩]

/-- Registers of a `calStrand` window (12: R576). -/
def rows_calStrand : List RegRow :=
  [⟨0x0, 1, 0x4, .ro, 0x0, 0x0⟩,
   ⟨0x4, 1, 0x4, .rw, 0x0, 0xFFFFFFFF⟩,
   ⟨0x8, 1, 0x4, .ro, 0x0, 0x0⟩,
   ⟨0xC, 1, 0x4, .ro, 0x0, 0x0⟩]

/-- Registers of a `calRate` window (12: R576). -/
def rows_calRate : List RegRow :=
  [⟨0x0, 1, 0x4, .ro, 0x0, 0x0⟩,
   ⟨0x4, 1, 0x4, .rw, 0x0, 0xFFFFFFFF⟩,
   ⟨0x8, 1, 0x4, .ro, 0x0, 0x0⟩,
   ⟨0xC, 1, 0x4, .ro, 0x0, 0x0⟩]

/-- Registers of a `calSensor` window (12: R576). -/
def rows_calSensor : List RegRow :=
  [⟨0x0, 1, 0x4, .ro, 0x0, 0x0⟩,
   ⟨0x4, 1, 0x4, .rw, 0x0, 0xFFFFFFFF⟩,
   ⟨0x8, 1, 0x4, .ro, 0x0, 0x0⟩,
   ⟨0xC, 1, 0x4, .ro, 0x0, 0x0⟩]

/-- Registers of a `calRefsync` window (12: R576). -/
def rows_calRefsync : List RegRow :=
  [⟨0x0, 1, 0x4, .ro, 0x0, 0x0⟩,
   ⟨0x4, 1, 0x4, .rw, 0x0, 0xFFFFFFFF⟩,
   ⟨0x8, 1, 0x4, .ro, 0x0, 0x0⟩,
   ⟨0xC, 1, 0x4, .ro, 0x0, 0x0⟩]

/-- Registers of a `str` window (03: R133). -/
def rows_str : List RegRow :=
  [⟨0x0, 1, 0x4, .ro, 0x0, 0x0⟩,
   ⟨0x4, 1, 0x4, .ro, 0x0, 0x0⟩,
   ⟨0x8, 1, 0x4, .ro, 0x1000, 0x0⟩,
   ⟨0xC, 1, 0x4, .w1c, 0x0, 0x1FF⟩,
   ⟨0x10, 1, 0x4, .rw, 0x0, 0x1FF⟩,
   ⟨0x14, 1, 0x4, .rw, 0x1E00, 0xFF01⟩,
   ⟨0x18, 1, 0x4, .rw, 0x0, 0x1F3⟩,
   ⟨0x1C, 1, 0x4, .ro, 0x0, 0x0⟩] ++
  [⟨0x20, 1, 0x4, .rw, 0x0, 0x3⟩,
   ⟨0x24, 1, 0x4, .rw, 0x3F0000, 0x3F3F3F3F⟩,
   ⟨0x28, 1, 0x4, .ro, 0x0, 0x0⟩,
   ⟨0x2C, 1, 0x4, .ro, 0x0, 0x0⟩,
   ⟨0x30, 1, 0x4, .rw, 0x0, 0x7F⟩,
   ⟨0x34, 1, 0x4, .rc, 0x0, 0x0⟩,
   ⟨0x38, 1, 0x4, .ro, 0x0, 0x0⟩,
   ⟨0x3C, 1, 0x4, .ro, 0x0, 0x0⟩] ++
  [⟨0x40, 1, 0x4, .rc, 0x0, 0x0⟩,
   ⟨0x44, 1, 0x4, .rc, 0x0, 0x0⟩,
   ⟨0x48, 1, 0x4, .rc, 0x0, 0x0⟩,
   ⟨0x4C, 1, 0x4, .rc, 0x0, 0x0⟩,
   ⟨0x50, 1, 0x4, .rw, 0x0, 0x80F37F3F⟩,
   ⟨0x54, 1, 0x4, .ro, 0x0, 0x0⟩,
   ⟨0x58, 1, 0x4, .ro, 0x0, 0x0⟩]

/-- Registers of a `bight` window (03: R137). -/
def rows_bight : List RegRow :=
  [⟨0x0, 1, 0x4, .rw, 0x0, 0x1⟩,
   ⟨0x4, 1, 0x4, .ro, 0x1100, 0x0⟩,
   ⟨0x8, 1, 0x4, .rc, 0x0, 0x0⟩]

/-- Registers of a `braidMap` window (03: R137). -/
def rows_braidMap : List RegRow :=
  [⟨0x0, 1, 0x4, .ro, 0x0, 0x0⟩]

/-- Registers of a `dpSb` window (03: R137). -/
def rows_dpSb : List RegRow :=
  [⟨0x0, 1, 0x4, .rw, 0x0, 0xF⟩,
   ⟨0x4, 1, 0x4, .ro, 0x0, 0x0⟩,
   ⟨0x8, 1, 0x4, .w1c, 0x0, 0x3F⟩]

/-- Registers of a `edid` window (03: R137). -/
def rows_edid : List RegRow :=
  [⟨0x0, 128, 0x4, .rw, 0x0, 0xFFFFFFFF⟩]

/-- Registers of a `vflow` window (04: R190). -/
def rows_vflow : List RegRow :=
  [⟨0x0, 1, 0x4, .ro, 0x0, 0x0⟩,
   ⟨0x4, 1, 0x4, .w1c, 0x0, 0xF⟩,
   ⟨0x8, 1, 0x4, .rc, 0x0, 0x0⟩,
   ⟨0xC, 1, 0x4, .rc, 0x0, 0x0⟩,
   ⟨0x10, 1, 0x4, .rc, 0x0, 0x0⟩,
   ⟨0x14, 1, 0x4, .rc, 0x0, 0x0⟩,
   ⟨0x18, 1, 0x4, .rc, 0x0, 0x0⟩,
   ⟨0x1C, 1, 0x4, .rc, 0x0, 0x0⟩]

/-- Registers of a `aflow` window (04: R190). -/
def rows_aflow : List RegRow :=
  [⟨0x0, 1, 0x4, .ro, 0x0, 0x0⟩,
   ⟨0x4, 1, 0x4, .w1c, 0x0, 0xF⟩,
   ⟨0x8, 1, 0x4, .rc, 0x0, 0x0⟩,
   ⟨0xC, 1, 0x4, .rc, 0x0, 0x0⟩,
   ⟨0x10, 1, 0x4, .rc, 0x0, 0x0⟩,
   ⟨0x14, 1, 0x4, .rc, 0x0, 0x0⟩,
   ⟨0x18, 1, 0x4, .rc, 0x0, 0x0⟩,
   ⟨0x1C, 1, 0x4, .rc, 0x0, 0x0⟩]

/-- Registers of a `xflow` window (04: R190). -/
def rows_xflow : List RegRow :=
  [⟨0x0, 1, 0x4, .ro, 0x0, 0x0⟩,
   ⟨0x4, 1, 0x4, .w1c, 0x0, 0xF⟩,
   ⟨0x8, 1, 0x4, .rc, 0x0, 0x0⟩,
   ⟨0xC, 1, 0x4, .rc, 0x0, 0x0⟩,
   ⟨0x10, 1, 0x4, .rc, 0x0, 0x0⟩,
   ⟨0x14, 1, 0x4, .rc, 0x0, 0x0⟩,
   ⟨0x18, 1, 0x4, .rc, 0x0, 0x0⟩,
   ⟨0x1C, 1, 0x4, .rc, 0x0, 0x0⟩]

/-- Registers of a `ethIf` window (04: R191). -/
def rows_ethIf : List RegRow :=
  [⟨0x0, 1, 0x4, .rw, 0x0, 0xFFFFFFFF⟩,
   ⟨0x4, 1, 0x4, .rw, 0x0, 0xFFFF⟩,
   ⟨0x8, 1, 0x4, .rw, 0x0, 0xFFFFFFFF⟩,
   ⟨0xC, 1, 0x4, .rw, 0x7F00, 0x3FF01⟩,
   ⟨0x10, 1, 0x4, .ro, 0x0, 0x0⟩,
   ⟨0x14, 1, 0x4, .rc, 0x0, 0x0⟩,
   ⟨0x18, 1, 0x4, .rc, 0x0, 0x0⟩]

/-- Registers of a `msc` window (04: R191). -/
def rows_msc : List RegRow :=
  [⟨0x0, 1, 0x4, .rw, 0x70, 0x37F⟩,
   ⟨0x4, 1, 0x4, .rw, 0x0, 0xFFFFFFFF⟩,
   ⟨0x8, 1, 0x4, .rw, 0xC0000000, 0xFFFFFFFF⟩,
   ⟨0xC, 1, 0x4, .w1c, 0x0, 0x1⟩,
   ⟨0x10, 1, 0x4, .rc, 0x0, 0x0⟩,
   ⟨0x14, 1, 0x4, .rc, 0x0, 0x0⟩]

/-- Registers of a `wir` window (04: R188). -/
def rows_wir : List RegRow :=
  [⟨0x0, 1, 0x4, .ro, 0x0, 0x0⟩,
   ⟨0x4, 1, 0x4, .ro, 0x0, 0x0⟩,
   ⟨0x8, 1, 0x4, .ro, 0x0, 0x0⟩,
   ⟨0xC, 1, 0x4, .w1c, 0x0, 0xF⟩,
   ⟨0x10, 1, 0x4, .rw, 0x0, 0xF⟩,
   ⟨0x14, 1, 0x4, .rw, 0x1, 0x1⟩,
   ⟨0x18, 1, 0x4, .rc, 0x0, 0x0⟩,
   ⟨0x1C, 1, 0x4, .rc, 0x0, 0x0⟩] ++
  [⟨0x40, 16, 0x4, .rw, 0x0, 0x3FFFF⟩]

/-- Registers of a `splGlobal` window (05: R239). -/
def rows_splGlobal : List RegRow :=
  [⟨0x0, 1, 0x4, .ro, 0x800400, 0x0⟩,
   ⟨0x4, 1, 0x4, .ro, 0x0, 0x0⟩,
   ⟨0x8, 1, 0x4, .ro, 0x0, 0x0⟩,
   ⟨0xC, 1, 0x4, .ro, 0x0, 0x0⟩,
   ⟨0x10, 1, 0x4, .wo, 0x0, 0x3F⟩,
   ⟨0x14, 1, 0x4, .wo, 0x0, 0x3F⟩]

/-- Registers of a `splStrand` window (05: R240). -/
def rows_splStrand : List RegRow :=
  [⟨0x0, 1, 0x4, .ro, 0x0, 0x0⟩,
   ⟨0x4, 1, 0x4, .rws, 0x0, 0x7FF⟩,
   ⟨0x8, 1, 0x4, .rws, 0x0, 0x1FFF⟩,
   ⟨0xC, 1, 0x4, .rws, 0x0, 0xFFFFFFFF⟩,
   ⟨0x10, 1, 0x4, .rws, 0x0, 0xFFFFFFFF⟩,
   ⟨0x14, 1, 0x4, .ro, 0x0, 0x0⟩,
   ⟨0x18, 1, 0x4, .w1c, 0x0, 0xFF⟩,
   ⟨0x1C, 1, 0x4, .rw, 0x0, 0xFF⟩] ++
  [⟨0x20, 1, 0x4, .rw, 0x1E00, 0xFF01⟩,
   ⟨0x24, 1, 0x4, .rw, 0x20080040, 0x3FFFFFFF⟩,
   ⟨0x28, 1, 0x4, .rc, 0x0, 0x0⟩,
   ⟨0x2C, 1, 0x4, .rc, 0x0, 0x0⟩,
   ⟨0x30, 1, 0x4, .rc, 0x0, 0x0⟩,
   ⟨0x34, 1, 0x4, .rc, 0x0, 0x0⟩,
   ⟨0x38, 1, 0x4, .rc, 0x0, 0x0⟩,
   ⟨0x3C, 1, 0x4, .ro, 0x0, 0x0⟩]

/-- Registers of a `splEo` window (05: R240). -/
def rows_splEo : List RegRow :=
  [⟨0x0, 1, 0x4, .ro, 0x0, 0x0⟩,
   ⟨0x4, 1, 0x4, .rws, 0x0, 0x7FF⟩,
   ⟨0x8, 1, 0x4, .rws, 0x0, 0x1FFF⟩,
   ⟨0xC, 1, 0x4, .rws, 0x0, 0xFFFFFFFF⟩,
   ⟨0x10, 1, 0x4, .rws, 0x0, 0xFFFFFFFF⟩,
   ⟨0x14, 1, 0x4, .ro, 0x0, 0x0⟩,
   ⟨0x18, 1, 0x4, .w1c, 0x0, 0xFF⟩,
   ⟨0x1C, 1, 0x4, .rw, 0x0, 0xFF⟩] ++
  [⟨0x20, 1, 0x4, .rw, 0x1E00, 0xFF01⟩,
   ⟨0x24, 1, 0x4, .rw, 0x20080040, 0x3FFFFFFF⟩,
   ⟨0x28, 1, 0x4, .rc, 0x0, 0x0⟩,
   ⟨0x2C, 1, 0x4, .rc, 0x0, 0x0⟩,
   ⟨0x30, 1, 0x4, .rc, 0x0, 0x0⟩,
   ⟨0x34, 1, 0x4, .rc, 0x0, 0x0⟩,
   ⟨0x38, 1, 0x4, .rc, 0x0, 0x0⟩,
   ⟨0x3C, 1, 0x4, .ro, 0x0, 0x0⟩]

/-- Registers of a `splEi` window (05: R246). -/
def rows_splEi : List RegRow :=
  [⟨0x0, 1, 0x4, .ro, 0x0, 0x0⟩]

/-- Registers of a `splGroup` window (05: R246). -/
def rows_splGroup : List RegRow :=
  [⟨0x4, 63, 0x4, .ro, 0x0, 0x0⟩]

/-- Registers of a `sbd` window (07: R334). -/
def rows_sbd : List RegRow :=
  [⟨0x0, 1, 0x4, .ro, 0x0, 0x0⟩,
   ⟨0x4, 1, 0x4, .ro, 0x0, 0x0⟩,
   ⟨0x8, 1, 0x4, .rws, 0x1E000000, 0xFF01FFFF⟩,
   ⟨0xC, 1, 0x4, .rws, 0x0, 0xFF⟩,
   ⟨0x10, 1, 0x4, .rws, 0x4380780, 0x1FFF1FFF⟩,
   ⟨0x14, 1, 0x4, .rws, 0x4, 0x3FF⟩,
   ⟨0x18, 1, 0x4, .rws, 0x0, 0x1FFF1FFF⟩,
   ⟨0x1C, 1, 0x4, .rws, 0x0, 0x1FFF1FFF⟩] ++
  [⟨0x20, 1, 0x4, .rws, 0x100000, 0xFFFFFF⟩,
   ⟨0x24, 1, 0x4, .rws, 0x100000, 0xFFFFFF⟩,
   ⟨0x28, 1, 0x4, .rws, 0x0, 0x1FFFFFF⟩,
   ⟨0x2C, 1, 0x4, .rws, 0x0, 0x1FFFFFF⟩,
   ⟨0x30, 1, 0x4, .rws, 0x0, 0xF⟩,
   ⟨0x34, 1, 0x4, .rws, 0x404020, 0xFFFFFFF⟩,
   ⟨0x38, 1, 0x4, .rws, 0x20080040, 0x3FFFFFFF⟩,
   ⟨0x40, 9, 0x4, .rws, 0x0, 0xFFFFFF⟩] ++
  [⟨0x64, 3, 0x4, .rws, 0x0, 0x3FFFFF⟩,
   ⟨0x80, 1, 0x4, .ro, 0xFFFF0000, 0x0⟩,
   ⟨0x84, 1, 0x4, .ro, 0x0, 0x0⟩,
   ⟨0x88, 1, 0x4, .w1c, 0x0, 0xFF⟩,
   ⟨0x8C, 1, 0x4, .rw, 0x0, 0xFF⟩,
   ⟨0x90, 1, 0x4, .rc, 0x0, 0x0⟩,
   ⟨0x94, 1, 0x4, .rc, 0x0, 0x0⟩,
   ⟨0x98, 1, 0x4, .ro, 0x0, 0x0⟩] ++
  [⟨0x9C, 1, 0x4, .ro, 0x0, 0x0⟩,
   ⟨0xA0, 1, 0x4, .ro, 0x0, 0x0⟩,
   ⟨0xA4, 1, 0x4, .ro, 0x0, 0x0⟩,
   ⟨0xC0, 1, 0x4, .rw, 0x0, 0x70FFF⟩,
   ⟨0xC4, 1, 0x4, .rw, 0x0, 0xFFFFFFFF⟩,
   ⟨0xC8, 1, 0x4, .wo, 0x0, 0xF7⟩,
   ⟨0xCC, 1, 0x4, .rc, 0x0, 0x0⟩]

/-- Registers of a `gang` window (07: R335). -/
def rows_gang : List RegRow :=
  [⟨0x0, 1, 0x4, .ro, 0x0, 0x0⟩]

/-- Registers of a `cmp` window (08: R389). -/
def rows_cmp : List RegRow :=
  [⟨0x0, 1, 0x4, .ro, 0x0, 0x0⟩,
   ⟨0x4, 1, 0x4, .ro, 0x0, 0x0⟩,
   ⟨0x8, 1, 0x4, .rws, 0x88, 0xFFF⟩,
   ⟨0xC, 1, 0x4, .rws, 0x0, 0xFF⟩,
   ⟨0x10, 1, 0x4, .rws, 0x14, 0xFF⟩,
   ⟨0x14, 1, 0x4, .rws, 0x20080040, 0x3FFFFFFF⟩,
   ⟨0x18, 1, 0x4, .ro, 0xFFFF0000, 0x0⟩,
   ⟨0x1C, 1, 0x4, .ro, 0x0, 0x0⟩] ++
  [⟨0x20, 1, 0x4, .w1c, 0x0, 0x7⟩,
   ⟨0x24, 1, 0x4, .rw, 0x0, 0x7⟩,
   ⟨0x28, 1, 0x4, .ro, 0x0, 0x0⟩,
   ⟨0x2C, 1, 0x4, .ro, 0x0, 0x0⟩,
   ⟨0x30, 1, 0x4, .rc, 0x0, 0x0⟩,
   ⟨0x34, 1, 0x4, .rc, 0x0, 0x0⟩,
   ⟨0x38, 1, 0x4, .rc, 0x0, 0x0⟩,
   ⟨0x40, 1, 0x4, .rw, 0x0, 0x301FF⟩] ++
  [⟨0x44, 1, 0x4, .rw, 0x0, 0xFFFFFFFF⟩,
   ⟨0x48, 1, 0x4, .rc, 0x0, 0x0⟩]

/-- Registers of a `layer` window (08: R392). -/
def rows_layer : List RegRow :=
  [⟨0x0, 1, 0x4, .rws, 0x1E0000, 0xFF7FFF⟩,
   ⟨0x4, 1, 0x4, .rws, 0x3FF, 0x3FF⟩,
   ⟨0x8, 1, 0x4, .rws, 0x0, 0x3FFF3FFF⟩,
   ⟨0xC, 1, 0x4, .rws, 0x0, 0x1FFF1FFF⟩,
   ⟨0x10, 1, 0x4, .rws, 0x0, 0x1FFF1FFF⟩,
   ⟨0x14, 1, 0x4, .rws, 0x0, 0x1FFF1FFF⟩,
   ⟨0x18, 1, 0x4, .rws, 0x20080040, 0x3FFFFFFF⟩,
   ⟨0x1C, 1, 0x4, .rws, 0x0, 0xFFF⟩] ++
  [⟨0x20, 1, 0x4, .rws, 0x0, 0xFFFFFF⟩,
   ⟨0x24, 1, 0x4, .rws, 0x100000, 0xFFFFFF⟩,
   ⟨0x28, 1, 0x4, .rws, 0x100000, 0xFFFFFF⟩,
   ⟨0x2C, 1, 0x4, .rws, 0x0, 0x1FFFFFF⟩,
   ⟨0x30, 1, 0x4, .rws, 0x0, 0x1FFFFFF⟩,
   ⟨0x34, 1, 0x4, .rws, 0x0, 0x1⟩,
   ⟨0x38, 1, 0x4, .wo, 0x0, 0xFFF⟩,
   ⟨0x40, 1, 0x4, .ro, 0x0, 0x0⟩] ++
  [⟨0x44, 1, 0x4, .w1c, 0x0, 0x1FF⟩,
   ⟨0x48, 1, 0x4, .rw, 0x0, 0x1FF⟩,
   ⟨0x4C, 1, 0x4, .rc, 0x0, 0x0⟩,
   ⟨0x50, 1, 0x4, .rc, 0x0, 0x0⟩,
   ⟨0x54, 1, 0x4, .rc, 0x0, 0x0⟩,
   ⟨0x58, 1, 0x4, .rc, 0x0, 0x0⟩,
   ⟨0x5C, 1, 0x4, .ro, 0x0, 0x0⟩,
   ⟨0x60, 1, 0x4, .ro, 0x0, 0x0⟩] ++
  [⟨0x64, 1, 0x4, .ro, 0x0, 0x0⟩,
   ⟨0x68, 1, 0x4, .ro, 0x0, 0x0⟩]

/-- Registers of a `scn` window (09: R424). -/
def rows_scn : List RegRow :=
  [⟨0x0, 1, 0x4, .ro, 0x0, 0x0⟩,
   ⟨0x4, 1, 0x4, .rws, 0x0, 0x3FF7⟩,
   ⟨0x8, 1, 0x4, .rws, 0x0, 0x1FFF1FFF⟩,
   ⟨0xC, 1, 0x4, .rws, 0x0, 0x1FFF1FFF⟩,
   ⟨0x10, 1, 0x4, .rws, 0x0, 0x1FFF1FFF⟩,
   ⟨0x14, 1, 0x4, .rws, 0x0, 0x1FFF1FFF⟩,
   ⟨0x18, 1, 0x4, .rws, 0x0, 0xBFFFFFFF⟩,
   ⟨0x1C, 1, 0x4, .rws, 0x0, 0xF⟩] ++
  [⟨0x20, 1, 0x4, .rws, 0x0, 0xFFFFFFFF⟩,
   ⟨0x24, 1, 0x4, .rws, 0x3E8000A, 0xFFFF007F⟩,
   ⟨0x28, 1, 0x4, .wo, 0x0, 0x71F⟩,
   ⟨0x2C, 1, 0x4, .ro, 0xFFFF0000, 0x0⟩,
   ⟨0x30, 1, 0x4, .ro, 0x0, 0x0⟩,
   ⟨0x34, 1, 0x4, .ro, 0x0, 0x0⟩,
   ⟨0x38, 1, 0x4, .ro, 0x0, 0x0⟩,
   ⟨0x3C, 1, 0x4, .ro, 0x0, 0x0⟩] ++
  [⟨0x40, 1, 0x4, .ro, 0x0, 0x0⟩,
   ⟨0x44, 1, 0x4, .w1c, 0x0, 0xF⟩,
   ⟨0x48, 1, 0x4, .rw, 0x0, 0xF⟩,
   ⟨0x4C, 1, 0x4, .ro, 0xFFFFFFFF, 0x0⟩,
   ⟨0x50, 1, 0x4, .rc, 0xFFFFFFFF, 0x0⟩,
   ⟨0x54, 1, 0x4, .rc, 0x0, 0x0⟩,
   ⟨0x58, 1, 0x4, .ro, 0x0, 0x0⟩]

/-- Registers of a `crc` window (09: R427). -/
def rows_crc : List RegRow :=
  [⟨0x0, 1, 0x4, .rws, 0x0, 0x1FF03FF⟩,
   ⟨0x4, 1, 0x4, .ro, 0x0, 0x0⟩,
   ⟨0x8, 1, 0x4, .w1c, 0x0, 0xFF⟩,
   ⟨0xC, 1, 0x4, .rw, 0x0, 0xFF⟩,
   ⟨0x10, 1, 0x4, .rc, 0x0, 0x0⟩,
   ⟨0x14, 1, 0x4, .rc, 0x0, 0x0⟩,
   ⟨0x20, 8, 0x10, .rws, 0x0, 0xDFFF1FFF⟩,
   ⟨0x24, 8, 0x10, .rws, 0x0, 0x1FFF1FFF⟩] ++
  [⟨0x28, 8, 0x10, .rws, 0x0, 0xFFFFFFFF⟩,
   ⟨0x2C, 8, 0x10, .ro, 0x0, 0x0⟩]

/-- Registers of a `pace` window (09: R428). -/
def rows_pace : List RegRow :=
  [⟨0x0, 1, 0x4, .rws, 0x0, 0x1FF⟩]

/-- Registers of a `fst` window (10: R478). -/
def rows_fst : List RegRow :=
  [⟨0x0, 1, 0x4, .ro, 0xC, 0x0⟩,
   ⟨0x4, 1, 0x4, .ro, 0x0, 0x0⟩,
   ⟨0x8, 1, 0x4, .ro, 0x0, 0x0⟩,
   ⟨0xC, 1, 0x4, .ro, 0x0, 0x0⟩,
   ⟨0x10, 1, 0x4, .rw, 0x0, 0x7F⟩,
   ⟨0x14, 1, 0x4, .ro, 0x0, 0x0⟩,
   ⟨0x18, 1, 0x4, .rw, 0x14, 0x1F⟩,
   ⟨0x1C, 1, 0x4, .rw, 0x7D00001, 0xFFFF0001⟩] ++
  [⟨0x20, 1, 0x4, .rw, 0x10018, 0x1FFFF⟩,
   ⟨0x24, 1, 0x4, .ro, 0x0, 0x0⟩,
   ⟨0x28, 1, 0x4, .ro, 0x0, 0x0⟩,
   ⟨0x2C, 1, 0x4, .w1c, 0x0, 0x1⟩]

/-- Registers of a `fstCh` window (10: R479). -/
def rows_fstCh : List RegRow :=
  [⟨0x0, 1, 0x4, .ro, 0x0, 0x0⟩,
   ⟨0x4, 1, 0x4, .ro, 0x0, 0x0⟩,
   ⟨0x8, 1, 0x4, .ro, 0x0, 0x0⟩,
   ⟨0xC, 1, 0x4, .ro, 0x0, 0x0⟩,
   ⟨0x10, 1, 0x4, .rc, 0x0, 0x0⟩,
   ⟨0x14, 1, 0x4, .rc, 0x0, 0x0⟩,
   ⟨0x18, 1, 0x4, .rc, 0x0, 0x0⟩,
   ⟨0x1C, 1, 0x4, .rw, 0x400, 0xFFFFFFFF⟩] ++
  [⟨0x20, 1, 0x4, .ro, 0x0, 0x0⟩,
   ⟨0x24, 1, 0x4, .ro, 0x0, 0x0⟩,
   ⟨0x28, 1, 0x4, .w1c, 0x0, 0x3F⟩,
   ⟨0x2C, 1, 0x4, .rw, 0x0, 0x3F⟩,
   ⟨0x30, 1, 0x4, .ro, 0x0, 0x0⟩,
   ⟨0x34, 1, 0x4, .rc, 0x0, 0x0⟩]

/-- Registers of a `fstTen` window (10: R480). -/
def rows_fstTen : List RegRow :=
  [⟨0x0, 1, 0x4, .ro, 0x0, 0x0⟩,
   ⟨0x4, 1, 0x4, .ro, 0x0, 0x0⟩,
   ⟨0x8, 1, 0x4, .ro, 0x0, 0x0⟩,
   ⟨0xC, 1, 0x4, .ro, 0x0, 0x0⟩,
   ⟨0x10, 1, 0x4, .ro, 0x0, 0x0⟩,
   ⟨0x14, 1, 0x4, .ro, 0x0, 0x0⟩,
   ⟨0x18, 1, 0x4, .rw, 0x0, 0xFFFF⟩,
   ⟨0x1C, 1, 0x4, .rc, 0x0, 0x0⟩] ++
  [⟨0x20, 1, 0x4, .rc, 0x0, 0x0⟩,
   ⟨0x24, 1, 0x4, .ro, 0x0, 0x0⟩]

/-- Registers of a `fstRec` window (10: R481). -/
def rows_fstRec : List RegRow :=
  [⟨0x0, 1, 0x4, .rws, 0x0, 0x1⟩,
   ⟨0x4, 1, 0x4, .rws, 0x0, 0xFFFFFFFF⟩,
   ⟨0x8, 1, 0x4, .rws, 0x0, 0xFFFFFFFF⟩,
   ⟨0xC, 1, 0x4, .rws, 0x2, 0xFFFFFF⟩,
   ⟨0x10, 1, 0x4, .ro, 0x0, 0x0⟩,
   ⟨0x14, 1, 0x4, .ro, 0x0, 0x0⟩,
   ⟨0x18, 1, 0x4, .ro, 0x0, 0x0⟩,
   ⟨0x1C, 1, 0x4, .ro, 0x0, 0x0⟩] ++
  [⟨0x20, 1, 0x4, .w1c, 0x0, 0xF⟩,
   ⟨0x24, 1, 0x4, .rw, 0x0, 0xF⟩,
   ⟨0x28, 1, 0x4, .rc, 0x0, 0x0⟩,
   ⟨0x2C, 1, 0x4, .ro, 0x0, 0x0⟩,
   ⟨0x30, 1, 0x4, .ro, 0x0, 0x0⟩]

/-- Registers of a `fstPly` window (10: R481). -/
def rows_fstPly : List RegRow :=
  [⟨0x0, 1, 0x4, .rws, 0x0, 0xFF03⟩,
   ⟨0x4, 1, 0x4, .rws, 0x0, 0xFF⟩,
   ⟨0x8, 1, 0x4, .rws, 0x0, 0xFFFFFF⟩,
   ⟨0xC, 1, 0x4, .rws, 0x0, 0xFFFFFFFF⟩,
   ⟨0x10, 1, 0x4, .rws, 0x0, 0xFFFFFFFF⟩,
   ⟨0x14, 1, 0x4, .ro, 0x0, 0x0⟩,
   ⟨0x18, 1, 0x4, .ro, 0x0, 0x0⟩,
   ⟨0x1C, 1, 0x4, .ro, 0x0, 0x0⟩] ++
  [⟨0x20, 1, 0x4, .w1c, 0x0, 0x7⟩,
   ⟨0x24, 1, 0x4, .rw, 0x0, 0x7⟩,
   ⟨0x28, 1, 0x4, .rc, 0x0, 0x0⟩,
   ⟨0x2C, 1, 0x4, .ro, 0x0, 0x0⟩,
   ⟨0x30, 1, 0x4, .ro, 0x0, 0x0⟩]

/-- Registers of a `laneMap` window (10: R477). -/
def rows_laneMap : List RegRow :=
  [⟨0x0, 6, 0x4, .ro, 0x0, 0x0⟩]

/-- Registers of a `aud` window (11: R538). -/
def rows_aud : List RegRow :=
  [⟨0x0, 1, 0x4, .ro, 0x2002000, 0x0⟩,
   ⟨0x4, 1, 0x4, .ro, 0x0, 0x0⟩,
   ⟨0x8, 1, 0x4, .ro, 0x0, 0x0⟩,
   ⟨0x10, 4, 0x4, .ro, 0x0, 0x0⟩,
   ⟨0x20, 4, 0x4, .rw, 0x0, 0xFFFFFFFF⟩]

/-- Registers of a `audDom` window (11: R539). -/
def rows_audDom : List RegRow :=
  [⟨0x0, 1, 0x4, .rw, 0x1, 0x1⟩,
   ⟨0x4, 1, 0x4, .ro, 0x0, 0x0⟩,
   ⟨0x8, 1, 0x4, .ro, 0x0, 0x0⟩,
   ⟨0xC, 1, 0x4, .w1c, 0x0, 0x3F⟩,
   ⟨0x10, 1, 0x4, .rw, 0x0, 0x3F⟩,
   ⟨0x14, 1, 0x4, .rc, 0x0, 0x0⟩,
   ⟨0x18, 1, 0x4, .rc, 0x0, 0x0⟩,
   ⟨0x1C, 1, 0x4, .rc, 0x0, 0x0⟩]

/-- Registers of a `ami` window (11: R540). -/
def rows_ami : List RegRow :=
  [⟨0x0, 1, 0x4, .ro, 0x0, 0x0⟩]

/-- Registers of a `amo` window (11: R540). -/
def rows_amo : List RegRow :=
  [⟨0x0, 1, 0x4, .ro, 0x0, 0x0⟩,
   ⟨0x4, 1, 0x4, .rw, 0x0, 0xFF03⟩,
   ⟨0x8, 1, 0x4, .w1c, 0x0, 0x7⟩,
   ⟨0xC, 1, 0x4, .rc, 0x0, 0x0⟩]

/-- Registers of a `sap` window (11: R541). -/
def rows_sap : List RegRow :=
  [⟨0x0, 1, 0x4, .ro, 0x0, 0x0⟩,
   ⟨0x4, 1, 0x4, .ro, 0x0, 0x0⟩,
   ⟨0x8, 1, 0x4, .ro, 0x0, 0x0⟩,
   ⟨0xC, 1, 0x4, .rw, 0x11470, 0x7FFFF⟩,
   ⟨0x10, 1, 0x4, .rw, 0x11470, 0xFFFFF⟩,
   ⟨0x14, 1, 0x4, .rw, 0x0, 0xFFFFFFFF⟩,
   ⟨0x18, 1, 0x4, .rw, 0x0, 0xFFFFFFFF⟩,
   ⟨0x1C, 1, 0x4, .ro, 0x0, 0x0⟩] ++
  [⟨0x20, 1, 0x4, .w1c, 0x0, 0x7⟩,
   ⟨0x24, 1, 0x4, .rw, 0x0, 0x7⟩,
   ⟨0x28, 1, 0x4, .rc, 0x0, 0x0⟩,
   ⟨0x40, 1, 0x4, .rw, 0x0, 0xF⟩,
   ⟨0x44, 1, 0x4, .rw, 0x0, 0xFFFFFFFF⟩,
   ⟨0x48, 1, 0x4, .rw, 0x0, 0xFFFFFFFF⟩,
   ⟨0x4C, 1, 0x4, .rw, 0x1, 0x1FFF⟩,
   ⟨0x50, 1, 0x4, .ro, 0x0, 0x0⟩] ++
  [⟨0x54, 1, 0x4, .rw, 0x0, 0xFFFFFFFF⟩,
   ⟨0x58, 1, 0x4, .rc, 0x0, 0x0⟩]

/-- Registers of a `ai` window (11: R543). -/
def rows_ai : List RegRow :=
  [⟨0x0, 1, 0x4, .rw, 0x0, 0xF⟩,
   ⟨0x4, 1, 0x4, .ro, 0x0, 0x0⟩,
   ⟨0x8, 1, 0x4, .w1c, 0x0, 0xF⟩,
   ⟨0xC, 1, 0x4, .rw, 0x0, 0xF⟩,
   ⟨0x10, 1, 0x4, .rc, 0x0, 0x0⟩,
   ⟨0x14, 1, 0x4, .rc, 0x0, 0x0⟩,
   ⟨0x18, 1, 0x4, .ro, 0x0, 0x0⟩,
   ⟨0x20, 6, 0x4, .ro, 0x0, 0x0⟩] ++
  [⟨0x40, 6, 0x4, .ro, 0x0, 0x0⟩]

/-- Registers of a `ao` window (11: R543). -/
def rows_ao : List RegRow :=
  [⟨0x0, 1, 0x4, .rw, 0x0, 0xF3⟩,
   ⟨0x4, 1, 0x4, .ro, 0x0, 0x0⟩,
   ⟨0x18, 1, 0x4, .ro, 0x0, 0x0⟩,
   ⟨0x20, 6, 0x4, .rw, 0x0, 0xFFFFFFFF⟩,
   ⟨0x40, 6, 0x4, .rw, 0x0, 0xFFFFFFFF⟩]

/-- Registers of a `src` window (11: R544). -/
def rows_src : List RegRow :=
  [⟨0x0, 1, 0x4, .rw, 0x0, 0xFF01⟩,
   ⟨0x4, 1, 0x4, .ro, 0x0, 0x0⟩,
   ⟨0x8, 1, 0x4, .ro, 0x0, 0x0⟩,
   ⟨0xC, 1, 0x4, .ro, 0x0, 0x0⟩,
   ⟨0x10, 1, 0x4, .w1c, 0x0, 0x3⟩,
   ⟨0x14, 1, 0x4, .rw, 0x0, 0x3⟩]

/-- Registers of a `agrp` window (11: R545). -/
def rows_agrp : List RegRow :=
  [⟨0x0, 1, 0x4, .rw, 0x0, 0x1⟩,
   ⟨0x4, 1, 0x4, .ro, 0x0, 0x0⟩,
   ⟨0x8, 1, 0x4, .w1c, 0x0, 0xF⟩,
   ⟨0xC, 1, 0x4, .rw, 0x0, 0xF⟩,
   ⟨0x10, 1, 0x4, .rc, 0x0, 0x0⟩]

/-- Registers of a `fidSys` window (13: R607). -/
def rows_fidSys : List RegRow :=
  [⟨0x0, 1, 0x4, .ro, 0x0, 0x0⟩,
   ⟨0x4, 1, 0x4, .ro, 0x0, 0x0⟩,
   ⟨0x8, 1, 0x4, .ro, 0x0, 0x0⟩,
   ⟨0xC, 1, 0x4, .ro, 0x0, 0x0⟩,
   ⟨0x10, 1, 0x4, .w1c, 0x0, 0x3⟩,
   ⟨0x14, 1, 0x4, .rw, 0x0, 0x3⟩,
   ⟨0x18, 1, 0x4, .ro, 0x0, 0x0⟩]

/-- Registers of a `fidHook` window (13: R607). -/
def rows_fidHook : List RegRow :=
  [⟨0x0, 1, 0x4, .rw, 0x0, 0x3FF1⟩,
   ⟨0x4, 1, 0x4, .rw, 0x0, 0xFFFFFFFF⟩,
   ⟨0x8, 1, 0x4, .ro, 0x0, 0x0⟩,
   ⟨0xC, 1, 0x4, .w1c, 0x0, 0x7⟩,
   ⟨0x10, 1, 0x4, .rw, 0x0, 0x7⟩,
   ⟨0x14, 1, 0x4, .rc, 0x0, 0x0⟩,
   ⟨0x18, 1, 0x4, .rc, 0x0, 0x0⟩,
   ⟨0x1C, 1, 0x4, .rc, 0x0, 0x0⟩] ++
  [⟨0x20, 1, 0x4, .rc, 0x0, 0x0⟩,
   ⟨0x24, 1, 0x4, .rc, 0x0, 0x0⟩]

/-- Registers of a `recs` window (16: R707). -/
def rows_recs : List RegRow :=
  [⟨0x0, 1, 0x4, .ro, 0x40040, 0x0⟩,
   ⟨0x4, 1, 0x4, .ro, 0x0, 0x0⟩,
   ⟨0x8, 1, 0x4, .w1c, 0x0, 0xF⟩,
   ⟨0xC, 1, 0x4, .rw, 0x0, 0xF⟩,
   ⟨0x10, 1, 0x4, .ro, 0x0, 0x0⟩,
   ⟨0x14, 1, 0x4, .rc, 0x0, 0x0⟩,
   ⟨0x18, 1, 0x4, .rc, 0x0, 0x0⟩,
   ⟨0x1C, 1, 0x4, .rc, 0x0, 0x0⟩] ++
  [⟨0x20, 1, 0x4, .rc, 0x0, 0x0⟩,
   ⟨0x24, 1, 0x4, .rw, 0x0, 0xFF03⟩,
   ⟨0x40, 12, 0x4, .wo, 0x0, 0xFFFFFFFF⟩,
   ⟨0x80, 12, 0x4, .ro, 0x0, 0x0⟩,
   ⟨0x100, 7, 0x10, .ro, 0x0, 0x0⟩,
   ⟨0x104, 7, 0x10, .ro, 0x0, 0x0⟩,
   ⟨0x108, 7, 0x10, .ro, 0x0, 0x0⟩,
   ⟨0x10C, 7, 0x10, .ro, 0x0, 0x0⟩]

/-- Registers of a `key` window (17: R733). -/
def rows_key : List RegRow :=
  [⟨0x0, 1, 0x4, .ro, 0x100, 0x0⟩,
   ⟨0x4, 1, 0x4, .ro, 0x0, 0x0⟩,
   ⟨0x8, 1, 0x4, .w1c, 0x0, 0x7⟩,
   ⟨0xC, 1, 0x4, .rw, 0x0, 0x7⟩,
   ⟨0x10, 1, 0x4, .ro, 0x0, 0x0⟩,
   ⟨0x14, 1, 0x4, .ro, 0x0, 0x0⟩,
   ⟨0x18, 1, 0x4, .rc, 0x0, 0x0⟩,
   ⟨0x1C, 1, 0x4, .ro, 0x0, 0x0⟩] ++
  [⟨0x20, 1, 0x4, .ro, 0x0, 0x0⟩,
   ⟨0x40, 12, 0x4, .ro, 0x0, 0x0⟩,
   ⟨0x1000, 256, 0x4, .ro, 0x0, 0x0⟩]

/-- The registers of a window kind. -/
def rowsOf : RegKind → List RegRow
  | .sys => rows_sys
  | .ten => rows_ten
  | .tenShared => rows_tenShared
  | .tenPre => rows_tenPre
  | .pwr => rows_pwr
  | .tmb => rows_tmb
  | .calStrand => rows_calStrand
  | .calRate => rows_calRate
  | .calSensor => rows_calSensor
  | .calRefsync => rows_calRefsync
  | .str => rows_str
  | .bight => rows_bight
  | .braidMap => rows_braidMap
  | .dpSb => rows_dpSb
  | .edid => rows_edid
  | .vflow => rows_vflow
  | .aflow => rows_aflow
  | .xflow => rows_xflow
  | .ethIf => rows_ethIf
  | .msc => rows_msc
  | .wir => rows_wir
  | .splGlobal => rows_splGlobal
  | .splStrand => rows_splStrand
  | .splEo => rows_splEo
  | .splEi => rows_splEi
  | .splGroup => rows_splGroup
  | .sbd => rows_sbd
  | .gang => rows_gang
  | .cmp => rows_cmp
  | .layer => rows_layer
  | .scn => rows_scn
  | .crc => rows_crc
  | .pace => rows_pace
  | .fst => rows_fst
  | .fstCh => rows_fstCh
  | .fstTen => rows_fstTen
  | .fstRec => rows_fstRec
  | .fstPly => rows_fstPly
  | .laneMap => rows_laneMap
  | .aud => rows_aud
  | .audDom => rows_audDom
  | .ami => rows_ami
  | .amo => rows_amo
  | .sap => rows_sap
  | .ai => rows_ai
  | .ao => rows_ao
  | .src => rows_src
  | .agrp => rows_agrp
  | .fidSys => rows_fidSys
  | .fidHook => rows_fidHook
  | .recs => rows_recs
  | .key => rows_key

/-- Every window family. The layer windows lie inside the compositor windows and are looked up first. -/
def regions : List Region :=
  [⟨.layer, 0x200400, 0x8000, 32, 0x100, 8, 0x100⟩,
   ⟨.sys, 0x0, 0x0, 1, 0x0, 1, 0x324⟩,
   ⟨.ten, 0x10000, 0x2000, 4, 0x0, 1, 0x2000⟩,
   ⟨.tenShared, 0x18000, 0x0, 1, 0x0, 1, 0x8⟩,
   ⟨.tenPre, 0x1C000, 0x80, 4, 0x0, 1, 0x80⟩,
   ⟨.pwr, 0x20000, 0x0, 1, 0x0, 1, 0x120⟩,
   ⟨.tmb, 0x40000, 0x0, 1, 0x0, 1, 0x120⟩,
   ⟨.calStrand, 0x41000, 0x10, 128, 0x0, 1, 0x10⟩,
   ⟨.calRate, 0x42000, 0x10, 16, 0x0, 1, 0x10⟩,
   ⟨.calSensor, 0x43000, 0x0, 1, 0x0, 1, 0x10⟩] ++
  [⟨.calRefsync, 0x43010, 0x0, 1, 0x0, 1, 0x10⟩,
   ⟨.str, 0x80000, 0x800, 128, 0x0, 1, 0x800⟩,
   ⟨.bight, 0xC0000, 0x10, 8, 0x0, 1, 0x10⟩,
   ⟨.braidMap, 0xC1000, 0x4, 16, 0x0, 1, 0x4⟩,
   ⟨.dpSb, 0xC2000, 0x20, 16, 0x0, 1, 0x20⟩,
   ⟨.edid, 0xC4000, 0x200, 16, 0x0, 1, 0x200⟩,
   ⟨.vflow, 0x100000, 0x20, 512, 0x0, 1, 0x20⟩,
   ⟨.aflow, 0x104000, 0x20, 4096, 0x0, 1, 0x20⟩,
   ⟨.xflow, 0x124000, 0x20, 512, 0x0, 1, 0x20⟩,
   ⟨.ethIf, 0x128000, 0x100, 128, 0x0, 1, 0x100⟩] ++
  [⟨.msc, 0x130000, 0x200, 128, 0x0, 1, 0x200⟩,
   ⟨.wir, 0x140000, 0x100, 128, 0x0, 1, 0x100⟩,
   ⟨.splGlobal, 0x180000, 0x0, 1, 0x0, 1, 0x18⟩,
   ⟨.splStrand, 0x182000, 0x40, 128, 0x0, 1, 0x40⟩,
   ⟨.splEo, 0x190000, 0x40, 1024, 0x0, 1, 0x40⟩,
   ⟨.splEi, 0x1A0000, 0x4, 1024, 0x0, 1, 0x4⟩,
   ⟨.splGroup, 0x1A1000, 0x100, 4, 0x0, 1, 0x100⟩,
   ⟨.sbd, 0x1C0000, 0x800, 96, 0x0, 1, 0x800⟩,
   ⟨.gang, 0x1F0000, 0x4, 24, 0x0, 1, 0x4⟩,
   ⟨.cmp, 0x200000, 0x8000, 32, 0x0, 1, 0x8000⟩] ++
  [⟨.scn, 0x300000, 0x100, 256, 0x0, 1, 0x100⟩,
   ⟨.crc, 0x310000, 0x100, 256, 0x0, 1, 0x100⟩,
   ⟨.pace, 0x320000, 0x4, 1024, 0x0, 1, 0x4⟩,
   ⟨.fst, 0x340000, 0x0, 1, 0x0, 1, 0x30⟩,
   ⟨.fstCh, 0x341000, 0x100, 12, 0x0, 1, 0x100⟩,
   ⟨.fstTen, 0x342000, 0x40, 4, 0x0, 1, 0x40⟩,
   ⟨.fstRec, 0x344000, 0x40, 256, 0x0, 1, 0x40⟩,
   ⟨.fstPly, 0x348000, 0x40, 256, 0x0, 1, 0x40⟩,
   ⟨.laneMap, 0x350000, 0x20, 4096, 0x0, 1, 0x20⟩,
   ⟨.aud, 0x380000, 0x0, 1, 0x0, 1, 0x30⟩] ++
  [⟨.audDom, 0x380100, 0x20, 192, 0x0, 1, 0x20⟩,
   ⟨.ami, 0x384000, 0x4, 8192, 0x0, 1, 0x4⟩,
   ⟨.amo, 0x38C000, 0x10, 8192, 0x0, 1, 0x10⟩,
   ⟨.sap, 0x3AC000, 0x100, 16, 0x0, 1, 0x100⟩,
   ⟨.ai, 0x3AD000, 0x100, 8, 0x0, 1, 0x100⟩,
   ⟨.ao, 0x3AD800, 0x100, 8, 0x0, 1, 0x100⟩,
   ⟨.src, 0x3AE000, 0x20, 512, 0x0, 1, 0x20⟩,
   ⟨.agrp, 0x3B2000, 0x20, 256, 0x0, 1, 0x20⟩,
   ⟨.fidSys, 0x3C0000, 0x40, 44, 0x0, 1, 0x40⟩,
   ⟨.fidHook, 0x3D0000, 0x200, 40, 0x80, 4, 0x80⟩] ++
  [⟨.recs, 0x3E0000, 0x0, 1, 0x0, 1, 0x170⟩,
   ⟨.key, 0x3F0000, 0x0, 1, 0x0, 1, 0x1400⟩]

namespace Reg

/-- SYS_ID. -/
abbrev sysId : Nat := 0x0
/-- SYS_MODE. -/
abbrev sysMode : Nat := 0x0 + 0x4
/-- SYS_RESET_CAUSE. -/
abbrev sysResetCause : Nat := 0x0 + 0x8
/-- SYS_EVENT. -/
abbrev sysEvent : Nat := 0x0 + 0xC
/-- SYS_CTRL. -/
abbrev sysCtrl : Nat := 0x0 + 0x10
/-- SYS_EVENT_EN. -/
abbrev sysEventEn : Nat := 0x0 + 0x14
/-- SYS_T_EARLY. -/
abbrev sysTEarly : Nat := 0x0 + 0x18
/-- SYS_T_FULL. -/
abbrev sysTFull : Nat := 0x0 + 0x1C
/-- SYS_RIG_STATUS. -/
abbrev sysRigStatus : Nat := 0x0 + 0x200
/-- SYS_RIG_LOAD_STATUS. -/
abbrev sysRigLoadStatus : Nat := 0x0 + 0x204
/-- SYS_RIG_IMAGE_VER. -/
abbrev sysRigImageVer : Nat := 0x0 + 0x208
/-- SYS_RIG_SEC_FLOOR. -/
abbrev sysRigSecFloor : Nat := 0x0 + 0x20C
/-- SYS_RIG_SLOT_A_VER. -/
abbrev sysRigSlotAVer : Nat := 0x0 + 0x210
/-- SYS_RIG_SLOT_B_VER. -/
abbrev sysRigSlotBVer : Nat := 0x0 + 0x214
/-- SYS_ZONE_STATE. -/
abbrev sysZoneState : Nat := 0x0 + 0x218
/-- SYS_REZONE_STATUS. -/
abbrev sysRezoneStatus : Nat := 0x0 + 0x21C
/-- SYS_ZONE_STOP_MAX. -/
abbrev sysZoneStopMax : Nat := 0x0 + 0x220
/-- SYS_RIG_EVENT. -/
abbrev sysRigEvent : Nat := 0x0 + 0x224
/-- SYS_RIG_DIGEST. -/
abbrev sysRigDigest (j : Nat) : Nat := 0x0 + 0x230 + 4 * j
/-- FAB_STATUS. -/
abbrev fabStatus : Nat := 0x0 + 0x300
/-- FAB_EVENT. -/
abbrev fabEvent : Nat := 0x0 + 0x304
/-- FAB_EVENT_EN. -/
abbrev fabEventEn : Nat := 0x0 + 0x308
/-- FAB_DECERR_ADDR_LO. -/
abbrev fabDecerrAddrLo : Nat := 0x0 + 0x30C
/-- FAB_DECERR_ADDR_HI. -/
abbrev fabDecerrAddrHi : Nat := 0x0 + 0x310
/-- FAB_LOCK_BREAK_CNT. -/
abbrev fabLockBreakCnt : Nat := 0x0 + 0x314
/-- FAB_RESET_DISCARD_CNT. -/
abbrev fabResetDiscardCnt : Nat := 0x0 + 0x318
/-- FAB_LOCK_LIMIT. -/
abbrev fabLockLimit : Nat := 0x0 + 0x31C
/-- FAB_SLICES. -/
abbrev fabSlices : Nat := 0x0 + 0x320
/-- TEN_ID. -/
abbrev tenId (n : Nat) : Nat := 0x10000 + 0x2000 * n
/-- TEN_STATUS. -/
abbrev tenStatus (n : Nat) : Nat := 0x10000 + 0x2000 * n + 0x4
/-- TEN_LANYARD. -/
abbrev tenLanyard (n : Nat) : Nat := 0x10000 + 0x2000 * n + 0x8
/-- TEN_LANYARD_CFG. -/
abbrev tenLanyardCfg (n : Nat) : Nat := 0x10000 + 0x2000 * n + 0xC
/-- TEN_LANYARD_LEFT. -/
abbrev tenLanyardLeft (n : Nat) : Nat := 0x10000 + 0x2000 * n + 0x10
/-- TEN_FOREIGN_CNT. -/
abbrev tenForeignCnt (n : Nat) : Nat := 0x10000 + 0x2000 * n + 0x14
/-- TEN_EVENT. -/
abbrev tenEvent (n : Nat) : Nat := 0x10000 + 0x2000 * n + 0x18
/-- TEN_EVENT_EN. -/
abbrev tenEventEn (n : Nat) : Nat := 0x10000 + 0x2000 * n + 0x1C
/-- TEN_DB_ERR_CNT. -/
abbrev tenDbErrCnt (n : Nat) : Nat := 0x10000 + 0x2000 * n + 0x20
/-- TEN_EVT_LOST_CNT. -/
abbrev tenEvtLostCnt (n : Nat) : Nat := 0x10000 + 0x2000 * n + 0x24
/-- TEN_CMD_CNT. -/
abbrev tenCmdCnt (n : Nat) : Nat := 0x10000 + 0x2000 * n + 0x28
/-- TEN_EVQ_BASE_LO. -/
abbrev tenEvqBaseLo (n : Nat) : Nat := 0x10000 + 0x2000 * n + 0x30
/-- TEN_EVQ_BASE_HI. -/
abbrev tenEvqBaseHi (n : Nat) : Nat := 0x10000 + 0x2000 * n + 0x34
/-- TEN_EVQ_CFG. -/
abbrev tenEvqCfg (n : Nat) : Nat := 0x10000 + 0x2000 * n + 0x38
/-- TEN_EVQ_COAL. -/
abbrev tenEvqCoal (n : Nat) : Nat := 0x10000 + 0x2000 * n + 0x3C
/-- TEN_SQ_BASE_LO. -/
abbrev tenSqBaseLo (n j : Nat) : Nat := 0x10000 + 0x2000 * n + 0x400 + 16 * j
/-- TEN_SQ_BASE_HI. -/
abbrev tenSqBaseHi (n j : Nat) : Nat := 0x10000 + 0x2000 * n + 0x404 + 16 * j
/-- TEN_SQ_CFG. -/
abbrev tenSqCfg (n j : Nat) : Nat := 0x10000 + 0x2000 * n + 0x408 + 16 * j
/-- TEN_SQ_POS. -/
abbrev tenSqPos (n j : Nat) : Nat := 0x10000 + 0x2000 * n + 0x40C + 16 * j
/-- TEN_CQ_BASE_LO. -/
abbrev tenCqBaseLo (n j : Nat) : Nat := 0x10000 + 0x2000 * n + 0x800 + 16 * j
/-- TEN_CQ_BASE_HI. -/
abbrev tenCqBaseHi (n j : Nat) : Nat := 0x10000 + 0x2000 * n + 0x804 + 16 * j
/-- TEN_CQ_CFG. -/
abbrev tenCqCfg (n j : Nat) : Nat := 0x10000 + 0x2000 * n + 0x808 + 16 * j
/-- TEN_CQ_COAL. -/
abbrev tenCqCoal (n j : Nat) : Nat := 0x10000 + 0x2000 * n + 0x80C + 16 * j
/-- TEN_FENCE_LO. -/
abbrev tenFenceLo (n j : Nat) : Nat := 0x10000 + 0x2000 * n + 0x1000 + 8 * j
/-- TEN_FENCE_HI. -/
abbrev tenFenceHi (n j : Nat) : Nat := 0x10000 + 0x2000 * n + 0x1004 + 8 * j
/-- TEN_PLAN. -/
abbrev tenPlan : Nat := 0x18000
/-- TEN_LANYARD_ALL. -/
abbrev tenLanyardAll : Nat := 0x18000 + 0x4
/-- TEN_PRE_STATUS. -/
abbrev tenPreStatus (n : Nat) : Nat := 0x1C000 + 0x80 * n
/-- TEN_PRE_RESERVE. -/
abbrev tenPreReserve (n : Nat) : Nat := 0x1C000 + 0x80 * n + 0x4
/-- TEN_COMMIT_CNT. -/
abbrev tenCommitCnt (n : Nat) : Nat := 0x1C000 + 0x80 * n + 0x8
/-- TEN_DEFER_CNT. -/
abbrev tenDeferCnt (n : Nat) : Nat := 0x1C000 + 0x80 * n + 0xC
/-- TEN_LAST_RB. -/
abbrev tenLastRb (n : Nat) : Nat := 0x1C000 + 0x80 * n + 0x10
/-- TEN_BATCH_OPEN_LO. -/
abbrev tenBatchOpenLo (n : Nat) : Nat := 0x1C000 + 0x80 * n + 0x14
/-- TEN_BATCH_OPEN_HI. -/
abbrev tenBatchOpenHi (n : Nat) : Nat := 0x1C000 + 0x80 * n + 0x18
/-- TEN_RB_REASON. -/
abbrev tenRbReason (n j : Nat) : Nat := 0x1C000 + 0x80 * n + 0x20 + 4 * j
/-- PWR_STATUS. -/
abbrev pwrStatus : Nat := 0x20000
/-- PWR_BELAY_CFG. -/
abbrev pwrBelayCfg : Nat := 0x20000 + 0x4
/-- PWR_IDLE_HOLD. -/
abbrev pwrIdleHold : Nat := 0x20000 + 0x8
/-- PWR_BELAY_STATUS. -/
abbrev pwrBelayStatus : Nat := 0x20000 + 0xC
/-- PWR_BELAY_WAIT_MAX. -/
abbrev pwrBelayWaitMax : Nat := 0x20000 + 0x10
/-- PWR_BELAY_LATE_CNT. -/
abbrev pwrBelayLateCnt : Nat := 0x20000 + 0x14
/-- PWR_WAKE_TIME_LO. -/
abbrev pwrWakeTimeLo : Nat := 0x20000 + 0x18
/-- PWR_WAKE_TIME_HI. -/
abbrev pwrWakeTimeHi : Nat := 0x20000 + 0x1C
/-- PWR_WAKE_CAUSE. -/
abbrev pwrWakeCause : Nat := 0x20000 + 0x20
/-- PWR_EVENT. -/
abbrev pwrEvent : Nat := 0x20000 + 0x24
/-- PWR_EVENT_EN. -/
abbrev pwrEventEn : Nat := 0x20000 + 0x28
/-- PWR_POWER. -/
abbrev pwrPower : Nat := 0x20000 + 0x2C
/-- PWR_TEMP. -/
abbrev pwrTemp : Nat := 0x20000 + 0x30
/-- PWR_TEMP_LIMIT. -/
abbrev pwrTempLimit : Nat := 0x20000 + 0x34
/-- PWR_DOM_ON. -/
abbrev pwrDomOn (j : Nat) : Nat := 0x20000 + 0x100 + 4 * j
/-- TMB_ID. -/
abbrev tmbId : Nat := 0x40000
/-- TMB_CTRL. -/
abbrev tmbCtrl : Nat := 0x40000 + 0x4
/-- TMB_STATUS. -/
abbrev tmbStatus : Nat := 0x40000 + 0x8
/-- TMB_EVENT. -/
abbrev tmbEvent : Nat := 0x40000 + 0xC
/-- TMB_EVENT_EN. -/
abbrev tmbEventEn : Nat := 0x40000 + 0x10
/-- TMB_COUNT_LO. -/
abbrev tmbCountLo : Nat := 0x40000 + 0x14
/-- TMB_COUNT_HI. -/
abbrev tmbCountHi : Nat := 0x40000 + 0x18
/-- TMB_TOD_SEC_LO. -/
abbrev tmbTodSecLo : Nat := 0x40000 + 0x1C
/-- TMB_TOD_SEC_HI. -/
abbrev tmbTodSecHi : Nat := 0x40000 + 0x20
/-- TMB_TOD_CTRL. -/
abbrev tmbTodCtrl : Nat := 0x40000 + 0x24
/-- TMB_REF_PRIO. -/
abbrev tmbRefPrio : Nat := 0x40000 + 0x30
/-- TMB_REF_STATUS. -/
abbrev tmbRefStatus : Nat := 0x40000 + 0x34
/-- TMB_OFFSET. -/
abbrev tmbOffset : Nat := 0x40000 + 0x38
/-- TMB_FREQ_ADJ. -/
abbrev tmbFreqAdj : Nat := 0x40000 + 0x3C
/-- TMB_SLEW. -/
abbrev tmbSlew : Nat := 0x40000 + 0x40
/-- TMB_STEP_THRESH. -/
abbrev tmbStepThresh : Nat := 0x40000 + 0x44
/-- TMB_LOCK_CFG. -/
abbrev tmbLockCfg : Nat := 0x40000 + 0x48
/-- TMB_REF_OFF_PTP. -/
abbrev tmbRefOffPtp : Nat := 0x40000 + 0x4C
/-- TMB_REF_OFF_PPS. -/
abbrev tmbRefOffPps : Nat := 0x40000 + 0x50
/-- TMB_REF_OFF_SYNC. -/
abbrev tmbRefOffSync : Nat := 0x40000 + 0x54
/-- TMB_REFSYNC_FMT. -/
abbrev tmbRefsyncFmt : Nat := 0x40000 + 0x58
/-- TMB_HOLD_TIME. -/
abbrev tmbHoldTime : Nat := 0x40000 + 0x5C
/-- TMB_STEP_LAST. -/
abbrev tmbStepLast : Nat := 0x40000 + 0x60
/-- TMB_CAL_CTRL. -/
abbrev tmbCalCtrl : Nat := 0x40000 + 0x100
/-- TMB_CAL_STATUS. -/
abbrev tmbCalStatus : Nat := 0x40000 + 0x104
/-- TMB_CAL_EVENT. -/
abbrev tmbCalEvent : Nat := 0x40000 + 0x108
/-- TMB_CAL_EVENT_EN. -/
abbrev tmbCalEventEn : Nat := 0x40000 + 0x10C
/-- TMB_VCAL_UV. -/
abbrev tmbVcalUv : Nat := 0x40000 + 0x110
/-- TMB_CAL_SET_SEQ. -/
abbrev tmbCalSetSeq : Nat := 0x40000 + 0x114
/-- TMB_CAL_DISAGREE_CNT. -/
abbrev tmbCalDisagreeCnt : Nat := 0x40000 + 0x118
/-- TMB_CAL_NQ_CNT. -/
abbrev tmbCalNqCnt : Nat := 0x40000 + 0x11C
/-- CAL_FACT. -/
abbrev calFact (w : Nat) : Nat := w
/-- CAL_USER. -/
abbrev calUser (w : Nat) : Nat := w + 0x4
/-- CAL_EFF. -/
abbrev calEff (w : Nat) : Nat := w + 0x8
/-- CAL_AGE. -/
abbrev calAge (w : Nat) : Nat := w + 0xC
/-- STR_ID. -/
abbrev strId (n : Nat) : Nat := 0x80000 + 0x800 * n
/-- STR_CFG. -/
abbrev strCfg (n : Nat) : Nat := 0x80000 + 0x800 * n + 0x4
/-- STR_STATE. -/
abbrev strState (n : Nat) : Nat := 0x80000 + 0x800 * n + 0x8
/-- STR_EVENT. -/
abbrev strEvent (n : Nat) : Nat := 0x80000 + 0x800 * n + 0xC
/-- STR_EVENT_EN. -/
abbrev strEventEn (n : Nat) : Nat := 0x80000 + 0x800 * n + 0x10
/-- STR_RX_CTRL. -/
abbrev strRxCtrl (n : Nat) : Nat := 0x80000 + 0x800 * n + 0x14
/-- STR_RX_EQ. -/
abbrev strRxEq (n : Nat) : Nat := 0x80000 + 0x800 * n + 0x18
/-- STR_RX_EQ_STAT. -/
abbrev strRxEqStat (n : Nat) : Nat := 0x80000 + 0x800 * n + 0x1C
/-- STR_TX_CTRL. -/
abbrev strTxCtrl (n : Nat) : Nat := 0x80000 + 0x800 * n + 0x20
/-- STR_TX_FIR. -/
abbrev strTxFir (n : Nat) : Nat := 0x80000 + 0x800 * n + 0x24
/-- STR_RATE_CUSTOM. -/
abbrev strRateCustom (n : Nat) : Nat := 0x80000 + 0x800 * n + 0x28
/-- STR_SKEW. -/
abbrev strSkew (n : Nat) : Nat := 0x80000 + 0x800 * n + 0x2C
/-- STR_PRBS_CTRL. -/
abbrev strPrbsCtrl (n : Nat) : Nat := 0x80000 + 0x800 * n + 0x30
/-- STR_PRBS_ERR. -/
abbrev strPrbsErr (n : Nat) : Nat := 0x80000 + 0x800 * n + 0x34
/-- STR_PRBS_BITS_LO. -/
abbrev strPrbsBitsLo (n : Nat) : Nat := 0x80000 + 0x800 * n + 0x38
/-- STR_PRBS_BITS_HI. -/
abbrev strPrbsBitsHi (n : Nat) : Nat := 0x80000 + 0x800 * n + 0x3C
/-- STR_PROTO_ERR. -/
abbrev strProtoErr (n : Nat) : Nat := 0x80000 + 0x800 * n + 0x40
/-- STR_PROTO_CORR. -/
abbrev strProtoCorr (n : Nat) : Nat := 0x80000 + 0x800 * n + 0x44
/-- STR_LOS_CNT. -/
abbrev strLosCnt (n : Nat) : Nat := 0x80000 + 0x800 * n + 0x48
/-- STR_ADAPT_FAIL_CNT. -/
abbrev strAdaptFailCnt (n : Nat) : Nat := 0x80000 + 0x800 * n + 0x4C
/-- STR_EYE_CTRL. -/
abbrev strEyeCtrl (n : Nat) : Nat := 0x80000 + 0x800 * n + 0x50
/-- STR_EYE_RESULT. -/
abbrev strEyeResult (n : Nat) : Nat := 0x80000 + 0x800 * n + 0x54
/-- STR_UP_TIME. -/
abbrev strUpTime (n : Nat) : Nat := 0x80000 + 0x800 * n + 0x58
/-- STR_BIGHT_CTRL. -/
abbrev strBightCtrl (n : Nat) : Nat := 0xC0000 + 0x10 * n
/-- STR_BIGHT_STATUS. -/
abbrev strBightStatus (n : Nat) : Nat := 0xC0000 + 0x10 * n + 0x4
/-- STR_BIGHT_CNT. -/
abbrev strBightCnt (n : Nat) : Nat := 0xC0000 + 0x10 * n + 0x8
/-- STR_BRAID_MAP. -/
abbrev strBraidMap (n : Nat) : Nat := 0xC1000 + 0x4 * n
/-- STR_DP_SB_CTRL. -/
abbrev strDpSbCtrl (n : Nat) : Nat := 0xC2000 + 0x20 * n
/-- STR_DP_SB_STATUS. -/
abbrev strDpSbStatus (n : Nat) : Nat := 0xC2000 + 0x20 * n + 0x4
/-- STR_DP_SB_EVENT. -/
abbrev strDpSbEvent (n : Nat) : Nat := 0xC2000 + 0x20 * n + 0x8
/-- STR_DP_EDID. -/
abbrev strDpEdid (n j : Nat) : Nat := 0xC4000 + 0x200 * n + 4 * j
/-- ETH_FLOW_STATUS. -/
abbrev ethFlowStatus (w : Nat) : Nat := w
/-- ETH_FLOW_EVENT. -/
abbrev ethFlowEvent (w : Nat) : Nat := w + 0x4
/-- ETH_FLOW_PKT_A. -/
abbrev ethFlowPktA (w : Nat) : Nat := w + 0x8
/-- ETH_FLOW_PKT_B. -/
abbrev ethFlowPktB (w : Nat) : Nat := w + 0xC
/-- ETH_FLOW_LOST. -/
abbrev ethFlowLost (w : Nat) : Nat := w + 0x10
/-- ETH_FLOW_RECOV. -/
abbrev ethFlowRecov (w : Nat) : Nat := w + 0x14
/-- ETH_FLOW_MISMATCH_CNT. -/
abbrev ethFlowMismatchCnt (w : Nat) : Nat := w + 0x18
/-- ETH_FLOW_DIFF_CNT. -/
abbrev ethFlowDiffCnt (w : Nat) : Nat := w + 0x1C
/-- ETH_IF_MAC_LO. -/
abbrev ethIfMacLo (n : Nat) : Nat := 0x128000 + 0x100 * n
/-- ETH_IF_MAC_HI. -/
abbrev ethIfMacHi (n : Nat) : Nat := 0x128000 + 0x100 * n + 0x4
/-- ETH_IF_IPV4. -/
abbrev ethIfIpv4 (n : Nat) : Nat := 0x128000 + 0x100 * n + 0x8
/-- ETH_IF_CTRL. -/
abbrev ethIfCtrl (n : Nat) : Nat := 0x128000 + 0x100 * n + 0xC
/-- ETH_IF_TX_LOAD. -/
abbrev ethIfTxLoad (n : Nat) : Nat := 0x128000 + 0x100 * n + 0x10
/-- ETH_IF_RX_DROP_CNT. -/
abbrev ethIfRxDropCnt (n : Nat) : Nat := 0x128000 + 0x100 * n + 0x14
/-- ETH_IF_RX_OVF_CNT. -/
abbrev ethIfRxOvfCnt (n : Nat) : Nat := 0x128000 + 0x100 * n + 0x18
/-- MSC_CTRL. -/
abbrev mscCtrl (n : Nat) : Nat := 0x130000 + 0x200 * n
/-- MSC_REPLAY_WINDOW. -/
abbrev mscReplayWindow (n : Nat) : Nat := 0x130000 + 0x200 * n + 0x4
/-- MSC_PN_THRESH. -/
abbrev mscPnThresh (n : Nat) : Nat := 0x130000 + 0x200 * n + 0x8
/-- MSC_EVENT. -/
abbrev mscEvent (n : Nat) : Nat := 0x130000 + 0x200 * n + 0xC
/-- MSC_TX_DROP_CNT. -/
abbrev mscTxDropCnt (n : Nat) : Nat := 0x130000 + 0x200 * n + 0x10
/-- MSC_RX_DROP_CNT. -/
abbrev mscRxDropCnt (n : Nat) : Nat := 0x130000 + 0x200 * n + 0x14
/-- WIR_FMT. -/
abbrev wirFmt (n : Nat) : Nat := 0x140000 + 0x100 * n
/-- WIR_FMT_SIZE. -/
abbrev wirFmtSize (n : Nat) : Nat := 0x140000 + 0x100 * n + 0x4
/-- WIR_FMT_RATE. -/
abbrev wirFmtRate (n : Nat) : Nat := 0x140000 + 0x100 * n + 0x8
/-- WIR_EVENT. -/
abbrev wirEvent (n : Nat) : Nat := 0x140000 + 0x100 * n + 0xC
/-- WIR_EVENT_EN. -/
abbrev wirEventEn (n : Nat) : Nat := 0x140000 + 0x100 * n + 0x10
/-- WIR_ANC_CTRL. -/
abbrev wirAncCtrl (n : Nat) : Nat := 0x140000 + 0x100 * n + 0x14
/-- WIR_ANC_OVF_CNT. -/
abbrev wirAncOvfCnt (n : Nat) : Nat := 0x140000 + 0x100 * n + 0x18
/-- WIR_ANC_DROP_CNT. -/
abbrev wirAncDropCnt (n : Nat) : Nat := 0x140000 + 0x100 * n + 0x1C
/-- WIR_ANC_DROP. -/
abbrev wirAncDrop (n j : Nat) : Nat := 0x140000 + 0x100 * n + 0x40 + 4 * j
/-- SPL_ID. -/
abbrev splId : Nat := 0x180000
/-- SPL_STATUS. -/
abbrev splStatus : Nat := 0x180000 + 0x4
/-- SPL_ARMED_NOW. -/
abbrev splArmedNow : Nat := 0x180000 + 0x8
/-- SPL_PROMOTED_NOW. -/
abbrev splPromotedNow : Nat := 0x180000 + 0xC
/-- SPL_TAKE. -/
abbrev splTake : Nat := 0x180000 + 0x10
/-- SPL_CANCEL. -/
abbrev splCancel : Nat := 0x180000 + 0x14
/-- SPL_SRC. -/
abbrev splSrc (w : Nat) : Nat := w
/-- SPL_ARM_SRC. -/
abbrev splArmSrc (w : Nat) : Nat := w + 0x4
/-- SPL_ARM_CTRL. -/
abbrev splArmCtrl (w : Nat) : Nat := w + 0x8
/-- SPL_ARM_TIME_LO. -/
abbrev splArmTimeLo (w : Nat) : Nat := w + 0xC
/-- SPL_ARM_TIME_HI. -/
abbrev splArmTimeHi (w : Nat) : Nat := w + 0x10
/-- SPL_SPLICE_STATUS. -/
abbrev splSpliceStatus (w : Nat) : Nat := w + 0x14
/-- SPL_DEST_EVENT. -/
abbrev splDestEvent (w : Nat) : Nat := w + 0x18
/-- SPL_DEST_EVENT_EN. -/
abbrev splDestEventEn (w : Nat) : Nat := w + 0x1C
/-- SPL_DEST_CFG. -/
abbrev splDestCfg (w : Nat) : Nat := w + 0x20
/-- SPL_DEST_FILL. -/
abbrev splDestFill (w : Nat) : Nat := w + 0x24
/-- SPL_SPLICE_CNT. -/
abbrev splSpliceCnt (w : Nat) : Nat := w + 0x28
/-- SPL_ROLLBACK_CNT. -/
abbrev splRollbackCnt (w : Nat) : Nat := w + 0x2C
/-- SPL_PROMO_CNT. -/
abbrev splPromoCnt (w : Nat) : Nat := w + 0x30
/-- SPL_SLIP_CNT. -/
abbrev splSlipCnt (w : Nat) : Nat := w + 0x34
/-- SPL_LOSS_CNT. -/
abbrev splLossCnt (w : Nat) : Nat := w + 0x38
/-- SPL_ALIGN. -/
abbrev splAlign (w : Nat) : Nat := w + 0x3C
/-- SPL_EI_STATUS. -/
abbrev splEiStatus (n : Nat) : Nat := 0x1A0000 + 0x4 * n
/-- SPL_GROUP_STATUS. -/
abbrev splGroupStatus (n j : Nat) : Nat := 0x1A1000 + 0x100 * n + 0x4 + 4 * j
/-- SBD_ID. -/
abbrev sbdId (n : Nat) : Nat := 0x1C0000 + 0x800 * n
/-- SBD_BIND. -/
abbrev sbdBind (n : Nat) : Nat := 0x1C0000 + 0x800 * n + 0x4
/-- SBD_CFG. -/
abbrev sbdCfg (n : Nat) : Nat := 0x1C0000 + 0x800 * n + 0x8
/-- SBD_TG. -/
abbrev sbdTg (n : Nat) : Nat := 0x1C0000 + 0x800 * n + 0xC
/-- SBD_OUT_SIZE. -/
abbrev sbdOutSize (n : Nat) : Nat := 0x1C0000 + 0x800 * n + 0x10
/-- SBD_OUT_FMT. -/
abbrev sbdOutFmt (n : Nat) : Nat := 0x1C0000 + 0x800 * n + 0x14
/-- SBD_CROP_POS. -/
abbrev sbdCropPos (n : Nat) : Nat := 0x1C0000 + 0x800 * n + 0x18
/-- SBD_CROP_SIZE. -/
abbrev sbdCropSize (n : Nat) : Nat := 0x1C0000 + 0x800 * n + 0x1C
/-- SBD_H_STEP. -/
abbrev sbdHStep (n : Nat) : Nat := 0x1C0000 + 0x800 * n + 0x20
/-- SBD_V_STEP. -/
abbrev sbdVStep (n : Nat) : Nat := 0x1C0000 + 0x800 * n + 0x24
/-- SBD_H_INIT. -/
abbrev sbdHInit (n : Nat) : Nat := 0x1C0000 + 0x800 * n + 0x28
/-- SBD_V_INIT. -/
abbrev sbdVInit (n : Nat) : Nat := 0x1C0000 + 0x800 * n + 0x2C
/-- SBD_DELAY. -/
abbrev sbdDelay (n : Nat) : Nat := 0x1C0000 + 0x800 * n + 0x30
/-- SBD_DEINT_CTRL. -/
abbrev sbdDeintCtrl (n : Nat) : Nat := 0x1C0000 + 0x800 * n + 0x34
/-- SBD_FILL. -/
abbrev sbdFill (n : Nat) : Nat := 0x1C0000 + 0x800 * n + 0x38
/-- SBD_MTX. -/
abbrev sbdMtx (n j : Nat) : Nat := 0x1C0000 + 0x800 * n + 0x40 + 4 * j
/-- SBD_MOFF. -/
abbrev sbdMoff (n j : Nat) : Nat := 0x1C0000 + 0x800 * n + 0x64 + 4 * j
/-- SBD_CTX. -/
abbrev sbdCtx (n : Nat) : Nat := 0x1C0000 + 0x800 * n + 0x80
/-- SBD_STATUS. -/
abbrev sbdStatus (n : Nat) : Nat := 0x1C0000 + 0x800 * n + 0x84
/-- SBD_EVENT. -/
abbrev sbdEvent (n : Nat) : Nat := 0x1C0000 + 0x800 * n + 0x88
/-- SBD_EVENT_EN. -/
abbrev sbdEventEn (n : Nat) : Nat := 0x1C0000 + 0x800 * n + 0x8C
/-- SBD_REPEAT_CNT. -/
abbrev sbdRepeatCnt (n : Nat) : Nat := 0x1C0000 + 0x800 * n + 0x90
/-- SBD_DROP_CNT. -/
abbrev sbdDropCnt (n : Nat) : Nat := 0x1C0000 + 0x800 * n + 0x94
/-- SBD_BW. -/
abbrev sbdBw (n : Nat) : Nat := 0x1C0000 + 0x800 * n + 0x98
/-- SBD_RING. -/
abbrev sbdRing (n : Nat) : Nat := 0x1C0000 + 0x800 * n + 0x9C
/-- SBD_STEP_EFF_H. -/
abbrev sbdStepEffH (n : Nat) : Nat := 0x1C0000 + 0x800 * n + 0xA0
/-- SBD_STEP_EFF_V. -/
abbrev sbdStepEffV (n : Nat) : Nat := 0x1C0000 + 0x800 * n + 0xA4
/-- SBD_TBL_ADDR. -/
abbrev sbdTblAddr (n : Nat) : Nat := 0x1C0000 + 0x800 * n + 0xC0
/-- SBD_TBL_DATA. -/
abbrev sbdTblData (n : Nat) : Nat := 0x1C0000 + 0x800 * n + 0xC4
/-- SBD_TBL_LOAD. -/
abbrev sbdTblLoad (n : Nat) : Nat := 0x1C0000 + 0x800 * n + 0xC8
/-- SBD_TBL_IGNORED. -/
abbrev sbdTblIgnored (n : Nat) : Nat := 0x1C0000 + 0x800 * n + 0xCC
/-- SBD_GANG. -/
abbrev sbdGang (n : Nat) : Nat := 0x1F0000 + 0x4 * n
/-- CMP_ID. -/
abbrev cmpId (n : Nat) : Nat := 0x200000 + 0x8000 * n
/-- CMP_BIND. -/
abbrev cmpBind (n : Nat) : Nat := 0x200000 + 0x8000 * n + 0x4
/-- CMP_CFG. -/
abbrev cmpCfg (n : Nat) : Nat := 0x200000 + 0x8000 * n + 0x8
/-- CMP_TG. -/
abbrev cmpTg (n : Nat) : Nat := 0x200000 + 0x8000 * n + 0xC
/-- CMP_OUT_FMT. -/
abbrev cmpOutFmt (n : Nat) : Nat := 0x200000 + 0x8000 * n + 0x10
/-- CMP_BG. -/
abbrev cmpBg (n : Nat) : Nat := 0x200000 + 0x8000 * n + 0x14
/-- CMP_CTX. -/
abbrev cmpCtx (n : Nat) : Nat := 0x200000 + 0x8000 * n + 0x18
/-- CMP_STATUS. -/
abbrev cmpStatus (n : Nat) : Nat := 0x200000 + 0x8000 * n + 0x1C
/-- CMP_EVENT. -/
abbrev cmpEvent (n : Nat) : Nat := 0x200000 + 0x8000 * n + 0x20
/-- CMP_EVENT_EN. -/
abbrev cmpEventEn (n : Nat) : Nat := 0x200000 + 0x8000 * n + 0x24
/-- CMP_BW. -/
abbrev cmpBw (n : Nat) : Nat := 0x200000 + 0x8000 * n + 0x28
/-- CMP_BW_DRAWN. -/
abbrev cmpBwDrawn (n : Nat) : Nat := 0x200000 + 0x8000 * n + 0x2C
/-- CMP_COIL_FORM_CNT. -/
abbrev cmpCoilFormCnt (n : Nat) : Nat := 0x200000 + 0x8000 * n + 0x30
/-- CMP_COIL_WAIT_CNT. -/
abbrev cmpCoilWaitCnt (n : Nat) : Nat := 0x200000 + 0x8000 * n + 0x34
/-- CMP_COIL_DROP_CNT. -/
abbrev cmpCoilDropCnt (n : Nat) : Nat := 0x200000 + 0x8000 * n + 0x38
/-- CMP_TBL_ADDR. -/
abbrev cmpTblAddr (n : Nat) : Nat := 0x200000 + 0x8000 * n + 0x40
/-- CMP_TBL_DATA. -/
abbrev cmpTblData (n : Nat) : Nat := 0x200000 + 0x8000 * n + 0x44
/-- CMP_TBL_IGNORED. -/
abbrev cmpTblIgnored (n : Nat) : Nat := 0x200000 + 0x8000 * n + 0x48
/-- CMP_L_CTRL. -/
abbrev cmpLCtrl (n i : Nat) : Nat := 0x200400 + 0x8000 * n + 0x100 * i
/-- CMP_L_ALPHA. -/
abbrev cmpLAlpha (n i : Nat) : Nat := 0x200400 + 0x8000 * n + 0x100 * i + 0x4
/-- CMP_L_DST_POS. -/
abbrev cmpLDstPos (n i : Nat) : Nat := 0x200400 + 0x8000 * n + 0x100 * i + 0x8
/-- CMP_L_DST_SIZE. -/
abbrev cmpLDstSize (n i : Nat) : Nat := 0x200400 + 0x8000 * n + 0x100 * i + 0xC
/-- CMP_L_SRC_POS. -/
abbrev cmpLSrcPos (n i : Nat) : Nat := 0x200400 + 0x8000 * n + 0x100 * i + 0x10
/-- CMP_L_SRC_SIZE. -/
abbrev cmpLSrcSize (n i : Nat) : Nat := 0x200400 + 0x8000 * n + 0x100 * i + 0x14
/-- CMP_L_FILL. -/
abbrev cmpLFill (n i : Nat) : Nat := 0x200400 + 0x8000 * n + 0x100 * i + 0x18
/-- CMP_L_SOURCE. -/
abbrev cmpLSource (n i : Nat) : Nat := 0x200400 + 0x8000 * n + 0x100 * i + 0x1C
/-- CMP_L_DELAY. -/
abbrev cmpLDelay (n i : Nat) : Nat := 0x200400 + 0x8000 * n + 0x100 * i + 0x20
/-- CMP_L_H_STEP. -/
abbrev cmpLHStep (n i : Nat) : Nat := 0x200400 + 0x8000 * n + 0x100 * i + 0x24
/-- CMP_L_V_STEP. -/
abbrev cmpLVStep (n i : Nat) : Nat := 0x200400 + 0x8000 * n + 0x100 * i + 0x28
/-- CMP_L_H_INIT. -/
abbrev cmpLHInit (n i : Nat) : Nat := 0x200400 + 0x8000 * n + 0x100 * i + 0x2C
/-- CMP_L_V_INIT. -/
abbrev cmpLVInit (n i : Nat) : Nat := 0x200400 + 0x8000 * n + 0x100 * i + 0x30
/-- CMP_L_DIRTY. -/
abbrev cmpLDirty (n i : Nat) : Nat := 0x200400 + 0x8000 * n + 0x100 * i + 0x34
/-- CMP_L_FLIP. -/
abbrev cmpLFlip (n i : Nat) : Nat := 0x200400 + 0x8000 * n + 0x100 * i + 0x38
/-- CMP_L_STATUS. -/
abbrev cmpLStatus (n i : Nat) : Nat := 0x200400 + 0x8000 * n + 0x100 * i + 0x40
/-- CMP_L_EVENT. -/
abbrev cmpLEvent (n i : Nat) : Nat := 0x200400 + 0x8000 * n + 0x100 * i + 0x44
/-- CMP_L_EVENT_EN. -/
abbrev cmpLEventEn (n i : Nat) : Nat := 0x200400 + 0x8000 * n + 0x100 * i + 0x48
/-- CMP_L_LATE_CNT. -/
abbrev cmpLLateCnt (n i : Nat) : Nat := 0x200400 + 0x8000 * n + 0x100 * i + 0x4C
/-- CMP_L_FAULT_CNT. -/
abbrev cmpLFaultCnt (n i : Nat) : Nat := 0x200400 + 0x8000 * n + 0x100 * i + 0x50
/-- CMP_L_POISON_CNT. -/
abbrev cmpLPoisonCnt (n i : Nat) : Nat := 0x200400 + 0x8000 * n + 0x100 * i + 0x54
/-- CMP_L_UNDERRUN_CNT. -/
abbrev cmpLUnderrunCnt (n i : Nat) : Nat := 0x200400 + 0x8000 * n + 0x100 * i + 0x58
/-- CMP_L_BW. -/
abbrev cmpLBw (n i : Nat) : Nat := 0x200400 + 0x8000 * n + 0x100 * i + 0x5C
/-- CMP_L_CUR. -/
abbrev cmpLCur (n i : Nat) : Nat := 0x200400 + 0x8000 * n + 0x100 * i + 0x60
/-- CMP_L_STEP_EFF_H. -/
abbrev cmpLStepEffH (n i : Nat) : Nat := 0x200400 + 0x8000 * n + 0x100 * i + 0x64
/-- CMP_L_STEP_EFF_V. -/
abbrev cmpLStepEffV (n i : Nat) : Nat := 0x200400 + 0x8000 * n + 0x100 * i + 0x68
/-- SCN_ID. -/
abbrev scnId (n : Nat) : Nat := 0x300000 + 0x100 * n
/-- SCN_CTRL. -/
abbrev scnCtrl (n : Nat) : Nat := 0x300000 + 0x100 * n + 0x4
/-- SCN_H1. -/
abbrev scnH1 (n : Nat) : Nat := 0x300000 + 0x100 * n + 0x8
/-- SCN_H2. -/
abbrev scnH2 (n : Nat) : Nat := 0x300000 + 0x100 * n + 0xC
/-- SCN_V1. -/
abbrev scnV1 (n : Nat) : Nat := 0x300000 + 0x100 * n + 0x10
/-- SCN_V2. -/
abbrev scnV2 (n : Nat) : Nat := 0x300000 + 0x100 * n + 0x14
/-- SCN_PCLK. -/
abbrev scnPclk (n : Nat) : Nat := 0x300000 + 0x100 * n + 0x18
/-- SCN_FMT. -/
abbrev scnFmt (n : Nat) : Nat := 0x300000 + 0x100 * n + 0x1C
/-- SCN_PHASE. -/
abbrev scnPhase (n : Nat) : Nat := 0x300000 + 0x100 * n + 0x20
/-- SCN_LOCK_CFG. -/
abbrev scnLockCfg (n : Nat) : Nat := 0x300000 + 0x100 * n + 0x24
/-- SCN_TABLE_LOAD. -/
abbrev scnTableLoad (n : Nat) : Nat := 0x300000 + 0x100 * n + 0x28
/-- SCN_CTX. -/
abbrev scnCtx (n : Nat) : Nat := 0x300000 + 0x100 * n + 0x2C
/-- SCN_STATUS. -/
abbrev scnStatus (n : Nat) : Nat := 0x300000 + 0x100 * n + 0x30
/-- SCN_POS. -/
abbrev scnPos (n : Nat) : Nat := 0x300000 + 0x100 * n + 0x34
/-- SCN_ALIGN_LO. -/
abbrev scnAlignLo (n : Nat) : Nat := 0x300000 + 0x100 * n + 0x38
/-- SCN_ALIGN_HI. -/
abbrev scnAlignHi (n : Nat) : Nat := 0x300000 + 0x100 * n + 0x3C
/-- SCN_PHASE_ERR. -/
abbrev scnPhaseErr (n : Nat) : Nat := 0x300000 + 0x100 * n + 0x40
/-- SCN_EVENT. -/
abbrev scnEvent (n : Nat) : Nat := 0x300000 + 0x100 * n + 0x44
/-- SCN_EVENT_EN. -/
abbrev scnEventEn (n : Nat) : Nat := 0x300000 + 0x100 * n + 0x48
/-- SCN_SLACK_NOW. -/
abbrev scnSlackNow (n : Nat) : Nat := 0x300000 + 0x100 * n + 0x4C
/-- SCN_SLACK_MIN. -/
abbrev scnSlackMin (n : Nat) : Nat := 0x300000 + 0x100 * n + 0x50
/-- SCN_RELOCK_CNT. -/
abbrev scnRelockCnt (n : Nat) : Nat := 0x300000 + 0x100 * n + 0x54
/-- SCN_GAP_LAST. -/
abbrev scnGapLast (n : Nat) : Nat := 0x300000 + 0x100 * n + 0x58
/-- SCN_CRC_CTRL. -/
abbrev scnCrcCtrl (n : Nat) : Nat := 0x310000 + 0x100 * n
/-- SCN_CRC_STATUS. -/
abbrev scnCrcStatus (n : Nat) : Nat := 0x310000 + 0x100 * n + 0x4
/-- SCN_CRC_EVENT. -/
abbrev scnCrcEvent (n : Nat) : Nat := 0x310000 + 0x100 * n + 0x8
/-- SCN_CRC_EVENT_EN. -/
abbrev scnCrcEventEn (n : Nat) : Nat := 0x310000 + 0x100 * n + 0xC
/-- SCN_CRC_FRAME_CNT. -/
abbrev scnCrcFrameCnt (n : Nat) : Nat := 0x310000 + 0x100 * n + 0x10
/-- SCN_CRC_MISMATCH_CNT. -/
abbrev scnCrcMismatchCnt (n : Nat) : Nat := 0x310000 + 0x100 * n + 0x14
/-- SCN_CRC_POS. -/
abbrev scnCrcPos (n j : Nat) : Nat := 0x310000 + 0x100 * n + 0x20 + 16 * j
/-- SCN_CRC_SIZE. -/
abbrev scnCrcSize (n j : Nat) : Nat := 0x310000 + 0x100 * n + 0x24 + 16 * j
/-- SCN_CRC_EXPECT. -/
abbrev scnCrcExpect (n j : Nat) : Nat := 0x310000 + 0x100 * n + 0x28 + 16 * j
/-- SCN_CRC_RESULT. -/
abbrev scnCrcResult (n j : Nat) : Nat := 0x310000 + 0x100 * n + 0x2C + 16 * j
/-- SCN_PACE. -/
abbrev scnPace (n : Nat) : Nat := 0x320000 + 0x4 * n
/-- FST_ID. -/
abbrev fstId : Nat := 0x340000
/-- FST_STATUS. -/
abbrev fstStatus : Nat := 0x340000 + 0x4
/-- FST_PEAK. -/
abbrev fstPeak : Nat := 0x340000 + 0x8
/-- FST_BUDGET. -/
abbrev fstBudget : Nat := 0x340000 + 0xC
/-- FST_BUDGET_PCT. -/
abbrev fstBudgetPct : Nat := 0x340000 + 0x10
/-- FST_COMMIT. -/
abbrev fstCommit : Nat := 0x340000 + 0x14
/-- FST_COPY_RATE. -/
abbrev fstCopyRate : Nat := 0x340000 + 0x18
/-- FST_SR_CTRL. -/
abbrev fstSrCtrl : Nat := 0x340000 + 0x1C
/-- FST_SCRUB_CTRL. -/
abbrev fstScrubCtrl : Nat := 0x340000 + 0x20
/-- FST_SCRUB_LAST. -/
abbrev fstScrubLast : Nat := 0x340000 + 0x24
/-- FST_EXTENTS. -/
abbrev fstExtents : Nat := 0x340000 + 0x28
/-- FST_EVENT. -/
abbrev fstEvent : Nat := 0x340000 + 0x2C
/-- FST_CH_STATUS. -/
abbrev fstChStatus (n : Nat) : Nat := 0x341000 + 0x100 * n
/-- FST_CH_CAP. -/
abbrev fstChCap (n : Nat) : Nat := 0x341000 + 0x100 * n + 0x4
/-- FST_CH_LANES. -/
abbrev fstChLanes (n : Nat) : Nat := 0x341000 + 0x100 * n + 0x8
/-- FST_CH_SR_EXIT. -/
abbrev fstChSrExit (n : Nat) : Nat := 0x341000 + 0x100 * n + 0xC
/-- FST_CH_SR_RES. -/
abbrev fstChSrRes (n : Nat) : Nat := 0x341000 + 0x100 * n + 0x10
/-- FST_CH_CE_CNT. -/
abbrev fstChCeCnt (n : Nat) : Nat := 0x341000 + 0x100 * n + 0x14
/-- FST_CH_UE_CNT. -/
abbrev fstChUeCnt (n : Nat) : Nat := 0x341000 + 0x100 * n + 0x18
/-- FST_CH_CE_THRESH. -/
abbrev fstChCeThresh (n : Nat) : Nat := 0x341000 + 0x100 * n + 0x1C
/-- FST_CH_UE_ADDR_LO. -/
abbrev fstChUeAddrLo (n : Nat) : Nat := 0x341000 + 0x100 * n + 0x20
/-- FST_CH_UE_ADDR_HI. -/
abbrev fstChUeAddrHi (n : Nat) : Nat := 0x341000 + 0x100 * n + 0x24
/-- FST_CH_EVENT. -/
abbrev fstChEvent (n : Nat) : Nat := 0x341000 + 0x100 * n + 0x28
/-- FST_CH_EVENT_EN. -/
abbrev fstChEventEn (n : Nat) : Nat := 0x341000 + 0x100 * n + 0x2C
/-- FST_CH_TRAIN_TIME. -/
abbrev fstChTrainTime (n : Nat) : Nat := 0x341000 + 0x100 * n + 0x30
/-- FST_CH_WR_RETRY_CNT. -/
abbrev fstChWrRetryCnt (n : Nat) : Nat := 0x341000 + 0x100 * n + 0x34
/-- FST_TEN_PART. -/
abbrev fstTenPart (n : Nat) : Nat := 0x342000 + 0x40 * n
/-- FST_TEN_SHARE. -/
abbrev fstTenShare (n : Nat) : Nat := 0x342000 + 0x40 * n + 0x4
/-- FST_TEN_LIMIT. -/
abbrev fstTenLimit (n : Nat) : Nat := 0x342000 + 0x40 * n + 0x8
/-- FST_TEN_COMMIT. -/
abbrev fstTenCommit (n : Nat) : Nat := 0x342000 + 0x40 * n + 0xC
/-- FST_TEN_HOST_RES. -/
abbrev fstTenHostRes (n : Nat) : Nat := 0x342000 + 0x40 * n + 0x10
/-- FST_TEN_READY_EXT. -/
abbrev fstTenReadyExt (n : Nat) : Nat := 0x342000 + 0x40 * n + 0x14
/-- FST_TEN_BAR2_BASE. -/
abbrev fstTenBar2Base (n : Nat) : Nat := 0x342000 + 0x40 * n + 0x18
/-- FST_TEN_BAR2_OOR_CNT. -/
abbrev fstTenBar2OorCnt (n : Nat) : Nat := 0x342000 + 0x40 * n + 0x1C
/-- FST_TEN_BW_REFUSED. -/
abbrev fstTenBwRefused (n : Nat) : Nat := 0x342000 + 0x40 * n + 0x20
/-- FST_TEN_DEV. -/
abbrev fstTenDev (n : Nat) : Nat := 0x342000 + 0x40 * n + 0x24
/-- FST_REC_CTRL. -/
abbrev fstRecCtrl (n : Nat) : Nat := 0x344000 + 0x40 * n
/-- FST_REC_BASE. -/
abbrev fstRecBase (n : Nat) : Nat := 0x344000 + 0x40 * n + 0x4
/-- FST_REC_SLOT. -/
abbrev fstRecSlot (n : Nat) : Nat := 0x344000 + 0x40 * n + 0x8
/-- FST_REC_DEPTH. -/
abbrev fstRecDepth (n : Nat) : Nat := 0x344000 + 0x40 * n + 0xC
/-- FST_REC_STATUS. -/
abbrev fstRecStatus (n : Nat) : Nat := 0x344000 + 0x40 * n + 0x10
/-- FST_REC_NEWEST. -/
abbrev fstRecNewest (n : Nat) : Nat := 0x344000 + 0x40 * n + 0x14
/-- FST_REC_SEQ_LO. -/
abbrev fstRecSeqLo (n : Nat) : Nat := 0x344000 + 0x40 * n + 0x18
/-- FST_REC_SEQ_HI. -/
abbrev fstRecSeqHi (n : Nat) : Nat := 0x344000 + 0x40 * n + 0x1C
/-- FST_REC_EVENT. -/
abbrev fstRecEvent (n : Nat) : Nat := 0x344000 + 0x40 * n + 0x20
/-- FST_REC_EVENT_EN. -/
abbrev fstRecEventEn (n : Nat) : Nat := 0x344000 + 0x40 * n + 0x24
/-- FST_REC_SKIP_CNT. -/
abbrev fstRecSkipCnt (n : Nat) : Nat := 0x344000 + 0x40 * n + 0x28
/-- FST_REC_BW. -/
abbrev fstRecBw (n : Nat) : Nat := 0x344000 + 0x40 * n + 0x2C
/-- FST_REC_ID. -/
abbrev fstRecId (n : Nat) : Nat := 0x344000 + 0x40 * n + 0x30
/-- FST_PLY_CTRL. -/
abbrev fstPlyCtrl (n : Nat) : Nat := 0x348000 + 0x40 * n
/-- FST_PLY_TG. -/
abbrev fstPlyTg (n : Nat) : Nat := 0x348000 + 0x40 * n + 0x4
/-- FST_PLY_DELAY. -/
abbrev fstPlyDelay (n : Nat) : Nat := 0x348000 + 0x40 * n + 0x8
/-- FST_PLY_CUE_LO. -/
abbrev fstPlyCueLo (n : Nat) : Nat := 0x348000 + 0x40 * n + 0xC
/-- FST_PLY_CUE_HI. -/
abbrev fstPlyCueHi (n : Nat) : Nat := 0x348000 + 0x40 * n + 0x10
/-- FST_PLY_STATUS. -/
abbrev fstPlyStatus (n : Nat) : Nat := 0x348000 + 0x40 * n + 0x14
/-- FST_PLY_SHOWN_LO. -/
abbrev fstPlyShownLo (n : Nat) : Nat := 0x348000 + 0x40 * n + 0x18
/-- FST_PLY_SHOWN_HI. -/
abbrev fstPlyShownHi (n : Nat) : Nat := 0x348000 + 0x40 * n + 0x1C
/-- FST_PLY_EVENT. -/
abbrev fstPlyEvent (n : Nat) : Nat := 0x348000 + 0x40 * n + 0x20
/-- FST_PLY_EVENT_EN. -/
abbrev fstPlyEventEn (n : Nat) : Nat := 0x348000 + 0x40 * n + 0x24
/-- FST_PLY_POISON_CNT. -/
abbrev fstPlyPoisonCnt (n : Nat) : Nat := 0x348000 + 0x40 * n + 0x28
/-- FST_PLY_BW. -/
abbrev fstPlyBw (n : Nat) : Nat := 0x348000 + 0x40 * n + 0x2C
/-- FST_PLY_ID. -/
abbrev fstPlyId (n : Nat) : Nat := 0x348000 + 0x40 * n + 0x30
/-- FST_LANE_MAP. -/
abbrev fstLaneMap (n j : Nat) : Nat := 0x350000 + 0x20 * n + 4 * j
/-- AUD_ID. -/
abbrev audId : Nat := 0x380000
/-- AUD_HOUSE_SEQ_LO. -/
abbrev audHouseSeqLo : Nat := 0x380000 + 0x4
/-- AUD_HOUSE_SEQ_HI. -/
abbrev audHouseSeqHi : Nat := 0x380000 + 0x8
/-- AUD_TEN_LAST. -/
abbrev audTenLast (j : Nat) : Nat := 0x380000 + 0x10 + 4 * j
/-- AUD_TEN_AMO_EVENT_EN. -/
abbrev audTenAmoEventEn (j : Nat) : Nat := 0x380000 + 0x20 + 4 * j
/-- AUD_DOM_CFG. -/
abbrev audDomCfg (n : Nat) : Nat := 0x380100 + 0x20 * n
/-- AUD_DOM_STATUS. -/
abbrev audDomStatus (n : Nat) : Nat := 0x380100 + 0x20 * n + 0x4
/-- AUD_DOM_RATIO. -/
abbrev audDomRatio (n : Nat) : Nat := 0x380100 + 0x20 * n + 0x8
/-- AUD_DOM_EVENT. -/
abbrev audDomEvent (n : Nat) : Nat := 0x380100 + 0x20 * n + 0xC
/-- AUD_DOM_EVENT_EN. -/
abbrev audDomEventEn (n : Nat) : Nat := 0x380100 + 0x20 * n + 0x10
/-- AUD_DOM_GLITCH_CNT. -/
abbrev audDomGlitchCnt (n : Nat) : Nat := 0x380100 + 0x20 * n + 0x14
/-- AUD_DOM_LOST_CNT. -/
abbrev audDomLostCnt (n : Nat) : Nat := 0x380100 + 0x20 * n + 0x18
/-- AUD_DOM_SLIP_CNT. -/
abbrev audDomSlipCnt (n : Nat) : Nat := 0x380100 + 0x20 * n + 0x1C
/-- AUD_AMI_STATUS. -/
abbrev audAmiStatus (n : Nat) : Nat := 0x384000 + 0x4 * n
/-- AUD_AMO_SRC. -/
abbrev audAmoSrc (n : Nat) : Nat := 0x38C000 + 0x10 * n
/-- AUD_AMO_CFG. -/
abbrev audAmoCfg (n : Nat) : Nat := 0x38C000 + 0x10 * n + 0x4
/-- AUD_AMO_EVENT. -/
abbrev audAmoEvent (n : Nat) : Nat := 0x38C000 + 0x10 * n + 0x8
/-- AUD_AMO_FAULT_CNT. -/
abbrev audAmoFaultCnt (n : Nat) : Nat := 0x38C000 + 0x10 * n + 0xC
/-- AUD_SAP_ID. -/
abbrev audSapId (n : Nat) : Nat := 0x3AC000 + 0x100 * n
/-- AUD_SAP_RX_BIND. -/
abbrev audSapRxBind (n : Nat) : Nat := 0x3AC000 + 0x100 * n + 0x4
/-- AUD_SAP_TX_BIND. -/
abbrev audSapTxBind (n : Nat) : Nat := 0x3AC000 + 0x100 * n + 0x8
/-- AUD_SAP_RX_CFG. -/
abbrev audSapRxCfg (n : Nat) : Nat := 0x3AC000 + 0x100 * n + 0xC
/-- AUD_SAP_TX_CFG. -/
abbrev audSapTxCfg (n : Nat) : Nat := 0x3AC000 + 0x100 * n + 0x10
/-- AUD_SAP_RX_MASK. -/
abbrev audSapRxMask (n : Nat) : Nat := 0x3AC000 + 0x100 * n + 0x14
/-- AUD_SAP_TX_MASK. -/
abbrev audSapTxMask (n : Nat) : Nat := 0x3AC000 + 0x100 * n + 0x18
/-- AUD_SAP_STATUS. -/
abbrev audSapStatus (n : Nat) : Nat := 0x3AC000 + 0x100 * n + 0x1C
/-- AUD_SAP_EVENT. -/
abbrev audSapEvent (n : Nat) : Nat := 0x3AC000 + 0x100 * n + 0x20
/-- AUD_SAP_EVENT_EN. -/
abbrev audSapEventEn (n : Nat) : Nat := 0x3AC000 + 0x100 * n + 0x24
/-- AUD_SAP_FRAME_ERR_CNT. -/
abbrev audSapFrameErrCnt (n : Nat) : Nat := 0x3AC000 + 0x100 * n + 0x28
/-- AUD_SAP_TAP_CTRL. -/
abbrev audSapTapCtrl (n : Nat) : Nat := 0x3AC000 + 0x100 * n + 0x40
/-- AUD_SAP_TAP_BASE_LO. -/
abbrev audSapTapBaseLo (n : Nat) : Nat := 0x3AC000 + 0x100 * n + 0x44
/-- AUD_SAP_TAP_BASE_HI. -/
abbrev audSapTapBaseHi (n : Nat) : Nat := 0x3AC000 + 0x100 * n + 0x48
/-- AUD_SAP_TAP_SIZE. -/
abbrev audSapTapSize (n : Nat) : Nat := 0x3AC000 + 0x100 * n + 0x4C
/-- AUD_SAP_TAP_WR. -/
abbrev audSapTapWr (n : Nat) : Nat := 0x3AC000 + 0x100 * n + 0x50
/-- AUD_SAP_TAP_RD. -/
abbrev audSapTapRd (n : Nat) : Nat := 0x3AC000 + 0x100 * n + 0x54
/-- AUD_SAP_TAP_OVF_CNT. -/
abbrev audSapTapOvfCnt (n : Nat) : Nat := 0x3AC000 + 0x100 * n + 0x58
/-- AUD_AI_CFG. -/
abbrev audAiCfg (n : Nat) : Nat := 0x3AD000 + 0x100 * n
/-- AUD_AI_STATUS. -/
abbrev audAiStatus (n : Nat) : Nat := 0x3AD000 + 0x100 * n + 0x4
/-- AUD_AI_EVENT. -/
abbrev audAiEvent (n : Nat) : Nat := 0x3AD000 + 0x100 * n + 0x8
/-- AUD_AI_EVENT_EN. -/
abbrev audAiEventEn (n : Nat) : Nat := 0x3AD000 + 0x100 * n + 0xC
/-- AUD_AI_PARITY_CNT. -/
abbrev audAiParityCnt (n : Nat) : Nat := 0x3AD000 + 0x100 * n + 0x10
/-- AUD_AI_CRC_CNT. -/
abbrev audAiCrcCnt (n : Nat) : Nat := 0x3AD000 + 0x100 * n + 0x14
/-- AUD_AI_BIND. -/
abbrev audAiBind (n : Nat) : Nat := 0x3AD000 + 0x100 * n + 0x18
/-- AUD_AI_CS_A. -/
abbrev audAiCsA (n j : Nat) : Nat := 0x3AD000 + 0x100 * n + 0x20 + 4 * j
/-- AUD_AI_CS_B. -/
abbrev audAiCsB (n j : Nat) : Nat := 0x3AD000 + 0x100 * n + 0x40 + 4 * j
/-- AUD_AO_CFG. -/
abbrev audAoCfg (n : Nat) : Nat := 0x3AD800 + 0x100 * n
/-- AUD_AO_STATUS. -/
abbrev audAoStatus (n : Nat) : Nat := 0x3AD800 + 0x100 * n + 0x4
/-- AUD_AO_BIND. -/
abbrev audAoBind (n : Nat) : Nat := 0x3AD800 + 0x100 * n + 0x18
/-- AUD_AO_CS_A. -/
abbrev audAoCsA (n j : Nat) : Nat := 0x3AD800 + 0x100 * n + 0x20 + 4 * j
/-- AUD_AO_CS_B. -/
abbrev audAoCsB (n j : Nat) : Nat := 0x3AD800 + 0x100 * n + 0x40 + 4 * j
/-- AUD_SRC_CFG. -/
abbrev audSrcCfg (n : Nat) : Nat := 0x3AE000 + 0x20 * n
/-- AUD_SRC_BIND. -/
abbrev audSrcBind (n : Nat) : Nat := 0x3AE000 + 0x20 * n + 0x4
/-- AUD_SRC_STATUS. -/
abbrev audSrcStatus (n : Nat) : Nat := 0x3AE000 + 0x20 * n + 0x8
/-- AUD_SRC_RATIO. -/
abbrev audSrcRatio (n : Nat) : Nat := 0x3AE000 + 0x20 * n + 0xC
/-- AUD_SRC_EVENT. -/
abbrev audSrcEvent (n : Nat) : Nat := 0x3AE000 + 0x20 * n + 0x10
/-- AUD_SRC_EVENT_EN. -/
abbrev audSrcEventEn (n : Nat) : Nat := 0x3AE000 + 0x20 * n + 0x14
/-- AUD_AGRP_CFG. -/
abbrev audAgrpCfg (n : Nat) : Nat := 0x3B2000 + 0x20 * n
/-- AUD_AGRP_STATUS. -/
abbrev audAgrpStatus (n : Nat) : Nat := 0x3B2000 + 0x20 * n + 0x4
/-- AUD_AGRP_EVENT. -/
abbrev audAgrpEvent (n : Nat) : Nat := 0x3B2000 + 0x20 * n + 0x8
/-- AUD_AGRP_EVENT_EN. -/
abbrev audAgrpEventEn (n : Nat) : Nat := 0x3B2000 + 0x20 * n + 0xC
/-- AUD_AGRP_UNDER_CNT. -/
abbrev audAgrpUnderCnt (n : Nat) : Nat := 0x3B2000 + 0x20 * n + 0x10
/-- FID_ID. -/
abbrev fidId (n : Nat) : Nat := 0x3C0000 + 0x40 * n
/-- FID_STATUS. -/
abbrev fidStatus (n : Nat) : Nat := 0x3C0000 + 0x40 * n + 0x4
/-- FID_VER. -/
abbrev fidVer (n : Nat) : Nat := 0x3C0000 + 0x40 * n + 0x8
/-- FID_TRAP. -/
abbrev fidTrap (n : Nat) : Nat := 0x3C0000 + 0x40 * n + 0xC
/-- FID_EVENT. -/
abbrev fidEvent (n : Nat) : Nat := 0x3C0000 + 0x40 * n + 0x10
/-- FID_EVENT_EN. -/
abbrev fidEventEn (n : Nat) : Nat := 0x3C0000 + 0x40 * n + 0x14
/-- FID_BUSY. -/
abbrev fidBusy (n : Nat) : Nat := 0x3C0000 + 0x40 * n + 0x18
/-- FID_HOOK_CTRL. -/
abbrev fidHookCtrl (n i : Nat) : Nat := 0x3D0000 + 0x200 * n + 0x80 * i
/-- FID_HOOK_MASK. -/
abbrev fidHookMask (n i : Nat) : Nat := 0x3D0000 + 0x200 * n + 0x80 * i + 0x4
/-- FID_HOOK_STATUS. -/
abbrev fidHookStatus (n i : Nat) : Nat := 0x3D0000 + 0x200 * n + 0x80 * i + 0x8
/-- FID_HOOK_EVENT. -/
abbrev fidHookEvent (n i : Nat) : Nat := 0x3D0000 + 0x200 * n + 0x80 * i + 0xC
/-- FID_HOOK_EVENT_EN. -/
abbrev fidHookEventEn (n i : Nat) : Nat := 0x3D0000 + 0x200 * n + 0x80 * i + 0x10
/-- FID_HOOK_RUN_CNT. -/
abbrev fidHookRunCnt (n i : Nat) : Nat := 0x3D0000 + 0x200 * n + 0x80 * i + 0x14
/-- FID_HOOK_TIMEOUT_CNT. -/
abbrev fidHookTimeoutCnt (n i : Nat) : Nat := 0x3D0000 + 0x200 * n + 0x80 * i + 0x18
/-- FID_HOOK_SKIP_CNT. -/
abbrev fidHookSkipCnt (n i : Nat) : Nat := 0x3D0000 + 0x200 * n + 0x80 * i + 0x1C
/-- FID_HOOK_DENIED_CNT. -/
abbrev fidHookDeniedCnt (n i : Nat) : Nat := 0x3D0000 + 0x200 * n + 0x80 * i + 0x20
/-- FID_HOOK_MAX_NS. -/
abbrev fidHookMaxNs (n i : Nat) : Nat := 0x3D0000 + 0x200 * n + 0x80 * i + 0x24
/-- REC_ID. -/
abbrev recId : Nat := 0x3E0000
/-- REC_STATUS. -/
abbrev recStatus : Nat := 0x3E0000 + 0x4
/-- REC_EVENT. -/
abbrev recEvent : Nat := 0x3E0000 + 0x8
/-- REC_EVENT_EN. -/
abbrev recEventEn : Nat := 0x3E0000 + 0xC
/-- REC_EPOCH. -/
abbrev recEpoch : Nat := 0x3E0000 + 0x10
/-- REC_TWIN_CNT. -/
abbrev recTwinCnt : Nat := 0x3E0000 + 0x14
/-- REC_TORN_CNT. -/
abbrev recTornCnt : Nat := 0x3E0000 + 0x18
/-- REC_CORR_CNT. -/
abbrev recCorrCnt : Nat := 0x3E0000 + 0x1C
/-- REC_BAD_CNT. -/
abbrev recBadCnt : Nat := 0x3E0000 + 0x20
/-- REC_OWNER_CTRL. -/
abbrev recOwnerCtrl : Nat := 0x3E0000 + 0x24
/-- REC_OWNER_STAGE. -/
abbrev recOwnerStage (j : Nat) : Nat := 0x3E0000 + 0x40 + 4 * j
/-- REC_OWNER_HASH. -/
abbrev recOwnerHash (j : Nat) : Nat := 0x3E0000 + 0x80 + 4 * j
/-- REC_RING_SEQ_LO. -/
abbrev recRingSeqLo (j : Nat) : Nat := 0x3E0000 + 0x100 + 16 * j
/-- REC_RING_SEQ_HI. -/
abbrev recRingSeqHi (j : Nat) : Nat := 0x3E0000 + 0x104 + 16 * j
/-- REC_RING_POS. -/
abbrev recRingPos (j : Nat) : Nat := 0x3E0000 + 0x108 + 16 * j
/-- REC_RING_PASS. -/
abbrev recRingPass (j : Nat) : Nat := 0x3E0000 + 0x10C + 16 * j
/-- KEY_ID. -/
abbrev keyId : Nat := 0x3F0000
/-- KEY_STATUS. -/
abbrev keyStatus : Nat := 0x3F0000 + 0x4
/-- KEY_EVENT. -/
abbrev keyEvent : Nat := 0x3F0000 + 0x8
/-- KEY_EVENT_EN. -/
abbrev keyEventEn : Nat := 0x3F0000 + 0xC
/-- KEY_TAMPER_STATUS. -/
abbrev keyTamperStatus : Nat := 0x3F0000 + 0x10
/-- KEY_TAMPER_CNT. -/
abbrev keyTamperCnt : Nat := 0x3F0000 + 0x14
/-- KEY_ROLLBACK_CNT. -/
abbrev keyRollbackCnt : Nat := 0x3F0000 + 0x18
/-- KEY_ROLLBACK_LAST. -/
abbrev keyRollbackLast : Nat := 0x3F0000 + 0x1C
/-- KEY_ATTEST_SLOT. -/
abbrev keyAttestSlot : Nat := 0x3F0000 + 0x20
/-- KEY_DIGEST. -/
abbrev keyDigest (j : Nat) : Nat := 0x3F0000 + 0x40 + 4 * j
/-- KEY_SLOT_ATTR. -/
abbrev keySlotAttr (j : Nat) : Nat := 0x3F0000 + 0x1000 + 4 * j

end Reg

end Sys2Proof.Machine
end

