-- ==== Sys2Proof/Machine/State.lean ====
section
/-! DEFINITION. The state of the part: every register, memory, queue, mode and pin the spec gives it, the state its
prose implies (change sets, calibration runs, copies in progress), the queue of waiting commands, and the model's own
fields (the outputs of the last command and a counter that free values are drawn by). Plain data throughout. -/

namespace Sys2Proof.Machine

/-- Why the machine stops. A fault is the model's own stop: it stands where the spec gives a command no effect at all. Safe. -/
inductive Fault where
  /-- Raised by nothing the spec describes: the part reports every error in a register, an event or a completion. Safe. -/
  | none
  deriving DecidableEq, Repr

/-- Why a command has no meaning. -/
inductive Refusal where
  /-- The command's meaning has not been written. Safe. -/
  | notModelled (mnemonic : String)
  deriving DecidableEq, Repr

/-- A completion entry (R637) before its bytes are laid out. -/
structure Completion where
  result : Nat
  object : Nat
  sqHead : Nat
  sqId : Nat
  cid : Nat
  status : Nat
  poisoned : Bool
  phase : Bool
  deriving DecidableEq, Repr

/-- An event entry (R638) before its bytes are laid out. -/
structure EventEntry where
  type : Nat
  cont : Bool
  phase : Bool
  seq : Nat
  time : Nat
  object : Nat
  code : Nat
  data : List Byte
  deriving DecidableEq, Repr

/-- What a completion queue or an event ring holds beyond its registers (R627, R641): entries written and not consumed, the phase of
the next entry, entries waiting in the part, entries not yet reported by a message, the sequence number, the events dropped, and when the first entry not yet reported was
written (R648). -/
structure RingState (α : Type) where
  entries : List α
  phase : Bool
  waiting : List α
  unreported : Nat
  seq : Nat
  lost : Nat
  since : Nat
  deriving DecidableEq, Repr

/-- One DMA transfer in an engine's queue (R644). -/
structure DmaJob where
  origin : Origin
  req : DmaRequest
  deriving DecidableEq, Repr

/-- Where a batch stands (R278 to R285). -/
inductive BatchPhase where
  /-- Commands are being taken. -/
  | collecting
  /-- BATCH_OPEN was refused: commands up to BATCH_CLOSE are aborted (R279). -/
  | refused
  /-- A command was refused: the rest is aborted and BATCH_CLOSE carries this status and object (R282). -/
  | undone (status object : Nat)
  deriving DecidableEq, Repr

/-- How a splice switches: an essence splice, or one of the taut classes of R207. -/
inductive SpliceClass where
  | essence
  | sdiFrame
  | ethBlock
  | rawCut
  deriving DecidableEq, Repr

/-- The fields of a flow descriptor (R164 to R166). `path` entries are destination, source, UDP port and VLAN. -/
structure FlowDesc where
  flow : Nat
  kind : Nat
  send : Bool
  enable : Bool
  paired : Bool
  ssm : Bool
  quad : Nat
  ifA : Nat
  ifB : Nat
  pathA : Nat × Nat × Nat × Nat
  pathB : Nat × Nat × Nat × Nat
  pt : Nat
  dscp : Nat
  port : Nat
  ssrc : Nat
  depth : Nat
  skewMax : Nat
  width : Nat
  height : Nat
  rateNum : Nat
  rateDen : Nat
  sampling : Nat
  bits : Nat
  colour : Nat
  range : Nat
  scan : Nat
  pm : Nat
  tp : Nat
  channels : Nat
  arate : Nat
  abits : Nat
  ptime : Nat
  rsvd : Nat
  deriving DecidableEq, Repr

/-- A new value that takes effect when its change set commits: a pending copy (R250). -/
inductive PendOp where
  | bind (dest : Nat) (source : Option Nat)
  | reg (addr : Nat) (v : Word)
  | flow (key : Nat) (d : FlowDesc)
  | audio (amo : Nat) (ami : Option Nat)
  deriving DecidableEq, Repr

/-- A destination's armed change (R200 to R212): its new source (none for a release), flags, class, the promotion reserve (generator,
buffer bytes) it holds, when it was accepted (R223, R228), and the format a taut splice was armed for (R210). -/
structure Arm where
  dest : Nat
  source : Option Nat
  allowAbsent : Bool
  noPromote : Bool
  cls : SpliceClass
  reserve : Option (Nat × Nat)
  promote : Bool
  latency : Nat
  origin : Option Origin
  switched : Bool
  accepted : Nat
  format : Option Format
  deriving DecidableEq, Repr

/-- The kinds of change set (R248). -/
inductive SetKind where
  | splice
  | group
  | batch
  | staged
  deriving DecidableEq, Repr

/-- Where a change set stands (R198, R252). -/
inductive SetPhase where
  | collecting
  | armed
  | preroll
  | decided
  | deferred
  deriving DecidableEq, Repr

/-- What a set's shadow contexts and SPLICE hooks have raised and hold until it commits (R269, R601): a note of a tenancy, TAPS_REDUCED of an engine or layer,
or an event bit of a hook window. -/
inductive Held where
  | note (f t code a b : Nat)
  | taps (obj : Nat)
  | hook (h t b : Nat)
  deriving DecidableEq, Repr

/-- A change set (R248): identifier in order of acceptance, owner, group, leader (DEST code, or 0xFFFE for an engine leader),
members, the engines of its branch by object code, its pending copies, the commands that complete with it, its reservation by object (R273),
and its trial's state. -/
structure ChangeSet where
  id : Nat
  kind : SetKind
  owner : Nat
  group : Nat
  leader : Nat
  mode : Nat
  time : Nat
  taken : Bool
  phase : SetPhase
  arms : List Arm
  engines : List Nat
  ops : List PendOp
  origins : List Origin
  accepted : Nat
  deferrals : Nat
  reserved : List (Nat × Nat)
  entered : Bool
  checked : Bool
  point : Nat
  late : Bool
  held : List Held
  switchedEngines : List Nat
  deriving DecidableEq, Repr

/-- A batch on a submission queue (R278 to R285): its phase, the change set that collects its commands, its opening time and the commands counted. -/
structure Batch where
  phase : BatchPhase
  set : Nat
  since : Nat
  count : Nat
  deriving DecidableEq, Repr

/-- The host interface's state beside its registers (chapter 14). Keys: rings by 64 × tenancy + queue, fences and held halves by
256 × tenancy + fence, the MSI-X table by 1024 × tenancy + word, pending bits by 256 × tenancy + vector. -/
structure HostState where
  cqs : Tab (RingState Completion)
  evqs : Tab (RingState EventEntry)
  fences : Tab DWord
  fenceHeld : Tab Word
  lanyardLast : Tab Nat
  batches : Tab Batch
  dmaOwner : Tab Nat
  dmaQueues : Tab (List DmaJob)
  msixTable : Tab Word
  msixPending : Tab Bool
  bifurcation : Option Nat
  linksDetect : Bool
  mgmtModes : Bool
  mgmtAddress : Nat
  alerts : Nat
  challenge : Option (List Byte)
  aerEcrc : Nat
  aerNonFatal : Nat
  subsys : Nat × Nat
  deriving DecidableEq, Repr

/-- A STRAND_CONFIG that has been accepted and not completed (R109). -/
structure StrandJob where
  origin : Origin
  cfg : StrandEntry
  deriving DecidableEq, Repr

/-- The strands' state beside their registers (chapter 3): when SEEK or LOS was last left, the equaliser mode in force, transmit PLLs locked, the last
format of each taut egress's ingress, strands released from BRINGUP, SYNC_FAIL raised in this SYNC, eye points running, changes in progress by leader,
strands of the early map, its taut hitches by egress and which of them are not yet made, BIGHT_INIT, receivers that feed the strand matrix (R797), receivers that fed it and lost their
signal, lanes in use of each display port, taut egresses that wait for their splice point after a re-rig, the time since which a PRBS checker and a protocol error counter
count what was not read yet, bytes written to the DPCD by 2²⁰ × port + address and to SCDC by 256 × port + offset, EDID reads in progress (1 on connect, 2 repeated), and SOURCE
ports in link training. -/
structure StrandState where
  leftSeek : Tab Nat
  eqMode : Tab Nat
  pllLocked : Tab Bool
  tautFormat : Tab Format
  released : Tab Bool
  syncFailed : Tab Bool
  eyeBusy : Tab Bool
  jobs : Tab StrandJob
  early : Tab Bool
  earlyHitches : Tab Nat
  earlyPending : List Nat
  bightInit : Tab Bool
  feeds : Tab Bool
  wasLost : Tab Bool
  dpLanes : Tab Nat
  restores : List Nat
  prbsSince : Tab Nat
  errSince : Tab Nat
  dpcd : Tab Nat
  scdc : Tab Nat
  edidWait : Tab Nat
  training : Tab Bool
  deriving DecidableEq, Repr

/-- A packet a receive flow has taken (R174 to R176): its sequence number, RTP timestamp and arrival in ns, the path of its first copy, whether the other path brought it too, and
the first copy's RTP payload. -/
structure SeenPkt where
  seq : Nat
  ts : Nat
  time : Nat
  path : Nat
  both : Bool
  payload : List Byte
  deriving DecidableEq, Repr

/-- A packet that waits in a send flow's pacing buffer (R171): its RTP timestamp and marker, and its payload without an extended sequence number. -/
structure OutPkt where
  ts : Nat
  marker : Bool
  payload : List Nat
  deriving DecidableEq, Repr

/-- A receive or send flow (chapter 4): its descriptor; the packets taken; when packets last came, on any path and on each; the next sequence number and the packets sent; the RTP
timestamp of the last frame or block released and the last sequence number accounted for (R168, R174); the frame for which FLOW_MISMATCH was raised (R169); the packets that wait to
be sent, and what is collected for the next one, a list of samples per channel, each with its V bit (of a receiver, the C bits of the status
block being assembled); the timestamp of the frame or block being sent; the last line received, which fills for missing
samples; ancillary packets that wait for their frame, with their timestamp and arrival (R170); and the inputs of the 2:1
filters by channel. -/
structure Flow where
  desc : FlowDesc
  seen : List SeenPkt
  lastPacket : Nat
  lastA : Nat
  lastB : Nat
  seqOut : Nat
  sentPackets : Nat
  released : Option Nat
  lastSeq : Option Nat
  mismatchTs : Option Nat
  queue : List OutPkt
  partials : List (List (Int × Bool))
  tsOut : Nat
  lastRow : List (Nat × Nat × Nat)
  waiting : List (Nat × Nat × List AncPacket)
  filters : Tab (List Int)
  deriving DecidableEq, Repr

/-- A MACsec association (R181). -/
structure Sa where
  key : Nat
  nextPn : Nat
  ssci : Word
  salt : Nat
  valid : Bool
  deriving DecidableEq, Repr

/-- State of the wire formats (chapter 4). Flows by 0x1_0000 × class + number (0 video, 1 audio, 2 ancillary); associations by
interface, direction, channel and association; formats detected by strand; the frame awaiting ETH_SEND_FRAME completion by interface; PTP: mean path delays, two-step Syncs
that wait, and the next Delay_Req sequence number, by interface; the ancillary packets an encoder is to place, by 0x4000 × EO + line (R185); a sink's mastering metadata (R187); the audio a decoder finds (R508,
R509); and the display sources set to 4:2:0, by port (R144). -/
structure WireState where
  flows : Tab Flow
  sas : Tab Sa
  formats : Tab Format
  sending : Tab Origin
  pathDelay : Tab Int
  ptpSync : Tab Nat
  ptpSeq : Tab Nat
  ancPlan : Tab (List AncPacket)
  mastering : Tab (List Byte)
  audio : Tab WireAudio
  halved : List Nat
  deriving DecidableEq, Repr

/-- A promoted egress (R214): the generator and buffer bytes it holds, the added latency P in ns, aligned measurements in a
row, and the number of the source frame it emits, counted from the switch. -/
structure Promo where
  tg : Nat
  bytes : Nat
  latency : Nat
  aligned : Nat
  frame : Nat
  deriving DecidableEq, Repr

/-- What an output does for want of its source (R232 to R235, R651): the frames of hold left (none: for as long as it lasts),
and why. -/
inductive LossWhy where
  | absent
  | slip
  | adrift
  | drain
  | noHitch
  deriving DecidableEq, Repr

/-- An output on hold or fill. -/
structure Loss where
  why : LossWhy
  holding : Bool
  framesLeft : Option Nat
  deriving DecidableEq, Repr

/-- A hold buffer of two frames (R233, R381): the last complete one and the one being written, by line, and whether poison makes its reader take the other (R446). -/
structure HoldBuf where
  last : SrcLines
  other : SrcLines
  poisoned : Bool
  deriving DecidableEq, Repr

/-- State of the splice matrix and change sets (chapters 5 and 6); blockReturns lists the egress strands of an ETH_BLOCK splice that still send Local Fault (R208);
holdBufs holds the hold buffers of encoders and LIVE layers by EO port. -/
structure SpliceState where
  sets : List ChangeSet
  nextSet : Nat
  promos : Tab Promo
  losses : Tab Loss
  reloading : Tab (List (Nat × Word))
  blockReturns : Tab Nat
  lossEff : Tab Bool
  complete : Tab Bool
  holdBufs : Tab HoldBuf
  eiBind : Tab Producer
  eoBind : Tab Consumer
  owners : Tab Nat
  grants : Tab Nat
  deriving DecidableEq, Repr

/-- The two rig slots. -/
inductive Slot where
  | a
  | b
  deriving DecidableEq, Repr

/-- The rig selector (R59). -/
structure Selector where
  active : Option Slot
  validA : Bool
  validB : Bool
  trialSlot : Slot
  trialPending : Bool
  floor : Nat
  deriving DecidableEq, Repr

/-- A re-rig in progress (R70 to R79): its slot, zones, the zones done, whether it is returning zones after a failure (and with what), its command, the
plain bytes of the sections staged in work SRAM, whether the zone at work has its new content, the hitches it drops, and when the zone at work stopped. -/
structure Rezone where
  slot : Slot
  mask : Nat
  done : List Nat
  verified : Bool
  failed : Option Nat
  origin : Origin
  staged : List (Nat × List Nat)
  applied : Bool
  drops : List (Bool × Nat × List (Option Nat))
  stoppedAt : Nat
  deriving DecidableEq, Repr

/-- A slot write in progress (R66, R68, R69): the bytes it covers, what host memory holds for them, what the plan sections will say, and whether VALID is cleared and the
sectors are erased. -/
structure SlotJob where
  slot : Slot
  origin : Origin
  offset : Nat
  length : Nat
  data : Option (List Byte)
  plans : Option Plans
  erased : Bool
  deriving DecidableEq, Repr

/-- State of the rig image (chapter 2). -/
structure RigState where
  slotA : Option RigImage
  slotB : Option RigImage
  selector : Selector
  running : Option RigImage
  runningSlot : Option Slot
  loading : Option Slot
  loadingTrial : Bool
  fellBack : Bool
  writes : List SlotJob
  verifies : List (Slot × Origin)
  rezone : Option Rezone
  earlyApplied : Option (List Nat)
  deriving DecidableEq, Repr

/-- State of the control fabric beside its registers (chapter 15): the locked sequence's holder and blocks, and the words of the work SRAM by byte address where not 0. -/
structure FabricState where
  lock : Option (Nat × List Nat)
  sram : Tab Nat
  deriving DecidableEq, Repr

/-- A registered buffer (R370). -/
structure Handle where
  owner : Nat
  offset : Nat
  format : Nat
  width : Nat
  height : Nat
  pitch : Nat
  colour : Nat
  range : Nat
  deriving DecidableEq, Repr

/-- A FLIP that has not been taken (R373): fence 0xFFFF for none, and the command it completes, if one. -/
structure Flip where
  handle : Nat
  fence : Nat
  value : DWord
  target : Nat
  origin : Option Origin
  late : Bool
  deriving DecidableEq, Repr

/-- A layer beside its registers: output frames in a row in which it was static (R365), frames held, whether it raised SOURCE_LOST,
whether the present frame already raised FETCH_FAULT or POISONED, and the delay-line sequence it reads, with the one it read in the frame before. -/
structure LayerSt where
  static : Nat
  held : Nat
  lost : Bool
  faulted : Bool
  poisoned : Bool
  shown : Option Nat
  prev : Option Nat
  deriving DecidableEq, Repr

/-- A field or frame that a sheet bend's ring holds: its number, its start time and whether it is field 2. -/
structure SheetFrame where
  no : Nat
  start : Nat
  second : Bool
  deriving DecidableEq, Repr

/-- A sheet bend beside its registers: the frame it reads with the weight of the one blended in (R313) and whether it repeats it, frames held, whether it raised SOURCE_LOST, whether
it holds or fills for want of a new frame (R303), whether each of its last fields or frames matched by the metrics D and K, newest first (R314), the last fields or frames written,
oldest first, and how many were, the lines of the output frame so far and of the frame before, and whether poison makes it repeat that one (R446). -/
structure SheetSt where
  read : Option Nat
  weight : Nat
  repeated : Bool
  held : Nat
  lost : Bool
  stalled : Bool
  histD : List Bool
  histK : List Bool
  frames : List SheetFrame
  count : Nat
  lines : Tab (List Px)
  before : Tab (List Px)
  poisoned : Bool
  deriving DecidableEq, Repr

/-- A generator beside its registers: its re-time gap, with its end, its length and whether the new timing is then in phase, the end of its lock step, its frames shown as fill until
LOCKED (R418), the time of its last line start, its CRC accumulators and mismatches of the present frame, and when the essence it is locked to was last seen aligned. -/
structure GenSt where
  gap : Option (Nat × Nat × Bool)
  stepping : Option Nat
  fillUntilLocked : Bool
  lineAt : Nat
  crc : Tab Nat
  mismatch : Bool
  sourceAt : Option Nat
  deriving DecidableEq, Repr

/-- A flip taken at a decision instant (R373, R374): its layer, the handle whose scan ends at the splice point, and its command, which completes there. -/
structure Taken where
  layer : Nat
  old : Option Nat
  origin : Option Origin
  deriving DecidableEq, Repr

/-- A coil surface in use (R367): the frame that forms it is in progress, and its lines by number. -/
structure CoilSt where
  forming : Bool
  lines : Tab (List Px)
  deriving DecidableEq, Repr

/-- State of sheet bends, compositors and timing generators (chapters 7 to 9). Tables by engine × 0x10000 + table × 0x1000 + word;
flips and layers by layer number 8 × compositor + layer. -/
structure EngineState where
  sbTable : Tab Nat
  cpTable : Tab Nat
  handles : Tab Handle
  flips : Tab Flip
  layers : Tab LayerSt
  sheets : Tab SheetSt
  gens : Tab GenSt
  layerEos : Tab Nat
  gangs : List Nat
  taken : List Taken
  coils : Tab CoilSt
  deriving DecidableEq, Repr

/-- A slot header of a delay line (R462). -/
structure SlotHead where
  seq : Nat
  time : Nat
  fmt : Word
  size : Word
  rate : Word
  store : Nat
  flags : Nat
  deriving DecidableEq, Repr

/-- A recorder beside its registers: the next SEQ and slot, the slot being written, its slots' headers, the format of its last input,
and whether it raised SOURCE_LOST. -/
structure RecSt where
  nextSeq : Nat
  nextSlot : Nat
  writing : Option Nat
  heads : Tab SlotHead
  fmt : Option Format
  lost : Bool
  skipped : Bool
  deriving DecidableEq, Repr

/-- A player beside its registers: the SEQ it reads and the one before, whether poison makes it repeat that one (R446), when it entered PLAY, whether it reached the newest slot,
whether it raised SOURCE_LOST. -/
structure PlySt where
  shown : Option Nat
  prev : Option Nat
  poisoned : Bool
  since : Nat
  atEnd : Bool
  lost : Bool
  deriving DecidableEq, Repr

/-- A copy between channels in progress (R473, R475): its channel, whether it is a rebalance, the lanes left as extent and lane, and its command. -/
structure CopyJob where
  ch : Nat
  rebalance : Bool
  left : List (Nat × Nat)
  stopping : Bool
  origin : Origin
  deriving DecidableEq, Repr

/-- The frame store (chapter 10): memory by store address in canonical form (unlisted bytes read 0), poisoned bursts, charges in kB/s by object code,
recorders, players; the lane map as exceptions to lane k of extent x being piece x of channel k, by 12 × extent + lane as 0x1000 × channel + piece, with each
lane's home in the same form, lanes whose every burst is poisoned unless listed (R473), free pieces by channel, and whether a map is kept; the copy,
CHANNEL_POWER commands, corrected counts by channel with their hour, free bytes of device areas, channels in self-refresh with their time of entry, the plan, the MEM_PWR_EN pins,
recorders in use, channels counted in B, the fill after Bring-up, states kept of channels that were emptied or copied, the end of the last scrub pass,
and when the buffer of each reader runs dry and that of each writer is full, as last reported by object code (R412, R457). -/
structure StoreState where
  mem : List Host.Cell
  poison : List Nat
  charges : Tab Nat
  recs : Tab RecSt
  plys : Tab PlySt
  lanes : Tab Nat
  homes : Tab Nat
  lanePoison : List Nat
  spares : Tab (List Nat)
  mapped : Bool
  copy : Option CopyJob
  power : Tab Origin
  ceHour : Tab (Nat × Nat × Bool)
  devFree : Tab Nat
  holds : Tab Nat
  selfRefresh : Tab Nat
  plan : Option StorePlan
  memPwrEn : Nat
  recInUse : List Nat
  counted : List Nat
  filling : Bool
  kept : Tab Nat
  scrubAt : Nat
  slacks : Tab Nat
  writerSlacks : Tab Nat
  deriving DecidableEq, Repr

/-- A thread of a fid (R578): program counter, g1 to g15 where not 0, the shadow-write buffer and the SET CSR. -/
structure Thread where
  pc : Nat
  regs : Tab Nat
  wbuf : List (Nat × Word)
  set : Nat
  deriving DecidableEq, Repr

/-- A hook run queued or running (R595, R596): its tenancy, KIND (0 SPLICE, 1 TICK), change set, the time that caused it, its start, notes posted, ticks skipped. -/
structure HookRun where
  tenancy : Nat
  kind : Nat
  set : Option Nat
  cause : Nat
  start : Nat
  notes : Nat
  skipped : Nat
  deriving DecidableEq, Repr

/-- An in-place update in progress (R592). -/
structure FidUpd where
  origin : Origin
  image : FidImage
  since : Nat
  deriving DecidableEq, Repr

/-- A fid beside its registers (R577 to R593): its threads, hook run and queue, events pending, a WAIT with its destination register and mask,
entry point, UPDATED, the time of its cold start, update. -/
structure Fid where
  sys : Thread
  hook : Thread
  run : Option HookRun
  queue : List HookRun
  events : Nat
  wait : Option (Nat × Nat)
  entry : Nat
  updated : Nat
  cycle : Nat
  upd : Option FidUpd
  deriving DecidableEq, Repr

/-- State of the fids (chapter 13): fids by number, words of local memory by 0x10000 × fid + address where not 0, ms since a TICK run by 4 × hook fid + tenancy,
ticks skipped since the last run, and a FID_HOOK_CTRL and FID_HOOK_MASK written during a run (R608). -/
structure FidState where
  fids : Tab Fid
  mem : Tab Nat
  ticks : Tab Nat
  skipped : Tab Nat
  held : Tab (Nat × Nat)
  deriving DecidableEq, Repr

/-- A request to the belay (R755, R756): its domain, a shutdown or a wake, its priority (0 splice-critical, 1 early service, 2 background), its time,
its grant deadline, and the change set it serves. -/
structure BelayReq where
  dom : Nat
  off : Bool
  prio : Nat
  since : Nat
  deadline : Nat
  set : Option Nat
  deriving DecidableEq, Repr

/-- A mode change in progress: entry to a sleep mode (R745) with its command, or a wake (R748) with the mode to return to. -/
structure ModeChange where
  target : Nat
  origin : Option Origin
  since : Nat
  deriving DecidableEq, Repr

/-- Power, modes and package (chapters 18 and 19): requests queued at the belay and grants of the last interval in tenths of an ampere, the mode change in
progress, the record writes in progress when it began as class and sequence number (R745 step 2), the strands whose outputs have completed their last frame in an entry to sleep (R745), a wake that waits for it as cause and link, the domains on before sleep, the time of reset release, whether OVER_TEMP stands raised, the AVS target in
mV, the request not yet acknowledged, its time and whether it is retried; and the always-on state (R738): the tamper latch, the debug request, the coarse
counter in ticks. `thermal` is set while a THERMAL reset waits for the die to cool (R739), `booted` is set from RESET_RELEASE to the next reset, `bootFail` while no boot copy verifies (R682). -/
structure PowerState where
  reqs : List BelayReq
  grants : List (Nat × Nat)
  change : Option ModeChange
  draining : List (Nat × Nat)
  halted : List Nat
  wakeHeld : Option (Nat × Nat)
  waking : Option ModeChange
  wasOn : List Nat
  released : Nat
  hot : Bool
  avsTarget : Nat
  avsWaiting : Option Nat
  avsSent : Option Nat
  tamper : Bool
  debugReq : Bool
  debug : Bool
  coarse : Nat
  thermal : Bool
  early : Bool
  booted : Bool
  bootFail : Bool
  deriving DecidableEq, Repr


/-- A clock tracker (R489 to R492): its last instant, the last two intervals, the medians summed over the block, the ratio in parts per 10¹⁵, the estimates summed since the block that failed last and their number,
blocks in a row that agree and their sum, blocks in a row that are off, whether the block saw a glitch, and the fill of a SYNC buffer in samples. -/
structure Tracker where
  last : Option Nat
  p1 : Nat
  p2 : Nat
  sumQ : Nat
  count : Nat
  r : Nat
  good : Nat
  sumM : Nat
  means : Nat
  bad : Nat
  glitch : Bool
  fill : Nat
  deriving DecidableEq, Repr

/-- An audio hitch change that waits for its block boundary (R495). -/
structure AudioArm where
  amo : Nat
  ami : Option Nat
  origin : Option Origin
  due : Nat
  deriving DecidableEq, Repr

/-- A capture tap beside its registers (R523, R524). -/
structure TapSt where
  seq : Nat
  gap : Bool
  deriving DecidableEq, Repr

/-- The samples an AMO holds on their way (R497, R500), oldest first, each with its V bit and its weight out of the fade's length; the positions since its source resumed, up to that
length; the time of a hitch change since its last block boundary; and the samples embedded so far. `running` tells that its newest sample came from its source; a cut keeps what was bound before it. -/
structure AmoLine where
  held : List (Int × Bool × Nat)
  since : Nat
  running : Bool
  cut : Option (Nat × Option Nat)
  sent : Nat
  deriving DecidableEq, Repr

/-- State of audio (chapter 11): trackers by domain, pending hitches, what the audio plan binds each AMI and AMO to, taps by SAP, the last latched channel status
blocks by AES3 input (bit 0 for A, bit 1 for B), sample positions muted by AMO (silent after a fade-out), aligned groups muted, directions whose start is due
(2 × SAP + direction); what each AMO holds; the last block boundary of a domain; domains whose buffer slipped at the present one, with 0 for an underrun and 1 for an overrun; samples
released by flows since the last boundary, by AMI; samples that left an AMO for an encoder; the channel status of an AMI's producer; the inputs of the 2:1 filters, by AMI and by
0x2000 + AMO; frames an encoder has sent, by its first EO; AES3 positions of
the present block with a parity error, by AMI; and the last sample of an AMI; late or early frame syncs of slave receivers since their last block boundary, by SAP and time; the samples
each converter has taken in, newest last; the phase of each pair of domains that converters join, in samples of the input domain × 10¹⁵, by 256 × input + output domain; and the samples a
domain's blocks have had. -/
structure AudioState where
  trackers : Tab Tracker
  arms : List AudioArm
  amiBind : Tab AudioEnd
  amoBind : Tab AudioEnd
  taps : Tab TapSt
  latched : Tab Nat
  silent : List Nat
  muted : List Nat
  starting : Tab Nat
  lines : Tab AmoLine
  blockAt : Tab Nat
  slipped : Tab Nat
  supply : Tab (List (Int × Bool))
  framed : Tab (List (Int × Bool))
  status : Tab (List Byte)
  filters : Tab (List Int)
  frameNo : Tab Nat
  parity : List (Nat × Nat)
  lastIn : Tab (Int × Bool)
  badFrames : List (Nat × Nat)
  srcHeld : Tab (List (Int × Bool))
  srcPhase : Tab Int
  samplesAt : Tab Nat
  deriving DecidableEq, Repr

/-- What the timebase stores for sleep (R563): counter, tick count and tick period in ps, rate, state and reference. -/
structure SleepTime where
  counter : Nat
  ticks : Nat
  periodPs : Nat
  rate : Word
  state : Nat
  ref : Nat
  deriving DecidableEq, Repr

/-- A calibration run in progress (R568 to R571): item code, its strand or bin, its command, whether the background schedule started it, and when. -/
structure CalRun where
  item : Nat
  index : Nat
  origin : Option Origin
  background : Bool
  since : Nat
  deriving DecidableEq, Repr

/-- State of the timebase and of calibration beside their registers (chapter 12): latched upper halves of the counter by tenancy, consecutive measurements inside and
outside LOCK_WINDOW, whether a reference has been selected since reset, whether the next measurement is the first of its reference, the
PTP parent's port and its domain, whether the next measurement takes the wake step, when HOLDOVER was entered, the record of sleep, calibration runs, the die temperature's bin, Delay_Req messages sent by interface with their time, and when each item was last measured, by its window; when a reference entered QUALIFYING or READY; the rate
adjustments while LOCKED with the time from which each held, newest first; when the background schedule last started an item; and when a set was last stored by AUTO_STORE. -/
structure TimeState where
  latch : Tab Word
  inside : Nat
  outside : Nat
  selectedOnce : Bool
  fresh : Bool
  parent : Option Nat
  wakeStep : Bool
  holdSince : Nat
  sleep : Option SleepTime
  runs : List CalRun
  bin : Nat
  delayOut : Tab Nat
  ages : Tab Nat
  refSince : Tab Nat
  rates : List (Nat × Int)
  bgAt : Tab Nat
  autoAt : Nat
  deriving DecidableEq, Repr


/-- A copy of a record in a slot of a bank's half of a ring (R687 to R691): the 256-byte pages the slot's flash holds (R683), and what reading them
gives: the header fields and payload, whether the copy is intact (R688), whether its header groups can be read (R721), and whether the scan marked the
record SUSPECT (R696). -/
structure RecCopy where
  bank : Nat
  slot : Nat
  index : Nat
  seq : Nat
  epoch : Nat
  payload : List Byte
  intact : Bool
  header : Bool
  suspect : Bool
  pages : List (List Byte)
  deriving DecidableEq, Repr

/-- What a record is written for, and what follows its completion: the epoch, the rig selector with its command, or at the end of a re-rig, a calibration set, a key slot,
the tamper record, a log entry, or the repair of a single copy (R697, R698). -/
inductive RecWhy where
  | epoch
  | selector (o : Option Origin)
  | rezone (o : Origin)
  | cal (o : Option Origin)
  | key (slot : Nat) (o : Option Origin)
  | tamper
  | log
  | repair
  deriving DecidableEq, Repr

/-- A record write (R691): what it writes, which banks it still writes, and whether a copy is intact already. -/
structure RecWrite where
  cls : Nat
  index : Nat
  seq : Nat
  epoch : Nat
  payload : List Byte
  left : List Nat
  committed : Bool
  why : RecWhy
  deriving DecidableEq, Repr

/-- The record store (chapter 16): the copies of each ring by class, write pointers and wholly erased sectors ahead of them by 4 × class + bank
(an unlisted sector count stands for a ring never written), turns of each ring, the writes waiting in order, the SEQ last assigned by class, and the owner
lock page's entries (none for a torn one) with its antifuse. Flash and antifuse keep their contents through reset. -/
structure RecordState where
  rings : Tab (List RecCopy)
  next : Tab Nat
  ahead : Tab Nat
  pass : Tab Nat
  writes : List RecWrite
  seqs : Tab Nat
  lockPage : List (Option (List Byte))
  locked : Bool
  deriving DecidableEq, Repr

/-- A key slot (R712): its key, ATTR, and whether it was written or loaded under the test root. -/
structure KeySlot where
  key : List Nat
  attr : Nat
  test : Bool
  deriving DecidableEq, Repr

/-- Keys (chapter 17): the slots that hold something, the rig key and store key (empty when zeroised), whether the root antifuse is programmed, whether that failed, whether
the state digest is due to be recomputed, and the boot copy loaded. -/
structure KeyState where
  slots : Tab KeySlot
  rigKey : List Nat
  storeKey : List Nat
  rooted : Bool
  rootFail : Bool
  digestDue : Bool
  bootCopy : Nat
  deriving DecidableEq, Repr

/-- What the part emits during one command, for the outside world to see. -/
inductive Output where
  /-- The value a register, table or fabric read returned. -/
  | read (v : Word)
  /-- Bytes written to the memory of a tenancy's host. -/
  | hostWrite (t addr : Nat) (data : List Byte)
  /-- An MSI-X message. -/
  | message (t vector : Nat)
  /-- A frame or packet sent by an interface: its leader strand and what it is. -/
  | frame (s : Nat) (kind : Nat) (data : List Byte)
  /-- A pulse on a display port's hot-plug pin. -/
  | hpdPulse (dp : Nat)
  /-- A byte a SOURCE port writes to the SCDC of its sink in link training (R123). -/
  | scdcWrite (dp offset : Nat) (value : Byte)
  /-- A SOURCE port starts to read its sink's EDID, over AUX or DDC (R123). -/
  | edidRead (dp : Nat)
  /-- Bytes answered on a sideband channel, the management port or BAR2. -/
  | reply (data : List Byte)
  /-- The management port's status byte (R655). -/
  | mgmtStatus (code : Nat)
  /-- A completion of a PCIe request with Unsupported Request. -/
  | unsupported
  /-- A line of pixels at an essence port or output: object code, line and samples. -/
  | line (obj n : Nat) (pixels : List (Nat × Nat × Nat))
  /-- Bytes answered in a PCIe completion or write that carries the poisoned (EP) bit (R446). -/
  | poisoned (data : List Byte)
  /-- The PCIe links return to Detect (R612). -/
  | linksDetect
  /-- The PCIe links leave Detect and train at a bifurcation (R609, R612). -/
  | linksTrain (bifurcation : Nat)
  /-- An AVSBus request for a core voltage in mV (R777). -/
  | avs (mv : Nat)
  /-- Audio samples that leave an AMO, each with its V bit (R497, R500, R501). -/
  | audio (amo : Nat) (samples : List (Int × Bool))
  /-- The frames a serial audio transmitter sends in a block: for each slot its bits, or none at high impedance (R515, R518). -/
  | sapFrames (p : Nat) (frames : List (List (Option Nat)))
  /-- The subframes an AES3 output sends in a block, without their preambles: port, subframe A or B, and words (R529). -/
  | aes3 (port sub : Nat) (words : List Nat)
  /-- The audio an encoder embeds on a line: its first EO, the line, and for each channel its AES3 subframes (R510). -/
  | embedded (eo line : Nat) (channels : List (List Nat))
  /-- Samples a receive flow releases at an AMI (R168). -/
  | ami (n : Nat) (samples : List (Int × Bool))
  /-- An InfoFrame or SDP a display source sends: port, type and bytes (R187). -/
  | infoFrame (dp type : Nat) (data : List Byte)
  /-- A promoted egress strand emits the source frame of a number from its buffer (R214, R215). -/
  | promoFrame (n frame : Nat)
  /-- A promoted egress strand returns to taut; whether one source frame is omitted (R216). -/
  | promoReturn (n : Nat) (omitted : Bool)
  /-- Ancillary packets an encoder places: object code, line and words. -/
  | anc (obj n : Nat) (packets : List (List Nat))
  deriving DecidableEq, Repr

/-- The state of the part. `pending` is the queue of waiting commands, first in first out; `out` what the last command emitted;
`draws` the count of free values drawn so far (the model's own, as is `out`); `now` the system counter in ns (R547);
`regs` the registers by offset in the register space, shadow values for RWS registers, in canonical form over their reset values;
`live` the live contexts of RWS registers in the same form. -/
structure State where
  pending : List Instr
  out : List Output
  draws : Nat
  now : Nat
  regs : Tab Word
  live : Tab Word
  rig : RigState
  strand : StrandState
  wire : WireState
  spl : SpliceState
  eng : EngineState
  store : StoreState
  aud : AudioState
  tim : TimeState
  fid : FidState
  rst : RecordState
  key : KeyState
  pwr : PowerState
  host : HostState
  fab : FabricState
  deriving DecidableEq, Repr

/-- The `rig` part of the state with nothing going on. -/
def rigInit : RigState where
  slotA := none
  slotB := none
  selector := ⟨none, false, false, .a, false, 0⟩
  running := none
  runningSlot := none
  loading := none
  loadingTrial := false
  fellBack := false
  writes := []
  verifies := []
  rezone := none
  earlyApplied := none

/-- The `strand` part of the state with nothing going on. -/
def strandInit : StrandState where
  leftSeek := []
  eqMode := []
  pllLocked := []
  tautFormat := []
  released := []
  syncFailed := []
  eyeBusy := []
  jobs := []
  early := []
  earlyHitches := []
  earlyPending := []
  bightInit := []
  feeds := []
  wasLost := []
  dpLanes := []
  restores := []
  prbsSince := []
  errSince := []
  dpcd := []
  scdc := []
  edidWait := []
  training := []

/-- The `wire` part of the state with nothing going on. -/
def wireInit : WireState where
  flows := []
  sas := []
  formats := []
  sending := []
  pathDelay := []
  ptpSync := []
  ptpSeq := []
  ancPlan := []
  mastering := []
  audio := []
  halved := []

/-- The `spl` part of the state with nothing going on. -/
def splInit : SpliceState where
  sets := []
  nextSet := 0
  promos := []
  losses := []
  reloading := []
  blockReturns := []
  lossEff := []
  complete := []
  holdBufs := []
  eiBind := []
  eoBind := []
  owners := []
  grants := []

/-- The `eng` part of the state with nothing going on. -/
def engInit : EngineState where
  sbTable := []
  cpTable := []
  handles := []
  flips := []
  layers := []
  sheets := []
  gens := []
  layerEos := []
  gangs := []
  taken := []
  coils := []

/-- The `store` part of the state with nothing going on. -/
def storeInit : StoreState where
  mem := []
  poison := []
  charges := []
  recs := []
  plys := []
  lanes := []
  homes := []
  lanePoison := []
  spares := []
  mapped := false
  copy := none
  power := []
  ceHour := []
  devFree := []
  holds := []
  selfRefresh := []
  plan := none
  memPwrEn := 0
  recInUse := []
  counted := []
  filling := false
  kept := []
  scrubAt := 0
  slacks := []
  writerSlacks := []

/-- The `aud` part of the state with nothing going on. -/
def audInit : AudioState where
  trackers := []
  arms := []
  amiBind := []
  amoBind := []
  taps := []
  latched := []
  silent := []
  muted := []
  starting := []
  lines := []
  blockAt := []
  slipped := []
  supply := []
  framed := []
  status := []
  filters := []
  frameNo := []
  parity := []
  lastIn := []
  badFrames := []
  srcHeld := []
  srcPhase := []
  samplesAt := []

/-- The `tim` part of the state with nothing going on. -/
def timInit : TimeState where
  latch := []
  inside := 0
  outside := 0
  selectedOnce := false
  fresh := false
  parent := none
  wakeStep := false
  holdSince := 0
  sleep := none
  runs := []
  bin := 0
  delayOut := []
  ages := []
  refSince := []
  rates := []
  bgAt := []
  autoAt := 0

/-- The `fid` part of the state with nothing going on. -/
def fidInit : FidState where
  fids := []
  mem := []
  ticks := []
  skipped := []
  held := []

/-- The `rst` part of the state with nothing going on. -/
def rstInit : RecordState where
  rings := []
  next := []
  ahead := []
  pass := []
  writes := []
  seqs := []
  lockPage := []
  locked := false

/-- The `key` part of the state with nothing going on. -/
def keyInit : KeyState where
  slots := []
  rigKey := []
  storeKey := []
  rooted := false
  rootFail := false
  digestDue := false
  bootCopy := 0

/-- The `pwr` part of the state with nothing going on. -/
def pwrInit : PowerState where
  reqs := []
  grants := []
  change := none
  draining := []
  halted := []
  wakeHeld := none
  waking := none
  wasOn := []
  released := 0
  hot := false
  avsTarget := 800
  avsWaiting := none
  avsSent := none
  tamper := false
  debugReq := false
  debug := false
  coarse := 0
  thermal := false
  early := false
  booted := false
  bootFail := false

/-- The `host` part of the state with nothing going on. -/
def hostInit : HostState where
  cqs := []
  evqs := []
  fences := []
  fenceHeld := []
  lanyardLast := []
  batches := []
  dmaOwner := []
  dmaQueues := []
  msixTable := []
  msixPending := []
  bifurcation := none
  linksDetect := true
  mgmtModes := false
  mgmtAddress := 0x3A
  alerts := 0
  challenge := none
  aerEcrc := 0
  aerNonFatal := 0
  subsys := (0, 0)

/-- The `fab` part of the state with nothing going on. -/
def fabInit : FabricState where
  lock := none
  sram := []

/-- The machine right after reset: every register at its reset value (an empty table in canonical form), empty queues,
the system counter at 0 (R548), the mode Bring-up that SYS_MODE reads at its reset value (R765). -/
def State.reset : State where
  pending := []
  out := []
  draws := 0
  now := 0
  regs := []
  live := []
  rig := rigInit
  strand := strandInit
  wire := wireInit
  spl := splInit
  eng := engInit
  store := storeInit
  aud := audInit
  tim := timInit
  fid := fidInit
  rst := rstInit
  key := keyInit
  pwr := pwrInit
  host := hostInit
  fab := fabInit

end Sys2Proof.Machine
end

