-- ==== Sys2Proof/Machine/Operands.lean ====
section
/-! DEFINITION. How commands and registers name things: DEST codes (R194), object codes (R632), zones (R49), status codes (R636),
modes (R740), and the fields of a flow descriptor (R164 to R166). -/

namespace Sys2Proof.Machine

open Sys2Proof

/-- Completion status codes (R636). -/
inductive Status where
  | ok | badOpcode | badField | notOwner | noResource | bwBudget | linebufShort | sourceAbsent | formatMismatch
  | deferredPower | aborted | stateConflict | timeout | tamper | storeBusy | torn | keyUse | rigMismatch
  | calDisagree | notQuiescent | fetchFault | zoneBusy
  deriving DecidableEq, Repr

/-- The code of a status (R636). -/
def statusCode : Status → Nat
  | .ok => 0x00 | .badOpcode => 0x01 | .badField => 0x02 | .notOwner => 0x03 | .noResource => 0x04
  | .bwBudget => 0x05 | .linebufShort => 0x06 | .sourceAbsent => 0x07 | .formatMismatch => 0x08
  | .deferredPower => 0x09 | .aborted => 0x0A | .stateConflict => 0x0B | .timeout => 0x0C | .tamper => 0x0D
  | .storeBusy => 0x0E | .torn => 0x0F | .keyUse => 0x10 | .rigMismatch => 0x11 | .calDisagree => 0x12
  | .notQuiescent => 0x13 | .fetchFault => 0x14 | .zoneBusy => 0x15

/-- Operating modes (R740). -/
inductive Mode where
  | off | reset | bringUp | service | maintenance | doze | deepSleep | lockdown
  deriving DecidableEq, Repr

/-- The code of a mode (R740). -/
def modeCode : Mode → Nat
  | .off => 0 | .reset => 1 | .bringUp => 2 | .service => 3 | .maintenance => 4 | .doze => 5
  | .deepSleep => 6 | .lockdown => 7

/-- The mode of a three-bit code (R740). -/
def modeOf (c : Nat) : Mode :=
  match c with
  | 0 => .off | 1 => .reset | 2 => .bringUp | 3 => .service | 4 => .maintenance | 5 => .doze
  | 6 => .deepSleep | _ => .lockdown

/-- Object code of class `c` and index `i` (R632). -/
def objCode (c i : Nat) : Nat := c * 0x1000000 + i

/-- The classes of R632. -/
def objDest (d : Nat) : Nat := objCode 0x01 d
def objEi (n : Nat) : Nat := objCode 0x02 n
def objSb (n : Nat) : Nat := objCode 0x03 n
def objCp (n : Nat) : Nat := objCode 0x04 n
def objLayer (n : Nat) : Nat := objCode 0x05 n
def objTg (n : Nat) : Nat := objCode 0x06 n
def objRec (n : Nat) : Nat := objCode 0x07 n
def objPly (n : Nat) : Nat := objCode 0x08 n
def objVflow (n : Nat) : Nat := objCode 0x09 n
def objAflow (n : Nat) : Nat := objCode 0x0A n
def objXflow (n : Nat) : Nat := objCode 0x0B n
def objAmi (n : Nat) : Nat := objCode 0x0C n
def objAmo (n : Nat) : Nat := objCode 0x0D n
def objSap (n : Nat) : Nat := objCode 0x0E n
def objAes (n : Nat) : Nat := objCode 0x0F n
def objSrc (n : Nat) : Nat := objCode 0x10 n
def objDomain (n : Nat) : Nat := objCode 0x11 n
def objAgroup (n : Nat) : Nat := objCode 0x12 n
def objSgroup (t g : Nat) : Nat := objCode 0x13 (g + 0x100 * t)
def objHandle (n : Nat) : Nat := objCode 0x14 n
def objFid (n : Nat) : Nat := objCode 0x15 n
def objKey (n : Nat) : Nat := objCode 0x16 n
def objZone (n : Nat) : Nat := objCode 0x17 n
def objChannel (n : Nat) : Nat := objCode 0x18 n
def objTenancy (n : Nat) : Nat := objCode 0x19 n
def objSq (n : Nat) : Nat := objCode 0x1A n
def objFence (n : Nat) : Nat := objCode 0x1B n
def objStrand (n : Nat) : Nat := objCode 0x1C n
def objIface (n : Nat) : Nat := objCode 0x1D n
/-- The model's own code for a bight pair, which R632 gives no class. -/
def objBight (n : Nat) : Nat := objCode 0x80 n

/-- Class and index of an object code. -/
def objClass (c : Nat) : Nat := c / 0x1000000
def objIndex (c : Nat) : Nat := c % 0x1000000

/-- DEST code of an essence egress port and of an egress strand (R194). -/
def destEo (n : Nat) : Nat := n
def destStrand (n : Nat) : Nat := 0x8000 + n

/-- The DEST code names an egress strand (R194, bit 15). -/
def destIsStrand (d : Nat) : Bool := decide (0x8000 ≤ d)

/-- NUMBER of a DEST code (R194). -/
def destNumber (d : Nat) : Nat := d % 0x800

/-- A DEST code with no reserved bit and NUMBER in range (R194). -/
def destOk (d : Nat) : Bool :=
  decide (d < 0x10000) && decide (d % 0x8000 < 0x800) &&
  (if destIsStrand d then decide (destNumber d < 128) else decide (destNumber d < 1024))

/-- The window of a destination (R238). -/
def destWin (d : Nat) : Nat :=
  if destIsStrand d then 0x182000 + 0x40 * destNumber d else 0x190000 + 0x40 * destNumber d

/-- The zone that holds sheet bend `n` (R49). -/
def sbZone (n : Nat) : Nat := if n < 64 then n / 8 else (n - 32) / 4

/-- The zone that holds an object, by its object code (R49); none for what belongs to no zone. -/
def zoneOfObj (c : Nat) : Option Nat :=
  let i := objIndex c
  match objClass c with
  | 0x01 => if destIsStrand i then some (destNumber i / 8) else some (destNumber i / 64)
  | 0x02 => some (i / 64)
  | 0x03 => some (sbZone i)
  | 0x04 => some (i / 2)
  | 0x05 => some (i / 16)
  | 0x06 => some (i / 16)
  | 0x07 => some (i / 16)
  | 0x08 => some (i / 16)
  | 0x09 => some (i / 32)
  | 0x0A => some (i / 256)
  | 0x0B => some (i / 32)
  | 0x0C => some (i / 512)
  | 0x0D => some (i / 512)
  | 0x0E => some i
  | 0x0F => some (i % 8)
  | 0x10 => some (i / 32)
  | 0x15 => if 1 ≤ i ∧ i ≤ 32 then some ((i - 1) / 2) else none
  | 0x1C => some (i / 8)
  | 0x1D => some (i / 8)
  | 0x80 => some (2 * i)
  | _ => none

/-- The port whose clock a domain is (R484, R539): a serial port, an AES3 input or a strand; HOUSE and reserved codes have none. -/
def domPort (d : Nat) : Option Nat :=
  if 0x10 ≤ d ∧ d < 0x30 then some (objSap (d % 16))
  else if 0x30 ≤ d ∧ d < 0x38 then some (objAes (d - 0x30))
  else if 0x40 ≤ d ∧ d < 0xC0 then some (objStrand (d - 0x40))
  else none

/-- Key of a flow: class 0 video, 1 audio, 2 ancillary, and number. -/
def flowKey (cls n : Nat) : Nat := cls * 0x10000 + n

/-- The class of a flow's KIND (R164). -/
def flowClass (kind : Nat) : Nat := if kind ≤ 1 then 0 else if kind ≤ 3 then 1 else 2

/-- The status record of a flow (R190). -/
def flowWin (key : Nat) : Nat :=
  match key / 0x10000 with
  | 0 => 0x100000 + 0x20 * (key % 0x10000)
  | 1 => 0x104000 + 0x20 * (key % 0x10000)
  | _ => 0x124000 + 0x20 * (key % 0x10000)

/-- Zone of a flow by its key (R49). -/
def flowZone (key : Nat) : Nat := if key / 0x10000 = 1 then key % 0x10000 / 256 else key % 0x10000 / 32

/-- The object code of a flow. -/
def flowObj (key : Nat) : Nat :=
  match key / 0x10000 with
  | 0 => objVflow (key % 0x10000)
  | 1 => objAflow (key % 0x10000)
  | _ => objXflow (key % 0x10000)

/-- A little-endian field of a byte string. -/
def leAt (l : List Byte) (off n : Nat) : Nat := leNat ((l.drop off).take n)

/-- The descriptor of 128 bytes (R164 to R166). `rsvd` holds every reserved field and bit, so that 0 means none is set. -/
def parseFlow (l : List Byte) : FlowDesc :=
  let flags := leAt l 3 1
  let kind := leAt l 2 1
  { flow := leAt l 0 2
    kind := kind
    send := flags.testBit 0
    enable := flags.testBit 1
    paired := flags.testBit 2
    ssm := flags.testBit 3
    quad := flags / 16
    ifA := leAt l 4 2
    ifB := leAt l 6 2
    pathA := (leAt l 8 4, leAt l 12 4, leAt l 16 2, leAt l 18 2)
    pathB := (leAt l 0x14 4, leAt l 0x18 4, leAt l 0x1C 2, leAt l 0x1E 2)
    pt := leAt l 0x20 1
    dscp := leAt l 0x21 1 % 64
    port := leAt l 0x22 2
    ssrc := leAt l 0x24 4
    depth := leAt l 0x28 4
    skewMax := leAt l 0x2C 4
    width := leAt l 0x30 2
    height := leAt l 0x32 2
    rateNum := leAt l 0x34 2
    rateDen := leAt l 0x36 2
    sampling := leAt l 0x38 1
    bits := leAt l 0x39 1
    colour := leAt l 0x3A 1
    range := leAt l 0x3B 1
    scan := leAt l 0x3C 1
    pm := leAt l 0x3D 1
    tp := leAt l 0x3E 1
    channels := leAt l 0x30 1
    arate := leAt l 0x31 1
    abits := leAt l 0x32 1
    ptime := leAt l 0x33 2
    rsvd := leAt l 0x40 64 + leAt l 0x21 1 / 64 +
      (if kind ≤ 1 then leAt l 0x3F 1 else if kind ≤ 3 then leAt l 0x35 11 else leAt l 0x30 16) }

/-- The format a KIND 0 descriptor gives its essence (R165). -/
def flowFormat (d : FlowDesc) : Format :=
  { width := d.width, height := d.height, rateNum := d.rateNum, rateDen := d.rateDen, scan := d.scan
    sampling := d.sampling, depth := (d.bits - 8) / 2, colour := d.colour, fullRange := decide (d.range = 1)
    streams := 0, level := 0, byId := true, lineTotal := 0 }

end Sys2Proof.Machine
end

