-- ==== Sys2Proof/Machine/Ops.lean ====
section
/-! DEFINITION. The named operations every command is built from: reading and writing registers, raising events,
posting completions and event entries, fences, ownership and the gate every register access passes. -/

namespace Sys2Proof.Machine

open Sys2Proof

/-- Where a register offset falls: window kind, window indices, offset in the window, its row and the instance of the row. -/
structure Loc where
  kind : RegKind
  i : Nat
  j : Nat
  off : Nat
  row : RegRow
  k : Nat
  deriving DecidableEq, Repr

/-- The window indices and offset of an address inside a window family. -/
def inRegion (a : Nat) (r : Region) : Option (Nat × Nat × Nat) :=
  if a < r.base then none
  else
    let d := a - r.base
    let i := if r.s1 = 0 then 0 else d / r.s1
    let d1 := d - i * r.s1
    let j := if r.s2 = 0 then 0 else d1 / r.s2
    let off := d1 - j * r.s2
    if i < r.n1 ∧ j < r.n2 ∧ off < r.size then some (i, j, off) else none

/-- The window family of an address. -/
def findRegion (a : Nat) : List Region → Option (RegKind × Nat × Nat × Nat)
  | [] => none
  | r :: rs =>
    match inRegion a r with
    | some (i, j, off) => some (r.kind, i, j, off)
    | none => findRegion a rs

/-- The row of a window that holds an offset. -/
def findRow (off : Nat) : List RegRow → Option (RegRow × Nat)
  | [] => none
  | r :: rs =>
    if r.off ≤ off ∧ (off - r.off) % r.stride = 0 ∧ (off - r.off) / r.stride < r.n then
      some (r, (off - r.off) / r.stride)
    else findRow off rs

/-- The register at an offset of the register space; none for a reserved offset (R13). -/
def locate (a : Nat) : Option Loc :=
  match findRegion a regions with
  | none => none
  | some (kind, i, j, off) =>
    match findRow off (rowsOf kind) with
    | none => none
    | some (row, k) => some ⟨kind, i, j, off, row, k⟩

/-- The zone number of sheet bend `n` and of a fid in its ID register; 0x1F for a fid of no zone (R607). -/
def fidZone (f : Nat) : Nat := if 1 ≤ f ∧ f ≤ 32 then (f - 1) / 2 else 0x1F

/-- KIND of fid `f` (R590, R577): 0 FS, 1 FP, 2 FA, 3 FC, 4 FN. -/
def fidKind (f : Nat) : Nat :=
  if f = 0 then 0 else if f ≤ 32 then 1 else if f ≤ 40 then 2 else if f ≤ 42 then 3 else 4

/-- The reset value of a located register: its row's, or for a register whose value depends on its number, that value. -/
def resetAt (l : Loc) : Nat :=
  match l.kind, l.row.off with
  | .str, 0 => l.i + (l.i / 8) * 0x100 + (if l.i % 16 ≤ 1 then 0x1000 else 0) + (if 64 ≤ l.i then 0x2000 else 0)
  | .str, 4 => l.i * 0x10000
  | .sbd, 0 => l.i + sbZone l.i * 0x100
  | .sbd, 0x40 => if l.k % 4 = 0 then 0x10000 else 0
  | .cmp, 0 => l.i + (l.i / 2) * 0x100
  | .scn, 0 => l.i + (l.i / 16) * 0x100
  | .sap, 0 => l.i + l.i * 0x100
  | .fstRec, 0x30 => l.i + (l.i / 16) * 0x100
  | .fstPly, 0x30 => l.i + (l.i / 16) * 0x100
  | .fidSys, 0 => l.i + fidKind l.i * 0x100 + fidZone l.i * 0x800
  | .ten, 0 => l.i
  | .audDom, 0 => if 0x40 ≤ l.i then 1 else 0
  | .pwr, 0x34 => if Config.orderingE then 105 else 100
  | .calStrand, 0 => (Config.factoryCal (0x41000 + 0x10 * l.i)).toNat
  | .calStrand, 8 => (Config.factoryCal (0x41000 + 0x10 * l.i)).toNat
  | .calStrand, 12 => 0xFFFFFFFF
  | .calRate, 0 => (Config.factoryCal (0x42000 + 0x10 * l.i)).toNat
  | .calRate, 8 => (Config.factoryCal (0x42000 + 0x10 * l.i)).toNat
  | .calRate, 12 => 0x7FFFFFFF + (if Config.factoryBinValid l.i then 0x80000000 else 0)
  | .calSensor, 0 => (Config.factoryCal 0x43000).toNat
  | .calSensor, 8 => (Config.factoryCal 0x43000).toNat
  | .calSensor, 12 => 0xFFFFFFFF
  | .calRefsync, 0 => (Config.factoryCal 0x43010).toNat
  | .calRefsync, 8 => (Config.factoryCal 0x43010).toNat
  | .calRefsync, 12 => 0xFFFFFFFF
  | _, _ => l.row.reset

/-- What an unlisted register reads as: its reset value, and 0 at a reserved offset (R18). -/
def regDefault (a : Nat) : Word :=
  match locate a with
  | none => wd 0
  | some l => wd (resetAt l)

/-- The value of a register. -/
def State.reg (s : State) (a : Nat) : Word := (tabGet a s.regs).getD (regDefault a)

/-- Write a register, keeping the table canonical. -/
def State.setReg (s : State) (a : Nat) (v : Word) : State :=
  { s with regs := tabPut (regDefault a) a v s.regs }

/-- The live value of a shadowed register (R250). -/
def State.liveReg (s : State) (a : Nat) : Word := (tabGet a s.live).getD (regDefault a)

/-- Write the live context of a shadowed register. -/
def State.setLive (s : State) (a : Nat) (v : Word) : State :=
  { s with live := tabPut (regDefault a) a v s.live }

/-- Set a field of a shadowed register in both of its contexts. -/
def setBothF (a hi lo v : Nat) (s : State) : State := (s.setReg a (setFld (s.reg a) hi lo v)).setLive a (setFld (s.liveReg a) hi lo v)

/-- Field [hi:lo] of a register. -/
def State.f (s : State) (a hi lo : Nat) : Nat := fld (s.reg a) hi lo

/-- Field [hi:lo] of a live register. -/
def State.lf (s : State) (a hi lo : Nat) : Nat := fld (s.liveReg a) hi lo

/-- Replace field [hi:lo] of a register. -/
def State.setF (s : State) (a hi lo v : Nat) : State := s.setReg a (setFld (s.reg a) hi lo v)

/-- Bit `b` of a register. -/
def State.bit (s : State) (a b : Nat) : Bool := bitOf (s.reg a) b

/-- Set bit `b` of a register to `v`. -/
def State.setBit (s : State) (a b : Nat) (v : Bool) : State := s.setF a b b (b2n v)

/-- Add to a 32-bit counter that saturates at 0xFFFF_FFFF. -/
def State.bump (s : State) (a n : Nat) : State := s.setReg a (wd (min 0xFFFFFFFF ((s.reg a).toNat + n)))

/-- The empty ring. -/
def ringEmpty {α : Type} : RingState α := ⟨[], true, [], 0, 0, 0, 0⟩

/-- The mode (R740). -/
def State.mode (s : State) : Mode := modeOf (s.f Reg.sysMode 2 0)

/-- The mode is Service or Maintenance. -/
def State.serving (s : State) : Bool :=
  match s.mode with
  | .service => true
  | .maintenance => true
  | _ => false

/-- The rig owner of the tenancy plan (R660). -/
def State.rigOwner (s : State) : Nat := s.f Reg.tenPlan 5 4

/-- The device is in bare service (R65). -/
def State.bare (s : State) : Bool := s.bit Reg.sysRigStatus 5

/-- The owner of an object, by object code (R617). -/
def State.owner (s : State) (c : Nat) : Option Nat := tabGet c s.spl.owners

/-- Tenancy `t` owns the object or is granted it (R195, R617). -/
def State.mayUse (s : State) (t c : Nat) : Bool :=
  decide (s.owner c = some t) || (tabGetD 0 c s.spl.grants).testBit t

/-- State of a rig zone, coded as R73. -/
def State.zone (s : State) (z : Nat) : Nat := s.f Reg.sysZoneState (2 * z + 1) (2 * z)

/-- The zone of an object is RUNNING, or the object belongs to no zone (R72). -/
def State.zoneRuns (s : State) (c : Nat) : Bool :=
  match zoneOfObj c with
  | none => true
  | some z => decide (s.zone z = 0)

/-- A zone is STOPPED: its resources neither process nor emit (R73). -/
def State.stopped (s : State) (z : Nat) : Bool := decide (s.zone z = 3)

/-- What a resource of a zone does, unless the zone is STOPPED (R73). -/
def unlessStopped (z : Nat) (f : State → State) (s : State) : State := if s.stopped z then s else f s

/-- Draw a free number. -/
def State.draw (s : State) : State := { s with draws := s.draws + 1 }

/-- Append an output. -/
def State.emit (s : State) (o : Output) : State := { s with out := s.out ++ [o] }

/-- The start of every command: nothing emitted yet. -/
def State.begin (s : State) : State := { s with out := [] }

/-- A command that always answers a next state: run `f` from the state with no output yet. -/
def run (f : State → State) (s : State) : Host.Outcome State Fault Refusal := .next (f s.begin)

/-! Rings -/

/-- Key of a queue of a tenancy. -/
def qKey (t q : Nat) : Nat := 64 * t + q

/-- Bus Master Enable of a tenancy's function (R613). -/
def State.bme (s : State) (t : Nat) : Bool := s.bit (Reg.tenStatus t) 4

/-- The event ring of a tenancy. -/
def State.evq (s : State) (t : Nat) : RingState EventEntry := tabGetD ringEmpty t s.host.evqs

/-- Replace the event ring of a tenancy. -/
def State.setEvq (s : State) (t : Nat) (r : RingState EventEntry) : State :=
  { s with host := { s.host with evqs := tabSet t r s.host.evqs } }

/-- Completion queue `c` of tenancy `t`. -/
def State.cq (s : State) (t c : Nat) : RingState Completion := tabGetD ringEmpty (qKey t c) s.host.cqs

/-- Replace a completion queue. -/
def State.setCq (s : State) (t c : Nat) (r : RingState Completion) : State :=
  { s with host := { s.host with cqs := tabSet (qKey t c) r s.host.cqs } }

/-- SIZE of the event ring (R659). -/
def State.evqSize (s : State) (t : Nat) : Nat := s.f (Reg.tenEvqCfg t) 31 16 + 1

/-- SIZE of a completion queue. -/
def State.cqSize (s : State) (t c : Nat) : Nat := s.f (Reg.tenCqCfg t c) 31 16 + 1

/-- Little-endian bytes of an event entry (R638), or of a continuation entry with its 56 bytes of frame (R640). -/
def eventBytes (e : EventEntry) : List Byte :=
  if e.cont then
    leBytes 2 e.type ++ leBytes 1 (b2n e.phase + 2) ++ leBytes 1 0 ++ leBytes 4 e.seq ++ (e.data ++ List.replicate (56 - e.data.length) 0).take 56
  else
  leBytes 2 e.type ++ leBytes 1 (b2n e.phase + 2 * b2n e.cont) ++ leBytes 1 0 ++ leBytes 4 e.seq ++
  leBytes 8 e.time ++ leBytes 4 e.object ++ leBytes 4 e.code ++ (e.data ++ List.replicate (40 - e.data.length) 0).take 40

/-- Little-endian bytes of a completion entry (R637). -/
def completionBytes (c : Completion) : List Byte :=
  leBytes 4 c.result ++ leBytes 4 c.object ++ leBytes 2 c.sqHead ++ leBytes 1 c.sqId ++ leBytes 1 0 ++
  leBytes 2 c.cid ++ leBytes 2 (c.status + 0x100 * b2n c.poisoned + 0x8000 * b2n c.phase)

/-- Write one event entry at the tail of the ring: phase, sequence number, tail and the entry to host memory (R627, R638). The `k`th continuation
entry of a frame, whose `seq` is `k`, repeats the SEQ of the frame's first entry (R640). -/
def writeEvent (t : Nat) (e : EventEntry) (s : State) : State :=
  let r := s.evq t
  let size := s.evqSize t
  let tail := s.f (Reg.tenEvqCoal t) 31 16
  let e' := { e with phase := r.phase, seq := if e.cont then (r.seq + 0x100000000 - e.seq) % 0x100000000 else r.seq }
  let next := if tail + 1 = size then 0 else tail + 1
  let base := (s.reg (Reg.tenEvqBaseLo t)).toNat + 0x100000000 * (s.reg (Reg.tenEvqBaseHi t)).toNat
  ((s.setEvq t { r with entries := r.entries ++ [e'], phase := if next = 0 then !r.phase else r.phase,
                        unreported := r.unreported + 1, since := if r.unreported = 0 then s.now else r.since,
                        seq := (r.seq + 1) % 0x100000000 }).setF
    (Reg.tenEvqCoal t) 31 16 next).emit (.hostWrite t (base + 64 * tail) (eventBytes e'))

/-- Post an event entry to a tenancy's ring: nothing while the ring is disabled, waiting while Bus Master Enable is 0,
dropped and counted while the ring is full (R613, R641). There are four tenancies. -/
def postEvent (t : Nat) (e : EventEntry) (s : State) : State :=
  if decide (4 ≤ t) || !s.bit (Reg.tenEvqCfg t) 0 then s
  else
    let r := s.evq t
    if !s.bme t then s.setEvq t { r with waiting := r.waiting ++ [e] }
    else if s.evqSize t - 1 ≤ r.entries.length then
      ((s.setEvq t { r with lost := r.lost + 1 }).bump (Reg.tenEvtLostCnt t) 1).setBit (Reg.tenEvent t) 4 true
    else writeEvent t e s

/-- An event entry raised now. -/
def mkEvent (s : State) (type object code : Nat) (data : List Byte) : EventEntry :=
  ⟨type, false, false, 0, s.now, object, code, data⟩

/-- Post an entry to an owner, if there is one. -/
def postTo (owner : Option Nat) (type object code : Nat) (data : List Byte) (s : State) : State :=
  match owner with
  | none => s
  | some t => postEvent t (mkEvent s type object code data) s

/-- Raise bit `b` of event register `ev`: the bit is set, and a REG_EVENT entry goes to the owner when `post` holds (R638, R639). -/
def raiseBit (owner : Option Nat) (post : Bool) (obj ev b : Nat) (s : State) : State :=
  let s1 := s.setBit ev b true
  if post then postTo owner 0 obj (ev + b * 0x400000) (leBytes 4 (s1.reg ev).toNat) s1 else s1

/-- Raise an event posted under its enable register. -/
def raiseEn (owner : Option Nat) (obj ev en b : Nat) (s : State) : State :=
  raiseBit owner (s.bit en b) obj ev b s

/-- Raise a TEN_EVENT bit of a tenancy (R659). -/
def raiseTen (t b : Nat) (s : State) : State :=
  if 4 ≤ t then s else raiseEn (some t) (objTenancy t) (Reg.tenEvent t) (Reg.tenEventEn t) b s

/-- Post a TENANCY event to the rig owner (R639): 0 ADRIFT, 1 MOORED, 2 FUNCTION_RESET. -/
def tenancyEvent (t code : Nat) (s : State) : State := postTo (some s.rigOwner) 5 (objTenancy t) code [] s

/-- Raise a rig event (R84): posted to the rig owner unconditionally. -/
def raiseRig (b : Nat) (s : State) : State := raiseBit (some s.rigOwner) true 0 Reg.sysRigEvent b s

/-- Set management alert bits (R658). -/
def alert (b : Nat) (s : State) : State := { s with host := { s.host with alerts := s.host.alerts ||| 2 ^ b } }

/-- The level of the MGMT_ALERT_N pin: low while any alert bit is set (R658). -/
def State.mgmtAlertN (s : State) : Bool := decide (s.host.alerts = 0) && !s.pwr.bootFail

/-! Fences and completions -/

/-- The value of a fence (R642). -/
def State.fence (s : State) (t n : Nat) : DWord := tabGetD 0 (256 * t + n) s.host.fences

/-- Write a fence. The registers TEN_FENCE_LO and TEN_FENCE_HI are views of it. -/
def setFence (t n : Nat) (v : DWord) (s : State) : State :=
  { s with host := { s.host with fences := tabPut 0 (256 * t + n) v s.host.fences } }

/-- Write one completion entry at the tail of its queue (R627, R637). -/
def writeCompletion (t c : Nat) (e : Completion) (s : State) : State :=
  let r := s.cq t c
  let size := s.cqSize t c
  let tail := s.f (Reg.tenCqCoal t c) 31 16
  let e' := { e with phase := r.phase, sqHead := s.f (Reg.tenSqPos t e.sqId) 15 0 }
  let next := if tail + 1 = size then 0 else tail + 1
  let base := (s.reg (Reg.tenCqBaseLo t c)).toNat + 0x100000000 * (s.reg (Reg.tenCqBaseHi t c)).toNat
  (((s.setCq t c { r with entries := r.entries ++ [e'], phase := if next = 0 then !r.phase else r.phase,
                          unreported := r.unreported + 1, since := if r.unreported = 0 then s.now else r.since }).setF
    (Reg.tenCqCoal t c) 31 16 next).bump (Reg.tenCmdCnt t) 1).emit (.hostWrite t (base + 16 * tail) (completionBytes e'))

/-- Post a completion: written when the queue has room and Bus Master Enable is 1, else it waits in the part;
a full queue raises CQ_STALL (R613, R627). A completion for a queue that has been disabled waits in the part too, as no completion is dropped; one for a queue that has not been
enabled since its function's reset is discarded (R654). -/
def postCompletion (t c : Nat) (e : Completion) (s : State) : State :=
  if 4 ≤ t ∨ 64 ≤ c then s
  else if !s.bit (Reg.tenCqCfg t c) 0 then
    (if (tabGet (qKey t c) s.host.cqs).isNone then s else s.setCq t c { s.cq t c with waiting := (s.cq t c).waiting ++ [e] })
  else
    let r := s.cq t c
    if s.cqSize t c - 1 ≤ r.entries.length then
      raiseTen t 6 (s.setCq t c { r with waiting := r.waiting ++ [e] })
    else if !s.bme t || !r.waiting.isEmpty then s.setCq t c { r with waiting := r.waiting ++ [e] }
    else writeCompletion t c e s

/-- An object code as tenancy `t` may see it: the class alone for another tenancy's object (R632). -/
def seenBy (t c : Nat) (s : State) : Nat :=
  match s.owner c with
  | none => c
  | some u => if u = t then c else objClass c * 0x1000000 + 0xFFFFFF

/-- Complete a command with a status, an object and a result: its fence is signalled first on OK (R642). -/
def completeWith (o : Origin) (st obj result : Nat) (poisoned : Bool) (s : State) : State :=
  if 64 ≤ o.sq then s
  else
    let s1 := if st = 0 && o.signal && decide (o.fence < 256) then setFence o.tenancy o.fence o.fenceValue s else s
    postCompletion o.tenancy (s.f (Reg.tenSqCfg o.tenancy o.sq) 7 2)
      ⟨result, seenBy o.tenancy obj s, 0, o.sq, o.cid, st, poisoned, false⟩ s1

/-- Complete a command with a status and the object it names. -/
def complete (o : Origin) (st : Status) (obj : Nat) (s : State) : State :=
  completeWith o (statusCode st) obj 0 false s

/-- Complete with OK. -/
def completeOk (o : Origin) (s : State) : State := complete o .ok 0 s

/-- Complete each of several commands. -/
def completeAll (os : List Origin) (st obj : Nat) (s : State) : State :=
  os.foldl (fun s o => completeWith o st obj 0 false s) s

/-! Checks -/

/-- A refusal: its status and the object it names. -/
abbrev Refuse := Option (Status × Nat)

/-- Refuse with `st`, naming `obj`, unless `ok` holds. -/
def need (ok : Bool) (st : Status) (obj : Nat) : Refuse := if ok then none else some (st, obj)

/-- The first refusal of a list of checks. -/
def firstRefusal : List Refuse → Refuse
  | [] => none
  | some r :: _ => some r
  | none :: rs => firstRefusal rs

/-- Where a host command is accepted beside Service and Maintenance of a running image: nowhere; in bare service (R65); or in Bring-up and
Lockdown (R740, R751). -/
inductive Place where
  | working
  | bare
  | early
  deriving DecidableEq, Repr

/-- The checks every host command passes first: reserved bits, SIGNAL's fence number (R642), bare service (R65), Bring-up and Lockdown (R740, R751). -/
def baseCheck (o : Origin) (p : Place) (s : State) : Refuse :=
  firstRefusal
    [need (!o.reserved && !(o.signal && decide (256 ≤ o.fence))) .badField 0,
     need (!s.bare || decide (p = .bare)) .stateConflict 0,
     need (decide (p = .early) || decide (s.mode ≠ .bringUp ∧ s.mode ≠ .lockdown)) .stateConflict 0]

/-- A byte memory is in canonical form: addresses strictly rising, and no byte listed that equals what an unlisted address reads as, which is 0. -/
def Memory.wf (m : Tab Byte) : Bool := tabCanon (fun (_ : Nat) => (0 : Byte)) m

/-- Words of a local memory or of the work SRAM are in the same form. -/
def wordsCanon (m : Tab Nat) : Bool := tabCanon (fun (_ : Nat) => 0) m

/-- Every register table and memory of the state is in canonical form, so that equal contents are equal data. -/
def State.canonical (s : State) : Bool :=
  tabCanon regDefault s.regs && tabCanon regDefault s.live && Memory.wf s.store.mem && wordsCanon s.fid.mem && wordsCanon s.fab.sram

/-! The gate of register accesses -/

/-- Whether an access may proceed, is foreign (R19), or is ignored without being foreign. -/
inductive Gate where
  | pass
  | foreign
  | ignore
  deriving DecidableEq, Repr

/-- The object code whose owner a window belongs to (R19); none where the window belongs to no single owner. -/
def windowObj (l : Loc) : Option Nat :=
  match l.kind with
  | .str => some (objStrand l.i)
  | .bight => some (objBight l.i)
  | .dpSb => some (objStrand (64 + 4 * l.i))
  | .edid => some (objStrand (64 + 4 * l.i))
  | .vflow => some (objVflow l.i)
  | .aflow => some (objAflow l.i)
  | .xflow => some (objXflow l.i)
  | .ethIf => some (objStrand l.i)
  | .msc => some (objStrand l.i)
  | .wir => some (objStrand l.i)
  | .splStrand => some (objDest (destStrand l.i))
  | .splEo => some (objDest l.i)
  | .splEi => some (objEi l.i)
  | .sbd => some (objSb l.i)
  | .gang => some (objSb (4 * l.i))
  | .cmp => some (objCp l.i)
  | .layer => some (objCp l.i)
  | .scn => some (objTg l.i)
  | .crc => some (objTg l.i)
  | .pace => some (objDest l.i)
  | .fstRec => some (objRec l.i)
  | .fstPly => some (objPly l.i)
  | .audDom => some ((domPort l.i).getD (objDomain l.i))
  | .ami => some (objAmi l.i)
  | .amo => some (objAmo l.i)
  | .sap => some (objSap l.i)
  | .ai => some (objAes l.i)
  | .ao => some (objAes (8 + l.i))
  | .src => some (objSrc l.i)
  | _ => none

/-- Offsets of the SYS block that a tenancy other than the rig owner may not read: the FAB registers (R678). -/
def isFab (l : Loc) : Bool := decide (0x300 ≤ l.off)

/-- The tenancy that a tenancy-indexed window or register belongs to. -/
def windowTenancy (l : Loc) : Option Nat :=
  match l.kind with
  | .ten => some l.i
  | .tenPre => some l.i
  | .fstTen => some l.i
  | .splGroup => some l.i
  | .fidHook => some l.j
  | .agrp => some (l.i / 64)
  | .aud => if l.off < 0x10 then none else some l.k
  | _ => none

/-- Tenancy `t` may read the register: the owner of its object, every tenancy where the block's rule says so, the rig owner
where the rule names it (R19, R80, R137, R477, R538, R575, R607, R618, R660, R678, R707, R733, R765, R766). -/
def mayRead (t : Nat) (l : Loc) (s : State) : Bool :=
  let rig := decide (t = s.rigOwner)
  match windowObj l with
  | some c =>
    match l.kind with
    | .splEi => s.mayUse t c
    | .ami => s.mayUse t c
    | .audDom => decide (l.i = 0) || decide (s.owner c = some t)
    | _ => decide (s.owner c = some t)
  | none =>
    match l.kind with
    | .sys => !isFab l || rig
    | .ten => decide (t = l.i) || (rig && decide (l.off < 0x40))
    | .laneMap => rig
    | .recs => rig || decide (l.off < 8) || decide (l.off = 0x10)
    | .key =>
      if 0x1000 ≤ l.off then
        rig || (decide (s.f (Reg.keySlotAttr l.k) 9 0 ≠ 0) && (s.f (Reg.keySlotAttr l.k) 9 6).testBit t)
      else rig || decide (l.off < 8) || decide (0x40 ≤ l.off)
    | _ =>
      match windowTenancy l with
      | some u => decide (t = u)
      | none => true

/-- Tenancy `t` may write the register. -/
def mayWrite (t : Nat) (l : Loc) (s : State) : Bool :=
  let rig := decide (t = s.rigOwner)
  match windowObj l with
  | some c =>
    match l.kind with
    | .audDom => decide (l.i ≠ 0) && decide (s.owner c = some t)
    | _ => decide (s.owner c = some t)
  | none =>
    match l.kind with
    | .sys => rig && decide (l.off ≠ 0x10)
    | .ten => decide (t = l.i) || (rig && decide (l.off = 0x0C))
    | .tenShared => true
    | .pwr => rig
    | .tmb => rig
    | .calStrand => rig || decide (s.owner (objStrand l.i) = some t)
    | .calRate => rig
    | .calSensor => rig
    | .calRefsync => rig
    | .fst => rig
    | .fstCh => rig
    | .laneMap => rig
    | .fidSys => rig
    | .recs => rig
    | .key => rig
    | _ =>
      match windowTenancy l with
      | some u => decide (t = u)
      | none => true

/-- The zone of a register's object, for R75. -/
def windowZone (l : Loc) : Option Nat :=
  match l.kind with
  | .bight => some (2 * l.i)
  | .fidHook => if l.i < 32 then some (l.i / 2) else none
  | .fidSys => if 1 ≤ l.i ∧ l.i ≤ 32 then some ((l.i - 1) / 2) else none
  | _ =>
    match windowObj l with
    | some c => zoneOfObj c
    | none => none

/-- The register belongs to a zone that is STOPPED (R75). -/
def zoneStopped (l : Loc) (s : State) : Bool :=
  match windowZone l with
  | none => false
  | some z => decide (s.zone z = 3)

/-- The tenancy a master acts for, if it is a tenancy bridge. -/
def masterTenancy : Master → Option Nat
  | .tenancy t => some t
  | _ => none

/-- The register lies in a block whose BAR0 reads Lockdown leaves open: SYS, TEN, PWR, REC and KEY (R751). -/
def openInLockdown (l : Loc) : Bool :=
  match l.kind with
  | .sys | .ten | .tenShared | .tenPre | .pwr | .recs | .key => true
  | _ => false

/-- The gate of a read by a tenancy (R19, R75, R751). -/
def readGate (t : Nat) (l : Loc) (s : State) : Gate :=
  if !mayRead t l s then .foreign
  else if decide (s.mode = .lockdown) && !openInLockdown l then .ignore
  else if zoneStopped l s then .ignore
  else .pass

/-- The gate of a write by a tenancy (R19, R75, R751). -/
def writeGate (t : Nat) (l : Loc) (s : State) : Gate :=
  if !mayWrite t l s then .foreign
  else if decide (s.mode = .lockdown) && decide (l.row.acc ≠ .w1c) then .ignore
  else if zoneStopped l s then .ignore
  else .pass

/-- Count a foreign access (R19). -/
def foreign (t : Nat) (s : State) : State := s.bump (Reg.tenForeignCnt t) 1

/-- Count a write dropped because its zone is STOPPED (R75, R83): a 12-bit field that saturates. -/
def dropWrite (s : State) : State :=
  s.setF Reg.sysRezoneStatus 31 20 (min 4095 (s.f Reg.sysRezoneStatus 31 20 + 1))

/-- Write a register through the gate: `f` is what the write does when it passes. A fid or the debug port is not filtered by ownership; a write to a STOPPED zone
counts as dropped, whoever makes it (R75). -/
def gatedWrite (m : Master) (a : Nat) (f : Loc → State → State) (s : State) : State :=
  match locate a with
  | none => s
  | some l =>
    match m with
    | .tenancy t =>
      match writeGate t l s with
      | .pass => f l s
      | .foreign => foreign t s
      | .ignore => if zoneStopped l s && decide (s.mode ≠ .lockdown) then dropWrite s else s
    | _ => if zoneStopped l s then dropWrite s else f l s

/-- A read of a located register through the gate: what fails it returns 0 (R19, R75). -/
def gatedRead (m : Master) (a : Nat) (f : Loc → State → State) (s : State) : State :=
  match locate a with
  | none => s.emit (.read 0)
  | some l =>
    match m with
    | .tenancy t =>
      match readGate t l s with
      | .pass => f l s
      | .foreign => foreign t (s.emit (.read 0))
      | .ignore => s.emit (.read 0)
    | _ => if zoneStopped l s then s.emit (.read 0) else f l s

/-- The value a write leaves in a register whose row says which bits it reaches: written bits take `v`, the others stay (R14, R18). -/
def merge (mask : Nat) (old v : Word) : Word := (old &&& ~~~(wd mask)) ||| (v &&& wd mask)

/-- A plain RW write of a located register. -/
def plainWrite (l : Loc) (a : Nat) (v : Word) (s : State) : State :=
  match l.row.acc with
  | .ro => s
  | .rc => s
  | .w1c => s.setReg a (s.reg a &&& ~~~(v &&& wd l.row.mask))
  | _ => s.setReg a (merge l.row.mask (s.reg a) v)

/-! The masters of the fabric (R661, R675 to R678) -/

/-- The number of a master. -/
def masterNo : Master → Nat
  | .tenancy t => t
  | .fid f => 4 + f
  | .dma d => 48 + d
  | .debug => 64

/-- Raise a FAB_EVENT bit to the rig owner (R678). -/
def raiseFab (b : Nat) (s : State) : State := raiseEn (some s.rigOwner) 0 Reg.fabEvent Reg.fabEventEn b s

/-- The lock is released; FAB_STATUS shows none held. -/
def unlockFabric (s : State) : State := { s with fab := { s.fab with lock := none } }.setReg Reg.fabStatus (wd 0x7E)

/-- A master is reset (R675, R676): its lock is released, and each transaction whose response is discarded counts. -/
def masterReset (m : Master) (discarded : Nat) (s : State) : State :=
  let s := match s.fab.lock with
    | some (h, _) => if h = masterNo m then unlockFabric s else s
    | none => s
  raiseFab 2 (s.bump Reg.fabResetDiscardCnt discarded)

end Sys2Proof.Machine
end

