-- ==== Sys2Proof/Machine/Lanes.lean ====
section
/-! DEFINITION. Strands, braids and bights as the rest of the part sees them: receiver and transmitter states (R96, R100),
braid members (R102), what drives a transmitter (R26, R112 to R114) and the bight pairs (R127 to R132). -/

namespace Sys2Proof.Machine

open Sys2Proof

/-- Receiver states (R96). -/
inductive Rx where
  | down | seek | cdr | adapt | sync | up | los
  deriving DecidableEq, Repr

/-- The code of a receiver state. -/
def rxCode : Rx → Nat
  | .down => 0 | .seek => 1 | .cdr => 2 | .adapt => 3 | .sync => 4 | .up => 5 | .los => 6

/-- The receiver state of a code; 7 is never held. -/
def rxOf (c : Nat) : Rx :=
  match c with
  | 0 => .down | 1 => .seek | 2 => .cdr | 3 => .adapt | 4 => .sync | 5 => .up | _ => .los

/-- Transmitter states (R100, R135). -/
inductive Tx where
  | disabled | idle | active
  deriving DecidableEq, Repr

/-- The code of a transmitter state. -/
def txCode : Tx → Nat
  | .disabled => 0 | .idle => 1 | .active => 2

/-- Replace the strand part of the state. -/
def setStrand (t : StrandState) (s : State) : State := { s with strand := t }

/-- Protocol of a strand (R134): 0 RAW, 1 SDI, 2 ETH, 3 DISP. -/
def State.proto (s : State) (n : Nat) : Nat := s.f (Reg.strCfg n) 1 0

/-- Rate code of a strand (R87, R134). -/
def State.rate (s : State) (n : Nat) : Nat := s.f (Reg.strCfg n) 13 8

/-- Width of the braid that a strand belongs to (R134). -/
def State.width (s : State) (n : Nat) : Nat := 2 ^ s.f (Reg.strCfg n) 3 2

/-- Leader of the braid or port of a strand (R134). -/
def State.leader (s : State) (n : Nat) : Nat := s.f (Reg.strCfg n) 22 16

/-- The strand leads a braid or display port, or is single. -/
def State.leads (s : State) (n : Nat) : Bool := decide (s.leader n = n)

/-- The members of the braid or port of a strand, itself alone when single (R102). -/
def State.members (s : State) (n : Nat) : List Nat :=
  (List.range (s.width (s.leader n))).map (fun k => s.leader n + k)

/-- The receiver state of a strand. -/
def State.rx (s : State) (n : Nat) : Rx := rxOf (s.f (Reg.strState n) 2 0)

/-- Set the receiver state of a strand. -/
def setRx (n : Nat) (r : Rx) (s : State) : State := s.setF (Reg.strState n) 2 0 (rxCode r)

/-- The transmitter state code of a strand (R135). -/
def State.tx (s : State) (n : Nat) : Nat := s.f (Reg.strState n) 5 4

/-- The transmitter is driven by the strand matrix (R135 TX_SRC). -/
def State.txMatrix (s : State) (n : Nat) : Bool := s.bit (Reg.strState n) 6

/-- SPL_SRC of a destination: the live hitch, if any (R241). -/
def State.hitch (s : State) (d : Nat) : Option Nat :=
  if s.bit (Reg.splSrc (destWin d)) 11 then some (s.f (Reg.splSrc (destWin d)) 10 0) else none

/-- The destination whose window starts at an address, if the address is the SPL_SRC register of one. -/
def destOfWin (a : Nat) : Option Nat :=
  if 0x182000 ≤ a ∧ a < 0x184000 ∧ a % 0x40 = 0 then some (destStrand ((a - 0x182000) / 0x40))
  else if 0x190000 ≤ a ∧ a < 0x1A0000 ∧ a % 0x40 = 0 then some ((a - 0x190000) / 0x40)
  else none

/-- Every live hitch, as destination and source. -/
def State.hitches (s : State) : List (Nat × Nat) :=
  s.regs.filterMap (fun e =>
    match destOfWin e.1 with
    | some d => if bitOf e.2 11 then some (d, fld e.2 10 0) else none
    | none => none)

/-- The destinations of a kind hitched to a source. -/
def State.fedBy (s : State) (strand : Bool) (src : Nat) : List Nat :=
  (s.hitches.filter (fun h => decide (destIsStrand h.1 = strand) && decide (h.2 = src))).map Prod.fst

/-- What an egress essence port is bound to (R29). -/
def State.consumer (s : State) (eo : Nat) : Option Consumer := tabGet eo s.spl.eoBind

/-- What an ingress essence port is bound to (R29). -/
def State.producer (s : State) (ei : Nat) : Option Producer := tabGet ei s.spl.eiBind

/-- The generator that paces an encoder EO, if one is assigned (R428). -/
def State.paceTg (s : State) (eo : Nat) : Option Nat :=
  if bitOf (s.liveReg (Reg.scnPace eo)) 8 then some (fld (s.liveReg (Reg.scnPace eo)) 7 0) else none

/-- The generator that paces a running encoder EO: for an SDI framer, only one whose live timing matches the built-in table (R34, R404). -/
def State.pacedBy (s : State) (eo : Nat) : Option Nat :=
  match s.paceTg eo with
  | none => none
  | some tg =>
    match s.consumer eo with
    | some (.sdiEnc _ _) => if s.bit (Reg.scnStatus tg) 5 then some tg else none
    | _ => some tg

/-- The consumer is an encoder (R34). -/
def isEncoder : Consumer → Bool
  | .sdiEnc _ _ => true
  | .dispSrc _ => true
  | .tx2110 _ => true
  | _ => false

/-- The leader strand of the encoder a consumer is, if it drives a strand. -/
def encoderStrand : Consumer → Option Nat
  | .sdiEnc n _ => some n
  | .dispSrc dp => some (64 + 4 * dp)
  | _ => none

/-- The EO ports bound to the encoder of strand `n` or of the braid it leads. -/
def State.encoderEos (s : State) (n : Nat) : List Nat :=
  (s.spl.eoBind.filter (fun e => decide (encoderStrand e.2 = some n))).map Prod.fst

/-- An EO port of the strand's encoder runs: a generator is assigned to it (R34, R197). -/
def State.encoderRuns (s : State) (n : Nat) : Bool := (s.encoderEos n).any (fun eo => (s.pacedBy eo).isSome)

/-- An enabled send flow uses the interface that strand `n` leads. -/
def State.sendFlowOn (s : State) (n : Nat) : Bool :=
  s.wire.flows.any (fun e => e.2.desc.enable && e.2.desc.send &&
    (decide (e.2.desc.ifA = n) || (e.2.desc.paired && decide (e.2.desc.ifB = n))))

/-- The lane of a display port is in use (R93): its count of lanes in use is kept by port. -/
def State.laneUsed (s : State) (n : Nat) : Bool :=
  if s.proto n = 3 then decide (n - s.leader n < tabGetD 4 ((s.leader n - 64) / 4) s.strand.dpLanes) else true

/-- An Ethernet strand corrects FEC codewords: 25GBASE-R with FEC and every PAM4 lane (R91). -/
def State.hasFec (s : State) (n : Nat) : Bool := decide (s.rate n = 0x14) || s.bit (Reg.strCfg n) 5

/-- A strand runs PAM4 (R87). -/
def State.pam4 (s : State) (n : Nat) : Bool := decide (s.rate n = 0x14 ∨ s.rate n = 0x15)

/-- The PRBS generator of a strand may drive its transmitter, and its checker may compare (R115). -/
def State.prbsGenMay (s : State) (n : Nat) : Bool := decide (s.proto n = 0) && (s.hitch (destStrand n)).isNone
def State.prbsCheckMay (s : State) (n : Nat) : Bool := decide (s.proto n = 0) && decide (s.rx n = .up)

/-- The pattern selected is one of the strand's modulation (R115). -/
def State.prbsPatternOk (s : State) (n : Nat) : Bool :=
  let p := s.f (Reg.strPrbsCtrl n) 3 0
  if s.pam4 n then decide (5 ≤ p ∧ p ≤ 7) else decide (p ≤ 4)

/-- The PRBS generator of a strand drives its transmitter (R115). -/
def State.prbsDrives (s : State) (n : Nat) : Bool :=
  s.prbsGenMay n && s.bit (Reg.strPrbsCtrl n) 4 && s.prbsPatternOk n

/-- The PRBS checker of a strand compares (R115). -/
def State.prbsChecks (s : State) (n : Nat) : Bool :=
  s.prbsCheckMay n && s.bit (Reg.strPrbsCtrl n) 5 && s.prbsPatternOk n

/-- A receiver feeds the strand matrix: it has been UP and has kept its signal since (R112, R113, R797), and its zone is not STOPPED (R73). -/
def State.feeds (s : State) (n : Nat) : Bool := tabGetD false n s.strand.feeds && decide (s.zone (n / 8) ≠ 3)

/-- A taut hitch holds the transmitter of a strand (R26, R163). -/
def State.tautHeld (s : State) (n : Nat) : Bool := (s.hitch (destStrand n)).isSome

/-- What the transmitter of a strand is to do, and whether the strand matrix drives it
(R94, R100, R109 to R114, R74, R75, R77, R208, R217, R745, R750). An IDLE transmitter's signal comes from the strand's own encoder, hitched or not (R100, R112). -/
def txWanted (n : Nat) (s : State) : Tx × Bool :=
  let z := s.zone (n / 8)
  if s.rate n = 0 then (.disabled, false)
  else if s.bit (Reg.strState n) 7 then (.disabled, false)
  else if !tabGetD false n s.strand.pllLocked then (.disabled, false)
  else if s.proto n = 3 ∧ !s.bit (Reg.strCfg n) 7 then (.disabled, false)
  else if !s.laneUsed n then (.disabled, false)
  else if s.pwr.halted.contains n then (.disabled, false)
  else
    match s.mode with
    | .off => (.disabled, false)
    | .reset => (.disabled, false)
    | .doze => (.disabled, false)
    | .deepSleep => (.disabled, false)
    | .lockdown => (.disabled, false)
    | _ =>
      match s.hitch (destStrand n) with
      | some src =>
        if 2 ≤ z then (.idle, false)
        else if (tabGet (s.leader n) s.spl.blockReturns).isSome then (.active, false)
        else if s.bit (Reg.splSrc (destWin (destStrand (s.leader n)))) 14 then
          (if s.feeds src then .active else .idle, false)
        else if s.feeds src && !s.strand.restores.contains n then (.active, true)
        else (.idle, false)
      | none =>
        if z = 3 then (.idle, false)
        else if s.encoderRuns (s.leader n) || s.prbsDrives n ||
            (decide (s.proto n = 2) && s.sendFlowOn (s.leader n)) then (.active, false)
        else (.idle, false)

/-! Line rates -/

/-- Samples taken of each bit at a rate in kbit/s: below 1.25 Gbit/s the strand runs at 1 to 5 times the rate (R89, R90). -/
def oversampleOf (kbps : Nat) : Nat := if kbps < 1250000 then min 5 (ceilDiv 1250000 (max kbps 1)) else 1

/-- The line rate of a rate code in kbit/s, as numerator and denominator: codes of rates over 1.001 are exact, and a CUSTOM rate is what the strand runs at (R87, R90). None for
OFF, TRACK and reserved codes. -/
def lineRateOf (code custom : Nat) : Option (Nat × Nat) :=
  match code with
  | 0x01 => some (1350000, 1) | 0x02 => some (1485000000, 1001) | 0x03 => some (1485000, 1) | 0x04 => some (2970000000, 1001)
  | 0x05 => some (2970000, 1) | 0x06 => some (5940000000, 1001) | 0x07 => some (5940000, 1) | 0x08 => some (8100000, 1)
  | 0x09 => some (10000000, 1) | 0x0A => some (10312500, 1) | 0x0B => some (11880000000, 1001) | 0x0C => some (11880000, 1)
  | 0x0D => some (13500000, 1) | 0x0E => some (20000000, 1) | 0x0F => some (25781250, 1) | 0x10 => some (3000000, 1)
  | 0x11 => some (6000000, 1) | 0x12 => some (8000000, 1) | 0x13 => some (12000000, 1) | 0x14 => some (53125000, 1)
  | 0x15 => some (56000000, 1) | 0x3F => some (custom * oversampleOf custom, 1)
  | _ => none

/-- The line rate of a strand. -/
def State.lineRate (s : State) (n : Nat) : Option (Nat × Nat) := lineRateOf (s.rate n) (s.reg (Reg.strRateCustom n)).toNat

/-- Two strands run the same line rate in the same modulation (R28). -/
def State.sameRate (s : State) (a b : Nat) : Bool :=
  match s.lineRate a, s.lineRate b with
  | some x, some y => decide (x.1 * y.2 = y.1 * x.2) && decide (s.pam4 a = s.pam4 b)
  | _, _ => false

/-! Bight pairs -/

/-- A bight's two strands. -/
def bightA (k : Nat) : Nat := 16 * k
def bightB (k : Nat) : Nat := 16 * k + 1

/-- The transmitter carries video (R130). -/
def State.carriesVideo (s : State) (n : Nat) : Bool :=
  decide (s.tx n = 2) &&
  (if s.txMatrix n then
    match s.hitch (destStrand n) with
    | some src => decide (s.proto src = 1)
    | none => false
   else decide (s.proto n = 1 ∨ s.proto n = 3))

/-- The destination whose splice point a bight transition waits for; none when it takes place at once (R130). A promoted egress has the points of its strand (R214). -/
def State.bightDest (s : State) (k : Nat) : Option Nat :=
  let of (n : Nat) : Option Nat :=
    if s.carriesVideo n then
      (if s.txMatrix n || (tabGet n s.spl.promos).isSome then some (destStrand n) else (s.encoderEos (s.leader n)).head?)
    else none
  match of (bightB k) with
  | some d => some d
  | none => of (bightA k)

/-- The forcing conditions of a bight pair, as the bits of STR_BIGHT_STATUS.FORCE (R128, R138). -/
def bightForce (k : Nat) (s : State) : Nat :=
  let rel n := tabGetD false n s.strand.released
  let lock := decide (s.mode = .lockdown)
  b2n (!(rel (bightA k) && rel (bightB k))) +
  2 * b2n (decide (2 ≤ s.zone (2 * k))) +
  4 * b2n (lock && s.bit (Reg.strBightStatus k) 16) +
  8 * b2n (decide (s.mode = .doze ∨ s.mode = .deepSleep) || s.bit Reg.sysMode 8) +
  16 * b2n (!lock && !(decide (s.tx (bightA k) = 2) && decide (s.tx (bightB k) = 2))) +
  32 * b2n (decide (s.mode = .reset ∨ s.mode = .off))

/-- The pair is to be open (R129, R131). -/
def bightWantsOpen (k : Nat) (s : State) : Bool :=
  let fc := bightForce k s
  if s.mode = .lockdown then !fc.testBit 0 && !s.bit (Reg.strBightStatus k) 16
  else decide (fc = 0) && s.bit (Reg.strBightCtrl k) 0

/-- A close is due at once rather than at a splice point (R128). -/
def bightAtOnce (k : Nat) (s : State) : Bool :=
  let fc := bightForce k s
  fc.testBit 5 || fc.testBit 4 || decide (s.mode = .lockdown) || fc.testBit 0

/-- Bring a bight pair into line with its conditions: FORCE is recomputed, and a transition starts, waits for its splice point, or
is no longer pending (R127 to R132). -/
def bightRefresh (k : Nat) (s : State) : State :=
  let s := s.setF (Reg.strBightStatus k) 13 8 (bightForce k s)
  let st := s.f (Reg.strBightStatus k) 1 0
  let waits := (s.bightDest k).isSome
  if st = 0 ∧ bightWantsOpen k s then
    if waits && decide (s.mode ≠ .lockdown) then s.setBit (Reg.strBightStatus k) 17 true
    else (s.setF (Reg.strBightStatus k) 1 0 1).setBit (Reg.strBightStatus k) 17 false
  else if st = 2 ∧ !bightWantsOpen k s then
    if waits && !bightAtOnce k s then s.setBit (Reg.strBightStatus k) 17 true
    else (s.setF (Reg.strBightStatus k) 1 0 3).setBit (Reg.strBightStatus k) 17 false
  else s.setBit (Reg.strBightStatus k) 17 false

/-- Every bight pair is CLOSED (R128: the entry to a sleep mode waits for it). -/
def State.bightsClosed (s : State) : Bool := (List.range 8).all (fun k => decide (s.f (Reg.strBightStatus k) 1 0 = 0))

/-- The splice point a pending bight transition waits for has come (R130). -/
def bightAtPoint (k : Nat) (s : State) : State :=
  if s.bit (Reg.strBightStatus k) 17 then
    let st := s.f (Reg.strBightStatus k) 1 0
    ((s.setF (Reg.strBightStatus k) 1 0 (if st = 0 then 1 else 3)).setBit (Reg.strBightStatus k) 17 false)
  else s

/-- Bring one transmitter into line with what drives it, and its bight pair with it. -/
def txRefresh (n : Nat) (s : State) : State :=
  let w := txWanted n s
  let s := (s.setF (Reg.strState n) 5 4 (txCode w.1)).setBit (Reg.strState n) 6 w.2
  if n % 16 ≤ 1 then bightRefresh (n / 16) s else s

/-- Bring several transmitters into line. -/
def txRefreshAll (ns : List Nat) (s : State) : State := ns.foldl (fun s n => txRefresh n s) s

/-- Bring every transmitter and bight into line. -/
def lanesRefresh (s : State) : State :=
  (List.range 8).foldl (fun s k => bightRefresh k s) (txRefreshAll (List.range 128) s)

/-- Raise a strand event (R136): posted under STR_EVENT_EN to the strand's owner. -/
def raiseStrand (n b : Nat) (s : State) : State :=
  raiseEn (s.owner (objStrand n)) (objStrand n) (Reg.strEvent n) (Reg.strEventEn n) b s

end Sys2Proof.Machine
end

