-- ==== Sys2Proof/Machine/Timing.lean ====
section
/-! DEFINITION. The rasters of timing generators (R397 to R404), the essences on ports (R29), formats as registers hold them,
and the line arithmetic of scalers (R316, R321, R355). A function that may be asked of the live or of the shadow context takes the reader `rd`. -/

namespace Sys2Proof.Machine

open Sys2Proof

/-- A reader of registers: the live or the shadow context. -/
abbrev Rd := Nat → Word

/-- A timing (R397): four horizontal and four vertical fields, clock in kHz, the M flag, scan and the two polarities. -/
structure Timing where
  hA : Nat
  hF : Nat
  hS : Nat
  hB : Nat
  vA : Nat
  vF : Nat
  vS : Nat
  vB : Nat
  pclk : Nat
  m : Bool
  scan : Nat
  hp : Bool
  vp : Bool
  deriving DecidableEq, Repr

/-- The timing a generator's registers hold. -/
def genTiming (rd : Rd) (tg : Nat) : Timing :=
  { hA := fld (rd (Reg.scnH1 tg)) 12 0, hF := fld (rd (Reg.scnH1 tg)) 28 16
    hS := fld (rd (Reg.scnH2 tg)) 12 0, hB := fld (rd (Reg.scnH2 tg)) 28 16
    vA := fld (rd (Reg.scnV1 tg)) 12 0, vF := fld (rd (Reg.scnV1 tg)) 28 16
    vS := fld (rd (Reg.scnV2 tg)) 12 0, vB := fld (rd (Reg.scnV2 tg)) 28 16
    pclk := fld (rd (Reg.scnPclk tg)) 29 0, m := bitOf (rd (Reg.scnPclk tg)) 31
    scan := fld (rd (Reg.scnFmt tg)) 1 0, hp := bitOf (rd (Reg.scnFmt tg)) 2, vp := bitOf (rd (Reg.scnFmt tg)) 3 }

/-- The six register values of a timing, H1, H2, V1, V2, PCLK and FMT. -/
def timingWords (t : Timing) : List Word :=
  [wd (t.hA + t.hF * 0x10000), wd (t.hS + t.hB * 0x10000), wd (t.vA + t.vF * 0x10000), wd (t.vS + t.vB * 0x10000),
   wd (t.pclk + b2n t.m * 0x80000000), wd (t.scan + 4 * b2n t.hp + 8 * b2n t.vp)]

/-- H_TOTAL (R397). -/
def Timing.hTotal (t : Timing) : Nat := t.hA + t.hF + t.hS + t.hB

/-- Lines of field 1, or of the frame when progressive (R398). -/
def Timing.f1 (t : Timing) : Nat := t.vF + t.vS + t.vB + t.vA

/-- V_TOTAL (R398). -/
def Timing.vTotal (t : Timing) : Nat := if t.scan = 0 then t.f1 else 2 * t.f1 + 1

/-- Active lines of the frame (R399). -/
def Timing.height (t : Timing) : Nat := if t.scan = 0 then t.vA else 2 * t.vA

/-- The frame rate as numerator and denominator (R399). -/
def Timing.rate (t : Timing) : Nat × Nat :=
  if t.m then (t.pclk * 1000000, t.hTotal * t.vTotal * 1001) else (t.pclk * 1000, t.hTotal * t.vTotal)

/-- Two rates are equal. -/
def rateEq (a b : Nat × Nat) : Bool := decide (a.1 * b.2 = b.1 * a.2)

/-- The frame period in ns, rounded down. -/
def Timing.frameNs (t : Timing) : Nat := 1000000000 * t.rate.2 / t.rate.1

/-- The line period in ns, rounded down. -/
def Timing.lineNs (t : Timing) : Nat := 1000000000 * t.rate.2 / (t.rate.1 * t.vTotal)

/-- The timing may run (R399). -/
def Timing.valid (t : Timing) : Bool :=
  let r := t.rate
  decide (16 ≤ t.hA ∧ t.hA ≤ 4096) && decide (16 ≤ t.height ∧ t.height ≤ 2160) &&
  decide (t.hF ≠ 0 ∧ t.hS ≠ 0 ∧ t.hB ≠ 0 ∧ t.vF ≠ 0 ∧ t.vS ≠ 0 ∧ t.vB ≠ 0) &&
  decide (t.hTotal ≤ 8191 ∧ t.vTotal ≤ 4095) &&
  decide (239 * r.2 ≤ 10 * r.1 ∧ r.1 ≤ 61 * r.2) &&
  decide (t.hA * t.vTotal * r.1 ≤ 600000000 * r.2)

/-- H_TOTAL of a built-in entry at a rate (R403). -/
def tableHTotal (e r : Nat) : Option Nat :=
  match e, r with
  | 0, 4 => some 858
  | 1, 5 => some 864
  | 2, 0 | 2, 1 => some 1650
  | 2, 2 => some 1980
  | 2, 3 | 2, 4 => some 3300
  | 2, 5 => some 3960
  | 2, 6 | 2, 7 => some 4125
  | 3, 0 | 3, 1 | 3, 3 | 3, 4 => some 2200
  | 3, 2 | 3, 5 => some 2640
  | 3, 6 | 3, 7 => some 2750
  | 4, 3 | 4, 4 | 5, 3 | 5, 4 => some 2200
  | 4, 5 | 5, 5 => some 2640
  | 6, 0 | 6, 1 | 6, 3 | 6, 4 | 7, 0 | 7, 1 | 7, 3 | 7, 4 => some 4400
  | 6, 2 | 6, 5 | 7, 2 | 7, 5 => some 5280
  | 6, 6 | 6, 7 | 7, 6 | 7, 7 => some 5500
  | 8, 0 => some 1344
  | 9, 0 => some 1688
  | 10, 0 => some 2080
  | 11, 0 | 12, 0 => some 2720
  | _, _ => none

/-- Active size (height per field), syncs and back porches, scan and polarities of an entry (R403), before its rate:
active width, height, H sync, H back, V front, V sync, V back, scan, H positive, V positive. -/
def tableShape (e r : Nat) : Nat × Nat × Nat × Nat × Nat × Nat × Nat × Nat × Bool × Bool :=
  match e with
  | 0 => (720, 243, 62, 60, 3, 3, 13, 1, false, false)
  | 1 => (720, 288, 64, 68, 2, 3, 19, 1, false, false)
  | 2 => (1280, 720, 40, 220, 5, 5, 20, 0, true, true)
  | 3 => (1920, 1080, 44, 148, 4, 5, 36, 0, true, true)
  | 4 => (1920, 540, 44, 148, 2, 5, 15, 1, true, true)
  | 5 => (1920, 540, 44, 148, 2, 5, 15, 2, true, true)
  | 6 => (3840, 2160, 88, 296, 8, 10, 72, 0, true, true)
  | 7 => (4096, 2160, 88, if r = 6 ∨ r = 7 then 296 else 128, 8, 10, 72, 0, true, true)
  | 8 => (1024, 768, 136, 160, 3, 6, 29, 0, false, false)
  | 9 => (1280, 1024, 112, 248, 1, 3, 38, 0, true, true)
  | 10 => (1920, 1200, 32, 80, 3, 6, 26, 0, true, false)
  | 11 => (2560, 1440, 32, 80, 3, 5, 33, 0, true, false)
  | _ => (2560, 1600, 32, 80, 3, 6, 37, 0, true, false)

/-- PCLK in kHz of an entry at a rate (R403). -/
def tablePclk (e r : Nat) : Nat :=
  match e with
  | 0 | 1 => 13500
  | 2 => 74250
  | 3 => if r ≤ 2 then 148500 else 74250
  | 4 | 5 => 74250
  | 6 | 7 => if r ≤ 2 then 594000 else 297000
  | 8 => 65000
  | 9 => 108000
  | 10 => 154000
  | 11 => 241500
  | _ => 268500

/-- The built-in timing of an entry and rate, if R403 lists the pair. -/
def tableTiming (e r : Nat) : Option Timing :=
  match tableHTotal e r with
  | none => none
  | some ht =>
    let (w, h, hs, hb, vf, vs, vb, scan, hp, vp) := tableShape e r
    some { hA := w, hF := ht - w - hs - hb, hS := hs, hB := hb, vA := h, vF := vf, vS := vs, vB := vb
           pclk := tablePclk e r, m := decide (e ≠ 0) && decide (r = 1 ∨ r = 4 ∨ r = 7), scan := scan, hp := hp, vp := vp }

/-- The generator line of the SMPTE switching line of an entry, SW (R403). -/
def tableSw (e : Nat) : Option Nat :=
  match e with
  | 0 => some 12 | 1 => some 7 | 2 => some 11 | 3 => some 10 | 4 => some 8 | 5 => some 8 | 6 => some 14 | 7 => some 14
  | _ => none

/-- The entry and rate a timing equals field for field, among those with a SW line (R404). -/
def smpteMatch (t : Timing) : Option (Nat × Nat) :=
  ((List.range 64).map (fun k => (k / 8, k % 8))).find? (fun p => decide (tableTiming p.1 p.2 = some t))

/-- The generator runs: RUN of its live context (R401). -/
def State.genRuns (s : State) (tg : Nat) : Bool := bitOf (s.liveReg (Reg.scnCtrl tg)) 0

/-- LOCK_STATE (R408): 0 OFF, 1 FREE, 2 ACQUIRING, 3 LOCKED, 4 FREEWHEEL. -/
def State.lockState (s : State) (tg : Nat) : Nat := s.f (Reg.scnStatus tg) 3 1

/-- Set LOCK_STATE. -/
def setLock (tg v : Nat) (s : State) : State := s.setF (Reg.scnStatus tg) 3 1 v

/-- Raise a generator's event (R424). -/
def raiseGen (tg b : Nat) (s : State) : State :=
  raiseEn (s.owner (objTg tg)) (objTg tg) (Reg.scnEvent tg) (Reg.scnEventEn tg) b s

/-- Code of a sampling's components per pixel, doubled: 4 for 4:2:2, 6 for 4:4:4 and RGB, 3 for 4:2:0. -/
def sampComps2 (sampling : Nat) : Nat := if sampling = 0 then 4 else if sampling = 3 then 3 else 6

/-- Bits per sample of a DEPTH code (R189). -/
def depthBits (d : Nat) : Nat := 8 + 2 * d

/-- The frame rate of a format. -/
def fps (f : Format) : Nat × Nat := (f.rateNum, f.rateDen)

/-- The essence keeps the limit of R32: active pixels of a line over its line period, at most 600 Mpixel/s. Without a known raster the line period is that of
ST 2110-21, the frame period × 1080 ÷ 1125 ÷ active lines. -/
def pixelRateOk (f : Format) : Bool :=
  let lines := if f.lineTotal = 0 then ceilDiv (f.height * 1125) 1080 else f.lineTotal
  decide (f.width * lines * f.rateNum ≤ 600000000 * max f.rateDen 1)

/-- Frame rates of R141: up to 30 frames per second, from 50 to 60, and the frames of interlaced rates. -/
def fpsLow (f : Format) : Bool := [(24000, 1001), (24, 1), (25, 1), (30000, 1001), (30, 1)].any (fun r => rateEq (fps f) r)
def fpsHigh (f : Format) : Bool := [(50, 1), (60000, 1001), (60, 1)].any (fun r => rateEq (fps f) r)
def fpsInter (f : Format) : Bool := [(25, 1), (30000, 1001), (30, 1)].any (fun r => rateEq (fps f) r)

/-- YCbCr 4:2:2 in 10 bits; 4:4:4 or RGB in 10 or 12 bits; the same in 12 bits only. -/
def is422 (f : Format) : Bool := decide (f.sampling = 0 ∧ f.depth = 1)
def is444 (f : Format) : Bool := decide ((f.sampling = 1 ∨ f.sampling = 2) ∧ (f.depth = 1 ∨ f.depth = 2))
def is444x12 (f : Format) : Bool := decide ((f.sampling = 1 ∨ f.sampling = 2) ∧ f.depth = 2)

/-- An ST 292-1 format (R141). -/
def hdFormat (f : Format) : Bool :=
  is422 f &&
  ((decide (f.width = 1920 ∧ f.height = 1080) && ((decide (f.scan = 1 ∨ f.scan = 2) && fpsInter f) || (decide (f.scan = 0) && fpsLow f))) ||
   (decide (f.width = 1280 ∧ f.height = 720 ∧ f.scan = 0) && (fpsLow f || fpsHigh f)))

/-- The rasters of 2160 lines (R141). -/
def uhdRaster (f : Format) : Bool := decide ((f.width = 3840 ∨ f.width = 4096) ∧ f.height = 2160 ∧ f.scan = 0)

/-- The format is one of those that R141 gives the rate code of an SDI strand, or of a quad link. -/
def sdiAccepts (rate : Nat) (quad : Bool) (f : Format) : Bool :=
  if quad then
    (uhdRaster f && fpsHigh f && is444x12 f && decide (f.streams = 0)) ||
    (decide (f.width = 7680 ∧ f.height = 4320 ∧ f.scan = 0 ∧ f.streams = 2) && fpsHigh f && is422 f)
  else
    match rate with
    | 1 =>
      is422 f && decide (f.scan = 1 ∧ f.width = 720) &&
      ((decide (f.height = 486) && rateEq (fps f) (30000, 1001)) || (decide (f.height = 576) && rateEq (fps f) (25, 1)))
    | 2 => hdFormat f && decide (f.streams = 0)
    | 3 => hdFormat f && decide (f.streams = 0)
    | 4 => threeG f
    | 5 => threeG f
    | 6 => uhdRaster f && fpsLow f && is422 f
    | 7 => uhdRaster f && fpsLow f && is422 f
    | 0x0B => twelveG f
    | 0x0C => twelveG f
    | _ => false
where
  threeG (f : Format) : Bool :=
    if f.level = 3 then hdFormat f && decide (f.streams = 1)
    else
      decide (f.width = 1920 ∧ f.height = 1080 ∧ f.streams = 0 ∧ (f.level = 1 ∨ f.level = 2)) &&
      ((decide (f.scan = 0) && fpsHigh f && is422 f) ||
       (is444 f && ((decide (f.scan = 0) && fpsLow f) || (decide (f.scan = 1) && fpsInter f))))
  twelveG (f : Format) : Bool :=
    uhdRaster f && ((fpsHigh f && is422 f) || (fpsLow f && is444x12 f))

/-- A display port accepts a format (R143, R151): within the active pixel rate of R32, samplings and depths of R143, and no 7680 × 4320. -/
def dispAccepts (f : Format) : Bool := decide (f.sampling ≤ 3 ∧ f.depth ≤ 2 ∧ f.width < 7680) && pixelRateOk f

/-- The essence of a format in the raster of a timing. -/
def timingFormat (t : Timing) (sampling depth colour : Nat) (full : Bool) : Format :=
  { width := t.hA, height := t.height, rateNum := t.rate.1, rateDen := t.rate.2, scan := t.scan, sampling := sampling
    depth := depth, colour := colour, fullRange := full, streams := 0, level := 0, byId := false, lineTotal := t.vTotal }

/-- WIR_FMT of a format (R189). -/
def fmtWord (f : Format) : Word :=
  wd (1 + 2 * b2n f.byId + 4 * (f.scan % 4) + 0x10 * (f.sampling % 4) + 0x40 * (f.depth % 4) + 0x100 * (f.colour % 8) +
    0x800 * b2n f.fullRange + 0x1000 * (f.streams % 4) + 0x4000 * (f.level % 4))

/-- WIR_FMT_SIZE of a format. -/
def fmtSizeWord (f : Format) : Word := wd (f.width % 0x10000 + 0x10000 * (f.height % 0x10000))

/-- WIR_FMT_RATE of a format. -/
def fmtRateWord (f : Format) : Word := wd (f.rateNum % 0x10000 + 0x10000 * (f.rateDen % 0x10000))

/-- A format stored in a slot header (R462), as WIR_FMT, WIR_FMT_SIZE and WIR_FMT_RATE code it. -/
def headFormat (h : SlotHead) : Format :=
  { width := fld h.size 15 0, height := fld h.size 31 16, rateNum := fld h.rate 15 0, rateDen := fld h.rate 31 16
    scan := fld h.fmt 3 2, sampling := fld h.fmt 5 4, depth := fld h.fmt 7 6, colour := fld h.fmt 10 8, fullRange := bitOf h.fmt 11
    streams := 0, level := 0, byId := false, lineTotal := 0 }

/-- The recorder a player reads (R467). -/
def plyRecorder (rd : Rd) (p : Nat) : Nat := fld (rd (Reg.fstPlyCtrl p)) 15 8

/-- The format last known of a recorder's delay line: that of its newest COMPLETE frame. -/
def State.recNewest (s : State) (r : Nat) : Option SlotHead :=
  match tabGet r s.store.recs with
  | none => none
  | some st => (st.heads.map Prod.snd).foldl (fun b h =>
      if h.flags.testBit 0 then
        match b with
        | none => some h
        | some x => if x.seq ≤ h.seq then some h else b
      else b) none

/-- The essence of one stream of a decoded format: a quadrant of a quad-link 7680 × 4320, a quarter of its raster, or one of the two like streams of level B-DS (R32, R141, R142). -/
def streamFormat (f : Format) : Format :=
  if f.streams = 2 then { f with width := f.width / 2, height := f.height / 2, lineTotal := f.lineTotal / 2, streams := 0 } else { f with streams := 0 }

/-- The essence of a display sink: 4:2:0 on the wire is 4:2:2 at the port (R144). -/
def sinkFormat (f : Format) : Format := if f.sampling = 3 then { f with sampling := 0 } else f

/-- The essence a sheet bend makes of an input format (R295, R297, R323), of its own size and scan: in PASS timing at its input's rate, in SYNC at its generator's; with COLOUR_EN 0
in its input's colorimetry, range and family. In SYNC with no input known it is what the registers name. -/
def sbOutFormat (rd : Rd) (n : Nat) (inp : Option Format) : Option Format :=
  let o := rd (Reg.sbdOutFmt n)
  let z := rd (Reg.sbdOutSize n)
  let own : Format :=
    { timingFormat (genTiming rd (fld (rd (Reg.sbdTg n)) 7 0)) (fld o 1 0) (fld o 3 2) (fld o 6 4) (bitOf o 7) with
      width := fld z 12 0, height := fld z 28 16, scan := fld o 9 8 }
  match inp with
  | none => if bitOf (rd (Reg.sbdCfg n)) 0 then some own else none
  | some f =>
    let timed := if bitOf (rd (Reg.sbdCfg n)) 0 then own else { own with rateNum := f.rateNum, rateDen := f.rateDen, lineTotal := f.lineTotal }
    some (if bitOf (rd (Reg.sbdCfg n)) 11 then timed
      else { timed with colour := f.colour, fullRange := f.fullRange, sampling := if f.sampling = 2 then 2 else if timed.sampling = 0 then 0 else 1 })

/-- Input EO and output EI of a sheet bend (R334). -/
def State.sbEo (s : State) (n : Nat) : Nat := s.f (Reg.sbdBind n) 9 0
def State.sbEi (s : State) (n : Nat) : Nat := s.f (Reg.sbdBind n) 25 16

/-- GANG_SHAPE of the gang a sheet bend belongs to: 0 QUAD_QUAD, 1 QUAD_ONE, 2 ONE_QUAD; none where it works alone (R331). -/
def State.sbShape (s : State) (rd : Rd) (n : Nat) : Option Nat :=
  if s.eng.gangs.contains (n / 4) then some (fld (rd (Reg.sbdCfg (n / 4 * 4))) 16 15) else none

/-- The egress port whose essence a sheet bend works on: its own, in a gang of shape ONE_QUAD the leader's (R331). -/
def State.sbSource (s : State) (rd : Rd) (n : Nat) : Nat := if s.sbShape rd n = some 2 then s.sbEo (n / 4 * 4) else s.sbEo n

/-- The format a producer gives its ingress port; none while no format is known. A level B-DS flow of ST 2022-6 also feeds the next receiver's port (R150). A player's line
period is its timing generator's (R32). `sbIn` gives the format at a sheet bend's input. -/
def State.producerFormat (s : State) (rd : Rd) (sbIn : Nat → Option Format) : Producer → Option Format
  | .sdiDec n _ => (tabGet n s.wire.formats).map streamFormat
  | .dispSink dp => (tabGet (64 + 4 * dp) s.wire.formats).map sinkFormat
  | .rx2110 f =>
    match tabGet (flowKey 0 f) s.wire.flows with
    | none =>
      if f = 0 then none
      else
        match tabGet (flowKey 0 (f - 1)) s.wire.flows, tabGet (0x1000 + (f - 1)) s.wire.formats with
        | some x, some g => if x.desc.kind = 1 ∧ g.streams = 1 then some (streamFormat g) else none
        | _, _ => none
    | some x => if x.desc.kind = 1 then (tabGet (0x1000 + f) s.wire.formats).map streamFormat else some (flowFormat x.desc)
  | .sbOut n => sbOutFormat rd n (sbIn n)
  | .cpOut n =>
    let o := rd (Reg.cmpOutFmt n)
    some (timingFormat (genTiming rd (fld (rd (Reg.cmpTg n)) 7 0)) (fld o 1 0) (fld o 3 2) (fld o 6 4) (bitOf o 7))
  | .player p =>
    match s.recNewest (plyRecorder rd p) with
    | none => none
    | some h =>
      let t := genTiming rd (fld (rd (Reg.fstPlyTg p)) 7 0)
      some { headFormat h with rateNum := t.rate.1, rateDen := t.rate.2, lineTotal := t.vTotal }

/-- The format of the essence on an ingress port, with the hitch each egress port has: through chains of sheet bends, `k` of them at most. -/
def eiFormatF : Nat → State → Rd → (Nat → Option Nat) → Nat → Option Format
  | 0, _, _, _, _ => none
  | k + 1, s, rd, hitch, ei =>
    match s.producer ei with
    | none => none
    | some p => s.producerFormat rd (fun n => (hitch (s.sbSource rd n)).bind (fun e => eiFormatF k s rd hitch e)) p

/-- The format of the essence on an ingress port. -/
def State.eiFormat (s : State) (rd : Rd) (ei : Nat) : Option Format := eiFormatF 96 s rd s.hitch ei

/-- The line of an SDI signal that begins its splice point: its switching line of field 1 or of the first segment (R219). Field 2 and the second segment have another line, which
is no splice point. -/
def sdiSwitchLine (f : Format) : Nat := if f.height = 486 then 10 else if f.height = 576 then 6 else 7

/-- The essence on an ingress port is present (R246). -/
def State.eiPresent (s : State) (ei : Nat) : Bool := s.bit (Reg.splEiStatus ei) 0

/-- The source of a destination is present: an ingress port's essence, or an ingress strand that feeds the matrix (R236, R241). -/
def State.srcPresent (s : State) (dest src : Nat) : Bool :=
  if destIsStrand dest then s.feeds src else s.eiPresent src

/-- The format of the essence at an egress port: that of the ingress port hitched to it. -/
def State.eoFormat (s : State) (rd : Rd) (eo : Nat) : Option Format :=
  match s.hitch eo with
  | none => none
  | some ei => s.eiFormat rd ei

/-- The source of an egress port is present. -/
def State.eoPresent (s : State) (eo : Nat) : Bool :=
  match s.hitch eo with
  | none => false
  | some ei => s.eiPresent ei

/-! Scaler arithmetic -/

/-- Signed value of an INIT field of 25 bits. -/
def initOf (w : Word) : Int := sx 25 w.toNat

/-- Automatic STEP of a scaler (R316). -/
def autoStep (inn out : Nat) : Nat := inn * 2 ^ 20 / out

/-- Automatic INIT of a scaler: (STEP − 2^20) ÷ 2 rounded toward zero (R316). -/
def autoInit (step : Nat) : Int := Int.tdiv ((step : Int) - 2 ^ 20) 2

/-- A step within R317. -/
def stepOk (st : Nat) : Bool := decide (0x10000 ≤ st ∧ st ≤ 0x800000)

/-- Lines needed for `taps` vertical taps at a vertical step (R321). -/
def linesNeeded (taps vstep : Nat) : Nat := taps + ceilDiv vstep (2 ^ 20)

/-- The vertical taps a scaler runs with: the first of the list that fits the lines available (R321, R355). -/
def tapsFit (lines wlb vstep : Nat) : List Nat → Option Nat
  | [] => none
  | t :: r => if linesNeeded t vstep ≤ lines / (max wlb 1) then some t else tapsFit lines wlb vstep r

/-! Charges -/

/-- kB/s of bytes per frame at a frame rate, rounded up (R454). -/
def kBps (bytes : Nat) (rate : Nat × Nat) : Nat := ceilDiv (bytes * rate.1) (1000 * (max rate.2 1))

/-- Bytes of `w` by `h` pixels at a sampling and depth, as R333 counts them. -/
def pixelBytes (w h sampling depth : Nat) : Nat := ceilDiv (w * h * sampComps2 sampling * depthBits depth) 16

/-- The store format code of an essence (R464). -/
def storeCode (f : Format) : Nat :=
  match f.sampling, f.depth with
  | 0, 0 => 0 | 0, 1 => 1 | 0, _ => 8
  | 1, 2 => 3 | 1, _ => 2
  | 2, 2 => 5 | 2, _ => 4
  | _, 2 => 3 | _, _ => 2

/-- The essence is stored as 8-bit values × 4 (R464). -/
def storedLow (f : Format) : Bool := decide (f.depth = 0 ∧ f.sampling ≠ 0)

/-- Bytes of a line of `w` pixels in a buffer or store format (R346, R464). -/
def lineBytes (code w : Nat) : Nat :=
  match code with
  | 0 => ceilDiv w 2 * 4
  | 1 => ceilDiv w 2 * 5
  | 3 | 5 => w * 6
  | 8 => ceilDiv w 2 * 6
  | _ => w * 4

/-- The pitch of a delay line's lines: the line's bytes rounded up to 32 (R461). -/
def slotPitch (f : Format) : Nat := ceilDiv (lineBytes (storeCode f) f.width) 32 * 32

/-- Stored bytes of a recorder's frame (R461, R464). -/
def storedFrame (f : Format) : Nat := slotPitch f * f.height

end Sys2Proof.Machine
end

