-- ==== Sys2Proof/Machine/Pixel.lean ====
section
/-! DEFINITION. The arithmetic of pictures: depth and chroma conversion (R291 to R293, R347), deinterlacing (R307), blending of
frames (R313), scalers (R316 to R322, R352), colour (R323 to R327), compositing (R356 to R359) and the rectangle CRC (R421, R422).
Samples are numbers; a line is a list. -/

namespace Sys2Proof.Machine

open Sys2Proof

/-- Clamp a number to an interval. -/
def clampI (lo hi v : Int) : Int := if v < lo then lo else if hi < v then hi else v

/-- Arithmetic shift right: division rounding down. -/
def sar (v : Int) (n : Nat) : Int := v / (2 ^ n : Nat)

/-- Normalise a sample of depth `d` bits to a 12-bit code (R291). -/
def norm12 (d v : Nat) : Nat := v * 2 ^ (12 - d)

/-- Bring a full-range sample of depth `d` to a 12-bit code (R347). -/
def normFull (d v : Nat) : Nat := (2 * v * 4095 + 2 ^ d - 1) / (2 * (2 ^ d - 1))

/-- Reduce a 12-bit code to depth `d` bits (R293). -/
def reduce (d code : Nat) : Nat :=
  if 12 ≤ d then min code 4095 else min ((code + 2 ^ (11 - d)) / 2 ^ (12 - d)) (2 ^ d - 1)

/-- Element `i` of a line with the edge samples repeated outside it. -/
def edgeAt {α : Type} (d : α) (l : List α) (i : Int) : α :=
  if i < 0 then l.headD d else l.getD (min i.toNat (l.length - 1)) d

/-- The up-sampled chroma of a line: `c` holds the co-sited samples, one per pixel pair (R292). -/
def chromaUp (c : List Nat) : List Nat :=
  ((List.range c.length).map (fun (k : Nat) =>
    let at' (j : Int) : Int := (edgeAt 0 c ((k : Int) + j) : Nat)
    let mid := clampI 0 4095 (sar (-(at' (-1)) + 9 * at' 0 + 9 * at' 1 - at' 2 + 8) 4)
    [c.getD k 0, mid.toNat])).foldr (fun x acc => x ++ acc) []

/-- The down-sampled chroma of a line of full-resolution chroma, one sample per even position (R292). -/
def chromaDown (c : List Nat) : List Nat :=
  (List.range ((c.length + 1) / 2)).map (fun (k : Nat) =>
    let at' (j : Int) : Nat := edgeAt 0 c (2 * (k : Int) + j)
    (at' (-1) + 2 * at' 0 + at' 1 + 2) / 4)

/-- Every second element, from the first. -/
def evens {α : Type} : List α → List α
  | [] => []
  | [a] => [a]
  | a :: _ :: r => a :: evens r

/-- A 4:2:2 line as 4:4:4: chroma of the odd pixels is interpolated. -/
def lineUp (l : List Px) : List Px :=
  let cb := chromaUp (evens (l.map (fun p => p.2.1)))
  let cr := chromaUp (evens (l.map (fun p => p.2.2)))
  (List.range l.length).map (fun i => ((l.getD i (0, 0, 0)).1, cb.getD i 0, cr.getD i 0))

/-- A 4:4:4 line as 4:2:2: the chroma of a pair stands on both its pixels. -/
def lineDown (l : List Px) : List Px :=
  let cb := chromaDown (l.map (fun p => p.2.1))
  let cr := chromaDown (l.map (fun p => p.2.2))
  (List.range l.length).map (fun i => ((l.getD i (0, 0, 0)).1, cb.getD (i / 2) 0, cr.getD (i / 2) 0))

/-- Apply a function to the three components. -/
def pxMap (f : Nat → Nat) (p : Px) : Px := (f p.1, f p.2.1, f p.2.2)

/-! Deinterlacing and frame blending -/

/-- One sample of a missing line (R307): weave sample, the four field samples around it, and the motion measure. -/
def deintSample (w f3 f1 g1 g3 m thresh shift : Nat) : Nat :=
  let b := (clampI 0 4095 (sar (-(f3 : Int) + 9 * f1 + 9 * g1 - g3 + 8) 4)).toNat
  let a := (clampI 0 16 (sar ((m : Int) - thresh) shift)).toNat
  (w * (16 - a) + b * a + 8) / 16

/-- The motion measure at a sample: the largest luma difference of the fields after and before, at it and its neighbours (R307). -/
def motionAt (prev next : List Px) (x : Nat) : Nat :=
  let d (j : Int) : Nat :=
    let a := (edgeAt (0, 0, 0) prev ((x : Int) + j)).1
    let b := (edgeAt (0, 0, 0) next ((x : Int) + j)).1
    if a ≤ b then b - a else a - b
  max (d (-1)) (max (d 0) (d 1))

/-- The pixels of line `n`, if the lines hold it. -/
def lineOf (l : SrcLines) (n : Nat) : Option (List Px) :=
  (l.find? (fun e => decide (e.n = n))).map (fun e => e.px.map Prod.fst)

/-- The nearest line at or beyond the edge of a field: the line itself, else the nearest the field holds of the same parity. -/
def fieldLine (l : SrcLines) (n : Int) : List Px :=
  let best := l.foldl (fun (b : Option SrcLine) e =>
    match b with
    | none => some e
    | some x => if ((e.n : Int) - n).natAbs < ((x.n : Int) - n).natAbs then some e else some x) none
  match best with
  | none => []
  | some e => e.px.map Prod.fst

/-- Line `y` of the progressive frame made from the current field (R307): `mode` is 1 WEAVE, 2 BOB, 3 MOTION (R306). The co-sited luma sample of a chroma sample is that of the
pixel pair in 4:2:2 (`sampling` 0), else its own. -/
def deintLine (mode thresh shift sampling y : Nat) (cur prev next : SrcLines) : List Px :=
  match lineOf cur y with
  | some l => l
  | none =>
    let w := fieldLine prev y
    let a3 := fieldLine cur ((y : Int) - 3)
    let a1 := fieldLine cur ((y : Int) - 1)
    let b1 := fieldLine cur ((y : Int) + 1)
    let b3 := fieldLine cur ((y : Int) + 3)
    let nl := fieldLine next y
    (List.range b1.length).map (fun (x : Nat) =>
      let m := if mode = 1 then thresh else if mode = 2 then thresh + 16 * 2 ^ shift else motionAt w nl x
      let mc := if mode = 3 then motionAt w nl (if sampling = 0 then x / 2 * 2 else x) else m
      let g (f : Px → Nat) (m' : Nat) : Nat :=
        let p (l : List Px) : Nat := f (l.getD x (0, 0, 0))
        deintSample (p w) (p a3) (p a1) (p b1) (p b3) m' thresh shift
      (g (fun p => p.1) m, g (fun p => p.2.1) mc, g (fun p => p.2.2) mc))

/-- The weight of BLEND (R313) for an output frame whose first active line starts at `t`, with an input frame period and the start times of frames A and B. -/
def blendWeight (t period a b : Nat) : Nat := (clampI 0 64 ((64 * ((t : Int) - period - a)) / (max ((b : Int) - a) 1))).toNat

/-- A blended sample (R313). -/
def blendSample (w a b : Nat) : Nat := (a * (64 - w) + b * w + 32) / 64

/-! Scalers -/

/-- A signed 12-bit coefficient of a bank word: tap `2m` in the low half and `2m+1` in the high half (R320). -/
def coefOf (word : Nat) (high : Bool) : Int := sx 12 (if high then word / 0x10000 else word)

/-- One filter: Σ coefficient × sample over the taps, rounded (R319). -/
def fir (cs : List Int) (xs : List Int) : Int :=
  sar (((cs.zip xs).map (fun p => p.1 * p.2)).foldl (· + ·) 0 + 512) 10

/-- Fold six vertical taps to four or two (R322). -/
def foldTaps6 (taps : Nat) (c : List Int) : List Int :=
  let g := fun i => c.getD i 0
  if taps = 4 then [0, g 0 + g 1, g 2, g 3, g 4 + g 5, 0]
  else if taps = 2 then [0, 0, g 0 + g 1 + g 2, g 3 + g 4 + g 5, 0, 0]
  else c

/-- Fold four vertical taps to two (R355). -/
def foldTaps4 (taps : Nat) (c : List Int) : List Int :=
  let g := fun i => c.getD i 0
  if taps = 2 then [0, g 0 + g 1, g 2 + g 3, 0] else c

/-- The horizontal pass of one component's line: `base` samples lie left of the centre, `coef φ` gives a phase's taps. -/
def hPass (coef : Nat → List Int) (base taps : Nat) (init : Int) (step out : Nat) (l : List Int) : List Int :=
  (List.range out).map (fun (x : Nat) =>
    let p := init + x * step
    let c := sar p 20
    let ph := (sar p 14 % 64).toNat
    fir (coef ph) ((List.range taps).map (fun (t : Nat) => edgeAt 0 l (c - base + t))))

/-- The vertical pass at output line `y` of one component: `line` gives the input line of an index, edge lines repeated by it. -/
def vPass (coef : Nat → List Int) (base taps : Nat) (init : Int) (step y width : Nat) (line : Int → List Int) : List Int :=
  let p := init + y * step
  let c := sar p 20
  let ph := (sar p 14 % 64).toNat
  let ls := (List.range taps).map (fun (t : Nat) => line (c - base + t))
  (List.range width).map (fun x => fir (coef ph) (ls.map (fun l => l.getD x 0)))

/-- A scaler's settings: tap bases, initial positions, steps, the size of what it reads, the width of its output, and whether that is narrower than the crop window, when the
horizontal pass runs first (R319). -/
structure Scale where
  hBase : Nat
  hTaps : Nat
  vBase : Nat
  vTaps : Nat
  hInit : Int
  hStep : Nat
  vInit : Int
  vStep : Nat
  inW : Nat
  inH : Nat
  outW : Nat
  narrow : Bool
  deriving DecidableEq, Repr

/-- Output line `y` of one component (R318, R319): when the output is narrower than the crop the horizontal pass runs first.
`lo1`..`hi2` clamp the first and second passes. -/
def scaleComp (hc vc : Nat → List Int) (k : Scale) (y : Nat) (lo1 hi1 hi2 : Int) (line : Int → List Int) : List Nat :=
  let c1 := fun (l : List Int) => l.map (clampI lo1 hi1)
  let c2 := fun (l : List Int) => l.map (fun v => (clampI 0 hi2 v).toNat)
  let edge := fun (n : Int) => line (clampI 0 ((k.inH : Int) - 1) n)
  if k.narrow then
    c2 (vPass vc k.vBase k.vTaps k.vInit k.vStep y k.outW (fun n => c1 (hPass hc k.hBase k.hTaps k.hInit k.hStep k.outW (edge n))))
  else
    c2 (hPass hc k.hBase k.hTaps k.hInit k.hStep k.outW (c1 (vPass vc k.vBase k.vTaps k.vInit k.vStep y k.inW edge)))

/-! Colour -/

/-- Kr and Kb of a colorimetry as ten-thousandths (R324): BT.2020 family, else BT.709. -/
def krkb (colour : Nat) : Int × Int := if 2 ≤ colour ∧ colour ≤ 4 then (2627, 593) else (2126, 722)

/-- A rational rounded to the nearest integer, halves upward. -/
def roundQ (n d : Int) : Int := (2 * n + d) / (2 * d)

/-- A folded product coefficient with 14 fractional bits (R324). -/
def coef14 (n d : Int) : Int := roundQ (n * 16384) d

/-- Decode one 12-bit YCbCr pixel to R′G′B′ (R324). -/
def decodeYcc (colour : Nat) (full : Bool) (p : Px) : Px :=
  let (kr, kb) := krkb colour
  let ds := if full then (4095 : Int) else 3504
  let dc := if full then (4095 : Int) else 3584
  let y : Int := (p.1 : Int) - (if full then 0 else 256)
  let cb : Int := (p.2.1 : Int) - 2048
  let cr : Int := (p.2.2 : Int) - 2048
  let kg := 10000 - kr - kb
  let cy := coef14 4095 ds
  let rv := coef14 (2 * (10000 - kr) * 4095) (10000 * dc)
  let bu := coef14 (2 * (10000 - kb) * 4095) (10000 * dc)
  let gv := coef14 (-(2 * kr * (10000 - kr)) * 4095) (10000 * kg * dc)
  let gu := coef14 (-(2 * kb * (10000 - kb)) * 4095) (10000 * kg * dc)
  let out := fun (v : Int) => (clampI 0 4095 (sar (v + 8192) 14)).toNat
  (out (cy * y + rv * cr), out (cy * y + gv * cr + gu * cb), out (cy * y + bu * cb))

/-- Encode an R′G′B′ pixel to 12-bit YCbCr, the inverse of the decode (R324). -/
def encodeYcc (colour : Nat) (full : Bool) (p : Px) : Px :=
  let (kr, kb) := krkb colour
  let sy := if full then (4095 : Int) else 3504
  let sc := if full then (4095 : Int) else 3584
  let kg := 10000 - kr - kb
  let r : Int := p.1
  let g : Int := p.2.1
  let b : Int := p.2.2
  let out := fun (off v : Int) => (clampI 0 4095 (sar (v + 8192) 14 + off)).toNat
  let y := coef14 (kr * sy) (10000 * 4095) * r + coef14 (kg * sy) (10000 * 4095) * g + coef14 (kb * sy) (10000 * 4095) * b
  let cb := coef14 (-kr * sc) (2 * (10000 - kb) * 4095) * r + coef14 (-kg * sc) (2 * (10000 - kb) * 4095) * g + coef14 sc (2 * 4095) * b
  let cr := coef14 sc (2 * 4095) * r + coef14 (-kg * sc) (2 * (10000 - kr) * 4095) * g + coef14 (-kb * sc) (2 * (10000 - kr) * 4095) * b
  (out (if full then 0 else 256) y, out 2048 cb, out 2048 cr)

/-- A narrow-range RGB code brought to full range (R356). -/
def rgbFull (v : Nat) : Nat := (clampI 0 4095 ((((v : Int) - 256) * 4095 + 1752) / 3504)).toNat

/-- A full-range RGB code brought to narrow range: the inverse of `rgbFull`. -/
def rgbNarrow (v : Nat) : Nat := (v * 3504 + 2047) / 4095 + 256

/-- The pre-LUT (R325): `l` gives an entry. -/
def preLut (l : Nat → Nat) (v : Nat) : Nat :=
  let i := v / 4
  let f := v % 4
  let nx : Int := if i = 1023 then 2 * (l 1023 : Int) - l 1022 else l (i + 1)
  (clampI 0 1048575 ((l i : Int) + sar ((nx - l i) * f + 2) 2)).toNat

/-- One row of the matrix (R326). -/
def matrixRow (c : List Int) (off : Int) (p : Px) : Nat :=
  (clampI 0 1048575 (sar (c.getD 0 0 * p.1 + c.getD 1 0 * p.2.1 + c.getD 2 0 * p.2.2 + 32768) 16 + off)).toNat

/-- The post-LUT (R327). -/
def postLut (l : Nat → Nat) (x : Nat) : Nat :=
  if x < 64 then l x
  else
    let s := Nat.log2 x - 5
    let i := 64 * s + (x - 2 ^ (s + 5)) / 2 ^ (s - 1)
    let f := x % 2 ^ (s - 1)
    if s = 1 then l i
    else ((l i : Int) + sar (((l (i + 1) : Int) - l i) * f + (2 ^ (s - 2) : Nat)) (s - 1)).toNat

/-! Compositing -/

/-- A pixel alpha of 8 or 2 bits as 10 bits (R347). -/
def alpha8 (a : Nat) : Nat := a * 4 + a / 64
def alpha2 (a : Nat) : Nat := a * 341

/-- The effective alpha of a pixel (R357). -/
def effAlpha (a la : Nat) : Nat := (a * la * 1025 + 2 ^ 19) / 2 ^ 20

/-- The blending weight of an alpha (R357). -/
def alphaWeight (a : Nat) : Nat := a + a / 512

/-- One component blended (R358). -/
def blendComp (premult : Bool) (s d a la : Nat) : Nat :=
  let aw := alphaWeight (effAlpha a la)
  if premult then min 4095 ((s * alphaWeight la + d * (1024 - aw) + 512) / 1024)
  else (s * aw + d * (1024 - aw) + 512) / 1024

/-- One pixel blended (R358). -/
def blendPx (premult : Bool) (s d : Px) (a la : Nat) : Px :=
  (blendComp premult s.1 d.1 a la, blendComp premult s.2.1 d.2.1 a la, blendComp premult s.2.2 d.2.2 a la)

/-- A fill colour of R233: 10-bit Y, Cb and Cr. -/
def fillPx (w : Word) : Px := (fld w 9 0, fld w 19 10, fld w 29 20)

/-- A fill colour of a compositor as a working-space pixel (R356). -/
def fillRgb (w : Word) (colour : Nat) : Px := decodeYcc colour false (pxMap (norm12 10) (fillPx w))

/-- Convert an encoder's fill colour, BT.709 narrow 10-bit, to an output's sampling, colorimetry and range (R233), at its depth. -/
def fillFor (w : Word) (f : Format) : Px :=
  let rgb := decodeYcc 1 false (pxMap (norm12 10) (fillPx w))
  let out := if f.sampling = 2 then (if f.fullRange then rgb else pxMap rgbNarrow rgb) else encodeYcc f.colour f.fullRange rgb
  pxMap (reduce (depthBits f.depth)) out

/-! Stored pixels (R346, R464) -/

/-- How a format stores its units: bytes and pixels of a unit, and the width and pitch in bits of its fields. -/
def unitShape (code : Nat) : Nat × Nat × Nat × Nat :=
  match code with
  | 0 => (4, 2, 8, 8)
  | 1 => (5, 2, 10, 10)
  | 8 => (6, 2, 12, 12)
  | 3 => (6, 1, 12, 16)
  | 5 => (6, 1, 12, 16)
  | 6 => (4, 1, 8, 8)
  | _ => (4, 1, 10, 10)

/-- The pixels of one unit, given its little-endian number, each with its stored alpha: a pair shares its chroma. -/
def unitPixels (code u : Nat) : List (Px × Nat) :=
  let z := unitShape code
  let f (i : Nat) : Nat := u / 2 ^ (z.2.2.2 * i) % 2 ^ z.2.2.1
  if z.2.1 = 2 then [((f 1, f 0, f 2), 0), ((f 3, f 0, f 2), 0)] else [((f 0, f 1, f 2), f 3)]

/-- The pixels of a stored line. `low` says that its codes hold 8-bit values × 4. -/
def unpackLine (code : Nat) (low : Bool) (width : Nat) (bytes : List Byte) : List (Px × Nat) :=
  let n := (unitShape code).1
  let unit (k : Nat) : Nat := ((bytes.drop (n * k)).take n).foldr (fun b a => b.toNat + 256 * a) 0
  let px := ((List.range (bytes.length / max n 1)).flatMap (fun k => unitPixels code (unit k))).take width
  if low then px.map (fun p => (pxMap (fun v => v / 4) p.1, p.2)) else px

/-- The number of one unit that stores the first pixels of a line. -/
def unitNumber (code : Nat) (a b : Px) : Nat :=
  let z := unitShape code
  let at_ (i v : Nat) : Nat := v % 2 ^ z.2.2.1 * 2 ^ (z.2.2.2 * i)
  if z.2.1 = 2 then at_ 0 a.2.1 + at_ 1 a.1 + at_ 2 a.2.2 + at_ 3 b.1 else at_ 0 a.1 + at_ 1 a.2.1 + at_ 2 a.2.2

/-- The bytes of a line as a delay line stores it; `low` stores 8-bit values × 4. -/
def packLine (code : Nat) (low : Bool) (px : List Px) : List Byte :=
  let z := unitShape code
  let l := if low then px.map (pxMap (fun v => 4 * v)) else px
  (List.range (ceilDiv l.length z.2.1)).flatMap (fun k =>
    let u := unitNumber code (l.getD (z.2.1 * k) (0, 0, 0)) (l.getD (z.2.1 * k + 1) (l.getD (z.2.1 * k) (0, 0, 0)))
    (List.range z.1).map (fun i => BitVec.ofNat 8 (u / 256 ^ i)))

/-! Rectangle CRC -/

/-- The words a row of pixels feeds to the CRC (R421): 4:2:2 pairs give Cb, Y0, Cr, Y1; otherwise three components a pixel. -/
def crcWords (sampling : Nat) : List Px → List Nat
  | [] => []
  | [a] => if sampling = 0 then [a.2.1, a.1, a.2.2] else [a.1, a.2.1, a.2.2]
  | a :: b :: r =>
    if sampling = 0 then a.2.1 :: a.1 :: a.2.2 :: b.1 :: crcWords sampling r
    else a.1 :: a.2.1 :: a.2.2 :: crcWords sampling (b :: r)

/-- Feed 16-bit words, low byte first (R421). -/
def crcFeed (c : Nat) (ws : List Nat) : Nat :=
  ws.foldl (fun c w => crcByte (crcByte c (w % 256)) (w / 256 % 256)) c

/-- The final value of the CRC (R422). -/
def crcFinal (c : Nat) : Nat := c ^^^ 0xFFFFFFFF

end Sys2Proof.Machine
end

