-- ==== Sys2Proof/Machine/Packets.lean ====
section
/-! DEFINITION. Frames and packets as bytes: Ethernet, ARP, IPv4, ICMP, IGMPv3, UDP and RTP (R157, R159, R160, R164), SecTAGs (R180), and the payloads of ST 2110-20, -30, -31 and
-40 (R149, R168 to R172). Byte layouts that belong to those standards, not to the spec, are PRESUMED from them (log entry on packet layouts). Bytes are numbers here; the first is the
first sent. -/

namespace Sys2Proof.Machine

open Sys2Proof

/-- The number in two, four or any count of big-endian bytes at an offset. -/
def beNumAt (l : List Nat) (off n : Nat) : Nat := beNum ((l.drop off).take n)

/-- The sum of the big-endian 16-bit words of a byte string. -/
def sum16 : List Nat → Nat
  | [] => 0
  | [a] => 256 * a
  | a :: b :: r => 256 * a + b + sum16 r

/-- The Internet checksum of a byte string whose checksum field is zero. -/
def inetSum (l : List Nat) : Nat :=
  let t := sum16 l
  let u := t % 0x10000 + t / 0x10000
  0xFFFF - (u % 0x10000 + u / 0x10000)

/-! Ethernet -/

/-- The header of a frame: addresses, an 802.1Q tag unless its control field is 0, and the EtherType. -/
def ethHead (dst src tci etherType : Nat) : List Nat :=
  beBytes 6 dst ++ beBytes 6 src ++ (if tci = 0 then [] else [0x81, 0x00] ++ beBytes 2 tci) ++ beBytes 2 etherType

/-- A frame's parts: addresses, the tag's control field (0 untagged), EtherType and payload. -/
structure EthFrame where
  dst : Nat
  src : Nat
  tci : Nat
  etherType : Nat
  payload : List Nat
  deriving DecidableEq, Repr

/-- Take a frame apart; none when it is shorter than its header. -/
def parseEth (l : List Nat) : Option EthFrame :=
  if beNumAt l 12 2 = 0x8100 then
    if l.length < 18 then none
    else some ⟨beNumAt l 0 6, beNumAt l 6 6, beNumAt l 14 2, beNumAt l 16 2, l.drop 18⟩
  else if l.length < 14 then none
  else some ⟨beNumAt l 0 6, beNumAt l 6 6, 0, beNumAt l 12 2, l.drop 14⟩

/-- Padding to 60 bytes before the FCS (R162). -/
def padFrame (l : List Nat) : List Nat := l ++ List.replicate (60 - l.length) 0

/-! IPv4 and above -/

/-- An IPv4 packet; `options` holds whole words of options. -/
def ipv4 (dscp id ttl proto src dst : Nat) (options payload : List Nat) : List Nat :=
  let hl := 20 + options.length
  let head (c : Nat) : List Nat := [0x40 + hl / 4, 4 * dscp] ++ beBytes 2 (hl + payload.length) ++ beBytes 2 id ++ [0, 0, ttl, proto] ++ beBytes 2 c ++
    beBytes 4 src ++ beBytes 4 dst ++ options
  head (inetSum (head 0)) ++ payload

/-- An IPv4 packet's parts. -/
structure Ipv4 where
  options : Bool
  fragment : Bool
  proto : Nat
  src : Nat
  dst : Nat
  payload : List Nat
  deriving DecidableEq, Repr

/-- Take an IPv4 packet apart; none when it is none. -/
def parseIpv4 (l : List Nat) : Option Ipv4 :=
  let ihl := 4 * (l.headD 0 % 16)
  if l.headD 0 / 16 ≠ 4 ∨ ihl < 20 ∨ l.length < ihl then none
  else some ⟨decide (20 < ihl), decide (beNumAt l 6 2 % 0x4000 ≠ 0), l.getD 9 0, beNumAt l 12 4, beNumAt l 16 4, ((l.take (beNumAt l 2 2)).drop ihl)⟩

/-- A UDP datagram, without a checksum. -/
def udp (sport dport : Nat) (payload : List Nat) : List Nat := beBytes 2 sport ++ beBytes 2 dport ++ beBytes 2 (8 + payload.length) ++ [0, 0] ++ payload

/-- An RTP packet. -/
def rtp (marker : Bool) (pt seq ts ssrc : Nat) (payload : List Nat) : List Nat :=
  [0x80, (if marker then 128 else 0) + pt % 128] ++ beBytes 2 (seq % 0x10000) ++ beBytes 4 (ts % 0x100000000) ++ beBytes 4 ssrc ++ payload

/-- The answer to an ARP request for `ip`: none unless the frame asks for it. -/
def arpReply (mac ip : Nat) (f : EthFrame) : Option (List Nat) :=
  let p := f.payload
  if f.etherType = 0x0806 ∧ beNumAt p 0 2 = 1 ∧ beNumAt p 2 2 = 0x0800 ∧ beNumAt p 6 2 = 1 ∧ beNumAt p 24 4 = ip ∧ 28 ≤ p.length then
    some (ethHead (beNumAt p 8 6) mac f.tci 0x0806 ++ [0, 1, 8, 0, 6, 4, 0, 2] ++ beBytes 6 mac ++ beBytes 4 ip ++ (p.drop 8).take 10)
  else none

/-- The ICMP message that answers an echo request; none when it is none. -/
def echoReply (m : List Nat) : Option (List Nat) :=
  if m.headD 0 = 8 ∧ 8 ≤ m.length then
    some ([0, 0] ++ beBytes 2 (inetSum ([0, 0, 0, 0] ++ m.drop 4)) ++ m.drop 4)
  else none

/-- An IGMPv3 membership report of one group: source-specific for a source, of any source without one (R160). -/
def igmpReport (group : Nat) (source : Option Nat) : List Nat :=
  let rec' : List Nat := match source with
    | some a => [1, 0, 0, 1] ++ beBytes 4 group ++ beBytes 4 a
    | none => [2, 0, 0, 0] ++ beBytes 4 group
  let body (c : Nat) : List Nat := [0x22, 0] ++ beBytes 2 c ++ [0, 0, 0, 1] ++ rec'
  body (inetSum (body 0))

/-- The MAC address of a multicast group. -/
def groupMac (ip : Nat) : Nat := 0x01005E000000 + ip % 0x800000

/-! MACsec frames (R180) -/

/-- The SecTAG of a protected frame, with its explicit SCI: association, short length, packet number's lower 32 bits, SCI. -/
def secTag (an sl pn sci : Nat) : List Nat := [0x88, 0xE5, 0x2C + an % 4, sl] ++ beBytes 4 (pn % 0x100000000) ++ beBytes 8 sci

/-- The initialisation vector of a frame: SCI and packet number, or under XPN the SSCI and the whole packet number with the salt. -/
def secIv (xpn : Bool) (sci pn ssci salt : Nat) : List Nat :=
  if xpn then xorBytes (beBytes 4 ssci ++ beBytes 8 pn) (beBytes 12 salt) else beBytes 8 sci ++ beBytes 4 pn

/-- Protect a frame: the first `off` bytes after the addresses stay in clear. -/
def secProtect (key iv : List Nat) (an pn sci off : Nat) (frame : List Nat) : List Nat :=
  let body := frame.drop 12
  let aad := frame.take 12 ++ secTag an (if body.length < 48 then body.length else 0) pn sci ++ body.take off
  let c := gcmCrypt key iv (body.drop off)
  aad ++ c ++ gcmTag key iv aad c

/-- A protected frame's parts: the association, the packet number's lower 32 bits, the SCI, what is authenticated alone, what is encrypted, and the ICV. -/
structure SecFrame where
  an : Nat
  pn : Nat
  sci : Nat
  aad : List Nat
  body : List Nat
  icv : List Nat
  deriving DecidableEq, Repr

/-- The frame carries a SecTAG. -/
def isSecured (l : List Nat) : Bool := decide (beNumAt l 12 2 = 0x88E5)

/-- Take a protected frame apart; none unless it has an explicit SCI and room for its ICV. -/
def parseSec (off : Nat) (l : List Nat) : Option SecFrame :=
  if l.length < 44 ∨ l.getD 14 0 / 32 % 2 = 0 then none
  else
    let sl := l.getD 15 0 % 64
    let n := if sl = 0 then l.length - 44 else min sl (l.length - 44)
    some ⟨l.getD 14 0 % 4, beNumAt l 16 4, beNumAt l 20 8, l.take (28 + min off n), (l.drop (28 + min off n)).take (n - off), (l.drop (28 + n)).take 16⟩

/-- Check and decrypt: the frame as it was before it was protected. -/
def secOpen (key iv : List Nat) (f : SecFrame) : Option (List Nat) :=
  if gcmTag key iv f.aad f.body = f.icv then some (f.aad.take 12 ++ f.aad.drop 28 ++ gcmCrypt key iv f.body) else none

/-! Bits -/

/-- The bits of a number, most significant first. -/
def bitsOf (n v : Nat) : List Bool := (List.range n).map (fun (i : Nat) => (v / 2 ^ (n - 1 - i)) % 2 == 1)

/-- The number of a list of bits, most significant first. -/
def bitsNum (l : List Bool) : Nat := l.foldl (fun a b => 2 * a + (if b then 1 else 0)) 0

/-- The bits of a byte string. -/
def byteBits (l : List Nat) : List Bool := l.flatMap (bitsOf 8)

/-- Whole bytes of a bit string, the last filled with zeros. -/
def bitBytes (l : List Bool) : List Nat := (chunksN 8 (ceilDiv l.length 8) l).map (fun c => bitsNum (c ++ List.replicate (8 - c.length) false))

/-- Values of `n` bits each, most significant first, as bytes. -/
def packBits (n : Nat) (vs : List Nat) : List Nat := bitBytes (vs.flatMap (bitsOf n))

/-- The values of `n` bits in a byte string. -/
def unpackBits (n : Nat) (l : List Nat) : List Nat := (chunksN n (8 * l.length / n) (byteBits l)).map bitsNum

/-! Samples of ST 2110-20 -/

/-- Bytes and pixels of a pixel group of ST 2110-20 by sampling and bits (R172's worked example shows 5 bytes for 2 pixels). -/
def pixelGroup (sampling bits : Nat) : Nat × Nat :=
  if sampling = 0 then (if bits = 8 then (4, 2) else if bits = 10 then (5, 2) else (6, 2))
  else if bits = 8 then (3, 1) else if bits = 10 then (15, 4) else (9, 2)

/-- The sample values of a row in the order of its pixel groups: Cb, Y, Cr, Y of a 4:2:2 pair; Cb, Y, Cr of a 4:4:4 pixel; R, G, B. -/
def groupWords (sampling : Nat) : List Px → List Nat
  | [] => []
  | [a] => if sampling = 0 then [a.2.1, a.1, a.2.2, a.1] else if sampling = 1 then [a.2.1, a.1, a.2.2] else [a.1, a.2.1, a.2.2]
  | a :: b :: r =>
    if sampling = 0 then a.2.1 :: a.1 :: a.2.2 :: b.1 :: groupWords sampling r
    else (if sampling = 1 then [a.2.1, a.1, a.2.2] else [a.1, a.2.1, a.2.2]) ++ groupWords sampling (b :: r)

/-- The pixels of sample values in the order of pixel groups; the chroma of a 4:2:2 pair stands on both its pixels. -/
def groupPixels (sampling : Nat) : List Nat → List Px
  | a :: b :: c :: d :: r =>
    if sampling = 0 then (b, a, c) :: (d, a, c) :: groupPixels sampling r
    else if sampling = 1 then (b, a, c) :: groupPixels sampling (d :: r)
    else (a, b, c) :: groupPixels sampling (d :: r)
  | [a, b, c] => if sampling = 1 then [(b, a, c)] else if sampling = 0 then [] else [(a, b, c)]
  | _ => []

/-- The data bytes of a row: whole pixel groups, the last filled with zeros. -/
def rowBytes (sampling bits : Nat) (row : List Px) : List Nat :=
  let g := pixelGroup sampling bits
  let l := packBits bits (groupWords sampling row)
  l ++ List.replicate ((g.1 - l.length % g.1) % g.1) 0

/-- The pixels in data bytes of a row. -/
def bytesRow (sampling bits : Nat) (l : List Nat) : List Px := groupPixels sampling (unpackBits bits l)

/-- A segment of a line that a packet carries: field 2 or a second segment, line, first pixel, data (R149). -/
structure Seg where
  field2 : Bool
  line : Nat
  offset : Nat
  data : List Nat
  deriving DecidableEq, Repr

/-- The sample row data headers of a packet, up to three (R149), and where its data begins: length, field, line, offset. None when there are more. -/
def srdHeads : Nat → List Nat → Option (List (Nat × Bool × Nat × Nat) × List Nat)
  | 0, _ => none
  | k + 1, l =>
    if l.length < 6 then none
    else
      let h := (beNumAt l 0 2, decide (0x8000 ≤ beNumAt l 2 2), beNumAt l 2 2 % 0x8000, beNumAt l 4 2 % 0x8000)
      if 0x8000 ≤ beNumAt l 4 2 then (srdHeads k (l.drop 6)).map (fun p => (h :: p.1, p.2)) else some ([h], l.drop 6)

/-- Cut the data of a packet into its segments. -/
def cutSegs : List (Nat × Bool × Nat × Nat) → List Nat → List Seg
  | [], _ => []
  | h :: r, l => ⟨h.2.1, h.2.2.1, h.2.2.2, l.take h.1⟩ :: cutSegs r (l.drop h.1)

/-- The segments of an ST 2110-20 payload after its extended sequence number. -/
def videoSegs (l : List Nat) : Option (List Seg) := (srdHeads 3 l).map (fun p => cutSegs p.1 p.2)

/-- The payload of a packet with one segment (R149), after its extended sequence number. -/
def segPayload (s : Seg) : List Nat :=
  beBytes 2 s.data.length ++ beBytes 2 ((if s.field2 then 0x8000 else 0) + s.line) ++ beBytes 2 s.offset ++ s.data

/-- A segment lies in a raster of a width and a count of lines, in whole pixel groups (R169). -/
def segInRaster (sampling bits width lines : Nat) (interlaced : Bool) (s : Seg) : Bool :=
  let g := pixelGroup sampling bits
  decide (s.line < lines ∧ s.data.length % g.1 = 0 ∧ s.offset % g.2 = 0 ∧ s.offset + s.data.length / g.1 * g.2 ≤ ceilDiv width g.2 * g.2) && (interlaced || !s.field2)

/-- Lay a segment over the pixels of a line. -/
def laySeg (sampling bits : Nat) (row : List Px) (s : Seg) : List Px :=
  let px := bytesRow sampling bits s.data
  row.take s.offset ++ (px ++ row.drop (s.offset + px.length)).take (row.length - s.offset)

/-! Ancillary packets of ST 2110-40 -/

/-- A word of an ancillary packet: the low eight bits, bit 8 their even parity, bit 9 its inverse. -/
def parityWord (b : Nat) : Nat :=
  let p := ((List.range 8).filter (fun (i : Nat) => b / 2 ^ i % 2 == 1)).length % 2
  b % 256 + 256 * p + 512 * (1 - p)

/-- The checksum word of an ancillary packet: nine bits of the sum from DID on, and the inverse of bit 8. -/
def ancCheck (ws : List Nat) : Nat :=
  let t := (ws.map (fun w => w % 512)).sum % 512
  t + 512 * (1 - t / 256)

/-- The words of an ancillary packet from its DID to its checksum. -/
def ancWords (p : AncPacket) : List Nat :=
  let ws := [parityWord p.did, parityWord p.sdid, parityWord p.words.length] ++ p.words
  ws ++ [ancCheck ws]

/-- One ancillary packet in an ST 2110-40 payload, as whole words of 32 bits. -/
def ancBytes (p : AncPacket) : List Nat :=
  let bits := bitsOf 1 (if p.colour then 1 else 0) ++ bitsOf 11 p.line ++ bitsOf 12 p.offset ++ bitsOf 8 0 ++ (ancWords p).flatMap (bitsOf 10)
  let l := bitBytes bits
  l ++ List.replicate ((4 - l.length % 4) % 4) 0

/-- The payload of an ST 2110-40 packet after its extended sequence number. -/
def ancPayload (ps : List AncPacket) : List Nat :=
  let d := ps.flatMap ancBytes
  beBytes 2 d.length ++ [ps.length % 256, 0, 0, 0] ++ d

/-- The ancillary packets of a payload; `n` of them at most. -/
def parseAnc : Nat → List Nat → List AncPacket
  | 0, _ => []
  | k + 1, l =>
    if l.length < 12 then []
    else
      let b := byteBits l
      let count := bitsNum ((b.drop 52).take 10) % 256
      let ws := chunksN 10 count (b.drop 62)
      let bits := 32 + 10 * (4 + count)
      let p : AncPacket := ⟨bitsNum ((b.drop 32).take 10) % 256, bitsNum ((b.drop 42).take 10) % 256, ws.map bitsNum, bitsNum ((b.drop 1).take 11), bitsNum ((b.drop 12).take 12), bitsNum (b.take 1) == 1⟩
      p :: parseAnc k (l.drop (4 * ceilDiv bits 32))

/-! Audio payloads -/

/-- Samples as signed numbers of a width in big-endian bytes. -/
def sampleBytes (n : Nat) (v : Int) : List Nat := beBytes n (Int.toNat (v % ((256 ^ n : Nat) : Int)))

/-- A signed sample of big-endian bytes. -/
def sampleOf (l : List Nat) : Int := sx (8 * l.length) (beNum l)

/-- An ST 2110-31 subframe: its four flags (first frame of a block, P, C, U, V as the standard packs them) above 24 bits of sample. -/
def am824 (flags : Nat) (v : Int) : List Nat := [flags % 256] ++ sampleBytes 3 v

end Sys2Proof.Machine
end

