-- ==== Sys2Proof/Machine/Engines.lean ====
section
/-! DEFINITION. Engines as objects: what runs (R197, R294, R341, R401), the contexts of sheet bends, compositors and timing
generators (R252 to R256, R287), layers and sheet bends beside their registers, and the configuration each context gives. -/

namespace Sys2Proof.Machine

open Sys2Proof

/-! State of layers, sheet bends, generators, recorders and players -/

def layerInit : LayerSt := ⟨0, 0, false, false, false, none, none⟩
def sheetInit : SheetSt := ⟨none, 0, false, 0, false, false, [], [], [], 0, [], [], false⟩
def genInit : GenSt := ⟨none, none, false, 0, [], false, none⟩
def recInit : RecSt := ⟨0, 0, none, [], none, false, false⟩
def plyInit : PlySt := ⟨none, none, false, 0, false, false⟩

/-- Layer number (R629). -/
def layerNo (cp l : Nat) : Nat := 8 * cp + l

def State.layerSt (s : State) (n : Nat) : LayerSt := tabGetD layerInit n s.eng.layers
def State.sheetSt (s : State) (n : Nat) : SheetSt := tabGetD sheetInit n s.eng.sheets
def State.genSt (s : State) (n : Nat) : GenSt := tabGetD genInit n s.eng.gens
def State.recSt (s : State) (n : Nat) : RecSt := tabGetD recInit n s.store.recs
def State.plySt (s : State) (n : Nat) : PlySt := tabGetD plyInit n s.store.plys

def setLayerSt (n : Nat) (v : LayerSt) (s : State) : State := { s with eng := { s.eng with layers := tabSet n v s.eng.layers } }
def setSheetSt (n : Nat) (v : SheetSt) (s : State) : State := { s with eng := { s.eng with sheets := tabSet n v s.eng.sheets } }
def setGenSt (n : Nat) (v : GenSt) (s : State) : State := { s with eng := { s.eng with gens := tabSet n v s.eng.gens } }
def setRecSt (n : Nat) (v : RecSt) (s : State) : State := { s with store := { s.store with recs := tabSet n v s.store.recs } }
def setPlySt (n : Nat) (v : PlySt) (s : State) : State := { s with store := { s.store with plys := tabSet n v s.store.plys } }

/-- Raise an event of a sheet bend (R338), a compositor (R391), a layer (R395), a recorder or a player (R481). -/
def raiseSb (n b : Nat) (s : State) : State := raiseEn (s.owner (objSb n)) (objSb n) (Reg.sbdEvent n) (Reg.sbdEventEn n) b s
def raiseCp (n b : Nat) (s : State) : State := raiseEn (s.owner (objCp n)) (objCp n) (Reg.cmpEvent n) (Reg.cmpEventEn n) b s
def raiseLayer (cp l b : Nat) (s : State) : State :=
  raiseEn (s.owner (objCp cp)) (objLayer (layerNo cp l)) (Reg.cmpLEvent cp l) (Reg.cmpLEventEn cp l) b s
def raiseRec (r b : Nat) (s : State) : State := raiseEn (s.owner (objRec r)) (objRec r) (Reg.fstRecEvent r) (Reg.fstRecEventEn r) b s
def raisePly (p b : Nat) (s : State) : State := raiseEn (s.owner (objPly p)) (objPly p) (Reg.fstPlyEvent p) (Reg.fstPlyEventEn p) b s

/-- Raise an event of a destination (R244). -/
def raiseDest (d b : Nat) (s : State) : State :=
  raiseEn (s.owner (objDest d)) (objDest d) (Reg.splDestEvent (destWin d)) (Reg.splDestEventEn (destWin d)) b s

/-! Bindings by register -/

/-- Output EI of a compositor (R389). -/
def State.cpEi (s : State) (n : Nat) : Nat := s.f (Reg.cmpBind n) 9 0

/-- The number of layers of a compositor (R340, R389). -/
def State.cpLayers (s : State) (n : Nat) : Nat := s.f (Reg.cmpId n) 15 12

/-- The EO bound to a layer, if one (R343). -/
def State.layerEo (s : State) (cp l : Nat) : Option Nat := tabGet (layerNo cp l) s.eng.layerEos

/-- EO of a recorder and EI of a player (R481). -/
def State.recEo (s : State) (r : Nat) : Nat := s.f (Reg.fstRecId r) 25 16
def State.plyEi (s : State) (p : Nat) : Nat := s.f (Reg.fstPlyId p) 25 16

/-- The EO ports whose layers belong to a compositor. -/
def State.cpEos (s : State) (cp : Nat) : List Nat :=
  (s.eng.layerEos.filter (fun e => decide (e.1 / 8 = cp))).map Prod.snd

/-- The EI ports that carry what sheet bend `n` takes part in: its own, or those of its whole gang (R331, R332). -/
def State.sbOutEis (s : State) (n : Nat) : List Nat :=
  if s.eng.gangs.contains (n / 4) then (List.range 4).map (fun q => s.sbEi (n / 4 * 4 + q)) else [s.sbEi n]

/-! What runs -/

/-- A destination runs: an encoder EO with a generator (R34, R404 for SDI framers), a layer or sheet bend input whose engine's output feeds a running
destination, a recorder EO while it records, an egress strand while its transmitter is IDLE or ACTIVE (R197, R294, R341). -/
def destRunsF : Nat → State → Nat → Bool
  | 0, _, _ => false
  | k + 1, s, d =>
    if destIsStrand d then decide (1 ≤ s.tx (destNumber d))
    else
      match s.consumer d with
      | none => false
      | some (.sdiEnc _ _) => (s.pacedBy d).isSome
      | some (.dispSrc _) => (s.pacedBy d).isSome
      | some (.tx2110 _) => (s.pacedBy d).isSome
      | some (.recorder r) => s.bit (Reg.fstRecStatus r) 0
      | some (.sbIn n) => (s.sbOutEis n).any (fun e => (s.fedBy false e).any (destRunsF k s))
      | some (.layer cp _) => (s.fedBy false (s.cpEi cp)).any (destRunsF k s)

/-- A destination is running. -/
def State.destRuns (s : State) (d : Nat) : Bool := destRunsF 160 s d

/-- A sheet bend runs (R294), of a gang: its leader or any member (R332). -/
def State.sbRuns (s : State) (n : Nat) : Bool := (s.sbOutEis n).any (fun e => (s.fedBy false e).any s.destRuns)

/-- A compositor runs (R341). -/
def State.cpRuns (s : State) (n : Nat) : Bool := (s.fedBy false (s.cpEi n)).any s.destRuns

/-- An engine with two contexts runs, by object code (R254, R294, R341, R401). -/
def State.engRuns (s : State) (e : Nat) : Bool :=
  match objClass e with
  | 0x03 => s.sbRuns (objIndex e)
  | 0x04 => s.cpRuns (objIndex e)
  | 0x06 => s.genRuns (objIndex e)
  | _ => false

/-- The generator that times an engine's output (R297, R342). -/
def State.engGen (s : State) (e : Nat) : Nat :=
  match objClass e with
  | 0x03 => fld (s.liveReg (Reg.sbdTg (objIndex e))) 7 0
  | 0x04 => fld (s.liveReg (Reg.cmpTg (objIndex e))) 7 0
  | _ => objIndex e

/-- The engine with two contexts that a consumer is, or is part of (R249). -/
def consumerEngine : Consumer → Option Nat
  | .sbIn n => some (objSb n)
  | .layer cp _ => some (objCp cp)
  | _ => none

/-- The engine with two contexts that a producer is. -/
def producerEngine : Producer → Option Nat
  | .sbOut n => some (objSb n)
  | .cpOut n => some (objCp n)
  | _ => none

/-- The engine that stands for another: the leader of its gang (R331, R332), else itself. -/
def State.engLead (s : State) (e : Nat) : Nat :=
  if objClass e = 0x03 ∧ s.eng.gangs.contains (objIndex e / 4) then objSb (objIndex e / 4 * 4) else e

/-- The sheet bends an engine consists of: a gang's members, or itself. -/
def State.gangOf (s : State) (n : Nat) : List Nat :=
  if s.eng.gangs.contains (n / 4) then (List.range 4).map (fun q => n / 4 * 4 + q) else [n]

/-- The sheet bend that leads another's gang, or is the bend itself (R331). -/
def State.sbLead (s : State) (n : Nat) : Nat := if s.eng.gangs.contains (n / 4) then n / 4 * 4 else n

/-- The sheet bends whose inputs an engine needs: its own, of a gang every quadrant's, under ONE_QUAD the leader's (R331). -/
def State.sbInputs (s : State) (n : Nat) : List Nat :=
  match s.sbShape s.liveReg n with
  | none => [n]
  | some k => if k = 2 then [n / 4 * 4] else (List.range 4).map (fun q => n / 4 * 4 + q)

/-- The input of a sheet bend is present, of a gang that of every quadrant (R332). -/
def State.sbFed (s : State) (n : Nat) : Bool := (s.sbInputs n).all (fun k => s.bit (Reg.sbdStatus k) 0)

/-- The EO ports an engine reads. -/
def State.engInputs (s : State) (e : Nat) : List Nat :=
  match objClass e with
  | 0x03 => (s.gangOf (objIndex e)).map s.sbEo
  | 0x04 => s.cpEos (objIndex e)
  | _ => []

/-- The engines that are not running and that a source brings into running, with those behind them (R249). -/
def startsF : Nat → State → Nat → List Nat
  | 0, _, _ => []
  | k + 1, s, ei =>
    match s.producer ei with
    | none => []
    | some p =>
      match producerEngine p with
      | none => []
      | some e0 =>
        let e := s.engLead e0
        if s.engRuns e then []
        else e :: ((s.engInputs e).filterMap s.hitch).foldr (fun x acc => startsF k s x ++ acc) []

/-- The engines that a source brings into running. -/
def State.starts (s : State) (ei : Nat) : List Nat := (startsF 16 s ei).eraseDups

/-! Contexts -/

/-- The context register of an engine (R287). -/
def ctxReg (e : Nat) : Nat :=
  match objClass e with
  | 0x03 => Reg.sbdCtx (objIndex e)
  | 0x04 => Reg.cmpCtx (objIndex e)
  | _ => Reg.scnCtx (objIndex e)

/-- State of an engine's shadow context (R252): 0 CLEAN, 1 STAGED, 2 HELD, 3 PREROLL, 4 DECIDED. -/
def State.ctx (s : State) (e : Nat) : Nat := s.f (ctxReg e) 2 0

/-- Set the state of a shadow context; entry to CLEAN clears IGNORED_WR and STARTS and frees HOLDER (R287). -/
def setCtx (e v : Nat) (s : State) : State :=
  if v = 0 then s.setReg (ctxReg e) (wd 0xFFFF0000) else s.setF (ctxReg e) 2 0 v

/-- Take an engine into a set: state, STARTS and HOLDER. -/
def holdCtx (e v holder : Nat) (s : State) : State :=
  ((s.setF (ctxReg e) 2 0 v).setBit (ctxReg e) 3 (!s.engRuns e)).setF (ctxReg e) 31 16 holder

/-- Count a write an engine ignores (R254), saturating at 255. -/
def ignoreWr (e : Nat) (s : State) : State := s.setF (ctxReg e) 15 8 (min 255 (s.f (ctxReg e) 15 8 + 1))

/-- The engine whose context holds a register, by object code (R250, R420). -/
def ctxOwner (l : Loc) : Option Nat :=
  match l.kind with
  | .sbd => some (objSb l.i)
  | .cmp => some (objCp l.i)
  | .layer => some (objCp l.i)
  | .scn => some (objTg l.i)
  | .crc => some (objTg l.i)
  | _ => none

/-- The engine whose contexts hold a register: a gang's leader for its members (R332). -/
def State.ctxOwnerOf (s : State) (l : Loc) : Option Nat := (ctxOwner l).map s.engLead

/-- A register belongs to an engine's contexts: one of its RWS registers (R250). -/
def State.isShadowOf (s : State) (e a : Nat) : Bool :=
  match locate a with
  | none => false
  | some l => decide (l.row.acc = .rws) && decide (s.ctxOwnerOf l = some e)

/-- Every register of an engine's contexts that holds other than its reset value in one context. -/
def State.ctxRegs (s : State) (e : Nat) : List Nat :=
  ((s.regs.map Prod.fst ++ s.live.map Prod.fst).filter (s.isShadowOf e)).eraseDups

/-- The shadow becomes the live context (R255). -/
def swapIn (e : Nat) (s : State) : State :=
  (s.ctxRegs e).foldl (fun s a => s.setLive a (s.reg a)) s

/-- The shadow is reloaded from the live context (R255, R256). -/
def reloadShadow (e : Nat) (s : State) : State :=
  (s.ctxRegs e).foldl (fun s a => s.setReg a (s.liveReg a)) s

/-- The new shadow is being loaded, and holds writes (R255). -/
def State.reloading (s : State) (e : Nat) : Bool := (tabGet e s.spl.reloading).isSome

end Sys2Proof.Machine
end

