-- ==== Sys2Proof/Machine/Charge.lean ====
section
/-! DEFINITION. What a configuration asks of the part: the fit of sheet bends and layers (R299, R310, R321, R342, R344, R348, R351, R355),
the culling of R360 to R363, frame-store charges (R333, R386, R453) and their admission (R450 to R456). A view is a reader of registers
and the hitch each egress port has or will have. -/

namespace Sys2Proof.Machine

open Sys2Proof

/-- A configuration as one context and the hitches going with it give it. -/
structure View where
  rd : Rd
  hitch : Nat → Option Nat

/-- The live configuration. -/
def State.liveView (s : State) : View := ⟨s.liveReg, s.hitch⟩

/-- The format at an egress port in a view. -/
def State.inFormat (s : State) (v : View) (eo : Nat) : Option Format := (v.hitch eo).bind (eiFormatF 96 s v.rd v.hitch)

/-- Why a configuration is refused (R265): its rollback reason. -/
abbrev Unfit := Option Nat

/-- Rollback reasons of R265 by name. -/
def rbCancelled : Nat := 1
def rbReplaced : Nat := 2
def rbEnded : Nat := 3
def rbPower : Nat := 4
def rbBudget : Nat := 5
def rbLinebuf : Nat := 6
def rbFormat : Nat := 7
def rbAbsent : Nat := 8
def rbUnaligned : Nat := 9
def rbRunahead : Nat := 10
def rbRefused : Nat := 11
def rbBatchTimeout : Nat := 12
def rbInvalid : Nat := 13

/-- The status code of a rollback reason (R265). -/
def rbStatus (r : Nat) : Status :=
  match r with
  | 0 => .ok
  | 5 => .bwBudget
  | 6 => .linebufShort
  | 7 => .formatMismatch
  | 8 => .sourceAbsent
  | 9 => .noResource
  | 10 => .timeout
  | 12 => .timeout
  | 13 => .badField
  | _ => .aborted

/-- The first reason of a list. -/
def firstUnfit : List Unfit → Unfit
  | [] => none
  | some r :: _ => some r
  | none :: rs => firstUnfit rs

/-- A reason unless a condition holds. -/
def fitsOr (ok : Bool) (r : Nat) : Unfit := if ok then none else some r

/-- A crop window (x, y, w, h): the whole source when its size register is 0 (R334, R351). -/
def cropOf (pos size : Word) (f : Format) : Nat × Nat × Nat × Nat :=
  if size = 0 then (0, 0, f.width, f.height)
  else (fld pos 12 0, fld pos 28 16, fld size 12 0, fld size 28 16)

/-- The crop window is not empty and lies within the raster. -/
def cropFits (c : Nat × Nat × Nat × Nat) (f : Format) : Bool :=
  decide (c.2.2.1 ≠ 0 ∧ c.2.2.2 ≠ 0 ∧ c.1 + c.2.2.1 ≤ f.width ∧ c.2.1 + c.2.2.2 ≤ f.height)

/-! Sheet bends -/

/-- The fields of SBD_CFG (R336). -/
def sbTiming (v : View) (n : Nat) : Nat := fld (v.rd (Reg.sbdCfg n)) 0 0
def sbDeint (v : View) (n : Nat) : Nat := fld (v.rd (Reg.sbdCfg n)) 2 1
def sbFrc (v : View) (n : Nat) : Nat := fld (v.rd (Reg.sbdCfg n)) 4 3
def sbCadence (v : View) (n : Nat) : Bool := bitOf (v.rd (Reg.sbdCfg n)) 5
def sbScale (v : View) (n : Nat) : Bool := bitOf (v.rd (Reg.sbdCfg n)) 6

/-- The output size of a sheet bend. -/
def sbOut (v : View) (n : Nat) : Nat × Nat := (fld (v.rd (Reg.sbdOutSize n)) 12 0, fld (v.rd (Reg.sbdOutSize n)) 28 16)

/-- The output scan of a sheet bend: 1 interlaced. -/
def sbScan (v : View) (n : Nat) : Nat := fld (v.rd (Reg.sbdOutFmt n)) 9 8

/-- The generator a sheet bend names (R297). -/
def sbGen (v : View) (n : Nat) : Nat := fld (v.rd (Reg.sbdTg n)) 7 0

/-- The output frame rate: its generator's in SYNC timing, its input's in PASS (R295). -/
def sbRate (v : View) (n : Nat) (f : Format) : Nat × Nat :=
  if sbTiming v n = 1 then (genTiming v.rd (sbGen v n)).rate else fps f

/-- The slots a SYNC engine needs (R299). -/
def sbSlots (v : View) (n : Nat) : Nat :=
  fld (v.rd (Reg.sbdDelay n)) 3 0 + 3 + (if sbFrc v n = 2 ∨ sbCadence v n then 1 else 0)

/-- The picture a sheet bend works on: of a gang fed by four quadrants, the four together (R331). -/
def sbPicture (shape : Option Nat) (f : Format) : Format :=
  if shape = some 0 ∨ shape = some 1 then { f with width := 2 * f.width, height := 2 * f.height, lineTotal := 2 * f.lineTotal } else f

/-- The size of the picture a sheet bend makes: of a gang that gives four quadrants, twice SBD_OUT_SIZE in each direction (R331). -/
def sbMade (v : View) (n : Nat) (shape : Option Nat) : Nat × Nat :=
  if shape = some 0 ∨ shape = some 2 then (2 * (sbOut v n).1, 2 * (sbOut v n).2) else sbOut v n

/-- A sheet bend's crop window, in the picture it works on. -/
def State.sbCrop (s : State) (v : View) (n : Nat) (f : Format) : Nat × Nat × Nat × Nat :=
  cropOf (v.rd (Reg.sbdCropPos n)) (v.rd (Reg.sbdCropSize n)) (sbPicture (s.sbShape v.rd n) f)

/-- The steps in use, H and V (R316): set by software or by the engine; V is the field step for an interlaced output. -/
def State.sbSteps (s : State) (v : View) (n : Nat) (f : Format) : Nat × Nat :=
  let c := s.sbCrop v n f
  let o := sbMade v n (s.sbShape v.rd n)
  let hv := if bitOf (v.rd (Reg.sbdCfg n)) 7 then (fld (v.rd (Reg.sbdHStep n)) 23 0, fld (v.rd (Reg.sbdVStep n)) 23 0)
            else (autoStep c.2.2.1 (max o.1 1), autoStep c.2.2.2 (max o.2 1))
  (hv.1, if sbScan v n = 1 then 2 * hv.2 else hv.2)

/-- Vertical taps a sheet bend runs with on an input format, of a gang each member on its part; none when its line buffer cannot hold it (R321, R332). -/
def State.sbTaps (s : State) (v : View) (n : Nat) (f : Format) : Option Nat :=
  if !sbScale v n then some 6
  else
    let k := if (s.sbShape v.rd n).isSome then 2 else 1
    tapsFit 32768 (min (ceilDiv (s.sbCrop v n f).2.2.1 k) (ceilDiv (sbMade v n (s.sbShape v.rd n)).1 k)) (s.sbSteps v n f).2
      (if bitOf (v.rd (Reg.sbdCfg n)) 8 then [6, 4, 2] else [6])

/-- What of a sheet bend's whole configuration R794 judges: the slots of R299, the output raster of R317, the steps, and equal sizes with SCALE_EN 0 (R336). -/
def State.sbInvalid (s : State) (v : View) (n : Nat) : Unfit :=
  let o := sbOut v n
  let m := sbMade v n (s.sbShape v.rd n)
  firstUnfit
    [fitsOr (!(decide (sbTiming v n = 1)) || decide (sbSlots v n ≤ s.f (Reg.sbdRing n) 3 0)) rbInvalid,
     fitsOr (decide (16 ≤ o.1 ∧ o.1 ≤ 4096 ∧ 16 ≤ o.2 ∧ o.2 ≤ 2160)) rbInvalid,
     match s.inFormat v (s.sbSource v.rd n) with
     | none => none
     | some f =>
       let c := s.sbCrop v n f
       fitsOr (sbScale v n || !cropFits c (sbPicture (s.sbShape v.rd n) f) || decide (c.2.2.1 = m.1 ∧ c.2.2.2 = m.2)) rbInvalid]

/-- A format with another size, rate and line count. -/
def withSize (f : Format) (o r : Nat × Nat) (lines : Nat) : Format :=
  { f with width := o.1, height := o.2, rateNum := r.1, rateDen := r.2, lineTotal := lines }

/-- Why an input format is unfit for a sheet bend, or for a gang member's part (R310, R332), but for the budget; none when it fits. -/
def State.sbUnfit (s : State) (v : View) (n : Nat) (f : Format) : Unfit :=
  let shape := s.sbShape v.rd n
  let pic := sbPicture shape f
  let c := s.sbCrop v n f
  let o := sbOut v n
  let m := sbMade v n shape
  let sync := decide (sbTiming v n = 1)
  let st := s.sbSteps v n f
  let stores := decide (shape ≠ some 2 ∨ n % 4 = 0)
  firstUnfit
    [fitsOr (!sync || !stores || decide (pixelBytes f.width f.height f.sampling f.depth ≤ 256 * s.f (Reg.sbdRing n) 31 8)) rbFormat,
     fitsOr (cropFits c pic) rbFormat,
     fitsOr (if f.scan ≠ 1 then true
             else if !sync then false
             else if sbDeint v n = 0 then
               decide (sbScan v n = 1) && decide (c.2.2.1 = pic.width ∧ c.2.2.2 = pic.height ∧ m.1 = pic.width ∧ m.2 = pic.height) &&
               rateEq (sbRate v n f) (fps f)
             else true) rbFormat,
     fitsOr (!sbScale v n || (stepOk st.1 && stepOk (if sbScan v n = 1 then st.2 / 2 else st.2))) rbFormat,
     fitsOr (pixelRateOk (withSize f o (sbRate v n f) (if sync then (genTiming v.rd (sbGen v n)).vTotal else f.lineTotal))) rbFormat,
     fitsOr (s.sbTaps v n f).isSome rbLinebuf]

/-- Why the input of a sheet bend's engine is unfit: of a gang, the first member's reason (R310, R332). -/
def State.sbEngineUnfit (s : State) (v : View) (n : Nat) : Unfit :=
  firstUnfit ((s.gangOf n).map (fun k => (s.inFormat v (s.sbSource v.rd k)).bind (s.sbUnfit v k)))

/-- Twice the factor k of R333. -/
def sbK2 (v : View) (n : Nat) (f : Format) : Nat :=
  let blend := decide (sbFrc v n = 2)
  if f.scan = 1 then
    if sbDeint v n = 1 then (if blend then 4 else 2)
    else if sbDeint v n = 3 then (if blend then 4 else 3)
    else (if blend then 2 else 1)
  else (if blend then 4 else 2)

/-- What one sheet bend draws of the frame store in kB/s (R333): of a gang fed by quadrants each member its part of the crop window; under ONE_QUAD the leader stores the one input
and reads it for all. -/
def State.sbMemberCharge (s : State) (v : View) (n : Nat) : Nat :=
  let shape := s.sbShape v.rd n
  if shape = some 2 ∧ n % 4 ≠ 0 then 0
  else
    match s.inFormat v (s.sbSource v.rd n) with
    | none => 0
    | some f =>
      let c := s.sbCrop v n f
      let k := if shape = some 0 ∨ shape = some 1 then 2 else 1
      let r := sbRate v n f
      let perField := decide (sbScan v n = 1) && decide (f.scan = 1) && decide (sbDeint v n = 0 ∨ sbDeint v n = 2)
      let ro := if perField then (2 * r.1, r.2) else r
      let sin := pixelBytes f.width f.height f.sampling f.depth
      let scrop := pixelBytes (ceilDiv c.2.2.1 k) (ceilDiv c.2.2.2 k) f.sampling f.depth
      ceilDiv (2 * sin * f.rateNum * ro.2 + sbK2 v n f * scrop * ro.1 * f.rateDen) (2000 * (max f.rateDen 1) * (max ro.2 1))

/-- Charge of a sheet bend in kB/s (R333); a gang's stands on its leader (R332). -/
def State.sbCharge (s : State) (v : View) (n : Nat) : Nat :=
  if sbTiming v n = 0 ∨ s.sbLead n ≠ n then 0 else ((s.gangOf n).map (s.sbMemberCharge v)).sum

/-! Layers -/

/-- The fields of CMP_L_CTRL (R393). -/
def lCtl (v : View) (cp l : Nat) : Word := v.rd (Reg.cmpLCtrl cp l)
def lOn (v : View) (cp l : Nat) : Bool := bitOf (lCtl v cp l) 0
def lKind (v : View) (cp l : Nat) : Nat := fld (lCtl v cp l) 2 1
def lPolicy (v : View) (cp l : Nat) : Nat := fld (lCtl v cp l) 4 3

/-- The generator of a compositor and its output size. -/
def cpGen (v : View) (cp : Nat) : Nat := fld (v.rd (Reg.cmpTg cp)) 7 0
def cpTiming (v : View) (cp : Nat) : Timing := genTiming v.rd (cpGen v cp)

/-- What a layer reads its samples from: format, colorimetry, range and store code; none where nothing is known (R343). -/
structure LayerSrc where
  width : Nat
  height : Nat
  scan : Nat
  sampling : Nat
  depth : Nat
  colour : Nat
  full : Bool
  code : Nat
  pitch : Nat
  rate : Nat × Nat
  deriving DecidableEq, Repr

/-- Sampling and depth codes of a buffer format (R346, R464). -/
def codeShape (c : Nat) : Nat × Nat :=
  match c with
  | 0 => (0, 0) | 1 => (0, 1) | 2 => (1, 1) | 3 => (1, 2) | 4 => (2, 1) | 5 => (2, 2) | 6 => (2, 0) | 7 => (2, 1) | _ => (0, 2)

/-- The source of a registered buffer. -/
def handleSrc (h : Handle) : LayerSrc :=
  { width := h.width, height := h.height, scan := 0, sampling := (codeShape h.format).1, depth := (codeShape h.format).2
    colour := h.colour, full := decide (h.range = 1) || decide (h.format = 6 ∨ h.format = 7), code := h.format, pitch := h.pitch, rate := (0, 1) }

/-- The source of an essence format, as live pixels or a stored frame. -/
def formatSrc (f : Format) : LayerSrc :=
  { width := f.width, height := f.height, scan := f.scan, sampling := f.sampling, depth := f.depth, colour := f.colour, full := f.fullRange
    code := storeCode f, pitch := slotPitch f, rate := fps f }

/-- The handle a BUFFER layer shows in a view: its current buffer in the live one, the handle it names otherwise (R378). -/
def State.layerHandle (s : State) (v : View) (cp l : Nat) : Nat :=
  if s.bit (Reg.cmpLCur cp l) 12 && decide (v.rd (Reg.cmpLSource cp l) = s.liveReg (Reg.cmpLSource cp l)) then s.f (Reg.cmpLCur cp l) 11 0
  else fld (v.rd (Reg.cmpLSource cp l)) 11 0

/-- A layer's source. -/
def State.layerSrc (s : State) (v : View) (cp l : Nat) : Option LayerSrc :=
  match lKind v cp l with
  | 1 =>
    match s.layerEo cp l with
    | none => none
    | some eo => (s.inFormat v eo).map formatSrc
  | 2 => (tabGet (s.layerHandle v cp l) s.eng.handles).map handleSrc
  | 3 =>
    match s.recNewest (fld (v.rd (Reg.cmpLSource cp l)) 7 0) with
    | some h => some (formatSrc (headFormat h))
    | none => (s.recSt (fld (v.rd (Reg.cmpLSource cp l)) 7 0)).fmt.map formatSrc
  | _ => none

/-- A layer's crop window. -/
def layerCrop (v : View) (cp l : Nat) (f : LayerSrc) : Nat × Nat × Nat × Nat :=
  let size := v.rd (Reg.cmpLSrcSize cp l)
  let pos := v.rd (Reg.cmpLSrcPos cp l)
  if size = 0 then (0, 0, f.width, f.height) else (fld pos 12 0, fld pos 28 16, fld size 12 0, fld size 28 16)

/-- A layer's steps (R352). -/
def layerSteps (v : View) (cp l : Nat) (f : LayerSrc) : Nat × Nat :=
  let c := layerCrop v cp l f
  let o := v.rd (Reg.cmpLDstSize cp l)
  if bitOf (lCtl v cp l) 13 then (fld (v.rd (Reg.cmpLHStep cp l)) 23 0, fld (v.rd (Reg.cmpLVStep cp l)) 23 0)
  else (autoStep c.2.2.1 (max (fld o 12 0) 1), autoStep c.2.2.2 (max (fld o 28 16) 1))

/-- The initial positions of a layer's scaler (R316, R352). -/
def layerInits (v : View) (cp l : Nat) (f : LayerSrc) : Int × Int :=
  if bitOf (lCtl v cp l) 13 then (initOf (v.rd (Reg.cmpLHInit cp l)), initOf (v.rd (Reg.cmpLVInit cp l)))
  else (autoInit (layerSteps v cp l f).1, autoInit (layerSteps v cp l f).2)

/-- A lower enabled scaled layer names the same scaler (R355). -/
def scalerTaken (v : View) (cp l : Nat) : Bool :=
  (List.range l).any (fun k => lOn v cp k && bitOf (lCtl v cp k) 7 && decide (fld (lCtl v cp k) 9 8 = fld (lCtl v cp l) 9 8))

/-- Vertical taps of a layer's scaler; none when it does not fit (R355). -/
def layerTaps (v : View) (cp l : Nat) (f : LayerSrc) : Option Nat :=
  if !bitOf (lCtl v cp l) 7 then some 4
  else if scalerTaken v cp l then none
  else
    tapsFit 16384 (min (layerCrop v cp l f).2.2.1 (fld (v.rd (Reg.cmpLDstSize cp l)) 12 0)) (layerSteps v cp l f).2
      (if bitOf (lCtl v cp l) 10 then [4, 2] else [4])

/-- Why a layer is unfit (R344, R348, R351, R352, R355). -/
def State.layerUnfit (s : State) (v : View) (cp l : Nat) : Unfit :=
  if !lOn v cp l then none
  else
    match s.layerSrc v cp l with
    | none => none
    | some f =>
      let c := layerCrop v cp l f
      let out := fld (v.rd (Reg.cmpOutFmt cp)) 6 4
      let st := layerSteps v cp l f
      firstUnfit
        [fitsOr (decide (f.scan = 0)) rbFormat,
         fitsOr (bitOf (lCtl v cp l) 14 || decide (f.colour = out ∨ f.colour = 0 ∨ out = 0)) rbFormat,
         fitsOr (decide (c.2.2.1 ≠ 0 ∧ c.2.2.2 ≠ 0 ∧ c.1 + c.2.2.1 ≤ f.width ∧ c.2.1 + c.2.2.2 ≤ f.height)) rbFormat,
         fitsOr (decide (f.sampling ≠ 0) || decide (c.1 % 2 = 0 ∧ c.2.2.1 % 2 = 0)) rbFormat,
         fitsOr (!bitOf (lCtl v cp l) 7 || (stepOk st.1 && stepOk st.2)) rbFormat,
         fitsOr (layerTaps v cp l f).isSome rbLinebuf]

/-- What of a compositor's whole configuration R794 judges: an enabled BUFFER layer's handle is registered to the owner (R388); a DELAY layer's delay is within its line (R466). -/
def State.cpInvalid (s : State) (v : View) (cp : Nat) : Unfit :=
  firstUnfit ((List.range (s.cpLayers cp)).map (fun l =>
    if !lOn v cp l then none
    else if lKind v cp l = 2 then
      fitsOr (match tabGet (s.layerHandle v cp l) s.eng.handles with
        | some h => decide (s.owner (objCp cp) = some h.owner)
        | none => false) rbInvalid
    else if lKind v cp l = 3 then
      fitsOr (decide (fld (v.rd (Reg.cmpLDelay cp l)) 23 0 + 2 ≤ fld (s.liveReg (Reg.fstRecDepth (fld (v.rd (Reg.cmpLSource cp l)) 7 0))) 23 0)) rbInvalid
    else none))

/-- Why a compositor cannot run: an interlaced or PsF generator (R342), an output beyond R32, or an unfit layer. -/
def State.cpUnfit (s : State) (v : View) (cp : Nat) : Unfit :=
  let t := cpTiming v cp
  firstUnfit (fitsOr (decide (t.scan = 0)) rbFormat ::
    fitsOr (decide (t.hA ≤ 4096 ∧ t.height ≤ 2160)) rbFormat ::
    (List.range (s.cpLayers cp)).map (fun l => s.layerUnfit v cp l))

/-! Geometry and culling -/

/-- A rectangle of the output: columns [x0, x1) and rows [y0, y1). -/
structure Rect where
  x0 : Int
  x1 : Int
  y0 : Int
  y1 : Int
  deriving DecidableEq, Repr

/-- The rectangle holds no pixel. -/
def Rect.empty (r : Rect) : Bool := decide (r.x1 ≤ r.x0) || decide (r.y1 ≤ r.y0)

/-- The intersection of two rectangles. -/
def Rect.meet (a b : Rect) : Rect := ⟨max a.x0 b.x0, min a.x1 b.x1, max a.y0 b.y0, min a.y1 b.y1⟩

/-- `a` lies within `b`. -/
def Rect.within (a b : Rect) : Bool :=
  a.empty || (decide (b.x0 ≤ a.x0) && decide (a.x1 ≤ b.x1) && decide (b.y0 ≤ a.y0) && decide (a.y1 ≤ b.y1))

/-- A layer's rectangle before clipping (R350). -/
def layerRect (v : View) (cp l w h : Nat) : Rect :=
  let x := sx 14 (fld (v.rd (Reg.cmpLDstPos cp l)) 13 0)
  let y := sx 14 (fld (v.rd (Reg.cmpLDstPos cp l)) 29 16)
  if bitOf (lCtl v cp l) 7 then
    ⟨x, x + fld (v.rd (Reg.cmpLDstSize cp l)) 12 0, y, y + fld (v.rd (Reg.cmpLDstSize cp l)) 28 16⟩
  else ⟨x, x + w, y, y + h⟩

/-- The output raster of a compositor. -/
def cpRect (v : View) (cp : Nat) : Rect := ⟨0, (cpTiming v cp).hA, 0, (cpTiming v cp).height⟩

/-- The visible rectangle of a layer (R350). A FILL layer's crop size is its source size register. -/
def State.visible (s : State) (v : View) (cp l : Nat) : Rect :=
  let size := v.rd (Reg.cmpLSrcSize cp l)
  let wh := match s.layerSrc v cp l with
    | some f => let c := layerCrop v cp l f; (c.2.2.1, c.2.2.2)
    | none => if lKind v cp l = 0 ∧ size = 0 then ((cpTiming v cp).hA, (cpTiming v cp).height) else (fld size 12 0, fld size 28 16)
  (layerRect v cp l wh.1 wh.2).meet (cpRect v cp)

/-- The layer's pixel alpha is 1023 throughout (R347). -/
def State.opaqueSrc (s : State) (v : View) (cp l : Nat) : Bool :=
  bitOf (lCtl v cp l) 6 || decide (lKind v cp l = 0) ||
  (match s.layerSrc v cp l with
   | some f => decide (f.code ≠ 6 ∧ f.code ≠ 7) || decide (lKind v cp l ≠ 2)
   | none => decide (lKind v cp l ≠ 2))

/-- The layer culls if its policy allows (R360): enabled, LA 1023, opaque. -/
def State.couldOcclude (s : State) (v : View) (cp l : Nat) : Bool :=
  lOn v cp l && decide (fld (v.rd (Reg.cmpLAlpha cp l)) 9 0 = 1023) && s.opaqueSrc v cp l && !(s.visible v cp l).empty

/-- Samples of one axis used by an output position: the output positions [lo, hi) that use samples `a` to `b` of a window of `size` samples (R318, R350). -/
def usersOf (init : Int) (step base taps size a b : Nat) (scaled : Bool) (out : Nat) : Int × Int :=
  if !scaled then (a, (b : Int) + 1)
  else
    let st : Int := max step 1
    let lo := ((a : Int) - (taps - 1) + base) * 2 ^ 20
    let hi := ((b : Int) + base + 1) * 2 ^ 20
    let up := fun (n : Int) => -((-(n - init)) / st)
    (if a = 0 then 0 else max 0 (up lo), if size ≤ b + 1 then out else min out (up hi))

/-- Bytes and pixels of one unit of a format (R346, R464). -/
def codeUnit (c : Nat) : Nat × Nat :=
  match c with
  | 0 => (4, 2) | 1 => (5, 2) | 8 => (6, 2) | 3 => (6, 1) | 5 => (6, 1) | _ => (4, 1)

/-- The byte ranges of one line of a layer that its fetched granules hold of the samples it uses (R362, R386): over its granules, where no occluder hides every user.
`rows` are the output rows that use the line, `cols a b` the columns that use samples `a` to `b` of the crop window. -/
def lineGranules (code x0 u0 u1 : Nat) (rows : Int × Int) (cols : Nat → Nat → Int × Int) (vis : Rect) (org : Int × Int) (occ : List Rect) : List (Nat × Nat) :=
  let un := codeUnit code
  let b0 := (x0 + u0) / un.2 * un.1
  let b1 := ceilDiv (x0 + u1 + 1) un.2 * un.1
  (List.range (ceilDiv b1 256 - b0 / 256)).filterMap (fun k =>
    let g0 := (b0 / 256 + k) * 256
    let lo := max g0 b0
    let hi := min (g0 + 256) b1
    let p0 := lo / un.1 * un.2 - x0
    let p1 := ceilDiv hi un.1 * un.2 - x0 - 1
    let c := cols p0 p1
    let r : Rect := (Rect.mk (org.1 + c.1) (org.1 + c.2) (org.2 + rows.1) (org.2 + rows.2)).meet vis
    if r.empty || occ.any (fun o => r.within o) then none else some (lo, hi))

/-- What a fetching layer fetches of each line of its crop window, as byte ranges of the line (R362, R386). -/
def State.layerRanges (s : State) (v : View) (cp l : Nat) (f : LayerSrc) : Nat → List (Nat × Nat) :=
  let c := layerCrop v cp l f
  let vis := s.visible v cp l
  let scaled := bitOf (lCtl v cp l) 7
  let st := layerSteps v cp l f
  let ini := layerInits v cp l f
  let taps := (layerTaps v cp l f).getD 4
  let rect := layerRect v cp l c.2.2.1 c.2.2.2
  let ow := (rect.x1 - rect.x0).toNat
  let oh := (rect.y1 - rect.y0).toNat
  let vb := if taps = 2 then 0 else 1
  let cols := fun a b => usersOf ini.1 st.1 2 6 c.2.2.1 a b scaled ow
  let used := (List.range c.2.2.1).filter (fun x =>
    let u := cols x x
    decide (max (rect.x0 + u.1) vis.x0 < min (rect.x0 + u.2) vis.x1))
  let occ := if bitOf (v.rd (Reg.cmpCfg cp)) 3 then
      ((List.range (s.cpLayers cp)).filter (fun k => decide (l < k) && s.couldOcclude v cp k)).map (s.visible v cp)
    else []
  match used.head?, used.getLast? with
  | some u0, some u1 => fun y =>
    let rows := usersOf ini.2 st.2 vb taps c.2.2.2 y y scaled oh
    if max (rect.y0 + rows.1) vis.y0 < min (rect.y0 + rows.2) vis.y1 then lineGranules f.code c.1 u0 u1 rows cols vis (rect.x0, rect.y0) occ else []
  | _, _ => fun _ => []

/-- Bytes of one output frame that a fetching layer is charged (R386). -/
def State.layerBytes (s : State) (v : View) (cp l : Nat) : Nat :=
  match s.layerSrc v cp l with
  | none => 0
  | some f =>
    if (s.visible v cp l).empty then 0
    else
      let g := s.layerRanges v cp l f
      (List.range (layerCrop v cp l f).2.2.2).foldl (fun acc y => (g y).foldl (fun a e => a + (e.2 - e.1)) acc) 0

/-- Bytes that a fetching layer moves in one output frame, by whole granules (R386). -/
def State.layerMoved (s : State) (v : View) (cp l : Nat) : Nat :=
  match s.layerSrc v cp l with
  | none => 0
  | some f =>
    if (s.visible v cp l).empty then 0
    else
      let g := s.layerRanges v cp l f
      256 * (List.range (layerCrop v cp l f).2.2.2).foldl (fun acc y => acc + (g y).length) 0

/-- The layer fetches from the frame store (R343). -/
def lFetches (v : View) (cp l : Nat) : Bool := lOn v cp l && decide (lKind v cp l = 2 ∨ lKind v cp l = 3)

/-- Bytes of a coil surface (R364). -/
def coilBytes (v : View) (cp : Nat) : Nat :=
  (cpTiming v cp).hA * (cpTiming v cp).height * (if bitOf (v.rd (Reg.cmpCfg cp)) 2 then 6 else 4)

/-- The layer lies in the coil in use. -/
def State.coiled (s : State) (cp l : Nat) : Bool := s.bit (Reg.cmpLStatus cp l) 4

/-- Charge of a compositor in kB/s (R386, R369), as if it ran. -/
def State.cpCharge (s : State) (v : View) (cp : Nat) : Nat :=
  let r := (cpTiming v cp).rate
  let coilUsed := s.bit (Reg.cmpStatus cp) 1 && bitOf (v.rd (Reg.cmpCfg cp)) 1
  let bytes := (List.range (s.cpLayers cp)).foldl (fun acc l =>
    if lFetches v cp l then (if coilUsed && s.coiled cp l then acc else acc + s.layerBytes v cp l)
    else if lOn v cp l && decide (lKind v cp l = 1) && decide (lPolicy v cp l = 0) then
      match s.layerSrc v cp l with
      | some f => acc + 2 * pixelBytes f.width f.height f.sampling f.depth
      | none => acc
    else acc) 0
  kBps (bytes + (if coilUsed then coilBytes v cp else 0)) r

/-- Charge of a recorder (R453): its input's stored bytes at its rate; while absent, its last format's. -/
def State.recCharge (s : State) (v : View) (r : Nat) : Nat :=
  if !bitOf (v.rd (Reg.fstRecCtrl r)) 0 || (v.hitch (s.recEo r)).isNone then 0
  else
    match (if s.eoPresent (s.recEo r) then s.inFormat v (s.recEo r) else (s.recSt r).fmt) with
    | some f => kBps (storedFrame f) (fps f)
    | none => 0

/-- Charge of a player (R453). -/
def State.plyCharge (s : State) (v : View) (p : Nat) : Nat :=
  if fld (v.rd (Reg.fstPlyCtrl p)) 1 0 = 0 then 0
  else
    let tg := fld (v.rd (Reg.fstPlyTg p)) 7 0
    match s.recNewest (plyRecorder v.rd p) with
    | some h => if s.genRuns tg then kBps (storedFrame (headFormat h)) (genTiming v.rd tg).rate else 0
    | none => 0

/-- Charge of an encoder's hold buffer: one frame of its essence, written at the essence rate (R233). -/
def State.holdCharge (s : State) (v : View) (eo : Nat) : Nat :=
  if s.bit (Reg.splDestCfg (destWin eo)) 0 then
    match s.inFormat v eo with
    | some f => kBps (pixelBytes f.width f.height f.sampling f.depth) (fps f)
    | none => 0
  else 0

/-- Line rates in kbit/s of the SDI rate codes (R87), for promotion buffers (R215). -/
def sdiKbps (code : Nat) : Nat :=
  match code with
  | 0x01 => 270000 | 0x02 => 1483516 | 0x03 => 1485000 | 0x04 => 2967033 | 0x05 => 2970000 | 0x06 => 5934066 | 0x07 => 5940000
  | 0x0B => 11868132 | 0x0C => 11880000 | _ => 0

/-- Line rates in kbit/s of the rate codes a display link uses (R87, R88). -/
def dispKbps (code : Nat) : Nat :=
  match code with
  | 0x08 => 8100000 | 0x09 => 10000000 | 0x0D => 13500000 | 0x0E => 20000000 | 0x10 => 3000000 | 0x11 => 6000000 | 0x12 => 8000000
  | 0x13 => 12000000 | _ => 0

/-- Payload capacity in kbit/s of a source port's trained link (R145): lanes × rate × the code rate of its line code, with the lanes and the rate that TRAIN_DONE reported. Before
the link is trained it is that of the configuration (DESIGN CHOICE, log entry on link capacity). -/
def State.linkCapacity (s : State) (dp : Nat) : Nat :=
  let n := 64 + 4 * dp
  let lanes := tabGetD 4 dp s.strand.dpLanes
  let hdmi := s.bit (Reg.strCfg n) 6
  let code := if s.bit (Reg.strDpSbStatus dp) 1 ∧ s.rate n ≠ 0x3F then s.f (Reg.strDpSbStatus dp) 13 8 else s.rate n
  if code = 0x3F then 3 * (s.reg (Reg.strRateCustom n)).toNat * 8 / 10
  else if hdmi then lanes * dispKbps code * 16 / 18
  else if code = 0x08 then lanes * dispKbps code * 8 / 10
  else lanes * dispKbps code * 128 / 132

/-- The TMDS bit rate of a lane in kbit/s for a timing, sampling and depth: ten bits a clock, more by depth but in 4:2:2 (PRESUMED from HDMI, log entry on link capacity). -/
def tmdsKbps (t : Timing) (sampling depth : Nat) : Nat :=
  let k := if sampling = 0 then 8 else depthBits depth
  if t.m then t.pclk * 10 * k * 1000 / (8 * 1001) else t.pclk * 10 * k / 8

/-- The sampling a display source sends an essence in: 4:2:0 where it is set to it and the essence has chroma to average (R144). -/
def State.sourceSampling (s : State) (dp sampling : Nat) : Nat := if s.wire.halved.contains dp && decide (sampling ≤ 1) then 3 else sampling

/-- A format's essence fits a source port's trained link (R143, R145): its pixels at its bits per pixel, blanking included on HDMI. -/
def State.linkFits (s : State) (dp : Nat) (f : Format) : Bool :=
  let lines := if s.bit (Reg.strCfg (64 + 4 * dp)) 6 then max f.lineTotal f.height else f.height
  decide (f.width * lines * f.rateNum * sampComps2 (s.sourceSampling dp f.sampling) * depthBits f.depth ≤ s.linkCapacity dp * 2000 * max f.rateDen 1)

/-- Charge of an object in a view, by object code, when it runs in it. -/
def State.chargeOf (s : State) (v : View) (c : Nat) : Nat :=
  match objClass c with
  | 0x03 => s.sbCharge v (objIndex c)
  | 0x04 => s.cpCharge v (objIndex c)
  | 0x07 => s.recCharge v (objIndex c)
  | 0x08 => s.plyCharge v (objIndex c)
  | 0x01 => s.holdCharge v (objIndex c)
  | _ => 0

/-! Admission -/

/-- The admitted charge of an object in kB/s. -/
def State.charge (s : State) (c : Nat) : Nat := tabGetD 0 c s.store.charges

/-- Set an admitted charge. -/
def setCharge (c v : Nat) (s : State) : State := { s with store := { s.store with charges := tabPut 0 c v s.store.charges } }

/-- The frame store is in service (R434). -/
def State.storeOn (s : State) : Bool := s.bit Reg.fstStatus 0

/-- Peak of one channel in kB/s (R431). -/
def channelPeak (speed : Nat) : Nat := if speed = 0 then 38400000 else if speed = 1 then 44800000 else 51200000

/-- The peak of the channels that count toward B, without channel `w` (R450). -/
def State.peakWithout (s : State) (w : Option Nat) : Nat :=
  match s.store.plan with
  | none => 0
  | some p => channelPeak p.speed * (s.store.counted.filter (fun m => decide (some m ≠ w))).length

/-- B in kB/s without channel `w`; 0 out of service (R435, R450). -/
def State.budgetWithout (s : State) (w : Option Nat) : Nat :=
  if s.storeOn then s.peakWithout w * s.f Reg.fstBudgetPct 6 0 / 100 else 0

/-- The device budget B (R450). -/
def State.budget (s : State) : Nat := s.budgetWithout none

/-- The host reserve of a tenancy in kB/s, counted while in service (R453). -/
def State.hostReserve (s : State) (t : Nat) : Nat := if s.storeOn then 1000 * (s.reg (Reg.fstTenHostRes t)).toNat else 0

/-- The tenancy's limit (R452). -/
def State.tenLimitOf (s : State) (b t : Nat) : Nat := b * s.f (Reg.fstTenShare t) 6 0 / 100

/-- The preroll reservations of a tenancy's sets above the live charges (R273). -/
def State.reserves (s : State) (t : Nat) : Nat :=
  (s.spl.sets.filter (fun c => decide (c.owner = t))).foldl (fun a c => a + (c.reserved.map Prod.snd).sum) 0

/-- A tenancy's committed total in kB/s; 0 out of service (R453). -/
def State.tenCommitted (s : State) (t : Nat) : Nat :=
  if s.storeOn then
    (s.store.charges.filter (fun e => decide (s.owner e.1 = some t))).foldl (fun a e => a + e.2) (s.hostReserve t + s.reserves t)
  else 0

/-- The charge of a copy in progress (R453, R473). -/
def State.copyCharge (s : State) : Nat :=
  match s.store.copy with
  | none => 0
  | some j => (if s.f (Reg.fstChStatus j.ch) 3 0 = 8 then 1 else 2) * 1000000 * s.f Reg.fstCopyRate 4 0

/-- The device's committed total without the copy (R453). -/
def State.committed (s : State) : Nat := (List.range 4).foldl (fun a t => a + s.tenCommitted t) 0

/-- An increase of a tenancy is admitted (R454). -/
def State.admits (s : State) (t inc : Nat) : Bool :=
  decide (s.committed + s.copyCharge + inc ≤ s.budget) && decide (s.tenCommitted t + inc ≤ s.tenLimitOf s.budget t)

/-- Count a refusal of bandwidth (R454). -/
def refuseBw (t : Nat) (s : State) : State := s.bump (Reg.fstTenBwRefused t) 1

/-! The device area -/

/-- What hold buffers take of a tenancy's device area (R233, R381, R440). -/
def State.devHeld (s : State) (t : Nat) : Nat :=
  (s.store.holds.filter (fun e => decide (s.owner (objDest e.1) = some t))).foldl (fun a e => a + e.2) 0

/-- Free bytes of a tenancy's device area: what its frame rings, coil surfaces, promotion buffers and hold buffers leave (R440). -/
def State.devFree (s : State) (t : Nat) : Nat := tabGetD 0 t s.store.devFree - s.devHeld t

/-- Take or give back bytes of a device area. -/
def takeDev (t : Nat) (bytes : Nat) (s : State) : State :=
  { s with store := { s.store with devFree := tabPut 0 t (tabGetD 0 t s.store.devFree - bytes) s.store.devFree } }
def giveDev (t : Nat) (bytes : Nat) (s : State) : State :=
  { s with store := { s.store with devFree := tabPut 0 t (tabGetD 0 t s.store.devFree + bytes) s.store.devFree } }

/-- The device area has room for a hold buffer of an EO's owner (R440). -/
def State.holdRoom (s : State) (eo bytes : Nat) : Bool :=
  match s.owner (objDest eo) with
  | some t => decide (bytes ≤ s.devFree t + tabGetD 0 eo s.store.holds)
  | none => true

/-- The bytes an EO's hold buffer takes. -/
def setHold (eo bytes : Nat) (s : State) : State := { s with store := { s.store with holds := tabPut 0 eo bytes s.store.holds } }

/-- Recompute an object's charge and admit an increase: the state, and whether it was admitted (R455). -/
def recharge (c new : Nat) (s : State) : State × Bool :=
  let old := s.charge c
  if new ≤ old then (setCharge c new s, true)
  else
    match s.owner c with
    | none => (s, true)
    | some t => if s.admits t (new - old) then (setCharge c new s, true) else (refuseBw t s, false)

/-- Bytes of one frame on an EO, 0 while its format is not known (R455). -/
def State.frameBytes (s : State) (v : View) (eo : Nat) : Nat :=
  match s.inFormat v eo with
  | some f => pixelBytes f.width f.height f.sampling f.depth
  | none => 0

/-- Recompute an encoder's hold buffer (R233, R440, R455): the state, and whether its bandwidth and its room were admitted. -/
def rechargeHold (v : View) (eo : Nat) (s : State) : State × Bool :=
  let bytes := if s.bit (Reg.splDestCfg (destWin eo)) 0 then s.frameBytes v eo else 0
  if !s.holdRoom eo bytes then (s, false)
  else
    let q := recharge (objDest eo) (s.holdCharge v eo) s
    if q.2 then (setHold eo bytes q.1, true) else q

/-- Bytes of a LIVE layer's hold buffer of two source frames (R381). -/
def State.layerHold (s : State) (v : View) (cp l : Nat) : Nat :=
  match s.layerEo cp l with
  | some eo => if lOn v cp l && decide (lKind v cp l = 1 ∧ lPolicy v cp l = 0) then 2 * s.frameBytes v eo else 0
  | none => 0

/-- Set the bytes of a layer's hold buffer. -/
def keepLayer (cp l bytes : Nat) (s : State) : State :=
  match s.layerEo cp l with
  | some eo => setHold eo bytes s
  | none => s

/-- A LIVE layer with HOLD has its hold buffer (R381, R455). -/
def State.layerKeeps (s : State) (cp l : Nat) : Bool :=
  match s.layerEo cp l with
  | some eo => (tabGet eo s.store.holds).isSome
  | none => false

/-- Give a compositor's LIVE layers their hold buffers (R381, R440, R455), `ok` saying that its charge was admitted: the state, and whether every one has its room. A layer that needs
none gives its room back. -/
def keepLayers (v : View) (cp : Nat) (ok : Bool) (s : State) : State × Bool :=
  (List.range (s.cpLayers cp)).foldl (fun (q : State × Bool) l =>
    let bytes := q.1.layerHold v cp l
    match q.1.layerEo cp l with
    | none => q
    | some eo => if bytes = 0 ∨ (ok ∧ q.1.holdRoom eo bytes = true) then (setHold eo bytes q.1, q.2) else (q.1, false)) (s, true)

/-- Every LIVE layer of a compositor that would have a hold buffer in a view has room for it (R440). -/
def State.layersRoom (s : State) (v : View) (cp : Nat) : Bool :=
  (keepLayers v cp true s).2

end Sys2Proof.Machine
end

