-- ==== Sys2Proof/Machine/Belay.lean ====
section
/-! DEFINITION. Power domains and the belay (R753 to R758): which domains the running objects need, requests, and grants. -/

namespace Sys2Proof.Machine

open Sys2Proof

/-- Replace the power part of the state. -/
def setPwr (p : PowerState) (s : State) : State := { s with pwr := p }

/-- Predicted step of a domain in tenths of an ampere (R753). -/
def domStep (d : Nat) : Nat :=
  if d < 96 then 6 else if d < 128 then 10 else if d < 160 then 4 else if d < 176 then 2 else if d < 192 then 12
  else if d < 208 then 10 else if d < 224 then 5 else if d < 240 then 3 else if d < 252 then 15 else 10

/-- Ready time of a domain in ns (R753). -/
def domReady (d : Nat) : Nat :=
  if d < 96 then 10000 else if d < 128 then 10000 else if d < 160 then 8000 else if d < 176 then 2000 else if d < 192 then 20000
  else if d < 208 then 20000 else if d < 224 then 5000 else if d < 240 then 5000 else if d < 252 then 50000 else 30000

/-- A domain is on (R766). -/
def State.domOn (s : State) (d : Nat) : Bool := s.bit (Reg.pwrDomOn (d / 32)) (d % 32)

/-- Switch a domain. -/
def setDom (d : Nat) (v : Bool) (s : State) : State := s.setBit (Reg.pwrDomOn (d / 32)) (d % 32) v

/-- The domains an engine needs in a view: its own, and a compositor's scalers when a layer takes one (R753). -/
def State.engDomains (s : State) (v : View) (e : Nat) : List Nat :=
  match objClass e with
  | 0x03 =>
    if s.eng.gangs.contains (objIndex e / 4) then (List.range 4).map (fun q => objIndex e / 4 * 4 + q) else [objIndex e]
  | 0x04 =>
    (96 + objIndex e) :: (if (List.range 8).any (fun l => lOn v (objIndex e) l && bitOf (lCtl v (objIndex e) l) 7) then [128 + objIndex e] else [])
  | 0x06 => [160 + objIndex e / 16]
  | _ => []

/-- The domains a destination needs: its port and what consumes there (R753). -/
def State.destDomains (s : State) (d : Nat) : List Nat :=
  if destIsStrand d then [176 + destNumber d / 8]
  else
    (208 + d / 64) ::
    (match s.consumer d with
     | some (.sdiEnc n _) => [176 + n / 8]
     | some (.dispSrc dp) => [176 + (64 + 4 * dp) / 8]
     | some (.tx2110 f) => [192 + f / 32]
     | _ => [])

/-- The generator whose live SCN_CTRL register is at an address. -/
def genOfCtrl (a : Nat) : Option Nat :=
  let tg := (a - Reg.scnCtrl 0) / 0x100
  if tg < 256 ∧ Reg.scnCtrl tg = a then some tg else none

/-- The strand whose STR_STATE register is at an address. -/
def strandOfState (a : Nat) : Option Nat :=
  let n := (a - Reg.strState 0) / 0x800
  if n < 128 ∧ Reg.strState n = a then some n else none

/-- The PCIe links that the bifurcation in force gives (R609): none before it is known. -/
def State.links (s : State) : Nat :=
  match s.host.bifurcation with
  | none => 0
  | some b => if b = 0 then 1 else if b = 1 then 2 else 4

/-- The domains that objects which run now use (R754). -/
def State.usedDomains (s : State) : List Nat :=
  let v := s.liveView
  (s.spl.eiBind.foldr (fun e acc => (match producerEngine e.2 with
      | some g => if s.engRuns g then s.engDomains v g else []
      | none => []) ++ (if s.eiPresent e.1 then [208 + e.1 / 64] else []) ++ acc) []) ++
  (s.live.filterMap (fun e => (genOfCtrl e.1).bind (fun tg => if bitOf e.2 0 then some (160 + tg / 16) else none))) ++
  (s.spl.eoBind.foldr (fun e acc => (if (s.hitch e.1).isSome && s.destRuns e.1 then s.destDomains e.1 else []) ++ acc) []) ++
  (s.regs.filterMap (fun e => (strandOfState e.1).bind (fun n =>
    if fld e.2 2 0 ≠ 0 ∨ fld e.2 5 4 ≠ 0 then some (176 + n / 8) else none))) ++
  (s.wire.flows.filterMap (fun e => if e.2.desc.enable then some (192 + (if e.1 / 0x10000 = 1 then e.1 % 0x10000 / 256 else e.1 % 0x10000 / 32)) else none)) ++
  (s.aud.amoBind.filterMap (fun e => if s.bit (Reg.audAmoSrc e.1) 13 then some (224 + e.1 / 512) else none)) ++
  ((List.range 12).filterMap (fun m => if s.store.memPwrEn.testBit m then some (240 + m) else none)) ++
  ((List.range (s.links)).map (fun l => 252 + l))

/-- Request a wake that is not already asked for (R754, R756). -/
def wakeDomain (prio deadline : Nat) (set : Option Nat) (d : Nat) (s : State) : State :=
  if s.domOn d || s.pwr.reqs.any (fun r => decide (r.dom = d ∧ r.off = false ∧ r.prio ≤ prio)) then s
  else setPwr { s.pwr with reqs := s.pwr.reqs.filter (fun r => decide (r.dom ≠ d)) ++ [⟨d, false, prio, s.now, deadline, set⟩] } s

/-- Wake every domain that a running object needs (R754): at early-service priority in Bring-up, else in the background. -/
def wakeUsed (s : State) : State :=
  let prio := if s.mode = .bringUp then 1 else 2
  s.usedDomains.eraseDups.foldl (fun s d => wakeDomain prio 0 none d s) s

/-- A set that ends or commits leaves no request behind. -/
def dropReqs (id : Nat) (s : State) : State :=
  setPwr { s.pwr with reqs := s.pwr.reqs.filter (fun r => decide (r.set ≠ some id)) } s

/-- A set still waits for a grant (R276). -/
def State.powerWaits (s : State) (id : Nat) : Bool := s.pwr.reqs.any (fun r => decide (r.set = some id))

/-- The earliest deadline of a list of requests. -/
def earliest : List BelayReq → Option BelayReq
  | [] => none
  | r :: l =>
    match earliest l with
    | none => some r
    | some q => if q.deadline < r.deadline then some q else some r

/-- The request the belay serves next (R756). -/
def nextReq (l : List BelayReq) : Option BelayReq :=
  match earliest (l.filter (fun r => decide (r.prio = 0))) with
  | some r => some r
  | none =>
    match l.find? (fun r => decide (r.prio = 1)) with
    | some r => some r
    | none => l.head?

/-- Steps granted within the last 2 µs, in tenths of an ampere (R755). -/
def State.stepsNow (s : State) : Nat :=
  (s.pwr.grants.filter (fun g => decide (s.now < g.1 + 2000))).foldl (fun a g => a + g.2) 0

/-- The effect of a grant on its domain (R753, R754). -/
def grantReq (r : BelayReq) (s : State) : State :=
  let s := setPwr { s.pwr with
    reqs := s.pwr.reqs.filter (fun x => decide (x.dom ≠ r.dom))
    grants := s.pwr.grants.filter (fun g => decide (s.now < g.1 + 2000)) ++ [(s.now, domStep r.dom)] } s
  let w := min (s.now - r.since) 0xFFFFFFFF
  let s := if (s.reg Reg.pwrBelayWaitMax).toNat < w then s.setReg Reg.pwrBelayWaitMax (wd w) else s
  setDom r.dom (!r.off) s

/-- BELAY_GRANT (R755, R756): the request next in priority is granted when its step fits; a shutdown of a domain in use again is dropped. -/
def doBelayGrant (s : State) : State :=
  match nextReq s.pwr.reqs with
  | none => s
  | some r =>
    if r.off && s.usedDomains.contains r.dom then
      setPwr { s.pwr with reqs := s.pwr.reqs.filter (fun x => decide (x.dom ≠ r.dom)) } s
    else if s.stepsNow + domStep r.dom ≤ 10 * s.f Reg.pwrBelayCfg 5 0 then grantReq r s
    else s

def execBelayGrant (s : State) : Host.Outcome State Fault Refusal := run doBelayGrant s

/-- A domain of which something has run, been held or been in a branch within PWR_IDLE_HOLD stays on: now in use, or in a set's branch (R754). -/
def State.domBusy (s : State) (d : Nat) : Bool :=
  s.usedDomains.contains d ||
  s.spl.sets.any (fun c => c.engines.any (fun e => (s.engDomains ⟨s.reg, s.hitch⟩ e).contains d) ||
    c.arms.any (fun a => (s.destDomains a.dest).contains d))

/-- IDLE_HOLD_EXPIRY (R754): a domain that is on and not in use is to be shut down, in the background. -/
def doIdleHoldExpiry (d : Nat) (s : State) : State :=
  if 256 ≤ d ∨ !s.domOn d ∨ s.domBusy d ∨ s.pwr.reqs.any (fun r => decide (r.dom = d)) then s
  else setPwr { s.pwr with reqs := s.pwr.reqs ++ [⟨d, true, 2, s.now, 0, none⟩] } s

def execIdleHoldExpiry (d : Nat) (s : State) : Host.Outcome State Fault Refusal := run (doIdleHoldExpiry d) s

end Sys2Proof.Machine
end

