-- ==== Sys2Proof/Machine/Changes.lean ====
section
/-! DEFINITION. Change sets (R248 to R286): arms and the states of destinations and groups, the reserves of promotion (R212), rollback
(R256, R263 to R270), bindings, the presence of essences and its loss (R232 to R236, R303, R304, R379), acceptance and commit. -/

namespace Sys2Proof.Machine

open Sys2Proof

/-! The sets -/

/-- The change set of an identifier. -/
def State.findSet (s : State) (id : Nat) : Option ChangeSet := s.spl.sets.find? (fun c => decide (c.id = id))

/-- Replace the sets. -/
def setSets (l : List ChangeSet) (s : State) : State := { s with spl := { s.spl with sets := l } }

/-- Change the set of an identifier. -/
def updSet (id : Nat) (f : ChangeSet → ChangeSet) (s : State) : State :=
  setSets (s.spl.sets.map (fun c => if c.id = id then f c else c)) s

/-- The set that holds a destination's arm (R205). -/
def State.setOfDest (s : State) (d : Nat) : Option ChangeSet :=
  s.spl.sets.find? (fun c => c.arms.any (fun a => decide (a.dest = d) && !a.switched))

/-- The set of a tenancy's group (R227). -/
def State.setOfGroup (s : State) (t g : Nat) : Option ChangeSet :=
  s.spl.sets.find? (fun c => decide (c.owner = t ∧ c.group = g ∧ g ≠ 0))

/-- The set that holds an engine: the first accepted whose branch has it and that has not switched it (R254). -/
def State.holderOf (s : State) (e : Nat) : Option ChangeSet :=
  s.spl.sets.find? (fun c => c.engines.contains e && !c.switchedEngines.contains e)

/-- Every engine of the set's branch is held by it (R254). -/
def State.holdsAll (s : State) (c : ChangeSet) : Bool :=
  c.engines.all (fun e => decide ((s.holderOf e).map (fun x => x.id) = some c.id))

/-- Splice states of R198. -/
def stIdle : Nat := 0
def stArmed : Nat := 1
def stPreroll : Nat := 2
def stDecided : Nat := 3
def stDeferred : Nat := 4

/-- State of a destination (R243). -/
def State.destState (s : State) (d : Nat) : Nat := s.f (Reg.splSpliceStatus (destWin d)) 2 0

/-- Set a destination's splice state. -/
def setDestState (d v : Nat) (s : State) : State := s.setF (Reg.splSpliceStatus (destWin d)) 2 0 v

/-- Set a destination's LAST_RESULT (R243). -/
def setResult (d : Nat) (st : Status) (s : State) : State := s.setF (Reg.splSpliceStatus (destWin d)) 15 8 (statusCode st)

/-- Code of a set's phase for its destinations and its group. -/
def phaseCode : SetPhase → Nat
  | .collecting => 1 | .armed => 1 | .preroll => 2 | .decided => 3 | .deferred => 4

/-- Write SPL_GROUP_STATUS of a group from its set an open batch occupying it (R246, R278). -/
def refreshGroup (t g : Nat) (s : State) : State :=
  if g = 0 then s
  else
    match s.setOfGroup t g with
    | some c =>
      s.setReg (Reg.splGroupStatus t g)
        (wd (min 2047 c.arms.length + 0x800 * phaseCode c.phase + 0x4000 * (c.mode % 4) + 0x10000 * c.leader))
    | none => s.setReg (Reg.splGroupStatus t g) 0

/-- The recorders and players whose registers a set changes, by object code. -/
def opObjs (l : List PendOp) : List Nat :=
  (l.filterMap (fun op => match op with
    | .reg a _ =>
      match locate a with
      | some r => (match r.kind with
          | .fstRec => some (objRec r.i)
          | .fstPly => some (objPly r.i)
          | _ => none)
      | none => none
    | _ => none)).eraseDups

/-- The zones that a pending copy touches: those of its object, and of the ends of a binding (R72, R74). -/
def opZones : PendOp → List Nat
  | .reg a _ =>
    match locate a with
    | some l => (match l.kind with
        | .pace => [l.i / 64]
        | _ => (windowZone l).toList)
    | none => []
  | .bind d src => (zoneOfObj (objDest d)).toList ++ (src.map (fun n => if destIsStrand d then n / 8 else n / 64)).toList
  | .flow key d => (if key / 0x10000 = 1 then key % 0x10000 / 256 else key % 0x10000 / 32) :: (if d.kind = 2 ∨ d.kind = 3 then d.port / 512 else d.port / 64) :: []
  | .audio amo ami => (amo / 512) :: (ami.map (fun n => n / 512)).toList

/-- The zones that a set touches: those of its members and their sources, of its engines and of its pending copies (R72, R74). -/
def setZones (c : ChangeSet) : List Nat :=
  (c.arms.flatMap (fun a => opZones (.bind a.dest a.source))) ++ c.engines.filterMap zoneOfObj ++ c.ops.flatMap opZones

/-- A zone that a set touches is not RUNNING. -/
def State.setZoneBusy (s : State) (c : ChangeSet) : Option Nat := (setZones c).find? (fun z => decide (s.zone z ≠ 0))

/-- Every zone that a set touches is RUNNING (R72). -/
def needZones (c : ChangeSet) (s : State) : Refuse := (s.setZoneBusy c).map (fun z => (Status.zoneBusy, objZone z))

/-! Promotion reserves -/

/-- Bytes of a promotion buffer: two frames of line rate ÷ frame rate ÷ 8 (R212). -/
def promoBytes (rateCode : Nat) (f : Format) : Nat :=
  2 * ceilDiv (sdiKbps rateCode * 1000 * f.rateDen) (8 * max f.rateNum 1)

/-- Charge of a promotion buffer: 2 × line rate ÷ 8 (R215). -/
def promoCharge (rateCode : Nat) : Nat := ceilDiv (sdiKbps rateCode) 4

/-- A timing generator of a zone that no output uses: not running, no reserve, and paced by no encoder (R212, R401). -/
def State.freeGen (s : State) (z : Nat) : Option Nat :=
  ((List.range 16).map (fun k => 16 * z + k)).find? (fun tg =>
    !s.genRuns tg && !s.bit (Reg.scnStatus tg) 14 && !s.spl.eoBind.any (fun e => decide (s.paceTg e.1 = some tg)))

/-- The format a taut splice of egress `n` to source `src` joins (R210): the source's, else what the egress last carried. -/
def State.promoFormat (s : State) (n src : Nat) : Option Format :=
  match tabGet src s.wire.formats with
  | some f => some f
  | none => tabGet n s.strand.tautFormat

/-- The promotion reserve an SDI_FRAME arm of egress strand `n` would take (R212): generator and buffer bytes. While no frame rate is known the frames are sized for the slowest,
24000/1001 (DESIGN CHOICE, log entry on the promotion reserve). -/
def State.reserveFor (s : State) (n : Nat) (src : Nat) (t : Nat) : Option (Nat × Nat) :=
  match s.freeGen (n / 8) with
  | some tg =>
    let b := match s.promoFormat n src with
      | some f => promoBytes (s.rate n) f
      | none => 2 * ceilDiv (sdiKbps (s.rate n) * 1000 * 1001) (8 * 24000)
    if b ≤ s.devFree t then some (tg, b) else none
  | none => none

/-- Release a reserve of a tenancy: the generator stops serving and the buffer returns (R401, R440). -/
def releaseReserve (t : Nat) (r : Option (Nat × Nat)) (s : State) : State :=
  match r with
  | none => s
  | some (tg, b) => giveDev t b (s.setBit (Reg.scnStatus tg) 14 false)

/-! Rollback -/

/-- Give an engine back as its set ends or switches: to the next set that waits for it, else CLEAN (R253, R254). -/
def passEngine (e : Nat) (s : State) : State :=
  match s.holderOf e with
  | some c => holdCtx e 2 c.leader (setCtx e 0 s)
  | none => setCtx e 0 s

/-- Undo a pending copy: an object without a shadow context drops its new values (R256). -/
def dropOp (op : PendOp) (s : State) : State :=
  match op with
  | .reg a _ => s.setReg a (s.liveReg a)
  | _ => s

/-- The traces of a rollback on one member destination (R267, R270). A destination that another set still holds shows that set's state (R205, R282). -/
def rollArm (owner : Nat) (st : Status) (a : Arm) (s : State) : State :=
  if a.switched then s
  else
    raiseDest a.dest 1
      (((setResult a.dest st (setDestState a.dest (((s.setOfDest a.dest).map (fun c => phaseCode c.phase)).getD stIdle) (releaseReserve owner a.reserve s))).setF
          (Reg.splSpliceStatus (destWin a.dest)) 7 4 0).bump (Reg.splRollbackCnt (destWin a.dest)) 1)

/-- End a set by rolling it back, with its reason (R256, R265 to R270): events, then completions naming `obj`. -/
def rollback (c : ChangeSet) (reason : Nat) (st : Status) (obj : Nat) (s : State) : State :=
  let s := dropReqs c.id (setSets (s.spl.sets.filter (fun x => decide (x.id ≠ c.id))) s)
  let s := c.arms.foldl (fun s a => rollArm c.owner st a s) s
  let s := c.ops.foldl (fun s op => dropOp op s) s
  let s := c.engines.foldl (fun s e => if c.switchedEngines.contains e then s else passEngine e (reloadShadow e s)) s
  let s := refreshGroup c.owner c.group s
  let s := s.setReg (Reg.tenLastRb c.owner) (wd (reason + 0x100 * statusCode st + 0x10000 * c.leader))
  let s := s.bump (Reg.tenRbReason c.owner (reason - 1)) 1
  completeAll c.origins (statusCode st) obj s

/-- Roll a set back with the status of its reason (R265). -/
def rollbackFor (c : ChangeSet) (reason obj : Nat) (s : State) : State := rollback c reason (rbStatus reason) obj s

/-- End every undecided set that a condition holds of (R263). -/
def endSets (p : ChangeSet → Bool) (reason : Nat) (obj : ChangeSet → Nat) (s : State) : State :=
  (s.spl.sets.filter (fun c => p c && decide (c.phase ≠ .decided))).foldl (fun s c =>
    if (s.findSet c.id).isSome then rollbackFor c reason (obj c) s else s) s

/-- The object code of a set's leader. -/
def leaderObj (c : ChangeSet) : Nat :=
  if c.leader = 0xFFFE then (c.engines.head?).getD 0 else objDest c.leader

/-! Bindings -/

/-- Count the egress ports hitched to an ingress port (R246). -/
def refreshFanout (ei : Nat) (s : State) : State :=
  s.setF (Reg.splEiStatus ei) 14 4 (s.fedBy false ei).length

/-- Bind or release one destination in SPL_SRC (R241). -/
def setSrc (d : Nat) (src : Option Nat) (s : State) : State :=
  let old := s.hitch d
  let a := Reg.splSrc (destWin d)
  let s :=
    match src with
    | some n => (((s.setF a 10 0 n).setBit a 11 true).setBit a 12 (s.srcPresent d n))
    | none => (((s.setF a 10 0 0).setBit a 11 false).setBit a 12 false).setBit a 13 false
  if destIsStrand d then s
  else
    let s := match old with | some n => refreshFanout n s | none => s
    match src with | some n => refreshFanout n s | none => s

/-- The strands a strand destination stands for: the members of the braid it leads (R105). -/
def State.braid (s : State) (n : Nat) : List Nat := if s.proto n = 3 then [n] else s.members n

/-- End a promotion of an egress strand and release what it holds (R216, R217). -/
def endPromotion (n : Nat) (s : State) : State :=
  match tabGet n s.spl.promos with
  | none => s
  | some p =>
    let t := (s.owner (objDest (destStrand n))).getD 0
    let s := { s with spl := { s.spl with promos := tabDel n s.spl.promos } }
    (s.braid n).foldl (fun s k => s.setBit (Reg.splSrc (destWin (destStrand k))) 14 false) (releaseReserve t (some (p.tg, p.bytes)) (setCharge (objStrand n) 0 s))

/-- Bind a destination to a source, or release it; a braid's members are bound together (R105). -/
def bindDest (d : Nat) (src : Option Nat) (s : State) : State :=
  if destIsStrand d then
    let n := destNumber d
    let ks := s.braid n
    let s := endPromotion n { s with strand := { s.strand with restores := s.strand.restores.filter (fun k => decide (k ∉ ks)) } }
    let s := ks.foldl (fun s k => setSrc (destStrand k) (src.map (fun x => x + (k - n))) s) s
    let s := match src with
      | none => { s with strand := { s.strand with tautFormat := tabDel n s.strand.tautFormat } }
      | some x =>
        match tabGet x s.wire.formats with
        | some f => { s with strand := { s.strand with tautFormat := tabSet n f s.strand.tautFormat } }
        | none => { s with strand := { s.strand with tautFormat := tabDel n s.strand.tautFormat } }
    txRefreshAll ks s
  else setSrc d src s

/-! Presence and loss -/

/-- LOSS is HOLD and effective with a limit, and the hold buffer has a complete frame (R232, R245, R651). -/
def State.holds (s : State) (eo : Nat) : Bool :=
  tabGetD false eo s.spl.lossEff && decide (s.f (Reg.splDestCfg (destWin eo)) 15 8 ≠ 0) && tabGetD false eo s.spl.complete

/-- Replace the outputs on hold or fill. -/
def setLosses (t : Tab Loss) (s : State) : State := { s with spl := { s.spl with losses := t } }

/-- Replace the effective LOSS settings. -/
def setLossEff (t : Tab Bool) (s : State) : State := { s with spl := { s.spl with lossEff := t } }

/-- An encoder EO starts its hold or fill for want of content (R232, R235): `count` for SOURCE_LOST with its count. -/
def startLoss (eo : Nat) (why : LossWhy) (lost hold : Bool) (s : State) : State :=
  let w := destWin eo
  let s := if lost then raiseDest eo 4 (s.bump (Reg.splLossCnt w) 1) else s
  let h := hold && s.holds eo
  let s := setLosses (tabSet eo ⟨why, h, if h then some (s.f (Reg.splDestCfg w) 15 8) else none⟩ s.spl.losses) s
  let s := s.setBit (Reg.splSrc w) 15 true
  if h || decide (why = .noHitch) then s else raiseDest eo 7 s

/-- An encoder EO shows its source again. -/
def endLoss (eo : Nat) (s : State) : State :=
  (setLosses (tabDel eo s.spl.losses) s).setBit (Reg.splSrc (destWin eo)) 15 false

/-- SHOWING of a layer (R394): 0 source, 1 held, 2 hidden, 3 fill. -/
def showing (s : State) (cp l : Nat) : Nat :=
  let v := s.liveView
  match lPolicy v cp l with
  | 0 =>
    if lKind v cp l = 2 then 1
    else if decide (lKind v cp l = 1) && !s.layerKeeps cp l then 3
    else if fld (lCtl v cp l) 23 16 = 0 then 3
    else if decide (fld (lCtl v cp l) 23 16 ≤ (s.layerSt (layerNo cp l)).held) then 3 else 1
  | 1 => if s.bit (Reg.cmpLStatus cp l) 6 then 3 else 2
  | _ => 3

/-- A layer is not ready in an output frame (R379 to R382): the frame counts as late, LATE marks the first, FILLED marks the fill. -/
def layerLate (cp l : Nat) (s : State) : State :=
  let a := Reg.cmpLStatus cp l
  let first := s.bit a 0
  let sh := showing s cp l
  let was := s.f a 2 1
  let s := (s.bump (Reg.cmpLLateCnt cp l) 1).setBit a 0 false
  let s := if first then raiseLayer cp l 0 s else s
  let s := s.setF a 2 1 sh
  if sh = 3 ∧ was ≠ 3 then raiseLayer cp l 7 s else s

/-- A LIVE layer's source is lost: SOURCE_LOST on the layer and on its EO window (R382). -/
def layerLost (cp l eo : Nat) (absent : Bool) (s : State) : State :=
  let st := s.layerSt (layerNo cp l)
  let s := setLayerSt (layerNo cp l) { st with lost := st.lost || absent } s
  let s := if absent then raiseDest eo 4 (raiseLayer cp l 5 s) else raiseDest eo 6 s
  layerLate cp l s

/-- FILLING of a sheet bend, of a gang of every member (R303, R332). -/
def setFilling (n : Nat) (b : Bool) (s : State) : State := (s.gangOf n).foldl (fun s k => s.setBit (Reg.sbdStatus k) 2 b) s

/-- A SYNC engine, a sheet bend or the leader of a gang, starts its hold or fill (R303, R332); `lost` raises SOURCE_LOST. -/
def sheetLoss (n : Nat) (lost : Bool) (s : State) : State :=
  let st := s.sheetSt n
  let s := setSheetSt n { st with lost := st.lost || lost, held := 0, stalled := true } s
  let s := if lost then raiseSb n 5 s else s
  let hold := bitOf (s.liveReg (Reg.sbdCfg n)) 14 && decide (fld (s.liveReg (Reg.sbdCfg n)) 31 24 ≠ 0)
  if hold then s else raiseSb n 7 (setFilling n true s)

/-- The EI ports a sheet bend's own shape carries (R331). -/
def State.sbOutputs (s : State) (n : Nat) : List Nat :=
  match s.sbShape s.liveReg n with
  | none => [s.sbEi n]
  | some k => if k = 1 then [s.sbEi (n / 4 * 4)] else (List.range 4).map (fun q => s.sbEi (n / 4 * 4 + q))

/-- An essence becomes absent on a port: consumers act by their own rules, sets on it end, PASS sheet bends pass the absence on
(R232, R263, R303, R304, R379, R463). -/
def loseEi : Nat → Nat → State → State
  | 0, _, s => s
  | k + 1, ei, s =>
    if !s.eiPresent ei then s
    else
      let s := s.setBit (Reg.splEiStatus ei) 0 false
      let s := endSets (fun c => c.arms.any (fun a =>
        !a.switched && !destIsStrand a.dest && decide (a.source = some ei) && !a.allowAbsent)) rbAbsent (fun _ => objEi ei) s
      (s.fedBy false ei).foldl (fun s eo =>
        let s := (s.setBit (Reg.splSrc (destWin eo)) 12 false).setBit (Reg.splSrc (destWin eo)) 13 false
        match s.consumer eo with
        | none => s
        | some c =>
          if isEncoder c then (if s.destRuns eo then startLoss eo .absent true true s else s)
          else
            match c with
            | .sbIn n =>
              let runs := s.sbRuns n
              let was := s.sbFed n
              let s := s.setBit (Reg.sbdStatus n) 0 false
              if !was || s.sbFed n then s
              else if fld (s.liveReg (Reg.sbdCfg n)) 0 0 = 1 then (if runs then sheetLoss (s.sbLead n) true s else s)
              else (s.sbOutputs n).foldl (fun s e => loseEi k e s) s
            | .layer cp l =>
              if s.cpRuns cp && lOn s.liveView cp l && decide (lKind s.liveView cp l = 1) then layerLost cp l eo true s else s
            | .recorder r =>
              let s := s.setBit (Reg.fstRecStatus r) 1 false
              if s.bit (Reg.fstRecStatus r) 0 then raiseRec r 0 (setRecSt r { s.recSt r with lost := true } s) else s
            | _ => s) s

/-- An engine's input has become unfit (R311): a sheet bend, or the leader of a gang, treats it as absent under R303 or R304. -/
def sheetUnfit (n : Nat) (st : Status) (s : State) : State :=
  let a := Reg.sbdStatus n
  let s := (s.gangOf n).foldl (fun s k => s.setBit (Reg.sbdStatus k) 3 true) s
  let s := raiseSb n 1 (s.setF a 23 16 (statusCode st))
  if sbTiming s.liveView n = 1 then sheetLoss n false s
  else (s.sbOutputs n).foldl (fun s e => loseEi 16 e s) s

/-- V_TAPS_EFF of a sheet bend, with TAPS_REDUCED where taps are left out (R321). -/
def showTaps (n : Nat) (s : State) : State :=
  match s.inFormat s.liveView (s.sbSource s.liveReg n) with
  | none => s
  | some f =>
    let taps := (s.sbTaps s.liveView n f).getD 6
    let s := s.setF (Reg.sbdStatus n) 5 4 (if taps = 6 then 0 else if taps = 4 then 1 else 2)
    if taps = 6 then s else raiseSb n 0 s

/-- What a format on a consumer's input changes: charges are recomputed (R455), fits judged again (R311, R355), STEP_EFF shown. -/
def refit (eo : Nat) (s : State) : State :=
  match s.consumer eo with
  | none => s
  | some c =>
    let v := s.liveView
    match c with
    | .sbIn m =>
      match s.inFormat v (s.sbSource v.rd m) with
      | none => s
      | some f =>
        let st := s.sbSteps v m f
        let s := (s.setReg (Reg.sbdStepEffH m) (wd st.1)).setReg (Reg.sbdStepEffV m) (wd st.2)
        if !s.sbRuns m then s
        else
          let n := s.sbLead m
          match s.sbEngineUnfit v n with
          | some r => sheetUnfit n (rbStatus r) s
          | none =>
            let s := showTaps m s
            let q := recharge (objSb n) (s.sbCharge v n) s
            let s := q.1
            let s := s.setReg (Reg.sbdBw n) (wd (s.charge (objSb n) / 1000))
            if q.2 then (s.gangOf n).foldl (fun s k => s.setBit (Reg.sbdStatus k) 3 false) s else sheetUnfit n .bwBudget s
    | .layer cp l =>
      if !s.cpRuns cp then s
      else
        let a := Reg.cmpLStatus cp l
        match s.layerUnfit v cp l with
        | some r => raiseLayer cp l 8 ((s.setBit a 8 true).setF a 23 16 (statusCode (rbStatus r)))
        | none =>
          let s := s.setBit a 8 false
          let q := recharge (objCp cp) (s.cpCharge v cp) s
          let held := keepLayers v cp q.2 q.1
          let s := held.1
          let ok := q.2 && held.2
          let s := s.setReg (Reg.cmpBw cp) (wd (s.charge (objCp cp) / 1000))
          if ok then s else s.setF a 23 16 (statusCode .bwBudget)
    | .recorder r =>
      let s := match s.inFormat v eo with
        | some f => setRecSt r { s.recSt r with fmt := some f } s
        | none => s
      let q := recharge (objRec r) (s.recCharge v r) s
      let s := q.1
      let ok := q.2
      (s.setReg (Reg.fstRecBw r) (wd (s.charge (objRec r) / 1000))).setBit (Reg.fstRecStatus r) 2 (!ok)
    | _ =>
      if isEncoder c then
        let q := rechargeHold v eo s
        let s := q.1
        let ok := q.2
        if ok then s
        else
          setResult eo .bwBudget (setLossEff (tabPut false eo false s.spl.lossEff) (s.setBit (Reg.splDestCfg (destWin eo)) 0 false))
      else s

/-- An essence becomes present on a port of a zone that is not STOPPED, or its format changes there: consumers see it; encoders, layers and sheet bends resume at their own points. -/
def gainEi : Nat → Nat → State → State
  | 0, _, s => s
  | k + 1, ei, s =>
    if s.stopped (ei / 64) then s
    else
    let s := s.setBit (Reg.splEiStatus ei) 0 true
    (s.fedBy false ei).foldl (fun s eo =>
      let s := refit eo (s.setBit (Reg.splSrc (destWin eo)) 12 true)
      match s.consumer eo with
      | some (.sbIn n) =>
        let s := s.setBit (Reg.sbdStatus n) 0 true
        if fld (s.liveReg (Reg.sbdCfg n)) 0 0 = 0 && s.sbFed n && !s.bit (Reg.sbdStatus n) 3 then
          (s.sbOutputs n).foldl (fun s e => gainEi k e s) s
        else s
      | some (.recorder r) =>
        let s := s.setBit (Reg.fstRecStatus r) 1 true
        let st := s.recSt r
        if st.lost && s.bit (Reg.fstRecStatus r) 0 then raiseRec r 1 (setRecSt r { st with lost := false } s) else s
      | _ => s) s

/-- Set the presence of an essence on an ingress port (R246). -/
def setPresent (ei : Nat) (p : Bool) (s : State) : State :=
  if p then (if s.eiPresent ei || s.stopped (ei / 64) then s else gainEi 16 ei s) else loseEi 16 ei s

/-- Whether an engine's output essence is present: a compositor's while its generator runs a progressive raster, a SYNC sheet bend's while its
generator runs, a PASS sheet bend's while its input is present and fit, none on a port that the shape of a gang leaves out (R331), a player's while it can read (R294 to R304, R341, R342, R467, R468). -/
def State.enginePresent (s : State) (p : Producer) : Option Bool :=
  match p with
  | .cpOut n =>
    let tg := cpGen s.liveView n
    some (s.genRuns tg && decide ((genTiming s.liveReg tg).scan = 0))
  | .sbOut n =>
    if !(s.sbOutputs n).contains (s.sbEi n) then some false
    else if fld (s.liveReg (Reg.sbdCfg n)) 0 0 = 1 then some (s.genRuns (fld (s.liveReg (Reg.sbdTg n)) 7 0))
    else some ((s.sbInputs n).all (fun k => s.eoPresent (s.sbEo k)) && !s.bit (Reg.sbdStatus n) 3)
  | .player p => some (s.bit (Reg.fstPlyStatus p) 0)
  | _ => none

/-- Bring one engine's status, charge and output into line with what runs. -/
def refreshEngine (ei : Nat) (p : Producer) (s : State) : State :=
  let s :=
    match p with
    | .cpOut n =>
      let runs := s.cpRuns n
      let s := s.setBit (Reg.cmpStatus n) 0 runs
      let q := recharge (objCp n) (if runs then s.cpCharge s.liveView n else 0) s
      let s := if runs then (keepLayers s.liveView n q.2 q.1).1 else (List.range (s.cpLayers n)).foldl (fun s l => keepLayer n l 0 s) q.1
      s.setReg (Reg.cmpBw n) (wd (s.charge (objCp n) / 1000))
    | .sbOut n =>
      let runs := s.sbRuns n
      let s := (recharge (objSb n) (if runs then s.sbCharge s.liveView n else 0) s).1
      let a := Reg.sbdStatus n
      let sync := decide (fld (s.liveReg (Reg.sbdCfg n)) 0 0 = 1)
      let s := (s.setF a 9 8 (if sync then fld (s.liveReg (Reg.sbdCfg n)) 2 1 else 0)).setF a 11 10
        (if sync then fld (s.liveReg (Reg.sbdCfg n)) 4 3 else 0)
      (s.setBit a 0 (s.eoPresent (s.sbEo n))).setReg (Reg.sbdBw n) (wd (s.charge (objSb n) / 1000))
    | .player n =>
      let s := (recharge (objPly n) (s.plyCharge s.liveView n) s).1
      s.setReg (Reg.fstPlyBw n) (wd (s.charge (objPly n) / 1000))
    | _ => s
  match s.enginePresent p with
  | none => s
  | some b =>
    let s := match p with | .sbOut n => s.setBit (Reg.sbdStatus n) 1 b | _ => s
    setPresent ei b s

/-- Bring every engine into line after a change of hitches, pacing or contexts. -/
def enginesRefresh (s : State) : State :=
  wakeUsed (s.spl.eiBind.foldl (fun s e => refreshEngine e.1 e.2 s) s)

/-! Acceptance -/

/-- Take engines into a set: in state `st` by it when free; STAGED values and their commands join it; else it waits (R253, R254). -/
def holdEnginesAs (st id : Nat) (es : List Nat) (s : State) : State :=
  es.foldl (fun s e =>
    match s.findSet id with
    | none => s
    | some c =>
      if c.engines.contains e then s
      else
        match s.spl.sets.find? (fun x => decide (x.kind = .staged ∧ x.id ≠ id) && x.engines.contains e && decide (x.phase = .armed)) with
        | some old =>
          let s := setSets (s.spl.sets.filter (fun x => decide (x.id ≠ old.id))) s
          let s := updSet id (fun c => { c with engines := (c.engines ++ old.engines).eraseDups, origins := c.origins ++ old.origins, ops := old.ops ++ c.ops }) s
          old.engines.foldl (fun s k => holdCtx k st c.leader s) s
        | none =>
          let free := (s.holderOf e).isNone
          let s := updSet id (fun c => { c with engines := c.engines ++ [e] }) s
          if free then holdCtx e st c.leader s else s) s

/-- Take engines into a splice, group or batch. -/
def holdEngines (id : Nat) (es : List Nat) (s : State) : State := holdEnginesAs 2 id es s

/-- The engines of an arm's branch: its consumer's engine, and those its source brings into running (R249). -/
def State.armEngines (s : State) (a : Arm) : List Nat :=
  if destIsStrand a.dest then []
  else
    let own := match s.consumer a.dest with
      | some c => (consumerEngine c).toList
      | none => []
    (own.map s.engLead ++ (match a.source with | some ei => s.starts ei | none => [])).eraseDups

/-- Open a set. -/
def openSet (kind : SetKind) (owner group leader mode time : Nat) (s : State) : State × Nat :=
  let id := s.spl.nextSet
  let c : ChangeSet :=
    { id := id, kind := kind, owner := owner, group := group, leader := leader, mode := mode, time := time, taken := false
      phase := .armed, arms := [], engines := [], ops := [], origins := [], accepted := s.now, deferrals := 0, reserved := []
      entered := false, checked := false, point := 0, late := false, held := [], switchedEngines := [] }
  ({ s with spl := { s.spl with sets := s.spl.sets ++ [c], nextSet := id + 1 } }, id)

/-- The class of a taut splice by protocols (R207); none where no taut route joins them. -/
def tautClass (eg src : Nat) : Option SpliceClass :=
  if eg = 1 ∧ src = 1 then some .sdiFrame
  else if eg = 0 ∧ src = 1 then some .sdiFrame
  else if eg = 2 ∧ src = 2 then some .ethBlock
  else if eg = 0 ∧ (src = 0 ∨ src = 2) then some .rawCut
  else none

/-- The class of an arm (R207): essence for KIND 0; a release of a strand is an SDI_FRAME or cut by what it carries. -/
def State.armClass (s : State) (d : Nat) (src : Option Nat) : SpliceClass :=
  if !destIsStrand d then .essence
  else
    match (match src with | some x => some x | none => s.hitch d) with
    | some x => (tautClass (s.proto (destNumber d)) (s.proto x)).getD .rawCut
    | none => .rawCut

/-- Take an arm's promotion reserve (R212): the generator serves as a reserve and the bytes are taken. -/
def takeReserve (t : Nat) (r : Option (Nat × Nat)) (s : State) : State :=
  match r with
  | none => s
  | some (tg, b) => takeDev t b (s.setBit (Reg.scnStatus tg) 14 true)

/-- An arm of this destination and source takes a promotion reserve (R212). -/
def State.wantsReserve (s : State) (d : Nat) (src : Option Nat) (noPromote : Bool) : Bool :=
  match src with
  | none => false
  | some _ =>
    destIsStrand d && decide (s.armClass d src = .sdiFrame) && decide (s.proto (destNumber d) = 1) && !noPromote &&
    s.bit Reg.splStatus 0

/-- The reserve an arm takes: generator and buffer bytes (R212). -/
def State.armReserve (s : State) (t d : Nat) (src : Option Nat) (noPromote : Bool) : Option (Nat × Nat) :=
  match src with
  | some x => if s.wantsReserve d src noPromote then s.reserveFor (destNumber d) x t else none
  | none => none

/-- Put an arm into a set: its reserve is taken, its engines are held, and its destination is ARMED (R199, R212, R253). A pending arm of the same
destination in the set gives way. A set that was DEFERRED is checked again at its next entry, for its new member (DEDUCED, R202, R258). -/
def joinArm (id t d : Nat) (o : Option Origin) (src : Option Nat) (absent noPromote : Bool) (s : State) : State :=
  let s := match (s.findSet id).bind (fun c => c.arms.find? (fun a => decide (a.dest = d))) with
    | some old => updSet id (fun c => { c with arms := c.arms.filter (fun a => decide (a.dest ≠ d)) }) (releaseReserve t old.reserve s)
    | none => s
  let r := s.armReserve t d src noPromote
  let f := if destIsStrand d then src.bind (fun x => s.promoFormat (destNumber d) x) else none
  let a : Arm := ⟨d, src, absent, noPromote, s.armClass d src, r, false, 0, o, false, s.now, f⟩
  let s := takeReserve t r s
  let s := updSet id (fun c => { c with arms := c.arms ++ [a], origins := c.origins ++ o.toList, checked := false }) s
  let s := updSet id (fun c => if c.arms.length = 1 then { c with leader := d } else c) s
  let s := holdEngines id (s.armEngines a) s
  (setDestState d stArmed s).setBit (Reg.splSpliceStatus (destWin d)) 3 false

/-- A group's pending arm gives way to a new arm of the same group (R206): it alone ends, with its traces and its completion. -/
def endArm (c : ChangeSet) (d : Nat) (s : State) : State :=
  match c.arms.find? (fun a => decide (a.dest = d)) with
  | none => s
  | some a =>
    let s := updSet c.id (fun x => { x with
      arms := x.arms.filter (fun y => decide (y.dest ≠ d)), origins := x.origins.filter (fun y => decide (some y ≠ a.origin)) })
      (rollArm c.owner .aborted a s)
    completeAll a.origin.toList (statusCode .aborted) (objDest d) s

/-- Accept an arm that passed its checks (R203, R206, R227): a pending arm it replaces ends, alone within its own group and with its set otherwise (R263),
and the new arm opens or joins its set. -/
def acceptArm (o : Option Origin) (t d : Nat) (src : Option Nat) (mode group time : Nat) (absent noPromote : Bool) (s : State) : State :=
  let s := match s.setOfDest d with
    | some c => if group ≠ 0 ∧ c.owner = t ∧ c.group = group then endArm c d s else rollbackFor c rbReplaced (leaderObj c) s
    | none => s
  let si := match s.setOfGroup t group with
    | some c => (s, c.id)
    | none => openSet (if group = 0 then .splice else .group) t group d mode time s
  refreshGroup t group (joinArm si.2 t d o src absent noPromote si.1)

/-! Commit -/

/-- An encoder's EO after its hitch changed at a switch or at once (R232, R236): content, or fill. -/
def afterBind (d : Nat) (s : State) : State :=
  if destIsStrand d then s
  else
    match s.consumer d with
    | none => s
    | some c =>
      let s := refit d s
      if isEncoder c then
        if !s.destRuns d then endLoss d s
        else
          match s.hitch d with
          | none => startLoss d .noHitch false false (endLoss d s)
          | some ei => if s.eiPresent ei then endLoss d s else startLoss d .absent true false (endLoss d s)
      else
        match c with
        | .recorder r =>
          let s := s.setBit (Reg.fstRecStatus r) 1 (s.eoPresent d)
          if (s.hitch d).isNone then setRecSt r { s.recSt r with writing := none, skipped := false } s else s
        | .sbIn n => s.setBit (Reg.sbdStatus n) 0 (s.eoPresent d)
        | _ => s

/-- Bind at once what does not run, or in a set that runs nothing (R201). -/
def bindNow (d : Nat) (src : Option Nat) (s : State) : State :=
  enginesRefresh (afterBind d (bindDest d src s))

end Sys2Proof.Machine
end

