-- ==== Sys2Proof/Machine/Hooks.lean ====
section
/-! DEFINITION. Fids as the rest of the part sees them: local memory, events of the system thread (R589), and the queueing, start and end of
hook runs (R594 to R604). -/

namespace Sys2Proof.Machine

open Sys2Proof

/-- A thread at rest. -/
def threadInit : Thread := ⟨0, [], [], 0xFFFE⟩

/-- A fid that holds nothing. -/
def fidInitial : Fid := ⟨threadInit, threadInit, none, [], 0, none, 0, 0, 0, none⟩

def State.fidOf (s : State) (f : Nat) : Fid := tabGetD fidInitial f s.fid.fids
def setFid (f : Nat) (v : Fid) (s : State) : State := { s with fid := { s.fid with fids := tabSet f v s.fid.fids } }

/-- The word at a local address of a fid (R580). -/
def State.fidWord (s : State) (f a : Nat) : Nat := tabGetD 0 (0x10000 * f + a) s.fid.mem

/-- Write a word of local memory. -/
def setFidWord (f a v : Nat) (s : State) : State :=
  { s with fid := { s.fid with mem := tabPut 0 (0x10000 * f + a) (v % 0x100000000) s.fid.mem } }

/-- Write words from an address up. -/
def setFidWords (f a : Nat) (ws : List Nat) (s : State) : State :=
  ((List.range ws.length).zip ws).foldl (fun s p => setFidWord f (a + 4 * p.1) p.2 s) s

/-- Zero the words of [lo, hi). -/
def zeroFidWords (f lo hi : Nat) (s : State) : State :=
  { s with fid := { s.fid with mem := tabKeep (fun k _ => decide (k < 0x10000 * f + lo ∨ 0x10000 * f + hi ≤ k)) s.fid.mem } }

/-- STATE of a fid (R607): 0 STOPPED, 1 RUNNING, 2 WAITING, 3 FAULT. -/
def State.fidState (s : State) (f : Nat) : Nat := s.f (Reg.fidStatus f) 1 0

/-- The window number of a hook-capable fid (R607): h is 0 to 31 for FP, 32 to 39 for FA. -/
def hookNo (f : Nat) : Nat := f - 1

/-- The fid takes hooks (R577). -/
def takesHooks (f : Nat) : Bool := decide (1 ≤ f ∧ f ≤ 40)

/-- The FP fid that serves an egress port, and the FA fid that serves an AMO (R38, R577). -/
def fpOf (eo : Nat) : Nat := 1 + eo / 32
def faOf (amo : Nat) : Nat := 33 + amo / 1024

/-- Raise an event input of a fid's system thread (R589): a waiting thread whose mask meets it takes it and runs on. -/
def fidEvent (f bit : Nat) (s : State) : State :=
  let d := s.fidOf f
  let ev := d.events ||| 2 ^ bit
  match d.wait with
  | none => setFid f { d with events := ev } s
  | some (r, mask) =>
    if ev &&& mask = 0 then setFid f { d with events := ev } s
    else
      let regs := if r = 0 then d.sys.regs else tabPut 0 r (ev &&& mask) d.sys.regs
      (setFid f { d with events := ev &&& (0xFFFFFFFF ^^^ mask), wait := none, sys := { d.sys with regs := regs } } s).setF (Reg.fidStatus f) 1 0 1

/-- FS gets a command, or a fid gets work from FS: MAILBOX (R37, R38, R589). -/
def mailbox (f : Nat) (s : State) : State := fidEvent f 0 s

/-- Raise an event input of the FP fids that serve a set's destinations. -/
def fidEventSet (c : ChangeSet) (bit : Nat) (s : State) : State :=
  (((c.arms.filter (fun a => !destIsStrand a.dest)).map (fun a => fpOf a.dest)).eraseDups).foldl (fun s f => fidEvent f bit s) s

/-- The tenancy is ADRIFT under FREEZE or FILL (R603, R649, R651). -/
def State.hooksBarred (s : State) (t : Nat) : Bool :=
  decide (s.f (Reg.tenStatus t) 1 0 = 2) && decide (s.f (Reg.tenStatus t) 3 2 = 1 ∨ s.f (Reg.tenStatus t) 3 2 = 2)

/-- The tenancy that owns an object is ADRIFT under FREEZE or FILL (R651). -/
def State.cutLoose (s : State) (c : Nat) : Bool :=
  match s.owner c with
  | some t => s.hooksBarred t
  | none => false

/-- The owner of an object is ADRIFT under one policy: 1 FREEZE, 2 FILL. -/
def State.cutUnder (s : State) (p c : Nat) : Bool :=
  match s.owner c with
  | some t => s.hooksBarred t && decide (s.f (Reg.tenStatus t) 3 2 = p)
  | none => false

/-- The bits of FID_HOOK_MASK that a tenancy may set and reads (R607): its own EO ports of an FP fid. -/
def State.hookMaskOf (s : State) (f t : Nat) : Nat :=
  if fidKind f ≠ 1 then 0
  else (List.range 32).foldl (fun m i => if s.owner (objDest (32 * (f - 1) + i)) = some t then m + 2 ^ i else m) 0

/-- The ENTRY words a SPLICE run sees: its fid's selected, owned destinations of the set, in ascending order (R581). -/
def State.hookEntries (s : State) (f t : Nat) (c : ChangeSet) : List Nat :=
  ((List.range 32).map (fun i => 32 * (f - 1) + i)).filterMap (fun eo =>
    if s.bit (Reg.fidHookMask (hookNo f) t) (eo % 32) && decide (s.owner (objDest eo) = some t) then
      (c.arms.find? (fun a => decide (a.dest = eo))).map (fun a =>
        eo + 0x10000 * (a.source.getD 0) + (if a.source.isNone then 0x40000000 else 0) + 0x80000000)
    else none)

/-- Local address of a tenancy's hook area (R580). -/
def hookArea (t : Nat) : Nat := 0xC000 + 0x1000 * t

/-- FID_STATUS of the hook thread: HOOK_RUNNING and SPLICE runs queued (R607). -/
def refreshHookStatus (f : Nat) (s : State) : State :=
  let d := s.fidOf f
  (s.setBit (Reg.fidStatus f) 4 d.run.isSome).setF (Reg.fidStatus f) 15 8
    (min 255 (d.queue.filter (fun r => decide (r.kind = 0))).length)

/-- Start a run: the argument block is written, the thread enters at its entry with g1 at the block (R581, R594, R604). -/
def startRun (f : Nat) (r : HookRun) (s : State) : State :=
  let t := r.tenancy
  let c := r.set.bind s.findSet
  let es := match c with | some c => s.hookEntries f t c | none => []
  let late := if r.cause + 20000 < s.now then 2 else 0
  let s := setFidWords f (hookArea t + 0x800)
    ([r.kind, (c.map (fun c => c.leader)).getD 0, min 64 es.length,
      (if 64 < es.length then 1 else 0) + late + 0x10000 * (r.skipped % 0x10000)] ++ es.take 64) s
  let d := s.fidOf f
  let s := setFid f { d with
      run := some { r with start := s.now }
      hook := ⟨hookArea t + 4 * r.kind, [(1, hookArea t + 0x800)], [], (c.map (fun c => c.leader)).getD 0xFFFE⟩ } s
  refreshHookStatus f ((s.setF (Reg.fidHookStatus (hookNo f) t) 1 0 2).setF (Reg.fidHookStatus (hookNo f) t) 2 2 r.kind)

/-- The order of runs (R602): SPLICE runs first in order of acceptance, then TICK runs in tenancy order. -/
def runRank (r : HookRun) : Nat := if r.kind = 0 then r.set.getD 0 else 0x100000000000 + r.tenancy

/-- Put a run into the queue in its order. -/
def insertRun (r : HookRun) : List HookRun → List HookRun
  | [] => [r]
  | x :: l => if runRank r < runRank x then r :: x :: l else x :: insertRun r l

/-- Start the next queued run when none runs. -/
def nextRun (f : Nat) (s : State) : State :=
  let d := s.fidOf f
  match d.run, d.queue with
  | none, r :: l => startRun f r (setFid f { d with queue := l } s)
  | _, _ => refreshHookStatus f s

/-- Queue a run. -/
def queueRun (f : Nat) (r : HookRun) (s : State) : State :=
  let d := s.fidOf f
  nextRun f ((setFid f { d with queue := insertRun r d.queue } s).setF (Reg.fidHookStatus (hookNo f) r.tenancy) 1 0 1)

/-- The SPLICE runs a set causes: fid and tenancy (R595, R603). -/
def State.spliceRuns (s : State) (c : ChangeSet) : List (Nat × Nat) :=
  let fs := ((c.arms.filter (fun a => !destIsStrand a.dest)).map (fun a => fpOf a.dest)).eraseDups
  fs.foldr (fun f acc => ((List.range 4).filter (fun t =>
    s.bit (Reg.fidHookCtrl (hookNo f) t) 0 && !(s.hookEntries f t c).isEmpty && !s.hooksBarred t)).map (fun t => (f, t)) ++ acc) []

/-- Queue the SPLICE runs of a set (R595). -/
def queueSplice (c : ChangeSet) (s : State) : State :=
  (s.spliceRuns c).foldl (fun s p => queueRun p.1 ⟨p.2, 0, some c.id, s.now, 0, 0, 0⟩ s) s

/-- A hook run of a set is queued or runs. -/
def State.hooksOf (s : State) (id : Nat) : Bool :=
  s.fid.fids.any (fun e => (e.2.run.map (fun r => decide (r.set = some id))).getD false ||
    e.2.queue.any (fun r => decide (r.set = some id)))

/-- FID_HOOK_CTRL and FID_HOOK_MASK take a written value (R607, R608): a change of TICK_PERIOD restarts the tick count. -/
def applyHookRegs (f t ctrl mask : Nat) (s : State) : State :=
  let a := Reg.fidHookCtrl (hookNo f) t
  let s := if s.f a 13 4 = ctrl / 16 % 1024 then s else { s with fid := { s.fid with ticks := tabPut 0 (4 * f + t) 0 s.fid.ticks } }
  (((s.setF a 0 0 ctrl).setF a 13 4 (ctrl / 16))).setReg (Reg.fidHookMask (hookNo f) t) (wd mask)

/-- A tenancy's hook on a fid is queued or runs. -/
def State.hookActive (s : State) (f t : Nat) : Bool :=
  let d := s.fidOf f
  ((d.run.map (fun r => decide (r.tenancy = t))).getD false) || d.queue.any (fun r => decide (r.tenancy = t))

/-- What was written to a hook's registers during a run takes effect when the run ends (R608). -/
def releaseHookRegs (f t : Nat) (s : State) : State :=
  match tabGet (4 * f + t) s.fid.held with
  | none => s
  | some p =>
    if s.hookActive f t then s
    else applyHookRegs f t p.1 p.2 { s with fid := { s.fid with held := tabDel (4 * f + t) s.fid.held } }

/-- End the run of a fid: counters and status (R599, R601, R607), then the next run starts. -/
def endRun (f : Nat) (st : Status) (s : State) : State :=
  let d := s.fidOf f
  match d.run with
  | none => s
  | some r =>
    let h := hookNo f
    let a := Reg.fidHookStatus h r.tenancy
    let s := (s.setF a 15 8 (statusCode st)).setF a 1 0 (if d.queue.any (fun x => decide (x.tenancy = r.tenancy)) then 1 else 0)
    let s := s.bump (Reg.fidHookRunCnt h r.tenancy) 1
    let ns := s.now - r.start
    let m := Reg.fidHookMaxNs h r.tenancy
    let s := if (s.reg m).toNat < ns then s.setReg m (wd (min ns 0xFFFFFFFF)) else s
    let s := setFid f { s.fidOf f with run := none, hook := threadInit } s
    releaseHookRegs f r.tenancy (fidEvent f 6 (nextRun f s))

/-- Raise a hook event (R601, R607): held with its set for a SPLICE run, posted at once otherwise. -/
def raiseHook (f : Nat) (r : HookRun) (b : Nat) (s : State) : State :=
  let h := hookNo f
  match r.set with
  | some id => updSet id (fun c => { c with held := c.held ++ [.hook h r.tenancy b] }) s
  | none => raiseEn (some r.tenancy) (objFid f) (Reg.fidHookEvent h r.tenancy) (Reg.fidHookEventEn h r.tenancy) b s

/-- Abort the runs of a set that has ended (R600): queued ones go, a running one ends with ABORTED and raises nothing. -/
def abortHooks (id : Nat) (s : State) : State :=
  s.fid.fids.foldl (fun s e =>
    let d := s.fidOf e.1
    let s := setFid e.1 { d with queue := d.queue.filter (fun r => decide (r.set ≠ some id)) } s
    match d.run with
    | some r => if r.set = some id then endRun e.1 .aborted s else refreshHookStatus e.1 s
    | none => refreshHookStatus e.1 s) s

/-- Abort the runs of sets that are gone. -/
def sweepHooks (s : State) : State :=
  let ids := (s.fid.fids.foldr (fun e acc => (e.2.run.bind (fun r => r.set)).toList ++ e.2.queue.filterMap (fun r => r.set) ++ acc) []).eraseDups
  ids.foldl (fun s id => if (s.findSet id).isSome then s else abortHooks id s) s

/-- FP fid of a destination in FAULT refuses new arms (R593). -/
def State.fpFault (s : State) (d : Nat) : Bool := !destIsStrand d && decide (s.fidState (fpOf d) = 3)

/-- A calibration fid, or FN, is in FAULT: its commands are refused and its work stops (R593). -/
def State.fcFault (s : State) : Bool := decide (s.fidState 41 = 3 ∨ s.fidState 42 = 3)

end Sys2Proof.Machine
end

