-- ==== Sys2Proof/Machine/Sound.lean ====
section
/-! DEFINITION. Audio ports as the rest of the part sees them: domains (R484, R488), the audio matrix (R494 to R498), and the status of AMI and AMO ports (R540). -/

namespace Sys2Proof.Machine

open Sys2Proof

/-- Replace the audio part of the state. -/
def setAud (a : AudioState) (s : State) : State := { s with aud := a }

/-- State of a domain's tracker (R491): 0 IDLE, 1 ACQUIRE, 2 LOCKED, 3 LOST, 4 REACQUIRE. HOUSE is always locked. -/
def State.domState (s : State) (d : Nat) : Nat := if d = 0 then 2 else s.f (Reg.audDomStatus d) 2 0

/-- MODE of a domain is SYNC (R487). -/
def State.domSync (s : State) (d : Nat) : Bool := decide (d ≠ 0) && s.bit (Reg.audDomCfg d) 0

/-- A domain as it counts for matching (R488). -/
def State.countsAs (s : State) (d : Nat) : Nat := if s.domSync d then 0 else d

/-- The domain of an ingress audio port by what it is bound to (R484, R508, R517, R531). -/
def State.amiDomain (s : State) (n : Nat) : Nat :=
  match tabGet n s.aud.amiBind with
  | some (.wire st _) => 0x40 + st
  | some (.flow _ _) => 0
  | some (.sap p _) => if s.bit (Reg.audSapRxCfg p) 1 then 0 else 0x10 + p
  | some (.aes p _) => 0x30 + p
  | some (.src c) => s.f (Reg.audSrcCfg c) 15 8
  | none => 0

/-- The domain of an egress audio port's consumer; none where any domain is taken (R488). -/
def State.amoDomain (s : State) (n : Nat) : Option Nat :=
  match tabGet n s.aud.amoBind with
  | some (.wire _ _) => some 0
  | some (.flow _ _) => some 0
  | some (.sap p _) => some (if s.bit (Reg.audSapTxCfg p) 1 then 0 else 0x20 + p)
  | some (.aes p _) => some (if s.bit (Reg.audAoCfg p) 1 then 0x30 + s.f (Reg.audAoCfg p) 6 4 else 0)
  | some (.src _) => none
  | none => some 0

/-- The hitch of an AMO (R540). -/
def State.amoHitch (s : State) (n : Nat) : Option Nat :=
  if s.bit (Reg.audAmoSrc n) 13 then some (s.f (Reg.audAmoSrc n) 12 0) else none

/-- An AMI carries samples (R540 PRESENT). -/
def State.amiPresent (s : State) (n : Nat) : Bool := s.bit (Reg.audAmiStatus n) 0

/-- The AMO ports hitched to an AMI. -/
def State.amosOf (s : State) (n : Nat) : List Nat :=
  (s.aud.amoBind.filter (fun e => decide (s.amoHitch e.1 = some n))).map Prod.fst

/-! Channel status (R483) -/

/-- One byte of the channel status CRC, least significant bit first (PRESUMED from AES3: x⁸ + x⁴ + x³ + x² + 1, from all ones). -/
def csCrcByte (c b : Nat) : Nat :=
  (List.range 8).foldl (fun c _ => if c % 2 = 1 then (c / 2) ^^^ 0xB8 else c / 2) ((c ^^^ b) % 256)

/-- The CRCC of a channel status block's first 23 bytes. -/
def crcc (l : List Nat) : Nat := (l.take 23).foldl csCrcByte 0xFF

/-- The default block (R483): professional use, linear PCM, 48 kHz, 24 bits, and its CRCC; the places of the first four are PRESUMED from AES3. -/
def defaultStatus : List Nat :=
  let l := [0x81, 0, 0x2C] ++ List.replicate 20 0
  l ++ [crcc l]

/-- The channel status an input's channel carries (R483). -/
def State.amiBlock (s : State) (n : Nat) : List Nat := ((tabGet n s.aud.status).map byteNats).getD defaultStatus

/-- The channel status an output's channel carries: that of its source. -/
def State.amoBlockOf (s : State) (n : Nat) : List Nat := ((s.amoHitch n).map s.amiBlock).getD defaultStatus

/-- The channel status block of an input's producer comes (R483): NONPCM shows byte 0 bit 1. -/
def setAmiStatus (ami : Nat) (block : List Byte) (s : State) : State :=
  (setAud { s.aud with status := tabSet ami block s.aud.status } s).setBit (Reg.audAmiStatus ami) 3 ((block.headD 0).toNat.testBit 1)

/-- The C bit of a frame: bit `frame` of the block of 192. -/
def statusBit (block : List Nat) (frame : Nat) : Bool := (block.getD (frame % 192 / 8) 0).testBit (frame % 8)

/-- An AES3 subframe without its preamble (R510): 24 bits of sample, then V, U, C and P for even parity, least significant first. -/
def aesWord (x : Int × Bool) (c : Bool) : Nat :=
  let v := Int.toNat (x.1 % 0x1000000) + 0x1000000 * b2n x.2 + 0x4000000 * b2n c
  v + 0x8000000 * (((List.range 27).filter (fun (i : Nat) => v.testBit i)).length % 2)

/-! What an output holds (R497) -/

/-- An output's delay line that has not begun, and an output's. -/
def amoLineInit : AmoLine := ⟨[], 0, false, none, 0⟩
def State.amoLine (s : State) (amo : Nat) : AmoLine := tabGetD amoLineInit amo s.aud.lines
def setAmoLine (amo : Nat) (l : AmoLine) (s : State) : State := setAud { s.aud with lines := tabSet amo l s.aud.lines } s

/-- Samples of an AMO's fade (R497, R500, R540): 48, 96, 192 or 384. -/
def State.fadeLen (s : State) (amo : Nat) : Nat := 48 * 2 ^ s.f (Reg.audAmoCfg amo) 1 0

/-- The newest `n` samples held fade out (R500); with a fade-in in progress each takes the smaller weight (R502). -/
def fadeOut (n : Nat) (held : List (Int × Bool × Nat)) : List (Int × Bool × Nat) :=
  let k := held.length - n
  held.take k ++ ((held.drop k).zipIdx).map (fun p => (p.1.1, p.1.2.1, min p.1.2.2 (n - 1 - p.2)))

/-- FANOUT of an AMI. -/
def refreshAmi (n : Nat) (s : State) : State :=
  (s.setF (Reg.audAmiStatus n) 29 16 (s.amosOf n).length).setF (Reg.audAmiStatus n) 15 8 (s.amiDomain n)

/-- AUDIO_EVENT at the audio fid that serves an output (R577, R589). -/
def audioEvent (n : Nat) (s : State) : State := fidEvent (faOf n) 5 s

/-- Raise an event of an AMO, posted under its tenancy's AUD_TEN_AMO_EVENT_EN (R538), and to the fid that serves it (R589). -/
def raiseAmo (n b : Nat) (s : State) : State :=
  let s := audioEvent n s
  match s.owner (objAmo n) with
  | some t => raiseEn (some t) (objAmo n) (Reg.audAmoEvent n) (Reg.audTenAmoEventEn t) b s
  | none => s.setBit (Reg.audAmoEvent n) b true

/-- An AMO is silent, fading out or muted (R540 MUTED). -/
def setSilent (n : Nat) (v : Bool) (s : State) : State :=
  let l := s.aud.silent.filter (fun x => decide (x ≠ n))
  (setAud { s.aud with silent := if v then n :: l else l } s).setBit (Reg.audAmoSrc n) 15 v

/-- The aligned group of an AMO, if one (R504, R540). -/
def State.amoGroup (s : State) (n : Nat) : Option Nat :=
  let g := s.f (Reg.audAmoCfg n) 15 8
  if g % 64 = 0 then none else some g

/-- The members of an aligned group. -/
def State.groupMembers (s : State) (g : Nat) : List Nat :=
  (s.aud.amoBind.filter (fun e => decide (s.amoGroup e.1 = some g))).map Prod.fst

/-- AUD_AGRP_STATUS of a group (R545). -/
def refreshAgroup (g : Nat) (s : State) : State :=
  let ms := s.groupMembers g
  let silent := (ms.filter (fun n => s.aud.silent.contains n)).length
  let dom := match ms.head? with | some n => (s.amoDomain n).getD 0 | none => 0
  let a := Reg.audAgrpStatus g
  (((s.setF a 6 0 ms.length).setF a 14 8 silent).setBit a 15 (s.aud.muted.contains g)).setF a 23 16 dom

/-- Raise an event of an aligned group (R545), and AUDIO_EVENT at the fids that serve its members (R589). -/
def raiseAgroup (g b : Nat) (s : State) : State :=
  let s := (((s.groupMembers g).map faOf).eraseDups).foldl (fun s f => fidEvent f 5 s) s
  raiseEn (some (g / 64)) (objAgroup g) (Reg.audAgrpEvent g) (Reg.audAgrpEventEn g) b s

/-- An AMO's source stops supplying samples (R499, R500): the AMO fades out; `bit` is 0 for an underrun, 1 for an overrun. A member's group counts it
(R505), or is muted as a whole with GROUP_SLIP (R506). -/
def amoFault (n bit : Nat) (s : State) : State :=
  if s.aud.silent.contains n then s
  else
    let s := setSilent n true (raiseAmo n bit (s.bump (Reg.audAmoFaultCnt n) 1))
    match s.amoGroup n with
    | none => s
    | some g =>
      if s.bit (Reg.audAgrpCfg g) 0 then
        if s.aud.muted.contains g then s
        else
          let s := (s.groupMembers g).foldl (fun s m => setSilent m true s) s
          refreshAgroup g (raiseAgroup g 2 (setAud { s.aud with muted := g :: s.aud.muted } s))
      else refreshAgroup g (raiseAgroup g 0 (s.bump (Reg.audAgrpUnderCnt g) 1))

/-- An output that has samples lacks the next one (R499, R500): what it holds fades out, and it is silent until a sample comes. -/
def amoStarve (n : Nat) (s : State) : State :=
  let l := s.amoLine n
  let k := s.fadeLen n
  let held := List.replicate (k - l.held.length) (0, false, k) ++ l.held
  amoFault n 0 (if l.running then setAmoLine n { l with held := fadeOut k held, since := 0, running := false } s else s)

/-- An AMO's source supplies samples again (R501, R505). -/
def amoResume (n : Nat) (s : State) : State :=
  if !s.aud.silent.contains n then s
  else
    match s.amoGroup n with
    | none => raiseAmo n 2 (setSilent n false s)
    | some g =>
      if s.aud.muted.contains g then s
      else refreshAgroup g (raiseAgroup g 1 (raiseAmo n 2 (setSilent n false s)))

/-- A group muted by GROUP_SLIP resumes when every member's source supplies samples (R506): `ready` judges a member. -/
def groupResume (ready : Nat → Bool) (g : Nat) (s : State) : State :=
  let ms := s.groupMembers g
  if s.aud.muted.contains g && ms.all ready then
    let s := setAud { s.aud with muted := s.aud.muted.filter (fun x => decide (x ≠ g)) } s
    let s := ms.foldl (fun s n => raiseAmo n 2 (setSilent n false s)) s
    refreshAgroup g (raiseAgroup g 3 s)
  else s

/-- The converter an AMO feeds, if one (R531). -/
def State.srcOfAmo (s : State) (amo : Nat) : Option Nat :=
  match tabGet amo s.aud.amoBind with | some (.src c) => some c | _ => none

/-- Input AMO and output AMI of a converter (R544). -/
def State.srcIn (s : State) (c : Nat) : Nat := s.f (Reg.audSrcBind c) 12 0
def State.srcOut (s : State) (c : Nat) : Nat := s.f (Reg.audSrcBind c) 28 16

/-- The output of a converter is present (R534): ENABLE, its input present, both domains LOCKED. -/
def State.srcWanted (s : State) (c : Nat) : Bool :=
  s.bit (Reg.audSrcCfg c) 0 && decide (s.domState (s.f (Reg.audSrcCfg c) 15 8) = 2) &&
  (match s.amoHitch (s.srcIn c) with
   | some n => s.amiPresent n && decide (s.domState (s.amiDomain n) = 2)
   | none => false)

/-- Raise an event of a converter (R544). -/
def raiseSrc (c b : Nat) (s : State) : State :=
  raiseEn (s.owner (objSrc c)) (objSrc c) (Reg.audSrcEvent c) (Reg.audSrcEventEn c) b s

/-- The presence of an AMI's samples changes: its consumers fade out or ramp back (R493, R498, R499), and the outputs of converters among them follow with
MUTED and UNMUTED (R534). The first argument bounds the chain of converters, which has no loop (R494). -/
def amiPresentF : Nat → Nat → Bool → State → State
  | 0, _, _, s => s
  | k + 1, n, v, s =>
    if s.amiPresent n = v ∨ (v ∧ s.stopped (n / 512)) then s
    else
      let s := s.setBit (Reg.audAmiStatus n) 0 v
      (s.amosOf n).foldl (fun s m =>
        let s := s.setBit (Reg.audAmoSrc m) 14 v
        match s.srcOfAmo m with
        | some c =>
          let w := s.srcWanted c
          if s.amiPresent (s.srcOut c) = w then s
          else amiPresentF k (s.srcOut c) w (raiseSrc c (b2n w) (s.setBit (Reg.audSrcStatus c) 3 (!w)))
        | none => if v then amoResume m s else amoFault m 0 s) s

/-- Set the presence of an AMI's samples. -/
def setAmiPresent (n : Nat) (v : Bool) (s : State) : State := amiPresentF 513 n v s

/-- Bring a converter's output into line with its inputs (R534). -/
def refreshSrc (c : Nat) (s : State) : State :=
  let w := s.srcWanted c
  if s.amiPresent (s.srcOut c) = w then s
  else setAmiPresent (s.srcOut c) w (raiseSrc c (b2n w) (s.setBit (Reg.audSrcStatus c) 3 (!w)))

/-- Channels of audio that a wire carries (R508): none on ST 259, 16 on HD, 32 on 3G and above, 128 on a quad link, 8 on a display link. -/
def State.wireChannels (s : State) (n : Nat) : Nat :=
  if s.proto n = 3 then 8
  else if 1 < s.width n then 128
  else match s.rate n with | 0x01 => 0 | 0x02 => 16 | 0x03 => 16 | _ => 32

/-- The audio a decoder found is of a kind it does not de-embed (R509). -/
def State.wireUnsupported (s : State) (n : Nat) : Bool :=
  match tabGet n s.wire.audio with
  | some .other => true
  | some (.lpcm _ r sync) => if s.proto n = 3 then decide (r ≠ 48 ∧ r ≠ 96) else !sync || decide (r ≠ 48)
  | _ => false

/-- A decoder de-embeds channel `c` (R508, R509). -/
def State.wireCarries (s : State) (n c : Nat) : Bool :=
  match tabGet n s.wire.audio with
  | some (.lpcm k _ _) => decide (c < min k (s.wireChannels n)) && !s.wireUnsupported n
  | _ => false

/-- Whether an AMI's samples are present by its port's configuration, clock and decoder (R491, R493, R508, R509, R518, R519, R534); none for a flow, whose packets say. -/
def State.amiWanted (s : State) (n : Nat) : Option Bool :=
  match tabGet n s.aud.amiBind with
  | some (.wire st c) => some (s.bit (Reg.wirFmt st) 0 && decide (s.domState (0x40 + st) = 2) && s.wireCarries st c)
  | some (.sap p k) =>
    if !s.bit (Reg.audSapRxCfg p) 0 then some true
    else
      let ones := ((List.range 32).filter (fun i => s.bit (Reg.audSapRxMask p) i)).length
      some (decide (k < ones) && (s.bit (Reg.audSapRxCfg p) 1 || decide (s.domState (0x10 + p) = 2)))
  | some (.aes p _) => some (s.bit (Reg.audAiCfg p) 0 && decide (s.domState (0x30 + p) = 2))
  | some (.src c) => some (s.srcWanted c)
  | some (.flow _ _) => none
  | none => some false

/-- Bring the ports and converters of a domain into line with its clock. -/
def refreshDomain (d : Nat) (s : State) : State :=
  let s := if 0x30 ≤ d ∧ d < 0x38 then s.setBit (Reg.audAiStatus (d - 0x30)) 0 (decide (s.domState d = 2)) else s
  let s := s.aud.amiBind.foldl (fun s e =>
    if decide (s.amiDomain e.1 = d) then
      match e.2 with
      | .src _ => s
      | _ => match s.amiWanted e.1 with | some v => setAmiPresent e.1 v s | none => s
    else s) s
  s.aud.amiBind.foldl (fun s e => match e.2 with | .src c => refreshSrc c s | _ => s) s

/-- Make or release an AMO's hitch: a cut, which ends any fade (R496, R498). -/
def bindAudio (amo : Nat) (ami : Option Nat) (s : State) : State :=
  let old := s.amoHitch amo
  let a := Reg.audAmoSrc amo
  let l := s.amoLine amo
  let s := setAmoLine amo { l with cut := match l.cut with | some c => some c | none => some (s.now, old) } (setSilent amo false s)
  let s := match ami with
    | some n => ((s.setF a 12 0 n).setBit a 13 true).setBit a 14 (s.amiPresent n)
    | none => ((s.setF a 12 0 0).setBit a 13 false).setBit a 14 false
  let s := s.setF a 23 16 ((s.amoDomain amo).getD (match ami with | some n => s.amiDomain n | none => 0))
  let s := match old with | some n => refreshAmi n s | none => s
  let s := match ami with
    | some n => let s := refreshAmi n s; if s.amiPresent n || (s.srcOfAmo amo).isSome then s else amoFault amo 0 s
    | none => s
  match s.srcOfAmo amo with
  | some c => refreshSrc c s
  | none => s

end Sys2Proof.Machine
end

