-- ==== Sys2Proof/Machine/Flows.lean ====
section
/-! DEFINITION. Flows as the rest of the part sees them: wire rates and the admission of send flows (R171 to R173), and a descriptor's coming into effect (R164, R168). -/

namespace Sys2Proof.Machine

open Sys2Proof

/-- The flow of a key. -/
def State.flowOf (s : State) (key : Nat) : Option Flow := tabGet key s.wire.flows

/-- Replace a flow. -/
def setFlow (key : Nat) (f : Flow) (s : State) : State := { s with wire := { s.wire with flows := tabSet key f s.wire.flows } }

/-- The least divisor of `groups` from `k` on that leaves at most 1,440 bytes a packet (R172); `fuel` bounds the search. -/
def evenSplit (groups bytes : Nat) : Nat → Nat → Option Nat
  | 0, _ => none
  | fuel + 1, k =>
    if k = 0 then evenSplit groups bytes fuel 1
    else if groups % k = 0 ∧ groups / k * bytes ≤ 1440 then some k
    else evenSplit groups bytes fuel (k + 1)

/-- The data bytes of a line's packets (R172): the even division, or 1,440 bytes each with the rest in the last; in block packing mode 1,260 bytes each. A packet carries one
segment (R149), so a line's last packet carries what is left of the line in block packing mode too (DESIGN CHOICE, log entry on pixel groups and packets). -/
def lineSplit (d : FlowDesc) : List Nat :=
  let g := pixelGroup d.sampling d.bits
  let groups := ceilDiv d.width g.2
  let bytes := groups * g.1
  let rest (n : Nat) : List Nat := (List.range (ceilDiv bytes n)).map (fun (k : Nat) => min n (bytes - n * k))
  if d.pm = 1 then rest 1260
  else
    match evenSplit groups g.1 groups (ceilDiv bytes 1440) with
    | some k => List.replicate k (bytes / k)
    | none => rest 1440

/-- Wire bytes of one packet beyond its data: preamble, Ethernet header, tag, IPv4, UDP, RTP, FCS, inter-frame gap and MACsec (R173). -/
def State.packetOverhead (s : State) (ifc : Nat) (vlan : Nat) : Nat :=
  8 + 14 + (if vlan = 0 then 0 else 4) + 20 + 8 + 12 + 4 + 12 + (if s.bit (Reg.ethIfCtrl ifc) 16 then 32 else 0)

/-- Wire rate of a send flow on one interface in bit/s (R173). The spec gives no figure for an ST 2110-40 flow, whose packets follow its content: a free value (log entry on wire
rates). -/
def State.wireRate (s : State) (ifc vlan : Nat) (d : FlowDesc) : Nat :=
  let o := s.packetOverhead ifc vlan
  if d.kind = 0 then
    let l := lineSplit d
    d.height * (l.length * (o + 8) + l.sum) * 8 * d.rateNum / max d.rateDen 1
  else if d.kind = 2 ∨ d.kind = 3 then
    let samples := (if d.arate = 1 then 96 else 48) * d.ptime / 1000
    let bytes := if d.kind = 3 then 4 else d.abits / 8
    (o + samples * d.channels * bytes) * 8 * 1000000 / max d.ptime 1
  else if d.kind = 4 then Config.ancWireRate d.flow
  else 0

/-- The MAC rate of an interface in bit/s (R88). -/
def State.macRate (s : State) (ifc : Nat) : Nat :=
  let one := match s.rate ifc with
    | 0x0A => 10000000000
    | 0x0F => 25000000000
    | 0x14 => 50000000000
    | _ => 0
  one * s.width ifc

/-- The wire rate one flow puts on an interface. -/
def State.rateOn (s : State) (ifc : Nat) (d : FlowDesc) : Nat :=
  if d.send && d.enable then
    (if d.ifA = ifc then s.wireRate ifc d.pathA.2.2.2 d else 0) + (if d.paired && decide (d.ifB = ifc) then s.wireRate ifc d.pathB.2.2.2 d else 0)
  else 0

/-- The admitted sum on an interface, without the flow of a key (R173). -/
def State.loadWithout (s : State) (ifc : Nat) (key : Option Nat) : Nat :=
  s.wire.flows.foldl (fun a e => if some e.1 = key then a else a + s.rateOn ifc e.2.desc) 0

/-- ETH_IF_TX_LOAD of an interface (R191). -/
def refreshLoad (ifc : Nat) (s : State) : State := s.setReg (Reg.ethIfTxLoad ifc) (wd (s.loadWithout ifc none / 1000000))

/-! Frames an interface sends -/

/-- The interface that strand `n` leads may send: ETH, and no transmitter of it DISABLED or driven by the strand matrix (R162, R163). -/
def State.mayTransmit (s : State) (n : Nat) : Bool :=
  decide (s.proto n = 2) && s.leads n && (s.members n).all (fun k => decide (1 ≤ s.tx k) && !s.tautHeld k)

/-- Key of a MACsec association: interface, receive or transmit, channel and association number (R180). -/
def saKey (n : Nat) (receive : Bool) (channel an : Nat) : Nat := ((n * 2 + b2n receive) * 16 + channel) * 4 + an

/-- The cipher suite of an interface uses 64-bit packet numbers (R180). R180 lists the four suites and gives MSC_CTRL.CIPHER no codes: 0 to 3 in the order listed (DEDUCED, log entry
on MACsec), so 2 and 3 are the XPN suites and an odd code has a 256-bit key. -/
def State.xpn (s : State) (n : Nat) : Bool := decide (2 ≤ s.f (Reg.mscCtrl n) 1 0)

/-- The largest packet number, and the threshold of PN_LIMIT (R182, R191). For XPN the register holds the upper 32 bits; the lower 32 are 0 (DEDUCED, log entry on MACsec). -/
def State.pnMax (s : State) (n : Nat) : Nat := if s.xpn n then 2 ^ 64 - 1 else 2 ^ 32 - 1
def State.pnThresh (s : State) (n : Nat) : Nat :=
  if s.xpn n then (s.reg (Reg.mscPnThresh n)).toNat * 2 ^ 32 else (s.reg (Reg.mscPnThresh n)).toNat

/-- Bytes of a frame that stay in clear (R180, R191 CONF_OFFSET): 0, 30 or 50; code 3, which R191 does not list, acts as 0 (DESIGN CHOICE, log entry on MACsec). -/
def State.confOffset (s : State) (n : Nat) : Nat :=
  match s.f (Reg.mscCtrl n) 3 2 with | 1 => 30 | 2 => 50 | _ => 0

/-- The MAC and IPv4 addresses of an interface (R157, R191). -/
def State.ifMac (s : State) (n : Nat) : Nat := (s.reg (Reg.ethIfMacLo n)).toNat + 0x100000000 * s.f (Reg.ethIfMacHi n) 15 0
def State.ifIp (s : State) (n : Nat) : Nat := (s.reg (Reg.ethIfIpv4 n)).toNat

/-- The SCI of an interface's transmit channel: its MAC address and port 1 (PRESUMED from IEEE 802.1AE, log entry on MACsec). -/
def State.txSci (s : State) (n : Nat) : Nat := 0x10000 * s.ifMac n + 1

/-- The key a slot holds. -/
def State.slotKey (s : State) (k : Nat) : List Nat := ((tabGet k s.key.slots).map (fun x => x.key)).getD []

/-- Raise PN_LIMIT (R182): the packet number of a transmit association comes to the threshold, or the threshold down to it. -/
def raisePnLimit (n : Nat) (s : State) : State := s.setBit (Reg.mscEvent n) 0 true

/-- An association's packet number moves on; PN_LIMIT is raised when it reaches the threshold (R182). -/
def stepPn (n k : Nat) (a : Sa) (s : State) : State :=
  let s' := { s with wire := { s.wire with sas := tabSet k { a with nextPn := a.nextPn + 1 } s.wire.sas } }
  if a.nextPn < s.pnThresh n ∧ s.pnThresh n ≤ a.nextPn + 1 then raisePnLimit n s' else s'

/-- Send a frame, from its destination address to its payload's end: kind 0 EAPOL or LLDP, 1 Delay_Req, 2 ARP reply, 3 ICMP echo reply, 4 membership report, 5 packet of a flow. It
leaves padded. Under MACsec with PROTECT it is protected with a packet number of the association TX_AN names; with no valid association, or at the largest number, it is dropped
and counted (R158, R162, R180 to R183). -/
def sendFrame (n kind : Nat) (frame : List Nat) (s : State) : State :=
  if !s.mayTransmit n || s.stopped (n / 8) then s
  else if kind = 0 ∨ s.bit (Reg.ethIfCtrl n) 16 = false ∨ s.bit (Reg.mscCtrl n) 4 = false then s.emit (.frame n kind (natBytes (padFrame frame)))
  else
    let an := s.f (Reg.mscCtrl n) 9 8
    let k := saKey n false 0 an
    match tabGet k s.wire.sas with
    | none => s.bump (Reg.mscTxDropCnt n) 1
    | some a =>
      if !a.valid ∨ s.pnMax n ≤ a.nextPn then s.bump (Reg.mscTxDropCnt n) 1
      else
        let iv := secIv (s.xpn n) (s.txSci n) a.nextPn a.ssci.toNat a.salt
        (stepPn n k a s).emit (.frame n kind (natBytes (padFrame (secProtect (s.slotKey a.key) iv an a.nextPn (s.txSci n) (s.confOffset n) frame))))

/-- An IPv4 packet of an interface as a frame; its identification is a free value, and its caller draws the next. -/
def sendIp (n kind tci dscp src dst proto : Nat) (options payload : List Nat) (s : State) : State :=
  let mac := if 0xE0000000 ≤ dst ∧ dst < 0xF0000000 then groupMac dst else Config.nextHop n dst
  sendFrame n kind (ethHead mac (s.ifMac n) tci 0x0800 ++ ipv4 dscp (Config.freeAt s.draws 0 % 0x10000) (if kind = 4 then 1 else Config.ipTtl % 256) proto src dst options payload) s

/-- The interfaces of a flow's paths, with each path's fields: destination, source, UDP port and VLAN (R164, R174). -/
def flowPaths (d : FlowDesc) : List (Nat × (Nat × Nat × Nat × Nat)) := (d.ifA, d.pathA) :: (if d.paired then [(d.ifB, d.pathB)] else [])

/-- An IPv4 address is a multicast group: its first octet, the top one of the little-endian field, is 224 to 239 (PRESUMED from IPv4). -/
def isMulticast (a : Nat) : Bool := decide (224 ≤ a / 0x1000000 ∧ a / 0x1000000 ≤ 239)

/-- The membership reports of an enabled multicast receive flow on one of its interfaces, or on all (R160): source-specific for a descriptor with SSM that names a source. -/
def reportFlow (only : Option Nat) (d : FlowDesc) (s : State) : State :=
  if d.enable && !d.send then
    (flowPaths d).foldl (fun s p =>
      if isMulticast p.2.1 && decide (only.getD p.1 = p.1) then
        sendIp p.1 4 p.2.2.2.2 0 (s.ifIp p.1) 0xE0000016 2 [0x94, 4, 0, 0] (igmpReport p.2.1 (if d.ssm && decide (p.2.2.1 ≠ 0) then some p.2.2.1 else none)) s.draw
      else s) s
  else s

/-- The membership reports of every flow on an interface (R160, R163). -/
def reportAll (n : Nat) (s : State) : State := s.wire.flows.foldl (fun s e => reportFlow (some n) e.2.desc s) s

/-- An interface whose transmitter the strand matrix no longer drives sends again and reports its memberships (R163). -/
def reportReturn (was : State) (d : Nat) (s : State) : State :=
  let n := destNumber d
  if destIsStrand d && decide (s.proto n = 2) && (was.members n).any was.tautHeld && !(s.members n).any s.tautHeld then reportAll (s.leader n) s else s

/-! RTP timestamps (R168) -/

/-- The flow's packets carry an extended sequence number: ST 2110-20 and -40. -/
def extSeq (d : FlowDesc) : Bool := decide (d.kind = 0 ∨ d.kind = 4)

/-- The RTP clock of a flow in Hz: 90 kHz for video and ancillary data, the sample rate for audio. -/
def rtpRate (d : FlowDesc) : Nat := if flowClass d.kind = 1 then (if d.arate = 1 then 96000 else 48000) else 90000

/-- The media clock at a time of the system counter: the RTP timestamp of that instant. -/
def mediaTs (d : FlowDesc) (ns : Nat) : Nat := ns * rtpRate d / 1000000000 % 0x100000000

/-- One timestamp is at or before another, in the circle of 32 bits. -/
def tsLe (a b : Nat) : Bool := decide ((b + 0x100000000 - a) % 0x100000000 < 0x80000000)

/-- A frame or block of a timestamp is due for release: RX_DEPTH has passed since its RTP timestamp (R168). -/
def State.releaseDue (s : State) (d : FlowDesc) (ts : Nat) : Bool :=
  let age := (mediaTs d s.now + 0x100000000 - ts) % 0x100000000
  decide (age < 0x80000000 ∧ d.depth * rtpRate d ≤ age * 1000000)

/-- Set the presence of a receive flow's essence (R168, R169): its PRESENT bit, its EI port, or its AMI ports. -/
def setFlowPresent (key : Nat) (d : FlowDesc) (v : Bool) (s : State) : State :=
  let s := s.setBit (flowWin key) 1 v
  match flowClass d.kind with
  | 0 => setPresent d.port v s
  | 1 => (List.range d.channels).foldl (fun s c => setAmiPresent (d.port + c) v s) s
  | _ => s

/-! The pacing buffer of a sender (R168, R171, R172) -/

/-- Put packets at the end of a send flow's pacing buffer. -/
def queuePkts (key : Nat) (ps : List OutPkt) (s : State) : State :=
  match s.flowOf key with
  | some f => setFlow key { f with queue := f.queue ++ ps } s
  | none => s

/-- The packets of one line (R149, R172): one segment each; the marker is on the last of a frame or field. -/
def linePkts (d : FlowDesc) (ts : Nat) (field2 : Bool) (line : Nat) (last : Bool) (data : List Nat) : Nat → List Nat → List OutPkt
  | _, [] => []
  | off, n :: r =>
    let g := pixelGroup d.sampling d.bits
    ⟨ts, last && r.isEmpty, segPayload ⟨field2, line, off / g.1 * g.2, (data.drop off).take n⟩⟩ :: linePkts d ts field2 line last data (off + n) r

/-- The enabled send flows of a class whose PORT a port is. -/
def State.sendFlowsOf (s : State) (cls port : Nat) : List (Nat × Flow) :=
  s.wire.flows.filter (fun e => decide (flowClass e.2.desc.kind = cls) && e.2.desc.enable && e.2.desc.send &&
    (if cls = 1 then decide (e.2.desc.port ≤ port ∧ port < e.2.desc.port + e.2.desc.channels) else decide (e.2.desc.port = port)))

/-- A video sender takes a row of its essence into its buffer: `line` of a field of `lines` (R168, R172). -/
def queueRow (eo : Nat) (field2 : Bool) (line lines : Nat) (row : List Px) (s : State) : State :=
  (s.sendFlowsOf 0 eo).foldl (fun s e =>
    queuePkts e.1 (linePkts e.2.desc e.2.tsOut field2 line (decide (line + 1 = lines)) (rowBytes e.2.desc.sampling e.2.desc.bits row) 0 (lineSplit e.2.desc)) s) s

/-- The alignment point of a sender's frame: the media clock stamps it (R168). Ancillary packets of the frame before are sent under its own timestamp (R170). -/
def stampFrame (eo : Nat) (s : State) : State :=
  let s := (s.sendFlowsOf 0 eo).foldl (fun s e => setFlow e.1 { e.2 with tsOut := mediaTs e.2.desc s.now } s) s
  (s.sendFlowsOf 2 eo).foldl (fun s e =>
    let ps := e.2.waiting.flatMap (fun w => w.2.2)
    setFlow e.1 { e.2 with tsOut := mediaTs e.2.desc s.now, waiting := [], queue := e.2.queue ++ (if ps.isEmpty then [] else [⟨e.2.tsOut, true, ancPayload ps⟩]) } s) s

/-- An ancillary sender takes packets of its PORT's frame (R170). -/
def queueAnc (eo : Nat) (ps : List AncPacket) (s : State) : State :=
  (s.sendFlowsOf 2 eo).foldl (fun s e => setFlow e.1 { e.2 with waiting := e.2.waiting ++ [(e.2.tsOut, s.now, ps)] } s) s

/-! The 2:1 filter (R511) -/

/-- One output of the filter over 95 samples: linear phase, its 48 taps a free value of the part in units of 2^-30, as is its rounding (R511 gives the response alone). -/
def firOut (l : List Int) : Int :=
  sar (((List.range 95).map (fun (i : Nat) => Config.filterTap (min i (94 - i)) * l.getD i 0)).sum + Config.filterRound) 30

/-- The filter's inputs so far, and none: 94 samples of silence. -/
def filterStart : List Int := List.replicate 94 0

/-- Two samples of 96 kHz make one of 48 kHz; the last 94 inputs are kept. -/
def decimate (hist x : List Int) : List Int × List Int :=
  let all := hist ++ x
  ((List.range (x.length / 2)).map (fun (k : Nat) => firOut ((all.drop (2 * k)).take 95)), all.drop (all.length - 94))

/-- Each sample of 48 kHz makes two of 96 kHz: zeros stand between, and the gain is 2. -/
def interpolate (hist x : List Int) : List Int × List Int :=
  let all := hist ++ x.flatMap (fun v => [v, 0])
  ((List.range (2 * x.length)).map (fun (k : Nat) => 2 * firOut ((all.drop k).take 95)), all.drop (all.length - 94))

/-! Audio senders -/

/-- One subframe of ST 2110-31 (R510): the sample with V, U, C and P, and the marks of the first subframe of a frame and of the first frame of a block. -/
def aes31Subframe (frame : Nat) (first : Bool) (x : Int × Bool) (c : Bool) : List Nat :=
  am824 (aesWord x c / 0x1000000 + 16 * b2n first + 32 * b2n (decide (frame % 192 = 0) && first)) x.1

/-- The payload of one audio packet from `n` samples of each channel (R166, R510): ST 2110-31 carries V and the channels' status `cs`, ST 2110-30 the top bits of the samples alone. -/
def audioPayload (d : FlowDesc) (cs : Nat → List Nat) (frame n : Nat) (chans : List (List (Int × Bool))) : List Nat :=
  (List.range n).flatMap (fun (i : Nat) => (chans.zipIdx).flatMap (fun c =>
    let x := c.1.getD i (0, false)
    if d.kind = 3 then aes31Subframe (frame + i) (decide (c.2 % 2 = 0)) x (statusBit (cs c.2) (frame + i))
    else sampleBytes (d.abits / 8) (sar x.1 (24 - d.abits))))

/-- The packets that what a flow has collected fills; `fuel` bounds their number. -/
def audioPkts (d : FlowDesc) (cs : Nat → List Nat) (n : Nat) : Nat → Nat → Nat → List (List (Int × Bool)) → List OutPkt × List (List (Int × Bool))
  | 0, _, _, chans => ([], chans)
  | k + 1, ts, frame, chans =>
    if n = 0 ∨ chans.length < d.channels ∨ chans.any (fun c => decide (c.length < n)) then ([], chans)
    else
      let r := audioPkts d cs n k ((ts + n) % 0x100000000) (frame + n) (chans.map (fun c => c.drop n))
      (⟨ts, false, audioPayload d cs frame n (chans.map (fun c => c.take n))⟩ :: r.1, r.2)

/-- An audio sender takes the samples that left an AMO at a block of its clock (R166, R168, R510, R511): the first channel of a block stamps it. -/
def queueAudio (amo : Nat) (samples : List (Int × Bool)) (s : State) : State :=
  (s.sendFlowsOf 1 amo).foldl (fun s e =>
    let f := e.2
    let d := f.desc
    let c := amo - d.port
    let n := rtpRate d * d.ptime / 1000000
    let old := (List.range d.channels).map (fun (k : Nat) => f.partials.getD k [])
    let fresh := old.all (fun l => l.isEmpty)
    let up := interpolate (tabGetD filterStart c f.filters) (samples.map Prod.fst)
    let new := if d.arate = 1 then up.1.map (fun v => (v, false)) else samples
    let filters := if d.arate = 1 then tabSet c up.2 f.filters else f.filters
    let chans := (old.zipIdx).map (fun l => if l.2 = c then l.1 ++ new else l.1)
    let ts := if fresh then mediaTs d s.now else f.tsOut
    let r := audioPkts d (fun (k : Nat) => s.amoBlockOf (d.port + k)) n 16 ts ((f.sentPackets + f.queue.length) * n) chans
    setFlow e.1 { f with filters := filters, partials := r.2, tsOut := (ts + n * r.1.length) % 0x100000000, queue := f.queue ++ r.1 } s) s

/-- A flow with no packet seen. -/
def flowStart (d : FlowDesc) : Flow := ⟨d, [], 0, 0, 0, 0, 0, none, none, none, [], [], 0, [], [], []⟩

/-- A descriptor takes effect (R164): unless nothing changes, the flow starts over, absent until packets come. -/
def applyFlow (key : Nat) (d : FlowDesc) (s : State) : State :=
  match s.flowOf key with
  | some f => if f.desc = d then s else start s f.desc
  | none => start s d
where
  start (s : State) (old : FlowDesc) : State :=
    let s := if old.send then s else setFlowPresent key old false s
    let s := setFlow key (flowStart d) s
    let s := s.setReg (flowWin key) (wd (b2n d.enable + 16 * (d.kind % 16)))
    let ifs := [old.ifA, old.ifB, d.ifA, d.ifB].eraseDups
    let s := ifs.foldl (fun s i => refreshLoad i (txRefreshAll (s.members i) s)) s
    reportFlow none d (wakeUsed s)

end Sys2Proof.Machine
end

