-- ==== Sys2Proof/Machine/Records.lean ====
section
/-! DEFINITION. The record store (chapter 16): pages and groups (R683 to R685), rings and their write pointers (R689 to R693), the writes that wait
(R691, R692), the newest record (R695, R696) and the device log (R700). -/

namespace Sys2Proof.Machine

open Sys2Proof

/-! Pages and groups -/

/-- The data bits' places in the code: the integers from 3 up that are no power of two (R684). -/
def codePlaces : List Nat := (List.range 72).filter (fun i => decide (3 ≤ i) && decide (i ≠ 2 ^ Nat.log2 i))

/-- The data bits of a group's eight bytes. -/
def dataBits (l : List Byte) : List Bool := (List.range 64).map (fun i => ((l.getD (i / 8) 0).toNat).testBit (i % 8))

/-- The check byte of a group's eight data bytes (R684). -/
def checkByte (l : List Byte) : Byte :=
  let bits := dataBits l
  let c := fun (j : Nat) => (bits.zip codePlaces).foldl (fun a p => a ^^ (p.1 && p.2.testBit j)) false
  let c7 := bits.foldl (fun a b => a ^^ b) ((List.range 7).foldl (fun a j => a ^^ c j) false)
  let v := (List.range 7).foldl (fun a j => a + b2n (c j) * 2 ^ j) (128 * b2n c7)
  BitVec.ofNat 8 (255 - v)

/-- The CRC-32 that a commit group holds (R422, R687). -/
def crcBytes (l : List Byte) : Nat := (l.foldl (fun c b => crcByte c b.toNat) 0xFFFFFFFF) ^^^ 0xFFFFFFFF

/-- The 24-byte header of a record (R687). -/
def recordHeader (cls index seq epoch len : Nat) : List Byte :=
  leBytes 1 cls ++ leBytes 1 1 ++ leBytes 2 index ++ leBytes 4 len ++ leBytes 8 seq ++ leBytes 4 epoch ++ leBytes 4 0

/-- The commit group of a record (R687): CRC and mark. -/
def commitGroup (header payload : List Byte) : List Byte := leBytes 4 (crcBytes (header ++ payload)) ++ leBytes 4 0x4C434D54

/-! Rings -/

def clsEpoch : Nat := 1
def clsSelector : Nat := 2
def clsCal : Nat := 3
def clsKey : Nat := 4
def clsTamper : Nat := 5
def clsLog : Nat := 6

/-- Pages per slot, sectors per bank and largest payload of a class (R689). -/
def ringShape (c : Nat) : Nat × Nat × Nat :=
  match c with
  | 1 => (1, 16, 192)
  | 2 => (1, 16, 192)
  | 3 => (4, 512, 864)
  | 4 => (1, 512, 192)
  | 5 => (1, 64, 192)
  | 6 => (1, 2048, 192)
  | _ => (1, 1, 0)

/-- Slots of a sector and of a bank's half of a ring. -/
def sectorSlots (c : Nat) : Nat := 16 / (ringShape c).1
def halfSlots (c : Nat) : Nat := (ringShape c).2.1 * sectorSlots c

/-- The class is a log (R695). -/
def isLog (c : Nat) : Bool := decide (c = clsTamper ∨ c = clsLog)

/-- Key of a bank's half of a ring. -/
def halfKey (c bank : Nat) : Nat := 4 * c + bank

/-! Pages (R683, R685, R687) -/

/-- Group `k` of a slot's data: eight data bytes. The bytes of the payload's last group that follow the payload are 0xFF (DESIGN CHOICE). -/
def groupData (data : List Byte) (k : Nat) : List Byte := (List.range 8).map (fun (i : Nat) => data.getD (8 * k + i) 0xFF)

/-- The nine bytes that a group takes: its data and its check byte. -/
def nineBytes (l : List Byte) : List Byte := l ++ [checkByte l]

/-- The commit group of a class's slots: group 27 of the slot's last page. -/
def commitIndex (c : Nat) : Nat := 28 * (ringShape c).1 - 1

/-- The groups of a record, in the order in which they are programmed (R685): header and payload, then the commit group. -/
def recordGroups (c : Nat) (header payload : List Byte) : List (Nat × List Byte) :=
  let data := header ++ payload
  (List.range (ceilDiv data.length 8)).map (fun (k : Nat) => (k, nineBytes (groupData data k))) ++
    [(commitIndex c, nineBytes (commitGroup header payload))]

/-- Page `p` of a slot in which some groups are programmed (R683): group g at bytes 9g to 9g + 8, and at bytes 252 to 255 the DONE word, whose bit g is 0
once group g is programmed; the rest is erased. -/
def pageOf (groups : List (Nat × List Byte)) (p : Nat) : List Byte :=
  let row := (List.range 28).map (fun (g : Nat) => tabGet (28 * p + g) groups)
  let done := (List.range 28).foldl (fun (n : Nat) g => if (row.getD g none).isSome then n - 2 ^ g else n) 0xFFFFFFFF
  (List.range 252).map (fun (b : Nat) => ((row.getD (b / 9) none).getD []).getD (b % 9) 0xFF) ++ leBytes 4 done

/-- The pages of a slot. -/
def pagesOf (c : Nat) (groups : List (Nat × List Byte)) : List (List Byte) := (List.range (ringShape c).1).map (pageOf groups)

/-- A bit of the medium reads other than it was programmed: bit `b` of byte `k` of a slot's pages. -/
def flipCell (pages : List (List Byte)) (f : Nat × Nat) : List (List Byte) :=
  pages.modify (f.1 / 256) (fun pg => pg.modify (f.1 % 256) (fun (x : Byte) => x ^^^ BitVec.ofNat 8 (2 ^ (f.2 % 8))))

/-- How a group reads (R685). -/
inductive GroupStatus where
  | good
  | corrected
  | torn
  | bad
  deriving DecidableEq, Repr

/-- Nine bytes are a codeword (R684). -/
def isCodeword (l : List Byte) : Bool := decide (l.getD 8 0 = checkByte (l.take 8))

/-- One bit of nine bytes changed. -/
def flipBit (l : List Byte) (b : Nat) : List Byte := l.modify (b / 8) (fun (x : Byte) => x ^^^ BitVec.ofNat 8 (2 ^ (b % 8)))

/-- How nine bytes whose DONE bit is 0 read (R685): a codeword, one bit from a codeword, or neither. -/
def decodeNine (l : List Byte) : GroupStatus × List Byte :=
  if isCodeword l then (.good, l.take 8)
  else
    match (List.range 72).find? (fun (b : Nat) => isCodeword (flipBit l b)) with
    | some b => (.corrected, (flipBit l b).take 8)
    | none => (.bad, List.replicate 8 0xFF)

/-- Read group `k` of a slot (R685). -/
def readGroup (pages : List (List Byte)) (k : Nat) : GroupStatus × List Byte :=
  let pg := pages.getD (k / 28) []
  if (leAt pg 252 4).testBit (k % 28) then (.torn, List.replicate 8 0xFF)
  else decodeNine ((pg.drop (9 * (k % 28))).take 9)

/-- The group's bytes can be used. -/
def GroupStatus.usable (x : GroupStatus) : Bool := decide (x = .good ∨ x = .corrected)

/-- What a read of a slot gives (R687, R688): the copy it holds, its header fields only where the header's three groups can be read, its payload only
where it is intact. -/
def readCopy (c bank slot : Nat) (pages : List (List Byte)) : RecCopy :=
  let hd := (List.range 3).map (fun (k : Nat) => readGroup pages k)
  let h := (hd.map (fun x => x.2)).foldr (fun l acc => l ++ acc) []
  let header := hd.all (fun x => x.1.usable) && decide (leAt h 0 1 = c ∧ leAt h 4 4 ≤ (ringShape c).2.2)
  let len := if header then leAt h 4 4 else 0
  let body := (List.range (ceilDiv (24 + len) 8 - 3)).map (fun (k : Nat) => readGroup pages (3 + k))
  let p := ((body.map (fun x => x.2)).foldr (fun l acc => l ++ acc) []).take len
  let cg := readGroup pages (commitIndex c)
  let intact := header && body.all (fun x => x.1.usable) && cg.1.usable &&
    decide (leAt cg.2 4 4 = 0x4C434D54 ∧ leAt cg.2 0 4 = crcBytes (h ++ p))
  ⟨bank, slot, if header then leAt h 2 2 else 0, if header then leAt h 8 8 else 0, if header then leAt h 16 4 else 0, if intact then p else [],
   intact, header, false, pages⟩

/-- The copy that programming a record leaves in a slot (R685, R687): its first `n` groups are programmed, and the bits of `flips` read other than they
were programmed. -/
def writeCopy (c bank index seq epoch : Nat) (payload : List Byte) (n : Nat) (flips : List (Nat × Nat)) : RecCopy :=
  let groups := recordGroups c (recordHeader c index seq epoch payload.length) payload
  readCopy c bank 0 (flips.foldl flipCell (pagesOf c (groups.take n)))

/-- The groups of a record of a payload's length. -/
def groupCount (payload : List Byte) : Nat := ceilDiv (24 + payload.length) 8 + 1

/-- The copy of a record that is written whole. -/
def wholeCopy (c bank index seq epoch : Nat) (payload : List Byte) : RecCopy := writeCopy c bank index seq epoch payload (groupCount payload) []

/-- How many groups of a record in a slot read with a status. -/
def countGroups (c : Nat) (payload : List Byte) (pages : List (List Byte)) (x : GroupStatus) : Nat :=
  (((List.range (ceilDiv (24 + payload.length) 8)) ++ [commitIndex c]).filter (fun (k : Nat) => decide ((readGroup pages k).1 = x))).length

def setRec (r : RecordState) (s : State) : State := { s with rst := r }

/-- The copies of a ring. -/
def State.ring (s : State) (c : Nat) : List RecCopy := tabGetD [] c s.rst.rings

/-- Replace the copies of a ring. -/
def setRing (c : Nat) (l : List RecCopy) (s : State) : State := setRec { s.rst with rings := tabSet c l s.rst.rings } s

/-- The next slot of a bank's half, and the erased sectors ahead of it. -/
def State.ringNext (s : State) (c bank : Nat) : Nat := tabGetD 0 (halfKey c bank) s.rst.next
def State.ringAhead (s : State) (c bank : Nat) : Nat := tabGetD (ringShape c).2.1 (halfKey c bank) s.rst.ahead

/-- A copy can be started in a bank: the write pointer stands within a sector, or before an erased one (R691, R693). -/
def State.slotReady (s : State) (c bank : Nat) : Bool :=
  decide (s.ringNext c bank % sectorSlots c ≠ 0) || decide (0 < s.ringAhead c bank)

/-- The registers of a ring: newest SEQ, next slots and turns (R707). -/
def refreshRing (c : Nat) (s : State) : State :=
  let seq := ((s.ring c).filter (fun x => x.intact)).foldl (fun m x => max m x.seq) 0
  let s := (s.setReg (Reg.recRingSeqLo c) (wd seq)).setReg (Reg.recRingSeqHi c) (wd (seq / 0x100000000))
  let s := s.setReg (Reg.recRingPos c) (wd (s.ringNext c 2 + 0x10000 * (halfSlots c + s.ringNext c 3)))
  s.setReg (Reg.recRingPass c) (wd (tabGetD 0 c s.rst.pass))

/-- Place a copy at a bank's write pointer and advance it (R691). -/
def placeCopy (c : Nat) (x : RecCopy) (s : State) : State :=
  let n := s.ringNext c x.bank
  let s := if n % sectorSlots c = 0 then setRec { s.rst with ahead := tabSet (halfKey c x.bank) (s.ringAhead c x.bank - 1) s.rst.ahead } s else s
  let s := setRing c (s.ring c ++ [{ x with slot := (if x.bank = 3 then halfSlots c else 0) + n }]) s
  let wraps := decide (n + 1 = halfSlots c)
  let s := setRec { s.rst with next := tabSet (halfKey c x.bank) (if wraps then 0 else n + 1) s.rst.next } s
  if wraps && decide (x.bank = 2) then setRec { s.rst with pass := tabSet c (tabGetD 0 c s.rst.pass + 1) s.rst.pass } s else s

/-- Of two intact copies of one SEQ the one used: the higher EPOCH, else the lower slot (R696). -/
def betterCopy (a b : RecCopy) : RecCopy :=
  if a.seq ≠ b.seq then (if a.seq < b.seq then b else a)
  else if a.epoch ≠ b.epoch then (if a.epoch < b.epoch then b else a)
  else if b.slot < a.slot then b else a

/-- The best of several copies. -/
def bestCopy : List RecCopy → Option RecCopy
  | [] => none
  | x :: l => some (l.foldl betterCopy x)

/-- The newest record of a class and index (R695). -/
def State.newestRec (s : State) (c index : Nat) : Option RecCopy :=
  bestCopy ((s.ring c).filter (fun x => x.intact && decide (x.index = index)))

/-- The newest record has one intact copy only. -/
def State.singleCopy (s : State) (c : Nat) (x : RecCopy) : Bool :=
  decide (((s.ring c).filter (fun y => y.intact && decide (y.index = x.index ∧ y.seq = x.seq))).length = 1)

/-! Writes -/

/-- The epoch in force (R697). -/
def State.epoch (s : State) : Nat := (s.reg Reg.recEpoch).toNat

/-- Replace the writes. -/
def setWrites (l : List RecWrite) (s : State) : State := setRec { s.rst with writes := l } s

/-- Request the write of a record: it takes the next SEQ of its class, and waits while another write of the class is in progress (R691, R692, R695). -/
def writeRecord (c index : Nat) (payload : List Byte) (why : RecWhy) (s : State) : State :=
  let seq := tabGetD 0 c s.rst.seqs + 1
  let s := setRec { s.rst with seqs := tabSet c seq s.rst.seqs } s
  setWrites (s.rst.writes ++ [⟨c, index, seq, s.epoch, payload, [2, 3], false, why⟩]) s

/-- Repair the missing copy of a record, with its SEQ (R698). -/
def repairRecord (c : Nat) (x : RecCopy) (s : State) : State :=
  setWrites (s.rst.writes ++ [⟨c, x.index, x.seq, s.epoch, x.payload, [if x.bank = 2 then 3 else 2], true, .repair⟩]) s

/-- A write of a class is in progress (R692). -/
def State.writing (s : State) (c : Nat) : Bool := s.rst.writes.any (fun w => decide (w.cls = c))

/-- The write of a class that is in progress: the first requested. -/
def State.currentWrite (s : State) (c : Nat) : Option RecWrite := s.rst.writes.find? (fun w => decide (w.cls = c))

/-- Replace the first write of a class, or remove it. -/
def putWrite (c : Nat) (w : Option RecWrite) : List RecWrite → List RecWrite
  | [] => []
  | x :: l => if x.cls = c then w.toList ++ l else x :: putWrite c w l

/-- FN is in FAULT: it stops its work, and record commands are refused (R593). -/
def State.fnFault (s : State) : Bool := decide (s.f (Reg.fidStatus 43) 1 0 = 3)

/-- The modes in which records are written (R692): none in Doze, Deep sleep or Off, and FN does not run in Reset or in FAULT. -/
def State.recordsRun (s : State) : Bool :=
  !s.fnFault &&
  match s.mode with
  | .off => false
  | .reset => false
  | .doze => false
  | .deepSleep => false
  | _ => true

/-- An erase is due in a bank: some ring has no erased sector ahead (R693). -/
def State.eraseDue (s : State) (bank : Nat) : Bool :=
  [1, 2, 3, 4, 5, 6].any (fun c => decide (s.ringAhead c bank = 0))

/-- REC_STATUS as it reads: the banks that work, and an erase suspended for the tamper record (R699, R701). -/
def State.recStatusWord (s : State) : Word :=
  let wr := fun (b : Nat) => s.rst.writes.any (fun w => w.left.contains b)
  let busy := b2n (s.rig.writes.any (fun j => decide (j.slot = .a))) + 2 * b2n (s.rig.writes.any (fun j => decide (j.slot = .b))) +
    4 * b2n (wr 2 || s.eraseDue 2) + 8 * b2n (wr 3 || s.eraseDue 3)
  let tw := s.writing clsTamper
  let susp := 4 * b2n (tw && s.eraseDue 2) + 8 * b2n (tw && s.eraseDue 3)
  setFld (setFld (s.reg Reg.recStatus) 3 0 (if s.recordsRun then busy else 0)) 7 4 susp

/-- Raise a REC event, posted to the rig owner (R707). -/
def raiseRecords (b : Nat) (s : State) : State := raiseEn (some s.rigOwner) 0 Reg.recEvent Reg.recEventEn b s

/-- Append an event entry to the device log (R700). -/
def deviceLog (e : EventEntry) (s : State) : State := writeRecord clsLog 0 (eventBytes e) .log s

/-- Log a register event as R638 would post it: its register and bit. -/
def logBit (obj ev b : Nat) (s : State) : State :=
  deviceLog (mkEvent s 0 obj (ev + b * 0x400000) (leBytes 4 (s.reg ev).toNat)) s

/-! The owner lock page -/

/-- The owner key hash in force (R56, R702): none when the newest intact entry is missing or all zero. -/
def State.ownerHash (s : State) : Option (List Byte) :=
  match (s.rst.lockPage.filterMap id).getLast? with
  | none => none
  | some h => if h.all (fun b => decide (b = 0)) then none else some h

/-- The registers that show the lock page (R707). -/
def refreshOwner (s : State) : State :=
  let h := s.ownerHash
  let s := (List.range 12).foldl (fun s j => s.setReg (Reg.recOwnerHash j) (wordOfBytes (((h.getD []).drop (4 * j)).take 4))) s
  ((s.setBit Reg.recStatus 9 s.rst.locked).setBit Reg.recStatus 10 h.isSome).setF Reg.recOwnerCtrl 20 16 s.rst.lockPage.length

end Sys2Proof.Machine
end

