-- ==== Sys2Proof/Machine/Swap.lean ====
section
/-! DEFINITION. What takes effect when a configuration becomes live: the swap of a context (R255) with what a generator (R401, R409, R416),
a compositor and its layers (R368, R374, R378) and a sheet bend make of it, and the pending copies of recorders, players and pacing (R250, R798). -/

namespace Sys2Proof.Machine

open Sys2Proof

/-- Set LAST_RESULT of an engine, layer, recorder or player. -/
def setEngResult (e : Nat) (st : Status) (s : State) : State :=
  let n := objIndex e
  let c := statusCode st
  match objClass e with
  | 0x01 => setResult n st s
  | 0x03 => s.setF (Reg.sbdStatus n) 23 16 c
  | 0x04 => s.setF (Reg.cmpStatus n) 23 16 c
  | 0x05 => s.setF (Reg.cmpLStatus (n / 8) (n % 8)) 23 16 c
  | 0x06 => s.setF (Reg.scnStatus n) 23 16 c
  | 0x07 => s.setF (Reg.fstRecStatus n) 23 16 c
  | 0x08 => s.setF (Reg.fstPlyStatus n) 23 16 c
  | _ => s

/-! Generators -/

/-- LOCK_SRC and LOCK_REF of a generator (R405, R425). -/
def State.lockSrc (s : State) (tg : Nat) : Nat := fld (s.liveReg (Reg.scnCtrl tg)) 2 1
def State.lockRef (s : State) (tg : Nat) : Nat := fld (s.liveReg (Reg.scnCtrl tg)) 13 4

/-- The reference of a generator's lock: absent or not running; of another rate; or usable (R405, R406, R408). -/
inductive RefState where
  | absent
  | mismatch
  | ok
  deriving DecidableEq, Repr

/-- The state of a generator's lock reference. -/
def State.lockRefState (s : State) (tg : Nat) : RefState :=
  let r := (genTiming s.liveReg tg).rate
  match s.lockSrc tg with
  | 2 =>
    if !s.genRuns (s.lockRef tg) then .absent
    else if rateEq r (genTiming s.liveReg (s.lockRef tg)).rate then .ok else .mismatch
  | 3 =>
    if !s.eiPresent (s.lockRef tg) then .absent
    else
      match s.eiFormat s.liveReg (s.lockRef tg) with
      | some f => if rateEq r (fps f) then .ok else .mismatch
      | none => .absent
  | _ => .ok

/-- The encoder EO ports a generator paces (R34, R428). -/
def State.pacedEos (s : State) (tg : Nat) : List Nat :=
  (s.spl.eoBind.filter (fun e => isEncoder e.2 && decide (s.pacedBy e.1 = some tg))).map Prod.fst

/-- Enter LOCKED, raising TG_LOCKED; encoders that showed fill until then show content again (R409, R418). -/
def genLocked (tg : Nat) (s : State) : State :=
  let was := (s.genSt tg).fillUntilLocked
  let s := setGenSt tg { s.genSt tg with fillUntilLocked := false } (raiseGen tg 0 (setLock tg 3 s))
  if was then (s.pacedEos tg).foldl (fun s eo => s.setBit (Reg.splSrc (destWin eo)) 15 (tabGet eo s.spl.losses).isSome) s else s

/-- Leave LOCKED for another lock state; TG_UNLOCKED is raised only from LOCKED (R409, R411). -/
def genUnlock (tg v : Nat) (s : State) : State :=
  let was := s.lockState tg
  let s := setLock tg v s
  if was = 3 then raiseGen tg 1 s else s

/-- A time in ns reduced to the range from minus half a frame period, exclusive, to plus half a frame period, inclusive (R406). -/
def Timing.reduce (t : Timing) (e : Int) : Int :=
  let p : Int := 1000000000 * t.rate.2
  let r : Int := max t.rate.1 1
  let x := Int.emod (e * r) (max p 1)
  Int.fdiv (if p < 2 * x then x - p else x) r

/-- The phase error of an alignment point at time `at_` of a generator's timing (R405, R406, R408): against the SMPTE epoch, the alignment points of another generator, or those of an
essence, as last seen. None under FREE, and while no alignment point of the essence has been seen. -/
def State.phaseAt (s : State) (tg : Nat) (at_ : Int) : Option Int :=
  let t := genTiming s.liveReg tg
  let e := at_ - sx 32 (s.liveReg (Reg.scnPhase tg)).toNat
  match s.lockSrc tg with
  | 1 => some (t.reduce e)
  | 2 =>
    let g := s.lockRef tg
    some (t.reduce (e - ((s.reg (Reg.scnAlignLo g)).toNat + 0x100000000 * (s.reg (Reg.scnAlignHi g)).toNat : Nat)))
  | 3 => (s.genSt tg).sourceAt.map (fun a => t.reduce (e - a))
  | _ => none

/-- The line at which a generator's frames begin for a splice point or a start (R401, R416): its SW line where its timing has one, else line 0. -/
def startLine (t : Timing) : Nat := ((smpteMatch t).bind (fun m => tableSw m.1)).getD 0

/-- The alignment point of the frame that a generator begins at time `at_` (R405). -/
def Timing.alignOf (t : Timing) (at_ : Nat) : Int := at_ + ((t.vF : Int) - startLine t) * t.lineNs

/-- The time in ns from `at_` to the first start of a generator's timing that is in phase (R409, R417); none where its reference is not known. -/
def State.toPhase (s : State) (tg at_ : Nat) : Option Nat :=
  let t := genTiming s.liveReg tg
  (s.phaseAt tg (t.alignOf at_)).map (fun e => (if e ≤ 0 then -e else (t.frameNs : Int) - e).toNat)

/-- A generator that starts now is inside LOCK_WINDOW (R409); a free value where its reference is not known. -/
def State.startsInPhase (s : State) (tg : Nat) : Bool :=
  match s.phaseAt tg ((genTiming s.liveReg tg).alignOf s.now) with
  | some e => decide (e.natAbs ≤ fld (s.liveReg (Reg.scnLockCfg tg)) 31 16)
  | none => decide (Config.freeNat s.draws % 2 = 0)

/-- A generator starts, or starts a new timing, with its phase inside LOCK_WINDOW or not (R401, R405, R406, R409, R411). -/
def genEnter (tg : Nat) (inPhase : Bool) (s : State) : State :=
  if s.lockSrc tg = 0 then setLock tg 1 s
  else
    match s.lockRefState tg with
    | .absent => setLock tg 4 s
    | .mismatch => setEngResult (objTg tg) .formatMismatch (setLock tg 4 s)
    | .ok => if inPhase then genLocked tg s else setLock tg 2 s

/-- SCN_STATUS.RUNNING and the match with the built-in table (R404, R426). -/
def genMatch (tg : Nat) (s : State) : State :=
  let a := Reg.scnStatus tg
  let s := s.setBit a 0 (s.genRuns tg)
  match smpteMatch (genTiming s.liveReg tg) with
  | some (e, r) => ((s.setBit a 5 true).setF a 10 6 e).setF a 13 11 r
  | none => ((s.setBit a 5 false).setF a 10 6 0).setF a 13 11 0

/-- The re-time gap in ns (R416, R417): the first in-phase start of the new timing when it lies from one old line to 2 ms ahead, else one old line;
and whether the generator is then in phase. -/
def gapOf (line : Nat) (locks : Bool) (inPhase : Option Nat) : Nat × Bool :=
  match inPhase with
  | some g => if locks && decide (line ≤ g ∧ g ≤ 2000000) then (g, true) else (line, false)
  | none => (line, false)

/-- The rate code of an SDI strand for a frame rate: its own, or the other member of its integer and /1.001 pair (R87, R415). -/
def pairCode (code : Nat) (m : Bool) : Nat :=
  let p := if code = 3 ∨ code = 5 ∨ code = 7 ∨ code = 0x0C then code - 1 else code
  if p = 2 ∨ p = 4 ∨ p = 6 ∨ p = 0x0B then (if m then p else p + 1) else code

/-- Strands take a new rate code or CUSTOM rate, and their transmit PLLs retune: a transmitter is DISABLED until its PLL locks (R90, R100, R415). What this does to a receiver of
the strand the spec does not say; its state stays. -/
def retuneStrands (ns : List Nat) (code custom : Nat) (s : State) : State :=
  if ns.all (fun n => decide (s.rate n = code ∧ (s.reg (Reg.strRateCustom n)).toNat = custom)) then s
  else
    let s := ns.foldl (fun s n => setStrand { s.strand with pllLocked := tabPut false n false s.strand.pllLocked }
      ((s.setF (Reg.strCfg n) 13 8 code).setReg (Reg.strRateCustom n) (wd custom))) s
    txRefreshAll ns s

/-- The strands of an encoder that a generator paces follow its new timing (R90, R415): an SDI strand within its pair, a TMDS source by its CUSTOM rate. -/
def retuneEo (t : Timing) (eo : Nat) (s : State) : State :=
  match s.consumer eo with
  | some (.sdiEnc n _) => if s.proto n = 1 then retuneStrands (s.members n) (pairCode (s.rate n) t.m) 0 s else s
  | some (.dispSrc dp) =>
    let n := 64 + 4 * dp
    if s.proto n = 3 ∧ s.rate n = 0x3F then
      let f := (s.eoFormat s.liveReg eo).getD (timingFormat t 2 0 0 true)
      let k := tmdsKbps t f.sampling f.depth
      if 250000 ≤ k ∧ k ≤ 6000000 then
        (s.members n).foldl (fun s i => s.setF (Reg.strState i) 14 12 (if k < 1250000 then min 5 (ceilDiv 1250000 k) else 1)) (retuneStrands (s.members n) 0x3F k s)
      else s
    else s
  | _ => s

/-- The strands of every encoder a generator paces follow its timing. -/
def retune (tg : Nat) (s : State) : State := (s.pacedEos tg).foldl (fun s eo => retuneEo (genTiming s.liveReg tg) eo s) s

/-- What a generator makes of its new live context; `oldRun`, `oldT` and `oldSrc` are of its live configuration before. A new raster, rate or scan of a running generator opens the
re-time gap. -/
def genSwapped (tg : Nat) (oldRun : Bool) (oldT : Timing) (oldSrc : Nat) (s : State) : State :=
  let s := genMatch tg s
  let new := s.genRuns tg
  if !new then (if oldRun then setGenSt tg genInit (setLock tg 0 (s.setBit (Reg.scnStatus tg) 4 false)) else s)
  else if !oldRun then genEnter tg (s.startsInPhase tg) s.draw
  else if genTiming s.liveReg tg = oldT then
    (if s.lockSrc tg = oldSrc then s else if s.lockSrc tg = 0 then setLock tg 1 s else genUnlock tg 2 s)
  else
    let s := raiseGen tg 3 ((retune tg s).setBit (Reg.scnStatus tg) 4 true)
    let g := gapOf oldT.lineNs (decide (s.lockSrc tg ≠ 0)) (s.toPhase tg s.now)
    setGenSt tg { s.genSt tg with gap := some (s.now + g.1, g.1, g.2) } s

/-! Layers -/

/-- The current and the pending handle of a layer (R392 CMP_L_CUR). -/
def State.curHandle (s : State) (cp l : Nat) : Option Nat :=
  if s.bit (Reg.cmpLCur cp l) 12 then some (s.f (Reg.cmpLCur cp l) 11 0) else none
def State.pendHandle (s : State) (cp l : Nat) : Option Nat :=
  if s.bit (Reg.cmpLCur cp l) 28 then some (s.f (Reg.cmpLCur cp l) 27 16) else none

/-- Set the current handle. -/
def setCur (cp l : Nat) (h : Option Nat) (s : State) : State :=
  match h with
  | some n => (s.setF (Reg.cmpLCur cp l) 11 0 n).setBit (Reg.cmpLCur cp l) 12 true
  | none => (s.setF (Reg.cmpLCur cp l) 11 0 0).setBit (Reg.cmpLCur cp l) 12 false

/-- Set the pending handle. -/
def setPend (cp l : Nat) (h : Option Nat) (s : State) : State :=
  match h with
  | some n => (s.setF (Reg.cmpLCur cp l) 27 16 n).setBit (Reg.cmpLCur cp l) 28 true
  | none => (s.setF (Reg.cmpLCur cp l) 27 16 0).setBit (Reg.cmpLCur cp l) 28 false

/-- Replace the pending flips. -/
def setFlips (t : Tab Flip) (s : State) : State := { s with eng := { s.eng with flips := t } }

/-- Post BUFFER_RETIRED (R374, R639). -/
def retire (n h : Nat) (never : Bool) (s : State) : State :=
  postTo ((tabGet h s.eng.handles).map (fun x => x.owner)) 1 (objHandle h) (n % 256 + 0x100 * b2n never) [] s

/-- Complete a pending flip that will not be taken; its handle retires unscanned (R373, R378). -/
def abortFlip (n : Nat) (s : State) : State :=
  match tabGet n s.eng.flips with
  | none => s
  | some f =>
    let s := setPend (n / 8) (n % 8) none (setFlips (tabDel n s.eng.flips) s)
    let s := (retire n f.handle true s).setBit (Reg.cmpLStatus (n / 8) (n % 8)) 9 false
    match f.origin with
    | some o => complete o .aborted (objLayer n) s
    | none => s

/-- A layer becomes ready or not; READY reads it (R394). -/
def layerReady (cp l : Nat) (v : Bool) (s : State) : State :=
  s.setF (Reg.cmpLStatus cp l) 2 0 (if v then 1 else 2 * showing s cp l)

/-- What a layer's new live descriptor brings (R378): its pending flip ends, and the handle it names becomes current. -/
def layerSwapped (cp l : Nat) (oldCtrl oldSource : Word) (s : State) : State :=
  let v := s.liveView
  let n := layerNo cp l
  let newSource := s.liveReg (Reg.cmpLSource cp l)
  let kept := decide (fld oldCtrl 2 1 = lKind v cp l ∧ bitOf oldCtrl 0 = lOn v cp l ∧ oldSource = newSource)
  if kept then s
  else
    let s := abortFlip n s
    let old := s.curHandle cp l
    let h := fld newSource 11 0
    let new := if lKind v cp l = 2 ∧ (tabGet h s.eng.handles).isSome then some h else none
    let s := match old with
      | some x => if new = some x then s else retire n x false s
      | none => s
    setLayerSt n { s.layerSt n with held := 0, lost := false, shown := none } (setCur cp l new s)

/-- CMP_L_DIRTY reads 0 after the commit that took it (R392). -/
def clearDirty (cp l : Nat) (s : State) : State :=
  (s.setReg (Reg.cmpLDirty cp l) 0).setLive (Reg.cmpLDirty cp l) 0

/-- Status of a layer from the live configuration: OCCLUDER, HIDE_AS_FILL, CULLED, taps, steps and charge (R350, R360 to R362, R386, R394). -/
def refreshLayer (cp l : Nat) (s : State) : State :=
  let v := s.liveView
  let a := Reg.cmpLStatus cp l
  let cull := bitOf (v.rd (Reg.cmpCfg cp)) 3
  let could := s.couldOcclude v cp l
  let beneath := (List.range l).any (fun k => lFetches v cp k && !((s.visible v cp k).meet (s.visible v cp l)).empty)
  let asFill := cull && could && decide (lPolicy v cp l = 1) && beneath
  let bytes := if lFetches v cp l then s.layerBytes v cp l else 0
  let s := s.setBit a 5 (could && (decide (lPolicy v cp l ≠ 1) || asFill))
  let s := s.setBit a 6 asFill
  let s := s.setBit a 3 (lOn v cp l && ((s.visible v cp l).empty || (lFetches v cp l && decide (bytes = 0))))
  let s := match s.layerSrc v cp l with
    | some f =>
      let st := layerSteps v cp l f
      ((s.setBit a 7 (decide (layerTaps v cp l f = some 2))).setReg (Reg.cmpLStepEffH cp l) (wd st.1)).setReg (Reg.cmpLStepEffV cp l) (wd st.2)
    | none => s
  s.setReg (Reg.cmpLBw cp l) (wd (kBps bytes (cpTiming v cp).rate / 1000))

/-- Drop the coil (R368). -/
def dropCoil (cp : Nat) (s : State) : State :=
  if !s.bit (Reg.cmpStatus cp) 1 then s
  else
    let s := { s with eng := { s.eng with coils := tabDel cp s.eng.coils } }
    let s := (s.setBit (Reg.cmpStatus cp) 1 false).setF (Reg.cmpStatus cp) 4 2 0
    let s := (List.range 8).foldl (fun s l => s.setBit (Reg.cmpLStatus cp l) 4 false) s
    raiseCp cp 1 (s.bump (Reg.cmpCoilDropCnt cp) 1)

/-- A layer's registers of the live context, for comparison. -/
def State.layerWords (s : State) (cp l : Nat) : List Word :=
  (List.range 14).map (fun i => s.liveReg (Reg.cmpLCtrl cp l + 4 * i))

/-- What a compositor makes of its new live context. -/
def cpSwapped (cp : Nat) (old : State) (s : State) : State :=
  let top := old.f (Reg.cmpStatus cp) 4 2
  let changed l := decide (old.layerWords cp l ≠ s.layerWords cp l) || bitOf (s.liveReg (Reg.cmpLDirty cp l)) 0
  let glob := decide (old.liveReg (Reg.cmpBg cp) ≠ s.liveReg (Reg.cmpBg cp) ∨ old.liveReg (Reg.cmpOutFmt cp) ≠ s.liveReg (Reg.cmpOutFmt cp) ∨
    fld (old.liveReg (Reg.cmpCfg cp)) 3 2 ≠ fld (s.liveReg (Reg.cmpCfg cp)) 3 2 ∨ !bitOf (s.liveReg (Reg.cmpCfg cp)) 0)
  let s := if glob || (List.range (top + 1)).any changed then dropCoil cp s else s
  let s := (List.range 8).foldl (fun s l =>
    if changed l then
      let s := layerSwapped cp l (old.liveReg (Reg.cmpLCtrl cp l)) (old.liveReg (Reg.cmpLSource cp l)) s
      clearDirty cp l (setLayerSt (layerNo cp l) { s.layerSt (layerNo cp l) with static := 0 } s)
    else s) s
  (List.range (s.cpLayers cp)).foldl (fun s l => refreshLayer cp l s) s

/-- An engine's shadow becomes its live context, with what follows from it (R255). -/
def switchEngine (e : Nat) (s : State) : State :=
  let n := objIndex e
  let new := swapIn e s
  match objClass e with
  | 0x04 => cpSwapped n s new
  | 0x06 => genSwapped n (s.genRuns n) (genTiming s.liveReg n) (s.lockSrc n) new
  | 0x03 =>
    let new := (s.gangOf n).foldl (fun x k => refit (x.sbSource x.liveReg k) x) new
    if s.eng.gangs.contains (n / 4) then new.setF (Reg.sbdGang (n / 4)) 2 1 (fld (new.liveReg (Reg.sbdCfg n)) 16 15) else new
  | _ => new

/-! Recorders, players and pacing -/

/-- A recorder's ring starts a new recording (R798): no older frame can be read. -/
def newRecording (r : Nat) (s : State) : State :=
  let s := setRecSt r { s.recSt r with nextSeq := 0, nextSlot := 0, writing := none, heads := [], lost := false, skipped := false } s
  ((s.setF (Reg.fstRecNewest r) 23 0 0).setReg (Reg.fstRecSeqLo r) 0).setReg (Reg.fstRecSeqHi r) 0

/-- A player makes its essence absent (R467, R468); `lost` raises SOURCE_LOST. -/
def playerStop (p : Nat) (lost : Bool) (s : State) : State :=
  let was := s.bit (Reg.fstPlyStatus p) 0
  let s := setPlySt p { s.plySt p with shown := none, lost := lost } (s.setBit (Reg.fstPlyStatus p) 0 false)
  let s := if was && lost then raisePly p 0 s else s
  setPresent (s.plyEi p) false s

/-- A register without a shadow context took its new value: what follows (R428, R467, R798). -/
def objApplied (a : Nat) (old new : Word) (s : State) : State :=
  match locate a with
  | none => s
  | some l =>
    match l.kind with
    | .fstRec =>
      if a = Reg.fstRecCtrl l.i then
        let s := s.setBit (Reg.fstRecStatus l.i) 0 (bitOf new 0)
        if bitOf new 0 && !bitOf old 0 then newRecording l.i s
        else if !bitOf new 0 then setRecSt l.i { s.recSt l.i with writing := none, skipped := false } s
        else s
      else if old = new then s
      else newRecording l.i s
    | .fstPly =>
      if a = Reg.fstPlyCtrl l.i then
        let s := if fld new 1 0 = 0 then playerStop l.i false s else s
        if old = new then s
        else setPlySt l.i { s.plySt l.i with since := s.now, atEnd := false } s
      else s
    | .pace => afterBind l.i s
    | _ => s

/-- Write a register without a shadow context into effect. -/
def applyReg (a : Nat) (v : Word) (s : State) : State :=
  let old := s.liveReg a
  objApplied a old v ((s.setLive a v).setReg a v)

/-- Apply a pending copy (R250). -/
def applyOp (op : PendOp) (s : State) : State :=
  match op with
  | .reg a v => applyReg a v s
  | .bind d src => reportReturn s d (bindDest d src s)
  | .flow key d => applyFlow key d s
  | .audio amo ami => bindAudio amo ami s

end Sys2Proof.Machine
end

