-- ==== Sys2Proof/Machine/Batches.lean ====
section
/-! DEFINITION. How a host command is taken (R278 to R286, R634, R635): alone, it is checked and carried out or refused; on a queue with
an open batch it is checked and held by the batch, or its refusal undoes the batch. -/

namespace Sys2Proof.Machine

open Sys2Proof

/-- The batch of a command's queue. -/
def State.batchOf (s : State) (o : Origin) : Option Batch := tabGet (qKey o.tenancy o.sq) s.host.batches

/-- TEN_BATCH_OPEN of a queue (R289). -/
def batchBit (t q : Nat) (v : Bool) (s : State) : State :=
  if q < 32 then s.setBit (Reg.tenBatchOpenLo t) q v else s.setBit (Reg.tenBatchOpenHi t) (q - 32) v

/-- Record the batch of a queue; its bit shows a batch that collects commands. -/
def setBatch (t q : Nat) (b : Batch) (s : State) : State :=
  batchBit t q (decide (b.phase = .collecting))
    { s with host := { s.host with batches := tabSet (qKey t q) b s.host.batches } }

/-- A queue's batch is over. -/
def dropBatch (t q : Nat) (s : State) : State :=
  batchBit t q false { s with host := { s.host with batches := tabDel (qKey t q) s.host.batches } }

/-- Undo an open batch for a refused command (R282): its commands complete with ABORTED, TEN_LAST_RB holds REFUSED with the command's own status. -/
def undoBatch (t q : Nat) (b : Batch) (c : ChangeSet) (st : Status) (obj : Nat) (s : State) : State :=
  let s := rollback c rbRefused .aborted obj s
  let s := s.setReg (Reg.tenLastRb t) (wd (rbRefused + 0x100 * statusCode st + 0x10000 * c.leader))
  setBatch t q { b with phase := .undone (statusCode st) obj } s

/-- A command in its place: alone, or on a queue with a batch. `check` sees the set that collects the batch, if any; `inBatch` puts the command's
effect into that set (R281). A command that follows the undoing of its batch completes with ABORTED, or with TIMEOUT after a BATCH_TIMEOUT (R282, R285). -/
def hostCommand (o : Origin) (batchable : Bool) (place : Place) (check : Option ChangeSet → State → Refuse) (alone : State → State)
    (inBatch : Nat → State → State) (s : State) : State :=
  match s.batchOf o with
  | none =>
    match firstRefusal [baseCheck o place s, check none s] with
    | some (st, obj) => complete o st obj s
    | none => alone s
  | some b =>
    match b.phase with
    | .refused => complete o .aborted 0 s
    | .undone st _ => complete o (if st = statusCode .timeout then .timeout else .aborted) 0 s
    | .collecting =>
      match s.findSet b.set with
      | none => complete o .aborted 0 (setBatch o.tenancy o.sq { b with phase := .undone (statusCode .aborted) 0 } s)
      | some c =>
        let refuse (st : Status) (obj : Nat) (s : State) : State := complete o st obj (undoBatch o.tenancy o.sq b c st obj s)
        match firstRefusal [baseCheck o place s, need batchable .badField 0, need (decide (b.count < 1024)) .noResource 0, check (some c) s] with
        | some (st, obj) => refuse st obj s
        | none =>
          let s' := inBatch b.set (updSet b.set (fun c => { c with origins := c.origins ++ [o] })
            (setBatch o.tenancy o.sq { b with count := b.count + 1 } s))
          match s'.findSet b.set with
          | some c' => if c'.arms.length ≤ 256 then s' else refuse .noResource 0 s
          | none => s'

/-- A command that no batch may hold (R280). -/
def loneCommand (o : Origin) (place : Place) (check : State → Refuse) (alone : State → State) (s : State) : State :=
  hostCommand o false place (fun _ => check) alone (fun _ s => s) s

/-- The zone of an object runs, or the object has none. -/
def needZone (c : Nat) (s : State) : Refuse :=
  need (s.zoneRuns c) .zoneBusy (match zoneOfObj c with | some z => objZone z | none => 0)

/-- The issuer owns an object. -/
def needOwner (o : Origin) (c : Nat) (s : State) : Refuse := need (decide (s.owner c = some o.tenancy)) .notOwner c

/-- The issuer is the rig owner (R633). -/
def needRig (o : Origin) (s : State) : Refuse := need (decide (o.tenancy = s.rigOwner)) .notOwner 0

/-- The mode is Service or Maintenance (R634). -/
def needServing (s : State) : Refuse := need s.serving .stateConflict 0

/-- Put a pending copy into a set (R250). -/
def addOp (id : Nat) (op : PendOp) (s : State) : State := updSet id (fun c => { c with ops := c.ops ++ [op] }) s

/-! NOP (R633) -/

/-- NOP completes with OK, with its batch when it is in one. -/
def doNop (o : Origin) (s : State) : State :=
  hostCommand o true .early (fun _ _ => none) (completeOk o) (fun _ s => s) s

def execNop (o : Origin) (s : State) : Host.Outcome State Fault Refusal := run (doNop o) s

/-! BATCH_OPEN, BATCH_CLOSE and their time-out -/

/-- The checks of BATCH_OPEN (R278). -/
def batchOpenCheck (o : Origin) (group : Nat) (s : State) : Refuse :=
  firstRefusal
    [need (decide (1 ≤ group ∧ group ≤ 63)) .badField (objSgroup o.tenancy (group % 64)),
     need ((s.setOfGroup o.tenancy group).isNone && s.serving) .stateConflict (objSgroup o.tenancy group)]

/-- An accepted BATCH_OPEN: a set collects the batch and occupies the group (R278, R284). -/
def batchOpenEffect (o : Origin) (group : Nat) (s : State) : State :=
  let si := openSet .batch o.tenancy group 0xFFFE 0 0 s
  let s := updSet si.2 (fun c => { c with phase := .collecting }) si.1
  completeOk o (refreshGroup o.tenancy group (setBatch o.tenancy o.sq ⟨.collecting, si.2, s.now, 0⟩ s))

/-- BATCH_OPEN: refused, the commands up to the next BATCH_CLOSE are aborted (R279); inside a batch it is refused (R278, R280). -/
def doBatchOpen (o : Origin) (group : Nat) (s : State) : State :=
  match s.batchOf o with
  | some _ => loneCommand o .working (fun _ => none) (fun s => s) s
  | none =>
    match firstRefusal [baseCheck o .working s, batchOpenCheck o group s] with
    | some (st, obj) => complete o st obj (setBatch o.tenancy o.sq ⟨.refused, 0, s.now, 0⟩ s)
    | none => batchOpenEffect o group s

def execBatchOpen (o : Origin) (group : Nat) (s : State) : Host.Outcome State Fault Refusal := run (doBatchOpen o group) s

/-- Finish a set: every command of it completes with OK, and the commit is counted (R267, R284, R289). -/
def finishSet (c : ChangeSet) (s : State) : State :=
  let s := setSets (s.spl.sets.filter (fun x => decide (x.id ≠ c.id))) s
  let s := refreshGroup c.owner c.group s
  completeAll c.origins 0 0 (s.bump (Reg.tenCommitCnt c.owner) 1)

/-- Commit a set that runs nothing at once (R201, R254, R283): engines swap, pending copies apply. -/
def commitNow (id : Nat) (s : State) : State :=
  match s.findSet id with
  | none => s
  | some c =>
    let s := c.ops.foldl (fun s op => applyOp op s) s
    let s := c.engines.foldl (fun s e =>
      let s := updSet id (fun c => { c with switchedEngines := c.switchedEngines ++ [e] }) (switchEngine e s)
      passEngine e s) s
    let s := c.ops.foldl (fun s op => match op with | .bind d _ => afterBind d s | _ => s) s
    match s.findSet id with
    | none => s
    | some c => finishSet c (enginesRefresh s)

/-- The running engines of a batch that drive no destination of it (R283). -/
def State.batchEngines (s : State) (c : ChangeSet) : List Nat := c.engines.filter (fun e => s.engRuns e)

/-- The other stream's EO of a level B-DS encoder (R142, R220). -/
def State.otherStream (s : State) (d : Nat) : Option Nat :=
  match s.consumer d with
  | some (.sdiEnc n st) =>
    if s.proto n = 1 ∧ s.leader n = n ∧ s.width n = 1 then
      (s.spl.eoBind.find? (fun e => match e.2 with | .sdiEnc m st' => decide (m = n ∧ st' ≠ st) | _ => false)).map Prod.fst
    else none
  | _ => none

/-- Every stream of a level B-DS encoder that a set changes has its other stream in the set, while that one carries a source (R220). -/
def State.bdsWhole (s : State) (c : ChangeSet) : Bool :=
  c.arms.all (fun a =>
    match s.otherStream a.dest with
    | some e => (s.hitch e).isNone || c.arms.any (fun b => decide (b.dest = e))
    | none => true)

/-- Another set than `c` that holds a destination's pending arm. -/
def State.otherHolder (s : State) (c : ChangeSet) (d : Nat) : Option ChangeSet :=
  s.spl.sets.find? (fun x => decide (x.id ≠ c.id) && x.arms.any (fun a => decide (a.dest = d) && !a.switched))

/-- A batch that closes replaces the pending arms of its destinations (R205, R206). -/
def displace (c : ChangeSet) (s : State) : State :=
  c.arms.foldl (fun s a =>
    match s.otherHolder c a.dest with
    | some x => rollbackFor x rbReplaced (leaderObj x) s
    | none => s) s

/-- What BATCH_CLOSE judges of a batch as a whole: the streams of a level B-DS encoder together (R220), and no destination that went past ARMED meanwhile (R202). -/
def batchWhole (c : ChangeSet) (s : State) : Refuse :=
  firstRefusal
    (need (s.bdsWhole c) .stateConflict (leaderObj c) ::
     c.arms.map (fun a => need (((s.otherHolder c a.dest).map (fun x => decide (x.phase = .armed))).getD true) .stateConflict (objDest a.dest)))

/-- An accepted BATCH_CLOSE: the batch becomes a group with its TAKE_MODE, or commits at once when nothing of it runs (R283). -/
def batchCloseEffect (o : Origin) (b : Batch) (c : ChangeSet) (mode time : Nat) (s : State) : State :=
  let s := displace c (dropBatch o.tenancy o.sq s)
  let s := updSet b.set (fun c => { c with origins := c.origins ++ [o], mode := mode, time := time, phase := .armed, accepted := s.now, arms := c.arms.map (fun a => { a with accepted := s.now }) }) s
  let s := refreshGroup o.tenancy c.group s
  if c.arms.isEmpty && (s.batchEngines c).isEmpty then commitNow b.set s else s

/-- BATCH_CLOSE (R72, R279, R282 to R285): a batch that touches a zone that does not run is refused whole. -/
def doBatchClose (o : Origin) (mode time : Nat) (s : State) : State :=
  match s.batchOf o with
  | none => complete o .badField 0 s
  | some b =>
    match b.phase with
    | .refused => complete o .aborted 0 (dropBatch o.tenancy o.sq s)
    | .undone st obj => completeWith o st obj 0 false (dropBatch o.tenancy o.sq s)
    | .collecting =>
      match s.findSet b.set with
      | none => complete o .aborted 0 (dropBatch o.tenancy o.sq s)
      | some c =>
        match firstRefusal [baseCheck o .early s, need (decide (mode ≤ 2 ∧ time ≤ s.now + 86400000000000 ∨ mode ≤ 2 ∧ mode ≠ 1)) .badField 0,
          needZones c s, batchWhole c s] with
        | some (st, obj) =>
          complete o st obj (dropBatch o.tenancy o.sq (undoBatch o.tenancy o.sq b c st obj s))
        | none => batchCloseEffect o b c mode time s

def execBatchClose (o : Origin) (mode time : Nat) (s : State) : Host.Outcome State Fault Refusal := run (doBatchClose o mode time) s

/-- No BATCH_CLOSE within 1,000 ms: the batch is undone and its commands complete with TIMEOUT (R285). -/
def doBatchTimeout (t q : Nat) (s : State) : State :=
  match tabGet (qKey t q) s.host.batches with
  | none => s
  | some b =>
    if b.phase = .collecting ∧ b.since + 1000000000 ≤ s.now then
      match s.findSet b.set with
      | some c => setBatch t q { b with phase := .undone (statusCode .timeout) 0 } (rollbackFor c rbBatchTimeout 0 s)
      | none => setBatch t q { b with phase := .undone (statusCode .aborted) 0 } s
    else s

def execBatchTimeout (t q : Nat) (s : State) : Host.Outcome State Fault Refusal := run (doBatchTimeout t q) s

end Sys2Proof.Machine
end

