-- ==== Sys2Proof/Machine/Splice.lean ====
section
/-! DEFINITION. Hitches, splices, takes and cancels, by command and by register (R194 to R231, R239, R242, R247). -/

namespace Sys2Proof.Machine

open Sys2Proof

/-- The source a destination has once the arms and copies of a set are taken into account (R281). -/
def State.hitchIn (s : State) (set : Option ChangeSet) (d : Nat) : Option Nat :=
  match set with
  | none => s.hitch d
  | some c =>
    match c.arms.find? (fun a => decide (a.dest = d)) with
    | some a => a.source
    | none =>
      match c.ops.find? (fun op => match op with | .bind x _ => decide (x = d) | _ => false) with
      | some (.bind _ src) => src
      | _ => s.hitch d

/-- The engine inputs behind a producer: what a chain of essence hitches passes through (R31). -/
def State.producerInputs (s : State) : Producer → List Nat
  | .sbOut n => if s.eng.gangs.contains (n / 4) then (List.range 4).map (fun q => s.sbEo (n / 4 * 4 + q)) else [s.sbEo n]
  | .cpOut n => s.cpEos n
  | _ => []

/-- The sources an egress port has or may come to have: its hitch, or what the command's set gives it, and what every other pending splice or batch gives it (R31, R281). -/
def State.maySources (s : State) (set : Option ChangeSet) (d : Nat) : List Nat :=
  (s.hitchIn set d).toList ++ (s.spl.sets.filter (fun c => decide (some c.id ≠ set.map (fun x => x.id)))).flatMap (fun c =>
    (c.arms.filter (fun a => decide (a.dest = d) && !a.switched)).filterMap (fun a => a.source) ++
    c.ops.filterMap (fun op => match op with | .bind x src => (if x = d then src else none) | _ => none))

/-- The ingress ports that feed an ingress port through one engine (R31). -/
def State.feedsEi (s : State) (set : Option ChangeSet) (ei : Nat) : List Nat :=
  match s.producer ei with
  | none => []
  | some p => (s.producerInputs p).flatMap (s.maySources set)

/-- Every ingress port upstream of those in `todo`, each visited once; `fuel` bounds the visits. -/
def upstream : Nat → State → Option ChangeSet → List Nat → List Nat → List Nat
  | 0, _, _, _, seen => seen
  | _ + 1, _, _, [], seen => seen
  | k + 1, s, set, e :: todo, seen =>
    if seen.contains e then upstream k s set todo seen
    else upstream k s set (s.feedsEi set e ++ todo) (e :: seen)

/-- The ingress port an engine whose input is `eo` puts its output on. -/
def State.outputsOf (s : State) (eo : Nat) : List Nat :=
  match s.consumer eo with
  | some (.sbIn n) => s.sbOutEis n
  | some (.layer cp _) => [s.cpEi cp]
  | _ => []

/-- A hitch of `ei` to `eo` would close a loop: the engine that `eo` feeds is upstream of `ei` (R31). At most 1024 ports are visited, each with at most 8 sources per set. -/
def State.loops (s : State) (set : Option ChangeSet) (ei eo : Nat) : Bool :=
  let up := upstream 0x10000 s set [ei] []
  (s.outputsOf eo).any (fun e => up.contains e)

/-- A destination has a source, or may come to have one (R26, R281). -/
def State.maySource (s : State) (set : Option ChangeSet) (d : Nat) : Bool := !(s.maySources set d).isEmpty

/-- The strand's own encoder drives its transmitter, or a source feeds or is to feed it (R26). A PRBS generator does not count: a hitch ends it (R115). -/
def State.encoderDrives (s : State) (set : Option ChangeSet) (n : Nat) : Bool :=
  s.encoderRuns (s.leader n) || (decide (s.proto n = 2) && s.sendFlowOn (s.leader n)) ||
  (s.encoderEos (s.leader n)).any (s.maySource set)

/-- A hitch would give a transmitter a second driver (R26, R163), with the batch that holds it and every pending splice taken into account. -/
def State.secondDriver (s : State) (set : Option ChangeSet) (d : Nat) : Bool :=
  if destIsStrand d then !s.maySource set d && (s.braid (destNumber d)).any (s.encoderDrives set)
  else
    match s.consumer d with
    | some c =>
      match encoderStrand c with
      | some n => (s.members n).any (fun k => s.maySource set (destStrand k))
      | none => false
    | none => false

/-- Two formats agree in raster, rate, scan, sampling, depth and SDI level (R210). -/
def sameWire (a b : Format) : Bool :=
  decide (a.width = b.width ∧ a.height = b.height ∧ a.scan = b.scan ∧ a.sampling = b.sampling ∧ a.depth = b.depth ∧ a.level = b.level) &&
  rateEq (fps a) (fps b)

/-- A strand taut source meets its egress (R28, R95, R105, R207, R210). -/
def State.tautFits (s : State) (n src : Nat) : Bool :=
  decide (s.proto n ≠ 3 ∧ s.proto src ≠ 3) && s.sameRate n src &&
  decide (s.proto n = s.proto src ∨ s.proto n = 0) && decide (s.width n = s.width src) && (tautClass (s.proto n) (s.proto src)).isSome &&
  (match s.hitch (destStrand n), tabGet n s.strand.tautFormat, tabGet src s.wire.formats with
   | some _, some f, some g => decide (s.proto src ≠ 1) || sameWire f g
   | _, _, _ => true)

/-- The encoder of an EO takes an essence: a format of R141 for its strand's rate code, one of the two streams of level B-DS, one quadrant of four (R142), or of a display
source one of R143 within its link. -/
def State.encoderTakes (s : State) (d : Nat) (f : Format) : Bool :=
  match s.consumer d with
  | some (.dispSrc dp) => dispAccepts f && s.linkFits dp f
  | some (.sdiEnc n st) =>
    let streams := (s.encoderEos n).length
    let one := sdiAccepts (s.rate n) (decide (1 < s.width n)) { f with streams := 0, level := 1 }
    if s.rate n = 0 then true
    else if 1 < s.width n then
      (decide (2 < streams) && decide (f.width = 3840 ∧ f.height = 2160 ∧ f.scan = 0) && fpsHigh f && is422 f) || (decide (st = 0) && one)
    else if 1 < streams ∧ (s.rate n = 4 ∨ s.rate n = 5) then hdFormat f || (decide (st = 0) && one)
    else one
  | _ => true

/-- An essence source meets its consumer (R32, R141 to R143, R145): the two streams of a level B-DS encoder are of one format (R142). -/
def State.essenceFits (s : State) (set : Option ChangeSet) (d src : Nat) : Bool :=
  match s.eiFormat s.reg src with
  | none => true
  | some f =>
    pixelRateOk f && s.encoderTakes d f &&
    (match (s.otherStream d).bind (s.hitchIn set) with
     | some e => (match s.eiFormat s.reg e with | some g => sameWire f g | none => true)
     | none => true)

/-- The object code of a destination's source. -/
def srcObj (d src : Nat) : Nat := if destIsStrand d then objStrand src else objEi src

/-- A source of a kind a destination takes, in range (R194). -/
def srcInRange (d src : Nat) : Bool := if destIsStrand d then decide (src < 128) else decide (src < 1024)

/-- The leader strand is named for a braid (R194). -/
def State.leaderNamed (s : State) (d : Nat) (src : Option Nat) : Bool :=
  !destIsStrand d ||
  (decide (s.proto (destNumber d) = 3) || s.leads (destNumber d)) &&
  (match src with | some x => decide (s.proto x = 3) || s.leads x | none => true)

/-- A splice on one stream of a level B-DS encoder needs the other stream's destination armed in the same group (R220): judged where the arm would
stand alone for good. In a group or a batch the other may still follow: the group enters no preroll without it, and BATCH_CLOSE judges the whole (DEDUCED, log entry on both
streams). -/
def State.bdsAlone (s : State) (d group : Nat) (set : Option ChangeSet) : Bool :=
  match s.otherStream d with
  | none => false
  | some e => (s.hitch e).isSome && decide (group = 0) && set.isNone

/-- The checks of R202, in its order. `src` is none for a release; `arms` says that the command arms a splice, as HITCH and UNHITCH do where the destination runs (R201). An arm
that joins an AT_TIME group shares the time of its first member, whatever time it gives: R202 names no refusal for another time (DEDUCED from R227, log entry on groups). -/
def hitchCheck (t d : Nat) (src : Option Nat) (mode group : Nat) (absent noPromote : Bool) (time : Nat) (set : Option ChangeSet) (arms : Bool)
    (s : State) : Refuse :=
  let od := objDest d
  let sx := match src with | some x => srcObj d x | none => od
  let st := s.destState d
  firstRefusal
    [need (destOk d && (src.map (srcInRange d)).getD true && s.leaderNamed d src && decide (mode ≤ 2 ∧ group ≤ 63) &&
       (decide (mode ≠ 1) || decide (time ≤ s.now + 86400000000000))) .badField od,
     need (decide (s.owner od = some t)) .notOwner od,
     need ((src.map (fun x => s.mayUse t (srcObj d x))).getD true) .notOwner sx,
     needServing s,
     needZone od s,
     need (s.zoneRuns sx) .zoneBusy (match zoneOfObj sx with | some z => objZone z | none => 0),
     need (src.isNone || !s.secondDriver set d) .stateConflict od,
     need (match src with | some x => destIsStrand d || !s.loops set x d | none => true) .stateConflict od,
     need (decide (st ≠ 2 ∧ st ≠ 3 ∧ st ≠ 4)) .stateConflict od,
     need (match s.setOfGroup t group with
       | some c => decide ((c.phase = .armed ∨ c.phase = .deferred) ∧ c.mode = mode) &&
           decide ((c.arms.filter (fun a => decide (a.dest ≠ d))).length < 256)
       | none => true) .stateConflict (objSgroup t group),
     need (!(arms && s.bdsAlone d group set)) .stateConflict od,
     need (!s.fpFault d) .stateConflict (objFid (fpOf d)),
     need (match src with
       | some x => if destIsStrand d then s.tautFits (destNumber d) x else s.essenceFits set d x
       | none => true) .formatMismatch od,
     need (match src with | some x => absent || s.srcPresent d x | none => true) .sourceAbsent sx,
     need (match src with
       | some x => !(arms && s.wantsReserve d src noPromote) || (s.reserveFor (destNumber d) x t).isSome
       | none => true) .noResource od]

/-- The splice fid that serves an egress port gets work from FS (R37, R38, R589). -/
def serve (d : Nat) (s : State) : State := if destIsStrand d then s else mailbox (fpOf d) s

/-- The checks of HITCH and UNHITCH: those of a NEXT arm with group 0 and no flags where the destination runs (R201, R202). -/
def hitchRefuse (o : Origin) (d : Nat) (src : Option Nat) (set : Option ChangeSet) (s : State) : Refuse :=
  hitchCheck o.tenancy d src 0 0 false false 0 set (s.destRuns d) s

/-- Carry out a checked HITCH or UNHITCH (R201): at once, or as a NEXT splice on a running destination. -/
def hitchEffect (o : Origin) (d : Nat) (src : Option Nat) (s : State) : State :=
  if s.destRuns d then serve d (acceptArm (some o) o.tenancy d src 0 0 0 false false s)
  else serve d (completeOk o (reportReturn s d (bindNow d src s)))

/-- A HITCH or UNHITCH held by a batch: a member when its destination runs, else a pending copy (R281, R283). -/
def hitchBatch (o : Origin) (d : Nat) (src : Option Nat) (id : Nat) (s : State) : State :=
  if s.destRuns d then serve d (joinArm id o.tenancy d none src false false s)
  else serve d (addOp id (.bind d src) s)

/-- HITCH (R201). -/
def doHitch (o : Origin) (d src : Nat) (s : State) : State :=
  hostCommand o true .working (hitchRefuse o d (some src)) (hitchEffect o d (some src)) (hitchBatch o d (some src)) s

def execHitch (o : Origin) (d src : Nat) (s : State) : Host.Outcome State Fault Refusal := run (doHitch o d src) s

/-- UNHITCH (R201). -/
def doUnhitch (o : Origin) (d : Nat) (s : State) : State :=
  hostCommand o true .working (hitchRefuse o d none) (hitchEffect o d none) (hitchBatch o d none) s

def execUnhitch (o : Origin) (d : Nat) (s : State) : Host.Outcome State Fault Refusal := run (doUnhitch o d) s

/-- The source an ARM_SPLICE or a register arm asks for. -/
def armSource (src : Nat) (unhitch : Bool) : Option Nat := if unhitch then none else some src

/-- ARM_SPLICE (R203): armed, it completes with its outcome. With UNHITCH the source field is 0 (R629). -/
def doArmSplice (o : Origin) (d src mode group : Nat) (absent noPromote unhitch : Bool) (time : Nat) (s : State) : State :=
  loneCommand o .working
    (fun s => firstRefusal [need (!unhitch || decide (src = 0)) .badField (objDest d),
      hitchCheck o.tenancy d (armSource src unhitch) mode group absent noPromote time none true s])
    (fun s => serve d (acceptArm (some o) o.tenancy d (armSource src unhitch) mode group time absent noPromote s)) s

def execArmSplice (o : Origin) (d src mode group : Nat) (absent noPromote unhitch : Bool) (time : Nat) (s : State) :
    Host.Outcome State Fault Refusal := run (doArmSplice o d src mode group absent noPromote unhitch time) s

/-- The set TAKE and CANCEL_SPLICE act on: a group, or a destination's when GROUP is 0 (R225, R226). -/
def State.targetSet (s : State) (t group d : Nat) : Option ChangeSet :=
  if group ≠ 0 then s.setOfGroup t group else s.setOfDest d

/-- The object TAKE and CANCEL_SPLICE name. -/
def targetObj (t group d : Nat) : Nat := if group ≠ 0 then objSgroup t group else objDest d

/-- Checks that TAKE and CANCEL_SPLICE share (R634). -/
def targetCheck (o : Origin) (group d : Nat) (s : State) : Refuse :=
  firstRefusal
    [need (decide (group ≤ 63) && (decide (group ≠ 0) || destOk d)) .badField (targetObj o.tenancy (group % 64) d),
     need (decide (group ≠ 0) || decide (s.owner (objDest d) = some o.tenancy)) .notOwner (objDest d),
     needServing s,
     need (decide (group ≠ 0) || s.zoneRuns (objDest d)) .zoneBusy (match zoneOfObj (objDest d) with | some z => objZone z | none => 0),
     (if group = 0 then s.setOfDest d else s.setOfGroup o.tenancy group).bind (fun c => needZones c s)]

/-- A set that TAKE may trigger (R225). -/
def takeable (c : ChangeSet) : Bool := decide (c.mode = 2) && decide (c.phase = .armed ∨ c.phase = .preroll)

/-- A set that CANCEL_SPLICE may cancel (R226). -/
def cancellable (c : ChangeSet) : Bool := decide (c.phase = .armed ∨ c.phase = .preroll ∨ c.phase = .deferred)

/-- Trigger a set (R225). -/
def takeSet (c : ChangeSet) (s : State) : State := updSet c.id (fun c => { c with taken := true }) s

/-- Cancel a set (R226, R263): the whole set rolls back. R263 has it done at once, where R226 has a set in PREROLL or DEFERRED roll back at its splice point; the model follows
R263 (DEDUCED, log entry on cancels). -/
def cancelSet (c : ChangeSet) (s : State) : State := rollbackFor c rbCancelled (leaderObj c) s

/-- The splice fids of a set's destinations get work from FS (R37, R38, R589). -/
def serveSet (c : ChangeSet) (s : State) : State := fidEventSet c 0 s

/-- TAKE (R225). -/
def doTake (o : Origin) (group d : Nat) (s : State) : State :=
  loneCommand o .working
    (fun s => firstRefusal [targetCheck o group d s,
      need (((s.targetSet o.tenancy group d).map takeable).getD false) .stateConflict (targetObj o.tenancy group d)])
    (fun s => match s.targetSet o.tenancy group d with
      | some c => serveSet c (completeOk o (takeSet c s))
      | none => s) s

def execTake (o : Origin) (group d : Nat) (s : State) : Host.Outcome State Fault Refusal := run (doTake o group d) s

/-- CANCEL_SPLICE (R226). -/
def doCancelSplice (o : Origin) (group d : Nat) (s : State) : State :=
  loneCommand o .working
    (fun s => firstRefusal [targetCheck o group d s,
      need (((s.targetSet o.tenancy group d).map cancellable).getD false) .stateConflict (targetObj o.tenancy group d)])
    (fun s => match s.targetSet o.tenancy group d with
      | some c => serveSet c (completeOk o (cancelSet c s))
      | none => s) s

def execCancelSplice (o : Origin) (group d : Nat) (s : State) : Host.Outcome State Fault Refusal := run (doCancelSplice o group d) s

/-! By register -/

/-- The tenancy a register write acts for: the writer's, or the owner of the object for a fid or the debug port. -/
def State.actsFor (s : State) (m : Master) (obj : Nat) : Nat :=
  match m with
  | .tenancy t => t
  | _ => (s.owner obj).getD s.rigOwner

/-- A destination window refuses a write (R247): PREROLL, DECIDED or DEFERRED. -/
def State.destHeld (s : State) (d : Nat) : Bool := decide (2 ≤ s.destState d ∧ s.destState d ≤ 4)

/-- Arm from the shadow values (R204): a refusal shows in LAST_RESULT alone. -/
def armFromRegs (m : Master) (d : Nat) (v : Word) (s : State) : State :=
  let w := destWin d
  let t := s.actsFor m (objDest d)
  let mode := fld v 2 1
  let group := fld v 8 3
  let absent := bitOf v 9
  let noPromote := bitOf v 10
  let src := armSource (s.f (Reg.splArmSrc w) 10 0) (bitOf v 11)
  let time := (s.reg (Reg.splArmTimeLo w)).toNat + 0x100000000 * (s.reg (Reg.splArmTimeHi w)).toNat
  let s := s.setReg (Reg.splArmCtrl w) (v &&& wd 0xFFE)
  match hitchCheck t d src mode group absent noPromote time none true s with
  | some (st, _) => setResult d st s
  | none => acceptArm none t d src mode group time absent noPromote s

/-- What a write of SPL_ARM_CTRL with ARM 1 does once it reaches the window (R204, R247). -/
def armWrite (m : Master) (d : Nat) (v : Word) (s : State) : State :=
  if !s.serving || s.destHeld d then setResult d .stateConflict s else armFromRegs m d v s

/-- What a write of SPL_ARM_CTRL with CANCEL 1 does (R226, R247); the outcome shows in LAST_RESULT. -/
def cancelWrite (d : Nat) (s : State) : State :=
  if !s.serving then setResult d .stateConflict s
  else
    match s.setOfDest d with
    | some c => if cancellable c then cancelSet c s else setResult d .stateConflict s
    | none => setResult d .stateConflict s

/-- A write of SPL_ARM_CTRL that sets neither ARM nor CANCEL stores its shadow values (R242, R247). -/
def armCtrlStore (d : Nat) (v : Word) (s : State) : State :=
  if s.destHeld d then setResult d .stateConflict s else s.setReg (Reg.splArmCtrl (destWin d)) (v &&& wd 0xFFE)

/-- A write of SPL_ARM_CTRL, by its bits: CANCEL first, then ARM. -/
def armCtrlWrite (m : Master) (d : Nat) (v : Word) (s : State) : State :=
  if bitOf v 12 then cancelWrite d s
  else if bitOf v 0 then armWrite m d v s
  else armCtrlStore d v s

/-- ARM: a write of SPL_ARM_CTRL by a master (R204). -/
def doArm (m : Master) (d : Nat) (v : Word) (s : State) : State :=
  gatedWrite m (Reg.splArmCtrl (destWin d)) (fun _ => armCtrlWrite m d (v ||| wd 1)) s

def execArm (m : Master) (d : Nat) (v : Word) (s : State) : Host.Outcome State Fault Refusal := run (doArm m d v) s

/-- CANCEL: a write of SPL_ARM_CTRL with CANCEL set (R242). -/
def doCancel (m : Master) (d : Nat) (v : Word) (s : State) : State :=
  gatedWrite m (Reg.splArmCtrl (destWin d)) (fun _ => armCtrlWrite m d (v ||| wd 0x1000)) s

def execCancel (m : Master) (d : Nat) (v : Word) (s : State) : Host.Outcome State Fault Refusal := run (doCancel m d v) s

/-- The tenancy whose groups a write of SPL_TAKE or SPL_CANCEL names: the writer's (R239). -/
def groupTenancy (m : Master) (s : State) : Nat := (masterTenancy m).getD s.rigOwner

/-- SPL_TAKE (R225, R239): TAKE of a group of the writer, without a result. -/
def doSplTake (m : Master) (v : Word) (s : State) : State :=
  gatedWrite m Reg.splTake (fun _ s =>
    if s.serving then
      match s.setOfGroup (groupTenancy m s) (fld v 5 0) with
      | some c => if takeable c then takeSet c s else s
      | none => s
    else s) s

def execSplTake (m : Master) (v : Word) (s : State) : Host.Outcome State Fault Refusal := run (doSplTake m v) s

/-- SPL_CANCEL (R226, R239): cancels a group of the writer, without a result. -/
def doSplCancel (m : Master) (v : Word) (s : State) : State :=
  gatedWrite m Reg.splCancel (fun _ s =>
    if s.serving then
      match s.setOfGroup (groupTenancy m s) (fld v 5 0) with
      | some c => if cancellable c then cancelSet c s else s
      | none => s
    else s) s

def execSplCancel (m : Master) (v : Word) (s : State) : Host.Outcome State Fault Refusal := run (doSplCancel m v) s

end Sys2Proof.Machine
end

