-- ==== Sys2Proof/Machine/Preroll.lean ====
section
/-! DEFINITION. Preroll entry and its checks (R257 to R261, R272 to R275, R794), hook runs ahead of it (R595), and deferral under the belay (R276, R277). -/

namespace Sys2Proof.Machine

open Sys2Proof

/-! The configuration a set gives -/

/-- The new value a set's pending copies give a register, if one (R250). -/
def opReg (a : Nat) : List PendOp → Option Word
  | [] => none
  | .reg b v :: l =>
    match opReg a l with
    | some w => some w
    | none => if b = a then some v else none
  | _ :: l => opReg a l

/-- What the branch of a set reads: the shadows of its engines, its pending copies and its new hitches (R249, R250). -/
def State.setView (s : State) (c : ChangeSet) : View where
  rd a :=
    match opReg a c.ops with
    | some v => v
    | none =>
      match locate a with
      | none => wd 0
      | some l =>
        if l.row.acc ≠ .rws then s.reg a
        else
          match s.ctxOwnerOf l with
          | some e => if c.engines.contains e then s.reg a else s.liveReg a
          | none => s.liveReg a
  hitch d := s.hitchIn (some c) d

/-- Every object of a set's branch, by object code (R249). -/
def State.branch (s : State) (c : ChangeSet) : List Nat :=
  (c.engines.foldr (fun e acc => (if objClass e = 0x03 then (s.gangOf (objIndex e)).map objSb else [e]) ++ acc) []) ++
  opObjs c.ops ++ c.arms.map (fun a => objDest a.dest)

/-- The EO ports a generator paces in a view. -/
def State.pacedIn (s : State) (v : View) (tg : Nat) : List Nat :=
  (s.spl.eoBind.filter (fun e => bitOf (v.rd (Reg.scnPace e.1)) 8 && decide (fld (v.rd (Reg.scnPace e.1)) 7 0 = tg))).map Prod.fst

/-- What R794 judges of one object at preroll entry. -/
def State.objInvalid (s : State) (v : View) (e : Nat) : Unfit :=
  match objClass e with
  | 0x03 => s.sbInvalid v (objIndex e)
  | 0x04 => s.cpInvalid v (objIndex e)
  | 0x06 => fitsOr (!bitOf (v.rd (Reg.scnCtrl (objIndex e))) 0 || (genTiming v.rd (objIndex e)).valid) rbInvalid
  | 0x07 => fitsOr (!bitOf (v.rd (Reg.fstRecCtrl (objIndex e))) 0 || decide (v.rd (Reg.fstRecSlot (objIndex e)) ≠ 0)) rbInvalid
  | 0x08 =>
    fitsOr (decide (fld (v.rd (Reg.fstPlyCtrl (objIndex e))) 1 0 = 0) ||
      decide (fld (v.rd (Reg.fstPlyDelay (objIndex e))) 23 0 + 2 ≤ fld (v.rd (Reg.fstRecDepth (plyRecorder v.rd (objIndex e)))) 23 0)) rbInvalid
  | _ => none

/-- An SDI rate code and the other member of its integer and /1.001 pair (R87, R415). -/
def ratePair (c : Nat) : Nat :=
  match c with
  | 0x02 => 0x03 | 0x03 => 0x03 | 0x04 => 0x05 | 0x05 => 0x05 | 0x06 => 0x07 | 0x07 => 0x07 | 0x0B => 0x0C | 0x0C => 0x0C | c => c

/-- Line rate class of an SDI timing by its raster: the rate code it needs, with the pair folded (R141, R415). -/
def sdiClass (t : Timing) : Nat :=
  let r := t.rate
  if t.vTotal ≤ 625 ∧ t.hA = 720 then 0x01
  else if t.hA * t.height ≤ 1280 * 720 then 0x03
  else if t.height ≤ 1080 then (if r.1 ≤ 31 * r.2 then 0x03 else 0x05)
  else if r.1 ≤ 31 * r.2 then 0x07 else 0x0C

/-- A display source takes a new timing (R145, R415), judged at the sampling and depth of the essence it is hitched to: within its trained link, or for TMDS within the range of its
CUSTOM rate (R90), which follows. With no essence known it sends its fill, and RGB in 8 bits is judged (DESIGN CHOICE, log entry on link capacity). -/
def State.dispTiming (s : State) (v : View) (dp eo : Nat) (t : Timing) : Bool :=
  let f := (s.inFormat v eo).getD (timingFormat t 2 0 0 true)
  if s.rate (64 + 4 * dp) = 0x3F then decide (250000 ≤ tmdsKbps t f.sampling f.depth ∧ tmdsKbps t f.sampling f.depth ≤ 6000000)
  else s.linkFits dp (timingFormat t f.sampling f.depth f.colour f.fullRange)

/-- What R415 refuses of a generator's new timing on what it paces. -/
def State.genUnfit (s : State) (v : View) (tg : Nat) : Unfit :=
  let t := genTiming v.rd tg
  let old := genTiming s.liveReg tg
  if !bitOf (v.rd (Reg.scnCtrl tg)) 0 then none
  else
    firstUnfit ((s.pacedIn v tg).map (fun eo =>
      match s.consumer eo with
      | some (.sdiEnc n _) =>
        fitsOr ((smpteMatch t).isSome && (!s.genRuns tg || !old.valid || decide (sdiClass t = sdiClass old) ||
          decide (ratePair (s.rate n) = sdiClass t))) rbFormat
      | some (.dispSrc dp) => fitsOr (s.dispTiming v dp eo t) rbFormat
      | some (.tx2110 _) =>
        fitsOr (!s.genRuns tg || !(s.paceTg eo).isSome || decide (t.hA = old.hA ∧ t.height = old.height ∧ t.scan = old.scan) && rateEq t.rate old.rate) rbFormat
      | _ => none))

/-- Line buffers and formats of one object (R258 check 3, R310, R355, R404, R415). -/
def State.objUnfit (s : State) (v : View) (e : Nat) : Unfit :=
  match objClass e with
  | 0x03 => s.sbEngineUnfit v (objIndex e)
  | 0x04 => s.cpUnfit v (objIndex e)
  | 0x06 => s.genUnfit v (objIndex e)
  | 0x01 =>
    if destIsStrand (objIndex e) then none
    else
      match s.consumer (objIndex e), bitOf (v.rd (Reg.scnPace (objIndex e))) 8 with
      | some (.sdiEnc _ _), true => fitsOr ((smpteMatch (genTiming v.rd (fld (v.rd (Reg.scnPace (objIndex e))) 7 0))).isSome) rbFormat
      | _, _ => none
  | _ => none

/-- The first object of a branch that fails a judgement, and its reason. -/
def firstBad (f : Nat → Unfit) : List Nat → Option (Nat × Nat)
  | [] => none
  | e :: l =>
    match f e with
    | some r => some (r, e)
    | none => firstBad f l

/-! Admission of the preroll frame (R272) -/

/-- The increase of one object over its live charge in the preroll frame. -/
def State.preCharge (s : State) (v : View) (e : Nat) : Nat :=
  let new := s.chargeOf v e
  match objClass e with
  | 0x03 => 2 * max (s.charge e) new - s.charge e
  | 0x04 => 2 * max (s.charge e) new - s.charge e
  | 0x06 => 0
  | _ => 2 * new - s.charge e

/-- The preroll reservation of a set, by object: engines, objects and promotion buffers. -/
def State.preReserve (s : State) (c : ChangeSet) : List (Nat × Nat) :=
  (s.branch c).map (fun e => (e, s.preCharge (s.setView c) e)) ++
  c.arms.filterMap (fun a => if a.reserve.isSome then
    some (objStrand (destNumber a.dest), 2 * promoCharge (s.rate (destNumber a.dest)) - s.charge (objStrand (destNumber a.dest))) else none)

/-! Power (R275) -/

/-- The generator whose raster gives a destination its splice points (R218): an encoder's own; a layer's compositor's; a SYNC sheet bend's; of a PASS sheet bend that of the output it
drives. A recorder and an egress strand have the points of a signal. `k` bounds the chain of PASS sheet bends. -/
def destGenF : Nat → State → Nat → Option Nat
  | 0, _, _ => none
  | k + 1, s, d =>
    if destIsStrand d then none
    else
      match s.consumer d with
      | some (.sbIn n) =>
        if fld (s.liveReg (Reg.sbdCfg n)) 0 0 = 1 then some (fld (s.liveReg (Reg.sbdTg n)) 7 0)
        else ((s.sbOutEis n).flatMap (fun e => (s.fedBy false e).filter s.destRuns)).findSome? (destGenF k s)
      | some (.layer cp _) => some (fld (s.liveReg (Reg.cmpTg cp)) 7 0)
      | some (.recorder _) => none
      | some _ => s.paceTg d
      | none => none

def State.destGen (s : State) (d : Nat) : Option Nat := destGenF 160 s d

/-- The line of a generator's splice point in its own numbering (R401): its SW line while its timing matches the built-in table, else line 0, where the vertical front porch starts. -/
def State.genLine (s : State) (tg : Nat) : Nat :=
  if s.bit (Reg.scnStatus tg) 5 then (tableSw (s.f (Reg.scnStatus tg) 10 6)).getD 0 else 0

/-- The line of a destination's splice point (R218, R219): of an SDI framer its generator's switching line, of a display source or an ST 2110 sender the start of the vertical front
porch, of a layer or a sheet bend input that of the output, of a recorder the end of the last active line of the old source's frame, of an egress strand the switching line of
the signal it carries. None where nothing gives one: a strand that carries no SDI, a recorder without a source. -/
def State.destLine (s : State) (d : Nat) : Option Nat :=
  if destIsStrand d then (tabGet (destNumber d) s.strand.tautFormat).map sdiSwitchLine
  else
    match s.consumer d with
    | some (.dispSrc _) => some 0
    | some (.tx2110 _) => some 0
    | some (.recorder _) => (s.eoFormat s.liveReg d).map (fun f => f.height)
    | _ => (s.destGen d).map s.genLine

/-- A line is that of a destination's splice point. -/
def State.atPoint (s : State) (d line : Nat) : Bool := ((s.destLine d).map (fun n => decide (n = line))).getD true

/-- The frame rate of a destination's output (R223): of its generator, or of the signal it carries or records. -/
def State.destRate (s : State) (d : Nat) : Option (Nat × Nat) :=
  match s.destGen d with
  | some tg => if (genTiming s.liveReg tg).valid then some (genTiming s.liveReg tg).rate else none
  | none =>
    if destIsStrand d then (tabGet (destNumber d) s.strand.tautFormat).map fps
    else (s.eoFormat s.liveReg d).map fps

/-- One output frame period in ns, rounded up; 0 where the output has no known frame rate (DESIGN CHOICE, log entry on eligible points). -/
def State.framePeriod (s : State) (d : Nat) : Nat :=
  match s.destRate d with
  | some r => ceilDiv (1000000000 * r.2) (max r.1 1)
  | none => 0

/-- The generator of a set's leader. -/
def State.leaderGen (s : State) (c : ChangeSet) : Option Nat :=
  if c.leader = 0xFFFE then (c.engines.head?).map s.engGen else s.destGen c.leader

/-- The domains of a set's branch. -/
def State.setDomains (s : State) (c : ChangeSet) : List Nat :=
  ((c.engines.foldr (fun e acc => s.engDomains (s.setView c) e ++ acc) []) ++
   (c.arms.foldr (fun a acc => s.destDomains a.dest ++ acc) [])).eraseDups

/-- Ask the belay for the branch's domains that are off (R275): at splice-critical priority with their deadlines. -/
def askPower (c : ChangeSet) (point : Nat) (s : State) : State :=
  let line := match s.leaderGen c with
    | some tg => if (genTiming s.liveReg tg).valid then (genTiming s.liveReg tg).lineNs else 0
    | none => 0
  (s.setDomains c).foldl (fun s d => wakeDomain 0 (point - 50000 - domReady d - 16 * line) (some c.id) d s) s

/-! Entry -/

/-- The taps a set's shadow scalers run with are held with it when reduced (R269, R321, R355). -/
def State.reducedOf (s : State) (c : ChangeSet) : List Held :=
  let v := s.setView c
  c.engines.foldr (fun e acc =>
    (match objClass e with
     | 0x03 => (s.gangOf (objIndex e)).filterMap (fun n =>
         match s.inFormat v (s.sbSource v.rd n) with
         | some f => if s.sbTaps v n f = some 6 ∨ s.sbTaps v n f = none then none else some (.taps (objSb n))
         | none => none)
     | 0x04 => (List.range (s.cpLayers (objIndex e))).filterMap (fun l =>
         match s.layerSrc v (objIndex e) l with
         | some f => if lOn v (objIndex e) l && decide (layerTaps v (objIndex e) l f = some 2) then some (.taps (objLayer (layerNo (objIndex e) l))) else none
         | none => none)
     | _ => []) ++ acc) []

/-- Zones of the branch all run, and the mode serves (R258 check 1). -/
def State.setZonesRun (s : State) (c : ChangeSet) : Bool := s.serving && (s.branch c).all s.zoneRuns

/-- The entry checks of R258, in order, and the wakes of R275. They are made once for a set. -/
def entryChecks (id : Nat) (s : State) : State :=
  match s.findSet id with
  | none => s
  | some c =>
    if c.phase ≠ .preroll ∨ c.checked then s
    else
      let v := s.setView c
      let b := s.branch c
      if !s.setZonesRun c then rollbackFor c rbEnded (leaderObj c) s
      else
        match firstBad (s.objInvalid v) b with
        | some (r, e) => rollbackFor c r e s
        | none =>
          let res := s.preReserve c
          if !s.admits c.owner (res.map Prod.snd).sum || (b.any (fun e => decide (objClass e = 0x04) && !s.layersRoom v (objIndex e))) then rollbackFor c rbBudget (leaderObj c) (refuseBw c.owner s)
          else
            match firstBad (s.objUnfit v) b with
            | some (r, e) => rollbackFor c r e s
            | none => askPower c c.point (updSet id (fun c => { c with checked := true, reserved := res, held := c.held ++ s.reducedOf c }) s)

/-- The checks of every set whose hook runs have ended (R595). -/
def settleHooks (s : State) : State :=
  s.spl.sets.foldl (fun s c => if c.entered && !c.checked && !s.hooksOf c.id then entryChecks c.id s else s) s

/-- A set without preroll frame: its arms are all taut of class ETH_BLOCK or RAW_CUT (R251). -/
def cutsOnly (c : ChangeSet) : Bool :=
  c.engines.isEmpty && !c.arms.isEmpty && c.arms.all (fun a => decide (a.cls = .ethBlock ∨ a.cls = .rawCut))

/-- The earliest time of an eligible splice point of a set (R223, R228): one output frame period of every member after that member's arm was accepted, or of the engine that leads
after the set was. -/
def State.eligibleAt (s : State) (c : ChangeSet) : Nat :=
  if c.arms.isEmpty then
    c.accepted + (match s.leaderGen c with
      | some tg => if (genTiming s.liveReg tg).valid then (genTiming s.liveReg tg).frameNs + 1 else 0
      | none => 0)
  else c.arms.foldl (fun t a => max t (a.accepted + s.framePeriod a.dest)) 0

/-- A set may enter its preroll frame for a splice point (R220, R223, R224, R228, R253, R254, R276). -/
def State.mayEnter (s : State) (c : ChangeSet) (obs : EntryObs) : Bool :=
  decide (c.phase = .armed ∨ c.phase = .deferred) && !cutsOnly c && s.holdsAll c && s.bdsWhole c && decide (s.eligibleAt c ≤ obs.point) &&
  decide (c.mode ≠ 1 ∨ c.time ≤ obs.point)

/-- Every member and engine enters PREROLL (R257). The point it aims at is kept for deadlines and LATE_TAKE. -/
def enterPreroll (c : ChangeSet) (obs : EntryObs) (s : State) : State :=
  let s := c.arms.foldl (fun s a => setDestState a.dest stPreroll s) s
  let s := c.engines.foldl (fun s e => s.setF (ctxReg e) 2 0 3) s
  let late := c.late || decide (c.mode = 1 ∧ c.time < s.eligibleAt c)
  let s := updSet c.id (fun c => { c with phase := .preroll, entered := true, point := obs.point, late := late }) s
  fidEventSet c 2 (refreshGroup c.owner c.group s)

/-- PREROLL_ENTRY (R257, R258): a set's preroll frame begins; its hooks run first, once; a deferred set only asks for its wakes again (R276). -/
def doPrerollEntry (set : Nat) (obs : EntryObs) (s : State) : State :=
  match s.findSet set with
  | none => s
  | some c =>
    if !s.mayEnter c obs then s
    else
      let s := enterPreroll c obs s
      if c.checked then askPower c obs.point s
      else
        let s := if c.entered then s else queueSplice c s
        if s.hooksOf set then s else entryChecks set s

def execPrerollEntry (set : Nat) (obs : EntryObs) (s : State) : Host.Outcome State Fault Refusal := run (doPrerollEntry set obs) s

/-! Deferral -/

/-- A member's traces of a deferral (R276). R244 gives DEFERRED_POWER no event bit: STATE, DEFER_COUNT and LAST_RESULT show it (DEDUCED, log entry on deferral). -/
def deferArm (a : Arm) (s : State) : State :=
  let st := Reg.splSpliceStatus (destWin a.dest)
  setResult a.dest .deferredPower ((setDestState a.dest stDeferred s).setF st 7 4 (s.f st 7 4 + 1))

/-- Raise BELAY_LATE (R757). -/
def belayLate (s : State) : State :=
  raiseEn (some s.rigOwner) 0 Reg.pwrEvent Reg.pwrEventEn 0 (s.bump Reg.pwrBelayLateCnt 1)

/-- Defer a set in preroll whose grants have not come (R276), or roll it back at the eighth time (R277). -/
def deferSet (c : ChangeSet) (s : State) : State :=
  let s := belayLate s
  if 7 ≤ c.deferrals then rollbackFor c rbPower (leaderObj c) s
  else
    let s := c.arms.foldl (fun s a => deferArm a s) s
    let s := c.engines.foldl (fun s e => s.setF (ctxReg e) 2 0 2) s
    let s := updSet c.id (fun c => { c with phase := .deferred, deferrals := c.deferrals + 1, late := c.late || decide (c.mode = 1) }) s
    refreshGroup c.owner c.group (s.bump (Reg.tenDeferCnt c.owner) 1)

/-- DEFERRED_POWER (R276): a grant deadline of a set passes without a grant. -/
def doDeferredPower (set : Nat) (s : State) : State :=
  match s.findSet set with
  | none => s
  | some c => if c.phase = .preroll ∧ s.powerWaits set then deferSet c s else s

def execDeferredPower (set : Nat) (s : State) : Host.Outcome State Fault Refusal := run (doDeferredPower set) s

end Sys2Proof.Machine
end

