-- ==== Sys2Proof/Machine/Staged.lean ====
section
/-! DEFINITION. Staged values: the judgement of one register value on its arrival (R298, R317, R339, R340, R342, R343, R364, R390, R396, R407, R421, R425,
R429, R441, R461, R466, R467, R794), the staging of values to an engine or an object without a shadow context (R250 to R254, R414), RWS writes by register,
and commands of the register form (R630). -/

namespace Sys2Proof.Machine

open Sys2Proof

/-! Judgement of a value -/

/-- A partition's first extent, extent count, and extents of its device area at the end (R440). -/
def State.partBase (s : State) (t : Nat) : Nat := s.f (Reg.fstTenPart t) 15 0
def State.partCount (s : State) (t : Nat) : Nat := s.f (Reg.fstTenPart t) 31 16
def State.devExtents (s : State) (t : Nat) : Nat := s.f (Reg.fstTenDev t) 15 0

/-- Bytes of an extent (R437). -/
def extentBytes : Nat := 805306368

/-- Bytes of a tenancy's partition, and of the part of it before its device area. -/
def State.partBytes (s : State) (t : Nat) : Nat := s.partCount t * extentBytes
def State.openBytes (s : State) (t : Nat) : Nat := (s.partCount t - s.devExtents t) * extentBytes

/-- Bytes of a partition's extents that are ready (R436). -/
def State.readyBytes (s : State) (t : Nat) : Nat := (s.reg (Reg.fstTenReadyExt t)).toNat * extentBytes

/-- The first partition address past a recorder's ring in a reader's configuration (R461). -/
def recEnd (rd : Rd) (r : Nat) : Nat :=
  4096 * ((rd (Reg.fstRecBase r)).toNat + (rd (Reg.fstRecSlot r)).toNat * fld (rd (Reg.fstRecDepth r)) 23 0)

/-- What R436, R441 and R461 refuse of a recorder that would record with a configuration. -/
def State.recRefused (s : State) (rd : Rd) (r : Nat) : Option Status :=
  if !bitOf (rd (Reg.fstRecCtrl r)) 0 then none
  else if rd (Reg.fstRecSlot r) = 0 then some .badField
  else
    match s.owner (objRec r) with
    | none => some .badField
    | some t =>
      if s.openBytes t < recEnd rd r then some .badField
      else if s.readyBytes t < recEnd rd r then some .stateConflict
      else none

/-- A generator that a tenancy may name. -/
def State.genNamed (s : State) (t tg : Nat) : Option Status := if s.owner (objTg tg) = some t then none else some .notOwner

/-- What refuses value `v` of a shadowed register to tenancy `t` on its arrival, in the configuration `s` that would result (R794). -/
def State.badValue (s : State) (t : Nat) (l : Loc) (v : Word) : Option Status :=
  let bad (b : Bool) : Option Status := if b then some .badField else none
  match l.kind with
  | .sbd =>
    if l.off = 0x08 then
      (if fld v 4 3 = 3 ∨ fld v 16 15 = 3 then some .badField
       else if bitOf v 0 && decide (s.f (Reg.sbdRing l.i) 3 0 = 0) then some .noResource
       else none)
    else if l.off = 0x0C then s.genNamed t (fld v 7 0)
    else if l.off = 0x10 then
      bad (!decide (16 ≤ fld v 12 0 ∧ fld v 12 0 ≤ 4096 ∧ 16 ≤ fld v 28 16 ∧ fld v 28 16 ≤ 2160))
    else if l.off = 0x14 then bad (decide (fld v 1 0 = 3 ∨ fld v 3 2 = 3 ∨ 4 < fld v 6 4 ∨ 2 ≤ fld v 9 8))
    else if l.off = 0x20 ∨ l.off = 0x24 then bad (!stepOk v.toNat)
    else none
  | .cmp =>
    if l.off = 0x08 then
      (if fld v 7 4 = 0 then some .badField
       else if bitOf v 0 && !s.bit (Reg.cmpStatus l.i) 5 then some .noResource
       else none)
    else if l.off = 0x0C then s.genNamed t (fld v 7 0)
    else if l.off = 0x10 then bad (decide (fld v 1 0 = 3 ∨ fld v 3 2 = 3 ∨ 4 < fld v 6 4))
    else none
  | .layer =>
    if l.off = 0 then bad (decide (fld v 4 3 = 3) || (decide (fld v 2 1 = 1) && (s.layerEo l.i l.j).isNone))
    else if l.off = 0x1C then
      (if s.f (Reg.cmpLCtrl l.i l.j) 2 1 = 3 then (if s.mayUse t (objRec (fld v 7 0)) then none else some .notOwner) else none)
    else if l.off = 0x24 ∨ l.off = 0x28 then bad (!stepOk v.toNat)
    else none
  | .scn =>
    if l.off = 0x04 then
      (match fld v 2 1 with
       | 2 => if fld v 13 4 < 256 then s.genNamed t (fld v 13 4) else some .notOwner
       | 3 => if s.mayUse t (objEi (fld v 13 4)) then none else some .notOwner
       | _ => none)
    else if l.off = 0x1C then bad (decide (fld v 1 0 = 3))
    else if l.off = 0x24 then
      bad (!decide (1 ≤ fld v 6 0 ∧ fld v 6 0 ≤ 100 ∧ 100 ≤ fld v 31 16 ∧ fld v 31 16 ≤ 10000))
    else none
  | .crc =>
    let even : Bool :=
      match s.eoFormat s.reg (s.f (Reg.scnCrcCtrl l.i) 9 0) with
      | some f => decide (f.sampling ≠ 0 ∨ fld v 0 0 = 0)
      | none => true
    if l.off < 0x20 then none
    else if l.off % 0x10 = 0 then bad (decide (fld v 31 30 = 3) || !even)
    else if l.off % 0x10 = 4 then bad (!even)
    else none
  | .pace => s.genNamed t (fld v 7 0)
  | .fstRec =>
    if l.off = 0x08 ∧ v = 0 then some .badField
    else if l.off = 0x0C ∧ fld v 23 0 < 2 then some .badField
    else s.recRefused s.reg l.i
  | .fstPly =>
    if l.off = 0 then bad (!s.store.recInUse.contains (fld v 15 8))
    else if l.off = 4 then s.genNamed t (fld v 7 0)
    else none
  | _ => none

/-- The object a shadowed register configures, by object code: its LAST_RESULT shows what a write was refused for. -/
def resultObj (l : Loc) : Nat :=
  match l.kind with
  | .sbd => objSb l.i
  | .cmp => objCp l.i
  | .layer => objLayer (layerNo l.i l.j)
  | .scn => objTg l.i
  | .crc => objTg l.i
  | .pace => objDest l.i
  | .fstRec => objRec l.i
  | .fstPly => objPly l.i
  | _ => 0

/-! Staging -/

/-- Write a value to a shadow context; a gang's members read the leader's values (R332). -/
def writeShadow (a : Nat) (v : Word) (s : State) : State :=
  match locate a with
  | some l =>
    if l.kind = .sbd then (s.gangOf l.i).foldl (fun s n => s.setReg (Reg.sbdId n + l.off) v) s else s.setReg a v
  | none => s.setReg a v

/-- Write several values. -/
def writeShadows (ws : List (Nat × Word)) (s : State) : State := ws.foldl (fun s w => writeShadow w.1 w.2 s) s

/-- The running engines a generator paces (R414). -/
def State.pacedEngines (s : State) (tg : Nat) : List Nat :=
  (s.spl.eiBind.filterMap (fun e => (producerEngine e.2).bind (fun g =>
    let k := s.engLead g
    if s.engRuns k && decide (s.engGen k = tg) && (decide (objClass k = 0x04) || bitOf (s.liveReg (Reg.sbdCfg (objIndex k))) 0) then some k
    else none))).eraseDups

/-- The engines of a staged change of an engine: itself, and with a generator what it paces (R414). -/
def State.stagedBranch (s : State) (e : Nat) : List Nat :=
  if objClass e = 0x06 then e :: s.pacedEngines (objIndex e) else [e]

/-- A generator that does not run and whose shadow would run it with a timing outside R399 (R794). -/
def State.runRefused (s : State) (e : Nat) : Bool :=
  decide (objClass e = 0x06) && !s.engRuns e && bitOf (s.reg (Reg.scnCtrl (objIndex e))) 0 && !(genTiming s.reg (objIndex e)).valid

/-- Complete the command a staging came with, if one. -/
def completeOpt (o : Option Origin) (st : Status) (obj : Nat) (s : State) : State :=
  match o with
  | some o => complete o st obj s
  | none => s

/-- The staged configuration of an engine. -/
def State.shadowView (s : State) : View := ⟨s.reg, s.hitch⟩

/-- The scalers of an engine that does not run whose line buffers cannot hold its staged configuration (R321, R355): the first object that does not fit. -/
def State.idleShort (s : State) (e : Nat) : Option Nat :=
  let v := s.shadowView
  match objClass e with
  | 0x03 =>
    if (s.gangOf (objIndex e)).any (fun k => match s.inFormat v (s.sbSource v.rd k) with
      | some f => decide (s.sbTaps v k f = none)
      | none => false) then some e else none
  | 0x04 =>
    ((List.range (s.cpLayers (objIndex e))).find? (fun l => lOn v (objIndex e) l && (match s.layerSrc v (objIndex e) l with
      | some f => decide (layerTaps v (objIndex e) l f = none)
      | none => false))).map (fun l => objLayer (layerNo (objIndex e) l))
  | _ => none

/-- The scalers of an engine that does not run show the taps they come to have (R321, R355). -/
def idleTaps (e : Nat) (s : State) : State :=
  match objClass e with
  | 0x03 => (s.gangOf (objIndex e)).foldl (fun s k => showTaps k s) s
  | 0x04 => (List.range (s.cpLayers (objIndex e))).foldl (fun s l =>
      if lOn s.liveView (objIndex e) l && s.bit (Reg.cmpLStatus (objIndex e) l) 7 then raiseLayer (objIndex e) l 1 s else s) s
  | _ => s

/-- The values staged to an engine that does not run take effect within 10 µs (R254), unless R794 refuses them whole, or a line buffer cannot hold them, which leaves the old state
(R321, R355). -/
def applyIdle (e : Nat) (o : Option Origin) (s : State) : State :=
  if s.runRefused e then completeOpt o .badField e (setEngResult e .badField (holdCtx e 1 0xFFFE s))
  else
    match s.idleShort e with
    | some x => completeOpt o .linebufShort x (setEngResult x .linebufShort (passEngine e (reloadShadow e s)))
    | none => completeOpt o .ok 0 (enginesRefresh (passEngine e (idleTaps e (switchEngine e s))))

/-- Values have been staged to an engine: at once when it does not run, else in its staged change set (R248, R253, R254). -/
def stageEngine (e t : Nat) (o : Option Origin) (s : State) : State :=
  if !s.engRuns e then applyIdle e o s
  else
    match s.spl.sets.find? (fun c => decide (c.kind = .staged ∧ c.phase = .armed) && c.engines.contains e) with
    | some c => updSet c.id (fun c => { c with origins := c.origins ++ o.toList }) (holdEnginesAs 1 c.id (s.stagedBranch e) s)
    | none =>
      let si := openSet .staged t 0 0xFFFE 0 0 s
      updSet si.2 (fun c => { c with origins := c.origins ++ o.toList }) (holdEnginesAs 1 si.2 (s.stagedBranch e) si.1)

/-- An object without a shadow context runs: its new values wait for a change set (R197, R250). -/
def State.objRuns (s : State) (obj : Nat) : Bool :=
  match objClass obj with
  | 0x07 => s.bit (Reg.fstRecStatus (objIndex obj)) 0
  | 0x08 => (s.fedBy false (s.plyEi (objIndex obj))).any s.destRuns
  | 0x01 => s.destRuns (objIndex obj)
  | _ => false

/-- The set that holds pending copies of an object (R250). -/
def State.opsHolder (s : State) (obj : Nat) : Option ChangeSet :=
  s.spl.sets.find? (fun c => c.ops.any (fun op => match op with
    | .reg a _ => (match locate a with | some l => decide (resultObj l = obj) && (ctxOwner l).isNone | none => false)
    | _ => false))

/-- The leader of a staged set of an object: an encoder's EO, else the code of an engine leader (R287). -/
def objLeader (obj : Nat) : Nat := if objClass obj = 0x01 then objIndex obj else 0xFFFE

/-- Hold values of an object as pending copies of a set; the registers read them. -/
def addRegOps (id : Nat) (ws : List (Nat × Word)) (s : State) : State :=
  updSet id (fun c => { c with ops := c.ops ++ ws.map (fun w => .reg w.1 w.2) }) (writeShadows ws s)

/-- New values of an object without a shadow context: at once when it does not run, else in a staged change set (R250, R254). -/
def stageObject (obj t : Nat) (ws : List (Nat × Word)) (o : Option Origin) (s : State) : State :=
  if !s.objRuns obj then completeOpt o .ok 0 (enginesRefresh (ws.foldl (fun s w => applyReg w.1 w.2 s) s))
  else
    match s.opsHolder obj with
    | some c => updSet c.id (fun c => { c with origins := c.origins ++ o.toList }) (addRegOps c.id ws s)
    | none =>
      let si := openSet .staged t 0 (objLeader obj) 0 0 s
      updSet si.2 (fun c => { c with origins := c.origins ++ o.toList }) (addRegOps si.2 ws si.1)

/-- An engine or object takes values staged by others than its holding set (R254): not in HELD, PREROLL or DECIDED. -/
def State.stageFree (s : State) (obj : Nat) (engine : Bool) : Bool :=
  if engine then decide (s.ctx obj < 2)
  else
    match s.opsHolder obj with
    | some c => decide (c.kind = .staged ∧ c.phase = .armed)
    | none => true

/-! By register -/

/-- A write to an engine's shadow that arrives while the shadow is reloaded waits (R255). -/
def holdWrite (e a : Nat) (v : Word) (s : State) : State :=
  { s with spl := { s.spl with reloading := tabSet e (tabGetD [] e s.spl.reloading ++ [(a, v)]) s.spl.reloading } }

/-- An RWS write that reaches its register (R254, R332, R339, R340, R396, R401, R429). `set` is the holding set a hook run writes for. -/
def rwsWrite (t : Nat) (set : Option Nat) (a : Nat) (v : Word) (l : Loc) (s : State) : State :=
  let v := merge l.row.mask (s.reg a) v
  match ctxOwner l with
  | some e0 =>
    let e := s.engLead e0
    if e ≠ e0 then ignoreWr e0 s
    else if !s.serving then ignoreWr e s
    else if l.kind = .layer ∧ s.cpLayers l.i ≤ l.j then s
    else if objClass e = 0x06 ∧ s.bit (Reg.scnStatus (objIndex e)) 14 then setEngResult e .stateConflict s
    else if s.reloading e then holdWrite e a v s
    else
      match (s.setReg a v).badValue t l v with
      | some st =>
        let s := setEngResult (resultObj l) st s
        if l.kind = .sbd ∧ l.off = 8 ∧ s.eng.gangs.contains (l.i / 4) then s.setF (Reg.sbdGang (l.i / 4)) 23 16 (statusCode st) else s
      | none =>
        match set with
        | some id =>
          if (s.holderOf e).map (fun c => c.id) = some id ∧ 2 ≤ s.ctx e ∧ s.ctx e ≤ 3 then writeShadow a v s else ignoreWr e s
        | none => if s.stageFree e true then stageEngine e t none (writeShadow a v s) else ignoreWr e s
  | none =>
    let obj := resultObj l
    if !s.serving then s
    else if l.kind = .pace ∧ !((s.consumer l.i).map isEncoder).getD false then s
    else
      match (s.setReg a v).badValue t l v with
      | some st => setEngResult obj st s
      | none =>
        match set with
        | some id => if (s.opsHolder obj).map (fun c => c.id) = some id then addRegOps id [(a, v)] s else s
        | none => if s.stageFree obj false then stageObject obj t [(a, v)] none s else s

/-- STAGED_WRITE (R254): an RWS write by a master. -/
def doStagedWrite (m : Master) (a : Nat) (v : Word) (s : State) : State :=
  gatedWrite m a (fun l s =>
    if l.row.acc = .rws then rwsWrite (s.actsFor m ((windowObj l).getD 0)) none a v l s else s) s

def execStagedWrite (m : Master) (a : Nat) (v : Word) (s : State) : Host.Outcome State Fault Refusal := run (doStagedWrite m a v) s

/-! Commands of the register form -/

/-- The registers MASK selects and their values (R630). -/
def selected (mask : Nat) (regs : List Nat) (ws : List Word) : List (Nat × Word) :=
  (((List.range regs.length).zip (regs.zip ws)).filter (fun p => mask.testBit p.1)).map Prod.snd

/-- The first of several values that is refused, with status `st`, in the configuration they make together. -/
def State.refusedWith (s : State) (t : Nat) (ws : List (Nat × Word)) (st : Status) : Bool :=
  let s' := writeShadows ws s
  ws.any (fun w => match locate w.1 with
    | some l => decide (s'.badValue t l w.2 = some st) || (decide (st = .badField) && decide (w.2 &&& ~~~(wd l.row.mask) ≠ 0))
    | none => false)

/-- A set that would hold an engine or object: none does, or the batch itself, or a staged set it absorbs (R253, R254). -/
def State.batchFree (s : State) (set : Option ChangeSet) (obj : Nat) (engine : Bool) : Bool :=
  s.stageFree obj engine ||
  (match set, (if engine then s.holderOf obj else s.opsHolder obj) with
   | some c, some h => decide (c.id = h.id)
   | _, _ => false)

/-- The checks of a register-form command, in the order of R388 (R339, R388, R401, R429, R469, R630, R634). `own` is the object that must be owned. -/
def regFormCheck (o : Origin) (inRange : Bool) (own obj : Nat) (engine : Bool) (mask : Nat) (regs : List Nat) (block : Option (List Word))
    (set : Option ChangeSet) (s : State) : Refuse :=
  match block with
  | none => some (.fetchFault, 0)
  | some ws =>
    let vs := selected mask regs ws
    let e := if engine then s.engLead obj else obj
    firstRefusal
      [need (inRange && decide (mask < 2 ^ regs.length) && decide (s.engLead own = own) && !s.refusedWith o.tenancy vs .badField) .badField obj,
       needOwner o own s,
       need (!s.refusedWith o.tenancy vs .notOwner) .notOwner obj,
       needServing s,
       need (!(decide (objClass e = 0x06) && s.bit (Reg.scnStatus (objIndex e)) 14)) .stateConflict e,
       need (s.batchFree set e engine) .stateConflict e,
       need (!s.refusedWith o.tenancy vs .stateConflict) .stateConflict obj,
       needZone own s,
       need (!s.refusedWith o.tenancy vs .noResource) .noResource obj]

/-- Carry out a register-form command that passed its checks. -/
def regFormEffect (o : Origin) (obj : Nat) (engine : Bool) (mask : Nat) (regs : List Nat) (block : Option (List Word)) (s : State) : State :=
  let vs := selected mask regs (block.getD [])
  if engine then stageEngine obj o.tenancy (some o) (writeShadows vs s) else stageObject obj o.tenancy vs (some o) s

/-- A register-form command held by a batch: its values are staged in the batch's set (R253, R281). -/
def regFormBatch (obj : Nat) (engine : Bool) (mask : Nat) (regs : List Nat) (block : Option (List Word)) (id : Nat) (s : State) : State :=
  let vs := selected mask regs (block.getD [])
  if engine then holdEngines id (s.stagedBranch obj) (writeShadows vs s)
  else
    match s.opsHolder obj with
    | some c =>
      if c.id = id then addRegOps id vs s
      else
        let s := setSets (s.spl.sets.filter (fun x => decide (x.id ≠ c.id))) s
        addRegOps id vs (updSet id (fun k => { k with ops := k.ops ++ c.ops, origins := k.origins ++ c.origins, engines := (k.engines ++ c.engines).eraseDups }) s)
    | none => addRegOps id vs s

/-- A register-form command. `obj` is the engine or object that stages, `name` the object the command names. -/
def regForm (o : Origin) (inRange : Bool) (own : Nat) (engine : Bool) (mask : Nat) (regs : List Nat) (block : Option (List Word)) (s : State) : State :=
  hostCommand o true .working (regFormCheck o inRange own own engine mask regs block) (regFormEffect o own engine mask regs block)
    (regFormBatch own engine mask regs block) s

end Sys2Proof.Machine
end

