-- ==== Sys2Proof/Machine/Curves.lean ====
section
/-! DEFINITION. The built-in transfer curves of R328, in fixed point with 160 fractional bits. R328 names the curves; their constants are those
of BT.709, BT.1886, ST 2084 and BT.2100 (PRESUMED, log entry on the curves). -/

namespace Sys2Proof.Machine

/-- One in fixed point. -/
def fxOne : Nat := 2 ^ 160

/-- A quotient of numbers in fixed point. -/
def fxOf (n d : Nat) : Nat := n * fxOne / d

def fxMul (a b : Nat) : Nat := a * b / fxOne
def fxDiv (a b : Nat) : Nat := a * fxOne / b

/-- `acc` times `x` to the power `n`; `fuel` bounds the bits of `n`. -/
def fxPowF : Nat → Nat → Nat → Nat → Nat
  | 0, _, _, acc => acc
  | fuel + 1, x, n, acc =>
    if n = 0 then acc else fxPowF fuel (fxMul x x) (n / 2) (if n % 2 = 1 then fxMul acc x else acc)

/-- A power of a number of at most one. -/
def fxPow (x n : Nat) : Nat := fxPowF 16 x n fxOne

/-- The largest argument not above `hi` at which a rising function is at most `a`, found bit by bit. -/
def fxSeek (f : Nat → Nat) (a : Nat) : Nat → Nat → Nat
  | 0, y => y
  | k + 1, y => fxSeek f a k (if f (y + 2 ^ k) ≤ a then y + 2 ^ k else y)

/-- The `n`-th root of a number of at most one. -/
def fxRoot (n x : Nat) : Nat := if fxOne ≤ x then fxOne else fxSeek (fun y => fxPow y n) x 160 0

/-- A number of at most one to the power `p` ÷ `q`. -/
def fxPowQ (x p q : Nat) : Nat := fxPow (fxRoot q x) p

/-- Terms `k`, `k`+1, … of the exponential series. -/
def fxExpF : Nat → Nat → Nat → Nat → Nat
  | 0, _, _, _ => 0
  | fuel + 1, t, k, term => term + fxExpF fuel t (k + 1) (fxMul term t / (k + 1))

/-- The exponential of a number from 0 to 8. -/
def fxExp (t : Nat) : Nat := fxExpF 160 t 0 fxOne

/-- The logarithm of a number from 1 to e^8. -/
def fxLn (z : Nat) : Nat := fxSeek fxExp z 163 0

/-- BT.709 OETF and its inverse (PRESUMED constants of BT.709). -/
def oetf709 (u : Nat) : Nat :=
  if u < fxOf 18 1000 then u * 45 / 10 else 1099 * fxPowQ u 9 20 / 1000 - fxOf 99 1000
def inv709 (v : Nat) : Nat :=
  if v < fxOf 81 1000 then v * 10 / 45 else fxPowQ ((v + fxOf 99 1000) * 1000 / 1099) 20 9

/-- ST 2084 EOTF over 10,000 cd/m² and its inverse (PRESUMED constants of ST 2084). -/
def eotfPq (v : Nat) : Nat :=
  let e := fxPowQ v 32 2523
  fxPowQ (fxDiv (e - fxOf 107 128) (fxOf 2413 128 - 2392 * e / 128)) 8192 1305
def invPq (y : Nat) : Nat :=
  let m := fxPowQ y 1305 8192
  fxPowQ (fxDiv (fxOf 107 128 + 2413 * m / 128) (fxOne + 2392 * m / 128)) 2523 32

/-- The constants a, b and c of HLG (PRESUMED, of BT.2100). -/
def hlgA : Nat := fxOf 17883277 100000000
def hlgB : Nat := fxOf 28466892 100000000
def hlgC : Nat := fxOf 55991073 100000000

/-- BT.2100 HLG OETF and its inverse. -/
def oetfHlg (e : Nat) : Nat :=
  if 12 * e ≤ fxOne then fxRoot 2 (3 * e)
  else fxMul hlgA (fxLn (fxMul (12 * e - hlgB) (fxExp (fxDiv hlgC hlgA))))
def invHlg (v : Nat) : Nat :=
  if 2 * v ≤ fxOne then fxMul v v / 3
  else (fxDiv (fxExp (fxDiv v hlgA)) (fxExp (fxDiv hlgC hlgA)) + hlgB) / 12

/-- A fixed-point number of at most one as a code of full scale `n`, rounded and clamped. -/
def fxCode (n x : Nat) : Nat := min n ((2 * n * x + fxOne) / (2 * fxOne))

/-- Entry `i` of the pre-LUT of a built-in curve (R328). -/
def curvePre (c i : Nat) : Nat :=
  let v := fxOf (4 * i) 4095
  fxCode 1048575 (match c with | 0 => v | 1 => inv709 v | 2 => fxPowQ v 12 5 | 3 => eotfPq v | _ => invHlg v)

/-- The linear value that entry `i` of a post-LUT stands for (R327). -/
def postX (i : Nat) : Nat := if i < 64 then i else 2 ^ (i / 64 + 5) + (i % 64) * 2 ^ (i / 64 - 1)

/-- Entry `i` of the post-LUT of a built-in curve (R328). -/
def curvePost (c i : Nat) : Nat :=
  let u := fxOf (min 1048575 (postX i)) 1048575
  fxCode 4095 (match c with | 0 => u | 1 => oetf709 u | 2 => fxPowQ u 5 12 | 3 => invPq u | _ => oetfHlg u)

end Sys2Proof.Machine
end

