-- ==== Sys2Proof/Machine/SheetBend.lean ====
section
/-! DEFINITION. Sheet bend commands and tables (R320, R325, R327 to R330, R334). -/

namespace Sys2Proof.Machine

open Sys2Proof

/-! SBD_SET -/

/-- The shadowed registers of a sheet bend, in offset order (R334, R630). -/
def sbdRegs (n : Nat) : List Nat :=
  [Reg.sbdCfg n, Reg.sbdTg n, Reg.sbdOutSize n, Reg.sbdOutFmt n, Reg.sbdCropPos n, Reg.sbdCropSize n, Reg.sbdHStep n, Reg.sbdVStep n,
   Reg.sbdHInit n, Reg.sbdVInit n, Reg.sbdDelay n, Reg.sbdDeintCtrl n, Reg.sbdFill n] ++
  (List.range 9).map (Reg.sbdMtx n) ++ (List.range 3).map (Reg.sbdMoff n)

/-- SBD_SET (R330, R339, R630): values are staged to the sheet bend, a gang's through its leader. -/
def doSbdSet (o : Origin) (n mask : Nat) (block : Option (List Word)) (s : State) : State :=
  regForm o (decide (n < 96)) (objSb n) true mask (sbdRegs n) block s

def execSbdSet (o : Origin) (n mask : Nat) (block : Option (List Word)) (s : State) : Host.Outcome State Fault Refusal :=
  run (doSbdSet o n mask block) s

/-! Tables -/

/-- Words of a table: a coefficient bank or a LUT (R320, R334). -/
def sbdTableSize (table : Nat) : Nat := if table < 4 then 448 else 3072

/-- A word as a table stores it: two 12-bit coefficients, a 20-bit or a 12-bit entry. -/
def sbdEntry (table : Nat) (v : Word) : Nat :=
  if table < 4 then (v &&& wd 0x0FFF0FFF).toNat else if table < 6 then fld v 19 0 else fld v 11 0

/-- Key of a table word. -/
def sbdKey (n table word : Nat) : Nat := n * 0x10000 + table * 0x1000 + word

/-- A table word of a sheet bend. -/
def State.sbdWord (s : State) (n table word : Nat) : Nat := tabGetD 0 (sbdKey n table word) s.eng.sbTable

/-- Write a table word; words past the table's end are reserved. -/
def setSbdWord (n table word v : Nat) (s : State) : State :=
  if sbdTableSize table ≤ word then s
  else { s with eng := { s.eng with sbTable := tabPut 0 (sbdKey n table word) v s.eng.sbTable } }

/-- Write a whole table from its first word on. -/
def setSbdTable (n table : Nat) (ws : List Nat) (s : State) : State :=
  ((List.range ws.length).zip ws).foldl (fun s p => setSbdWord n table p.1 p.2 s) s

/-- SBD_CFG selects a table (R320, R329). -/
def cfgSelects (c : Word) (table : Nat) : Bool :=
  if table < 4 then decide (fld c 10 9 = table)
  else if table < 6 then decide (fld c 12 12 = table - 4)
  else decide (fld c 13 13 = table - 6)

/-- A table is in use (R329). -/
def State.sbdTableUsed (s : State) (n table : Nat) : Bool :=
  cfgSelects (s.liveReg (Reg.sbdCfg n)) table ||
  (decide (s.ctx (s.engLead (objSb n)) ≠ 0) && cfgSelects (s.reg (Reg.sbdCfg n)) table)

/-- The words of a LUT of a built-in curve: three components (R328, R334). The entries 961 to 1,023 of a post-LUT, which no value reaches (R327), are free values
under the draw `d`. -/
def curveTable (d table c : Nat) : List Nat :=
  let one := (List.range 1024).map (fun i =>
    if table < 6 then curvePre c i else if i < 961 then curvePost c i else Config.freeAt d i % 4096)
  one ++ one ++ one

/-- The checks of SBD_TABLE_LOAD (R330). -/
def sbdTableCheck (o : Origin) (n table source : Nat) (words : Option (List Word)) (s : State) : Refuse :=
  firstRefusal
    [need (decide (n < 96 ∧ table ≤ 7 ∧ (source ≤ 4 ∨ source = 0xFF)) && !(decide (source ≤ 4 ∧ table < 4)) &&
       decide (s.engLead (objSb n) = objSb n)) .badField (objSb n),
     needOwner o (objSb n) s,
     needServing s,
     need (!(s.gangOf n).any (fun k => s.sbdTableUsed k table)) .stateConflict (objSb n),
     needZone (objSb n) s,
     need (decide (source ≠ 0xFF) || words.isSome) .fetchFault 0]

/-- The words SBD_TABLE_LOAD loads. -/
def loadWords (d table source : Nat) (words : Option (List Word)) : List Nat :=
  if source = 0xFF then ((words.getD []).take (sbdTableSize table)).map (sbdEntry table) else curveTable d table source

/-- SBD_TABLE_LOAD (R330): the same table for every member of a gang. The load ends with the command: TBL_BUSY is never seen set. -/
def doSbdTableLoad (o : Origin) (n table source : Nat) (words : Option (List Word)) (s : State) : State :=
  loneCommand o .working (sbdTableCheck o n table source words)
    (fun s => completeOk o (State.draw ((s.gangOf n).foldl (fun u k => setSbdTable k table (loadWords s.draws table source words) u) s))) s

def execSbdTableLoad (o : Origin) (n table source : Nat) (words : Option (List Word)) (s : State) : Host.Outcome State Fault Refusal :=
  run (doSbdTableLoad o n table source words) s

/-- What a write of SBD_TBL_LOAD does once it reaches the window (R328, R329). -/
def tblLoadWrite (n : Nat) (v : Word) (s : State) : State :=
  let table := fld v 2 0
  let c := fld v 7 4
  if table < 4 ∨ 4 < c then s
  else if s.sbdTableUsed n table then s.bump (Reg.sbdTblIgnored n) 1
  else (setSbdTable n table (curveTable s.draws table c) s).draw

/-- SBD_TBL_LOAD (R328). -/
def doSbdTblLoad (m : Master) (n : Nat) (v : Word) (s : State) : State :=
  gatedWrite m (Reg.sbdTblLoad n) (fun _ => tblLoadWrite n v) s

def execSbdTblLoad (m : Master) (n : Nat) (v : Word) (s : State) : Host.Outcome State Fault Refusal := run (doSbdTblLoad m n v) s

/-- Advance the word address (R334). -/
def sbdAdvance (n : Nat) (s : State) : State := s.setF (Reg.sbdTblAddr n) 11 0 (s.f (Reg.sbdTblAddr n) 11 0 + 1)

/-- What a write of SBD_TBL_DATA does: the word is written unless its table is in use, and the address advances (R329, R334). -/
def tblDataWrite (n : Nat) (v : Word) (s : State) : State :=
  let table := s.f (Reg.sbdTblAddr n) 18 16
  let word := s.f (Reg.sbdTblAddr n) 11 0
  if s.sbdTableUsed n table then sbdAdvance n (s.bump (Reg.sbdTblIgnored n) 1)
  else sbdAdvance n (setSbdWord n table word (sbdEntry table v) s)

/-- What a read of SBD_TBL_DATA does: the word is returned and the address advances. -/
def tblDataRead (n : Nat) (s : State) : State :=
  sbdAdvance n (s.emit (.read (wd (s.sbdWord n (s.f (Reg.sbdTblAddr n) 18 16) (s.f (Reg.sbdTblAddr n) 11 0)))))

/-- SBD_TBL_DATA: a write of a value, or a read. -/
def doSbdTblData (m : Master) (n : Nat) (v : Option Word) (s : State) : State :=
  match v with
  | some w => gatedWrite m (Reg.sbdTblData n) (fun _ => tblDataWrite n w) s
  | none => gatedRead m (Reg.sbdTblData n) (fun _ => tblDataRead n) s

def execSbdTblData (m : Master) (n : Nat) (v : Option Word) (s : State) : Host.Outcome State Fault Refusal := run (doSbdTblData m n v) s

/-! The path of one output line (R290) -/

/-- Coefficients of a phase: `taps` of them from the bank's word on (R320). -/
def bankTaps (word : Nat → Nat) (first taps : Nat) : List Int :=
  (List.range taps).map (fun t => coefOf (word (first + t / 2)) (t % 2 = 1))

/-- Horizontal and vertical coefficients of a sheet bend's bank (R320, R322): six vertical taps, of which those left out are 0 when `taps` are in use. -/
def State.sbHCoef (s : State) (n bank ph : Nat) : List Int := bankTaps (s.sbdWord n bank) (4 * ph) 8
def State.sbVCoef (s : State) (n bank taps ph : Nat) : List Int := foldTaps6 taps (bankTaps (s.sbdWord n bank) (256 + 3 * ph) 6)

/-- The colour stage on one 12-bit 4:4:4 pixel (R323). -/
def State.sbColour (s : State) (n : Nat) (f : Format) (p : Px) : Px :=
  let rd := s.liveReg
  let cfg := rd (Reg.sbdCfg n)
  let out := rd (Reg.sbdOutFmt n)
  if !bitOf cfg 11 then p
  else
    let rgb := if f.sampling = 2 then (if f.fullRange then p else pxMap rgbFull p) else decodeYcc f.colour f.fullRange p
    let pre c := fun (i : Nat) => s.sbdWord n (4 + fld cfg 12 12) (1024 * c + i)
    let post c := fun (i : Nat) => s.sbdWord n (6 + fld cfg 13 13) (1024 * c + i)
    let lin : Px := (preLut (pre 0) rgb.1, preLut (pre 1) rgb.2.1, preLut (pre 2) rgb.2.2)
    let row r := matrixRow ((List.range 3).map (fun j => sx 24 (rd (Reg.sbdMtx n (3 * r + j))).toNat)) (sx 22 (rd (Reg.sbdMoff n r)).toNat) lin
    let rgb' : Px := (postLut (post 0) (row 0), postLut (post 1) (row 1), postLut (post 2) (row 2))
    if fld out 1 0 = 2 then (if bitOf out 7 then rgb' else pxMap rgbNarrow rgb') else encodeYcc (fld out 6 4) (bitOf out 7) rgb'

/-- Lines of a source in 12-bit codes (R291). -/
def norm12Lines (d : Nat) (l : SrcLines) : SrcLines :=
  l.map (fun (x : SrcLine) => { x with px := x.px.map (fun (p : Px × Nat) => (pxMap (norm12 d) p.1, p.2)) })

/-- The progressive frame line `y` that a sheet bend's first stages make: a field's own, a woven pair's or the deinterlacer's, blended with frame B
(R306, R307, R313, R315). -/
def State.sbFrameLine (s : State) (n : Nat) (f : Format) (cur prev next other : SrcLines) (y : Nat) : List Px :=
  let v := s.liveView
  let cfg := v.rd (Reg.sbdDeintCtrl n)
  let up := norm12Lines (depthBits f.depth)
  let a :=
    if f.scan = 1 ∧ sbTiming v n = 1 ∧ sbDeint v n ≠ 0 ∧ s.f (Reg.sbdStatus (s.sbLead n)) 7 6 = 0 then
      deintLine (sbDeint v n) (fld cfg 11 0) (fld cfg 15 12) f.sampling y (up cur) (up prev) (up next)
    else fieldLine (up cur) y
  let w := (s.sheetSt (s.sbLead n)).weight
  if sbTiming v n = 0 ∨ sbFrc v n ≠ 2 ∨ w = 0 then a
  else
    let lb := fieldLine (up other) y
    (List.range a.length).map (fun x =>
      let p := a.getD x (0, 0, 0)
      let q := lb.getD x (0, 0, 0)
      (blendSample w p.1 q.1, blendSample w p.2.1 q.2.1, blendSample w p.2.2 q.2.2))

/-- A part of a crop window of `size` samples on one axis that a sheet bend works on: the samples it reads, from `first` on, among them the guard samples of the neighbour (R332), and its
own `size` samples, from `own` on in these. -/
structure SbPart where
  first : Nat
  len : Nat
  own : Nat
  size : Nat
  deriving DecidableEq, Repr

/-- The whole axis, or the half `h` of it with `guard` samples of the other half. -/
def sbPart (half : Option Nat) (guard size : Nat) : SbPart :=
  match half with
  | none => ⟨0, size, 0, size⟩
  | some h =>
    let lo := if h = 0 then 0 else size / 2
    let hi := if h = 0 then size / 2 else size
    ⟨lo - guard, min size (hi + guard) - (lo - guard), lo - (lo - guard), hi - lo⟩

/-- Line `y` of the scaled picture of a sheet bend, or of quadrant `q` of a gang, in 4:4:4 codes of 12 bits (R316 to R320, R332); `row` gives a line of the crop window. -/
def State.sbScaled (s : State) (n : Nat) (q : Option Nat) (y : Nat) (f : Format) (row : Nat → List Px) : List Px :=
  let v := s.liveView
  let rd := s.liveReg
  let cfg := rd (Reg.sbdCfg n)
  let c := s.sbCrop v n f
  let made := sbMade v n (s.sbShape rd n)
  let px := sbPart (q.map (fun k => k % 2)) 4 c.2.2.1
  let py := sbPart (q.map (fun k => k / 2)) 3 c.2.2.2
  let cut (k : Nat) : List Px := ((row (py.first + k)).drop px.first).take px.len
  if !sbScale v n then ((row (py.first + py.own + y)).drop (px.first + px.own)).take px.size
  else
    let st := s.sbSteps v n f
    let man := bitOf cfg 7
    let hi := if man then initOf (rd (Reg.sbdHInit n)) else autoInit (autoStep c.2.2.1 made.1)
    let vi := if man then initOf (rd (Reg.sbdVInit n)) else autoInit (autoStep c.2.2.2 made.2)
    let inter := decide (sbScan v n = 1)
    let ow := if q.isSome then made.1 / 2 else made.1
    let taps := (s.sbTaps v n f).getD 6
    let k : Scale := { hBase := 3, hTaps := 8, vBase := 2, vTaps := 6
                       hInit := hi + 2 ^ 20 * px.own, hStep := st.1
                       vInit := vi + 2 ^ 20 * py.own + (if inter ∧ y % 2 = 1 then (st.2 / 2 : Nat) else 0), vStep := st.2
                       inW := px.len, inH := py.len, outW := ow, narrow := decide (ow < px.size) }
    let comp (sel : Px → Nat) : List Nat :=
      scaleComp (s.sbHCoef n (fld cfg 10 9)) (s.sbVCoef n (fld cfg 10 9) taps) k (if inter then y / 2 else y) (-2048) 6143 4095
        (fun i => (cut i.toNat).map (fun p => (sel p : Int)))
    (comp Prod.fst).zip ((comp (fun p => p.2.1)).zip (comp (fun p => p.2.2)))

/-- Output line `y` of a sheet bend (R290): crop, chroma up-sampling, scaler, colour, chroma down-sampling and depth; `line` gives a line of the picture it works on. Of a gang, a
member's line is made of the two quadrants side by side, so that only the edges of the whole picture are edges; under QUAD_ONE the leader gives whole lines and the others none
(R331, R332). -/
def State.sbLine (s : State) (n y : Nat) (f : Format) (line : Nat → List Px) : List Px :=
  let v := s.liveView
  let cfg := s.liveReg (Reg.sbdCfg n)
  let out := s.liveReg (Reg.sbdOutFmt n)
  let c := s.sbCrop v n f
  let shape := s.sbShape s.liveReg n
  let row (k : Nat) : List Px :=
    let l := ((line (c.2.1 + min k (c.2.2.2 - 1))).drop c.1).take c.2.2.1
    if f.sampling = 0 then lineUp l else l
  let half := (sbMade v n shape).2 / 2
  let pair (h y : Nat) : List Px := s.sbScaled n (some (2 * h)) y f row ++ s.sbScaled n (some (2 * h + 1)) y f row
  let scaled : List Px :=
    match shape with
    | none => s.sbScaled n none y f row
    | some 1 => if n % 4 ≠ 0 then [] else if y < half then pair 0 y else pair 1 (y - half)
    | some _ => pair (n % 4 / 2) y
  let coloured := scaled.map (s.sbColour n f)
  let sampled := if fld out 1 0 = 0 ∧ (f.sampling ≠ 2 ∨ bitOf cfg 11) then lineDown coloured else coloured
  let own := if shape = some 0 ∨ shape = some 2 then (sampled.drop (n % 2 * (sbOut v n).1)).take (sbOut v n).1 else sampled
  own.map (pxMap (reduce (depthBits (fld out 3 2))))

end Sys2Proof.Machine
end

