-- ==== Sys2Proof/Machine/Compositor.lean ====
section
/-! DEFINITION. Compositor commands, buffers, flips and coefficient banks (R353, R354, R370 to R378, R387 to R396), and the blending of a line (R349 to R359). -/

namespace Sys2Proof.Machine

open Sys2Proof

/-! COMP_SET and LAYER_SET -/

/-- The compositor-wide shadowed registers, in offset order (R389). -/
def compRegs (n : Nat) : List Nat := [Reg.cmpCfg n, Reg.cmpTg n, Reg.cmpOutFmt n, Reg.cmpBg n]

/-- The shadowed registers of a layer, in offset order (R392). -/
def layerRegs (cp l : Nat) : List Nat := (List.range 14).map (fun i => Reg.cmpLCtrl cp l + 4 * i)

/-- COMP_SET (R387, R388). -/
def doCompSet (o : Origin) (n mask : Nat) (block : Option (List Word)) (s : State) : State :=
  regForm o (decide (n < 32)) (objCp n) true mask (compRegs n) block s

def execCompSet (o : Origin) (n mask : Nat) (block : Option (List Word)) (s : State) : Host.Outcome State Fault Refusal :=
  run (doCompSet o n mask block) s

/-- A layer of its compositor (R340, R629). -/
def State.layerThere (s : State) (n : Nat) : Bool := decide (n < 256) && decide (n % 8 < s.cpLayers (n / 8))

/-- LAYER_SET (R387, R388): layer `n` is numbered 8 × compositor + layer. -/
def doLayerSet (o : Origin) (n mask : Nat) (block : Option (List Word)) (s : State) : State :=
  regForm o (s.layerThere n) (objCp (n / 8)) true mask (layerRegs (n / 8) (n % 8)) block s

def execLayerSet (o : Origin) (n mask : Nat) (block : Option (List Word)) (s : State) : Host.Outcome State Fault Refusal :=
  run (doLayerSet o n mask block) s

/-! Buffers -/

/-- Replace the registered buffers. -/
def setHandles (t : Tab Handle) (s : State) : State := { s with eng := { s.eng with handles := t } }

/-- Bytes a buffer spans from its offset. -/
def bufferSpan (format width height pitch : Nat) : Nat := (height - 1) * pitch + lineBytes format width

/-- The free handles (R370). -/
def State.freeHandles (s : State) : List Nat := (List.range 4096).filter (fun h => (tabGet h s.eng.handles).isNone)

/-- What R370 requires of a buffer. -/
def State.bufferOk (s : State) (t offset format width height pitch colour range : Nat) : Bool :=
  decide (offset % 256 = 0 ∧ pitch % 256 = 0 ∧ format ≤ 7 ∧ colour ≤ 4 ∧ range ≤ 1) &&
  decide (2 ≤ width ∧ width ≤ 8192 ∧ 1 ≤ height ∧ height ≤ 4320) &&
  decide (lineBytes format width ≤ pitch) && !(decide (format ≤ 1 ∧ width % 2 = 1)) &&
  decide (offset + bufferSpan format width height pitch ≤ s.openBytes t)

/-- The checks of REGISTER_BUFFER (R370, R388, R436). -/
def registerCheck (o : Origin) (offset format width height pitch colour range : Nat) (s : State) : Refuse :=
  firstRefusal
    [need (s.bufferOk o.tenancy offset format width height pitch colour range) .badField 0,
     needServing s,
     need (decide (offset + bufferSpan format width height pitch ≤ s.readyBytes o.tenancy)) .stateConflict 0,
     need (!s.freeHandles.isEmpty) .noResource 0]

/-- An accepted REGISTER_BUFFER: which free handle it returns is a free value. -/
def registerEffect (o : Origin) (offset format width height pitch colour range : Nat) (s : State) : State :=
  let fs := s.freeHandles
  let h := fs.getD (Config.freeNat s.draws % fs.length) 0
  completeWith o 0 0 h false (setHandles (tabSet h ⟨o.tenancy, offset, format, width, height, pitch, colour, range⟩ s.eng.handles) s.draw)

/-- REGISTER_BUFFER (R370). -/
def doRegisterBuffer (o : Origin) (offset format width height pitch colour range : Nat) (s : State) : State :=
  loneCommand o .working (registerCheck o offset format width height pitch colour range)
    (registerEffect o offset format width height pitch colour range) s

def execRegisterBuffer (o : Origin) (offset format width height pitch colour range : Nat) (s : State) : Host.Outcome State Fault Refusal :=
  run (doRegisterBuffer o offset format width height pitch colour range) s

/-- A layer refers to a handle (R371). -/
def State.layerHolds (s : State) (h cp l : Nat) : Bool :=
  decide (s.curHandle cp l = some h) || decide (s.pendHandle cp l = some h) ||
  s.eng.taken.any (fun k => decide (k.layer = layerNo cp l ∧ k.old = some h)) ||
  (decide (s.ctx (objCp cp) ≠ 0) && decide (s.f (Reg.cmpLCtrl cp l) 2 1 = 2) && decide (s.f (Reg.cmpLSource cp l) 11 0 = h))

/-- The first layer that refers to a handle, from CP0.L0 to CP31.L7 (R372). -/
def State.handleHolder (s : State) (h : Nat) : Option Nat := (List.range 256).find? (fun n => s.layerHolds h (n / 8) (n % 8))

/-- The checks of RELEASE_BUFFER (R372, R388). -/
def releaseCheck (o : Origin) (h : Nat) (s : State) : Refuse :=
  firstRefusal
    [need (tabGet h s.eng.handles).isSome .badField (objHandle h),
     need (decide ((tabGet h s.eng.handles).map (fun x => x.owner) = some o.tenancy)) .notOwner (objHandle h),
     need (s.handleHolder h).isNone .stateConflict (objLayer ((s.handleHolder h).getD 0))]

/-- RELEASE_BUFFER (R372). -/
def doReleaseBuffer (o : Origin) (h : Nat) (s : State) : State :=
  loneCommand o .working (releaseCheck o h) (fun s => completeOk o (setHandles (tabDel h s.eng.handles) s)) s

def execReleaseBuffer (o : Origin) (h : Nat) (s : State) : Host.Outcome State Fault Refusal := run (doReleaseBuffer o h) s

/-! Flips -/

/-- Two buffers are alike for a FLIP (R378). -/
def sameBuffer (a b : Handle) : Bool :=
  decide (a.format = b.format ∧ a.width = b.width ∧ a.height = b.height ∧ a.pitch = b.pitch ∧ a.colour = b.colour ∧ a.range = b.range)

/-- The handle may follow the layer's current one (R378). -/
def State.flipAlike (s : State) (cp l h : Nat) : Bool :=
  match (s.curHandle cp l).bind (fun c => tabGet c s.eng.handles), tabGet h s.eng.handles with
  | some a, some b => sameBuffer a b
  | _, _ => true

/-- The checks of FLIP (R388, R642, R643). -/
def flipCheck (t n h fence : Nat) (s : State) : Refuse :=
  let cp := n / 8
  let l := n % 8
  firstRefusal
    [need (s.layerThere n && (tabGet h s.eng.handles).isSome && decide (fence < 256 ∨ fence = 0xFFFF)) .badField (objLayer n),
     need (s.mayUse t (objCp cp)) .notOwner (objCp cp),
     need (decide ((tabGet h s.eng.handles).map (fun x => x.owner) = some t)) .notOwner (objHandle h),
     needServing s,
     need (decide (lKind s.liveView cp l = 2)) .stateConflict (objLayer n),
     needZone (objCp cp) s,
     need (s.flipAlike cp l h) .formatMismatch (objLayer n)]

/-- A handle becomes a layer's pending buffer; a flip not yet taken ends (R373, R374). -/
def setPending (n h fence : Nat) (value : DWord) (target : Nat) (o : Option Origin) (s : State) : State :=
  let s := abortFlip n s
  setPend (n / 8) (n % 8) (some h) (setFlips (tabSet n ⟨h, fence, value, target, o, false⟩ s.eng.flips) s)

/-- FLIP (R373): it completes when the layer takes its buffer. -/
def doFlip (o : Origin) (n h fence : Nat) (value : DWord) (target : Nat) (s : State) : State :=
  loneCommand o .working (flipCheck o.tenancy n h fence) (setPending n h fence value target (some o)) s

def execFlip (o : Origin) (n h fence : Nat) (value : DWord) (target : Nat) (s : State) : Host.Outcome State Fault Refusal :=
  run (doFlip o n h fence value target) s

/-- What a write of CMP_L_FLIP does: a FLIP without fence or TARGET, its refusal in LAST_RESULT (R392, R396). -/
def flipWrite (t n : Nat) (v : Word) (s : State) : State :=
  if !s.layerThere n then s
  else
    match flipCheck t n (fld v 11 0) 0xFFFF s with
    | some (st, _) => setEngResult (objLayer n) st s
    | none => setPending n (fld v 11 0) 0xFFFF 0 0 none s

/-- CMP_L_FLIP (R392); `n` is the layer number. -/
def doCmpLFlip (m : Master) (n : Nat) (v : Word) (s : State) : State :=
  gatedWrite m (Reg.cmpLFlip (n / 8) (n % 8)) (fun _ s => flipWrite (s.actsFor m (objCp (n / 8))) n v s) s

def execCmpLFlip (m : Master) (n : Nat) (v : Word) (s : State) : Host.Outcome State Fault Refusal := run (doCmpLFlip m n v) s

/-! Coefficient banks -/

/-- What a bank word holds before it is written: linear interpolation (R353). -/
def cpLinear (word : Nat) : Nat :=
  let a (ph : Nat) : Nat := (2 * 1024 * (64 - ph) + 64) / 128
  if word < 192 then (if word % 3 = 1 then a (word / 3) + 0x10000 * (1024 - a (word / 3)) else 0)
  else if word < 320 then
    (if word % 2 = 0 then 0x10000 * a ((word - 192) / 2) else 1024 - a ((word - 192) / 2))
  else 0

/-- Key of a bank word. -/
def cpKey (cp bank word : Nat) : Nat := cp * 0x10000 + bank * 0x1000 + word

/-- A bank word of a compositor. -/
def State.cpWord (s : State) (cp bank word : Nat) : Nat := tabGetD (cpLinear word) (cpKey cp bank word) s.eng.cpTable

/-- Write a bank word; words past the bank's end are reserved. -/
def setCpWord (cp bank word v : Nat) (s : State) : State :=
  if 320 ≤ word then s
  else { s with eng := { s.eng with cpTable := tabPut (cpLinear word) (cpKey cp bank word) v s.eng.cpTable } }

/-- Write a whole bank. -/
def setCpBank (cp bank : Nat) (ws : List Nat) (s : State) : State :=
  ((List.range ws.length).zip ws).foldl (fun s p => setCpWord cp bank p.1 p.2 s) s

/-- A configuration selects a bank for an enabled scaled layer (R354). -/
def State.bankSelected (s : State) (rd : Rd) (cp bank : Nat) : Bool :=
  (List.range (s.cpLayers cp)).any (fun l =>
    bitOf (rd (Reg.cmpLCtrl cp l)) 0 && bitOf (rd (Reg.cmpLCtrl cp l)) 7 && decide (fld (rd (Reg.cmpLCtrl cp l)) 12 11 = bank))

/-- A bank is in use (R354). -/
def State.bankUsed (s : State) (cp bank : Nat) : Bool :=
  s.bankSelected s.liveReg cp bank || (decide (s.ctx (objCp cp) ≠ 0) && s.bankSelected s.reg cp bank)

/-- The checks of COMP_TABLE_LOAD (R354, R387, R388). -/
def compTableCheck (o : Origin) (n bank : Nat) (words : Option (List Word)) (s : State) : Refuse :=
  firstRefusal
    [need (decide (n < 32 ∧ bank < 4)) .badField (objCp n),
     need (s.mayUse o.tenancy (objCp n)) .notOwner (objCp n),
     needServing s,
     need (!s.bankUsed n bank) .stateConflict (objCp n),
     needZone (objCp n) s,
     need words.isSome .fetchFault 0]

/-- COMP_TABLE_LOAD (R387). -/
def doCompTableLoad (o : Origin) (n bank : Nat) (words : Option (List Word)) (s : State) : State :=
  loneCommand o .working (compTableCheck o n bank words)
    (fun s => completeOk o (setCpBank n bank (((words.getD []).take 320).map (fun w => (w &&& wd 0x0FFF0FFF).toNat)) s)) s

def execCompTableLoad (o : Origin) (n bank : Nat) (words : Option (List Word)) (s : State) : Host.Outcome State Fault Refusal :=
  run (doCompTableLoad o n bank words) s

/-- Advance the word address (R389). -/
def cpAdvance (n : Nat) (s : State) : State := s.setF (Reg.cmpTblAddr n) 8 0 (s.f (Reg.cmpTblAddr n) 8 0 + 1)

/-- What a write of CMP_TBL_DATA does (R354, R389). -/
def cpDataWrite (n : Nat) (v : Word) (s : State) : State :=
  let bank := s.f (Reg.cmpTblAddr n) 17 16
  if s.bankUsed n bank then cpAdvance n (s.bump (Reg.cmpTblIgnored n) 1)
  else cpAdvance n (setCpWord n bank (s.f (Reg.cmpTblAddr n) 8 0) (v &&& wd 0x0FFF0FFF).toNat s)

/-- What a read of CMP_TBL_DATA does. -/
def cpDataRead (n : Nat) (s : State) : State :=
  cpAdvance n (s.emit (.read (wd (s.cpWord n (s.f (Reg.cmpTblAddr n) 17 16) (s.f (Reg.cmpTblAddr n) 8 0)))))

/-- CMP_TBL_DATA: a write of a value, or a read. -/
def doCmpTblData (m : Master) (n : Nat) (v : Option Word) (s : State) : State :=
  match v with
  | some w => gatedWrite m (Reg.cmpTblData n) (fun _ => cpDataWrite n w) s
  | none => gatedRead m (Reg.cmpTblData n) (fun _ => cpDataRead n) s

def execCmpTblData (m : Master) (n : Nat) (v : Option Word) (s : State) : Host.Outcome State Fault Refusal := run (doCmpTblData m n v) s

/-! The blend (R349 to R359) -/

/-- What a layer brings to a line of the blend: the lines of its source, and what it shows on this line alone in place of SHOWING (R376, R379). -/
structure LayerIn where
  layer : Nat
  lines : SrcLines
  shows : Option Nat
  deriving DecidableEq, Repr

/-- A layer's pixels of output line `y` before the blend, in the working space with their alpha; none outside its rectangle. -/
def State.layerLine (s : State) (cp l y : Nat) (src : SrcLines) (shows : Option Nat) : List (Option (Px × Nat)) :=
  let v := s.liveView
  let t := cpTiming v cp
  let out := fld (v.rd (Reg.cmpOutFmt cp)) 6 4
  let sh := shows.getD (s.f (Reg.cmpLStatus cp l) 2 1)
  let fill := fillRgb (v.rd (Reg.cmpLFill cp l)) out
  let box := s.visible v cp l
  let boxed : List (Option (Px × Nat)) :=
    (List.range t.hA).map (fun (x : Nat) => if box.x0 ≤ x ∧ x < box.x1 ∧ box.y0 ≤ y ∧ y < box.y1 then some (fill, 1023) else none)
  match lKind v cp l, s.layerSrc v cp l with
  | 0, _ => boxed
  | _, none => if sh = 3 then boxed else List.replicate t.hA none
  | _, some f =>
    let c := layerCrop v cp l f
    let r := layerRect v cp l c.2.2.1 c.2.2.2
    if ¬(r.y0 ≤ y ∧ y < r.y1) then List.replicate t.hA none
    else if sh = 3 then (List.range t.hA).map (fun (x : Nat) => if r.x0 ≤ x ∧ x < r.x1 then some (fill, 1023) else none)
    else if sh = 2 then List.replicate t.hA none
    else
      let d := depthBits f.depth
      let nrm := if f.full then normFull d else norm12 d
      let noAlpha := decide (lKind v cp l = 1) || bitOf (lCtl v cp l) 6 || decide (f.code ≠ 6 ∧ f.code ≠ 7)
      let row (k : Int) : List (Px × Nat) :=
        let n := c.2.1 + (clampI 0 ((c.2.2.2 : Int) - 1) k).toNat
        let ln := (((src.find? (fun x => x.n = n)).map (fun x => x.px)).getD [])
        let cut := ((ln.drop c.1).take c.2.2.1).map (fun (p : Px × Nat) =>
          (pxMap nrm p.1, if noAlpha then 1023 else if f.code = 6 then alpha8 p.2 else alpha2 p.2))
        if f.sampling = 0 then (lineUp (cut.map Prod.fst)).zip (cut.map Prod.snd) else cut
      let yy : Nat := ((y : Int) - r.y0).toNat
      let px : List (Px × Nat) :=
        if bitOf (lCtl v cp l) 7 then
          let st := layerSteps v cp l f
          let ini := layerInits v cp l f
          let taps := (layerTaps v cp l f).getD 4
          let bank := fld (lCtl v cp l) 12 11
          let k : Scale := { hBase := 2, hTaps := 6, vBase := 1, vTaps := 4, hInit := ini.1, hStep := st.1
                             vInit := ini.2, vStep := st.2, inW := c.2.2.1, inH := c.2.2.2, outW := fld (v.rd (Reg.cmpLDstSize cp l)) 12 0
                             narrow := decide (fld (v.rd (Reg.cmpLDstSize cp l)) 12 0 < c.2.2.1) }
          let hc ph := bankTaps (s.cpWord cp bank) (3 * ph) 6
          let vc ph := foldTaps4 taps (bankTaps (s.cpWord cp bank) (192 + 2 * ph) 4)
          let comp (sel : Px × Nat → Nat) (lo hi top : Int) : List Nat := scaleComp hc vc k yy lo hi top (fun i => (row i).map (fun p => (sel p : Int)))
          ((comp (fun p => p.1.1) (-2048) 6143 4095).zip ((comp (fun p => p.1.2.1) (-2048) 6143 4095).zip (comp (fun p => p.1.2.2) (-2048) 6143 4095))).zip
            (comp Prod.snd (-512) 1535 1023)
        else row yy
      let work (p : Px) : Px :=
        if f.sampling = 2 then (if f.full then p else pxMap rgbFull p) else decodeYcc f.colour f.full p
      (List.range t.hA).map (fun (x : Nat) =>
        if r.x0 ≤ x ∧ x < r.x1 then (px[((x : Int) - r.x0).toNat]?).map (fun (p : Px × Nat) => (work p.1, p.2)) else none)

/-- What a surface of 10 bits gives back of a 12-bit code: rounded on the way in, and full range on the way out (R347, R364, R367). -/
def coil10 (v : Nat) : Nat := normFull 10 (reduce 10 v)

/-- A line of a compositor's background (R358). -/
def State.backLine (s : State) (cp : Nat) : List Px :=
  List.replicate (cpTiming s.liveView cp).hA (fillRgb (s.liveReg (Reg.cmpBg cp)) (fld (s.liveReg (Reg.cmpOutFmt cp)) 6 4))

/-- Blend enabled layers over a line, in their order (R358). -/
def State.blendLayers (s : State) (cp y : Nat) (ins : List LayerIn) (ls : List Nat) (d : List Px) : List Px :=
  let v := s.liveView
  ls.foldl (fun (d : List Px) l =>
    if !lOn v cp l then d
    else
      let pre := bitOf (lCtl v cp l) 5 && (match s.layerSrc v cp l with | some f => decide (f.code = 6 ∨ f.code = 7) && decide (lKind v cp l = 2) | none => false)
      let la := fld (v.rd (Reg.cmpLAlpha cp l)) 9 0
      let i := (ins.find? (fun p => decide (p.layer = l))).getD ⟨l, [], none⟩
      (d.zip (s.layerLine cp l y i.lines i.shows)).map (fun (p : Px × Option (Px × Nat)) =>
        match p.2 with
        | some q => blendPx pre q.1 p.1 q.2 la
        | none => p.1)) d

/-- An accumulated line encoded to the output of a compositor (R359). -/
def State.encodeLine (s : State) (cp : Nat) (d : List Px) : List Px :=
  let fmt := s.liveReg (Reg.cmpOutFmt cp)
  let enc := d.map (fun p => if fld fmt 1 0 = 2 then (if bitOf fmt 7 then p else pxMap rgbNarrow p) else encodeYcc (fld fmt 6 4) (bitOf fmt 7) p)
  (if fld fmt 1 0 = 0 then lineDown enc else enc).map (pxMap (reduce (depthBits (fld fmt 3 2))))

/-- The accumulated line a coil surface gives back: of 10 or 12 bits (R364, R367). -/
def State.coilLine (s : State) (cp : Nat) (d : List Px) : List Px := if bitOf (s.liveReg (Reg.cmpCfg cp)) 2 then d else d.map (pxMap coil10)

/-- One output line of a compositor (R358, R359, R367): the background under its enabled layers, or a coil in use in place of its run, encoded to the output; and the line a coil that
is being formed takes. -/
def State.composeLine (s : State) (cp y : Nat) (ins : List LayerIn) : List Px × Option (List Px) :=
  let top := s.f (Reg.cmpStatus cp) 4 2
  let all := List.range (s.cpLayers cp)
  match tabGet cp s.eng.coils with
  | none => (s.encodeLine cp (s.blendLayers cp y ins all (s.backLine cp)), none)
  | some c =>
    let above := all.filter (fun l => decide (top < l))
    let run := s.blendLayers cp y ins (all.filter (fun l => decide (l ≤ top))) (s.backLine cp)
    if c.forming then (s.encodeLine cp (s.blendLayers cp y ins above run), some (s.coilLine cp run))
    else (s.encodeLine cp (s.blendLayers cp y ins above ((tabGet y c.lines).getD (s.coilLine cp run))), none)

end Sys2Proof.Machine
end

