-- ==== Sys2Proof/Machine/Scan.lean ====
section
/-! DEFINITION. Timing generator commands and registers (R402, R414, R420, R427 to R429), and the ends of lock steps and re-time gaps (R409, R416 to R418). -/

namespace Sys2Proof.Machine

open Sys2Proof

/-- The shadowed registers of a generator window, of its CRC window, in offset order (R424, R427). -/
def scnRegs (n : Nat) : List Nat :=
  [Reg.scnCtrl n, Reg.scnH1 n, Reg.scnH2 n, Reg.scnV1 n, Reg.scnV2 n, Reg.scnPclk n, Reg.scnFmt n, Reg.scnPhase n, Reg.scnLockCfg n]
def crcRegs (n : Nat) : List Nat :=
  Reg.scnCrcCtrl n :: (List.range 8).foldr (fun r acc => Reg.scnCrcPos n r :: Reg.scnCrcSize n r :: Reg.scnCrcExpect n r :: acc) []

/-- TIMING_SET (R414, R429). -/
def doTimingSet (o : Origin) (n mask : Nat) (block : Option (List Word)) (s : State) : State :=
  regForm o (decide (n < 256)) (objTg n) true mask (scnRegs n) block s

def execTimingSet (o : Origin) (n mask : Nat) (block : Option (List Word)) (s : State) : Host.Outcome State Fault Refusal :=
  run (doTimingSet o n mask block) s

/-- PACE_SET (R428): `n` is the encoder EO. -/
def doPaceSet (o : Origin) (n mask : Nat) (block : Option (List Word)) (s : State) : State :=
  regForm o (decide (n < 1024) && ((s.consumer n).map isEncoder).getD false) (objDest n) false mask [Reg.scnPace n] block s

def execPaceSet (o : Origin) (n mask : Nat) (block : Option (List Word)) (s : State) : Host.Outcome State Fault Refusal :=
  run (doPaceSet o n mask block) s

/-- CRC_SET (R420, R429). -/
def doCrcSet (o : Origin) (n mask : Nat) (block : Option (List Word)) (s : State) : State :=
  regForm o (decide (n < 256)) (objTg n) true mask (crcRegs n) block s

def execCrcSet (o : Origin) (n mask : Nat) (block : Option (List Word)) (s : State) : Host.Outcome State Fault Refusal :=
  run (doCrcSet o n mask block) s

/-- The shadow values SCN_TABLE_LOAD fills (R402): none for a pair the table does not list. -/
def tableWords (tg : Nat) (v : Word) : Option (List (Nat × Word)) :=
  (tableTiming (fld v 4 0) (fld v 10 8)).map (fun t =>
    [Reg.scnH1 tg, Reg.scnH2 tg, Reg.scnV1 tg, Reg.scnV2 tg, Reg.scnPclk tg, Reg.scnFmt tg].zip (timingWords t))

/-- What a write of SCN_TABLE_LOAD does: a shadowed write of six registers (R402, R254). `set` is the holding set a hook run writes for. -/
def tableLoadWrite (t : Nat) (set : Option Nat) (tg : Nat) (v : Word) (s : State) : State :=
  let e := objTg tg
  if !s.serving then ignoreWr e s
  else if s.bit (Reg.scnStatus tg) 14 then setEngResult e .stateConflict s
  else
    match tableWords tg v with
    | none => setEngResult e .badField s
    | some ws =>
      if s.reloading e then ws.foldl (fun s w => holdWrite e w.1 w.2 s) s
      else
        match set with
        | some id => if (s.holderOf e).map (fun c => c.id) = some id ∧ 2 ≤ s.ctx e ∧ s.ctx e ≤ 3 then writeShadows ws s else ignoreWr e s
        | none => if s.stageFree e true then stageEngine e t none (writeShadows ws s) else ignoreWr e s

/-- SCN_TABLE_LOAD (R402). -/
def doScnTableLoad (m : Master) (tg : Nat) (v : Word) (s : State) : State :=
  gatedWrite m (Reg.scnTableLoad tg) (fun _ s => tableLoadWrite (s.actsFor m (objTg tg)) none tg v s) s

def execScnTableLoad (m : Master) (tg : Nat) (v : Word) (s : State) : Host.Outcome State Fault Refusal := run (doScnTableLoad m tg v) s

/-- LOCK_STEP_END (R409): the extension ends at the in-phase frame start, and the generator is LOCKED. -/
def doLockStepEnd (tg : Nat) (s : State) : State :=
  match (s.genSt tg).stepping with
  | none => s
  | some u =>
    if s.now < u then s
    else
    let s := (setGenSt tg { s.genSt tg with stepping := none } s).setBit (Reg.scnStatus tg) 4 false
    if s.lockState tg = 2 then genLocked tg s else s

def execLockStepEnd (tg : Nat) (s : State) : Host.Outcome State Fault Refusal := run (unlessStopped (tg / 16) (doLockStepEnd tg)) s

/-- Until it is LOCKED, every encoder a generator paces shows its fill (R418). -/
def fillTillLocked (tg : Nat) (s : State) : State :=
  let s := setGenSt tg { s.genSt tg with fillUntilLocked := true } s
  (s.pacedEos tg).foldl (fun s eo => raiseDest eo 7 (s.setBit (Reg.splSrc (destWin eo)) 15 true)) s

/-- The new timing of a generator starts (R401, R409, R416 steps 3 to 5, R418). -/
def newTiming (tg : Nat) (inPhase : Bool) (s : State) : State :=
  if s.lockSrc tg = 0 then setLock tg 1 s
  else
    match s.lockRefState tg with
    | .absent => fillTillLocked tg (genUnlock tg 4 s)
    | .mismatch => fillTillLocked tg (setEngResult (objTg tg) .formatMismatch (genUnlock tg 4 s))
    | .ok =>
      if inPhase then (if s.lockState tg = 3 then s else genLocked tg s)
      else fillTillLocked tg (genUnlock tg 2 s)

/-- GAP_END (R416): the re-time gap ends and the new timing starts. -/
def doGapEnd (tg : Nat) (s : State) : State :=
  match (s.genSt tg).gap with
  | none => s
  | some (u, g, inPhase) =>
    if s.now < u then s
    else
    let s := (setGenSt tg { s.genSt tg with gap := none } s).setReg (Reg.scnGapLast tg) (wd g)
    newTiming tg inPhase (s.setBit (Reg.scnStatus tg) 4 false)

def execGapEnd (tg : Nat) (s : State) : Host.Outcome State Fault Refusal := run (unlessStopped (tg / 16) (doGapEnd tg)) s

end Sys2Proof.Machine
end

