-- ==== Sys2Proof/Machine/Store.lean ====
section
/-! DEFINITION. The frame store (chapter 10): channels and their training (R434 to R436), the lane map (R437 to R439), access by BAR2 and DMA (R442), errors
and poison (R443 to R449), evacuation and rebalance (R470 to R476), self-refresh (R458), recorders, players and the completion of frames (R461 to R469, R795). -/

namespace Sys2Proof.Machine

open Sys2Proof

def setStore (x : StoreState) (s : State) : State := { s with store := x }

/-- A channel's state (R470). -/
def State.chState (s : State) (m : Nat) : Nat := s.f (Reg.fstChStatus m) 3 0
def setChState (m v : Nat) (s : State) : State := s.setF (Reg.fstChStatus m) 3 0 v

/-- Raise an event of a channel, posted to the rig owner (R479). -/
def raiseCh (m b : Nat) (s : State) : State :=
  raiseEn (some s.rigOwner) (objChannel m) (Reg.fstChEvent m) (Reg.fstChEventEn m) b s

/-! The lane map -/

/-- Gigabytes expected on a channel (R432). -/
def channelGB (p : StorePlan) (m : Nat) : Nat := (p.modules.getD m []).foldl (fun a g => a + g) 0
/-- Pieces of a channel: every channel of a plan holds the same capacity (R432, R438). -/
def piecesOf (p : StorePlan) : Nat := ((List.range 12).foldl (fun a m => max a (channelGB p m)) 0) * 1000000000 / 67108864

/-- The channels a plan expects modules on (R433). -/
def plannedChannels (p : StorePlan) : List Nat := (List.range 12).filter (fun m => decide (p.modules.getD m [] ≠ []))

/-- Extents of the store (R438). -/
def State.extents (s : State) : Nat := match s.store.plan with | some p => piecesOf p - p.spare | none => 0

/-- The pieces each channel sets aside (R438). -/
def State.sparePieces (s : State) : Nat := match s.store.plan with | some p => p.spare | none => 0

/-- A lane's place as 0x1000 × channel + piece, and its home (R438, R475). -/
def State.homeOf (s : State) (x k : Nat) : Nat := tabGetD (0x1000 * k + x) (12 * x + k) s.store.homes
def State.laneAt (s : State) (x k : Nat) : Nat := tabGetD (s.homeOf x k) (12 * x + k) s.store.lanes

/-- The channel that holds a lane. -/
def State.laneCh (s : State) (x k : Nat) : Nat := s.laneAt x k / 0x1000

/-- Move a lane. -/
def setLane (x k v : Nat) (s : State) : State :=
  setStore { s.store with lanes := tabPut (s.homeOf x k) (12 * x + k) v s.store.lanes } s

/-- Every lane of the store, extent by extent. -/
def State.allLanes (s : State) : List (Nat × Nat) :=
  (List.range s.extents).foldr (fun x acc => (List.range 12).map (fun k => (x, k)) ++ acc) []

/-- The lanes a channel holds, and those whose home it is, in ascending order of extent. -/
def State.lanesOn (s : State) (m : Nat) : List (Nat × Nat) := s.allLanes.filter (fun p => decide (s.laneCh p.1 p.2 = m))
def State.lanesHomed (s : State) (m : Nat) : List (Nat × Nat) :=
  s.allLanes.filter (fun p => decide (s.homeOf p.1 p.2 / 0x1000 = m) && decide (s.laneCh p.1 p.2 ≠ m))

/-- A word of the lane map (R477): lanes 2j and 2j + 1 of extent `x`; 0 while no map is kept. -/
def State.laneWord (s : State) (x j : Nat) : Word :=
  if s.store.mapped && decide (x < s.extents) then wd (s.laneAt x (2 * j) + 0x10000 * s.laneAt x (2 * j + 1)) else 0

/-- Free spare pieces of a channel, lowest first. -/
def State.sparesOf (s : State) (m : Nat) : List Nat := tabGetD [] m s.store.spares

/-- Replace a channel's free pieces; FST_CH_CAP shows their number. -/
def setSpares (m : Nat) (l : List Nat) (s : State) : State :=
  (setStore { s.store with spares := tabSet m l s.store.spares } s).setF (Reg.fstChCap m) 31 16 l.length

/-- Put a piece among free pieces, in order. -/
def insertPiece (p : Nat) : List Nat → List Nat
  | [] => [p]
  | x :: l => if p < x then p :: x :: l else x :: insertPiece p l

/-- A piece becomes spare, or is taken. -/
def freePiece (v : Nat) (s : State) : State := setSpares (v / 0x1000) (insertPiece (v % 0x1000) (s.sparesOf (v / 0x1000))) s
def takePiece (v : Nat) (s : State) : State :=
  setSpares (v / 0x1000) ((s.sparesOf (v / 0x1000)).filter (fun p => decide (p ≠ v % 0x1000))) s

/-- The spare a lane moves to (R473): the lowest free piece of the channel with the most free spares, lowest channel first, among channels in service
other than `m`. -/
def State.bestSpare (s : State) (m : Nat) : Option Nat :=
  let best := (List.range 12).foldl (fun (b : Option Nat) c =>
    if c = m ∨ (s.chState c ≠ 3 ∧ s.chState c ≠ 4) ∨ s.sparesOf c = [] then b
    else
      match b with
      | none => some c
      | some x => if (s.sparesOf x).length < (s.sparesOf c).length then some c else b) none
  best.bind (fun c => ((s.sparesOf c).head?).map (fun p => 0x1000 * c + p))

/-- Free spares of the channels other than `m` that may take lanes. -/
def State.othersSpares (s : State) (m : Nat) : Nat :=
  ((List.range 12).filter (fun c => decide (c ≠ m ∧ (s.chState c = 3 ∨ s.chState c = 4)))).foldl (fun a c => a + (s.sparesOf c).length) 0

/-- FST_CH_LANES of a channel: lanes held, and pieces left to copy. -/
def refreshLanes (m : Nat) (s : State) : State :=
  let left := match s.store.copy with | some j => if j.ch = m then j.left.length else 0 | none => 0
  s.setReg (Reg.fstChLanes m) (wd ((s.lanesOn m).length + 0x10000 * left))

/-- FST_CH_LANES of every channel. -/
def refreshAllLanes (s : State) : State := (List.range 12).foldl (fun s m => refreshLanes m s) s

/-! Bytes -/

/-- The lane of a store address (R437). -/
def laneOfAddr (a : Nat) : Nat × Nat := (a / extentBytes, a % extentBytes / 4096 % 12)

/-- The channel that holds a store address has failed (R449). -/
def State.addrFailed (s : State) (a : Nat) : Bool :=
  let p := laneOfAddr a
  decide (s.chState (s.laneCh p.1 p.2) = 8)

/-- A burst reads poisoned (R445, R449, R473). -/
def State.burstPoisoned (s : State) (a : Nat) : Bool :=
  let p := laneOfAddr a
  s.addrFailed a || (s.store.lanePoison.contains (12 * p.1 + p.2)) ^^ (s.store.poison.contains (a / 64))

/-- Mark a burst poisoned or clean. -/
def setPoison (burst : Nat) (v : Bool) (s : State) : State :=
  let p := laneOfAddr (64 * burst)
  let listed := s.store.lanePoison.contains (12 * p.1 + p.2) ^^ v
  let rest := s.store.poison.filter (fun b => decide (b ≠ burst))
  setStore { s.store with poison := if listed then burst :: rest else rest } s

/-- The byte at a store address. -/
def State.memByte (s : State) (a : Nat) : Byte := tabGetD 0 a s.store.mem

/-- Write a byte; a write to a failed channel's lane is discarded (R449). -/
def writeByte (a : Nat) (b : Byte) (s : State) : State :=
  if s.addrFailed a then s else setStore { s.store with mem := tabPut 0 a b s.store.mem } s

/-- Write bytes from an address up; a whole burst written clears its poison (R447). -/
def writeBytes (a : Nat) (l : List Byte) (s : State) : State :=
  let s := ((List.range l.length).zip l).foldl (fun s p => writeByte (a + p.1) p.2 s) s
  ((List.range (l.length / 64 + 1)).map (fun i => (a + 63) / 64 + i)).foldl (fun s b =>
    if 64 * b + 64 ≤ a + l.length ∧ a ≤ 64 * b then setPoison b false s else s) s

/-- Bytes from an address up. -/
def State.readBytes (s : State) (a n : Nat) : List Byte := (List.range n).map (fun i => s.memByte (a + i))

/-- A poisoned burst lies in a range. -/
def State.rangePoisoned (s : State) (a n : Nat) : Bool :=
  (List.range ((a % 64 + n + 63) / 64)).any (fun i => s.burstPoisoned (a / 64 * 64 + 64 * i))

/-- The store address of a partition address. -/
def State.storeAddr (s : State) (t p : Nat) : Nat := s.partBase t * extentBytes + p

/-- A partition address lies in the tenancy's device area, whose content is the device's own (R440). -/
def State.inDevice (s : State) (t p : Nat) : Bool := decide (s.openBytes t ≤ p ∧ p < s.partBytes t)

/-- The byte at a partition address as software reads it: 0 past the partition and in an extent not ready (R436, R442); a free value in the device
area, where the device's own buffers lie. -/
def State.partByte (s : State) (t p : Nat) : Byte :=
  if s.readyBytes t ≤ p ∨ s.partBytes t ≤ p then 0
  else if s.inDevice t p then BitVec.ofNat 8 (Config.freeAt s.draws p)
  else s.memByte (s.storeAddr t p)

/-- Write a byte at a partition address; discarded past the partition and in an extent not ready. -/
def writePart (t p : Nat) (l : List Byte) (s : State) : State :=
  writeBytes (s.storeAddr t p) (l.take (min (s.readyBytes t) (s.partBytes t) - p)) s

/-- A range of a partition reads poisoned. -/
def State.partPoisoned (s : State) (t p n : Nat) : Bool :=
  s.rangePoisoned (s.storeAddr t p) (min n (min (s.readyBytes t) (s.partBytes t) - p))

/-! Errors -/

/-- A read was corrected (R444): counted, and CE_RATE once in an hour whose count passes the threshold. -/
def readCorrected (m : Nat) (s : State) : State :=
  let hour := s.now / 3600000000000
  let old := tabGetD (0, 0, false) m s.store.ceHour
  let n := if old.1 = hour then old.2.1 + 1 else 1
  let done := decide (old.1 = hour) && old.2.2
  let thr := (s.reg (Reg.fstChCeThresh m)).toNat
  let now := !done && decide (thr ≠ 0 ∧ thr < n)
  let s := (setStore { s.store with ceHour := tabSet m (hour, n, done || now) s.store.ceHour } s).bump (Reg.fstChCeCnt m) 1
  if now then raiseCh m 0 s else s

/-- A read was uncorrectable (R445): the burst is poisoned, counted and recorded. -/
def readUncorrectable (m a : Nat) (s : State) : State :=
  let s := (setPoison (a / 64) true s).bump (Reg.fstChUeCnt m) 1
  raiseCh m 1 ((s.setReg (Reg.fstChUeAddrLo m) (wd a)).setReg (Reg.fstChUeAddrHi m) (wd (a / 0x100000000)))

/-- A read of a store address that was not clean, in the channel that holds it. -/
def storeRead (m a : Nat) (uncorrectable : Bool) (s : State) : State :=
  if s.extents * extentBytes ≤ a ∨ s.laneCh (laneOfAddr a).1 (laneOfAddr a).2 ≠ m then s
  else if uncorrectable then (if s.burstPoisoned a then s else readUncorrectable m a s) else readCorrected m s

/-! Start -/

/-- A channel fails (R432, R435, R449): FAILED with its reason; the event is raised and logged (R700), and a CHANNEL_POWER of it is refused (R474). -/
def channelFail (m reason : Nat) (s : State) : State :=
  let s := (setChState m 8 s).setF (Reg.fstChStatus m) 19 16 reason
  let s := setStore { s.store with counted := s.store.counted.filter (fun c => decide (c ≠ m)) } s
  let s := alert 3 (logBit (objChannel m) (Reg.fstChEvent m) 2 (raiseCh m 2 s))
  match tabGet m s.store.power with
  | some o => complete o .stateConflict (objChannel m) (setStore { s.store with power := tabDel m s.store.power } s)
  | none => s

/-- How a training ends (R432, R479): SPD that cannot be read; modules that differ from the plan in count or capacity, or are not rated for its speed; else what the
training found. -/
def trainReason (p : Option StorePlan) (m : Nat) (r : TrainResult) : Nat :=
  let want := match p with | some p => p.modules.getD m [] | none => []
  let found := r.moduleA.toList ++ r.moduleB.toList
  if !r.spdRead then 4 else if found ≠ want ∨ r.rated = false then 1 else r.reason

/-- CHANNEL_TRAINED (R434): a channel in TRAINING enters FILLING, or FAILED with the reason of R479. -/
def doChannelTrained (m : Nat) (r : TrainResult) (s : State) : State :=
  if s.chState m ≠ 2 then s
  else
    let s := (s.setBit (Reg.fstChStatus m) 4 r.moduleA.isSome).setBit (Reg.fstChStatus m) 5 r.moduleB.isSome
    let s := s.setF (Reg.fstChStatus m) 9 8 (match s.store.plan with | some p => p.speed | none => 0)
    let s := (s.setReg (Reg.fstChTrainTime m) (wd r.ms)).setReg (Reg.fstChSrExit m) (wd (min r.srExit 1000))
    let s := s.setF (Reg.fstChCap m) 15 0 (match s.store.plan with | some p => piecesOf p | none => 0)
    let why := trainReason s.store.plan m r
    if why = 0 then (setChState m 3 s).setF (Reg.fstChStatus m) 19 16 0 else channelFail m why s

def execChannelTrained (m : Nat) (r : TrainResult) (s : State) : Host.Outcome State Fault Refusal := run (doChannelTrained m r) s

/-- Place the lanes of a channel that failed at start on spares (R435). They count as their homes (R475), but where a lane map was kept (R476). -/
def placeLanes (m : Nat) (s : State) : State :=
  (s.lanesOn m).foldl (fun s p =>
    match s.bestSpare m with
    | some v =>
      let s := takePiece v s
      if s.store.mapped then setLane p.1 p.2 v s
      else setStore { s.store with homes := tabPut (0x1000 * p.2 + p.1) (12 * p.1 + p.2) v s.store.homes } s
    | none => s) s

/-- Channels of the plan that failed. -/
def State.failedChannels (s : State) : List Nat := (List.range 12).filter (fun m => decide (s.chState m = 8))

/-- The store enters service: the lane map is made, or the kept one stands (R438, R476), and channels count in B (R450). -/
def enterService (failed : List Nat) (s : State) : State :=
  let p := (s.store.plan.map piecesOf).getD 0
  let s :=
    if s.store.mapped then s
    else (List.range 12).foldl (fun s m => setSpares m ((List.range s.sparePieces).map (fun i => s.extents + i)) s) s
  let s := failed.foldl (fun s m => setSpares m [] (placeLanes m s)) s
  let s := setStore { s.store with mapped := true, filling := true, counted := (List.range 12).filter (fun m => !failed.contains m && decide (tabGet m s.store.kept = none)) } s
  let s := (List.range 12).foldl (fun s m => s.setReg (Reg.fstChCap m) (wd (p + 0x10000 * (s.sparesOf m).length))) s
  let s := (s.setBit Reg.fstStatus 0 true).setReg Reg.fstExtents (wd s.extents)
  enginesRefresh (refreshAllLanes (s.setBit Reg.splStatus 0 true))

/-- The spare pieces of the other channels cannot hold the lanes of a channel that failed at start (R435, R439): those that are free, where a lane map was kept (R476). -/
def State.sparesShort (s : State) (failed : List Nat) : Bool :=
  failed.any (fun m => if s.store.mapped then decide (s.othersSpares m < (s.lanesOn m).length) else decide (11 * s.sparePieces < s.extents))

/-- Once every channel is trained or failed, the store enters service, or stays out of it and says why. -/
def storeInService (s : State) : State :=
  if s.storeOn || decide (s.f Reg.fstStatus 7 4 ≠ 0) || s.store.plan.isNone ||
      ((s.store.plan.map plannedChannels).getD []).any (fun m => decide (s.chState m ≠ 3 ∧ s.chState m ≠ 8)) then s
  else
    let fs := s.failedChannels
    if 2 ≤ fs.length then s.setF Reg.fstStatus 7 4 1
    else if s.sparesShort fs then s.setF Reg.fstStatus 7 4 2
    else enterService fs s

/-- Show how much of each partition is ready (R436). -/
def refreshReady (s : State) : State :=
  let r := s.f Reg.fstExtents 31 16
  (List.range 4).foldl (fun s t => s.setReg (Reg.fstTenReadyExt t) (wd (min (r - s.partBase t) (s.partCount t)))) s

/-- EXTENT_READY (R436): the zero fill has completed the next extent in ascending order. -/
def doExtentReady (s : State) : State :=
  let r := s.f Reg.fstExtents 31 16
  if s.storeOn && decide (r < s.extents) then refreshReady (s.setF Reg.fstExtents 31 16 (r + 1)) else s

def execExtentReady (s : State) : Host.Outcome State Fault Refusal := run doExtentReady s

/-- Every channel has left FILLING (R436): every extent is ready, and FILL_DONE is raised once. -/
def fillEnds (s : State) : State :=
  if s.store.filling && (List.range 12).all (fun m => decide (s.chState m ≠ 3)) then
    let s := setStore { s.store with filling := false } (s.setF Reg.fstExtents 31 16 s.extents)
    refreshReady ((s.setBit Reg.fstStatus 1 true).setBit Reg.fstEvent 0 true)
  else s

/-- CHANNEL_FILLED (R436, R474): the channel's last piece is filled. After CHANNEL_POWER ON it ends EVACUATED with every piece spare, and the
command completes; a channel that a kept lane map leaves emptied or half copied takes that state again (R476). -/
def doChannelFilled (m : Nat) (s : State) : State :=
  if s.chState m ≠ 3 then s
  else
    match tabGet m s.store.power with
    | some o =>
      let s := setSpares m (List.range (s.f (Reg.fstChCap m) 15 0)) (setChState m 6 s)
      completeOk o (setStore { s.store with power := tabDel m s.store.power } s)
    | none =>
      if !s.storeOn then s
      else
        let s := setChState m (tabGetD 4 m s.store.kept) s
        fillEnds (setStore { s.store with kept := tabDel m s.store.kept } s)

def execChannelFilled (m : Nat) (s : State) : Host.Outcome State Fault Refusal := run (doChannelFilled m) s

/-! Channel commands -/

/-- Another channel is EVACUATING, EVACUATED or REBALANCING, or FAILED with lanes (R472). -/
def State.otherBusy (s : State) (m : Nat) : Bool :=
  (List.range 12).any (fun c => decide (c ≠ m) &&
    (decide (s.chState c = 5 ∨ s.chState c = 6 ∨ s.chState c = 7) || (decide (s.chState c = 8) && !(s.lanesOn c).isEmpty)))

/-- A copy fits the budget, with B computed without the channel (R472). -/
def State.copyFits (s : State) (m : Nat) : Bool :=
  let b := s.budgetWithout (some m)
  decide (s.committed + 2000000 * s.f Reg.fstCopyRate 4 0 ≤ b) &&
  (List.range 4).all (fun t => decide (s.tenCommitted t ≤ s.tenLimitOf b t))

/-- The checks of EVACUATE_CHANNEL (R471, R472). -/
def evacuateCheck (o : Origin) (m : Nat) (s : State) : Refuse :=
  firstRefusal
    [need (decide (m ≤ 11)) .badField (objChannel m),
     needRig o s,
     needServing s,
     need s.store.copy.isNone .storeBusy (objChannel m),
     need (decide (s.chState m = 4 ∨ s.chState m = 8 ∨ s.chState m = 5) && !s.otherBusy m &&
       decide ((s.lanesOn m).length ≤ s.othersSpares m)) .stateConflict (objChannel m),
     need (s.copyFits m) .bwBudget (objChannel m)]

/-- End a copy: its lanes are shown, its charge is released. -/
def endCopy (s : State) : State := refreshAllLanes ((setStore { s.store with copy := none } s).setBit Reg.fstStatus 2 false)

/-- A copy's last piece is done (R473, R475). -/
def copyDone (j : CopyJob) (s : State) : State :=
  let s := endCopy s
  let s :=
    if j.rebalance then
      raiseCh j.ch 5 (setStore { s.store with counted := j.ch :: s.store.counted.filter (fun c => decide (c ≠ j.ch)) } (setChState j.ch 4 s))
    else raiseCh j.ch 3 (if s.chState j.ch = 5 then setChState j.ch 6 s else s)
  completeOk j.origin s

/-- Start a copy; one with nothing to copy is done at once. -/
def startCopy (j : CopyJob) (s : State) : State :=
  let s := (setStore { s.store with copy := some j, counted := s.store.counted.filter (fun c => decide (c ≠ j.ch)) } s).setBit Reg.fstStatus 2 true
  if j.left.isEmpty then copyDone j s else refreshLanes j.ch s

/-- EVACUATE_CHANNEL (R472, R473). -/
def doEvacuateChannel (o : Origin) (m : Nat) (s : State) : State :=
  loneCommand o .working (evacuateCheck o m)
    (fun s => startCopy ⟨m, false, s.lanesOn m, false, o⟩ (if s.chState m = 8 then s else setChState m 5 s)) s

def execEvacuateChannel (o : Origin) (m : Nat) (s : State) : Host.Outcome State Fault Refusal := run (doEvacuateChannel o m) s

/-- The checks of REBALANCE (R471, R475). -/
def rebalanceCheck (o : Origin) (m : Nat) (s : State) : Refuse :=
  firstRefusal
    [need (decide (m ≤ 11)) .badField (objChannel m),
     needRig o s,
     needServing s,
     need s.store.copy.isNone .storeBusy (objChannel m),
     need (decide (s.chState m = 6 ∨ s.chState m = 7)) .stateConflict (objChannel m),
     need (s.copyFits m) .bwBudget (objChannel m)]

/-- REBALANCE (R475). -/
def doRebalance (o : Origin) (m : Nat) (s : State) : State :=
  loneCommand o .working (rebalanceCheck o m) (fun s => startCopy ⟨m, true, s.lanesHomed m, false, o⟩ (setChState m 7 s)) s

def execRebalance (o : Origin) (m : Nat) (s : State) : Host.Outcome State Fault Refusal := run (doRebalance o m) s

/-- A copy stops (R475, R476): the channel keeps its state and the command completes with ABORTED. -/
def abortCopy (j : CopyJob) (s : State) : State := complete j.origin .aborted (objChannel j.ch) (endCopy s)

/-- The piece a copy moves next goes to this place (R473, R475). -/
def State.copyDest (s : State) (j : CopyJob) : Option Nat :=
  match j.left with
  | [] => none
  | (x, k) :: _ => if j.rebalance then some (s.homeOf x k) else s.bestSpare j.ch

/-- Move the lane of a piece whose copy is done. From a FAILED channel every burst is written poisoned (R473). -/
def movePiece (x k dest : Nat) (s : State) : State :=
  let src := s.laneAt x k
  let lost := decide (s.chState (src / 0x1000) = 8)
  let s := freePiece src (setLane x k dest (takePiece dest s))
  if lost then
    let rest := s.store.lanePoison.filter (fun l => decide (l ≠ 12 * x + k))
    setStore { s.store with
      lanePoison := (12 * x + k) :: rest
      poison := s.store.poison.filter (fun b => decide (laneOfAddr (64 * b) ≠ (x, k))) } s
  else s

/-- PIECE_COPIED (R473): the piece under copy is done and its lane moves; the copy goes on, ends, or stops where a mode change asks it to (R476). -/
def doPieceCopied (s : State) : State :=
  match s.store.copy with
  | none => s
  | some j =>
    match j.left, s.copyDest j with
    | (x, k) :: rest, some dest =>
      let s := movePiece x k dest s
      let j' := { j with left := rest }
      let s := setStore { s.store with copy := some j' } s
      if rest.isEmpty then copyDone j' s
      else if j.stopping then abortCopy j' s
      else refreshLanes (dest / 0x1000) (refreshLanes j.ch s)
    | _, _ => abortCopy j s

def execPieceCopied (s : State) : Host.Outcome State Fault Refusal := run doPieceCopied s

/-- A running copy is to stop after its current piece (R476). -/
def stopCopy (s : State) : State :=
  match s.store.copy with
  | some j => setStore { s.store with copy := some { j with stopping := true } } s
  | none => s

/-- The checks of CHANNEL_POWER (R471, R474). -/
def channelPowerCheck (o : Origin) (m : Nat) (on : Bool) (s : State) : Refuse :=
  firstRefusal
    [need (decide (m ≤ 11)) .badField (objChannel m),
     needRig o s,
     need (if on then s.serving else decide (s.mode = .maintenance)) .stateConflict (objChannel m),
     need ((if on then decide (s.chState m = 1)
       else decide (s.chState m = 6) || (decide (s.chState m = 8) && (s.lanesOn m).isEmpty)) && (tabGet m s.store.power).isNone)
       .stateConflict (objChannel m)]

/-- The level of a MEM_PWR_EN pin. -/
def setMemPwr (m : Nat) (v : Bool) (s : State) : State :=
  let p := s.store.memPwrEn
  setStore { s.store with memPwrEn := if p.testBit m = v then p else if v then p + 2 ^ m else p - 2 ^ m } s

/-- An accepted CHANNEL_POWER: the pin falls, or rises and the channel trains (R474). -/
def channelPowerEffect (o : Origin) (m : Nat) (on : Bool) (s : State) : State :=
  let s := setMemPwr m on (setStore { s.store with power := tabSet m o s.store.power } s)
  if on then (setChState m 2 s).setF (Reg.fstChStatus m) 19 16 0 else s

/-- CHANNEL_POWER (R474). -/
def doChannelPower (o : Origin) (m : Nat) (on : Bool) (s : State) : State :=
  loneCommand o .working (channelPowerCheck o m on) (channelPowerEffect o m on) s

def execChannelPower (o : Origin) (m : Nat) (on : Bool) (s : State) : Host.Outcome State Fault Refusal := run (doChannelPower o m on) s

/-- POWER_OFF_SAFE (R474): 100 ms after MEM_PWR_EN fell the channel is OFF. -/
def doPowerOffSafe (m : Nat) (s : State) : State :=
  match tabGet m s.store.power with
  | some o =>
    if s.store.memPwrEn.testBit m || decide (s.chState m = 2 ∨ s.chState m = 3) then s
    else completeOk o (raiseCh m 4 (setChState m 1 (setSpares m [] (setStore { s.store with power := tabDel m s.store.power } s))))
  | none => s

def execPowerOffSafe (m : Nat) (s : State) : Host.Outcome State Fault Refusal := run (doPowerOffSafe m) s

/-- FAILED (R449): a channel in use fails with ALERT; a copy to it stops (R475). -/
def doFailed (m : Nat) (s : State) : State :=
  if 12 ≤ m ∨ s.chState m < 3 ∨ s.chState m = 8 then s
  else
    let into := match s.store.copy with
      | some j => decide ((s.copyDest j).map (fun d => d / 0x1000) = some m)
      | none => false
    let s := channelFail m 3 s
    let s := match s.store.copy with
      | some j => if into then abortCopy j s else s
      | none => s
    fillEnds s

def execFailed (m : Nat) (s : State) : Host.Outcome State Fault Refusal := run (doFailed m) s

/-- PATROL_SCRUB (R448): reads of the scrub that were not clean, as channel, store address and whether uncorrectable, and the end of a pass. -/
def doPatrolScrub (reads : List (Nat × Nat × Bool)) (pass : Bool) (s : State) : State :=
  if !s.bit Reg.fstScrubCtrl 16 || !s.storeOn then s
  else
    let s := reads.foldl (fun s r => storeRead r.1 r.2.1 r.2.2 s) s
    if pass then setStore { s.store with scrubAt := s.now } s else s

def execPatrolScrub (reads : List (Nat × Nat × Bool)) (pass : Bool) (s : State) : Host.Outcome State Fault Refusal := run (doPatrolScrub reads pass) s

/-- FST_SCRUB_LAST as it reads: hours since the last complete pass (R448). -/
def State.scrubHours (s : State) : Word := wd ((s.now - s.store.scrubAt) / 3600000000000)

/-! Self-refresh -/

/-- A channel is in self-refresh. -/
def State.refreshing (s : State) (m : Nat) : Bool := (tabGet m s.store.selfRefresh).isSome

/-- A channel enters self-refresh, and leaves it: its residency in µs is accumulated (R459). -/
def intoRefresh (m : Nat) (s : State) : State := setStore { s.store with selfRefresh := tabSet m s.now s.store.selfRefresh } s
def outOfRefresh (m : Nat) (s : State) : State :=
  match tabGet m s.store.selfRefresh with
  | some t => (setStore { s.store with selfRefresh := tabDel m s.store.selfRefresh } s).bump (Reg.fstChSrRes m) ((s.now - t) / 1000)
  | none => s

/-- An object that reported slack still reads or writes (R412, R457): a sheet bend or compositor that runs, a layer of one, a recorder that writes, a player that plays, an output that
holds, a promoted egress. -/
def State.stillPaced (s : State) (obj : Nat) : Bool :=
  let n := objIndex obj
  match objClass obj with
  | 0x01 => ((tabGet n s.spl.losses).map (fun l => l.holding)).getD false
  | 0x03 => s.sbRuns n
  | 0x04 => s.cpRuns n
  | 0x05 => s.cpRuns (n / 8) && lOn s.liveView (n / 8) (n % 8)
  | 0x07 => (s.recSt n).writing.isSome
  | 0x08 => s.bit (Reg.fstPlyStatus n) 0
  | 0x1C => (tabGet n s.spl.promos).isSome
  | _ => false

/-- The instant at which the least slack of the device, of a reader or a writer, runs out (R457, R458); none when nothing reports. -/
def State.leastDeadline (s : State) : Option Nat :=
  ((s.store.slacks ++ s.store.writerSlacks).filter (fun e => s.stillPaced e.1)).foldl (fun b e => match b with | none => some e.2 | some x => some (min x e.2)) none

/-- What slack a channel needs to be in self-refresh (R458): its exit time and SR_MARGIN, in ns. -/
def State.refreshNeeds (s : State) (m : Nat) : Nat := (s.reg (Reg.fstChSrExit m)).toNat + s.f Reg.fstSrCtrl 31 16

/-- The slack lets a channel enter self-refresh (R458). -/
def State.slackAllows (s : State) (m : Nat) : Bool :=
  match s.leastDeadline with
  | some t => decide (s.now + s.refreshNeeds m + 1000 < t)
  | none => true

/-- The span of a side of a transfer. -/
def dmaSpan (r : DmaRequest) (pitch : Nat) : Nat := (r.lines - 1) * pitch + r.lineLen

/-- The store ranges of a transfer: base and length. -/
def dmaRanges (r : DmaRequest) : List (Nat × Nat) :=
  if r.dir = 0 then [(r.dst, dmaSpan r r.dstPitch)]
  else if r.dir = 1 then [(r.src, dmaSpan r r.srcPitch)]
  else [(r.src, dmaSpan r r.srcPitch), (r.dst, dmaSpan r r.dstPitch)]

/-- The channels that hold the granules of a range of a partition, as far as it is ready (R437). -/
def State.rangeChannels (s : State) (t p n : Nat) : List Nat :=
  let a := s.storeAddr t p
  let n := min n (min (s.readyBytes t) (s.partBytes t) - p)
  (List.range (if n = 0 then 0 else (a % 4096 + n + 4095) / 4096)).map (fun i =>
    let q := laneOfAddr (a / 4096 * 4096 + 4096 * i)
    s.laneCh q.1 q.2)

/-- A DMA transfer of a queue waits for the channel. -/
def State.dmaWaits (s : State) (m : Nat) : Bool :=
  s.host.dmaQueues.any (fun e => e.2.any (fun j => (dmaRanges j.req).any (fun r => (s.rangeChannels j.origin.tenancy r.1 r.2).contains m)))

/-- No host, DMA, fill, copy or scrub work waits for the channel (R458). Host requests are served at once in this model. -/
def State.quietChannel (s : State) (m : Nat) : Bool := !s.dmaWaits m && !s.store.filling && s.store.copy.isNone

/-- SELF_REFRESH_ENTRY (R458): the slack allows it, the channel holds its state, and no work waits. -/
def doSelfRefreshEntry (m : Nat) (s : State) : State :=
  if s.bit Reg.fstSrCtrl 0 && decide (s.chState m = 4 ∨ s.chState m = 6) && s.quietChannel m && s.slackAllows m && !s.refreshing m then intoRefresh m s else s

def execSelfRefreshEntry (m : Nat) (s : State) : Host.Outcome State Fault Refusal := run (doSelfRefreshEntry m) s

/-- A channel in self-refresh begins its exit (R458): the least slack has come down to what it needs, or work waits for it. -/
def State.exitDue (s : State) (m : Nat) : Bool :=
  !s.quietChannel m || !s.bit Reg.fstSrCtrl 0 ||
  (match s.leastDeadline with
   | some t => decide (t ≤ s.now + s.refreshNeeds m)
   | none => false)

/-- SELF_REFRESH_EXIT (R458 to R460): a channel leaves self-refresh when its exit is due or, with `host`, a host request for it arrives; it stays there for 1 µs at least, and in a
sleep mode for as long as it lasts. -/
def doSelfRefreshExit (m : Nat) (host : Bool) (s : State) : State :=
  match tabGet m s.store.selfRefresh with
  | some t => if s.now < t + 1000 ∨ s.mode = .doze ∨ s.mode = .deepSleep ∨ (host || s.exitDue m) = false then s else outOfRefresh m s
  | none => s

/-- A host or DMA request for bytes of a partition starts the exit of the channels that hold them at once (R459). -/
def wakeChannels (t p n : Nat) (s : State) : State :=
  (s.rangeChannels t p n).foldl (fun s m => outOfRefresh m s) s

def execSelfRefreshExit (m : Nat) (host : Bool) (s : State) : Host.Outcome State Fault Refusal := run (doSelfRefreshExit m host) s

/-! BAR2 -/

/-- Modes in which BAR2 reads 0 and ignores writes (R751), and those with no link. -/
def State.bar2Open (s : State) : Bool :=
  match s.mode with
  | .bringUp => true
  | .service => true
  | .maintenance => true
  | _ => false

/-- Count a BAR2 request that reaches past the partition (R442). -/
def bar2Oor (t p n : Nat) (s : State) : State :=
  if s.partBytes t < p + n then s.bump (Reg.fstTenBar2OorCnt t) 1 else s

/-- BAR2_ACCESS (R442, R446, R459): a request to the tenancy's window. -/
def doBar2Access (t : Nat) (q : Bar2) (s : State) : State :=
  let base := 67108864 * s.f (Reg.fstTenBar2Base t) 15 0
  match q with
  | .read off n =>
    if !s.bar2Open then s.emit (.reply (List.replicate n 0))
    else
      let p := base + off
      let s := wakeChannels t p n s
      let data := (List.range n).map (fun i => s.partByte t (p + i))
      let bad := s.partPoisoned t p n
      let s := bar2Oor t p n s
      if bad then { s with host := { s.host with aerNonFatal := s.host.aerNonFatal + 1 } }.draw.emit (.poisoned data) else s.draw.emit (.reply data)
  | .write off data =>
    if !s.bar2Open then s
    else bar2Oor t (base + off) data.length (writePart t (base + off) data (wakeChannels t (base + off) data.length s))

def execBar2Access (t : Nat) (q : Bar2) (s : State) : Host.Outcome State Fault Refusal := run (doBar2Access t q) s

/-! Registers -/

/-- FST_STATUS.LAST_RESULT. -/
def fstResult (st : Status) (s : State) : State := s.setF Reg.fstStatus 23 16 (statusCode st)

/-- A write of FST_BUDGET_PCT (R450). -/
def budgetWrite (v : Nat) (s : State) : State :=
  if v < 50 ∨ 85 < v then fstResult .badField s
  else if s.storeOn && decide (s.peakWithout none * v / 100 < s.committed + s.copyCharge) then fstResult .stateConflict s
  else s.setF Reg.fstBudgetPct 6 0 v

/-- A write of a frame-store register with a rule of its own (R442, R450, R478). -/
def fstWrite (l : Loc) (a : Nat) (v : Word) (s : State) : State :=
  if a = Reg.fstBudgetPct then budgetWrite (fld v 6 0) s
  else if a = Reg.fstCopyRate then (if 1 ≤ fld v 4 0 ∧ fld v 4 0 ≤ 20 then plainWrite l a v s else s)
  else if a = Reg.fstScrubCtrl then (if 1 ≤ fld v 15 0 ∧ fld v 15 0 ≤ 720 then plainWrite l a v s else s)
  else if l.kind = .fstTen ∧ l.off = 0x18 then (if 67108864 * fld v 15 0 < s.partBytes l.i then plainWrite l a v s else s)
  else plainWrite l a v s

/-! Recorders and players -/

/-- RECORDER_SET (R469, R630). -/
def doRecorderSet (o : Origin) (n mask : Nat) (block : Option (List Word)) (s : State) : State :=
  regForm o (decide (n < 256)) (objRec n) false mask [Reg.fstRecCtrl n, Reg.fstRecBase n, Reg.fstRecSlot n, Reg.fstRecDepth n] block s

def execRecorderSet (o : Origin) (n mask : Nat) (block : Option (List Word)) (s : State) : Host.Outcome State Fault Refusal :=
  run (doRecorderSet o n mask block) s

/-- PLAYER_SET (R467, R469, R630). -/
def doPlayerSet (o : Origin) (n mask : Nat) (block : Option (List Word)) (s : State) : State :=
  regForm o (decide (n < 256)) (objPly n) false mask
    [Reg.fstPlyCtrl n, Reg.fstPlyTg n, Reg.fstPlyDelay n, Reg.fstPlyCueLo n, Reg.fstPlyCueHi n] block s

def execPlayerSet (o : Origin) (n mask : Nat) (block : Option (List Word)) (s : State) : Host.Outcome State Fault Refusal :=
  run (doPlayerSet o n mask block) s

/-- The oldest frame of a recorder's ring at or after a time (R469). -/
def State.frameAt (s : State) (r time : Nat) : Option Nat :=
  ((s.recSt r).heads.map Prod.snd).foldl (fun (b : Option Nat) h =>
    if h.flags.testBit 0 && decide (time ≤ h.time) then (match b with | none => some h.seq | some q => some (min q h.seq)) else b) none

/-- The frame PLAYER_CUE finds, by the recorder the player reads. -/
def State.cueFrame (s : State) (n time : Nat) : Option Nat := s.frameAt (plyRecorder s.reg n) time

/-- The checks of PLAYER_CUE (R388, R469). -/
def playerCueCheck (o : Origin) (n time : Nat) (s : State) : Refuse :=
  firstRefusal
    [need (decide (n < 256)) .badField (objPly n),
     needOwner o (objPly n) s,
     needServing s,
     need (s.stageFree (objPly n) false) .stateConflict (objPly n),
     needZone (objPly n) s,
     need (s.cueFrame n time).isSome .sourceAbsent (objPly n)]

/-- PLAYER_CUE (R469): the cue takes effect as a pending copy does. -/
def doPlayerCue (o : Origin) (n time : Nat) (s : State) : State :=
  loneCommand o .working (playerCueCheck o n time)
    (fun s =>
      let q := (s.cueFrame n time).getD 0
      stageObject (objPly n) o.tenancy [(Reg.fstPlyCueLo n, wd q), (Reg.fstPlyCueHi n, wd (q / 0x100000000))] (some o) s) s

def execPlayerCue (o : Origin) (n time : Nat) (s : State) : Host.Outcome State Fault Refusal := run (doPlayerCue o n time) s

/-! Frames -/

/-- The 256 bytes of a slot header (R462). -/
def headBytes (h : SlotHead) : List Byte :=
  leBytes 8 h.seq ++ leBytes 8 h.time ++ leBytes 4 h.fmt.toNat ++ leBytes 4 h.size.toNat ++ leBytes 4 h.rate.toNat ++
  leBytes 1 h.store ++ leBytes 1 h.flags ++ List.replicate 0xE2 0

/-- The live ring of a recorder: base and slot in bytes, depth. -/
def State.recRing (s : State) (r : Nat) : Nat × Nat × Nat :=
  (4096 * (s.liveReg (Reg.fstRecBase r)).toNat, 4096 * (s.liveReg (Reg.fstRecSlot r)).toNat, s.lf (Reg.fstRecDepth r) 23 0)

/-- Write a slot header into the ring's memory and keep it. -/
def putHead (r slot : Nat) (h : SlotHead) (s : State) : State :=
  let g := s.recRing r
  let s := setRecSt r { s.recSt r with heads := tabSet slot h (s.recSt r).heads } s
  match s.owner (objRec r) with
  | some t => writePart t (g.1 + g.2.1 * slot) (headBytes h) s
  | none => s

/-- The frames of a recorder's ring that readers hold, by SEQ (R465): players in a mode that reads, and DELAY layers. -/
def State.heldSeqs (s : State) (r : Nat) : List Nat :=
  (s.store.plys.filterMap (fun e => if plyRecorder s.liveReg e.1 = r then e.2.shown else none)) ++
  (s.eng.layers.filterMap (fun e =>
    let cp := e.1 / 8
    let l := e.1 % 8
    if lOn s.liveView cp l && decide (lKind s.liveView cp l = 3 ∧ fld (s.liveReg (Reg.cmpLSource cp l)) 7 0 = r) then e.2.shown else none))

/-- A slot of the ring is held by a reader. -/
def State.slotHeld (s : State) (r slot : Nat) : Bool :=
  match tabGet slot (s.recSt r).heads with
  | some h => h.flags.testBit 0 && (s.heldSeqs r).contains h.seq
  | none => false

/-- The first slot from `n` on, in ring order, that no reader holds (R465). -/
def State.freeSlot (s : State) (r n depth : Nat) : Option Nat :=
  ((List.range depth).map (fun i => (n + i) % (max depth 1))).find? (fun k => !s.slotHeld r k)

/-- Start the next slot: its header takes the new SEQ with FLAGS 0, so that its older frame can no longer be read (R463, R465). -/
def startSlot (r time : Nat) (f : Format) (s : State) : State :=
  let g := s.recRing r
  let st := s.recSt r
  let n := st.nextSlot % (max g.2.2 1)
  match s.freeSlot r n g.2.2 with
  | none =>
    let s := raiseRec r 3 (s.bump (Reg.fstRecSkipCnt r) 1)
    setRecSt r { st with nextSeq := st.nextSeq + 1, writing := none, skipped := true } s
  | some k =>
    let s := if k = n then s else raiseRec r 3 (s.bump (Reg.fstRecSkipCnt r) 1)
    let s := setRecSt r { st with nextSeq := st.nextSeq + 1, nextSlot := (k + 1) % (max g.2.2 1), writing := some k, skipped := false } s
    putHead r k ⟨st.nextSeq, time, fmtWord f, fmtSizeWord f, fmtRateWord f, storeCode f, 0⟩ s

/-- Show the newest COMPLETE frame (R481). -/
def refreshRec (r : Nat) (s : State) : State :=
  match s.recNewest r with
  | none => s
  | some h =>
    let slot := (((s.recSt r).heads.find? (fun e => decide (e.2.seq = h.seq))).map Prod.fst).getD 0
    ((s.setF (Reg.fstRecNewest r) 23 0 slot).setReg (Reg.fstRecSeqLo r) (wd h.seq)).setReg (Reg.fstRecSeqHi r) (wd (h.seq / 0x100000000))

/-- Write the lines of a frame into a slot, at its pitch (R461, R464). -/
def writeRows (t at_ : Nat) (f : Format) (rows : List (List Px)) (s : State) : State :=
  ((List.range rows.length).zip rows).foldl (fun s e => writePart t (at_ + slotPitch f * e.1) (packLine (storeCode f) (storedLow f) (e.2.take f.width)) s) s

/-- The frame being written is complete (R463, R795): its pixels, then its final header with COMPLETE, and ABSENT or UNFIT where they hold. -/
def finishSlot (r : Nat) (absent : Bool) (rows : List (List Px)) (f : Format) (s : State) : State :=
  match (s.recSt r).writing with
  | none => s
  | some k =>
    let g := s.recRing r
    let unfit := !absent && (decide (g.2.1 - 256 < storedFrame f) || s.bit (Reg.fstRecStatus r) 2)
    let s := if unfit then raiseRec r 2 s else s
    let s := if absent || unfit then s
      else match s.owner (objRec r) with
        | some t => writeRows t (g.1 + g.2.1 * k + 256) f (rows.take f.height) s
        | none => s
    let old := tabGet k (s.recSt r).heads
    let s := putHead r k ⟨(old.map (fun h => h.seq)).getD 0, (old.map (fun h => h.time)).getD 0, fmtWord f, fmtSizeWord f, fmtRateWord f, storeCode f, 1 + 2 * b2n absent + 4 * b2n unfit⟩ s
    refreshRec r (setRecSt r { s.recSt r with writing := none } s)

/-- A recorder's frame is over: the slot it wrote is final and the next one starts, its frame's alignment point at `next` (R463). A frame that no slot could take is not written (R465). -/
def recorderFrame (r : Nat) (absent : Bool) (time next : Nat) (rows : List (List Px)) (s : State) : State :=
  if !s.bit (Reg.fstRecStatus r) 0 || (s.hitch (s.recEo r)).isNone then s
  else
    match (match s.eoFormat s.liveReg (s.recEo r) with | some f => some f | none => (s.recSt r).fmt) with
    | none => s
    | some f =>
      let s := if (s.recSt r).writing.isNone && !(s.recSt r).skipped then startSlot r time f s else s
      startSlot r next f (finishSlot r absent rows f s)

/-- A list repeats with a period: it is true at every index congruent to `p`, and false at the others. -/
def periodic (period p : Nat) (l : List Bool) : Bool :=
  ((List.range l.length).zip l).all (fun e => decide (e.2 = decide (e.1 % period = p)))

/-- A pulldown pattern found in the last matches (R314): 1 for 3:2, 2 for 2:2. In a progressive 3:2 sequence two frames of every five are new
(DEDUCED from the film frames' rate of 2/5). -/
def cadenceFound (interlaced : Bool) (d k : List Bool) : Nat :=
  let any (n period : Nat) (l : List Bool) : Bool := decide (n ≤ l.length) && (List.range period).any (fun p => periodic period p (l.take n))
  let three := fun (l : List Bool) => decide (20 ≤ l.length) &&
    (List.range 5).any (fun p => ((List.range 20).zip l).all (fun e => decide (e.2 = decide ((e.1 + p) % 5 ≠ 0 ∧ (e.1 + p) % 5 ≠ 2))))
  if interlaced then (if any 20 5 d then 1 else if any 16 2 k then 2 else 0)
  else if three d then 1
  else if any 16 2 d then 2
  else 0

/-- A sheet bend's cadence after a field or frame with metrics `d` and `k` (R314, R315). -/
def cadenceStep (n d k : Nat) (s : State) : State :=
  let st := s.sheetSt n
  if !sbCadence s.liveView n then
    (setSheetSt n { st with histD := [], histK := [] } s).setF (Reg.sbdStatus n) 7 6 0
  else
    let thr := fld (s.liveReg (Reg.sbdDeintCtrl n)) 27 16
    let inter := (s.inFormat s.liveView (s.sbSource s.liveReg n)).any (fun f => decide (f.scan = 1))
    let locked := s.f (Reg.sbdStatus n) 7 6
    let md := decide (d ≤ thr)
    let mk := decide (k ≤ thr)
    let useK := inter && decide (locked = 2)
    let hist := if useK then st.histK else st.histD
    let period := if locked = 1 then 5 else 2
    let want := hist.getD (period - 1) false
    if locked = 0 then
      let hd := (md :: st.histD).take 48
      let hk := (mk :: st.histK).take 48
      let s := setSheetSt n { st with histD := hd, histK := hk } s
      let p := cadenceFound inter hd hk
      if p = 0 then s else raiseSb n 2 (s.setF (Reg.sbdStatus n) 7 6 p)
    else if want && !(if useK then mk else md) then
      raiseSb n 3 ((setSheetSt n { st with histD := [md], histK := [mk] } s).setF (Reg.sbdStatus n) 7 6 0)
    else
      let h := (want :: hist).take 48
      setSheetSt n (if useK then { st with histK := h } else { st with histD := h }) s

/-- A field or frame is completely written into a sheet bend's ring (R300, R795). -/
def keepFrame (n start : Nat) (second : Bool) (s : State) : State :=
  let st := s.sheetSt n
  let l := st.frames ++ [⟨st.count, start, second⟩]
  setSheetSt n { st with frames := l.drop (l.length - 48), count := st.count + 1 } s

/-- The zone of a writer (R49). -/
def writerZone : FrameWriter → Nat
  | .recorder r _ _ _ _ => r / 16
  | .sheet n _ _ _ _ => sbZone n

/-- FRAME_COMPLETE (R795): a recorder's slot is final, or a SYNC sheet bend has a frame whose cadence is judged. -/
def doFrameComplete (w : FrameWriter) (s : State) : State :=
  match w with
  | .recorder r absent time next rows => recorderFrame r absent time next rows s
  | .sheet n start second d k =>
    if decide (sbTiming s.liveView n = 1 ∧ s.sbLead n = n) && s.sbRuns n then cadenceStep n d k (keepFrame n start second s) else s

def execFrameComplete (w : FrameWriter) (s : State) : Host.Outcome State Fault Refusal := run (unlessStopped (writerZone w) (doFrameComplete w)) s

end Sys2Proof.Machine
end

