-- ==== Sys2Proof/Machine/Carriage.lean ====
section
/-! DEFINITION. What an encoder sends beside its pixels: ancillary packets (R170, R184, R185), embedded audio (R508, R510), the InfoFrames and SDPs of display sources (R187, R512); and
the chroma of 4:2:0 links (R144). -/

namespace Sys2Proof.Machine

open Sys2Proof

/-! 4:2:0 (R144). On the wire a pair of lines shares its chroma. -/

/-- The essence at an egress port comes straight from a display sink that receives 4:2:0. -/
def State.fromHalved (s : State) (eo : Nat) : Bool :=
  match (s.hitch eo).bind s.producer with
  | some (.dispSink dp) => ((tabGet (64 + 4 * dp) s.wire.formats).map (fun f => decide (f.sampling = 3))).getD false
  | _ => false

/-- Chroma of a line between that of its own pair and that of the nearest other pair: two taps, whose weights the spec does not give, are a free value. -/
def chromaBetween (y : Nat) (own other : List Px) : List Px :=
  (own.zipIdx).map (fun p =>
    let q := other.getD p.2 p.1
    (p.1.1, Config.chromaTap (y % 2) p.1.2.1 q.2.1, Config.chromaTap (y % 2) p.1.2.2 q.2.2))

/-- The lines a 4:2:0 sink hands to the essence matrix, of the lines it receives. -/
def sinkLines (l : SrcLines) : SrcLines :=
  l.map (fun e =>
    let row := e.px.map Prod.fst
    let k := if e.n % 2 = 0 then e.n - 2 else e.n + 1
    let other := if e.n = 0 then row else (lineOf l k).getD row
    ⟨e.n, (chromaBetween e.n row other).map (fun p => (p, 0))⟩)

/-- The lines of the essence at an egress port, of what its source received. -/
def State.essLines (s : State) (eo : Nat) (l : SrcLines) : SrcLines := if s.fromHalved eo then sinkLines l else l

/-- The mean of two chroma samples; which way a half goes is free. -/
def chromaMean (a b : Nat) : Nat := (a + b + b2n Config.chromaRoundUp) / 2

/-- A line as a source set to 4:2:0 sends it: the luma of the line, the chroma the mean of its pair's. -/
def halvedRow (row a b : List Px) : List Px :=
  (row.zipIdx).map (fun p =>
    let x := a.getD p.2 p.1
    let y := b.getD p.2 p.1
    (p.1.1, chromaMean x.2.1 y.2.1, chromaMean x.2.2 y.2.2))

/-- The display source an egress port feeds is set to 4:2:0 for an essence with chroma to average. -/
def State.sendsHalved (s : State) (eo sampling : Nat) : Bool :=
  match s.consumer eo with
  | some (.dispSrc dp) => decide (s.sourceSampling dp sampling = 3)
  | _ => false

/-! Ancillary packets: their way (R184) -/

/-- The packet is of a class that a decoder carries: payload identification, audio, and EDH are not. The ST 299 DIDs are PRESUMED from ST 299-1 and -2 (log entry on ancillary data). -/
def ancCarried (p : AncPacket) : Bool :=
  !(decide (p.did = 0x41 ∧ p.sdid = 0x01) || decide (p.did = 0xF4) || decide (0xE0 ≤ p.did ∧ p.did ≤ 0xE7) || decide (0xA0 ≤ p.did ∧ p.did ≤ 0xA7))

/-- A timecode packet (R184). -/
def isAtc (p : AncPacket) : Bool := decide (p.did = 0x60 ∧ p.sdid = 0x60)

/-- The ingress port of a decoder or receiver whose packets reach an egress port (R184, R185): through a sheet bend while the frame rate is unchanged and the frame is not a repeat;
through a compositor from the layer its ANC_LAYER names while it is LIVE and shows its source. -/
def ancOriginF : Nat → State → Nat → Option Nat
  | 0, _, _ => none
  | k + 1, s, eo =>
    match s.hitch eo with
    | none => none
    | some ei =>
      match s.producer ei with
      | some (.sdiDec _ _) => some ei
      | some (.dispSink _) => some ei
      | some (.rx2110 _) => some ei
      | some (.sbOut n) =>
        let same := match s.inFormat s.liveView (s.sbSource s.liveReg n), s.eiFormat s.liveReg ei with
          | some f, some g => rateEq (fps f) (fps g)
          | _, _ => false
        if same && !s.bit (Reg.sbdStatus n) 2 && !(s.sheetSt (s.sbLead n)).stalled && !(s.sheetSt (s.sbLead n)).repeated then ancOriginF k s (s.sbSource s.liveReg n) else none
      | some (.cpOut n) =>
        let c := s.liveReg (Reg.cmpCfg n)
        let l := fld c 10 8
        if bitOf c 11 && lOn s.liveView n l && decide (lKind s.liveView n l = 1 ∧ s.f (Reg.cmpLStatus n l) 2 1 = 0) then
          match s.layerEo n l with
          | some eo' => ancOriginF k s eo'
          | none => none
        else none
      | _ => none

/-- The ingress port whose packets reach an encoder that shows its source. -/
def State.ancOrigin (s : State) (eo : Nat) : Option Nat := if (tabGet eo s.spl.losses).isSome then none else ancOriginF 32 s eo

/-- An encoder's drop list takes a packet (R184): of a class other than those of the decoder and ATC. -/
def State.ancDropped (s : State) (n : Nat) (p : AncPacket) : Bool :=
  !isAtc p && s.bit (Reg.wirAncCtrl n) 0 && (List.range 16).any (fun j =>
    let w := s.reg (Reg.wirAncDrop n j)
    bitOf w 17 && decide (fld w 7 0 = p.did) && (!bitOf w 16 || decide (fld w 15 8 = p.sdid)))

/-! Ancillary packets: their place (R185) -/

/-- A packet lies in the horizontal space of a raster, else in the vertical. -/
def ancHoriz (t : Timing) (p : AncPacket) : Bool := decide (p.offset = 0xFFE ∨ (p.offset < 0xFFD ∧ t.hA ≤ p.offset))

/-- Words that a packet takes: its flag, its header, its data and its checksum. -/
def ancSize (p : AncPacket) : Nat := p.words.length + 7

/-- Words of an ancillary space on a line: between EAV and SAV, or the active part of a line without picture (PRESUMED from ST 291-1, log entry on ancillary data). -/
def ancSpace (t : Timing) (line : Nat) (horiz : Bool) : Nat :=
  if t.vTotal ≤ line then 0
  else if horiz then t.hTotal - t.hA - 12
  else if line < t.vF + t.vS + t.vB ∨ (t.scan ≠ 0 ∧ t.f1 ≤ line ∧ line < t.f1 + 1 + t.vF + t.vS + t.vB) then t.hA
  else 0

/-- What an encoder is to place on a line. -/
def State.ancOn (s : State) (eo line : Nat) : List AncPacket := tabGetD [] (0x4000 * eo + line) s.wire.ancPlan

/-- A line has room for a packet in its space. -/
def State.ancRoom (s : State) (t : Timing) (eo line : Nat) (p : AncPacket) : Bool :=
  let used := ((s.ancOn eo line).filter (fun q => decide (ancHoriz t q = ancHoriz t p ∧ q.colour = p.colour))).foldl (fun a q => a + ancSize q) 0
  decide (used + ancSize p ≤ ancSpace t line (ancHoriz t p))

/-- The line a packet goes to at line `now` of the frame: its own, or the first with room that has not been sent. -/
def State.ancLineFor (s : State) (t : Timing) (eo now : Nat) (p : AncPacket) : Option Nat :=
  if now ≤ p.line ∧ s.ancRoom t eo p.line p = true then some p.line
  else (List.range (t.vTotal - now)).findSome? (fun (k : Nat) => if s.ancRoom t eo (now + k) p then some (now + k) else none)

/-- An SDI encoder places one packet of a frame (R184, R185): timecode on the format's line, every other where it was; on its drop list, or without room, it is dropped and counted. -/
def placeAnc (tg eo n now : Nat) (s : State) (p : AncPacket) : State :=
  let t := genTiming s.liveReg tg
  let p := if isAtc p then { p with line := Config.atcLine t.height t.scan, offset := 0xFFE, colour := false } else p
  if s.ancDropped n p then s.bump (Reg.wirAncDropCnt n) 1
  else
    match s.ancLineFor t eo now p with
    | none => s.bump (Reg.wirAncDropCnt n) 1
    | some line =>
      let k := 0x4000 * eo + line
      { s with wire := { s.wire with ancPlan := tabSet k (s.ancOn eo line ++ [{ p with line := line }]) s.wire.ancPlan } }

/-- The packets that came with a frame reach an encoder (R170, R184): an SDI encoder places those its path carries, an ST 2110 sender sends them under the frame's timestamp. -/
def frameAnc (tg line eo ei : Nat) (ps : List AncPacket) (s : State) : State :=
  if s.pacedBy eo ≠ some tg ∨ s.ancOrigin eo ≠ some ei then s
  else
    let ps := ps.filter ancCarried
    match s.consumer eo with
    | some (.sdiEnc n _) => ps.foldl (placeAnc tg eo n line) s
    | some (.tx2110 _) => queueAnc eo ps s
    | _ => s

/-! Ancillary packets that an SDI encoder generates (R184) -/

/-- The format an encoder sends: its essence's, else its generator's raster in 4:2:2 10-bit. -/
def State.sentFormat (s : State) (tg eo : Nat) : Format :=
  (s.eoFormat s.liveReg eo).getD (timingFormat (genTiming s.liveReg tg) 0 1 1 false)

/-- The payload identifier of a format. -/
def payloadId (f : Format) (line : Nat) : AncPacket :=
  ⟨0x41, 0x01, (List.range 4).map (fun (i : Nat) => parityWord (Config.payloadByte (fmtWord f) (fmtSizeWord f) (fmtRateWord f) i)), line, 0xFFE, false⟩

/-- The packets an encoder generates on a line: payload identification, and on ST 259 the EDH packet, whose words the spec leaves to its standard: free values. -/
def State.generated (s : State) (tg eo n line : Nat) : List AncPacket :=
  let t := genTiming s.liveReg tg
  (if line = Config.payloadLine t.height t.scan then [payloadId (s.sentFormat tg eo) line] else []) ++
  (if s.rate n = 0x01 ∧ line = Config.edhLine t.height then
    [⟨0xF4, 0, (List.range 16).map (fun (i : Nat) => parityWord (Config.freeAt s.draws i)), line, 0xFFE, false⟩] else [])

/-- The ancillary packets of an SDI encoder's line leave: what it generates, and what was placed there. -/
def sendAnc (tg line eo : Nat) (s : State) : State :=
  match s.consumer eo with
  | some (.sdiEnc n _) =>
    let ps := s.generated tg eo n line ++ s.ancOn eo line
    let s := { s with wire := { s.wire with ancPlan := tabDel (0x4000 * eo + line) s.wire.ancPlan } }
    if ps.isEmpty then s else (s.emit (.anc (objDest eo) line (ps.map ancWords))).draw
  | _ => s

/-! Embedded audio -/

/-- Samples embedded by the end of `k` frames: 48 kHz over the frame rate, to the nearest, which for the rates over 1.001 gives the sequence of five frames (PRESUMED from ST 299-1, log
entry on embedded audio). -/
def samplesBy (rate : Nat × Nat) (k : Nat) : Nat := (2 * k * 48000 * rate.2 + rate.1) / (2 * max rate.1 1)

/-- The samples of frame `k` that fall to a line of a frame (R510). -/
def lineSamples (rate : Nat × Nat) (k lines line : Nat) : Nat :=
  let n := samplesBy rate (k + 1) - samplesBy rate k
  n * (line + 1) / max lines 1 - n * line / max lines 1

/-- The audio outputs bound to an encoder, by channel (R508). -/
def State.encoderAmos (s : State) (n : Nat) : List Nat :=
  (List.range (s.wireChannels n)).filterMap (fun (c : Nat) => (s.aud.amoBind.find? (fun e => decide (e.2 = .wire n c))).map Prod.fst)

/-- An encoder takes the samples of a line from one of its outputs, as AES3 subframes with V and the channel status (R510); what has not come is silence. -/
def takeSamples (count : Nat) (acc : List (List Nat) × State) (amo : Nat) : List (List Nat) × State :=
  let s := acc.2
  let q := tabGetD [] amo s.aud.framed
  let l := s.amoLine amo
  let st := s.amoBlockOf amo
  let ws := (List.range count).map (fun (i : Nat) => aesWord (q.getD i (0, false)) (statusBit st (l.sent + i)))
  (acc.1 ++ [ws], setAud { s.aud with framed := tabSet amo (q.drop count) s.aud.framed, lines := tabSet amo { l with sent := l.sent + count } s.aud.lines } s)

/-- The first essence port of a strand's encoder, which stands for its audio. -/
def State.firstEo (s : State) (eo : Nat) : Option Nat :=
  match (s.consumer eo).bind encoderStrand with
  | some n => if (s.encoderEos n).head? = some eo then some n else none
  | none => none

/-- An encoder embeds the audio of a line (R508, R510). -/
def embedAudio (tg line eo : Nat) (s : State) : State :=
  match s.firstEo eo with
  | none => s
  | some n =>
    let t := genTiming s.liveReg tg
    let amos := s.encoderAmos n
    if amos.isEmpty then s
    else
      let k := tabGetD 0 eo s.aud.frameNo
      let r := amos.foldl (takeSamples (lineSamples t.rate k t.vTotal line)) ([], s)
      let s := if line + 1 = t.vTotal then setAud { r.2.aud with frameNo := tabSet eo (k + 1) r.2.aud.frameNo } r.2 else r.2
      s.emit (.embedded eo line r.1)

/-! InfoFrames and SDPs of display sources (R187, R512) -/

/-- The AVI InfoFrame of a format, from data byte 1 on (PRESUMED from CTA-861, as are the next). -/
def aviInfo (f : Format) : List Nat :=
  let y := match f.sampling with | 2 => 0 | 0 => 1 | 1 => 2 | _ => 3
  let c := if f.colour = 1 then 2 else if f.colour = 0 then 0 else 3
  [0x20 * y, 0x40 * c, (if c = 3 then 0x60 else 0) + (if y = 0 then (if f.fullRange then 8 else 4) else 0), 0, (if y ≠ 0 ∧ f.fullRange = true then 0x40 else 0)] ++ List.replicate 8 0

/-- The VSC SDP of a format, from data byte 0 on. -/
def vscInfo (f : Format) : List Nat :=
  let e := match f.sampling with | 2 => 0 | 1 => 1 | 0 => 2 | _ => 3
  let c := if f.colour = 1 then 1 else if f.colour = 0 then 0 else 6
  List.replicate 16 0 ++ [0x10 * e + c, f.depth + 1 + (if f.fullRange then 0 else 0x80), 0]

/-- The Dynamic Range and Mastering metadata of an essence: what came with it, or for a BT.2100 essence its transfer function alone. -/
def State.masteringOf (s : State) (eo : Nat) (f : Format) : Option (List Byte) :=
  let came := match (s.ancOrigin eo).bind s.producer with
    | some (.dispSink dp) => tabGet (64 + 4 * dp) s.wire.mastering
    | _ => none
  match came with
  | some d => some d
  | none => if f.colour = 3 ∨ f.colour = 4 then some (natBytes ((f.colour - 1) :: List.replicate 25 0)) else none

/-- The channel count of a display source's audio (R512): 2, or 8 with more outputs bound. -/
def audioCount (amos : Nat) : Nat := if amos ≤ 2 then 2 else 8

/-- N and CTS of an HDMI source (R512): for TMDS 6144, or what HDMI recommends at clocks over 1.001, and for FRL a value by rate code that the spec leaves to HDMI; CTS is the link's clock in
kHz × 1000 × N ÷ (128 × 48,000). -/
def nCts (tmdsClock : Nat) (m : Bool) (frl : Nat) : Nat × Nat :=
  let n := if frl ≠ 0 then Config.frlN frl % 0x100000 else if !m then 6144 else if tmdsClock < 30000 then 6864 else if tmdsClock < 100000 then 11648 else 5824
  (n, tmdsClock * n / 6144)

/-- Maud and Naud of a DisplayPort source (R512): 512 × 48 kHz over the link symbol clock in kHz, in lowest terms (PRESUMED). -/
def audRatio (clock : Nat) : Nat × Nat := (24576 / Nat.gcd 24576 clock, clock / Nat.gcd 24576 clock)

/-- What a display source sends at the start of a frame: the metadata of its essence, its audio clock values, and the audio InfoFrame. -/
def sendInfo (tg eo : Nat) (f : Format) (s : State) : State :=
  match s.consumer eo with
  | some (.dispSrc dp) =>
    let n := 64 + 4 * dp
    let hdmi := s.bit (Reg.strCfg n) 6
    let g := { f with sampling := s.sourceSampling dp f.sampling }
    let s := s.emit (if hdmi then .infoFrame dp 0x82 (natBytes (aviInfo g)) else .infoFrame dp 0x07 (natBytes (vscInfo g)))
    let s := match s.masteringOf eo f with | some d => s.emit (.infoFrame dp 0x87 d) | none => s
    let amos := (s.encoderAmos n).length
    if amos = 0 then s
    else
      let t := genTiming s.liveReg tg
      let frl := if s.rate n = 0x3F then 0 else s.rate n
      let clock := if hdmi then (if frl = 0 then tmdsKbps t g.sampling g.depth / 10 else dispKbps frl / 18) else dispKbps (s.f (Reg.strDpSbStatus dp) 13 8) / 10
      let p := if hdmi then nCts clock t.m frl else audRatio clock
      let s := s.emit (.infoFrame dp 0x01 (natBytes (beBytes 3 p.1 ++ beBytes 3 p.2)))
      s.emit (.infoFrame dp 0x84 (natBytes ((audioCount amos - 1) :: List.replicate 9 0)))
  | _ => s

end Sys2Proof.Machine
end

