-- ==== Sys2Proof/Machine/Readers.lean ====
section
/-! DEFINITION. What reads pixels from the frame store line by line: compositor layers with their faults, poison and underruns (R346, R362, R376, R377, R379, R380),
players (R446, R467), hold buffers (R233, R381, R446), and the frames a SYNC sheet bend chooses (R300 to R305, R312, R313, R315, R446). -/

namespace Sys2Proof.Machine

open Sys2Proof

/-! Pictures in the store -/

/-- A picture in a tenancy's partition: where its lines start, its pitch, its format with whether that holds 8-bit values × 4, and its width. -/
structure Picture where
  tenancy : Nat
  base : Nat
  pitch : Nat
  code : Nat
  low : Bool
  width : Nat
  deriving DecidableEq, Repr

/-- Line `n` of a picture (R346, R464). -/
def State.pictureLine (s : State) (p : Picture) (n : Nat) : List (Px × Nat) :=
  unpackLine p.code p.low p.width ((List.range (lineBytes p.code p.width)).map (fun i => s.partByte p.tenancy (p.base + p.pitch * n + i)))

/-- The frame of a delay line by SEQ (R461, R462). -/
def State.framePicture (s : State) (t r q : Nat) : Option Picture :=
  ((s.recSt r).heads.find? (fun e => decide (e.2.seq = q) && e.2.flags.testBit 0)).map (fun e =>
    let g := s.recRing r
    let f := headFormat e.2
    ⟨t, g.1 + g.2.1 * e.1 + 256, slotPitch f, e.2.store, storedLow f, f.width⟩)

/-! Hold buffers (R233, R381) -/

/-- The hold buffer of an EO. -/
def State.holdBuf (s : State) (eo : Nat) : HoldBuf := (tabGet eo s.spl.holdBufs).getD ⟨[], [], false⟩

/-- Replace a hold buffer. -/
def setHoldBuf (eo : Nat) (b : HoldBuf) (s : State) : State := { s with spl := { s.spl with holdBufs := tabSet eo b s.spl.holdBufs } }

/-- A line of the source goes to the slot that does not hold the last complete frame; the frame's last line makes that slot the last complete one. -/
def keepLine (eo height : Nat) (x : SrcLine) (s : State) : State :=
  let b := s.holdBuf eo
  let other := x :: b.other.filter (fun (y : SrcLine) => decide (y.n ≠ x.n))
  setHoldBuf eo (if x.n + 1 = height then ⟨other, b.last, false⟩ else { b with other := other }) s

/-- The lines a hold buffer gives: of its last complete frame, after poison of the other. -/
def State.heldLines (s : State) (eo : Nat) : SrcLines := if (s.holdBuf eo).poisoned then (s.holdBuf eo).other else (s.holdBuf eo).last

/-- A frame begins: poison of the frame before no longer counts. -/
def freshHold (eo : Nat) (s : State) : State := if (s.holdBuf eo).poisoned then setHoldBuf eo { s.holdBuf eo with poisoned := false } s else s

/-! Layers -/

/-- An event of a layer that is raised once per frame. -/
def layerOnce (cp l b : Nat) (done : Bool) (s : State) : State := if done then s else raiseLayer cp l b s

/-- A BUFFER layer applies its policy for the rest of a frame, with HOLD acting as FILL (R377). -/
def bufferPolicy (cp l : Nat) (s : State) : State :=
  let a := Reg.cmpLStatus cp l
  let hide := decide (lPolicy s.liveView cp l = 1) && !s.bit a 6
  let was := s.f a 2 1
  if hide then s.setF a 2 1 2
  else
    let s := s.setF a 2 1 3
    if was = 3 then s else raiseLayer cp l 7 s

/-- The picture a fetching layer reads: its buffer, or the frame it chose of its delay line; after poison the one it read in the frame before (R377). -/
def State.layerPicture (s : State) (cp l : Nat) : Option Picture :=
  let v := s.liveView
  match s.owner (objCp cp) with
  | none => none
  | some t =>
    if lKind v cp l = 2 then (tabGet (s.layerHandle v cp l) s.eng.handles).map (fun h => ⟨t, h.offset, h.pitch, h.format, false, h.width⟩)
    else
      let st := s.layerSt (layerNo cp l)
      (if st.poisoned then st.prev else st.shown).bind (fun q => s.framePicture t (fld (v.rd (Reg.cmpLSource cp l)) 7 0) q)

/-- The lines of its crop window that output line `y` of a layer uses (R318, R350, R352). -/
def layerRows (v : View) (cp l : Nat) (f : LayerSrc) (y : Nat) : List Nat :=
  let c := layerCrop v cp l f
  let r := layerRect v cp l c.2.2.1 c.2.2.2
  if ¬(r.y0 ≤ y ∧ y < r.y1) then []
  else
    let yy := ((y : Int) - r.y0).toNat
    if bitOf (lCtl v cp l) 7 then
      let p := (layerInits v cp l f).2 + yy * (layerSteps v cp l f).2
      let ts : List Int := if layerTaps v cp l f = some 2 then [0, 1] else [-1, 0, 1, 2]
      (ts.map (fun t => (clampI 0 ((c.2.2.2 : Int) - 1) (sar p 20 + t)).toNat)).eraseDups
    else [yy]

/-- The partition ranges, as address and length, that a layer fetches for output line `y` (R362). -/
def State.layerSpans (s : State) (cp l : Nat) (f : LayerSrc) (p : Picture) (y : Nat) : List (Nat × Nat) :=
  let v := s.liveView
  let g := s.layerRanges v cp l f
  (layerRows v cp l f y).flatMap (fun n => (g n).map (fun e => (p.base + p.pitch * ((layerCrop v cp l f).2.1 + n) + e.1, e.2 - e.1)))

/-- A fetch fell outside the partition (R376). -/
def fetchFault (cp l : Nat) (s : State) : State :=
  let st := s.layerSt (layerNo cp l)
  setLayerSt (layerNo cp l) { st with faulted := true } (layerOnce cp l 2 st.faulted (s.bump (Reg.cmpLFaultCnt cp l) 1))

/-- A fetch returned poisoned data (R377). -/
def fetchPoison (cp l : Nat) (s : State) : State :=
  let st := s.layerSt (layerNo cp l)
  let s := setLayerSt (layerNo cp l) { st with poisoned := true } (layerOnce cp l 3 st.poisoned (s.bump (Reg.cmpLPoisonCnt cp l) 1))
  if lKind s.liveView cp l = 2 then bufferPolicy cp l s else s

/-- What a layer that misses a line shows on it: nothing under HIDE, else its fill (R379). -/
def State.missed (s : State) (cp l : Nat) : Nat := if lPolicy s.liveView cp l = 1 ∧ s.bit (Reg.cmpLStatus cp l) 6 = false then 2 else 3

/-- A fetching layer on output line `y`, with what becomes of its fetches (R363, R376, R377, R379); `late` says that its line is not in its line buffer. -/
def fetchLayer (cp y l : Nat) (late : Bool) (s : State) : State × LayerIn :=
  let v := s.liveView
  match s.layerSrc v cp l, s.layerPicture cp l with
  | some f, some p =>
    let spans := s.layerSpans cp l f p y
    if spans.isEmpty then (s, ⟨l, [], none⟩)
    else
      let outside := spans.any (fun e => decide (s.partBytes p.tenancy < e.1 + e.2))
      let bad := spans.any (fun e => s.partPoisoned p.tenancy e.1 e.2)
      let s := if outside then fetchFault cp l s else s
      let s := if bad then fetchPoison cp l s else s
      let s := if late then raiseLayer cp l 4 (s.bump (Reg.cmpLUnderrunCnt cp l) 1) else s
      match s.layerPicture cp l with
      | some p =>
        (s, ⟨l, (layerRows v cp l f y).map (fun n => ⟨(layerCrop v cp l f).2.1 + n, s.pictureLine p ((layerCrop v cp l f).2.1 + n)⟩),
          if outside then some 3 else if late then some (s.missed cp l) else none⟩)
      | none => (s, ⟨l, [], some 3⟩)
  | _, _ => (s, ⟨l, [], none⟩)

/-- A LIVE layer on an output line (R379 to R381): from the first line it loses it is not ready; under HOLD its source's lines go to its hold buffer, which gives them while it holds. -/
def liveLayer (cp l : Nat) (lines : SrcLines) (late : Bool) (s : State) : State × LayerIn :=
  match s.layerEo cp l with
  | none => (s, ⟨l, [], none⟩)
  | some eo =>
    let s := if late && s.bit (Reg.cmpLStatus cp l) 0 then layerLost cp l eo (!s.eoPresent eo) s else s
    let shows := s.f (Reg.cmpLStatus cp l) 2 1
    let s := if lPolicy s.liveView cp l = 0 ∧ shows = 0 ∧ s.layerKeeps cp l then
        match s.inFormat s.liveView eo with
        | some f => lines.foldl (fun s x => keepLine eo f.height x s) s
        | none => s
      else s
    let held := s.heldLines eo
    if shows ≠ 1 then (s, ⟨l, lines, none⟩) else (s, ⟨l, held, if held.isEmpty then some 3 else none⟩)

/-- What an enabled layer brings to an output line. A layer in a coil that is formed is not fetched (R367). -/
def layerInput (cp y : Nat) (live : List (Nat × SrcLines)) (late : List Nat) (l : Nat) (s : State) : State × LayerIn :=
  let coiled := ((tabGet cp s.eng.coils).map (fun c => !c.forming)).getD false && decide (l ≤ s.f (Reg.cmpStatus cp) 4 2)
  if !lOn s.liveView cp l || coiled then (s, ⟨l, [], none⟩)
  else
    match lKind s.liveView cp l with
    | 0 => (s, ⟨l, [], none⟩)
    | 1 => liveLayer cp l (((live.find? (fun e => decide (e.1 = l))).map Prod.snd).getD []) (late.contains l) s
    | _ => fetchLayer cp y l (late.contains l) s

/-- A compositor emits an output line (R349, R358, R359, R367). -/
def composeOut (cp y : Nat) (live : List (Nat × SrcLines)) (late : List Nat) (s : State) : State :=
  let r := (List.range (s.cpLayers cp)).foldl (fun (r : State × List LayerIn) l =>
    let q := layerInput cp y live late l r.1
    (q.1, r.2 ++ [q.2])) (s, [])
  let s := r.1
  let o := s.composeLine cp y r.2
  let s := match o.2, tabGet cp s.eng.coils with
    | some d, some c => { s with eng := { s.eng with coils := tabSet cp { c with lines := tabSet y d c.lines } s.eng.coils } }
    | _, _ => s
  s.emit (.line (objCp cp) y o.1)

/-! Players -/

/-- A player read poisoned data (R446): counted and raised, its slot's header takes the POISONED flag, and the frame before is repeated to the end of the frame. -/
def playerPoisoned (p : Nat) (s : State) : State :=
  let s := raisePly p 2 (s.bump (Reg.fstPlyPoisonCnt p) 1)
  let r := plyRecorder s.liveReg p
  let q := (s.plySt p).shown
  let s := setPlySt p { s.plySt p with poisoned := true } s
  match q.bind (fun q => (s.recSt r).heads.find? (fun e => decide (e.2.seq = q))) with
  | some (k, h) => putHead r k { h with flags := h.flags ||| 8 } s
  | none => s

/-- The picture a player reads (R446, R467). -/
def State.playerPicture (s : State) (p : Nat) : Option Picture :=
  let st := s.plySt p
  match s.owner (objPly p) with
  | some t => (if st.poisoned then st.prev else st.shown).bind (s.framePicture t (plyRecorder s.liveReg p))
  | none => none

/-- A player that can read emits a line of its frame (R467). After poison in its first frame it has no other, and sends no pixels. -/
def playerLine (p y : Nat) (s : State) : State :=
  if !s.bit (Reg.fstPlyStatus p) 0 then s
  else
    let s := match s.playerPicture p with
      | some q => if !(s.plySt p).poisoned && s.partPoisoned q.tenancy (q.base + q.pitch * y) (lineBytes q.code q.width) then playerPoisoned p s else s
      | none => s
    s.emit (.line (objPly p) y (((s.playerPicture p).map (fun q => (s.pictureLine q y).map Prod.fst)).getD []))

/-! The frames of a SYNC sheet bend -/

/-- The film frames in a history of matches (R314, R315): `hist` says of the last fields or frames, newest first, whether each matched. An interlaced film frame stands complete at the
second of its fields and starts with the first; a progressive one is a frame that is no repeat. -/
def filmFrames (cadence : Nat) (inter : Bool) (hist : List Bool) (frames : List SheetFrame) : List SheetFrame :=
  let fr := frames.reverse
  ((List.range (min fr.length hist.length)).filterMap (fun i =>
    let own := fr.getD i ⟨0, 0, false⟩
    let pair : SheetFrame := { own with start := (fr.getD (i + 1) own).start }
    let at_ (k : Nat) : Bool := hist.getD (i + k) false
    if inter then
      if cadence = 1 then (if !at_ 0 && !at_ 1 && (at_ 2 || (!at_ 2 && !at_ 3 && at_ 4)) then some pair else none)
      else if at_ 0 then some pair else none
    else if at_ 0 then none else some own)).reverse

/-- The sequence a SYNC engine converts (R312, R315): film frames while a cadence is locked, else the fields or frames written. -/
def State.sheetSeq (s : State) (n : Nat) (inter : Bool) : List SheetFrame :=
  let st := s.sheetSt n
  let c := s.f (Reg.sbdStatus n) 7 6
  if c = 0 then st.frames else filmFrames c inter (if inter ∧ c = 2 then st.histK else st.histD) st.frames

/-- The period of that sequence in ns, from the input's frame period. -/
def State.sheetPeriod (s : State) (n : Nat) (f : Format) : Nat :=
  let half := 1000000000 * f.rateDen / (2 * max f.rateNum 1)
  let unit := if f.scan = 1 then half else 2 * half
  match s.f (Reg.sbdStatus n) 7 6 with
  | 1 => 5 * unit / 2
  | 2 => 2 * unit
  | _ => unit

/-- The time at which the next first active line of a raster starts, from line `line` on, with whether it is field 2's. -/
def State.nextActive (s : State) (tg line : Nat) : Nat × Bool :=
  let t := genTiming s.liveReg tg
  let wait (a : Nat) : Nat := (a + t.vTotal - line % (max t.vTotal 1)) % (max t.vTotal 1)
  let one := wait (t.vF + t.vS + t.vB)
  let two := wait (t.f1 + 1 + t.vF + t.vS + t.vB)
  if t.scan ≠ 0 ∧ two < one then (s.now + two * t.lineNs, true) else (s.now + one * t.lineNs, false)

/-- The eligible fields or frames of a SYNC engine, oldest first (R300, R308, R309): a MOTION engine needs the field after; with DEINT OFF an output field takes a field of its own kind;
a frame still being written is eligible when it will be there in time (`early`) and the rates are equal. -/
def State.sheetEligible (s : State) (n : Nat) (f : Format) (second : Bool) (early : Option Nat) : List SheetFrame :=
  let v := s.liveView
  let inter := decide (f.scan = 1)
  let plain := decide (s.f (Reg.sbdStatus n) 7 6 = 0)
  let done := s.sheetSeq n inter
  let all := match early with
    | some t => if plain && decide (sbFrc v n ≠ 2) && rateEq (fps f) (sbRate v n f) then done ++ [⟨(s.sheetSt n).count, t, second⟩] else done
    | none => done
  let ready := if inter && plain && decide (sbDeint v n = 3) then all.dropLast else all
  if inter && plain && decide (sbDeint v n = 0) then ready.filter (fun x => decide (x.second = second)) else ready

/-- The frame a SYNC engine reads in the output frame that starts (R300, R302), and the weight of the one after it under BLEND (R313); none while it has none. -/
def State.sheetChoice (s : State) (n tg line : Nat) (early : Option Nat) : Option (SheetFrame × Nat) :=
  match s.inFormat s.liveView (s.sbSource s.liveReg n) with
  | none => none
  | some f =>
    let a := s.nextActive tg line
    let l := s.sheetEligible n f a.2 early
    let d := fld (s.liveReg (Reg.sbdDelay n)) 3 0
    if sbFrc s.liveView n = 2 then
      let period := s.sheetPeriod n f
      let old := (l.filter (fun x => decide (x.start + period ≤ a.1))).length
      if old < d + 1 then none
      else
        (l[old - 1 - d]?).map (fun x => (x, match l[old - d]? with
          | some y => blendWeight a.1 (period + d * period) x.start y.start
          | none => 0))
    else if l.length < d + 1 then none
    else (l[l.length - 1 - d]?).map (fun x => (x, 0))

/-- Count repeats and drops of a SYNC engine (R301); under FRC NONE each raises FRAME_SLIP (R312). -/
def countSlip (n reps drops : Nat) (s : State) : State :=
  let s := (s.bump (Reg.sbdRepeatCnt n) reps).bump (Reg.sbdDropCnt n) drops
  if sbFrc s.liveView n = 0 ∧ 0 < reps + drops then raiseSb n 4 s else s

/-- A SYNC engine, a sheet bend or the leader of a gang, at the start of an output frame (R300 to R305). -/
def sheetFrame (n tg line : Nat) (early : Option Nat) (s : State) : State :=
  if !s.sbRuns n || decide (sbTiming s.liveView n ≠ 1 ∨ s.sbLead n ≠ n) then s
  else
    let s := (s.gangOf n).foldl (fun s k =>
      setSheetSt k { s.sheetSt k with before := (s.sheetSt k).lines, lines := [], poisoned := false } s) s
    let st := s.sheetSt n
    let a := Reg.sbdStatus n
    let c := s.sheetChoice n tg line early
    if st.stalled then
      match (if s.sbFed n && !s.bit a 3 then c else none) with
      | some (x, w) =>
        if st.read = some x.no then sheetHold n s
        else
          let s := setSheetSt n { st with stalled := false, held := 0, lost := false, read := some x.no, weight := w } (setFilling n false s)
          if st.lost then raiseSb n 6 s else s
      | none => sheetHold n s
    else
      match c with
      | none => s
      | some (x, w) =>
        let old := st.read.getD x.no
        let seq := s.sheetSeq n (decide ((s.inFormat s.liveView (s.sbSource s.liveReg n)).any (fun f => decide (f.scan = 1))))
        let reps := if st.read.isNone then 0 else if x.no = old then 1 else (seq.filter (fun y => decide (x.no ≤ y.no ∧ y.no ≤ old))).length
        let drops := (seq.filter (fun y => decide (old < y.no ∧ y.no < x.no))).length
        countSlip n reps drops (setSheetSt n { st with read := some x.no, weight := w, repeated := decide (0 < reps) } s)
where
  /-- One more output frame on hold (R303): the fill follows after HOLD_LIMIT of them. -/
  sheetHold (n : Nat) (s : State) : State :=
    let st := s.sheetSt n
    let s := setSheetSt n { st with held := st.held + 1 } s
    if !s.bit (Reg.sbdStatus n) 2 && decide (fld (s.liveReg (Reg.sbdCfg n)) 31 24 ≤ st.held) then raiseSb n 7 (setFilling n true s) else s

/-- A sheet bend's output line: its fill while FILLING (R303), else what its path makes of its input (R290). -/
def State.sheetRow (s : State) (n y : Nat) (cur prev next other : SrcLines) : List Px :=
  let v := s.liveView
  if s.bit (Reg.sbdStatus n) 2 then
    match s.eiFormat s.liveReg (s.sbEi n) with
    | some f => List.replicate (sbOut v n).1 (fillFor (s.liveReg (Reg.sbdFill n)) f)
    | none => []
  else
    match s.inFormat v (s.sbSource v.rd n) with
    | some f => s.sbLine n y f (fun k => s.sbFrameLine n f cur prev next other k)
    | none => []

/-- A running sheet bend emits an output line on a port that its shape carries; after poison the line of the frame before (R331, R446). -/
def sheetOut (n y : Nat) (cur prev next other : SrcLines) (s : State) : State :=
  if !s.sbRuns n || !(s.sbOutputs n).contains (s.sbEi n) then s
  else
    let st := s.sheetSt n
    let row := if st.poisoned then (tabGet y st.before).getD [] else s.sheetRow n y cur prev next other
    (setSheetSt n { st with lines := tabSet y row st.lines } s).emit (.line (objSb n) y row)

/-- A SYNC sheet bend read poisoned data (R446). -/
def sheetPoison (n : Nat) (s : State) : State :=
  (s.gangOf n).foldl (fun s k => setSheetSt k { s.sheetSt k with poisoned := true } s) (raiseSb (s.sbLead n) 4 s)

end Sys2Proof.Machine
end

