-- ==== Sys2Proof/Machine/Lines.lean ====
section
/-! DEFINITION. Line starts (R400 to R413) and what they bring about: alignment points and the lock of generators (R405 to R411), reader slack (R413),
the lines of encoders with their fills and rectangle checks (R232, R420 to R422), of sheet bends (R300 to R305) and compositors
(R358, R376 to R382), and reads of the frame store (R443 to R446). -/

namespace Sys2Proof.Machine

open Sys2Proof

/-! Rasters -/

/-- The field and active line of a line number, if it is active (R398): field 1, or field 2 of an interlaced or PsF raster. -/
def activeLine (t : Timing) (line : Nat) : Option (Nat × Nat) :=
  let a := t.vF + t.vS + t.vB
  if a ≤ line ∧ line < a + t.vA then some (1, line - a)
  else if t.scan ≠ 0 ∧ t.f1 + 1 + a ≤ line ∧ line < t.f1 + 1 + a + t.vA then some (2, line - (t.f1 + 1 + a))
  else none

/-- The generator runs a raster: RUN, or it serves as a promotion reserve (R401). -/
def State.rasterRuns (s : State) (tg : Nat) : Bool := s.genRuns tg || s.bit (Reg.scnStatus tg) 14

/-- The built-in timing of a format (R403, R404). -/
def formatTiming (f : Format) : Option Timing :=
  ((List.range 64).filterMap (fun k => tableTiming (k / 8) (k % 8))).find? (fun t =>
    decide (t.hA = f.width ∧ t.height = f.height ∧ t.scan = f.scan) && rateEq t.rate (fps f))

/-- The raster a generator runs: its own timing, or as a promotion reserve that of the promoted output (R401, R214). -/
def State.raster (s : State) (tg : Nat) : Timing :=
  let own := genTiming s.liveReg tg
  if s.genRuns tg then own
  else (((s.spl.promos.find? (fun e => decide (e.2.tg = tg))).bind (fun e => tabGet e.1 s.strand.tautFormat)).bind formatTiming).getD own

/-- A re-time gap or lock-step extension is in progress. -/
def State.inGap (s : State) (tg : Nat) : Bool := (s.genSt tg).gap.isSome || (s.genSt tg).stepping.isSome

/-- SCN_POS as it reads: line, pixel and field; LINE 0x1FFF in a gap or an extension. -/
def State.posWord (s : State) (tg : Nat) : Word :=
  let t := s.raster tg
  let px := (s.now - (s.genSt tg).lineAt) * t.pclk / 1000000 % (max t.hTotal 1)
  if !s.rasterRuns tg then s.reg (Reg.scnPos tg)
  else if s.inGap tg then setFld (wd 0x1FFF) 28 16 px
  else setFld (s.reg (Reg.scnPos tg)) 28 16 px

/-! Lock -/

/-- The alignment point of a frame (R405, R408, R409, R411). `since` is the time since the alignment point of the essence a generator under SOURCE is locked to reached its port. Where
nothing places the generator's frames, or it serves as a reserve, SCN_PHASE_ERR reads a free value. -/
def alignPoint (tg since : Nat) (s : State) : State :=
  let s := (s.setReg (Reg.scnAlignLo tg) (wd s.now)).setReg (Reg.scnAlignHi tg) (wd (s.now / 0x100000000))
  let s := if s.lockSrc tg = 3 then setGenSt tg { s.genSt tg with sourceAt := some (s.now - since) } s else s
  let seen := if s.genRuns tg then s.phaseAt tg s.now else none
  let err := seen.getD 0
  let s := if seen.isSome then s.setReg (Reg.scnPhaseErr tg) (wd (uxSat 32 err)) else (s.setReg (Reg.scnPhaseErr tg) (Config.freeWord s.draws)).draw
  if !s.genRuns tg || decide (s.lockSrc tg = 0) then s
  else
    match s.lockRefState tg with
    | .absent => genUnlock tg 4 s
    | .mismatch => setEngResult (objTg tg) .formatMismatch (genUnlock tg 4 s)
    | .ok =>
      if err.natAbs ≤ fld (s.liveReg (Reg.scnLockCfg tg)) 31 16 then (if s.lockState tg = 3 then s else genLocked tg s)
      else genUnlock tg 2 s

/-- Report the least reader slack at a line start (R413): 0xFFFFFFFF where no reader is paced. -/
def reportSlack (tg : Nat) (least : Option Nat) (s : State) : State :=
  let m := Reg.scnSlackMin tg
  match least with
  | none => (s.setReg (Reg.scnSlackNow tg) (wd 0xFFFFFFFF)).setReg m (wd 0xFFFFFFFF)
  | some v =>
    let v := min v 0xFFFFFFFF
    (s.setReg (Reg.scnSlackNow tg) (wd v)).setReg m (wd (min v (s.reg m).toNat))

/-! Sources that leave the lead window -/

/-- A committed source is no longer timed (R235, R382). -/
def sourceSlips (d : Nat) (lead : Int) (s : State) : State :=
  let w := destWin d
  let s := (s.setF (Reg.splSpliceStatus w) 31 16 (uxSat 16 lead)).setBit (Reg.splSrc w) 13 false
  match s.consumer d with
  | none => s
  | some c =>
    if isEncoder c then
      if (tabGet d s.spl.losses).isSome then s
      else startLoss d .slip false true (raiseDest d 6 (s.bump (Reg.splSlipCnt w) 1))
    else
      match c with
      | .layer cp l => if lOn s.liveView cp l && decide (lKind s.liveView cp l = 1) && s.bit (Reg.cmpLStatus cp l) 0 then layerLost cp l d false s else s
      | _ => s

/-! Encoders -/

/-- The encoder shows its fill: no content and no hold, or until its generator is LOCKED (R232, R418). -/
def State.showsFill (s : State) (eo : Nat) : Bool :=
  (match tabGet eo s.spl.losses with
   | some l => !l.holding
   | none => false) ||
  (match s.pacedBy eo with
   | some tg => (s.genSt tg).fillUntilLocked
   | none => false) || (s.hitch eo).isNone

/-- The pixels an encoder sends on an active line. -/
def State.sentRow (s : State) (tg eo : Nat) (row : List Px) : List Px :=
  if s.showsFill eo then List.replicate (genTiming s.liveReg tg).hA (fillFor (s.reg (Reg.splDestFill (destWin eo))) (s.sentFormat tg eo)) else row

/-- A rectangle is checked on a field: enabled, not empty, and within the active raster (R421). -/
def State.rectOn (s : State) (tg r field : Nat) : Bool :=
  let t := genTiming s.liveReg tg
  let p := s.liveReg (Reg.scnCrcPos tg r)
  let z := s.liveReg (Reg.scnCrcSize tg r)
  let f := fld p 31 30
  bitOf (s.liveReg (Reg.scnCrcCtrl tg)) (16 + r) && decide (fld z 12 0 ≠ 0 ∧ fld z 28 16 ≠ 0) &&
  decide (fld p 12 0 + fld z 12 0 ≤ t.hA ∧ fld p 28 16 + fld z 28 16 ≤ t.vA) &&
  (if t.scan = 0 then decide (f = 0) else if field = 1 then decide (f ≤ 1) else decide (f = 2))

/-- A rectangle's last line has been fed (R422): the result is latched and compared. -/
def latchRect (tg r c : Nat) (s : State) : State :=
  let s := (s.setReg (Reg.scnCrcResult tg r) (wd c)).setBit (Reg.scnCrcStatus tg) r true
  if !bitOf (s.liveReg (Reg.scnCrcCtrl tg)) 24 then s
  else if wd c = s.liveReg (Reg.scnCrcExpect tg r) then s.setBit (Reg.scnCrcStatus tg) (8 + r) true
  else
    raiseEn (s.owner (objTg tg)) (objTg tg) (Reg.scnCrcEvent tg) (Reg.scnCrcEventEn tg) r
      (setGenSt tg { s.genSt tg with mismatch := true } s)

/-- Feed one rectangle with row `i` of a field. -/
def feedRect (tg r i : Nat) (words : Nat → Nat → List Nat) (s : State) : State :=
  let p := s.liveReg (Reg.scnCrcPos tg r)
  let z := s.liveReg (Reg.scnCrcSize tg r)
  let y := fld p 28 16
  let h := fld z 28 16
  if i < y ∨ y + h ≤ i then s
  else
    let st := s.genSt tg
    let c0 := if i = y then 0xFFFFFFFF else tabGetD 0xFFFFFFFF r st.crc
    let c := crcFeed c0 (words (fld p 12 0) (fld z 12 0))
    let s := setGenSt tg { st with crc := tabSet r c st.crc } s
    if i + 1 = y + h then latchRect tg r (crcFinal c) s else s

/-- Feed the rectangles with row `i` of a field, and count the frame or field at its end (R420 to R422). -/
def feedCrc (tg eo field i : Nat) (row : List Px) (s : State) : State :=
  if fld (s.liveReg (Reg.scnCrcCtrl tg)) 9 0 ≠ eo ∨ (s.genSt tg).fillUntilLocked then s
  else
    let sampling := (s.sentFormat tg eo).sampling
    let s := if i = 0 then (s.setReg (Reg.scnCrcStatus tg) 0) else s
    let words := fun (x w : Nat) => crcWords sampling ((row.drop x).take w)
    let s := ((List.range 8).filter (fun r => s.rectOn tg r field)).foldl (fun s r => feedRect tg r i words s) s
    if i + 1 = (genTiming s.liveReg tg).vA ∧ s.f (Reg.scnCrcStatus tg) 7 0 ≠ 0 then
      let bad := (s.genSt tg).mismatch
      let s := setGenSt tg { s.genSt tg with mismatch := false } (s.bump (Reg.scnCrcFrameCnt tg) 1)
      if bad then s.bump (Reg.scnCrcMismatchCnt tg) 1 else s
    else s

/-- The encoder shows its held frame. -/
def State.showsHeld (s : State) (eo : Nat) : Bool := ((tabGet eo s.spl.losses).map (fun l => l.holding)).getD false

/-- The line of a frame that is row `i` of a field. -/
def frameRow (t : Timing) (field i : Nat) : Nat := if t.scan = 0 then i else 2 * i + (field - 1)

/-- The pixels of row `i` of a field that an encoder sends (R144, R232): of its source, or of its hold buffer. -/
def State.encodedRow (s : State) (tg eo field i : Nat) (lines : SrcLines) : List Px :=
  let l := s.essLines eo lines
  let held := s.heldLines eo
  let src (k : Nat) : List Px := if s.showsHeld eo then (lineOf held (frameRow (genTiming s.liveReg tg) field k)).getD [] else (lineOf l k).getD []
  let row (k : Nat) : List Px := s.sentRow tg eo (src k)
  if s.sendsHalved eo (s.sentFormat tg eo).sampling then halvedRow (row i) (row (i / 2 * 2)) (row (i / 2 * 2 + 1)) else row i

/-- An encoder sends a line (R144, R168, R232, R418, R420): `lines` are the lines of its source about row `i` of the field. -/
def encoderLine (tg line eo : Nat) (lines : SrcLines) (s : State) : State :=
  if s.pacedBy eo ≠ some tg then s
  else
    match activeLine (genTiming s.liveReg tg) line with
    | none => s
    | some (field, i) =>
      let t := genTiming s.liveReg tg
      let px := s.encodedRow tg eo field i lines
      let s := match (s.essLines eo lines).find? (fun (x : SrcLine) => decide (x.n = i)) with
        | some x =>
          if tabGetD false eo s.spl.lossEff && (tabGet eo s.spl.losses).isNone && s.eoPresent eo then keepLine eo t.height { x with n := frameRow t field i } s else s
        | none => s
      feedCrc tg eo field i px (queueRow eo (decide (field = 2)) i (genTiming s.liveReg tg).vA px (s.emit (.line (objDest eo) line px)))

/-- One observation of a line start. -/
def lineObs (tg line : Nat) (s : State) (o : LineObs) : State :=
  match o with
  | .align since => if line = (s.raster tg).vF then alignPoint tg since s else s
  | .slack r v => setStore { s.store with slacks := tabSet r (s.now + v) s.store.slacks } s
  | .writer w v => setStore { s.store with writerSlacks := tabSet w (s.now + v) s.store.writerSlacks } s
  | .slip d lead => sourceSlips d lead s
  | .encoder eo lines => encoderLine tg line eo lines s
  | .sheetFrame n early => if s.engGen (objSb n) = tg then sheetFrame n tg line early s else s
  | .sheetLine n y cur prev next other =>
    let up (l : SrcLines) : SrcLines := s.essLines (s.sbSource s.liveReg n) l
    sheetOut n y (up cur) (up prev) (up next) (up other) s
  | .compose cp y live late =>
    if s.cpRuns cp && decide (s.engGen (objCp cp) = tg) then
      let up (e : Nat × SrcLines) : Nat × SrcLines := match s.layerEo cp e.1 with | some eo => (e.1, s.essLines eo e.2) | none => e
      composeOut cp y (live.map up) late s
    else s
  | .storeRead m a u => storeRead m a u s
  | .writeRetry m => s.bump (Reg.fstChWrRetryCnt m) 1
  | .player p y => if s.lf (Reg.fstPlyTg p) 7 0 = tg then playerLine p y s else s
  | .sheetPoison n => sheetPoison n s
  | .holdPoison eo => setHoldBuf eo { s.holdBuf eo with poisoned := true } s
  | .ancLine eo ei ps => frameAnc tg line eo ei ps s

/-- The least reader slack observed (R413). -/
def leastSlack (obs : List LineObs) : Option Nat :=
  obs.foldl (fun b o => match o with
    | .slack _ v => (match b with | none => some v | some x => some (min x v))
    | _ => b) none

/-- SCN_POS at a line start. -/
def setPos (tg line : Nat) (s : State) : State :=
  let t := s.raster tg
  let field2 := decide (t.scan ≠ 0 ∧ t.f1 ≤ line)
  setGenSt tg { s.genSt tg with lineAt := s.now } (s.setReg (Reg.scnPos tg) (wd (line % 0x2000 + 0x80000000 * b2n field2)))

/-- The line is the alignment point of a frame or field of a raster (R405): the start of its vertical synchronisation. -/
def isAlignLine (t : Timing) (line : Nat) : Bool := decide (line = t.vF) || decide (t.scan ≠ 0 ∧ line = t.f1 + 1 + t.vF)

/-- What the encoders a generator paces do at a line beside their pixels: senders stamp a frame at its alignment point (R168), display sources send their metadata (R187, R512), audio
is embedded (R510). -/
def encodersBegin (tg line : Nat) (s : State) : State :=
  (s.pacedEos tg).foldl (fun s eo =>
    let s := if isAlignLine (genTiming s.liveReg tg) line then freshHold eo (stampFrame eo s) else s
    let s := if line = 0 then sendInfo tg eo (s.sentFormat tg eo) s else s
    embedAudio tg line eo s) s

/-- The ancillary packets of the line leave the encoders a generator paces, those that came with it among them (R185). -/
def encodersEnd (tg line : Nat) (s : State) : State := (s.pacedEos tg).foldl (fun s eo => sendAnc tg line eo s) s

/-- LINE_START (R400): a running generator outside its gaps starts a line of its raster. -/
def doLineStart (tg line : Nat) (obs : List LineObs) (s : State) : State :=
  if !s.rasterRuns tg || s.inGap tg || (s.genRuns tg && decide ((genTiming s.liveReg tg).vTotal ≤ line)) then s
  else
    let s := setPos tg line s
    let s := if s.genRuns tg then reportSlack tg (leastSlack obs) s else s
    encodersEnd tg line (obs.foldl (lineObs tg line) (encodersBegin tg line s))

def execLineStart (tg line : Nat) (obs : List LineObs) (s : State) : Host.Outcome State Fault Refusal := run (unlessStopped (tg / 16) (doLineStart tg line obs)) s

end Sys2Proof.Machine
end

