-- ==== Sys2Proof/Machine/Decision.lean ====
section
/-! DEFINITION. Decision, switch and splice points: what the decision instant checks and chooses (R213, R260 to R266, R345, R373, R379, R467),
what a switch instant makes live (R229, R255, R264, R267, R273), and what takes place at a splice point (R211 to R216, R234, R235, R366 to R369, R409). -/

namespace Sys2Proof.Machine

open Sys2Proof

/-! Layers at the decision instant -/

/-- A layer that is not ready for one more output frame (R380, R382): its held frames count, and what it shows follows. -/
def layerHeld (cp l : Nat) (s : State) : State :=
  let n := layerNo cp l
  let st := s.layerSt n
  let s := setLayerSt n { st with held := st.held + 1 } s
  layerLate cp l (s.setF (Reg.cmpLStatus cp l) 31 24 (min 255 (st.held + 1)))

/-- A layer is ready again (R380, R382): its held count restarts, and SOURCE_BACK follows a SOURCE_LOST. -/
def layerBack (cp l : Nat) (s : State) : State :=
  let n := layerNo cp l
  let st := s.layerSt n
  let s := setLayerSt n { st with held := 0, lost := false } s
  let s := (s.setF (Reg.cmpLStatus cp l) 2 0 1).setF (Reg.cmpLStatus cp l) 31 24 0
  if !st.lost then s
  else
    let s := raiseLayer cp l 6 s
    match s.layerEo cp l with
    | some eo => raiseDest eo 5 s
    | none => s

/-- The pending flip of a layer may be taken at a splice point (R373, R643). -/
def State.flipReady (s : State) (cp point : Nat) (f : Flip) : Bool :=
  (decide (f.fence = 0xFFFF) ||
    (match s.owner (objCp cp) with
     | some t => decide (f.value.toNat ≤ (s.fence t f.fence).toNat)
     | none => false)) && decide (f.target = 0 ∨ f.target ≤ point)

/-- A layer takes its pending buffer (R373); its command completes, and its old buffer retires, at the splice point (R374). -/
def takeFlip (n : Nat) (f : Flip) (s : State) : State :=
  let cp := n / 8
  let l := n % 8
  let done : Taken := ⟨n, s.curHandle cp l, f.origin⟩
  let s := setPend cp l none (setFlips (tabDel n s.eng.flips) s)
  let s := (setCur cp l (some f.handle) s).setBit (Reg.cmpLStatus cp l) 9 false
  layerBack cp l { s with eng := { s.eng with taken := s.eng.taken ++ [done] } }

/-- A BUFFER layer at a decision instant (R373, R379): a flip is taken, waits for budget (R369), is late on its TARGET, or waits. -/
def bufferDecision (n point : Nat) (s : State) : State :=
  let cp := n / 8
  let l := n % 8
  match tabGet n s.eng.flips with
  | none => s
  | some f =>
    if s.flipReady cp point f then
      if s.coiled cp l && bitOf (s.liveReg (Reg.cmpCfg cp)) 1 then
        let free := dropCoil cp s
        let (new, ok) := recharge (objCp cp) (free.cpCharge free.liveView cp) free
        if ok then takeFlip n f new
        else layerHeld cp l ((refuseBw ((s.owner (objCp cp)).getD 0) s).setBit (Reg.cmpLStatus cp l) 9 true)
      else takeFlip n f s
    else if decide (f.target ≠ 0 ∧ f.target ≤ point) then layerHeld cp l s
    else s

/-- The slot a DELAY layer chooses (R345): the newest COMPLETE one less its delay. -/
def State.delaySlot (s : State) (cp l : Nat) : Option SlotHead :=
  let r := fld (s.liveReg (Reg.cmpLSource cp l)) 7 0
  let d := s.lf (Reg.cmpLDelay cp l) 23 0
  match s.recNewest r with
  | none => none
  | some h =>
    if h.seq < d then none
    else ((s.recSt r).heads.map Prod.snd).find? (fun x => decide (x.seq = h.seq - d) && x.flags.testBit 0)

/-- The slot can be read: neither ABSENT nor UNFIT (R379, R468). -/
def readable (h : SlotHead) : Bool := !h.flags.testBit 1 && !h.flags.testBit 2

/-- The newest frame of a delay line is too old for a decision instant (R379): more than two of the recorder's frame periods. -/
def tooOld (h : SlotHead) (at_ : Nat) : Bool :=
  decide (h.time + 2 * (1000000000 * fld h.rate 31 16 / max (fld h.rate 15 0) 1) < at_)

/-- A DELAY layer whose newest frame's format fits, or does not: INPUT_UNFIT is raised as it stops fitting (R344, R395). -/
def delayFit (cp l : Nat) (s : State) : State :=
  let a := Reg.cmpLStatus cp l
  match s.layerUnfit s.liveView cp l with
  | none => s.setBit a 8 false
  | some r => if s.bit a 8 then s else raiseLayer cp l 8 ((s.setBit a 8 true).setF a 23 16 (statusCode (rbStatus r)))

/-- A DELAY layer at a decision instant (R345, R379, R382): what it read in the frame before is kept for a poisoned fetch (R377), and a frame of a format that does not fit makes it
unfit (R344, R395). -/
def delayDecision (n point : Nat) (s : State) : State :=
  let cp := n / 8
  let l := n % 8
  let s := setLayerSt n { s.layerSt n with prev := (s.layerSt n).shown } s
  let s := delayFit cp l s
  let r := fld (s.liveReg (Reg.cmpLSource cp l)) 7 0
  let old := match s.recNewest r with
    | some h => tooOld h (point - 50000)
    | none => true
  match s.delaySlot cp l with
  | some h =>
    if readable h && !old && (s.layerUnfit s.liveView cp l).isNone then layerBack cp l (setLayerSt n { s.layerSt n with shown := some h.seq } s)
    else
      let first := s.bit (Reg.cmpLStatus cp l) 0
      let s := layerHeld cp l s
      if first then raiseLayer cp l 5 (setLayerSt n { s.layerSt n with lost := true } s) else s
  | none =>
    let first := s.bit (Reg.cmpLStatus cp l) 0
    let s := layerHeld cp l s
    if first then raiseLayer cp l 5 (setLayerSt n { s.layerSt n with lost := true } s) else s

/-- A LIVE layer at a decision instant (R379, R382): `timed` says that its source is. -/
def liveDecision (n : Nat) (timed : Bool) (s : State) : State :=
  let cp := n / 8
  let l := n % 8
  match s.layerEo cp l with
  | none => s
  | some eo =>
    let here := s.eoPresent eo
    if here && timed && !s.bit (Reg.cmpLStatus cp l) 8 then layerBack cp l s
    else if s.bit (Reg.cmpLStatus cp l) 0 then layerLost cp l eo (!here) s
    else layerHeld cp l s

/-- A layer at its compositor's decision instant; what it raised once in the last frame may be raised again (R376, R377). -/
def layerDecision (n point : Nat) (timed : Bool) (s : State) : State :=
  let cp := n / 8
  let l := n % 8
  let v := s.liveView
  let was := (s.layerSt n).poisoned
  let s := match s.layerEo cp l with
    | some eo => freshHold eo s
    | none => s
  let s := setLayerSt n { s.layerSt n with faulted := false, poisoned := false } s
  let s := if was ∧ lKind v cp l = 2 then s.setF (Reg.cmpLStatus cp l) 2 1 (if s.bit (Reg.cmpLStatus cp l) 0 then 0 else showing s cp l) else s
  if !lOn v cp l then s
  else
    match lKind v cp l with
    | 1 => liveDecision n timed s
    | 2 => bufferDecision n point s
    | 3 => delayDecision n point s
    | _ => layerBack cp l s

/-- The running compositors a generator paces. -/
def State.pacedCps (s : State) (tg : Nat) : List Nat :=
  (List.range 32).filter (fun cp => s.cpRuns cp && decide (cpGen s.liveView cp = tg))

/-- A compositor's layers at its decision instant. -/
def cpDecision (cp : Nat) (obs : DecisionObs) (s : State) : State :=
  (List.range (s.cpLayers cp)).foldl (fun s l =>
    let n := layerNo cp l
    layerDecision n obs.point (((obs.layersTimed.find? (fun e => decide (e.1 = n))).map Prod.snd).getD true) s) s

/-! Players -/

/-- The frame a player chooses for a splice point (R467). -/
def State.plyChoice (s : State) (p point : Nat) : Option SlotHead :=
  let r := plyRecorder s.liveReg p
  let at_ (q : Nat) := ((s.recSt r).heads.map Prod.snd).find? (fun x => decide (x.seq = q) && x.flags.testBit 0)
  let cue := (s.liveReg (Reg.fstPlyCueLo p)).toNat + 0x100000000 * (s.liveReg (Reg.fstPlyCueHi p)).toNat
  match s.lf (Reg.fstPlyCtrl p) 1 0 with
  | 1 =>
    match s.recNewest r with
    | some h => if h.seq < s.lf (Reg.fstPlyDelay p) 23 0 then none else at_ (h.seq - s.lf (Reg.fstPlyDelay p) 23 0)
    | none => none
  | 2 => at_ cue
  | 3 =>
    if (s.plySt p).atEnd then s.recNewest r
    else
      match at_ cue with
      | none => none
      | some c =>
        ((s.recSt r).heads.map Prod.snd).foldl (fun (b : Option SlotHead) h =>
          if h.flags.testBit 0 && decide (h.time ≤ c.time + (point - (s.plySt p).since)) then
            match b with
            | none => some h
            | some x => if x.seq ≤ h.seq then some h else b
          else b) none
  | _ => none

/-- The stored frame has the size and scan of the player's generator (R468). -/
def State.plyFits (s : State) (p : Nat) (h : SlotHead) : Bool :=
  let t := genTiming s.liveReg (s.lf (Reg.fstPlyTg p) 7 0)
  let f := headFormat h
  decide (f.width = t.hA ∧ f.height = t.height ∧ f.scan = t.scan)

/-- A player at its generator's decision instant (R467, R468). -/
def playerDecision (p point : Nat) (s : State) : State :=
  if s.lf (Reg.fstPlyCtrl p) 1 0 = 0 then s
  else
    match s.plyChoice p point with
    | none => playerStop p true s
    | some h =>
      if !(readable h && s.plyFits p h) then playerStop p true s
      else
        let st := s.plySt p
        let newest := decide ((s.recNewest (plyRecorder s.liveReg p)).map (fun x => x.seq) = some h.seq)
        let s := setPlySt p { st with shown := some h.seq, prev := st.shown, poisoned := false, lost := false, atEnd := st.atEnd || (newest && decide (s.lf (Reg.fstPlyCtrl p) 1 0 = 3)) } s
        let s := (s.setReg (Reg.fstPlyShownLo p) (wd h.seq)).setReg (Reg.fstPlyShownHi p) (wd (h.seq / 0x100000000))
        let s := s.setBit (Reg.fstPlyStatus p) 0 true
        let s := if st.lost then raisePly p 1 s else s
        let s := (recharge (objPly p) (s.plyCharge s.liveView p) s).1
        setPresent (s.plyEi p) true (s.setReg (Reg.fstPlyBw p) (wd (s.charge (objPly p) / 1000)))

/-- The players a generator paces. -/
def State.pacedPlys (s : State) (tg : Nat) : List Nat :=
  s.spl.eiBind.filterMap (fun e => match e.2 with
    | .player p => if s.lf (Reg.fstPlyTg p) 7 0 = tg then some p else none
    | _ => none)

/-! The checks of R262 -/

/-- The window of an item: STRAND_LATENCY of a strand, COUNTER_RATE of a bin, SENSOR_ADC, REFSYNC_ADC. -/
def calWin (item index : Nat) : Nat :=
  if item = 0 then 0x41000 + 0x10 * index else if item = 1 then 0x42000 + 0x10 * index else if item = 2 then 0x43000 else 0x43010

/-- What a strand's effective latency takes from the time of an instant seen inside the part to bring it to the pins, in ns (R549, R566): in receive the signal passed them earlier, in
transmit it passes them later. Parts of a ns are cut (DESIGN CHOICE, log entry on the timebase). -/
def State.rxLatency (s : State) (n : Nat) : Int := s.f (Reg.calEff (calWin 0 n)) 15 0 / 1000
def State.txLatency (s : State) (n : Nat) : Int := s.f (Reg.calEff (calWin 0 n)) 31 16 / 1000

/-- An offset of R211 at the pins (R549), of a source strand against an egress strand, from what is seen inside the part. -/
def State.offsetAtPins (s : State) (n : Nat) (src : Option Nat) (raw : Int) : Int :=
  raw - ((src.map s.rxLatency).getD 0 + s.txLatency n)

/-- An offset of R211 brought into the half-open range of minus half a frame period to plus half a frame period of the format an egress strand carries. With no format known it
stays as measured. -/
def State.reduceAlign (s : State) (n : Nat) (src : Option Nat) (raw : Int) : Int :=
  let e := s.offsetAtPins n src raw
  match tabGet n s.strand.tautFormat with
  | none => e
  | some f =>
    let p : Int := 1000000000 * f.rateDen
    let q : Int := max f.rateNum 1
    let k := Int.fdiv (2 * e * q + p) (2 * max p 1)
    e - Int.fdiv (k * p) q

/-- The latency P that promotion adds (R214): the age of the newest source frame whose switching line reached the pins more than 2 µs before the output's, from the offset of R211
and the frame period in ns. -/
def promoLatency (frameNs : Nat) (e : Int) : Nat :=
  let p := Int.emod (-e) (max (frameNs : Int) 1)
  (if p ≤ 2000 then p + frameNs else p).toNat

/-- An arm's new source has to be timed (R235): it feeds an encoder, or a layer that is LIVE in the set's view. -/
def State.needsTiming (s : State) (v : View) (a : Arm) : Bool :=
  !destIsStrand a.dest &&
  (match s.consumer a.dest with
   | some (.layer cp l) => lOn v cp l && decide (lKind v cp l = 1)
   | some c => isEncoder c
   | none => false)

/-- What check 2 or 5 of R262 finds wrong with an arm, with the object named: its lowest reason (R266). -/
def State.armUnfit (s : State) (v : View) (a : Arm) (timed : Bool) (align : Option Int) : Option (Nat × Nat) :=
  match a.source with
  | none => none
  | some src =>
    let here := s.srcPresent a.dest src
    if !here && !a.allowAbsent then some (rbAbsent, srcObj a.dest src)
    else if here && s.needsTiming v a && !timed then some (rbAbsent, srcObj a.dest src)
    else if a.cls = .sdiFrame then
      match align.map (s.reduceAlign (destNumber a.dest) (some src)) with
      | none => none
      | some e => if 2000 < e.natAbs ∧ a.reserve.isNone then some (rbUnaligned, objDest a.dest) else none
    else none

/-- The live layers of the set's compositors. -/
def State.trialLive (s : State) (c : ChangeSet) : List Nat :=
  let v := s.setView c
  c.engines.foldr (fun e acc =>
    (if objClass e = 0x04 then
      ((List.range (s.cpLayers (objIndex e))).filter (fun l => lOn v (objIndex e) l && decide (lKind v (objIndex e) l = 1))).map (layerNo (objIndex e))
    else []) ++ acc) []

/-- The trial has not passed (R260). -/
def State.trialFails (s : State) (c : ChangeSet) (obs : DecisionObs) : Bool :=
  if c.engines.isEmpty then false
  else
    let live := s.trialLive c
    obs.underrun ||
    (if live.isEmpty && !c.arms.any (fun a => s.needsTiming (s.setView c) a && a.source.isSome) then !obs.runAhead
     else live.any (fun n => ((obs.layersTimed.find? (fun e => decide (e.1 = n))).map Prod.snd).getD true == false))

/-- Why a set rolls back at its decision instant: the first failing member's lowest reason, then its trial (R262, R266). -/
def State.decisionUnfit (s : State) (c : ChangeSet) (obs : DecisionObs) : Option (Nat × Nat) :=
  let v := s.setView c
  let bad := (c.arms.zipIdx).filterMap (fun e => s.armUnfit v e.1 (obs.timed.getD e.2 false) (obs.align.getD e.2 none))
  match bad with
  | x :: _ => some x
  | [] => if s.trialFails c obs then some (rbRunahead, leaderObj c) else none

/-- An arm once its outcome under R213 is known: promoted when it is not aligned, with its latency (R214). -/
def State.decideArm (s : State) (a : Arm) (align : Option Int) : Arm :=
  match align.map (s.reduceAlign (destNumber a.dest) a.source) with
  | some e =>
    if a.cls = .sdiFrame ∧ 2000 < e.natAbs then { a with promote := a.reserve.isSome, latency := promoLatency (s.framePeriod a.dest) e } else a
  | none => a

/-! Switching -/

/-- A braid's transmitters move to the reserved generator's encoder (R214), which emits the frames that the buffer recorded from the start of the preroll frame; the first has the
number 0. Every member's SPL_SRC shows PROMOTED; the events are the leader's. -/
def promoteDest (a : Arm) (s : State) : State :=
  let n := destNumber a.dest
  match a.reserve with
  | none => s
  | some (tg, bytes) =>
    let s := { s with spl := { s.spl with promos := tabSet n ⟨tg, bytes, a.latency, 0, 0⟩ s.spl.promos } }
    let s := setCharge (objStrand n) (promoCharge (s.rate n)) s
    let s := (s.braid n).foldl (fun s k => s.setBit (Reg.splSrc (destWin (destStrand k))) 14 true) s
    let s := (s.bump (Reg.splPromoCnt (destWin a.dest)) 1).emit (.promoFrame n 0)
    raiseDest a.dest 2 (txRefreshAll (s.braid n) s)

/-- An ETH_BLOCK egress sends Local Fault from its own encoder until the new source's first idle block (R208). -/
def blockFault (n : Nat) (s : State) : State :=
  txRefreshAll (s.braid n) { s with spl := { s.spl with blockReturns := tabSet n 1 s.spl.blockReturns } }

/-- A destination switches to its arm's source (R264, R267): hitch, promotion or its reserve, state and events. -/
def switchDest (c : ChangeSet) (a : Arm) (s : State) : State :=
  let w := destWin a.dest
  let was := s
  let s := bindDest a.dest a.source s
  let s := if a.promote then promoteDest a s else releaseReserve c.owner a.reserve s
  let s := if a.cls = .ethBlock ∧ a.source.isSome then blockFault (destNumber a.dest) s else s
  let s := (setResult a.dest .ok (setDestState a.dest stIdle s)).setF (Reg.splSpliceStatus w) 7 4 0
  let s := raiseDest a.dest 0 (s.bump (Reg.splSpliceCnt w) 1)
  reportReturn was a.dest (afterBind a.dest s)

/-- What a member's reservation covered is released as it switches (R273). -/
def unreserve (id obj : Nat) (s : State) : State :=
  updSet id (fun c => { c with reserved := c.reserved.filter (fun e => decide (e.1 ≠ obj)) }) s

/-- An arm of a decided set switches. -/
def switchArm (c : ChangeSet) (a : Arm) (s : State) : State :=
  let s := updSet c.id (fun c => { c with arms := c.arms.map (fun x => if x.dest = a.dest then { x with switched := true } else x) }) s
  let s := unreserve c.id (objDest a.dest) (unreserve c.id (objStrand (destNumber a.dest)) s)
  switchDest c a s

/-- What a shadow context raised is posted at its switch instant (R269, R601). -/
def postHeld (h : Held) (s : State) : State :=
  match h with
  | .note f t code a b => postTo (some t) 2 (objFid f) code (leBytes 4 a ++ leBytes 4 b) s
  | .taps obj =>
    if objClass obj = 0x03 then raiseSb (objIndex obj) 0 s else raiseLayer (objIndex obj / 8) (objIndex obj % 8) 1 s
  | .hook h t b => raiseEn (some t) (objFid (h + 1)) (Reg.fidHookEvent h t) (Reg.fidHookEventEn h t) b s

/-- An engine of a decided set switches (R255, R273): its shadow becomes live, its charge becomes the shadow's, and its shadow reloads. -/
def switchMember (c : ChangeSet) (e : Nat) (s : State) : State :=
  let s := updSet c.id (fun c => { c with switchedEngines := c.switchedEngines ++ [e] }) s
  let s := unreserve c.id e (switchEngine e s)
  let s := if s.engRuns e then setCharge e (s.chargeOf s.liveView e) s else setCharge e 0 s
  let s := if objClass e = 0x04 ∧ s.engRuns e then (keepLayers s.liveView (objIndex e) true s).1 else s
  { passEngine e s with spl := { (passEngine e s).spl with reloading := tabSet e [] (passEngine e s).spl.reloading } }

/-- What switches with a set's leader: its pending copies, and what it holds of events (R229, R250, R269). -/
def leaderSwitch (c : ChangeSet) (s : State) : State :=
  let s := c.ops.foldl (fun s op => applyOp op s) s
  let s := (opObjs c.ops).foldl (fun s e => unreserve c.id e s) s
  let s := c.held.foldl (fun s h => postHeld h s) s
  updSet c.id (fun c => { c with ops := [], held := [] }) s

/-- A set whose every member has switched is finished (R267). -/
def settleSet (id : Nat) (s : State) : State :=
  match s.findSet id with
  | none => s
  | some c =>
    if c.phase = .decided ∧ c.arms.all (fun a => a.switched) ∧ c.engines.all (fun e => c.switchedEngines.contains e) ∧ c.ops.isEmpty then
      enginesRefresh (finishSet c (dropReqs id s))
    else refreshGroup c.owner c.group s

/-- The arms that switch with an arm: those of the same encoder, whose streams change at one instant (R142, R220). -/
def State.switchMates (s : State) (c : ChangeSet) (a : Arm) : List Arm :=
  let enc (x : Arm) : Option Nat := if destIsStrand x.dest then none else (s.consumer x.dest).bind encoderStrand
  c.arms.filter (fun b => !b.switched && (decide (b.dest = a.dest) || ((enc a).isSome && decide (enc b = enc a))))

/-- A class that switches at its set's splice point, on no line of its own (R229). -/
def cutClass (a : Arm) : Bool := decide (a.cls = .ethBlock ∨ a.cls = .rawCut)

/-- The leader of a decided set has switched (R229): its arm, or the first engine of a set without arms. A set of neither waits for nothing. -/
def leaderSwitched (c : ChangeSet) : Bool :=
  match c.arms.find? (fun a => decide (a.dest = c.leader)) with
  | some a => a.switched
  | none =>
    match c.engines with
    | e :: _ => c.switchedEngines.contains e
    | [] => true

/-- A member may switch at a line (R229): the leader at its own splice point; another member at its own once the leader has switched. A member of class ETH_BLOCK or RAW_CUT
switches with the leader. -/
def State.switchAt (s : State) (c : ChangeSet) (a : Arm) (line : Nat) : Bool :=
  (decide (a.dest = c.leader) || leaderSwitched c) && (cutClass a || s.atPoint a.dest line)

/-- The members of class ETH_BLOCK and RAW_CUT switch with the leader (R229). -/
def cutsFollow (c : ChangeSet) (s : State) : State :=
  (c.arms.filter (fun b => !b.switched && cutClass b && decide (b.dest ≠ c.leader))).foldl (fun s b => switchArm c b s) s

/-- The member of a set by number: its arms, then its engines; one more stands for pending copies alone. -/
def doSwitch (set member : Nat) (obs : SwitchObs) (s : State) : State :=
  match s.findSet set with
  | none => s
  | some c =>
    if c.phase ≠ .decided then s
    else
      match c.arms[member]? with
      | some a =>
        if a.switched || !s.switchAt c a obs.line then s
        else
          let as := s.switchMates c a
          let s := as.foldl (fun s b => switchArm c b s) s
          let s := if as.any (fun b => decide (b.dest = c.leader)) then leaderSwitch c (cutsFollow c s) else s
          settleSet set (fidEventSet c 4 s)
      | none =>
        match c.engines[member - c.arms.length]? with
        | some e =>
          let leads := decide (c.leader = 0xFFFE ∧ member = c.arms.length)
          if c.switchedEngines.contains e || !(leads || leaderSwitched c) then s
          else
            let s := switchMember c e s
            let s := if leads then leaderSwitch c (cutsFollow c s) else s
            settleSet set (fidEventSet c 4 s)
        | none =>
          if c.arms.isEmpty ∧ c.engines.isEmpty ∧ member = 0 then settleSet set (leaderSwitch c s) else s

/-- SWITCH (R264): a member reaches its switch instant. -/
def execSwitch (set member : Nat) (obs : SwitchObs) (s : State) : Host.Outcome State Fault Refusal := run (doSwitch set member obs) s

/-! The decision -/

/-- The commit of a set is decided (R229, R253, R264): members other than the leader and every engine enter DECIDED. -/
def decideSet (c : ChangeSet) (obs : DecisionObs) (s : State) : State :=
  let arms := (c.arms.zipIdx).map (fun e => s.decideArm e.1 (obs.align.getD e.2 none))
  let s := updSet c.id (fun c => { c with phase := .decided, arms := arms }) s
  let s := c.arms.foldl (fun s a =>
    let s := if a.dest = c.leader then s else setDestState a.dest stDecided s
    if c.late then s.setBit (Reg.splSpliceStatus (destWin a.dest)) 3 true else s) s
  let s := c.engines.foldl (fun s e => s.setF (ctxReg e) 2 0 4) s
  fidEventSet c 3 (refreshGroup c.owner c.group s)

/-- A set of ETH_BLOCK and RAW_CUT arms alone is triggered (R223, R251): it is decided and switches at once. -/
def cutDue (c : ChangeSet) (point : Nat) : Bool :=
  decide (c.phase = .armed) && cutsOnly c &&
  (match c.mode with
   | 0 => true
   | 1 => decide (c.time ≤ point)
   | _ => c.taken)

/-- The decision of one set (R262). An ON_TAKE set without its TAKE discards its trial and goes on in preroll (R225, R261). -/
def setDecision (id : Nat) (obs : DecisionObs) (s : State) : State :=
  match s.findSet id with
  | none => s
  | some c =>
    if cutDue c obs.point then
      match s.decisionUnfit c obs with
      | some (r, obj) => rollbackFor c r obj s
      | none =>
        let s := decideSet c obs s
        settleSet id (leaderSwitch c (c.arms.foldl (fun s a => switchArm c a s) s))
    else if c.phase ≠ .preroll ∨ !c.checked ∨ !(if c.leader = 0xFFFE then true else s.atPoint c.leader obs.line) then s
    else if s.powerWaits id then deferSet c s
    else if c.mode = 2 ∧ !c.taken then s
    else
      match s.decisionUnfit c obs with
      | some (r, obj) => rollbackFor c r obj s
      | none => decideSet c obs s

/-- DECISION (R221, R262, R345, R373, R467): the decision instant of a generator's splice point, of a set's, or of both. -/
def doDecision (tg set : Option Nat) (obs : DecisionObs) (s : State) : State :=
  let s := match set with
    | some id => setDecision id obs s
    | none => s
  match tg with
  | none => s
  | some g =>
    if s.genLine g ≠ obs.line then s
    else
    let s := (s.pacedCps g).foldl (fun s cp => cpDecision cp obs s) s
    (s.pacedPlys g).foldl (fun s p => playerDecision p obs.point s) s

def execDecision (tg set : Option Nat) (obs : DecisionObs) (s : State) : Host.Outcome State Fault Refusal := run (doDecision tg set obs) s

/-! Splice points -/

/-- The hold buffer of an EO has a complete frame, or has none. -/
def setFrameHeld (eo : Nat) (v : Bool) (s : State) : State := { s with spl := { s.spl with complete := tabPut false eo v s.spl.complete } }

/-- LOSS takes effect at a running output's splice point (R233): a hold buffer that is not admitted makes LOSS read 0. -/
def lossSetting (eo : Nat) (s : State) : State :=
  let want := s.bit (Reg.splDestCfg (destWin eo)) 0
  if want = tabGetD false eo s.spl.lossEff then s
  else if !want then setFrameHeld eo false (setLossEff (tabPut false eo false s.spl.lossEff) (setHold eo 0 (setCharge (objDest eo) 0 s)))
  else
    let q := rechargeHold s.liveView eo s
    let s := q.1
    let ok := q.2
    if ok then setLossEff (tabPut false eo true s.spl.lossEff) s
    else setResult eo .bwBudget (s.setBit (Reg.splDestCfg (destWin eo)) 0 false)

/-- The source of an encoder has its raster, rate and scan (R234). -/
def State.encoderMatches (s : State) (eo : Nat) : Bool :=
  match s.pacedBy eo, s.eoFormat s.liveReg eo with
  | some tg, some f =>
    let t := genTiming s.liveReg tg
    decide (f.width = t.hA ∧ f.height = t.height ∧ f.scan = t.scan) && rateEq t.rate (fps f)
  | _, _ => false

/-- One frame of a hold passes. -/
def holdFrame (eo : Nat) (l : Loss) (s : State) : State :=
  setLosses (tabSet eo { l with framesLeft := l.framesLeft.map (fun k => k - 1) } s.spl.losses) s

/-- An encoder goes to its held frame, or to its fill, for as long as the reason lasts. -/
def encoderHold (eo : Nat) (why : LossWhy) (h : Bool) (s : State) : State :=
  let s := (setLosses (tabSet eo ⟨why, h, none⟩ s.spl.losses) s).setBit (Reg.splSrc (destWin eo)) 15 true
  if h then s else raiseDest eo 7 s

/-- An encoder of a zone that drains shows its fill (R74). -/
def encoderDrain (eo : Nat) (s : State) : State :=
  match tabGet eo s.spl.losses with
  | some ⟨.drain, _, _⟩ => s
  | some ⟨.noHitch, _, _⟩ => s
  | _ => encoderHold eo .drain false s

/-- An encoder whose tenancy was cut loose (R651): under FREEZE with a frame to hold it repeats that frame for as long as it lasts, else it shows its fill. -/
def encoderCut (eo : Nat) (s : State) : State :=
  match tabGet eo s.spl.losses with
  | some ⟨.adrift, _, _⟩ => s
  | some ⟨.noHitch, _, _⟩ => s
  | _ => encoderHold eo .adrift (s.cutUnder 1 (objDest eo) && s.holds eo) s

/-- An encoder at its output's splice point (R232 to R235, R651, R652). -/
def encoderPoint (eo : Nat) (obs : SpliceObs) (s : State) : State :=
  let w := destWin eo
  let s := (s.setF (Reg.splSpliceStatus w) 31 16 (uxSat 16 obs.lead)).setBit (Reg.splSrc w) 13 (s.eoPresent eo && obs.timed)
  let s := if (tabGet eo s.spl.losses).isNone && s.eoPresent eo && tabGetD false eo s.spl.lossEff then setFrameHeld eo true s else s
  let s := lossSetting eo s
  if 2 ≤ s.zone (eo / 64) then encoderDrain eo s
  else if s.cutLoose (objDest eo) then encoderCut eo s
  else
    match tabGet eo s.spl.losses with
    | none => s
    | some l =>
      if l.why ≠ .noHitch then
        if s.eoPresent eo && obs.timed && s.encoderMatches eo then
          let s := endLoss eo s
          if l.why = .absent ∨ l.why = .adrift then raiseDest eo 5 s else s
        else holdFrame eo l s
      else holdFrame eo l s

/-- A promoted egress at its splice point (R214 to R216): it emits the newest source frame that came in time, and every frame it repeats or omits for that is counted. The eighth
aligned measurement in a row ends the promotion; one source frame is omitted then unless P was less than half a frame period. -/
def promotedPoint (n : Nat) (p : Promo) (obs : SpliceObs) (s : State) : State :=
  let d := destStrand n
  let s := s.bump (Reg.splSlipCnt (destWin d)) (if obs.arrived = 0 then 1 else obs.arrived - 1)
  let p := { p with frame := p.frame + obs.arrived }
  let keep (p : Promo) (s : State) : State := ({ s with spl := { s.spl with promos := tabSet n p s.spl.promos } }).emit (.promoFrame n p.frame)
  match obs.align.map (s.reduceAlign n (s.hitch d)) with
  | none => keep { p with aligned := 0 } s
  | some e =>
    let k := if e.natAbs ≤ 2000 then p.aligned + 1 else 0
    let p := { p with aligned := k, latency := promoLatency (s.framePeriod d) e }
    if 8 ≤ k then raiseDest d 3 ((txRefreshAll (s.braid n) (endPromotion n s)).emit (.promoReturn n (decide (s.framePeriod d ≤ 2 * p.latency))))
    else keep p s

/-- A taut egress that waits for its splice point forwards again: after a re-rig (R77), and an SDI one after its ingress returned to UP (R113), where the ingress raises LOS_CLEAR. -/
def restoreTaut (n : Nat) (s : State) : State :=
  if !(s.braid n).any s.strand.restores.contains then s
  else
    let s := txRefreshAll (s.braid n) (setStrand { s.strand with restores := s.strand.restores.filter (fun k => decide (k ∉ s.braid n)) } s)
    match s.hitch (destStrand n) with
    | some x =>
      if tabGetD false x s.strand.wasLost && s.feeds x then raiseStrand x 1 (setStrand { s.strand with wasLost := tabPut false x false s.strand.wasLost } s) else s
    | none => s

/-- A strand destination at its splice point (R211). -/
def strandPoint (n : Nat) (obs : SpliceObs) (s : State) : State :=
  let d := destStrand n
  let src := match (s.setOfDest d).bind (fun c => (c.arms.find? (fun a => decide (a.dest = d))).bind (fun a => a.source)) with | some x => some x | none => s.hitch d
  let s := match obs.align.map (s.reduceAlign n src) with
    | some e => s.setReg (Reg.splAlign (destWin d)) (wd (uxSat 32 e))
    | none => s
  let s := restoreTaut n s
  match tabGet n s.spl.promos with
  | some p => promotedPoint n p obs s
  | none => s

/-- A destination reaches its splice point, which comes at its line alone (R218, R219); a bight transition that waits for it takes place (R130). -/
def destPoint (d : Nat) (obs : SpliceObs) (s : State) : State :=
  if !s.atPoint d obs.line then s
  else
  let ks := (List.range 8).filter (fun k => decide (s.bightDest k = some d))
  let s := ks.foldl (fun s k => bightAtPoint k s) s
  if destIsStrand d then strandPoint (destNumber d) obs s
  else
    match s.consumer d with
    | some c => if isEncoder c && s.destRuns d then encoderPoint d obs s else s
    | none => s

/-! The coil -/

/-- The layer is static: FILL always; a BUFFER layer by its count of static frames (R365). -/
def State.staticFor (s : State) (cp l k : Nat) : Bool :=
  let v := s.liveView
  decide (lKind v cp l = 0) || (decide (lKind v cp l = 2) && decide (k ≤ (s.layerSt (layerNo cp l)).static))

/-- The run of a compositor (R366): its enabled layers below the lowest that is not static. -/
def State.coilRun (s : State) (cp : Nat) : List Nat :=
  let on := (List.range (s.cpLayers cp)).filter (fun l => lOn s.liveView cp l)
  on.takeWhile (fun l => s.staticFor cp l 1)

/-- A new coil is due (R366, R368): every layer of the run has been static long enough, at least two of them are still fetched, and none is formed of them. -/
def State.coilDue (s : State) (cp : Nat) : Bool :=
  let cfg := s.liveReg (Reg.cmpCfg cp)
  let run := s.coilRun cp
  let fetched := run.filter (fun l => lFetches s.liveView cp l && !s.bit (Reg.cmpLStatus cp l) 3 && !s.coiled cp l)
  bitOf cfg 0 && s.bit (Reg.cmpStatus cp) 5 && s.cpRuns cp && run.all (fun l => s.staticFor cp l (fld cfg 7 4)) &&
  decide (2 ≤ fetched.length + b2n (s.bit (Reg.cmpStatus cp) 1)) && !fetched.isEmpty

/-- Form the coil, once its write is admitted for the frame (R367, R369). -/
def formCoil (cp : Nat) (s : State) : State :=
  let v := s.liveView
  let t := (s.owner (objCp cp)).getD 0
  if !s.admits t (kBps (coilBytes v cp) (cpTiming v cp).rate) then
    raiseCp cp 2 ((refuseBw t s).bump (Reg.cmpCoilWaitCnt cp) 1)
  else
    let run := s.coilRun cp
    let s := run.foldl (fun s l => s.setBit (Reg.cmpLStatus cp l) 4 true) s
    let s := (s.setBit (Reg.cmpStatus cp) 1 true).setF (Reg.cmpStatus cp) 4 2 (run.foldl max 0)
    let s := { s with eng := { s.eng with coils := tabSet cp ⟨true, []⟩ s.eng.coils } }
    let s := raiseCp cp 0 (s.bump (Reg.cmpCoilFormCnt cp) 1)
    let s := (recharge (objCp cp) (s.cpCharge s.liveView cp) s).1
    s.setReg (Reg.cmpBw cp) (wd (s.charge (objCp cp) / 1000))

/-- A flip taken for this splice point: its command completes, and the buffer it replaced retires (R373, R374). -/
def flipDone (k : Taken) (s : State) : State :=
  let s := match k.old with
    | some h => if s.curHandle (k.layer / 8) (k.layer % 8) = some h then s else retire k.layer h false s
    | none => s
  match k.origin with
  | some o => complete o .ok (objLayer k.layer) s
  | none => s

/-- The output frame of a layer ends: it was static, or not (R365). -/
def countStatic (cp l : Nat) (flipped : Bool) (s : State) : State :=
  let n := layerNo cp l
  let st := s.layerSt n
  let still := !flipped && lOn s.liveView cp l && decide (lKind s.liveView cp l = 2) && s.bit (Reg.cmpLStatus cp l) 0
  setLayerSt n { st with static := if still then st.static + 1 else 0 } s

/-- Bytes a compositor moved in the last output frame (R386): whole granules of its fetching layers, frames of LIVE layers into and out of their hold buffers, and what a coil was
written with or read as. -/
def State.cpMoved (s : State) (cp : Nat) : Nat :=
  let v := s.liveView
  let coil := tabGet cp s.eng.coils
  let forming := (coil.map (fun c => c.forming)).getD false
  (List.range (s.cpLayers cp)).foldl (fun acc l =>
    if lFetches v cp l then (if coil.isSome && !forming && s.coiled cp l then acc else acc + s.layerMoved v cp l)
    else if lOn v cp l && decide (lKind v cp l = 1 ∧ lPolicy v cp l = 0) && s.layerKeeps cp l then
      match s.layerSrc v cp l with
      | some f => acc + pixelBytes f.width f.height f.sampling f.depth
      | none => acc
    else acc) (if coil.isSome then coilBytes v cp else 0)

/-- CMP_BW_DRAWN at the end of an output frame, and the frame that forms a coil is over (R367, R386). -/
def cpFrameEnds (cp : Nat) (s : State) : State :=
  let s := s.setReg (Reg.cmpBwDrawn cp) (wd (kBps (s.cpMoved cp) (cpTiming s.liveView cp).rate / 1000))
  match tabGet cp s.eng.coils with
  | some c => { s with eng := { s.eng with coils := tabSet cp { c with forming := false } s.eng.coils } }
  | none => s

/-- A compositor at its splice point: its frame ends, flips complete, static frames count, and the coil is dropped or formed (R365 to R368, R374). -/
def cpPoint (cp : Nat) (s : State) : State :=
  let s := cpFrameEnds cp s
  let mine := s.eng.taken.filter (fun k => decide (k.layer / 8 = cp))
  let s := { s with eng := { s.eng with taken := s.eng.taken.filter (fun k => decide (k.layer / 8 ≠ cp)) } }
  let s := mine.foldl (fun s k => flipDone k s) s
  let s := (List.range (s.cpLayers cp)).foldl (fun s l => countStatic cp l (mine.any (fun k => decide (k.layer = layerNo cp l))) s) s
  let s := if (List.range (s.cpLayers cp)).any (fun l => s.coiled cp l && !s.staticFor cp l 1) then dropCoil cp s else s
  if s.coilDue cp then formCoil cp s else s

/-! Generators -/

/-- The extension of a lock step at a generator's splice point in ns: until the frame after it starts in phase (R409); a free value below one frame period where its reference is not
known. -/
def State.stepLength (s : State) (tg : Nat) : Nat := (s.toPhase tg s.now).getD (Config.freeNat s.draws % max (genTiming s.liveReg tg).frameNs 1)

/-- A generator at its splice point: one that acquires takes its lock step (R409). -/
def genPoint (tg : Nat) (s : State) : State :=
  if s.genRuns tg && decide (s.lockState tg = 2) && !s.inGap tg then
    let g := s.stepLength tg
    let s := setGenSt tg { s.genSt tg with stepping := some (s.now + g) } (s.draw.setBit (Reg.scnStatus tg) 4 true)
    raiseGen tg 2 ((s.bump (Reg.scnRelockCnt tg) 1).setReg (Reg.scnGapLast tg) (wd g))
  else s

/-- An output that reaches its splice point during an entry to sleep has completed its last frame, and its transmitters go DISABLED (R745 step 3). Receivers
stop with the last output, since another output may still show what they bring (DEDUCED, log entry on modes). -/
def haltOutput (d : Nat) (s : State) : State :=
  let ns := if destIsStrand d then s.braid (destNumber d) else
    match (s.consumer d).bind encoderStrand with
    | some n => s.members n
    | none => []
  txRefreshAll ns (setPwr { s.pwr with halted := ns ++ s.pwr.halted } s)

/-- The zone of what reaches a splice point (R49). -/
def pointZone : PointOf → Option Nat
  | .dest d => zoneOfObj (objDest d)
  | .cp n => some (n / 2)
  | .gen tg => some (tg / 16)

/-- SPLICE_POINT (R218): of a destination, a compositor or a generator, in a zone that is not STOPPED (R73) and at the line of its point (R219, R401). -/
def doSplicePoint (p : PointOf) (obs : SpliceObs) (s : State) : State :=
  if ((pointZone p).map s.stopped).getD false then s
  else
    match p with
    | .dest d => if s.pwr.change.isSome && s.atPoint d obs.line then haltOutput d (destPoint d obs s) else destPoint d obs s
    | .cp n => if s.genLine (cpGen s.liveView n) = obs.line then cpPoint n s else s
    | .gen tg => if s.genLine tg = obs.line then genPoint tg s else s

def execSplicePoint (p : PointOf) (obs : SpliceObs) (s : State) : Host.Outcome State Fault Refusal := run (doSplicePoint p obs) s

/-! After a switch -/

/-- SHADOW_RELOAD (R255): an engine's shadow holds the new live values, and the writes that waited apply. -/
def doShadowReload (e : Nat) (s : State) : State :=
  match tabGet e s.spl.reloading with
  | none => s
  | some ws =>
    let s := reloadShadow e { s with spl := { s.spl with reloading := tabDel e s.spl.reloading } }
    ws.foldl (fun s w =>
      match locate w.1 with
      | some l => rwsWrite ((s.owner e).getD 0) none w.1 w.2 l s
      | none => s) s

def execShadowReload (e : Nat) (s : State) : Host.Outcome State Fault Refusal := run (doShadowReload e) s

/-- ETH_BLOCK_RETURN (R208): the egress returns to the strand matrix at the new source's first idle block. -/
def doEthBlockReturn (n : Nat) (s : State) : State :=
  if (tabGet n s.spl.blockReturns).isNone then s
  else txRefreshAll (s.braid n) { s with spl := { s.spl with blockReturns := tabDel n s.spl.blockReturns } }

def execEthBlockReturn (n : Nat) (s : State) : Host.Outcome State Fault Refusal := run (unlessStopped (n / 8) (doEthBlockReturn n)) s

/-- HOLD_LIMIT_EXPIRY (R232): a hold with a limit runs out, and the output shows its fill. -/
def doHoldLimitExpiry (obj : Nat) (s : State) : State :=
  let eo := objIndex obj
  match tabGet eo s.spl.losses with
  | none => s
  | some l =>
    if objClass obj = 0x01 ∧ l.holding ∧ l.framesLeft.isSome then
      raiseDest eo 7 (setLosses (tabSet eo { l with holding := false, framesLeft := none } s.spl.losses) s)
    else s

def execHoldLimitExpiry (obj : Nat) (s : State) : Host.Outcome State Fault Refusal := run (unlessStopped (objIndex obj / 64) (doHoldLimitExpiry obj)) s

end Sys2Proof.Machine
end

