-- ==== Sys2Proof/Machine/Signature.lean ====
section
/-! DEFINITION. ECDSA P-384 with SHA-384 (R54, R55, R592), which the spec names by its standards (FIPS 186-5, SP 800-186): their contents are taken from outside it
(PRESUMED). Points are in Jacobian coordinates; the point at infinity has Z = 0. -/

namespace Sys2Proof.Machine

open Sys2Proof

/-- The field prime of P-384. -/
def p384P : Nat := 2 ^ 384 - 2 ^ 128 - 2 ^ 96 + 2 ^ 32 - 1

/-- The order of its base point. -/
def p384N : Nat := 0xFFFFFFFFFFFFFFFFFFFFFFFFFFFFFFFFFFFFFFFFFFFFFFFFC7634D81F4372DDF581A0DB248B0A77AECEC196ACCC52973

/-- The coefficient b. -/
def p384B : Nat := 0xB3312FA7E23EE7E4988E056BE3F82D19181D9C6EFE8141120314088F5013875AC656398D8A2ED19D2A85C8EDD3EC2AEF

/-- The base point. -/
def p384Gx : Nat := 0xAA87CA22BE8B05378EB1C71EF320AD746E1D3B628BA79B9859F741E082542A385502F25DBF55296C3A545E3872760AB7
def p384Gy : Nat := 0x3617DE4A96262C6F5D9E98BF9292DC29F8F41DBD289A147CE9DA3113B5F0B8C00A60B1CE1D7E819D7A431D7C90EA0E5F

/-- Powers modulo `m` by the bits of the exponent, the highest first, of which there are `k`. -/
def powMod (m b e : Nat) : Nat → Nat → Nat
  | 0, a => a
  | k + 1, a =>
    let q := a * a % m
    powMod m b e k (if e.testBit k then q * b % m else q)

/-- A point in Jacobian coordinates. -/
structure JPoint where
  x : Nat
  y : Nat
  z : Nat
  deriving DecidableEq, Repr

/-- The double of a point, for a = -3. -/
def jDouble (a : JPoint) : JPoint :=
  let p := p384P
  let d := a.z * a.z % p
  let g := a.y * a.y % p
  let b := a.x * g % p
  let t := 3 * ((a.x + p - d) % p) * ((a.x + d) % p) % p
  let x := (t * t + 8 * (p - b)) % p
  ⟨x, (t * ((4 * b + p - x) % p) + 8 * (p - g * g % p)) % p, 2 * a.y * a.z % p⟩

/-- The sum of two points. -/
def jAdd (a b : JPoint) : JPoint :=
  let p := p384P
  if a.z % p = 0 then b
  else if b.z % p = 0 then a
  else
    let za := a.z * a.z % p
    let zb := b.z * b.z % p
    let u := a.x * zb % p
    let s := a.y * (b.z * zb % p) % p
    let h := (b.x * za + p - u) % p
    let r := (b.y * (a.z * za % p) + p - s) % p
    if h = 0 then (if r = 0 then jDouble a else ⟨1, 1, 0⟩)
    else
      let hh := h * h % p
      let hc := h * hh % p
      let v := u * hh % p
      let x := (r * r + (p - hc) + 2 * (p - v)) % p
      ⟨x, (r * ((v + p - x) % p) + s * (p - hc)) % p, h * a.z % p * b.z % p⟩

/-- One step of a double multiplication: the present sum doubled, plus what the bits of the two numbers choose. -/
def jStep (g q gq a : JPoint) (bg bq : Bool) : JPoint :=
  let d := jDouble a
  match bg, bq with
  | true, true => jAdd d gq
  | true, false => jAdd d g
  | false, true => jAdd d q
  | false, false => d

/-- `u` times one point plus `v` times another, from bit `k - 1` down. -/
def jMul2 (u v : Nat) (g q gq : JPoint) : Nat → JPoint → JPoint
  | 0, a => a
  | k + 1, a => jMul2 u v g q gq k (jStep g q gq a (u.testBit k) (v.testBit k))

/-- The public key of a signature block: an uncompressed point of 97 bytes that lies on the curve (R54). -/
def publicPoint (k : List Nat) : Option JPoint :=
  let x := beNum ((k.drop 1).take 48)
  let y := beNum (k.drop 49)
  if k.length = 97 ∧ k.headD 0 = 4 ∧ x < p384P ∧ y < p384P ∧ y * y % p384P = ((x * x % p384P + p384P - 3) * x + p384B) % p384P then some ⟨x, y, 1⟩
  else none

/-- The check of a signature over a digest of 48 bytes. -/
def ecdsaVerify (key digest : List Nat) (r s : Nat) : Bool :=
  match publicPoint key with
  | none => false
  | some q =>
    decide (1 ≤ r ∧ r < p384N ∧ 1 ≤ s ∧ s < p384N) &&
    (let w := powMod p384N s (p384N - 2) 384 1
     let u := beNum digest * w % p384N
     let v := r * w % p384N
     let g : JPoint := ⟨p384Gx, p384Gy, 1⟩
     let t := jMul2 u v g q (jAdd g q) 384 ⟨1, 1, 0⟩
     let z := t.z * t.z % p384P
     decide (z ≠ 0) && (decide (r * z % p384P = t.x % p384P) || (decide (r + p384N < p384P) && decide ((r + p384N) * z % p384P = t.x % p384P))))

end Sys2Proof.Machine
end

