-- ==== Sys2Proof/Machine/Image.lean ====
section
/-! DEFINITION. The bytes of a rig image (R43 to R54) and of a fid image (R590): header, section table, signature block and sections as fields at their offsets. -/

namespace Sys2Proof.Machine

open Sys2Proof

/-- A sector of 4 KiB that nothing has programmed since its erase. -/
def erasedSector : List Byte := List.replicate 4096 0xFF

/-- A sector of a slot. -/
def sectorOf (i : RigImage) (k : Nat) : List Byte := tabGetD erasedSector k i.sectors

/-- `n` bytes of an image from an offset. -/
def imageBytes (i : RigImage) (off n : Nat) : List Byte :=
  if off % 4096 + n ≤ 4096 then ((sectorOf i (off / 4096)).drop (off % 4096)).take n
  else (((List.range ((off % 4096 + n + 4095) / 4096)).flatMap (fun k => sectorOf i (off / 4096 + k))).drop (off % 4096)).take n

/-- A field of an image: little-endian (R43). -/
def imageField (i : RigImage) (off n : Nat) : Nat := leNat (imageBytes i off n)

/-! The header (R44) -/

def magicOk (i : RigImage) : Bool := decide (imageBytes i 0 4 = [0x59, 0x4C, 0x57, 0x44])
def fmtMajor (i : RigImage) : Nat := imageField i 0x004 2
def fmtMinor (i : RigImage) : Nat := imageField i 0x006 2
def imagePart (i : RigImage) : Nat := imageField i 0x008 4
def imageStepping (i : RigImage) : Nat := imageField i 0x00C 2
def imageEncrypted (i : RigImage) : Bool := (imageField i 0x00E 2).testBit 0
def imageDebugOk (i : RigImage) : Bool := (imageField i 0x00E 2).testBit 1
def imageLen (i : RigImage) : Nat := imageField i 0x010 4
def sectionCount (i : RigImage) : Nat := imageField i 0x014 2
def imageVersion (i : RigImage) : Nat := imageField i 0x018 4
def secVersion (i : RigImage) : Nat := imageField i 0x01C 4
def subsysVendor (i : RigImage) : Nat := imageField i 0x020 2
def subsysId (i : RigImage) : Nat := imageField i 0x022 2
def imageNonce (i : RigImage) : List Nat := byteNats (imageBytes i 0x024 8)
def buildId (i : RigImage) : List Nat := byteNats (imageBytes i 0x02C 32)

/-- SHA-384 of the header and the section table, which the signature covers (R55, R80). -/
def headerDigest (i : RigImage) : List Nat := sha384 (byteNats (imageBytes i 0 0x1100))

/-! The section table (R46) -/

/-- An entry of the section table. -/
def imageSection (i : RigImage) (k : Nat) : Section :=
  let e := 0x100 + 64 * k
  ⟨imageField i e 2, imageField i (e + 2) 1, imageField i (e + 3) 1, imageField i (e + 4) 4, imageField i (e + 8) 4, imageField i (e + 12) 4,
    byteNats (imageBytes i (e + 16) 48)⟩

/-- The section is encrypted. -/
def sectionEncrypted (x : Section) : Bool := x.sflags.testBit 0

/-- The stored bytes of a section. -/
def storedBytes (i : RigImage) (k : Nat) : List Byte := imageBytes i (imageSection i k).offset (imageSection i k).length

/-- A section's 96-bit initial value: the NONCE and the section's index (R57). -/
def sectionIv (i : RigImage) (k : Nat) : List Nat := imageNonce i ++ (List.range 4).map (fun (j : Nat) => k / 256 ^ j % 256)

/-- The tag of an encrypted section verifies (R57): AES-256-GCM under the rig key; the last 16 stored bytes are the tag. -/
def sectionTagOk (key : List Nat) (i : RigImage) (k : Nat) (stored : List Byte) : Bool :=
  let n := stored.length - 16
  decide (16 ≤ stored.length) && decide (gcmTag key (sectionIv i k) [] (byteNats (stored.take n)) = byteNats (stored.drop n))

/-- The bytes of a section after decryption (R57). -/
def plainOf (key : List Nat) (i : RigImage) (k : Nat) (stored : List Byte) : List Nat :=
  if sectionEncrypted (imageSection i k) then gcmCrypt key (sectionIv i k) (byteNats (stored.take (stored.length - 16))) else byteNats stored

/-! Layout (R43, R46) -/

/-- The bytes between two offsets are 0 (R43). -/
def zeroBytes (i : RigImage) (a b : Nat) : Bool := (imageBytes i a (b - a)).all (fun x => decide (x = 0))

/-- Sections in table order from byte `a` on: ascending and apart, each at a multiple of 256 and within the image, with zeros between. -/
def placedFrom (i : RigImage) (len : Nat) : List Nat → Nat → Bool
  | [], a => zeroBytes i a len
  | k :: ks, a =>
    let x := imageSection i k
    decide (x.offset % 256 = 0 ∧ a ≤ x.offset ∧ x.offset + x.length ≤ len ∧ x.length = x.plainLength + (if sectionEncrypted x then 16 else 0)) &&
    zeroBytes i a x.offset && placedFrom i len ks (x.offset + x.length)

/-- Step 4 of R62: IMAGE_LEN, SECTION_COUNT, entry order, offsets and lengths within the image. -/
def layoutOk (i : RigImage) : Bool :=
  let len := imageLen i
  decide (len % 256 = 0 ∧ 0x1200 ≤ len ∧ len ≤ 12582912 ∧ sectionCount i = 64) && placedFrom i len (List.range 64) 0x1200

/-! The signature block (R54) -/

/-- The key and the signature of a block of 256 bytes that starts at an offset, and whether it verifies over a digest. -/
def blockKey (b : List Byte) : List Nat := byteNats (b.take 97)
def blockKeyDigest (b : List Byte) : List Nat := sha384 (blockKey b)
def blockVerifies (b : List Byte) (digest : List Nat) : Bool :=
  ecdsaVerify (blockKey b) digest (leNat ((b.drop 0x68).take 48)) (leNat ((b.drop 0x98).take 48))

/-- The signature block of an image. -/
def signatureBlock (i : RigImage) : List Byte := imageBytes i 0x1100 256

/-! Fid images (R590) -/

/-- Number of a fid within its kind (R577, R590). -/
def fidIndex (f : Nat) : Nat := if f = 0 then 0 else if f ≤ 32 then f - 1 else if f ≤ 40 then f - 33 else if f ≤ 42 then f - 41 else 0

/-- Little-endian number. -/
def leNum (l : List Nat) : Nat := l.foldr (fun b a => b + 256 * a) 0

/-- Words of four bytes, the last padded with zeros. -/
def fidWords (l : List Nat) : List Word := (chunksN 4 ((l.length + 3) / 4) l).map (fun (w : List Nat) => wd (leNum w))

/-- A field of a fid image's header. -/
def fidField (l : List Nat) (off n : Nat) : Nat := leNum ((l.drop off).take n)

/-- CODE_LEN and DATA_LEN. -/
def fidCodeLen (l : List Nat) : Nat := fidField l 0x10 4
def fidDataLen (l : List Nat) : Nat := fidField l 0x14 4

/-- The header of a fid image obeys R590, for fid `f`. -/
def fidImageOk (f : Nat) (l : List Nat) : Bool :=
  decide (l.take 4 = [0x46, 0x49, 0x44, 0x31] ∧ fidField l 4 1 = fidKind f ∧ (fidField l 5 1 = fidIndex f ∨ fidField l 5 1 = 0xFF)) &&
  decide (fidField l 6 2 = 0 ∧ fidField l 0x18 40 = 0) &&
  decide (fidCodeLen l % 4 = 0 ∧ fidCodeLen l ≤ 16384 ∧ fidField l 0xC 4 % 4 = 0 ∧ fidField l 0xC 4 < fidCodeLen l ∧
    fidDataLen l ≤ (if fidKind f = 1 ∨ fidKind f = 2 then 16384 else 32768) ∧ 64 + fidCodeLen l + fidDataLen l ≤ l.length)

/-- What a fid image says. -/
def fidImageOf (l : List Nat) : FidImage :=
  ⟨fidField l 4 1, fidField l 5 1, fidField l 8 4, fidField l 0xC 4, fidWords ((l.drop 64).take (fidCodeLen l)),
    fidWords ((l.drop (64 + fidCodeLen l)).take (fidDataLen l))⟩

end Sys2Proof.Machine
end

