-- ==== Sys2Proof/Machine/Keys.lean ====
section
/-! DEFINITION. Keys (chapter 17): the root and the keys derived from it (R708 to R711, R722), key slots (R712 to R714), the key commands (R715 to R718),
KEY records (R719 to R721) and the state digest (R724 to R726). -/

namespace Sys2Proof.Machine

open Sys2Proof

/-- Replace the key part of the state. -/
def setKey (k : KeyState) (s : State) : State := { s with key := k }

/-- Exactly `n` bytes of a list, with zeros where it ends. -/
def takePad (n : Nat) (l : List Nat) : List Nat := (l ++ List.replicate n 0).take n

/-! Attributes (R712, R713) -/

def attrUse (a : Nat) : Nat := a % 8
def attrUsers (a : Nat) : Nat := a / 16 % 16
def attrLen (a : Nat) : Nat := a / 256 % 4

/-- Uses by name. -/
def useEncrypt : Nat := 1
def useDecrypt : Nat := 2
def useWrap : Nat := 3
def useDerive : Nat := 4
def useRespond : Nat := 5

/-- Bytes of a key by its LEN. -/
def lenBytes (l : Nat) : Nat := if l = 1 then 16 else if l = 2 then 32 else 0

/-- The pairs of USE and LEN that R713 allows, with no reserved bit. -/
def attrOk (a : Nat) : Bool :=
  decide (a < 1024 ∧ a / 8 % 2 = 0) &&
  ((decide (attrUse a = 1 ∨ attrUse a = 2) && decide (attrLen a = 1 ∨ attrLen a = 2)) ||
   (decide (3 ≤ attrUse a ∧ attrUse a ≤ 5) && decide (attrLen a = 2)))

def slotEmpty : KeySlot := ⟨[], 0, false⟩

/-- A key slot. -/
def State.keySlot (s : State) (k : Nat) : KeySlot := tabGetD slotEmpty k s.key.slots

/-- The slot holds a key. -/
def KeySlot.holds (k : KeySlot) : Bool := decide (attrUse k.attr ≠ 0 ∧ attrLen k.attr ≠ 0)

/-- An installed association refers to the slot (R714). -/
def State.keyInUse (s : State) (k : Nat) : Bool := s.wire.sas.any (fun e => e.2.valid && decide (e.2.key = k))

/-! The root and the keys derived from it -/

/-- The root in use: the test root while debug is enabled (R722). -/
def State.rootKey (s : State) : List Nat :=
  if s.pwr.debug then List.range 32 else (List.range 32).map (fun i => (Config.root i).toNat)

/-- Characters of a label. -/
def ascii (t : String) : List Nat := t.toList.map (fun c => c.toNat)

/-- Derive the rig key and the store key (R710, R711). -/
def deriveKeys (s : State) : State :=
  let h := match s.ownerHash with
    | some h => byteNats h
    | none => List.replicate 48 0
  setKey { s.key with rigKey := kdf s.rootKey (ascii "AXR-RIG") h 256, storeKey := kdf s.rootKey (ascii "AXR-STORE") [] 256 } s

/-! KEY records (R719) -/

/-- Little-endian bytes as numbers. -/
def leNats (n v : Nat) : List Nat := byteNats (leBytes n v)

/-- The initial value of a KEY record. -/
def keyIv (index seq : Nat) : List Nat := leNats 2 index ++ [0, 0] ++ leNats 8 seq

/-- The additional authenticated data of a KEY record. -/
def keyAad (index seq attr : Nat) : List Nat := [clsKey] ++ leNats 2 index ++ leNats 8 seq ++ leNats 4 attr

/-- The payload of a KEY record. -/
def keyPayload (storeKey : List Nat) (index seq : Nat) (k : KeySlot) (test : Bool) : List Byte :=
  let c := gcmCrypt storeKey (keyIv index seq) (takePad 32 k.key)
  natBytes (leNats 4 k.attr ++ [b2n test, 0, 0, 0] ++ c ++ gcmTag storeKey (keyIv index seq) (keyAad index seq k.attr) c)

/-- What a KEY record gives its slot when it is usable (R720): intact, made under the root in use, with a tag that verifies. -/
def State.recordKey (s : State) (x : RecCopy) : Option KeySlot :=
  let p := byteNats x.payload
  let attr := leAt x.payload 0 4
  let c := (p.drop 8).take 32
  if x.intact && decide (p.getD 4 0 = b2n s.pwr.debug) &&
      decide ((p.drop 40).take 16 = gcmTag s.key.storeKey (keyIv x.index x.seq) (keyAad x.index x.seq attr) c) then
    if attrLen attr = 0 then some { slotEmpty with test := s.pwr.debug }
    else some ⟨(gcmCrypt s.key.storeKey (keyIv x.index x.seq) c).take (lenBytes (attrLen attr)), attr, s.pwr.debug⟩
  else none

/-- The newest usable record of a slot (R720). -/
def State.keyRecord (s : State) (k : Nat) : Option RecCopy :=
  bestCopy ((s.ring clsKey).filter (fun x => decide (x.index = k) && (s.recordKey x).isSome))

/-- KEY_SLOT_ATTR of a slot (R733): PERSIST when a usable record of its index exists, DIRTY when the slot differs from it. -/
def refreshSlot (k : Nat) (s : State) : State :=
  let x := s.keySlot k
  let r := (s.keyRecord k).bind (fun c => s.recordKey c)
  let dirty := match r with
    | some y => decide (y.key ≠ x.key ∨ y.attr ≠ x.attr)
    | none => false
  s.setReg (Reg.keySlotAttr k)
    (wd (x.attr % 1024 + 0x1000 * b2n r.isSome + 0x2000 * b2n dirty + 0x4000 * b2n x.test + 0x8000 * b2n (s.keyInUse k)))

/-- Put a key into a slot. -/
def setSlot (k : Nat) (v : KeySlot) (s : State) : State :=
  refreshSlot k (setKey { s.key with slots := tabPut slotEmpty k v s.key.slots } s)

/-- Invalidate the associations that refer to a slot (R183, R716). -/
def invalidateSas (k : Nat) (s : State) : State :=
  { s with wire := { s.wire with sas := s.wire.sas.map (fun e => (e.1, if e.2.key = k then { e.2 with valid := false } else e.2)) } }

/-- Zeroise a slot (R716). -/
def zeroSlot (k : Nat) (s : State) : State := setSlot k slotEmpty (invalidateSas k s)

/-- Zeroise every slot (R716, R730). -/
def zeroSlots (s : State) : State := (s.key.slots.map Prod.fst).foldl (fun s k => zeroSlot k s) s

/-- Zeroise every slot and the keys derived from the root (R711, R730). -/
def zeroKeys (s : State) : State :=
  let s := zeroSlots s
  setKey { s.key with rigKey := [], storeKey := [] } s

/-! The commands (R715 to R718) -/

/-- A key command completes; KEY_STATUS.LAST_RESULT reads its status. -/
def keyDone (o : Origin) (st : Status) (obj : Nat) (s : State) : State :=
  complete o st obj (s.setF Reg.keyStatus 23 16 (statusCode st))

/-- A key command that no batch may hold: a refusal shows in LAST_RESULT too. -/
def keyCommand (o : Origin) (check : State → Refuse) (effect : State → State) (s : State) : State :=
  let s' := match check s with
    | some (st, _) => s.setF Reg.keyStatus 23 16 (statusCode st)
    | none => s
  loneCommand o .working check effect (if (s.batchOf o).isNone then s' else s)

/-- The checks of KEY_WRITE (R718). -/
def keyWriteCheck (o : Origin) (slot attr wrap : Nat) (data : Option (List Byte)) (s : State) : Refuse :=
  firstRefusal
    [need (decide (slot < 256 ∧ (wrap < 256 ∨ wrap = 0xFFFF) ∧ slot ≠ wrap) && attrOk attr) .badField (objKey slot),
     needRig o s,
     needServing s,
     need (!s.keyInUse slot) .stateConflict (objKey slot),
     need (decide (wrap = 0xFFFF) || (s.keySlot wrap).holds) .stateConflict (objKey wrap),
     need (decide (wrap = 0xFFFF ∨ attrUse (s.keySlot wrap).attr = useWrap)) .keyUse (objKey wrap),
     need data.isSome .fetchFault 0]

/-- The key that KEY_WRITE places: clear, or unwrapped by RFC 3394 (R716). -/
def State.writtenKey (s : State) (attr wrap : Nat) (data : List Byte) : Option (List Nat) :=
  let n := lenBytes (attrLen attr)
  if wrap = 0xFFFF then some (takePad n (byteNats data)) else aesUnwrap (s.keySlot wrap).key (takePad (n + 8) (byteNats data))

/-- What KEY_WRITE does once its checks passed. -/
def keyWriteEffect (o : Origin) (slot attr wrap : Nat) (data : Option (List Byte)) (s : State) : State :=
  match s.writtenKey attr wrap (data.getD []) with
  | none => keyDone o .badField (objKey slot) s
  | some k => keyDone o .ok 0 (setSlot slot ⟨k, attr, s.pwr.debug⟩ s)

/-- KEY_WRITE (R716). -/
def doKeyWrite (o : Origin) (slot attr wrap : Nat) (data : Option (List Byte)) (s : State) : State :=
  keyCommand o (keyWriteCheck o slot attr wrap data) (keyWriteEffect o slot attr wrap data) s

def execKeyWrite (o : Origin) (slot attr wrap : Nat) (data : Option (List Byte)) (s : State) : Host.Outcome State Fault Refusal :=
  run (doKeyWrite o slot attr wrap data) s

/-- The checks of KEY_ZERO (R718). -/
def keyZeroCheck (o : Origin) (slot : Nat) (s : State) : Refuse :=
  firstRefusal [need (decide (slot < 256 ∨ slot = 0xFFFF)) .badField (objKey slot), needRig o s, needServing s]

/-- KEY_ZERO (R716). -/
def doKeyZero (o : Origin) (slot : Nat) (s : State) : State :=
  keyCommand o (keyZeroCheck o slot) (fun s => keyDone o .ok 0 (if slot = 0xFFFF then zeroSlots s else zeroSlot slot s)) s

def execKeyZero (o : Origin) (slot : Nat) (s : State) : Host.Outcome State Fault Refusal := run (doKeyZero o slot) s

/-- The checks of KEY_DERIVE (R718); the rig key is source 0xFFFE. -/
def keyDeriveCheck (o : Origin) (source target attr : Nat) (data : Option (List Byte)) (s : State) : Refuse :=
  let rig := decide (source = 0xFFFE)
  firstRefusal
    [need (decide (target < 256 ∧ source ≠ target) && (rig || (decide (source < 256) && attrOk attr))) .badField (objKey target),
     needRig o s,
     needServing s,
     need (!rig || decide (s.mode = .maintenance)) .stateConflict (objKey target),
     need (rig || !s.keyInUse target) .stateConflict (objKey target),
     need (if rig then (s.keySlot target).holds else (s.keySlot source).holds) .stateConflict (objKey (if rig then target else source)),
     need (if rig then decide (attrUse (s.keySlot target).attr = useWrap) else decide (attrUse (s.keySlot source).attr = useDerive)) .keyUse
       (objKey (if rig then target else source)),
     need (rig || data.isSome) .fetchFault 0]

/-- What KEY_DERIVE does once its checks passed: a key of the first LEN bits of R710, or the rig key wrapped for export. -/
def keyDeriveEffect (o : Origin) (source target attr addr : Nat) (data : Option (List Byte)) (s : State) : State :=
  if source = 0xFFFE then
    keyDone o .ok 0 (s.emit (.hostWrite o.tenancy addr (natBytes (aesWrap (s.keySlot target).key s.key.rigKey))))
  else
    let d := takePad 64 (byteNats (data.getD []))
    let k := kdf (s.keySlot source).key (d.take 32) (d.drop 32) (8 * lenBytes (attrLen attr))
    keyDone o .ok 0 (setSlot target ⟨k, attr, s.pwr.debug⟩ s)

/-- KEY_DERIVE (R716). -/
def doKeyDerive (o : Origin) (source target attr addr : Nat) (data : Option (List Byte)) (s : State) : State :=
  keyCommand o (keyDeriveCheck o source target attr data) (keyDeriveEffect o source target attr addr data) s

def execKeyDerive (o : Origin) (source target attr addr : Nat) (data : Option (List Byte)) (s : State) : Host.Outcome State Fault Refusal :=
  run (doKeyDerive o source target attr addr data) s

/-- The checks of KEY_STORE (R718). -/
def keyStoreCheck (o : Origin) (slot : Nat) (s : State) : Refuse :=
  firstRefusal
    [need (decide (slot < 256)) .badField (objKey slot), needRig o s, needServing s, need (!s.fnFault) .stateConflict (objFid 43),
     need (!s.writing clsKey) .storeBusy (objKey slot)]

/-- What KEY_STORE does once its checks passed: its record is written, and the command completes with it (R716, R719). -/
def keyStoreEffect (o : Origin) (slot : Nat) (s : State) : State :=
  let seq := tabGetD 0 clsKey s.rst.seqs + 1
  let s := mailbox 43 (s.setBit Reg.keyStatus 3 true)
  writeRecord clsKey slot (keyPayload s.key.storeKey slot seq (s.keySlot slot) s.pwr.debug) (.key slot (some o)) s

/-- KEY_STORE (R716). -/
def doKeyStore (o : Origin) (slot : Nat) (s : State) : State := keyCommand o (keyStoreCheck o slot) (keyStoreEffect o slot) s

def execKeyStore (o : Origin) (slot : Nat) (s : State) : Host.Outcome State Fault Refusal := run (doKeyStore o slot) s

/-! The state digest -/

/-- Bytes of the code bank a fid runs (R580, R724). -/
def State.codeBank (s : State) (f : Nat) : List Nat :=
  let base := if s.bit (Reg.fidStatus f) 2 then 0x4000 else 0
  (List.range 4096).foldr (fun i acc => leNats 4 (s.fidWord f (base + 4 * i)) ++ acc) []

/-- The flags of the digest's item 9. -/
def State.digestFlags (s : State) : Nat :=
  b2n s.pwr.debug + 2 * b2n s.rst.locked + 4 * b2n (s.bit Reg.sysRigStatus 2) + 8 * b2n (s.bit Reg.sysRigStatus 3) +
  16 * b2n s.bare + 32 * b2n s.pwr.tamper

/-- The input of the state digest (R724). -/
def State.digestInput (s : State) : List Nat :=
  let owner := match s.ownerHash with
    | some h => byteNats h
    | none => List.replicate 48 0
  leNats 2 0x0128 ++ leNats 2 0x00B0 ++ leNats 8 Config.deviceSerial.toNat ++ [s.key.bootCopy] ++
  (List.range 48).map (fun i => (Config.bootDigest s.key.bootCopy i).toNat) ++
  (List.range 12).foldr (fun j acc => leNats 4 (s.reg (Reg.sysRigDigest j)).toNat ++ acc) [] ++
  leNats 4 s.rig.selector.floor ++ owner ++ [s.digestFlags] ++
  (List.range 44).foldr (fun f acc => sha384 (s.codeBank f) ++ acc) []

/-- Recompute the digest into KEY_DIGEST (R725). -/
def recomputeDigest (s : State) : State :=
  let d := natBytes (sha384 s.digestInput)
  let s := (List.range 12).foldl (fun s j => s.setReg (Reg.keyDigest j) (wordOfBytes ((d.drop (4 * j)).take 4))) s
  setKey { s.key with digestDue := false } s

/-- The digest in force, in bytes. -/
def State.digestBytes (s : State) : List Nat := (List.range 12).foldr (fun j acc => leNats 4 (s.reg (Reg.keyDigest j)).toNat ++ acc) []

/-- DIGEST_RECOMPUTE (R725). -/
def doDigestRecompute (s : State) : State := recomputeDigest s

def execDigestRecompute (s : State) : Host.Outcome State Fault Refusal := run doDigestRecompute s

/-- The response to a challenge (R716, R726): HMAC-SHA-256 of the challenge and the digest. -/
def State.respond (s : State) (slot : Nat) (challenge : List Byte) : List Nat :=
  hmac256 (s.keySlot slot).key (takePad 32 (byteNats challenge) ++ s.digestBytes)

/-- The checks of ATTEST (R714, R718). -/
def attestCheck (o : Origin) (slot : Nat) (s : State) : Refuse :=
  firstRefusal
    [need (decide (slot < 256)) .badField (objKey slot),
     need ((attrUsers (s.keySlot slot).attr).testBit o.tenancy) .notOwner (objKey slot),
     needServing s,
     need (s.keySlot slot).holds .stateConflict (objKey slot),
     need (decide (attrUse (s.keySlot slot).attr = useRespond)) .keyUse (objKey slot)]

/-- What ATTEST does once its checks passed; it waits for a recomputation that is due (R725). -/
def attestEffect (o : Origin) (slot addr : Nat) (challenge : List Byte) (s : State) : State :=
  let s := if s.key.digestDue then recomputeDigest s else s
  keyDone o .ok 0 (s.emit (.hostWrite o.tenancy addr (natBytes (s.digestBytes ++ s.respond slot challenge))))

/-- ATTEST (R716). -/
def doAttest (o : Origin) (slot addr : Nat) (challenge : List Byte) (s : State) : State :=
  keyCommand o (attestCheck o slot) (attestEffect o slot addr challenge) s

def execAttest (o : Origin) (slot addr : Nat) (challenge : List Byte) (s : State) : Host.Outcome State Fault Refusal :=
  run (doAttest o slot addr challenge) s

/-- An item of the digest changed (R725). -/
def digestChanged (s : State) : State := setKey { s.key with digestDue := true } s

/-! Loading at boot (R720, R721) -/

/-- Load one slot from its newest usable record. -/
def loadSlot (k : Nat) (s : State) : State :=
  match (s.keyRecord k).bind (fun c => s.recordKey c) with
  | some v => setSlot k v s
  | none => setSlot k slotEmpty s

/-- A newer copy of a slot that is not usable (R721); production records under debug raise nothing (R723). -/
def State.keyRolledBack (s : State) (k loaded : Nat) : Bool :=
  (s.ring clsKey).any (fun x => x.header && decide (x.index = k ∧ loaded < x.seq) && (s.recordKey x).isNone &&
    !(s.pwr.debug && x.intact && decide ((x.payload.getD 4 0).toNat = 0)))

/-- Raise KEY_ROLLBACK for one slot; `loaded` is the SEQ loaded, 0 when the slot is empty. -/
def keyRollback (k loaded : Nat) (s : State) : State :=
  let s := (s.bump Reg.keyRollbackCnt 1).setReg Reg.keyRollbackLast (wd (k % 256 + 0x100 * (loaded % 0x1000000)))
  logBit (objKey k) Reg.keyEvent 0 (raiseEn (some s.rigOwner) (objKey k) Reg.keyEvent Reg.keyEventEn 0 s)

/-- FN loads every slot (R720, R721); KEY_LOADED follows. -/
def loadKeys (s : State) : State :=
  let ks := ((s.ring clsKey).map (fun x => x.index)).eraseDups.filter (fun k => decide (k < 256))
  let s := ks.foldl (fun s k =>
    let s := loadSlot k s
    let seq := ((s.keyRecord k).map (fun x => x.seq)).getD 0
    if s.keyRolledBack k seq then keyRollback k (if (s.keySlot k).holds then seq else 0) s else s) s
  raiseEn (some s.rigOwner) 0 Reg.keyEvent Reg.keyEventEn 1 (s.setBit Reg.keyStatus 2 true)

end Sys2Proof.Machine
end

