-- ==== Sys2Proof/Machine/Strand.lean ====
section
/-! DEFINITION. Strands (chapter 3): configurations and STRAND_CONFIG (R86 to R110), the receiver's states and what leaves UP (R96 to R99, R111 to R113, R796, R797),
transmit PLLs, counters and the eye monitor (R115 to R119), display sideband groups (R120 to R124), and bight pairs (R127 to R132). -/

namespace Sys2Proof.Machine

open Sys2Proof

/-! Configurations -/

/-- The rate codes a protocol accepts (R88), OFF among them; a CUSTOM rate lies in its range (R90). -/
def strandRateOk (c : StrandEntry) : Bool :=
  match c.proto with
  | 0 => decide (c.rate ≤ 0x15) || (decide (c.rate = 0x3F) && decide (250000 ≤ c.customKbps ∧ c.customKbps ≤ 28200000))
  | 1 => decide (c.rate ≤ 7 ∨ c.rate = 0x0B ∨ c.rate = 0x0C)
  | 2 => decide (c.rate = 0 ∨ c.rate = 0x0A ∨ c.rate = 0x0F ∨ c.rate = 0x14)
  | 3 =>
    decide (c.rate = 0) ||
    (if !c.hdmi then decide (c.rate = 0x08 ∨ c.rate = 0x09 ∨ c.rate = 0x0D ∨ c.rate = 0x0E)
     else
      decide (c.rate = 0x10 ∨ c.rate = 0x11 ∨ c.rate = 0x12 ∨ c.rate = 0x09 ∨ c.rate = 0x13) ||
      (!c.source && decide (c.rate = 0x3E)) ||
      (c.source && decide (c.rate = 0x3F) && decide (250000 ≤ c.customKbps ∧ c.customKbps ≤ 6000000)))
  | _ => false

/-- Width and leader are those of a braid, a display port or a single strand (R93, R102). -/
def strandShapeOk (c : StrandEntry) : Bool :=
  decide (c.leader + c.width ≤ 128) &&
  (if c.proto = 3 then decide (c.width = 4 ∧ 64 ≤ c.leader ∧ c.leader % 4 = 0)
   else if c.width = 1 then true
   else if c.proto = 2 then
     decide ((c.width = 2 ∨ c.width = 4 ∨ c.width = 8) ∧ c.leader % c.width = 0 ∧ (c.rate = 0x14 ∨ c.rate = 0))
   else if c.proto = 1 then
     decide (c.width = 4 ∧ c.leader % 4 = 0 ∧ (c.rate = 0x0B ∨ c.rate = 0x0C ∨ c.rate = 0))
   else false)

/-- A configuration that R88, R90 and R102 allow. -/
def strandCfgOk (c : StrandEntry) : Bool := strandRateOk c && strandShapeOk c

/-- FEC as STR_CFG shows it: only for 25GBASE-R (R106). -/
def cfgFec (c : StrandEntry) : Bool := c.fec && decide (c.proto = 2) && decide (c.rate = 0x0F)

/-- STR_CFG of member `k` of a configuration (R134). DISP_KIND and DISP_DIR given for another protocol read 0 there, and a custom rate given for another rate code is not kept: the
spec says so of FEC alone (R106), so that they are ignored and play no part in R108's comparison is a DESIGN CHOICE (log entry on STRAND_CONFIG). -/
def strandCfgWord (c : StrandEntry) (k : Nat) : Word :=
  wd (c.proto % 4 + 4 * (Nat.log2 c.width % 4) + 16 * b2n (decide (k = 0) && decide (1 < c.width)) + 32 * b2n (cfgFec c) +
    64 * b2n (c.hdmi && decide (c.proto = 3)) + 128 * b2n (c.source && decide (c.proto = 3)) + 256 * (c.rate % 64) + 0x10000 * c.leader)

/-- STR_RATE_CUSTOM of a configuration: 0 unless the code is CUSTOM (R90). -/
def strandCustom (c : StrandEntry) : Nat := if c.rate = 0x3F then c.customKbps else 0


/-- OVERSAMPLE of a configuration (R89); 1 for TRACK until the clock is known. -/
def oversample (c : StrandEntry) : Nat :=
  if c.rate = 1 then oversampleOf 270000
  else if c.rate = 0x3F then oversampleOf c.customKbps
  else 1

/-- Every named strand already has the configuration (R108). -/
def State.strandCfgIs (s : State) (c : StrandEntry) : Bool :=
  (List.range c.width).all (fun k =>
    decide (s.reg (Reg.strCfg (c.leader + k)) = strandCfgWord c k) &&
    decide ((s.reg (Reg.strRateCustom (c.leader + k))).toNat = strandCustom c))

/-- Give the strands of a configuration their STR_CFG, rate, OVERSAMPLE and STR_BRAID_MAP entry (R109 step 3, R137). -/
def applyStrandCfg (c : StrandEntry) (s : State) : State :=
  (List.range c.width).foldl (fun s k =>
    let n := c.leader + k
    let s := (s.setReg (Reg.strCfg n) (strandCfgWord c k)).setReg (Reg.strRateCustom n) (wd (strandCustom c))
    let s := s.setF (Reg.strState n) 14 12 (oversample c)
    let code := Nat.log2 c.width % 4 + 4 * b2n (decide (k = 0) && decide (1 < c.width)) + 8 * b2n (decide (c.proto = 3))
    s.setF (Reg.strBraidMap (n / 8)) (4 * (n % 8) + 3) (4 * (n % 8)) code) s

/-- A display port that is configured anew uses all its lanes until it is trained, and what its sideband group was doing is over (R93, R123). -/
def dpForget (c : StrandEntry) (s : State) : State :=
  if 64 ≤ c.leader ∧ c.leader < 128 then
    let dp := (c.leader - 64) / 4
    setStrand { s.strand with
      dpLanes := tabDel dp s.strand.dpLanes, edidWait := tabDel dp s.strand.edidWait, training := tabDel dp s.strand.training
      dpcd := tabKeep (fun k _ => decide (k / 0x100000 ≠ dp)) s.strand.dpcd, scdc := tabKeep (fun k _ => decide (k / 0x100 ≠ dp)) s.strand.scdc } s
  else s

/-! Decoders and routes fed by a receiver -/

/-- The EI ports bound to the decoder that strand `n` leads (R23, R29). -/
def State.decoderEis (s : State) (n : Nat) : List Nat :=
  (s.spl.eiBind.filter (fun e => match e.2 with
    | .sdiDec k _ => decide (k = n)
    | .dispSink dp => decide (64 + 4 * dp = n)
    | _ => false)).map Prod.fst

/-- The audio ports bound to the embedded channels of strand `n`. -/
def State.wireAmis (s : State) (n : Nat) : List Nat :=
  (s.aud.amiBind.filter (fun e => match e.2 with | .wire k _ => decide (k = n) | _ => false)).map Prod.fst
def State.wireAmos (s : State) (n : Nat) : List Nat :=
  (s.aud.amoBind.filter (fun e => match e.2 with | .wire k _ => decide (k = n) | _ => false)).map Prod.fst

/-- Forget the format detected under a key of WireState.formats. -/
def dropFormat (k : Nat) (s : State) : State := { s with wire := { s.wire with formats := tabDel k s.wire.formats } }
def putFormat (k : Nat) (f : Format) (s : State) : State := { s with wire := { s.wire with formats := tabSet k f s.wire.formats } }

/-- The decoder that strand `l` leads is no longer aligned or locked: WIR_FMT reads unlocked, its essences and audio channels are absent (R88, R152, R155, R797). -/
def loseDecoder (l : Nat) (s : State) : State :=
  let s := ((s.setReg (Reg.wirFmt l) 0).setReg (Reg.wirFmtSize l) 0).setReg (Reg.wirFmtRate l) 0
  let s := (s.decoderEis l).foldl (fun s ei => setPresent ei false s) s
  let s := (s.wireAmis l).foldl (fun s a => (setAmiPresent a false s).setBit (Reg.audAmiStatus a) 2 false) s
  dropFormat l { s with wire := { s.wire with mastering := tabDel l s.wire.mastering, audio := tabDel l s.wire.audio } }

/-- The taut egresses of an ingress strand follow its receiver: PRESENT, the transmitter and its bight (R112, R113). -/
def tautRefresh (n : Nat) (s : State) : State :=
  (s.fedBy true n).foldl (fun s d => txRefresh (destNumber d) (s.setBit (Reg.splSrc (destWin d)) 12 (s.feeds n))) s

/-- The receiver stops feeding the strand matrix; sets that wait for it as a source end (R112, R236, R263). -/
def stopFeed (n : Nat) (s : State) : State :=
  if !tabGetD false n s.strand.feeds then s
  else
    let s := setStrand { s.strand with feeds := tabPut false n false s.strand.feeds, wasLost := tabPut false n true s.strand.wasLost } s
    let s := endSets (fun c => c.arms.any (fun a => !a.switched && destIsStrand a.dest && decide (a.source = some n) && !a.allowAbsent))
      rbAbsent (fun _ => objStrand n) s
    tautRefresh n s

/-- A point of the eye monitor ends because the receiver left UP (R119): DONE and ABORT are set; how many errors it shows is free. -/
def eyeAbort (n : Nat) (s : State) : State :=
  if tabGetD false n s.strand.eyeBusy then
    let s := setStrand { s.strand with eyeBusy := tabPut false n false s.strand.eyeBusy } s
    let s := s.setReg (Reg.strEyeResult n) (wd (0xC0000000 + Config.freeNat s.draws % 0x40000000))
    raiseStrand n 6 s.draw
  else s

/-- Enter SYNC: SYNC_FAIL may be raised once more (R796). -/
def enterSync (n : Nat) (s : State) : State :=
  setStrand { s.strand with syncFailed := tabPut false n false s.strand.syncFailed } (setRx n .sync s)

/-- A receiver leaves UP for `r`. The other members of its braid or display port return to SYNC, PROTO_LOST is raised once on the leader of a braid, and
the decoder loses its essences (R97, R797). -/
def leaveUp (n : Nat) (r : Rx) (s : State) : State :=
  let ms := s.members n
  let l := s.leader n
  let s := eyeAbort n (if r = .sync then enterSync n s else setRx n r s)
  let s := ms.foldl (fun s k => if k ≠ n ∧ s.rx k = .up then eyeAbort k (enterSync k s) else s) s
  let s := if 1 < ms.length then raiseStrand l 3 s else s
  let s := if s.proto n = 3 then s.setBit (Reg.strDpSbStatus ((l - 64) / 4)) 1 false else s
  loseDecoder l s

/-- A receiver goes DOWN (R88, R94, R109). -/
def stopRx (n : Nat) (s : State) : State :=
  let s := if s.rx n = .up then leaveUp n .down s else setRx n .down s
  stopFeed n (s.setBit (Reg.strState n) 8 false)

/-- The receiver of a strand is in use: not OFF, not an unused lane, not in a SOURCE port (R88, R93, R94). -/
def State.rxUsed (s : State) (n : Nat) : Bool :=
  decide (s.rate n ≠ 0) && !(decide (s.proto n = 3) && s.bit (Reg.strCfg n) 7) && s.laneUsed n

/-- A receiver that is DOWN starts seeking a signal if it is in use. -/
def startRx (n : Nat) (s : State) : State := if s.rxUsed n && decide (s.rx n = .down) then setRx n .seek s else s

/-! Early service and release -/

/-- Release a strand from BRINGUP (R128): when both strands of a pair are released, OPEN_REQ is loaded from BIGHT_INIT (R129). -/
def releaseStrand (n : Nat) (s : State) : State :=
  if tabGetD false n s.strand.released then s
  else
    let s := setStrand { s.strand with released := tabPut false n true s.strand.released } s
    let k := n / 16
    if n % 16 ≤ 1 then
      let s := if tabGetD false (bightA k) s.strand.released && tabGetD false (bightB k) s.strand.released then
          s.setBit (Reg.strBightCtrl k) 0 (tabGetD false k s.strand.bightInit)
        else s
      bightRefresh k s
    else s

/-- Every strand is released at the entry to Service or Maintenance (R128, R762). -/
def releaseAll (s : State) : State := (List.range 128).foldl (fun s n => releaseStrand n s) s

/-- An early taut hitch forwards its ingress. -/
def State.earlyForwards (s : State) (h : Nat × Nat) : Bool :=
  decide (s.hitch (destStrand h.1) = some h.2) && s.feeds h.2 && decide (s.tx h.1 = 2)

/-- Early service (R761): every early taut hitch whose ingress carries a signal forwards it; SYS_T_EARLY holds the µs from reset release. -/
def earlyCheck (s : State) : State :=
  if s.pwr.early || !s.strand.earlyHitches.any s.earlyForwards then s
  else if s.strand.earlyHitches.all (fun h => !s.bit (Reg.strState h.2) 8 || s.earlyForwards h) then
    let s := setPwr { s.pwr with early := true } s
    let s := s.setReg Reg.sysTEarly (wd (min 0xFFFFFFFF ((s.now - s.pwr.released) / 1000)))
    raiseEn (some s.rigOwner) 0 Reg.sysEvent Reg.sysEventEn 1 s
  else s

/-! The receiver's events -/

/-- The equaliser mode comes into force (R99): in UP with MANUAL the CTLE takes CTLE_MAN; FREEZE holds the present values, of which those that were adapting are free: CTLE and
DFE after CONTINUOUS, the DFE alone after MANUAL. The reserved MODE 3 adapts as CONTINUOUS does (DESIGN CHOICE, log entry on free values: the spec gives it no meaning). -/
def eqInForce (n : Nat) (s : State) : State :=
  let m := s.f (Reg.strRxEq n) 1 0
  let was := tabGetD 0 n s.strand.eqMode
  let s := setStrand { s.strand with eqMode := tabPut 0 n m s.strand.eqMode } s
  if s.rx n ≠ .up then s
  else if m = 2 then s.setF (Reg.strRxEqStat n) 4 0 (s.f (Reg.strRxEq n) 8 4)
  else if m = 1 ∧ was = 2 then (s.setF (Reg.strRxEqStat n) 15 8 (Config.freeNat s.draws % 256)).draw
  else if m = 1 ∧ was ≠ 1 then (s.setReg (Reg.strRxEqStat n) (Config.freeWord s.draws &&& 0xFF1F)).draw
  else s

/-- An early taut hitch is made when both of its strands are UP (R760 step 6, R761). -/
def earlyMake (s : State) : State :=
  s.strand.earlyHitches.foldl (fun s h =>
    if s.strand.earlyPending.contains h.1 && decide (s.rx h.1 = .up ∧ s.rx h.2 = .up) then
      bindNow (destStrand h.1) (some h.2) (setStrand { s.strand with earlyPending := s.strand.earlyPending.filter (fun e => decide (e ≠ h.1)) } s)
    else s) s

/-- The time since which a counter counts is set when it starts to count, and forgotten when a read leaves it stopped. -/
def startCount (n now : Nat) (t : Tab Nat) : Tab Nat := match tabGet n t with | some _ => t | none => tabSet n now t
def readCount (n now : Nat) (counts : Bool) (t : Tab Nat) : Tab Nat := if counts then tabSet n now t else tabDel n t

/-- What a checker or a protocol error counter finds is not read yet, and time has passed in which it counted. -/
def counted (n now : Nat) (t : Tab Nat) : Bool := match tabGet n t with | some since => decide (since < now) | none => false

/-- The PRBS checker starts to count if it compares (R115, R116). -/
def startPrbs (n : Nat) (s : State) : State :=
  if s.prbsChecks n then setStrand { s.strand with prbsSince := startCount n s.now s.strand.prbsSince } s else s

/-- SDI and display receivers count protocol errors while they are UP, a display port on its leader (R117). -/
def State.countsErrors (s : State) (n : Nat) : Bool := decide (s.proto n = 1 ∨ (s.proto n = 3 ∧ s.leader n = n)) && decide (s.rx n = .up)

/-- The protocol error counter of a receiver that is UP, or of the leader of its display port, starts to count (R117). -/
def startErrors (n : Nat) (s : State) : State :=
  let k := if s.proto n = 3 then s.leader n else n
  if s.proto n = 1 ∨ s.proto n = 3 then setStrand { s.strand with errSince := startCount k s.now s.strand.errSince } s else s

/-- A receiver enters UP (R97, R113): STRAND_UP and STR_UP_TIME, the strand is released in Bring-up, its taut egresses forward, with LOS_CLEAR where they had stopped; SDI egresses that
had stopped wait for the ingress signal's next switching line, which is their splice point. -/
def enterUp (n : Nat) (s : State) : State :=
  let lost := tabGetD false n s.strand.wasLost
  let s := setRx n .up s
  let s := s.setReg (Reg.strUpTime n) (wd (min 0xFFFFFFFF ((s.now - tabGetD 0 n s.strand.leftSeek) / 1000)))
  let sdi := if lost then (s.fedBy true n).filter (fun d => decide (s.proto n = 1) && (s.hitch d).isSome) else []
  let s := setStrand { s.strand with
    feeds := tabPut false n true s.strand.feeds, wasLost := tabPut false n (!sdi.isEmpty) s.strand.wasLost
    restores := s.strand.restores ++ (sdi.map destNumber).filter (fun k => !s.strand.restores.contains k) } s
  let s := startErrors n (startPrbs n (eqInForce n (raiseStrand n 2 s)))
  let s := if s.mode = .bringUp then releaseStrand n s else s
  let s := tautRefresh n (earlyMake s)
  let s := if lost && sdi.isEmpty && !(s.fedBy true n).isEmpty then raiseStrand n 1 s else s
  earlyCheck s

/-- SIGNAL_DETECTED (R97): SEEK or LOS to CDR. -/
def doSignalDetected (n : Nat) (s : State) : State :=
  if s.rx n = .seek ∨ s.rx n = .los then
    setStrand { s.strand with leftSeek := tabPut 0 n s.now s.strand.leftSeek } (setRx n .cdr (s.setBit (Reg.strState n) 8 true))
  else s

def execSignalDetected (n : Nat) (s : State) : Host.Outcome State Fault Refusal := run (doSignalDetected n) s

/-- CLOCK_LOCKED (R97): CDR to ADAPT. A TRACK strand runs at `kbps`, the TMDS bit rate of the clock it receives, and shows its oversampling (R89); for other strands `kbps` says
nothing. -/
def doClockLocked (n kbps : Nat) (s : State) : State :=
  if s.rx n = .cdr then
    let s := setRx n .adapt s
    if s.rate n = 0x3E then s.setF (Reg.strState n) 14 12 (oversampleOf kbps) else s
  else s

def execClockLocked (obs : ClockObs) (s : State) : Host.Outcome State Fault Refusal := run (doClockLocked obs.strand obs.kbps) s

/-- ADAPT_CONVERGED (R97, R99): ADAPT to SYNC, a RAW strand to UP; a MODE written during ADAPT comes into force. -/
def doAdaptConverged (n ctle dfe : Nat) (s : State) : State :=
  if s.rx n = .adapt then
    let s := s.setReg (Reg.strRxEqStat n) (wd (ctle % 32 + 0x100 * (dfe % 256)))
    let s := eqInForce n s
    if s.proto n = 0 then enterUp n s else enterSync n s
  else s

def execAdaptConverged (n ctle dfe : Nat) (s : State) : Host.Outcome State Fault Refusal := run (doAdaptConverged n ctle dfe) s

/-- ADAPT_FAIL (R98): ADAPT to CDR; the mode written during ADAPT comes into force as ADAPT ends. -/
def doAdaptFail (n : Nat) (s : State) : State :=
  if s.rx n = .adapt then raiseStrand n 4 ((eqInForce n (setRx n .cdr s)).bump (Reg.strAdaptFailCnt n) 1) else s

def execAdaptFail (n : Nat) (s : State) : Host.Outcome State Fault Refusal := run (doAdaptFail n) s

/-- Every member of the braid or port in use has its signal, clock and equaliser (R797). -/
def State.braidReady (s : State) (n : Nat) : Bool :=
  (s.members n).all (fun k => !s.laneUsed k || decide (s.rx k = .sync) || decide (s.rx k = .up))

/-- PROTO_ALIGNED (R97, R103): SYNC to UP, with the member's skew in STR_SKEW; a braid aligns only with the signal of every member. -/
def doProtoAligned (n : Nat) (skew : Int) (s : State) : State :=
  if s.rx n = .sync ∧ s.braidReady n = true then
    enterUp n (s.setReg (Reg.strSkew n) (wd (if s.leads n then 0 else ux 32 skew)))
  else s

def execProtoAligned (n : Nat) (skew : Int) (s : State) : Host.Outcome State Fault Refusal := run (doProtoAligned n skew) s

/-- SYNC_FAIL (R796): once for an entry to SYNC of an SDI or Ethernet receiver. -/
def doSyncFail (n : Nat) (s : State) : State :=
  if s.rx n = .sync ∧ (s.proto n = 1 ∨ s.proto n = 2) ∧ tabGetD false n s.strand.syncFailed = false then
    raiseStrand n 8 (setStrand { s.strand with syncFailed := tabPut false n true s.strand.syncFailed } s)
  else s

def execSyncFail (n : Nat) (s : State) : Host.Outcome State Fault Refusal := run (doSyncFail n) s

/-- LOS (R97, R111, R112, R797): from UP to LOS, counted and raised; from CDR, ADAPT or SYNC to SEEK. Taut egresses go IDLE. -/
def doLos (n : Nat) (s : State) : State :=
  match s.rx n with
  | .up =>
    let s := leaveUp n .los (s.setBit (Reg.strState n) 8 false)
    stopFeed n (raiseStrand n 0 (s.bump (Reg.strLosCnt n) 1))
  | .cdr => setRx n .seek (s.setBit (Reg.strState n) 8 false)
  | .adapt => setRx n .seek (s.setBit (Reg.strState n) 8 false)
  | .sync => stopFeed n (setRx n .seek (s.setBit (Reg.strState n) 8 false))
  | _ => s

def execLos (n : Nat) (s : State) : Host.Outcome State Fault Refusal := run (doLos n) s

/-- PROTO_LOST (R97, R797): UP to SYNC; raised on the strand, for a braid on its leader. A RAW strand has no protocol alignment to lose. -/
def doProtoLost (n : Nat) (s : State) : State :=
  if s.rx n = .up ∧ s.proto n ≠ 0 then
    let s := leaveUp n .sync s
    if (s.members n).length ≤ 1 then raiseStrand n 3 s else s
  else s

def execProtoLost (n : Nat) (s : State) : Host.Outcome State Fault Refusal := run (doProtoLost n) s

/-- BRAID_SKEW (R104): raised on the leader of a quad-link or Ethernet braid; every member that is UP returns to SYNC. -/
def doBraidSkew (n : Nat) (s : State) : State :=
  let l := s.leader n
  if (s.proto n = 1 ∨ s.proto n = 2) ∧ 1 < (s.members n).length then
    let s := raiseStrand l 5 s
    match (s.members n).find? (fun k => decide (s.rx k = .up)) with
    | some k => leaveUp k .sync s
    | none => s
  else s

def execBraidSkew (n : Nat) (s : State) : Host.Outcome State Fault Refusal := run (doBraidSkew n) s

/-- TX_PLL_LOCKED (R100): the transmitter may leave DISABLED. -/
def doTxPllLocked (n : Nat) (s : State) : State :=
  if s.rate n = 0 ∧ s.bit (Reg.strState n) 7 = false then s
  else earlyCheck (txRefresh n (setStrand { s.strand with pllLocked := tabPut false n true s.strand.pllLocked } s))

def execTxPllLocked (n : Nat) (s : State) : Host.Outcome State Fault Refusal := run (doTxPllLocked n) s

/-! Bights -/

/-- BIGHT_CHANGE (R127, R136, R137): OPENING or CLOSING completes; what its conditions then ask for follows. -/
def doBightChange (k : Nat) (s : State) : State :=
  let st := s.f (Reg.strBightStatus k) 1 0
  if st = 1 ∨ st = 3 then
    let s := s.setF (Reg.strBightStatus k) 1 0 (if st = 1 then 2 else 0)
    bightRefresh k (raiseStrand (bightA k) 7 (s.bump (Reg.strBightCnt k) 1))
  else s

def execBightChange (k : Nat) (s : State) : Host.Outcome State Fault Refusal := run (doBightChange k) s

/-- A write of STR_BIGHT_CTRL (R129, R132). -/
def bightCtrlWrite (k : Nat) (v : Word) (s : State) : State := bightRefresh k (s.setBit (Reg.strBightCtrl k) 0 (bitOf v 0))

/-- OPEN_REQ: a write of STR_BIGHT_CTRL.OPEN_REQ (R132). -/
def doOpenReq (m : Master) (k : Nat) (v : Word) (s : State) : State := gatedWrite m (Reg.strBightCtrl k) (fun _ s => bightCtrlWrite k v s) s

def execOpenReq (m : Master) (k : Nat) (v : Word) (s : State) : Host.Outcome State Fault Refusal := run (doOpenReq m k v) s

/-! Registers of a strand -/

/-- A write of STR_PRBS_CTRL (R115): a 1 written to GEN or CHECK while it cannot run is ignored. An injected error shows in the signal only. A GEN or CHECK bit that was 1 when its
condition ended is kept hidden and shows again when the generator or checker may run again (DESIGN CHOICE, log entry on PRBS: the spec says only that it reads 0 meanwhile). -/
def prbsCtrlWrite (n : Nat) (v : Word) (s : State) : State :=
  let a := Reg.strPrbsCtrl n
  let gen := if bitOf v 4 && !s.prbsGenMay n then s.bit a 4 else bitOf v 4
  let chk := if bitOf v 5 && !s.prbsCheckMay n then s.bit a 5 else bitOf v 5
  txRefresh n (startPrbs n (((s.setF a 3 0 (fld v 3 0)).setBit a 4 gen).setBit a 5 chk))

/-- INJECT: a write of STR_PRBS_CTRL with INJECT (R133). -/
def doInject (m : Master) (n : Nat) (v : Word) (s : State) : State := gatedWrite m (Reg.strPrbsCtrl n) (fun _ s => prbsCtrlWrite n v s) s

def execInject (m : Master) (n : Nat) (v : Word) (s : State) : Host.Outcome State Fault Refusal := run (doInject m n v) s

/-- STR_PRBS_CTRL as it reads (R115): GEN and CHECK read 0 while they cannot run. -/
def State.prbsCtrlWord (s : State) (n : Nat) : Word :=
  let w := s.reg (Reg.strPrbsCtrl n)
  let w := if s.prbsGenMay n then w else setFld w 4 4 0
  if s.prbsCheckMay n then w else setFld w 5 5 0

/-- What a read of STR_PRBS_ERR does (R116, R118): answers the errors since the previous read, copies the bits compared, and restarts both counts. A checker that has not compared
since has counted nothing. -/
def prbsErrBody (n errors bits : Nat) (s : State) : State :=
  let some' := counted n s.now s.strand.prbsSince
  let errors := if some' then errors else 0
  let bits := if some' then bits else 0
  let s := setStrand { s.strand with prbsSince := readCount n s.now (s.prbsChecks n) s.strand.prbsSince } s
  ((s.setReg (Reg.strPrbsBitsLo n) (wd (bits % 0x100000000))).setReg (Reg.strPrbsBitsHi n) (wd (bits / 0x100000000))).emit
    (.read (wd (min 0xFFFFFFFF errors)))

/-- STR_PRBS_ERR_READ (R116): `errors` and `bits` are what the checker counted since the previous read. -/
def doStrPrbsErrRead (m : Master) (n errors bits : Nat) (s : State) : State :=
  gatedRead m (Reg.strPrbsErr n) (fun _ s => prbsErrBody n errors bits s) s

def execStrPrbsErrRead (m : Master) (n errors bits : Nat) (s : State) : Host.Outcome State Fault Refusal := run (doStrPrbsErrRead m n errors bits) s

/-- A write of STR_EYE_CTRL (R119): START while the receiver is UP clears DONE and starts a point. START while a point runs starts that point again (DESIGN CHOICE, log entry on the
eye monitor: the spec does not say what it does). -/
def eyeCtrlWrite (n : Nat) (v : Word) (s : State) : State :=
  let a := Reg.strEyeCtrl n
  let s := s.setReg a (v &&& 0x00F37F3F)
  if bitOf v 31 && decide (s.rx n = .up) then
    setStrand { s.strand with eyeBusy := tabPut false n true s.strand.eyeBusy } (s.setReg (Reg.strEyeResult n) 0)
  else s

/-- START: a write of STR_EYE_CTRL with START (R119). -/
def doStart (m : Master) (n : Nat) (v : Word) (s : State) : State := gatedWrite m (Reg.strEyeCtrl n) (fun _ s => eyeCtrlWrite n v s) s

def execStart (m : Master) (n : Nat) (v : Word) (s : State) : Host.Outcome State Fault Refusal := run (doStart m n v) s

/-- EYE_DONE (R119): the point ends with its errors, saturating in 30 bits. -/
def doEyeDone (n errors : Nat) (s : State) : State :=
  if tabGetD false n s.strand.eyeBusy then
    let s := setStrand { s.strand with eyeBusy := tabPut false n false s.strand.eyeBusy } s
    raiseStrand n 6 (s.setReg (Reg.strEyeResult n) (wd (0x80000000 + min 0x3FFFFFFF errors)))
  else s

def execEyeDone (n errors : Nat) (s : State) : Host.Outcome State Fault Refusal := run (doEyeDone n errors) s

/-- A write of a RW register of a strand's window (R99, R101, R115, R119, R133). -/
def strandWrite (l : Loc) (a : Nat) (v : Word) (s : State) : State :=
  let n := l.i
  if a = Reg.strRxCtrl n then s.setReg a (wd (b2n (bitOf v 0) + 0x100 * max 10 (min 200 (fld v 15 8))))
  else if a = Reg.strRxEq n then
    let s := s.setReg a (merge l.row.mask (s.reg a) v)
    if s.rx n = .adapt then s else eqInForce n s
  else if a = Reg.strTxFir n then
    if fld v 5 0 + fld v 13 8 + fld v 21 16 + fld v 29 24 ≤ 63 then plainWrite l a v s else s
  else if a = Reg.strPrbsCtrl n then prbsCtrlWrite n v s
  else if a = Reg.strEyeCtrl n then eyeCtrlWrite n v s
  else plainWrite l a v s

/-! Display sideband -/

/-- First strand of a display port. -/
def dpLead (dp : Nat) : Nat := 64 + 4 * dp

/-- The port is in DISP mode; it is a SOURCE; it is HDMI (R134). -/
def State.dpOn (s : State) (dp : Nat) : Bool := decide (s.proto (dpLead dp) = 3)
def State.dpSource (s : State) (dp : Nat) : Bool := s.bit (Reg.strCfg (dpLead dp)) 7
def State.dpHdmi (s : State) (dp : Nat) : Bool := s.bit (Reg.strCfg (dpLead dp)) 6

/-- Raise a display sideband event (R137): it has no enable register and posts nothing. -/
def raiseDp (dp b : Nat) (s : State) : State := s.setBit (Reg.strDpSbEvent dp) b true

/-- A SOURCE port starts to read its sink's EDID: `why` 1 on connect, 2 by EDID_RELOAD (R123). A read in progress starts over and stays one on connect. -/
def edidStart (dp why : Nat) (s : State) : State :=
  (setStrand { s.strand with edidWait := tabSet dp (if tabGet dp s.strand.edidWait = some 1 then 1 else why) s.strand.edidWait } s).emit (.edidRead dp)

/-- A write of STR_DP_SB_CTRL (R121, R123, R139): EDID_RELOAD repeats the read while a sink is connected. -/
def dpCtrlWrite (dp : Nat) (v : Word) (s : State) : State :=
  if !s.dpOn dp then s
  else
    let a := Reg.strDpSbCtrl dp
    let pulse := bitOf v 1 && s.bit a 0 && !s.dpSource dp
    let s := (s.setBit a 0 (bitOf v 0)).setBit a 3 (bitOf v 3)
    let s := if bitOf v 2 && s.dpSource dp && s.bit (Reg.strDpSbStatus dp) 0 then edidStart dp 2 s else s
    if pulse then s.emit (.hpdPulse dp) else s

/-- HPD: a write of STR_DP_SB_CTRL.HPD (R121). -/
def doHpd (m : Master) (dp : Nat) (v : Word) (s : State) : State := gatedWrite m (Reg.strDpSbCtrl dp) (fun _ s => dpCtrlWrite dp v s) s

def execHpd (m : Master) (dp : Nat) (v : Word) (s : State) : Host.Outcome State Fault Refusal := run (doHpd m dp v) s

/-- IRQ_HPD_PULSE: a write of STR_DP_SB_CTRL.IRQ_HPD (R121). -/
def doIrqHpdPulse (m : Master) (dp : Nat) (v : Word) (s : State) : State :=
  gatedWrite m (Reg.strDpSbCtrl dp) (fun _ s => dpCtrlWrite dp v s) s

def execIrqHpdPulse (m : Master) (dp : Nat) (v : Word) (s : State) : Host.Outcome State Fault Refusal := run (doIrqHpdPulse m dp v) s

/-- EDID_RELOAD: a write of STR_DP_SB_CTRL.EDID_RELOAD; the read it repeats ends with EDID_READY (R123). -/
def doEdidReload (m : Master) (dp : Nat) (v : Word) (s : State) : State := gatedWrite m (Reg.strDpSbCtrl dp) (fun _ s => dpCtrlWrite dp v s) s

def execEdidReload (m : Master) (dp : Nat) (v : Word) (s : State) : Host.Outcome State Fault Refusal := run (doEdidReload m dp v) s

/-- A write of the EDID window (R122, R137, R139): only in a SINK port. -/
def edidWrite (l : Loc) (a : Nat) (v : Word) (s : State) : State := if s.dpOn l.i && !s.dpSource l.i then s.setReg a v else s

/-- A byte of the EDID window; beyond its 512 bytes the spec states none, and the byte is free. -/
def State.edidByte (s : State) (dp i : Nat) : Byte :=
  if i < 512 then BitVec.ofNat 8 ((s.reg (Reg.strDpEdid dp (i / 4))).toNat >>> (8 * (i % 4)))
  else BitVec.ofNat 8 (Config.freeAt s.draws i)

/-- The bytes an EDID read answers. -/
def State.edidBytes (s : State) (dp segment offset len : Nat) : List Byte :=
  (List.range len).map (fun (k : Nat) => s.edidByte dp (256 * segment + offset + k))

/-- The capability bytes of a sink's DPCD (R121, R145), which the port's configuration gives: HBR3 as the greatest 8b/10b rate, four lanes, and the 128b/132b rates up to the
configured one. Their addresses and codes are PRESUMED from DisplayPort 2.1 (log entry on the display sideband). -/
def State.dpcdCap (s : State) (dp addr : Nat) : Option Nat :=
  let r := s.rate (dpLead dp)
  if addr = 0x0001 ∨ addr = 0x2201 then some 0x1E
  else if addr = 0x0002 ∨ addr = 0x2202 then some 4
  else if addr = 0x2215 then some (if r = 0x09 then 1 else if r = 0x0D then 5 else if r = 0x0E then 7 else 0)
  else none

/-- A byte of a sink's DPCD: a capability, else what was last written there, else a value the spec leaves open. -/
def State.dpcdAt (s : State) (dp addr : Nat) : Byte :=
  match s.dpcdCap dp addr with
  | some v => BitVec.ofNat 8 v
  | none =>
    match tabGet (0x100000 * dp + addr) s.strand.dpcd with
    | some v => BitVec.ofNat 8 v
    | none => Config.dpcdByte dp addr

/-- Write bytes into a sink's DPCD; a capability does not change. -/
def dpcdWrite (dp : Nat) : Nat → List Byte → State → State
  | _, [], s => s
  | addr, b :: l, s => dpcdWrite dp (addr + 1) l (setStrand { s.strand with dpcd := tabSet (0x100000 * dp + addr % 0x100000) b.toNat s.strand.dpcd } s)

/-- A byte of a sink's SCDC: what was last written there, else a value the spec leaves open. -/
def State.scdcAt (s : State) (dp offset : Nat) : Byte :=
  match tabGet (0x100 * dp + offset) s.strand.scdc with
  | some v => BitVec.ofNat 8 v
  | none => Config.scdcByte dp offset

/-- AUX_TRANSACTION (R121): a DisplayPort SINK with AUX_EN replies as the DPCD replier and, for I2C at 0x50, from the EDID window. -/
def doAuxTransaction (dp : Nat) (req : AuxRequest) (s : State) : State :=
  if s.dpOn dp && !s.dpSource dp && !s.dpHdmi dp && s.bit (Reg.strDpSbCtrl dp) 3 then
    match req with
    | .dpcdRead addr len => s.emit (.reply ((List.range len).map (fun (k : Nat) => s.dpcdAt dp ((addr + k) % 0x100000))))
    | .dpcdWrite addr data => (dpcdWrite dp addr data s).emit (.reply [])
    | .edidRead segment offset len => s.emit (.reply (s.edidBytes dp segment offset len))
  else s

def execAuxTransaction (dp : Nat) (req : AuxRequest) (s : State) : Host.Outcome State Fault Refusal := run (unlessStopped (dpLead dp / 8) (doAuxTransaction dp req)) s

/-- DDC_TRANSACTION (R121): an HDMI SINK serves the EDID window at 0x50 and is the SCDC target at 0x54. -/
def doDdcTransaction (dp : Nat) (req : DdcRequest) (s : State) : State :=
  if s.dpOn dp && !s.dpSource dp && s.dpHdmi dp then
    match req with
    | .edidRead segment offset len => s.emit (.reply (s.edidBytes dp segment offset len))
    | .scdcRead offset => s.emit (.reply [s.scdcAt dp (offset % 256)])
    | .scdcWrite offset value => (setStrand { s.strand with scdc := tabSet (0x100 * dp + offset % 256) value.toNat s.strand.scdc } s).emit (.reply [])
  else s

def execDdcTransaction (dp : Nat) (req : DdcRequest) (s : State) : Host.Outcome State Fault Refusal := run (unlessStopped (dpLead dp / 8) (doDdcTransaction dp req)) s

/-- HPD_ASSERT (R123): a SOURCE port sees a connect, and reads the EDID; EDID_READY ends the read. -/
def doHpdAssert (dp : Nat) (s : State) : State :=
  if s.dpOn dp && s.dpSource dp then edidStart dp 1 (raiseDp dp 0 (s.setBit (Reg.strDpSbStatus dp) 0 true)) else s

def execHpdAssert (dp : Nat) (s : State) : Host.Outcome State Fault Refusal := run (doHpdAssert dp) s

/-- HPD_DEASSERT (R123): a disconnect; the link is no longer trained, and a read of the EDID or a training ends. -/
def doHpdDeassert (dp : Nat) (s : State) : State :=
  if s.dpOn dp && s.dpSource dp then
    let s := setStrand { s.strand with edidWait := tabDel dp s.strand.edidWait, training := tabDel dp s.strand.training } s
    raiseDp dp 1 ((s.setBit (Reg.strDpSbStatus dp) 0 false).setBit (Reg.strDpSbStatus dp) 1 false)
  else s

def execHpdDeassert (dp : Nat) (s : State) : Host.Outcome State Fault Refusal := run (doHpdDeassert dp) s

/-- IRQ_HPD (R123): a low pulse of 0.25 to 2 ms at a SOURCE port. -/
def doIrqHpd (dp : Nat) (s : State) : State := if s.dpOn dp && s.dpSource dp then raiseDp dp 2 s else s

def execIrqHpd (dp : Nat) (s : State) : Host.Outcome State Fault Refusal := run (doIrqHpd dp) s

/-- The FRL rate an HDMI SOURCE port asks for through SCDC by its rate code: 3 Gbit/s on three lanes, 6, 8, 10 and 12 on four (PRESUMED from HDMI 2.1, log entry on the display
sideband). -/
def frlRate (rate : Nat) : Option Nat :=
  if rate = 0x10 then some 1 else if rate = 0x11 then some 3 else if rate = 0x12 then some 4 else if rate = 0x09 then some 5 else if rate = 0x13 then some 6 else none

/-- A SOURCE port starts link training; in FRL it first writes the rate to the SCDC of the sink (R123). -/
def trainStart (dp : Nat) (s : State) : State :=
  let s := setStrand { s.strand with training := tabSet dp true s.strand.training } s
  match (if s.dpHdmi dp then frlRate (s.rate (dpLead dp)) else none) with
  | some r => s.emit (.scdcWrite dp 0x31 (BitVec.ofNat 8 r))
  | none => s

/-- EDID_READY (R123): a read in progress ends. The words read fill the window from its start, at most 512 bytes; an EDID that is shorter leaves the rest of the window as it was
(DESIGN CHOICE, log entry on the display sideband: the spec does not say). After a connect, link training starts. -/
def doEdidReady (dp : Nat) (data : List Word) (s : State) : State :=
  match tabGet dp s.strand.edidWait with
  | none => s
  | some why =>
    if s.dpOn dp && s.dpSource dp then
      let s := setStrand { s.strand with edidWait := tabDel dp s.strand.edidWait } s
      let s := raiseDp dp 3 (((List.range 128).zip data).foldl (fun s p => s.setReg (Reg.strDpEdid dp p.1) p.2) s)
      if why = 1 then trainStart dp s else s
    else s

def execEdidReady (dp : Nat) (data : List Word) (s : State) : Host.Outcome State Fault Refusal := run (doEdidReady dp data) s

/-- TRAIN_DONE (R93, R137): LINK_TRAINED with the lanes in use and the rate; lanes not in use go DOWN and DISABLED. -/
def doTrainDone (dp lanes rate : Nat) (s : State) : State :=
  if s.dpOn dp then
    let a := Reg.strDpSbStatus dp
    let n := min 4 (max 1 lanes)
    let s := ((s.setBit a 1 true).setF a 4 2 n).setF a 13 8 rate
    let s := setStrand { s.strand with dpLanes := tabPut 4 dp n s.strand.dpLanes, training := tabDel dp s.strand.training } s
    let s := (List.range 4).foldl (fun s k => if k < n then startRx (dpLead dp + k) s else stopRx (dpLead dp + k) s) s
    raiseDp dp 4 (txRefreshAll ((List.range 4).map (fun (k : Nat) => dpLead dp + k)) s)
  else s

def execTrainDone (dp lanes rate : Nat) (s : State) : Host.Outcome State Fault Refusal := run (doTrainDone dp lanes rate) s

/-- TRAIN_FAIL (R92, R796): training ends without success; the receivers stay where they are. -/
def doTrainFail (dp : Nat) (s : State) : State :=
  if s.dpOn dp then
    let s := setStrand { s.strand with training := tabDel dp s.strand.training } s
    raiseDp dp 5 (s.setBit (Reg.strDpSbStatus dp) 1 false)
  else s

def execTrainFail (dp : Nat) (s : State) : Host.Outcome State Fault Refusal := run (doTrainFail dp) s

/-! STRAND_CONFIG -/

/-- The named strands (R106). -/
def namedStrands (c : StrandEntry) : List Nat := (List.range c.width).map (fun (k : Nat) => c.leader + k)

/-- The first hitch found that uses a strand's receiver, its transmitter, or a port of its decoder or encoder (R27), as an object. A hitch of an ST 2110 receiver's or sender's
essence port does not use the Ethernet strand that its flow names (DESIGN CHOICE, log entry on STRAND_CONFIG: R27 does not say). -/
def State.hitchUsing (s : State) (n : Nat) : Option Nat :=
  let taut := (if (s.hitch (destStrand n)).isSome then [objDest (destStrand n)] else []) ++ (s.fedBy true n).map objDest
  let out := ((s.encoderEos n).filter (fun eo => (s.hitch eo).isSome)).map objDest
  let inn := ((s.decoderEis n).flatMap (fun ei => s.fedBy false ei)).map objDest
  let aud := ((s.wireAmos n).filter (fun a => (s.amoHitch a).isSome)).map objAmo ++ ((s.wireAmis n).flatMap s.amosOf).map objAmo
  (taut ++ out ++ inn ++ aud).head?

/-- A job of STRAND_CONFIG covers a strand. -/
def State.strandBusy (s : State) (n : Nat) : Bool := s.bit (Reg.strState n) 7

/-- The checks of STRAND_CONFIG, in the order of R107. -/
def strandConfigCheck (o : Origin) (c : StrandEntry) (s : State) : Refuse :=
  let ns := namedStrands c
  firstRefusal
    [need (decide (c.width = 1 ∨ c.width = 2 ∨ c.width = 4 ∨ c.width = 8) && decide (c.leader + c.width ≤ 128) && decide (c.proto < 4) &&
        decide (c.rate ≤ 0x15 ∨ c.rate = 0x3E ∨ c.rate = 0x3F)) .badField 0,
     firstRefusal (ns.map (fun n => needOwner o (objStrand n) s)),
     needServing s,
     needZone (objStrand c.leader) s,
     need (strandCfgOk c) .badField 0,
     firstRefusal (ns.map (fun n => need (decide (s.proto n ≠ 3) || (s.members n).all ns.contains) .badField (objStrand n))),
     firstRefusal (ns.map (fun n => need ((s.members n).all ns.contains) .stateConflict (objStrand n))),
     firstRefusal (ns.map (fun n => match s.hitchUsing n with | some h => some (.stateConflict, h) | none => none)),
     firstRefusal (ns.map (fun n => need (!s.strandBusy n) .stateConflict (objStrand n)))]

/-- Steps 1 and 2 of R109: CHANGE_BUSY, transmitters DISABLED, receivers DOWN; a matching configuration completes at once (R108). -/
def strandConfigEffect (o : Origin) (c : StrandEntry) (s : State) : State :=
  if s.strandCfgIs c then completeOk o s
  else
    let ns := namedStrands c
    let s := ns.foldl (fun s n => stopRx n s) s
    let s := ns.foldl (fun s n =>
      let s := s.setBit (Reg.strState n) 7 true
      setStrand { s.strand with pllLocked := tabPut false n false s.strand.pllLocked } s) s
    let s := setStrand { s.strand with jobs := tabSet c.leader ⟨o, c⟩ s.strand.jobs } s
    txRefreshAll ns s

/-- STRAND_CONFIG (R106 to R109). -/
def doStrandConfig (o : Origin) (c : StrandEntry) (s : State) : State :=
  loneCommand o .early (strandConfigCheck o c) (strandConfigEffect o c) s

def execStrandConfig (o : Origin) (c : StrandEntry) (s : State) : Host.Outcome State Fault Refusal := run (doStrandConfig o c) s

/-- A WIR window takes its reset values (R188). -/
def resetWir (n : Nat) (s : State) : State := { s with regs := tabKeep (fun a _ => decide (a < Reg.wirFmt n ∨ Reg.wirFmt n + 0x100 ≤ a)) s.regs }

/-- STRAND_CONFIG_DONE (R109 steps 3 to 5): the new configuration is in STR_CFG and STR_BRAID_MAP, receivers seek, transmitters go IDLE where they may,
and the command completes. The windows of members of a braid that is dissolved take their reset values (R188). -/
def doStrandConfigDone (l : Nat) (s : State) : State :=
  match tabGet l s.strand.jobs with
  | none => s
  | some j =>
    let ns := namedStrands j.cfg
    let apart := ns.filter (fun n => !s.leads n || decide (s.width n ≠ 1 ∧ s.width n ≠ j.cfg.width))
    let s := setStrand { s.strand with jobs := tabDel l s.strand.jobs } s
    let s := apart.foldl (fun s n => resetWir n s) s
    let s := applyStrandCfg j.cfg s
    let s := dpForget j.cfg s
    let s := ns.foldl (fun s n => startRx n (s.setBit (Reg.strState n) 7 false)) s
    completeOk j.origin (wakeUsed (txRefreshAll ns s))

def execStrandConfigDone (l : Nat) (s : State) : Host.Outcome State Fault Refusal := run (doStrandConfigDone l) s

end Sys2Proof.Machine
end

