-- ==== Sys2Proof/Machine/Wire.lean ====
section
/-! DEFINITION. Essences on the wire (chapter 4): formats decoders report (R140 to R156), Ethernet interfaces and what they receive and send (R157 to R163), flows
(R164 to R178), and MACsec associations (R180 to R183). -/

namespace Sys2Proof.Machine

open Sys2Proof

/-- Replace the wire part of the state. -/
def setWire (w : WireState) (s : State) : State := { s with wire := w }

/-- Raise a WIR event (R188). -/
def raiseWir (n b : Nat) (s : State) : State :=
  raiseEn (s.owner (objStrand n)) (objStrand n) (Reg.wirEvent n) (Reg.wirEventEn n) b s

/-! Formats -/

/-- The decoder that strand `n` leads accepts a format. -/
def State.accepts (s : State) (n : Nat) (f : Format) : Bool :=
  match s.proto n with
  | 1 => sdiAccepts (s.rate n) (decide (1 < s.width n)) f
  | 3 => !s.bit (Reg.strCfg n) 7 && dispAccepts f
  | _ => false

/-- The strand leads a decoder that is aligned. -/
def State.decoding (s : State) (n : Nat) : Bool := decide (s.proto n = 1 ∨ s.proto n = 3) && s.leads n && decide (s.rx n = .up)

/-- How many essences a format has (R141). -/
def streamCount (f : Format) : Nat := if f.streams = 0 then 1 else if f.streams = 1 then 2 else 4

/-- The EI ports that a reported format feeds. -/
def State.lockedEis (s : State) (n : Nat) (f : Format) : List Nat :=
  (s.spl.eiBind.filter (fun e => match e.2 with
    | .sdiDec k i => decide (k = n ∧ i < streamCount f)
    | .dispSink dp => decide (64 + 4 * dp = n)
    | _ => false)).map Prod.fst

/-- The taut egresses of a strand remember the last format detected on their ingress (R112). -/
def tautFormats (n : Nat) (f : Format) (s : State) : State :=
  (s.fedBy true n).foldl (fun s d => setStrand { s.strand with tautFormat := tabSet (destNumber d) f s.strand.tautFormat } s) s

/-- A set that waits for a taut splice whose new source, or whose egress's present source, is strand `n`, and whose format was to be other than `f`; with no `f` the format changes to one
not yet known (R210). -/
def State.tautBroken (s : State) (n : Nat) (f : Option Format) (c : ChangeSet) : Bool :=
  c.arms.any (fun a =>
    !a.switched && decide (a.cls = .sdiFrame) && (decide (a.source = some n) || decide (s.hitch a.dest = some n)) &&
    (match f, a.format with
     | some f, some g => !sameWire f g
     | none, _ => true
     | _, none => false))

/-- The format of a taut source changes: splices armed on it roll back with FORMAT_MISMATCH (R210, R263). -/
def tautChange (n : Nat) (f : Option Format) (s : State) : State := endSets (s.tautBroken n f) rbFormat (fun _ => objStrand n) s

/-- An aligned decoder sees a format that is not accepted (R156). -/
def unknownFormat (n : Nat) (s : State) : State := raiseWir n 3 (loseDecoder n s)

/-! Link metadata of a display sink (R154, R187): InfoFrames and SDPs by type, their data from data byte 1 (InfoFrame) or byte 0 (SDP) on. Their layouts are PRESUMED from CTA-861 and
DisplayPort (log entry on InfoFrames). -/

/-- Types of the AVI InfoFrame, of the Dynamic Range and Mastering InfoFrame (its SDP has the same number), and of the VSC SDP. -/
def typeAvi : Nat := 0x82
def typeDrm : Nat := 0x87
def typeVsc : Nat := 0x07

/-- Bits of a byte of a metadata packet. -/
def metaBits (l : List Nat) (i hi lo : Nat) : Nat := l.getD i 0 / 2 ^ lo % 2 ^ (hi - lo + 1)

/-- BT.2020 colour with a transfer function named by the Dynamic Range and Mastering metadata is BT.2100 PQ or HLG. -/
def hdrColour (info : List (Nat × List Byte)) (colour : Nat) : Nat :=
  match tabGet typeDrm info with
  | some d => if colour = 2 then (match metaBits (byteNats d) 0 2 0 with | 2 => 3 | 3 => 4 | _ => 2) else colour
  | none => colour

/-- A format with what an AVI InfoFrame says of it. -/
def aviFormat (d : List Nat) (f : Format) : Format :=
  let y := metaBits d 0 6 5
  let ec := metaBits d 2 6 4
  { f with
    sampling := match y with | 0 => 2 | 1 => 0 | 2 => 1 | _ => 3
    colour := match metaBits d 1 7 6 with | 2 => 1 | 3 => (if ec = 5 ∨ ec = 6 then 2 else 0) | _ => 0
    fullRange := if y = 0 then decide (metaBits d 2 3 2 = 2) else decide (metaBits d 4 7 6 = 1)
    byId := true }

/-- A format with what a VSC SDP says of it. -/
def vscFormat (d : List Nat) (f : Format) : Format :=
  let e := metaBits d 16 7 4
  let c := metaBits d 16 3 0
  { f with
    sampling := match e with | 0 => 2 | 1 => 1 | 2 => 0 | _ => 3
    depth := match metaBits d 17 2 0 with | 1 => 0 | 2 => 1 | 3 => 2 | _ => f.depth
    colour := if e = 0 then (if c = 6 then 2 else 0) else if c = 1 then 1 else if c = 6 ∨ c = 7 then 2 else 0
    fullRange := decide (metaBits d 17 7 7 = 0)
    byId := true }

/-- The format a display sink reports (R154): of its timing, or of its main stream attributes, which is `f`, and its metadata. An HDMI source without AVI InfoFrame sends RGB full range. -/
def linkFormat (hdmi : Bool) (info : List (Nat × List Byte)) (f : Format) : Format :=
  let g := if hdmi then
      match tabGet typeAvi info with
      | some d => aviFormat (byteNats d) f
      | none => { f with sampling := 2, fullRange := true, colour := 0, byId := false }
    else
      match tabGet typeVsc info with
      | some d => vscFormat (byteNats d) f
      | none => f
  { g with colour := hdrColour info g.colour }

/-- The format a decoder reports of what it detects (R153, R154): without payload identification a 1080 PsF signal is taken for interlaced. -/
def State.reported (s : State) (n : Nat) (f : Format) (info : List (Nat × List Byte)) : Format :=
  if s.proto n = 3 then linkFormat (s.bit (Reg.strCfg n) 6) info f
  else if !f.byId && decide (f.scan = 2 ∧ f.height = 1080) then { f with scan := 1 }
  else f

/-- The decoder keeps the Dynamic Range and Mastering metadata of its essence (R187) and notes the audio it finds, whose channels it does not de-embed show UNSUPPORTED (R508, R509). -/
def noteMetadata (n : Nat) (info : List (Nat × List Byte)) (audio : WireAudio) (s : State) : State :=
  let s := setWire { s.wire with
      mastering := (match tabGet typeDrm info with | some d => tabSet n d s.wire.mastering | none => tabDel n s.wire.mastering)
      audio := tabSet n audio s.wire.audio } s
  (s.wireAmis n).foldl (fun s a => s.setBit (Reg.audAmiStatus a) 2 (s.wireUnsupported n)) s

/-- FORMAT_LOCKED (R152 to R154, R156): WIR_FMT shows the format, its essences are present, its audio channels once their clock is tracked (R491). -/
def doFormatLocked (n : Nat) (obs : LockObs) (s : State) : State :=
  let f := s.reported n obs.fmt obs.info
  if !s.decoding n then s
  else if !s.accepts n f then unknownFormat n s
  else
    let s := tautChange n (some f) (if s.bit (Reg.wirFmt n) 0 then loseDecoder n s else s)
    let s := (((s.setReg (Reg.wirFmt n) (fmtWord f)).setBit (Reg.wirFmt n) 0 true).setReg (Reg.wirFmtSize n) (fmtSizeWord f)).setReg
      (Reg.wirFmtRate n) (fmtRateWord f)
    let s := noteMetadata n obs.info obs.audio (tautFormats n f (putFormat n f s))
    let s := (s.lockedEis n f).foldl (fun s ei => setPresent ei true s) s
    raiseWir n 0 (enginesRefresh (refreshDomain (0x40 + n) s))

def execFormatLocked (n : Nat) (obs : LockObs) (s : State) : Host.Outcome State Fault Refusal := run (unlessStopped (n / 8) (doFormatLocked n obs)) s

/-- FORMAT_CHANGE (R155): the essences of a locked decoder become absent, and it detects again. -/
def doFormatChange (n : Nat) (s : State) : State := if s.bit (Reg.wirFmt n) 0 then raiseWir n 1 (loseDecoder n (tautChange n none s)) else s

def execFormatChange (n : Nat) (s : State) : Host.Outcome State Fault Refusal := run (unlessStopped (n / 8) (doFormatChange n)) s

/-- FORMAT_UNKNOWN (R156). -/
def doFormatUnknown (n : Nat) (s : State) : State := if s.decoding n then unknownFormat n s else s

def execFormatUnknown (n : Nat) (s : State) : Host.Outcome State Fault Refusal := run (unlessStopped (n / 8) (doFormatUnknown n)) s

/-- Packets of a field that a decoder carries at most (R186). -/
def ancFieldMax : Nat := 255

/-- ANC_OVERFLOW (R186): a field of a locked decoder held more packets than it carries; those beyond are counted, and the event is raised, once for the field. -/
def doAncOverflow (n packets : Nat) (s : State) : State :=
  if s.decoding n && s.bit (Reg.wirFmt n) 0 && decide (ancFieldMax < packets) then raiseWir n 2 (s.bump (Reg.wirAncOvfCnt n) (packets - ancFieldMax)) else s

def execAncOverflow (n packets : Nat) (s : State) : Host.Outcome State Fault Refusal := run (unlessStopped (n / 8) (doAncOverflow n packets)) s

/-- A write of a RW register of a WIR window: the window of another member of a braid ignores it (R188). -/
def wirWrite (l : Loc) (a : Nat) (v : Word) (s : State) : State := if s.leads l.i then plainWrite l a v s else s

/-! What an interface receives -/

/-- The strand leads an Ethernet interface. -/
def State.isInterface (s : State) (n : Nat) : Bool := decide (n < 128) && decide (s.proto n = 2) && s.leads n

/-- A frame is dropped and counted in ETH_IF_RX_DROP_CNT (R157 to R159). -/
def dropRx (n : Nat) (s : State) : State := s.bump (Reg.ethIfRxDropCnt n) 1

/-- The packet number of a frame from its lower 32 bits, under XPN the nearest to the one expected (PRESUMED from IEEE 802.1AE, log entry on MACsec). -/
def wholePn (xpn : Bool) (next low : Nat) : Nat :=
  if !xpn then low
  else
    let c := next / 0x100000000 * 0x100000000 + low
    if c + 0x80000000 < next then c + 0x100000000 else c

/-- A received frame under MACsec (R180, R182, R183): its bytes as they were before protection, and the state with the association's packet number advanced; none when it fails
validation. A frame without a SecTAG passes unless VALIDATE_STRICT is 1. -/
def macsecOpen (n : Nat) (frame : List Nat) (s : State) : Option (List Nat × State) :=
  if !s.bit (Reg.ethIfCtrl n) 16 then some (frame, s)
  else if !isSecured frame then (if s.bit (Reg.mscCtrl n) 5 then none else some (frame, s))
  else
    match parseSec (s.confOffset n) frame with
    | none => none
    | some f =>
      let k := saKey n true (Config.sciChannel n f.sci) f.an
      match tabGet k s.wire.sas with
      | none => none
      | some a =>
        let pn := wholePn (s.xpn n) a.nextPn f.pn
        let late := s.bit (Reg.mscCtrl n) 6 && decide (pn + (s.reg (Reg.mscReplayWindow n)).toNat < a.nextPn)
        if 16 ≤ Config.sciChannel n f.sci ∨ a.valid = false ∨ late = true then none
        else
          (secOpen (s.slotKey a.key) (secIv (s.xpn n) f.sci pn a.ssci.toNat a.salt) f).map (fun p =>
            (p, setWire { s.wire with sas := tabSet k { a with nextPn := max a.nextPn (pn + 1) } s.wire.sas } s))

/-- A packet's addresses, UDP port and VLAN are those of a flow's path (R164): the source is a filter where the descriptor names one. -/
def pathTakes (p : Nat × Nat × Nat × Nat) (vlan src dst udpPort : Nat) : Bool :=
  decide (p.1 = dst ∧ (p.2.1 = 0 ∨ p.2.1 = src) ∧ p.2.2.1 = udpPort ∧ p.2.2.2 % 0x1000 = vlan % 0x1000)

/-- An enabled receive flow takes UDP packets of an interface with these addresses (R157). -/
def State.flowTakes (s : State) (n vlan src dst udpPort : Nat) : Bool :=
  s.wire.flows.any (fun e => e.2.desc.enable && !e.2.desc.send && (flowPaths e.2.desc).any (fun p => decide (p.1 = n) && pathTakes p.2 vlan src dst udpPort))

/-- An IPv4 packet that reaches an interface (R157, R159, R160): an echo request to it and an IGMP query are answered; a packet of PTP or of an enabled flow is passed on, which
PTP_MESSAGE_RX and FLOW_PACKET_RX carry; every other is dropped. -/
def deliverIp (n : Nat) (f : EthFrame) (p : Ipv4) (s : State) : State :=
  if p.options && decide (p.proto = 2) && decide (p.payload.headD 0 = 0x11) then reportAll n s
  else if p.options || p.fragment then dropRx n s
  else
    match p.proto with
    | 1 =>
      match (if p.dst = s.ifIp n then echoReply p.payload else none) with
      | some m =>
        sendFrame n 3 (ethHead f.src (s.ifMac n) f.tci 0x0800 ++ ipv4 0 (Config.freeAt s.draws 0 % 0x10000) (Config.ipTtl % 256) 1 (s.ifIp n) p.src [] m) s.draw
      | none => dropRx n s
    | 2 => if p.payload.headD 0 = 0x11 then reportAll n s else dropRx n s
    | 17 =>
      let d := beNumAt p.payload 2 2
      if (s.bit (Reg.ethIfCtrl n) 0 && decide (d = 319 ∨ d = 320)) || s.flowTakes n f.tci p.src p.dst d then s else dropRx n s
    | _ => dropRx n s

/-- A frame is for an interface: its address, or a group (R157). -/
def State.frameFor (s : State) (n dst : Nat) : Bool := decide (dst = s.ifMac n) || decide (dst / 0x10000000000 % 2 = 1)

/-- The frame is passed on, answered or dropped (R157). -/
def deliverFrame (n : Nat) (frame : List Nat) (s : State) : State :=
  match parseEth frame with
  | none => dropRx n s
  | some f =>
    if !s.frameFor n f.dst then dropRx n s
    else if f.etherType = 0x0806 then
      match arpReply (s.ifMac n) (s.ifIp n) f with
      | some r => sendFrame n 2 r s
      | none => dropRx n s
    else if f.etherType = 0x0800 then
      match parseIpv4 f.payload with
      | some p => deliverIp n f p s
      | none => dropRx n s
    else dropRx n s

/-- The continuation entries of a frame after its first 40 bytes (R640): the `k`th carries 56 bytes; `fuel` bounds their number. -/
def contEntries : Nat → Nat → List Byte → List EventEntry
  | 0, _, _ => []
  | fuel + 1, k, l => if l.isEmpty then [] else ⟨3, true, false, k, 0, 0, 0, l.take 56⟩ :: contEntries fuel (k + 1) (l.drop 56)

/-- Queue a frame to a tenancy's event ring (R158, R640): the whole frame, or nothing when the ring lacks room or is disabled. -/
def queueFrame (t n : Nat) (frame : List Byte) (s : State) : State :=
  let es := mkEvent s 3 (objIface n) frame.length (frame.take 40) :: contEntries 28 1 (frame.drop 40)
  if !s.bit (Reg.tenEvqCfg t) 0 then dropRx n s
  else if s.bme t && decide (s.evqSize t - 1 < (s.evq t).entries.length + es.length) then dropRx n s
  else es.foldl (fun s e => postEvent t e s) s

/-- An EAPOL or LLDP frame goes to the event ring of the interface's owner, where the interface is set to queue it (R157, R158). -/
def mgmtFrame (n etherType : Nat) (frame : List Byte) (s : State) : State :=
  if s.bit (Reg.ethIfCtrl n) 17 && decide (etherType = 0x888E ∨ etherType = 0x88CC) && decide (frame.length ≤ 1518) then
    match s.owner (objStrand n) with
    | some t => queueFrame t n frame s
    | none => dropRx n s
  else dropRx n s

/-- ETH_FRAME_RX: a frame of an interface that is UP, with what its FEC counted (R117), the receive buffer's overflow (R173), MACsec, which does not protect EAPOL and LLDP (R158,
R182), and its delivery (R157). -/
def doEthFrameRx (n : Nat) (f : RxFrame) (s : State) : State :=
  if !(s.isInterface n && decide (s.rx n = .up)) then s
  else
    let s := if s.hasFec n then s.bump (Reg.strProtoCorr n) f.corrected else s
    let s := s.bump (Reg.strProtoErr n) f.uncorrectable
    let bytes := byteNats f.frame
    let t := ((parseEth bytes).map (fun e => e.etherType)).getD 0
    if f.overflow then s.bump (Reg.ethIfRxOvfCnt n) 1
    else if t = 0x888E ∨ t = 0x88CC then mgmtFrame n t f.frame s
    else
      match macsecOpen n bytes s with
      | none => s.bump (Reg.mscRxDropCnt n) 1
      | some r => deliverFrame n r.1 r.2

def execEthFrameRx (n : Nat) (f : RxFrame) (s : State) : Host.Outcome State Fault Refusal := run (unlessStopped (n / 8) (doEthFrameRx n f)) s

/-- MGMT_RX (R158): EAPOL and LLDP frames go to the event ring of the interface's owner; others, and frames the interface is not set to queue, are dropped (R157). -/
def doMgmtRx (n etherType : Nat) (frame : List Byte) (s : State) : State :=
  if s.isInterface n && decide (s.rx n = .up) then mgmtFrame n etherType frame s else s

def execMgmtRx (n etherType : Nat) (frame : List Byte) (s : State) : Host.Outcome State Fault Refusal := run (unlessStopped (n / 8) (doMgmtRx n etherType frame)) s

/-- IGMP_QUERY (R160): the interface answers with the membership reports of its enabled multicast receive flows. -/
def doIgmpQuery (n : Nat) (s : State) : State := reportAll n s

def execIgmpQuery (n : Nat) (s : State) : Host.Outcome State Fault Refusal := run (unlessStopped (n / 8) (doIgmpQuery n)) s

/-! Flows -/

/-- Raise an event of a flow (R190): it has no enable register and posts nothing. -/
def raiseFlow (key b : Nat) (s : State) : State := s.setBit (flowWin key + 4) b true

/-- The record of a packet of one path: its counter, its UP bit, PATH_CLEAR after a PATH_LOST (R177, R190). -/
def pathSeen (key path : Nat) (f : Flow) (s : State) : State :=
  let b := 2 + path
  let cleared := !s.bit (flowWin key) b && decide ((if path = 0 then f.lastA else f.lastB) ≠ 0)
  let s := (s.bump (flowWin key + 8 + 4 * path) 1).setBit (flowWin key) b true
  if cleared then raiseFlow key 3 s else s

/-! The receive buffer of a flow. Sequence numbers and timestamps go round; of two, one is at or behind the other when the way forward from it is less than half the circle. -/

/-- How many sequence numbers a flow's packets have: those of ST 2110-20 and -40 are extended to 32 bits. -/
def seqSpan (d : FlowDesc) : Nat := if extSeq d then 0x100000000 else 0x10000

/-- The way from sequence number `a` forward to `b`. -/
def seqAhead (m a b : Nat) : Nat := (b + m - a % m) % m

/-- A packet's sequence number, extended where the flow's are. -/
def pktSeq (d : FlowDesc) (p : FlowPacket) : Nat :=
  if extSeq d then beNumAt (byteNats (p.payload.take 2)) 0 2 * 0x10000 + p.seq % 0x10000 else p.seq % 0x10000

/-- The least of sequence numbers that lie ahead of `a`. -/
def firstAhead (m a : Nat) (l : List Nat) : Option Nat :=
  l.foldl (fun b x => match b with | none => some x | some y => if seqAhead m a x < seqAhead m a y then some x else some y) none

/-- Lines of a field of a flow's raster, or of its frame when it is progressive. -/
def flowLines (d : FlowDesc) : Nat := if d.scan = 0 then d.height else ceilDiv d.height 2

/-- The segments of a packet of a video flow that lie in its raster (R149, R169); none when the packet does not. -/
def pktSegs (d : FlowDesc) (payload : List Byte) : Option (List Seg) :=
  match videoSegs ((byteNats payload).drop 2) with
  | none => none
  | some l => if l.all (segInRaster d.sampling d.bits d.width (flowLines d) (decide (d.scan ≠ 0))) then some l else none

/-- A sequence number has been accounted for, received or lost (R174). -/
def accounted (f : Flow) (q : Nat) : Bool := (f.lastSeq.map (fun l => decide (seqAhead (seqSpan f.desc) q l < seqSpan f.desc / 2))).getD false

/-- A timestamp has been released (R168). -/
def releasedTs (f : Flow) (ts : Nat) : Bool := (f.released.map (fun r => tsLe ts r)).getD false

/-- The packets a flow keeps: those not released, and those whose twin may still come in time (R175). -/
def State.keptPkts (s : State) (f : Flow) : List SeenPkt :=
  f.seen.filter (fun x => !accounted f x.seq || !releasedTs f x.ts || decide (s.now ≤ x.time + 1000 * f.desc.skewMax))

/-- A packet is of a flow (R164): its path's addresses, its payload type, and its SSRC unless the descriptor accepts any. -/
def pktOf (d : FlowDesc) (path : Nat) (p : FlowPacket) : Bool :=
  pathTakes (if path = 0 then d.pathA else d.pathB) p.vlan p.src p.dst p.udpPort && decide (p.pt = d.pt ∧ (d.ssrc = 0 ∨ d.ssrc = p.ssrc))

/-- The frame period in ns of the essence a flow's packets belong with (R170): of the video flow at its PORT, else of what is bound to it. -/
def State.ancPeriod (s : State) (d : FlowDesc) : Nat :=
  match (s.eiFormat s.liveReg d.port) with
  | some g => g.rateDen * 1000000000 / max g.rateNum 1
  | none => 0

/-- Ancillary packets that found no frame within one frame period are discarded and counted as lost (R170). -/
def expireAnc (key : Nat) (s : State) : State :=
  match s.flowOf key with
  | none => s
  | some f =>
    let old := f.waiting.filter (fun w => decide (w.2.1 + s.ancPeriod f.desc < s.now))
    (setFlow key { f with waiting := f.waiting.filter (fun w => !decide (w.2.1 + s.ancPeriod f.desc < s.now)) } s).bump (flowWin key + 0x10) old.length

/-- The ancillary packets of a port's flows that carry a frame's timestamp go with it (R170). -/
def attachAnc (ei ts : Nat) (s : State) : State :=
  s.wire.flows.foldl (fun s e =>
    let d := e.2.desc
    if decide (d.kind = 4) && d.enable && !d.send && decide (d.port = ei) then
      let s := expireAnc e.1 s
      match s.flowOf e.1 with
      | none => s
      | some f =>
        let ps := (f.waiting.filter (fun w => decide (w.1 = ts))).flatMap (fun w => w.2.2)
        let s := setFlow e.1 { f with waiting := f.waiting.filter (fun w => decide (w.1 ≠ ts)) } s
        if ps.isEmpty then s else s.emit (.anc (objEi ei) 0 (ps.map ancWords))
    else s) s

/-- A packet that has no twin yet: a flow of ancillary data is present from its first packet on, since no release of R168 makes it so (DESIGN CHOICE, log entry on release). It is discarded outside the raster, or when its line or block has been released, else kept for its release (R168 to R170). -/
def newPkt (key path q : Nat) (f : Flow) (p : FlowPacket) (s : State) : State :=
  let seen := f.seen ++ [⟨q, p.rtp, s.now, path, false, p.payload⟩]
  if f.desc.kind = 0 ∧ (pktSegs f.desc p.payload).isNone then
    let s := (setFlow key { f with seen := seen, mismatchTs := some p.rtp } s).bump (flowWin key + 0x18) 1
    if f.mismatchTs = some p.rtp then s else raiseFlow key 1 s
  else if releasedTs f p.rtp then (setFlow key { f with seen := seen } s).bump (flowWin key + 0x10) 1
  else if f.desc.kind = 4 then
    let l := (byteNats p.payload).drop 2
    expireAnc key (setFlowPresent key f.desc true (setFlow key { f with seen := seen, waiting := f.waiting ++ [(p.rtp, s.now, parseAnc (l.getD 2 0) (l.drop 6))] } s))
  else setFlow key { f with seen := seen } s

/-- The second copy of a packet (R174 to R176): used for nothing; in time it shows that both paths brought it, and a difference is counted. -/
def twinPkt (key q : Nat) (f : Flow) (x : SeenPkt) (p : FlowPacket) (s : State) : State :=
  if x.time + 1000 * f.desc.skewMax < s.now then setFlow key f s
  else
    let s := setFlow key { f with seen := f.seen.map (fun y => if y.seq = q then { y with both := true } else y) } s
    if x.payload ≠ p.payload then s.bump (flowWin key + 0x1C) 1 else s

/-- FLOW_PACKET_RX (R159, R164, R168 to R170, R174 to R177): dropped when unsupported or not of the flow; discarded as the twin of a packet of the other path, and without a further
count when its number has been accounted for. -/
def doFlowPacketRx (key : Nat) (p : FlowPacket) (s : State) : State :=
  match s.flowOf key with
  | none => s
  | some f =>
    let path := if p.path = 1 ∧ f.desc.paired = true then 1 else 0
    let ifc := if path = 0 then f.desc.ifA else f.desc.ifB
    if !f.desc.enable ∨ f.desc.send ∨ s.stopped (ifc / 8) then s
    else if p.unsupported || !pktOf f.desc path p then dropRx ifc s
    else
      let s := pathSeen key path f s
      let t := max s.now 1
      let f' := { f with lastPacket := t, lastA := if path = 0 then t else f.lastA, lastB := if path = 1 then t else f.lastB, seen := s.keptPkts f }
      let q := pktSeq f.desc p
      match f'.seen.find? (fun x => decide (x.seq = q)) with
      | some x => if x.path = path then setFlow key f' s else twinPkt key q f' x p s
      | none => if accounted f' q then setFlow key f' s else newPkt key path q f' p s

def execFlowPacketRx (key : Nat) (p : FlowPacket) (s : State) : Host.Outcome State Fault Refusal := run (unlessStopped (flowZone key) (doFlowPacketRx key p)) s

/-- The second port of a level B-DS flow (R150) follows the first. -/
def setBds (d : FlowDesc) (f : Option Format) (v : Bool) (s : State) : State :=
  if d.kind = 1 then
    match f with
    | some g => if g.streams = 1 then setPresent (d.port + 1) v s else s
    | none => s
  else s

/-! Releases -/

/-- A release accounts for the packets up to the last of its frame or block: what no path brought counts in LOST, what one path of two brought in RECOV (R174). `es` are its packets. -/
def accountPkts (key ts : Nat) (f : Flow) (es : List SeenPkt) (s : State) : State × Flow :=
  let m := seqSpan f.desc
  let seqs := es.map (fun x => x.seq)
  let first := (firstAhead m (seqs.headD 0 + m / 2) seqs).getD 0
  let base := match f.lastSeq with
    | some l => if seqAhead m l first < m / 2 then l else (first + m - 1) % m
    | none => (first + m - 1) % m
  let later := (f.seen.filter (fun x => !tsLe x.ts ts && !accounted f x.seq)).map (fun x => x.seq)
  let hi := match firstAhead m base later with
    | some q => (q + m - 1) % m
    | none => seqs.foldl (fun b x => if seqAhead m base b < seqAhead m base x then x else b) first
  let total := seqAhead m base hi
  let got := f.seen.filter (fun x => decide (1 ≤ seqAhead m base x.seq ∧ seqAhead m base x.seq ≤ total))
  let s := s.bump (flowWin key + 0x10) (total - got.length)
  let s := if f.desc.paired then s.bump (flowWin key + 0x14) (got.filter (fun x => !x.both)).length else s
  let f := { f with lastSeq := some hi, released := some ts }
  (s, { f with seen := s.keptPkts f })

/-- Rows of a field: each line is laid over the one before, so that what did not come is the last line received (R168). -/
def fieldRows (lay : Nat → List Px → List Px) : Nat → Nat → List Px → List (List Px)
  | 0, _, _ => []
  | k + 1, y, last => let r := lay y last; r :: fieldRows lay k (y + 1) r

/-- The flows of the group of four quadrants that a flow belongs to (R148), by its place: their ports are consecutive (DEDUCED from R142, log entry on quadrants). -/
def State.quadMates (s : State) (d : FlowDesc) : List Flow :=
  (s.wire.flows.filter (fun e =>
    let g := e.2.desc
    decide (flowClass g.kind = 0) && g.enable && !g.send && decide (g.quad ≠ 0) && decide (g.port + d.quad = d.port + g.quad))).map Prod.snd

/-- A quadrant matches the first quadrant of its group that runs: format, rate and RTP timestamps (R148). -/
def State.quadMatches (s : State) (d : FlowDesc) (ts : Nat) : Bool :=
  if d.quad = 0 then true
  else
    match (s.quadMates d).foldl (fun (b : Option Flow) f =>
        if f.lastPacket = 0 then b else match b with | none => some f | some x => if f.desc.quad < x.desc.quad then some f else some x) none with
    | none => true
    | some r =>
      decide (r.desc.quad = d.quad) ||
      (decide (flowFormat r.desc = flowFormat d) && (decide (r.released = some ts) || r.seen.any (fun x => decide (x.ts = ts))))

/-- A frame of a video flow is released (R148, R149, R168, R170): its lines leave at the flow's port, with the ancillary packets of its timestamp. Before any line has come, what fills
is a free value. -/
def releaseFrame (key ts : Nat) (f : Flow) (es : List SeenPkt) (s : State) : State :=
  let d := f.desc
  if !s.quadMatches d ts then setFlowPresent key d false (setFlow key f s)
  else
    let segs := es.flatMap (fun x => (pktSegs d x.payload).getD [])
    let start := if f.lastRow.isEmpty then
        (List.range d.width).map (fun (x : Nat) => (Config.freeAt s.draws (3 * x) % 2 ^ d.bits, Config.freeAt s.draws (3 * x + 1) % 2 ^ d.bits, Config.freeAt s.draws (3 * x + 2) % 2 ^ d.bits))
      else f.lastRow
    let rows := fieldRows (fun y last => (segs.filter (fun g => decide (g.line = y))).foldl (laySeg d.sampling d.bits) last) (flowLines d) 0 start
    let field2 := segs.any (fun g => g.field2)
    let s := setFlow key { f with lastRow := rows.getLastD start } s.draw
    let s := (rows.zipIdx).foldl (fun s r => s.emit (.line (objEi d.port) (if d.scan = 0 then r.2 else 2 * r.2 + b2n field2) r.1)) s
    setFlowPresent key d true (attachAnc d.port ts s)

/-- The samples of a channel in an audio payload, with their V bits (R166, R482): in the most significant bits. -/
def channelSamples (d : FlowDesc) (c : Nat) (l : List Nat) : List (Int × Bool) :=
  let b := if d.kind = 3 then 4 else d.abits / 8
  (List.range (l.length / (b * max d.channels 1))).map (fun (i : Nat) =>
    let w := (l.drop ((i * d.channels + c) * b)).take b
    if d.kind = 3 then (sampleOf (w.drop 1), decide (w.headD 0 % 2 = 1)) else (sampleOf w * 2 ^ (24 - d.abits), false))

/-- The channel status of a channel of ST 2110-31 (R483, R510): its C bits from the first frame of a block on, and a block that was completed. -/
def channelStatus (d : FlowDesc) (c : Nat) (l : List Nat) (bits : List Bool) : List Bool × Option (List Byte) :=
  (List.range (l.length / (4 * max d.channels 1))).foldl (fun (acc : List Bool × Option (List Byte)) (i : Nat) =>
    let w := l.getD ((i * d.channels + c) * 4) 0
    let begins := decide (w / 32 % 2 = 1) || (decide (c % 2 = 1) && decide (l.getD ((i * d.channels + c - 1) * 4) 0 / 32 % 2 = 1))
    let b := if begins then [decide (w / 4 % 2 = 1)] else if acc.1.isEmpty then [] else acc.1 ++ [decide (w / 4 % 2 = 1)]
    if b.length = 192 then ([], some (natBytes ((chunksN 8 24 b).map (fun k => bitsNum k.reverse)))) else (b, acc.2)) (bits, none)

/-- One channel of an audio block leaves at its input: silence for what is missing before it, and 96 kHz through the 2:1 filter (R166, R168, R511). -/
def releaseChannel (key c gap : Nat) (l : List Nat) (s : State) : State :=
  match s.flowOf key with
  | none => s
  | some f =>
    let d := f.desc
    let x := List.replicate gap (0, false) ++ channelSamples d c l
    let y := decimate (tabGetD filterStart c f.filters) (x.map Prod.fst)
    let out := if d.arate = 1 then (y.1.zipIdx).map (fun v => (v.1, (x.getD (2 * v.2) (0, false)).2 || (x.getD (2 * v.2 + 1) (0, false)).2)) else x
    let st := channelStatus d c l ((f.partials.getD c []).map Prod.snd)
    let s := setFlow key { f with
        filters := if d.arate = 1 then tabSet c y.2 f.filters else f.filters
        partials := if d.kind = 3 then (List.range d.channels).map (fun (k : Nat) => if k = c then st.1.map (fun b => (0, b)) else f.partials.getD k []) else [] } s
    let s := if d.kind = 3 then (match st.2 with | some b => setAmiStatus (d.port + c) b s | none => s) else s
    let ami := d.port + c
    (setAud { s.aud with supply := tabSet ami (tabGetD [] ami s.aud.supply ++ out) s.aud.supply } s).emit (.ami ami out)

/-- A block of an audio flow is released (R168): `before` is the timestamp of the block before it. -/
def releaseBlock (key ts : Nat) (before : Option Nat) (f : Flow) (es : List SeenPkt) (s : State) : State :=
  let d := f.desc
  let l := byteNats ((es.head?.map (fun x => x.payload)).getD [])
  let n := (channelSamples d 0 l).length
  let gap := match before with
    | some b => let g := (ts + 0x100000000 - (b + n) % 0x100000000) % 0x100000000; if g < 0x80000000 then g else 0
    | none => 0
  let s := (List.range d.channels).foldl (fun s c => releaseChannel key c gap l s) (setFlow key f s)
  setFlowPresent key d true s

/-- What an ST 2022-6 receiver has detected (R150, R165): its essence is present in its format; level B-DS needs the next receiver and port too. -/
def release2022 (key : Nat) (fmt : Option Format) (f : Flow) (s : State) : State :=
  let d := f.desc
  let s := setFlow key f s
  let fk := 0x1000 + d.flow
  let old := tabGet fk s.wire.formats
  let s := if old.isSome ∧ fmt ≠ old then setBds d old false (setFlowPresent key d false (dropFormat fk s)) else s
  match fmt with
  | none => s
  | some g =>
    let second := s.flowOf (flowKey 0 (d.flow + 1))
    let free := !((second.map (fun x => x.desc.enable && !x.desc.send)).getD false) && decide (d.flow + 1 < 512)
    if (hdFormat g || sdiAccepts 5 false g) && (decide (g.streams ≠ 1) || free) then setBds d fmt true (setFlowPresent key d true (putFormat fk g s)) else s

/-- FLOW_RELEASE (R168, R174): the frame or block of a timestamp is released at its time, once; a flow of ancillary data discards what found no frame (R170). -/
def doFlowRelease (key ts : Nat) (fmt : Option Format) (s : State) : State :=
  match s.flowOf key with
  | none => s
  | some f =>
    if !f.desc.enable ∨ f.desc.send ∨ f.lastPacket = 0 then s
    else if f.desc.kind = 4 then expireAnc key s
    else
      let es := f.seen.filter (fun x => if f.desc.kind = 1 then tsLe x.ts ts && !releasedTs f x.ts else decide (x.ts = ts))
      if es.isEmpty || releasedTs f ts || !s.releaseDue f.desc ts then s
      else
        let (s, f') := accountPkts key ts f es s
        match f.desc.kind with
        | 0 => releaseFrame key ts f' es s
        | 1 => release2022 key fmt f' s
        | _ => releaseBlock key ts f.released f' es s

def execFlowRelease (cls flow ts : Nat) (fmt : Option Format) (s : State) : Host.Outcome State Fault Refusal :=
  run (unlessStopped (flowZone (flowKey cls flow)) (doFlowRelease (flowKey cls flow) ts fmt)) s

/-- FLOW_LOST (R169): a present receive flow has had no packet for long enough. What was to be released of it is over. -/
def doFlowLost (key : Nat) (s : State) : State :=
  match s.flowOf key with
  | none => s
  | some f =>
    if f.desc.enable && !f.desc.send && s.bit (flowWin key) 1 then
      let s := setFlow key { f with released := none, lastSeq := none, seen := [] } s
      raiseFlow key 0 (setBds f.desc (tabGet (0x1000 + f.desc.flow) s.wire.formats) false (setFlowPresent key f.desc false s))
    else s

def execFlowLost (key : Nat) (s : State) : Host.Outcome State Fault Refusal := run (unlessStopped (flowZone key) (doFlowLost key)) s

/-- PATH_LOST (R177): the path's UP bit clears. -/
def doPathLost (key path : Nat) (s : State) : State :=
  if path ≤ 1 ∧ s.bit (flowWin key) (2 + path) = true then raiseFlow key 2 (s.setBit (flowWin key) (2 + path) false) else s

def execPathLost (key path : Nat) (s : State) : Host.Outcome State Fault Refusal := run (unlessStopped (flowZone key) (doPathLost key path)) s

/-- A packet of a send flow as RTP (R164, R168): with an extended sequence number in ST 2110-20 and -40. -/
def flowRtp (d : FlowDesc) (seq : Nat) (p : OutPkt) : List Nat :=
  rtp p.marker d.pt seq p.ts d.ssrc ((if extSeq d then beBytes 2 (seq / 0x10000 % 0x10000) else []) ++ p.payload)

/-- FLOW_PACKET_TX (R171, R178): an enabled send flow emits the next packet of its pacing buffer, identically on both paths when PAIRED; each path counts it (R190). -/
def doFlowPacketTx (key : Nat) (s : State) : State :=
  match s.flowOf key with
  | none => s
  | some f =>
    match f.desc.enable && f.desc.send, f.queue with
    | true, p :: rest =>
      let s := setFlow key { f with queue := rest, seqOut := f.seqOut + 1, sentPackets := f.sentPackets + 1 } s
      ((flowPaths f.desc).zipIdx).foldl (fun s e =>
        let a := e.1.2
        (sendIp e.1.1 5 a.2.2.2 f.desc.dscp a.2.1 a.1 17 [] (udp Config.udpSource a.2.2.1 (flowRtp f.desc f.seqOut p)) (s.bump (flowWin key + 8 + 4 * e.2) 1)).draw) s
    | _, _ => s

def execFlowPacketTx (key : Nat) (s : State) : Host.Outcome State Fault Refusal := run (unlessStopped (flowZone key) (doFlowPacketTx key)) s

/-! FLOW_SET -/

/-- Fields of a descriptor with no reserved value (R164 to R167), and a KIND that has the direction (R150, R151). -/
def flowFieldsOk (d : FlowDesc) : Bool :=
  decide (d.rsvd = 0 ∧ d.kind ≤ 4 ∧ d.quad ≤ 4 ∧ 96 ≤ d.pt ∧ d.pt ≤ 127) && !(decide (d.kind = 1) && d.send) &&
  decide (d.flow < (if flowClass d.kind = 1 then 4096 else 512)) && decide (d.quad = 0 ∨ d.kind = 0) &&
  decide (d.ifA < 128) && (!d.paired || decide (d.ifB < 128 ∧ 100 ≤ d.skewMax ∧ d.skewMax ≤ 10000)) &&
  decide (d.pathA.2.2.2 / 0x1000 % 2 = 0) && (!d.paired || decide (d.pathB.2.2.2 / 0x1000 % 2 = 0)) &&
  (d.send || decide (100 ≤ d.depth ∧ d.depth ≤ 20000)) &&
  decide (d.port + (if flowClass d.kind = 1 then d.channels else 1) ≤ (if flowClass d.kind = 1 then 8192 else 1024))

/-- The objects of a flow's PORT (R164). -/
def flowPorts (d : FlowDesc) : List Nat :=
  match flowClass d.kind with
  | 1 => (List.range d.channels).map (fun (c : Nat) => if d.send then objAmo (d.port + c) else objAmi (d.port + c))
  | _ => [if d.send then objDest d.port else objEi d.port]

/-- MEDIA is within R147, R165 and R166. A flow of KIND 1 uses no MEDIA (R165) and is refused above 3 Gbit/s (R151): it is refused where the MEDIA it gives all the same is of such a
format (DESIGN CHOICE, log entry on ST 2022-6). And the PORT of a video or audio flow is one that the rig image binds to it (R29). -/
def State.flowMediaOk (s : State) (d : FlowDesc) : Bool :=
  match d.kind with
  | 0 =>
    decide (1 ≤ d.width ∧ d.width ≤ 4096 ∧ 1 ≤ d.height ∧ d.height ≤ 2160 ∧ d.rateDen ≠ 0 ∧ 24000 * d.rateDen ≤ 1001 * d.rateNum ∧ d.rateNum ≤ 60 * d.rateDen) &&
    decide (d.sampling ≤ 2 ∧ (d.bits = 8 ∨ d.bits = 10 ∨ d.bits = 12) ∧ d.colour ≤ 4 ∧ d.range ≤ 1 ∧ d.scan ≤ 2 ∧ d.pm ≤ 1 ∧ d.tp ≤ 2) && bound
  | 1 => bound && !over3G
  | 2 =>
    decide ((d.abits = 16 ∨ d.abits = 24) ∧ 1 ≤ d.channels ∧
      ((d.arate = 0 ∧ d.ptime = 1000 ∧ d.channels ≤ 8) ∨ (d.arate = 0 ∧ d.ptime = 125 ∧ d.channels ≤ 64) ∨ (d.arate = 1 ∧ d.ptime = 1000 ∧ d.channels ≤ 4))) && boundAudio
  | 3 =>
    decide (d.arate = 0 ∧ (d.abits = 16 ∨ d.abits = 24) ∧ (d.channels = 2 ∨ d.channels = 4 ∨ d.channels = 6 ∨ d.channels = 8) ∧ (d.ptime = 1000 ∨ d.ptime = 125)) && boundAudio
  | _ => true
where
  over3G : Bool := decide (2048 < d.width ∨ 1080 < d.height ∨ 60 * d.rateDen < d.rateNum)
  bound : Bool := if d.send then decide (s.consumer d.port = some (.tx2110 d.flow)) else decide (s.producer d.port = some (.rx2110 d.flow))
  boundAudio : Bool := (List.range d.channels).all (fun c =>
    decide (tabGet (d.port + c) (if d.send then s.aud.amoBind else s.aud.amiBind) = some (.flow d.flow c)))

/-- The flow's PORT is in a hitch (R167). -/
def State.flowHitched (s : State) (d : FlowDesc) : Bool :=
  match flowClass d.kind with
  | 1 => (List.range d.channels).any (fun c => if d.send then (s.amoHitch (d.port + c)).isSome else !(s.amosOf (d.port + c)).isEmpty)
  | _ => if d.send then (s.hitch d.port).isSome else !(s.fedBy false d.port).isEmpty

/-- The receiver of an enabled video flow is the second one of a level B-DS flow (R150): refused with STATE_CONFLICT, since the spec names no status (DESIGN CHOICE, log entry on
ST 2022-6). -/
def State.takenByBds (s : State) (d : FlowDesc) : Bool :=
  decide (flowClass d.kind = 0) && d.enable && !d.send && decide (0 < d.flow) &&
  ((tabGet (0x1000 + (d.flow - 1)) s.wire.formats).map (fun g => decide (g.streams = 1))).getD false

/-- The flow table as a set's pending descriptors would leave it. -/
def State.withFlows (s : State) (set : Option ChangeSet) : State :=
  match set with
  | none => s
  | some c => c.ops.foldl (fun s op => match op with | .flow k d => setFlow k (flowStart d) s | _ => s) s

/-- A send flow keeps within the admission of its interfaces (R173): 95 % of each MAC rate. -/
def State.admitsFlow (s : State) (key : Nat) (d : FlowDesc) : Bool :=
  (flowPaths d).all (fun p => decide (100 * (s.loadWithout p.1 (some key) + s.rateOn p.1 d) ≤ 95 * s.macRate p.1))

/-- The checks of FLOW_SET, in the order of R167, with R163. -/
def flowSetCheck (o : Origin) (d : FlowDesc) (set : Option ChangeSet) (s : State) : Refuse :=
  let key := flowKey (flowClass d.kind) d.flow
  let ifs := (flowPaths d).map Prod.fst
  let may c := need (s.mayUse o.tenancy c) .notOwner c
  firstRefusal
    [need (flowFieldsOk d) .badField (flowObj key),
     may (flowObj key),
     firstRefusal ((flowPorts d).map may),
     firstRefusal (ifs.map (fun i => may (objStrand i))),
     needServing s,
     needZone (flowObj key) s,
     firstRefusal (ifs.map (fun i => needZone (objStrand i) s)),
     need (ifs.all s.isInterface && s.flowMediaOk d) .badField (flowObj key),
     need (decide (d.kind ≠ 0) || pixelRateOk (flowFormat d)) .formatMismatch (flowObj key),
     need (match s.flowOf key with
       | some f => decide ({ f.desc with enable := d.enable } = d) || (!s.flowHitched f.desc && !s.flowHitched d)
       | none => !s.flowHitched d) .stateConflict (flowObj key),
     need (!s.takenByBds d) .stateConflict (flowObj key),
     need (!d.send || ifs.all (fun i => (s.members i).all (fun k => !s.tautHeld k))) .stateConflict (flowObj key),
     need (!d.send || !d.enable || (s.withFlows set).admitsFlow key d) .noResource (flowObj key)]

/-- The object a refused descriptor read names: none is known. A read that fails is a FETCH_FAULT. -/
def flowSetRefuse (o : Origin) (descriptor : Option (List Byte)) (set : Option ChangeSet) (s : State) : Refuse :=
  match descriptor with
  | none => some (.fetchFault, 0)
  | some l => flowSetCheck o (parseFlow l) set s

/-- FLOW_SET alone: the descriptor takes effect at once (R164). -/
def flowSetEffect (o : Origin) (descriptor : Option (List Byte)) (s : State) : State :=
  match descriptor with
  | none => s
  | some l => completeOk o (applyFlow (flowKey (flowClass (parseFlow l).kind) (parseFlow l).flow) (parseFlow l) s)

/-- FLOW_SET (R164 to R167), which an atomic batch may hold. -/
def doFlowSet (o : Origin) (descriptor : Option (List Byte)) (s : State) : State :=
  hostCommand o true .working (flowSetRefuse o descriptor) (flowSetEffect o descriptor)
    (fun id s => match descriptor with
      | some l => addOp id (.flow (flowKey (flowClass (parseFlow l).kind) (parseFlow l).flow) (parseFlow l)) s
      | none => s) s

def execFlowSet (o : Origin) (descriptor : Option (List Byte)) (s : State) : Host.Outcome State Fault Refusal := run (doFlowSet o descriptor) s

/-! ETH_SEND_FRAME -/

/-- A big-endian field of two bytes in a frame. -/
def beAt (l : List Byte) (off : Nat) : Nat := (l.getD off 0).toNat * 256 + (l.getD (off + 1) 0).toNat

/-- The length and EtherType of a frame are allowed (R162); of a frame that could not be read, its length alone is judged. -/
def sendFrameOk (len : Nat) (frame : Option (List Byte)) : Bool :=
  match frame with
  | none => decide (14 ≤ len ∧ len ≤ 1518)
  | some l =>
    if beAt l 12 = 0x8100 then decide (18 ≤ len ∧ len ≤ 1518 ∧ (beAt l 16 = 0x888E ∨ beAt l 16 = 0x88CC))
    else decide (14 ≤ len ∧ len ≤ 1514 ∧ (beAt l 12 = 0x888E ∨ beAt l 12 = 0x88CC))

/-- The checks of ETH_SEND_FRAME, in the order of R162. -/
def ethSendFrameCheck (o : Origin) (n len : Nat) (frame : Option (List Byte)) (s : State) : Refuse :=
  firstRefusal
    [need (s.isInterface n && sendFrameOk len frame) .badField (objIface n),
     needOwner o (objStrand n) s,
     needServing s,
     need (s.mayTransmit n && (tabGet n s.wire.sending).isNone) .stateConflict (objIface n),
     needZone (objStrand n) s,
     need frame.isSome .fetchFault 0]

/-- The frame, padded to 60 bytes before its FCS, leaves; the command completes with FRAME_SENT. -/
def ethSendFrameEffect (o : Origin) (n len : Nat) (frame : Option (List Byte)) (s : State) : State :=
  let data := (frame.getD []).take len
  sendFrame n 0 (byteNats data) (setWire { s.wire with sending := tabSet n o s.wire.sending } s)

/-- ETH_SEND_FRAME (R162). -/
def doEthSendFrame (o : Origin) (n len : Nat) (frame : Option (List Byte)) (s : State) : State :=
  loneCommand o .early (ethSendFrameCheck o n len frame) (ethSendFrameEffect o n len frame) s

def execEthSendFrame (o : Origin) (n len : Nat) (frame : Option (List Byte)) (s : State) : Host.Outcome State Fault Refusal :=
  run (doEthSendFrame o n len frame) s

/-- FRAME_SENT (R162): the last bit has left the pins; the command completes. -/
def doFrameSent (n : Nat) (s : State) : State :=
  match tabGet n s.wire.sending with
  | none => s
  | some o => completeOk o (setWire { s.wire with sending := tabDel n s.wire.sending } s)

def execFrameSent (n : Nat) (s : State) : Host.Outcome State Fault Refusal := run (doFrameSent n) s

/-! MACsec -/

/-- The key length a cipher suite takes (R714): 128 bits for GCM-AES-128 and GCM-AES-XPN-128. -/
def State.cipherLen (s : State) (n : Nat) : Nat := if s.f (Reg.mscCtrl n) 1 0 % 2 = 0 then 1 else 2

/-- The checks of MACSEC_SA_SET (R180, R181, R714). -/
def macsecSaSetCheck (o : Origin) (n : Nat) (receive : Bool) (channel an key : Nat) (pn : DWord) (s : State) : Refuse :=
  firstRefusal
    [need (s.isInterface n && decide (channel < (if receive then 16 else 1) ∧ an < 4 ∧ key < 256) && (s.xpn n || decide (pn.toNat < 0x100000000))) .badField (objIface n),
     needOwner o (objStrand n) s,
     need ((attrUsers (s.keySlot key).attr).testBit o.tenancy) .notOwner (objKey key),
     needServing s,
     needZone (objStrand n) s,
     need (decide (attrUse (s.keySlot key).attr = (if receive then useDecrypt else useEncrypt) ∧ attrLen (s.keySlot key).attr = s.cipherLen n)) .keyUse (objKey key)]

/-- The association is installed; it holds a reference to its slot (R714). A transmit association whose packet number is past the threshold has reached it (R182). -/
def macsecSaSetEffect (o : Origin) (n : Nat) (receive : Bool) (channel an key : Nat) (pn : DWord) (ssci : Word) (salt : Nat) (s : State) : State :=
  let k := saKey n receive channel an
  let old := tabGet k s.wire.sas
  let s := setWire { s.wire with sas := tabSet k ⟨key, pn.toNat, ssci, salt, true⟩ s.wire.sas } s
  let s := if !receive && decide (s.pnThresh n ≤ pn.toNat) then raisePnLimit n s else s
  let s := match old with | some a => refreshSlot a.key s | none => s
  completeOk o (refreshSlot key s)

/-- MACSEC_SA_SET (R181). -/
def doMacsecSaSet (o : Origin) (n : Nat) (receive : Bool) (channel an key : Nat) (pn : DWord) (ssci : Word) (salt : Nat) (s : State) : State :=
  loneCommand o .working (macsecSaSetCheck o n receive channel an key pn) (macsecSaSetEffect o n receive channel an key pn ssci salt) s

def execMacsecSaSet (o : Origin) (n : Nat) (receive : Bool) (channel an key : Nat) (pn : DWord) (ssci : Word) (salt : Nat) (s : State) :
    Host.Outcome State Fault Refusal := run (doMacsecSaSet o n receive channel an key pn ssci salt) s

/-! Registers of an interface -/

/-- An enabled flow uses an interface (R161). -/
def State.flowsUse (s : State) (n : Nat) : Bool :=
  s.wire.flows.any (fun e => e.2.desc.enable && ((flowPaths e.2.desc).map Prod.fst).contains n)

/-- A write of an ETH_IF register (R161, R191): addresses wait for the flows to be disabled; MACSEC_EN counts in the admitted load. -/
def ethIfWrite (l : Loc) (a : Nat) (v : Word) (s : State) : State :=
  if a = Reg.ethIfCtrl l.i then refreshLoad l.i (plainWrite l a v s)
  else if s.flowsUse l.i then s
  else plainWrite l a v s

/-- The threshold of packet numbers is written: PN_LIMIT is raised where it comes down to a transmit association's number (R182). -/
def pnThreshWritten (n old : Nat) (s : State) : State :=
  let met := (List.range 4).any (fun an =>
    ((tabGet (saKey n false 0 an) s.wire.sas).map (fun a => a.valid && decide (a.nextPn < old ∧ s.pnThresh n ≤ a.nextPn))).getD false)
  if met then raisePnLimit n s else s

/-- A write of a MSC register (R191): CIPHER and CONF_OFFSET do not change while MACSEC_EN is 1. -/
def mscWrite (l : Loc) (a : Nat) (v : Word) (s : State) : State :=
  if a = Reg.mscCtrl l.i ∧ s.bit (Reg.ethIfCtrl l.i) 16 = true then plainWrite l a (setFld v 3 0 (s.f a 3 0)) s
  else if a = Reg.mscPnThresh l.i then pnThreshWritten l.i (s.pnThresh l.i) (plainWrite l a v s)
  else plainWrite l a v s

end Sys2Proof.Machine
end

