-- ==== Sys2Proof/Machine/Fids.lean ====
section
/-! DEFINITION. Fids (chapter 13): cold start and images (R590, R591), in-place update and restart (R592, R593), hooks' commands and times (R594 to R608), and traps (R585, R600).
The instructions are in Program.lean. -/

namespace Sys2Proof.Machine

open Sys2Proof

/-- Raise an event of a fid to the rig owner (R585, R607). -/
def raiseFid (f b : Nat) (s : State) : State := raiseEn (some s.rigOwner) (objFid f) (Reg.fidEvent f) (Reg.fidEventEn f) b s

/-- The local address of the bank in use (R580). -/
def State.bankBase (s : State) (f : Nat) : Nat := if s.bit (Reg.fidStatus f) 2 then 0x4000 else 0

/-- The words of code and data. -/
def wordNats (l : List Word) : List Nat := l.map (fun w => w.toNat)

/-- A cold start (R591, R676): code in bank 0, data from 0x8000, the rest of local memory zero, hook controls 0, the system thread at ENTRY with UPDATED 0. -/
def coldStart (f : Nat) (i : FidImage) (s : State) : State :=
  let s := zeroFidWords f 0 0x10000 s
  let s := setFidWords f 0 (wordNats i.code) s
  let s := setFidWords f 0x8000 (wordNats i.data) s
  let s := if takesHooks f then (List.range 4).foldl (fun s t =>
      let h := hookNo f
      let s := (s.setReg (Reg.fidHookCtrl h t) 0).setF (Reg.fidHookStatus h t) 1 0 0
      { s with fid := { s.fid with ticks := tabPut 0 (4 * f + t) 0 s.fid.ticks, held := tabDel (4 * f + t) s.fid.held } }) s else s
  let s := setFid f { fidInitial with sys := { threadInit with pc := i.entry }, entry := i.entry, cycle := s.now } s
  let s := s.setReg (Reg.fidStatus f) (wd 1)
  masterReset (.fid f) 0 (digestChanged (s.setReg (Reg.fidVer f) (wd i.version)))

/-! Traps -/

/-- Causes of a trap (R607). -/
def trapOpcode : Nat := 1
def trapMemory : Nat := 2
def trapJump : Nat := 3
def trapBrk : Nat := 4

/-- A hook run ends badly (R598, R600): its status, its event, and what it had buffered is discarded. -/
def abortRun (f : Nat) (st : Status) (ev : Nat) (s : State) : State :=
  match (s.fidOf f).run with
  | none => s
  | some r => endRun f st (raiseHook f r ev s)

/-- A thread traps (R585, R600): a hook's run is aborted; a system thread stops, its fid enters FAULT, and an FP fid's armed splices end with ABORTED (R593). -/
def trap (f : Nat) (hook : Bool) (pc cause : Nat) (s : State) : State :=
  if hook then abortRun f (if cause = trapOpcode ∨ cause = trapBrk then .badOpcode else .badField) 1 s
  else
    let s := setFid f { s.fidOf f with wait := none } (s.setF (Reg.fidStatus f) 1 0 3)
    let s := s.setReg (Reg.fidTrap f) (wd (pc % 0x10000 + 0x10000 * cause))
    let s := logBit (objFid f) (Reg.fidEvent f) 0 (raiseFid f 0 s)
    if fidKind f = 1 then
      endSets (fun c => c.arms.any (fun a => !destIsStrand a.dest && decide (fpOf a.dest = f))) rbEnded (fun _ => objFid f) s
    else s

/-! Hooks -/

/-- The tenancy owns an EO or AMO that the fid serves (R606). -/
def State.servesFor (s : State) (t f : Nat) : Bool :=
  s.spl.owners.any (fun e => decide (e.2 = t) &&
    ((decide (objClass e.1 = 0x01) && !destIsStrand (objIndex e.1) && decide (fpOf (objIndex e.1) = f)) ||
     (decide (objClass e.1 = 0x0D) && decide (faOf (objIndex e.1) = f))))

/-- The hook of a tenancy on a fid is enabled (R594). -/
def State.hookEnabled (s : State) (f t : Nat) : Bool :=
  s.bit (Reg.fidHookCtrl (hookNo f) t) 0 || decide (s.f (Reg.fidHookCtrl (hookNo f) t) 13 4 ≠ 0)

/-- The checks of HOOK_LOAD, in the order of R606. -/
def hookLoadCheck (o : Origin) (f len : Nat) (data : Option (List Byte)) (s : State) : Refuse :=
  firstRefusal
    [need (decide (f ≤ 43 ∧ len % 4 = 0 ∧ 0 < len ∧ len ≤ 4096) && takesHooks f) .badField (objFid f),
     need (s.servesFor o.tenancy f) .notOwner (objFid f),
     needServing s,
     need (!s.hookEnabled f o.tenancy && !s.hookActive f o.tenancy) .stateConflict (objFid f),
     needZone (objFid f) s,
     need data.isSome .fetchFault 0]

/-- Words of a byte string. -/
def bytesToWords (l : List Byte) : List Nat := (List.range ((l.length + 3) / 4)).map (fun (k : Nat) => leNat ((l.drop (4 * k)).take 4))

/-- The area takes the bytes and zeros after them; LOADED reads 1 (R605, R607). -/
def hookLoadEffect (o : Origin) (f len : Nat) (data : Option (List Byte)) (s : State) : State :=
  let a := hookArea o.tenancy
  let s := setFidWords f a (bytesToWords ((data.getD []).take len)) (zeroFidWords f a (a + 0x1000) s)
  completeOk o (s.setBit (Reg.fidHookCtrl (hookNo f) o.tenancy) 16 true)

/-- HOOK_LOAD (R605). -/
def doHookLoad (o : Origin) (f len : Nat) (data : Option (List Byte)) (s : State) : State :=
  loneCommand o .working (hookLoadCheck o f len data) (hookLoadEffect o f len data) s

def execHookLoad (o : Origin) (f len : Nat) (data : Option (List Byte)) (s : State) : Host.Outcome State Fault Refusal := run (doHookLoad o f len data) s

/-- FID_HOOK_CTRL and FID_HOOK_MASK are to hold new values: at once, or when the tenancy's runs on the fid end (R608). -/
def writeHookRegs (f t ctrl mask : Nat) (s : State) : State :=
  let m := mask &&& s.hookMaskOf f t
  if s.hookActive f t then { s with fid := { s.fid with held := tabSet (4 * f + t) (ctrl, m) s.fid.held } }
  else applyHookRegs f t ctrl m s

/-- The values the hook registers hold or are to hold. -/
def State.hookRegs (s : State) (f t : Nat) : Nat × Nat :=
  (tabGet (4 * f + t) s.fid.held).getD ((s.reg (Reg.fidHookCtrl (hookNo f) t)).toNat, (s.reg (Reg.fidHookMask (hookNo f) t)).toNat)

/-- The checks of HOOK_SET, in the order of R606. -/
def hookSetCheck (o : Origin) (f : Nat) (splice : Bool) (period : Nat) (s : State) : Refuse :=
  firstRefusal
    [need (decide (f ≤ 43 ∧ period ≤ 1000) && takesHooks f && !(splice && decide (fidKind f = 2))) .badField (objFid f),
     need (s.servesFor o.tenancy f) .notOwner (objFid f),
     needServing s,
     needZone (objFid f) s]

/-- HOOK_SET (R605). -/
def doHookSet (o : Origin) (f : Nat) (splice : Bool) (period : Nat) (mask : Word) (s : State) : State :=
  loneCommand o .working (hookSetCheck o f splice period)
    (fun s => completeOk o (writeHookRegs f o.tenancy (b2n splice + 16 * period) mask.toNat s)) s

def execHookSet (o : Origin) (f : Nat) (splice : Bool) (period : Nat) (mask : Word) (s : State) : Host.Outcome State Fault Refusal :=
  run (doHookSet o f splice period mask) s

/-- A register write to a hook window (R607, R608). -/
def hookWinWrite (h t : Nat) (a : Nat) (v : Word) (s : State) : State :=
  let f := h + 1
  let last (st : Status) (s : State) : State := s.setF (Reg.fidHookStatus h t) 15 8 (statusCode st)
  let p := s.hookRegs f t
  if !s.serving then last .stateConflict s
  else if a = Reg.fidHookCtrl h t then
    if 1000 < fld v 13 4 ∨ (bitOf v 0 = true ∧ fidKind f = 2) then last .badField s
    else writeHookRegs f t (v.toNat &&& 0x3FF1) p.2 s
  else writeHookRegs f t p.1 v.toNat s

/-- HOOK_TIMEOUT (R598): a run is aborted at its deadline, 20 µs after its start. -/
def doHookTimeout (f : Nat) (s : State) : State :=
  match (s.fidOf f).run with
  | none => s
  | some r => if s.now < r.start + 20000 then s else abortRun f .timeout 0 (s.bump (Reg.fidHookTimeoutCnt (hookNo f) r.tenancy) 1)

def execHookTimeout (f : Nat) (s : State) : Host.Outcome State Fault Refusal := run (doHookTimeout f) s

/-- HOOK_SKIPPED (R602): a SPLICE run that has not started 40 µs after its set's preroll entry is skipped with TIMEOUT; its set proceeds. -/
def doHookSkipped (f set t : Nat) (s : State) : State :=
  let d := s.fidOf f
  match d.queue.find? (fun r => decide (r.kind = 0 ∧ r.set = some set ∧ r.tenancy = t)) with
  | none => s
  | some r =>
    if s.now < r.cause + 40000 then s else
    let h := hookNo f
    let s := setFid f { d with queue := d.queue.filter (fun x => decide (x ≠ r)) } s
    let s := (s.bump (Reg.fidHookSkipCnt h t) 1).setF (Reg.fidHookStatus h t) 15 8 (statusCode .timeout)
    let s := if s.hookActive f t then s else s.setF (Reg.fidHookStatus h t) 1 0 0
    releaseHookRegs f t (refreshHookStatus f (raiseHook f r 2 s))

def execHookSkipped (f set t : Nat) (s : State) : Host.Outcome State Fault Refusal := run (doHookSkipped f set t) s

/-- One tick of a tenancy's TICK hook (R596, R603): a run is queued when its period has passed; it is skipped and counted while the previous one is queued or runs, or while
the tenancy's hooks are barred. -/
def tickHook (f t : Nat) (s : State) : State :=
  let h := hookNo f
  let p := s.f (Reg.fidHookCtrl h t) 13 4
  if p = 0 then s
  else
    let k := 4 * f + t
    let n := tabGetD 0 k s.fid.ticks + 1
    if n < p then { s with fid := { s.fid with ticks := tabPut 0 k n s.fid.ticks } }
    else
      let s := { s with fid := { s.fid with ticks := tabPut 0 k 0 s.fid.ticks } }
      let d := s.fidOf f
      let busy := ((d.run.map (fun r => decide (r.kind = 1 ∧ r.tenancy = t))).getD false) || d.queue.any (fun r => decide (r.kind = 1 ∧ r.tenancy = t))
      let sk := tabGetD 0 k s.fid.skipped
      if busy || s.hooksBarred t then
        ({ s with fid := { s.fid with skipped := tabPut 0 k (sk + 1) s.fid.skipped } }).bump (Reg.fidHookSkipCnt h t) 1
      else queueRun f ⟨t, 1, none, s.now, 0, 0, sk⟩ { s with fid := { s.fid with skipped := tabPut 0 k 0 s.fid.skipped } }

/-- A HOUSE block boundary at the fids (R589, R596): TICK_1MS to every fid, and the TICK hooks, which stop as sleep begins (R745). -/
def tickFids (s : State) : State :=
  let s := (List.range 44).foldl (fun s f => fidEvent f 1 s) s
  if s.pwr.change.isSome then s
  else (List.range 40).foldl (fun s i => (List.range 4).foldl (fun s t => tickHook (i + 1) t s) s) s

/-! Update and restart -/

/-- The SHA-384 digest of a signer's public key is the owner's, or no key is locked (R56, R592). -/
def State.keyAllowed (s : State) (digest : List Nat) : Bool :=
  match s.ownerHash with
  | none => true
  | some h => decide (byteNats h = digest)

/-- The image and the signature block of a FID_UPDATE (R592): the last 256 bytes are the block. -/
def updateBody (l : List Byte) : List Byte := l.take (l.length - 256)
def updateBlock (l : List Byte) : List Byte := l.drop (l.length - 256)

/-- Step 2 of R592: the key, the signature over the bytes before the block, and R590. -/
def State.updateOk (s : State) (f : Nat) (l : List Byte) : Bool :=
  let body := byteNats (updateBody l)
  s.keyAllowed (blockKeyDigest (updateBlock l)) && blockVerifies (updateBlock l) (sha384 body) && fidImageOk f body

/-- The checks of FID_UPDATE, in the order of R606. -/
def fidUpdateCheck (o : Origin) (f len : Nat) (image : Option (List Byte)) (s : State) : Refuse :=
  firstRefusal
    [need (decide (f ≤ 43 ∧ 0x140 ≤ len ∧ len ≤ 0x140 + 16384 + 32768)) .badField (objFid f),
     needRig o s,
     needServing s,
     need (!s.bit (Reg.fidStatus f) 3) .stateConflict (objFid f),
     needZone (objFid f) s,
     need image.isSome .fetchFault 0,
     need (match image with | some l => s.updateOk f l | none => true) .rigMismatch (objFid f)]

/-- Steps 1 to 3 of R592: UPDATING, and the code in the bank not in use. -/
def fidUpdateEffect (o : Origin) (f : Nat) (image : Option (List Byte)) (s : State) : State :=
  match image with
  | none => s
  | some l =>
    let i := fidImageOf (byteNats (updateBody l))
    let other := 0x4000 - s.bankBase f
    let s := setFidWords f other (wordNats i.code) (s.setBit (Reg.fidStatus f) 3 true)
    setFid f { s.fidOf f with upd := some ⟨o, i, s.now⟩ } s

/-- FID_UPDATE (R592, R605). -/
def doFidUpdate (o : Origin) (f len : Nat) (image : Option (List Byte)) (s : State) : State :=
  loneCommand o .working (fidUpdateCheck o f len image) (fidUpdateEffect o f image) s

def execFidUpdate (o : Origin) (f len : Nat) (image : Option (List Byte)) (s : State) : Host.Outcome State Fault Refusal := run (doFidUpdate o f len image) s

/-- An update ends: LAST_RESULT shows its status, and its command completes. -/
def endUpdate (f : Nat) (u : FidUpd) (st : Status) (s : State) : State :=
  let s := (s.setBit (Reg.fidStatus f) 3 false).setF (Reg.fidStatus f) 23 16 (statusCode st)
  complete u.origin st (if st = .ok then 0 else objFid f) (setFid f { s.fidOf f with upd := none } s)

/-- FID_UPDATED (R592 steps 4 and 5): with the system thread in WAIT and no hook running, the bank swaps, the thread re-enters at ENTRY with UPDATED 1, and pending
events stay. -/
def doFidUpdated (f : Nat) (s : State) : State :=
  let d := s.fidOf f
  match d.upd with
  | none => s
  | some u =>
    if d.wait.isNone ∨ d.run.isSome then s
    else
      let s := s.setBit (Reg.fidStatus f) 2 (!s.bit (Reg.fidStatus f) 2)
      let s := setFid f { s.fidOf f with
          wait := none, entry := u.image.entry, updated := 1
          sys := { d.sys with pc := s.bankBase f + u.image.entry } } (s.setF (Reg.fidStatus f) 1 0 1)
      let s := s.setReg (Reg.fidVer f) (wd u.image.version)
      digestChanged (endUpdate f u .ok (raiseFid f 1 (masterReset (.fid f) 0 s)))

def execFidUpdated (f : Nat) (s : State) : Host.Outcome State Fault Refusal := run (doFidUpdated f) s

/-- FID_UPDATE_TIMEOUT (R592): no instant of step 4 came within 10 ms; the fid keeps its code. -/
def doFidUpdateTimeout (f : Nat) (s : State) : State :=
  match (s.fidOf f).upd with
  | none => s
  | some u => if s.now < u.since + 10000000 then s else endUpdate f u .timeout s

def execFidUpdateTimeout (f : Nat) (s : State) : Host.Outcome State Fault Refusal := run (doFidUpdateTimeout f) s

/-- The checks of FID_RESTART, in the order of R606. -/
def fidRestartCheck (o : Origin) (f : Nat) (s : State) : Refuse :=
  firstRefusal
    [need (decide (f ≤ 43)) .badField (objFid f),
     needRig o s,
     needServing s,
     need (decide (s.fidState f = 3)) .stateConflict (objFid f),
     needZone (objFid f) s]

/-- The system thread restarts at ENTRY in the present bank with UPDATED 2 (R593). -/
def fidRestartEffect (o : Origin) (f : Nat) (s : State) : State :=
  let d := s.fidOf f
  let s := setFid f { d with sys := { d.sys with pc := s.bankBase f + d.entry }, updated := 2, wait := none } s
  completeOk o (masterReset (.fid f) 0 ((s.setF (Reg.fidStatus f) 1 0 1).setF (Reg.fidStatus f) 23 16 0))

/-- FID_RESTART (R593, R605). -/
def doFidRestart (o : Origin) (f : Nat) (s : State) : State := loneCommand o .working (fidRestartCheck o f) (fidRestartEffect o f) s

def execFidRestart (o : Origin) (f : Nat) (s : State) : Host.Outcome State Fault Refusal := run (doFidRestart o f) s

end Sys2Proof.Machine
end

