-- ==== Sys2Proof/Machine/Audio.lean ====
section
/-! DEFINITION. Audio (chapter 11): clock trackers (R489 to R493), the audio matrix and its commands (R494 to R498, R535, R536), fades (R499 to R502), aligned groups (R504 to R507),
serial ports and taps (R513 to R525), AES3 ports (R526 to R530), converters (R531 to R534) and the writes of AUD registers (R546). -/

namespace Sys2Proof.Machine

open Sys2Proof

/-! Domains and trackers -/

/-- The scale of tracked ratios: parts per 10¹⁵. -/
def unit : Nat := 1000000000000000

/-- A tracker that has seen nothing. -/
def trackerInit : Tracker := ⟨none, 0, 0, 0, 0, unit, 0, 0, 0, 0, false, 0⟩

def State.trackerOf (s : State) (d : Nat) : Tracker := tabGetD trackerInit d s.aud.trackers
def setTracker (d : Nat) (t : Tracker) (s : State) : State := setAud { s.aud with trackers := tabSet d t s.aud.trackers } s

/-- The nominal rate of a domain (R539 NOM): 0 48 kHz, 1 96 kHz, 2 44.1 kHz, from its port. -/
def State.domNom (s : State) (d : Nat) : Nat :=
  if 0x10 ≤ d ∧ d < 0x20 then s.f (Reg.audSapRxCfg (d - 0x10)) 18 17
  else if 0x20 ≤ d ∧ d < 0x30 then s.f (Reg.audSapTxCfg (d - 0x20)) 18 17
  else if 0x30 ≤ d ∧ d < 0x38 then s.f (Reg.audAiCfg (d - 0x30)) 3 2
  else 0

/-- The nominal ratio to 48 kHz after any 2:1 conversion (R492). -/
def nominalRatio (nom : Nat) : Nat := if nom = 2 then unit * 441 / 480 else unit

/-- The domain's port takes instants: an enabled slave direction, an enabled input, a decoder that is aligned (R489, R492). -/
def State.domEnabled (s : State) (d : Nat) : Bool :=
  if 0x10 ≤ d ∧ d < 0x20 then s.bit (Reg.audSapRxCfg (d - 0x10)) 0 && !s.bit (Reg.audSapRxCfg (d - 0x10)) 1
  else if 0x20 ≤ d ∧ d < 0x30 then s.bit (Reg.audSapTxCfg (d - 0x20)) 0 && !s.bit (Reg.audSapTxCfg (d - 0x20)) 1
  else if 0x30 ≤ d ∧ d < 0x38 then s.bit (Reg.audAiCfg (d - 0x30)) 0
  else if 0x40 ≤ d ∧ d < 0xC0 then s.decoding (d - 0x40)
  else false

/-- Raise an event of a domain to the owner of its port (R539), and AUDIO_EVENT at the audio fid of its port's zone (R589). DEDUCED: FAn serves the AMO ports of zones 2n
and 2n + 1, so it serves the domains of those zones' ports. -/
def raiseDom (d b : Nat) (s : State) : State :=
  let s := match (domPort d).bind zoneOfObj with
    | some z => fidEvent (33 + z / 2) 5 s
    | none => s
  raiseEn ((domPort d).bind s.owner) (objDomain d) (Reg.audDomEvent d) (Reg.audDomEventEn d) b s

/-- AUD_DOM_RATIO (R539): the tracked ratio less 1, signed, in parts per 10⁹, to the nearest. -/
def ratioWord (r : Nat) : Word := wd (ux 32 (((r : Int) - unit + 500000) / 1000000))

/-- A tracker enters a state; entering LOCKED starts a SYNC buffer at one block (R487, R492), and the domain's ports follow. -/
def setDomState (d st : Nat) (s : State) : State :=
  let s := s.setF (Reg.audDomStatus d) 2 0 st
  let s := if st = 2 then setTracker d { s.trackerOf d with fill := 96, bad := 0 } s else s
  refreshDomain d s

/-- A domain's port is disabled: its tracker is IDLE (R492). -/
def domIdle (d : Nat) (s : State) : State :=
  if s.domState d = 0 then s
  else setDomState d 0 (setAud { s.aud with trackers := tabDel d s.aud.trackers } (s.setBit (Reg.audDomStatus d) 3 false))

/-- The median of three. -/
def median3 (a b c : Nat) : Nat := max (min a b) (min (max a b) c)

/-- SAMPLE_INSTANT at a tracker (R489, R490, R492): the interval, its median with the two before, glitches, and the entries to ACQUIRE. -/
def instant (d time : Nat) (s : State) : State :=
  let t := s.trackerOf d
  let nom := s.domNom d
  let s := match s.domState d with
    | 0 => setDomState d 1 (setTracker d { trackerInit with r := nominalRatio nom } s)
    | 3 => setDomState d 1 (raiseDom d 1 (setTracker d { t with last := none, p1 := 0, p2 := 0, sumQ := 0, count := 0, good := 0, sumM := 0, means := 0, bad := 0 } s))
    | _ => s
  let t := s.trackerOf d
  let s := setTracker d { t with last := some time, fill := t.fill + (if nom = 1 then 1 else 2) } s
  match t.last with
  | none => s
  | some l =>
    let p := time - l
    let per := 1000000000 * unit / (48000 * max t.r 1) / (if nom = 1 then 2 else 1)
    let bad := decide (4 * (if p < per then per - p else p - per) > per)
    let s := if bad then
        let s := s.bump (Reg.audDomGlitchCnt d) 1
        if t.glitch then s else raiseDom d 2 s
      else s
    let q := if t.p1 = 0 then p else if t.p2 = 0 then t.p1 else median3 t.p2 t.p1 p
    let t := s.trackerOf d
    setTracker d { t with p1 := p, p2 := t.p1, sumQ := t.sumQ + q, count := t.count + 1, glitch := t.glitch || bad } s

/-- The block estimate of a tracker in parts per 10¹⁵ (R490): none without an interval. -/
def blockEstimate (nom : Nat) (t : Tracker) : Option Nat :=
  if t.count = 0 ∨ t.sumQ = 0 then none
  else some (unit * 1000000000 * t.count / (48000 * t.sumQ * (if nom = 1 then 2 else 1)))

/-- |a − b|. -/
def dist (a b : Nat) : Nat := if a < b then b - a else a - b

/-- What a block's estimate does to a tracker (R492). -/
def estimate (d m : Nat) (s : State) : State :=
  let t := s.trackerOf d
  let out := decide (10 * m < 9 * unit ∨ 11 * unit < 10 * m)
  let s := s.setBit (Reg.audDomStatus d) 3 out
  match s.domState d with
  | 2 =>
    if 1000 * dist m t.r ≤ t.r then
      let r := if t.r ≤ m then t.r + (m - t.r) / 64 else t.r - (t.r - m) / 64
      (setTracker d { t with r := r, bad := 0 } s).setReg (Reg.audDomRatio d) (ratioWord r)
    else if t.bad + 1 < 8 then setTracker d { t with bad := t.bad + 1 } s
    else
      let s := (setTracker d { t with r := m, bad := 0, good := 0, sumM := m, means := 1 } s).setReg (Reg.audDomRatio d) (ratioWord m)
      setDomState d 4 (raiseDom d 3 s)
  | 0 => s
  | 3 => s
  | _ =>
    if !out && decide (100000 * dist m t.r ≤ t.r) then
      let sum := t.sumM + m
      let n := t.means + 1
      let r := sum / n
      let s := (setTracker d { t with r := r, sumM := sum, means := n, good := t.good + 1 } s).setReg (Reg.audDomRatio d) (ratioWord r)
      if 8 ≤ t.good + 1 then setDomState d 2 (raiseDom d 4 s) else s
    else (setTracker d { t with r := m, sumM := m, means := 1, good := 0 } s).setReg (Reg.audDomRatio d) (ratioWord m)

/-- The AMO ports fed from a domain. -/
def State.amosOfDomain (s : State) (d : Nat) : List Nat :=
  (s.aud.amiBind.filter (fun e => decide (s.amiDomain e.1 = d))).flatMap (fun e => s.amosOf e.1)

/-- A SYNC buffer loses or gains a block (R487, R499): SLIP is counted and raised, and the ports fed from the domain take an underrun (0) or overrun (1). -/
def slip (d bit : Nat) (s : State) : State :=
  let s := raiseDom d 5 (s.bump (Reg.audDomSlipCnt d) 1)
  let s := setAud { s.aud with slipped := tabSet d bit s.aud.slipped } s
  (s.amosOfDomain d).foldl (fun s m => if (s.srcOfAmo m).isSome then s else amoFault m bit s) s

/-- A HOUSE block at one domain: its estimate, and its SYNC buffer's fill, counted in half samples (R487, R490, R492). -/
def houseBlock (d : Nat) (s : State) : State :=
  let t := s.trackerOf d
  let st := s.domState d
  let s := match blockEstimate (s.domNom d) t with
    | some m => if st = 1 ∨ st = 2 ∨ st = 4 then estimate d m s else s
    | none => s
  let t := s.trackerOf d
  let s := setTracker d { t with sumQ := 0, count := 0, glitch := false } s
  if st = 2 ∧ s.domState d = 2 ∧ s.domSync d = true then
    let t := s.trackerOf d
    if t.fill < 96 then slip d 0 (setTracker d { t with fill := 96 } s)
    else if 288 < t.fill then slip d 1 (setTracker d { t with fill := t.fill - 192 } s)
    else setTracker d { t with fill := t.fill - 96 } s
  else s

/-- SAMPLE_INSTANT (R489, R519, R521): an instant of a domain's clock on an enabled port. `bclkOk` says that a slave's frame sync came at the right bit clock count. -/
def doSampleInstant (d time : Nat) (bclkOk : Bool) (s : State) : State :=
  if !s.domEnabled d then s
  else
    let p := d % 16
    let s := if 0x10 ≤ d ∧ d < 0x20 then
        let s := if s.bit (Reg.audSapStatus p) 0 then s else s.setBit (Reg.audSapStatus p) 0 true
        if bclkOk then s
        else
          let s := setAud { s.aud with badFrames := (p, time) :: s.aud.badFrames } s
          raiseEn (s.owner (objSap p)) (objSap p) (Reg.audSapEvent p) (Reg.audSapEventEn p) 0 (s.bump (Reg.audSapFrameErrCnt p) 1)
      else if 0x20 ≤ d ∧ d < 0x30 then
        let s := s.setBit (Reg.audSapStatus p) 1 true
        if bclkOk then s else raiseEn (s.owner (objSap p)) (objSap p) (Reg.audSapEvent p) (Reg.audSapEventEn p) 1 s
      else s
    instant d time s

/-- The zone of the port whose clock a domain is (R484); none of the 16 zones for HOUSE. -/
def domZone (d : Nat) : Nat := ((domPort d).bind zoneOfObj).getD 16

def execSampleInstant (d time : Nat) (bclkOk : Bool) (s : State) : Host.Outcome State Fault Refusal := run (unlessStopped (domZone d) (doSampleInstant d time bclkOk)) s

/-- CLK_LOST (R492, R493): no instant for 4 nominal frame periods; the ratio is held. -/
def doClkLost (d : Nat) (s : State) : State :=
  let st := s.domState d
  if d ≠ 0 ∧ (st = 1 ∨ st = 2 ∨ st = 4) then setDomState d 3 (raiseDom d 0 (s.bump (Reg.audDomLostCnt d) 1)) else s

def execClkLost (d : Nat) (s : State) : Host.Outcome State Fault Refusal := run (doClkLost d) s

/-! Fades and block boundaries -/

/-- A sample weighted `w` of `n`, truncated toward zero (R500, R501). -/
def weigh (x : Int) (w n : Nat) : Int := Int.tdiv (x * w) n

/-- An output's line and whether it is silent, as it takes in a block, with the faults (true) and resumptions (false) on the way. -/
structure Intake where
  held : List (Int × Bool × Nat)
  since : Nat
  running : Bool
  turns : List Bool
  deriving DecidableEq, Repr

/-- One position of a block enters an output whose fade has `n` samples (R498 to R502): a missing sample makes the output fade out and be silent, the first that comes again makes it
fade in. At a cut any fade ends (R496). -/
def takeIn (n : Nat) (l : Intake) (cut : Bool) (x : Option (Int × Bool)) : Intake :=
  let l := if cut then { l with since := n, running := true } else l
  match x with
  | some v =>
    if l.running then { l with held := l.held ++ [(v.1, v.2, min (l.since + 1) n)], since := min (l.since + 1) n }
    else { held := l.held ++ [(v.1, v.2, 1)], since := 1, running := true, turns := l.turns ++ [false] }
  | none =>
    if l.running then { held := fadeOut n l.held ++ [(0, false, n)], since := 0, running := false, turns := l.turns ++ [true] }
    else { l with held := l.held ++ [(0, false, n)] }

/-- A block enters an output; position `cut` of it is that of a hitch change, if one. -/
def takeBlock (n : Nat) (cut : Option Nat) (xs : List (Option (Int × Bool))) (l : Intake) : Intake :=
  (xs.zipIdx).foldl (fun l p => takeIn n l (decide (cut = some p.2)) p.1) l

/-- What leaves an output of the samples it holds, each with its weight. -/
def leaving (n : Nat) (l : List (Int × Bool × Nat)) : List (Int × Bool) := l.map (fun p => (weigh p.1 p.2.2 n, p.2.1))

/-! What inputs supply -/

/-- The input runs at 96 kHz and goes through the 2:1 filter (R508, R511, R517, R526). -/
def State.ami96 (s : State) (ami : Nat) : Bool :=
  match tabGet ami s.aud.amiBind with
  | some (.sap p _) => decide (s.f (Reg.audSapRxCfg p) 18 17 = 1)
  | some (.aes p _) => decide (s.f (Reg.audAiCfg p) 3 2 = 1)
  | some (.wire n _) => match tabGet n s.wire.audio with | some (.lpcm _ r _) => decide (r = 96) | _ => false
  | _ => false

/-- The position in the block that ends at which a time fell: the first at or after it (R495). -/
def State.cutPos (s : State) (d time : Nat) : Nat :=
  match tabGet d s.aud.blockAt with
  | some a => if s.now ≤ a then 0 else min 48 (ceilDiv ((time - a) * 48) (s.now - a))
  | none => 0

/-- A sample in the bits a serial port carries (R482, R515): the most significant ones, without rounding. -/
def topBits (bits : Nat) (v : Int) : Int := v / (2 ^ (24 - bits) : Nat) * (2 ^ (24 - bits) : Nat)

/-- The sample of each position, that of the position before it at the positions that repeat, and what came last; `last` came before the block. -/
def repeated (bad : Nat → Bool) (last : Option (Int × Bool)) (xs : List (Option (Int × Bool))) : List (Option (Int × Bool)) :=
  ((xs.zipIdx).foldl (fun (acc : List (Option (Int × Bool)) × Option (Int × Bool)) x =>
    let v := if bad x.2 then acc.2 else x.1
    (acc.1 ++ [v], match v with | some w => some w | none => acc.2)) ([], last)).1

/-- Samples as an input takes them. An AES3 subframe with a parity error is the one before, and with VALID_MUTE one that is not valid is missing (R528). A serial receiver takes its data
bits (R515), and the frame in progress at a frame sync out of place is the one before (R521). -/
def State.cleaned (s : State) (ami : Nat) (xs : List (Option (Int × Bool))) : List (Option (Int × Bool)) :=
  match tabGet ami s.aud.amiBind with
  | some (.aes p _) =>
    let r := repeated (fun i => s.aud.parity.contains (ami, i)) (tabGet ami s.aud.lastIn) xs
    if s.bit (Reg.audAiCfg p) 1 then r.map (fun x => x.bind (fun v => if v.2 then none else some v)) else r
  | some (.sap p _) =>
    let d := s.countsAs (0x10 + p)
    let frames := if s.f (Reg.audSapRxCfg p) 18 17 = 1 then 2 else 1
    let bad := (s.aud.badFrames.filter (fun e => decide (e.1 = p))).map (fun e => s.cutPos d e.2)
    let bits := 16 + 4 * s.f (Reg.audSapRxCfg p) 12 11
    repeated (fun i => bad.contains (i / frames + 1)) (tabGet ami s.aud.lastIn) (xs.map (fun x => x.map (fun v => (topBits bits v.1, v.2))))
  | _ => xs

/-- A block of an input at 48 kHz: what its producer supplied, at 96 kHz through the filter (R511). -/
def inputBlock (o : AudioObs) (s : State) : List (Option (Int × Bool)) × State :=
  let n := if s.ami96 o.ami then 96 else 48
  let xs := s.cleaned o.ami ((o.samples ++ List.replicate n none).take n)
  let s := match xs.reverse.findSome? id with
    | some v => setAud { s.aud with lastIn := tabSet o.ami v s.aud.lastIn, parity := s.aud.parity.filter (fun p => decide (p.1 ≠ o.ami)) } s
    | none => setAud { s.aud with parity := s.aud.parity.filter (fun p => decide (p.1 ≠ o.ami)) } s
  if n = 48 then (xs, s)
  else
    let y := decimate (tabGetD filterStart o.ami s.aud.filters) (xs.map (fun x => (x.map Prod.fst).getD 0))
    let out := (y.1.zipIdx).map (fun v =>
      match xs.getD (2 * v.2) none, xs.getD (2 * v.2 + 1) none with
      | some a, some b => some (v.1, a.2 || b.2)
      | _, _ => none)
    (out, setAud { s.aud with filters := tabSet o.ami y.2 s.aud.filters } s)

/-- The blocks of the inputs at a boundary, by input, and the channel status that came with them (R483). -/
def inputBlocks (obs : List AudioObs) (s : State) : Tab (List (Option (Int × Bool))) × State :=
  obs.foldl (fun acc o =>
    let s := match o.status with | some b => setAmiStatus o.ami b acc.2 | none => acc.2
    let r := inputBlock o s
    (tabSet o.ami r.1 acc.1, r.2)) ([], s)

/-! Converters at work -/

/-- The tracked ratio of a domain; 1 for HOUSE (R532). -/
def State.domR (s : State) (d : Nat) : Nat := if d = 0 then unit else (s.trackerOf d).r

/-- The domains a converter joins (R531): that of the input it is hitched to, HOUSE in a SYNC domain, and its own. -/
def State.srcPair (s : State) (c : Nat) : Option (Nat × Nat) :=
  (s.amoHitch (s.srcIn c)).map (fun a => (s.countsAs (s.amiDomain a), s.f (Reg.audSrcCfg c) 15 8))

/-- The ratio of a pair of domains (R532), in units of 10⁻¹⁵. -/
def State.pairRatio (s : State) (p : Nat × Nat) : Nat := s.domR p.1 * unit / max (s.domR p.2) 1

/-- Samples a domain's blocks have had. -/
def State.samplePos (s : State) (d : Nat) : Nat := tabGetD 0 d s.aud.samplesAt

/-- The place of a pair's next output sample among the samples of its input domain (R533): one for every converter of the pair. It starts 72 output samples behind the block that ends
(R532). -/
def State.pairPhase (s : State) (p : Nat × Nat) : Int :=
  match tabGet (256 * p.1 + p.2) s.aud.srcPhase with
  | some x => x
  | none => (s.samplePos p.1 : Int) * unit - 120 * s.pairRatio p

/-- The sample at position `q` of a domain whose newest of `held` stands before position `pos`. -/
def heldAt (held : List (Int × Bool)) (pos : Nat) (q : Int) : Int × Bool :=
  if q < pos ∧ (pos : Int) - q ≤ held.length then held.getD ((held.length : Int) - (pos - q)).toNat (0, false) else (0, false)

/-- A block that a converter makes (R532): each sample of the 144 around its place. -/
def State.srcBlock (s : State) (c : Nat) : List (Option (Int × Bool)) :=
  match s.srcPair c with
  | none => List.replicate 48 none
  | some p =>
    let held := tabGetD [] c s.aud.srcHeld
    (List.range 48).map (fun (k : Nat) =>
      let x := s.pairPhase p + (k : Int) * s.pairRatio p
      let at_ (j : Int) : Int × Bool := heldAt held (s.samplePos p.1) (x / unit + j)
      some (sx 24 (ux 24 (Config.converterSample ((List.range 144).map (fun (j : Nat) => (at_ ((j : Int) - 71)).1)) (x % unit).toNat)), (at_ 0).2))

/-- The converters whose outputs are in a domain. -/
def State.srcsInto (s : State) (d : Nat) : List (Nat × Nat) :=
  s.aud.amiBind.filterMap (fun e => match e.2 with | .src c => if s.f (Reg.audSrcCfg c) 15 8 = d then some (e.1, c) else none | _ => none)

/-- The converters into a domain make a block, and the phases of their pairs advance; a pair of which a clock is not LOCKED holds its phase (R534). -/
def convert (d : Nat) (blocks : Tab (List (Option (Int × Bool)))) (s : State) : Tab (List (Option (Int × Bool))) × State :=
  let cs := s.srcsInto d
  let blocks := cs.foldl (fun t e => tabSet e.1 (s.srcBlock e.2) t) blocks
  let pairs := (cs.filterMap (fun e => s.srcPair e.2)).eraseDups
  let phases := pairs.foldl (fun t p =>
    tabSet (256 * p.1 + p.2) (s.pairPhase p + (if s.domState p.1 = 2 ∧ s.domState p.2 = 2 then 48 * (s.pairRatio p : Int) else 0)) t)
    (tabKeep (fun k _ => decide (k % 256 ≠ d)) s.aud.srcPhase)
  (blocks, setAud { s.aud with srcPhase := phases } s)

/-- A block without samples, and one of silence that is supplied. -/
def noBlock : List (Option (Int × Bool)) := List.replicate 48 none
def zeroBlock : List (Option (Int × Bool)) := List.replicate 48 (some (0, false))

/-- What an input supplies an output in a block (R487, R498, R519): a flow what it has released; a disabled serial receiver zeros; a domain whose buffer ran out nothing. An input that has
become absent supplies what came before the first gap. -/
def State.supplied (s : State) (blocks : Tab (List (Option (Int × Bool)))) (silent : Bool) (ami : Nat) : List (Option (Int × Bool)) :=
  let all := match tabGet ami s.aud.amiBind with
    | some (.flow _ _) =>
      let q := ((tabGetD [] ami s.aud.supply).take 48).map some
      if silent then List.replicate (48 - q.length) none ++ q else q ++ List.replicate (48 - q.length) none
    | some (.sap p _) => if s.bit (Reg.audSapRxCfg p) 0 then tabGetD noBlock ami blocks else zeroBlock
    | some _ => tabGetD noBlock ami blocks
    | none => noBlock
  if tabGet (s.amiDomain ami) s.aud.slipped = some 0 then noBlock
  else if s.amiPresent ami then all
  else if silent then noBlock
  else (all.takeWhile (fun x => x.isSome) ++ noBlock).take 48

/-- The domain whose blocks an output takes: its consumer's, or of a converter's input its source's. -/
def State.sampleClock (s : State) (amo : Nat) : Nat :=
  (s.amoDomain amo).getD (match s.amoHitch amo with | some a => s.countsAs (s.amiDomain a) | none => 0)

/-- What a hitch supplies an output in a block: without one silence, with no fade (R498); to the outputs of a tenancy cut loose under FILL, and to those of a zone that drains, nothing
(R74, R651). -/
def State.fedBlock (s : State) (blocks : Tab (List (Option (Int × Bool)))) (amo : Nat) (ami : Option Nat) : List (Option (Int × Bool)) :=
  if s.cutUnder 2 (objAmo amo) ∨ 2 ≤ s.zone (amo / 512) then noBlock
  else
    match ami with
    | none => zeroBlock
    | some a => s.supplied blocks (!(s.amoLine amo).running) a

/-- The block an output takes in, and where in it a hitch change fell. -/
def State.blockOf (s : State) (d : Nat) (blocks : Tab (List (Option (Int × Bool)))) (amo : Nat) : List (Option (Int × Bool)) × Option Nat :=
  let now := s.fedBlock blocks amo (s.amoHitch amo)
  match (s.amoLine amo).cut with
  | none => (now, none)
  | some (t, old) =>
    let p := s.cutPos d t
    ((s.fedBlock blocks amo old).take p ++ now.drop p, some p)

/-- The first position that a block lacks. -/
def firstGap (xs : List (Option (Int × Bool))) : Option Nat := xs.findIdx? (fun x => x.isNone)

/-- The position from which GROUP_SLIP silences a group's members (R506): all of the block while it is muted, else that of the first gap of any member. -/
def State.groupGap (s : State) (d : Nat) (blocks : Tab (List (Option (Int × Bool)))) (g : Nat) : Option Nat :=
  if !s.bit (Reg.audAgrpCfg g) 0 then none
  else if s.aud.muted.contains g then some 0
  else ((s.groupMembers g).filterMap (fun m => firstGap (s.blockOf d blocks m).1)).foldl (fun b x => match b with | none => some x | some y => some (min x y)) none

/-! Outputs -/

/-- The channel status an AES3 output sends (R529): with CS_PASS the source's, where it carries one, else that of its registers; byte 23 is computed. -/
def State.aoBlock (s : State) (port sub amo : Nat) : List Nat :=
  let own := (List.range 6).flatMap (fun (j : Nat) => byteNats (leBytes 4 (s.reg ((if sub = 0 then Reg.audAoCsA else Reg.audAoCsB) (port % 8) j)).toNat))
  let src := if s.bit (Reg.audAoCfg (port % 8)) 7 then (s.amoHitch amo).bind (fun a => (tabGet a s.aud.status).map byteNats) else none
  let l := takePad 23 (src.getD own)
  l ++ [crcc l]

/-- The samples that leave an output reach its consumer (R508, R510, R511, R515, R517, R529). The blocks of an AES3 output clocked from HOUSE begin at whole multiples of 192 samples
since the epoch, those of one clocked from an input with the input's. -/
def deliverAudio (amo : Nat) (out : List (Int × Bool)) (s : State) : State :=
  match tabGet amo s.aud.amoBind with
  | some (.flow _ _) => queueAudio amo out (s.emit (.audio amo out))
  | some (.wire _ _) => (setAud { s.aud with framed := tabSet amo (tabGetD [] amo s.aud.framed ++ out) s.aud.framed } s).emit (.audio amo out)
  | some (.sap p _) =>
    let s := s.emit (.audio amo out)
    if !s.bit (Reg.audSapStatus p) 1 then s
    else if s.f (Reg.audSapTxCfg p) 18 17 = 1 then
      let k := 0x2000 + amo
      let y := interpolate (tabGetD filterStart k s.aud.filters) (out.map Prod.fst)
      setAud { s.aud with filters := tabSet k y.2 s.aud.filters, framed := tabSet amo (y.1.map (fun v => (v, false))) s.aud.framed } s
    else setAud { s.aud with framed := tabSet amo out s.aud.framed } s
  | some (.src c) =>
    let l := tabGetD [] c s.aud.srcHeld ++ out
    (setAud { s.aud with srcHeld := tabSet c (l.drop (l.length - 480)) s.aud.srcHeld } s).emit (.audio amo out)
  | some (.aes p sub) =>
    let l := s.amoLine amo
    let st := s.aoBlock p sub amo
    let first := if s.bit (Reg.audAoCfg (p % 8)) 1 then l.sent else s.now * 3 / 62500
    let s := setAmoLine amo { l with sent := l.sent + out.length } (s.emit (.audio amo out))
    if s.bit (Reg.audAoCfg (p % 8)) 0 then s.emit (.aes3 p sub ((out.zipIdx).map (fun x => aesWord x.1 (statusBit st (first + x.2))))) else s
  | _ => s.emit (.audio amo out)

/-- A block passes through an output (R496 to R502, R505): what entered (FADE + 1) × 48 samples ago leaves. -/
def amoBlock (d : Nat) (blocks : Tab (List (Option (Int × Bool)))) (gap : Option Nat) (amo : Nat) (s : State) : State :=
  let n := s.fadeLen amo
  let l := s.amoLine amo
  let b := s.blockOf d blocks amo
  let xs := match gap with | some p => b.1.take p ++ List.replicate (48 - p) none | none => b.1
  let held := List.replicate (n - l.held.length) (0, false, n) ++ l.held
  let slip := match s.amoHitch amo with | some a => decide (tabGet (s.amiDomain a) s.aud.slipped = some 1) | none => false
  let held := if slip && l.running then fadeOut n held else held
  let r := takeBlock n b.2 xs ⟨held, l.since, l.running && !slip, []⟩
  let s := setAmoLine amo { l with held := r.held.drop 48, since := r.since, running := r.running, cut := none } s
  let s := r.turns.foldl (fun s t => if t then amoFault amo 0 s else amoResume amo s) s
  deliverAudio amo (leaving n (r.held.take 48)) s

/-- The outputs that take blocks of a domain. -/
def State.amosAt (s : State) (d : Nat) : List Nat :=
  (s.aud.amoBind.filter (fun e => decide (s.sampleClock e.1 = d) && !s.stopped (e.1 / 512))).map Prod.fst

/-- Bits of a slot in which a transmitter sends a sample: its data bits first, then 0 (R515). -/
def slotWord (cfg : Word) (v : Int) : Nat :=
  let bits := 16 + 4 * fld cfg 12 11
  ux bits (v / (2 ^ (24 - bits) : Nat)) * 2 ^ (16 + 8 * fld cfg 10 9 - bits)

/-- A running serial transmitter sends a block of frames (R514, R515, R518): the outputs' samples in the slots of its mask, in order; the other slots 0, or at high impedance. -/
def sapSend (p : Nat) (s : State) : State :=
  let cfg := s.reg (Reg.audSapTxCfg p)
  let first := s.f (Reg.audSapTxBind p) 12 0
  let slots := if fld cfg 3 2 = 0 then fld cfg 8 4 + 1 else 2
  let used (i : Nat) : Nat := ((List.range i).filter (fun j => s.bit (Reg.audSapTxMask p) j)).length
  let sample (f i : Nat) : Option Nat :=
    if s.bit (Reg.audSapTxMask p) i then some (slotWord cfg ((tabGetD [] (first + used i) s.aud.framed).getD f (0, false)).1)
    else if bitOf cfg 19 then none
    else some 0
  let n := if fld cfg 18 17 = 1 then 96 else 48
  s.emit (.sapFrames p ((List.range n).map (fun (f : Nat) => (List.range slots).map (fun (i : Nat) => sample f i))))

/-- The serial transmitters of a domain send their frames. -/
def sapSends (d : Nat) (s : State) : State :=
  ((List.range 16).filter (fun p => s.bit (Reg.audSapStatus p) 1 && decide ((if s.bit (Reg.audSapTxCfg p) 1 then 0 else 0x20 + p) = d) &&
    !s.stopped p && decide (s.f (Reg.audSapTxBind p) 21 16 ≠ 0))).foldl (fun s p => sapSend p s) s

/-- A block passes through every output of a domain; muted groups whose members' sources all supply samples resume first (R506). -/
def amoBlocks (d : Nat) (obs : List AudioObs) (s : State) : State :=
  let r := inputBlocks obs s
  let r := convert d r.1 r.2
  let s := r.2
  let amos := s.amosAt d
  let ready (n : Nat) : Bool := decide (firstGap (s.blockOf d r.1 n).1 = none) && !s.cutUnder 2 (objAmo n)
  let s := s.aud.muted.foldl (fun s g => groupResume ready g s) s
  let gaps := amos.map (fun n => (n, (s.amoGroup n).bind (s.groupGap d r.1)))
  let s := gaps.foldl (fun s e => amoBlock d r.1 e.2 e.1 s) s
  let s := if d = 0 then setAud { s.aud with supply := s.aud.supply.map (fun e => (e.1, e.2.drop 48)), slipped := [] } s else s
  let s := sapSends d s
  setAud { s.aud with
    blockAt := tabSet d s.now s.aud.blockAt
    samplesAt := tabSet d (s.samplePos d + 48) s.aud.samplesAt
    badFrames := s.aud.badFrames.filter (fun e => decide (s.countsAs (0x10 + e.1) ≠ d)) } s

/-- The domain at whose block boundaries an AMO's changes fall: its consumer's; HOUSE for a converter's input (R495). -/
def State.amoClock (s : State) (amo : Nat) : Nat := (s.amoDomain amo).getD 0

/-- Audio hitch changes that are due at a block boundary of a domain take effect (R495, R507), and the audio matrix of their zones is woken (R753, R754). -/
def applyArms (d : Nat) (s : State) : State :=
  let due := s.aud.arms.filter (fun a => decide (s.amoClock a.amo = d ∧ a.due ≤ s.now))
  let s := setAud { s.aud with arms := s.aud.arms.filter (fun a => !decide (s.amoClock a.amo = d ∧ a.due ≤ s.now)) } s
  if due.isEmpty then s
  else wakeUsed (due.foldl (fun s a =>
    let s := bindAudio a.amo a.ami s
    match a.origin with | some o => completeOk o s | none => s) s)

/-- Master directions whose start is due begin at a HOUSE block boundary (R519). -/
def startMasters (s : State) : State :=
  let due := s.aud.starting.filter (fun e => decide (e.2 ≤ s.now))
  let s := setAud { s.aud with starting := tabKeep (fun _ v => decide (s.now < v)) s.aud.starting } s
  due.foldl (fun s e => s.setBit (Reg.audSapStatus (e.1 / 2)) (e.1 % 2) true) s

/-- BLOCK_BOUNDARY (R485, R490, R495, R498 to R506, R589, R596): a boundary of a domain; that of HOUSE (0) is also the trackers' block, the fids' tick and a master's start. -/
def doBlockBoundary (d : Nat) (obs : List AudioObs) (s : State) : State :=
  let s := if d = 0 then startMasters ((s.aud.trackers.map Prod.fst).foldl (fun s k => houseBlock k s) s) else s
  let s := applyArms d s
  let s := amoBlocks d obs s
  if d = 0 then tickFids s else s

def execBlockBoundary (d : Nat) (obs : List AudioObs) (s : State) : Host.Outcome State Fault Refusal := run (doBlockBoundary d obs) s

/-! Refusals -/

/-- Record the status of an ignored AMO, domain or group write (R538, R546). -/
def tenLast (t : Nat) (st : Status) (s : State) : State := s.setF (Reg.audTenLast t) 7 0 (statusCode st)

/-- The FA fid that serves an AMO is in FAULT (R593). -/
def State.faFault (s : State) (amo : Nat) : Bool := decide (s.fidState (faOf amo) = 3)

/-! Hitches -/

/-- Whether an AMO's hitch chain through converters leads back into converter `c` (R494). -/
def audioLoopsF : Nat → State → Nat → Nat → Bool
  | 0, _, _, _ => true
  | k + 1, s, c, ami =>
    match tabGet ami s.aud.amiBind with
    | some (.src c') => decide (c' = c) || (match s.amoHitch (s.srcIn c') with | some a => audioLoopsF k s c a | none => false)
    | _ => false

/-- Hitching `ami` to `amo` would make a loop (R494). -/
def State.audioLoops (s : State) (amo ami : Nat) : Bool :=
  match s.srcOfAmo amo with
  | some c => audioLoopsF 513 s c ami
  | none => false

/-- The audio hitches of a set. -/
def audioOps (c : ChangeSet) : Nat := (c.ops.filter (fun op => match op with | .audio _ _ => true | _ => false)).length

/-- The splice group an audio hitch joins takes it (R535, R536). -/
def State.audioGroupOk (s : State) (t group : Nat) (set : Option ChangeSet) : Bool :=
  if group = 0 then true
  else
    match set with
    | some c => decide (c.group = group ∧ audioOps c < 1024)
    | none =>
      match s.setOfGroup t group with
      | some c => !c.arms.isEmpty && decide (c.phase ≠ .preroll ∧ c.phase ≠ .decided ∧ audioOps c < 1024)
      | none => false

/-- The checks of AUDIO_HITCH and AUDIO_UNHITCH, in the order of R536. -/
def audioHitchCheck (o : Origin) (amo : Nat) (ami : Option Nat) (group : Nat) (set : Option ChangeSet) (s : State) : Refuse :=
  firstRefusal
    [need (decide (amo < 8192 ∧ group ≤ 63) && (ami.map (fun n => decide (n < 8192))).getD true) .badField (objAmo amo),
     needOwner o (objAmo amo) s,
     need ((ami.map (fun n => s.mayUse o.tenancy (objAmi n))).getD true) .notOwner (match ami with | some n => objAmi n | none => 0),
     needServing s,
     needZone (objAmo amo) s,
     (match ami with | some n => needZone (objAmi n) s | none => none),
     need (!s.faFault amo) .stateConflict (objAmo amo),
     need ((tabGet amo s.aud.amoBind).isSome && (ami.map (fun n => (tabGet n s.aud.amiBind).isSome)).getD true) .stateConflict (objAmo amo),
     need ((ami.map (fun n => !s.audioLoops amo n)).getD true) .stateConflict (objAmo amo),
     need (s.audioGroupOk o.tenancy group set) .stateConflict (objSgroup o.tenancy group),
     need (match ami, s.amoDomain amo with
       | some n, some d => decide (s.countsAs (s.amiDomain n) = d)
       | _, _ => true) .formatMismatch (objAmo amo)]

/-- An audio hitch change outside groups and batches waits for a block boundary at least 50 µs later; one that waited for the same AMO ends with ABORTED (R495). One in
a group is a pending copy of its set (R268, R535). -/
def audioHitchEffect (o : Origin) (amo : Nat) (ami : Option Nat) (group : Nat) (s : State) : State :=
  if group = 0 then
    let olds := s.aud.arms.filter (fun a => decide (a.amo = amo))
    let s := setAud { s.aud with arms := s.aud.arms.filter (fun a => decide (a.amo ≠ amo)) ++ [⟨amo, ami, some o, s.now + 50000⟩] } s
    olds.foldl (fun s a => match a.origin with | some x => complete x .aborted (objAmo amo) s | none => s) s
  else
    match s.setOfGroup o.tenancy group with
    | some c => addOp c.id (.audio amo ami) (updSet c.id (fun c => { c with origins := c.origins ++ [o] }) s)
    | none => s

/-- AUDIO_HITCH (R495, R535). -/
def doAudioHitch (o : Origin) (amo ami group : Nat) (s : State) : State :=
  hostCommand o true .working (audioHitchCheck o amo (some ami) group) (fun s => mailbox (faOf amo) (audioHitchEffect o amo (some ami) group s))
    (fun id s => mailbox (faOf amo) (addOp id (.audio amo (some ami)) s)) s

def execAudioHitch (o : Origin) (amo ami group : Nat) (s : State) : Host.Outcome State Fault Refusal := run (doAudioHitch o amo ami group) s

/-- AUDIO_UNHITCH (R495, R535). -/
def doAudioUnhitch (o : Origin) (amo group : Nat) (s : State) : State :=
  hostCommand o true .working (audioHitchCheck o amo none group) (fun s => mailbox (faOf amo) (audioHitchEffect o amo none group s))
    (fun id s => mailbox (faOf amo) (addOp id (.audio amo none) s)) s

def execAudioUnhitch (o : Origin) (amo group : Nat) (s : State) : Host.Outcome State Fault Refusal := run (doAudioUnhitch o amo group) s

/-! AMO configuration -/

/-- AUD_AMO_CFG takes FADE and AGROUP (R540); with another FADE the output starts over with nothing held; the groups' status follows. -/
def setAmoCfg (amo fade agroup : Nat) (s : State) : State :=
  let old := s.amoGroup amo
  let s := if s.f (Reg.audAmoCfg amo) 1 0 = fade then s else setAud { s.aud with lines := tabDel amo s.aud.lines } s
  let s := (s.setF (Reg.audAmoCfg amo) 1 0 fade).setF (Reg.audAmoCfg amo) 15 8 agroup
  let s := match old with | some g => refreshAgroup g s | none => s
  match s.amoGroup amo with | some g => refreshAgroup g s | none => s

/-- The limits of an aligned group hold (R504). -/
def State.agroupOk (s : State) (g : Nat) : Bool :=
  let ms := s.groupMembers g
  decide (ms.length ≤ 64) && ms.all (fun m => decide (s.owner (objAmo m) = some (g / 64))) &&
  (match ms.head? with
   | some h => ms.all (fun m => decide (s.amoDomain m = s.amoDomain h) && decide (s.f (Reg.audAmoCfg m) 1 0 = s.f (Reg.audAmoCfg h) 1 0))
   | none => true)

/-- AUD_AMO_CFG of several ports would take the values: FADE only where no hitch is bound, the groups within their limits (R504, R536, R540). -/
def amoCfgRefuse (amos : List Nat) (fade agroup : Nat) (s : State) : Option Status :=
  if amos.any (fun a => (s.amoHitch a).isSome && decide (s.f (Reg.audAmoCfg a) 1 0 ≠ fade)) then some .stateConflict
  else
    let s' := amos.foldl (fun s a => setAmoCfg a fade agroup s) s
    if (agroup :: amos.filterMap s.amoGroup).all (fun g => s'.agroupOk g) then none else some .stateConflict

/-- The checks of AUDIO_PORT_SET, in the order of R536. -/
def audioPortSetCheck (o : Origin) (amo count fade agroup : Nat) (s : State) : Refuse :=
  let amos := (List.range count).map (fun (k : Nat) => amo + k)
  firstRefusal
    [need (decide (1 ≤ count ∧ count ≤ 64 ∧ amo + count ≤ 8192 ∧ fade ≤ 3 ∧ agroup < 256 ∧ (agroup = 0 ∨ agroup % 64 ≠ 0))) .badField (objAmo amo),
     firstRefusal (amos.map (fun a => needOwner o (objAmo a) s)),
     need (decide (agroup = 0 ∨ agroup / 64 = o.tenancy)) .notOwner (objAgroup agroup),
     needServing s,
     firstRefusal (amos.map (fun a => needZone (objAmo a) s)),
     need (!amos.any s.faFault) .stateConflict (objAmo amo),
     need (amos.all (fun a => (tabGet a s.aud.amoBind).isSome)) .stateConflict (objAmo amo),
     (amoCfgRefuse amos fade agroup s).map (fun st => (st, objAmo amo))]

/-- AUDIO_PORT_SET (R535). -/
def doAudioPortSet (o : Origin) (amo count fade agroup : Nat) (s : State) : State :=
  loneCommand o .working (audioPortSetCheck o amo count fade agroup)
    (fun s => completeOk o ((List.range count).foldl (fun s k => setAmoCfg (amo + k) fade agroup s) (mailbox (faOf amo) s))) s

def execAudioPortSet (o : Origin) (amo count fade agroup : Nat) (s : State) : Host.Outcome State Fault Refusal :=
  run (doAudioPortSet o amo count fade agroup) s

/-- A register write to an AMO window (R504, R540, R546). -/
def amoWrite (t n : Nat) (l : Loc) (a : Nat) (v : Word) (s : State) : State :=
  if (tabGet n s.aud.amoBind).isNone then s
  else if a = Reg.audAmoCfg n then
    if !s.serving ∨ s.faFault n then tenLast t .stateConflict s
    else
      let fade := if (s.amoHitch n).isSome then s.f a 1 0 else fld v 1 0
      let g := fld v 15 8
      if g ≠ 0 ∧ g % 64 = 0 then tenLast t .badField s
      else if g ≠ 0 ∧ g / 64 ≠ t then tenLast t .notOwner s
      else
        match amoCfgRefuse [n] fade g s with
        | some st => tenLast t st s
        | none => setAmoCfg n fade g s
  else plainWrite l a v s

/-! Domains and groups -/

/-- A hitch uses a port of the domain (R488). -/
def State.domHitched (s : State) (d : Nat) : Bool := !(s.amosOfDomain d).isEmpty

/-- MODE of a domain would take a value (R487, R488, R536). -/
def domModeRefuse (d mode : Nat) (s : State) : Option Status :=
  if (domPort d).isNone ∨ 2 ≤ mode ∨ (mode = 1 ∧ s.domNom d = 2) then some .badField
  else if s.domHitched d && decide (s.f (Reg.audDomCfg d) 0 0 ≠ mode) then some .stateConflict
  else none

/-- MODE takes a value; a SYNC buffer of a locked domain starts at one block (R487). -/
def setDomMode (d mode : Nat) (s : State) : State :=
  let s := s.setF (Reg.audDomCfg d) 0 0 mode
  if s.domState d = 2 then setTracker d { s.trackerOf d with fill := 96 } s else s

/-- The checks of AUDIO_DOMAIN_SET, in the order of R536. -/
def audioDomainSetCheck (o : Origin) (d mode : Nat) (s : State) : Refuse :=
  let port := (domPort d).getD 0
  firstRefusal
    [need (decide (domModeRefuse d mode s ≠ some .badField)) .badField (objDomain d),
     needOwner o port s,
     needServing s,
     needZone port s,
     (domModeRefuse d mode s).map (fun st => (st, objDomain d))]

/-- AUDIO_DOMAIN_SET (R535). -/
def doAudioDomainSet (o : Origin) (d mode : Nat) (s : State) : State :=
  loneCommand o .working (audioDomainSetCheck o d mode) (fun s => completeOk o (setDomMode d mode s)) s

def execAudioDomainSet (o : Origin) (d mode : Nat) (s : State) : Host.Outcome State Fault Refusal := run (doAudioDomainSet o d mode) s

/-- A register write to a domain window (R546). -/
def domWrite (t d : Nat) (l : Loc) (a : Nat) (v : Word) (s : State) : State :=
  if a = Reg.audDomCfg d then
    if !s.serving then tenLast t .stateConflict s
    else
      match domModeRefuse d (fld v 0 0) s with
      | some st => tenLast t st s
      | none => setDomMode d (fld v 0 0) s
  else plainWrite l a v s

/-- The checks of AGROUP_SET, in the order of R536. -/
def agroupSetCheck (o : Origin) (g slip : Nat) (s : State) : Refuse :=
  firstRefusal
    [need (decide (1 ≤ g ∧ g ≤ 255 ∧ g % 64 ≠ 0 ∧ slip ≤ 1)) .badField (objAgroup g),
     need (decide (g / 64 = o.tenancy)) .notOwner (objAgroup g),
     needServing s]

/-- GROUP_SLIP takes a value (R505, R506): with it at 0 a muted group's members act for themselves again at the next boundary. -/
def setGroupSlip (g slip : Nat) (s : State) : State := s.setF (Reg.audAgrpCfg g) 0 0 slip

/-- AGROUP_SET (R535). -/
def doAgroupSet (o : Origin) (g slip : Nat) (s : State) : State :=
  loneCommand o .working (agroupSetCheck o g slip) (fun s => completeOk o (setGroupSlip g slip s)) s

def execAgroupSet (o : Origin) (g slip : Nat) (s : State) : Host.Outcome State Fault Refusal := run (doAgroupSet o g slip) s

/-- A register write to a group window (R545, R546): numbers that are not groups ignore it. -/
def agrpWrite (t g : Nat) (l : Loc) (a : Nat) (v : Word) (s : State) : State :=
  if g % 64 = 0 then s
  else if a = Reg.audAgrpCfg g then (if s.serving then setGroupSlip g (fld v 0 0) s else tenLast t .stateConflict s)
  else plainWrite l a v s

/-! Serial ports -/

/-- Slots of a SAP configuration (R514), bits of a slot and of data, and the rate in Hz (R542). -/
def sapSlots (v : Word) : Nat := if fld v 3 2 = 0 then fld v 8 4 + 1 else 2
def sapWidth (v : Word) : Nat := 16 + 8 * fld v 10 9
def sapBits (v : Word) : Nat := 16 + 4 * fld v 12 11
def sapRate (v : Word) : Nat := if fld v 18 17 = 0 then 48000 else if fld v 18 17 = 1 then 96000 else 44100

/-- Set bits of a mask. -/
def popcount (w : Word) : Nat := ((List.range 32).filter (fun i => bitOf w i)).length

/-- A direction's configuration and mask are within R514 to R518, with `bound` ports. -/
def sapOk (v mask : Word) (bound : Nat) : Bool :=
  decide (fld v 3 2 ≠ 3 ∧ fld v 10 9 ≠ 3 ∧ fld v 12 11 ≠ 3 ∧ fld v 18 17 ≠ 3) &&
  decide (sapBits v ≤ sapWidth v) && decide (sapSlots v * sapWidth v * sapRate v ≤ 49152000) &&
  !(decide (fld v 18 17 = 2) && bitOf v 1) &&
  decide (popcount mask ≤ bound) && (List.range 32).all (fun i => !bitOf mask i || decide (i < sapSlots v))

/-- The registers of a direction: configuration, mask and binding. -/
def sapRegs (n : Nat) (tx : Bool) : Nat × Nat × Nat :=
  if tx then (Reg.audSapTxCfg n, Reg.audSapTxMask n, Reg.audSapTxBind n) else (Reg.audSapRxCfg n, Reg.audSapRxMask n, Reg.audSapRxBind n)

/-- A hitch uses a port of a direction (R488). -/
def State.sapHitched (s : State) (n : Nat) (tx : Bool) : Bool :=
  let b := s.reg (sapRegs n tx).2.2
  (List.range (fld b 21 16)).any (fun i =>
    if tx then (s.amoHitch (fld b 12 0 + i)).isSome else !(s.amosOf (fld b 12 0 + i)).isEmpty)

/-- A direction would take a configuration and mask (R516, R518, R520, R488, R487). -/
def sapRefuse (n : Nat) (tx : Bool) (v mask : Word) (s : State) : Option Status :=
  let r := sapRegs n tx
  let old := s.reg r.1
  let d := (if tx then 0x20 else 0x10) + n
  if !sapOk v mask (s.f r.2.2 21 16) ∨ (fld v 18 17 = 2 ∧ s.domSync d = true) then some .badField
  else if bitOf old 0 ∧ (setFld old 0 0 0 ≠ setFld v 0 0 0 ∨ s.reg r.2.1 ≠ mask) then some .stateConflict
  else if bitOf old 1 ≠ bitOf v 1 ∧ s.sapHitched n tx then some .stateConflict
  else if bitOf v 0 ∧ s.f r.2.2 21 16 = 0 then some .stateConflict
  else none

/-- A direction takes a configuration and mask; ENABLE starts it, at a HOUSE block boundary at least 50 µs later for a master, at the next frame sync for a slave, or
stops it (R519). -/
def setSap (n : Nat) (tx : Bool) (v mask : Word) (s : State) : State :=
  let r := sapRegs n tx
  let was := s.bit r.1 0
  let d := (if tx then 0x20 else 0x10) + n
  let k := 2 * n + b2n tx
  let s := (s.setReg r.1 (if tx then v else setFld v 19 19 0)).setReg r.2.1 mask
  let s := if bitOf v 0 && !was then
      (if bitOf v 1 then setAud { s.aud with starting := tabSet k (s.now + 50000) s.aud.starting } s else s)
    else if !bitOf v 0 && was then
      domIdle d ((setAud { s.aud with starting := tabDel k s.aud.starting } s).setBit (Reg.audSapStatus n) (b2n tx) false)
    else s
  refreshDomain d (refreshDomain 0 s)

/-- LAST_RESULT of a SAP (R541). -/
def sapLast (n : Nat) (st : Status) (s : State) : State := s.setF (Reg.audSapStatus n) 23 16 (statusCode st)

/-- Write one direction from the registers (R520, R546). -/
def sapDirWrite (n : Nat) (tx : Bool) (v mask : Word) (s : State) : State :=
  if !s.serving then sapLast n .stateConflict s
  else
    match sapRefuse n tx v mask s with
    | some st => sapLast n st s
    | none => setSap n tx v mask s

/-- SAP_ENABLE: a write of a direction's configuration register (R519). -/
def doSapEnable (m : Master) (n : Nat) (tx : Bool) (v : Word) (s : State) : State :=
  gatedWrite m (sapRegs n tx).1 (fun l s => sapDirWrite n tx (v &&& wd l.row.mask) (s.reg (sapRegs n tx).2.1) s) s

def execSapEnable (m : Master) (n : Nat) (tx : Bool) (v : Word) (s : State) : Host.Outcome State Fault Refusal := run (doSapEnable m n tx v) s

/-- The values SAP_SET leaves: configuration and mask of receive, then of transmit; bit `i` of MASK selects the `i`th of RX_CFG, TX_CFG, RX_MASK, TX_MASK (R630). -/
def sapSetValues (n mask : Nat) (ws : List Word) (s : State) : (Word × Word) × (Word × Word) :=
  let pick (i a : Nat) := if mask.testBit i then ws.getD i 0 else s.reg a
  ((pick 0 (Reg.audSapRxCfg n), pick 2 (Reg.audSapRxMask n)), (pick 1 (Reg.audSapTxCfg n), pick 3 (Reg.audSapTxMask n)))

/-- The checks of SAP_SET, in the order of R536. -/
def sapSetCheck (o : Origin) (n mask : Nat) (block : Option (List Word)) (s : State) : Refuse :=
  match block with
  | none => some (.fetchFault, 0)
  | some ws =>
    let v := sapSetValues n mask ws s
    let bad := [sapRefuse n false v.1.1 v.1.2 s, sapRefuse n true v.2.1 v.2.2 s]
    firstRefusal
      [need (decide (n < 16 ∧ mask < 16) && decide (v.1.1.toNat < 0x80000 ∧ v.2.1.toNat < 0x100000) && !bad.contains (some .badField)) .badField (objSap n),
       needOwner o (objSap n) s,
       needServing s,
       needZone (objSap n) s,
       need (!bad.contains (some .stateConflict)) .stateConflict (objSap n)]

/-- SAP_SET takes its values. -/
def sapSetEffect (o : Origin) (n mask : Nat) (block : Option (List Word)) (s : State) : State :=
  let v := sapSetValues n mask (block.getD []) s
  let s := if mask.testBit 0 || mask.testBit 2 then setSap n false v.1.1 v.1.2 s else s
  let s := if mask.testBit 1 || mask.testBit 3 then setSap n true v.2.1 v.2.2 s else s
  completeOk o s

/-- SAP_SET (R535). -/
def doSapSet (o : Origin) (n mask : Nat) (block : Option (List Word)) (s : State) : State :=
  loneCommand o .working (sapSetCheck o n mask block) (sapSetEffect o n mask block) s

def execSapSet (o : Origin) (n mask : Nat) (block : Option (List Word)) (s : State) : Host.Outcome State Fault Refusal := run (doSapSet o n mask block) s

/-! Capture taps -/

/-- A tap would take a control, base and size (R523, R525, R541). -/
def tapRefuse (n : Nat) (ctrl : Word) (base size : Nat) (s : State) : Option Status :=
  let old := s.reg (Reg.audSapTapCtrl n)
  let oldBase := (s.reg (Reg.audSapTapBaseLo n)).toNat + 0x100000000 * (s.reg (Reg.audSapTapBaseHi n)).toNat
  if base % 4096 ≠ 0 ∨ size = 0 ∨ 4096 < size ∨ fld ctrl 3 2 = 3 then some .badField
  else if bitOf old 0 ∧ (fld ctrl 3 1 ≠ fld old 3 1 ∨ base ≠ oldBase ∨ size ≠ s.f (Reg.audSapTapSize n) 12 0) then some .stateConflict
  else none

/-- A tap takes a control, base and size; enabling it starts SEQ and the offset of the next record at 0 (R523). -/
def setTap (n : Nat) (ctrl : Word) (base size : Nat) (s : State) : State :=
  let on := bitOf ctrl 0 && !s.bit (Reg.audSapTapCtrl n) 0
  let s := (s.setReg (Reg.audSapTapCtrl n) (ctrl &&& 0xF)).setReg (Reg.audSapTapBaseLo n) (wd (base % 0x100000000))
  let s := (s.setReg (Reg.audSapTapBaseHi n) (wd (base / 0x100000000))).setReg (Reg.audSapTapSize n) (wd size)
  if on then (setAud { s.aud with taps := tabDel n s.aud.taps } s).setReg (Reg.audSapTapWr n) 0 else s

/-- The checks of AUDIO_TAP_SET, in the order of R536. -/
def audioTapSetCheck (o : Origin) (n : Nat) (ctrl : Word) (base size : Nat) (s : State) : Refuse :=
  firstRefusal
    [need (decide (n < 16) && decide (ctrl.toNat < 16) && decide (tapRefuse n ctrl base size s ≠ some .badField)) .badField (objSap n),
     needOwner o (objSap n) s,
     needServing s,
     needZone (objSap n) s,
     (tapRefuse n ctrl base size s).map (fun st => (st, objSap n))]

/-- AUDIO_TAP_SET (R535). -/
def doAudioTapSet (o : Origin) (n : Nat) (ctrl : Word) (base size : Nat) (s : State) : State :=
  loneCommand o .working (audioTapSetCheck o n ctrl base size) (fun s => completeOk o (setTap n ctrl base size s)) s

def execAudioTapSet (o : Origin) (n : Nat) (ctrl : Word) (base size : Nat) (s : State) : Host.Outcome State Fault Refusal :=
  run (doAudioTapSet o n ctrl base size) s

/-- A register write to a SAP window (R520, R525, R541, R546). -/
def sapWrite (n : Nat) (l : Loc) (a : Nat) (v : Word) (s : State) : State :=
  let base := (s.reg (Reg.audSapTapBaseLo n)).toNat + 0x100000000 * (s.reg (Reg.audSapTapBaseHi n)).toNat
  let tap (ctrl : Word) (base size : Nat) : State :=
    if !s.serving then sapLast n .stateConflict s
    else
      match tapRefuse n ctrl base size s with
      | some st => sapLast n st s
      | none => setTap n ctrl base size s
  let w := v &&& wd l.row.mask
  if a = Reg.audSapRxCfg n then sapDirWrite n false w (s.reg (Reg.audSapRxMask n)) s
  else if a = Reg.audSapTxCfg n then sapDirWrite n true w (s.reg (Reg.audSapTxMask n)) s
  else if a = Reg.audSapRxMask n then sapDirWrite n false (s.reg (Reg.audSapRxCfg n)) v s
  else if a = Reg.audSapTxMask n then sapDirWrite n true (s.reg (Reg.audSapTxCfg n)) v s
  else if a = Reg.audSapTapCtrl n then tap (v &&& 0xF) base (s.f (Reg.audSapTapSize n) 12 0)
  else if a = Reg.audSapTapBaseLo n then tap (s.reg (Reg.audSapTapCtrl n)) (base / 0x100000000 * 0x100000000 + v.toNat) (s.f (Reg.audSapTapSize n) 12 0)
  else if a = Reg.audSapTapBaseHi n then tap (s.reg (Reg.audSapTapCtrl n)) (v.toNat * 0x100000000 + base % 0x100000000) (s.f (Reg.audSapTapSize n) 12 0)
  else if a = Reg.audSapTapSize n then tap (s.reg (Reg.audSapTapCtrl n)) base (fld v 12 0)
  else if a = Reg.audSapTapRd n then
    if !s.serving then sapLast n .stateConflict s
    else if v.toNat % 64 ≠ 0 then sapLast n .badField s
    else s.setReg a v
  else plainWrite l a v s

/-- Bytes of a sample by PACK (R523). -/
def packBytes (pack : Nat) : Nat := if pack = 0 then 4 else if pack = 1 then 3 else 2

/-- One sample, little-endian, by PACK (R523). -/
def packSample (pack : Nat) (x : Int) : List Byte :=
  let v := ux 24 x
  if pack = 0 then leBytes 4 (v * 256) else if pack = 1 then leBytes 3 v else leBytes 2 (v / 256)

/-- Bytes [at, at + len) of a ring meet the bytes from `rd` up to but excluding `wr` (R524). -/
def ringMeets (rd wr pos len : Nat) : Bool :=
  if rd = wr then false
  else if rd < wr then decide (pos < wr ∧ rd < pos + len)
  else decide (pos < wr ∨ rd < pos + len)

/-- The header of a tap record (R523). -/
def tapHeader (time seq n pack : Nat) (gap : Bool) : List Byte :=
  leBytes 8 time ++ leBytes 4 seq ++ leBytes 1 n ++ leBytes 1 pack ++ leBytes 2 (b2n gap)

/-- TAP_RECORD (R523 to R525): 48 wire frames of the tapped direction go to the ring in the owner's host memory, after a wrap record where they would not fit; a record that
would overwrite unread bytes, or that Bus Master Enable keeps from being written, is dropped and counted. -/
def doTapRecord (n time : Nat) (frames : List (List Int)) (s : State) : State :=
  let ctrl := s.reg (Reg.audSapTapCtrl n)
  let tx := bitOf ctrl 1
  match s.owner (objSap n) with
  | none => s
  | some t =>
    if !bitOf ctrl 0 ∨ !s.bit (Reg.audSapStatus n) (b2n tx) then s
    else
      let pack := fld ctrl 3 2
      let k := popcount (s.reg (sapRegs n tx).2.1)
      let size := ceilDiv (16 + 48 * k * packBytes pack) 64 * 64
      let ring := 4096 * s.f (Reg.audSapTapSize n) 12 0
      let base := (s.reg (Reg.audSapTapBaseLo n)).toNat + 0x100000000 * (s.reg (Reg.audSapTapBaseHi n)).toNat
      let wr := (s.reg (Reg.audSapTapWr n)).toNat
      let rd := (s.reg (Reg.audSapTapRd n)).toNat
      let st := tabGetD ⟨0, false⟩ n s.aud.taps
      let wraps := decide (ring < wr + size)
      let pos := if wraps then 0 else wr
      if !s.bme t ∨ ring < size ∨ ringMeets rd wr pos size ∨ (wraps = true ∧ ringMeets rd wr wr 64 = true) then
        let s := setAud { s.aud with taps := tabSet n { st with gap := true } s.aud.taps } s
        raiseEn (some t) (objSap n) (Reg.audSapEvent n) (Reg.audSapEventEn n) 2 (s.bump (Reg.audSapTapOvfCnt n) 1)
      else
        let s := if wraps then s.emit (.hostWrite t (base + wr) (tapHeader time st.seq 0 pack false)) else s
        let data := (frames.take 48).flatMap (fun f => (f.take k).flatMap (packSample pack))
        let bytes := tapHeader time st.seq k pack st.gap ++ data
        let s := s.emit (.hostWrite t (base + pos) (bytes ++ List.replicate (size - bytes.length) 0))
        let s := setAud { s.aud with taps := tabSet n ⟨(st.seq + 1) % 0x100000000, false⟩ s.aud.taps } s
        s.setReg (Reg.audSapTapWr n) (wd (if pos + size = ring then 0 else pos + size))

def execTapRecord (n time : Nat) (frames : List (List Int)) (s : State) : Host.Outcome State Fault Refusal := run (unlessStopped n (doTapRecord n time frames)) s

/-! AES3 ports -/

/-- Raise an event of an AES3 input (R543). -/
def raiseAi (n b : Nat) (s : State) : State := raiseEn (s.owner (objAes n)) (objAes n) (Reg.audAiEvent n) (Reg.audAiEventEn n) b s

/-- Status words of a subframe. -/
def aiCsReg (n : Nat) (sub : Bool) (j : Nat) : Nat := if sub then Reg.audAiCsB n j else Reg.audAiCsA n j

/-- One subframe's block (R527, R483): latched when byte 0 bit 0 is 0 or its CRCC is right; a latched block that differs from the previous one raises CS_CHANGE. -/
def aesSubframe (n : Nat) (sub : Bool) (bytes : List Byte) (s : State) : State :=
  let l := takePad 24 (byteNats bytes)
  let b0 := l.getD 0 0
  if b0 % 2 = 1 ∧ crcc l ≠ l.getD 23 0 then raiseAi n 1 (s.bump (Reg.audAiCrcCnt n) 1)
  else
    let ws := (List.range 6).map (fun (j : Nat) => wordOfBytes ((natBytes l).drop (4 * j)))
    let had := (tabGetD 0 n s.aud.latched).testBit (b2n sub)
    let same := ((List.range 6).zip ws).all (fun p => decide (s.reg (aiCsReg n sub p.1) = p.2))
    let s := ((List.range 6).zip ws).foldl (fun s p => s.setReg (aiCsReg n sub p.1) p.2) s
    let s := setAud { s.aud with latched := tabPut 0 n (tabGetD 0 n s.aud.latched ||| 2 ^ b2n sub) s.aud.latched } s
    let s := setAmiStatus (s.f (Reg.audAiBind n) 12 0 + b2n sub) (natBytes l) s
    let s := if sub then s else s.setBit (Reg.audAiStatus n) 2 (b0.testBit 0)
    if had && !same then raiseAi n 0 s else s

/-- The blocks of the AES3 outputs clocked from an input begin anew at its Z preamble (R529). -/
def restartBlocks (n : Nat) (s : State) : State :=
  ((List.range 8).filter (fun k => s.bit (Reg.audAoCfg k) 1 && decide (s.f (Reg.audAoCfg k) 6 4 = n))).foldl (fun s k =>
    [s.f (Reg.audAoBind k) 12 0, s.f (Reg.audAoBind k) 12 0 + 1].foldl (fun s m => setAmoLine m { s.amoLine m with sent := 0 } s) s) s

/-- AES3_BLOCK (R526, R527, R529): a block from a Z preamble of an enabled input. -/
def doAes3Block (n : Nat) (a b : List Byte) (s : State) : State :=
  if s.bit (Reg.audAiCfg n) 0 then restartBlocks n (aesSubframe n true b (aesSubframe n false a (s.setBit (Reg.audAiStatus n) 1 true))) else s

def execAes3Block (n : Nat) (a b : List Byte) (s : State) : Host.Outcome State Fault Refusal := run (unlessStopped (n % 8) (doAes3Block n a b)) s

/-- BLOCK_SYNC_LOST (R526). -/
def doBlockSyncLost (n : Nat) (s : State) : State :=
  if s.bit (Reg.audAiStatus n) 1 then raiseAi n 3 (s.setBit (Reg.audAiStatus n) 1 false) else s

def execBlockSyncLost (n : Nat) (s : State) : Host.Outcome State Fault Refusal := run (unlessStopped (n % 8) (doBlockSyncLost n)) s

/-- PARITY_ERR (R528): the subframe at a position of the block is replaced by the previous sample of the same subframe; counted and raised. -/
def doParityErr (n : Nat) (sub : Bool) (position : Nat) (s : State) : State :=
  if s.bit (Reg.audAiCfg n) 0 then
    let ami := s.f (Reg.audAiBind n) 12 0 + b2n sub
    raiseAi n 2 ((setAud { s.aud with parity := (ami, position) :: s.aud.parity } s).bump (Reg.audAiParityCnt n) 1)
  else s

def execParityErr (obs : ParityObs) (s : State) : Host.Outcome State Fault Refusal :=
  run (unlessStopped (obs.ai % 8) (doParityErr obs.ai obs.sub obs.position)) s

/-- An AES3 input would take a configuration (R526, R530, R487). -/
def aiRefuse (n : Nat) (v : Word) (s : State) : Option Status :=
  if fld v 3 2 = 3 ∨ (fld v 3 2 = 2 ∧ s.domSync (0x30 + n) = true) then some .badField
  else if fld v 3 2 ≠ 0 ∧ (List.range 8).any (fun k => s.bit (Reg.audAoCfg k) 0 && s.bit (Reg.audAoCfg k) 1 && decide (s.f (Reg.audAoCfg k) 6 4 = n)) then
    some .stateConflict
  else none

/-- An AES3 input takes a configuration; disabling it leaves its clock IDLE (R492). -/
def setAi (n : Nat) (v : Word) (s : State) : State :=
  let s := s.setReg (Reg.audAiCfg n) (v &&& 0xF)
  let s := if bitOf v 0 then s else domIdle (0x30 + n) (s.setBit (Reg.audAiStatus n) 1 false)
  refreshDomain (0x30 + n) s

/-- A hitch uses a port of an AES3 output (R488). -/
def State.aoHitched (s : State) (n : Nat) : Bool :=
  let b := s.f (Reg.audAoBind n) 12 0
  (s.amoHitch b).isSome || (s.amoHitch (b + 1)).isSome

/-- The domain an AES3 output's configuration gives its ports (R488). -/
def aoDomain (v : Word) : Nat := if bitOf v 1 then 0x30 + fld v 6 4 else 0

/-- An AES3 output would take a configuration (R488, R530). -/
def aoRefuse (n : Nat) (v : Word) (s : State) : Option Status :=
  if bitOf v 1 ∧ s.f (Reg.audAiCfg (fld v 6 4)) 3 2 ≠ 0 then some .badField
  else if aoDomain v ≠ aoDomain (s.reg (Reg.audAoCfg n)) ∧ s.aoHitched n then some .stateConflict
  else none

/-- An AES3 output takes a configuration. -/
def setAo (n : Nat) (v : Word) (s : State) : State := (s.setReg (Reg.audAoCfg n) (v &&& 0xF3)).setBit (Reg.audAoStatus n) 0 (bitOf v 0)

/-- Channel status words of an output; byte 23 is computed (R529, R543). -/
def aoCsReg (n : Nat) (sub : Bool) (j : Nat) : Nat := if sub then Reg.audAoCsB n j else Reg.audAoCsA n j

/-- Write channel status bytes of an output's subframe. -/
def setAoCs (n : Nat) (sub : Bool) (l : List Byte) (s : State) : State :=
  let l := takePad 23 (byteNats l)
  let ws := (List.range 6).map (fun (j : Nat) => wordOfBytes ((natBytes (l ++ [crcc l])).drop (4 * j)))
  ((List.range 6).zip ws).foldl (fun s p => s.setReg (aoCsReg n sub p.1) p.2) s

/-- The bytes an output's subframe holds. -/
def State.aoCs (s : State) (n : Nat) (sub : Bool) : List Byte := (List.range 6).flatMap (fun j => leBytes 4 (s.reg (aoCsReg n sub j)).toNat)

/-- The checks of AES_SET, in the order of R536: ports 0 to 7 are inputs, 8 to 15 outputs. -/
def aesSetCheck (o : Origin) (port : Nat) (cfg : Word) (cs : Option (List Byte)) (s : State) : Refuse :=
  let r := if port < 8 then aiRefuse port cfg s else aoRefuse (port - 8) cfg s
  firstRefusal
    [need (decide (port < 16) && decide (cfg &&& (if port < 8 then 0xF else 0xF3) = cfg) && decide (r ≠ some .badField)) .badField (objAes port),
     needOwner o (objAes port) s,
     needServing s,
     needZone (objAes port) s,
     r.map (fun st => (st, objAes port)),
     need (decide (port < 8) || cs.isSome) .fetchFault 0]

/-- AES_SET takes its values. -/
def aesSetEffect (o : Origin) (port : Nat) (cfg : Word) (cs : Option (List Byte)) (s : State) : State :=
  if port < 8 then completeOk o (setAi port cfg s)
  else completeOk o (setAo (port - 8) cfg (setAoCs (port - 8) true ((cs.getD []).drop 24) (setAoCs (port - 8) false (cs.getD []) s)))

/-- AES_SET (R535). -/
def doAesSet (o : Origin) (port : Nat) (cfg : Word) (cs : Option (List Byte)) (s : State) : State :=
  loneCommand o .working (aesSetCheck o port cfg cs) (aesSetEffect o port cfg cs) s

def execAesSet (o : Origin) (port : Nat) (cfg : Word) (cs : Option (List Byte)) (s : State) : Host.Outcome State Fault Refusal := run (doAesSet o port cfg cs) s

/-- A register write to an AES3 input's window (R530, R546). -/
def aiWrite (n : Nat) (l : Loc) (a : Nat) (v : Word) (s : State) : State :=
  let last (st : Status) : State := s.setF (Reg.audAiStatus n) 23 16 (statusCode st)
  if a = Reg.audAiCfg n then
    if !s.serving then last .stateConflict
    else
      match aiRefuse n v s with
      | some st => last st
      | none => setAi n v s
  else plainWrite l a v s

/-- A register write to an AES3 output's window (R530, R543, R546): byte 23 of the channel status follows the others. -/
def aoWrite (n : Nat) (l : Loc) (a : Nat) (v : Word) (s : State) : State :=
  let last (st : Status) : State := s.setF (Reg.audAoStatus n) 23 16 (statusCode st)
  if !s.serving then (if l.row.acc = .rw then last .stateConflict else s)
  else if a = Reg.audAoCfg n then
    match aoRefuse n v s with
    | some st => last st
    | none => setAo n v s
  else if l.row.acc = .rw then
    let s := s.setReg a v
    setAoCs n false (s.aoCs n false) (setAoCs n true (s.aoCs n true) s)
  else s

/-! Converters -/

/-- OUT_DOMAIN may be HOUSE, SAP_TX or AI (R531). -/
def outDomainOk (d : Nat) : Bool := decide (d = 0 ∨ (0x20 ≤ d ∧ d < 0x30) ∨ (0x30 ≤ d ∧ d < 0x38))

/-- A converter would take an OUT_DOMAIN (R531). -/
def srcRefuse (c domain : Nat) (s : State) : Option Status :=
  if !outDomainOk domain then some .badField
  else if s.f (Reg.audSrcCfg c) 15 8 ≠ domain ∧ !(s.amosOf (s.srcOut c)).isEmpty then some .stateConflict
  else none

/-- A converter takes its configuration (R534): its output follows. -/
def setSrcCfg (c : Nat) (enable : Bool) (domain : Nat) (s : State) : State :=
  refreshSrc c (refreshAmi (s.srcOut c) (s.setReg (Reg.audSrcCfg c) (wd (b2n enable + 0x100 * domain))))

/-- The checks of SRC_SET, in the order of R536. -/
def srcSetCheck (o : Origin) (first count domain : Nat) (s : State) : Refuse :=
  let cs := (List.range count).map (fun (k : Nat) => first + k)
  firstRefusal
    [need (decide (1 ≤ count ∧ count ≤ 32 ∧ first + count ≤ 512) && outDomainOk domain) .badField (objSrc first),
     firstRefusal (cs.map (fun c => needOwner o (objSrc c) s)),
     needServing s,
     firstRefusal (cs.map (fun c => needZone (objSrc c) s)),
     firstRefusal (cs.map (fun c => need (tabGet (s.srcIn c) s.aud.amoBind = some (.src c)) .stateConflict (objSrc c))),
     firstRefusal (cs.map (fun c => (srcRefuse c domain s).map (fun st => (st, objSrc c))))]

/-- SRC_SET (R535). -/
def doSrcSet (o : Origin) (first count : Nat) (enable : Bool) (domain : Nat) (s : State) : State :=
  loneCommand o .working (srcSetCheck o first count domain)
    (fun s => completeOk o ((List.range count).foldl (fun s k => setSrcCfg (first + k) enable domain s) s)) s

def execSrcSet (o : Origin) (first count : Nat) (enable : Bool) (domain : Nat) (s : State) : Host.Outcome State Fault Refusal :=
  run (doSrcSet o first count enable domain) s

/-- A register write to a converter's window (R531, R546). -/
def srcWrite (c : Nat) (l : Loc) (a : Nat) (v : Word) (s : State) : State :=
  let last (st : Status) : State := s.setF (Reg.audSrcStatus c) 23 16 (statusCode st)
  if a = Reg.audSrcCfg c then
    if !s.serving then last .stateConflict
    else
      match srcRefuse c (fld v 15 8) s with
      | some st => last st
      | none => setSrcCfg c (bitOf v 0) (fld v 15 8) s
  else plainWrite l a v s

/-- AUD_SRC_STATUS as it reads (R544): the state and code of the input's domain. -/
def State.srcStatusWord (s : State) (c : Nat) : Word :=
  let d := match s.amoHitch (s.srcIn c) with | some n => s.amiDomain n | none => 0
  setFld (setFld (s.reg (Reg.audSrcStatus c)) 2 0 (s.domState d)) 15 8 d

/-- AUD_SRC_RATIO as it reads (R532, R544). -/
def State.srcRatioWord (s : State) (c : Nat) : Word := ratioWord (s.pairRatio ((s.srcPair c).getD (0, s.f (Reg.audSrcCfg c) 15 8)))

/-- The sample count of HOUSE since the epoch (R485, R538). -/
def State.houseSeq (s : State) : Nat := s.now * 3 / 62500

end Sys2Proof.Machine
end

