-- ==== Sys2Proof/Machine/Host.lean ====
section
/-! DEFINITION. Hosts, tenancies and their queues (chapter 14) and what the control fabric does to its masters (chapter 15): queue registers and doorbells,
fences, DMA, MSI-X, the lanyard, function resets, SYS_CTRL, locked sequences and master resets. Fetching commands is in Fetch.lean. -/

namespace Sys2Proof.Machine

open Sys2Proof

/-- Replace the host interface's state. -/
def setHost (h : HostState) (s : State) : State := { s with host := h }

/-- Tenancies of the plan (R660). -/
def State.tenancies (s : State) : Nat := s.f Reg.tenPlan 2 0

/-- TEN_STATUS.LAST_RESULT of a tenancy. -/
def tenResult (t : Nat) (st : Status) (s : State) : State := s.setF (Reg.tenStatus t) 23 16 (statusCode st)

/-! Rings -/

/-- What waits of a tenancy's event ring is written while there is room, behind the entry that counts what was lost (R613, R641). -/
def drainEvq (t : Nat) (s : State) : State :=
  let r := s.evq t
  if !s.bit (Reg.tenEvqCfg t) 0 || !s.bme t then s
  else
    let s := if r.lost ≠ 0 ∧ r.entries.length < s.evqSize t - 1 then
        writeEvent t (mkEvent s 6 0 r.lost []) (s.setEvq t { r with lost := 0 })
      else s
    let w := (s.evq t).waiting
    w.foldl (fun s e => postEvent t e s) (s.setEvq t { s.evq t with waiting := [] })

/-- Write waiting completions of a queue while there is room; at most `n` of them. -/
def drainCqF (t c : Nat) : Nat → State → State
  | 0, s => s
  | n + 1, s =>
    let r := s.cq t c
    match r.waiting with
    | [] => s
    | e :: l =>
      if s.cqSize t c - 1 ≤ r.entries.length then raiseTen t 6 s
      else drainCqF t c n (writeCompletion t c e (s.setCq t c { r with waiting := l }))

/-- What waits of a completion queue is written while there is room; CQ_STALL is raised while some still waits (R613, R627). -/
def drainCq (t c : Nat) (s : State) : State :=
  if !s.bit (Reg.tenCqCfg t c) 0 || !s.bme t then s else drainCqF t c ((s.cq t c).waiting.length + 1) s

/-- A doorbell write that R622 refuses. -/
def doorbellError (t : Nat) (s : State) : State := raiseTen t 3 (s.bump (Reg.tenDbErrCnt t) 1)

/-- BAR0 writes beside W1C registers reach the part (R751), and the tenancy has a function (R610). -/
def State.doorbells (s : State) (t : Nat) : Bool := decide (t < s.tenancies) && decide (s.mode ≠ .lockdown)

/-- SQ_TAIL (R622). -/
def sqTail (t q : Nat) (v : Word) (s : State) : State :=
  if !s.doorbells t || decide (64 ≤ q) then s
  else if s.bit (Reg.tenSqCfg t q) 0 && decide (v.toNat ≤ s.f (Reg.tenSqCfg t q) 31 16) then
    s.setF (Reg.tenSqPos t q) 31 16 v.toNat
  else doorbellError t s

def execSqTail (t q : Nat) (v : Word) (s : State) : Host.Outcome State Fault Refusal := run (sqTail t q v) s

/-- Entries that a head doorbell's value consumes, of `held` entries below a tail in a ring of `size`; none where R622 refuses it. -/
def consumed (size tail held v : Nat) : Option Nat :=
  let head := (tail + size - held) % size
  let n := (v + size - head) % size
  if v < size ∧ n ≤ held then some n else none

/-- CQ_HEAD (R622, R627). -/
def cqHead (t c : Nat) (v : Word) (s : State) : State :=
  if !s.doorbells t || decide (64 ≤ c) then s
  else
    let r := s.cq t c
    match (if s.bit (Reg.tenCqCfg t c) 0 then consumed (s.cqSize t c) (s.f (Reg.tenCqCoal t c) 31 16) r.entries.length v.toNat else none) with
    | none => doorbellError t s
    | some n => drainCq t c (s.setCq t c { r with entries := r.entries.drop n })

def execCqHead (t c : Nat) (v : Word) (s : State) : Host.Outcome State Fault Refusal := run (cqHead t c v) s

/-- EVQ_HEAD (R622, R641). -/
def evqHead (t : Nat) (v : Word) (s : State) : State :=
  if !s.doorbells t then s
  else
    let r := s.evq t
    match (if s.bit (Reg.tenEvqCfg t) 0 then consumed (s.evqSize t) (s.f (Reg.tenEvqCoal t) 31 16) r.entries.length v.toNat else none) with
    | none => doorbellError t s
    | some n => drainEvq t (s.setEvq t { r with entries := r.entries.drop n })

def execEvqHead (t : Nat) (v : Word) (s : State) : Host.Outcome State Fault Refusal := run (evqHead t v) s

/-! MSI-X (R647, R648) -/

/-- A word of a tenancy's MSI-X table; an entry's vector control word masks it at reset. -/
def State.msixWord (s : State) (t w : Nat) : Word := tabGetD (if w % 4 = 3 then 1 else 0) (1024 * t + w) s.host.msixTable

/-- The vector is masked. -/
def State.vectorMasked (s : State) (t v : Nat) : Bool := bitOf (s.msixWord t (4 * v + 3)) 0

/-- Mark or clear a pending bit. -/
def setPendingBit (t v : Nat) (b : Bool) (s : State) : State :=
  setHost { s.host with msixPending := tabPut false (256 * t + v) b s.host.msixPending } s

/-- Send a message, or keep it pending while its vector is masked. -/
def sendMessage (t v : Nat) (s : State) : State :=
  if s.vectorMasked t v then setPendingBit t v true s else s.emit (.message t v)

/-- Write a word of the MSI-X table; a pending vector that is unmasked sends its message. -/
def msixWrite (t w : Nat) (v : Word) (s : State) : State :=
  let v := if w % 4 = 3 then v &&& 1 else v
  let s := setHost { s.host with msixTable := tabPut (if w % 4 = 3 then 1 else 0) (1024 * t + w) v s.host.msixTable } s
  if w % 4 = 3 && !bitOf v 0 && tabGetD false (256 * t + w / 4) s.host.msixPending then
    (setPendingBit t (w / 4) false s).emit (.message t (w / 4))
  else s

/-- A word of the pending bit array. -/
def State.pendingWord (s : State) (t w : Nat) : Word :=
  wd ((List.range 32).foldl (fun a i => a + (if tabGetD false (256 * t + 32 * w + i) s.host.msixPending then 2 ^ i else 0)) 0)

/-- A ring is to send a message (R648): its COAL_CNT entries have been written since its last message, or COAL_US µs have passed since the first entry not yet reported. -/
def messageDue (coal : Word) (unreported since now : Nat) : Bool :=
  decide (unreported ≠ 0) && decide (fld coal 7 0 ≤ unreported ∨ since + 1000 * fld coal 15 8 ≤ now)

/-- MSIX_MESSAGE (R648): a ring reaches its coalescing count or time; with COAL_CNT 0 each entry has a message of its own. Ring 64 is the event ring. -/
def doMsixMessage (t ring : Nat) (s : State) : State :=
  if !s.bme t then s
  else if ring < 64 then
    let r := s.cq t ring
    if !messageDue (s.reg (Reg.tenCqCoal t ring)) r.unreported r.since s.now then s
    else
      let left := if s.f (Reg.tenCqCoal t ring) 7 0 = 0 then r.unreported - 1 else 0
      sendMessage t (s.f (Reg.tenCqCfg t ring) 15 8) (s.setCq t ring { r with unreported := left })
  else
    let r := s.evq t
    if decide (ring ≠ 64) || !messageDue (s.reg (Reg.tenEvqCoal t)) r.unreported r.since s.now then s
    else
      let left := if s.f (Reg.tenEvqCoal t) 7 0 = 0 then r.unreported - 1 else 0
      sendMessage t (s.f (Reg.tenEvqCfg t) 15 8) (s.setEvq t { r with unreported := left })

def execMsixMessage (t ring : Nat) (s : State) : Host.Outcome State Fault Refusal := run (doMsixMessage t ring) s

/-! Queue registers (R620, R621) -/

/-- Base and size limits of a queue that is being enabled (R620). -/
def queueOk (lo cfg : Word) (least : Nat) : Bool := decide (fld lo 11 0 = 0 ∧ least ≤ fld cfg 31 16 + 1)

/-- What a write of a queue's CFG register does: `refused` when enabling is not allowed, `held` when disabling is not allowed. -/
def queueCfg (t a : Nat) (lo cfg old : Word) (least : Nat) (mayEnable mayDisable : Bool) (on off : State → State) (s : State) : State :=
  if bitOf old 0 then
    if bitOf cfg 0 then (if cfg = old then s else tenResult t .stateConflict s)
    else if !mayDisable then tenResult t .stateConflict s
    else off (s.setReg a cfg)
  else if !bitOf cfg 0 then s.setReg a cfg
  else if !queueOk lo cfg least then tenResult t .badField s
  else if !mayEnable then tenResult t .stateConflict s
  else on (s.setReg a cfg)

/-- Disabling a submission queue (R625, R626): its open batch is undone, FAULT clears. -/
def sqOff (t q : Nat) (s : State) : State :=
  match tabGet (qKey t q) s.host.batches with
  | none => s
  | some b =>
    dropBatch t q (match s.findSet b.set with
      | some c => if b.phase = .collecting then rollback c rbEnded .aborted 0 s else s
      | none => s)

/-- A write of a register of submission queue `q`: `k` is its offset in the queue's group. -/
def sqWrite (t q k a : Nat) (v : Word) (s : State) : State :=
  let c := Reg.tenSqCfg t q
  if k = 0 ∨ k = 4 then (if s.bit c 0 then tenResult t .stateConflict s else s.setReg a v)
  else if k = 8 then
    let new := v &&& wd 0xFFFF00FF
    let old := s.reg c &&& wd 0xFFFF00FF
    let s := if bitOf v 0 then s else s.setBit c 8 false
    queueCfg t c (s.reg (Reg.tenSqBaseLo t q)) (new ||| (s.reg c &&& wd 0x100)) (old ||| (s.reg c &&& wd 0x100)) 2
      (s.bit (Reg.tenCqCfg t (fld v 7 2)) 0) true (fun s => s.setReg (Reg.tenSqPos t q) 0) (sqOff t q) s
  else s

/-- An enabled submission queue names the completion queue. -/
def State.cqNamed (s : State) (t c : Nat) : Bool :=
  (List.range 64).any (fun q => s.bit (Reg.tenSqCfg t q) 0 && decide (s.f (Reg.tenSqCfg t q) 7 2 = c))

/-- A ring as it starts (R627, R638): empty, at index 0, phase 1, SEQ 0. -/
def ringStart {α : Type} : RingState α := ⟨[], true, [], 0, 0, 0, 0⟩

/-- A write of a register of completion queue `c`. Completions that wait in the part stay over a disabling, as none is dropped (R627). -/
def cqWrite (t c k a : Nat) (v : Word) (s : State) : State :=
  let r := Reg.tenCqCfg t c
  if k = 0 ∨ k = 4 then (if s.bit r 0 then tenResult t .stateConflict s else s.setReg a v)
  else if k = 8 then
    queueCfg t r (s.reg (Reg.tenCqBaseLo t c)) (v &&& wd 0xFFFFFF01) (s.reg r) 2 true (!s.cqNamed t c)
      (fun s => drainCq t c ((s.setCq t c { ringStart with waiting := (s.cq t c).waiting }).setF (Reg.tenCqCoal t c) 31 16 0)) (fun s => s) s
  else s.setReg a (merge 0xFFFF (s.reg a) v)

/-- A write of a register of the event ring. -/
def evqWrite (t k a : Nat) (v : Word) (s : State) : State :=
  let r := Reg.tenEvqCfg t
  if k = 0 ∨ k = 4 then (if s.bit r 0 then tenResult t .stateConflict s else s.setReg a v)
  else if k = 8 then
    queueCfg t r (s.reg (Reg.tenEvqBaseLo t)) (v &&& wd 0xFFFFFF01) (s.reg r) 64 true true
      (fun s => (s.setEvq t ringStart).setF (Reg.tenEvqCoal t) 31 16 0) (fun s => s) s
  else s.setReg a (merge 0xFFFF (s.reg a) v)

/-! Fences (R642) -/

/-- A low half written and not applied. -/
def setFenceHeld (t n : Nat) (v : Option Word) (s : State) : State :=
  setHost { s.host with fenceHeld := match v with
    | some w => tabSet (256 * t + n) w s.host.fenceHeld
    | none => tabDel (256 * t + n) s.host.fenceHeld } s

/-- A write of TEN_FENCE_LO is held. -/
def fenceLo (t n : Nat) (v : Word) (s : State) : State := setFenceHeld t n (some v) s

/-- A write of TEN_FENCE_HI applies both halves. -/
def fenceHi (t n : Nat) (v : Word) (s : State) : State :=
  let lo := match tabGet (256 * t + n) s.host.fenceHeld with
    | some w => w
    | none => wd (s.fence t n).toNat
  setFenceHeld t n none (setFence t n (BitVec.ofNat 64 (v.toNat * 0x100000000 + lo.toNat)) s)

def doTenFenceLo (m : Master) (t n : Nat) (v : Word) (s : State) : State :=
  if t < 4 ∧ n < 256 then gatedWrite m (Reg.tenFenceLo t n) (fun _ s => fenceLo t n v s) s else s

def execTenFenceLo (m : Master) (t n : Nat) (v : Word) (s : State) : Host.Outcome State Fault Refusal := run (doTenFenceLo m t n v) s

def doTenFenceHi (m : Master) (t n : Nat) (v : Word) (s : State) : State :=
  if t < 4 ∧ n < 256 then gatedWrite m (Reg.tenFenceHi t n) (fun _ s => fenceHi t n v s) s else s

def execTenFenceHi (m : Master) (t n : Nat) (v : Word) (s : State) : Host.Outcome State Fault Refusal := run (doTenFenceHi m t n v) s

/-- The checks of FENCE_SIGNAL. -/
def fenceSignalCheck (_o : Origin) (n : Nat) (s : State) : Refuse :=
  firstRefusal [need (decide (n < 256)) .badField 0, needServing s]

/-- FENCE_SIGNAL (R642): the fence is written, then the command completes. -/
def doFenceSignal (o : Origin) (n : Nat) (v : DWord) (s : State) : State :=
  loneCommand o .working (fenceSignalCheck o n) (fun s => completeOk o (setFence o.tenancy n v s)) s

def execFenceSignal (o : Origin) (n : Nat) (v : DWord) (s : State) : Host.Outcome State Fault Refusal := run (doFenceSignal o n v) s

/-! DMA (R644 to R646) -/

/-- Bytes a transfer moves. -/
def dmaTotal (r : DmaRequest) : Nat := r.lines * r.lineLen

/-- The fields of a transfer are allowed (R645). -/
def dmaOk (r : DmaRequest) : Bool :=
  decide (r.dir ≤ 2 ∧ r.lines ≠ 0 ∧ r.lineLen ≠ 0 ∧ dmaTotal r ≤ 0x100000000) &&
  (decide (r.lines ≤ 1) || decide (r.lineLen ≤ r.srcPitch ∧ r.lineLen ≤ r.dstPitch))

/-- The engines of a tenancy, lowest first. -/
def State.dmaEngines (s : State) (t : Nat) : List Nat :=
  (List.range 16).filter (fun d => decide (tabGet d s.host.dmaOwner = some t))

/-- An engine's queue. -/
def State.dmaQueue (s : State) (d : Nat) : List DmaJob := tabGetD [] d s.host.dmaQueues

/-- Replace an engine's queue. -/
def setDmaQueue (d : Nat) (l : List DmaJob) (s : State) : State :=
  setHost { s.host with dmaQueues := if l.isEmpty then tabDel d s.host.dmaQueues else tabSet d l s.host.dmaQueues } s

/-- Bytes queued on an engine. -/
def State.dmaQueued (s : State) (d : Nat) : Nat := ((s.dmaQueue d).map (fun j => dmaTotal j.req)).foldl (fun a b => a + b) 0

/-- The engine of a tenancy with the fewest queued bytes; the lowest of several. -/
def State.dmaEngine (s : State) (t : Nat) : Option Nat :=
  (s.dmaEngines t).foldl (fun b d => match b with
    | none => some d
    | some e => if s.dmaQueued d < s.dmaQueued e then some d else some e) none

/-- The checks of DMA_COPY (R634, R645). -/
def dmaCopyCheck (o : Origin) (r : DmaRequest) (s : State) : Refuse :=
  firstRefusal
    [need (dmaOk r && (dmaRanges r).all (fun p => decide (p.1 + p.2 ≤ s.partBytes o.tenancy))) .badField 0,
     needServing s,
     need ((dmaRanges r).all (fun p => decide (p.1 + p.2 ≤ s.readyBytes o.tenancy))) .stateConflict 0,
     need (s.dmaEngine o.tenancy).isSome .noResource 0]

/-- DMA_COPY: the transfer joins its engine's queue, and the channels it needs leave self-refresh (R459). -/
def doDmaCopy (o : Origin) (r : DmaRequest) (s : State) : State :=
  loneCommand o .working (dmaCopyCheck o r) (fun s =>
    match s.dmaEngine o.tenancy with
    | some d => (dmaRanges r).foldl (fun s p => wakeChannels o.tenancy p.1 p.2 s) (setDmaQueue d (s.dmaQueue d ++ [⟨o, r⟩]) s)
    | none => complete o .noResource 0 s) s

def execDmaCopy (o : Origin) (r : DmaRequest) (s : State) : Host.Outcome State Fault Refusal := run (doDmaCopy o r) s

/-- Bytes of a line among the first `n` bytes of a transfer. -/
def lineShare (r : DmaRequest) (n i : Nat) : Nat := min r.lineLen (n - i * r.lineLen)

/-- One line of a transfer, of which `k` bytes move. A byte read poisoned in the store and written to the store is a free value. -/
def dmaLine (t : Nat) (r : DmaRequest) (data : List Byte) (i k : Nat) (s : State) : State :=
  let src := r.src + i * r.srcPitch
  let dst := r.dst + i * r.dstPitch
  if k = 0 then s
  else if r.dir = 0 then writePart t dst ((data.drop (i * r.lineLen)).take k) s
  else if r.dir = 1 then (s.emit (.hostWrite t dst ((List.range k).map (fun j => s.partByte t (src + j))))).draw
  else
    let b := (List.range k).map (fun j =>
      if s.partPoisoned t (src + j) 1 then BitVec.ofNat 8 (Config.freeAt s.draws (src + j)) else s.partByte t (src + j))
    (writePart t dst b s).draw

/-- Move the first `n` bytes of a transfer. -/
def dmaMove (t : Nat) (r : DmaRequest) (data : List Byte) (n : Nat) (s : State) : State :=
  (List.range r.lines).foldl (fun s i => dmaLine t r data i (lineShare r n i) s) s

/-- A line that a transfer reads from the store is poisoned (R446). -/
def State.dmaPoisoned (s : State) (t : Nat) (r : DmaRequest) : Bool :=
  decide (r.dir ≠ 0) && (List.range r.lines).any (fun i => s.partPoisoned t (r.src + i * r.srcPitch) r.lineLen)

/-- DMA_DONE (R646): the engine's first transfer ends and completes; a failed host read stops it. -/
def doDmaDone (d : Nat) (x : DmaResult) (s : State) : State :=
  match s.dmaQueue d with
  | [] => s
  | j :: l =>
    let t := j.origin.tenancy
    if !s.bme t then s
    else
      let failed := decide (j.req.dir = 0) && (x.hostReadFailed || decide (x.data.length < dmaTotal j.req))
      let n := if failed then min x.data.length (dmaTotal j.req) else dmaTotal j.req
      let bad := s.dmaPoisoned t j.req
      let s := setDmaQueue d l (dmaMove t j.req x.data n s)
      let s := if bad && decide (j.req.dir = 1) then setHost { s.host with aerNonFatal := s.host.aerNonFatal + 1 } s else s
      completeWith j.origin (statusCode (if failed then .fetchFault else .ok)) 0 n (bad && !failed) s

def execDmaDone (d : Nat) (x : DmaResult) (s : State) : Host.Outcome State Fault Refusal := run (doDmaDone d x) s

/-! The lanyard (R649 to R653) -/

/-- LANYARD of a tenancy: 0 UNARMED, 1 MOORED, 2 ADRIFT. -/
def State.lanyard (s : State) (t : Nat) : Nat := s.f (Reg.tenStatus t) 1 0

/-- Set it, in TEN_STATUS and TEN_LANYARD_ALL. -/
def setLanyard (t v : Nat) (s : State) : State := (s.setF (Reg.tenStatus t) 1 0 v).setF Reg.tenLanyardAll (2 * t + 1) (2 * t) v

/-- PERIOD in ms. -/
def State.period (s : State) (t : Nat) : Nat := s.f (Reg.tenLanyardCfg t) 15 0

/-- Record the time of the last write. -/
def stampLanyard (t : Nat) (s : State) : State := setHost { s.host with lanyardLast := tabSet t s.now s.host.lanyardLast } s

/-- Undo the open batches of a tenancy; their commands complete with ABORTED (R285). -/
def undoBatches (t : Nat) (s : State) : State :=
  (List.range 64).foldl (fun s q =>
    match tabGet (qKey t q) s.host.batches with
    | none => s
    | some b =>
      if b.phase = .collecting then
        let s := match s.findSet b.set with
          | some c => rollback c rbEnded .aborted 0 s
          | none => s
        setBatch t q { b with phase := .undone (statusCode .aborted) 0 } s
      else s) s

/-- Entering ADRIFT (R651, R658, R700). Outputs follow at their splice points and block boundaries. -/
def goAdrift (t : Nat) (s : State) : State :=
  let s := undoBatches t (setLanyard t 2 s)
  let s := if s.hooksBarred t then endSets (fun c => decide (c.owner = t ∧ c.phase ≠ .collecting)) rbEnded leaderObj s else s
  alert 0 (tenancyEvent t 0 (logBit (objTenancy t) (Reg.tenEvent t) 0 (raiseTen t 0 s)))

/-- Any write of TEN_LANYARD moors the tenancy (R650, R652). -/
def lanyardWrite (t : Nat) (s : State) : State :=
  let was := s.lanyard t
  let s := stampLanyard t (setLanyard t 1 s)
  if was = 2 then tenancyEvent t 1 (raiseTen t 1 s) else s

def doTenLanyard (m : Master) (t : Nat) (_v : Word) (s : State) : State :=
  if t < 4 then gatedWrite m (Reg.tenLanyard t) (fun _ s => lanyardWrite t s) s else s

def execTenLanyard (m : Master) (t : Nat) (v : Word) (s : State) : Host.Outcome State Fault Refusal := run (doTenLanyard m t v) s

/-- A write of TEN_LANYARD_CFG (R650). -/
def lanyardCfg (t : Nat) (v : Word) (s : State) : State :=
  if fld v 15 0 < 10 ∨ 60000 < fld v 15 0 ∨ fld v 17 16 = 3 then tenResult t .badField s
  else if s.lanyard t = 2 then tenResult t .stateConflict s
  else (s.setReg (Reg.tenLanyardCfg t) (v &&& wd 0x3FFFF)).setF (Reg.tenStatus t) 3 2 (fld v 17 16)

def doTenLanyardCfg (m : Master) (t : Nat) (v : Word) (s : State) : State :=
  if t < 4 then gatedWrite m (Reg.tenLanyardCfg t) (fun _ s => lanyardCfg t v s) s else s

def execTenLanyardCfg (m : Master) (t : Nat) (v : Word) (s : State) : Host.Outcome State Fault Refusal := run (doTenLanyardCfg m t v) s

/-- PERIOD has passed since the last write. -/
def State.lapsed (s : State) (t : Nat) : Bool :=
  decide (s.lanyard t = 1 ∧ s.period t ≠ 0 ∧ tabGetD 0 t s.host.lanyardLast + 1000000 * s.period t ≤ s.now)

/-- LANYARD_LAPSE (R650, R651): in Bring-up it acts from full service on (R762); in sleep the period does not count, and Lockdown stops it. -/
def doLanyardLapse (t : Nat) (s : State) : State :=
  if s.lapsed t && decide (s.mode = .service ∨ s.mode = .maintenance) then goAdrift t s else s

def execLanyardLapse (t : Nat) (s : State) : Host.Outcome State Fault Refusal := run (doLanyardLapse t) s

/-- TEN_LANYARD_LEFT (R659): ms left. -/
def State.lanyardLeft (s : State) (t : Nat) : Word :=
  if s.lanyard t = 0 ∨ s.period t = 0 then wd 0xFFFFFFFF
  else if s.lanyard t = 2 then 0
  else wd ((tabGetD 0 t s.host.lanyardLast + 1000000 * s.period t - s.now) / 1000000)

/-- The checks of TENANCY_ADRIFT (R653). -/
def tenancyAdriftCheck (o : Origin) (t : Nat) (s : State) : Refuse :=
  firstRefusal [need (decide (t ≠ o.tenancy ∧ t < s.tenancies)) .badField 0, needRig o s, needServing s]

/-- TENANCY_ADRIFT: the named tenancy is ADRIFT at once. -/
def doTenancyAdrift (o : Origin) (t : Nat) (s : State) : State :=
  loneCommand o .working (tenancyAdriftCheck o t) (fun s => completeOk o (if s.lanyard t = 2 then s else goAdrift t s)) s

def execTenancyAdrift (o : Origin) (t : Nat) (s : State) : Host.Outcome State Fault Refusal := run (doTenancyAdrift o t) s

/-! The fabric's masters (R661, R673 to R678) -/

/-- An address that no target decodes (R662). -/
def decodeError (m : Master) (a : Nat) (s : State) : State :=
  raiseFab 1 ((s.setReg Reg.fabDecerrAddrLo (wd a)).setReg Reg.fabDecerrAddrHi (wd (a / 0x100000000 % 0x1000 + 0x10000 * masterNo m)))

/-- TAP_RESET (R676): the debug port is reset, with the transactions that targets had accepted. -/
def doTapReset (accepted : Nat) (s : State) : State := masterReset .debug accepted s

def execTapReset (accepted : Nat) (s : State) : Host.Outcome State Fault Refusal := run (doTapReset accepted) s

/-- LOCK_BREAK (R674): the sequence is released by force. -/
def doLockBreak (s : State) : State := raiseFab 0 ((unlockFabric s).bump Reg.fabLockBreakCnt 1)

def execLockBreak (s : State) : Host.Outcome State Fault Refusal := run doLockBreak s

/-- A write of SYS_CTRL (R665, R666, R679): from FS or the debug port alone, until LOCK. -/
def sysCtrlWrite (m : Master) (v : Word) (s : State) : State :=
  match m with
  | .tenancy t => foreign t s
  | .dma _ => s
  | .fid (_ + 1) => s
  | _ => if s.bit Reg.sysCtrl 1 then s else s.setReg Reg.sysCtrl (v &&& 3)

/-- REMAP: a write of SYS_CTRL as it maps the boot region. -/
def execRemap (m : Master) (v : Word) (s : State) : Host.Outcome State Fault Refusal := run (sysCtrlWrite m v) s

/-- SYS_CTRL_LOCK: a write of SYS_CTRL as it locks the register. -/
def execSysCtrlLock (m : Master) (v : Word) (s : State) : Host.Outcome State Fault Refusal := run (sysCtrlWrite m v) s

/-! Functions and links -/

/-- FUNCTION_RESET (R654, R676): queues, MSI-X table, fences and BAR2 base clear, open batches are undone, DMA stops with what `moved` says it had moved,
a MOORED lanyard becomes ADRIFT, and the tenancy's bridge and engines are reset as masters. -/
def doFunctionReset (t accepted : Nat) (moved : List (Nat × DmaResult)) (s : State) : State :=
  if 4 ≤ t then s
  else
    let s := (s.dmaEngines t).foldl (fun s d =>
      match s.dmaQueue d, moved.find? (fun e => decide (e.1 = d)) with
      | j :: _, some e => dmaMove t j.req e.2.data (if j.req.dir = 0 then min e.2.moved e.2.data.length else e.2.moved) s
      | _, _ => s) s
    let s := (s.dmaEngines t).foldl (fun s d => setDmaQueue d [] s) s
    let qa := Reg.tenStatus t - 4
    let s := { s with regs := tabKeep (fun a _ => !(decide (qa + 0x30 ≤ a ∧ a < qa + 0x40) || decide (qa + 0x400 ≤ a ∧ a < qa + 0xC00))) s.regs }
    let s := setHost { s.host with
      cqs := tabKeep (fun k _ => decide (k / 64 ≠ t)) s.host.cqs
      evqs := tabDel t s.host.evqs
      fences := tabKeep (fun k _ => decide (k / 256 ≠ t)) s.host.fences
      fenceHeld := tabKeep (fun k _ => decide (k / 256 ≠ t)) s.host.fenceHeld
      msixTable := tabKeep (fun k _ => decide (k / 1024 ≠ t)) s.host.msixTable
      msixPending := tabKeep (fun k _ => decide (k / 256 ≠ t)) s.host.msixPending } s
    let s := (List.range 64).foldl (fun s q => dropBatch t q s) (undoBatches t s)
    let s := ((s.setReg (Reg.fstTenBar2Base t) 0).setBit (Reg.tenStatus t) 4 false).setBit (Reg.tenStatus t) 5 false
    let s := if s.lanyard t = 1 then goAdrift t s else s
    masterReset (.tenancy t) accepted (tenancyEvent t 2 (raiseTen t 5 s))

def execFunctionReset (t accepted : Nat) (moved : List (Nat × DmaResult)) (s : State) : Host.Outcome State Fault Refusal :=
  run (doFunctionReset t accepted moved) s

/-- BUS_MASTER_ENABLE (R613): what waited for it proceeds. -/
def doBusMasterEnable (t : Nat) (s : State) : State :=
  if 4 ≤ t then s
  else
    let s := s.setBit (Reg.tenStatus t) 4 true
    (List.range 64).foldl (fun s c => drainCq t c s) (drainEvq t s)

def execBusMasterEnable (t : Nat) (s : State) : Host.Outcome State Fault Refusal := run (doBusMasterEnable t) s

/-- ECRC_ERROR (R611): the packet is discarded and logged through AER. -/
def doEcrcError (_link : Nat) (s : State) : State := setHost { s.host with aerEcrc := s.host.aerEcrc + 1 } s

def execEcrcError (link : Nat) (s : State) : Host.Outcome State Fault Refusal := run (doEcrcError link) s

/-- LOCKED_READ (R663): Unsupported Request; the fabric sees nothing. -/
def doLockedRead (_t : Nat) (s : State) : State := s.emit .unsupported

def execLockedRead (t : Nat) (s : State) : Host.Outcome State Fault Refusal := run (doLockedRead t) s

/-- LINK_DETECT_TIMEOUT (R612): with no early map applied by 30 ms after reset release the links leave Detect as 1×16. -/
def doLinkDetectTimeout (s : State) : State :=
  if s.now < s.pwr.released + 30000000 then s
  else if s.mode = .bringUp ∧ s.rig.earlyApplied.isNone ∧ s.host.linksDetect then setHost { s.host with linksDetect := false, bifurcation := some 0 } (s.emit (.linksTrain 0)) else s

def execLinkDetectTimeout (s : State) : Host.Outcome State Fault Refusal := run doLinkDetectTimeout s

/-! TEN registers -/

/-- A write of a register of a tenancy's window. -/
def tenWrite (l : Loc) (a : Nat) (v : Word) (s : State) : State :=
  let t := l.i
  let o := l.off
  if o = 8 then lanyardWrite t s
  else if o = 0xC then lanyardCfg t v s
  else if 0x30 ≤ o ∧ o < 0x40 then evqWrite t (o - 0x30) a v s
  else if 0x400 ≤ o ∧ o < 0x800 then sqWrite t ((o - 0x400) / 16) (o % 16) a v s
  else if 0x800 ≤ o ∧ o < 0xC00 then cqWrite t ((o - 0x800) / 16) (o % 16) a v s
  else if 0x1000 ≤ o ∧ o < 0x1800 then
    (if o % 8 = 0 then fenceLo t ((o - 0x1000) / 8) v s else fenceHi t ((o - 0x1000) / 8) v s)
  else plainWrite l a v s

/-- A read of a register of a tenancy's window that is a view of other state. -/
def State.tenView (s : State) (t off : Nat) : Option Word :=
  if off = 8 then some 0
  else if off = 0x10 then some (s.lanyardLeft t)
  else if 0x1000 ≤ off ∧ off < 0x1800 then
    some (wd ((s.fence t ((off - 0x1000) / 8)).toNat / (if off % 8 = 0 then 1 else 0x100000000)))
  else none

end Sys2Proof.Machine
end

