-- ==== Sys2Proof/Machine/RecordSteps.lean ====
section
/-! DEFINITION. The record store at work (chapter 16): copies that become intact and what follows (R691), background erases (R693), the scan at
boot (R695 to R698), writes that a reset tears (R685), the owner lock page (R703, R704) and REC_READ (R705, R706). -/

namespace Sys2Proof.Machine

open Sys2Proof

/-! The rig selector's record (R59, R690) -/

def slotCode (x : Option Slot) : Nat :=
  match x with
  | none => 0
  | some .a => 1
  | some .b => 2

def codeSlot (n : Nat) : Option Slot := if n = 1 then some .a else if n = 2 then some .b else none

/-- The payload of a RIG_SELECTOR record. -/
def selectorBytes (x : Selector) : List Byte :=
  leBytes 1 (slotCode x.active) ++ leBytes 1 (b2n x.validA + 2 * b2n x.validB) ++
  leBytes 1 (slotCode (some x.trialSlot) + 16 * b2n x.trialPending) ++ leBytes 1 0 ++ leBytes 4 x.floor

/-- The selector a payload holds. -/
def selectorOf (l : List Byte) : Selector :=
  { active := codeSlot (leAt l 0 1 % 4), validA := (leAt l 1 1).testBit 0, validB := (leAt l 1 1).testBit 1
    trialSlot := (codeSlot (leAt l 2 1 % 4)).getD .a, trialPending := (leAt l 2 1).testBit 4, floor := leAt l 4 4 }

/-- The selector that the last requested write will leave. -/
def State.selectorDue (s : State) : Selector :=
  match (s.rst.writes.filter (fun w => decide (w.cls = clsSelector))).getLast? with
  | some w => selectorOf w.payload
  | none => s.rig.selector

/-- The image in a slot. -/
def State.image (s : State) (x : Slot) : Option RigImage :=
  match x with
  | .a => s.rig.slotA
  | .b => s.rig.slotB

/-- The registers that show the selector (R80). -/
def refreshSelector (s : State) : State :=
  let x := s.rig.selector
  let ver := fun (v : Bool) (i : Option RigImage) => if v then wd ((i.map imageVersion).getD 0xFFFFFFFF) else wd 0xFFFFFFFF
  ((s.setReg Reg.sysRigSecFloor (wd x.floor)).setReg Reg.sysRigSlotAVer (ver x.validA s.rig.slotA)).setReg Reg.sysRigSlotBVer (ver x.validB s.rig.slotB)

/-- The slot's VALID flag. -/
def Selector.valid (x : Selector) (k : Slot) : Bool :=
  match k with
  | .a => x.validA
  | .b => x.validB

/-- Put an image into a slot. -/
def setImage (k : Slot) (i : Option RigImage) (s : State) : State :=
  refreshSelector
    (match k with
     | .a => { s with rig := { s.rig with slotA := i } }
     | .b => { s with rig := { s.rig with slotB := i } })

/-- The sectors that a slot write covers (R68). -/
def jobSectors (j : SlotJob) : List Nat := (List.range (ceilDiv j.length 4096)).map (fun (k : Nat) => j.offset / 4096 + k)

/-- Once VALID reads 0, the sectors of a slot write are erased (R66, R69). -/
def eraseSlots (s : State) : State :=
  s.rig.writes.foldl (fun s j =>
    if j.erased || s.rig.selector.valid j.slot then s
    else
      let s := { s with rig := { s.rig with writes := s.rig.writes.map (fun (x : SlotJob) => if x.slot = j.slot then { x with erased := true } else x) } }
      setImage j.slot ((s.image j.slot).map (fun i => { i with sectors := (jobSectors j).foldl (fun t k => tabDel k t) i.sectors })) s) s

/-- The selector in force becomes what a committed record holds. -/
def applySelector (payload : List Byte) (s : State) : State :=
  eraseSlots (digestChanged (refreshSelector { s with rig := { s.rig with selector := selectorOf payload } }))

/-! A copy becomes intact -/

/-- Raise TAMPER_ALARM, with the instant of the alarm as its time (R733). -/
def tamperPosted (payload : List Byte) (s : State) : State :=
  let s := (s.setReg Reg.keyEvent (s.reg Reg.keyEvent ||| wd 4)).setBit Reg.keyTamperStatus 16 true
  let s := s.setReg Reg.keyTamperCnt (wd ((s.reg Reg.keyTamperCnt).toNat + 1))
  if s.bit Reg.keyEventEn 2 then
    let e := mkEvent s 0 0 (Reg.keyEvent + 2 * 0x400000) (leBytes 4 (s.reg Reg.keyEvent).toNat)
    postEvent s.rigOwner { e with time := leAt payload 8 8 } s
  else s

/-- What follows once a record is committed: it is the newest of its class and index (R691). -/
def recordCommitted (w : RecWrite) (s : State) : State :=
  match w.why with
  | .selector _ => applySelector w.payload s
  | .rezone _ => applySelector w.payload s
  | .key k _ => refreshSlot k s
  | .tamper => tamperPosted w.payload s
  | _ => s

/-- What follows once both copies are intact: commands complete (R67, R78, R572, R573, R716). -/
def recordComplete (w : RecWrite) (s : State) : State :=
  match w.why with
  | .selector (some o) => completeOk o s
  | .rezone o =>
    let s := ({ s with rig := { s.rig with rezone := none } }.setBit Reg.sysRigStatus 6 false).setF Reg.sysRezoneStatus 19 0 0
    completeOk o (logBit 0 Reg.sysRigEvent 2 (raiseRig 2 s))
  | .cal o =>
    let s := raiseEn (some s.rigOwner) 0 Reg.tmbCalEvent Reg.tmbCalEventEn 5 (s.setReg Reg.tmbCalSetSeq (wd w.seq))
    (match o with
     | some o => completeOk o s
     | none => s)
  | .key _ (some o) => keyDone o .ok 0 (s.setBit Reg.keyStatus 3 false)
  | _ => s

/-- The write of a class proceeds in a bank: the class's first, not yet placed there, in a mode that writes records, its slot erased; in an entry to sleep none starts any
more (R745 step 2). A tamper record is written in every mode (R701). -/
def State.writesTo (s : State) (cls bank : Nat) : Option RecWrite :=
  match s.currentWrite cls with
  | some w => if w.left.contains bank && s.slotReady cls bank &&
      ((s.recordsRun && (s.pwr.change.isNone || s.pwr.draining.contains (cls, w.seq))) || decide (w.why = .tamper)) then some w else none
  | none => none

/-- The bits of a slot that read other than they were programmed: `flips` lie in its pages' groups, by byte and bit; `done` in their DONE words (R683), by page and bit. -/
def slotFlips (flips done : List (Nat × Nat)) : List (Nat × Nat) := flips ++ done.map (fun d => (256 * d.1 + 252 + d.2 % 32 / 8, d.2 % 8))

/-- RECORD_COMMITTED (R683 to R688, R691): the commit group of a copy of a class is programmed in a bank; the bits of `flips` (a byte of the slot's pages
and a bit) read other than they were programmed. Groups that verify CORRECTED or BAD are counted. The controller writes a copy that is not intact again in
the next slot. -/
def doRecordCommitted (cls bank : Nat) (flips : List (Nat × Nat)) (s : State) : State :=
  match s.writesTo cls bank with
  | none => s
  | some w =>
    let x := writeCopy cls bank w.index w.seq w.epoch w.payload (groupCount w.payload) flips
    let bad := countGroups cls w.payload x.pages .bad
    let s := refreshRing cls (placeCopy cls x (s.bump Reg.recCorrCnt (countGroups cls w.payload x.pages .corrected)))
    let s := if bad ≠ 0 then raiseRecords 2 (s.bump Reg.recBadCnt bad) else s
    if !x.intact then s
    else
      let left := w.left.filter (fun b => decide (b ≠ bank))
      let done := left.isEmpty
      let s := setWrites (putWrite cls (if done then none else some { w with left := left, committed := true }) s.rst.writes) s
      let s := if w.committed then s else recordCommitted w s
      let s := if done then recordComplete w s else s
      fidEvent 43 7 s

def execRecordCommitted (cls bank : Nat) (flips done : List (Nat × Nat)) (s : State) : Host.Outcome State Fault Refusal :=
  run (doRecordCommitted cls bank (slotFlips flips done)) s

/-! Erases (R693) -/

/-- The sector of a bank's half that FN erases next: the one that follows the erased sectors ahead of the write pointer. -/
def State.eraseSector (s : State) (cls bank : Nat) : Nat :=
  ((s.ringNext cls bank + sectorSlots cls - 1) / sectorSlots cls + s.ringAhead cls bank) % (ringShape cls).2.1

/-- The copies of a ring that lie in one sector of a bank. -/
def State.sectorCopies (s : State) (cls bank sector : Nat) : List RecCopy :=
  (s.ring cls).filter (fun x => decide (x.bank = bank) &&
    decide ((x.slot - (if bank = 3 then halfSlots cls else 0)) / sectorSlots cls = sector))

/-- A copy has to be kept: it is of the newest intact record of its class and index, and the class is no log. -/
def State.keepCopy (s : State) (cls : Nat) (x : RecCopy) : Bool :=
  !isLog cls && x.intact && decide ((s.newestRec cls (if cls = clsKey then x.index else 0)).map (fun y => y.seq) = some x.seq)

/-- SECTOR_ERASED (R693): the sector ahead is erased once each newest intact record in it is written again, in the same bank, with its SEQ and the
current epoch. -/
def doSectorErased (cls bank : Nat) (s : State) : State :=
  if !(decide (1 ≤ cls ∧ cls ≤ 6) && decide (bank = 2 ∨ bank = 3)) || !s.recordsRun || decide ((ringShape cls).2.1 ≤ s.ringAhead cls bank + 1) then s
  else
    let sec := s.eraseSector cls bank
    let old := s.sectorCopies cls bank sec
    let keep := old.filter (fun x => s.keepCopy cls x)
    let s := keep.foldl (fun s x => placeCopy cls { wholeCopy cls bank x.index x.seq s.epoch x.payload with suspect := x.suspect } s) s
    let s := setRing cls ((s.ring cls).filter (fun x => !old.contains x)) s
    let s := setRec { s.rst with ahead := tabSet (halfKey cls bank) (s.ringAhead cls bank + 1) s.rst.ahead } s
    fidEvent 43 7 (refreshRing cls s)

def execSectorErased (cls bank : Nat) (s : State) : Host.Outcome State Fault Refusal := run (doSectorErased cls bank) s

/-! Reset and boot -/

/-- A reset tears the copies that are being programmed and drops what waits (R685, R691). How many groups of a torn copy were programmed is free; its
commit group was not. -/
def tearWrites (s : State) : State :=
  let s := [1, 2, 3, 4, 5, 6].foldl (fun s cls =>
    match s.currentWrite cls with
    | none => s
    | some w => w.left.foldl (fun s b =>
        if (s.writesTo cls b).isSome then
          placeCopy cls (writeCopy cls b w.index w.seq w.epoch w.payload (Config.freeNat s.draws % groupCount w.payload) []) s.draw
        else s) s) s
  setWrites [] s

/-- The boot ROM writes a record in both banks before it goes on (R60, R697). -/
def bootWrite (cls index : Nat) (payload : List Byte) (s : State) : State :=
  let seq := tabGetD 0 cls s.rst.seqs + 1
  let s := setRec { s.rst with seqs := tabSet cls seq s.rst.seqs } s
  [2, 3].foldl (fun s b => refreshRing cls (placeCopy cls (wholeCopy cls b index seq s.epoch payload) s)) s

/-- Two intact copies carry one SEQ and EPOCH and differ (R696). -/
def twins (x y : RecCopy) : Bool :=
  x.intact && y.intact && decide (x.bank = 2 ∧ y.bank = 3 ∧ x.index = y.index ∧ x.seq = y.seq ∧ x.epoch = y.epoch ∧ x.payload ≠ y.payload)

/-- Mark the twins of a ring SUSPECT, each once: RECORD_TWIN is raised, counted and logged (R696, R700). -/
def markTwins (cls : Nat) (s : State) : State :=
  let l := s.ring cls
  (l.filter (fun x => !x.suspect && l.any (fun y => twins x y))).foldl (fun s x =>
    let s := setRing cls ((s.ring cls).map (fun y => if y.index = x.index ∧ y.seq = x.seq then { y with suspect := true } else y)) s
    logBit 0 Reg.recEvent 0 (raiseRecords 0 (s.bump Reg.recTwinCnt 1))) s

/-- Count the copies of a ring that are ignored (R688). -/
def countTorn (cls : Nat) (s : State) : State :=
  (s.ring cls).foldl (fun s x => if x.intact then s else logBit 0 Reg.recEvent 1 (raiseRecords 1 (s.bump Reg.recTornCnt 1))) s

/-- Write the missing copy of each newest record that has one intact copy only (R698). -/
def repairRing (cls : Nat) (s : State) : State :=
  let idx := ((s.ring cls).map (fun x => x.index)).eraseDups
  if isLog cls then s
  else idx.foldl (fun s i =>
    match s.newestRec cls i with
    | some x => if s.singleCopy cls x then repairRecord cls x s else s
    | none => s) s

/-- What the groups of a copy that were read count (R685, R707): CORRECTED ones, and BAD ones with REC_MEDIA_ERR. -/
def countRead (ks : List Nat) (x : RecCopy) (s : State) : State :=
  let n := fun (st : GroupStatus) => (ks.filter (fun (k : Nat) => decide ((readGroup x.pages k).1 = st))).length
  let s := s.bump Reg.recCorrCnt (n .corrected)
  if n .bad = 0 then s else raiseRecords 2 (s.bump Reg.recBadCnt (n .bad))

/-- The groups that the scan reads of a slot: the header's and the commit group (R698). -/
def scanGroups (c : Nat) : List Nat := [0, 1, 2, commitIndex c]

/-- The scan reads every copy of a ring. -/
def scanRing (c : Nat) (s : State) : State := (s.ring c).foldl (fun s x => countRead (scanGroups c) x s) s

/-- The scan of the rings at boot (R695 to R698): the epoch, its record, twins, torn copies and repairs. The next SEQ of KEY also counts past a torn copy whose header can be read: no
initial value is used for two plaintexts (R719). -/
def scanRings (s : State) : State :=
  let s := [1, 2, 3, 4, 5, 6].foldl (fun s c => scanRing c s) s
  let all := [1, 2, 3, 4, 5, 6].foldr (fun c acc => s.ring c ++ acc) []
  let epoch := (all.filter (fun x => x.intact)).foldl (fun m x => max m x.epoch) 0 + 1
  let s := s.setReg Reg.recEpoch (wd epoch)
  let s := [1, 2, 3, 4, 5, 6].foldl (fun s c =>
    refreshRing c (setRec { s.rst with seqs := tabSet c (((s.ring c).filter (fun x => x.intact || (x.header && decide (c = clsKey)))).foldl (fun m x => max m x.seq) 0) s.rst.seqs } s)) s
  let s := bootWrite clsEpoch 0 (leBytes 4 epoch) s
  let s := [1, 2, 3, 4, 5, 6].foldl (fun s c => repairRing c (countTorn c (markTwins c s))) s
  let tampers := ((s.ring clsTamper).filter (fun x => x.intact && decide (x.bank = 2))).length
  refreshOwner ((s.setReg Reg.keyTamperCnt (wd tampers)).setBit Reg.recStatus 8 true)

/-! The owner lock page (R703, R704) -/

/-- Set LAST_RESULT of REC_STATUS. -/
def recResult (st : Status) (s : State) : State := s.setF Reg.recStatus 23 16 (statusCode st)

/-- The staged owner key hash. -/
def State.stagedHash (s : State) : List Byte :=
  (List.range 12).foldr (fun j acc => leBytes 4 (s.reg (Reg.recOwnerStage j)).toNat ++ acc) []

/-- Why PROGRAM is refused (R703). -/
def programRefused (v : Word) (s : State) : Refuse :=
  firstRefusal
    [need (decide (s.mode = .maintenance)) .stateConflict 0, need (!s.rst.locked) .stateConflict 0,
     need (decide (s.rst.lockPage.length < 16)) .noResource 0, need (decide (fld v 15 8 = 0xA5)) .badField 0]

/-- Why LOCK is refused (R704). -/
def lockRefused (v : Word) (s : State) : Refuse :=
  firstRefusal
    [need (decide (s.mode = .maintenance)) .stateConflict 0, need (decide (fld v 15 8 = 0xA5)) .badField 0,
     need s.ownerHash.isSome .stateConflict 0]

/-- PROGRAM of a write of REC_OWNER_CTRL. -/
def programHash (v : Word) (s : State) : State :=
  match programRefused v s with
  | some (st, _) => recResult st s
  | none =>
    let s := setRec { s.rst with lockPage := s.rst.lockPage ++ [some s.stagedHash] } s
    digestChanged (recResult .ok (raiseRecords 3 (refreshOwner s)))

/-- LOCK of a write of REC_OWNER_CTRL. -/
def lockPage (v : Word) (s : State) : State :=
  match lockRefused v s with
  | some (st, _) => recResult st s
  | none => digestChanged (recResult .ok (refreshOwner (setRec { s.rst with locked := true } s)))

/-- Registers of this block take writes in Bring-up, Service and Maintenance only (R707). -/
def State.workMode (s : State) : Bool := decide (s.mode = .bringUp ∨ s.mode = .service ∨ s.mode = .maintenance)

/-- A write of REC_OWNER_CTRL. -/
def ownerCtrlWrite (v : Word) (s : State) : State :=
  if !s.workMode then s
  else
    let s := if bitOf v 0 then programHash v s else s
    if bitOf v 1 then lockPage v s else s

/-- PROGRAM (R703): a write of REC_OWNER_CTRL. -/
def doProgram (m : Master) (v : Word) (s : State) : State := gatedWrite m Reg.recOwnerCtrl (fun _ s => ownerCtrlWrite v s) s

def execProgram (m : Master) (v : Word) (s : State) : Host.Outcome State Fault Refusal := run (doProgram m v) s

/-- LOCK (R704): a write of REC_OWNER_CTRL. -/
def doLock (m : Master) (v : Word) (s : State) : State := gatedWrite m Reg.recOwnerCtrl (fun _ s => ownerCtrlWrite v s) s

def execLock (m : Master) (v : Word) (s : State) : Host.Outcome State Fault Refusal := run (doLock m v) s

/-! REC_READ -/

/-- The record REC_READ selects (R705). -/
def State.selectRec (s : State) (cls index seq : Nat) : Option RecCopy :=
  let l := (s.ring cls).filter (fun x => x.intact && decide (x.index = index))
  if isLog cls then
    let l := l.filter (fun x => decide (seq ≤ x.seq))
    let low := l.foldl (fun (b : Option Nat) x => match b with | none => some x.seq | some m => some (min m x.seq)) none
    match low with
    | some m => bestCopy (l.filter (fun x => decide (x.seq = m)))
    | none => none
  else if seq = 0 then bestCopy l
  else bestCopy (l.filter (fun x => decide (x.seq = seq)))

/-- The 32-byte descriptor of a record (R705). -/
def State.recDescriptor (s : State) (cls : Nat) (x : RecCopy) : List Byte :=
  leBytes 8 x.seq ++ leBytes 4 x.epoch ++ leBytes 4 x.payload.length ++ leBytes 1 (b2n x.suspect + 2 * b2n (s.singleCopy cls x)) ++
  List.replicate 15 0

/-- The checks of REC_READ (R706). -/
def recReadCheck (o : Origin) (cls index length seq : Nat) (s : State) : Refuse :=
  firstRefusal
    [need (decide (1 ≤ cls ∧ cls ≤ 6 ∧ 0 < length ∧ length ≤ 864 ∧ (if cls = clsKey then index ≤ 255 else index = 0))) .badField 0,
     need (decide (cls ≠ clsKey ∧ cls ≠ clsEpoch ∧ (cls ≠ clsTamper ∨ o.tenancy = s.rigOwner))) .notOwner 0,
     needServing s,
     need (!s.fnFault) .stateConflict (objFid 43),
     need (s.bit Reg.recStatus 8) .storeBusy 0,
     need (s.selectRec cls index seq).isSome .sourceAbsent 0]

/-- What REC_READ does once its checks passed. -/
def recReadEffect (o : Origin) (cls index length seq addr : Nat) (s : State) : State :=
  let s := mailbox 43 (markTwins cls s)
  match s.selectRec cls index seq with
  | some x => completeOk o ((countRead ((List.range (ceilDiv (24 + x.payload.length) 8)) ++ [commitIndex cls]) x s).emit (.hostWrite o.tenancy addr (s.recDescriptor cls x ++ x.payload.take length)))
  | none => complete o .sourceAbsent 0 s

/-- REC_READ (R705). -/
def doRecRead (o : Origin) (cls index length seq addr : Nat) (s : State) : State :=
  loneCommand o .bare (recReadCheck o cls index length seq) (recReadEffect o cls index length seq addr) s

def execRecRead (o : Origin) (cls index length seq addr : Nat) (s : State) : Host.Outcome State Fault Refusal :=
  run (doRecRead o cls index length seq addr) s

end Sys2Proof.Machine
end

