-- ==== Sys2Proof/Machine/Timebase.lean ====
section
/-! DEFINITION. The timebase, its references and calibration (chapter 12): measurements and selection (R550 to R558), steps and slews (R559), holdover
(R561, R562), sleep (R563 to R565), calibration values and runs (R566 to R571) and stored sets (R572 to R574). The counter itself is `now`. -/

namespace Sys2Proof.Machine

open Sys2Proof

/-- Replace the timebase part of the state. -/
def setTim (t : TimeState) (s : State) : State := { s with tim := t }

/-- Raise a TMB or TMB_CAL event. -/
def raiseTmb (b : Nat) (s : State) : State := raiseEn (some s.rigOwner) 0 Reg.tmbEvent Reg.tmbEventEn b s
def raiseCal (b : Nat) (s : State) : State := raiseEn (some s.rigOwner) 0 Reg.tmbCalEvent Reg.tmbCalEventEn b s

/-- LAST_RESULT of TMB_STATUS and of TMB_CAL_STATUS. -/
def tmbResult (st : Status) (s : State) : State := s.setF Reg.tmbStatus 23 16 (statusCode st)
def calResult (st : Status) (s : State) : State := s.setF Reg.tmbCalStatus 23 16 (statusCode st)

/-! References (R550, R554, R555) -/

/-- State of a reference by code 1 to 3 (R554). -/
def State.refState (s : State) (r : Nat) : Nat := s.f Reg.tmbRefStatus (4 * (r - 1) + 2) (4 * (r - 1))
def setRef (r v : Nat) (s : State) : State :=
  let s := if v = 2 ∨ (v = 3 ∧ s.refState r = 2) then setTim { s.tim with refSince := tabSet r s.now s.tim.refSince } s else s
  s.setF Reg.tmbRefStatus (4 * (r - 1) + 2) (4 * (r - 1)) v

/-- Seconds since a reference entered QUALIFYING, or READY from it, have passed. -/
def State.refFor (s : State) (r sec : Nat) : Bool := decide (tabGetD 0 r s.tim.refSince + sec * 1000000000 ≤ s.now)

/-- References in priority order (R555). -/
def State.refPrio (s : State) : List Nat := [s.f Reg.tmbRefPrio 2 0, s.f Reg.tmbRefPrio 6 4, s.f Reg.tmbRefPrio 10 8].filter (fun r => decide (1 ≤ r ∧ r ≤ 3))

/-- The selected reference; 0 for none. -/
def State.selRef (s : State) : Nat := s.f Reg.tmbStatus 5 4

/-- State of the timebase (R557). -/
def State.tbState (s : State) : Nat := s.f Reg.tmbStatus 2 0
def setTb (v : Nat) (s : State) : State := s.setF Reg.tmbStatus 2 0 v
def tbFree : Nat := 0
def tbAcquiring : Nat := 1
def tbLocked : Nat := 2
def tbHoldover : Nat := 3

/-- LOCK_WINDOW, STEP_THRESH in ns (R575). -/
def State.lockWindow (s : State) : Nat := s.f Reg.tmbLockCfg 15 0
def State.stepThresh (s : State) : Nat := 1000 * s.f Reg.tmbStepThresh 19 0

/-- The user offset of a reference in ns. -/
def State.refOff (s : State) (r : Nat) : Int :=
  sx 32 (s.reg (if r = 1 then Reg.tmbRefOffPtp else if r = 2 then Reg.tmbRefOffPps else Reg.tmbRefOffSync)).toNat

/-! Steps -/

/-- The generators that run under LOCK_SRC EPOCH. -/
def State.epochGens (s : State) : List Nat := (List.range 256).filter (fun tg => s.genRuns tg && decide (s.lockSrc tg = 1))

/-- Move the counter by one step (R559): generators under EPOCH find a phase error, and HOUSE consumers see an underrun. -/
def stepCounter (d : Int) (s : State) : State :=
  let s := { s with now := ((s.now : Int) + d).toNat }
  let s := raiseTmb 6 (s.setReg Reg.tmbStepLast (wd (uxSat 32 d)))
  let s := s.epochGens.foldl (fun s tg =>
    if fld (s.liveReg (Reg.scnLockCfg tg)) 31 16 < d.natAbs ∧ s.lockState tg = 3 then genUnlock tg 2 s else s) s
  let amos := (s.aud.amoBind.map Prod.fst).filter (fun n => decide (s.amoDomain n = some 0) && (s.amoHitch n).isSome)
  amos.foldl (fun s n => amoStarve n s) s

/-! Calibration values (R566, R576) -/

/-- Two 16-bit halves added without carry between them. -/
def addHalves (a b : Word) : Word :=
  wd (ux 16 (sx 16 (fld a 15 0) + sx 16 (fld b 15 0)) + 0x10000 * ux 16 (sx 16 (fld a 31 16) + sx 16 (fld b 31 16)))

/-- The effective value of an item from its factory value and user delta (R566). -/
def effOf (item : Nat) (fact user : Word) : Word := if item = 1 then fact + user else addHalves fact user

/-- Write a user delta and its effective value. -/
def setUser (item w : Nat) (v : Word) (s : State) : State :=
  (s.setReg (Reg.calUser w) v).setReg (Reg.calEff w) (effOf item (s.reg (Reg.calFact w)) v)

/-- A user delta lies within its item's bound (R566). -/
def userOk (item : Nat) (v : Word) : Bool :=
  let lo := sx 16 (fld v 15 0)
  let hi := sx 16 (fld v 31 16)
  match item with
  | 0 => decide (lo.natAbs ≤ 2000 ∧ hi.natAbs ≤ 2000)
  | 1 => decide ((sx 32 v.toNat).natAbs ≤ 20000000)
  | _ => decide (lo.natAbs ≤ 20000 ∧ hi.natAbs ≤ 512)

/-- A bin is VALID (R576). -/
def State.binValid (s : State) (b : Nat) : Bool := s.bit (Reg.calAge (calWin 1 b)) 31
def setBinValid (b : Nat) (v : Bool) (s : State) : State := s.setBit (Reg.calAge (calWin 1 b)) 31 v

/-- HOLD_CAL (R562): outside HOLDOVER that the present bin is VALID; in it, that every bin since its entry was. -/
def refreshHoldCal (s : State) : State :=
  let b := s.binValid s.tim.bin
  s.setBit Reg.tmbStatus 6 (b && (decide (s.tbState ≠ tbHoldover) || s.bit Reg.tmbStatus 6))

/-- AGE of an item as it reads (R576): seconds since it was last measured. -/
def State.ageWord (s : State) (w : Nat) : Word :=
  let rate := decide (0x42000 ≤ w ∧ w < 0x42100)
  match tabGet w s.tim.ages with
  | none => s.reg (Reg.calAge w)
  | some t =>
    let sec := (s.now - t) / 1000000000
    if rate then setFld (s.reg (Reg.calAge w)) 30 0 (min sec 0x7FFFFFFF) else wd (min sec 0xFFFFFFFF)

/-- The counter-rate value of a bin in parts per 10¹². -/
def State.rateOf (s : State) (b : Nat) : Int := sx 32 (s.reg (Reg.calEff (calWin 1 b))).toNat

/-- The rate adjustment while no reference disciplines the counter: FREERUN takes out the effective rate of the bin (R557). -/
def freeRate (s : State) : State := s.setReg Reg.tmbFreqAdj (wd (uxSat 32 (-(s.rateOf s.tim.bin))))

/-! Runs that end early -/

/-- The calibration fid of an item (R570). -/
def calFid (item : Nat) : Nat := if item = 0 then 1 else 0

/-- The run a calibration fid carries out: the first of its items. -/
def State.calCurrent (s : State) (fc : Nat) : Option CalRun := s.tim.runs.find? (fun r => decide (calFid r.item = fc))

/-- The busy bits of TMB_CAL_STATUS. -/
def refreshCal (s : State) : State :=
  (s.setBit Reg.tmbCalStatus 0 (s.calCurrent 0).isSome).setBit Reg.tmbCalStatus 1 (s.calCurrent 1).isSome

/-- End a run with a status (R569 to R571): events, counts of the background schedule, the command's completion. -/
def endCal (r : CalRun) (st : Status) (s : State) : State :=
  let s := refreshCal (setTim { s.tim with runs := s.tim.runs.filter (fun x => decide (x ≠ r)) } s)
  let s := (s.setF Reg.tmbCalStatus 5 4 r.item).setF Reg.tmbCalStatus 15 8 (if r.item = 0 then r.index else s.f Reg.tmbCalStatus 15 8)
  let s := calResult st s
  let s := match st with
    | .ok => raiseCal 0 s
    | .calDisagree => raiseCal 1 (if r.background then s.bump Reg.tmbCalDisagreeCnt 1 else s)
    | .notQuiescent => raiseCal 2 (if r.background then s.bump Reg.tmbCalNqCnt 1 else s)
    | .badField => raiseCal 3 s
    | _ => s
  match r.origin with
  | some o => complete o st (if r.item = 0 then objStrand r.index else 0) s
  | none => s

/-- Runs whose input state is disturbed end with NOT_QUIESCENT (R568). -/
def disturbCal (p : CalRun → Bool) (s : State) : State :=
  (s.tim.runs.filter p).foldl (fun s r => endCal r .notQuiescent s) s

/-- Runs end without result as sleep or Lockdown begins (R571). -/
def abortCal (s : State) : State :=
  let s' := s.tim.runs.foldl (fun s r => match r.origin with
    | some o => complete o .aborted 0 s
    | none => s) s
  refreshCal (setTim { s'.tim with runs := [] } s')

/-! Selection (R556, R558) -/

/-- Select a reference: the counter is disciplined to it from its next measurement. -/
def selectRef (r : Nat) (s : State) : State :=
  let old := s.selRef
  let s := if old ≠ 0 ∧ s.refState old = 4 then setRef old 3 s else s
  let s := (setRef r 4 s).setF Reg.tmbStatus 5 4 r
  let s := setTim { s.tim with fresh := true, inside := 0, outside := 0 } s
  let s := if old ≠ 0 then raiseTmb 5 s else s
  let s := disturbCal (fun _ => true) s
  if s.tbState = tbFree ∨ s.tbState = tbHoldover then refreshHoldCal (setTb tbAcquiring s) else s

/-- The rate adjustment changes (R559, R561): while LOCKED it is kept for the average, with the time since which it holds; what ended more than 60 s ago is let go. -/
def setRate (v : Word) (s : State) : State :=
  let s := s.setReg Reg.tmbFreqAdj v
  if s.tbState ≠ tbLocked then setTim { s.tim with rates := [] } s
  else
    let l := s.tim.rates
    let k := (l.takeWhile (fun e => decide (s.now < e.1 + 60000000000))).length
    setTim { s.tim with rates := (s.now, sx 32 v.toNat) :: l.take (k + 1) } s

/-- The adjustments of the last 60 s of LOCKED, weighted by the time each held up to `t`. -/
def rateSum (start : Nat) : Nat → List (Nat × Int) → Int × Nat
  | _, [] => (0, 0)
  | t, e :: l =>
    let a := max e.1 start
    let rest := rateSum start a l
    if a < t then (rest.1 + e.2 * ((t - a : Nat) : Int), rest.2 + (t - a)) else rest

/-- The rate that the counter keeps in HOLDOVER (R561): that it was disciplined to, averaged over the last 60 s of LOCKED; the present one where it was not LOCKED. -/
def State.heldRate (s : State) : Word :=
  let r := rateSum (s.now - 60000000000) s.now s.tim.rates
  if r.2 = 0 then s.reg Reg.tmbFreqAdj else wd (uxSat 32 (r.1 / (r.2 : Int)))

/-- Enter HOLDOVER (R558, R561, R658). -/
def enterHoldover (s : State) : State :=
  let s := (setTb tbHoldover (s.setReg Reg.tmbFreqAdj s.heldRate)).setF Reg.tmbStatus 5 4 0
  let s := setTim { s.tim with holdSince := s.now, inside := 0, outside := 0, rates := [] } s
  alert 4 (raiseTmb 2 ((s.setBit Reg.tmbStatus 6 (s.binValid s.tim.bin)).setReg Reg.tmbHoldTime 0))

/-- The highest READY reference (R555). -/
def State.bestReady (s : State) : Option Nat := s.refPrio.find? (fun r => decide (s.refState r = 3))

/-- After the selected reference went: the next READY one, or HOLDOVER (R556). -/
def reselect (s : State) : State :=
  match s.bestReady with
  | some r => selectRef r s
  | none => if s.tbState = tbAcquiring ∨ s.tbState = tbLocked then disturbCal (fun _ => true) (enterHoldover s) else s.setF Reg.tmbStatus 5 4 0

/-- A reference goes: to ABSENT, or to DISABLED when it is no longer named (R554). -/
def refGone (r v : Nat) (s : State) : State :=
  let was := s.refState r
  let s := setRef r v s
  let s := if v = 1 ∧ (was = 3 ∨ was = 4) then raiseTmb 3 s else s
  if was = 4 then reselect s else s

/-- REF_LOST (R550, R554, R556): a reference is lost under its time-out. -/
def doRefLost (r : Nat) (s : State) : State :=
  if !decide (1 ≤ r ∧ r ≤ 3) || decide (s.refState r < 2) then s
  else
    let s := if r = 1 then setTim { s.tim with parent := none } s else s
    let s := if r = 3 then s.setBit Reg.tmbRefsyncFmt 0 false else s
    refGone r 1 s

def execRefLost (r : Nat) (s : State) : Host.Outcome State Fault Refusal := run (doRefLost r) s

/-- A reference stands before another in TMB_REF_PRIO. -/
def State.refBefore (s : State) (a b : Nat) : Bool :=
  match s.refPrio.find? (fun r => decide (r = a ∨ r = b)) with
  | some r => decide (r = a)
  | none => false

/-- REF_READY (R554, R556): a reference that has been QUALIFYING for QUAL seconds is READY; it is selected when none is. -/
def doRefReady (r : Nat) (s : State) : State :=
  if !decide (1 ≤ r ∧ r ≤ 3) || decide (s.refState r ≠ 2) || !s.refFor r (s.f Reg.tmbLockCfg 31 24) then s
  else
    let s := raiseTmb 4 (setRef r 3 s)
    if s.selRef = 0 then selectRef r s else s

def execRefReady (r : Nat) (s : State) : Host.Outcome State Fault Refusal := run (doRefReady r) s

/-- HOLDOFF_EXPIRY (R556): a higher reference has stayed READY for HOLDOFF, and revertive switching selects it. -/
def doHoldoffExpiry (r : Nat) (s : State) : State :=
  if decide (1 ≤ r ∧ r ≤ 3) && decide (s.refState r = 3) && s.refFor r (s.f Reg.tmbLockCfg 23 16) && s.bit Reg.tmbCtrl 1 && decide (s.selRef ≠ 0) && s.refBefore r s.selRef then selectRef r s else s

def execHoldoffExpiry (r : Nat) (s : State) : Host.Outcome State Fault Refusal := run (doHoldoffExpiry r) s

/-! Measurements -/

/-- A presence of a named reference: QUALIFYING when its rate fits, else not present (R554). -/
def refSeen (r : Nat) (rateOk : Bool) (s : State) : State :=
  match s.refState r with
  | 1 => if rateOk then setRef r 2 s else s
  | 2 => if rateOk then s else setRef r 1 s
  | _ => s

/-- The lock state after a measurement of the selected reference (R558). -/
def lockCount (off : Int) (first : Bool) (s : State) : State :=
  let ok := decide (off.natAbs ≤ s.lockWindow)
  let i := if ok then s.tim.inside + 1 else 0
  let k := if ok then 0 else s.tim.outside + 1
  let s := setTim { s.tim with inside := i, outside := k } s
  if s.tbState = tbAcquiring ∧ 8 ≤ i then raiseTmb 0 (setTb tbLocked s)
  else if s.tbState = tbLocked ∧ (4 ≤ k ∨ (first ∧ !ok)) then raiseTmb 1 (setTb tbAcquiring s)
  else s

/-- Remove an offset (R559, R565): by one step at the first selection after reset and after a wake, by the threshold and STEP_EN else, by slewing
otherwise. The disciplined rate is free. -/
def removeOffset (off : Int) (first : Bool) (s : State) : State :=
  let big := decide (s.stepThresh < off.natAbs)
  let must := (first && !s.tim.selectedOnce) || s.tim.wakeStep
  let steps := must || (big && s.bit Reg.tmbCtrl 0 && (first || decide (s.tbState = tbAcquiring)))
  let s := (setRate (Config.freeWord s.draws) s).draw
  let s := (setTim { s.tim with fresh := false, selectedOnce := true, wakeStep := false } s).setBit
    Reg.tmbStatus 8 false
  if steps then stepCounter off s else s

/-- A measurement of a reference (R550): its time less the counter's. -/
def measure (r : Nat) (raw : Int) (rateOk : Bool) (s : State) : State :=
  let s := refSeen r rateOk s
  if s.selRef ≠ r then s
  else
    let off := raw + s.refOff r
    let first := s.tim.fresh
    lockCount off first (removeOffset off first (s.setReg Reg.tmbOffset (wd (uxSat 32 off))))

/-! Time of day (R553) -/

/-- TOD in ns. -/
def State.todNs (s : State) : Nat := ((s.reg Reg.tmbTodSecLo).toNat + 0x100000000 * s.f Reg.tmbTodSecHi 15 0) * 1000000000

/-- Apply an armed time of day: the counter is stepped to a value. -/
def applyTod (v : Nat) (s : State) : State :=
  stepCounter ((v : Int) - (s.now : Int)) ((s.setBit Reg.tmbTodCtrl 0 false).setBit Reg.tmbStatus 7 true)

/-- The phase-consistent instant nearest to a time: a reference's instant plus whole frame periods of `num`/`den` frames per second. -/
def nearestPhase (at_ : Int) (t : Nat) (num den : Nat) : Nat :=
  let d := (t : Int) - at_
  let k := (2 * d * num + 1000000000 * den) / (2 * 1000000000 * den)
  (at_ + k * 1000000000 * den / (num : Int)).toNat

/-- Frames per second of a RATE_SEL (R403). -/
def rateSel (r : Nat) : Nat × Nat :=
  match r with
  | 0 => (60, 1) | 1 => (60000, 1001) | 2 => (50, 1) | 3 => (30, 1) | 4 => (30000, 1001) | 5 => (25, 1) | 6 => (24, 1) | _ => (24000, 1001)

/-- A write of TMB_TOD_CTRL (R553). -/
def todCtrlWrite (v : Word) (s : State) : State :=
  if !s.workMode then tmbResult .stateConflict s
  else if !bitOf v 0 then s
  else if s.selRef = 1 then tmbResult .stateConflict s
  else
    let s := s.setBit Reg.tmbTodCtrl 0 true
    if s.selRef = 0 then applyTod s.todNs s else s

/-- TOD_ARM (R553). -/
def doTodArm (m : Master) (v : Word) (s : State) : State := gatedWrite m Reg.tmbTodCtrl (fun _ s => todCtrlWrite v s) s

def execTodArm (m : Master) (v : Word) (s : State) : Host.Outcome State Fault Refusal := run (doTodArm m v) s

/-- The timebase runs: fast clocks run in every mode but Off, Reset, Doze and Deep sleep. -/
def State.clocksRun (s : State) : Bool :=
  decide (s.mode = .bringUp ∨ s.mode = .service ∨ s.mode = .maintenance ∨ s.mode = .lockdown)

/-- PPS_EDGE (R550, R553): it measures 10M_PPS, and applies an armed time of day. -/
def doPpsEdge (obs : RefObs) (s : State) : State :=
  if !s.clocksRun then s
  else
    let armed := s.bit Reg.tmbTodCtrl 0 && decide (s.selRef = 2)
    let s := measure 2 obs.offset obs.rateOk s
    if armed then applyTod s.todNs s else s

def execPpsEdge (obs : RefObs) (s : State) : Host.Outcome State Fault Refusal := run (doPpsEdge obs) s

/-- A format REF_SYNC accepts (R550): black burst of 525 or 625 lines, or a 720p or 1080 entry of the built-in table. -/
def refSyncOk (entry rate : Nat) (blackBurst : Bool) : Bool :=
  (tableHTotal entry rate).isSome && (if blackBurst then decide (entry ≤ 1) else decide (2 ≤ entry ∧ entry ≤ 5))

/-- REF_SYNC_FRAME (R550, R552, R553): its format is reported and its alignment point measured. -/
def doRefSyncFrame (entry rate : Nat) (blackBurst : Bool) (obs : RefObs) (s : State) : State :=
  if !s.clocksRun then s
  else if !refSyncOk entry rate blackBurst then
    (if s.refState 3 < 2 then s.setReg Reg.tmbRefsyncFmt 0 else refGone 3 1 (s.setReg Reg.tmbRefsyncFmt 0))
  else
    let s := s.setReg Reg.tmbRefsyncFmt (wd (1 + 2 * entry + 0x100 * rate + 0x800 * b2n blackBurst))
    let armed := s.bit Reg.tmbTodCtrl 0 && decide (s.selRef = 3)
    let at_ := (s.now : Int) + obs.offset + s.refOff 3
    let s := measure 3 obs.offset obs.rateOk s
    if armed then
      let r := rateSel rate
      applyTod (nearestPhase at_ s.todNs r.1 r.2) s
    else s

def execRefSyncFrame (entry rate : Nat) (blackBurst : Bool) (obs : RefObs) (s : State) : Host.Outcome State Fault Refusal :=
  run (doRefSyncFrame entry rate blackBurst obs) s

/-! PTP (R179, R551) -/

/-- An interface is a PTP port for a domain. -/
def State.ptpPort (s : State) (n domain : Nat) : Bool :=
  s.bit (Reg.ethIfCtrl n) 0 && decide (s.f (Reg.ethIfCtrl n) 15 8 = domain) && s.clocksRun

/-- The parent's port changes: a change of reference (R551, R556). -/
def newParent (n : Nat) (s : State) : State :=
  if s.tim.parent = some n then s
  else
    let had := s.tim.parent.isSome
    let s := setTim { s.tim with parent := some n } s
    if had ∧ s.selRef = 1 then disturbCal (fun _ => true) (raiseTmb 5 (setTim { s.tim with fresh := true, inside := 0, outside := 0 } s)) else s

/-- PTP_MESSAGE_RX (R163, R179, R549 to R551): a message is timestamped at the pins and used by the port and the timebase. -/
def doPtpMessageRx (n : Nat) (msg : PtpMessage) (s : State) : State :=
  match msg with
  | .announce d best => if s.ptpPort n d && best then newParent n s else s
  | .sync d off rateOk two =>
    if s.ptpPort n d && decide (s.tim.parent = some n) then
      (if two then { s with wire := { s.wire with ptpSync := tabSet n 1 s.wire.ptpSync } }
       else measure 1 (off + s.rxLatency n - tabGetD 0 n s.wire.pathDelay) rateOk s)
    else s
  | .followUp d off rateOk =>
    if s.ptpPort n d && decide (s.tim.parent = some n) && (tabGet n s.wire.ptpSync).isSome then
      measure 1 (off + s.rxLatency n - tabGetD 0 n s.wire.pathDelay) rateOk { s with wire := { s.wire with ptpSync := tabDel n s.wire.ptpSync } }
    else s
  | .delayResp d mean =>
    if s.ptpPort n d && s.mayTransmit n && (tabGet n s.tim.delayOut).isSome then
      setTim { s.tim with delayOut := tabDel n s.tim.delayOut } { s with wire := { s.wire with pathDelay := tabSet n (mean - (s.rxLatency n + s.txLatency n) / 2) s.wire.pathDelay } }
    else s

def execPtpMessageRx (n : Nat) (msg : PtpMessage) (s : State) : Host.Outcome State Fault Refusal := run (unlessStopped (n / 8) (doPtpMessageRx n msg)) s

/-- A Delay_Req message (R179): header, port identity of the interface, sequence number, and an origin timestamp of 0 (PRESUMED from IEEE 1588, log entry on packet layouts). -/
def delayReq (mac domain seq : Nat) : List Nat :=
  [0x01, 0x12, 0, 44, domain, 0] ++ List.replicate 14 0 ++ beBytes 3 (mac / 0x1000000) ++ [0xFF, 0xFE] ++ beBytes 3 (mac % 0x1000000) ++ [0, 1] ++
  beBytes 2 (seq % 0x10000) ++ [1, 0x7F] ++ List.replicate 10 0

/-- DELAY_REQ (R163, R179): a PTP port sends a Delay_Req to the PTP group and takes its transmit timestamp; an interface whose transmitter the strand matrix drives sends
nothing. -/
def doDelayReq (n : Nat) (s : State) : State :=
  if s.ptpPort n (s.f (Reg.ethIfCtrl n) 15 8) && decide (s.tim.parent = some n) && s.mayTransmit n then
    let seq := tabGetD 0 n s.wire.ptpSeq
    let s := setTim { s.tim with delayOut := tabSet n s.now s.tim.delayOut } { s with wire := { s.wire with ptpSeq := tabSet n ((seq + 1) % 0x10000) s.wire.ptpSeq } }
    (sendIp n 1 0 0 (s.ifIp n) 0xE0000181 17 [] (udp 319 319 (delayReq (s.ifMac n) (s.f (Reg.ethIfCtrl n) 15 8) seq)) s).draw
  else s

def execDelayReq (n : Nat) (s : State) : Host.Outcome State Fault Refusal := run (unlessStopped (n / 8) (doDelayReq n)) s

/-! Temperature -/

/-- The COUNTER_RATE bin of a temperature in tenths of a degree (R566). -/
def binOf (tenths : Int) : Nat := if tenths < -400 then 0 else min 15 ((tenths + 400) / 100).toNat

/-- The die changes bin (R557, R561, R562, R568, R589). -/
def newBin (b : Nat) (s : State) : State :=
  let old := s.tim.bin
  let s := setTim { s.tim with bin := b } s
  let s := fidEvent 42 8 (fidEvent 41 8 (disturbCal (fun r => decide (r.item = 1)) s))
  refreshHoldCal
    (if s.tbState = tbFree then freeRate s
     else if s.tbState = tbHoldover then s.setReg Reg.tmbFreqAdj (wd (uxSat 32 (sx 32 (s.reg Reg.tmbFreqAdj).toNat - s.rateOf b + s.rateOf old)))
     else s)

/-- OVER_TEMP (R764): raised once, and again only after the die has cooled 5 °C below the limit. -/
def overTemp (tenths : Int) (s : State) : State :=
  let limit : Int := 10 * s.f Reg.pwrTempLimit 7 0
  if s.pwr.hot then (if tenths ≤ limit - 50 then setPwr { s.pwr with hot := false } s else s)
  else if limit ≤ tenths then
    alert 2 (raiseEn (some s.rigOwner) 0 Reg.pwrEvent Reg.pwrEventEn 1 (setPwr { s.pwr with hot := true } s))
  else s

/-- TEMP_SAMPLE (R561, R764): the die temperature in tenths of a degree. -/
def doTempSample (tenths : Int) (s : State) : State :=
  if !s.clocksRun then s
  else
    let s := s.setReg Reg.pwrTemp (wd (ux 16 tenths))
    let s := if binOf tenths = s.tim.bin then s else newBin (binOf tenths) s
    overTemp tenths s

def execTempSample (tenths : Int) (s : State) : Host.Outcome State Fault Refusal := run (doTempSample tenths) s

/-- TMB_HOLD_TIME as it reads (R562). -/
def State.holdTime (s : State) : Word :=
  if s.tbState = tbHoldover then wd (min 0xFFFFFFFF ((s.now - s.tim.holdSince) / 1000000000)) else s.reg Reg.tmbHoldTime

/-! Calibration runs -/

/-- The input state a run needs, as far as the part's own state shows it (R568). -/
def State.calQuiet (s : State) (item index : Nat) (vcalOk : Bool) : Bool :=
  match item with
  | 0 => !s.bit (Reg.strState index) 8 && decide (s.tx index = 0)
  | 1 => decide (s.tbState = tbLocked)
  | 2 => vcalOk
  | _ => vcalOk && decide (s.refState 3 ≠ 4)

/-- A run starts, or waits for its calibration fid; without its input state it ends at once (R568). -/
def startCal (r : CalRun) (vcalOk : Bool) (s : State) : State :=
  if s.calQuiet r.item r.index vcalOk then refreshCal (setTim { s.tim with runs := s.tim.runs ++ [r] } s)
  else endCal r .notQuiescent s

/-- The index of a run: a strand, the present bin, or 0. -/
def State.calIndex (s : State) (item strand : Nat) : Nat := if item = 0 then strand else if item = 1 then s.tim.bin else 0

/-- The checks of CAL_RUN (R571). -/
def calRunCheck (o : Origin) (item strand : Nat) (s : State) : Refuse :=
  firstRefusal
    [need (decide (item ≤ 3 ∧ (item ≠ 0 ∨ strand < 128))) .badField 0,
     need (decide (o.tenancy = s.rigOwner) || (decide (item = 0) && decide (s.owner (objStrand strand) = some o.tenancy))) .notOwner
       (if item = 0 then objStrand strand else 0),
     needServing s,
     need (!s.fcFault) .stateConflict (objFid 41),
     need (!s.tim.runs.any (fun r => decide (r.item = item ∧ r.index = s.calIndex item strand))) .stateConflict (if item = 0 then objStrand strand else 0)]

/-- CAL_RUN (R571): it completes with the run's outcome. -/
def doCalRun (o : Origin) (item strand : Nat) (vcalOk : Bool) (s : State) : State :=
  loneCommand o .working (calRunCheck o item strand) (fun s => startCal ⟨item, s.calIndex item strand, some o, false, s.now⟩ vcalOk (mailbox (41 + calFid item) s)) s

def execCalRun (o : Origin) (item strand : Nat) (vcalOk : Bool) (s : State) : Host.Outcome State Fault Refusal := run (doCalRun o item strand vcalOk) s

/-- A strand is idle, and its latency has not been measured since reset or for more than 24 h (R570). -/
def State.latencyDue (s : State) (n : Nat) : Bool :=
  s.calQuiet 0 n true && (match tabGet (calWin 0 n) s.tim.ages with | none => true | some t => decide (t + 86400000000000 < s.now))

/-- The background schedule's period of an item has passed since it last started it (R570), in seconds. -/
def State.bgPeriod (s : State) (item sec : Nat) : Bool :=
  match tabGet item s.tim.bgAt with
  | none => true
  | some t => decide (t + sec * 1000000000 ≤ s.now)

/-- The background schedule runs an item now (R570). -/
def State.bgDue (s : State) (item index : Nat) : Bool :=
  s.bit Reg.tmbCalCtrl 0 && s.clocksRun && decide (s.mode ≠ .lockdown) && (s.calCurrent (calFid item)).isNone &&
  (match item with
   | 0 => decide (index < 128) && s.latencyDue index && (List.range index).all (fun n => !s.latencyDue n)
   | 1 => decide (index = s.tim.bin) && decide (s.tbState = tbLocked) && s.bgPeriod 1 60
   | 2 => decide (index = 0) && s.bgPeriod 2 600
   | 3 => decide (index = 0) && decide (s.refState 3 ≠ 4) && s.bgPeriod 3 600
   | _ => false)

/-- BG_CAL_START (R570): the background schedule starts a run. -/
def doBgCalStart (item index : Nat) (vcalOk : Bool) (s : State) : State :=
  if s.bgDue item index && !s.fcFault then startCal ⟨item, index, none, true, s.now⟩ vcalOk (setTim { s.tim with bgAt := tabSet item s.now s.tim.bgAt } s) else s

def execBgCalStart (item index : Nat) (vcalOk : Bool) (s : State) : Host.Outcome State Fault Refusal := run (doBgCalStart item index vcalOk) s

/-- The two measurements of a run agree within its tolerance (R569). -/
def calAgrees (item : Nat) (obs : CalObs) : Bool :=
  match item with
  | 0 => decide ((obs.first.1 - obs.second.1).natAbs ≤ 20 ∧ (obs.first.2 - obs.second.2).natAbs ≤ 20)
  | 1 => decide ((obs.first.1 - obs.second.1).natAbs ≤ 50000)
  | _ => decide ((obs.codes1.1 - obs.codes2.1).natAbs ≤ 8 ∧ (obs.codes1.2 - obs.codes2.2).natAbs ≤ 8)

/-- The mean of two measurements; which way a half rounds is free (R569). -/
def calMean (up : Bool) (a b : Int) : Int := (a + b + (if up then 1 else 0)) / 2

/-- The new user delta of a run, or none when it lies outside its bound (R569). -/
def State.calDelta (s : State) (item w : Nat) (obs : CalObs) : Option Word :=
  let up := decide (Config.freeNat s.draws % 2 = 1)
  let m1 := calMean up obs.first.1 obs.second.1
  let m2 := calMean up obs.first.2 obs.second.2
  let f := s.reg (Reg.calFact w)
  if item = 1 then
    let d := m1 - sx 32 f.toNat
    if d.natAbs ≤ 20000000 then some (wd (ux 32 d)) else none
  else
    let fl := if item = 0 then (fld f 15 0 : Int) else sx 16 (fld f 15 0)
    let fh := if item = 0 then (fld f 31 16 : Int) else sx 16 (fld f 31 16)
    let d1 := m1 - fl
    let d2 := m2 - fh
    let b1 := if item = 0 then 2000 else 20000
    let b2 := if item = 0 then 2000 else 512
    if d1.natAbs ≤ b1 ∧ d2.natAbs ≤ b2 then some (wd (ux 16 d1 + 0x10000 * ux 16 d2)) else none

/-- A run measured a delta within its bound: it is written, and its age restarts. -/
def calWritten (r : CalRun) (v : Word) (s : State) : State :=
  let w := calWin r.item r.index
  let s := setUser r.item w v s
  let s := setTim { s.tim with ages := tabSet w s.now s.tim.ages } s
  endCal r .ok (if r.item = 1 then refreshHoldCal (setBinValid r.index true s) else s)

/-- CAL_DONE (R568, R569): the run of a calibration fid ends. -/
def doCalDone (item index : Nat) (obs : CalObs) (s : State) : State :=
  match s.calCurrent (calFid item) with
  | none => s
  | some r =>
    if r.item ≠ item ∨ r.index ≠ index then s
    else if !obs.quiet || !s.calQuiet item index obs.quiet then endCal r .notQuiescent s
    else if !calAgrees item obs then endCal r .calDisagree s
    else
      match s.calDelta item (calWin item index) obs with
      | none => endCal r .badField s.draw
      | some v => calWritten r v s.draw

def execCalDone (item index : Nat) (obs : CalObs) (s : State) : Host.Outcome State Fault Refusal := run (doCalDone item index obs) s

/-! Stored sets -/

/-- The item windows with a USER word, in ascending offset, with their items. -/
def calWins : List (Nat × Nat) :=
  (List.range 128).map (fun n => (0, calWin 0 n)) ++ (List.range 16).map (fun b => (1, calWin 1 b)) ++ [(2, calWin 2 0), (3, calWin 3 0)]

/-- The payload of a CAL_SET record (R690). -/
def State.calSet (s : State) : List Byte :=
  calWins.foldr (fun w acc => leBytes 4 (s.reg (Reg.calUser w.2)).toNat ++ acc) [] ++
  leBytes 4 (s.reg Reg.tmbVcalUv).toNat ++ leBytes 4 (s.reg Reg.tmbRefOffPtp).toNat ++ leBytes 4 (s.reg Reg.tmbRefOffPps).toNat ++
  leBytes 4 (s.reg Reg.tmbRefOffSync).toNat ++ leBytes 4 ((List.range 16).foldl (fun a b => a + (b2n (s.binValid b)) * 2 ^ b) 0)

/-- The checks of CAL_STORE (R573, R634). -/
def calStoreCheck (o : Origin) (s : State) : Refuse :=
  firstRefusal [needRig o s, needServing s, need (!s.fcFault && !s.fnFault) .stateConflict (objFid 41), need (!s.writing clsCal) .storeBusy 0]

/-- CAL_STORE (R572, R573): it completes when its record is written. -/
def doCalStore (o : Origin) (s : State) : State :=
  loneCommand o .working (calStoreCheck o) (fun s => writeRecord clsCal 0 s.calSet (.cal (some o)) (mailbox 43 s)) s

def execCalStore (o : Origin) (s : State) : Host.Outcome State Fault Refusal := run (doCalStore o) s

/-- AUTO_STORE (R572): AUTO_STORE_H hours have passed since Bring-up or the last such store. -/
def doAutoStore (s : State) : State :=
  if s.bit Reg.tmbCalCtrl 1 && s.recordsRun && decide (s.tim.autoAt + s.f Reg.tmbCalCtrl 15 8 * 3600000000000 ≤ s.now) then
    writeRecord clsCal 0 s.calSet (.cal none) (setTim { s.tim with autoAt := s.now } s)
  else s

def execAutoStore (s : State) : Host.Outcome State Fault Refusal := run doAutoStore s

/-- Apply a calibration set (R574). -/
def applyCal (x : RecCopy) (s : State) : State :=
  let p := x.payload
  let s := (calWins.zipIdx).foldl (fun s e => setUser e.1.1 e.1.2 (wd (leAt p (4 * e.2) 4)) s) s
  let s := ((s.setReg Reg.tmbVcalUv (wd (leAt p 584 4))).setReg Reg.tmbRefOffPtp (wd (leAt p 588 4))).setReg Reg.tmbRefOffPps (wd (leAt p 592 4))
  let s := s.setReg Reg.tmbRefOffSync (wd (leAt p 596 4))
  let s := (List.range 16).foldl (fun s b => setBinValid b ((leAt p 600 4).testBit b) s) s
  s.setReg Reg.tmbCalSetSeq (wd x.seq)

/-- In a bank's half, a set newer than the one used is torn: its copy lies after that set's and is not intact, and no field of it is read (R574, R688). -/
def State.calTorn (s : State) (best : Option RecCopy) (b : Nat) : Bool :=
  let l := (s.ring clsCal).filter (fun x => decide (x.bank = b))
  let used := fun (x : RecCopy) => x.intact && decide (best.map (fun y => y.seq) = some x.seq)
  (best.isNone || l.any used) && (l.reverse.takeWhile (fun x => !used x)).any (fun x => !x.intact)

/-- FN loads the newest intact set in Bring-up; a newer torn one is reported (R574). -/
def loadCal (s : State) : State :=
  let best := s.newestRec clsCal 0
  let torn := s.calTorn best 2 || s.calTorn best 3
  let s := match best with
    | some x => applyCal x s
    | none => s
  let s := setTim { s.tim with autoAt := s.now } s
  refreshHoldCal (freeRate (if torn then logBit 0 Reg.tmbCalEvent 4 (raiseCal 4 (s.setBit Reg.tmbCalStatus 24 true)) else s))

/-! Sleep (R563 to R565) -/

/-- The timebase stores its state as sleep begins (R563); the tick period in ps is measured and free. -/
def timeSleep (s : State) : State :=
  let x : SleepTime := ⟨s.now, s.pwr.coarse, Config.freeNat s.draws, s.reg Reg.tmbFreqAdj, s.tbState, s.selRef⟩
  setTim { s.tim with sleep := some x } s.draw

/-- The timebase wakes (R564, R565): the counter takes the stored value and the ticks counted; a timebase that had a reference wakes in HOLDOVER. -/
def timeWake (s : State) : State :=
  match s.tim.sleep with
  | none => s
  | some x =>
    let s := { s with now := x.counter + (s.pwr.coarse - x.ticks) * x.periodPs / 1000 }
    let s := setTim { s.tim with sleep := none } s
    let s := if x.state = tbFree then s
      else
        let s := [1, 2, 3].foldl (fun s r => if 2 ≤ s.refState r then setRef r 1 s else s) s
        let s := alert 4 (((setTb tbHoldover s).setF Reg.tmbStatus 5 4 0).setBit Reg.tmbStatus 8 true)
        setTim { s.tim with wakeStep := true, parent := none, holdSince := s.now } s
    raiseTmb 7 s

/-! Register writes (R567, R575) -/

/-- A value of a TMB register that is out of range, or not (R575). -/
def tmbBad (a : Nat) (v : Word) : Bool :=
  if a = Reg.tmbRefPrio then
    let l := [fld v 2 0, fld v 6 4, fld v 10 8]
    let n := l.filter (fun r => decide (r ≠ 0))
    l.any (fun r => decide (3 < r)) || decide (n.eraseDups.length ≠ n.length)
  else if a = Reg.tmbSlew then !decide (1 ≤ fld v 15 0 ∧ fld v 15 0 ≤ 10000)
  else if a = Reg.tmbStepThresh then !decide (1 ≤ fld v 19 0 ∧ fld v 19 0 ≤ 1000000)
  else if a = Reg.tmbLockCfg then !decide (100 ≤ fld v 15 0 ∧ fld v 15 0 ≤ 10000 ∧ 1 ≤ fld v 31 24 ∧ fld v 31 24 ≤ 60)
  else if a = Reg.tmbRefOffPtp ∨ a = Reg.tmbRefOffPps ∨ a = Reg.tmbRefOffSync then decide (1000000 < (sx 32 v.toNat).natAbs)
  else if a = Reg.tmbVcalUv then !decide (900000 ≤ v.toNat ∧ v.toNat ≤ 1100000)
  else if a = Reg.tmbCalCtrl then decide (fld v 15 8 = 0)
  else false

/-- References enter or leave TMB_REF_PRIO (R554). -/
def prioChanged (s : State) : State :=
  [1, 2, 3].foldl (fun s r =>
    if s.refPrio.contains r then (if s.refState r = 0 then setRef r 1 s else s)
    else if s.refState r = 0 then s
    else refGone r 0 s) s

/-- A write of a TMB register that passed the gate (R575); in Lockdown one to an event register still clears its bits (R751). -/
def tmbWrite (l : Loc) (a : Nat) (v : Word) (s : State) : State :=
  if s.mode = .lockdown ∧ l.row.acc = .w1c then plainWrite l a v s
  else if !s.workMode then tmbResult .stateConflict s
  else if l.row.acc = .w1c then plainWrite l a v s
  else if a = Reg.tmbTodCtrl then todCtrlWrite v s
  else if l.row.acc = .rw then
    let v := merge l.row.mask (s.reg a) v
    if tmbBad a v then (if a = Reg.tmbVcalUv ∨ a = Reg.tmbCalCtrl then calResult .badField s else tmbResult .badField s)
    else
      let s := s.setReg a v
      if a = Reg.tmbRefPrio then prioChanged s else s
  else s

/-- A write of an item window's USER word that passed the gate (R567). -/
def userWrite (item index w : Nat) (v : Word) (s : State) : State :=
  if !s.workMode then tmbResult .stateConflict s
  else if s.tim.runs.any (fun r => decide (r.item = item ∧ r.index = index)) then calResult .stateConflict s
  else if !userOk item v then calResult .badField s
  else
    let s := setUser item w v s
    if s.tbState = tbFree then freeRate s else s

end Sys2Proof.Machine
end

