-- ==== Sys2Proof/Machine/Load.lean ====
section
/-! DEFINITION. The rig image (chapter 2): load checks (R62), the early map (R63), and what an image's plans set in the part (R47, R52). The table lists the
sections in the order of R47: EARLY_MAP, TENANCY_PLAN, FRAME_STORE_PLAN, FABRIC_SLICES, then ZONE_PLAN of Z0 to Z15, then FID_IMAGE of fids 0 to 43. -/

namespace Sys2Proof.Machine

open Sys2Proof

/-- Replace the state of the rig image. -/
def setRig (r : RigState) (s : State) : State := { s with rig := r }

/-! Load checks -/

/-- A failed check: REASON and SECTION of SYS_RIG_LOAD_STATUS (R82). -/
abbrev LoadFail := Option (Nat × Nat)

/-- Fail with a reason that names no section. -/
def failUnless (ok : Bool) (reason : Nat) : LoadFail := if ok then none else some (reason, 0xFF)

/-- The first failure. -/
def firstFail : List LoadFail → LoadFail
  | [] => none
  | some f :: _ => some f
  | none :: l => firstFail l

/-- Steps 1 to 8 (R62). An erased slot has no MAGIC. -/
def State.headCheck (s : State) (img : Option RigImage) : LoadFail :=
  match img with
  | none => some (1, 0xFF)
  | some i =>
    firstFail
      [failUnless (magicOk i) 1, failUnless (decide (fmtMajor i = 1)) 2, failUnless (decide (imagePart i = 0x128)) 3, failUnless (decide (imageStepping i = 0xB0)) 4,
       failUnless (layoutOk i) 5, failUnless (!s.pwr.debug || imageDebugOk i) 6,
       failUnless (s.keyAllowed (blockKeyDigest (signatureBlock i))) 7, failUnless (blockVerifies (signatureBlock i) (headerDigest i)) 8,
       failUnless (decide (s.rig.selector.floor ≤ secVersion i)) 9]

/-! The sections (R47): EARLY_MAP, TENANCY_PLAN, FRAME_STORE_PLAN, FABRIC_SLICES, the zone plans of Z0 to Z15, the images of fids 0 to 43 -/

/-- The zone whose splice fid `f` is. -/
def fidOfZone (f : Nat) : Option Nat := if 1 ≤ f ∧ f ≤ 32 then some ((f - 1) / 2) else none

/-- TYPE and ZONE of the section at a place of the table. -/
def sectionType (k : Nat) : Nat × Nat :=
  if k < 4 then (k + 1, 0xFF) else if k < 20 then (0x10, k - 4) else (0x20, (fidOfZone (k - 20)).getD 0xFF)

/-- The stored bytes of a section as a pass over the slot reads them: `read` lists the sections that read otherwise than they were written. -/
def storedRead (i : RigImage) (read : List (Nat × List Byte)) (k : Nat) : List Byte :=
  match read.find? (fun e => decide (e.1 = k)) with
  | some e => e.2
  | none => storedBytes i k

/-- The plain bytes of a section. -/
def State.plainSection (s : State) (i : RigImage) (read : List (Nat × List Byte)) (k : Nat) : List Nat := plainOf s.key.rigKey i k (storedRead i read k)

/-- A fid's image. -/
def State.fidImage (s : State) (i : RigImage) (f : Nat) : FidImage := fidImageOf (s.plainSection i [] (20 + f))

/-! Contents of the sections (step 12) -/

/-- Numbers without repeats. -/
def noRepeats (l : List Nat) : Bool := decide (l.eraseDups.length = l.length)

/-- Strands of a map: each entry valid, and none twice (R93, R102, R106). -/
def strandsOk (l : List StrandEntry) : Bool :=
  l.all (fun c => strandCfgOk c) && noRepeats (l.flatMap (fun c => namedStrands c))

/-- An early map (R47, R609): its taut hitches join strands in early service. -/
def earlyMapOk (m : EarlyMap) : Bool :=
  let ns := m.strands.flatMap (fun c => namedStrands c)
  decide (m.bifurcation ≤ 2) && strandsOk m.strands && m.bights.all (fun b => decide (b.bight < 8)) &&
  m.hitches.all (fun h => ns.contains h.1 && ns.contains h.2) && noRepeats (m.hitches.map Prod.fst)

/-- Links of a bifurcation (R609). -/
def linkCount (b : Nat) : Nat := if b = 0 then 1 else if b = 1 then 2 else 4

/-- A tenancy plan (R42, R610): tenancies up to the number of links, one of them the rig owner, 16 DMA engines among them, and partitions apart. -/
def tenancyPlanOk (b : Nat) (p : TenancyPlan) : Bool :=
  decide (1 ≤ p.tenancies.length ∧ p.tenancies.length ≤ linkCount b ∧ p.rigOwner < p.tenancies.length) &&
  noRepeats (p.tenancies.flatMap (fun e => e.dmaEngines)) && p.tenancies.all (fun e => e.dmaEngines.all (fun d => decide (d < 16))) &&
  p.tenancies.all (fun e => decide (e.deviceExtents ≤ e.partCount ∧ e.share ≤ 100 ∧ e.policy.getD 0 < 3))

/-- A frame-store plan (R430 to R432, R450): supported modules, the same capacity on every channel in the plan, and one module a channel at DDR5-6400. -/
def storePlanOk (p : StorePlan) : Bool :=
  decide (p.speed ≤ 2 ∧ p.modules.length ≤ 12 ∧ 50 ≤ p.budgetPct ∧ p.budgetPct ≤ 85) &&
  p.modules.all (fun l => decide (l.length ≤ (if p.speed = 2 then 1 else 2)) && l.all (fun g => [16, 32, 48, 64, 96, 128].contains g)) &&
  decide (((plannedChannels p).map (fun m => channelGB p m)).eraseDups.length ≤ 1)

/-- Register slices (R671): at most 4 on the path from one of the four master groups to one target. -/
def slicesOk (l : List (Nat × Nat × Nat)) : Bool := l.all (fun e => decide (e.1 < 4 ∧ e.2.2 ≤ 4))

/-- The zone that holds a producer, a consumer or an audio end (R49, R50). -/
def producerZone : Producer → Nat
  | .sdiDec n _ => n / 8
  | .dispSink dp => (64 + 4 * dp) / 8
  | .rx2110 f => f / 32
  | .sbOut n => sbZone n
  | .cpOut n => n / 2
  | .player n => n / 16

def consumerZone : Consumer → Nat
  | .sdiEnc n _ => n / 8
  | .dispSrc dp => (64 + 4 * dp) / 8
  | .tx2110 f => f / 32
  | .sbIn n => sbZone n
  | .layer cp _ => cp / 2
  | .recorder n => n / 16

def audioZone : AudioEnd → Nat
  | .wire n _ => n / 8
  | .flow f _ => f / 256
  | .sap n _ => n
  | .aes p _ => p % 8
  | .src n => n / 32

/-- Bindings of zone `k` (R29, R35, R50): ports of the zone, `size` a zone, each bound once, to an end of the zone that is bound once. -/
def bindingsOk {α : Type} [DecidableEq α] (k size : Nat) (zoneOf : α → Nat) (l : List (Nat × α)) : Bool :=
  l.all (fun e => decide (e.1 / size = k ∧ zoneOf e.2 = k)) && noRepeats (l.map Prod.fst) &&
  decide ((l.map Prod.snd).eraseDups.length = l.length)

/-- Layers that a zone plan gives a compositor. -/
def layersOf (z : ZonePlan) (cp : Nat) : Nat := ((z.layers.find? (fun e => decide (e.1 = cp))).map Prod.snd).getD 0

/-- The engine pool of zone `k` (R42, R52, R331, R340): gangs and rings of its sheet bends, 2 to 8 layers a compositor and 16 together, scalers 0 to 3 of those layers,
and generators, recorders and players of the zone. -/
def poolOk (k : Nat) (z : ZonePlan) : Bool :=
  z.gangs.all (fun g => decide (g < 24 ∧ sbZone (4 * g) = k)) && noRepeats z.gangs &&
  z.layers.all (fun e => decide (e.1 / 2 = k ∧ 2 ≤ e.2 ∧ e.2 ≤ 8)) && noRepeats (z.layers.map Prod.fst) &&
  decide (layersOf z (2 * k) + layersOf z (2 * k + 1) ≤ 16) &&
  z.scalers.all (fun e => decide (e.1 / 16 = k ∧ e.1 % 8 < layersOf z (e.1 / 8) ∧ e.2 < 4)) && noRepeats (z.scalers.map Prod.fst) &&
  z.halved.all (fun dp => decide (dp < 16 ∧ (64 + 4 * dp) / 8 = k)) &&
  (z.timings ++ z.recorders ++ z.players).all (fun n => decide (n / 16 = k)) &&
  z.rings.all (fun r => decide (sbZone r.sb = k ∧ r.ringFrames < 16 ∧ r.slotBytes % 256 = 0)) && z.coils.all (fun c => decide (c.1 / 2 = k))

/-- The registers that hold the mode of a zone's serial audio ports (R542, R545, R546). -/
def portModeRegs (k : Nat) : List Nat :=
  [Reg.audSapRxCfg k, Reg.audSapTxCfg k] ++ (if k < 8 then [Reg.audAiCfg k, Reg.audAoCfg k] else [])

/-- The audio plan of zone `k` (R49, R518): its serial port's bound runs of at most 32 ports, and modes of its own ports. -/
def audioPlanOk (k : Nat) (z : ZonePlan) : Bool :=
  (z.sapRx ++ z.sapTx).all (fun e => decide (e.1 = k ∧ e.2.2 ≤ 32 ∧ (e.2.2 = 0 ∨ (e.2.1 / 512 = k ∧ (e.2.1 + e.2.2 - 1) / 512 = k)))) &&
  z.portModes.all (fun e => (portModeRegs k).contains e.1)

/-- A zone plan obeys the limits of R42 and the rules of R50. -/
def zonePlanOk (k : Nat) (z : ZonePlan) : Bool :=
  strandsOk z.strands && z.strands.all (fun c => decide (c.leader / 8 = k ∧ (c.leader + c.width - 1) / 8 = k)) &&
  z.bights.all (fun b => decide (2 * b.bight = k)) &&
  z.owners.all (fun e => decide (zoneOfObj e.1 = some k ∧ e.2 < 4)) && noRepeats (z.owners.map Prod.fst) &&
  z.grants.all (fun e => decide (zoneOfObj e.1 = some k ∧ e.2 < 4)) &&
  bindingsOk k 64 producerZone z.eis && bindingsOk k 64 consumerZone z.eos && bindingsOk k 512 audioZone z.amis && bindingsOk k 512 audioZone z.amos &&
  poolOk k z && audioPlanOk k z

/-- `n` parts, each preceded by a length of four bytes, fit in a section (R52). -/
def partsFit : Nat → List Nat → Bool
  | 0, _ => true
  | n + 1, l =>
    let len := leNum (l.take 4)
    decide (4 ≤ l.length ∧ len ≤ (l.drop 4).length) && partsFit n ((l.drop 4).drop len)

/-- Contents of a section within the device's limits and rules (step 12, R42, R48, R50, R52, R53, R57, R590). -/
def contentOk (i : RigImage) (k : Nat) (plain : List Nat) : Bool :=
  let x := imageSection i k
  let p := i.plans
  (imageEncrypted i || !(sectionEncrypted x)) &&
  (if k = 0 then !(sectionEncrypted x) && earlyMapOk p.earlyMap
   else if k = 1 then tenancyPlanOk p.earlyMap.bifurcation p.tenancyPlan
   else if k = 2 then storePlanOk p.storePlan
   else if k = 3 then slicesOk p.slices
   else if k < 20 then
     decide (x.plainLength ≤ 0x100000) && partsFit 5 plain &&
     (match p.zones[k - 4]? with
      | some z => zonePlanOk (k - 4) z
      | none => false)
   else decide (x.plainLength ≤ 0x10000) && fidImageOk (k - 20) plain)

/-- Steps 10 to 12 for one section. An encrypted section fails while debug is enabled, by its key (R58). -/
def State.sectionCheck (s : State) (i : RigImage) (read : List (Nat × List Byte)) (k : Nat) : LoadFail :=
  let x := imageSection i k
  let stored := storedRead i read k
  if sha384 (byteNats stored) ≠ x.digest then some (11, k)
  else if sectionEncrypted x && !sectionTagOk s.key.rigKey i k stored then some (12, k)
  else if !contentOk i k (s.plainSection i read k) then some (13, k)
  else none

/-- Step 9: every section is present with its TYPE and ZONE. -/
def presentCheck (i : RigImage) (ks : List Nat) : LoadFail :=
  firstFail (ks.map (fun k =>
    let x := imageSection i k
    if (x.typ, x.zone) = sectionType k then none else some (10, k)))

/-- Steps 9 to 12 over sections of an image: each step over every section before the next (R62). -/
def State.bodyCheck (s : State) (i : RigImage) (read : List (Nat × List Byte)) (ks : List Nat) : LoadFail :=
  let found := ks.map (s.sectionCheck i read)
  let at_ (r : Nat) : List LoadFail := found.filter (fun f => match f with | some (q, _) => decide (q = r) | none => false)
  firstFail (presentCheck i ks :: (at_ 11 ++ at_ 12 ++ at_ 13))

/-- Every section of an image. -/
def allSections : List Nat := List.range 64

/-- Every load check of R62. -/
def State.loadCheck (s : State) (img : Option RigImage) : LoadFail :=
  match img with
  | none => some (1, 0xFF)
  | some i => firstFail [s.headCheck img, s.bodyCheck i [] allSections]

/-- The status a command completes with for a failed check (R62). -/
def loadStatusOf (reason : Nat) : Status :=
  match reason with
  | 1 => .badField
  | 5 => .badField
  | 10 => .badField
  | 11 => .torn
  | 13 => .badField
  | 14 => .tamper
  | _ => .rigMismatch

/-- SYS_RIG_LOAD_STATUS (R82). -/
def showLoad (slot : Option Slot) (f : LoadFail) (s : State) : State :=
  let r := f.getD (0, 0xFF)
  s.setReg Reg.sysRigLoadStatus (wd (r.1 + 0x100 * slotCode slot + 0x10000 * r.2))

/-! The early map (R63) -/

/-- Bring one strand of a map to its configuration: its receiver and transmitter start when it changes; a strand that has it keeps on. -/
def applyStrand (c : StrandEntry) (s : State) : State :=
  if s.strandCfgIs c then s
  else
    let ns := namedStrands c
    let s := ns.foldl (fun s n => setStrand { s.strand with pllLocked := tabPut false n false s.strand.pllLocked } (stopRx n s)) s
    let s := ns.foldl (fun s n => resetWir n s) s
    let s := dpForget c (applyStrandCfg c s)
    txRefreshAll ns (ns.foldl (fun s n => startRx n s) s)

/-- The bight settings of a map: BIGHT_INIT and LOCKDOWN_CLOSE. -/
def applyBight (b : BightEntry) (s : State) : State :=
  bightRefresh b.bight ((setStrand { s.strand with bightInit := tabPut false b.bight b.init s.strand.bightInit } s).setBit
    (Reg.strBightStatus b.bight) 16 b.lockdownClose)

/-- The links train at a bifurcation (R612): they leave Detect, to which they returned first where they had left it at another one. -/
def setBifurcation (b : Nat) (s : State) : State :=
  let s := if s.host.linksDetect then s else s.emit .linksDetect
  setHost { s.host with linksDetect := false, bifurcation := some b } (s.emit (.linksTrain b))

/-- The tables of an early map: its strands are in early service, and its taut hitches wait for both strands. -/
def setEarly (m : EarlyMap) (s : State) : State :=
  setStrand { s.strand with
      early := m.strands.foldl (fun t c => (namedStrands c).foldl (fun t n => tabSet n true t) t) []
      earlyHitches := m.hitches.foldl (fun t h => tabSet h.1 h.2 t) []
      earlyPending := (m.hitches.filter (fun h => decide (s.hitch (destStrand h.1) ≠ some h.2))).map Prod.fst } s

/-- Apply an early map. -/
def applyEarly (i : RigImage) (s : State) : State :=
  let m := i.plans.earlyMap
  let s := setRig { s.rig with earlyApplied := some (imageSection i 0).digest } s
  let s := setBifurcation m.bifurcation s
  let s := setEarly m (m.bights.foldl (fun s b => applyBight b s) s)
  wakeUsed (m.strands.foldl (fun s c => applyStrand c s) s)

/-- A strand of the early map whose configuration in another image differs: its early hitches go, it is DISABLED and DOWN (R63). -/
def dropEarly (n : Nat) (s : State) : State :=
  let hs := s.strand.earlyHitches.filter (fun h => decide (h.1 = n ∨ h.2 = n))
  let s := hs.foldl (fun s h => if s.hitch (destStrand h.1) = some h.2 then bindNow (destStrand h.1) none s else s) s
  let s := setStrand { s.strand with
      early := tabDel n s.strand.early
      earlyHitches := s.strand.earlyHitches.filter (fun h => decide (h.1 ≠ n ∧ h.2 ≠ n))
      earlyPending := s.strand.earlyPending.filter (fun e => (tabGet e s.strand.earlyHitches).isSome) } s
  let s := stopRx n ((s.setF (Reg.strCfg n) 13 8 0).setF (Reg.strCfg n) 1 0 0)
  txRefresh n (setStrand { s.strand with pllLocked := tabPut false n false s.strand.pllLocked } s)

/-- The early map gives way to that of another image (R63): strands whose configuration the image keeps go on routing; the others lose their early hitches, are DISABLED and
DOWN, and start in their new configuration with the zone plans; the new early map's bights, strands and hitches are in force; a new bifurcation sends the links back to
Detect, and they train again. -/
def changeEarly (i : RigImage) (s : State) : State :=
  if s.rig.earlyApplied = some (imageSection i 0).digest then s
  else
    let m := i.plans.earlyMap
    let kept (n : Nat) : Bool := i.plans.zones.any (fun z => z.strands.any (fun c => (namedStrands c).contains n && s.strandCfgIs c))
    let s := s.strand.early.foldl (fun s e => if kept e.1 then s else dropEarly e.1 s) s
    let s := setEarly m (m.bights.foldl (fun s b => applyBight b s) s)
    let s := setRig { s.rig with earlyApplied := some (imageSection i 0).digest } s
    if s.host.bifurcation = some m.bifurcation then s else setBifurcation m.bifurcation s

/-! Zone plans (R52) -/

/-- What a port binding sets in the registers of the engine at its other end. -/
def bindEi (e : Nat × Producer) (s : State) : State :=
  let s := s.setBit (Reg.splEiStatus e.1) 1 true
  match e.2 with
  | .sbOut n => s.setF (Reg.sbdBind n) 25 16 e.1
  | .cpOut n => s.setF (Reg.cmpBind n) 9 0 e.1
  | .player n => s.setF (Reg.fstPlyId n) 25 16 e.1
  | _ => s

def bindEo (e : Nat × Consumer) (s : State) : State :=
  match e.2 with
  | .sbIn n => s.setF (Reg.sbdBind n) 9 0 e.1
  | .layer cp l => { s with eng := { s.eng with layerEos := tabSet (layerNo cp l) e.1 s.eng.layerEos } }
  | .recorder r => s.setF (Reg.fstRecId r) 25 16 e.1
  | _ => s

def bindAmi (e : Nat × AudioEnd) (s : State) : State :=
  let s := s.setBit (Reg.audAmiStatus e.1) 1 true
  match e.2 with
  | .aes k 0 => s.setF (Reg.audAiBind k) 12 0 e.1
  | .src c => s.setF (Reg.audSrcBind c) 28 16 e.1
  | _ => s

def bindAmo (e : Nat × AudioEnd) (s : State) : State :=
  match e.2 with
  | .aes k 0 => s.setF (Reg.audAoBind k) 12 0 e.1
  | .src c => s.setF (Reg.audSrcBind c) 12 0 e.1
  | _ => s

/-- Entries of a table outside zone `k`, by the zone of a key. -/
def outside {α : Type} (k : Nat) (zoneOf : Nat → Option Nat) (t : Tab α) : Tab α := tabKeep (fun c _ => decide (zoneOf c ≠ some k)) t

/-- Put a list of entries into a table. -/
def addAll {α : Type} (l : List (Nat × α)) (t : Tab α) : Tab α := l.foldl (fun t e => tabSet e.1 e.2 t) t

/-- Bytes a zone plan's frame rings and coil surfaces take in a tenancy's device area (R440). -/
def deviceBytes (z : ZonePlan) (t : Nat) : Nat :=
  let mine (c : Nat) : Bool := z.owners.any (fun e => decide (e.1 = c ∧ e.2 = t))
  (z.rings.filter (fun r => mine (objSb r.sb))).foldl (fun a r => a + r.ringFrames * r.slotBytes) 0 +
  (z.coils.filter (fun c => mine (objCp c.1))).foldl (fun a c => a + c.2) 0

/-- Give device area back, or take it. -/
def chargeDevice (take : Bool) (z : ZonePlan) (s : State) : State :=
  (List.range 4).foldl (fun s t => if take then takeDev t (deviceBytes z t) s else giveDev t (deviceBytes z t) s) s

/-- The bindings, owners and pool of zone `k` go. -/
def clearZone (k : Nat) (s : State) : State :=
  let s := { s with spl := { s.spl with
      owners := outside k zoneOfObj s.spl.owners, grants := outside k zoneOfObj s.spl.grants
      eiBind := tabKeep (fun e _ => decide (e / 64 ≠ k)) s.spl.eiBind, eoBind := tabKeep (fun e _ => decide (e / 64 ≠ k)) s.spl.eoBind } }
  let s := setAud { s.aud with
      amiBind := tabKeep (fun e _ => decide (e / 512 ≠ k)) s.aud.amiBind, amoBind := tabKeep (fun e _ => decide (e / 512 ≠ k)) s.aud.amoBind
      lines := tabKeep (fun e _ => decide (e / 512 ≠ k)) s.aud.lines, supply := tabKeep (fun e _ => decide (e / 512 ≠ k)) s.aud.supply
      framed := tabKeep (fun e _ => decide (e / 512 ≠ k)) s.aud.framed, status := tabKeep (fun e _ => decide (e / 512 ≠ k)) s.aud.status
      filters := tabKeep (fun e _ => decide (e % 0x2000 / 512 ≠ k)) s.aud.filters } s
  let s := { s with wire := { s.wire with halved := s.wire.halved.filter (fun dp => decide ((64 + 4 * dp) / 8 ≠ k)) } }
  let s := { s with eng := { s.eng with
      layerEos := tabKeep (fun n _ => decide (n / 16 ≠ k)) s.eng.layerEos, gangs := s.eng.gangs.filter (fun g => decide (sbZone (4 * g) ≠ k)) } }
  let s := setStore { s.store with recInUse := s.store.recInUse.filter (fun r => decide (r / 16 ≠ k)) } s
  let s := (List.range 96).foldl (fun s n => if sbZone n = k then
      (((s.setReg (Reg.sbdBind n) 0).setReg (Reg.sbdRing n) 0).setF (Reg.sbdId n) 13 12 0) else s) s
  let s := (List.range 24).foldl (fun s g => if sbZone (4 * g) = k then s.setBit (Reg.sbdGang g) 0 false else s) s
  let s := [2 * k, 2 * k + 1].foldl (fun s n => ((s.setF (Reg.cmpId n) 15 12 0).setReg (Reg.cmpBind n) 0).setBit (Reg.cmpStatus n) 5 false) s
  let s := (List.range 64).foldl (fun s i => s.setBit (Reg.splEiStatus (64 * k + i)) 1 false) s
  (List.range 512).foldl (fun s i => s.setBit (Reg.audAmiStatus (512 * k + i)) 1 false) s

/-- Write the plan of zone `k` but for its strands (R52): bights, ownership and grants, port bindings, engine pool, audio plan. -/
def applyPlan (k : Nat) (z : ZonePlan) (s : State) : State :=
  let s := clearZone k s
  let s := z.bights.foldl (fun s b => applyBight b s) s
  let s := { s with spl := { s.spl with
      owners := addAll z.owners s.spl.owners
      grants := z.grants.foldl (fun t e => tabPut 0 e.1 ((tabGetD 0 e.1 t) ||| 2 ^ e.2) t) s.spl.grants
      eiBind := addAll z.eis s.spl.eiBind, eoBind := addAll z.eos s.spl.eoBind } }
  let s := setAud { s.aud with amiBind := addAll z.amis s.aud.amiBind, amoBind := addAll z.amos s.aud.amoBind } s
  let s := z.amos.foldl (fun s e => bindAmo e s) (z.amis.foldl (fun s e => bindAmi e s) (z.eos.foldl (fun s e => bindEo e s) (z.eis.foldl (fun s e => bindEi e s) s)))
  let s := { s with eng := { s.eng with gangs := z.gangs ++ s.eng.gangs }, wire := { s.wire with halved := z.halved ++ s.wire.halved } }
  let s := z.gangs.foldl (fun s g =>
    (List.range 4).foldl (fun s q => s.setF (Reg.sbdId (4 * g + q)) 13 12 (if q = 0 then 3 else 1)) (s.setBit (Reg.sbdGang g) 0 true)) s
  let s := z.layers.foldl (fun s e => s.setF (Reg.cmpId e.1) 15 12 e.2) s
  let s := z.scalers.foldl (fun s e => setBothF (Reg.cmpLCtrl (e.1 / 8) (e.1 % 8)) 9 8 e.2 s) s
  let s := setStore { s.store with recInUse := s.store.recInUse ++ z.recorders } s
  let s := z.portModes.foldl (fun s e => s.setReg e.1 e.2) s
  let s := z.rings.foldl (fun s r => s.setReg (Reg.sbdRing r.sb) (wd (r.ringFrames % 16 + 0x100 * (r.slotBytes / 256)))) s
  let s := z.coils.foldl (fun s c => s.setBit (Reg.cmpStatus c.1) 5 true) s
  let s := z.sapRx.foldl (fun s e => s.setReg (Reg.audSapRxBind e.1) (wd (e.2.1 + 0x10000 * e.2.2))) s
  let s := z.sapTx.foldl (fun s e => s.setReg (Reg.audSapTxBind e.1) (wd (e.2.1 + 0x10000 * e.2.2))) s
  chargeDevice true z (z.amis.foldl (fun s e => refreshAmi e.1 s) s)

/-- Write the plan of zone `k` (R52), its strand map last. -/
def applyZone (k : Nat) (z : ZonePlan) (s : State) : State := z.strands.foldl (fun s c => applyStrand c s) (applyPlan k z s)

/-! Plans beside the zones -/

/-- Link width code of a bifurcation (R659): 0 ×16, 1 ×8, 2 ×4. -/
def linkWidth (b : Nat) : Nat := min b 2

/-- TEN_ID of a tenancy. -/
def tenIdWord (t rigOwner tenancies engines bifurcation : Nat) : Word :=
  wd (t + 4 * b2n (decide (t = rigOwner)) + 8 * (tenancies - 1) + 0x100 * engines + 0x10000 * linkWidth bifurcation)

/-- One tenancy's plan (R44, R440, R644, R650). -/
def applyTenancy (p : TenancyPlan) (b t : Nat) (e : TenancyEntry) (s : State) : State :=
  let pol := e.policy.getD 0
  let s := s.setReg (Reg.tenId t) (tenIdWord t p.rigOwner p.tenancies.length e.dmaEngines.length b)
  let s := (s.setReg (Reg.tenLanyardCfg t) (wd (e.period.getD 500 + 0x10000 * pol))).setF (Reg.tenStatus t) 3 2 pol
  let s := setHost { s.host with dmaOwner := e.dmaEngines.foldl (fun m d => tabSet d t m) s.host.dmaOwner } s
  let s := (s.setReg (Reg.fstTenPart t) (wd (e.partBase + 0x10000 * e.partCount))).setReg (Reg.fstTenShare t) (wd e.share)
  let s := (s.setReg (Reg.fstTenHostRes t) (wd e.hostReserve)).setReg (Reg.fstTenDev t) (wd e.deviceExtents)
  setStore { s.store with devFree := tabPut 0 t (e.deviceExtents * extentBytes) s.store.devFree } s

/-- The tenancy plan (R47, R655, R656, R660, R726). -/
def applyTenancies (i : RigImage) (s : State) : State :=
  let p := i.plans.tenancyPlan
  let b := s.host.bifurcation.getD 0
  let s := s.setReg Reg.tenPlan (wd (p.tenancies.length + 0x10 * p.rigOwner + 0x100 * b))
  let s := ((List.range p.tenancies.length).zip p.tenancies).foldl (fun s e => applyTenancy p b e.1 e.2 s) s
  let s := setHost { s.host with mgmtModes := p.mgmtModes, mgmtAddress := p.mgmtAddress, subsys := (subsysVendor i, subsysId i) } s
  s.setReg Reg.keyAttestSlot (match p.attestSlot with | some k => wd (k + 0x100) | none => 0)

/-- The frame-store plan (R431, R433, R450): channels power up and train. -/
def applyStorePlan (p : StorePlan) (s : State) : State :=
  let s := setStore { s.store with plan := some p, memPwrEn := (plannedChannels p).foldl (fun a m => a + 2 ^ m) 0 } (s.setReg Reg.fstBudgetPct (wd p.budgetPct))
  (plannedChannels p).foldl (fun s m => if s.chState m = 0 then setChState m 2 s else s) s

/-- SYS_RIG_STATUS and the registers of the running image (R80, R81). -/
def showImage (slot : Slot) (trial : Bool) (i : RigImage) (s : State) : State :=
  let s := s.setReg Reg.sysRigStatus (wd (slotCode (some slot) + 4 * b2n trial + 8 * b2n s.ownerHash.isNone + 16 * b2n (imageEncrypted i) + 0x100 * (fmtMinor i % 256)))
  let s := s.setReg Reg.sysRigImageVer (wd (imageVersion i))
  let d := headerDigest i
  (List.range 12).foldl (fun s j => s.setReg (Reg.sysRigDigest j) (wd (leNum ((d.drop (4 * j)).take 4)))) s

/-- An image is loaded whole (R760 step 9): plans, zones and fid cold starts. -/
def loadImage (slot : Slot) (trial : Bool) (i : RigImage) (s : State) : State :=
  let s := setRig { s.rig with running := some i, runningSlot := some slot, loading := none } (showLoad (some slot) none s)
  let s := changeEarly i (showImage slot trial i s)
  let s := applyTenancies i s
  let p := i.plans
  let s := applyStorePlan p.storePlan s
  let s := s.setReg Reg.fabSlices (wd ((p.slices.filter (fun e => decide (e.2.2 ≠ 0))).length % 256 + 0x100 * p.slices.foldl (fun a e => a + e.2.2) 0))
  let s := ((List.range p.zones.length).zip p.zones).foldl (fun s e => applyZone e.1 e.2 s) s
  let s := (List.range 44).foldl (fun s f => coldStart f (s.fidImage i f) s) s
  digestChanged (enginesRefresh (wakeUsed s))

/-- Bare service (R65): T0 is the only tenancy and the rig owner; no plan is applied. -/
def enterBare (s : State) : State :=
  let b := s.host.bifurcation.getD 0
  let s := setRig { s.rig with loading := none, running := none, runningSlot := none } s
  let s := if s.host.bifurcation.isNone then setBifurcation 0 s else s
  let s := s.setReg Reg.sysRigStatus (wd (0x20 + 8 * b2n s.ownerHash.isNone))
  let s := (s.setReg Reg.tenPlan (wd (1 + 0x100 * b))).setReg (Reg.tenId 0) (tenIdWord 0 0 1 0 b)
  let s := s.setReg (Reg.tenLanyardCfg 0) (wd 500)
  digestChanged (setHost { s.host with mgmtModes := false, subsys := (0, 0) } s)

/-- Raise a rig event and log it (R84, R700). -/
def rigEvent (b : Nat) (s : State) : State := logBit 0 Reg.sysRigEvent b (raiseRig b s)

end Sys2Proof.Machine
end

