-- ==== Sys2Proof/Machine/Lockdown.lean ====
section
/-! DEFINITION. Mode changes, the entry to Lockdown and the tamper response (R64, R727 to R731, R740, R750). -/

namespace Sys2Proof.Machine

open Sys2Proof

/-- The mode becomes `c`; PREV holds the mode it was entered from, and MODE_CHANGE is raised (R740, R765). -/
def setMode (c : Mode) (s : State) : State :=
  let old := modeCode s.mode
  raiseEn (some s.rigOwner) 0 Reg.sysEvent Reg.sysEventEn 0 ((s.setF Reg.sysMode 2 0 (modeCode c)).setF Reg.sysMode 6 4 old)

/-- SYS_MODE.LAST_RESULT reads the status of the last MODE_REQUEST (R765; DEDUCED: no rule says what sets the field). -/
def showMode (st : Status) (s : State) : State := s.setF Reg.sysMode 23 16 (statusCode st)

/-! What stops -/

/-- Commands under way in the units end with a status: calibration runs, DMA copies, strand changes, frames to send, audio hitches, flips, hook
runs, fid updates and channel power (R571, R750). -/
def endJobs (st : Status) (s : State) : State :=
  let s := abortCal s
  let s := s.host.dmaQueues.foldl (fun s e => setDmaQueue e.1 [] (e.2.foldl (fun s j => complete j.origin st 0 s) s)) s
  let s := s.strand.jobs.foldl (fun s e => complete e.2.origin st (objStrand e.1) s) s
  let s := setStrand { s.strand with jobs := [] } s
  let s := s.wire.sending.foldl (fun s e => complete e.2 st (objIface e.1) s) s
  let s := setWire { s.wire with sending := [] } s
  let s := s.aud.arms.foldl (fun s a => match a.origin with
    | some o => complete o st (objAmo a.amo) s
    | none => s) s
  let s := setAud { s.aud with arms := [] } s
  let s := s.eng.flips.foldl (fun s e => abortFlip e.1 s) s
  let s := s.fid.fids.foldl (fun s e =>
    let s := setFid e.1 { s.fidOf e.1 with queue := [] } s
    let s := endRun e.1 st s
    match (s.fidOf e.1).upd with
    | some u => endUpdate e.1 u st s
    | none => s) s
  let s := s.store.power.foldl (fun s e => complete e.2 st (objChannel e.1) s) s
  setStore { s.store with power := [] } s

/-- Every change set ends and every open batch is undone (R263, R750). -/
def endAllSets (s : State) : State :=
  let s := (List.range 4).foldl (fun s t => undoBatches t s) s
  s.spl.sets.foldl (fun s c => if (s.findSet c.id).isSome then rollbackFor c rbEnded (leaderObj c) s else s) s

/-- Every receiver is DOWN and every transmitter DISABLED; bight pairs follow (R128, R131, R745, R750). -/
def stopStrands (s : State) : State :=
  let s := (List.range 128).foldl (fun s n => if s.rx n = .down then s else stopRx n s) s
  txRefreshAll (List.range 128) s

/-- Every generator, recorder, player, flow, engine output, SAP, AES3 port and converter stops (R750). -/
def stopEngines (s : State) : State :=
  let s := (List.range 256).foldl (fun s tg =>
    if s.genRuns tg then
      genMatch tg (setLock tg 0 (setGenSt tg genInit (s.setLive (Reg.scnCtrl tg) (setFld (s.liveReg (Reg.scnCtrl tg)) 0 0 0))))
    else s) s
  let s := s.store.recInUse.foldl (fun s r => setRecSt r { s.recSt r with writing := none, skipped := false } s) s
  let s := (List.range 256).foldl (fun s p => if s.bit (Reg.fstPlyStatus p) 0 then playerStop p false s else s) s
  let s := s.wire.flows.foldl (fun s e => (setFlowPresent e.1 e.2.desc false s).setBit (flowWin e.1) 0 false) s
  let s := setWire { s.wire with flows := s.wire.flows.map (fun e => (e.1, { e.2 with desc := { e.2.desc with enable := false } })) } s
  let s := (List.range 16).foldl (fun s n =>
    let s := if s.bit (Reg.audSapRxCfg n) 0 then setSap n false (setFld (s.reg (Reg.audSapRxCfg n)) 0 0 0) (s.reg (Reg.audSapRxMask n)) s else s
    if s.bit (Reg.audSapTxCfg n) 0 then setSap n true (setFld (s.reg (Reg.audSapTxCfg n)) 0 0 0) (s.reg (Reg.audSapTxMask n)) s else s) s
  let s := (List.range 8).foldl (fun s n =>
    let s := if s.bit (Reg.audAiCfg n) 0 then setAi n (setFld (s.reg (Reg.audAiCfg n)) 0 0 0) s else s
    if s.bit (Reg.audAoCfg n) 0 then setAo n (setFld (s.reg (Reg.audAoCfg n)) 0 0 0) s else s) s
  let s := (List.range 512).foldl (fun s c => if s.bit (Reg.audSrcCfg c) 0 then setSrcCfg c false (s.f (Reg.audSrcCfg c) 15 8) s else s) s
  let s := s.spl.eiBind.foldl (fun s e => setPresent e.1 false s) s
  s.aud.amiBind.foldl (fun s e => setAmiPresent e.1 false s) s

/-- The trained channels enter self-refresh (R460, R745, R750). -/
def selfRefreshAll (s : State) : State :=
  ((List.range 12).filter (fun m => decide (3 ≤ s.chState m ∧ s.chState m ≤ 7))).foldl (fun s m => if s.refreshing m then s else intoRefresh m s) s

/-- Slot commands and a re-rig end: TAMPER where an alarm stops them (R64, R79), ABORTED where Lockdown was requested. A re-rig's own selector record that is being
written completes nothing any more. -/
def stopRigWork (tampered : Bool) (s : State) : State :=
  let st : Status := if tampered then .tamper else .aborted
  let s := s.rig.writes.foldl (fun s j => complete j.origin .aborted 0 s) s
  let s := s.rig.verifies.foldl (fun s j => complete j.2 st 0 (if tampered then showLoad (some j.1) (some (14, 0xFF)) s else s)) s
  let s := match s.rig.rezone with
    | some r => complete r.origin st 0 (if tampered then showLoad (some r.slot) (some (14, 0xFF)) s else s)
    | none => s
  let s := setRig { s.rig with writes := [], verifies := [], rezone := none } s
  let s := { s with rst := { s.rst with writes := s.rst.writes.map (fun (w : RecWrite) => match w.why with
    | .rezone _ => { w with why := .selector none }
    | _ => w) } }
  (s.setBit Reg.sysRigStatus 6 false).setF Reg.sysRezoneStatus 19 0 0

/-- Every MACsec association stops being valid (R183, R750). -/
def dropSas (s : State) : State :=
  setWire { s.wire with sas := s.wire.sas.map (fun e => (e.1, { e.2 with valid := false })) } s

/-- A mode change or wake in progress ends; its command is aborted (R750). -/
def endChange (s : State) : State :=
  let s := match s.pwr.change.bind (fun c => c.origin) with
    | some o => complete o .aborted 0 (showMode .aborted s)
    | none => s
  let s := setPwr { s.pwr with change := none, draining := [], halted := [], waking := none, wakeHeld := none } (s.setBit Reg.sysMode 8 false)
  (List.range 8).foldl (fun s k => bightRefresh k s) s

/-- Entry to Lockdown (R730, R750). -/
def enterLockdown (tampered : Bool) (s : State) : State :=
  digestChanged (selfRefreshAll (stopCopy (endChange (stopEngines (stopStrands (stopRigWork tampered
    (endJobs .aborted (endAllSets (dropSas (zeroKeys (setMode .lockdown s)))))))))))

/-! Tamper -/

/-- Payload of the tamper record (R690, R729). -/
def State.tamperPayload (s : State) : List Byte :=
  let w := s.reg Reg.keyTamperStatus
  let asleep := bitOf w 15
  let time := if asleep then ((s.tim.sleep.map (fun x => x.counter)).getD s.now) else s.now
  leBytes 1 (fld w 3 0) ++ leBytes 1 (modeCode s.mode) ++ leBytes 1 (2 * fld w 11 8) ++ leBytes 1 (b2n asleep) ++ leBytes 4 0 ++ leBytes 8 time

/-- The record store controller writes the tamper record in both banks (R701). -/
def writeTamper (s : State) : State := writeRecord clsTamper 0 s.tamperPayload .tamper s

/-- Add an alarm to the latch: the first sets FIRST, each its bit of SOURCES (R728). -/
def latchAlarm (code : Nat) (s : State) : State :=
  let s := if s.pwr.tamper then s else s.setF Reg.keyTamperStatus 3 0 code
  alert 1 (digestChanged (setPwr { s.pwr with tamper := true } ((s.setBit Reg.keyTamperStatus (7 + code) true).setBit Reg.keyStatus 4 true)))

/-- The load or boot in progress stops, and no strand stays released (R64, R730). -/
def haltBoot (s : State) : State :=
  let s := match s.rig.loading with
    | some x => setRig { s.rig with loading := none } (showLoad (some x) (some (14, 0xFF)) s)
    | none => s
  setStrand { s.strand with released := [] } s

/-- A KEY_STORE whose record is being written completes with TAMPER; the record is written or torn as power allows (R731). -/
def stopKeyStore (s : State) : State :=
  match s.rst.writes.find? (fun w => match w.why with | .key _ (some _) => true | _ => false) with
  | some w =>
    (match w.why with
     | .key k (some o) =>
       let ws := s.rst.writes.map (fun x => if x = w then { x with why := .key k none } else x)
       keyDone o .tamper (objKey k) (setWrites ws (s.setBit Reg.keyStatus 3 false))
     | _ => s)
  | none => s

/-- What follows an alarm that starts the response (R730). -/
def tamperResponse (s : State) : State :=
  match s.mode with
  | .doze => zeroKeys (s.setBit Reg.keyTamperStatus 15 true)
  | .deepSleep => zeroKeys (s.setBit Reg.keyTamperStatus 15 true)
  | .bringUp => enterLockdown true (stopKeyStore (writeTamper (haltBoot s)))
  | .reset => enterLockdown true (writeTamper (haltBoot s))
  | .lockdown => writeTamper s
  | _ => enterLockdown true (stopKeyStore (writeTamper s))

/-- TAMPER_ALARM (R727, R728): in Off no source is armed; an alarm after the first starts nothing new. -/
def doTamperAlarm (code : Nat) (s : State) : State :=
  if !decide (1 ≤ code ∧ code ≤ 4) || decide (s.mode = .off) then s
  else if s.pwr.tamper then latchAlarm code s
  else tamperResponse (latchAlarm code s)

def execTamperAlarm (code : Nat) (s : State) : Host.Outcome State Fault Refusal := run (doTamperAlarm code) s

end Sys2Proof.Machine
end

