-- ==== Sys2Proof/Machine/Boot.lean ====
section
/-! DEFINITION. Resets (R738, R741), the release of reset and Bring-up (R60, R63, R739, R760 to R762), debug requests (R722) and the core voltage (R777). -/

namespace Sys2Proof.Machine

open Sys2Proof

/-! Resets -/

/-- The hold-up completes the tamper record that is being written, and writes that of an alarm latched in sleep (R729, R737). -/
def commitTamper (s : State) : State :=
  let s := if s.pwr.tamper && !s.bit Reg.keyTamperStatus 16 && !s.writing clsTamper then writeTamper s else s
  match s.currentWrite clsTamper with
  | none => s
  | some w =>
    let s := w.left.foldl (fun s b => placeCopy clsTamper (wholeCopy clsTamper b w.index w.seq w.epoch w.payload) s) s
    let s := setWrites (putWrite clsTamper none s.rst.writes) s
    if w.committed then s else recordCommitted w s

/-- The state after a reset: every field at its reset value but flash, antifuses, the queue of commands, and (`aon`) the always-on state (R738, R739). -/
def afterReset (aon : Bool) (s : State) : State :=
  { State.reset with
    pending := s.pending
    out := s.out
    draws := s.draws
    rig := { rigInit with slotA := s.rig.slotA, slotB := s.rig.slotB }
    rst := { s.rst with writes := [], seqs := [] }
    key := { keyInit with rooted := s.key.rooted, rootFail := s.key.rootFail }
    store :=
      if aon then { storeInit with
        lanes := s.store.lanes
        homes := s.store.homes
        spares := s.store.spares
        mapped := s.store.mapped
        kept := (List.range 12).foldl (fun t m => if 5 ≤ s.chState m ∧ s.chState m ≤ 7 then tabSet m (s.chState m) t else t) s.store.kept }
      else storeInit
    pwr :=
      if aon then { pwrInit with tamper := s.pwr.tamper, coarse := s.pwr.coarse, debug := s.pwr.debugReq } else pwrInit }

/-- Enter Reset for a cause (R738): SYS_RESET_CAUSE holds its bit, and the tamper latch keeps what KEY_TAMPER_STATUS shows. -/
def enterReset (cause : Nat) (aon : Bool) (s : State) : State :=
  let s := tearWrites (commitTamper s)
  let prev := modeCode s.mode
  let status := s.reg Reg.keyTamperStatus
  let t := afterReset aon s
  let t := (t.setReg Reg.sysMode (wd (1 + 0x10 * prev))).setReg Reg.sysResetCause (wd (2 ^ cause))
  let t := if aon then t.setReg Reg.keyTamperStatus status else t
  setPwr { t.pwr with thermal := decide (cause = 3) } t

/-- POWER_ON (R738): VDD_AON enters its window, and always-on state is cleared. -/
def doPowerOn (s : State) : State := enterReset 0 false s

def execPowerOn (s : State) : Host.Outcome State Fault Refusal := run doPowerOn s

/-- A reset that keeps always-on state; Off knows none. -/
def warmReset (cause : Nat) (s : State) : State := if s.mode = .off then s else enterReset cause true s

/-- PIN (R738). -/
def doPin (s : State) : State := warmReset 1 s

def execPin (s : State) : Host.Outcome State Fault Refusal := run doPin s

/-- SUPPLY (R738). -/
def doSupply (s : State) : State := warmReset 2 s

def execSupply (s : State) : Host.Outcome State Fault Refusal := run doSupply s

/-- THERMAL (R738). -/
def doThermal (s : State) : State := warmReset 3 s

def execThermal (s : State) : Host.Outcome State Fault Refusal := run doThermal s

/-- VDD_AON_LOST (R741): the part is Off; flash and antifuses keep their contents, with a tamper record completed by the hold-up. -/
def doVddAonLost (s : State) : State :=
  if s.mode = .off then s
  else ((afterReset false (tearWrites (commitTamper s))).setReg Reg.sysMode 0).setReg Reg.pwrStatus 0

def execVddAonLost (s : State) : Host.Outcome State Fault Refusal := run doVddAonLost s

/-- DBG_REQ (R722): the request is held for the next reset. -/
def doDbgReq (s : State) : State := if s.mode = .off then s else setPwr { s.pwr with debugReq := true } s

def execDbgReq (s : State) : Host.Outcome State Fault Refusal := run doDbgReq s

/-! The choice of a slot (R60, R63) -/

/-- How a candidate of R60 is tried. -/
inductive Try where
  | trial
  | active
  | other
  deriving DecidableEq, Repr

/-- The slots tried as ACTIVE, then as the other one. With ACTIVE none, both slots are other ones, A first. -/
def Selector.order (x : Selector) : List (Slot × Try) :=
  let l := match x.active with
    | some .a => [(Slot.a, Try.active), (Slot.b, Try.other)]
    | some .b => [(Slot.b, Try.active), (Slot.a, Try.other)]
    | none => [(Slot.a, Try.other), (Slot.b, Try.other)]
  l.filter (fun e => x.valid e.1)

/-- Commit a selector before the boot goes on (R60). -/
def bootSelector (x : Selector) (s : State) : State :=
  bootWrite clsSelector 0 (selectorBytes x) (refreshSelector (setRig { s.rig with selector := x } s))

/-- A candidate failed a check: SYS_RIG_LOAD_STATUS records it, and a trial is reverted (R60, R62). -/
def tryFailed (e : Slot × Try) (f : LoadFail) (s : State) : State :=
  let s := showLoad (some e.1) f s
  if e.2 = .trial then rigEvent 5 s else s

/-- The checks that precede the early map: steps 1 to 8, then 9 to 12 for EARLY_MAP alone (R63). -/
def State.earlyCheckOf (s : State) (i : RigImage) : LoadFail := firstFail [s.headCheck (some i), s.bodyCheck i [] [0]]

/-- No candidate passed: bare service (R65). -/
def bootBare (s : State) : State := enterBare (alert 5 (rigEvent 1 s))

/-- Try candidates up to their early maps; the first that passes starts loading, with its channels powered (R433, R760 steps 5 to 7). -/
def bootTry : List (Slot × Try) → State → State
  | [], s => bootBare s
  | e :: l, s =>
    match s.image e.1 with
    | none => bootTry l (tryFailed e (some (1, 0xFF)) s)
    | some i =>
      match s.earlyCheckOf i with
      | some f => bootTry l (tryFailed e (some f) s)
      | none =>
        let s := setRig { s.rig with loading := some e.1, loadingTrial := decide (e.2 = .trial), fellBack := decide (e.2 = .other) } s
        applyStorePlan i.plans.storePlan (applyEarly i s)

/-- The boot ROM chooses a slot (R60): TRIAL_PENDING is cleared before the attempt. -/
def bootSelect (s : State) : State :=
  let x := s.rig.selector
  if x.trialPending then
    let y := { x with trialPending := false }
    bootTry ((x.trialSlot, .trial) :: y.order) (bootSelector y s)
  else bootTry x.order s

/-- A candidate passed every check: it is loaded; a fallback becomes ACTIVE (R60). -/
def bootLoaded (e : Slot × Try) (i : RigImage) (s : State) : State :=
  let s := loadImage e.1 (decide (e.2 = .trial)) i s
  if e.2 = .other then alert 5 (rigEvent 0 (bootSelector { s.rig.selector with active := some e.1 } s)) else s

/-- Try candidates as whole images (R63). -/
def bootWhole : List (Slot × Try) → State → State
  | [], s => bootBare s
  | e :: l, s =>
    match s.image e.1, s.loadCheck (s.image e.1) with
    | some i, none => bootLoaded e i s
    | _, f => bootWhole l (tryFailed e f s)

/-- Candidates that follow the one being loaded. -/
def State.afterLoading (s : State) : List (Slot × Try) :=
  if s.rig.loadingTrial then s.rig.selector.order
  else
    match s.rig.selector.order.dropWhile (fun e => decide (some e.1 ≠ s.rig.loading)) with
    | [] => []
    | _ :: l => l

/-- SECTIONS_CHECKED (R63): the remaining sections of the slot were read. -/
def doSectionsChecked (s : State) : State :=
  match s.rig.loading with
  | none => s
  | some x =>
    if s.mode ≠ .bringUp then s
    else
      let e : Slot × Try := (x, if s.rig.loadingTrial then .trial else if s.rig.fellBack then .other else .active)
      let l := s.afterLoading
      bootWhole (e :: l) s

def execSectionsChecked (s : State) : Host.Outcome State Fault Refusal := run doSectionsChecked s

/-! Release of reset -/

/-- Reset is released (R739). -/
def State.mayRelease (s : State) (obs : ReleaseObs) : Bool :=
  obs.resetHigh && obs.suppliesOk && obs.holdOk && obs.refclk && (!s.pwr.thermal || decide (obs.tenths < 950))

/-- The tamper latch at a reset: it clears when no source is in alarm and its record is committed (R728). -/
def latchAtReset (alarms : Nat) (s : State) : State :=
  if alarms = 0 && s.pwr.tamper && !s.bit Reg.keyTamperStatus 16 then s
  else setPwr { s.pwr with tamper := false } (s.setReg Reg.keyTamperStatus 0)

/-- The root at its first start, or as it was (R708). -/
def rootAtBoot (ok : Bool) (s : State) : State :=
  let fail := s.key.rootFail || (!s.key.rooted && !ok)
  let s := setKey { s.key with rooted := true, rootFail := fail } s
  s.setReg Reg.keyStatus (wd (b2n (!fail) + 2 * b2n s.pwr.debug + 0x10 * b2n s.pwr.tamper + 0x20 * b2n fail))

/-- The rings are scanned; the selector and the calibration set come from them (R695 to R698, R574). -/
def bootRecords (s : State) : State :=
  let s := scanRings s
  let s := match s.newestRec clsSelector 0 with
    | some x => refreshSelector (setRig { s.rig with selector := selectorOf x.payload } s)
    | none => s
  loadCal s

/-- Sources in alarm at the release set the latch again, each as an alarm in Bring-up (R728). -/
def alarmsAtBoot (alarms : Nat) (s : State) : State :=
  [1, 2, 3, 4].foldl (fun s c => if alarms.testBit c then doTamperAlarm c s else s) s

/-- Bring-up from the boot ROM to the early map (R760 steps 1 to 7); the latch or ROOT_FAIL leads to Lockdown (R708, R752). -/
def bringUp (copy : Nat) (obs : ReleaseObs) (s : State) : State :=
  let s := latchAtReset obs.alarms (s.setReg Reg.sysMode 2)
  let s := setPwr { s.pwr with booted := true, bootFail := false, thermal := false, released := s.now } s
  let s := rootAtBoot obs.rootOk (setKey { s.key with bootCopy := copy } s)
  let s := alarmsAtBoot obs.alarms (bootRecords s)
  if s.mode = .lockdown then s
  else if s.pwr.tamper || s.key.rootFail then enterLockdown s.pwr.tamper s
  else loadKeys (bootSelect (deriveKeys s))

/-- RESET_RELEASE (R682, R739, R760). It acts in Reset, and in the state that a reset leaves. -/
def doResetRelease (obs : ReleaseObs) (s : State) : State :=
  if !(decide (s.mode = .reset) || (decide (s.mode = .bringUp) && !s.pwr.booted)) || !s.mayRelease obs then s
  else
    match obs.bootCopy with
    | none => setPwr { s.pwr with bootFail := true } (s.setF Reg.sysMode 2 0 1)
    | some c => bringUp (min c 1) obs s

def execResetRelease (obs : ReleaseObs) (s : State) : Host.Outcome State Fault Refusal := run (doResetRelease obs) s

/-! Full service -/

/-- Full service (R760 step 11, R762): every strand is released. -/
def fullService (s : State) : State :=
  let s := setMode (if s.bare then .maintenance else .service) s
  let s := s.setReg Reg.sysTFull (wd (min 0xFFFFFFFF ((s.now - s.pwr.released) / 1000)))
  let s := raiseEn (some s.rigOwner) 0 Reg.sysEvent Reg.sysEventEn 2 s
  wakeUsed (enginesRefresh (lanesRefresh (releaseAll s)))

/-- The store is in service, or stays out of it, or has no plan. -/
def State.storeSettled (s : State) : Bool := s.storeOn || decide (s.f Reg.fstStatus 7 4 ≠ 0) || s.store.plan.isNone

/-- IN_SERVICE (R434, R435, R760 steps 10 and 11): the frame store enters service or stays out of it, and full service follows once an image runs or bare
service is due. -/
def doInService (s : State) : State :=
  let s := storeInService s
  if decide (s.mode = .bringUp) && s.pwr.booted && s.rig.loading.isNone && (s.rig.running.isSome || s.bare) && s.storeSettled then fullService s else s

def execInService (s : State) : Host.Outcome State Fault Refusal := run doInService s

/-! Core voltage (R777) -/

/-- Modes in which AVS requests are sent. -/
def State.avsMay (s : State) : Bool :=
  match s.mode with
  | .bringUp => true
  | .service => true
  | .maintenance => true
  | .lockdown => true
  | _ => false

/-- At least `ns` have passed since the last request. -/
def State.avsSince (s : State) (ns : Nat) : Bool :=
  match s.pwr.avsSent with
  | some t => decide (t + ns ≤ s.now)
  | none => true

/-- A request is sent; the regulator acknowledges it or not. -/
def avsSend (mv : Nat) (ack : Bool) (s : State) : State :=
  setPwr { s.pwr with avsTarget := mv, avsWaiting := if ack then none else some mv, avsSent := some s.now } (s.emit (.avs mv))

/-- AVS_REQUEST (R777): a target of 720 to 800 mV, at most 10 mV away, at least 100 µs after the last request. -/
def doAvsRequest (mv : Nat) (ack : Bool) (s : State) : State :=
  let old := s.pwr.avsTarget
  if s.avsMay && s.pwr.avsWaiting.isNone && s.avsSince 100000 && decide (720 ≤ mv ∧ mv ≤ 800 ∧ mv ≤ old + 10 ∧ old ≤ mv + 10) then
    avsSend mv ack s
  else s

def execAvsRequest (mv : Nat) (ack : Bool) (s : State) : Host.Outcome State Fault Refusal := run (doAvsRequest mv ack) s

/-- AVS_RETRY (R777): 0.800 V is requested every 1 ms until the regulator acknowledges. -/
def doAvsRetry (ack : Bool) (s : State) : State :=
  if s.avsMay && s.pwr.avsWaiting.isSome && s.avsSince 1000000 then avsSend 800 ack s else s

def execAvsRetry (ack : Bool) (s : State) : Host.Outcome State Fault Refusal := run (doAvsRetry ack) s

end Sys2Proof.Machine
end

