-- ==== Sys2Proof/Machine/Rerig.lean ====
section
/-! DEFINITION. Commands on the rig slots (R66 to R69) and the live re-rig of zones (R70 to R79). -/

namespace Sys2Proof.Machine

open Sys2Proof

/-! Slot commands -/

/-- A RIG_SELECTOR record is written for a selector, and what follows its completion (R59). -/
def writeSelector (x : Selector) (why : RecWhy) (s : State) : State := writeRecord clsSelector 0 (selectorBytes x) why s

/-- Set a slot's VALID flag. -/
def Selector.setValid (x : Selector) (k : Slot) (v : Bool) : Selector :=
  match k with
  | .a => { x with validA := v }
  | .b => { x with validB := v }

/-- A condition on the slot that an operand names. -/
def needSlot (n : Nat) (f : Slot → Bool) (st : Status) : Refuse :=
  match codeSlot n with
  | some k => need (f k) st 0
  | none => some (.badField, 0)

/-- FN is not in FAULT (R593). -/
def needFn (s : State) : Refuse := need (!s.fnFault) .stateConflict (objFid 43)

/-- The checks of RIG_WRITE_SLOT (R66, R67, R72). DESIGN CHOICE: a length of 0, for which the spec gives no lower bound, is refused as BAD_FIELD, and so is a range
that leaves the slot's 12 MiB. -/
def rigWriteSlotCheck (o : Origin) (slot offset length : Nat) (s : State) : Refuse :=
  firstRefusal
    [needSlot slot (fun _ => true) .badField,
     need (decide (offset % 4096 = 0 ∧ length % 256 = 0 ∧ 0 < length ∧ offset + length ≤ 12582912)) .badField 0,
     needRig o s, needServing s,
     needSlot slot (fun k => !(s.rig.rezone.any (fun r => decide (r.slot = k)))) .zoneBusy,
     needSlot slot (fun k => decide (s.rig.runningSlot ≠ some k)) .stateConflict,
     needFn s,
     needSlot slot (fun k => !(s.rig.writes.any (fun j => decide (j.slot = k)))) .storeBusy]

/-- What RIG_WRITE_SLOT does once its checks passed: a record clears VALID, and with it the sectors covered are erased (R66, R69). -/
def rigWriteSlotEffect (o : Origin) (slot offset length : Nat) (data : Option (List Byte)) (plans : Option Plans) (s : State) : State :=
  match codeSlot slot with
  | none => s
  | some k =>
    let s := mailbox 43 (setRig { s.rig with writes := s.rig.writes ++ [⟨k, o, offset, length, data, plans, false⟩] } s)
    writeSelector (s.selectorDue.setValid k false) (.selector none) s

/-- RIG_WRITE_SLOT (R66). -/
def doRigWriteSlot (o : Origin) (slot offset length : Nat) (data : Option (List Byte)) (plans : Option Plans) (s : State) : State :=
  loneCommand o .bare (rigWriteSlotCheck o slot offset length) (rigWriteSlotEffect o slot offset length data plans) s

def execRigWriteSlot (o : Origin) (slot offset length : Nat) (data : SlotData) (s : State) : Host.Outcome State Fault Refusal :=
  run (doRigWriteSlot o slot offset length data.bytes data.plans) s

/-- Plans that say nothing: of an erased slot. -/
def noPlans : Plans := ⟨⟨0, [], [], []⟩, ⟨[], 0, false, 0, none⟩, ⟨0, [], 0, 0⟩, [], []⟩

/-- Bytes of a sector of 4 KiB: what lies beyond them stays erased. -/
def padSector (l : List Byte) : List Byte := l ++ List.replicate (4096 - l.length) 0xFF

/-- The slot's contents once the covered sectors are programmed (R66, R68). -/
def programmed (j : SlotJob) (data : List Byte) (old : Option RigImage) : RigImage :=
  let i := old.getD ⟨[], noPlans⟩
  let d := data.take j.length
  { sectors := (List.range (ceilDiv j.length 4096)).foldl (fun t (k : Nat) =>
      tabPut erasedSector (j.offset / 4096 + k) (padSector ((d.drop (4096 * k)).take 4096)) t) i.sectors
    plans := j.plans.getD i.plans }

/-- RIG_WRITE_SLOT_DONE (R68): the last page is programmed; a host read that failed leaves the sectors erased. -/
def doRigWriteSlotDone (slot : Nat) (s : State) : State :=
  match s.rig.writes.find? (fun j => decide (some j.slot = codeSlot slot) && j.erased) with
  | none => s
  | some j =>
    let s := setRig { s.rig with writes := s.rig.writes.filter (fun x => decide (x.slot ≠ j.slot)) } s
    match j.data with
    | some d => completeOk j.origin (setImage j.slot (some (programmed j d (s.image j.slot))) s)
    | none => complete j.origin .fetchFault 0 s

def execRigWriteSlotDone (slot : Nat) (s : State) : Host.Outcome State Fault Refusal := run (doRigWriteSlotDone slot) s

/-- The checks of RIG_VERIFY_SLOT (R66). -/
def rigVerifySlotCheck (o : Origin) (slot : Nat) (s : State) : Refuse :=
  firstRefusal [needSlot slot (fun _ => true) .badField, needRig o s, needServing s, needFn s]

/-- What RIG_VERIFY_SLOT does once its checks passed: the load checks of the slot begin. -/
def rigVerifySlotEffect (o : Origin) (slot : Nat) (s : State) : State :=
  match codeSlot slot with
  | none => s
  | some k => mailbox 43 (setRig { s.rig with verifies := s.rig.verifies ++ [(k, o)] } s)

/-- RIG_VERIFY_SLOT (R66). -/
def doRigVerifySlot (o : Origin) (slot : Nat) (s : State) : State :=
  loneCommand o .bare (rigVerifySlotCheck o slot) (rigVerifySlotEffect o slot) s

def execRigVerifySlot (o : Origin) (slot : Nat) (s : State) : Host.Outcome State Fault Refusal := run (doRigVerifySlot o slot) s

/-- RIG_VERIFY_SLOT_DONE (R62, R66): the load checks end; VALID is set on success, and the command completes with the selector's record. -/
def doRigVerifySlotDone (slot : Nat) (s : State) : State :=
  match s.rig.verifies.find? (fun j => decide (some j.1 = codeSlot slot)) with
  | none => s
  | some j =>
    let s := setRig { s.rig with verifies := s.rig.verifies.filter (fun x => decide (x ≠ j)) } s
    let f := s.loadCheck (s.image j.1)
    let s := showLoad (some j.1) f s
    match f with
    | some (r, _) => complete j.2 (loadStatusOf r) 0 s
    | none => writeSelector (s.selectorDue.setValid j.1 true) (.selector (some j.2)) s

def execRigVerifySlotDone (slot : Nat) (s : State) : Host.Outcome State Fault Refusal := run (doRigVerifySlotDone slot) s

/-- The checks of RIG_SELECT_SLOT (R66, R67). -/
def rigSelectSlotCheck (o : Origin) (slot : Nat) (s : State) : Refuse :=
  firstRefusal
    [needSlot slot (fun _ => true) .badField, needRig o s, needServing s,
     needSlot slot (fun k => s.selectorDue.valid k) .stateConflict, needFn s]

/-- What RIG_SELECT_SLOT does once its checks passed. -/
def rigSelectSlotEffect (o : Origin) (slot : Nat) (trial : Bool) (s : State) : State :=
  match codeSlot slot with
  | none => s
  | some k =>
    let x := s.selectorDue
    writeSelector (if trial then { x with trialSlot := k, trialPending := true } else { x with active := some k }) (.selector (some o)) (mailbox 43 s)

/-- RIG_SELECT_SLOT (R66). -/
def doRigSelectSlot (o : Origin) (slot : Nat) (trial : Bool) (s : State) : State :=
  loneCommand o .bare (rigSelectSlotCheck o slot) (rigSelectSlotEffect o slot trial) s

def execRigSelectSlot (o : Origin) (slot : Nat) (trial : Bool) (s : State) : Host.Outcome State Fault Refusal :=
  run (doRigSelectSlot o slot trial) s

/-- The checks of RIG_CONFIRM (R61): an image runs as a trial. -/
def rigConfirmCheck (o : Origin) (s : State) : Refuse :=
  firstRefusal [needRig o s, needServing s, need (s.bit Reg.sysRigStatus 2) .stateConflict 0, needFn s]

/-- What RIG_CONFIRM does once its checks passed (R61): ACTIVE becomes the trial slot and the floor rises to the image's SEC_VERSION. -/
def rigConfirmEffect (o : Origin) (s : State) : State :=
  let x := s.selectorDue
  let sec := (s.rig.running.map secVersion).getD 0
  let s := digestChanged (s.setBit Reg.sysRigStatus 2 false)
  writeSelector { x with active := s.rig.runningSlot, floor := max x.floor sec } (.selector (some o)) (mailbox 43 s)

/-- RIG_CONFIRM (R61). -/
def doRigConfirm (o : Origin) (s : State) : State := loneCommand o .working (rigConfirmCheck o) (rigConfirmEffect o) s

def execRigConfirm (o : Origin) (s : State) : Host.Outcome State Fault Refusal := run (doRigConfirm o) s

/-! The re-rig's command -/

/-- Sections of a zone: its plan and its splice fids' images (R47, R49). -/
def zoneSections (k : Nat) : List Nat := [4 + k, 21 + 2 * k, 22 + 2 * k]

/-- Zones of a mask, ascending. -/
def maskZones (mask : Nat) : List Nat := (List.range 16).filter (fun k => mask.testBit k)

/-- The images differ in no section outside the zones of the mask (R71). -/
def sameOutside (mask : Nat) (a b : RigImage) : Bool :=
  let free := (maskZones mask).flatMap zoneSections
  allSections.all (fun k => free.contains k || decide ((imageSection a k).digest = (imageSection b k).digest))

/-- The conditions of R71. -/
def State.rezoneFits (s : State) (k : Slot) (mask : Nat) : Bool :=
  decide (s.rig.runningSlot ≠ some k) && s.selectorDue.valid k &&
  (match s.image k, s.rig.running with
   | some a, some b => sameOutside mask a b
   | _, _ => false)

/-- The checks of RIG_REZONE (R70 to R72). -/
def rigRezoneCheck (o : Origin) (slot mask : Nat) (s : State) : Refuse :=
  firstRefusal
    [needSlot slot (fun _ => true) .badField, need (decide (0 < mask ∧ mask < 0x10000)) .badField 0, needRig o s, needServing s,
     need s.rig.rezone.isNone .zoneBusy 0, needSlot slot (fun k => s.rezoneFits k mask) .stateConflict]

/-- A zone's state (R73). -/
def setZone (k v : Nat) (s : State) : State := s.setF Reg.sysZoneState (2 * k + 1) (2 * k) v

/-- The zone being handled (R83). -/
def setCurrent (k : Nat) (s : State) : State := s.setF Reg.sysRezoneStatus 19 16 k

/-- What RIG_REZONE does once its checks passed: its zones are VERIFYING (R73). -/
def rigRezoneEffect (o : Origin) (slot mask : Nat) (s : State) : State :=
  match codeSlot slot with
  | none => s
  | some k =>
    let s := setRig { s.rig with rezone := some ⟨k, mask, [], false, none, o, [], false, [], 0⟩ } (s.setBit Reg.sysRigStatus 6 true)
    let s := s.setReg Reg.sysRezoneStatus (wd (mask + 0x10000 * ((maskZones mask).headD 0)))
    (maskZones mask).foldl (fun s z => setZone z 1 s) s

/-- RIG_REZONE (R70). -/
def doRigRezone (o : Origin) (slot mask : Nat) (s : State) : State :=
  loneCommand o .working (rigRezoneCheck o slot mask) (rigRezoneEffect o slot mask) s

def execRigRezone (o : Origin) (slot mask : Nat) (s : State) : Host.Outcome State Fault Refusal := run (doRigRezone o slot mask) s

/-! The zones in turn -/

/-- Replace the re-rig in progress. -/
def setRezone (r : Option Rezone) (s : State) : State := setRig { s.rig with rezone := r } s

/-- The zone of a destination and that of its source. -/
def destZone (d : Nat) : Nat := if destIsStrand d then destNumber d / 8 else d / 64
def sourceZone (d src : Nat) : Nat := if destIsStrand d then src / 8 else src / 64

/-- A destination or its source lies in a zone. -/
def endIn (k d : Nat) (src : Option Nat) : Bool :=
  decide (destZone d = k) || (match src with | some e => decide (sourceZone d e = k) | none => false)

/-- Entry to DRAINING (R74): armed changes end; transmitters idle; bights close. Encoders and audio outputs follow at their points and blocks. -/
def drainZone (k : Nat) (s : State) : State :=
  let s := setCurrent k (setZone k 2 s)
  let s := endSets (fun c => decide (c.phase ≠ .collecting) && (setZones c).contains k) rbEnded leaderObj s
  txRefreshAll ((List.range 8).map (fun i => 8 * k + i)) s

/-- The zone that the re-rig handles: the one that drains or is stopped. -/
def State.zoneAtWork (s : State) (r : Rezone) : Option Nat := (maskZones r.mask).find? (fun k => decide (2 ≤ s.zone k))

/-- The zone whose turn is next: the lowest that is not done; on the way back, the highest that is. -/
def nextZone (r : Rezone) : Option Nat :=
  match r.failed with
  | none => (maskZones r.mask).find? (fun k => !r.done.contains k)
  | some _ => (maskZones r.mask).reverse.find? (fun k => r.done.contains k)

/-- The re-rig is over: REZONE_BUSY clears. -/
def endRezone (s : State) : State :=
  setRezone none ((s.setBit Reg.sysRigStatus 6 false).setF Reg.sysRezoneStatus 19 0 0)

/-- The next zone on the way back drains, or the command completes (R79). -/
def returnNext (r : Rezone) (s : State) : State :=
  match nextZone r with
  | some k => drainZone k (setRezone (some r) s)
  | none => complete r.origin (loadStatusOf (r.failed.getD 0)) 0 (endRezone s)

/-- A check failed (R79): zones in VERIFYING return to RUNNING, those already re-rigged return in descending order. -/
def rezoneFails (r : Rezone) (f : Nat × Nat) (s : State) : State :=
  let s := rigEvent 3 (showLoad (some r.slot) (some f) s)
  let s := (maskZones r.mask).foldl (fun s k => if s.zone k = 1 then setZone k 0 s else s) s
  returnNext { r with failed := some f.1 } s

/-- The slot's image is signed, by a key that the lock page allows (R55, R56). The spec lets a slot be named only while VALID, which a verify with every check set; the
model judges the key and the signature at the verification pass too, so that a lock page written since then is obeyed (DESIGN CHOICE). -/
def State.rezoneSigned (s : State) (i : RigImage) : LoadFail :=
  firstFail [failUnless (s.keyAllowed (blockKeyDigest (signatureBlock i))) 7, failUnless (blockVerifies (signatureBlock i) (headerDigest i)) 8]

/-- ZONE_VERIFIED (R73): the verification pass over every zone of the mask ends. -/
def doZoneVerified (read : List (Nat × List Byte)) (s : State) : State :=
  match s.rig.rezone with
  | none => s
  | some r =>
    if r.verified || r.failed.isSome || !s.serving then s
    else
      match s.image r.slot with
      | none => rezoneFails r (1, 0xFF) s
      | some i =>
        match firstFail [s.rezoneSigned i, s.bodyCheck i read ((maskZones r.mask).flatMap zoneSections)] with
        | some f => rezoneFails r f s
        | none => setRezone (some { r with verified := true }) (showLoad (some r.slot) none s)

def execZoneVerified (read : List (Nat × List Byte)) (s : State) : Host.Outcome State Fault Refusal := run (doZoneVerified read) s

/-- ZONE_STAGED (R73): the staging pass of the next zone ends; its bytes are in work SRAM, and it drains. -/
def doZoneStaged (read : List (Nat × List Byte)) (s : State) : State :=
  match s.rig.rezone with
  | none => s
  | some r =>
    if !r.verified || r.failed.isSome || (s.zoneAtWork r).isSome || !s.serving then s
    else
      match s.image r.slot, nextZone r with
      | some i, some k =>
        (match s.bodyCheck i read (zoneSections k) with
         | some f => rezoneFails r f s
         | none =>
           let staged := (zoneSections k).map (fun (x : Nat) => (x, s.plainSection i read x))
           drainZone k (setRezone (some { r with staged := staged }) (showLoad (some r.slot) none s)))
      | _, _ => s

def execZoneStaged (read : List (Nat × List Byte)) (s : State) : Host.Outcome State Fault Refusal := run (doZoneStaged read) s

/-- The zone's resources neither process nor emit (R73, R77): its decoders and flows lose what they carried, its ports are absent, its fids' hook runs end. -/
def stopZone (k : Nat) (s : State) : State :=
  let s := (List.range 8).foldl (fun s i => loseDecoder (8 * k + i) s) s
  let s := (s.wire.flows.filter (fun e => decide (flowZone e.1 = k) && !e.2.desc.send)).foldl (fun s e => setFlowPresent e.1 e.2.desc false s) s
  let s := (s.store.recInUse.filter (fun r => decide (r / 16 = k))).foldl (fun s r => setRecSt r { s.recSt r with writing := none, skipped := false } s) s
  let s := ((List.range 16).map (fun i => 16 * k + i)).foldl (fun s p => if s.bit (Reg.fstPlyStatus p) 0 then playerStop p false s else s) s
  let s := (s.spl.eiBind.filter (fun e => decide (e.1 / 64 = k))).foldl (fun s e => setPresent e.1 false s) s
  let s := (s.aud.amiBind.filter (fun e => decide (e.1 / 512 = k))).foldl (fun s e => setAmiPresent e.1 false s) s
  let s := [2 * k + 1, 2 * k + 2].foldl (fun s f => endRun f .aborted (setFid f { s.fidOf f with queue := [] } s)) s
  ((List.range 8).map (fun i => 8 * k + i)).foldl (fun s n => tautRefresh n s) s

/-- ZONE_STOPPED (R73, R75): the zone that drains stops. -/
def doZoneStopped (s : State) : State :=
  match s.rig.rezone with
  | none => s
  | some r =>
    match s.zoneAtWork r with
    | some k => if s.zone k = 2 && s.serving then setRezone (some { r with stoppedAt := s.now }) (stopZone k (setZone k 3 s)) else s
    | none => s

def execZoneStopped (s : State) : Host.Outcome State Fault Refusal := run doZoneStopped s

/-! Hitches across a re-rig (R77) -/

/-- The strand-map entry that covers a strand. -/
def entryOf (z : ZonePlan) (n : Nat) : Option StrandEntry := z.strands.find? (fun c => (namedStrands c).contains n)

/-- Strands that a port's producer or consumer uses. -/
def producerStrands : Producer → List Nat
  | .sdiDec n _ => [n]
  | .dispSink dp => [64 + 4 * dp]
  | _ => []

def consumerStrands : Consumer → List Nat
  | .sdiEnc n _ => [n]
  | .dispSrc dp => [64 + 4 * dp]
  | _ => []

def audioStrands : AudioEnd → List Nat
  | .wire n _ => [n]
  | _ => []

/-- Whether two plans give strands the same entries. -/
def sameEntries (a b : ZonePlan) (ns : List Nat) : Bool := ns.all (fun n => decide (entryOf a n = entryOf b n))

/-- Whether two plans give an object the same owner. -/
def sameOwner (a b : ZonePlan) (c : Nat) : Bool :=
  decide ((a.owners.find? (fun e => decide (e.1 = c))).map Prod.snd = (b.owners.find? (fun e => decide (e.1 = c))).map Prod.snd)

/-- Both plans of zone `k` give a destination the same binding, owner and format, or it lies elsewhere. -/
def sameDest (k : Nat) (a b : ZonePlan) (d : Nat) : Bool :=
  if destZone d ≠ k then true
  else if destIsStrand d then sameOwner a b (objDest d) && sameEntries a b [destNumber d]
  else
    let x := (a.eos.find? (fun e => decide (e.1 = d))).map Prod.snd
    sameOwner a b (objDest d) && decide (x = (b.eos.find? (fun e => decide (e.1 = d))).map Prod.snd) &&
    (match x with | some c => sameEntries a b (consumerStrands c) | none => true)

/-- The same for a source. -/
def sameSource (k : Nat) (a b : ZonePlan) (d src : Nat) : Bool :=
  if sourceZone d src ≠ k then true
  else if destIsStrand d then sameOwner a b (objStrand src) && sameEntries a b [src]
  else
    let x := (a.eis.find? (fun e => decide (e.1 = src))).map Prod.snd
    sameOwner a b (objEi src) && decide (x = (b.eis.find? (fun e => decide (e.1 = src))).map Prod.snd) &&
    (match x with | some p => sameEntries a b (producerStrands p) | none => true)

/-- The same for an audio port. -/
def sameAudio (k : Nat) (l m : List (Nat × AudioEnd)) (obj : Nat → Nat) (a b : ZonePlan) (n : Nat) : Bool :=
  if n / 512 ≠ k then true
  else
    let x := (l.find? (fun e => decide (e.1 = n))).map Prod.snd
    sameOwner a b (obj n) && decide (x = (m.find? (fun e => decide (e.1 = n))).map Prod.snd) &&
    (match x with | some p => sameEntries a b (audioStrands p) | none => true)

/-- HITCH_DROPPED goes to each tenancy that owned an end (R77, R84). -/
def hitchDropped (obj : Nat) (owners : List (Option Nat)) (s : State) : State :=
  let ts := (owners.filterMap id).eraseDups
  ts.foldl (fun s t => postTo (some t) 4 obj 0 [] s) (raiseRig 4 s)

/-- The hitches of zone `k` that do not survive its new plan, video and audio, each with its destination and the owners of its ends (R77). -/
def droppedHitches (k : Nat) (a b : ZonePlan) (s : State) : List (Bool × Nat × List (Option Nat)) :=
  let hs := s.hitches.filter (fun h => endIn k h.1 (some h.2) && !(sameDest k a b h.1 && sameSource k a b h.1 h.2))
  let as_ := s.aud.amoBind.filterMap (fun e => (s.amoHitch e.1).map (fun n => (e.1, n)))
  let as_ := as_.filter (fun h => (decide (h.1 / 512 = k) || decide (h.2 / 512 = k)) &&
    !(sameAudio k a.amos b.amos objAmo a b h.1 && sameAudio k a.amis b.amis objAmi a b h.2))
  hs.map (fun h => (false, h.1, [s.owner (objDest h.1), s.owner (if destIsStrand h.1 then objStrand h.2 else objEi h.2)])) ++
  as_.map (fun h => (true, h.1, [s.owner (objAmo h.1), s.owner (objAmi h.2)]))

/-- Release a hitch that does not survive (R77). -/
def dropHitch (h : Bool × Nat × List (Option Nat)) (s : State) : State :=
  if h.1 then hitchDropped (objAmo h.2.1) h.2.2 (bindAudio h.2.1 none s) else hitchDropped (objDest h.2.1) h.2.2 (reportReturn s h.2.1 (bindNow h.2.1 none s))

/-- A zone's plan in an image. -/
def zonePlan (i : RigImage) (k : Nat) : Option ZonePlan := i.plans.zones[k]?

/-- The power domains of zone `k` (R753). -/
def domainsOfZone (k : Nat) : List Nat :=
  (List.range 96).filter (fun n => decide (sbZone n = k)) ++
  [96 + 2 * k, 97 + 2 * k, 128 + 2 * k, 129 + 2 * k, 160 + k, 176 + k, 192 + k, 208 + k, 224 + k]

/-- A wake of a domain of zone `k` waits (R76). -/
def State.zoneWakes (s : State) (k : Nat) : Bool :=
  s.pwr.reqs.any (fun r => !r.off && (domainsOfZone k).contains r.dom)

/-- Write a zone's content (R73, R76, R591): its plan, and its fids' cold starts from the staged bytes, or on the way back from the running image; the wakes of its domains
wait at early-service priority. Its strands keep what they have until it runs. -/
def rezoneApply (k : Nat) (a b : ZonePlan) (images : Nat → FidImage) (s : State) : State :=
  let s := applyPlan k b (chargeDevice false a s)
  let s := [2 * k + 1, 2 * k + 2].foldl (fun s f => coldStart f (images f) s) s
  let ds := (s.usedDomains ++ b.strands.map (fun (c : StrandEntry) => 176 + c.leader / 8)).eraseDups
  (ds.filter (fun d => (domainsOfZone k).contains d)).foldl (fun s d => wakeDomain 1 0 none d s) s

/-- The zone runs again (R75, R77): strands whose entry changed start their bring-up, hitches that may not stay are released, the others return at their outputs' next
splice points. -/
def rezoneRuns (k : Nat) (b : ZonePlan) (drops : List (Bool × Nat × List (Option Nat))) (s : State) : State :=
  let s := b.strands.foldl (fun s c => applyStrand c s) (setZone k 0 s)
  let s := drops.foldl (fun s h => dropHitch h s) s
  let back := s.hitches.filter (fun h => destIsStrand h.1 && (decide (destNumber h.1 / 8 = k) || decide (h.2 / 8 = k)) &&
    decide (s.armClass h.1 (some h.2) = .sdiFrame))
  let s := setStrand { s.strand with restores := (s.strand.restores ++ back.map (fun h => destNumber h.1)).eraseDups } s
  enginesRefresh (lanesRefresh (((List.range 8).map (fun i => 8 * k + i)).foldl (fun s n => tautRefresh n s) s))

/-- SYS_ZONE_STOP_MAX holds the longest STOPPED interval in µs (R80). -/
def stopMax (since : Nat) (s : State) : State :=
  let us := min 0xFFFF ((s.now - since) / 1000)
  if s.f Reg.sysZoneStopMax 15 0 < us then s.setF Reg.sysZoneStopMax 15 0 us else s

/-- Every zone runs again (R78): the image runs, ACTIVE is written, and the command completes with that record. -/
def rezoneDone (r : Rezone) (i : RigImage) (s : State) : State :=
  let s := showImage r.slot false i (setRig { s.rig with running := some i, runningSlot := some r.slot } s)
  let s := digestChanged (s.setBit Reg.sysRigStatus 6 true)
  writeSelector { s.selectorDue with active := some r.slot } (.rezone r.origin) s

/-- The zone at work has its content and its power: it runs, and the next zone is handled, or the re-rig ends (R76 to R79, R83). -/
def zoneRuns (r : Rezone) (k : Nat) (new : RigImage) (plan : ZonePlan) (s : State) : State :=
  let s := rezoneRuns k plan r.drops (stopMax r.stoppedAt s)
  let r := { r with staged := [], applied := false, drops := [] }
  match r.failed with
  | none =>
    let r := { r with done := r.done ++ [k] }
    let s := setRezone (some r) s
    (match nextZone r with
     | some z => setCurrent z s
     | none => rezoneDone r new s)
  | some _ => returnNext { r with done := r.done.filter (fun z => decide (z ≠ k)) } s

/-- The stopped zone takes its new content, unless it has it: the staged one, or that of the running image on the way back (R73, R79). -/
def zoneWritten (r : Rezone) (k : Nat) (cur : RigImage) (a b : ZonePlan) (s : State) : State × Rezone :=
  if r.applied then (s, r)
  else
    let back := r.failed.isSome
    let x := if back then b else a
    let y := if back then a else b
    let staged (f : Nat) : FidImage := fidImageOf (((r.staged.find? (fun e => decide (e.1 = 20 + f))).map Prod.snd).getD [])
    let r' := { r with applied := true, drops := droppedHitches k x y s }
    (setRezone (some r') (rezoneApply k x y (if back then fun f => s.fidImage cur f else staged) s), r')

/-- ZONE_RUNNING (R76 to R79): the stopped zone takes its new content; it runs once the belay has granted its domains. -/
def doZoneRunning (s : State) : State :=
  match s.rig.rezone with
  | none => s
  | some r =>
    match s.zoneAtWork r, s.image r.slot, s.rig.running with
    | some k, some new, some cur =>
      if s.zone k ≠ 3 || !s.serving then s
      else
        match zonePlan cur k, zonePlan new k with
        | some a, some b =>
          let w := zoneWritten r k cur a b s
          if w.1.zoneWakes k then w.1 else zoneRuns w.2 k new (if r.failed.isSome then a else b) w.1
        | _, _ => s
    | _, _, _ => s

def execZoneRunning (s : State) : Host.Outcome State Fault Refusal := run doZoneRunning s

end Sys2Proof.Machine
end

