-- ==== Sys2Proof/Machine/Modes.lean ====
section
/-! DEFINITION. Mode requests, sleep and wakes (R742 to R749), and the management port (R655 to R658, R706, R726, R732). -/

namespace Sys2Proof.Machine

open Sys2Proof

/-! MODE_REQUEST -/

/-- Doze or Deep sleep. -/
def sleeps (mode : Nat) : Bool := decide (mode = 5 ∨ mode = 6)

/-- The part sleeps. -/
def State.asleep (s : State) : Bool := decide (s.mode = .doze ∨ s.mode = .deepSleep)

/-- A mode change is in progress. -/
def State.changing (s : State) : Bool := s.pwr.change.isSome || s.pwr.waking.isSome

/-- The checks of MODE_REQUEST (R743). -/
def modeRequestCheck (o : Origin) (mode time : Nat) (s : State) : Refuse :=
  if mode = modeCode s.mode then none
  else firstRefusal
    [need (decide (3 ≤ mode ∧ mode ≤ 7) && (decide (time = 0) || (sleeps mode && decide (s.now + 100000000 ≤ time)))) .badField 0,
     needRig o s,
     needServing s,
     need (!s.changing && s.fid.fids.all (fun e => e.2.upd.isNone) && (List.range 12).all (fun m => decide (s.chState m ≠ 2))) .stateConflict 0,
     need (s.rig.rezone.isNone || !sleeps mode) .zoneBusy 0]

/-- Set PWR_WAKE_TIME. -/
def setWakeTime (t : Nat) (s : State) : State := (s.setReg Reg.pwrWakeTimeLo (wd t)).setReg Reg.pwrWakeTimeHi (wd (t / 0x100000000))

/-- The record writes in progress: the first of each class, as class and sequence number (R692, R745 step 2). -/
def State.writesNow (s : State) : List (Nat × Nat) := [1, 2, 3, 4, 5, 6].filterMap (fun c => (s.currentWrite c).map (fun w => (c, w.seq)))

/-- Step 1 of sleep entry (R745): armed work ends, batches are undone, calibration runs end, copies stop; bight pairs are to close; the record writes in progress are to complete. -/
def beginSleep (mode : Nat) (o : Origin) (s : State) : State :=
  let s := setPwr { s.pwr with change := some ⟨mode, some o, s.now⟩, draining := s.writesNow } (s.setBit Reg.sysMode 8 true)
  let s := (List.range 4).foldl (fun s t => undoBatches t s) s
  let s := endSets (fun _ => true) rbEnded leaderObj s
  lanesRefresh (stopCopy (abortCal s))

/-- What MODE_REQUEST does once its checks passed (R743, R744). -/
def modeRequestEffect (o : Origin) (mode time : Nat) (s : State) : State :=
  if mode = modeCode s.mode then completeOk o s
  else
    let s := if time = 0 then s else setWakeTime time s
    if mode = 7 then enterLockdown false (completeOk o (showMode .ok s))
    else if sleeps mode then beginSleep mode o s
    else completeOk o (showMode .ok (setMode (modeOf mode) s))

/-- MODE_REQUEST (R743). A refusal shows in LAST_RESULT too. -/
def doModeRequest (o : Origin) (mode time : Nat) (s : State) : State :=
  let s' := match modeRequestCheck o mode time s with
    | some (st, _) => showMode st s
    | none => s
  loneCommand o .working (modeRequestCheck o mode time) (modeRequestEffect o mode time) (if (s.batchOf o).isNone then s' else s)

def execModeRequest (o : Origin) (mode time : Nat) (s : State) : Host.Outcome State Fault Refusal := run (doModeRequest o mode time) s

/-! Wakes -/

/-- A wake starts (R747, R748 step 1): PWR_WAKE_CAUSE holds its source, and CORE_PWR_EN is high. -/
def startWake (cause link : Nat) (s : State) : State :=
  let s := (s.setReg Reg.pwrWakeCause (wd (cause + 0x10 * link))).setBit Reg.pwrStatus 0 true
  setPwr { s.pwr with wakeHeld := none, waking := some ⟨s.f Reg.sysMode 6 4, none, s.now⟩ } s

/-- A wake source: held during entry to sleep, else the wake starts (R742). -/
def wakeSource (cause link : Nat) (s : State) : State :=
  if s.asleep then (if s.pwr.waking.isSome then s else startWake cause link s)
  else if s.pwr.change.isSome && s.pwr.wakeHeld.isNone then setPwr { s.pwr with wakeHeld := some (cause, link) } s
  else s

/-- HOST_WAKE (R747): a TLP arrives on a link. -/
def doHostWake (link : Nat) (s : State) : State := wakeSource 1 (link % 4) s

def execHostWake (link : Nat) (s : State) : Host.Outcome State Fault Refusal := run (doHostWake link) s

/-- PWR_WAKE_TIME. -/
def State.wakeTime (s : State) : Nat := (s.reg Reg.pwrWakeTimeLo).toNat + 0x100000000 * (s.reg Reg.pwrWakeTimeHi).toNat

/-- TIME_WAKE (R747): the coarse counter reaches PWR_WAKE_TIME, which is not 0, to within 31 µs; while the system counter still runs it tells the time. -/
def doTimeWake (s : State) : State :=
  if s.wakeTime = 0 ∨ (!s.asleep ∧ s.now + 31000 < s.wakeTime) then s else wakeSource 2 0 s

def execTimeWake (s : State) : Host.Outcome State Fault Refusal := run doTimeWake s

/-- OUTPUTS_STOPPED (R128, R745 steps 3 to 7): every output has completed its frame, every bight pair has closed, and every record write that was in progress has completed. The timebase stores its state, channels are in
self-refresh, domains are shut down, the command completes, and in Deep sleep CORE_PWR_EN goes low. -/
def doOutputsStopped (s : State) : State :=
  match s.pwr.change with
  | none => s
  | some c =>
    if s.rst.writes.any (fun w => s.pwr.draining.contains (w.cls, w.seq)) || !s.bightsClosed then s
    else
      let on := (List.range 256).filter s.domOn
      let s := timeSleep (stopStrands (setMode (modeOf c.target) (s.setBit Reg.sysMode 8 false)))
      let s := selfRefreshAll s
      let s := (List.range 8).foldl (fun s k => s.setReg (Reg.pwrDomOn k) 0) s
      let s := setPwr { s.pwr with change := none, draining := [], halted := [], wasOn := on, reqs := [] } s
      let s := match c.origin with
        | some o => completeOk o (showMode .ok s)
        | none => s
      let s := if c.target = 6 then s.setBit Reg.pwrStatus 0 false else s
      match s.pwr.wakeHeld with
      | some w => startWake w.1 w.2 s
      | none => s

def execOutputsStopped (s : State) : Host.Outcome State Fault Refusal := run doOutputsStopped s

/-- What resumes with the mode slept from (R748 steps 3 and 4, R749). -/
def resume (target : Nat) (s : State) : State :=
  let s := s.pwr.wasOn.foldl (fun s d => wakeDomain 1 0 none d s) s
  let s := setMode (modeOf target) (setPwr { s.pwr with wasOn := [] } s)
  let s := (List.range 4).foldl (fun s t => if s.lanyard t = 1 then stampLanyard t s else s) s
  let s := (List.range 128).foldl (fun s n => startRx n s) s
  let s := lanesRefresh s
  let s := (List.range 256).foldl (fun s tg => if s.genRuns tg then genEnter tg (s.startsInPhase tg) s.draw else s) s
  raiseEn (some s.rigOwner) 0 Reg.sysEvent Reg.sysEventEn 3 (enginesRefresh s)

/-- The channels leave self-refresh (R748). -/
def leaveSelfRefresh (s : State) : State := s.store.selfRefresh.foldl (fun s e => outOfRefresh e.1 s) s

/-- A wake that finds the tamper latch set enters Lockdown, its record written first where it is not yet (R729, R748). -/
def wakeAlarmed (s : State) : State :=
  enterLockdown true (timeWake (if s.bit Reg.keyTamperStatus 16 || s.writing clsTamper then s else writeTamper s))

/-- WAKE (R748): supplies are in window and state is restored, `ticks` of the tick domain after sleep began. With the tamper latch set it leads to Lockdown (R730). -/
def doWake (ticks : Nat) (s : State) : State :=
  match s.pwr.waking with
  | none => s
  | some w =>
    let s := setWakeTime 0 (setPwr { s.pwr with waking := none, coarse := s.pwr.coarse + ticks } s)
    if s.pwr.tamper then wakeAlarmed s else resume w.target (leaveSelfRefresh (timeWake s))

def execWake (ticks : Nat) (s : State) : Host.Outcome State Fault Refusal := run (doWake ticks) s

/-! The management port -/

/-- The port answers with a status byte, and data where it is done. -/
def mgmtAnswer (st : Nat) (data : List Byte) (s : State) : State :=
  let s := s.emit (.mgmtStatus st)
  if data.isEmpty then s else s.emit (.reply data)

/-- A request at the port (R655, R657, R732): none is answered with a wrong PEC or in Off and Reset; asleep, `awake` commands are BUSY; in Lockdown, what is not
`locked` is refused. -/
def mgmtRequest (pec asleep locked : Bool) (f : State → State) (s : State) : State :=
  if !pec || decide (s.mode = .off ∨ s.mode = .reset) then s
  else if s.asleep && !asleep then mgmtAnswer 1 [] s
  else if s.mode = .lockdown ∧ !locked then mgmtAnswer 2 [] s
  else f s

/-- IDENTIFY (R656). -/
def doIdentify (pec : Bool) (s : State) : State :=
  mgmtRequest pec true true (fun s => mgmtAnswer 0
    (leBytes 2 0x1F6B ++ leBytes 2 0x0128 ++ leBytes 1 0xB0 ++ leBytes 8 Config.deviceSerial.toNat ++ leBytes 4 (s.reg Reg.sysRigImageVer).toNat) s) s

def execIdentify (pec : Bool) (s : State) : Host.Outcome State Fault Refusal := run (doIdentify pec) s

/-- HEALTH (R656); the package power is a measurement, and free. -/
def doHealth (pec : Bool) (s : State) : State :=
  mgmtRequest pec true true (fun s => mgmtAnswer 0
    (leBytes 1 (modeCode s.mode) ++ leBytes 2 (s.f Reg.pwrTemp 15 0) ++ leBytes 1 (s.f Reg.pwrStatus 1 0) ++ leBytes 2 (Config.freeNat s.draws % 0x10000) ++
     leBytes 1 (s.f Reg.tenLanyardAll 7 0) ++ leBytes 4 (s.reg Reg.fstStatus).toNat ++ leBytes 1 s.tbState) s.draw) s

def execHealth (pec : Bool) (s : State) : Host.Outcome State Fault Refusal := run (doHealth pec) s

/-- ALERT_STATUS (R656, R658): the alert bits, which are then cleared. -/
def doAlertStatus (pec : Bool) (s : State) : State :=
  mgmtRequest pec false true (fun s => setHost { s.host with alerts := 0 } (mgmtAnswer 0 (leBytes 1 s.host.alerts) s)) s

def execAlertStatus (pec : Bool) (s : State) : Host.Outcome State Fault Refusal := run (doAlertStatus pec) s

/-- MODE_REQUEST of the port (R656, R744): it names Service or Maintenance, and acts as a wake. -/
def doMgmtModeRequest (pec : Bool) (mode : Nat) (s : State) : State :=
  mgmtRequest pec true false (fun s =>
    if s.host.mgmtModes && decide (mode = 3 ∨ mode = 4) && s.asleep then wakeSource 4 0 (mgmtAnswer 0 [] s) else mgmtAnswer 2 [] s) s

def execMgmtModeRequest (pec : Bool) (mode : Nat) (s : State) : Host.Outcome State Fault Refusal := run (doMgmtModeRequest pec mode) s

/-- Put a number into a falling list. -/
def insertFalling (n : Nat) : List Nat → List Nat
  | [] => [n]
  | x :: l => if x ≤ n then n :: x :: l else x :: insertFalling n l

/-- SEQs of a class's intact records, newest first. -/
def State.seqsOf (s : State) (cls : Nat) : List Nat :=
  (((s.ring cls).filter (fun x => x.intact)).map (fun x => x.seq)).eraseDups.foldl (fun l n => insertFalling n l) []

/-- The record that the port's index names, counted back from the newest (R706). -/
def State.mgmtRecord (s : State) (cls index : Nat) : Option RecCopy :=
  match (s.seqsOf cls)[index]? with
  | some q => bestCopy ((s.ring cls).filter (fun x => x.intact && decide (x.seq = q)))
  | none => none

/-- REC_READ of the port (R656, R706): offset and length count in the descriptor and payload; in Lockdown only TAMPER_LOG (R732). -/
def doMgmtRecRead (pec : Bool) (cls index offset length : Nat) (s : State) : State :=
  mgmtRequest pec false (decide (cls = clsTamper)) (fun s =>
    if !decide ((cls = clsSelector ∨ cls = clsTamper ∨ cls = clsLog) ∧ length ≤ 240) then mgmtAnswer 2 [] s
    else
      match s.mgmtRecord cls index with
      | none => mgmtAnswer 2 [] s
      | some x => mgmtAnswer 0 (((s.recDescriptor cls x ++ x.payload).drop offset).take length) s) s

def execMgmtRecRead (pec : Bool) (cls index offset length : Nat) (s : State) : Host.Outcome State Fault Refusal :=
  run (doMgmtRecRead pec cls index offset length) s

/-- ATTEST_CHALLENGE (R656, R726). -/
def doAttestChallenge (pec : Bool) (challenge : List Byte) (s : State) : State :=
  mgmtRequest pec false false (fun s => mgmtAnswer 0 [] (setHost { s.host with challenge := some challenge } s)) s

def execAttestChallenge (pec : Bool) (challenge : List Byte) (s : State) : Host.Outcome State Fault Refusal := run (doAttestChallenge pec challenge) s

/-- The slot of the port's attestation, when the plan names one and it holds a RESPOND key (R726). -/
def State.mgmtSlot (s : State) : Option Nat :=
  let k := s.f Reg.keyAttestSlot 7 0
  if s.bit Reg.keyAttestSlot 8 && (s.keySlot k).holds && decide (attrUse (s.keySlot k).attr = useRespond) then some k else none

/-- ATTEST_RESPONSE (R656, R725, R726): BUSY while the digest is to be recomputed. -/
def doAttestResponse (pec : Bool) (s : State) : State :=
  mgmtRequest pec false false (fun s =>
    match s.mgmtSlot, s.host.challenge with
    | some k, some c => if s.key.digestDue then mgmtAnswer 1 [] s else mgmtAnswer 0 (natBytes (s.digestBytes ++ s.respond k c)) s
    | _, _ => mgmtAnswer 2 [] s) s

def execAttestResponse (pec : Bool) (s : State) : Host.Outcome State Fault Refusal := run (doAttestResponse pec) s

end Sys2Proof.Machine
end

