-- ==== Sys2Proof/Machine/Fabric.lean ====
section
/-! DEFINITION. Accesses over the control fabric: register reads and writes by access type (R14 to R19), BAR0 (R614, R615), and the other targets of the
address map (R13, R662 to R666). -/

namespace Sys2Proof.Machine

open Sys2Proof

/-! Register writes -/

/-- A write outside Bring-up, Service and Maintenance is ignored (R707, R766); in Lockdown one to an event register still clears its bits (R751). -/
def State.takesWrite (s : State) (l : Loc) : Bool := s.workMode || (decide (l.row.acc = .w1c) && decide (s.mode = .lockdown))

/-- A PWR register (R758, R764, R766): out of range, a write is ignored; BELAY_STEP_LIMIT shows BAD_FIELD. -/
def pwrWrite (l : Loc) (a : Nat) (v : Word) (s : State) : State :=
  if !s.takesWrite l then s
  else if a = Reg.pwrBelayCfg ∧ (fld v 5 0 < 5 ∨ 60 < fld v 5 0) then s.setF Reg.pwrStatus 23 16 (statusCode .badField)
  else if a = Reg.pwrIdleHold ∧ (fld v 15 0 < 1 ∨ 60000 < fld v 15 0) then s
  else if a = Reg.pwrTempLimit ∧ (fld v 7 0 < 60 ∨ (if Config.orderingE then 105 else 100) < fld v 7 0) then s
  else plainWrite l a v s

/-- A register of a destination window (R204, R240, R247); `d` is the DEST code. -/
def destWrite (m : Master) (d : Nat) (l : Loc) (a : Nat) (v : Word) (s : State) : State :=
  if l.off = 8 then armCtrlWrite m d v s
  else if l.off = 4 ∨ l.off = 0xC ∨ l.off = 0x10 then
    (if s.destHeld d then setResult d .stateConflict s else s.setReg a (merge l.row.mask (s.reg a) v))
  else if destIsStrand d && decide (l.off = 0x20 ∨ l.off = 0x24) then s
  else plainWrite l a v s

/-- A SYS register: SYS_CTRL (R666), FAB_LOCK_LIMIT in its range (R678), the rest plain. -/
def sysWrite (m : Master) (l : Loc) (a : Nat) (v : Word) (s : State) : State :=
  if a = Reg.sysCtrl then sysCtrlWrite m v s
  else if a = Reg.fabLockLimit ∧ (fld v 14 0 < 2560 ∨ 16384 < fld v 14 0) then s
  else plainWrite l a v s

/-- A register whose write stages to a shadow context, or whose block gives a write a meaning of its own; `t` is the tenancy it acts for. -/
def engineWrite (t : Nat) (l : Loc) (a : Nat) (v : Word) (s : State) : State :=
  if l.row.acc = .rws then rwsWrite t none a v l s
  else
    match l.kind with
    | .sbd => if l.off = 0xC8 then tblLoadWrite l.i v s else if l.off = 0xC4 then tblDataWrite l.i v s else plainWrite l a v s
    | .cmp => if l.off = 0x44 then cpDataWrite l.i v s else plainWrite l a v s
    | .layer => if l.off = 0x38 then flipWrite t (layerNo l.i l.j) v s else plainWrite l a v s
    | .scn => if l.off = 0x28 then tableLoadWrite t none l.i v s else plainWrite l a v s
    | _ => plainWrite l a v s

/-- A write of a located register that has passed the gate (R14): by the block's own rule where it has one. -/
def regWriteBody (m : Master) (l : Loc) (a : Nat) (v : Word) (s : State) : State :=
  let t := s.actsFor m ((windowObj l).getD 0)
  match l.kind with
  | .sys => sysWrite m l a v s
  | .ten => tenWrite l a v s
  | .pwr => pwrWrite l a v s
  | .tmb => tmbWrite l a v s
  | .calStrand => if l.off = 4 then userWrite 0 l.i (a - 4) v s else s
  | .calRate => if l.off = 4 then userWrite 1 l.i (a - 4) v s else s
  | .calSensor => if l.off = 4 then userWrite 2 0 (a - 4) v s else s
  | .calRefsync => if l.off = 4 then userWrite 3 0 (a - 4) v s else s
  | .str => strandWrite l a v s
  | .bight => if l.off = 0 then bightCtrlWrite l.i v s else plainWrite l a v s
  | .dpSb => if l.off = 0 then dpCtrlWrite l.i v s else if s.dpOn l.i then plainWrite l a v s else s
  | .edid => edidWrite l a v s
  | .wir => wirWrite l a v s
  | .ethIf => ethIfWrite l a v s
  | .msc => mscWrite l a v s
  | .splGlobal => if l.off = 0x10 then doSplTake m v s else if l.off = 0x14 then doSplCancel m v s else s
  | .splStrand => destWrite m (destStrand l.i) l a v s
  | .splEo => destWrite m l.i l a v s
  | .fst => fstWrite l a v s
  | .fstCh => fstWrite l a v s
  | .fstTen => fstWrite l a v s
  | .audDom => domWrite t l.i l a v s
  | .amo => amoWrite t l.i l a v s
  | .sap => sapWrite l.i l a v s
  | .ai => aiWrite l.i l a v s
  | .ao => aoWrite l.i l a v s
  | .src => srcWrite l.i l a v s
  | .agrp => agrpWrite ((masterTenancy m).getD (l.i / 64)) l.i l a v s
  | .fidHook => if l.off < 8 then hookWinWrite l.i l.j a v s else plainWrite l a v s
  | .recs =>
    if l.off = 0x24 then ownerCtrlWrite v s
    else if s.takesWrite l then plainWrite l a v s
    else s
  | _ => engineWrite t l a v s

/-- A 32-bit register write by a master, through the gate (R14, R18, R19). -/
def regWrite (m : Master) (a : Nat) (v : Word) (s : State) : State := gatedWrite m a (fun l s => regWriteBody m l a v s) s

/-! Register reads -/

/-- A count shown for a reader covers what it owns; a fid's or the debug port's covers everything (R239). -/
def State.ownsAs (s : State) (m : Master) (c : Nat) : Bool :=
  match m with
  | .tenancy t => decide (s.owner c = some t)
  | _ => true

/-- Every destination: the egress ports, then the egress strands. -/
def allDests : List Nat := List.range 1024 ++ (List.range 128).map destStrand

/-- SPL_ARMED_NOW (R239): destinations in ARMED, PREROLL, DECIDED or DEFERRED. -/
def State.armedNow (s : State) (m : Master) : Nat :=
  (allDests.filter (fun d => s.ownsAs m (objDest d) && decide (1 ≤ s.destState d ∧ s.destState d ≤ 4))).length

/-- SPL_PROMOTED_NOW (R239): promoted egress strands. -/
def State.promotedNow (s : State) (m : Master) : Nat := (s.spl.promos.filter (fun p => s.ownsAs m (objDest (destStrand p.1)))).length

/-- Destinations of a tenancy in states `lo` to `hi`. -/
def State.destsIn (s : State) (t lo hi : Nat) : Nat :=
  (allDests.filter (fun d => decide (s.owner (objDest d) = some t) && decide (lo ≤ s.destState d ∧ s.destState d ≤ hi))).length

/-- TEN_PRE_STATUS (chapter 6, registers): destinations in PREROLL or DECIDED, and in DEFERRED. -/
def State.preStatusWord (s : State) (t : Nat) : Word := wd (s.destsIn t 2 3 + 0x800 * s.destsIn t 4 4)

/-- A rate in kB/s as a register shows it, in MB/s. -/
def mbWord (kb : Nat) : Word := wd (kb / 1000)

/-- What the device has committed, its copy included; 0 out of service (R453). -/
def State.committedAll (s : State) : Nat := if s.storeOn then s.committed + s.copyCharge else 0

/-- PWR_BELAY_STATUS (R766). -/
def State.belayWord (s : State) : Word :=
  let prio := if s.pwr.reqs.any (fun r => decide (r.prio = 0)) then 1 else if s.pwr.reqs.any (fun r => decide (r.prio = 1)) then 2
    else if s.pwr.reqs.isEmpty then 0 else 3
  wd (min 0xFFF s.stepsNow + 0x10000 * min 255 s.pwr.reqs.length + 0x1000000 * prio)

/-- Words of the FST block that are computed on a read (R450, R453, R456, R475). -/
def State.fstView (s : State) (a : Nat) : Word :=
  if a = Reg.fstStatus then setFld (s.reg a) 3 3 (b2n (decide (s.budget < s.committedAll)))
  else if a = Reg.fstPeak then mbWord (s.peakWithout none)
  else if a = Reg.fstBudget then mbWord s.budget
  else if a = Reg.fstCommit then mbWord s.committedAll
  else if a = Reg.fstScrubLast then s.scrubHours
  else s.reg a

/-- Words of an FST tenancy window that are computed on a read (R440, R452, R453). -/
def State.fstTenView (s : State) (t off a : Nat) : Word :=
  if off = 8 then mbWord (s.tenLimitOf s.budget t)
  else if off = 0xC then mbWord (s.tenCommitted t)
  else if off = 0x24 then setFld (s.reg a) 31 16 (min 0xFFFF (s.devFree t / 0x100000))
  else s.reg a

/-- Words of an SPL window that are computed on a read: ARM (R242). -/
def State.destView (s : State) (d off a : Nat) : Word :=
  if off = 8 then setFld (s.reg a) 0 0 (b2n (decide (1 ≤ s.destState d ∧ s.destState d ≤ 4)))
  else if destIsStrand d && decide (off = 0x20 ∨ off = 0x24) then 0
  else s.reg a

/-- SBD_GANG as it reads (R335): what its image and commits set, with the members' inputs and fits, and whether the gang holds or fills. -/
def State.gangWord (s : State) (k : Nat) : Word :=
  let w := s.reg (Reg.sbdGang k)
  if !s.eng.gangs.contains k then w
  else
    let one := decide (s.sbShape s.liveReg (4 * k) = some 2)
    let bits (f : Nat → Bool) : Nat := ((List.range 4).map (fun q => if f q then 2 ^ q else 0)).sum
    let inp := bits (fun q => s.bit (Reg.sbdStatus (4 * k + q)) 0 && (!one || decide (q = 0)))
    let unfit := bits (fun q => ((s.inFormat s.liveView (s.sbSource s.liveReg (4 * k + q))).bind (s.sbUnfit s.liveView (4 * k + q))).isSome)
    setFld (setFld (setFld w 7 4 inp) 11 8 unfit) 12 12 (b2n (s.sheetSt (4 * k)).stalled)

/-- The word a read of a located register shows (R14). -/
def State.regView (s : State) (m : Master) (l : Loc) (a : Nat) : Word :=
  match l.kind with
  | .ten => (s.tenView l.i l.off).getD (s.reg a)
  | .tenPre => if l.off = 0 then s.preStatusWord l.i else if l.off = 4 then (if s.storeOn then mbWord (s.reserves l.i) else 0) else s.reg a
  | .pwr => if a = Reg.pwrBelayStatus then s.belayWord else s.reg a
  | .tmb =>
    if a = Reg.tmbCountLo then wd s.now
    else if a = Reg.tmbCountHi then tabGetD 0 (masterNo m) s.tim.latch
    else if a = Reg.tmbHoldTime then s.holdTime
    else s.reg a
  | .calStrand => if l.off = 0xC then s.ageWord (a - 0xC) else s.reg a
  | .calRate => if l.off = 0xC then s.ageWord (a - 0xC) else s.reg a
  | .calSensor => if l.off = 0xC then s.ageWord (a - 0xC) else s.reg a
  | .calRefsync => if l.off = 0xC then s.ageWord (a - 0xC) else s.reg a
  | .str => if a = Reg.strPrbsCtrl l.i then s.prbsCtrlWord l.i else s.reg a
  | .dpSb =>
    if !s.dpOn l.i then 0
    else if l.off = 4 ∧ s.dpSource l.i = false then setFld (s.reg a) 0 0 (fld (s.reg (Reg.strDpSbCtrl l.i)) 0 0)
    else s.reg a
  | .edid => if s.dpOn l.i then s.reg a else 0
  | .wir => if s.leads l.i then s.reg a else 0
  | .splGlobal =>
    if a = Reg.splArmedNow then wd (s.armedNow m)
    else if a = Reg.splPromotedNow then wd (s.promotedNow m)
    else s.reg a
  | .splStrand => s.destView (destStrand l.i) l.off a
  | .splEo => s.destView l.i l.off a
  | .scn => if a = Reg.scnPos l.i then s.posWord l.i else s.reg a
  | .pace => if ((s.consumer l.i).map isEncoder).getD false then s.reg a else 0
  | .gang => s.gangWord l.i
  | .fst => s.fstView a
  | .fstTen => s.fstTenView l.i l.off a
  | .laneMap => s.laneWord l.i (l.off / 4)
  | .aud =>
    if a = Reg.audHouseSeqLo then wd s.houseSeq
    else if a = Reg.audHouseSeqHi then wd (s.houseSeq / 0x100000000)
    else s.reg a
  | .audDom => if l.off = 0 then setFld (s.reg a) 2 1 (s.domNom l.i) else s.reg a
  | .amo => if (tabGet l.i s.aud.amoBind).isNone then 0 else s.reg a
  | .src => if l.off = 8 then s.srcStatusWord l.i else if l.off = 0xC then s.srcRatioWord l.i else s.reg a
  | .fidHook => if l.off = 4 then s.reg a &&& wd (s.hookMaskOf (l.i + 1) l.j) else s.reg a
  | .recs => if a = Reg.recStatus then s.recStatusWord else s.reg a
  | _ => s.reg a

/-- The register holds a measurement the spec leaves open and no command reports: the errors an SDI or display receiver has counted since the previous read (R117), the
equaliser of a receiver that keeps adapting (R99), package power (R766) and the issue cycles of a fid's threads (R607). -/
def State.readsFree (s : State) (l : Loc) (a : Nat) : Bool :=
  match l.kind with
  | .str =>
    (decide (a = Reg.strProtoErr l.i) && counted l.i s.now s.strand.errSince) ||
    (decide (a = Reg.strRxEqStat l.i) && decide (s.rx l.i = .up) && decide (tabGetD 0 l.i s.strand.eqMode ≠ 1))
  | .pwr => decide (a = Reg.pwrPower)
  | .fidSys => decide (l.off = 0x18)
  | _ => false

/-- A free value in the bits such a register has, of a register that holds `v`: under MANUAL the CTLE is the one set, and the DFE alone adapts (R99). -/
def freeView (l : Loc) (manual : Bool) (v : Word) (n : Nat) : Word :=
  match l.kind with
  | .str =>
    if l.off = 0x1C then (if manual then merge 0xFF00 v (Config.freeWord n) else Config.freeWord n &&& 0xFF1F)
    else Config.freeWord n
  | .pwr => Config.freeWord n &&& 0xFFFF
  | _ => wd (Config.freeNat n % 101 + 0x100 * (Config.freeNat (n + 1) % 101))

/-- A read with effects of its own: what it returns is emitted, or found in the registers it fills. -/
def sideRead (_m : Master) (l : Loc) (a : Nat) (s : State) : Option State :=
  match l.kind with
  | .str =>
    if a = Reg.strPrbsErr l.i then
      some (prbsErrBody l.i (Config.freeNat s.draws) (Config.freeNat (s.draws + 1)) { s with draws := s.draws + 2 })
    else none
  | .sbd => if l.off = 0xC4 then some (tblDataRead l.i s) else none
  | .cmp => if l.off = 0x44 then some (cpDataRead l.i s) else none
  | _ => none

/-- A read of a located register that has passed the gate: its word and what the read leaves (R14, R16, R413, R547). -/
def regReadBody (m : Master) (l : Loc) (a : Nat) (s : State) : Word × State :=
  match sideRead m l a s with
  | some s' =>
    ((match s'.out.getLast? with
      | some (.read v) => v
      | _ => 0), { s' with out := s.out })
  | none =>
    if l.row.acc = .wo then (0, s)
    else if s.readsFree l a then
      let v := freeView l (decide (l.kind = .str ∧ tabGetD 0 l.i s.strand.eqMode = 2)) (s.reg a) s.draws
      let s := { s with draws := s.draws + 2 }
      (v, if l.kind = .str ∧ l.off = 0x40 then setStrand { s.strand with errSince := readCount l.i s.now (s.countsErrors l.i) s.strand.errSince } s else s)
    else
      let v := s.regView m l a
      if l.row.acc = .rc then (v, s.setReg a (if l.kind = .scn ∧ l.off = 0x50 then wd 0xFFFFFFFF else 0))
      else if a = Reg.tmbCountLo then
        (v, { s with tim := { s.tim with latch := tabPut 0 (masterNo m) (wd (s.now / 0x100000000)) s.tim.latch } })
      else (v, s)

/-- A 32-bit register read by a master, through the gate: what fails it returns 0 (R18, R19). -/
def regRead (m : Master) (a : Nat) (s : State) : Word × State :=
  match locate a with
  | none => (0, s)
  | some l =>
    match m with
    | .tenancy t =>
      match readGate t l s with
      | .pass => regReadBody m l a s
      | .foreign => (0, foreign t s)
      | .ignore => (0, s)
    | _ => if zoneStopped l s then (0, s) else regReadBody m l a s

/-! BAR0 (R614, R615) -/

/-- A 32-bit write at a BAR0 offset: registers, doorbells, or the MSI-X table. -/
def bar0Write (t a : Nat) (v : Word) (s : State) : State :=
  if a < 0x400000 then regWrite (.tenancy t) a v s
  else if 0x800000 ≤ a ∧ a < 0x800200 ∧ a % 8 = 0 then sqTail t ((a - 0x800000) / 8) v s
  else if 0x800000 ≤ a ∧ a < 0x800200 ∧ a % 8 = 4 then cqHead t ((a - 0x800004) / 8) v s
  else if a = 0x800400 then evqHead t v s
  else if 0x900000 ≤ a ∧ a < 0x901000 ∧ s.mode ≠ .lockdown then msixWrite t ((a - 0x900000) / 4) v s
  else s

/-- A 32-bit read at a BAR0 offset: doorbells read 0, and in Lockdown so does the MSI-X table (R751). -/
def bar0Read (t a : Nat) (s : State) : Word × State :=
  if a < 0x400000 then regRead (.tenancy t) a s
  else if s.mode = .lockdown then (0, s)
  else if 0x900000 ≤ a ∧ a < 0x901000 then (s.msixWord t ((a - 0x900000) / 4), s)
  else if 0x901000 ≤ a ∧ a < 0x901020 then (s.pendingWord t ((a - 0x901000) / 4), s)
  else (0, s)

/-! Fabric addresses (R13, R662) -/

/-- What a fabric address names. -/
inductive Target where
  | rom (a : Nat)
  | sram (a : Nat)
  | register (a : Nat)
  | fidMem (f a : Nat)
  | store (a : Nat)
  | none
  deriving DecidableEq, Repr

/-- The target of a 44-bit address, with REMAP as it stands (R13, R664). -/
def State.target (s : State) (a : Nat) : Target :=
  if a < 0x400000 then (if s.bit Reg.sysCtrl 0 then .sram a else .rom (a % 0x10000))
  else if 0x10000000 ≤ a ∧ a < 0x10400000 then .sram (a - 0x10000000)
  else if 0x20000000 ≤ a ∧ a < 0x20010000 then .rom (a - 0x20000000)
  else if 0x40000000 ≤ a ∧ a < 0x40400000 then .register (a - 0x40000000)
  else if 0x80000000 ≤ a ∧ a < 0x80000000 + 44 * 0x10000 then .fidMem ((a - 0x80000000) / 0x10000) (a % 0x10000)
  else if 0x10000000000 ≤ a ∧ a < 0x10000000000 + s.extents * extentBytes then .store (a - 0x10000000000)
  else .none

/-- A word write at a fabric address. -/
def fabricWrite (m : Master) (a : Nat) (v : Word) (s : State) : State :=
  let a := a / 4 * 4
  match s.target a with
  | .rom _ => s
  | .sram o => { s with fab := { s.fab with sram := tabPut 0 o v.toNat s.fab.sram } }
  | .register o => regWrite m o v s
  | .fidMem f o => setFidWord f o v.toNat s
  | .store o => writeBytes o (leBytes 4 v.toNat) s
  | .none => decodeError m a s

/-- A word read at a fabric address: 0 for one that no target decodes. -/
def fabricRead (m : Master) (a : Nat) (s : State) : Word × State :=
  let a := a / 4 * 4
  match s.target a with
  | .rom o => (Config.bootRom o, s)
  | .sram o => (wd (tabGetD 0 o s.fab.sram), s)
  | .register o => regRead m o s
  | .fidMem f o => (wd (s.fidWord f o), s)
  | .store o => (wd (leNat (s.readBytes o 4)), s)
  | .none => (0, decodeError m a s)

/-! REG_WRITE and REG_READ -/

/-- The master is there, in a mode in which the fabric runs (R661, R742). -/
def State.masterThere (s : State) (m : Master) : Bool :=
  decide (s.mode ≠ .off ∧ s.mode ≠ .reset) &&
  (match m with
   | .tenancy t => decide (t < s.tenancies)
   | .fid f => decide (f < 44)
   | .dma d => decide (d < 16)
   | .debug => true)

/-- One 32-bit access of a master at its own kind of address: a BAR0 offset for a tenancy bridge, a fabric address for the others. -/
def wordWrite (m : Master) (a : Nat) (v : Word) (s : State) : State :=
  match m with
  | .tenancy t => bar0Write t a v s
  | _ => fabricWrite m a v s

def wordRead (m : Master) (a : Nat) (s : State) : Word × State :=
  match m with
  | .tenancy t => bar0Read t a s
  | _ => fabricRead m a s

/-- One 32-bit read with its word emitted. -/
def emitRead (m : Master) (a : Nat) (s : State) : State :=
  let p := wordRead m a s
  p.2.emit (.read p.1)

/-- REG_WRITE (R14, R615): a 64-bit access is two, the lower address first; another size is ignored. -/
def doRegWrite (m : Master) (addr size : Nat) (v : DWord) (s : State) : State :=
  if !s.masterThere m then s
  else if size = 4 ∧ addr % 4 = 0 then wordWrite m addr (wd v.toNat) s
  else if size = 8 ∧ addr % 8 = 0 then wordWrite m (addr + 4) (wd (v.toNat / 0x100000000)) (wordWrite m addr (wd v.toNat) s)
  else
    match m with
    | .tenancy t => if s.mode = .lockdown then s else tenResult t .badField s
    | _ => s

def execRegWrite (m : Master) (addr size : Nat) (v : DWord) (s : State) : Host.Outcome State Fault Refusal := run (doRegWrite m addr size v) s

/-- REG_READ (R14, R615): another size returns the containing word. -/
def doRegRead (m : Master) (addr size : Nat) (s : State) : State :=
  if !s.masterThere m then s
  else if size = 8 ∧ addr % 8 = 0 then emitRead m (addr + 4) (emitRead m addr s)
  else emitRead m (addr / 4 * 4) s

def execRegRead (m : Master) (addr size : Nat) (s : State) : Host.Outcome State Fault Refusal := run (doRegRead m addr size) s

end Sys2Proof.Machine
end

