-- ==== Sys2Proof/Machine/Program.lean ====
section
/-! DEFINITION. The instructions of the fids (R578 to R589, R597, R599): one command issues the instruction at a thread's program counter. -/

namespace Sys2Proof.Machine

open Sys2Proof

/-! Threads -/

/-- The thread of a fid. -/
def State.thread (s : State) (f : Nat) (hook : Bool) : Thread := if hook then (s.fidOf f).hook else (s.fidOf f).sys

/-- Replace a thread of a fid. -/
def setThread (f : Nat) (hook : Bool) (t : Thread) (s : State) : State :=
  setFid f (if hook then { s.fidOf f with hook := t } else { s.fidOf f with sys := t }) s

/-- A register of a thread; g0 reads 0 (R578). -/
def Thread.g (t : Thread) (r : Nat) : Word := if r = 0 then 0 else wd (tabGetD 0 r t.regs)

/-- Write a register of a thread; a write to g0 is ignored (R578). -/
def Thread.put (t : Thread) (r : Nat) (v : Word) : Thread := if r = 0 then t else { t with regs := tabPut 0 r v.toNat t.regs }

/-- The tenancy whose hook runs on a fid. -/
def State.hookTenancy (s : State) (f : Nat) : Nat := (((s.fidOf f).run).map (fun r => r.tenancy)).getD 0

/-- The hook that runs is a SPLICE hook. -/
def State.spliceRun (s : State) (f : Nat) : Bool := (((s.fidOf f).run).map (fun r => decide (r.kind = 0))).getD false

/-- The thread can issue: its fid has a program and is in a mode in which fids run, the system thread runs, the hook thread has a run (R578, R579, R585). -/
def State.threadReady (s : State) (f : Nat) (hook : Bool) : Bool :=
  decide (f < 44) && !((zoneOfObj (objFid f)).map s.stopped).getD false && decide (s.mode ≠ .off ∧ s.mode ≠ .reset ∧ s.mode ≠ .doze ∧ s.mode ≠ .deepSleep) &&
  (if hook then takesHooks f && (s.fidOf f).run.isSome else decide (s.fidState f = 1))

/-- An address a thread may fetch from (R580, R581). -/
def State.mayFetch (s : State) (f : Nat) (hook : Bool) (a : Nat) : Bool :=
  decide (a % 4 = 0) &&
  (if hook then decide (hookArea (s.hookTenancy f) ≤ a ∧ a < hookArea (s.hookTenancy f) + 0x800) else decide (a < 0x8000))

/-- An address a thread may load from and store to (R580, R581). -/
def State.mayData (s : State) (f : Nat) (hook : Bool) (a : Nat) : Bool :=
  decide (a % 4 = 0) &&
  (if hook then decide (hookArea (s.hookTenancy f) + 0x800 ≤ a ∧ a < hookArea (s.hookTenancy f) + 0x1000)
   else decide (0x8000 ≤ a ∧ a < 0x10000))

/-! Fields of an instruction (R582) -/

def opOf (w : Word) : Nat := fld w 31 26
def aOf (w : Word) : Nat := fld w 25 22
def bOf (w : Word) : Nat := fld w 21 18
def cOf (w : Word) : Nat := fld w 17 14
def fnOf (w : Word) : Nat := fld w 13 0
def imm18Of (w : Word) : Nat := fld w 17 0
def imm22Of (w : Word) : Nat := fld w 21 0

/-- An 18-bit immediate sign-extended to a word. -/
def immS (w : Word) : Word := wd (ux 32 (sx 18 (imm18Of w)))

/-- An 18-bit immediate zero-extended. -/
def immZ (w : Word) : Word := wd (imm18Of w)

/-! Issue -/

/-- Issue the instruction at a thread's program counter when its opcode is `op`; a fetch outside the thread's code traps (R585). -/
def issueIf (f : Nat) (hook : Bool) (op : Nat → Bool) (eff : Word → State → State) (s : State) : State :=
  if !s.threadReady f hook then s
  else
    let pc := (s.thread f hook).pc
    if !s.mayFetch f hook pc then trap f hook pc trapJump s
    else
      let w := wd (s.fidWord f pc)
      if op (opOf w) then eff w s else s

def issue (f : Nat) (hook : Bool) (op : Nat) (eff : Word → State → State) (s : State) : State :=
  issueIf f hook (fun x => decide (x = op)) eff s

/-- The thread traps at its program counter. -/
def trapHere (f : Nat) (hook : Bool) (cause : Nat) (s : State) : State := trap f hook (s.thread f hook).pc cause s

/-- Go on with the next instruction. -/
def stepOn (f : Nat) (hook : Bool) (s : State) : State :=
  let t := s.thread f hook
  setThread f hook { t with pc := t.pc + 4 } s

/-- gA takes a value and the thread goes on. -/
def setA (f : Nat) (hook : Bool) (r : Nat) (v : Word) (s : State) : State :=
  let t := s.thread f hook
  setThread f hook { t.put r v with pc := t.pc + 4 } s

/-- Go to an address: one outside the thread's code, or unaligned, traps (R585). -/
def goTo (f : Nat) (hook : Bool) (link : Nat) (target : Int) (s : State) : State :=
  let t := s.thread f hook
  if decide (target < 0) || !s.mayFetch f hook target.toNat then trap f hook t.pc trapJump s
  else setThread f hook { t.put link (wd (t.pc + 4)) with pc := target.toNat } s

/-- The target of a branch or jump by a word offset (R582). -/
def relative (pc : Nat) (off : Int) : Int := (pc : Int) + 4 * off

/-- gB and an operand give gA. -/
def immOp (f : Nat) (hook : Bool) (op : Nat) (g : Word → Word → Word) (imm : Word → Word) (s : State) : State :=
  issue f hook op (fun w s => setA f hook (aOf w) (g ((s.thread f hook).g (bOf w)) (imm w)) s) s

/-- A conditional branch. -/
def branchOp (f : Nat) (hook : Bool) (op : Nat) (c : Word → Word → Bool) (s : State) : State :=
  issue f hook op (fun w s =>
    let t := s.thread f hook
    if c (t.g (aOf w)) (t.g (bOf w)) then goTo f hook 0 (relative t.pc (sx 18 (imm18Of w))) s else stepOn f hook s) s

/-! Arithmetic and logic (R583) -/

/-- The shifts of ALU and SHI: 0 SHL, 1 SHR, 2 SRA. -/
def shiftOp (sel : Nat) (x : Word) (n : Nat) : Option Word :=
  match sel with
  | 0 => some (x <<< n)
  | 1 => some (x >>> n)
  | 2 => some (x.sshiftRight n)
  | _ => none

/-- The operations of ALU by F. -/
def aluOp (fn : Nat) (x y : Word) : Option Word :=
  match fn with
  | 0 => some (x + y)
  | 1 => some (x - y)
  | 2 => some (x &&& y)
  | 3 => some (x ||| y)
  | 4 => some (x ^^^ y)
  | 5 => shiftOp 0 x (y.toNat % 32)
  | 6 => shiftOp 1 x (y.toNat % 32)
  | 7 => shiftOp 2 x (y.toNat % 32)
  | 8 => some (wd (b2n (x.slt y)))
  | 9 => some (wd (b2n (x.ult y)))
  | 10 => some (x * y)
  | 11 => some (if x.slt y then x else y)
  | 12 => some (if x.slt y then y else x)
  | 13 => some (if x.ult y then x else y)
  | 14 => some (if x.ult y then y else x)
  | _ => none

/-- gA takes a result, or a free value where the spec names no operation for the selector. -/
def setResultA (f : Nat) (hook : Bool) (r : Nat) (v : Option Word) (s : State) : State :=
  match v with
  | some v => setA f hook r v s
  | none => setA f hook r (Config.freeWord s.draws) s.draw

def doAlu (f : Nat) (hook : Bool) (s : State) : State :=
  issue f hook 0x00 (fun w s =>
    let t := s.thread f hook
    setResultA f hook (aOf w) (aluOp (fnOf w) (t.g (bOf w)) (t.g (cOf w))) s) s

def execAlu (f : Nat) (hook : Bool) (s : State) : Host.Outcome State Fault Refusal := run (doAlu f hook) s

def doAddi (f : Nat) (hook : Bool) (s : State) : State := immOp f hook 0x01 (fun x y => x + y) immS s
def execAddi (f : Nat) (hook : Bool) (s : State) : Host.Outcome State Fault Refusal := run (doAddi f hook) s

def doAndi (f : Nat) (hook : Bool) (s : State) : State := immOp f hook 0x02 (fun x y => x &&& y) immZ s
def execAndi (f : Nat) (hook : Bool) (s : State) : Host.Outcome State Fault Refusal := run (doAndi f hook) s

def doOri (f : Nat) (hook : Bool) (s : State) : State := immOp f hook 0x03 (fun x y => x ||| y) immZ s
def execOri (f : Nat) (hook : Bool) (s : State) : Host.Outcome State Fault Refusal := run (doOri f hook) s

def doXori (f : Nat) (hook : Bool) (s : State) : State := immOp f hook 0x04 (fun x y => x ^^^ y) immZ s
def execXori (f : Nat) (hook : Bool) (s : State) : Host.Outcome State Fault Refusal := run (doXori f hook) s

def doShi (f : Nat) (hook : Bool) (s : State) : State :=
  issue f hook 0x05 (fun w s =>
    setResultA f hook (aOf w) (shiftOp (imm18Of w / 0x10000) ((s.thread f hook).g (bOf w)) (imm18Of w % 32)) s) s

def execShi (f : Nat) (hook : Bool) (s : State) : Host.Outcome State Fault Refusal := run (doShi f hook) s

def doLui (f : Nat) (hook : Bool) (s : State) : State :=
  issue f hook 0x06 (fun w s => setA f hook (aOf w) (wd (imm22Of w * 0x400)) s) s

def execLui (f : Nat) (hook : Bool) (s : State) : Host.Outcome State Fault Refusal := run (doLui f hook) s

def doSlti (f : Nat) (hook : Bool) (s : State) : State := immOp f hook 0x07 (fun x y => wd (b2n (x.slt y))) immS s
def execSlti (f : Nat) (hook : Bool) (s : State) : Host.Outcome State Fault Refusal := run (doSlti f hook) s

/-! Local memory (R580, R581) -/

/-- The local or register address gB + imm. -/
def State.effAddr (s : State) (f : Nat) (hook : Bool) (w : Word) : Nat := ((s.thread f hook).g (bOf w) + immS w).toNat

def doLd (f : Nat) (hook : Bool) (s : State) : State :=
  issue f hook 0x08 (fun w s =>
    let a := s.effAddr f hook w
    if s.mayData f hook a then setA f hook (aOf w) (wd (s.fidWord f a)) s else trapHere f hook trapMemory s) s

def execLd (f : Nat) (hook : Bool) (s : State) : Host.Outcome State Fault Refusal := run (doLd f hook) s

def doSt (f : Nat) (hook : Bool) (s : State) : State :=
  issue f hook 0x09 (fun w s =>
    let a := s.effAddr f hook w
    if s.mayData f hook a then stepOn f hook (setFidWord f a ((s.thread f hook).g (aOf w)).toNat s)
    else trapHere f hook trapMemory s) s

def execSt (f : Nat) (hook : Bool) (s : State) : Host.Outcome State Fault Refusal := run (doSt f hook) s

/-! Registers (R583, R585, R597) -/

/-- The master a thread's register reads act as: a hook reads as its tenancy does (R597). -/
def State.threadMaster (s : State) (f : Nat) (hook : Bool) : Master := if hook then .tenancy (s.hookTenancy f) else .fid f

/-- An offset a thread may name: inside the register space and aligned (R585). -/
def offsetOk (a : Nat) : Bool := decide (a % 4 = 0 ∧ a < 0x400000)

/-- A refused access of a hook: ignored and counted (R597). -/
def denied (f t : Nat) (s : State) : State := s.bump (Reg.fidHookDeniedCnt (hookNo f) t) 1

/-- Blocks an FP TICK hook may write: SPL, CMP, SBD, SCN and FST (R597). -/
def tickBlock (k : RegKind) : Bool :=
  match k with
  | .splStrand | .splEo | .cmp | .layer | .sbd | .scn | .crc | .pace | .fstRec | .fstPly => true
  | _ => false

/-- Registers of the AUD block. -/
def audBlock (k : RegKind) : Bool :=
  match k with
  | .aud | .audDom | .ami | .amo | .sap | .ai | .ao | .src | .agrp => true
  | _ => false

/-- The register is of an object the tenancy owns. -/
def State.ownedReg (s : State) (t : Nat) (l : Loc) : Bool :=
  (match windowObj l with
   | some c => decide (s.owner c = some t)
   | none => decide (windowTenancy l = some t)) && mayWrite t l s

/-- What a TICK hook may write, by RGW or SHW (R597): owned objects of the fid's zone for an FP fid, of the AUD block for an FA fid. -/
def State.tickMay (s : State) (f t : Nat) (l : Loc) : Bool :=
  s.ownedReg t l && (if fidKind f = 1 then decide (windowZone l = some ((f - 1) / 2)) else audBlock l.kind)

/-- What a hook may write by RGW (R597). -/
def State.hookMayWrite (s : State) (f t : Nat) (l : Loc) : Bool :=
  !s.spliceRun f && decide (l.row.acc = .rw ∨ l.row.acc = .w1c) && s.tickMay f t l && (decide (fidKind f ≠ 1) || tickBlock l.kind)

def doRgr (f : Nat) (hook : Bool) (s : State) : State :=
  issue f hook 0x0A (fun w s =>
    let a := s.effAddr f hook w
    if offsetOk a then
      let p := regRead (s.threadMaster f hook) a s
      setA f hook (aOf w) p.1 p.2
    else trapHere f hook trapMemory s) s

def execRgr (f : Nat) (hook : Bool) (s : State) : Host.Outcome State Fault Refusal := run (doRgr f hook) s

def doRgw (f : Nat) (hook : Bool) (s : State) : State :=
  issue f hook 0x0B (fun w s =>
    let a := s.effAddr f hook w
    let v := (s.thread f hook).g (aOf w)
    if !offsetOk a then trapHere f hook trapMemory s
    else if !hook then stepOn f hook (regWrite (.fid f) a v s)
    else
      let t := s.hookTenancy f
      stepOn f hook (if ((locate a).map (s.hookMayWrite f t)).getD false then regWrite (.tenancy t) a v s else denied f t s)) s

def execRgw (f : Nat) (hook : Bool) (s : State) : Host.Outcome State Fault Refusal := run (doRgw f hook) s

/-! Shadow writes and commit (R586, R587, R599) -/

def doShw (f : Nat) (hook : Bool) (s : State) : State :=
  issue f hook 0x0C (fun w s =>
    let t := s.thread f hook
    let a := s.effAddr f hook w
    if offsetOk a && decide (t.wbuf.length < 64) then
      setThread f hook { t with wbuf := t.wbuf ++ [(a, t.g (aOf w))], pc := t.pc + 4 } s
    else trapHere f hook trapMemory s) s

def execShw (f : Nat) (hook : Bool) (s : State) : Host.Outcome State Fault Refusal := run (doShw f hook) s

/-- An RWS write of a unit that has passed the sandbox: an arm register of a destination, or a shadow value. -/
def unitWrite (m : Master) (set : Option Nat) (a : Nat) (v : Word) (l : Loc) (s : State) : State :=
  match l.kind with
  | .splStrand => destWrite m (destStrand l.i) l a v s
  | .splEo => destWrite m l.i l a v s
  | _ => rwsWrite (s.actsFor m ((windowObj l).getD 0)) set a v l s

/-- The object a register configures belongs to a change set's branch (R249). -/
def State.inBranch (s : State) (id : Nat) (l : Loc) : Bool :=
  match ctxOwner l with
  | some e => decide ((s.holderOf (s.engLead e)).map (fun c => c.id) = some id)
  | none => decide ((s.opsHolder (resultObj l)).map (fun c => c.id) = some id)

/-- One buffered write of a thread, applied (R587, R597): what the sandbox refuses is dropped and counted. -/
def applyShadow (f : Nat) (hook : Bool) (set : Option Nat) (x : Nat × Word) (s : State) : State :=
  match locate x.1 with
  | none => if hook then denied f (s.hookTenancy f) s else s
  | some l =>
    if !hook then (if l.row.acc = .rws then unitWrite (.fid f) set x.1 x.2 l s else s)
    else
      let t := s.hookTenancy f
      let ok := decide (l.row.acc = .rws) && (match set with
        | some id => s.ownedReg t l && s.inBranch id l
        | none => s.tickMay f t l)
      if ok then gatedWrite (.tenancy t) x.1 (fun l s => unitWrite (.tenancy t) set x.1 x.2 l s) s else denied f t s

/-- The set a thread's unit goes to: none for the engines' staged sets (0xFFFE); `false` where the set named has ended or is DECIDED (R587). -/
def State.unitSet (s : State) (f : Nat) (hook : Bool) : Bool × Option Nat :=
  let named : Option (Option ChangeSet) :=
    if hook then ((s.fidOf f).run.bind (fun r => r.set)).map s.findSet
    else if (s.fidOf f).sys.set = 0xFFFE then none
    else some (s.spl.sets.find? (fun c => decide (c.leader = (s.fidOf f).sys.set ∧ c.kind ≠ .staged)))
  match named with
  | none => (true, none)
  | some none => (false, none)
  | some (some c) => (decide (c.phase ≠ .decided), some c.id)

/-- Apply a thread's buffered writes as one unit and empty the buffer: the new state and gA's result, 0 applied, 1 discarded (R587). -/
def commitUnit (f : Nat) (hook : Bool) (s : State) : State × Word :=
  let t := s.thread f hook
  let u := s.unitSet f hook
  let s := if u.1 then t.wbuf.foldl (fun s x => applyShadow f hook u.2 x s) s else s
  (setThread f hook { s.thread f hook with wbuf := [] } s, if u.1 then 0 else 1)

def doCmt (f : Nat) (hook : Bool) (s : State) : State :=
  issue f hook 0x0D (fun w s =>
    if hook && s.spliceRun f then setA f hook (aOf w) 0 s
    else
      let p := commitUnit f hook s
      setA f hook (aOf w) p.2 p.1) s

def execCmt (f : Nat) (hook : Bool) (s : State) : Host.Outcome State Fault Refusal := run (doCmt f hook) s

/-! The fabric (R583, R597) -/

/-- The 44-bit address (gC[11:0] << 32) + gB. -/
def State.wideAddr (s : State) (f : Nat) (hook : Bool) (w : Word) : Nat :=
  fld ((s.thread f hook).g (cOf w)) 11 0 * 0x100000000 + ((s.thread f hook).g (bOf w)).toNat

/-- Fetch a word over the fabric into gA. -/
def fetchA (f : Nat) (hook : Bool) (r a : Nat) (s : State) : State :=
  let p := fabricRead (.fid f) a s
  setA f hook r p.1 p.2

def doXld (f : Nat) (hook : Bool) (s : State) : State :=
  issue f hook 0x0E (fun w s =>
    let a := s.wideAddr f hook w
    if hook then trapHere f hook trapOpcode s
    else if a % 4 = 0 then fetchA f hook (aOf w) a s
    else trapHere f hook trapMemory s) s

def execXld (f : Nat) (hook : Bool) (s : State) : Host.Outcome State Fault Refusal := run (doXld f hook) s

def doXst (f : Nat) (hook : Bool) (s : State) : State :=
  issue f hook 0x0F (fun w s =>
    let a := s.wideAddr f hook w
    if hook then trapHere f hook trapOpcode s
    else if a % 4 = 0 then stepOn f hook (fabricWrite (.fid f) a ((s.thread f hook).g (aOf w)) s)
    else trapHere f hook trapMemory s) s

def execXst (f : Nat) (hook : Bool) (s : State) : Host.Outcome State Fault Refusal := run (doXst f hook) s

/-! Branches and jumps (R582, R583) -/

def doBeq (f : Nat) (hook : Bool) (s : State) : State := branchOp f hook 0x10 (fun x y => decide (x = y)) s
def execBeq (f : Nat) (hook : Bool) (s : State) : Host.Outcome State Fault Refusal := run (doBeq f hook) s

def doBne (f : Nat) (hook : Bool) (s : State) : State := branchOp f hook 0x11 (fun x y => decide (x ≠ y)) s
def execBne (f : Nat) (hook : Bool) (s : State) : Host.Outcome State Fault Refusal := run (doBne f hook) s

def doBlt (f : Nat) (hook : Bool) (s : State) : State := branchOp f hook 0x12 (fun x y => x.slt y) s
def execBlt (f : Nat) (hook : Bool) (s : State) : Host.Outcome State Fault Refusal := run (doBlt f hook) s

def doBge (f : Nat) (hook : Bool) (s : State) : State := branchOp f hook 0x13 (fun x y => !x.slt y) s
def execBge (f : Nat) (hook : Bool) (s : State) : Host.Outcome State Fault Refusal := run (doBge f hook) s

def doBltu (f : Nat) (hook : Bool) (s : State) : State := branchOp f hook 0x14 (fun x y => x.ult y) s
def execBltu (f : Nat) (hook : Bool) (s : State) : Host.Outcome State Fault Refusal := run (doBltu f hook) s

def doBgeu (f : Nat) (hook : Bool) (s : State) : State := branchOp f hook 0x15 (fun x y => !x.ult y) s
def execBgeu (f : Nat) (hook : Bool) (s : State) : Host.Outcome State Fault Refusal := run (doBgeu f hook) s

def doJal (f : Nat) (hook : Bool) (s : State) : State :=
  issue f hook 0x16 (fun w s => goTo f hook (aOf w) (relative (s.thread f hook).pc (sx 22 (imm22Of w))) s) s

def execJal (f : Nat) (hook : Bool) (s : State) : Host.Outcome State Fault Refusal := run (doJal f hook) s

def doJr (f : Nat) (hook : Bool) (s : State) : State :=
  issue f hook 0x17 (fun w s => goTo f hook (aOf w) (s.effAddr f hook w) s) s

def execJr (f : Nat) (hook : Bool) (s : State) : Host.Outcome State Fault Refusal := run (doJr f hook) s

/-! Time, events and control (R583, R584, R588, R589, R599) -/

def doTime (f : Nat) (hook : Bool) (s : State) : State :=
  issue f hook 0x18 (fun w s =>
    let t := s.thread f hook
    setThread f hook { (t.put (aOf w) (wd s.now)).put (bOf w) (wd (s.now / 0x100000000)) with pc := t.pc + 4 } s) s

def execTime (f : Nat) (hook : Bool) (s : State) : Host.Outcome State Fault Refusal := run (doTime f hook) s

/-- WAIT by the system thread: the events pending that the mask selects, or a wait for them. -/
def waitFor (f r mask : Nat) (s : State) : State :=
  let ev := (s.fidOf f).events &&& mask
  if ev ≠ 0 then
    setA f false r (wd ev) (setFid f { s.fidOf f with events := (s.fidOf f).events &&& (0xFFFFFFFF ^^^ mask) } s)
  else
    let s := stepOn f false s
    (setFid f { s.fidOf f with wait := some (r, mask) } s).setF (Reg.fidStatus f) 1 0 2

def doWait (f : Nat) (hook : Bool) (s : State) : State :=
  issue f hook 0x19 (fun w s =>
    if hook then trapHere f hook trapOpcode s else waitFor f (aOf w) ((s.thread f hook).g (bOf w)).toNat s) s

def execWait (f : Nat) (hook : Bool) (s : State) : Host.Outcome State Fault Refusal := run (doWait f hook) s

/-- A note of a hook run (R588, R601): held with the set of a SPLICE run, posted at once for a TICK run. -/
def hookNote (f code a b : Nat) (s : State) : State :=
  match (s.fidOf f).run with
  | none => s
  | some r =>
    if 4 ≤ r.notes then denied f r.tenancy s
    else
      let s := setFid f { s.fidOf f with run := some { r with notes := r.notes + 1 } } s
      match r.set with
      | some id => updSet id (fun c => { c with held := c.held ++ [.note f r.tenancy code a b] }) s
      | none => postTo (some r.tenancy) 2 (objFid f) code (leBytes 4 a ++ leBytes 4 b) s

def doEvt (f : Nat) (hook : Bool) (s : State) : State :=
  issue f hook 0x1A (fun w s =>
    let a := ((s.thread f hook).g (aOf w)).toNat
    let b := ((s.thread f hook).g (bOf w)).toNat
    let code := imm18Of w % 0x10000
    stepOn f hook (if hook then hookNote f code a b s
      else postTo (some s.rigOwner) 2 (objFid f) code (leBytes 4 a ++ leBytes 4 b) s)) s

def execEvt (f : Nat) (hook : Bool) (s : State) : Host.Outcome State Fault Refusal := run (doEvt f hook) s

/-- The CSRs of a thread (R584). -/
def State.csr (s : State) (f : Nat) (hook : Bool) (n : Nat) : Word :=
  let d := s.fidOf f
  match n with
  | 0 => wd f
  | 1 => wd (b2n (s.bit (Reg.fidStatus f) 2))
  | 2 => wd d.updated
  | 3 => wd ((s.now - d.cycle) / 2)
  | 4 => wd (b2n hook)
  | 5 => wd (if hook then s.hookTenancy f else 0)
  | 6 => if hook then (match d.run with | some r => wd (r.start + 20000 - s.now) | none => 0) else wd 0xFFFFFFFF
  | 7 => wd (s.thread f hook).set
  | 8 => wd (s.thread f hook).wbuf.length
  | _ => 0

def doCsrr (f : Nat) (hook : Bool) (s : State) : State :=
  issue f hook 0x1B (fun w s => setA f hook (aOf w) (s.csr f hook (imm18Of w)) s) s

def execCsrr (f : Nat) (hook : Bool) (s : State) : Host.Outcome State Fault Refusal := run (doCsrr f hook) s

def doCsrw (f : Nat) (hook : Bool) (s : State) : State :=
  issue f hook 0x1C (fun w s =>
    let t := s.thread f hook
    if !hook && decide (imm18Of w = 7) then
      setThread f hook { t with set := fld (t.g (aOf w)) 15 0, pc := t.pc + 4 } s
    else stepOn f hook s) s

def execCsrw (f : Nat) (hook : Bool) (s : State) : Host.Outcome State Fault Refusal := run (doCsrw f hook) s

/-- The system thread returns to its entry in the bank in use. -/
def toEntry (f : Nat) (s : State) : State :=
  setThread f false { s.thread f false with pc := s.bankBase f + (s.fidOf f).entry, wbuf := [] } s

def doDone (f : Nat) (hook : Bool) (s : State) : State :=
  issue f hook 0x1D (fun w s =>
    let s := if imm18Of w % 2 = 0 then (commitUnit f hook s).1 else s
    if hook then endRun f .ok s else toEntry f s) s

def execDone (f : Nat) (hook : Bool) (s : State) : Host.Outcome State Fault Refusal := run (doDone f hook) s

/-- BRK, and every opcode R583 does not list, which traps as BAD_OPCODE. -/
def doBrk (f : Nat) (hook : Bool) (s : State) : State :=
  issueIf f hook (fun op => decide (0x1E ≤ op)) (fun w s => trapHere f hook (if opOf w = 0x1E then trapBrk else trapOpcode) s) s

def execBrk (f : Nat) (hook : Bool) (s : State) : Host.Outcome State Fault Refusal := run (doBrk f hook) s

end Sys2Proof.Machine
end

