-- ==== Sys2Proof/Machine/Fetch.lean ====
section
/-! DEFINITION. COMMAND_FETCH: the command format (R628 to R631, R633), and the fetch, check and dispatch of a submission queue's commands (R623 to R627). -/

namespace Sys2Proof.Machine

open Sys2Proof

/-! Fields of a command -/

/-- The number at an offset of a command's 64 bytes. -/
def cmdNat (l : List Byte) (off size : Nat) : Nat := leNat ((l.drop off).take size)

/-- Parameters packed from 0x10 up, each at the next multiple of its size (R631): offsets and sizes. -/
def packFrom (off : Nat) : List Nat → List (Nat × Nat)
  | [] => []
  | n :: l => let a := (off + n - 1) / n * n; (a, n) :: packFrom (a + n) l

/-- A parameter byte that no field takes is not 0 (R629). -/
def reservedSet (fields : List (Nat × Nat)) (l : List Byte) : Bool :=
  ((List.range 64).zip l).any (fun (p : Nat × Byte) =>
    decide (0x10 ≤ p.1) && decide (p.2.toNat ≠ 0) && !fields.any (fun q => decide (q.1 ≤ p.1 ∧ p.1 < q.1 + q.2)))

/-- The words of a block read from host memory. -/
def blockWords (b : Option (List Byte)) : Option (List Word) := b.map (fun l => (bytesToWords l).map wd)

/-- How one opcode reads its parameters and what it does. `flags` are the single-bit parameters, which take 0 or 1 alone (R631). -/
structure Shape where
  fields : List (Nat × Nat)
  flags : List Nat
  act : Origin → State → State

/-- A command whose parameters are packed as R631 states: `act` receives the value of each, in order. -/
def packed (sizes flags : List Nat) (l : List Byte) (act : (Nat → Nat) → Origin → State → State) : Option Shape :=
  let fs := packFrom 0x10 sizes
  some ⟨fs, flags.map (fun i => ((fs[i]?).map Prod.fst).getD 0),
    act (fun i => match fs[i]? with | some f => cmdNat l f.1 f.2 | none => 0)⟩

/-- A command whose parameters lie where R629, R715 or its chapter places them. -/
def placed (fields : List (Nat × Nat)) (act : Origin → State → State) : Option Shape := some ⟨fields, [], act⟩

/-- A command in the register form (R630). -/
def regShape (e : FetchEntry) (act : Origin → Nat → Nat → Option (List Word) → State → State) : Option Shape :=
  placed [(0x10, 2), (0x14, 4), (0x18, 8)]
    (fun o => act o (cmdNat e.bytes 0x10 2) (cmdNat e.bytes 0x14 4) (blockWords e.block))

/-! Opcodes (R633) -/

/-- Commands 0x00 to 0x06 and 0x78: this chapter's, MODE_REQUEST and REC_READ. -/
def shapeBase (op : Nat) (e : FetchEntry) : Option Shape :=
  let l := e.bytes
  match op with
  | 0x00 => placed [] doNop
  | 0x01 => placed [(0x10, 1)] (fun o => doBatchOpen o (cmdNat l 0x10 1))
  | 0x02 => placed [(0x10, 1), (0x18, 8)] (fun o => doBatchClose o (cmdNat l 0x10 1) (cmdNat l 0x18 8))
  | 0x03 => placed [(0x10, 2), (0x18, 8)] (fun o => doFenceSignal o (cmdNat l 0x10 2) (BitVec.ofNat 64 (cmdNat l 0x18 8)))
  | 0x04 => placed [(0x10, 1), (0x14, 4), (0x18, 8), (0x20, 8), (0x28, 4), (0x2C, 4), (0x30, 4)] (fun o =>
      doDmaCopy o ⟨cmdNat l 0x10 1, cmdNat l 0x14 4, cmdNat l 0x18 8, cmdNat l 0x20 8, cmdNat l 0x28 4, cmdNat l 0x2C 4, cmdNat l 0x30 4⟩)
  | 0x05 => placed [(0x10, 1), (0x18, 8)] (fun o => doModeRequest o (cmdNat l 0x10 1) (cmdNat l 0x18 8))
  | 0x06 => placed [(0x10, 1)] (fun o => doTenancyAdrift o (cmdNat l 0x10 1))
  | 0x78 => packed [1, 2, 4, 8, 8] [] l (fun p o => doRecRead o (p 0) (p 1) (p 2) (p 3) (p 4))
  | _ => none

/-- Commands of the splice matrix, strands and wire formats: 0x10 to 0x22. -/
def shapeSplice (op : Nat) (e : FetchEntry) : Option Shape :=
  let l := e.bytes
  match op with
  | 0x10 => placed [(0x10, 2), (0x12, 2)] (fun o => doHitch o (cmdNat l 0x10 2) (cmdNat l 0x12 2))
  | 0x11 => placed [(0x10, 2)] (fun o => doUnhitch o (cmdNat l 0x10 2))
  | 0x12 => placed [(0x10, 2), (0x12, 2), (0x14, 1), (0x15, 1), (0x16, 1), (0x18, 8)] (fun o =>
      let x := cmdNat l 0x16 1
      doArmSplice { o with reserved := o.reserved || decide (8 ≤ x) } (cmdNat l 0x10 2) (cmdNat l 0x12 2) (cmdNat l 0x14 1) (cmdNat l 0x15 1)
        (x.testBit 0) (x.testBit 1) (x.testBit 2) (cmdNat l 0x18 8))
  | 0x13 => placed [(0x10, 1), (0x12, 2)] (fun o => doTake o (cmdNat l 0x10 1) (cmdNat l 0x12 2))
  | 0x14 => placed [(0x10, 1), (0x12, 2)] (fun o => doCancelSplice o (cmdNat l 0x10 1) (cmdNat l 0x12 2))
  | 0x18 => packed [2, 1, 1, 1, 4, 1, 1, 1] [5, 6, 7] l (fun p o =>
      doStrandConfig o ⟨p 0, p 1, p 2, p 3, p 4, decide (p 5 ≠ 0), decide (p 6 ≠ 0), decide (p 7 ≠ 0)⟩)
  | 0x20 => packed [8] [] l (fun _ o => doFlowSet o e.block)
  | 0x21 => placed [(0x10, 2), (0x14, 4), (0x18, 8)] (fun o => doEthSendFrame o (cmdNat l 0x10 2) (cmdNat l 0x14 4) e.block)
  | 0x22 => packed [2, 1, 1, 1, 2, 8, 4, 12] [1] l (fun p o =>
      doMacsecSaSet o (p 0) (decide (p 1 ≠ 0)) (p 2) (p 3) (p 4) (BitVec.ofNat 64 (p 5)) (wd (p 6)) (p 7))
  | _ => none

/-- Commands of the engines: 0x28 to 0x3A. -/
def shapeEngine (op : Nat) (e : FetchEntry) : Option Shape :=
  let l := e.bytes
  match op with
  | 0x28 => regShape e doSbdSet
  | 0x29 => placed [(0x10, 2), (0x12, 1), (0x13, 1), (0x18, 8)] (fun o =>
      doSbdTableLoad o (cmdNat l 0x10 2) (cmdNat l 0x12 1) (cmdNat l 0x13 1) (blockWords e.block))
  | 0x30 => regShape e doCompSet
  | 0x31 => regShape e doLayerSet
  | 0x32 => packed [8, 1, 4, 4, 4, 1, 1] [] l (fun p o => doRegisterBuffer o (p 0) (p 1) (p 2) (p 3) (p 4) (p 5) (p 6))
  | 0x33 => packed [2] [] l (fun p o => doReleaseBuffer o (p 0))
  | 0x34 => placed [(0x10, 2), (0x12, 2), (0x14, 2), (0x18, 8), (0x20, 8)] (fun o =>
      doFlip o (cmdNat l 0x10 2) (cmdNat l 0x12 2) (cmdNat l 0x14 2) (BitVec.ofNat 64 (cmdNat l 0x18 8)) (cmdNat l 0x20 8))
  | 0x35 => packed [2, 1, 8] [] l (fun p o => doCompTableLoad o (p 0) (p 1) (blockWords e.block))
  | 0x38 => regShape e doTimingSet
  | 0x39 => regShape e doPaceSet
  | 0x3A => regShape e doCrcSet
  | _ => none

/-- Commands of the frame store and of audio: 0x40 to 0x50. -/
def shapeStore (op : Nat) (e : FetchEntry) : Option Shape :=
  let l := e.bytes
  match op with
  | 0x40 => regShape e doRecorderSet
  | 0x41 => regShape e doPlayerSet
  | 0x42 => packed [2, 8] [] l (fun p o => doPlayerCue o (p 0) (p 1))
  | 0x43 => packed [2] [] l (fun p o => doEvacuateChannel o (p 0))
  | 0x44 => packed [2, 1] [1] l (fun p o => doChannelPower o (p 0) (decide (p 1 ≠ 0)))
  | 0x45 => packed [2] [] l (fun p o => doRebalance o (p 0))
  | 0x48 => packed [2, 2, 1] [] l (fun p o => doAudioHitch o (p 0) (p 1) (p 2))
  | 0x49 => packed [2, 1] [] l (fun p o => doAudioUnhitch o (p 0) (p 1))
  | 0x4A => packed [2, 1, 1, 1] [] l (fun p o => doAudioPortSet o (p 0) (p 1) (p 2) (p 3))
  | 0x4B => packed [1, 1] [] l (fun p o => doAudioDomainSet o (p 0) (p 1))
  | 0x4C => packed [1, 1] [1] l (fun p o => doAgroupSet o (p 0) (p 1))
  | 0x4D => regShape e doSapSet
  | 0x4E => packed [2, 4, 8, 4] [] l (fun p o => doAudioTapSet o (p 0) (wd (p 1)) (p 2) (p 3))
  | 0x4F => packed [2, 4, 8] [] l (fun p o => doAesSet o (p 0) (wd (p 1)) e.block)
  | 0x50 => packed [2, 1, 1, 1] [2] l (fun p o => doSrcSet o (p 0) (p 1) (decide (p 2 ≠ 0)) (p 3))
  | _ => none

/-- Commands of calibration, fids, the rig image and keys: 0x58 to 0x74. CAL_RUN's reading of VCAL is a free observation. -/
def shapeSystem (op : Nat) (e : FetchEntry) : Option Shape :=
  let l := e.bytes
  match op with
  | 0x58 => packed [1, 2] [] l (fun p o s => doCalRun o (p 0) (p 1) (decide (Config.freeNat s.draws % 2 = 1)) s.draw)
  | 0x59 => packed [] [] l (fun _ o => doCalStore o)
  | 0x60 => packed [2, 8, 4] [] l (fun p o => doHookLoad o (p 0) (p 2) e.block)
  | 0x61 => packed [2, 1, 4, 4] [1] l (fun p o => doHookSet o (p 0) (decide (p 1 ≠ 0)) (p 2) (wd (p 3)))
  | 0x62 => packed [2, 8, 4] [] l (fun p o => doFidUpdate o (p 0) (p 2) (e.block.map (fun b => b.take (p 2))))
  | 0x63 => packed [2] [] l (fun p o => doFidRestart o (p 0))
  | 0x68 => packed [1, 4, 4, 8] [] l (fun p o => doRigWriteSlot o (p 0) (p 1) (p 2) e.block e.plans)
  | 0x69 => packed [1] [] l (fun p o => doRigVerifySlot o (p 0))
  | 0x6A => packed [1, 1] [1] l (fun p o => doRigSelectSlot o (p 0) (decide (p 1 ≠ 0)))
  | 0x6B => packed [] [] l (fun _ o => doRigConfirm o)
  | 0x6C => packed [1, 4] [] l (fun p o => doRigRezone o (p 0) (p 1))
  | 0x70 => placed [(0x10, 2), (0x14, 4), (0x18, 2), (0x20, 8)] (fun o =>
      doKeyWrite o (cmdNat l 0x10 2) (cmdNat l 0x14 4) (cmdNat l 0x18 2) e.block)
  | 0x71 => packed [2] [] l (fun p o => doKeyZero o (p 0))
  | 0x72 => packed [2, 2, 4, 8] [] l (fun p o => doKeyDerive o (p 0) (p 1) (p 2) (p 3) e.block)
  | 0x73 => packed [2] [] l (fun p o => doKeyStore o (p 0))
  | 0x74 => placed [(0x10, 2), (0x18, 8), (0x20, 32)] (fun o => doAttest o (cmdNat l 0x10 2) (cmdNat l 0x18 8) ((l.drop 0x20).take 32))
  | _ => none

/-- The command an opcode names (R633). -/
def shapeOf (e : FetchEntry) : Option Shape :=
  let op := cmdNat e.bytes 0 1
  (shapeBase op e).orElse fun _ => (shapeSplice op e).orElse fun _ => (shapeEngine op e).orElse fun _ =>
    (shapeStore op e).orElse fun _ => shapeSystem op e

/-- The origin of a fetched command (R628): its queue, CID, fence, and whether a reserved bit or flag value is set. -/
def cmdOrigin (t q : Nat) (l : List Byte) (sh : Option Shape) : Origin where
  tenancy := t
  sq := q
  cid := cmdNat l 2 2
  signal := (cmdNat l 1 1).testBit 0
  fence := cmdNat l 4 2
  fenceValue := BitVec.ofNat 64 (cmdNat l 8 8)
  reserved := match sh with
    | some x => decide (2 ≤ cmdNat l 1 1 ∨ cmdNat l 6 2 ≠ 0) || reservedSet x.fields l || x.flags.any (fun a => decide (2 ≤ cmdNat l a 1))
    | none => false

/-- Check and dispatch one fetched command: an opcode not in R633 completes with BAD_OPCODE. -/
def dispatchCmd (t q : Nat) (e : FetchEntry) (s : State) : State :=
  let sh := shapeOf e
  let o := cmdOrigin t q e.bytes sh
  match sh with
  | some x => x.act o s
  | none => loneCommand { o with signal := false } .working (fun _ => some (.badOpcode, 0)) (fun s => s) s

/-- Commands between the head and the tail of a submission queue. -/
def State.sqHeld (s : State) (t q : Nat) : Nat :=
  let size := s.f (Reg.tenSqCfg t q) 31 16 + 1
  (s.f (Reg.tenSqPos t q) 31 16 + size - s.f (Reg.tenSqPos t q) 15 0) % size

/-- The completion queue of a submission queue is full (R627). -/
def State.cqFull (s : State) (t c : Nat) : Bool := decide (s.cqSize t c - 1 ≤ (s.cq t c).entries.length)

/-- Another queue of the tenancy goes before this one (R623): it has PRIO 1 and commands to fetch, this one PRIO 0. -/
def State.goesBehind (s : State) (t q : Nat) : Bool :=
  !s.bit (Reg.tenSqCfg t q) 1 && (List.range 64).any (fun x =>
    s.bit (Reg.tenSqCfg t x) 0 && s.bit (Reg.tenSqCfg t x) 1 && !s.bit (Reg.tenSqCfg t x) 8 && !s.cqFull t (s.f (Reg.tenSqCfg t x) 7 2) && decide (s.sqHeld t x ≠ 0))

/-- FS fetches from a queue (R579, R593, R613, R623, R626, R627, R651): enabled, without FAULT, its function a bus master and its tenancy not
ADRIFT, its completion queue not full, FS not in FAULT, no queue of the tenancy with PRIO 1 before it. -/
def State.mayFetchFrom (s : State) (t q n : Nat) : Bool :=
  decide (t < s.tenancies ∧ q < 64) && decide (s.mode ≠ .off ∧ s.mode ≠ .reset ∧ s.mode ≠ .doze ∧ s.mode ≠ .deepSleep) && s.bit (Reg.tenSqCfg t q) 0 && !s.bit (Reg.tenSqCfg t q) 8 && s.bme t && decide (s.lanyard t ≠ 2) && !s.goesBehind t q &&
  !s.cqFull t (s.f (Reg.tenSqCfg t q) 7 2) && decide (s.fidState 0 ≠ 3) && decide (1 ≤ n ∧ n ≤ 16 ∧ n ≤ s.sqHeld t q)

/-- COMMAND_FETCH (R623 to R627): the fetched commands are checked in queue order; a fetch that fails stops the queue. -/
def doCommandFetch (t q : Nat) (entries : List FetchEntry) (failed : Bool) (s : State) : State :=
  if !s.mayFetchFrom t q (if failed then 1 else entries.length) then s
  else if failed then raiseTen t 2 (s.setBit (Reg.tenSqCfg t q) 8 true)
  else
    entries.foldl (fun s e =>
      let s := mailbox 0 s
      let size := s.f (Reg.tenSqCfg t q) 31 16 + 1
      dispatchCmd t q e (s.setF (Reg.tenSqPos t q) 15 0 ((s.f (Reg.tenSqPos t q) 15 0 + 1) % size))) s

def execCommandFetch (t q : Nat) (entries : List FetchEntry) (failed : Bool) (s : State) : Host.Outcome State Fault Refusal :=
  run (doCommandFetch t q entries failed) s

end Sys2Proof.Machine
end

