-- ==== Sys2Proof/Machine/Dispatch.lean ====
section
/-! DEFINITION. The dispatch of a command to its meaning: one arm per constructor, one definition per arm. -/

namespace Sys2Proof.Machine

open Sys2Proof

def exec (i : Instr) (s : State) : Host.Outcome State Fault Refusal :=
  match i with
  | .regWrite x0 x1 x2 x3 => Sys2Proof.Machine.execRegWrite x0 x1 x2 x3 s
  | .stagedWrite x0 x1 x2 => Sys2Proof.Machine.execStagedWrite x0 x1 x2 s
  | .powerOn => Sys2Proof.Machine.execPowerOn s
  | .pin => Sys2Proof.Machine.execPin s
  | .supply => Sys2Proof.Machine.execSupply s
  | .thermal => Sys2Proof.Machine.execThermal s
  | .vddAonLost => Sys2Proof.Machine.execVddAonLost s
  | .resetRelease x0 => Sys2Proof.Machine.execResetRelease x0 s
  | .sectionsChecked => Sys2Proof.Machine.execSectionsChecked s
  | .linkDetectTimeout => Sys2Proof.Machine.execLinkDetectTimeout s
  | .channelTrained x0 x1 => Sys2Proof.Machine.execChannelTrained x0 x1 s
  | .inService => Sys2Proof.Machine.execInService s
  | .extentReady => Sys2Proof.Machine.execExtentReady s
  | .avsRetry x0 => Sys2Proof.Machine.execAvsRetry x0 s
  | .tamperAlarm x0 => Sys2Proof.Machine.execTamperAlarm x0 s
  | .dbgReq => Sys2Proof.Machine.execDbgReq s
  | .tapReset x0 => Sys2Proof.Machine.execTapReset x0 s
  | .signalDetected x0 => Sys2Proof.Machine.execSignalDetected x0 s
  | .clockLocked x0 => Sys2Proof.Machine.execClockLocked x0 s
  | .adaptConverged x0 x1 x2 => Sys2Proof.Machine.execAdaptConverged x0 x1 x2 s
  | .adaptFail x0 => Sys2Proof.Machine.execAdaptFail x0 s
  | .protoAligned x0 x1 => Sys2Proof.Machine.execProtoAligned x0 x1 s
  | .syncFail x0 => Sys2Proof.Machine.execSyncFail x0 s
  | .los x0 => Sys2Proof.Machine.execLos x0 s
  | .protoLost x0 => Sys2Proof.Machine.execProtoLost x0 s
  | .braidSkew x0 => Sys2Proof.Machine.execBraidSkew x0 s
  | .txPllLocked x0 => Sys2Proof.Machine.execTxPllLocked x0 s
  | .bightChange x0 => Sys2Proof.Machine.execBightChange x0 s
  | .openReq x0 x1 x2 => Sys2Proof.Machine.execOpenReq x0 x1 x2 s
  | .inject x0 x1 x2 => Sys2Proof.Machine.execInject x0 x1 x2 s
  | .strPrbsErrRead x0 x1 x2 x3 => Sys2Proof.Machine.execStrPrbsErrRead x0 x1 x2 x3 s
  | .start x0 x1 x2 => Sys2Proof.Machine.execStart x0 x1 x2 s
  | .eyeDone x0 x1 => Sys2Proof.Machine.execEyeDone x0 x1 s
  | .hpd x0 x1 x2 => Sys2Proof.Machine.execHpd x0 x1 x2 s
  | .irqHpdPulse x0 x1 x2 => Sys2Proof.Machine.execIrqHpdPulse x0 x1 x2 s
  | .auxTransaction x0 x1 => Sys2Proof.Machine.execAuxTransaction x0 x1 s
  | .ddcTransaction x0 x1 => Sys2Proof.Machine.execDdcTransaction x0 x1 s
  | .hpdAssert x0 => Sys2Proof.Machine.execHpdAssert x0 s
  | .hpdDeassert x0 => Sys2Proof.Machine.execHpdDeassert x0 s
  | .irqHpd x0 => Sys2Proof.Machine.execIrqHpd x0 s
  | .edidReload x0 x1 x2 => Sys2Proof.Machine.execEdidReload x0 x1 x2 s
  | .edidReady x0 x1 => Sys2Proof.Machine.execEdidReady x0 x1 s
  | .trainDone x0 x1 x2 => Sys2Proof.Machine.execTrainDone x0 x1 x2 s
  | .trainFail x0 => Sys2Proof.Machine.execTrainFail x0 s
  | .strandConfig x0 x1 => Sys2Proof.Machine.execStrandConfig x0 x1 s
  | .strandConfigDone x0 => Sys2Proof.Machine.execStrandConfigDone x0 s
  | .formatLocked x0 x1 => Sys2Proof.Machine.execFormatLocked x0 x1 s
  | .formatChange x0 => Sys2Proof.Machine.execFormatChange x0 s
  | .formatUnknown x0 => Sys2Proof.Machine.execFormatUnknown x0 s
  | .ancOverflow x0 x1 => Sys2Proof.Machine.execAncOverflow x0 x1 s
  | .ethFrameRx x0 x1 => Sys2Proof.Machine.execEthFrameRx x0 x1 s
  | .mgmtRx x0 x1 x2 => Sys2Proof.Machine.execMgmtRx x0 x1 x2 s
  | .igmpQuery x0 => Sys2Proof.Machine.execIgmpQuery x0 s
  | .flowPacketRx x0 x1 => Sys2Proof.Machine.execFlowPacketRx x0 x1 s
  | .flowRelease x0 x1 x2 x3 => Sys2Proof.Machine.execFlowRelease x0 x1 x2 x3 s
  | .flowLost x0 => Sys2Proof.Machine.execFlowLost x0 s
  | .pathLost x0 x1 => Sys2Proof.Machine.execPathLost x0 x1 s
  | .flowPacketTx x0 => Sys2Proof.Machine.execFlowPacketTx x0 s
  | .ptpMessageRx x0 x1 => Sys2Proof.Machine.execPtpMessageRx x0 x1 s
  | .frameSent x0 => Sys2Proof.Machine.execFrameSent x0 s
  | .hitch x0 x1 x2 => Sys2Proof.Machine.execHitch x0 x1 x2 s
  | .unhitch x0 x1 => Sys2Proof.Machine.execUnhitch x0 x1 s
  | .armSplice x0 x1 x2 x3 x4 x5 x6 x7 x8 => Sys2Proof.Machine.execArmSplice x0 x1 x2 x3 x4 x5 x6 x7 x8 s
  | .take x0 x1 x2 => Sys2Proof.Machine.execTake x0 x1 x2 s
  | .cancelSplice x0 x1 x2 => Sys2Proof.Machine.execCancelSplice x0 x1 x2 s
  | .arm x0 x1 x2 => Sys2Proof.Machine.execArm x0 x1 x2 s
  | .cancel x0 x1 x2 => Sys2Proof.Machine.execCancel x0 x1 x2 s
  | .splTake x0 x1 => Sys2Proof.Machine.execSplTake x0 x1 s
  | .splCancel x0 x1 => Sys2Proof.Machine.execSplCancel x0 x1 s
  | .lineStart x0 x1 x2 => Sys2Proof.Machine.execLineStart x0 x1 x2 s
  | .splicePoint x0 x1 => Sys2Proof.Machine.execSplicePoint x0 x1 s
  | .lockStepEnd x0 => Sys2Proof.Machine.execLockStepEnd x0 s
  | .gapEnd x0 => Sys2Proof.Machine.execGapEnd x0 s
  | .holdLimitExpiry x0 => Sys2Proof.Machine.execHoldLimitExpiry x0 s
  | .prerollEntry x0 x1 => Sys2Proof.Machine.execPrerollEntry x0 x1 s
  | .decision x0 x1 x2 => Sys2Proof.Machine.execDecision x0 x1 x2 s
  | .switch x0 x1 x2 => Sys2Proof.Machine.execSwitch x0 x1 x2 s
  | .shadowReload x0 => Sys2Proof.Machine.execShadowReload x0 s
  | .ethBlockReturn x0 => Sys2Proof.Machine.execEthBlockReturn x0 s
  | .deferredPower x0 => Sys2Proof.Machine.execDeferredPower x0 s
  | .batchTimeout x0 x1 => Sys2Proof.Machine.execBatchTimeout x0 x1 s
  | .batchOpen x0 x1 => Sys2Proof.Machine.execBatchOpen x0 x1 s
  | .batchClose x0 x1 x2 => Sys2Proof.Machine.execBatchClose x0 x1 x2 s
  | .frameComplete x0 => Sys2Proof.Machine.execFrameComplete x0 s
  | .sbdSet x0 x1 x2 x3 => Sys2Proof.Machine.execSbdSet x0 x1 x2 x3 s
  | .sbdTableLoad x0 x1 x2 x3 x4 => Sys2Proof.Machine.execSbdTableLoad x0 x1 x2 x3 x4 s
  | .sbdTblLoad x0 x1 x2 => Sys2Proof.Machine.execSbdTblLoad x0 x1 x2 s
  | .sbdTblData x0 x1 x2 => Sys2Proof.Machine.execSbdTblData x0 x1 x2 s
  | .compSet x0 x1 x2 x3 => Sys2Proof.Machine.execCompSet x0 x1 x2 x3 s
  | .layerSet x0 x1 x2 x3 => Sys2Proof.Machine.execLayerSet x0 x1 x2 x3 s
  | .registerBuffer x0 x1 x2 x3 x4 x5 x6 x7 => Sys2Proof.Machine.execRegisterBuffer x0 x1 x2 x3 x4 x5 x6 x7 s
  | .releaseBuffer x0 x1 => Sys2Proof.Machine.execReleaseBuffer x0 x1 s
  | .flip x0 x1 x2 x3 x4 x5 => Sys2Proof.Machine.execFlip x0 x1 x2 x3 x4 x5 s
  | .cmpLFlip x0 x1 x2 => Sys2Proof.Machine.execCmpLFlip x0 x1 x2 s
  | .compTableLoad x0 x1 x2 x3 => Sys2Proof.Machine.execCompTableLoad x0 x1 x2 x3 s
  | .cmpTblData x0 x1 x2 => Sys2Proof.Machine.execCmpTblData x0 x1 x2 s
  | .timingSet x0 x1 x2 x3 => Sys2Proof.Machine.execTimingSet x0 x1 x2 x3 s
  | .paceSet x0 x1 x2 x3 => Sys2Proof.Machine.execPaceSet x0 x1 x2 x3 s
  | .crcSet x0 x1 x2 x3 => Sys2Proof.Machine.execCrcSet x0 x1 x2 x3 s
  | .scnTableLoad x0 x1 x2 => Sys2Proof.Machine.execScnTableLoad x0 x1 x2 s
  | .recorderSet x0 x1 x2 x3 => Sys2Proof.Machine.execRecorderSet x0 x1 x2 x3 s
  | .playerSet x0 x1 x2 x3 => Sys2Proof.Machine.execPlayerSet x0 x1 x2 x3 s
  | .playerCue x0 x1 x2 => Sys2Proof.Machine.execPlayerCue x0 x1 x2 s
  | .evacuateChannel x0 x1 => Sys2Proof.Machine.execEvacuateChannel x0 x1 s
  | .channelPower x0 x1 x2 => Sys2Proof.Machine.execChannelPower x0 x1 x2 s
  | .rebalance x0 x1 => Sys2Proof.Machine.execRebalance x0 x1 s
  | .pieceCopied => Sys2Proof.Machine.execPieceCopied s
  | .powerOffSafe x0 => Sys2Proof.Machine.execPowerOffSafe x0 s
  | .failed x0 => Sys2Proof.Machine.execFailed x0 s
  | .patrolScrub x0 x1 => Sys2Proof.Machine.execPatrolScrub x0 x1 s
  | .selfRefreshEntry x0 => Sys2Proof.Machine.execSelfRefreshEntry x0 s
  | .selfRefreshExit x0 x1 => Sys2Proof.Machine.execSelfRefreshExit x0 x1 s
  | .bar2Access x0 x1 => Sys2Proof.Machine.execBar2Access x0 x1 s
  | .blockBoundary x0 x1 => Sys2Proof.Machine.execBlockBoundary x0 x1 s
  | .sampleInstant x0 x1 x2 => Sys2Proof.Machine.execSampleInstant x0 x1 x2 s
  | .clkLost x0 => Sys2Proof.Machine.execClkLost x0 s
  | .sapEnable x0 x1 x2 x3 => Sys2Proof.Machine.execSapEnable x0 x1 x2 x3 s
  | .tapRecord x0 x1 x2 => Sys2Proof.Machine.execTapRecord x0 x1 x2 s
  | .aes3Block x0 x1 x2 => Sys2Proof.Machine.execAes3Block x0 x1 x2 s
  | .blockSyncLost x0 => Sys2Proof.Machine.execBlockSyncLost x0 s
  | .parityErr x0 => Sys2Proof.Machine.execParityErr x0 s
  | .audioHitch x0 x1 x2 x3 => Sys2Proof.Machine.execAudioHitch x0 x1 x2 x3 s
  | .audioUnhitch x0 x1 x2 => Sys2Proof.Machine.execAudioUnhitch x0 x1 x2 s
  | .audioPortSet x0 x1 x2 x3 x4 => Sys2Proof.Machine.execAudioPortSet x0 x1 x2 x3 x4 s
  | .audioDomainSet x0 x1 x2 => Sys2Proof.Machine.execAudioDomainSet x0 x1 x2 s
  | .agroupSet x0 x1 x2 => Sys2Proof.Machine.execAgroupSet x0 x1 x2 s
  | .sapSet x0 x1 x2 x3 => Sys2Proof.Machine.execSapSet x0 x1 x2 x3 s
  | .audioTapSet x0 x1 x2 x3 x4 => Sys2Proof.Machine.execAudioTapSet x0 x1 x2 x3 x4 s
  | .aesSet x0 x1 x2 x3 => Sys2Proof.Machine.execAesSet x0 x1 x2 x3 s
  | .srcSet x0 x1 x2 x3 x4 => Sys2Proof.Machine.execSrcSet x0 x1 x2 x3 x4 s
  | .ppsEdge x0 => Sys2Proof.Machine.execPpsEdge x0 s
  | .refSyncFrame x0 x1 x2 x3 => Sys2Proof.Machine.execRefSyncFrame x0 x1 x2 x3 s
  | .refLost x0 => Sys2Proof.Machine.execRefLost x0 s
  | .refReady x0 => Sys2Proof.Machine.execRefReady x0 s
  | .holdoffExpiry x0 => Sys2Proof.Machine.execHoldoffExpiry x0 s
  | .todArm x0 x1 => Sys2Proof.Machine.execTodArm x0 x1 s
  | .tempSample x0 => Sys2Proof.Machine.execTempSample x0 s
  | .calRun x0 x1 x2 x3 => Sys2Proof.Machine.execCalRun x0 x1 x2 x3 s
  | .bgCalStart x0 x1 x2 => Sys2Proof.Machine.execBgCalStart x0 x1 x2 s
  | .calDone x0 x1 x2 => Sys2Proof.Machine.execCalDone x0 x1 x2 s
  | .calStore x0 => Sys2Proof.Machine.execCalStore x0 s
  | .autoStore => Sys2Proof.Machine.execAutoStore s
  | .recordCommitted x0 x1 x2 x3 => Sys2Proof.Machine.execRecordCommitted x0 x1 x2 x3 s
  | .sectorErased x0 x1 => Sys2Proof.Machine.execSectorErased x0 x1 s
  | .program x0 x1 => Sys2Proof.Machine.execProgram x0 x1 s
  | .lock x0 x1 => Sys2Proof.Machine.execLock x0 x1 s
  | .recRead x0 x1 x2 x3 x4 x5 => Sys2Proof.Machine.execRecRead x0 x1 x2 x3 x4 x5 s
  | .keyWrite x0 x1 x2 x3 x4 => Sys2Proof.Machine.execKeyWrite x0 x1 x2 x3 x4 s
  | .keyZero x0 x1 => Sys2Proof.Machine.execKeyZero x0 x1 s
  | .keyDerive x0 x1 x2 x3 x4 x5 => Sys2Proof.Machine.execKeyDerive x0 x1 x2 x3 x4 x5 s
  | .keyStore x0 x1 => Sys2Proof.Machine.execKeyStore x0 x1 s
  | .attest x0 x1 x2 x3 => Sys2Proof.Machine.execAttest x0 x1 x2 x3 s
  | .digestRecompute => Sys2Proof.Machine.execDigestRecompute s
  | .rigWriteSlot x0 x1 x2 x3 x4 => Sys2Proof.Machine.execRigWriteSlot x0 x1 x2 x3 x4 s
  | .rigWriteSlotDone x0 => Sys2Proof.Machine.execRigWriteSlotDone x0 s
  | .rigVerifySlot x0 x1 => Sys2Proof.Machine.execRigVerifySlot x0 x1 s
  | .rigVerifySlotDone x0 => Sys2Proof.Machine.execRigVerifySlotDone x0 s
  | .rigSelectSlot x0 x1 x2 => Sys2Proof.Machine.execRigSelectSlot x0 x1 x2 s
  | .rigConfirm x0 => Sys2Proof.Machine.execRigConfirm x0 s
  | .rigRezone x0 x1 x2 => Sys2Proof.Machine.execRigRezone x0 x1 x2 s
  | .zoneVerified x0 => Sys2Proof.Machine.execZoneVerified x0 s
  | .zoneStaged x0 => Sys2Proof.Machine.execZoneStaged x0 s
  | .zoneStopped => Sys2Proof.Machine.execZoneStopped s
  | .zoneRunning => Sys2Proof.Machine.execZoneRunning s
  | .nop x0 => Sys2Proof.Machine.execNop x0 s
  | .fenceSignal x0 x1 x2 => Sys2Proof.Machine.execFenceSignal x0 x1 x2 s
  | .dmaCopy x0 x1 => Sys2Proof.Machine.execDmaCopy x0 x1 s
  | .dmaDone x0 x1 => Sys2Proof.Machine.execDmaDone x0 x1 s
  | .modeRequest x0 x1 x2 => Sys2Proof.Machine.execModeRequest x0 x1 x2 s
  | .outputsStopped => Sys2Proof.Machine.execOutputsStopped s
  | .tenancyAdrift x0 x1 => Sys2Proof.Machine.execTenancyAdrift x0 x1 s
  | .flowSet x0 x1 => Sys2Proof.Machine.execFlowSet x0 x1 s
  | .ethSendFrame x0 x1 x2 x3 => Sys2Proof.Machine.execEthSendFrame x0 x1 x2 x3 s
  | .macsecSaSet x0 x1 x2 x3 x4 x5 x6 x7 x8 => Sys2Proof.Machine.execMacsecSaSet x0 x1 x2 x3 x4 x5 x6 x7 x8 s
  | .hookLoad x0 x1 x2 x3 => Sys2Proof.Machine.execHookLoad x0 x1 x2 x3 s
  | .hookSet x0 x1 x2 x3 x4 => Sys2Proof.Machine.execHookSet x0 x1 x2 x3 x4 s
  | .fidUpdate x0 x1 x2 x3 => Sys2Proof.Machine.execFidUpdate x0 x1 x2 x3 s
  | .fidUpdated x0 => Sys2Proof.Machine.execFidUpdated x0 s
  | .fidUpdateTimeout x0 => Sys2Proof.Machine.execFidUpdateTimeout x0 s
  | .fidRestart x0 x1 => Sys2Proof.Machine.execFidRestart x0 x1 s
  | .hookTimeout x0 => Sys2Proof.Machine.execHookTimeout x0 s
  | .hookSkipped x0 x1 x2 => Sys2Proof.Machine.execHookSkipped x0 x1 x2 s
  | .alu x0 x1 => Sys2Proof.Machine.execAlu x0 x1 s
  | .addi x0 x1 => Sys2Proof.Machine.execAddi x0 x1 s
  | .andi x0 x1 => Sys2Proof.Machine.execAndi x0 x1 s
  | .ori x0 x1 => Sys2Proof.Machine.execOri x0 x1 s
  | .xori x0 x1 => Sys2Proof.Machine.execXori x0 x1 s
  | .shi x0 x1 => Sys2Proof.Machine.execShi x0 x1 s
  | .lui x0 x1 => Sys2Proof.Machine.execLui x0 x1 s
  | .slti x0 x1 => Sys2Proof.Machine.execSlti x0 x1 s
  | .ld x0 x1 => Sys2Proof.Machine.execLd x0 x1 s
  | .st x0 x1 => Sys2Proof.Machine.execSt x0 x1 s
  | .rgr x0 x1 => Sys2Proof.Machine.execRgr x0 x1 s
  | .rgw x0 x1 => Sys2Proof.Machine.execRgw x0 x1 s
  | .shw x0 x1 => Sys2Proof.Machine.execShw x0 x1 s
  | .cmt x0 x1 => Sys2Proof.Machine.execCmt x0 x1 s
  | .xld x0 x1 => Sys2Proof.Machine.execXld x0 x1 s
  | .xst x0 x1 => Sys2Proof.Machine.execXst x0 x1 s
  | .beq x0 x1 => Sys2Proof.Machine.execBeq x0 x1 s
  | .bne x0 x1 => Sys2Proof.Machine.execBne x0 x1 s
  | .blt x0 x1 => Sys2Proof.Machine.execBlt x0 x1 s
  | .bge x0 x1 => Sys2Proof.Machine.execBge x0 x1 s
  | .bltu x0 x1 => Sys2Proof.Machine.execBltu x0 x1 s
  | .bgeu x0 x1 => Sys2Proof.Machine.execBgeu x0 x1 s
  | .jal x0 x1 => Sys2Proof.Machine.execJal x0 x1 s
  | .jr x0 x1 => Sys2Proof.Machine.execJr x0 x1 s
  | .time x0 x1 => Sys2Proof.Machine.execTime x0 x1 s
  | .wait x0 x1 => Sys2Proof.Machine.execWait x0 x1 s
  | .evt x0 x1 => Sys2Proof.Machine.execEvt x0 x1 s
  | .csrr x0 x1 => Sys2Proof.Machine.execCsrr x0 x1 s
  | .csrw x0 x1 => Sys2Proof.Machine.execCsrw x0 x1 s
  | .done x0 x1 => Sys2Proof.Machine.execDone x0 x1 s
  | .brk x0 x1 => Sys2Proof.Machine.execBrk x0 x1 s
  | .lockBreak => Sys2Proof.Machine.execLockBreak s
  | .remap x0 x1 => Sys2Proof.Machine.execRemap x0 x1 s
  | .sysCtrlLock x0 x1 => Sys2Proof.Machine.execSysCtrlLock x0 x1 s
  | .sqTail x0 x1 x2 => Sys2Proof.Machine.execSqTail x0 x1 x2 s
  | .cqHead x0 x1 x2 => Sys2Proof.Machine.execCqHead x0 x1 x2 s
  | .evqHead x0 x1 => Sys2Proof.Machine.execEvqHead x0 x1 s
  | .commandFetch x0 x1 x2 x3 => Sys2Proof.Machine.execCommandFetch x0 x1 x2 x3 s
  | .msixMessage x0 x1 => Sys2Proof.Machine.execMsixMessage x0 x1 s
  | .tenLanyard x0 x1 x2 => Sys2Proof.Machine.execTenLanyard x0 x1 x2 s
  | .tenLanyardCfg x0 x1 x2 => Sys2Proof.Machine.execTenLanyardCfg x0 x1 x2 s
  | .lanyardLapse x0 => Sys2Proof.Machine.execLanyardLapse x0 s
  | .tenFenceLo x0 x1 x2 x3 => Sys2Proof.Machine.execTenFenceLo x0 x1 x2 x3 s
  | .tenFenceHi x0 x1 x2 x3 => Sys2Proof.Machine.execTenFenceHi x0 x1 x2 x3 s
  | .functionReset x0 x1 x2 => Sys2Proof.Machine.execFunctionReset x0 x1 x2 s
  | .busMasterEnable x0 => Sys2Proof.Machine.execBusMasterEnable x0 s
  | .ecrcError x0 => Sys2Proof.Machine.execEcrcError x0 s
  | .lockedRead x0 => Sys2Proof.Machine.execLockedRead x0 s
  | .identify x0 => Sys2Proof.Machine.execIdentify x0 s
  | .health x0 => Sys2Proof.Machine.execHealth x0 s
  | .alertStatus x0 => Sys2Proof.Machine.execAlertStatus x0 s
  | .mgmtModeRequest x0 x1 => Sys2Proof.Machine.execMgmtModeRequest x0 x1 s
  | .mgmtRecRead x0 x1 x2 x3 x4 => Sys2Proof.Machine.execMgmtRecRead x0 x1 x2 x3 x4 s
  | .attestChallenge x0 x1 => Sys2Proof.Machine.execAttestChallenge x0 x1 s
  | .attestResponse x0 => Sys2Proof.Machine.execAttestResponse x0 s
  | .hostWake x0 => Sys2Proof.Machine.execHostWake x0 s
  | .wake x0 => Sys2Proof.Machine.execWake x0 s
  | .idleHoldExpiry x0 => Sys2Proof.Machine.execIdleHoldExpiry x0 s
  | .regRead x0 x1 x2 => Sys2Proof.Machine.execRegRead x0 x1 x2 s
  | .channelFilled x0 => Sys2Proof.Machine.execChannelFilled x0 s
  | .delayReq x0 => Sys2Proof.Machine.execDelayReq x0 s
  | .avsRequest x0 x1 => Sys2Proof.Machine.execAvsRequest x0 x1 s
  | .timeWake => Sys2Proof.Machine.execTimeWake s
  | .belayGrant => Sys2Proof.Machine.execBelayGrant s

end Sys2Proof.Machine
end

