-- ==== Sys2Proof/Machine/Step.lean ====
section
/-! DEFINITION. One step: the command at the front of the queue is carried out; on an empty queue the block idles for one nanosecond. -/

namespace Sys2Proof.Machine

open Sys2Proof

/-- The block with the rest of its queue. -/
def State.withPending (s : State) (l : List Instr) : State := { s with pending := l }

/-- Nothing waits: the system counter, which counts nanoseconds (R547), goes on by one where it runs; in Off, Reset and sleep it does not. -/
def idle (s : State) : State :=
  if s.mode = .off ∨ s.mode = .reset ∨ s.mode = .doze ∨ s.mode = .deepSleep then s.begin
  else { s.begin with now := s.now + 1 }

/-- One step. -/
def step (s : State) : Host.Outcome State Fault Refusal :=
  match s.pending with
  | [] => .next (idle s)
  | c :: rest => exec c (s.withPending rest)

/-- The state with the command that a word spells put at the front of its queue; unchanged where the word spells none. -/
def State.withFetchWord (s : State) (nbits w : Nat) : State :=
  match decodeTableWord nbits w with
  | none => s
  | some c => s.withPending (c :: s.pending)

end Sys2Proof.Machine
end

