-- ==== Sys2Proof/Safety.lean ====
section
/-! DEFINITION. What a safe run is, and the terms the statements use: what it is for a command to complete, for a thread of a fid to issue an instruction,
and for nothing but one thing to change. -/

namespace Sys2Proof.Machine

open Sys2Proof

/-- The outcome of a command or a step. -/
abbrev Result := Host.Outcome State Fault Refusal

/-- A command ends in a next state. -/
def Completes (c : Instr) (s : State) : Prop := ∃ t, exec c s = .next t

/-- A step from a canonical state ends in a canonical state. -/
def SafeStep (s : State) : Prop := s.canonical = true → ∃ t, step s = .next t ∧ t.canonical = true

/-- A register of type RW that no rule of its block treats apart: a write leaves it, and it alone, with the written bits (R14, R18). -/
def Loc.plain (l : Loc) : Bool :=
  decide (l.row.acc = .rw) &&
  (match l.kind with
   | .braidMap | .vflow | .aflow | .xflow | .splEi | .splGroup | .gang | .crc | .pace | .fstRec | .fstPly | .aud | .ami | .fidSys | .tenPre => true
   | .sbd => decide (l.off ≠ 0xC8 ∧ l.off ≠ 0xC4)
   | .cmp => decide (l.off ≠ 0x44)
   | .layer => decide (l.off ≠ 0x38)
   | .scn => decide (l.off ≠ 0x28)
   | _ => false)

/-- A thread of a fid is about to issue the instruction word `w`: its fid runs and its program counter lies in its code (R578, R580, R581). -/
def Issues (s : State) (f : Nat) (hook : Bool) (w : Word) : Prop :=
  s.threadReady f hook = true ∧ s.mayFetch f hook (s.thread f hook).pc = true ∧ w = wd (s.fidWord f (s.thread f hook).pc)

/-- Nothing of a state but one thread of a fid, the outputs and the count of free values differs. -/
def OnlyThread (f : Nat) (hook : Bool) (s t : State) : Prop :=
  t = { s with out := t.out, draws := t.draws, fid := { s.fid with fids := t.fid.fids } } ∧
  (∀ g, ∃ a b, t.fidOf g = { s.fidOf g with sys := a, hook := b }) ∧
  (∀ g h, g ≠ f ∨ h ≠ hook → t.thread g h = s.thread g h)

/-- An outcome in which a thread of a fid goes on at `next` with register `r` holding `v` (a write to g0 is lost, R578), and nothing else changed. -/
def Sets (f : Nat) (hook : Bool) (s : State) (r : Nat) (v : Word) (next : Nat) (o : Result) : Prop :=
  ∃ t, o = .next t ∧ OnlyThread f hook s t ∧ (t.thread f hook).pc = next ∧ (t.thread f hook).wbuf = (s.thread f hook).wbuf ∧
    (t.thread f hook).set = (s.thread f hook).set ∧
    ∀ q, (t.thread f hook).g q = if q = r ∧ q ≠ 0 then v else (s.thread f hook).g q

/-- An outcome in which a thread of a fid goes on at `next` and nothing else changed. -/
def Goes (f : Nat) (hook : Bool) (s : State) (next : Nat) (o : Result) : Prop := Sets f hook s 0 0 next o

/-- The windows of the tenancies, whose registers move when an event or a completion is reported to a host. -/
def inTen (a : Nat) : Bool := decide (0x10000 ≤ a ∧ a < 0x18000)

/-- A state differs from another at most in the registers listed and in what reporting to hosts touches: the tenancies' windows and rings, their fences,
the outputs and the count of free values. -/
def Reports (l : List Nat) (s t : State) : Prop :=
  t = { s with regs := t.regs, out := t.out, draws := t.draws,
               host := { s.host with cqs := t.host.cqs, evqs := t.host.evqs, fences := t.host.fences } } ∧
  ∀ a, inTen a = false → a ∉ l → t.reg a = s.reg a

/-- A master's writes of the register at an address pass the gates of its block and of its zone (R19, R75). -/
def MayWrite (m : Master) (a : Nat) (s : State) : Prop :=
  ∀ l, locate a = some l → (∀ t, m = .tenancy t → writeGate t l s = .pass) ∧ zoneStopped l s = false

/-- A master's reads of the register at an address pass the gates of its block and of its zone (R19, R75). -/
def MayRead (m : Master) (a : Nat) (s : State) : Prop :=
  ∀ l, locate a = some l → (∀ t, m = .tenancy t → readGate t l s = .pass) ∧ zoneStopped l s = false

/-- A host command meets the checks that every command passes first: it is in no batch, no reserved bit is set, its SIGNAL names a fence, the part is in
Service or Maintenance and not in bare service (R65, R278, R629, R634, R642). -/
def Accepted (o : Origin) (s : State) : Prop :=
  s.batchOf o = none ∧ o.reserved = false ∧ (o.signal = true → o.fence < 256) ∧ s.bare = false ∧ s.serving = true

/-- Nothing is routed: no change set waits, no port or audio channel is bound, no destination is hitched. -/
def Unrouted (s : State) : Prop :=
  s.spl.sets = [] ∧ s.spl.eiBind = [] ∧ s.spl.eoBind = [] ∧ s.aud.amiBind = [] ∧ s.aud.amoBind = [] ∧ s.hitches = [] ∧ s.strand.earlyHitches = []

/-- A strand that is in no braid and no display port. -/
def Single (s : State) (n : Nat) : Prop := s.leader n = n ∧ s.width n = 1

end Sys2Proof.Machine
end

