-- ==== Sys2Proof/WellFormed.lean ====
section
/-! DEFINITION. What a well-formed command is: its operands lie in the ranges the spec gives its objects (R2 to R8, R577, R610, R661), and those of a host
command in the fields that carry them (R628 to R631). -/

namespace Sys2Proof

/-- A master of R661. -/
def Master.ok : Master → Bool
  | .tenancy t => decide (t < 4)
  | .fid f => decide (f < 44)
  | .dma d => decide (d < 16)
  | .debug => true

/-- A command's tenancy, queue, CID and fence lie in their fields (R620, R628). -/
def Origin.ok (o : Origin) : Bool := decide (o.tenancy < 4) && decide (o.sq < 64) && decide (o.cid < 0x10000) && decide (o.fence < 0x10000)

/-- A fetched command is 64 bytes long (R620). -/
def FetchEntry.ok (e : FetchEntry) : Bool := decide (e.bytes.length = 64)

/-- A thread of a fid: every fid has a system thread, FP and FA fids a hook thread (R577, R578). -/
def threadOk (f : Nat) (hook : Bool) : Bool := decide (f < 44) && (!hook || decide (1 ≤ f ∧ f ≤ 40))

/-- A destination code: an egress port, or an egress strand with bit 15 set (R194). -/
def destOk (d : Nat) : Bool := decide (d < 1024 ∨ (0x8000 ≤ d ∧ d < 0x8080))

/-- Every operand of a command lies in its range. -/
def Instr.wellFormed : Instr → Bool
  | .regWrite m addr _ _ => m.ok && decide (addr < 0x100000000000)
  | .stagedWrite m addr _ => m.ok && decide (addr < 0x400000)
  | .powerOn => true
  | .pin => true
  | .supply => true
  | .thermal => true
  | .vddAonLost => true
  | .resetRelease _ => true
  | .sectionsChecked => true
  | .linkDetectTimeout => true
  | .channelTrained ch _ => decide (ch < 12)
  | .inService => true
  | .extentReady => true
  | .avsRetry _ => true
  | .tamperAlarm code => decide (code < 16)
  | .dbgReq => true
  | .tapReset _ => true
  | .signalDetected s => decide (s < 128)
  | .clockLocked obs => decide (obs.strand < 128)
  | .adaptConverged s _ _ => decide (s < 128)
  | .adaptFail s => decide (s < 128)
  | .protoAligned s _ => decide (s < 128)
  | .syncFail s => decide (s < 128)
  | .los s => decide (s < 128)
  | .protoLost s => decide (s < 128)
  | .braidSkew s => decide (s < 128)
  | .txPllLocked s => decide (s < 128)
  | .bightChange k => decide (k < 8)
  | .openReq m k _ => m.ok && decide (k < 8)
  | .inject m s _ => m.ok && decide (s < 128)
  | .strPrbsErrRead m s _ _ => m.ok && decide (s < 128)
  | .start m s _ => m.ok && decide (s < 128)
  | .eyeDone s _ => decide (s < 128)
  | .hpd m dp _ => m.ok && decide (dp < 16)
  | .irqHpdPulse m dp _ => m.ok && decide (dp < 16)
  | .auxTransaction dp _ => decide (dp < 16)
  | .ddcTransaction dp _ => decide (dp < 16)
  | .hpdAssert dp => decide (dp < 16)
  | .hpdDeassert dp => decide (dp < 16)
  | .irqHpd dp => decide (dp < 16)
  | .edidReload m dp _ => m.ok && decide (dp < 16)
  | .edidReady dp _ => decide (dp < 16)
  | .trainDone dp _ _ => decide (dp < 16)
  | .trainFail dp => decide (dp < 16)
  | .strandConfig o _ => o.ok
  | .strandConfigDone leader => decide (leader < 128)
  | .formatLocked s _ => decide (s < 128)
  | .formatChange s => decide (s < 128)
  | .formatUnknown s => decide (s < 128)
  | .ancOverflow s _ => decide (s < 128)
  | .ethFrameRx s _ => decide (s < 128)
  | .mgmtRx s _ _ => decide (s < 128)
  | .igmpQuery s => decide (s < 128)
  | .flowPacketRx _ _ => true
  | .flowRelease _ _ _ _ => true
  | .flowLost _ => true
  | .pathLost _ _ => true
  | .flowPacketTx _ => true
  | .ptpMessageRx s _ => decide (s < 128)
  | .frameSent s => decide (s < 128)
  | .hitch o dest source => o.ok && decide (dest < 0x10000) && decide (source < 0x10000)
  | .unhitch o dest => o.ok && decide (dest < 0x10000)
  | .armSplice o dest source mode group _ _ _ timeX => o.ok && decide (dest < 0x10000) && decide (source < 0x10000) && decide (mode < 0x100) && decide (group < 0x100) && decide (timeX < 0x10000000000000000)
  | .take o group dest => o.ok && decide (group < 0x100) && decide (dest < 0x10000)
  | .cancelSplice o group dest => o.ok && decide (group < 0x100) && decide (dest < 0x10000)
  | .arm m dest _ => m.ok && destOk dest
  | .cancel m dest _ => m.ok && destOk dest
  | .splTake m _ => m.ok
  | .splCancel m _ => m.ok
  | .lineStart tg _ _ => decide (tg < 256)
  | .splicePoint _ _ => true
  | .lockStepEnd tg => decide (tg < 256)
  | .gapEnd tg => decide (tg < 256)
  | .holdLimitExpiry _ => true
  | .prerollEntry _ _ => true
  | .decision _ _ _ => true
  | .switch _ _ _ => true
  | .shadowReload _ => true
  | .ethBlockReturn s => decide (s < 128)
  | .deferredPower _ => true
  | .batchTimeout t sq => decide (t < 4) && decide (sq < 64)
  | .batchOpen o group => o.ok && decide (group < 0x100)
  | .batchClose o mode timeX => o.ok && decide (mode < 0x100) && decide (timeX < 0x10000000000000000)
  | .frameComplete _ => true
  | .sbdSet o n mask _ => o.ok && decide (n < 0x10000) && decide (mask < 0x100000000)
  | .sbdTableLoad o n table source _ => o.ok && decide (n < 0x10000) && decide (table < 0x100) && decide (source < 0x10000)
  | .sbdTblLoad m n _ => m.ok && decide (n < 96)
  | .sbdTblData m n _ => m.ok && decide (n < 96)
  | .compSet o n mask _ => o.ok && decide (n < 0x10000) && decide (mask < 0x100000000)
  | .layerSet o n mask _ => o.ok && decide (n < 0x10000) && decide (mask < 0x100000000)
  | .registerBuffer o offset format width height pitch colour range => o.ok && decide (offset < 0x10000000000000000) && decide (format < 0x100) && decide (width < 0x100000000) && decide (height < 0x100000000) && decide (pitch < 0x100000000) && decide (colour < 0x100) && decide (range < 0x100)
  | .releaseBuffer o handle => o.ok && decide (handle < 0x10000)
  | .flip o layer handle fence _ target => o.ok && decide (layer < 0x10000) && decide (handle < 0x10000) && decide (fence < 0x10000) && decide (target < 0x10000000000000000)
  | .cmpLFlip m layer _ => m.ok && decide (layer < 256)
  | .compTableLoad o n bank _ => o.ok && decide (n < 0x10000) && decide (bank < 0x100)
  | .cmpTblData m n _ => m.ok && decide (n < 32)
  | .timingSet o n mask _ => o.ok && decide (n < 0x10000) && decide (mask < 0x100000000)
  | .paceSet o n mask _ => o.ok && decide (n < 0x10000) && decide (mask < 0x100000000)
  | .crcSet o n mask _ => o.ok && decide (n < 0x10000) && decide (mask < 0x100000000)
  | .scnTableLoad m tg _ => m.ok && decide (tg < 256)
  | .recorderSet o n mask _ => o.ok && decide (n < 0x10000) && decide (mask < 0x100000000)
  | .playerSet o n mask _ => o.ok && decide (n < 0x10000) && decide (mask < 0x100000000)
  | .playerCue o n timeX => o.ok && decide (n < 0x10000) && decide (timeX < 0x10000000000000000)
  | .evacuateChannel o ch => o.ok && decide (ch < 0x10000)
  | .channelPower o ch _ => o.ok && decide (ch < 0x10000)
  | .rebalance o ch => o.ok && decide (ch < 0x10000)
  | .pieceCopied => true
  | .powerOffSafe ch => decide (ch < 12)
  | .failed ch => decide (ch < 12)
  | .patrolScrub _ _ => true
  | .selfRefreshEntry ch => decide (ch < 12)
  | .selfRefreshExit ch _ => decide (ch < 12)
  | .bar2Access t _ => decide (t < 4)
  | .blockBoundary d _ => decide (d < 192)
  | .sampleInstant d _ _ => decide (d < 192)
  | .clkLost d => decide (d < 192)
  | .sapEnable m sap _ _ => m.ok && decide (sap < 16)
  | .tapRecord sap _ _ => decide (sap < 16)
  | .aes3Block ai a b => decide (ai < 8) && decide (a.length = 24) && decide (b.length = 24)
  | .blockSyncLost ai => decide (ai < 8)
  | .parityErr obs => decide (obs.ai < 8)
  | .audioHitch o amo ami group => o.ok && decide (amo < 0x10000) && decide (ami < 0x10000) && decide (group < 0x100)
  | .audioUnhitch o amo group => o.ok && decide (amo < 0x10000) && decide (group < 0x100)
  | .audioPortSet o amo count fade agroup => o.ok && decide (amo < 0x10000) && decide (count < 0x100) && decide (fade < 0x100) && decide (agroup < 0x100)
  | .audioDomainSet o d mode => o.ok && decide (d < 0x100) && decide (mode < 0x100)
  | .agroupSet o g slip => o.ok && decide (g < 0x100) && decide (slip < 0x100)
  | .sapSet o n mask _ => o.ok && decide (n < 0x10000) && decide (mask < 0x100000000)
  | .audioTapSet o n _ base size => o.ok && decide (n < 0x10000) && decide (base < 0x10000000000000000) && decide (size < 0x100000000)
  | .aesSet o port _ _ => o.ok && decide (port < 0x10000)
  | .srcSet o first count _ domain => o.ok && decide (first < 0x10000) && decide (count < 0x100) && decide (domain < 0x100)
  | .ppsEdge _ => true
  | .refSyncFrame _ _ _ _ => true
  | .refLost ref => decide (ref < 8)
  | .refReady ref => decide (ref < 8)
  | .holdoffExpiry ref => decide (ref < 8)
  | .todArm m _ => m.ok
  | .tempSample _ => true
  | .calRun o item strand _ => o.ok && decide (item < 0x100) && decide (strand < 0x10000)
  | .bgCalStart item _ _ => decide (item < 4)
  | .calDone item _ _ => decide (item < 4)
  | .calStore o => o.ok
  | .autoStore => true
  | .recordCommitted cls bank _ _ => decide (cls < 256) && decide (bank < 8)
  | .sectorErased cls bank => decide (cls < 256) && decide (bank < 8)
  | .program m _ => m.ok
  | .lock m _ => m.ok
  | .recRead o cls index length seq addr => o.ok && decide (cls < 0x100) && decide (index < 0x10000) && decide (length < 0x100000000) && decide (seq < 0x10000000000000000) && decide (addr < 0x10000000000000000)
  | .keyWrite o slot attr wrap _ => o.ok && decide (slot < 0x10000) && decide (attr < 0x100000000) && decide (wrap < 0x10000)
  | .keyZero o slot => o.ok && decide (slot < 0x10000)
  | .keyDerive o source target attr addr _ => o.ok && decide (source < 0x10000) && decide (target < 0x10000000000000000) && decide (attr < 0x100000000) && decide (addr < 0x10000000000000000)
  | .keyStore o slot => o.ok && decide (slot < 0x10000)
  | .attest o slot addr challenge => o.ok && decide (slot < 0x10000) && decide (addr < 0x10000000000000000) && decide (challenge.length = 32)
  | .digestRecompute => true
  | .rigWriteSlot o slot offset length _ => o.ok && decide (slot < 0x10000) && decide (offset < 0x10000000000000000) && decide (length < 0x100000000)
  | .rigWriteSlotDone slot => decide (slot = 1 ∨ slot = 2)
  | .rigVerifySlot o slot => o.ok && decide (slot < 0x10000)
  | .rigVerifySlotDone slot => decide (slot = 1 ∨ slot = 2)
  | .rigSelectSlot o slot _ => o.ok && decide (slot < 0x10000)
  | .rigConfirm o => o.ok
  | .rigRezone o slot mask => o.ok && decide (slot < 0x10000) && decide (mask < 0x100000000)
  | .zoneVerified _ => true
  | .zoneStaged _ => true
  | .zoneStopped => true
  | .zoneRunning => true
  | .nop o => o.ok
  | .fenceSignal o fence _ => o.ok && decide (fence < 0x10000)
  | .dmaCopy o _ => o.ok
  | .dmaDone engine _ => decide (engine < 16)
  | .modeRequest o mode timeX => o.ok && decide (mode < 0x100) && decide (timeX < 0x10000000000000000)
  | .outputsStopped => true
  | .tenancyAdrift o target => o.ok && decide (target < 0x10000000000000000)
  | .flowSet o _ => o.ok
  | .ethSendFrame o s len _ => o.ok && decide (s < 0x10000) && decide (len < 0x100000000)
  | .macsecSaSet o s _ channel an key _ _ salt => o.ok && decide (s < 0x10000) && decide (channel < 0x100) && decide (an < 0x100) && decide (key < 0x10000) && decide (salt < 0x1000000000000000000000000)
  | .hookLoad o f len _ => o.ok && decide (f < 0x10000) && decide (len < 0x100000000)
  | .hookSet o f _ period _ => o.ok && decide (f < 0x10000) && decide (period < 0x100000000)
  | .fidUpdate o f len _ => o.ok && decide (f < 0x10000) && decide (len < 0x100000000)
  | .fidUpdated f => decide (f < 44)
  | .fidUpdateTimeout f => decide (f < 44)
  | .fidRestart o f => o.ok && decide (f < 0x10000)
  | .hookTimeout f => decide (f < 44)
  | .hookSkipped f _ t => decide (f < 44) && decide (t < 4)
  | .alu f hook => threadOk f hook
  | .addi f hook => threadOk f hook
  | .andi f hook => threadOk f hook
  | .ori f hook => threadOk f hook
  | .xori f hook => threadOk f hook
  | .shi f hook => threadOk f hook
  | .lui f hook => threadOk f hook
  | .slti f hook => threadOk f hook
  | .ld f hook => threadOk f hook
  | .st f hook => threadOk f hook
  | .rgr f hook => threadOk f hook
  | .rgw f hook => threadOk f hook
  | .shw f hook => threadOk f hook
  | .cmt f hook => threadOk f hook
  | .xld f hook => threadOk f hook
  | .xst f hook => threadOk f hook
  | .beq f hook => threadOk f hook
  | .bne f hook => threadOk f hook
  | .blt f hook => threadOk f hook
  | .bge f hook => threadOk f hook
  | .bltu f hook => threadOk f hook
  | .bgeu f hook => threadOk f hook
  | .jal f hook => threadOk f hook
  | .jr f hook => threadOk f hook
  | .time f hook => threadOk f hook
  | .wait f hook => threadOk f hook
  | .evt f hook => threadOk f hook
  | .csrr f hook => threadOk f hook
  | .csrw f hook => threadOk f hook
  | .done f hook => threadOk f hook
  | .brk f hook => threadOk f hook
  | .lockBreak => true
  | .remap m _ => m.ok
  | .sysCtrlLock m _ => m.ok
  | .sqTail t q _ => decide (t < 4) && decide (q < 64)
  | .cqHead t c _ => decide (t < 4) && decide (c < 64)
  | .evqHead t _ => decide (t < 4)
  | .commandFetch t q entries _ => decide (t < 4) && decide (q < 64) && entries.all FetchEntry.ok && decide (entries.length ≤ 16)
  | .msixMessage t ring => decide (t < 4) && decide (ring ≤ 64)
  | .tenLanyard m t _ => m.ok && decide (t < 4)
  | .tenLanyardCfg m t _ => m.ok && decide (t < 4)
  | .lanyardLapse t => decide (t < 4)
  | .tenFenceLo m t n _ => m.ok && decide (t < 4) && decide (n < 256)
  | .tenFenceHi m t n _ => m.ok && decide (t < 4) && decide (n < 256)
  | .functionReset t _ _ => decide (t < 4)
  | .busMasterEnable t => decide (t < 4)
  | .ecrcError link => decide (link < 4)
  | .lockedRead t => decide (t < 4)
  | .identify _ => true
  | .health _ => true
  | .alertStatus _ => true
  | .mgmtModeRequest _ mode => decide (mode < 0x100)
  | .mgmtRecRead _ cls index offset length => decide (cls < 0x100) && decide (index < 0x10000) && decide (offset < 0x10000) && decide (length < 0x100)
  | .attestChallenge _ challenge => decide (challenge.length = 32)
  | .attestResponse _ => true
  | .hostWake link => decide (link < 4)
  | .wake _ => true
  | .idleHoldExpiry d => decide (d < 256)
  | .regRead m addr _ => m.ok && decide (addr < 0x100000000000)
  | .channelFilled ch => decide (ch < 12)
  | .delayReq s => decide (s < 128)
  | .avsRequest _ _ => true
  | .timeWake => true
  | .belayGrant => true

/-- Who sends a command (R19, R577, R609, R655, R661): a tenancy's host through a submission queue, a master of the fabric, a tenancy's bridge (doorbells, BAR2,
the function's own controls), a thread of a fid, the management port, or the part and its pins by themselves. -/
inductive Sender where
  | host (o : Origin)
  | master (m : Master)
  | bridge (t : Nat)
  | fid (f : Nat) (hook : Bool)
  | port
  | part
  deriving DecidableEq, Repr

/-- The sender exists. -/
def Sender.ok : Sender → Bool
  | .host o => o.ok
  | .master m => m.ok
  | .bridge t => decide (t < 4)
  | .fid f hook => threadOk f hook
  | .port => true
  | .part => true

/-- The sender of each command. -/
def Instr.sender : Instr → Sender
  | .regWrite m _ _ _ => .master m
  | .stagedWrite m _ _ => .master m
  | .powerOn => .part
  | .pin => .part
  | .supply => .part
  | .thermal => .part
  | .vddAonLost => .part
  | .resetRelease _ => .part
  | .sectionsChecked => .part
  | .linkDetectTimeout => .part
  | .channelTrained _ _ => .part
  | .inService => .part
  | .extentReady => .part
  | .avsRetry _ => .part
  | .tamperAlarm _ => .part
  | .dbgReq => .part
  | .tapReset _ => .part
  | .signalDetected _ => .part
  | .clockLocked _ => .part
  | .adaptConverged _ _ _ => .part
  | .adaptFail _ => .part
  | .protoAligned _ _ => .part
  | .syncFail _ => .part
  | .los _ => .part
  | .protoLost _ => .part
  | .braidSkew _ => .part
  | .txPllLocked _ => .part
  | .bightChange _ => .part
  | .openReq m _ _ => .master m
  | .inject m _ _ => .master m
  | .strPrbsErrRead m _ _ _ => .master m
  | .start m _ _ => .master m
  | .eyeDone _ _ => .part
  | .hpd m _ _ => .master m
  | .irqHpdPulse m _ _ => .master m
  | .auxTransaction _ _ => .part
  | .ddcTransaction _ _ => .part
  | .hpdAssert _ => .part
  | .hpdDeassert _ => .part
  | .irqHpd _ => .part
  | .edidReload m _ _ => .master m
  | .edidReady _ _ => .part
  | .trainDone _ _ _ => .part
  | .trainFail _ => .part
  | .strandConfig o _ => .host o
  | .strandConfigDone _ => .part
  | .formatLocked _ _ => .part
  | .formatChange _ => .part
  | .formatUnknown _ => .part
  | .ancOverflow _ _ => .part
  | .ethFrameRx _ _ => .part
  | .mgmtRx _ _ _ => .part
  | .igmpQuery _ => .part
  | .flowPacketRx _ _ => .part
  | .flowRelease _ _ _ _ => .part
  | .flowLost _ => .part
  | .pathLost _ _ => .part
  | .flowPacketTx _ => .part
  | .ptpMessageRx _ _ => .part
  | .frameSent _ => .part
  | .hitch o _ _ => .host o
  | .unhitch o _ => .host o
  | .armSplice o _ _ _ _ _ _ _ _ => .host o
  | .take o _ _ => .host o
  | .cancelSplice o _ _ => .host o
  | .arm m _ _ => .master m
  | .cancel m _ _ => .master m
  | .splTake m _ => .master m
  | .splCancel m _ => .master m
  | .lineStart _ _ _ => .part
  | .splicePoint _ _ => .part
  | .lockStepEnd _ => .part
  | .gapEnd _ => .part
  | .holdLimitExpiry _ => .part
  | .prerollEntry _ _ => .part
  | .decision _ _ _ => .part
  | .switch _ _ _ => .part
  | .shadowReload _ => .part
  | .ethBlockReturn _ => .part
  | .deferredPower _ => .part
  | .batchTimeout _ _ => .part
  | .batchOpen o _ => .host o
  | .batchClose o _ _ => .host o
  | .frameComplete _ => .part
  | .sbdSet o _ _ _ => .host o
  | .sbdTableLoad o _ _ _ _ => .host o
  | .sbdTblLoad m _ _ => .master m
  | .sbdTblData m _ _ => .master m
  | .compSet o _ _ _ => .host o
  | .layerSet o _ _ _ => .host o
  | .registerBuffer o _ _ _ _ _ _ _ => .host o
  | .releaseBuffer o _ => .host o
  | .flip o _ _ _ _ _ => .host o
  | .cmpLFlip m _ _ => .master m
  | .compTableLoad o _ _ _ => .host o
  | .cmpTblData m _ _ => .master m
  | .timingSet o _ _ _ => .host o
  | .paceSet o _ _ _ => .host o
  | .crcSet o _ _ _ => .host o
  | .scnTableLoad m _ _ => .master m
  | .recorderSet o _ _ _ => .host o
  | .playerSet o _ _ _ => .host o
  | .playerCue o _ _ => .host o
  | .evacuateChannel o _ => .host o
  | .channelPower o _ _ => .host o
  | .rebalance o _ => .host o
  | .pieceCopied => .part
  | .powerOffSafe _ => .part
  | .failed _ => .part
  | .patrolScrub _ _ => .part
  | .selfRefreshEntry _ => .part
  | .selfRefreshExit _ _ => .part
  | .bar2Access t _ => .bridge t
  | .blockBoundary _ _ => .part
  | .sampleInstant _ _ _ => .part
  | .clkLost _ => .part
  | .sapEnable m _ _ _ => .master m
  | .tapRecord _ _ _ => .part
  | .aes3Block _ _ _ => .part
  | .blockSyncLost _ => .part
  | .parityErr _ => .part
  | .audioHitch o _ _ _ => .host o
  | .audioUnhitch o _ _ => .host o
  | .audioPortSet o _ _ _ _ => .host o
  | .audioDomainSet o _ _ => .host o
  | .agroupSet o _ _ => .host o
  | .sapSet o _ _ _ => .host o
  | .audioTapSet o _ _ _ _ => .host o
  | .aesSet o _ _ _ => .host o
  | .srcSet o _ _ _ _ => .host o
  | .ppsEdge _ => .part
  | .refSyncFrame _ _ _ _ => .part
  | .refLost _ => .part
  | .refReady _ => .part
  | .holdoffExpiry _ => .part
  | .todArm m _ => .master m
  | .tempSample _ => .part
  | .calRun o _ _ _ => .host o
  | .bgCalStart _ _ _ => .part
  | .calDone _ _ _ => .part
  | .calStore o => .host o
  | .autoStore => .part
  | .recordCommitted _ _ _ _ => .part
  | .sectorErased _ _ => .part
  | .program m _ => .master m
  | .lock m _ => .master m
  | .recRead o _ _ _ _ _ => .host o
  | .keyWrite o _ _ _ _ => .host o
  | .keyZero o _ => .host o
  | .keyDerive o _ _ _ _ _ => .host o
  | .keyStore o _ => .host o
  | .attest o _ _ _ => .host o
  | .digestRecompute => .part
  | .rigWriteSlot o _ _ _ _ => .host o
  | .rigWriteSlotDone _ => .part
  | .rigVerifySlot o _ => .host o
  | .rigVerifySlotDone _ => .part
  | .rigSelectSlot o _ _ => .host o
  | .rigConfirm o => .host o
  | .rigRezone o _ _ => .host o
  | .zoneVerified _ => .part
  | .zoneStaged _ => .part
  | .zoneStopped => .part
  | .zoneRunning => .part
  | .nop o => .host o
  | .fenceSignal o _ _ => .host o
  | .dmaCopy o _ => .host o
  | .dmaDone _ _ => .part
  | .modeRequest o _ _ => .host o
  | .outputsStopped => .part
  | .tenancyAdrift o _ => .host o
  | .flowSet o _ => .host o
  | .ethSendFrame o _ _ _ => .host o
  | .macsecSaSet o _ _ _ _ _ _ _ _ => .host o
  | .hookLoad o _ _ _ => .host o
  | .hookSet o _ _ _ _ => .host o
  | .fidUpdate o _ _ _ => .host o
  | .fidUpdated _ => .part
  | .fidUpdateTimeout _ => .part
  | .fidRestart o _ => .host o
  | .hookTimeout _ => .part
  | .hookSkipped _ _ _ => .part
  | .alu f hook => .fid f hook
  | .addi f hook => .fid f hook
  | .andi f hook => .fid f hook
  | .ori f hook => .fid f hook
  | .xori f hook => .fid f hook
  | .shi f hook => .fid f hook
  | .lui f hook => .fid f hook
  | .slti f hook => .fid f hook
  | .ld f hook => .fid f hook
  | .st f hook => .fid f hook
  | .rgr f hook => .fid f hook
  | .rgw f hook => .fid f hook
  | .shw f hook => .fid f hook
  | .cmt f hook => .fid f hook
  | .xld f hook => .fid f hook
  | .xst f hook => .fid f hook
  | .beq f hook => .fid f hook
  | .bne f hook => .fid f hook
  | .blt f hook => .fid f hook
  | .bge f hook => .fid f hook
  | .bltu f hook => .fid f hook
  | .bgeu f hook => .fid f hook
  | .jal f hook => .fid f hook
  | .jr f hook => .fid f hook
  | .time f hook => .fid f hook
  | .wait f hook => .fid f hook
  | .evt f hook => .fid f hook
  | .csrr f hook => .fid f hook
  | .csrw f hook => .fid f hook
  | .done f hook => .fid f hook
  | .brk f hook => .fid f hook
  | .lockBreak => .part
  | .remap m _ => .master m
  | .sysCtrlLock m _ => .master m
  | .sqTail t _ _ => .bridge t
  | .cqHead t _ _ => .bridge t
  | .evqHead t _ => .bridge t
  | .commandFetch _ _ _ _ => .part
  | .msixMessage _ _ => .part
  | .tenLanyard m _ _ => .master m
  | .tenLanyardCfg m _ _ => .master m
  | .lanyardLapse _ => .part
  | .tenFenceLo m _ _ _ => .master m
  | .tenFenceHi m _ _ _ => .master m
  | .functionReset t _ _ => .bridge t
  | .busMasterEnable t => .bridge t
  | .ecrcError _ => .part
  | .lockedRead t => .bridge t
  | .identify _ => .port
  | .health _ => .port
  | .alertStatus _ => .port
  | .mgmtModeRequest _ _ => .port
  | .mgmtRecRead _ _ _ _ _ => .port
  | .attestChallenge _ _ => .port
  | .attestResponse _ => .port
  | .hostWake _ => .part
  | .wake _ => .part
  | .idleHoldExpiry _ => .part
  | .regRead m _ _ => .master m
  | .channelFilled _ => .part
  | .delayReq _ => .part
  | .avsRequest _ _ => .part
  | .timeWake => .part
  | .belayGrant => .part

end Sys2Proof
end

