-- ==== Sys2Proof/Certificates/Slice0/Obligations.lean ====
section
/-! DEFINITION. The statements for the provers. -/

open Sys2Proof Sys2Proof.Machine

/-- For every command and every state with it at the front of the queue, step is exec of the command on the state with the queue's rest. This is the model's queue (log entry 1), not a rule of the spec. (R10) -/
def Obligations.StepTakesFront : Prop :=
  ∀ (c : Instr) (l : List Instr) (s : State), step (s.withPending (c :: l)) = exec c (s.withPending l)

/-- exec answers a next state for every command and state, with the same queue of waiting commands and no fewer free values drawn: no command of the part faults or is refused. With an empty queue a step changes nothing but the outputs and the system counter, which goes on by one nanosecond in the modes in which it runs (log entry 2: the model's choice). (R547) -/
def Obligations.CommandsComplete : Prop :=
  (∀ (c : Instr) (s : State), Completes c s) ∧
  (∀ (c : Instr) (s t : State), exec c s = .next t → t.pending = s.pending ∧ s.draws ≤ t.draws) ∧
  (∀ s : State, s.pending = [] → step s =
    .next { s with out := [], now := if s.mode = .off ∨ s.mode = .reset ∨ s.mode = .doze ∨ s.mode = .deepSleep then s.now else s.now + 1 })

/-- From every state whose register tables, frame store memory, local memories and work SRAM are in canonical form, every step ends in a next state in which they still are; in particular a byte of the frame store is listed exactly when it differs from 0, so that equal memories are equal data. The form is the model's (log entry on tables and memory). (R250, R445) -/
def Obligations.CanonicalKept : Prop :=
  ∀ s : State, SafeStep s

/-- At reset no command waits, memories list nothing and are in canonical form, the system counter is 0, the mode is Bring-up, every register reads its reset value, no fence is set, no object has an owner and no slot holds a key; the invariant of CanonicalKept holds. (R548, R765) -/
def Obligations.ResetState : Prop :=
  State.reset.canonical = true ∧ State.reset.pending = [] ∧ State.reset.now = 0 ∧ State.reset.mode = .bringUp ∧
  (∀ a, State.reset.reg a = regDefault a ∧ State.reset.liveReg a = regDefault a) ∧
  (∀ t n, State.reset.fence t n = 0) ∧ (∀ f a, State.reset.fidWord f a = 0) ∧ (∀ c, State.reset.owner c = none) ∧ (∀ k, tabGet k State.reset.key.slots = none)

/-- Whatever command is carried out, in whatever state: the owner lock page holds at least what it held, entry for entry; once the owner lock antifuse is programmed it stays so; and so does the root antifuse. (R702, R703, R708) -/
def Obligations.OneTimeStorage : Prop :=
  ∀ (s t : State), step s = .next t →
    s.rst.lockPage <+: t.rst.lockPage ∧ (s.rst.locked = true → t.rst.locked = true) ∧ (s.key.rooted = true → t.key.rooted = true)

/-- When a thread of a fid issues ADDI, ANDI, ORI, XORI, SLTI or LUI, gA takes the result of R583 (the immediate sign- or zero-extended as R582 says), the program counter goes on by 4, and nothing else changes; a write to g0 is lost. (R582, R583, R578) -/
def Obligations.FidImmediate : Prop :=
  ∀ (s : State) (f : Nat) (hook : Bool) (w : Word), Issues s f hook w →
    let x := (s.thread f hook).g (fld w 21 18)
    let imm := fld w 17 0
    let signed : Word := BitVec.ofInt 32 (if imm < 0x20000 then (imm : Int) else (imm : Int) - 0x40000)
    let a := fld w 25 22
    let next := (s.thread f hook).pc + 4
    (fld w 31 26 = 0x01 → Sets f hook s a (x + signed) next (exec (.addi f hook) s)) ∧
    (fld w 31 26 = 0x02 → Sets f hook s a (x &&& BitVec.ofNat 32 imm) next (exec (.andi f hook) s)) ∧
    (fld w 31 26 = 0x03 → Sets f hook s a (x ||| BitVec.ofNat 32 imm) next (exec (.ori f hook) s)) ∧
    (fld w 31 26 = 0x04 → Sets f hook s a (x ^^^ BitVec.ofNat 32 imm) next (exec (.xori f hook) s)) ∧
    (fld w 31 26 = 0x06 → Sets f hook s a (BitVec.ofNat 32 (fld w 21 0 * 1024)) next (exec (.lui f hook) s)) ∧
    (fld w 31 26 = 0x07 → Sets f hook s a (if x.toInt < signed.toInt then 1 else 0) next (exec (.slti f hook) s))

/-- When a thread issues ALU with F from 0 to 14, or SHI with shift selector 0 to 2, gA takes the result R583 names for the selector, shifts counting gC & 31 or imm[4:0]; the thread goes on and nothing else changes. (R582, R583, R578) -/
def Obligations.FidAluAndShift : Prop :=
  ∀ (s : State) (f : Nat) (hook : Bool) (w : Word), Issues s f hook w →
    let x := (s.thread f hook).g (fld w 21 18)
    let y := (s.thread f hook).g (fld w 17 14)
    let n := y.toNat % 32
    let a := fld w 25 22
    let next := (s.thread f hook).pc + 4
    let alu := exec (.alu f hook) s
    let shi := exec (.shi f hook) s
    (fld w 31 26 = 0x00 →
      (fld w 13 0 = 0 → Sets f hook s a (x + y) next alu) ∧
      (fld w 13 0 = 1 → Sets f hook s a (x - y) next alu) ∧
      (fld w 13 0 = 2 → Sets f hook s a (x &&& y) next alu) ∧
      (fld w 13 0 = 3 → Sets f hook s a (x ||| y) next alu) ∧
      (fld w 13 0 = 4 → Sets f hook s a (x ^^^ y) next alu) ∧
      (fld w 13 0 = 5 → Sets f hook s a (BitVec.ofNat 32 (x.toNat * 2 ^ n)) next alu) ∧
      (fld w 13 0 = 6 → Sets f hook s a (BitVec.ofNat 32 (x.toNat / 2 ^ n)) next alu) ∧
      (fld w 13 0 = 7 → Sets f hook s a (BitVec.ofInt 32 (x.toInt / 2 ^ n)) next alu) ∧
      (fld w 13 0 = 8 → Sets f hook s a (if x.toInt < y.toInt then 1 else 0) next alu) ∧
      (fld w 13 0 = 9 → Sets f hook s a (if x.toNat < y.toNat then 1 else 0) next alu) ∧
      (fld w 13 0 = 10 → Sets f hook s a (BitVec.ofNat 32 (x.toNat * y.toNat)) next alu) ∧
      (fld w 13 0 = 11 → Sets f hook s a (if x.toInt < y.toInt then x else y) next alu) ∧
      (fld w 13 0 = 12 → Sets f hook s a (if x.toInt < y.toInt then y else x) next alu) ∧
      (fld w 13 0 = 13 → Sets f hook s a (if x.toNat < y.toNat then x else y) next alu) ∧
      (fld w 13 0 = 14 → Sets f hook s a (if x.toNat < y.toNat then y else x) next alu)) ∧
    (fld w 31 26 = 0x05 →
      (fld w 17 16 = 0 → Sets f hook s a (BitVec.ofNat 32 (x.toNat * 2 ^ fld w 4 0)) next shi) ∧
      (fld w 17 16 = 1 → Sets f hook s a (BitVec.ofNat 32 (x.toNat / 2 ^ fld w 4 0)) next shi) ∧
      (fld w 17 16 = 2 → Sets f hook s a (BitVec.ofInt 32 (x.toInt / 2 ^ fld w 4 0)) next shi))

/-- BEQ, BNE, BLT, BGE, BLTU and BGEU: when gA compares with gB as named, the thread goes to pc + 4 × imm18 where that lies in its code; when it does not, the thread goes on at pc + 4. Nothing else changes. (R582, R583) -/
def Obligations.FidBranches : Prop :=
  ∀ (s : State) (f : Nat) (hook : Bool) (w : Word) (dst : Nat), Issues s f hook w →
    let x := (s.thread f hook).g (fld w 25 22)
    let y := (s.thread f hook).g (fld w 21 18)
    let imm := fld w 17 0
    let pc := (s.thread f hook).pc
    (dst : Int) = (pc : Int) + 4 * (if imm < 0x20000 then (imm : Int) else (imm : Int) - 0x40000) →
    s.mayFetch f hook dst = true →
    (fld w 31 26 = 0x10 → Goes f hook s (if x = y then dst else pc + 4) (exec (.beq f hook) s)) ∧
    (fld w 31 26 = 0x11 → Goes f hook s (if x ≠ y then dst else pc + 4) (exec (.bne f hook) s)) ∧
    (fld w 31 26 = 0x12 → Goes f hook s (if x.toInt < y.toInt then dst else pc + 4) (exec (.blt f hook) s)) ∧
    (fld w 31 26 = 0x13 → Goes f hook s (if y.toInt ≤ x.toInt then dst else pc + 4) (exec (.bge f hook) s)) ∧
    (fld w 31 26 = 0x14 → Goes f hook s (if x.toNat < y.toNat then dst else pc + 4) (exec (.bltu f hook) s)) ∧
    (fld w 31 26 = 0x15 → Goes f hook s (if y.toNat ≤ x.toNat then dst else pc + 4) (exec (.bgeu f hook) s))

/-- JAL and JR write pc + 4 to gA and go to pc + 4 × off22, or to gB + imm, where that lies in the thread's code; nothing else changes. (R582, R583) -/
def Obligations.FidJumps : Prop :=
  ∀ (s : State) (f : Nat) (hook : Bool) (w : Word) (dst : Nat), Issues s f hook w → s.mayFetch f hook dst = true →
    let pc := (s.thread f hook).pc
    let off := fld w 21 0
    let imm := fld w 17 0
    let signed : Word := BitVec.ofInt 32 (if imm < 0x20000 then (imm : Int) else (imm : Int) - 0x40000)
    (fld w 31 26 = 0x16 → (dst : Int) = (pc : Int) + 4 * (if off < 0x200000 then (off : Int) else (off : Int) - 0x400000) →
      Sets f hook s (fld w 25 22) (BitVec.ofNat 32 (pc + 4)) dst (exec (.jal f hook) s)) ∧
    (fld w 31 26 = 0x17 → dst = ((s.thread f hook).g (fld w 21 18) + signed).toNat →
      Sets f hook s (fld w 25 22) (BitVec.ofNat 32 (pc + 4)) dst (exec (.jr f hook) s))

/-- For an aligned local address inside the data the thread may use, LD writes the word there to gA and changes no word of any local memory; ST writes gA to that word and changes no other word of any local memory, no register of any thread and nothing else but the thread's program counter. (R580, R581, R583) -/
def Obligations.FidLoadStore : Prop :=
  ∀ (s : State) (f : Nat) (hook : Bool) (w : Word), Issues s f hook w →
    let imm := fld w 17 0
    let signed : Word := BitVec.ofInt 32 (if imm < 0x20000 then (imm : Int) else (imm : Int) - 0x40000)
    let at_ := ((s.thread f hook).g (fld w 21 18) + signed).toNat
    let pc := (s.thread f hook).pc
    s.mayData f hook at_ = true →
    (fld w 31 26 = 0x08 → Sets f hook s (fld w 25 22) (BitVec.ofNat 32 (s.fidWord f at_)) (pc + 4) (exec (.ld f hook) s)) ∧
    (fld w 31 26 = 0x09 → ∃ t, exec (.st f hook) s = .next t ∧
      t = { s with out := t.out, fid := { s.fid with fids := t.fid.fids, mem := t.fid.mem } } ∧
      (∀ g a, a < 0x10000 → t.fidWord g a = if g = f ∧ a = at_ then ((s.thread f hook).g (fld w 25 22)).toNat else s.fidWord g a) ∧
      (∀ g h, (t.thread g h).regs = (s.thread g h).regs ∧ (t.thread g h).wbuf = (s.thread g h).wbuf ∧
        (t.thread g h).pc = if g = f ∧ h = hook then pc + 4 else (s.thread g h).pc))

/-- An LD or ST whose address is unaligned or outside the data areas of the system thread, an RGR, RGW or SHW that is unaligned or at or beyond 0x40_0000, and a jump to an unaligned address or outside its code trap: the fid enters FAULT, and FID_TRAP holds the program counter and the cause. Of an FP fid this is said where no change set is open, since armed splices of its destinations end too (R593). In a hook, XLD, XST, WAIT, BRK and an opcode R583 does not list end the run with BAD_OPCODE in FID_HOOK_STATUS.LAST_RESULT, and a load outside the area's data with BAD_FIELD; the run is over. Said of a fid with no further run queued. (R580, R585, R597, R600, R607) -/
def Obligations.FidTraps : Prop :=
  (∀ (s : State) (f : Nat) (w : Word), Issues s f false w → (fidKind f = 1 → s.spl.sets = []) →
    let imm := fld w 17 0
    let signed : Word := BitVec.ofInt 32 (if imm < 0x20000 then (imm : Int) else (imm : Int) - 0x40000)
    let dst := ((s.thread f false).g (fld w 21 18) + signed).toNat
    let pc := (s.thread f false).pc
    let Traps := fun (cause : Nat) (o : Result) => ∃ t, o = .next t ∧ fld (t.reg (Reg.fidStatus f)) 1 0 = 3 ∧
      fld (t.reg (Reg.fidTrap f)) 15 0 = pc ∧ fld (t.reg (Reg.fidTrap f)) 19 16 = cause ∧ t.fid.mem = s.fid.mem
    (dst % 4 ≠ 0 ∨ dst < 0x8000 ∨ 0x10000 ≤ dst →
      (fld w 31 26 = 0x08 → Traps 2 (exec (.ld f false) s)) ∧ (fld w 31 26 = 0x09 → Traps 2 (exec (.st f false) s))) ∧
    (dst % 4 ≠ 0 ∨ 0x400000 ≤ dst →
      (fld w 31 26 = 0x0A → Traps 2 (exec (.rgr f false) s)) ∧ (fld w 31 26 = 0x0B → Traps 2 (exec (.rgw f false) s)) ∧
      (fld w 31 26 = 0x0C → Traps 2 (exec (.shw f false) s))) ∧
    (dst % 4 ≠ 0 ∨ 0x8000 ≤ dst → fld w 31 26 = 0x17 → Traps 3 (exec (.jr f false) s)) ∧
    (fld w 31 26 = 0x1E → Traps 4 (exec (.brk f false) s)) ∧
    (0x1F ≤ fld w 31 26 → Traps 1 (exec (.brk f false) s))) ∧
  (∀ (s : State) (f : Nat) (w : Word) (r : HookRun), Issues s f true w → (s.fidOf f).run = some r → (s.fidOf f).queue = [] → r.tenancy < 4 →
    let Ends := fun (st : Status) (o : Result) => ∃ t, o = .next t ∧ (t.fidOf f).run = none ∧
      fld (t.reg (Reg.fidHookStatus (f - 1) r.tenancy)) 15 8 = statusCode st
    (fld w 31 26 = 0x0E → Ends .badOpcode (exec (.xld f true) s)) ∧
    (fld w 31 26 = 0x0F → Ends .badOpcode (exec (.xst f true) s)) ∧
    (fld w 31 26 = 0x19 → Ends .badOpcode (exec (.wait f true) s)) ∧
    (0x1E ≤ fld w 31 26 → Ends .badOpcode (exec (.brk f true) s)) ∧
    (fld w 31 26 = 0x08 → s.mayData f true (s.effAddr f true w) = false → Ends .badField (exec (.ld f true) s)))

/-- SHW appends its offset and gA to the thread's buffer while it holds fewer than 64 entries and changes no register. In a SPLICE hook CMT does nothing but set gA to 0. In a system thread whose SET names a change set that is DECIDED, or that is not there, CMT empties the buffer, changes no register and sets gA to 1; with SET 0xFFFE and an empty buffer it sets gA to 0. (R586, R587) -/
def Obligations.FidShadowBuffer : Prop :=
  ∀ (s : State) (f : Nat) (w : Word),
    (∀ hook, Issues s f hook w → fld w 31 26 = 0x0C → offsetOk (s.effAddr f hook w) = true → (s.thread f hook).wbuf.length < 64 →
      ∃ t, exec (.shw f hook) s = .next t ∧ OnlyThread f hook s t ∧ (t.thread f hook).pc = (s.thread f hook).pc + 4 ∧
        (t.thread f hook).wbuf = (s.thread f hook).wbuf ++ [(s.effAddr f hook w, (s.thread f hook).g (fld w 25 22))] ∧
        ∀ q, (t.thread f hook).g q = (s.thread f hook).g q) ∧
    (Issues s f true w → fld w 31 26 = 0x0D → s.spliceRun f = true →
      Sets f true s (fld w 25 22) 0 ((s.thread f true).pc + 4) (exec (.cmt f true) s)) ∧
    (Issues s f false w → fld w 31 26 = 0x0D → (s.thread f false).set ≠ 0xFFFE →
      (∀ c ∈ s.spl.sets, c.leader = (s.thread f false).set → c.kind ≠ .staged → c.phase = .decided) →
      ∃ t, exec (.cmt f false) s = .next t ∧ t.regs = s.regs ∧ t.live = s.live ∧ t.spl = s.spl ∧ (t.thread f false).wbuf = [] ∧
        (t.thread f false).pc = (s.thread f false).pc + 4 ∧
        ∀ q, (t.thread f false).g q = if q = fld w 25 22 ∧ q ≠ 0 then 1 else (s.thread f false).g q) ∧
    (Issues s f false w → fld w 31 26 = 0x0D → (s.thread f false).set = 0xFFFE → (s.thread f false).wbuf = [] →
      Sets f false s (fld w 25 22) 0 ((s.thread f false).pc + 4) (exec (.cmt f false) s))

/-- RGR at an aligned offset below 0x40_0000 writes gA what a register read by the thread's master answers, and the thread goes on. RGW by a system thread to a plain RW register of no STOPPED zone writes gA there, to the bits the register has, leaves every other register as it was, and the thread goes on; to one of a STOPPED zone it only counts in DROPPED_WRITES. (R583, R597, R14, R18, R75) -/
def Obligations.FidRegisterAccess : Prop :=
  ∀ (s : State) (f : Nat) (w : Word),
    (∀ hook, Issues s f hook w → fld w 31 26 = 0x0A → offsetOk (s.effAddr f hook w) = true →
      ∃ t, exec (.rgr f hook) s = .next t ∧ (t.thread f hook).pc = (s.thread f hook).pc + 4 ∧
        ∀ q, (t.thread f hook).g q = if q = fld w 25 22 ∧ q ≠ 0 then (regRead (s.threadMaster f hook) (s.effAddr f hook w) s.begin).1
          else (s.thread f hook).g q) ∧
    (∀ l, Issues s f false w → fld w 31 26 = 0x0B → offsetOk (s.effAddr f false w) = true → locate (s.effAddr f false w) = some l →
      (l.plain = true → zoneStopped l s = false → ∃ t, exec (.rgw f false) s = .next t ∧ (t.thread f false).pc = (s.thread f false).pc + 4 ∧
        ∀ b, t.reg b = if b = s.effAddr f false w then merge l.row.mask (s.reg b) ((s.thread f false).g (fld w 25 22)) else s.reg b) ∧
      (zoneStopped l s = true → ∃ t, exec (.rgw f false) s = .next t ∧ (t.thread f false).pc = (s.thread f false).pc + 4 ∧
        t.f Reg.sysRezoneStatus 31 20 = min 4095 (s.f Reg.sysRezoneStatus 31 20 + 1) ∧ ∀ b, b ≠ Reg.sysRezoneStatus → t.reg b = s.reg b))

/-- For an aligned address of the work SRAM's window, XLD of a system thread writes that word to gA; XST writes gA there and leaves every other word of the work SRAM, every register and all local memory as they were. For an aligned address in a fid's local memory window they do the same with that word. (R583, R662, R664) -/
def Obligations.FidFabricAccess : Prop :=
  ∀ (s : State) (f : Nat) (w : Word), Issues s f false w →
    let a := fld ((s.thread f false).g (fld w 17 14)) 11 0 * 0x100000000 + ((s.thread f false).g (fld w 21 18)).toNat
    let pc := (s.thread f false).pc
    let v := (s.thread f false).g (fld w 25 22)
    a % 4 = 0 →
    (0x10000000 ≤ a → a < 0x10400000 →
      (fld w 31 26 = 0x0E → Sets f false s (fld w 25 22) (wd (tabGetD 0 (a - 0x10000000) s.fab.sram)) (pc + 4) (exec (.xld f false) s)) ∧
      (fld w 31 26 = 0x0F → ∃ t, exec (.xst f false) s = .next t ∧ (t.thread f false).pc = pc + 4 ∧ t.regs = s.regs ∧ t.fid.mem = s.fid.mem ∧
        ∀ o, tabGetD 0 o t.fab.sram = if o = a - 0x10000000 then v.toNat else tabGetD 0 o s.fab.sram)) ∧
    (0x80000000 ≤ a → a < 0x80000000 + 44 * 0x10000 →
      (fld w 31 26 = 0x0E → Sets f false s (fld w 25 22) (wd (s.fidWord ((a - 0x80000000) / 0x10000) (a % 0x10000))) (pc + 4) (exec (.xld f false) s)) ∧
      (fld w 31 26 = 0x0F → ∃ t, exec (.xst f false) s = .next t ∧ (t.thread f false).pc = pc + 4 ∧ t.regs = s.regs ∧ t.fab = s.fab ∧
        ∀ g o, o < 0x10000 → t.fidWord g o = if g = (a - 0x80000000) / 0x10000 ∧ o = a % 0x10000 then v.toNat else s.fidWord g o))

/-- TIME writes the low word of the system counter to gA and its high word to gB, from one reading. CSRR writes gA the CSR R584 names: FIDNUM, BANK, THREAD, TENANCY, SET, WBUF, 0xFFFF_FFFF for LEFT of a system thread, and 0 for a number the table does not have. CSRW of a system thread to CSR 7 sets SET from gA[15:0]; of a hook it is ignored. (R583, R584) -/
def Obligations.FidTimeAndCsr : Prop :=
  ∀ (s : State) (f : Nat) (hook : Bool) (w : Word), Issues s f hook w →
    let a := fld w 25 22
    let b := fld w 21 18
    let n := fld w 17 0
    let next := (s.thread f hook).pc + 4
    (fld w 31 26 = 0x18 → ∃ t, exec (.time f hook) s = .next t ∧ OnlyThread f hook s t ∧ (t.thread f hook).pc = next ∧
      ∀ q, (t.thread f hook).g q = if q = 0 then 0 else if q = b then BitVec.ofNat 32 (s.now / 2 ^ 32) else if q = a then BitVec.ofNat 32 s.now
        else (s.thread f hook).g q) ∧
    (fld w 31 26 = 0x1B →
      (n = 0 → Sets f hook s a (BitVec.ofNat 32 f) next (exec (.csrr f hook) s)) ∧
      (n = 1 → Sets f hook s a (if s.bit (Reg.fidStatus f) 2 = true then 1 else 0) next (exec (.csrr f hook) s)) ∧
      (n = 2 → Sets f hook s a (BitVec.ofNat 32 (s.fidOf f).updated) next (exec (.csrr f hook) s)) ∧
      (n = 4 → Sets f hook s a (if hook = true then 1 else 0) next (exec (.csrr f hook) s)) ∧
      (n = 5 → hook = true → Sets f hook s a (BitVec.ofNat 32 (s.hookTenancy f)) next (exec (.csrr f hook) s)) ∧
      (n = 6 → hook = false → Sets f hook s a 0xFFFFFFFF next (exec (.csrr f hook) s)) ∧
      (n = 7 → Sets f hook s a (BitVec.ofNat 32 (s.thread f hook).set) next (exec (.csrr f hook) s)) ∧
      (n = 8 → Sets f hook s a (BitVec.ofNat 32 (s.thread f hook).wbuf.length) next (exec (.csrr f hook) s)) ∧
      (9 ≤ n → Sets f hook s a 0 next (exec (.csrr f hook) s))) ∧
    (fld w 31 26 = 0x1C →
      (hook = true → Goes f hook s next (exec (.csrw f hook) s)) ∧
      (hook = false → n ≠ 7 → Goes f hook s next (exec (.csrw f hook) s)) ∧
      (hook = false → n = 7 → ∃ t, exec (.csrw f hook) s = .next t ∧ OnlyThread f hook s t ∧ (t.thread f hook).pc = next ∧
        (t.thread f hook).set = ((s.thread f hook).g a).toNat % 65536 ∧ ∀ q, (t.thread f hook).g q = (s.thread f hook).g q))

/-- WAIT of a system thread with an event pending under its mask writes those events to gA and clears them; with none it records the wait, and STATE becomes WAITING. EVT of a system thread posts FID_NOTE to the rig owner with its code, gA and gB, where the ring takes entries, and the thread goes on. DONE DROP returns a system thread to its entry in the bank in use with an empty buffer and changes no register; of a hook with no further run queued it ends the run with OK. (R583, R588, R589, R599) -/
def Obligations.FidWaitAndDone : Prop :=
  ∀ (s : State) (f : Nat) (w : Word),
    (Issues s f false w →
      let mask := ((s.thread f false).g (fld w 21 18)).toNat
      let events := (s.fidOf f).events
      let r := s.rigOwner
      (fld w 31 26 = 0x19 → events &&& mask ≠ 0 → ∃ t, exec (.wait f false) s = .next t ∧ t.regs = s.regs ∧ (t.fidOf f).wait = (s.fidOf f).wait ∧
        (t.fidOf f).events = events &&& (0xFFFFFFFF ^^^ mask) ∧ (t.thread f false).pc = (s.thread f false).pc + 4 ∧
        ∀ q, (t.thread f false).g q = if q = fld w 25 22 ∧ q ≠ 0 then BitVec.ofNat 32 (events &&& mask) else (s.thread f false).g q) ∧
      (fld w 31 26 = 0x19 → events &&& mask = 0 → ∃ t, exec (.wait f false) s = .next t ∧ fld (t.reg (Reg.fidStatus f)) 1 0 = 2 ∧
        (t.fidOf f).wait = some (fld w 25 22, mask) ∧ (t.fidOf f).events = events) ∧
      (fld w 31 26 = 0x1A → s.bit (Reg.tenEvqCfg r) 0 = true → s.bme r = true → (s.evq r).entries.length < s.evqSize r - 1 →
        ∃ t, exec (.evt f false) s = .next t ∧ (t.thread f false).pc = (s.thread f false).pc + 4 ∧
          (t.evq r).entries = (s.evq r).entries ++ [⟨2, false, (s.evq r).phase, (s.evq r).seq, s.now, objFid f, fld w 17 0 % 65536,
            leBytes 4 ((s.thread f false).g (fld w 25 22)).toNat ++ leBytes 4 ((s.thread f false).g (fld w 21 18)).toNat⟩]) ∧
      (fld w 31 26 = 0x1D → fld w 0 0 = 1 → ∃ t, exec (.done f false) s = .next t ∧ OnlyThread f false s t ∧
        (t.thread f false).pc = s.bankBase f + (s.fidOf f).entry ∧ (t.thread f false).wbuf = [] ∧
        ∀ q, (t.thread f false).g q = (s.thread f false).g q)) ∧
    (∀ r, Issues s f true w → (s.fidOf f).run = some r → (s.fidOf f).queue = [] → r.tenancy < 4 → fld w 31 26 = 0x1D → fld w 0 0 = 1 →
      ∃ t, exec (.done f true) s = .next t ∧ (t.fidOf f).run = none ∧ fld (t.reg (Reg.fidHookStatus (f - 1) r.tenancy)) 15 8 = statusCode .ok)

/-- A tenancy's write of a register of an object it does not own is ignored, and so is its read, which returns 0 and clears nothing, where the object is neither its own nor granted to it; each such access counts in TEN_FOREIGN_CNT of that tenancy, and nothing else changes. (HOUSE, domain 0, is no object of an owner: its registers may be read.) (R19, R17) -/
def Obligations.ForeignAccess : Prop :=
  ∀ (s : State) (t a c : Nat) (l : Loc) (v : DWord), t < 4 → s.masterThere (.tenancy t) = true → a % 4 = 0 → a < 0x400000 → locate a = some l →
    windowObj l = some c → s.owner c ≠ some t →
    let Counted := fun (out : List Output) (o : Result) => ∃ u, o = .next u ∧ u = { s with out := out, regs := u.regs } ∧
      ∀ b, u.reg b = if b = Reg.tenForeignCnt t then wd (min 0xFFFFFFFF ((s.reg b).toNat + 1)) else s.reg b
    Counted [] (exec (.regWrite (.tenancy t) a 4 v) s) ∧
    (s.mayUse t c = false → c ≠ objDomain 0 → Counted [.read 0] (exec (.regRead (.tenancy t) a 4) s))

/-- A write of a reserved offset changes nothing and a read of it returns 0. A 32-bit REG_WRITE by a tenancy whose ownership passes, by a fid, a DMA engine or the debug port of a plain RW register leaves the written bits there, and a REG_READ then returns the word; one of a W1C register of a recorder's window clears the bits written 1 and no other; each changes no other register and nothing else. A write to a register of a STOPPED zone by a master that no ownership filters counts in DROPPED_WRITES alone. A write of fewer than 32 bits by a tenancy, outside Lockdown, sets LAST_RESULT to BAD_FIELD and nothing else. (R14, R15, R18, R75, R615) -/
def Obligations.RegisterAccess : Prop :=
  ∀ (s : State) (m : Master) (a : Nat) (v : DWord), s.masterThere m = true → a % 4 = 0 → a < 0x400000 →
    let x := match m with
      | .tenancy _ => a
      | _ => 0x40000000 + a
    let Only := fun (l : List Nat) (t : State) => t = { s with out := [], regs := t.regs } ∧ ∀ b, b ∉ l → t.reg b = s.reg b
    (locate a = none → exec (.regWrite m x 4 v) s = .next { s with out := [] } ∧ exec (.regRead m x 4) s = .next { s with out := [.read 0] }) ∧
    (∀ l, locate a = some l → (∀ t, m = .tenancy t → writeGate t l s = .pass) → zoneStopped l s = false →
      (l.plain = true → ∃ t, exec (.regWrite m x 4 v) s = .next t ∧ t.reg a = merge l.row.mask (s.reg a) (wd v.toNat) ∧ Only [a] t) ∧
      (l.kind = .fstRec → l.row.acc = .w1c → ∃ t, exec (.regWrite m x 4 v) s = .next t ∧ t.reg a = s.reg a &&& ~~~(wd v.toNat &&& wd l.row.mask) ∧ Only [a] t)) ∧
    (∀ l, locate a = some l → (∀ t, m = .tenancy t → readGate t l s = .pass) → zoneStopped l s = false → l.plain = true →
      l.kind ≠ .fidSys → l.kind ≠ .tenPre → l.kind ≠ .aud → exec (.regRead m x 4) s = .next { s with out := [.read (s.reg a)] }) ∧
    (∀ l, locate a = some l → (∀ t, m ≠ .tenancy t) → zoneStopped l s = true →
      (∃ t, exec (.regWrite m x 4 v) s = .next t ∧ t.f Reg.sysRezoneStatus 31 20 = min 4095 (s.f Reg.sysRezoneStatus 31 20 + 1) ∧ Only [Reg.sysRezoneStatus] t) ∧
      exec (.regRead m x 4) s = .next { s with out := [.read 0] }) ∧
    (∀ t n, m = .tenancy t → n < 4 → s.mode ≠ .lockdown → ∃ u, exec (.regWrite m a n v) s = .next u ∧
      u.f (Reg.tenStatus t) 23 16 = statusCode .badField ∧ Only [Reg.tenStatus t] u)

/-- A write of SYS_CTRL (as REMAP or SYS_CTRL_LOCK) by FS or the debug port takes REMAP and LOCK, and its reserved bits read 0; while LOCK is 1 it is ignored. A write by a tenancy, a DMA engine or another fid is ignored at all times and counts in the TEN_FOREIGN_CNT of a tenancy. Nothing else changes. LOCK's reset value is 0. (R666, R679) -/
def Obligations.SysCtrl : Prop :=
  State.reset.reg Reg.sysCtrl = 0 ∧
  ∀ (s : State) (v : Word) (o : Result) (m : Master), o = exec (.remap m v) s ∨ o = exec (.sysCtrlLock m v) s →
    ((m = .fid 0 ∨ m = .debug) → s.bit Reg.sysCtrl 1 = false → ∃ t, o = .next t ∧ t = { s with out := [], regs := t.regs } ∧
      ∀ a, t.reg a = if a = Reg.sysCtrl then v &&& 3 else s.reg a) ∧
    ((m = .fid 0 ∨ m = .debug) → s.bit Reg.sysCtrl 1 = true → o = .next { s with out := [] }) ∧
    (∀ f d, m = .fid (f + 1) ∨ m = .dma d → o = .next { s with out := [] }) ∧
    (∀ k, m = .tenancy k → ∃ t, o = .next t ∧ t = { s with out := [], regs := t.regs } ∧
      ∀ a, t.reg a = if a = Reg.tenForeignCnt k then wd (min 0xFFFFFFFF ((s.reg a).toNat + 1)) else s.reg a)

/-- LOCK_BREAK releases the locked sequence, counts in FAB_LOCK_BREAK_CNT and raises LOCK_BREAK. TAP_RESET releases a sequence that the debug port holds, counts each discarded transaction and raises MASTER_RESET. A locked read of a bridge answers Unsupported Request and changes nothing of the part. A packet with an ECRC error only counts in AER. LINK_DETECT_TIMEOUT in Bring-up with no early map applied, 30 ms or more after the release of reset, settles the bifurcation as 1×16 and the links train; sooner it changes nothing. No register outside the tenancies' windows but those named changes. (R674, R676, R663, R611, R612) -/
def Obligations.FabricEvents : Prop :=
  (∀ s : State, ∃ t, exec .lockBreak s = .next t ∧ t.fab.lock = none ∧ t.reg Reg.fabLockBreakCnt = wd (min 0xFFFFFFFF ((s.reg Reg.fabLockBreakCnt).toNat + 1)) ∧
    t.bit Reg.fabEvent 0 = true ∧ Reports [Reg.fabStatus, Reg.fabLockBreakCnt, Reg.fabEvent] { s with fab := { s.fab with lock := none } } t) ∧
  (∀ (s : State) (n : Nat), ∃ t, exec (.tapReset n) s = .next t ∧ (∀ b, s.fab.lock = some (64, b) → t.fab.lock = none) ∧
    (∀ h b, s.fab.lock = some (h, b) → h ≠ 64 → t.fab.lock = s.fab.lock) ∧
    t.reg Reg.fabResetDiscardCnt = wd (min 0xFFFFFFFF ((s.reg Reg.fabResetDiscardCnt).toNat + n)) ∧ t.bit Reg.fabEvent 2 = true ∧
    Reports [Reg.fabStatus, Reg.fabResetDiscardCnt, Reg.fabEvent] { s with fab := { s.fab with lock := t.fab.lock } } t) ∧
  (∀ (s : State) (k : Nat), exec (.lockedRead k) s = .next { s with out := [.unsupported] } ∧
    exec (.ecrcError k) s = .next { s with out := [], host := { s.host with aerEcrc := s.host.aerEcrc + 1 } }) ∧
  (∀ s : State, s.mode = .bringUp → s.rig.earlyApplied = none → s.host.linksDetect = true → s.pwr.released + 30000000 ≤ s.now →
    exec .linkDetectTimeout s = .next { s with out := [.linksTrain 0], host := { s.host with linksDetect := false, bifurcation := some 0 } }) ∧
  (∀ s : State, s.now < s.pwr.released + 30000000 → exec .linkDetectTimeout s = .next { s with out := [] })

/-- A write of SQ_TAIL of an enabled queue below its size sets the tail and nothing else. A write of CQ_HEAD or EVQ_HEAD of an enabled ring that consumes entries already written removes those entries, oldest first. A value at or beyond the size, a disabled queue, or a value that would consume entries not yet written is ignored: TEN_DB_ERR_CNT counts, DOORBELL_ERROR is raised, and the tail, or the entries held, stay. (R622, R627) -/
def Obligations.Doorbells : Prop :=
  ∀ (s : State) (t q : Nat) (v : Word), t < 4 → q < 64 → s.doorbells t = true →
    let sqOk := s.bit (Reg.tenSqCfg t q) 0 = true ∧ v.toNat < s.f (Reg.tenSqCfg t q) 31 16 + 1
    let gone := fun (size tail held : Nat) => (v.toNat + size - (tail + size - held) % size) % size
    let cqHeld := (s.cq t q).entries.length
    let cqGone := gone (s.cqSize t q) (s.f (Reg.tenCqCoal t q) 31 16) cqHeld
    let cqOk := s.bit (Reg.tenCqCfg t q) 0 = true ∧ v.toNat < s.cqSize t q ∧ cqGone ≤ cqHeld
    let evHeld := (s.evq t).entries.length
    let evGone := gone (s.evqSize t) (s.f (Reg.tenEvqCoal t) 31 16) evHeld
    let evOk := s.bit (Reg.tenEvqCfg t) 0 = true ∧ v.toNat < s.evqSize t ∧ evGone ≤ evHeld
    let Refused := fun (o : Result) => ∃ u, o = .next u ∧ u.reg (Reg.tenDbErrCnt t) = wd (min 0xFFFFFFFF ((s.reg (Reg.tenDbErrCnt t)).toNat + 1)) ∧
      u.bit (Reg.tenEvent t) 3 = true ∧ u.reg (Reg.tenSqPos t q) = s.reg (Reg.tenSqPos t q) ∧ (u.cq t q).entries = (s.cq t q).entries ∧
      (s.evq t).entries <+: (u.evq t).entries ∧ Reports [] s u
    (sqOk → ∃ u, exec (.sqTail t q v) s = .next u ∧ u = { s with out := [], regs := u.regs } ∧ fld (u.reg (Reg.tenSqPos t q)) 31 16 = v.toNat ∧
      fld (u.reg (Reg.tenSqPos t q)) 15 0 = s.f (Reg.tenSqPos t q) 15 0 ∧ ∀ a, a ≠ Reg.tenSqPos t q → u.reg a = s.reg a) ∧
    (¬ sqOk → Refused (exec (.sqTail t q v) s)) ∧
    (cqOk → (s.cq t q).waiting = [] → ∃ u, exec (.cqHead t q v) s = .next u ∧ (u.cq t q).entries = (s.cq t q).entries.drop cqGone ∧
      u = { s with out := [], host := { s.host with cqs := u.host.cqs } } ∧ (∀ k c, k < 4 → c < 64 → k ≠ t ∨ c ≠ q → u.cq k c = s.cq k c)) ∧
    (¬ cqOk → Refused (exec (.cqHead t q v) s)) ∧
    (evOk → (s.evq t).waiting = [] → (s.evq t).lost = 0 → ∃ u, exec (.evqHead t v) s = .next u ∧ (u.evq t).entries = (s.evq t).entries.drop evGone ∧
      u = { s with out := [], host := { s.host with evqs := u.host.evqs } } ∧ (∀ k, k ≠ t → u.evq k = s.evq k)) ∧
    (¬ evOk → Refused (exec (.evqHead t v) s))

/-- Where the completion queue that the command's submission queue names is enabled, its tenancy is a bus master, nothing waits and the queue has room, completing a command with OK writes one entry at its tail with the command's CID, submission queue and status and the phase of the pass, moves the tail on, and signals the command's fence when SIGNAL is set. Where the queue holds SIZE − 1 entries the completion waits in the part, none is dropped, and CQ_STALL is raised. (R627, R637, R642) -/
def Obligations.CompletionPosted : Prop :=
  ∀ (s : State) (o : Origin) (t c : Nat), t = o.tenancy → t < 4 → o.sq < 64 → c = s.f (Reg.tenSqCfg t o.sq) 7 2 → s.bit (Reg.tenCqCfg t c) 0 = true →
    let u := completeOk o s
    let tail := s.f (Reg.tenCqCoal t c) 31 16
    (s.bme t = true → (s.cq t c).waiting = [] → (s.cq t c).entries.length < s.cqSize t c - 1 →
      (∃ e, (u.cq t c).entries = (s.cq t c).entries ++ [e] ∧ e.cid = o.cid ∧ e.sqId = o.sq ∧ e.status = 0 ∧ e.phase = (s.cq t c).phase) ∧
      fld (u.reg (Reg.tenCqCoal t c)) 31 16 = (if tail + 1 = s.cqSize t c then 0 else (tail + 1) % 65536) ∧
      (u.cq t c).phase = (if tail + 1 = s.cqSize t c then !(s.cq t c).phase else (s.cq t c).phase)) ∧
    (s.cqSize t c - 1 ≤ (s.cq t c).entries.length →
      (u.cq t c).entries = (s.cq t c).entries ∧ (u.cq t c).waiting.length = (s.cq t c).waiting.length + 1 ∧ u.bit (Reg.tenEvent t) 6 = true) ∧
    (∀ k n, k < 4 → n < 256 → u.fence k n = if o.signal = true ∧ o.fence < 256 ∧ k = t ∧ n = o.fence then o.fenceValue else s.fence k n) ∧
    u = { s with regs := u.regs, out := u.out, host := { s.host with cqs := u.host.cqs, evqs := u.host.evqs, fences := u.host.fences } } ∧
    ∀ a, inTen a = false → u.reg a = s.reg a

/-- NOP changes nothing but its completion. FENCE_SIGNAL sets the fence it names to its value, every other fence stays, and it completes. A write of TEN_FENCE_LO is held and changes no fence. A write of TEN_FENCE_HI sets the high half, and the low half to the held one, or keeps the present one where none is held; the held half is gone. (R642, R633) -/
def Obligations.FencesAndNop : Prop :=
  (∀ (s : State) (o : Origin), Accepted o s → exec (.nop o) s = .next (completeOk o { s with out := [] })) ∧
  (∀ (s : State) (o : Origin) (n : Nat) (v : DWord), Accepted o s → o.tenancy < 4 → n < 256 → ∃ t, exec (.fenceSignal o n v) s = .next (completeOk o t) ∧
    t = { s with out := [], host := { s.host with fences := t.host.fences } } ∧
    ∀ k j, k < 4 → j < 256 → t.fence k j = if k = o.tenancy ∧ j = n then v else s.fence k j) ∧
  (∀ (s : State) (t n : Nat) (v : Word), t < 4 → n < 256 → s.mode ≠ .lockdown →
    (∃ u, exec (.tenFenceLo (.tenancy t) t n v) s = .next u ∧ u = { s with out := [], host := { s.host with fenceHeld := u.host.fenceHeld } } ∧
      tabGet (256 * t + n) u.host.fenceHeld = some v) ∧
    (∃ u, exec (.tenFenceHi (.tenancy t) t n v) s = .next u ∧
      u = { s with out := [], host := { s.host with fenceHeld := u.host.fenceHeld, fences := u.host.fences } } ∧
      tabGet (256 * t + n) u.host.fenceHeld = none ∧
      (u.fence t n).toNat = v.toNat * 0x100000000 + ((tabGet (256 * t + n) s.host.fenceHeld).getD (wd (s.fence t n).toNat)).toNat ∧
      ∀ k j, k < 4 → j < 256 → k ≠ t ∨ j ≠ n → u.fence k j = s.fence k j))

/-- A fetch of one entry that FS may make raises FS's MAILBOX, moves the head of the queue on by one, within its size, and carries out the command that the opcode and the parameter bytes spell. A fetch that fails sets FAULT of the queue, raises QUEUE_FAULT and carries out nothing. (R37, R623, R626, R628, R631, R633) -/
def Obligations.CommandFetch : Prop :=
  ∀ (s : State) (t q : Nat) (e : FetchEntry), t < 4 → s.mayFetchFrom t q 1 = true →
    let l := e.bytes
    let o := cmdOrigin t q l (shapeOf e)
    let u := (mailbox 0 s).setF (Reg.tenSqPos t q) 15 0 ((s.f (Reg.tenSqPos t q) 15 0 + 1) % (s.f (Reg.tenSqCfg t q) 31 16 + 1))
    let o1 := exec (.commandFetch t q [e] false) s
    (o.tenancy = t ∧ o.sq = q ∧ o.cid = leAt l 2 2 ∧ o.signal = (leAt l 1 1).testBit 0 ∧ o.fence = leAt l 4 2) ∧
    (leAt l 0 1 = 0x00 → o1 = exec (.nop o) u) ∧
    (leAt l 0 1 = 0x01 → o1 = exec (.batchOpen o (leAt l 0x10 1)) u) ∧
    (leAt l 0 1 = 0x03 → o1 = exec (.fenceSignal o (leAt l 0x10 2) (BitVec.ofNat 64 (leAt l 0x18 8))) u) ∧
    (leAt l 0 1 = 0x10 → o1 = exec (.hitch o (leAt l 0x10 2) (leAt l 0x12 2)) u) ∧
    (leAt l 0 1 = 0x43 → o1 = exec (.evacuateChannel o (leAt l 0x10 2)) u) ∧
    (leAt l 0 1 = 0x48 → o1 = exec (.audioHitch o (leAt l 0x10 2) (leAt l 0x12 2) (leAt l 0x14 1)) u) ∧
    (leAt l 0 1 = 0x6C → o1 = exec (.rigRezone o (leAt l 0x10 1) (leAt l 0x14 4)) u) ∧
    (leAt l 0 1 = 0x71 → o1 = exec (.keyZero o (leAt l 0x10 2)) u) ∧
    (∃ f, exec (.commandFetch t q [e] true) s = .next f ∧ f.bit (Reg.tenSqCfg t q) 8 = true ∧ f.bit (Reg.tenEvent t) 2 = true ∧
      f.reg (Reg.tenSqPos t q) = s.reg (Reg.tenSqPos t q) ∧ Reports [] s f)

/-- Any write of TEN_LANYARD by its tenancy makes it MOORED from now on, in TEN_STATUS and in TEN_LANYARD_ALL, and out of ADRIFT raises TENANCY_MOORED. A write of TEN_LANYARD_CFG with a PERIOD of 10 to 60,000 ms and a policy, while not ADRIFT, takes them; a PERIOD out of range leaves both and LAST_RESULT reads BAD_FIELD. When PERIOD has passed since the last write of a MOORED tenancy, or TENANCY_ADRIFT names it, it is ADRIFT, TENANCY_ADRIFT is raised, the alert is set, and no register outside the tenancies' windows but TEN_LANYARD_ALL changes (said where no batch is open and no change set waits, since those end too). (R649, R650, R651, R652, R653) -/
def Obligations.Lanyard : Prop :=
  ∀ (s : State) (t : Nat), t < 4 →
    let Adrift := fun (u : State) => s.host.batches = [] → s.spl.sets = [] → u.lanyard t = 2 ∧ fld (u.reg Reg.tenLanyardAll) (2 * t + 1) (2 * t) = 2 ∧
      u.bit (Reg.tenEvent t) 0 = true ∧ u.host.alerts.testBit 0 = true ∧ u.spl = s.spl ∧ u.eng = s.eng ∧ u.store = s.store ∧ u.aud = s.aud ∧
      ∀ a, inTen a = false → a ≠ Reg.tenLanyardAll → u.reg a = s.reg a
    (∀ v, s.mode ≠ .lockdown → ∃ u, exec (.tenLanyard (.tenancy t) t v) s = .next u ∧ u.lanyard t = 1 ∧
      fld (u.reg Reg.tenLanyardAll) (2 * t + 1) (2 * t) = 1 ∧ tabGet t u.host.lanyardLast = some s.now ∧ (s.lanyard t = 2 → u.bit (Reg.tenEvent t) 1 = true) ∧
      Reports [Reg.tenLanyardAll] { s with host := { s.host with lanyardLast := u.host.lanyardLast } } u) ∧
    (∀ v, s.mode ≠ .lockdown → 10 ≤ fld v 15 0 → fld v 15 0 ≤ 60000 → fld v 17 16 ≠ 3 → s.lanyard t ≠ 2 →
      ∃ u, exec (.tenLanyardCfg (.tenancy t) t v) s = .next u ∧ u = { s with out := [], regs := u.regs } ∧ u.period t = fld v 15 0 ∧
        fld (u.reg (Reg.tenStatus t)) 3 2 = fld v 17 16 ∧ ∀ a, a ≠ Reg.tenLanyardCfg t → a ≠ Reg.tenStatus t → u.reg a = s.reg a) ∧
    (∀ v, s.mode ≠ .lockdown → fld v 15 0 < 10 ∨ 60000 < fld v 15 0 → ∃ u, exec (.tenLanyardCfg (.tenancy t) t v) s = .next u ∧
      u.reg (Reg.tenLanyardCfg t) = s.reg (Reg.tenLanyardCfg t) ∧ fld (u.reg (Reg.tenStatus t)) 23 16 = statusCode .badField ∧
      ∀ a, a ≠ Reg.tenStatus t → u.reg a = s.reg a) ∧
    (s.serving = true → s.lanyard t = 1 → s.period t ≠ 0 → tabGetD 0 t s.host.lanyardLast + 1000000 * s.period t ≤ s.now →
      ∃ u, exec (.lanyardLapse t) s = .next u ∧ Adrift u) ∧
    (s.lanyard t ≠ 1 ∨ s.now < tabGetD 0 t s.host.lanyardLast + 1000000 * s.period t → exec (.lanyardLapse t) s = .next { s with out := [] }) ∧
    (∀ o, Accepted o s → t ≠ o.tenancy → t < s.tenancies → o.tenancy = s.rigOwner →
      (s.lanyard t ≠ 2 → ∃ u, exec (.tenancyAdrift o t) s = .next (completeOk o u) ∧ Adrift u) ∧
      (s.lanyard t = 2 → exec (.tenancyAdrift o t) s = .next (completeOk o { s with out := [] })))

/-- After FUNCTION_RESET of a tenancy with no batch open and no change set waiting: its queue registers read their reset values, its completion queues and event ring are empty, its fences are 0, its DMA engines have no work, Bus Master Enable is 0, BAR2's base is 0, a MOORED lanyard is ADRIFT and another keeps its state, FUNCTION_RESET is raised; owners, grants, bindings, handles and flows stay. BUS_MASTER_ENABLE sets the bit, and with nothing waiting changes nothing else. (R654, R613) -/
def Obligations.FunctionReset : Prop :=
  ∀ (s : State) (t : Nat), t < 4 →
    (∀ n moved, s.host.batches = [] → s.spl.sets = [] → ∃ u, exec (.functionReset t n moved) s = .next u ∧
      (∀ a, (0x10030 + 0x2000 * t ≤ a ∧ a < 0x10040 + 0x2000 * t) ∨ (0x10400 + 0x2000 * t ≤ a ∧ a < 0x10C00 + 0x2000 * t) → u.reg a = regDefault a) ∧
      (∀ c, c < 64 → u.cq t c = ringEmpty) ∧ u.evq t = ringEmpty ∧ (∀ n, n < 256 → u.fence t n = 0) ∧
      (∀ d, d < 16 → tabGet d s.host.dmaOwner = some t → u.dmaQueue d = []) ∧ u.bme t = false ∧ u.reg (Reg.fstTenBar2Base t) = 0 ∧
      u.lanyard t = (if s.lanyard t = 1 then 2 else s.lanyard t) ∧ u.bit (Reg.tenEvent t) 5 = true ∧
      u.spl = s.spl ∧ u.eng = s.eng ∧ u.wire = s.wire ∧ u.aud = s.aud ∧ u.fid = s.fid) ∧
    ((∀ c, c < 64 → (s.cq t c).waiting = []) → (s.evq t).waiting = [] → (s.evq t).lost = 0 →
      ∃ u, exec (.busMasterEnable t) s = .next u ∧ u.bme t = true ∧ (∀ k, u.evq k = s.evq k) ∧
        u = { s with out := [], regs := u.regs, host := { s.host with evqs := u.host.evqs } } ∧ ∀ a, a ≠ Reg.tenStatus t → u.reg a = s.reg a)

/-- An accepted DMA_COPY is appended to the queue of the tenancy's engine with the fewest queued bytes, and nothing else changes but the self-refresh of channels it needs, which end with their residency counted. DMA_DONE of a one-line transfer from host to store, read without error, writes the bytes to the tenancy's partition at the destination, takes the transfer off its engine's queue and completes it with OK and the bytes moved. (R634, R644, R645, R646) -/
def Obligations.DmaCopyMovesBytes : Prop :=
  (∀ (s : State) (o : Origin) (r : DmaRequest) (d : Nat), Accepted o s → dmaCopyCheck o r s.begin = none → s.dmaEngine o.tenancy = some d →
    ∃ t, exec (.dmaCopy o r) s = .next t ∧
      t = { s with out := [], regs := t.regs, store := { s.store with selfRefresh := t.store.selfRefresh }, host := { s.host with dmaQueues := t.host.dmaQueues } } ∧
      (∀ a, (∀ m, tabGet m s.store.selfRefresh ≠ none → a ≠ Reg.fstChSrRes m) → t.reg a = s.reg a) ∧ (∀ p ∈ dmaRanges r, ∀ m ∈ s.rangeChannels o.tenancy p.1 p.2, tabGet m t.store.selfRefresh = none) ∧
      t.dmaQueue d = s.dmaQueue d ++ [⟨o, r⟩] ∧ (∀ e, e ≠ d → t.dmaQueue e = s.dmaQueue e) ∧ d < 16 ∧ tabGet d s.host.dmaOwner = some o.tenancy ∧
      ∀ e, e < 16 → tabGet e s.host.dmaOwner = some o.tenancy → s.dmaQueued d ≤ s.dmaQueued e) ∧
  (∀ (s : State) (d : Nat) (j : DmaJob) (l : List DmaJob) (x : DmaResult), s.dmaQueue d = j :: l → s.bme j.origin.tenancy = true → j.req.dir = 0 →
    j.req.lines = 1 → j.req.lineLen ≠ 0 → x.hostReadFailed = false → x.data.length = j.req.lineLen →
    ∃ t, exec (.dmaDone d x) s = .next (completeWith j.origin 0 0 j.req.lineLen false t) ∧ t.dmaQueue d = l ∧
      t = { s with out := [], store := { s.store with mem := t.store.mem, poison := t.store.poison, lanePoison := t.store.lanePoison }, host := { s.host with dmaQueues := t.host.dmaQueues },
                   draws := t.draws, regs := t.regs } ∧
      t.regs = s.regs ∧ (writePart j.origin.tenancy j.req.dst x.data { s with out := [] }).store = t.store)

/-- When a completion queue or the event ring of a bus master has entries not yet reported that reach its COAL_CNT, or its COAL_US has passed since the first of them, MSIX_MESSAGE sends a message of the ring's vector, or sets its pending bit while the vector is masked; with COAL_CNT 0 one entry is reported, else all are. Before that, and while Bus Master Enable is 0, no message is sent and nothing changes. (R613, R647, R648) -/
def Obligations.Messages : Prop :=
  ∀ (s : State) (t c : Nat), t < 4 → c < 64 →
    let cv := s.f (Reg.tenCqCfg t c) 15 8
    let ev := s.f (Reg.tenEvqCfg t) 15 8
    let Sent := fun (v : Nat) (u : State) =>
      (s.vectorMasked t v = false → u.out = [.message t v] ∧ u.host.msixPending = s.host.msixPending) ∧
      (s.vectorMasked t v = true → u.out = [] ∧ tabGetD false (256 * t + v) u.host.msixPending = true)
    let left := fun (n cnt : Nat) => if cnt = 0 then n - 1 else 0
    let due := fun (coal : Word) (n since : Nat) => n ≠ 0 ∧ (fld coal 7 0 ≤ n ∨ since + 1000 * fld coal 15 8 ≤ s.now)
    (s.bme t = false → exec (.msixMessage t c) s = .next { s with out := [] } ∧ exec (.msixMessage t 64) s = .next { s with out := [] }) ∧
    (¬ due (s.reg (Reg.tenCqCoal t c)) (s.cq t c).unreported (s.cq t c).since → exec (.msixMessage t c) s = .next { s with out := [] }) ∧
    (¬ due (s.reg (Reg.tenEvqCoal t)) (s.evq t).unreported (s.evq t).since → exec (.msixMessage t 64) s = .next { s with out := [] }) ∧
    (s.bme t = true → due (s.reg (Reg.tenCqCoal t c)) (s.cq t c).unreported (s.cq t c).since → ∃ u, exec (.msixMessage t c) s = .next u ∧ Sent cv u ∧
      (u.cq t c) = { s.cq t c with unreported := left (s.cq t c).unreported (s.f (Reg.tenCqCoal t c) 7 0) } ∧ u.regs = s.regs ∧
      u = { s with out := u.out, host := { s.host with cqs := u.host.cqs, msixPending := u.host.msixPending } }) ∧
    (s.bme t = true → due (s.reg (Reg.tenEvqCoal t)) (s.evq t).unreported (s.evq t).since → ∃ u, exec (.msixMessage t 64) s = .next u ∧ Sent ev u ∧
      (u.evq t) = { s.evq t with unreported := left (s.evq t).unreported (s.f (Reg.tenEvqCoal t) 7 0) } ∧ u.regs = s.regs ∧
      u = { s with out := u.out, host := { s.host with evqs := u.host.evqs, msixPending := u.host.msixPending } })

/-- BATCH_OPEN of a group 1 to 63 that no set occupies opens a set that collects the queue's commands and shows in TEN_BATCH_OPEN; one refused leaves commands to be aborted. A NOP in a batch that holds fewer than 1,024 commands is held by it and not completed. BATCH_CLOSE of a batch with destinations in running zones, none of them pending in another set and both streams of a level B-DS encoder together, arms it with its TAKE_MODE and the time of its acceptance; of a batch undone, it completes with the status that undid it. A BATCH_TIMEOUT before 1,000 ms changes nothing. (R278, R279, R281, R282, R283, R285) -/
def Obligations.Batches : Prop :=
  ∀ (s : State) (o : Origin), o.tenancy < 4 → o.sq < 32 →
    (∀ g, Accepted o s → 1 ≤ g → g ≤ 63 → s.setOfGroup o.tenancy g = none → ∃ t, exec (.batchOpen o g) s = .next (completeOk o t) ∧
      t.batchOf o = some ⟨.collecting, s.spl.nextSet, s.now, 0⟩ ∧ t.bit (Reg.tenBatchOpenLo o.tenancy) o.sq = true ∧
      (∃ c ∈ t.spl.sets, c.id = s.spl.nextSet ∧ c.kind = .batch ∧ c.owner = o.tenancy ∧ c.group = g ∧ c.phase = .collecting ∧ c.arms = [] ∧ c.ops = []) ∧
      t.eng = s.eng ∧ t.live = s.live ∧ t.store = s.store ∧ t.aud = s.aud) ∧
    (∀ b c, s.batchOf o = some b → b.phase = .collecting → s.findSet b.set = some c → b.count < 1024 → c.arms.length ≤ 256 →
      o.reserved = false → o.signal = false → s.bare = false → s.serving = true →
      ∃ t, exec (.nop o) s = .next t ∧ t.batchOf o = some { b with count := b.count + 1 } ∧
        (∃ c', t.findSet b.set = some c' ∧ c' = { c with origins := c.origins ++ [o] }) ∧ t.host.cqs = s.host.cqs ∧ t.eng = s.eng ∧ t.live = s.live) ∧
    (∀ b c mode time, s.batchOf o = some b → b.phase = .collecting → s.findSet b.set = some c → c.arms ≠ [] → mode ≤ 2 → time ≤ s.now + 86400000000000 →
      needZones c s = none → s.bdsWhole c = true → (∀ a ∈ c.arms, s.otherHolder c a.dest = none) →
      o.reserved = false → o.signal = false → s.bare = false → s.serving = true →
      ∃ t, exec (.batchClose o mode time) s = .next t ∧ t.batchOf o = none ∧ t.bit (Reg.tenBatchOpenLo o.tenancy) o.sq = false ∧
        (∃ c', t.findSet b.set = some c' ∧ c'.phase = .armed ∧ c'.mode = mode ∧ c'.time = time ∧ c'.accepted = s.now ∧
          c'.arms = c.arms.map (fun a => { a with accepted := s.now }) ∧ c'.ops = c.ops ∧ c'.origins = c.origins ++ [o]) ∧ t.eng = s.eng ∧ t.live = s.live ∧ t.host.cqs = s.host.cqs) ∧
    (∀ b st obj mode time, s.batchOf o = some b → b.phase = .undone st obj →
      ∃ t, exec (.batchClose o mode time) s = .next (completeWith o st obj 0 false t) ∧ t.batchOf o = none ∧ t.spl = s.spl) ∧
    (∀ b, s.batchOf o = some b → b.phase = .collecting → s.now < b.since + 1000000000 →
      exec (.batchTimeout o.tenancy o.sq) s = .next { s with out := [] }) ∧
    (∀ b c, s.batchOf o = some b → b.phase = .collecting → s.findSet b.set = some c → c.arms = [] → c.engines = [] → c.origins = [] → b.since + 1000000000 ≤ s.now →
      ∃ t, exec (.batchTimeout o.tenancy o.sq) s = .next t ∧ t.batchOf o = some { b with phase := .undone (statusCode .timeout) 0 } ∧
        t.bit (Reg.tenBatchOpenLo o.tenancy) o.sq = false ∧ t.findSet b.set = none ∧ t.live = s.live ∧ t.store = s.store)

/-- An accepted HOOK_LOAD writes the block to the tenancy's area of the fid, zeros after it, and LOADED reads 1; no other word of local memory changes. An accepted HOOK_SET with no run active sets SPLICE, TICK_PERIOD and the owned bits of the mask; with a run active it changes no register. HOOK_TIMEOUT, 20 µs after the start of the run, ends it with TIMEOUT and counts it; HOOK_SKIPPED, 40 µs after its cause, drops the queued SPLICE run with TIMEOUT and counts it; sooner each changes nothing. (R580, R594, R598, R602, R605, R607, R608) -/
def Obligations.HookCommands : Prop :=
  ∀ (s : State) (o : Origin) (f : Nat), o.tenancy < 4 → f < 44 →
    let t := o.tenancy
    let ctrl := Reg.fidHookCtrl (hookNo f) t
    (∀ b, Accepted o s → hookLoadCheck o f b.length (some b) s.begin = none → ∃ u, exec (.hookLoad o f b.length (some b)) s = .next (completeOk o u) ∧
      u = { s with out := [], regs := u.regs, fid := { s.fid with mem := u.fid.mem } } ∧ u.bit ctrl 16 = true ∧ (∀ a, a ≠ ctrl → u.reg a = s.reg a) ∧
      (∀ i, i < 1024 → u.fidWord f (0xC000 + 0x1000 * t + 4 * i) = if 4 * i < b.length then leAt b (4 * i) 4 else 0) ∧
      ∀ g a, a < 0x10000 → g ≠ f ∨ a < 0xC000 + 0x1000 * t ∨ 0xD000 + 0x1000 * t ≤ a → u.fidWord g a = s.fidWord g a) ∧
    (∀ splice period mask, Accepted o s → hookSetCheck o f splice period s.begin = none →
      (s.hookActive f t = false → ∃ u, exec (.hookSet o f splice period mask) s = .next (completeOk o u) ∧
        u = { s with out := [], regs := u.regs, fid := { s.fid with ticks := u.fid.ticks } } ∧ u.bit ctrl 0 = splice ∧ u.f ctrl 13 4 = period ∧
        u.reg (Reg.fidHookMask (hookNo f) t) = wd (mask.toNat &&& s.hookMaskOf f t) ∧
        ∀ a, a ≠ ctrl → a ≠ Reg.fidHookMask (hookNo f) t → u.reg a = s.reg a) ∧
      (s.hookActive f t = true → ∃ u, exec (.hookSet o f splice period mask) s = .next (completeOk o u) ∧ u.regs = s.regs ∧
        u = { s with out := [], fid := { s.fid with held := u.fid.held } })) ∧
    (∀ r, (s.fidOf f).run = some r → s.now < r.start + 20000 → exec (.hookTimeout f) s = .next { s with out := [] }) ∧
    (∀ r, (s.fidOf f).run = some r → (s.fidOf f).queue = [] → r.tenancy = t → r.start + 20000 ≤ s.now → ∃ u, exec (.hookTimeout f) s = .next u ∧ (u.fidOf f).run = none ∧
      u.f (Reg.fidHookStatus (hookNo f) t) 15 8 = statusCode .timeout ∧
      u.reg (Reg.fidHookTimeoutCnt (hookNo f) t) = wd (min 0xFFFFFFFF ((s.reg (Reg.fidHookTimeoutCnt (hookNo f) t)).toNat + 1)) ∧ u.fid.mem = s.fid.mem) ∧
    (∀ r set, (s.fidOf f).queue = [r] → r.kind = 0 → r.set = some set → r.tenancy = t → s.now < r.cause + 40000 →
      exec (.hookSkipped f set t) s = .next { s with out := [] }) ∧
    (∀ r set, (s.fidOf f).queue = [r] → r.kind = 0 → r.set = some set → r.tenancy = t → r.cause + 40000 ≤ s.now → ∃ u, exec (.hookSkipped f set t) s = .next u ∧
      (u.fidOf f).queue = [] ∧ (u.fidOf f).run = (s.fidOf f).run ∧ u.f (Reg.fidHookStatus (hookNo f) t) 15 8 = statusCode .timeout ∧
      u.reg (Reg.fidHookSkipCnt (hookNo f) t) = wd (min 0xFFFFFFFF ((s.reg (Reg.fidHookSkipCnt (hookNo f) t)).toNat + 1)) ∧ u.fid.mem = s.fid.mem)

/-- An accepted FID_UPDATE sets UPDATING and writes the code into the bank not in use, and no word outside that bank changes. With the system thread in WAIT and no hook running, FID_UPDATED swaps the bank, re-enters at ENTRY with UPDATED 1, keeps data and pending events, and FID_VER reads the image's version. FID_UPDATE_TIMEOUT, 10 ms after the start of the update, keeps bank and code and completes with TIMEOUT. An accepted FID_RESTART of a fid in FAULT makes it run at ENTRY of its present bank with UPDATED 2. (R592, R593, R580, R605) -/
def Obligations.FidCommands : Prop :=
  ∀ (s : State) (f : Nat),
    (∀ o l, Accepted o s → fidUpdateCheck o f l.length (some l) s.begin = none →
      let i := fidImageOf (byteNats (updateBody l))
      ∃ u, exec (.fidUpdate o f l.length (some l)) s = .next u ∧
        u.bit (Reg.fidStatus f) 3 = true ∧ (u.fidOf f).upd = some ⟨o, i, s.now⟩ ∧ (u.fidOf f).sys = (s.fidOf f).sys ∧
        (∀ k w, i.code[k]? = some w → u.fidWord f (0x4000 - s.bankBase f + 4 * k) = w.toNat) ∧
        (∀ g a, a < 0x10000 → g ≠ f ∨ a < 0x4000 - s.bankBase f ∨ 0x8000 - s.bankBase f ≤ a → u.fidWord g a = s.fidWord g a) ∧
        u = { s with out := [], regs := u.regs, fid := { s.fid with mem := u.fid.mem, fids := u.fid.fids } } ∧ ∀ a, a ≠ Reg.fidStatus f → u.reg a = s.reg a) ∧
    (∀ d w, (s.fidOf f).upd = some d → (s.fidOf f).wait = some w → (s.fidOf f).run = none → ∃ u, exec (.fidUpdated f) s = .next u ∧
      u.bit (Reg.fidStatus f) 2 = !(s.bit (Reg.fidStatus f) 2) ∧ u.fidState f = 1 ∧ u.reg (Reg.fidVer f) = wd d.image.version ∧
      (u.fidOf f).sys.pc = (if s.bit (Reg.fidStatus f) 2 = true then 0 else 0x4000) + d.image.entry ∧ (u.fidOf f).updated = 1 ∧ (u.fidOf f).wait = none ∧
      (u.fidOf f).upd = none ∧ (u.fidOf f).events = (s.fidOf f).events ∧ u.fid.mem = s.fid.mem ∧ u.spl = s.spl ∧ u.live = s.live) ∧
    (∀ d, (s.fidOf f).upd = some d → s.now < d.since + 10000000 → exec (.fidUpdateTimeout f) s = .next { s with out := [] }) ∧
    (∀ d, (s.fidOf f).upd = some d → d.since + 10000000 ≤ s.now → ∃ u, exec (.fidUpdateTimeout f) s = .next (complete d.origin .timeout (objFid f) u) ∧
      u.bit (Reg.fidStatus f) 3 = false ∧ u.bit (Reg.fidStatus f) 2 = s.bit (Reg.fidStatus f) 2 ∧ u.f (Reg.fidStatus f) 23 16 = statusCode .timeout ∧
      (u.fidOf f).upd = none ∧ (u.fidOf f).sys = (s.fidOf f).sys ∧ u.fid.mem = s.fid.mem ∧ ∀ a, a ≠ Reg.fidStatus f → u.reg a = s.reg a) ∧
    (∀ o, Accepted o s → fidRestartCheck o f s.begin = none → ∃ u, exec (.fidRestart o f) s = .next (completeOk o u) ∧ u.fidState f = 1 ∧
      (u.fidOf f).sys = { (s.fidOf f).sys with pc := s.bankBase f + (s.fidOf f).entry } ∧ (u.fidOf f).updated = 2 ∧ (u.fidOf f).wait = none ∧
      u.fid.mem = s.fid.mem ∧ u.spl = s.spl ∧ u.live = s.live)

/-- SIGNAL_DETECTED takes a receiver in SEEK or LOS to CDR and SIGNAL reads 1; CLOCK_LOCKED takes it from CDR to ADAPT, and gives a TRACK strand the OVERSAMPLE of the rate it locked to; ADAPT_CONVERGED shows the equaliser and takes it to SYNC, a RAW strand to UP; ADAPT_FAIL takes it back to CDR, counts and raises; PROTO_ALIGNED takes it from SYNC to UP, raises STRAND_UP, STR_UP_TIME holds the µs since it left SEEK, and it feeds the strand matrix unless its zone is STOPPED; SYNC_FAIL is raised once in a SYNC. In any other state each changes nothing. No register but those named and those of the tenancies' windows changes. (An entry to UP is said where nothing is routed and outside Bring-up.) (R96, R97, R98, R99, R113, R135, R136, R796) -/
def Obligations.ReceiverStates : Prop :=
  ∀ (s : State) (n : Nat), n < 128 →
    let st := Reg.strState n
    let Only := fun (l : List Nat) (t : State) => t = { s with out := t.out, regs := t.regs, strand := t.strand, draws := t.draws, host := t.host } ∧
      ∀ a, inTen a = false → a ∉ l → t.reg a = s.reg a
    ((s.rx n = .seek ∨ s.rx n = .los) → ∃ t, exec (.signalDetected n) s = .next t ∧ t.rx n = .cdr ∧ t.bit st 8 = true ∧
      tabGetD 0 n t.strand.leftSeek = s.now ∧ Only [st] t) ∧
    (s.rx n ≠ .seek → s.rx n ≠ .los → exec (.signalDetected n) s = .next { s with out := [] }) ∧
    (∀ kbps, s.rx n = .cdr → ∃ t, exec (.clockLocked ⟨n, kbps⟩) s = .next t ∧ t.rx n = .adapt ∧ (s.rate n = 0x3E → t.f st 14 12 = oversampleOf kbps) ∧ Only [st] t) ∧
    (∀ kbps, s.rx n ≠ .cdr → exec (.clockLocked ⟨n, kbps⟩) s = .next { s with out := [] }) ∧
    (∀ ctle dfe, s.rx n = .adapt → s.proto n ≠ 0 → ∃ t, exec (.adaptConverged n ctle dfe) s = .next t ∧ t.rx n = .sync ∧
      t.reg (Reg.strRxEqStat n) = wd (ctle % 32 + 0x100 * (dfe % 256)) ∧ Only [st, Reg.strRxEqStat n] t) ∧
    (∀ ctle dfe, s.rx n = .adapt → s.proto n = 0 → Unrouted s → s.mode ≠ .bringUp → ∃ t, exec (.adaptConverged n ctle dfe) s = .next t ∧ t.rx n = .up ∧
      t.bit (Reg.strEvent n) 2 = true ∧ t.feeds n = decide (s.zone (n / 8) ≠ 3) ∧ Only [st, Reg.strUpTime n, Reg.strEvent n, Reg.strRxEqStat n] t) ∧
    (∀ ctle dfe, s.rx n ≠ .adapt → exec (.adaptConverged n ctle dfe) s = .next { s with out := [] }) ∧
    (s.rx n = .adapt → ∃ t, exec (.adaptFail n) s = .next t ∧ t.rx n = .cdr ∧ t.bit (Reg.strEvent n) 4 = true ∧
      t.reg (Reg.strAdaptFailCnt n) = wd (min 0xFFFFFFFF ((s.reg (Reg.strAdaptFailCnt n)).toNat + 1)) ∧
      Only [st, Reg.strAdaptFailCnt n, Reg.strEvent n] t) ∧
    (∀ skew, s.rx n = .sync → Single s n → Unrouted s → s.mode ≠ .bringUp → ∃ t, exec (.protoAligned n skew) s = .next t ∧ t.rx n = .up ∧
      t.bit (Reg.strEvent n) 2 = true ∧ t.feeds n = decide (s.zone (n / 8) ≠ 3) ∧ t.reg (Reg.strUpTime n) = wd (min 0xFFFFFFFF ((s.now - tabGetD 0 n s.strand.leftSeek) / 1000)) ∧
      Only [st, Reg.strSkew n, Reg.strUpTime n, Reg.strEvent n, Reg.strRxEqStat n] t) ∧
    (∀ skew, s.rx n ≠ .sync → exec (.protoAligned n skew) s = .next { s with out := [] }) ∧
    (s.rx n = .sync → (s.proto n = 1 ∨ s.proto n = 2) →
      (tabGetD false n s.strand.syncFailed = false → ∃ t, exec (.syncFail n) s = .next t ∧ t.rx n = .sync ∧ t.bit (Reg.strEvent n) 8 = true ∧
        tabGetD false n t.strand.syncFailed = true ∧ Only [Reg.strEvent n] t) ∧
      (tabGetD false n s.strand.syncFailed = true → exec (.syncFail n) s = .next { s with out := [] }))

/-- LOS takes a receiver in UP to LOS, counts it and raises LOS, and its decoder reads unlocked; in CDR, ADAPT or SYNC it takes it back to SEEK and raises nothing; SIGNAL reads 0. PROTO_LOST takes a receiver in UP back to SYNC and raises PROTO_LOST. BRAID_SKEW raises on the leader of a braid, and no member stays UP. (Said where nothing is routed and no eye point runs.) (R97, R104, R111, R112, R152, R797) -/
def Obligations.ReceiverLosses : Prop :=
  ∀ (s : State) (n : Nat), n < 128 → Unrouted s → (∀ k, tabGetD false k s.strand.eyeBusy = false) →
    let st := Reg.strState n
    let wir := [Reg.wirFmt n, Reg.wirFmtSize n, Reg.wirFmtRate n]
    let Only := fun (l : List Nat) (t : State) => t = { s with out := t.out, regs := t.regs, strand := t.strand, wire := { s.wire with formats := t.wire.formats, mastering := t.wire.mastering, audio := t.wire.audio }, host := t.host, pwr := t.pwr, spl := t.spl, fid := t.fid } ∧
      ∀ a, inTen a = false → a ∉ l → t.reg a = s.reg a
    (s.rx n = .up → Single s n → s.proto n ≠ 3 → ∃ t, exec (.los n) s = .next t ∧ t.rx n = .los ∧ t.bit st 8 = false ∧
      t.bit (Reg.strEvent n) 0 = true ∧ t.reg (Reg.strLosCnt n) = wd (min 0xFFFFFFFF ((s.reg (Reg.strLosCnt n)).toNat + 1)) ∧ t.feeds n = false ∧
      t.reg (Reg.wirFmt n) = 0 ∧ Only (wir ++ [st, Reg.strLosCnt n, Reg.strEvent n]) t) ∧
    (s.rx n = .cdr ∨ s.rx n = .adapt ∨ s.rx n = .sync → ∃ t, exec (.los n) s = .next t ∧ t.rx n = .seek ∧ t.bit st 8 = false ∧ Only [st] t) ∧
    (s.rx n = .up → Single s n → s.proto n = 1 ∨ s.proto n = 2 → ∃ t, exec (.protoLost n) s = .next t ∧ t.rx n = .sync ∧ t.bit (Reg.strEvent n) 3 = true ∧
      t.reg (Reg.wirFmt n) = 0 ∧ Only (wir ++ [st, Reg.strEvent n]) t) ∧
    (s.rx n = .up → s.proto n = 0 → exec (.protoLost n) s = .next { s with out := [] }) ∧
    (s.proto n = 1 ∨ s.proto n = 2 → 1 < (s.members n).length → (∀ k ∈ s.members n, k < 128 ∧ s.members k = s.members n ∧ s.proto k ≠ 3) →
      ∃ t, exec (.braidSkew n) s = .next t ∧ t.bit (Reg.strEvent (s.leader n)) 5 = true ∧ (∀ k ∈ s.members n, t.rx k ≠ .up) ∧
        ∀ k, k < 128 → k ∉ s.members n → t.rx k = s.rx k)

/-- TX_PLL_LOCKED of a strand in use lets its transmitter leave DISABLED for the state its conditions give. BIGHT_CHANGE of a pair that is OPENING counts and raises BIGHT_CHANGE, and the pair is OPEN or, where its conditions no longer hold, already closing; of one that is CLOSED or OPEN it changes nothing. A write of OPEN_REQ sets it, and FORCE reads the conditions that hold. A read of STR_PRBS_ERR returns the errors since the last read, at most 0xFFFF_FFFF, and copies the count of bits compared to STR_PRBS_BITS; where the checker has not compared since, both are 0. A write of STR_EYE_CTRL with START while the receiver is UP clears DONE and starts a point; EYE_DONE ends it with DONE and its errors, at most 0x3FFF_FFFF, and raises EYE_DONE. A write of STR_PRBS_CTRL takes the pattern, and a 1 for GEN or CHECK only where it can run. (Accesses are of any master whose access passes the gates: MayWrite, MayRead.) (R94, R100, R115, R116, R118, R119, R127, R128, R129, R132, R133, R137) -/
def Obligations.TransmittersBightsMeasurements : Prop :=
  (∀ (s : State),
    (∀ n, n < 128 → s.rate n ≠ 0 → s.strand.earlyHitches = [] → ∃ t, exec (.txPllLocked n) s = .next t ∧ tabGetD false n t.strand.pllLocked = true ∧
      (let u := { s with strand := { s.strand with pllLocked := tabPut false n true s.strand.pllLocked } }
       t.tx n = txCode (txWanted n u).1 ∧ t.txMatrix n = (txWanted n u).2) ∧ t.rx n = s.rx n ∧
      ∀ a, a ≠ Reg.strState n → a ≠ Reg.strBightStatus (n / 16) → t.reg a = s.reg a) ∧
    (∀ k, k < 8 → s.f (Reg.strBightStatus k) 1 0 = 1 → ∃ t, exec (.bightChange k) s = .next t ∧
      (t.f (Reg.strBightStatus k) 1 0 = 2 ∨ t.f (Reg.strBightStatus k) 1 0 = 3) ∧
      t.reg (Reg.strBightCnt k) = wd (min 0xFFFFFFFF ((s.reg (Reg.strBightCnt k)).toNat + 1)) ∧ t.bit (Reg.strEvent (16 * k)) 7 = true ∧
      Reports [Reg.strBightStatus k, Reg.strBightCnt k, Reg.strEvent (16 * k)] s t) ∧
    (∀ k, k < 8 → s.f (Reg.strBightStatus k) 1 0 = 0 ∨ s.f (Reg.strBightStatus k) 1 0 = 2 → exec (.bightChange k) s = .next { s with out := [] }) ∧
    (∀ m k (v : Word), k < 8 → MayWrite m (Reg.strBightCtrl k) s → ∃ t, exec (.openReq m k v) s = .next t ∧ t.bit (Reg.strBightCtrl k) 0 = bitOf v 0 ∧
      t.f (Reg.strBightStatus k) 13 8 = bightForce k s ∧ t = { s with out := [], regs := t.regs } ∧
      ∀ a, a ≠ Reg.strBightCtrl k → a ≠ Reg.strBightStatus k → t.reg a = s.reg a)) ∧
  (∀ (s : State) (n : Nat), n < 128 →
    (∀ m errors bits, bits < 0x10000000000000000 → MayRead m (Reg.strPrbsErr n) s →
      let c := counted n s.now s.strand.prbsSince
      ∃ t, exec (.strPrbsErrRead m n errors bits) s = .next t ∧ t.out = [.read (wd (if c = true then min 0xFFFFFFFF errors else 0))] ∧
      t.reg (Reg.strPrbsBitsLo n) = wd (if c = true then bits % 0x100000000 else 0) ∧ t.reg (Reg.strPrbsBitsHi n) = wd (if c = true then bits / 0x100000000 else 0) ∧
      t = { s with out := t.out, regs := t.regs, strand := { s.strand with prbsSince := t.strand.prbsSince } } ∧ counted n t.now t.strand.prbsSince = false ∧ ∀ a, a ≠ Reg.strPrbsBitsLo n → a ≠ Reg.strPrbsBitsHi n → t.reg a = s.reg a) ∧
    (∀ m (v : Word), bitOf v 31 = true → s.rx n = .up → MayWrite m (Reg.strEyeCtrl n) s → ∃ t, exec (.start m n v) s = .next t ∧ t.reg (Reg.strEyeCtrl n) = v &&& 0x00F37F3F ∧
      t.reg (Reg.strEyeResult n) = 0 ∧ tabGetD false n t.strand.eyeBusy = true ∧ t.draws = s.draws ∧
      ∀ a, a ≠ Reg.strEyeCtrl n → a ≠ Reg.strEyeResult n → t.reg a = s.reg a) ∧
    (∀ errors, tabGetD false n s.strand.eyeBusy = true → ∃ t, exec (.eyeDone n errors) s = .next t ∧
      t.reg (Reg.strEyeResult n) = wd (0x80000000 + min 0x3FFFFFFF errors) ∧ t.bit (Reg.strEvent n) 6 = true ∧ tabGetD false n t.strand.eyeBusy = false ∧
      Reports [Reg.strEyeResult n, Reg.strEvent n] { s with strand := t.strand } t) ∧
    (∀ m (v : Word), MayWrite m (Reg.strPrbsCtrl n) s → ∃ t, exec (.inject m n v) s = .next t ∧ t.f (Reg.strPrbsCtrl n) 3 0 = fld v 3 0 ∧
      (s.prbsGenMay n = true → t.bit (Reg.strPrbsCtrl n) 4 = bitOf v 4) ∧ (s.prbsCheckMay n = true → t.bit (Reg.strPrbsCtrl n) 5 = bitOf v 5) ∧
      (bitOf v 4 = true → s.prbsGenMay n = false → t.bit (Reg.strPrbsCtrl n) 4 = s.bit (Reg.strPrbsCtrl n) 4) ∧
      ∀ a, a ≠ Reg.strPrbsCtrl n → a ≠ Reg.strState n → a ≠ Reg.strBightStatus (n / 16) → t.reg a = s.reg a))

/-- A write of STR_DP_SB_CTRL to a port in DISP mode takes HPD and AUX_EN, IRQ_HPD with HPD already 1 in a SINK port emits a pulse, and EDID_RELOAD in a SOURCE port with a sink connected starts a read of its EDID. A SINK answers EDID reads from its window over AUX or DDC. A SOURCE port sees connects, which start the read, disconnects, which end it, and low pulses; the end of a read fills the window with the EDID read, and after a connect training starts. TRAIN_FAIL raises its event with LINK_TRAINED 0; TRAIN_DONE sets LINK_TRAINED, the lanes in use and the rate. None changes any other register (TRAIN_DONE is said where the port is a SOURCE with all its lanes' receivers DOWN already; all of it of a zone that is not STOPPED). (R92, R93, R121, R122, R123, R137, R139) -/
def Obligations.DisplaySideband : Prop :=
  ∀ (s : State) (dp : Nat), dp < 16 → s.dpOn dp = true → s.zone (dpLead dp / 8) ≠ 3 →
    let ctrl := Reg.strDpSbCtrl dp
    let stat := Reg.strDpSbStatus dp
    let ev := Reg.strDpSbEvent dp
    let Only := fun (l : List Nat) (t : State) =>
      t = { s with out := t.out, regs := t.regs, strand := { s.strand with edidWait := t.strand.edidWait, training := t.strand.training } } ∧ ∀ a, a ∉ l → t.reg a = s.reg a
    (∀ m (v : Word) (o : Result), MayWrite m ctrl s → (o = exec (.hpd m dp v) s ∨ o = exec (.irqHpdPulse m dp v) s ∨ o = exec (.edidReload m dp v) s) →
      ∃ t, o = .next t ∧ t.bit ctrl 0 = bitOf v 0 ∧ t.bit ctrl 3 = bitOf v 3 ∧ Only [ctrl] t ∧
        (let reads := bitOf v 2 = true ∧ s.dpSource dp = true ∧ s.bit stat 0 = true
         t.out = (if bitOf v 1 = true ∧ s.bit ctrl 0 = true ∧ s.dpSource dp = false then [.hpdPulse dp] else if reads then [.edidRead dp] else []) ∧
         (reads → (tabGet dp t.strand.edidWait).isSome = true) ∧ (¬ reads → t.strand = s.strand))) ∧
    (∀ segment offset len, s.dpSource dp = false → 256 * segment + offset + len ≤ 512 →
      let o : Result := .next { s with out := [.reply ((List.range len).map (fun (k : Nat) =>
        BitVec.ofNat 8 ((s.reg (Reg.strDpEdid dp ((256 * segment + offset + k) / 4))).toNat >>> (8 * ((256 * segment + offset + k) % 4)))))] }
      (s.dpHdmi dp = false → s.bit ctrl 3 = true → exec (.auxTransaction dp (.edidRead segment offset len)) s = o) ∧
      (s.dpHdmi dp = true → exec (.ddcTransaction dp (.edidRead segment offset len)) s = o)) ∧
    (s.dpSource dp = true →
      (∃ t, exec (.hpdAssert dp) s = .next t ∧ t.bit stat 0 = true ∧ t.bit ev 0 = true ∧ t.out = [.edidRead dp] ∧ tabGet dp t.strand.edidWait = some 1 ∧ Only [stat, ev] t) ∧
      (∃ t, exec (.hpdDeassert dp) s = .next t ∧ t.bit stat 0 = false ∧ t.bit stat 1 = false ∧ t.bit ev 1 = true ∧ t.out = [] ∧ tabGet dp t.strand.edidWait = none ∧ Only [stat, ev] t) ∧
      (∃ t, exec (.irqHpd dp) s = .next t ∧ t.bit ev 2 = true ∧ Only [ev] t) ∧
      (∀ data, tabGet dp s.strand.edidWait = none → exec (.edidReady dp data) s = .next { s with out := [] }) ∧
      (∀ (data : List Word) why, data.length ≤ 128 → tabGet dp s.strand.edidWait = some why → ∃ t, exec (.edidReady dp data) s = .next t ∧ t.bit ev 3 = true ∧
        tabGet dp t.strand.edidWait = none ∧ (why = 1 → tabGet dp t.strand.training = some true) ∧ (why ≠ 1 → t.out = []) ∧
        ∀ a, a ≠ ev → t.reg a = if Reg.strDpEdid dp 0 ≤ a ∧ a < Reg.strDpEdid dp 0 + 4 * data.length ∧ a % 4 = 0
          then data.getD ((a - Reg.strDpEdid dp 0) / 4) 0 else s.reg a)) ∧
    (∃ t, exec (.trainFail dp) s = .next t ∧ t.bit stat 1 = false ∧ t.bit ev 5 = true ∧ Only [stat, ev] t) ∧
    (∀ lanes rate, 1 ≤ lanes → lanes ≤ 4 → rate < 64 → ∃ t, exec (.trainDone dp lanes rate) s = .next t ∧
      (s.dpSource dp = true → (∀ k, k < 4 → s.rx (64 + 4 * dp + k) = .down ∧ s.feeds (64 + 4 * dp + k) = false ∧ s.reg (Reg.strCfg (64 + 4 * dp + k)) = s.reg (Reg.strCfg (64 + 4 * dp))) →
        t.bit stat 1 = true ∧ t.f stat 4 2 = lanes ∧ t.f stat 13 8 = rate ∧ t.bit ev 4 = true ∧ tabGetD 4 dp t.strand.dpLanes = lanes ∧
        ∀ a, (∀ k, k < 4 → a ≠ Reg.strState (64 + 4 * dp + k)) → a ≠ stat → a ≠ ev → a ≠ Reg.strBightStatus ((64 + 4 * dp) / 16) → t.reg a = s.reg a))

/-- A STRAND_CONFIG that names the configuration in force completes at once and changes nothing. An accepted one for a single strand whose receiver is DOWN sets CHANGE_BUSY, disables the transmitter and waits; STRAND_CONFIG_DONE then gives STR_CFG, the custom rate and STR_BRAID_MAP the new configuration, clears CHANGE_BUSY, and a receiver in use seeks. (R106, R107, R108, R109, R134, R137) -/
def Obligations.StrandConfig : Prop :=
  ∀ (s : State) (o : Origin) (c : StrandEntry), Accepted o s → strandConfigCheck o c s.begin = none →
    (s.strandCfgIs c = true → exec (.strandConfig o c) s = .next (completeOk o { s with out := [] })) ∧
    (s.strandCfgIs c = false → c.width = 1 → s.rx c.leader = .down → s.feeds c.leader = false → s.rate c.leader ≠ 0 →
      ∃ t, exec (.strandConfig o c) s = .next t ∧ t.bit (Reg.strState c.leader) 7 = true ∧ t.tx c.leader = 0 ∧ t.rx c.leader = .down ∧
        tabGet c.leader t.strand.jobs = some ⟨o, c⟩ ∧ t.reg (Reg.strCfg c.leader) = s.reg (Reg.strCfg c.leader) ∧ t.spl = s.spl ∧ t.host = s.host ∧
        ∀ a, a ≠ Reg.strState c.leader → a ≠ Reg.strBightStatus (c.leader / 16) → t.reg a = s.reg a) ∧
    (∀ j : StrandJob, tabGet c.leader s.strand.jobs = some j → j.cfg = c → c.width = 1 → c.proto ≠ 3 → s.leader c.leader = c.leader → s.width c.leader = 1 → s.rx c.leader = .down →
      ∃ t u, exec (.strandConfigDone c.leader) s = .next (completeOk j.origin t) ∧ t = wakeUsed u ∧
        u.reg (Reg.strCfg c.leader) = strandCfgWord c 0 ∧ u.reg (Reg.strRateCustom c.leader) = wd (if c.rate = 0x3F then c.customKbps else 0) ∧
        u.bit (Reg.strState c.leader) 7 = false ∧ u.f (Reg.strState c.leader) 14 12 = oversample c ∧ u.f (Reg.strBraidMap (c.leader / 8)) (4 * (c.leader % 8) + 3) (4 * (c.leader % 8)) = 0 ∧
        u.rx c.leader = (if c.rate = 0 then .down else .seek) ∧ tabGet c.leader u.strand.jobs = none)

/-- FORMAT_LOCKED on an aligned decoder that was not locked, of a format that with its identification and metadata is accepted, shows the format, its size and its rate in WIR_FMT and raises FORMAT_LOCKED (said where nothing is routed; the domain of its audio and the engines follow). FORMAT_CHANGE of a locked decoder, and FORMAT_UNKNOWN of an aligned one, clear WIR_FMT and raise their event. ANC_OVERFLOW of a locked decoder counts the packets of the field beyond 255 and raises its event; of fewer it changes nothing. No other register outside the tenancies' windows changes. (Said of a zone that is not STOPPED.) (R152, R154, R155, R156, R186, R188) -/
def Obligations.DecoderFormats : Prop :=
  ∀ (s : State) (n : Nat), n < 128 → s.zone (n / 8) ≠ 3 →
    let wir := [Reg.wirFmt n, Reg.wirFmtSize n, Reg.wirFmtRate n]
    (∀ g info audio, Unrouted s → s.decoding n = true → s.bit (Reg.wirFmt n) 0 = false →
      let f := s.reported n g info
      (s.proto n = 1 → g.byId = true → f = g) ∧ (s.accepts n f = true →
      ∃ u, exec (.formatLocked n ⟨g, info, audio⟩) s = .next (raiseWir n 0 (enginesRefresh (refreshDomain (0x40 + n) u))) ∧
      u.reg (Reg.wirFmt n) = setFld (fmtWord f) 0 0 1 ∧ u.reg (Reg.wirFmtSize n) = fmtSizeWord f ∧ u.reg (Reg.wirFmtRate n) = fmtRateWord f ∧
      tabGet n u.wire.formats = some f ∧ tabGet n u.wire.audio = some audio ∧
      u = { s with out := [], regs := u.regs, wire := { s.wire with formats := u.wire.formats, mastering := u.wire.mastering, audio := u.wire.audio } } ∧
      ∀ a, a ∉ wir → u.reg a = s.reg a)) ∧
    (Unrouted s → s.bit (Reg.wirFmt n) 0 = true → ∃ t, exec (.formatChange n) s = .next t ∧ t.reg (Reg.wirFmt n) = 0 ∧ tabGet n t.wire.formats = none ∧
      t.bit (Reg.wirEvent n) 1 = true ∧ Reports (wir ++ [Reg.wirEvent n]) { s with wire := t.wire } t) ∧
    (s.bit (Reg.wirFmt n) 0 = false → exec (.formatChange n) s = .next { s with out := [] }) ∧
    (Unrouted s → s.decoding n = true → ∃ t, exec (.formatUnknown n) s = .next t ∧ t.reg (Reg.wirFmt n) = 0 ∧ t.bit (Reg.wirEvent n) 3 = true ∧
      Reports (wir ++ [Reg.wirEvent n]) { s with wire := t.wire } t) ∧
    (∀ d, s.decoding n = true → s.bit (Reg.wirFmt n) 0 = true →
      (255 < d → ∃ t, exec (.ancOverflow n d) s = .next t ∧ t.reg (Reg.wirAncOvfCnt n) = wd (min 0xFFFFFFFF ((s.reg (Reg.wirAncOvfCnt n)).toNat + (d - 255))) ∧
        t.bit (Reg.wirEvent n) 2 = true ∧ Reports [Reg.wirAncOvfCnt n, Reg.wirEvent n] s t) ∧
      (d ≤ 255 → exec (.ancOverflow n d) s = .next { s with out := [] }))

/-- On an interface that is UP without FEC and without MACsec, in a zone that is not STOPPED: a UDP packet of an enabled receive flow is passed on and only STR_PROTO_ERR counts; a frame that is not for the interface, or of no kind it knows, or that cannot be read, counts in ETH_IF_RX_DROP_CNT; an ARP request for the interface is answered where it may transmit; one that found the receive buffer full counts in ETH_IF_RX_OVF_CNT. An EAPOL or LLDP frame of at most 40 bytes goes to the owner's ring as one entry of type 3, or, where the interface does not queue them, is dropped and counted. An IGMP query is answered with one report for every path of an enabled multicast receive flow on the interface, and with nothing else. (R157, R158, R159, R160, R173, R640) -/
def Obligations.InterfaceReceives : Prop :=
  ∀ (s : State) (n : Nat), s.isInterface n = true → s.rx n = .up → s.zone (n / 8) ≠ 3 →
    (∀ f : RxFrame, s.hasFec n = false → s.bit (Reg.ethIfCtrl n) 16 = false →
      let err := wd (min 0xFFFFFFFF ((s.reg (Reg.strProtoErr n)).toNat + f.uncorrectable))
      let Only := fun (out : List Output) (l : List Nat) (t : State) => t = { s with out := out, regs := t.regs } ∧ t.reg (Reg.strProtoErr n) = err ∧
        ∀ a, a ≠ Reg.strProtoErr n → a ∉ l → t.reg a = s.reg a
      let Counts := fun (a : Nat) => ∃ t, exec (.ethFrameRx n f) s = .next t ∧ t.reg a = wd (min 0xFFFFFFFF ((s.reg a).toNat + 1)) ∧ Only [] [a] t
      (f.overflow = true → Counts (Reg.ethIfRxOvfCnt n)) ∧
      (f.overflow = false → parseEth (byteNats f.frame) = none → Counts (Reg.ethIfRxDropCnt n)) ∧
      (∀ e : EthFrame, f.overflow = false → parseEth (byteNats f.frame) = some e → e.etherType ≠ 0x888E → e.etherType ≠ 0x88CC →
        (s.frameFor n e.dst = false ∨ (e.etherType ≠ 0x0806 ∧ e.etherType ≠ 0x0800) → Counts (Reg.ethIfRxDropCnt n)) ∧
        (∀ r, s.frameFor n e.dst = true → e.etherType = 0x0806 → arpReply (s.ifMac n) (s.ifIp n) e = some r → s.mayTransmit n = true →
          ∃ t, exec (.ethFrameRx n f) s = .next t ∧ Only [Output.frame n 2 (natBytes (padFrame r))] [] t) ∧
        (∀ p : Ipv4, s.frameFor n e.dst = true → e.etherType = 0x0800 → parseIpv4 e.payload = some p → p.options = false → p.fragment = false → p.proto = 17 →
          s.flowTakes n e.tci p.src p.dst (beNumAt p.payload 2 2) = true → ∃ t, exec (.ethFrameRx n f) s = .next t ∧ Only [] [] t))) ∧
    (∀ et frame, frame.length ≤ 40 → et = 0x888E ∨ et = 0x88CC →
      (∀ r, s.bit (Reg.ethIfCtrl n) 17 = true → s.owner (objStrand n) = some r → r < 4 → s.bit (Reg.tenEvqCfg r) 0 = true → s.bme r = true →
        (s.evq r).entries.length < s.evqSize r - 1 → ∃ t e, exec (.mgmtRx n et frame) s = .next t ∧ (t.evq r).entries = (s.evq r).entries ++ [e] ∧
          e.type = 3 ∧ e.object = objIface n ∧ e.code = frame.length ∧ e.data = frame ∧ Reports [] s t) ∧
      (s.bit (Reg.ethIfCtrl n) 17 = false → ∃ t, exec (.mgmtRx n et frame) s = .next t ∧ t = { s with out := [], regs := t.regs } ∧
        ∀ a, t.reg a = if a = Reg.ethIfRxDropCnt n then wd (min 0xFFFFFFFF ((s.reg a).toNat + 1)) else s.reg a)) ∧
    (s.mayTransmit n = true → s.bit (Reg.ethIfCtrl n) 16 = false →
      let groups := s.wire.flows.flatMap (fun e => if e.2.desc.enable && !e.2.desc.send then
        (flowPaths e.2.desc).filter (fun p => isMulticast p.2.1 && decide (p.1 = n)) else [])
      ∃ t, exec (.igmpQuery n) s = .next t ∧ t = { s with out := t.out, draws := t.draws } ∧ t.out.length = groups.length ∧ ∀ x ∈ t.out, ∃ b, x = .frame n 4 b)

/-- An accepted ETH_SEND_FRAME sends the frame padded to 60 bytes and completes when FRAME_SENT says its last bit has left. An accepted MACSEC_SA_SET installs the association with its key slot, packet number, SSCI and salt, and no other changes. PTP: an Announce that selects a port's master makes it the parent; a Sync of another port changes nothing; a Delay_Resp gives the path delay, less the mean of the port's corrections; DELAY_REQ of the parent's port sends and is timestamped. (PTP is said of a zone that is not STOPPED.) (R162, R163, R179, R180, R181, R551) -/
def Obligations.InterfaceSends : Prop :=
  ∀ (s : State) (n : Nat),
    (∀ o (b : List Byte), Accepted o s → ethSendFrameCheck o n b.length (some b) s.begin = none →
      let padded := b ++ List.replicate (60 - b.length) 0
      exec (.ethSendFrame o n b.length (some b)) s = .next { s with out := [Output.frame n 0 padded], wire := { s.wire with sending := tabSet n o s.wire.sending } }) ∧
    (∀ o, tabGet n s.wire.sending = some o → exec (.frameSent n) s = .next (completeOk o { s with out := [], wire := { s.wire with sending := tabDel n s.wire.sending } })) ∧
    (∀ o receive channel an key pn ssci salt, Accepted o s → macsecSaSetCheck o n receive channel an key pn s.begin = none →
      ∃ t, exec (.macsecSaSet o n receive channel an key pn ssci salt) s = .next (completeOk o t) ∧
        (∀ j, tabGet j t.wire.sas = if j = saKey n receive channel an then some ⟨key, pn.toNat, ssci, salt, true⟩ else tabGet j s.wire.sas) ∧
        t.key = s.key ∧ t.wire.flows = s.wire.flows) ∧
    (s.clocksRun = true → s.bit (Reg.ethIfCtrl n) 0 = true → s.zone (n / 8) ≠ 3 →
      let d := s.f (Reg.ethIfCtrl n) 15 8
      (s.tim.parent = none → exec (.ptpMessageRx n (.announce d true)) s = .next { s with out := [], tim := { s.tim with parent := some n } }) ∧
      (∀ off ok two, s.tim.parent ≠ some n → exec (.ptpMessageRx n (.sync d off ok two)) s = .next { s with out := [] }) ∧
      (∀ mean x, tabGet n s.tim.delayOut = some x → s.mayTransmit n = true → ∃ t, exec (.ptpMessageRx n (.delayResp d mean)) s = .next t ∧ tabGet n t.tim.delayOut = none ∧
        tabGet n t.wire.pathDelay = some (mean - (s.rxLatency n + s.txLatency n) / 2) ∧ t.regs = s.regs) ∧
      (s.tim.parent = some n → s.mayTransmit n = true → s.bit (Reg.ethIfCtrl n) 16 = false →
        ∃ t b, exec (.delayReq n) s = .next t ∧ t.out = [Output.frame n 1 b] ∧ tabGet n t.tim.delayOut = some s.now ∧ tabGet n t.wire.ptpSeq = some ((tabGetD 0 n s.wire.ptpSeq + 1) % 0x10000) ∧
          t = { s with out := t.out, draws := t.draws, tim := { s.tim with delayOut := t.tim.delayOut }, wire := { s.wire with ptpSeq := t.wire.ptpSeq } }))

/-- A FLOW_SET with the descriptor in force completes and changes nothing; one of a flow that has none gives it the descriptor and touches no other flow. A packet of an enabled receive flow counts on its path, whose UP bit reads 1; an unsupported one, or one that is not of the flow, is dropped and counted. The release of a video frame counts missing and recovered packets, emits one line for each line of its field, and PRESENT reads 1. FLOW_LOST clears PRESENT, PATH_LOST the path's UP bit, and each sets its event bit. A send flow with packets in its pacing buffer emits the first on each of its paths, counts it on each, and numbers in sequence; with none it emits nothing. (A release is said of a frame of one packet, of a flow in no group of quadrants whose port already is present, where there are no ancillary flows; a loss of an ancillary flow, which binds no port; all of zones that are not STOPPED.) (R164, R167, R168, R169, R171, R174, R177, R190) -/
def Obligations.Flows : Prop :=
  ∀ (s : State) (key : Nat), key % 0x10000 < 512 → key / 0x10000 < 3 → s.stopped (flowZone key) = false →
    let w := flowWin key
    let Win := fun (t : State) => ∀ a, a < w ∨ w + 0x20 ≤ a → t.reg a = s.reg a
    (∀ o l, Accepted o s → flowSetCheck o (parseFlow l) none s.begin = none → key = flowKey (flowClass (parseFlow l).kind) (parseFlow l).flow →
      (∀ f, s.flowOf key = some f → f.desc = parseFlow l → exec (.flowSet o (some l)) s = .next (completeOk o { s with out := [] })) ∧
      (s.flowOf key = none → ∃ t, exec (.flowSet o (some l)) s = .next (completeOk o t) ∧ (t.flowOf key).map (fun f => f.desc) = some (parseFlow l) ∧
        ∀ k, k ≠ key → t.flowOf k = s.flowOf k)) ∧
    (∀ f, s.flowOf key = some f → f.desc.enable = true → f.desc.send = false →
      (∀ p : FlowPacket,
        let k := if p.path = 1 ∧ f.desc.paired = true then 1 else 0
        let i := if k = 0 then f.desc.ifA else f.desc.ifB
        s.stopped (i / 8) = false →
        (p.unsupported = false → pktOf f.desc k p = true → ∃ t, exec (.flowPacketRx key p) s = .next t ∧
          t.reg (w + 8 + 4 * k) = wd (min 0xFFFFFFFF ((s.reg (w + 8 + 4 * k)).toNat + 1)) ∧ t.bit w (2 + k) = true ∧ Win t ∧ t.out = [] ∧
          (∀ j, j ≠ key → t.flowOf j = s.flowOf j)) ∧
        (p.unsupported = true ∨ pktOf f.desc k p = false → ∃ t, exec (.flowPacketRx key p) s = .next t ∧ t = { s with out := [], regs := t.regs } ∧
          ∀ a, t.reg a = if a = Reg.ethIfRxDropCnt i then wd (min 0xFFFFFFFF ((s.reg a).toNat + 1)) else s.reg a)) ∧
      (∀ (x : SeenPkt) l ts fmt, f.seen = [x] → x.ts = ts → f.lastSeq = some l → releasedTs f ts = false → f.lastPacket ≠ 0 → s.releaseDue f.desc ts = true →
        let m := seqSpan f.desc
        let n := seqAhead m l x.seq
        1 ≤ n → n < m / 2 → l < m → x.seq < m → f.desc.kind = 0 → f.desc.quad = 0 → s.eiPresent f.desc.port = true → (∀ e ∈ s.wire.flows, e.2.desc.kind ≠ 4) →
        ∃ t, exec (.flowRelease (key / 0x10000) (key % 0x10000) ts fmt) s = .next t ∧ t.reg (w + 0x10) = wd (min 0xFFFFFFFF ((s.reg (w + 0x10)).toNat + (n - 1))) ∧
          t.reg (w + 0x14) = (if f.desc.paired = true then wd (min 0xFFFFFFFF ((s.reg (w + 0x14)).toNat + b2n (!x.both))) else s.reg (w + 0x14)) ∧
          t.bit w 1 = true ∧ Win t ∧ (t.flowOf key).map (fun g => (g.desc, g.released, g.lastSeq)) = some (f.desc, some ts, some x.seq) ∧
          t.out.length = flowLines f.desc ∧ (∀ y ∈ t.out, ∃ a r, y = .line (objEi f.desc.port) a r) ∧
          t = { s with out := t.out, regs := t.regs, draws := t.draws, wire := { s.wire with flows := t.wire.flows } }) ∧
      (f.desc.kind = 4 → s.bit w 1 = true → ∃ t, exec (.flowLost key) s = .next t ∧ t.bit w 1 = false ∧ t.bit (w + 4) 0 = true ∧ Win t ∧
        t = { s with out := [], regs := t.regs, wire := { s.wire with flows := t.wire.flows } })) ∧
    (∀ path, path ≤ 1 → s.bit w (2 + path) = true → ∃ t, exec (.pathLost key path) s = .next t ∧ t.bit w (2 + path) = false ∧ t.bit (w + 4) 2 = true ∧ Win t ∧
      t = { s with out := [], regs := t.regs }) ∧
    (∀ f, s.flowOf key = some f → f.desc.enable = true → f.desc.send = true →
      (f.queue = [] → exec (.flowPacketTx key) s = .next { s with out := [] }) ∧
      (∀ p rest, f.queue = p :: rest → (∀ q ∈ flowPaths f.desc, s.mayTransmit q.1 = true ∧ s.bit (Reg.ethIfCtrl q.1) 16 = false ∧ s.stopped (q.1 / 8) = false) →
        ∃ t, exec (.flowPacketTx key) s = .next t ∧ t.out.length = (flowPaths f.desc).length ∧
          (∀ (k : Nat) (q : Nat × Nat × Nat × Nat × Nat), (flowPaths f.desc)[k]? = some q → ∃ b, t.out[k]? = some (Output.frame q.1 5 b)) ∧
          t.flowOf key = some { f with queue := rest, seqOut := f.seqOut + 1, sentPackets := f.sentPackets + 1 } ∧ Win t ∧
          t.reg (w + 8) = wd (min 0xFFFFFFFF ((s.reg (w + 8)).toNat + 1)) ∧
          t.reg (w + 0xC) = (if f.desc.paired = true then wd (min 0xFFFFFFFF ((s.reg (w + 0xC)).toNat + 1)) else s.reg (w + 0xC)) ∧
          t = { s with out := t.out, regs := t.regs, draws := t.draws, wire := { s.wire with flows := t.wire.flows } }))

/-- An accepted HITCH or UNHITCH of a destination that does not run binds or releases it and completes, and the splice fid that serves it is told; for an egress port of no consumer that is SPL_SRC alone. Of one that runs, and by ARM_SPLICE, and by a write of SPL_ARM_CTRL with ARM by a master that may write it, it opens a change set of one arm with the mode, group and time asked, the destination reads ARMED, and nothing is completed or made live. (Said where no other set waits.) (R198, R199, R201, R203, R204, R241) -/
def Obligations.Hitches : Prop :=
  ∀ (s : State) (o : Origin) (d : Nat),
    let Armed := fun (t : Nat) (src : Option Nat) (mode group time : Nat) (r : Result) => ∃ u c, r = .next u ∧ c ∈ u.spl.sets ∧ c.id = s.spl.nextSet ∧
      c.owner = t ∧ c.group = group ∧ c.mode = mode ∧ c.time = time ∧ c.phase = .armed ∧ c.leader = d ∧ c.arms.map (fun a => (a.dest, a.source)) = [(d, src)] ∧
      u.destState d = 1 ∧ u.host.cqs = s.host.cqs ∧ u.live = s.live
    (∀ src, Accepted o s → hitchCheck o.tenancy d (some src) 0 0 false false 0 none (s.begin.destRuns d) s.begin = none →
      (s.begin.destRuns d = false → exec (.hitch o d src) s = .next (serve d (completeOk o (reportReturn s.begin d (bindNow d (some src) s.begin))))) ∧
      (s.begin.destRuns d = true → s.spl.sets = [] → Armed o.tenancy (some src) 0 0 0 (exec (.hitch o d src) s))) ∧
    (Accepted o s → hitchCheck o.tenancy d none 0 0 false false 0 none (s.begin.destRuns d) s.begin = none →
      (s.begin.destRuns d = false → exec (.unhitch o d) s = .next (serve d (completeOk o (reportReturn s.begin d (bindNow d none s.begin))))) ∧
      (s.begin.destRuns d = true → s.spl.sets = [] → Armed o.tenancy none 0 0 0 (exec (.unhitch o d) s))) ∧
    (∀ x, d < 1024 → s.consumer d = none → s.spl.eiBind = [] → ∃ u, bindNow d x s = wakeUsed u ∧ u.hitch d = x.map (fun n => n % 2048) ∧
      (∀ e, e < 1024 → e ≠ d → u.hitch e = s.hitch e) ∧ u = { s with regs := u.regs }) ∧
    (∀ src mode group absent noPromote unhitch time, Accepted o s → s.spl.sets = [] → (unhitch = true → src = 0) →
      hitchCheck o.tenancy d (armSource src unhitch) mode group absent noPromote time none true s.begin = none →
      Armed o.tenancy (armSource src unhitch) mode group time (exec (.armSplice o d src mode group absent noPromote unhitch time) s)) ∧
    (∀ (m : Master) (v : Word), Machine.destOk d = true → s.spl.sets = [] → s.serving = true → s.destHeld d = false → bitOf v 12 = false →
      MayWrite m (Reg.splArmCtrl (destWin d)) s →
      let w := destWin d
      let u := s.begin.setReg (Reg.splArmCtrl w) ((v ||| wd 1) &&& wd 0xFFE)
      let src := armSource (s.f (Reg.splArmSrc w) 10 0) (bitOf v 11)
      let time := (s.reg (Reg.splArmTimeLo w)).toNat + 0x100000000 * (s.reg (Reg.splArmTimeHi w)).toNat
      let t := s.actsFor m (objDest d)
      hitchCheck t d src (fld v 2 1) (fld v 8 3) (bitOf v 9) (bitOf v 10) time none true u = none →
      Armed t src (fld v 2 1) (fld v 8 3) time (exec (.arm m d v) s))

/-- A TAKE, or a write of SPL_TAKE by a master that may write it, of an ON_TAKE set that waits marks it taken and changes nothing else; a command also tells the splice fids that serve the set. A CANCEL_SPLICE, a write of SPL_ARM_CTRL with CANCEL or of SPL_CANCEL ends a set that waits: the set is gone, its destination is IDLE, LAST_RESULT reads ABORTED, and nothing is made live. (A cancel is said of a set with one arm that holds no engine, no reserve and no pending copy.) (R225, R226, R239, R242, R243, R263, R265) -/
def Obligations.Takes : Prop :=
  ∀ (s : State) (c : ChangeSet),
    let taken := { s with out := [], spl := { s.spl with sets := s.spl.sets.map (fun x => if x.id = c.id then { x with taken := true } else x) } }
    let Simple := fun (a : Arm) => c.arms = [a] ∧ a.switched = false ∧ a.reserve = none ∧ Machine.destOk a.dest = true ∧ c.engines = [] ∧ c.ops = [] ∧ c.owner < 4
    let Gone := fun (a : Arm) (u : State) => u.findSet c.id = none ∧ u.destState a.dest = 0 ∧ u.f (Reg.splSpliceStatus (destWin a.dest)) 15 8 = statusCode .aborted ∧
      u.live = s.live ∧ u.eng = s.eng ∧ u.store = s.store
    (∀ o g d, Accepted o s → targetCheck o g d s.begin = none → s.targetSet o.tenancy g d = some c →
      (takeable c = true → exec (.take o g d) s = .next (serveSet c (completeOk o taken))) ∧
      (∀ a, cancellable c = true → Simple a → ∃ u, exec (.cancelSplice o g d) s = .next (serveSet c (completeOk o u)) ∧ Gone a u)) ∧
    (∀ (m : Master) (v : Word), s.serving = true → s.setOfGroup (groupTenancy m s) (fld v 5 0) = some c →
      (takeable c = true → MayWrite m Reg.splTake s → exec (.splTake m v) s = .next taken) ∧
      (∀ a, cancellable c = true → Simple a → MayWrite m Reg.splCancel s → ∃ u, exec (.splCancel m v) s = .next u ∧ Gone a u)) ∧
    (∀ (m : Master) (v : Word) d a, Machine.destOk d = true → MayWrite m (Reg.splArmCtrl (destWin d)) s → s.serving = true → s.setOfDest d = some c → cancellable c = true → Simple a →
      ∃ u, exec (.cancel m d v) s = .next u ∧ Gone a u)

/-- In a zone that is not STOPPED: LINE_START of a running generator outside a gap puts the line and field in SCN_POS and reports that no reader slack was observed, and an encoder it paces sends on an active line the row of its source or its fill. The splice point of a generator that acquires, at its line, starts its lock step; LOCK_STEP_END at its end leaves it LOCKED and raises TG_LOCKED; GAP_END ends a re-time gap whose time is over, and a FREE generator reads FREE; sooner neither changes anything. Outside an entry to sleep, a strand's splice point shows its alignment at the pins, reduced by frame periods. HOLD_LIMIT_EXPIRY ends a hold with a limit and raises FILLED. ETH_BLOCK_RETURN gives the egress back to the strand matrix. SHADOW_RELOAD makes the shadow equal the live context. (R208, R211, R232, R255, R398, R400, R409, R411, R413, R416) -/
def Obligations.Points : Prop :=
  ∀ (s : State),
    (∀ tg line, tg < 256 → s.zone (tg / 16) ≠ 3 → s.genRuns tg = true → s.inGap tg = false → line < (genTiming s.liveReg tg).vTotal →
      (s.pacedEos tg = [] → ∃ t, exec (.lineStart tg line []) s = .next t ∧ fld (t.reg (Reg.scnPos tg)) 12 0 = line % 0x2000 ∧
        (bitOf (t.reg (Reg.scnPos tg)) 31 = decide ((genTiming s.liveReg tg).scan ≠ 0 ∧ (genTiming s.liveReg tg).f1 ≤ line)) ∧
        t.reg (Reg.scnSlackNow tg) = wd 0xFFFFFFFF ∧ (t.genSt tg).lineAt = s.now ∧ t.live = s.live ∧
        ∀ a, a ≠ Reg.scnPos tg → a ≠ Reg.scnSlackNow tg → a ≠ Reg.scnSlackMin tg → t.reg a = s.reg a) ∧
      (∀ eo lines f i, activeLine (genTiming s.liveReg tg) line = some (f, i) → s.pacedBy eo = some tg → ∃ t row, exec (.lineStart tg line [.encoder eo lines]) s = .next t ∧
        Output.line (objDest eo) line row ∈ t.out ∧
        (s.sendsHalved eo (s.sentFormat tg eo).sampling = false →
          (s.showsFill eo = true → row = List.replicate (genTiming s.liveReg tg).hA (fillFor (s.reg (Reg.splDestFill (destWin eo))) (s.sentFormat tg eo))) ∧
          (s.showsFill eo = false → s.showsHeld eo = false → row = (lineOf (s.essLines eo lines) i).getD [])))) ∧
    (∀ tg obs, tg < 256 → s.zone (tg / 16) ≠ 3 → s.genLine tg = obs.line → s.genRuns tg = true → s.lockState tg = 2 → s.inGap tg = false → ∃ t, exec (.splicePoint (.gen tg) obs) s = .next t ∧
      (t.genSt tg).stepping = some (s.now + s.stepLength tg) ∧ t.reg (Reg.scnGapLast tg) = wd (s.stepLength tg) ∧ t.bit (Reg.scnStatus tg) 4 = true ∧ t.bit (Reg.scnEvent tg) 2 = true ∧
      t.reg (Reg.scnRelockCnt tg) = wd (min 0xFFFFFFFF ((s.reg (Reg.scnRelockCnt tg)).toNat + 1)) ∧
      Reports [Reg.scnStatus tg, Reg.scnGapLast tg, Reg.scnRelockCnt tg, Reg.scnEvent tg] { s with eng := t.eng } t) ∧
    (∀ tg x, tg < 256 → s.zone (tg / 16) ≠ 3 → (s.genSt tg).stepping = some x → (s.now < x → exec (.lockStepEnd tg) s = .next { s with out := [] }) ∧
      ((s.genSt tg).fillUntilLocked = false → s.lockState tg = 2 → x ≤ s.now → ∃ t, exec (.lockStepEnd tg) s = .next t ∧
      t.lockState tg = 3 ∧ (t.genSt tg).stepping = none ∧ t.bit (Reg.scnStatus tg) 4 = false ∧ t.bit (Reg.scnEvent tg) 0 = true ∧
      Reports [Reg.scnStatus tg, Reg.scnEvent tg] { s with eng := t.eng } t)) ∧
    (∀ tg x g p, tg < 256 → s.zone (tg / 16) ≠ 3 → (s.genSt tg).gap = some (x, g, p) → (s.now < x → exec (.gapEnd tg) s = .next { s with out := [] }) ∧
      (s.lockSrc tg = 0 → x ≤ s.now → ∃ t, exec (.gapEnd tg) s = .next t ∧ (t.genSt tg).gap = none ∧
      t.reg (Reg.scnGapLast tg) = wd g ∧ t.lockState tg = 1 ∧ t.bit (Reg.scnStatus tg) 4 = false ∧
      ∀ a, a ≠ Reg.scnGapLast tg → a ≠ Reg.scnStatus tg → t.reg a = s.reg a)) ∧
    (∀ n obs e, n < 128 → s.zone (n / 8) ≠ 3 → s.atPoint (0x8000 + n) obs.line = true → s.pwr.change = none → s.strand.restores = [] → tabGet n s.spl.promos = none → obs.align = some e → (∀ k, k < 8 → s.bightDest k ≠ some (0x8000 + n)) →
      let src := ((s.setOfDest (0x8000 + n)).bind (fun c => (c.arms.find? (fun a => decide (a.dest = 0x8000 + n))).bind (fun a => a.source))).or (s.hitch (0x8000 + n))
      ∃ t, exec (.splicePoint (.dest (0x8000 + n)) obs) s = .next t ∧ t = { s with out := [], regs := t.regs } ∧
        ∀ a, t.reg a = if a = Reg.splAlign (destWin (0x8000 + n)) then wd (uxSat 32 (s.reduceAlign n src e)) else s.reg a) ∧
    (∀ eo l, eo < 1024 → s.zone (eo / 64) ≠ 3 → tabGet eo s.spl.losses = some l → l.holding = true → l.framesLeft.isSome = true → ∃ t, exec (.holdLimitExpiry (objDest eo)) s = .next t ∧
      tabGet eo t.spl.losses = some { l with holding := false, framesLeft := none } ∧ t.bit (Reg.splDestEvent (destWin eo)) 7 = true ∧
      Reports [Reg.splDestEvent (destWin eo)] { s with spl := { s.spl with losses := t.spl.losses } } t) ∧
    (∀ n x, n < 128 → s.zone (n / 8) ≠ 3 → tabGet n s.spl.blockReturns = some x → Single s n → s.proto n = 2 → ∃ t, exec (.ethBlockReturn n) s = .next t ∧
      tabGet n t.spl.blockReturns = none ∧ t.rx n = s.rx n ∧
      (let u := { s with out := [], spl := { s.spl with blockReturns := tabDel n s.spl.blockReturns } }
       t.tx n = txCode (txWanted n u).1 ∧ t.txMatrix n = (txWanted n u).2) ∧
      ∀ a, a ≠ Reg.strState n → a ≠ Reg.strBightStatus (n / 16) → t.reg a = s.reg a) ∧
    (∀ e, tabGet e s.spl.reloading = some [] → ∃ t, exec (.shadowReload e) s = .next t ∧ tabGet e t.spl.reloading = none ∧ t.live = s.live ∧
      ∀ a, t.reg a = if s.isShadowOf e a = true then s.liveReg a else s.reg a)

/-- PREROLL_ENTRY of a set that may enter makes its members PREROLL; a set whose checks were made asks again for its power, another, with no hooks, is checked. A passed decision makes every engine and every member but the leader DECIDED. SWITCH at the line of its splice point of a decided set of one arm binds the destination, reads IDLE and OK, counts and raises SPLICED, and the set is finished with its commit counted. A grant that has not come by its deadline defers the set, with BELAY_LATE, LAST_RESULT DEFERRED_POWER and its count. (Said of sets with no engines; a switch of an egress port of no consumer, with no copies.) (R198, R223, R229, R257, R258, R262, R264, R267, R276, R595, R757) -/
def Obligations.SetPhases : Prop :=
  ∀ (s : State) (c : ChangeSet), s.findSet c.id = some c → c.engines = [] → c.owner < 4 → (∀ a ∈ c.arms, Machine.destOk a.dest = true) →
    (∀ obs, s.mayEnter c obs = true → ∃ u late, u.findSet c.id = some { c with phase := .preroll, entered := true, point := obs.point, late := late } ∧ (c.mode ≠ 1 → late = c.late) ∧ (c.late = true → late = true) ∧
      (∀ a ∈ c.arms, u.destState a.dest = 2) ∧ u.live = s.live ∧ u.host.cqs = s.host.cqs ∧
      (c.checked = true → exec (.prerollEntry c.id obs) s = .next (askPower c obs.point u)) ∧
      (c.checked = false → u.spliceRuns c = [] → u.hooksOf c.id = false → exec (.prerollEntry c.id obs) s = .next (entryChecks c.id u))) ∧
    (∀ obs, c.phase = .preroll → c.checked = true → s.powerWaits c.id = false → c.mode ≠ 2 ∨ c.taken = true → s.atPoint c.leader obs.line = true → s.begin.decisionUnfit c obs = none →
      ∃ t c', exec (.decision none (some c.id) obs) s = .next t ∧ t.findSet c.id = some c' ∧ c'.phase = .decided ∧
        c'.arms.map (fun a => (a.dest, a.source)) = c.arms.map (fun a => (a.dest, a.source)) ∧ (∀ a ∈ c.arms, a.dest ≠ c.leader → t.destState a.dest = 3) ∧
        (∀ a ∈ c.arms, a.dest = c.leader → t.destState a.dest = s.destState a.dest) ∧ t.live = s.live ∧ t.host.cqs = s.host.cqs) ∧
    (∀ a obs, c.phase = .decided → c.arms = [a] → a.switched = false → a.reserve = none → a.promote = false → a.cls = .essence → a.dest < 1024 → c.leader = a.dest →
      c.ops = [] → c.held = [] → s.consumer a.dest = none → s.spl.eiBind = [] → s.atPoint a.dest obs.line = true → ∃ u, exec (.switch c.id 0 obs) s = .next (wakeUsed u) ∧
        u.hitch a.dest = a.source.map (fun n => n % 2048) ∧ u.destState a.dest = 0 ∧ u.f (Reg.splSpliceStatus (destWin a.dest)) 15 8 = 0 ∧
        u.reg (Reg.splSpliceCnt (destWin a.dest)) = wd (min 0xFFFFFFFF ((s.reg (Reg.splSpliceCnt (destWin a.dest))).toNat + 1)) ∧
        u.bit (Reg.splDestEvent (destWin a.dest)) 0 = true ∧ u.findSet c.id = none ∧
        u.reg (Reg.tenCommitCnt c.owner) = wd (min 0xFFFFFFFF ((s.reg (Reg.tenCommitCnt c.owner)).toNat + 1))) ∧
    (c.phase = .preroll → s.powerWaits c.id = true → c.deferrals < 7 → ∃ t, exec (.deferredPower c.id) s = .next t ∧
      (∃ c', t.findSet c.id = some c' ∧ c'.phase = .deferred ∧ c'.deferrals = c.deferrals + 1 ∧ c'.arms = c.arms) ∧
      (∀ a ∈ c.arms, t.destState a.dest = 4 ∧ t.f (Reg.splSpliceStatus (destWin a.dest)) 15 8 = statusCode .deferredPower) ∧
      t.bit Reg.pwrEvent 0 = true ∧ t.reg Reg.pwrBelayLateCnt = wd (min 0xFFFFFFFF ((s.reg Reg.pwrBelayLateCnt).toNat + 1)) ∧
      t.reg (Reg.tenDeferCnt c.owner) = wd (min 0xFFFFFFFF ((s.reg (Reg.tenDeferCnt c.owner)).toNat + 1)) ∧ t.live = s.live)

/-- An accepted KEY_WRITE puts the clear key, or the key unwrapped under the wrapping slot, into its slot with the attribute given; a wrapped key whose check fails completes with BAD_FIELD and changes no slot. KEY_ZERO empties the slot, or every slot, and associations that refer to it are no longer valid. KEY_DERIVE puts the first LEN bits of the derivation of R710 into the target, or writes the rig key, wrapped, to the host and changes no slot. KEY_STORE sets STORE_BUSY and asks for a KEY record of the slot; nothing is completed until it is written. ATTEST writes the digest and the response over the challenge. DIGEST_RECOMPUTE puts the SHA-384 of the digest's input into KEY_DIGEST0 to KEY_DIGEST11. LAST_RESULT reads OK; no other slot and no other register changes. (R710, R712, R715, R716, R719, R724, R725, R733) -/
def Obligations.Keys : Prop :=
  ∀ (s : State),
    let Done := fun (out : List Output) (k : Nat) (v : KeySlot) (t : State) => t.keySlot k = v ∧ (∀ j, j ≠ k → t.keySlot j = s.keySlot j) ∧
      t.f Reg.keyStatus 23 16 = 0 ∧ t.f (Reg.keySlotAttr k) 9 0 = v.attr % 1024 ∧ t.bit (Reg.keySlotAttr k) 14 = v.test ∧
      t = { s with out := out, regs := t.regs, key := { s.key with slots := t.key.slots }, wire := { s.wire with sas := t.wire.sas } } ∧
      ∀ a, a ≠ Reg.keyStatus → a ≠ Reg.keySlotAttr k → t.reg a = s.reg a
    let Quiet := fun (out : List Output) (t : State) => t.f Reg.keyStatus 23 16 = 0 ∧ t = { s with out := out, regs := t.regs } ∧ ∀ a, a ≠ Reg.keyStatus → t.reg a = s.reg a
    (∀ o slot attr d, Accepted o s → keyWriteCheck o slot attr 0xFFFF (some d) s.begin = none →
      ∃ t, exec (.keyWrite o slot attr 0xFFFF (some d)) s = .next (completeOk o t) ∧ Done [] slot ⟨takePad (lenBytes (attr / 256 % 4)) (byteNats d), attr, s.pwr.debug⟩ t) ∧
    (∀ o slot attr wrap d, Accepted o s → wrap < 256 → keyWriteCheck o slot attr wrap (some d) s.begin = none →
      let x := aesUnwrap (s.keySlot wrap).key (takePad (lenBytes (attr / 256 % 4) + 8) (byteNats d))
      (∀ k, x = some k → ∃ t, exec (.keyWrite o slot attr wrap (some d)) s = .next (completeOk o t) ∧ Done [] slot ⟨k, attr, s.pwr.debug⟩ t) ∧
      (x = none → ∃ t, exec (.keyWrite o slot attr wrap (some d)) s = .next (complete o .badField (objKey slot) t) ∧
        t.f Reg.keyStatus 23 16 = statusCode .badField ∧ t = { s with out := [], regs := t.regs } ∧ ∀ a, a ≠ Reg.keyStatus → t.reg a = s.reg a)) ∧
    (∀ o slot, Accepted o s → keyZeroCheck o slot s.begin = none →
      (slot < 256 → ∃ t, exec (.keyZero o slot) s = .next (completeOk o t) ∧ Done [] slot slotEmpty t ∧ ∀ e ∈ t.wire.sas, e.2.key = slot → e.2.valid = false) ∧
      (slot = 0xFFFF → ∃ t, exec (.keyZero o slot) s = .next (completeOk o t) ∧ (∀ k, t.keySlot k = slotEmpty) ∧ t.rst = s.rst)) ∧
    (∀ o source target attr addr d, Accepted o s → source < 256 → keyDeriveCheck o source target attr (some d) s.begin = none →
      ∃ t, exec (.keyDerive o source target attr addr (some d)) s = .next (completeOk o t) ∧
        Done [] target ⟨kdf (s.keySlot source).key (takePad 64 (byteNats d) |>.take 32) (takePad 64 (byteNats d) |>.drop 32) (8 * lenBytes (attr / 256 % 4)), attr, s.pwr.debug⟩ t) ∧
    (∀ o target attr addr data, Accepted o s → keyDeriveCheck o 0xFFFE target attr data s.begin = none →
      ∃ t, exec (.keyDerive o 0xFFFE target attr addr data) s = .next (completeOk o t) ∧
        Quiet [.hostWrite o.tenancy addr (natBytes (aesWrap (s.keySlot target).key s.key.rigKey))] t) ∧
    (∀ o slot, Accepted o s → keyStoreCheck o slot s.begin = none → ∃ t, exec (.keyStore o slot) s = .next t ∧
      (∃ w : RecWrite, t.rst.writes = s.rst.writes ++ [w] ∧ w.cls = 4 ∧ w.index = slot ∧ w.seq = tabGetD 0 4 s.rst.seqs + 1 ∧ w.why = .key slot (some o) ∧
        w.payload = keyPayload s.key.storeKey slot w.seq (s.keySlot slot) s.pwr.debug) ∧
      t.bit Reg.keyStatus 3 = true ∧ t = { s with out := [], regs := t.regs, rst := { s.rst with writes := t.rst.writes, seqs := t.rst.seqs } } ∧
      ∀ a, a ≠ Reg.keyStatus → t.reg a = s.reg a) ∧
    (∀ o slot addr c, Accepted o s → attestCheck o slot s.begin = none → s.key.digestDue = false →
      ∃ t, exec (.attest o slot addr c) s = .next (completeOk o t) ∧ Quiet [.hostWrite o.tenancy addr
        (natBytes (s.digestBytes ++ hmac256 (s.keySlot slot).key (takePad 32 (byteNats c) ++ s.digestBytes)))] t) ∧
    (∃ t, exec .digestRecompute s = .next t ∧ t = { s with out := [], regs := t.regs, key := { s.key with digestDue := false } } ∧
      (∀ j, j < 12 → t.reg (Reg.keyDigest j) = wordOfBytes (((natBytes (sha384 s.digestInput)).drop (4 * j)).take 4)) ∧
      ∀ a, (∀ j, j < 12 → a ≠ Reg.keyDigest j) → t.reg a = s.reg a)

/-- A request with a wrong PEC, or in Off or Reset, gets no answer and changes nothing. IDENTIFY and HEALTH answer status 0 with their bytes; HEALTH's power is a free value. Awake and out of Lockdown, ALERT_STATUS answers the alert bits and clears them; REC_READ answers the bytes asked of the record that its index names; ATTEST_CHALLENGE is held; ATTEST_RESPONSE answers the digest and the response over the held challenge. Asleep these four are BUSY, and MODE_REQUEST, where the tenancy plan lets the port ask, answers 0 and starts a wake with cause 4. (R655, R656, R657, R658, R706, R726, R742, R744, R747) -/
def Obligations.Management : Prop :=
  ∀ (s : State) (cls index offset length mode : Nat) (c : List Byte),
    let all (pec : Bool) : List Instr := [.identify pec, .health pec, .alertStatus pec, .mgmtModeRequest pec mode, .mgmtRecRead pec cls index offset length,
      .attestChallenge pec c, .attestResponse pec]
    (∀ i ∈ all false, exec i s = .next { s with out := [] }) ∧
    ((s.mode = .off ∨ s.mode = .reset) → ∀ i ∈ all true, exec i s = .next { s with out := [] }) ∧
    (s.mode ≠ .off → s.mode ≠ .reset →
      exec (.identify true) s = .next { s with out := [.mgmtStatus 0, .reply (leBytes 2 0x1F6B ++ leBytes 2 0x0128 ++ leBytes 1 0xB0 ++
        leBytes 8 Config.deviceSerial.toNat ++ leBytes 4 (s.reg Reg.sysRigImageVer).toNat)] } ∧
      (∃ t p, exec (.health true) s = .next t ∧ t = { s with out := t.out, draws := t.draws } ∧ t.out = [.mgmtStatus 0, .reply (leBytes 1 (modeCode s.mode) ++
        leBytes 2 (s.f Reg.pwrTemp 15 0) ++ leBytes 1 (s.f Reg.pwrStatus 1 0) ++ leBytes 2 p ++ leBytes 1 (s.f Reg.tenLanyardAll 7 0) ++
        leBytes 4 (s.reg Reg.fstStatus).toNat ++ leBytes 1 s.tbState)])) ∧
    (s.mode ≠ .off → s.mode ≠ .reset → s.asleep = false →
      exec (.alertStatus true) s = .next { s with out := [.mgmtStatus 0, .reply (leBytes 1 s.host.alerts)], host := { s.host with alerts := 0 } } ∧
      (s.mode ≠ .lockdown → exec (.attestChallenge true c) s = .next { s with out := [.mgmtStatus 0], host := { s.host with challenge := some c } }) ∧
      (∀ x : RecCopy, s.mode ≠ .lockdown → cls = 2 ∨ cls = 5 ∨ cls = 6 → 0 < length → length ≤ 240 → offset < 32 → s.mgmtRecord cls index = some x →
        exec (.mgmtRecRead true cls index offset length) s =
          .next { s with out := [.mgmtStatus 0, .reply (((s.recDescriptor cls x ++ x.payload).drop offset).take length)] }) ∧
      (∀ k d, s.mode ≠ .lockdown → s.mgmtSlot = some k → s.host.challenge = some d → s.key.digestDue = false →
        exec (.attestResponse true) s = .next { s with out := [.mgmtStatus 0, .reply (natBytes (s.digestBytes ++
          hmac256 (s.keySlot k).key (takePad 32 (byteNats d) ++ s.digestBytes)))] })) ∧
    (s.asleep = true → s.mode ≠ .off → s.mode ≠ .reset →
      (∀ i ∈ [Instr.alertStatus true, .mgmtRecRead true cls index offset length, .attestChallenge true c, .attestResponse true],
        exec i s = .next { s with out := [.mgmtStatus 1] }) ∧
      (s.host.mgmtModes = true → mode = 3 ∨ mode = 4 → s.pwr.waking = none → ∃ t, exec (.mgmtModeRequest true mode) s = .next t ∧
        t = { s with out := [.mgmtStatus 0], regs := t.regs, pwr := { s.pwr with wakeHeld := none, waking := t.pwr.waking } } ∧
        t.reg Reg.pwrWakeCause = wd 4 ∧ t.bit Reg.pwrStatus 0 = true ∧ t.pwr.waking.isSome = true ∧
        ∀ a, a ≠ Reg.pwrWakeCause → a ≠ Reg.pwrStatus → t.reg a = s.reg a))

/-- RECORD_COMMITTED places at the bank's write pointer the copy that a read of the programmed slot finds. Where it is intact, the record leaves the bank's share of its write, and corrected groups count; where it is not, BAD groups count, REC_MEDIA_ERR is raised for them and the write goes on. The first copy of a selector record puts it in force, the last completes the command; the last copy of a KEY record clears STORE_BUSY and completes KEY_STORE. SECTOR_ERASED takes the sector's copies away, where none has to be kept, and adds a sector ahead. In Maintenance, PROGRAM with its key appends the staged hash and LOCK locks the page; otherwise LAST_RESULT holds why not. REC_READ counts the groups it read and writes the descriptor and the payload asked to the host. (R685, R688, R691, R693, R695, R696, R703, R704, R705, R706, R719) -/
def Obligations.Records : Prop :=
  ∀ (s : State),
    (∀ cls bank flips done w, 1 ≤ cls → cls ≤ 6 → bank = 2 ∨ bank = 3 → s.writesTo cls bank = some w →
      let c := writeCopy cls bank w.index w.seq w.epoch w.payload (groupCount w.payload) (slotFlips flips done)
      let bad := countGroups cls w.payload c.pages .bad
      let corrected := countGroups cls w.payload c.pages .corrected
      let left := w.left.filter (fun b => decide (b ≠ bank))
      let ws := putWrite cls (if left.isEmpty = true then none else some { w with left := left, committed := true }) s.rst.writes
      (w.why = .log ∨ w.why = .repair → c.intact = true → bad = 0 → ∃ t x, exec (.recordCommitted cls bank flips done) s = .next (fidEvent 43 7 t) ∧ t.ring cls = s.ring cls ++ [x] ∧
        x = { c with slot := x.slot } ∧ t.rst.writes = ws ∧
        t.reg Reg.recCorrCnt = wd (min 0xFFFFFFFF ((s.reg Reg.recCorrCnt).toNat + corrected)) ∧
        t = { s with out := [], regs := t.regs, rst := { s.rst with rings := t.rst.rings, next := t.rst.next, ahead := t.rst.ahead, pass := t.rst.pass, writes := ws } }) ∧
      (c.intact = false → ∃ t x, exec (.recordCommitted cls bank flips done) s = .next t ∧ t.ring cls = s.ring cls ++ [x] ∧ x = { c with slot := x.slot } ∧
        t.rst.writes = s.rst.writes ∧ (bad ≠ 0 → t.bit Reg.recEvent 2 = true) ∧ t.reg Reg.recBadCnt = wd (min 0xFFFFFFFF ((s.reg Reg.recBadCnt).toNat + bad))) ∧
      (∀ o, w.why = .selector o → w.committed = false → left ≠ [] → c.intact = true → bad = 0 → ∃ t, exec (.recordCommitted cls bank flips done) s = .next (fidEvent 43 7 t) ∧
        t.rig.selector = selectorOf w.payload ∧ (s.rig.writes = [] → t.rig = { s.rig with selector := selectorOf w.payload }) ∧ t.key.digestDue = true ∧ t.rst.writes = ws ∧ t.host = s.host) ∧
      (∀ o, w.why = .selector (some o) → w.committed = true → left = [] → c.intact = true → bad = 0 → ∃ t, exec (.recordCommitted cls bank flips done) s = .next (fidEvent 43 7 (completeOk o t)) ∧
        t.rig = s.rig ∧ t.rst.writes = ws) ∧
      (∀ o k, w.why = .key k (some o) → w.committed = true → left = [] → c.intact = true → bad = 0 → ∃ t, exec (.recordCommitted cls bank flips done) s = .next (fidEvent 43 7 (completeOk o t)) ∧
        t.bit Reg.keyStatus 3 = false ∧ t.f Reg.keyStatus 23 16 = 0 ∧ t.key = s.key ∧ t.rst.writes = ws)) ∧
    (∀ cls bank, 1 ≤ cls → cls ≤ 6 → bank = 2 ∨ bank = 3 → s.recordsRun = true → s.ringAhead cls bank + 1 < (ringShape cls).2.1 →
      let old := s.sectorCopies cls bank (s.eraseSector cls bank)
      (∀ x ∈ old, s.keepCopy cls x = false) → ∃ t, exec (.sectorErased cls bank) s = .next (fidEvent 43 7 t) ∧
        t.ring cls = (s.ring cls).filter (fun x => !old.contains x) ∧ t.ringAhead cls bank = s.ringAhead cls bank + 1 ∧ t.ringNext cls bank = s.ringNext cls bank ∧
        t = { s with out := [], regs := t.regs, rst := { s.rst with rings := t.rst.rings, ahead := t.rst.ahead } }) ∧
    (∀ (m : Master) (v : Word), s.mode = .maintenance → MayWrite m Reg.recOwnerCtrl s →
      (bitOf v 0 = true → bitOf v 1 = false → s.rst.locked = false → s.rst.lockPage.length < 16 → fld v 15 8 = 0xA5 → ∃ t, exec (.program m v) s = .next t ∧
        t.rst = { s.rst with lockPage := s.rst.lockPage ++ [some s.stagedHash] } ∧ t.f Reg.recStatus 23 16 = 0 ∧ t.bit Reg.recEvent 3 = true ∧ t.key.digestDue = true ∧
        t.spl = s.spl ∧ t.wire = s.wire ∧ t.rig = s.rig) ∧
      (bitOf v 0 = true → bitOf v 1 = false → s.rst.locked = true → ∃ t, exec (.program m v) s = .next t ∧ t = { s with out := [], regs := t.regs } ∧
        t.f Reg.recStatus 23 16 = statusCode .stateConflict ∧ ∀ a, a ≠ Reg.recStatus → t.reg a = s.reg a) ∧
      (bitOf v 0 = false → bitOf v 1 = true → fld v 15 8 = 0xA5 → s.ownerHash.isSome = true → ∃ t, exec (.lock m v) s = .next t ∧
        t = { s with out := [], regs := t.regs, rst := { s.rst with locked := true }, key := { s.key with digestDue := true } } ∧
        t.f Reg.recStatus 23 16 = 0 ∧ t.bit Reg.recStatus 9 = true)) ∧
    (∀ o cls index length seq addr x, Accepted o s → recReadCheck o cls index length seq s.begin = none →
      (∀ a ∈ s.ring cls, a.suspect = true ∨ ∀ b ∈ s.ring cls, twins a b = false) → s.selectRec cls index seq = some x →
      exec (.recRead o cls index length seq addr) s =
        .next (completeOk o ((countRead (List.range (ceilDiv (24 + x.payload.length) 8) ++ [commitIndex cls]) x (mailbox 43 s.begin)).emit
          (.hostWrite o.tenancy addr (s.recDescriptor cls x ++ x.payload.take length)))))

/-- An accepted RIG_WRITE_SLOT asks for a selector record with the slot's VALID clear; once that is in force and the sectors are erased, its end programs them and completes the command, with FETCH_FAULT where the host read failed. An accepted RIG_VERIFY_SLOT runs the load checks; at their end SYS_RIG_LOAD_STATUS shows the result, a failure completes the command with its status, and success asks for a selector record with VALID set. RIG_SELECT_SLOT asks for a selector with ACTIVE, or the trial, set; RIG_CONFIRM clears TRIAL and asks for one whose ACTIVE is the running slot and whose floor is at least the image's SEC_VERSION. Each completes with its record. (R59, R61, R62, R66, R67, R68, R69, R80, R82, R725) -/
def Obligations.RigSlots : Prop :=
  ∀ (s : State) (k : Slot),
    let Asked := fun (x : Selector) (why : RecWhy) (t : State) => ∃ w : RecWrite, t.rst.writes = s.rst.writes ++ [w] ∧ w.cls = 2 ∧ w.payload = selectorBytes x ∧ w.why = why ∧
      w.seq = tabGetD 0 2 s.rst.seqs + 1
    let Only := fun (b : State) (l : List Nat) (t : State) => t = { b with regs := t.regs, rst := { s.rst with writes := t.rst.writes, seqs := t.rst.seqs }, rig := t.rig, key := t.key } ∧
      ∀ a, a ∉ l → t.reg a = b.reg a
    let told := mailbox 43 s.begin
    let shown := [Reg.sysRigSecFloor, Reg.sysRigSlotAVer, Reg.sysRigSlotBVer]
    (∀ o offset length data plans, Accepted o s → rigWriteSlotCheck o (slotCode (some k)) offset length s.begin = none →
      ∃ t, exec (.rigWriteSlot o (slotCode (some k)) offset length ⟨data, plans⟩) s = .next t ∧ Asked (s.selectorDue.setValid k false) (.selector none) t ∧
        t.rig = { s.rig with writes := s.rig.writes ++ [⟨k, o, offset, length, data, plans, false⟩] } ∧ Only told [] t) ∧
    (∀ j : SlotJob, s.rig.writes.find? (fun x => decide (some x.slot = some k) && x.erased) = some j →
      (∀ d, j.data = some d → ∃ t, exec (.rigWriteSlotDone (slotCode (some k))) s = .next (completeOk j.origin t) ∧ t.image k = some (programmed j d (s.image k)) ∧
        (∀ x, x ≠ k → t.image x = s.image x) ∧ t.rig.writes = s.rig.writes.filter (fun x => decide (x.slot ≠ k)) ∧ Only s.begin shown t) ∧
      (j.data = none → ∃ t, exec (.rigWriteSlotDone (slotCode (some k))) s = .next (complete j.origin .fetchFault 0 t) ∧
        t.rig.writes = s.rig.writes.filter (fun x => decide (x.slot ≠ k)) ∧ t.image k = s.image k ∧ Only s.begin [] t)) ∧
    (∀ o, Accepted o s → rigVerifySlotCheck o (slotCode (some k)) s.begin = none →
      exec (.rigVerifySlot o (slotCode (some k))) s = .next (mailbox 43 { s with out := [], rig := { s.rig with verifies := s.rig.verifies ++ [(k, o)] } })) ∧
    (∀ j : Slot × Origin, s.rig.verifies.find? (fun x => decide (some x.1 = some k)) = some j →
      (∀ r x, s.loadCheck (s.image k) = some (r, x) → ∃ t, exec (.rigVerifySlotDone (slotCode (some k))) s = .next (complete j.2 (loadStatusOf r) 0 t) ∧
        t.reg Reg.sysRigLoadStatus = wd (r + 0x100 * slotCode (some k) + 0x10000 * x) ∧ t.rst = s.rst ∧ Only s.begin [Reg.sysRigLoadStatus] t) ∧
      (s.loadCheck (s.image k) = none → ∃ t, exec (.rigVerifySlotDone (slotCode (some k))) s = .next t ∧ Asked (s.selectorDue.setValid k true) (.selector (some j.2)) t ∧
        fld (t.reg Reg.sysRigLoadStatus) 7 0 = 0 ∧ Only s.begin [Reg.sysRigLoadStatus] t)) ∧
    (∀ o trial, Accepted o s → rigSelectSlotCheck o (slotCode (some k)) s.begin = none → ∃ t, exec (.rigSelectSlot o (slotCode (some k)) trial) s = .next t ∧
      Asked (if trial = true then { s.selectorDue with trialSlot := k, trialPending := true } else { s.selectorDue with active := some k }) (.selector (some o)) t ∧ t.rig = s.rig ∧ Only told [] t) ∧
    (∀ o i, Accepted o s → rigConfirmCheck o s.begin = none → s.rig.running = some i → ∃ t, exec (.rigConfirm o) s = .next t ∧
      Asked { s.selectorDue with active := s.rig.runningSlot, floor := max s.selectorDue.floor (secVersion i) } (.selector (some o)) t ∧
      t.bit Reg.sysRigStatus 2 = false ∧ t.key.digestDue = true ∧ t.rig = s.rig ∧ Only told [Reg.sysRigStatus] t)

/-- An accepted RIG_REZONE marks its zones VERIFYING and no other, sets REZONE_BUSY, and is not completed. ZONE_VERIFIED of a pass without failure, its signature among the checks, marks the zones verified and shows the result; of a failed one it shows the failure, returns VERIFYING zones to RUNNING, and with no zone re-rigged yet completes the command with the check's status. ZONE_STAGED of a sound pass makes the next zone DRAINING. ZONE_STOPPED makes it STOPPED. ZONE_RUNNING gives it the new plan, waits while a domain of it wakes, and then has it run and adds it to those done; after the last one the selector's record with the new ACTIVE is asked for. (ZONE_STAGED and ZONE_STOPPED are said where nothing is routed.) (R70, R71, R73, R75, R77, R78, R79, R80, R83) -/
def Obligations.LiveRerig : Prop :=
  ∀ (s : State),
    (∀ o k mask, Accepted o s → rigRezoneCheck o (slotCode (some k)) mask s.begin = none → ∃ t, exec (.rigRezone o (slotCode (some k)) mask) s = .next t ∧
      t.rig.rezone = some ⟨k, mask, [], false, none, o, [], false, [], 0⟩ ∧ (∀ z, z < 16 → t.zone z = if mask.testBit z = true then 1 else s.zone z) ∧ t.bit Reg.sysRigStatus 6 = true ∧
      fld (t.reg Reg.sysRezoneStatus) 15 0 = mask ∧ t = { s with out := [], regs := t.regs, rig := { s.rig with rezone := t.rig.rezone } } ∧
      ∀ a, a ∉ [Reg.sysRigStatus, Reg.sysRezoneStatus, Reg.sysZoneState] → t.reg a = s.reg a) ∧
    (∀ (r : Rezone) (i : RigImage) (read : List (Nat × List Byte)), s.rig.rezone = some r → s.serving = true → r.failed = none → s.image r.slot = some i →
      (r.verified = false → s.rezoneSigned i = none → s.bodyCheck i read ((maskZones r.mask).flatMap zoneSections) = none →
        ∃ t, exec (.zoneVerified read) s = .next t ∧ t = { s with out := [], regs := t.regs, rig := { s.rig with rezone := some { r with verified := true } } } ∧
          ∀ a, t.reg a = if a = Reg.sysRigLoadStatus then wd (0x100 * slotCode (some r.slot) + 0xFF0000) else s.reg a) ∧
      (∀ e x, r.verified = false → r.done = [] → firstFail [s.rezoneSigned i, s.bodyCheck i read ((maskZones r.mask).flatMap zoneSections)] = some (e, x) →
        ∃ t, exec (.zoneVerified read) s = .next (complete r.origin (loadStatusOf e) 0 t) ∧ t.rig.rezone = none ∧ t.bit Reg.sysRigStatus 6 = false ∧
          fld (t.reg Reg.sysRigLoadStatus) 7 0 = e % 256 ∧ (∀ z, z < 16 → r.mask.testBit z = true → s.zone z = 1 → t.zone z = 0) ∧
          (∀ z, z < 16 → r.mask.testBit z = false → t.zone z = s.zone z) ∧ t.bit Reg.sysRigEvent 3 = true) ∧
      (∀ k, r.verified = true → s.zoneAtWork r = none → nextZone r = some k → k < 16 → s.bodyCheck i read (zoneSections k) = none → Unrouted s →
        ∃ t, exec (.zoneStaged read) s = .next t ∧ t.zone k = 2 ∧ (∀ z, z < 16 → z ≠ k → t.zone z = s.zone z) ∧ t.f Reg.sysRezoneStatus 19 16 = k ∧
          t.rig = { s.rig with rezone := some { r with staged := (zoneSections k).map (fun (x : Nat) => (x, s.plainSection i read x)) } } ∧ t.host = s.host) ∧
      (∀ k, k < 16 → s.zoneAtWork r = some k → s.zone k = 2 → Unrouted s → s.wire.flows = [] → s.store.recInUse = [] →
        (∀ p, p < 256 → s.bit (Reg.fstPlyStatus p) 0 = false) → ∃ t, exec .zoneStopped s = .next t ∧ t.zone k = 3 ∧ (∀ z, z < 16 → z ≠ k → t.zone z = s.zone z) ∧
          t.rig = { s.rig with rezone := some { r with stoppedAt := s.now } }) ∧
      (∀ k cur a b, s.zoneAtWork r = some k → s.zone k = 3 → s.rig.running = some cur → zonePlan cur k = some a → zonePlan i k = some b →
        let staged := fun (f : Nat) => fidImageOf (((r.staged.find? (fun e => decide (e.1 = 20 + f))).map Prod.snd).getD [])
        let r1 := { r with done := r.done ++ [k], staged := [], applied := false, drops := [] }
        let us := min 0xFFFF ((s.now - r.stoppedAt) / 1000)
        (r.applied = false → ∀ w, w = setRezone (some { r with applied := true, drops := droppedHitches k a b s.begin }) (rezoneApply k a b staged s.begin) →
          w.zoneWakes k = true → exec .zoneRunning s = .next w) ∧
        (r.applied = true → s.zoneWakes k = true → exec .zoneRunning s = .next { s with out := [] }) ∧
        (r.applied = true → s.zoneWakes k = false → ∃ u, u = { s with out := [], regs := u.regs } ∧ u.f Reg.sysZoneStopMax 15 0 = max (s.f Reg.sysZoneStopMax 15 0) us ∧
          (∀ x, x ≠ Reg.sysZoneStopMax → u.reg x = s.reg x) ∧
          (∀ z, nextZone r1 = some z → exec .zoneRunning s = .next (setCurrent z (setRezone (some r1) (rezoneRuns k b r.drops u)))) ∧
          (nextZone r1 = none → ∃ t, exec .zoneRunning s = .next t ∧ t.rig.running = some i ∧ t.rig.runningSlot = some r.slot ∧ t.reg Reg.sysRigImageVer = wd (imageVersion i) ∧
            t.key.digestDue = true ∧ ∃ w, t.rst.writes.getLast? = some w ∧ w.cls = 2 ∧ w.why = .rezone r.origin ∧ (selectorOf w.payload).active = some r.slot))))

/-- POWER_ON, PIN, SUPPLY and THERMAL enter Reset: SYS_RESET_CAUSE holds the bit of the cause alone, PREV the mode before, the counter restarts at 0, and every register but these, and after all but POWER_ON the tamper status, is at its reset value. The images in the slots, the record rings and the lock page stay; the lane map, the tamper latch, the coarse counter and the debug request outlast all but POWER_ON, and the request is then consumed. In Off the last three change nothing. VDD_AON_LOST leads to Off. DBG_REQ changes nothing but the request held for the next reset. (What is kept is said where no record is being written and no alarm is latched, which the hold-up and the reset would bring to an end first. The queue of commands is the model's own, log entry 1.) (R18, R548, R682, R722, R738, R740, R741) -/
def Obligations.Resets : Prop :=
  ∀ (s : State),
    let Quiet := s.rst.writes = [] ∧ s.pwr.tamper = false
    let Fresh := fun (t : State) => t.rig.running = none ∧ t.rig.writes = [] ∧ t.key.slots = [] ∧ t.key.rigKey = [] ∧ t.key.storeKey = [] ∧ t.now = 0 ∧
      t.spl = State.reset.spl ∧ t.host = State.reset.host ∧ t.wire = State.reset.wire ∧ t.strand = State.reset.strand ∧ t.eng = State.reset.eng ∧ t.aud = State.reset.aud ∧
      t.tim = State.reset.tim ∧ t.fid = State.reset.fid ∧ t.fab = State.reset.fab ∧ t.live = []
    let Kept := fun (t : State) => t.rst = { s.rst with seqs := [] } ∧ t.rig.slotA = s.rig.slotA ∧ t.rig.slotB = s.rig.slotB ∧ t.key.rooted = s.key.rooted ∧ t.pending = s.pending
    let Entered := fun (n : Nat) (aon : Bool) (t : State) => t.mode = .reset ∧ t.reg Reg.sysResetCause = wd (2 ^ n) ∧ Fresh t ∧ t.pwr.debugReq = false ∧ t.pwr.thermal = decide (n = 3) ∧
      (Quiet → Kept t ∧ t.f Reg.sysMode 6 4 = modeCode s.mode ∧ t.pwr.debug = (aon && s.pwr.debugReq) ∧ t.pwr.coarse = (if aon = true then s.pwr.coarse else 0) ∧
        t.store.lanes = (if aon = true then s.store.lanes else []) ∧ t.reg Reg.keyTamperStatus = (if aon = true then s.reg Reg.keyTamperStatus else 0)) ∧
      ∀ a, a ≠ Reg.sysMode → a ≠ Reg.sysResetCause → a ≠ Reg.keyTamperStatus → t.reg a = State.reset.reg a
    (∃ t, exec .powerOn s = .next t ∧ Entered 0 false t) ∧
    (s.mode ≠ .off → (∃ t, exec .pin s = .next t ∧ Entered 1 true t) ∧ (∃ t, exec .supply s = .next t ∧ Entered 2 true t) ∧
      (∃ t, exec .thermal s = .next t ∧ Entered 3 true t) ∧
      (∃ t, exec .vddAonLost s = .next t ∧ t.mode = .off ∧ Fresh t ∧ (Quiet → Kept t) ∧ ∀ a, a ≠ Reg.sysMode → a ≠ Reg.pwrStatus → t.reg a = State.reset.reg a) ∧
      exec .dbgReq s = .next { s with out := [], pwr := { s.pwr with debugReq := true } }) ∧
    (s.mode = .off → ∀ i ∈ [Instr.pin, .supply, .thermal, .vddAonLost, .dbgReq], exec i s = .next { s with out := [] })

/-- RESET_RELEASE acts, in Reset or in the state that a reset leaves, only where every condition of the release holds. Where no boot copy verifies the part stays in Reset and MGMT_ALERT_N goes low. Else Bring-up starts: the boot copy is recorded, the epoch is above every intact record's, KEY_STATUS shows the root, and with no alarm, no latch and a sound root the keys are derived, a slot is chosen and its early map applied, and the keys are loaded. SECTIONS_CHECKED judges the slot being loaded and then those that follow it, and loads an image that passes every check; it is then the running one. IN_SERVICE, once bare service is due, leads to Maintenance, with SYS_T_FULL and FULL_SERVICE. An AVS request of at most 10 mV, when one may be sent, is sent; one not acknowledged is followed by 0.800 V. (R60, R62, R63, R65, R682, R697, R708, R739, R741, R760, R762, R777) -/
def Obligations.BringUp : Prop :=
  (∀ (s : State) (obs : ReleaseObs), s.mode = .reset ∨ s.mode = .bringUp ∧ s.pwr.booted = false →
    (s.mayRelease obs = false → exec (.resetRelease obs) s = .next { s with out := [] }) ∧
    (s.mayRelease obs = true → obs.bootCopy = none → ∃ t, exec (.resetRelease obs) s = .next t ∧ t.mode = .reset ∧ t.mgmtAlertN = false ∧
      t = { s with out := [], regs := t.regs, pwr := { s.pwr with bootFail := true } }) ∧
    (∀ c, s.mayRelease obs = true → obs.bootCopy = some c → exec (.resetRelease obs) s = .next (bringUp (min c 1) obs s.begin)) ∧
    (∀ c, s.mayRelease obs = true → obs.bootCopy = some c → obs.alarms = 0 → s.pwr.tamper = false → obs.rootOk = true → s.key.rootFail = false →
      ∃ u, exec (.resetRelease obs) s = .next (loadKeys (bootSelect (deriveKeys u))) ∧ u.mode = .bringUp ∧ u.pwr.booted = true ∧ u.pwr.released = s.now ∧
        u.key.bootCopy = min c 1 ∧ u.key.rooted = true ∧ u.bit Reg.keyStatus 0 = true ∧ u.bit Reg.keyStatus 4 = false ∧ u.bit Reg.keyStatus 1 = s.pwr.debug ∧
        (∀ cls x, 1 ≤ cls → cls ≤ 6 → x ∈ s.ring cls → x.intact = true → x.epoch < 0xFFFFFFFF → (∀ d y, 1 ≤ d → d ≤ 6 → y ∈ s.ring d → y.epoch < 0xFFFFFFFF) → x.epoch < u.epoch) ∧
        u.rig.slotA = s.rig.slotA ∧ u.rig.slotB = s.rig.slotB)) ∧
  (∀ (s : State) (k : Slot) (i : RigImage), s.rig.loading = some k →
    (s.mode ≠ .bringUp → exec .sectionsChecked s = .next { s with out := [] }) ∧
    (s.mode = .bringUp → exec .sectionsChecked s =
      .next (bootWhole ((k, if s.rig.loadingTrial then .trial else if s.rig.fellBack then .other else .active) :: s.afterLoading) s.begin)) ∧
    (s.mode = .bringUp → s.image k = some i → s.loadCheck (some i) = none → s.rig.fellBack = false →
      ∃ t, exec .sectionsChecked s = .next t ∧ t.rig.running = some i ∧ t.rig.runningSlot = some k ∧ t.rig.loading = none ∧ t.rig.selector = s.rig.selector ∧
        t.key.digestDue = true)) ∧
  (∀ s : State, s.mode = .bringUp → s.pwr.booted = true → s.rig.loading = none → s.bare = true → s.store.plan = none →
    ∃ u, exec .inService s = .next (wakeUsed (enginesRefresh (lanesRefresh (releaseAll u)))) ∧ u.mode = .maintenance ∧
      u.reg Reg.sysTFull = wd (min 0xFFFFFFFF ((s.now - s.pwr.released) / 1000)) ∧ u.bit Reg.sysEvent 0 = true ∧ u.bit Reg.sysEvent 2 = true ∧
      Reports [Reg.sysMode, Reg.sysTFull, Reg.sysEvent] s u) ∧
  (∀ (s : State) (mv : Nat) (ack : Bool), s.avsMay = true →
    (s.pwr.avsWaiting = none → s.avsSince 100000 = true → 720 ≤ mv → mv ≤ 800 → mv ≤ s.pwr.avsTarget + 10 → s.pwr.avsTarget ≤ mv + 10 →
      exec (.avsRequest mv ack) s = .next { s with out := [.avs mv], pwr := { s.pwr with avsTarget := mv, avsWaiting := if ack then none else some mv, avsSent := some s.now } }) ∧
    (∀ w, s.pwr.avsWaiting = some w → s.avsSince 1000000 = true →
      exec (.avsRetry ack) s = .next { s with out := [.avs 800], pwr := { s.pwr with avsTarget := 800, avsWaiting := if ack then none else some 800, avsSent := some s.now } }))

/-- An accepted MODE_REQUEST for the present mode changes nothing; between Service and Maintenance it sets MODE and PREV, raises MODE_CHANGE and completes; for Doze or Deep sleep it begins the entry. OUTPUTS_STOPPED, once the bights are closed and the writes in progress are done, then enters the sleep mode with every domain off. HOST_WAKE and TIME_WAKE start a wake with their cause; during the entry they are held. WAKE resumes the mode slept from, or with the tamper latch set goes to Lockdown. TAMPER_ALARM asleep latches FIRST and SOURCES and empties every slot; with the latch set it only adds its source; in Service it leads to Lockdown. A grant switches its domain within the step limit; IDLE_HOLD_EXPIRY asks for a shutdown. (R716, R728, R730, R740, R743, R744, R745, R747, R748, R754, R755, R756) -/
def Obligations.ModeChanges : Prop :=
  ∀ (s : State),
    (∀ o mode time, Accepted o s → modeRequestCheck o mode time s.begin = none →
      (mode = modeCode s.mode → exec (.modeRequest o mode time) s = .next (completeOk o { s with out := [] })) ∧
      (mode ≠ modeCode s.mode → mode = 3 ∨ mode = 4 → ∃ t, exec (.modeRequest o mode time) s = .next (completeOk o t) ∧ t.mode = modeOf mode ∧
        t.f Reg.sysMode 6 4 = modeCode s.mode ∧ t.f Reg.sysMode 23 16 = 0 ∧ t.bit Reg.sysEvent 0 = true ∧ Reports [Reg.sysMode, Reg.sysEvent] s t) ∧
      (mode = 5 ∨ mode = 6 → time = 0 → s.spl.sets = [] → s.host.batches = [] → s.tim.runs = [] → s.store.copy = none →
        ∃ u, exec (.modeRequest o mode time) s = .next (lanesRefresh (refreshCal u)) ∧ u.pwr.change = some ⟨mode, some o, s.now⟩ ∧ u.bit Reg.sysMode 8 = true ∧ u.mode = s.mode ∧
          u = { s with out := [], regs := u.regs, pwr := u.pwr, tim := u.tim, host := u.host } ∧ u.host.cqs = s.host.cqs)) ∧
    (∀ c : ModeChange, s.pwr.change = some c → (∀ w ∈ s.rst.writes, (w.cls, w.seq) ∉ s.pwr.draining) → s.bightsClosed = true → c.target = 5 ∨ c.target = 6 → s.pwr.wakeHeld = none → Unrouted s →
      (∀ n, n < 128 → s.rx n = .down ∧ s.feeds n = false) → ∃ t, exec .outputsStopped s = .next t ∧ t.mode = modeOf c.target ∧ t.pwr.change = none ∧ t.bit Reg.sysMode 8 = false ∧
        (∀ k, k < 8 → t.reg (Reg.pwrDomOn k) = 0) ∧ t.tim.sleep.isSome = true ∧ (c.target = 6 → t.bit Reg.pwrStatus 0 = false)) ∧
    (∀ link, link < 4 → s.pwr.waking = none →
      (s.asleep = true → ∃ t, exec (.hostWake link) s = .next t ∧ t.reg Reg.pwrWakeCause = wd (1 + 16 * link) ∧ t.bit Reg.pwrStatus 0 = true ∧
        t.pwr.waking = some ⟨s.f Reg.sysMode 6 4, none, s.now⟩ ∧ t = { s with out := [], regs := t.regs, pwr := { s.pwr with wakeHeld := none, waking := t.pwr.waking } } ∧
        ∀ a, a ≠ Reg.pwrWakeCause → a ≠ Reg.pwrStatus → t.reg a = s.reg a) ∧
      (s.asleep = true → s.wakeTime ≠ 0 → ∃ t, exec .timeWake s = .next t ∧ t.reg Reg.pwrWakeCause = wd 2 ∧ t.pwr.waking.isSome = true) ∧
      (s.asleep = false → s.pwr.change.isSome = true → s.pwr.wakeHeld = none →
        exec (.hostWake link) s = .next { s with out := [], pwr := { s.pwr with wakeHeld := some (1, link) } } ∧
        (s.wakeTime ≠ 0 → s.wakeTime ≤ s.now + 31000 → exec .timeWake s = .next { s with out := [], pwr := { s.pwr with wakeHeld := some (2, 0) } })) ∧
      (s.wakeTime = 0 → exec .timeWake s = .next { s with out := [] })) ∧
    (∀ (w : ModeChange) (ticks : Nat), s.pwr.waking = some w →
      let Woken := fun (u : State) => u.reg Reg.pwrWakeTimeLo = 0 ∧ u.reg Reg.pwrWakeTimeHi = 0 ∧
        u = { s with out := [], regs := u.regs, pwr := { s.pwr with waking := none, coarse := s.pwr.coarse + ticks } } ∧
        ∀ a, a ≠ Reg.pwrWakeTimeLo → a ≠ Reg.pwrWakeTimeHi → u.reg a = s.reg a
      ∃ u, Woken u ∧ (s.pwr.tamper = false → exec (.wake ticks) s = .next (resume w.target (leaveSelfRefresh (timeWake u)))) ∧
        (s.pwr.tamper = true → exec (.wake ticks) s = .next (wakeAlarmed u))) ∧
    (∀ code, 1 ≤ code → code ≤ 4 →
      (s.asleep = true → s.pwr.tamper = false → ∃ t, exec (.tamperAlarm code) s = .next t ∧ t.mode = s.mode ∧ t.pwr.tamper = true ∧ t.f Reg.keyTamperStatus 3 0 = code ∧
        t.bit Reg.keyTamperStatus (7 + code) = true ∧ t.bit Reg.keyTamperStatus 15 = true ∧ (∀ k, t.keySlot k = slotEmpty) ∧ t.key.rigKey = [] ∧ t.key.storeKey = []) ∧
      (s.mode ≠ .off → s.pwr.tamper = true → ∃ t, exec (.tamperAlarm code) s = .next t ∧ t.f Reg.keyTamperStatus 3 0 = s.f Reg.keyTamperStatus 3 0 ∧
        t.bit Reg.keyTamperStatus (7 + code) = true ∧ t.key.slots = s.key.slots ∧ t.mode = s.mode ∧ t.rst = s.rst) ∧
      (s.mode = .service → s.pwr.tamper = false → s.rst.writes = [] → ∃ u, exec (.tamperAlarm code) s = .next (enterLockdown true u) ∧ u.pwr.tamper = true ∧
        (∃ w, u.rst.writes = [w] ∧ w.cls = 5 ∧ w.why = .tamper))) ∧
    (∀ r : BelayReq, nextReq s.pwr.reqs = some r → r.off = false → r.dom < 256 → s.stepsNow + domStep r.dom ≤ 10 * s.f Reg.pwrBelayCfg 5 0 →
      ∃ t, exec .belayGrant s = .next t ∧ (∀ d, d < 256 → t.domOn d = if d = r.dom then true else s.domOn d) ∧ t.pwr.reqs = s.pwr.reqs.filter (fun x => decide (x.dom ≠ r.dom)) ∧
        t = { s with out := [], regs := t.regs, pwr := { s.pwr with reqs := t.pwr.reqs, grants := t.pwr.grants } } ∧
        ∀ a, a ≠ Reg.pwrBelayWaitMax → a ≠ Reg.pwrDomOn (r.dom / 32) → t.reg a = s.reg a) ∧
    (∀ d, d < 256 → s.domOn d = true → s.domBusy d = false → (∀ r ∈ s.pwr.reqs, r.dom ≠ d) →
      exec (.idleHoldExpiry d) s = .next { s with out := [], pwr := { s.pwr with reqs := s.pwr.reqs ++ [⟨d, true, 2, s.now, 0, none⟩] } })

/-- An accepted SBD_SET, COMP_SET, LAYER_SET, TIMING_SET or CRC_SET, an RWS write, or SCN_TABLE_LOAD of a listed entry, puts the values selected into the engine's shadow. Where the engine runs, and no set waits, it opens a staged change set of the issuer that holds the engine and the command, and the live context, every queue and every completion stay. Where it does not run, and its line buffers hold what it is to do, the values are live at once and the command completes. PACE_SET, RECORDER_SET and PLAYER_SET do the same with pending copies. (Said of values R794 does not refuse; of a gang, its leader takes them.) (R248, R250, R253, R254, R330, R387, R402, R414, R428, R429, R469, R630) -/
def Obligations.StagedValues : Prop :=
  ∀ (s : State), s.spl.sets = [] →
    let Waits := fun (t : Nat) (os : List Origin) (vs : List (Nat × Word)) (r : Result) (inSet : ChangeSet → Prop) => ∃ u c, r = .next u ∧ u.spl.sets = [c] ∧
      c.id = s.spl.nextSet ∧ c.kind = .staged ∧ c.owner = t ∧ c.phase = .armed ∧ c.origins = os ∧ c.arms = [] ∧ inSet c ∧
      (∀ w ∈ vs, u.reg w.1 = w.2) ∧ u.live = s.live ∧ u.host = s.host
    let Live := fun (vs : List (Nat × Word)) (u : State) => ∀ w ∈ vs, u.liveReg w.1 = w.2 ∧ u.reg w.1 = w.2
    (∀ o n mask ws, Accepted o s →
      let Engine := fun (e : Nat) (range : Bool) (regs : List Nat) (r : Result) => regFormCheck o range e e true mask regs (some ws) none s.begin = none →
        let vs := selected mask regs ws
        (s.engRuns e = true → Waits o.tenancy [o] vs r (fun c => e ∈ c.engines)) ∧
        (s.engRuns e = false → (writeShadows vs s).runRefused e = false → (writeShadows vs s.begin).idleShort e = none →
          ∃ u, r = .next (completeOk o (enginesRefresh u)) ∧ Live vs u)
      let Object := fun (x : Nat) (range : Bool) (regs : List Nat) (r : Result) => regFormCheck o range x x false mask regs (some ws) none s.begin = none →
        let vs := selected mask regs ws
        (s.objRuns x = true → Waits o.tenancy [o] vs r (fun c => c.ops = vs.map (fun w => .reg w.1 w.2))) ∧
        (s.objRuns x = false → ∃ u, r = .next (completeOk o (enginesRefresh u)) ∧ Live vs u)
      Engine (objSb n) (decide (n < 96)) (sbdRegs n) (exec (.sbdSet o n mask (some ws)) s) ∧
      Engine (objCp n) (decide (n < 32)) (compRegs n) (exec (.compSet o n mask (some ws)) s) ∧
      Engine (objCp (n / 8)) (s.layerThere n) (layerRegs (n / 8) (n % 8)) (exec (.layerSet o n mask (some ws)) s) ∧
      Engine (objTg n) (decide (n < 256)) (scnRegs n) (exec (.timingSet o n mask (some ws)) s) ∧
      Engine (objTg n) (decide (n < 256)) (crcRegs n) (exec (.crcSet o n mask (some ws)) s) ∧
      Object (objDest n) (decide (n < 1024) && ((s.consumer n).map isEncoder).getD false) [Reg.scnPace n] (exec (.paceSet o n mask (some ws)) s) ∧
      Object (objRec n) (decide (n < 256)) [Reg.fstRecCtrl n, Reg.fstRecBase n, Reg.fstRecSlot n, Reg.fstRecDepth n] (exec (.recorderSet o n mask (some ws)) s) ∧
      Object (objPly n) (decide (n < 256)) [Reg.fstPlyCtrl n, Reg.fstPlyTg n, Reg.fstPlyDelay n, Reg.fstPlyCueLo n, Reg.fstPlyCueHi n] (exec (.playerSet o n mask (some ws)) s)) ∧
    (∀ (m : Master) a v l e, (∀ t, m = .tenancy t → writeGate t l s = .pass) → zoneStopped l s = false → s.engLead e = e →
      locate a = some l → l.row.acc = .rws → ctxOwner l = some e → s.serving = true → s.reloading e = false → (l.kind = .layer → l.j < s.cpLayers l.i) →
      (objClass e = 6 → s.bit (Reg.scnStatus (objIndex e)) 14 = false) → s.ctx e < 2 →
      let w := merge l.row.mask (s.reg a) v
      let t := s.actsFor m ((windowObj l).getD 0)
      (s.begin.setReg a w).badValue t l w = none →
        (s.engRuns e = true → Waits t [] [(a, w)] (exec (.stagedWrite m a v) s) (fun c => e ∈ c.engines)) ∧
        (s.engRuns e = false → (s.setReg a w).runRefused e = false → (writeShadow a w s.begin).idleShort e = none → ∃ u, exec (.stagedWrite m a v) s = .next (enginesRefresh u) ∧ Live [(a, w)] u)) ∧
    (∀ (m : Master) tg (v : Word) x, tg < 256 → MayWrite m (Reg.scnTableLoad tg) s → s.serving = true → s.bit (Reg.scnStatus tg) 14 = false → s.reloading (objTg tg) = false → s.ctx (objTg tg) < 2 →
      tableTiming (fld v 4 0) (fld v 10 8) = some x →
      let vs := [Reg.scnH1 tg, Reg.scnH2 tg, Reg.scnV1 tg, Reg.scnV2 tg, Reg.scnPclk tg, Reg.scnFmt tg].zip (timingWords x)
      (s.genRuns tg = true → Waits (s.actsFor m (objTg tg)) [] vs (exec (.scnTableLoad m tg v) s) (fun c => objTg tg ∈ c.engines)) ∧
      (s.genRuns tg = false → bitOf (s.reg (Reg.scnCtrl tg)) 0 = false → ∃ u, exec (.scnTableLoad m tg v) s = .next (enginesRefresh u) ∧ Live vs u))

/-- SBD_TABLE_LOAD and COMP_TABLE_LOAD put their words into the table and complete; SBD_TBL_LOAD fills a LUT with a built-in curve; SBD_TBL_DATA and CMP_TBL_DATA move one word and advance the address. A table in use takes nothing, and TBL_IGNORED counts. REGISTER_BUFFER returns a free handle, which one is a free value, that holds the buffer; RELEASE_BUFFER frees it. A FLIP, or a write of CMP_L_FLIP that passes its checks, makes the handle the layer's pending buffer and is not completed. Nothing else changes. (Said of layers with no flip pending.) (R328, R329, R330, R334, R354, R370, R372, R373, R387, R389, R392) -/
def Obligations.TablesAndBuffers : Prop :=
  ∀ (s : State),
    let May := fun (m : Master) (a : Nat) => MayWrite m a s ∧ MayRead m a s
    let Words := fun (out : List Output) (ns : List Nat) (table : Nat) (ws : List Nat) (t : State) => t = { s with out := out, regs := t.regs, draws := t.draws, eng := { s.eng with sbTable := t.eng.sbTable } } ∧
      ∀ n ∈ ns, ∀ k, k < sbdTableSize table → t.sbdWord n table k = ws.getD k (s.sbdWord n table k)
    let Bank := fun (n bank : Nat) (ws : List Nat) (t : State) => t = { s with out := [], regs := t.regs, eng := { s.eng with cpTable := t.eng.cpTable } } ∧
      ∀ k, k < 320 → t.cpWord n bank k = ws.getD k (s.cpWord n bank k)
    let Ignored := fun (cnt : Nat) (moved : List Nat) (r : Result) => ∃ t, r = .next t ∧ t = { s with out := [], regs := t.regs } ∧
      t.reg cnt = wd (min 0xFFFFFFFF ((s.reg cnt).toNat + 1)) ∧ ∀ b, b ≠ cnt → b ∉ moved → t.reg b = s.reg b
    (∀ o n table ws, Accepted o s → sbdTableCheck o n table 0xFF (some ws) s.begin = none → ∃ t, exec (.sbdTableLoad o n table 0xFF (some ws)) s = .next (completeOk o t) ∧
      Words [] (s.gangOf n) table ((ws.take (sbdTableSize table)).map (sbdEntry table)) t ∧ t.regs = s.regs) ∧
    (∀ o n table curve words, Accepted o s → curve ≤ 4 → sbdTableCheck o n table curve words s.begin = none →
      ∃ t, exec (.sbdTableLoad o n table curve words) s = .next (completeOk o t) ∧ Words [] (s.gangOf n) table (curveTable s.draws table curve) t ∧ t.regs = s.regs) ∧
    (∀ (m : Master) n (v : Word), n < 96 → May m (Reg.sbdTblLoad n) → May m (Reg.sbdTblData n) →
      let table := fld v 2 0
      (4 ≤ table → fld v 7 4 ≤ 4 → s.sbdTableUsed n table = false →
        ∃ t, exec (.sbdTblLoad m n v) s = .next t ∧ Words [] [n] table (curveTable s.draws table (fld v 7 4)) t ∧ t.regs = s.regs) ∧
      (4 ≤ table → fld v 7 4 ≤ 4 → s.sbdTableUsed n table = true → Ignored (Reg.sbdTblIgnored n) [] (exec (.sbdTblLoad m n v) s)) ∧
      let a := Reg.sbdTblAddr n
      let k := s.f a 11 0
      (s.sbdTableUsed n (s.f a 18 16) = false → k < sbdTableSize (s.f a 18 16) → ∃ t, exec (.sbdTblData m n (some v)) s = .next t ∧
        t.sbdWord n (s.f a 18 16) k = sbdEntry (s.f a 18 16) v ∧ (∀ j, j < sbdTableSize (s.f a 18 16) → j ≠ k → t.sbdWord n (s.f a 18 16) j = s.sbdWord n (s.f a 18 16) j) ∧
        t.f a 11 0 = (k + 1) % 4096 ∧ ∀ b, b ≠ a → t.reg b = s.reg b) ∧
      (s.sbdTableUsed n (s.f a 18 16) = true → Ignored (Reg.sbdTblIgnored n) [a] (exec (.sbdTblData m n (some v)) s)) ∧
      (∃ t, exec (.sbdTblData m n none) s = .next t ∧ t.out = [.read (wd (s.sbdWord n (s.f a 18 16) k))] ∧ t.f a 11 0 = (k + 1) % 4096 ∧
        t = { s with out := t.out, regs := t.regs } ∧ ∀ b, b ≠ a → t.reg b = s.reg b)) ∧
    (∀ o n bank ws, Accepted o s → compTableCheck o n bank (some ws) s.begin = none → ∃ t, exec (.compTableLoad o n bank (some ws)) s = .next (completeOk o t) ∧
      Bank n bank ((ws.take 320).map (fun w => (w &&& wd 0x0FFF0FFF).toNat)) t ∧ t.regs = s.regs) ∧
    (∀ (m : Master) n (v : Word), n < 32 → May m (Reg.cmpTblData n) →
      let a := Reg.cmpTblAddr n
      let bank := s.f a 17 16
      let k := s.f a 8 0
      (s.bankUsed n bank = false → k < 320 → ∃ t, exec (.cmpTblData m n (some v)) s = .next t ∧ t.cpWord n bank k = (v &&& wd 0x0FFF0FFF).toNat ∧
        (∀ j, j < 320 → j ≠ k → t.cpWord n bank j = s.cpWord n bank j) ∧ t.f a 8 0 = (k + 1) % 512 ∧ ∀ b, b ≠ a → t.reg b = s.reg b) ∧
      (s.bankUsed n bank = true → Ignored (Reg.cmpTblIgnored n) [a] (exec (.cmpTblData m n (some v)) s)) ∧
      (∃ t, exec (.cmpTblData m n none) s = .next t ∧ t.out = [.read (wd (s.cpWord n bank k))] ∧ t.f a 8 0 = (k + 1) % 512 ∧ ∀ b, b ≠ a → t.reg b = s.reg b)) ∧
    (∀ o offset format width height pitch colour range, Accepted o s → registerCheck o offset format width height pitch colour range s.begin = none →
      ∃ h t, tabGet h s.eng.handles = none ∧ h < 4096 ∧ exec (.registerBuffer o offset format width height pitch colour range) s = .next (completeWith o 0 0 h false t) ∧
        tabGet h t.eng.handles = some ⟨o.tenancy, offset, format, width, height, pitch, colour, range⟩ ∧ (∀ k, k ≠ h → tabGet k t.eng.handles = tabGet k s.eng.handles) ∧
        t = { s with out := [], draws := t.draws, eng := { s.eng with handles := t.eng.handles } }) ∧
    (∀ o h, Accepted o s → releaseCheck o h s.begin = none → ∃ t, exec (.releaseBuffer o h) s = .next (completeOk o t) ∧
      (∀ k, tabGet k t.eng.handles = if k = h then none else tabGet k s.eng.handles) ∧ t = { s with out := [], eng := { s.eng with handles := t.eng.handles } }) ∧
    (∀ n h, n < 256 → h < 4096 → tabGet n s.eng.flips = none →
      let cur := Reg.cmpLCur (n / 8) (n % 8)
      let Pends := fun (f : Flip) (r : Result) => ∃ t, r = .next t ∧ t = { s with out := [], regs := t.regs, eng := { s.eng with flips := t.eng.flips } } ∧
        tabGet n t.eng.flips = some f ∧ t.pendHandle (n / 8) (n % 8) = some h ∧ t.curHandle (n / 8) (n % 8) = s.curHandle (n / 8) (n % 8) ∧ ∀ a, a ≠ cur → t.reg a = s.reg a
      (∀ o fence value target, Accepted o s → flipCheck o.tenancy n h fence s.begin = none →
        Pends ⟨h, fence, value, target, some o, false⟩ (exec (.flip o n h fence value target) s)) ∧
      (∀ (m : Master) (v : Word), May m (Reg.cmpLFlip (n / 8) (n % 8)) → fld v 11 0 = h → s.layerThere n = true → flipCheck (s.actsFor m (objCp (n / 8))) n h 0xFFFF s.begin = none →
        Pends ⟨h, 0xFFFF, 0, 0, none, false⟩ (exec (.cmpLFlip m n v) s)))

/-- CHANNEL_TRAINED takes a channel from TRAINING to FILLING, or to FAILED with its reason, which is that the modules differ from the plan, that SPD cannot be read, or what the training found; CHANNEL_FILLED from FILLING to IN_SERVICE, or after CHANNEL_POWER to EVACUATED with every piece spare and the command complete. EXTENT_READY makes the next extent ready in every partition it lies in. EVACUATE_CHANNEL and REBALANCE start a copy of the channel's lanes and are not completed; PIECE_COPIED moves the first lane to its place, leaves every other lane and every byte where they are, and the last one completes the command. CHANNEL_POWER drops or raises the pin; POWER_OFF_SAFE makes the channel OFF and completes. A channel in use that fails is FAILED with reason ALERT. (R434, R436, R437, R438, R449, R470, R472, R473, R474, R475, R479) -/
def Obligations.StoreChannels : Prop :=
  ∀ (s : State) (m : Nat), m < 12 →
    let st := Reg.fstChStatus m
    let ev := Reg.fstChEvent m
    let Others := fun (t : State) => ∀ k, k < 12 → k ≠ m → t.chState k = s.chState k
    (∀ r : TrainResult, s.chState m = 2 →
      let why := trainReason s.store.plan m r
      (why = 0 → ∃ t, exec (.channelTrained m r) s = .next t ∧ t.chState m = 3 ∧ t.f st 19 16 = 0 ∧ t.bit st 4 = r.moduleA.isSome ∧ t.bit st 5 = r.moduleB.isSome ∧
        t.reg (Reg.fstChTrainTime m) = wd r.ms ∧ t.reg (Reg.fstChSrExit m) = wd (min r.srExit 1000) ∧ t = { s with out := [], regs := t.regs } ∧
        ∀ a, a ∉ [st, Reg.fstChTrainTime m, Reg.fstChSrExit m, Reg.fstChCap m] → t.reg a = s.reg a) ∧
      (0 < why → why < 16 → tabGet m s.store.power = none → ∃ t, exec (.channelTrained m r) s = .next t ∧ t.chState m = 8 ∧ t.f st 19 16 = why ∧
        t.bit ev 2 = true ∧ t.host.alerts.testBit 3 = true ∧ Others t)) ∧
    (s.chState m = 3 →
      (∀ o, tabGet m s.store.power = some o → ∃ t, exec (.channelFilled m) s = .next (completeOk o t) ∧ t.chState m = 6 ∧ tabGet m t.store.power = none ∧
        t.sparesOf m = List.range (s.f (Reg.fstChCap m) 15 0) ∧ Others t) ∧
      (tabGet m s.store.power = none → s.storeOn = true → tabGet m s.store.kept = none → s.store.filling = false → ∃ t, exec (.channelFilled m) s = .next t ∧
        t.chState m = 4 ∧ t = { s with out := [], regs := t.regs, store := { s.store with kept := t.store.kept } } ∧ ∀ a, a ≠ st → t.reg a = s.reg a)) ∧
    (s.storeOn = true → s.f Reg.fstExtents 31 16 < s.extents → s.extents < 65536 → ∃ t, exec .extentReady s = .next t ∧
      t.f Reg.fstExtents 31 16 = s.f Reg.fstExtents 31 16 + 1 ∧ t = { s with out := [], regs := t.regs } ∧
      ∀ k, k < 4 → t.reg (Reg.fstTenReadyExt k) = wd (min (s.f Reg.fstExtents 31 16 + 1 - s.partBase k) (s.partCount k))) ∧
    (∀ o, Accepted o s →
      (evacuateCheck o m s.begin = none → s.chState m = 4 → s.lanesOn m ≠ [] → ∃ t, exec (.evacuateChannel o m) s = .next t ∧ t.chState m = 5 ∧
        t.store.copy = some ⟨m, false, s.lanesOn m, false, o⟩ ∧ t.bit Reg.fstStatus 2 = true ∧ t.store.lanes = s.store.lanes ∧ t.store.mem = s.store.mem ∧ t.host = s.host ∧ Others t) ∧
      (rebalanceCheck o m s.begin = none → s.lanesHomed m ≠ [] → ∃ t, exec (.rebalance o m) s = .next t ∧ t.chState m = 7 ∧
        t.store.copy = some ⟨m, true, s.lanesHomed m, false, o⟩ ∧ t.store.lanes = s.store.lanes ∧ t.store.mem = s.store.mem ∧ t.host = s.host ∧ Others t) ∧
      (∀ on, channelPowerCheck o m on s.begin = none → ∃ t, exec (.channelPower o m on) s = .next t ∧ tabGet m t.store.power = some o ∧
        (∀ k, t.store.memPwrEn.testBit k = if k = m then on else s.store.memPwrEn.testBit k) ∧ t.chState m = (if on = true then 2 else s.chState m) ∧ t.host = s.host ∧ Others t)) ∧
    (∀ (j : CopyJob) x k rest d, s.store.copy = some j → j.left = (x, k) :: rest → s.copyDest j = some d → k < 12 → j.ch < 12 → d < 0xC000 →
      let Moved := fun (t : State) => t.laneAt x k = d ∧ (∀ y i, i < 12 → (y, i) ≠ (x, k) → t.laneAt y i = s.laneAt y i) ∧ t.store.mem = s.store.mem
      (rest ≠ [] → j.stopping = false → ∃ t, exec .pieceCopied s = .next t ∧ Moved t ∧ t.store.copy = some { j with left := rest } ∧ t.host = s.host) ∧
      (rest = [] → j.rebalance = false → s.chState j.ch = 5 → ∃ t, exec .pieceCopied s = .next (completeOk j.origin t) ∧ Moved t ∧ t.store.copy = none ∧ t.chState j.ch = 6 ∧
        t.bit (Reg.fstChEvent j.ch) 3 = true)) ∧
    (∀ o, tabGet m s.store.power = some o → s.store.memPwrEn.testBit m = false → s.chState m ≠ 2 → s.chState m ≠ 3 →
      ∃ t, exec (.powerOffSafe m) s = .next (completeOk o t) ∧ t.chState m = 1 ∧ t.bit ev 4 = true ∧ tabGet m t.store.power = none ∧ Others t) ∧
    (3 ≤ s.chState m → s.chState m ≠ 8 → s.store.copy = none → s.store.filling = false → tabGet m s.store.power = none → ∃ t, exec (.failed m) s = .next t ∧ t.chState m = 8 ∧
      t.f st 19 16 = 3 ∧ t.bit ev 2 = true ∧ t.store.lanes = s.store.lanes ∧ t.store.mem = s.store.mem ∧ Others t)

/-- A BAR2 write within a partition that is ready puts its bytes there and changes no other byte; a BAR2 read of what is no device area and not poisoned returns the bytes; channels it needs leave self-refresh; a closed window reads 0. The scrub counts a corrected read of a channel that holds the address, and an uncorrectable one of a clean burst poisons the burst, counts, records its address and raises UE_FOUND; a poisoned one changes nothing. SELF_REFRESH_ENTRY takes a quiet channel in where the slack allows it, and SELF_REFRESH_EXIT, when due or at a host request and 1 µs later at least, out, adding its residency; else it changes nothing. FRAME_COMPLETE sets the final flags of the slot that a recorder wrote, with its SEQ and time, and starts the next one with the next SEQ and FLAGS 0; a SYNC sheet bend keeps its frame. An accepted PLAYER_CUE puts the oldest SEQ at or after its time into FST_PLY_CUE. (R436, R442, R444, R445, R448, R458, R459, R462, R463, R469, R795) -/
def Obligations.StoreUse : Prop :=
  ∀ (s : State),
    (∀ t off, t < 4 →
      let p := 67108864 * s.f (Reg.fstTenBar2Base t) 15 0 + off
      let a := s.storeAddr t p
      let Woken := fun (u : State) => ∀ b, (∀ m, b ≠ Reg.fstChSrRes m) → u.reg b = s.reg b
      (∀ data : List Byte, s.bar2Open = true → p + data.length ≤ s.readyBytes t → p + data.length ≤ s.partBytes t → (∀ k, k < data.length → s.addrFailed (a + k) = false) →
        ∃ u, exec (.bar2Access t (.write off data)) s = .next u ∧ Woken u ∧ u = { s with out := [], regs := u.regs, store := { s.store with mem := u.store.mem, poison := u.store.poison, selfRefresh := u.store.selfRefresh } } ∧
          ∀ b, u.memByte b = if a ≤ b ∧ b < a + data.length then data.getD (b - a) 0 else s.memByte b) ∧
      (∀ n, s.bar2Open = true → p + n ≤ s.readyBytes t → p + n ≤ s.openBytes t → s.partPoisoned t p n = false → ∃ u, exec (.bar2Access t (.read off n)) s = .next u ∧
        u.out = [.reply (s.readBytes a n)] ∧ Woken u ∧ u = { s with out := u.out, regs := u.regs, draws := u.draws, store := { s.store with selfRefresh := u.store.selfRefresh } }) ∧
      (∀ n data, s.bar2Open = false → exec (.bar2Access t (.read off n)) s = .next { s with out := [.reply (List.replicate n 0)] } ∧
        exec (.bar2Access t (.write off data)) s = .next { s with out := [] })) ∧
    (s.bit Reg.fstScrubCtrl 16 = true → s.storeOn = true → ∀ m a, m < 12 →
      (∃ t, exec (.patrolScrub [] true) s = .next t ∧ t = { s with out := [], store := { s.store with scrubAt := s.now } }) ∧
      (a < s.extents * extentBytes → s.laneCh (laneOfAddr a).1 (laneOfAddr a).2 = m → ∃ t, exec (.patrolScrub [(m, a, false)] false) s = .next t ∧ t.reg (Reg.fstChCeCnt m) = wd (min 0xFFFFFFFF ((s.reg (Reg.fstChCeCnt m)).toNat + 1)) ∧
        t.store.mem = s.store.mem ∧ t.store.poison = s.store.poison) ∧
      (a < s.extents * extentBytes → s.laneCh (laneOfAddr a).1 (laneOfAddr a).2 = m → s.burstPoisoned a = false → ∃ t, exec (.patrolScrub [(m, a, true)] false) s = .next t ∧ t.burstPoisoned a = true ∧ t.store.mem = s.store.mem ∧
        t.reg (Reg.fstChUeCnt m) = wd (min 0xFFFFFFFF ((s.reg (Reg.fstChUeCnt m)).toNat + 1)) ∧ t.reg (Reg.fstChUeAddrLo m) = wd a ∧
        t.reg (Reg.fstChUeAddrHi m) = wd (a / 0x100000000) ∧ t.bit (Reg.fstChEvent m) 1 = true) ∧
      (s.burstPoisoned a = true ∨ s.extents * extentBytes ≤ a ∨ s.laneCh (laneOfAddr a).1 (laneOfAddr a).2 ≠ m → exec (.patrolScrub [(m, a, true)] false) s = .next { s with out := [] })) ∧
    (∀ m, m < 12 →
      (s.bit Reg.fstSrCtrl 0 = true → s.chState m = 4 ∨ s.chState m = 6 → s.quietChannel m = true → s.slackAllows m = true → tabGet m s.store.selfRefresh = none →
        ∃ t, exec (.selfRefreshEntry m) s = .next t ∧ t = { s with out := [], store := { s.store with selfRefresh := t.store.selfRefresh } } ∧
          ∀ k, tabGet k t.store.selfRefresh = if k = m then some s.now else tabGet k s.store.selfRefresh) ∧
      (∀ b, tabGet m s.store.selfRefresh = some b → s.asleep = false →
        (∀ host, host = true ∨ s.exitDue m = true → b + 1000 ≤ s.now → ∃ t, exec (.selfRefreshExit m host) s = .next t ∧
          (∀ k, tabGet k t.store.selfRefresh = if k = m then none else tabGet k s.store.selfRefresh) ∧
          t.reg (Reg.fstChSrRes m) = wd (min 0xFFFFFFFF ((s.reg (Reg.fstChSrRes m)).toNat + (s.now - b) / 1000)) ∧ ∀ a, a ≠ Reg.fstChSrRes m → t.reg a = s.reg a) ∧
        (∀ host, s.now < b + 1000 ∨ host = false ∧ s.exitDue m = false → exec (.selfRefreshExit m host) s = .next { s with out := [] }))) ∧
    (∀ n start second d k, s.zone (sbZone n) ≠ 3 → sbTiming s.liveView n = 1 → s.sbLead n = n → s.sbRuns n = true → ∃ t,
      exec (.frameComplete (.sheet n start second d k)) s = .next t ∧ (t.sheetSt n).frames.getLast? = some ⟨(s.sheetSt n).count, start, second⟩ ∧
      (t.sheetSt n).count = (s.sheetSt n).count + 1 ∧ t.live = s.live ∧ t.store = s.store) ∧
    (∀ r absent time next rows f k h,
      let n := (s.recSt r).nextSlot % (s.recRing r).2.2
      r < 256 → s.zone (r / 16) ≠ 3 → s.bit (Reg.fstRecStatus r) 0 = true → (s.hitch (s.recEo r)).isSome = true → s.eoFormat s.liveReg (s.recEo r) = some f → (s.recSt r).writing = some k →
      tabGet k (s.recSt r).heads = some h → n ≠ k → 0 < (s.recRing r).2.2 → s.slotHeld r n = false →
      absent = true ∨ storedFrame f ≤ (s.recRing r).2.1 - 256 ∧ s.bit (Reg.fstRecStatus r) 2 = false →
      ∃ t x y, exec (.frameComplete (.recorder r absent time next rows)) s = .next t ∧ tabGet k (t.recSt r).heads = some x ∧ x.seq = h.seq ∧ x.time = h.time ∧
        x.flags = (if absent = true then 3 else 1) ∧ (t.recSt r).writing = some n ∧ tabGet n (t.recSt r).heads = some y ∧ y.seq = (s.recSt r).nextSeq ∧ y.time = next ∧ y.flags = 0 ∧
        (t.recSt r).nextSeq = (s.recSt r).nextSeq + 1) ∧
    (∀ o n time q, Accepted o s → playerCueCheck o n time s.begin = none → s.cueFrame n time = some q → s.objRuns (objPly n) = false →
      ∃ u, exec (.playerCue o n time) s = .next (completeOk o (enginesRefresh u)) ∧ u.liveReg (Reg.fstPlyCueLo n) = wd q ∧
        u.liveReg (Reg.fstPlyCueHi n) = wd (q / 0x100000000) ∧ u.spl.sets = s.spl.sets)

/-- An accepted AUDIO_HITCH or AUDIO_UNHITCH outside groups waits until 50 µs from now at least, binds nothing yet, and the change that waited for the same port completes with ABORTED. The audio fid that serves the port gets MAILBOX. AUDIO_PORT_SET puts FADE and AGROUP into each port named (with another FADE the output starts over with nothing held), AUDIO_DOMAIN_SET MODE, AGROUP_SET GROUP_SLIP, AUDIO_TAP_SET a tap's control, base and size, with SEQ and offset 0 as it is enabled, AES_SET an input's or an output's configuration with the output's 23 channel status bytes, SRC_SET each converter's configuration; each completes, and no other register changes but the status that follows. SAP_SET and an ENABLE write set a direction, and a master starts 50 µs later at the earliest; a write refused leaves its status in LAST_RESULT alone. (refreshDomain, refreshSrc and domIdle are the model's: the consumers of a domain and of a converter follow.) (R487, R495, R504, R506, R519, R520, R523, R525, R529, R530, R531, R535) -/
def Obligations.AudioCommands : Prop :=
  ∀ (s : State),
    let s1 : State := { s with out := [] }
    let Only := fun (l : List Nat) (u t : State) => t = { u with regs := t.regs } ∧ ∀ a, a ∉ l → t.reg a = u.reg a
    let Dir := fun (n : Nat) (tx : Bool) (v mask : Word) (u t : State) => ∃ x,
      let r := sapRegs n tx
      let d := (if tx = true then 0x20 else 0x10) + n
      let k := 2 * n + b2n tx
      t = refreshDomain d (refreshDomain 0 (if bitOf v 0 = false ∧ u.bit r.1 0 = true then domIdle d x else x)) ∧
      x.reg r.1 = (if tx = true then v else setFld v 19 19 0) ∧ x.reg r.2.1 = mask ∧
      (bitOf v 0 = true → u.bit r.1 0 = false → bitOf v 1 = true → tabGet k x.aud.starting = some (u.now + 50000)) ∧
      (bitOf v 0 = false → u.bit r.1 0 = true → tabGet k x.aud.starting = none ∧ x.bit (Reg.audSapStatus n) (b2n tx) = false) ∧
      (∀ a, a ∉ [r.1, r.2.1, Reg.audSapStatus n] → x.reg a = u.reg a) ∧ x = { u with regs := x.regs, aud := { u.aud with starting := x.aud.starting } }
    (∀ o, Accepted o s →
      (∀ amo ami group, group = 0 → (∀ a ∈ s.aud.arms, a.amo ≠ amo) →
        let Waits := fun (p : Option Nat) (r : Result) => r = .next (mailbox (faOf amo) { s with out := [], aud := { s.aud with arms := s.aud.arms ++ [⟨amo, p, some o, s.now + 50000⟩] } })
        (audioHitchCheck o amo (some ami) group none s.begin = none → Waits (some ami) (exec (.audioHitch o amo ami group) s)) ∧
        (audioHitchCheck o amo none group none s.begin = none → Waits none (exec (.audioUnhitch o amo group) s))) ∧
      (∀ amo x p due, s.aud.arms = [⟨amo, p, some x, due⟩] → audioHitchCheck o amo none 0 none s.begin = none →
        exec (.audioUnhitch o amo 0) s =
          .next (mailbox (faOf amo) (complete x .aborted (objAmo amo) { s with out := [], aud := { s.aud with arms := [⟨amo, none, some o, s.now + 50000⟩] } }))) ∧
      (∀ amo count fade agroup, audioPortSetCheck o amo count fade agroup s.begin = none → ∃ t, exec (.audioPortSet o amo count fade agroup) s = .next (completeOk o t) ∧
        let told := mailbox (faOf amo) s1
        t = { told with regs := t.regs, aud := { s.aud with lines := t.aud.lines } } ∧
        (∀ k, k < count → t.f (Reg.audAmoCfg (amo + k)) 1 0 = fade ∧ t.f (Reg.audAmoCfg (amo + k)) 15 8 = agroup ∧
          (s.f (Reg.audAmoCfg (amo + k)) 1 0 ≠ fade → tabGet (amo + k) t.aud.lines = none) ∧ (s.f (Reg.audAmoCfg (amo + k)) 1 0 = fade → t.amoLine (amo + k) = s.amoLine (amo + k))) ∧
        (∀ n, n < amo ∨ amo + count ≤ n → t.amoLine n = s.amoLine n) ∧
        ∀ a, (∀ k, k < count → a ≠ Reg.audAmoCfg (amo + k)) → (∀ g, g < 256 → a ≠ Reg.audAgrpStatus g) → t.reg a = told.reg a) ∧
      (∀ d mode, audioDomainSetCheck o d mode s.begin = none → ∃ t, exec (.audioDomainSet o d mode) s = .next (completeOk o t) ∧ t.f (Reg.audDomCfg d) 0 0 = mode ∧
        (if s.domState d = 2 then (t.trackerOf d).fill = 96 else t.aud = s.aud) ∧ Only [Reg.audDomCfg d] { s1 with aud := t.aud } t) ∧
      (∀ g slip, agroupSetCheck o g slip s.begin = none → ∃ t, exec (.agroupSet o g slip) s = .next (completeOk o t) ∧ t.f (Reg.audAgrpCfg g) 0 0 = slip ∧
        Only [Reg.audAgrpCfg g] s1 t) ∧
      (∀ n mask ws, sapSetCheck o n mask (some ws) s.begin = none →
        let v := sapSetValues n mask ws s
        let rx := mask.testBit 0 || mask.testBit 2
        let tx := mask.testBit 1 || mask.testBit 3
        ∃ u t, (if rx = true then Dir n false v.1.1 v.1.2 s1 u else u = s1) ∧ (if tx = true then Dir n true v.2.1 v.2.2 u t else t = u) ∧
          exec (.sapSet o n mask (some ws)) s = .next (completeOk o t)) ∧
      (∀ n ctrl base size, audioTapSetCheck o n ctrl base size s.begin = none → ∃ t, exec (.audioTapSet o n ctrl base size) s = .next (completeOk o t) ∧
        let on := bitOf ctrl 0 = true ∧ s.bit (Reg.audSapTapCtrl n) 0 = false
        t.reg (Reg.audSapTapCtrl n) = ctrl ∧ t.reg (Reg.audSapTapBaseLo n) = wd (base % 0x100000000) ∧ t.reg (Reg.audSapTapBaseHi n) = wd (base / 0x100000000) ∧
        t.reg (Reg.audSapTapSize n) = wd size ∧ (on → t.reg (Reg.audSapTapWr n) = 0 ∧ tabGet n t.aud.taps = none) ∧
        (¬ on → t.aud = s.aud ∧ t.reg (Reg.audSapTapWr n) = s.reg (Reg.audSapTapWr n)) ∧
        Only [Reg.audSapTapCtrl n, Reg.audSapTapBaseLo n, Reg.audSapTapBaseHi n, Reg.audSapTapSize n, Reg.audSapTapWr n] { s1 with aud := t.aud } t) ∧
      (∀ port cfg cs, aesSetCheck o port cfg cs s.begin = none →
        (port < 8 → ∃ u, u.reg (Reg.audAiCfg port) = cfg ∧ (bitOf cfg 0 = false → u.bit (Reg.audAiStatus port) 1 = false) ∧
          Only [Reg.audAiCfg port, Reg.audAiStatus port] s1 u ∧
          exec (.aesSet o port cfg cs) s = .next (completeOk o (refreshDomain (0x30 + port) (if bitOf cfg 0 = true then u else domIdle (0x30 + port) u)))) ∧
        (∀ data, 8 ≤ port → cs = some data → ∃ t, exec (.aesSet o port cfg cs) s = .next (completeOk o t) ∧ t.reg (Reg.audAoCfg (port - 8)) = cfg ∧
          t.bit (Reg.audAoStatus (port - 8)) 0 = bitOf cfg 0 ∧
          (∀ k, k < 23 → (t.aoCs (port - 8) false).getD k 0 = data.getD k 0 ∧ (t.aoCs (port - 8) true).getD k 0 = data.getD (24 + k) 0) ∧
          t = { s with out := [], regs := t.regs } ∧
          ∀ a, a ≠ Reg.audAoCfg (port - 8) → a ≠ Reg.audAoStatus (port - 8) →
            (∀ j, j < 6 → a ≠ Reg.audAoCsA (port - 8) j ∧ a ≠ Reg.audAoCsB (port - 8) j) → t.reg a = s.reg a)) ∧
      (∀ first count enable domain, srcSetCheck o first count domain s.begin = none →
        exec (.srcSet o first count enable domain) s =
          .next (completeOk o ((List.range count).foldl (fun u k => setSrcCfg (first + k) enable domain u) s1)))) ∧
    (∀ c enable domain, c < 512 → ∃ u, setSrcCfg c enable domain s = refreshSrc c u ∧ u.reg (Reg.audSrcCfg c) = wd (b2n enable + 0x100 * domain) ∧
      Only [Reg.audSrcCfg c, Reg.audAmiStatus (s.srcOut c)] s u) ∧
    (∀ m n tx (v : Word), n < 16 → MayWrite m (sapRegs n tx).1 s →
      let r := sapRegs n tx
      let w := v &&& (if tx = true then 0xFFFFF else 0x7FFFF)
      let Last := fun (st : Status) (o : Result) => ∃ t, o = .next t ∧ t.f (Reg.audSapStatus n) 23 16 = statusCode st ∧ Only [Reg.audSapStatus n] s1 t
      (s.serving = false → Last .stateConflict (exec (.sapEnable m n tx v) s)) ∧
      (∀ st, s.serving = true → sapRefuse n tx w (s.reg r.2.1) s = some st → Last st (exec (.sapEnable m n tx v) s)) ∧
      (s.serving = true → sapRefuse n tx w (s.reg r.2.1) s = none → ∃ t, exec (.sapEnable m n tx v) s = .next t ∧ Dir n tx w (s.reg r.2.1) s1 t))

/-- A domain whose clock goes is LOST: its ratio is held, LOST_CNT counts and CLK_LOST is raised. An instant of a clock in ACQUIRE, LOCKED or REACQUIRE measures its interval; the first one of an IDLE clock starts ACQUIRE; one out of place at a serial receiver counts a frame error. A block boundary of a domain carries out the hitch change that waits and is due there, and each output takes in a block: what its hitch supplies, silence without one. What leaves it is what entered a fade length before, weighted by the fades; a missing sample fades out what is held, counts an underrun and silences the output, and the first one that comes fades in. A HOUSE boundary also ends the trackers' block and ticks the fids (tickFids), and a LOCKED tracker moves by 1/64 of the difference. A tap writes its record, with wrap and header, or counts an overflow. AES3 blocks, lost block sync and parity errors are shown, counted and raised. (Said where one change at most waits, of one output of a domain, and of zones that are not STOPPED; inputBlocks, convert and amoBlocks are the model's.) (R490, R492, R495, R498, R499, R500, R501, R523, R524, R526, R527, R528) -/
def Obligations.AudioEvents : Prop :=
  ∀ (s : State),
    let s1 : State := { s with out := [] }
    (∀ d, d < 192 →
      let st := s.domState d
      (d = 0 ∨ st ≠ 1 ∧ st ≠ 2 ∧ st ≠ 4 → exec (.clkLost d) s = .next s1) ∧
      (d ≠ 0 → st = 1 ∨ st = 2 ∨ st = 4 → ∃ u, exec (.clkLost d) s = .next (refreshDomain d u) ∧ u.domState d = 3 ∧ u.bit (Reg.audDomEvent d) 0 = true ∧
        u.reg (Reg.audDomLostCnt d) = wd (min 0xFFFFFFFF ((s.reg (Reg.audDomLostCnt d)).toNat + 1)) ∧ u.aud = s.aud ∧
        Reports [Reg.audDomEvent d, Reg.audDomLostCnt d, Reg.audDomStatus d] s u)) ∧
    (∀ d time, d < 192 → s.stopped (domZone d) = false →
      (s.domEnabled d = false → exec (.sampleInstant d time true) s = .next s1) ∧
      (∀ l, s.domEnabled d = true → s.domState d = 1 ∨ s.domState d = 2 ∨ s.domState d = 4 → (s.trackerOf d).last = some l →
        ∃ t, exec (.sampleInstant d time true) s = .next t ∧ (t.trackerOf d).last = some time ∧ (t.trackerOf d).p1 = time - l ∧
          (t.trackerOf d).p2 = (s.trackerOf d).p1 ∧ (t.trackerOf d).count = (s.trackerOf d).count + 1 ∧ (t.trackerOf d).r = (s.trackerOf d).r ∧
          t.domState d = s.domState d ∧ ∀ k, k ≠ d → t.trackerOf k = s.trackerOf k) ∧
      (s.domEnabled d = true → s.domState d = 0 → ∃ u t, exec (.sampleInstant d time true) s = .next t ∧ u.domState d = 1 ∧
        (t.trackerOf d).last = some time ∧ t = { refreshDomain d u with aud := { (refreshDomain d u).aud with trackers := t.aud.trackers } }) ∧
      (s.domEnabled d = true → 0x10 ≤ d → d < 0x20 → s.domState d = 2 → ∃ t, exec (.sampleInstant d time false) s = .next t ∧ t.bit (Reg.audSapEvent (d - 0x10)) 0 = true ∧
        t.reg (Reg.audSapFrameErrCnt (d - 0x10)) = wd (min 0xFFFFFFFF ((s.reg (Reg.audSapFrameErrCnt (d - 0x10))).toNat + 1)))) ∧
    (∀ d, d < 192 → s.aud.muted = [] → (d = 0 → s.aud.trackers = [] ∧ s.aud.starting = []) →
      let End := fun (u : State) => if d = 0 then tickFids u else u
      (∀ obs amo ami o due, s.aud.arms = [⟨amo, ami, some o, due⟩] → s.amoClock amo = d →
        (due ≤ s.now → exec (.blockBoundary d obs) s = .next (End (amoBlocks d obs (wakeUsed (completeOk o (bindAudio amo ami { s1 with aud := { s.aud with arms := [] } })))))) ∧
        (s.now < due → exec (.blockBoundary d obs) s = .next (End (amoBlocks d obs s1)))) ∧
      (∀ obs amo, s.aud.arms = [] → s.amosAt d = [amo] → s.amoGroup amo = none → amo < 8192 → (∀ a, s.amoHitch amo = some a → tabGet (s.amiDomain a) s.aud.slipped ≠ some 1) →
        let n := s.fadeLen amo
        let l := s.amoLine amo
        let r := inputBlocks obs s1
        let r := convert d r.1 r.2
        let b := r.2.blockOf d r.1 amo
        let x := takeBlock n b.2 b.1 ⟨List.replicate (n - l.held.length) (0, false, n) ++ l.held, l.since, l.running, []⟩
        ∃ u, exec (.blockBoundary d obs) s = .next (End u) ∧ Output.audio amo (leaving n (x.held.take 48)) ∈ u.out ∧
          (u.amoLine amo).held = x.held.drop 48 ∧ (u.amoLine amo).since = x.since ∧ (u.amoLine amo).running = x.running ∧ (u.amoLine amo).cut = none ∧
          (x.turns = [] → u.bit (Reg.audAmoSrc amo) 15 = s.bit (Reg.audAmoSrc amo) 15 ∧ u.reg (Reg.audAmoFaultCnt amo) = s.reg (Reg.audAmoFaultCnt amo)) ∧
          (x.turns = [true] → amo ∉ s.aud.silent → amo ∈ u.aud.silent ∧ u.bit (Reg.audAmoEvent amo) 0 = true ∧ u.bit (Reg.audAmoSrc amo) 15 = true ∧
            u.reg (Reg.audAmoFaultCnt amo) = wd (min 0xFFFFFFFF ((s.reg (Reg.audAmoFaultCnt amo)).toNat + 1))) ∧
          (x.turns = [false] → amo ∈ s.aud.silent → amo ∉ u.aud.silent ∧ u.bit (Reg.audAmoEvent amo) 2 = true ∧ u.bit (Reg.audAmoSrc amo) 15 = false)) ∧
      (∀ blocks amo, (s.amoLine amo).cut = none → s.cutUnder 2 (objAmo amo) = false → s.zone (amo / 512) < 2 →
        (s.amoHitch amo = none → s.blockOf d blocks amo = (List.replicate 48 (some (0, false)), none)) ∧
        (∀ a w c, s.amoHitch amo = some a → tabGet a s.aud.amiBind = some (.wire w c) → s.amiPresent a = true → tabGet (s.amiDomain a) s.aud.slipped = none →
          s.blockOf d blocks amo = ((tabGet a blocks).getD (List.replicate 48 none), none)))) ∧
    (∀ (n : Nat) (held : List (Int × Bool × Nat)) (xs : List (Int × Bool)), n ≠ 0 →
      takeBlock n none (xs.map some) ⟨held, n, true, []⟩ = ⟨held ++ xs.map (fun v => (v.1, v.2, n)), n, true, []⟩ ∧
      (∀ v, takeBlock n none [some v] ⟨held, 0, false, []⟩ = ⟨held ++ [(v.1, v.2, 1)], 1, true, [false]⟩) ∧
      takeBlock n none [none, none] ⟨held, n, true, []⟩ = ⟨fadeOut n held ++ [(0, false, n), (0, false, n)], 0, false, [true]⟩) ∧
    (∀ d tr m, 0 < d → d < 192 → s.aud.muted = [] → s.aud.arms = [] → s.aud.starting = [] → s.aud.trackers = [(d, tr)] → s.amosAt 0 = [] → s.domState d = 2 → s.domSync d = false →
      blockEstimate (s.domNom d) tr = some m → 1000 * Machine.dist m tr.r ≤ tr.r →
      ∃ u, exec (.blockBoundary 0 []) s = .next (tickFids u) ∧ (u.trackerOf d).r = (if tr.r ≤ m then tr.r + (m - tr.r) / 64 else tr.r - (tr.r - m) / 64) ∧
        (u.trackerOf d).count = 0 ∧ u.domState d = 2 ∧ u.reg (Reg.audDomRatio d) = ratioWord (u.trackerOf d).r ∧
        u = { s1 with out := u.out, regs := u.regs, aud := u.aud } ∧ u.aud.lines = s.aud.lines ∧ u.aud.arms = [] ∧ ∀ a, a ≠ Reg.audDomStatus d → a ≠ Reg.audDomRatio d → u.reg a = s.reg a) ∧
    (∀ n time frames t, n < 16 → s.stopped n = false → s.owner (objSap n) = some t →
      let ctrl := s.reg (Reg.audSapTapCtrl n)
      let tx := bitOf ctrl 1
      let k := popcount (s.reg (sapRegs n tx).2.1)
      let pack := fld ctrl 3 2
      let size := ceilDiv (16 + 48 * k * packBytes pack) 64 * 64
      let ring := 4096 * s.f (Reg.audSapTapSize n) 12 0
      let base := (s.reg (Reg.audSapTapBaseLo n)).toNat + 0x100000000 * (s.reg (Reg.audSapTapBaseHi n)).toNat
      let wr := (s.reg (Reg.audSapTapWr n)).toNat
      let rd := (s.reg (Reg.audSapTapRd n)).toNat
      let tap := tabGetD ⟨0, false⟩ n s.aud.taps
      let data := (frames.take 48).flatMap (fun f => (f.take k).flatMap (packSample pack))
      let bytes := tapHeader time tap.seq k pack tap.gap ++ data
      (bitOf ctrl 0 = false ∨ s.bit (Reg.audSapStatus n) (b2n tx) = false → exec (.tapRecord n time frames) s = .next s1) ∧
      (bitOf ctrl 0 = true → s.bit (Reg.audSapStatus n) (b2n tx) = true →
        (s.bme t = true → wr + size ≤ ring → ringMeets rd wr wr size = false → ∃ u, exec (.tapRecord n time frames) s = .next u ∧
          u.out = [.hostWrite t (base + wr) (bytes ++ List.replicate (size - bytes.length) 0)] ∧
          u.reg (Reg.audSapTapWr n) = wd (if wr + size = ring then 0 else wr + size) ∧ tabGet n u.aud.taps = some ⟨(tap.seq + 1) % 0x100000000, false⟩ ∧
          u = { s with out := u.out, regs := u.regs, aud := { s.aud with taps := u.aud.taps } } ∧ ∀ a, a ≠ Reg.audSapTapWr n → u.reg a = s.reg a) ∧
        (s.bme t = true → ring < wr + size → size ≤ ring → ringMeets rd wr 0 size = false → ringMeets rd wr wr 64 = false → ∃ u, exec (.tapRecord n time frames) s = .next u ∧
          u.out = [.hostWrite t (base + wr) (tapHeader time tap.seq 0 pack false), .hostWrite t base (bytes ++ List.replicate (size - bytes.length) 0)] ∧
          u.reg (Reg.audSapTapWr n) = wd (if size = ring then 0 else size)) ∧
        (s.bme t = false ∨ ring < size ∨ wr + size ≤ ring ∧ ringMeets rd wr wr size = true → ∃ u, exec (.tapRecord n time frames) s = .next u ∧
          u.reg (Reg.audSapTapOvfCnt n) = wd (min 0xFFFFFFFF ((s.reg (Reg.audSapTapOvfCnt n)).toNat + 1)) ∧ u.bit (Reg.audSapEvent n) 2 = true ∧
          tabGet n u.aud.taps = some ⟨tap.seq, true⟩ ∧ Reports [Reg.audSapTapOvfCnt n, Reg.audSapEvent n] { s with aud := { s.aud with taps := u.aud.taps } } u))) ∧
    (∀ n a b, n < 8 → s.stopped n = false →
      (s.bit (Reg.audAiCfg n) 0 = false → exec (.aes3Block n a b) s = .next s1 ∧ ∀ sub position, exec (.parityErr ⟨n, sub, position⟩) s = .next s1) ∧
      (s.bit (Reg.audAiStatus n) 1 = false → exec (.blockSyncLost n) s = .next s1) ∧
      (s.bit (Reg.audAiStatus n) 1 = true → ∃ t, exec (.blockSyncLost n) s = .next t ∧ t.bit (Reg.audAiStatus n) 1 = false ∧ t.bit (Reg.audAiEvent n) 3 = true ∧
        Reports [Reg.audAiStatus n, Reg.audAiEvent n] s t) ∧
      (s.bit (Reg.audAiCfg n) 0 = true →
        (∀ sub position, ∃ t, exec (.parityErr ⟨n, sub, position⟩) s = .next t ∧ t.reg (Reg.audAiParityCnt n) = wd (min 0xFFFFFFFF ((s.reg (Reg.audAiParityCnt n)).toNat + 1)) ∧
          t.bit (Reg.audAiEvent n) 2 = true ∧ t.aud = { s.aud with parity := (s.f (Reg.audAiBind n) 12 0 + b2n sub, position) :: s.aud.parity } ∧
          Reports [Reg.audAiParityCnt n, Reg.audAiEvent n] { s with aud := t.aud } t) ∧
        (a.length = 24 → b.length = 24 → (a.getD 0 0).toNat % 2 = 0 → (b.getD 0 0).toNat % 2 = 0 → ∃ t, exec (.aes3Block n a b) s = .next t ∧
          (∀ j, j < 6 → t.reg (Reg.audAiCsA n j) = wordOfBytes (a.drop (4 * j)) ∧ t.reg (Reg.audAiCsB n j) = wordOfBytes (b.drop (4 * j))) ∧
          t.bit (Reg.audAiStatus n) 1 = true ∧ t.bit (Reg.audAiStatus n) 2 = false ∧
          t.amiBlock (s.f (Reg.audAiBind n) 12 0) = byteNats a ∧ t.amiBlock (s.f (Reg.audAiBind n) 12 0 + 1) = byteNats b ∧
          (∀ k, k < 8 → s.bit (Reg.audAoCfg k) 1 = true → s.f (Reg.audAoCfg k) 6 4 = n → (t.amoLine (s.f (Reg.audAoBind k) 12 0)).sent = 0) ∧
          (tabGetD 0 n s.aud.latched = 3 → (∃ j, j < 6 ∧ s.reg (Reg.audAiCsA n j) ≠ wordOfBytes (a.drop (4 * j))) → t.bit (Reg.audAiEvent n) 0 = true))))

/-- A reference that is not selected becomes QUALIFYING when it is present with a fitting rate and ABSENT when its rate no longer fits. One that qualifies is READY, and is selected, with ACQUIRING, when none is. A measurement of 10M_PPS selected shows its offset; in LOCKED one within LOCK_WINDOW starts the count of those outside again, the fourth outside leads to ACQUIRING, and the eighth within from there to LOCKED; the first after reset steps the counter. The selected reference lost with none READY leads to HOLDOVER, with one READY to that. HOLDOFF_EXPIRY changes only to a READY reference that stands higher under REVERTIVE. ARM is refused under PTP, and else waits for the edge of the selected reference, or steps the counter at once. TEMP_SAMPLE shows the temperature, changes the rate with the bin in FREERUN and HOLDOVER, and raises OVER_TEMP once at the limit. (R550, R552, R553, R554, R555, R556, R557, R558, R559, R561, R764) -/
def Obligations.Timebase : Prop :=
  ∀ (s : State),
    let s1 : State := { s with out := [] }
    let Only := fun (l : List Nat) (u t : State) => t = { u with regs := t.regs, tim := { u.tim with refSince := t.tim.refSince } } ∧ ∀ a, a ∉ l → t.reg a = u.reg a
    let ev := Reg.tmbEvent
    (∀ obs tenths entry rate bb, s.clocksRun = false → exec (.ppsEdge obs) s = .next s1 ∧ exec (.refSyncFrame entry rate bb obs) s = .next s1 ∧
      exec (.tempSample tenths) s = .next s1) ∧
    (∀ obs : RefObs, s.clocksRun = true →
      let off := obs.offset + s.refOff 2
      let inW := off.natAbs ≤ s.lockWindow
      (s.selRef ≠ 2 → ∃ t, exec (.ppsEdge obs) s = .next t ∧ Only [Reg.tmbRefStatus] s1 t ∧
        t.refState 2 = (if s.refState 2 = 1 ∧ obs.rateOk = true then 2 else if s.refState 2 = 2 ∧ obs.rateOk = false then 1 else s.refState 2) ∧
        t.refState 1 = s.refState 1 ∧ t.refState 3 = s.refState 3) ∧
      (s.selRef = 2 → s.refState 2 = 4 → s.bit Reg.tmbTodCtrl 0 = false → s.tim.fresh = false → s.tim.wakeStep = false →
        let Kept := fun (t : State) => t.now = s.now ∧ t.reg Reg.tmbOffset = wd (uxSat 32 off) ∧ t.selRef = 2 ∧ t.spl = s.spl ∧ t.aud = s.aud
        (s.tbState = tbLocked → inW → ∃ t, exec (.ppsEdge obs) s = .next t ∧ Kept t ∧ t.tbState = tbLocked ∧ t.tim.outside = 0 ∧ t.tim.inside = s.tim.inside + 1 ∧
          (∀ a, a ∉ [Reg.tmbOffset, Reg.tmbFreqAdj, Reg.tmbStatus] → t.reg a = s.reg a)) ∧
        (s.tbState = tbLocked → ¬ inW → s.tim.outside < 3 → ∃ t, exec (.ppsEdge obs) s = .next t ∧ Kept t ∧ t.tbState = tbLocked ∧ t.tim.outside = s.tim.outside + 1 ∧ t.tim.inside = 0) ∧
        (s.tbState = tbLocked → ¬ inW → 3 ≤ s.tim.outside → ∃ t, exec (.ppsEdge obs) s = .next t ∧ Kept t ∧ t.tbState = tbAcquiring ∧ t.bit ev 1 = true) ∧
        (s.tbState = tbAcquiring → inW → off.natAbs ≤ s.stepThresh → 7 ≤ s.tim.inside → ∃ t, exec (.ppsEdge obs) s = .next t ∧ Kept t ∧ t.tbState = tbLocked ∧ t.bit ev 0 = true)) ∧
      (s.epochGens = [] → s.aud.amoBind = [] →
        (s.selRef = 2 → s.tim.fresh = true → s.tim.selectedOnce = false → s.bit Reg.tmbTodCtrl 0 = false → ∃ t, exec (.ppsEdge obs) s = .next t ∧
          t.now = ((s.now : Int) + off).toNat ∧ t.reg Reg.tmbStepLast = wd (uxSat 32 off) ∧ t.bit ev 6 = true ∧ t.tim.selectedOnce = true) ∧
        (s.selRef = 2 → s.bit Reg.tmbTodCtrl 0 = true → ∃ t, exec (.ppsEdge obs) s = .next t ∧ t.now = s.todNs ∧ t.bit Reg.tmbTodCtrl 0 = false ∧ t.bit Reg.tmbStatus 7 = true) ∧
        (∀ entry rate bb, s.selRef = 3 → s.bit Reg.tmbTodCtrl 0 = true → refSyncOk entry rate bb = true → ∃ t, exec (.refSyncFrame entry rate bb obs) s = .next t ∧
          t.now = nearestPhase ((s.now : Int) + obs.offset + s.refOff 3) s.todNs (rateSel rate).1 (rateSel rate).2 ∧ t.bit Reg.tmbTodCtrl 0 = false))) ∧
    (∀ obs entry rate bb, s.clocksRun = true → s.selRef ≠ 3 → entry < 128 → rate < 8 →
      (refSyncOk entry rate bb = true → ∃ t, exec (.refSyncFrame entry rate bb obs) s = .next t ∧ Only [Reg.tmbRefStatus, Reg.tmbRefsyncFmt] s1 t ∧
        t.reg Reg.tmbRefsyncFmt = wd (1 + 2 * entry + 0x100 * rate + 0x800 * b2n bb) ∧
        t.refState 3 = (if s.refState 3 = 1 ∧ obs.rateOk = true then 2 else if s.refState 3 = 2 ∧ obs.rateOk = false then 1 else s.refState 3)) ∧
      (refSyncOk entry rate bb = false → s.refState 3 < 2 → ∃ t, exec (.refSyncFrame entry rate bb obs) s = .next t ∧ Only [Reg.tmbRefsyncFmt] s1 t ∧ t.reg Reg.tmbRefsyncFmt = 0)) ∧
    (∀ r, 1 ≤ r → r ≤ 3 →
      let due := s.refState r = 2 ∧ tabGetD 0 r s.tim.refSince + s.f Reg.tmbLockCfg 31 24 * 1000000000 ≤ s.now
      (¬ due → exec (.refReady r) s = .next s1) ∧
      (due → s.selRef ≠ 0 → ∃ t, exec (.refReady r) s = .next t ∧ t.refState r = 3 ∧ t.selRef = s.selRef ∧ t.bit ev 4 = true ∧ tabGet r t.tim.refSince = some s.now ∧
        Reports [Reg.tmbRefStatus, ev] { s with tim := t.tim } t) ∧
      (due → s.selRef = 0 → s.tim.runs = [] → ∃ t, exec (.refReady r) s = .next t ∧ t.refState r = 4 ∧ t.selRef = r ∧ t.bit ev 4 = true ∧ t.tim.fresh = true ∧
        t.tbState = (if s.tbState = tbFree ∨ s.tbState = tbHoldover then tbAcquiring else s.tbState) ∧ t.now = s.now ∧
        Reports [Reg.tmbRefStatus, ev, Reg.tmbStatus] { s with tim := t.tim } t) ∧
      (s.refState r < 2 → exec (.refLost r) s = .next s1) ∧
      (s.refState r = 4 → s.tim.runs = [] → s.bestReady = none → s.tbState = tbAcquiring ∨ s.tbState = tbLocked → ∃ t, exec (.refLost r) s = .next t ∧ t.refState r = 1 ∧
        t.selRef = 0 ∧ t.tbState = tbHoldover ∧ t.bit ev 2 = true ∧ t.bit ev 3 = true ∧ t.host.alerts.testBit 4 = true ∧ t.tim.holdSince = s.now ∧
        t.bit Reg.tmbStatus 6 = s.binValid s.tim.bin ∧ t.reg Reg.tmbFreqAdj = s.heldRate) ∧
      (∀ q, s.refState r = 4 → s.selRef = r → s.tim.runs = [] → s.bestReady = some q → q ≠ r → ∃ t, exec (.refLost r) s = .next t ∧ t.refState r = 1 ∧ t.refState q = 4 ∧ t.selRef = q ∧
        t.bit ev 3 = true ∧ t.bit ev 5 = true ∧ t.tim.fresh = true) ∧
      (let higher := s.refState r = 3 ∧ tabGetD 0 r s.tim.refSince + s.f Reg.tmbLockCfg 23 16 * 1000000000 ≤ s.now ∧ s.bit Reg.tmbCtrl 1 = true ∧ s.selRef ≠ 0 ∧ s.refBefore r s.selRef = true
       (¬ higher → exec (.holdoffExpiry r) s = .next s1) ∧
       (higher → s.tim.runs = [] → ∃ t, exec (.holdoffExpiry r) s = .next t ∧ t.refState r = 4 ∧ t.selRef = r ∧ t.bit ev 5 = true ∧
         t.tbState = (if s.tbState = tbFree ∨ s.tbState = tbHoldover then tbAcquiring else s.tbState)))) ∧
    (∀ m (v : Word), MayWrite m Reg.tmbTodCtrl s →
      let Refused := ∃ t, exec (.todArm m v) s = .next t ∧ t.f Reg.tmbStatus 23 16 = statusCode .stateConflict ∧ Only [Reg.tmbStatus] s1 t
      (s.workMode = false → Refused) ∧
      (s.workMode = true → bitOf v 0 = true → s.selRef = 1 → Refused) ∧
      (s.workMode = true → bitOf v 0 = false → exec (.todArm m v) s = .next s1) ∧
      (s.workMode = true → bitOf v 0 = true → 2 ≤ s.selRef → ∃ t, exec (.todArm m v) s = .next t ∧ t.bit Reg.tmbTodCtrl 0 = true ∧ Only [Reg.tmbTodCtrl] s1 t) ∧
      (s.workMode = true → bitOf v 0 = true → s.selRef = 0 → s.epochGens = [] → s.aud.amoBind = [] → ∃ t, exec (.todArm m v) s = .next t ∧ t.now = s.todNs ∧
        t.bit Reg.tmbTodCtrl 0 = false ∧ t.bit Reg.tmbStatus 7 = true ∧ t.bit ev 6 = true ∧ t.reg Reg.tmbStepLast = wd (uxSat 32 ((s.todNs : Int) - s.now)))) ∧
    (∀ tenths : Int, s.clocksRun = true →
      let b := binOf tenths
      let limit : Int := 10 * s.f Reg.pwrTempLimit 7 0
      (b = s.tim.bin →
        (s.pwr.hot = true ∧ limit - 50 < tenths ∨ s.pwr.hot = false ∧ tenths < limit → ∃ t, exec (.tempSample tenths) s = .next t ∧
          t.reg Reg.pwrTemp = wd (ux 16 tenths) ∧ Only [Reg.pwrTemp] s1 t) ∧
        (s.pwr.hot = false → limit ≤ tenths → ∃ t, exec (.tempSample tenths) s = .next t ∧ t.pwr = { s.pwr with hot := true } ∧ t.bit Reg.pwrEvent 1 = true ∧
          t.host.alerts.testBit 2 = true ∧ t.reg Reg.pwrTemp = wd (ux 16 tenths) ∧ t.tim = s.tim)) ∧
      (b ≠ s.tim.bin → s.tim.runs = [] → ∃ u, exec (.tempSample tenths) s = .next (overTemp tenths u) ∧ u.tim = { s.tim with bin := b } ∧
        u.reg Reg.pwrTemp = wd (ux 16 tenths) ∧
        (s.tbState = tbFree → u.reg Reg.tmbFreqAdj = wd (uxSat 32 (-(s.rateOf b)))) ∧
        (s.tbState = tbHoldover → s.tim.bin < 16 → u.reg Reg.tmbFreqAdj = wd (uxSat 32 (sx 32 (s.reg Reg.tmbFreqAdj).toNat - s.rateOf b + s.rateOf s.tim.bin))) ∧
        (s.tbState = tbAcquiring ∨ s.tbState = tbLocked → u.reg Reg.tmbFreqAdj = s.reg Reg.tmbFreqAdj)))

/-- An accepted CAL_RUN whose input is quiet adds a run and does not complete; else it completes with NOT_QUIESCENT and changes no value. The background schedule starts the run that is due and nothing else. A run that ends quiet and in agreement, with its delta in bounds, writes the delta and the effective value, restarts the age, marks a rate bin VALID and completes with OK; one disturbed, in disagreement or out of bounds completes with NOT_QUIESCENT, CAL_DISAGREE or BAD_FIELD and changes no value. CAL_STORE writes every value as a record and does not complete yet; AUTO_STORE does the same for no command where AUTO_STORE is on. (R566, R568, R569, R570, R571, R572, R573, R690) -/
def Obligations.Calibration : Prop :=
  ∀ (s : State),
    let s1 : State := { s with out := [] }
    let Runs := fun (r : CalRun) (u : State) (o : Result) => ∃ t, o = .next t ∧ t.tim = { u.tim with runs := u.tim.runs ++ [r] } ∧
      t.bit Reg.tmbCalStatus (calFid r.item) = true ∧ t = { u with regs := t.regs, tim := t.tim } ∧ ∀ a, a ≠ Reg.tmbCalStatus → t.reg a = u.reg a
    (∀ o item strand ok, Accepted o s → calRunCheck o item strand s.begin = none →
      let x := s.calIndex item strand
      let r : CalRun := ⟨item, x, some o, false, s.now⟩
      let told := mailbox (41 + calFid item) s1
      (s.calQuiet item x ok = true → Runs r told (exec (.calRun o item strand ok) s)) ∧
      (s.calQuiet item x ok = false → ∃ t, exec (.calRun o item strand ok) s = .next (complete o .notQuiescent (if item = 0 then objStrand x else 0) t) ∧
        t.tim = s.tim ∧ t.bit Reg.tmbCalEvent 2 = true ∧ Reports [Reg.tmbCalStatus, Reg.tmbCalEvent] told t)) ∧
    (∀ item x ok,
      (s.bgDue item x = false ∨ s.fcFault = true → exec (.bgCalStart item x ok) s = .next s1) ∧
      (s.bgDue item x = true → s.fcFault = false → s.calQuiet item x ok = true → Runs ⟨item, x, none, true, s.now⟩ { s1 with tim := { s.tim with bgAt := tabSet item s.now s.tim.bgAt } } (exec (.bgCalStart item x ok) s))) ∧
    (∀ item x obs r, s.calCurrent (calFid item) = some r →
      let w := calWin item x
      let Ends := fun (st : Status) (res : Result) (u : State) =>
        u.tim.runs = s.tim.runs.filter (fun y => decide (y ≠ r)) ∧ (r.origin = none → res = .next u) ∧
        (∀ o, r.origin = some o → res = .next (complete o st (if item = 0 then objStrand x else 0) u)) ∧ u.f Reg.tmbCalStatus 23 16 = statusCode st
      let Same := fun (u : State) => ∀ a, a ∉ [Reg.tmbCalStatus, Reg.tmbCalEvent, Reg.tmbCalNqCnt, Reg.tmbCalDisagreeCnt] → inTen a = false → u.reg a = s.reg a
      (r.item ≠ item ∨ r.index ≠ x → exec (.calDone item x obs) s = .next s1) ∧
      (r.item = item → r.index = x → item ≤ 3 → (item = 0 → x < 128) → (item = 1 → x < 16) →
        (obs.quiet = false ∨ s.calQuiet item x obs.quiet = false → ∃ u, Ends .notQuiescent (exec (.calDone item x obs) s) u ∧ u.bit Reg.tmbCalEvent 2 = true ∧ Same u ∧ u.tim.ages = s.tim.ages) ∧
        (obs.quiet = true → s.calQuiet item x true = true → calAgrees item obs = false → ∃ u, Ends .calDisagree (exec (.calDone item x obs) s) u ∧ u.bit Reg.tmbCalEvent 1 = true ∧ Same u) ∧
        (obs.quiet = true → s.calQuiet item x true = true → calAgrees item obs = true → s.calDelta item w obs = none →
          ∃ u, Ends .badField (exec (.calDone item x obs) s) u ∧ u.bit Reg.tmbCalEvent 3 = true ∧ Same u) ∧
        (∀ v, obs.quiet = true → s.calQuiet item x true = true → calAgrees item obs = true → s.calDelta item w obs = some v →
          ∃ u, Ends .ok (exec (.calDone item x obs) s) u ∧ u.bit Reg.tmbCalEvent 0 = true ∧ u.reg (Reg.calUser w) = v ∧
            u.reg (Reg.calEff w) = effOf item (s.reg (Reg.calFact w)) v ∧ tabGet w u.tim.ages = some s.now ∧ (item = 1 → u.binValid x = true) ∧
            u.reg (Reg.calFact w) = s.reg (Reg.calFact w)))) ∧
    (∀ item x obs, s.calCurrent (calFid item) = none → exec (.calDone item x obs) s = .next s1) ∧
    (let Written := fun (why : RecWhy) (u : State) (o : Result) => ∃ t w, o = .next t ∧ t.rst.writes = s.rst.writes ++ [w] ∧ w.cls = clsCal ∧ w.payload = s.calSet ∧ w.why = why ∧
       w.left = [2, 3] ∧ w.seq = tabGetD 0 clsCal s.rst.seqs + 1 ∧ t = { u with rst := t.rst } ∧ t.rst.rings = s.rst.rings
     (∀ o, Accepted o s → calStoreCheck o s.begin = none → Written (.cal (some o)) (mailbox 43 s1) (exec (.calStore o) s)) ∧
     (let due := s.bit Reg.tmbCalCtrl 1 = true ∧ s.recordsRun = true ∧ s.tim.autoAt + s.f Reg.tmbCalCtrl 15 8 * 3600000000000 ≤ s.now
      (due → Written (.cal none) { s1 with tim := { s.tim with autoAt := s.now } } (exec .autoStore s)) ∧ (¬ due → exec .autoStore s = .next s1)) ∧
     s.calSet.length = 604 ∧ (∀ n k, n < 128 → k < 4 → s.calSet.getD (4 * n + k) 0 = (leBytes 4 (s.reg (Reg.calUser (calWin 0 n))).toNat).getD k 0))
end

