-- ==== Sys2Proof/Laws/Table.lean ====
section
/-! SUPPORT. The laws of sparse tables: what a read answers after a write, and that every operation keeps the canonical form. -/

namespace Sys2Proof.Machine

variable {α : Type}

/-- A read after a write: the value written at its key, the old value at every other. -/
theorem tabGet_tabSet (k j : Nat) (v : α) (t : Tab α) : tabGet j (tabSet k v t) = if j = k then some v else tabGet j t := by
  induction t with
  | nil => simp only [tabSet, tabGet, eq_comm]
  | cons e r ih =>
    obtain ⟨a, w⟩ := e
    simp only [tabSet]
    split
    · simp only [tabGet, eq_comm]
    · split
      · subst_vars
        simp only [tabGet]
        by_cases hj : j = a
        · simp [hj]
        · simp [hj, Ne.symm hj]
      · simp only [tabGet, ih]
        by_cases hj : j = k <;> by_cases ha : a = j <;> simp_all

/-- A read after a key is unlisted. -/
theorem tabGet_tabDel (k j : Nat) (t : Tab α) : tabGet j (tabDel k t) = if j = k then none else tabGet j t := by
  induction t with
  | nil => simp [tabDel, tabGet]
  | cons e r ih =>
    obtain ⟨a, w⟩ := e
    simp only [tabDel]
    split
    · subst_vars
      simp only [tabGet, ih]
      by_cases hj : j = a
      · simp [hj]
      · simp [hj, Ne.symm hj]
    · simp only [tabGet, ih]
      by_cases hj : j = k <;> by_cases ha : a = j <;> simp_all

/-- A read after a write of a table whose unlisted keys stand for `d`. -/
theorem getD_tabPut [DecidableEq α] (d : Nat → α) (k j : Nat) (v : α) (t : Tab α) :
    (tabGet j (tabPut (d k) k v t)).getD (d j) = if j = k then v else (tabGet j t).getD (d j) := by
  simp only [tabPut]
  split
  · rw [tabGet_tabDel]
    by_cases hj : j = k
    · subst hj; simp [*]
    · simp [hj]
  · rw [tabGet_tabSet]
    by_cases hj : j = k <;> simp [hj]

theorem tabGetD_tabSet (d : α) (k j : Nat) (v : α) (t : Tab α) : tabGetD d j (tabSet k v t) = if j = k then v else tabGetD d j t := by
  simp only [tabGetD, tabGet_tabSet]
  split <;> rfl

theorem tabGetD_tabPut [DecidableEq α] (d : α) (k j : Nat) (v : α) (t : Tab α) :
    tabGetD d j (tabPut d k v t) = if j = k then v else tabGetD d j t := getD_tabPut (fun _ => d) k j v t

/-! The canonical form -/

theorem tabAbove_weaken {b c : Nat} {t : Tab α} (h : tabAbove c t = true) (hb : b ≤ c) : tabAbove b t = true := by
  cases t with
  | nil => rfl
  | cons e r =>
    simp only [tabAbove, Bool.and_eq_true, decide_eq_true_eq] at h ⊢
    exact ⟨by omega, h.2⟩

theorem tabAbove_tabSet {b k : Nat} {v : α} {t : Tab α} (h : tabAbove b t = true) (hk : b < k) :
    tabAbove b (tabSet k v t) = true := by
  induction t generalizing b with
  | nil => simp [tabSet, tabAbove, hk]
  | cons e r ih =>
    simp only [tabAbove, Bool.and_eq_true, decide_eq_true_eq] at h
    simp only [tabSet]
    split
    · simp only [tabAbove, Bool.and_eq_true, decide_eq_true_eq]
      exact ⟨hk, by assumption, h.2⟩
    · split
      · simp only [tabAbove, Bool.and_eq_true, decide_eq_true_eq]
        exact ⟨hk, by subst_vars; exact h.2⟩
      · simp only [tabAbove, Bool.and_eq_true, decide_eq_true_eq]
        exact ⟨h.1, ih h.2 (by omega)⟩

theorem tabSorted_tabSet {k : Nat} {v : α} {t : Tab α} (h : tabSorted t = true) : tabSorted (tabSet k v t) = true := by
  cases t with
  | nil => rfl
  | cons e r =>
    simp only [tabSorted] at h
    simp only [tabSet]
    split
    · simp only [tabSorted, tabAbove, Bool.and_eq_true, decide_eq_true_eq]
      exact ⟨by assumption, h⟩
    · split
      · subst_vars; exact h
      · exact tabAbove_tabSet h (by omega)

theorem tabSorted_of_above {b : Nat} {t : Tab α} (h : tabAbove b t = true) : tabSorted t = true := by
  cases t with
  | nil => rfl
  | cons e r =>
    simp only [tabAbove, Bool.and_eq_true] at h
    exact h.2

theorem tabAbove_tabDel {b k : Nat} {t : Tab α} (h : tabAbove b t = true) : tabAbove b (tabDel k t) = true := by
  induction t generalizing b with
  | nil => rfl
  | cons e r ih =>
    simp only [tabAbove, Bool.and_eq_true, decide_eq_true_eq] at h
    simp only [tabDel]
    split
    · exact ih (tabAbove_weaken h.2 (by omega))
    · simp only [tabAbove, Bool.and_eq_true, decide_eq_true_eq]
      exact ⟨h.1, ih h.2⟩

theorem tabSorted_tabDel {k : Nat} {t : Tab α} (h : tabSorted t = true) : tabSorted (tabDel k t) = true := by
  cases t with
  | nil => rfl
  | cons e r =>
    simp only [tabSorted] at h
    simp only [tabDel]
    split
    · exact tabSorted_of_above (tabAbove_tabDel h)
    · exact tabAbove_tabDel h

theorem mem_tabSet {k : Nat} {v : α} {t : Tab α} {e : Nat × α} (h : e ∈ tabSet k v t) : e = (k, v) ∨ e ∈ t := by
  induction t with
  | nil => exact .inl (by simpa [tabSet] using h)
  | cons a r ih =>
    simp only [tabSet] at h
    split at h
    · simpa using h
    · split at h
      · rcases List.mem_cons.1 h with h | h
        · exact .inl h
        · exact .inr (List.mem_cons_of_mem _ h)
      · rcases List.mem_cons.1 h with h | h
        · exact .inr (h ▸ List.mem_cons_self)
        · exact (ih h).imp id (List.mem_cons_of_mem _)

theorem mem_tabDel {k : Nat} {t : Tab α} {e : Nat × α} (h : e ∈ tabDel k t) : e ∈ t := by
  induction t with
  | nil => exact h
  | cons a r ih =>
    simp only [tabDel] at h
    split at h
    · exact List.mem_cons_of_mem _ (ih h)
    · rcases List.mem_cons.1 h with h | h
      · exact h ▸ List.mem_cons_self
      · exact List.mem_cons_of_mem _ (ih h)

theorem tabCanon_tabPut [DecidableEq α] {d : Nat → α} {k : Nat} {v : α} {t : Tab α} (h : tabCanon d t = true) :
    tabCanon d (tabPut (d k) k v t) = true := by
  simp only [tabCanon, Bool.and_eq_true, List.all_eq_true, decide_eq_true_eq] at h ⊢
  simp only [tabPut]
  split
  · exact ⟨tabSorted_tabDel h.1, fun e he => h.2 e (mem_tabDel he)⟩
  · refine ⟨tabSorted_tabSet h.1, fun e he => ?_⟩
    rcases mem_tabSet he with rfl | he
    · assumption
    · exact h.2 e he

theorem tabAbove_filter {b : Nat} {t : Tab α} (p : Nat × α → Bool) (h : tabAbove b t = true) : tabAbove b (t.filter p) = true := by
  induction t generalizing b with
  | nil => rfl
  | cons e r ih =>
    simp only [tabAbove, Bool.and_eq_true, decide_eq_true_eq] at h
    simp only [List.filter_cons]
    split
    · simp only [tabAbove, Bool.and_eq_true, decide_eq_true_eq]
      exact ⟨h.1, ih h.2⟩
    · exact ih (tabAbove_weaken h.2 (by omega))

theorem tabCanon_tabKeep [DecidableEq α] {d : Nat → α} {p : Nat → α → Bool} {t : Tab α} (h : tabCanon d t = true) :
    tabCanon d (tabKeep p t) = true := by
  simp only [tabCanon, Bool.and_eq_true, List.all_eq_true, decide_eq_true_eq] at h ⊢
  refine ⟨?_, fun e he => h.2 e (List.mem_of_mem_filter he)⟩
  unfold tabKeep
  cases t with
  | nil => rfl
  | cons e r =>
    simp only [tabSorted] at h
    simp only [List.filter_cons]
    split
    · exact tabAbove_filter _ h.1
    · exact tabSorted_of_above (tabAbove_filter _ h.1)

end Sys2Proof.Machine
end

