-- ==== Sys2Proof/Laws/State.lean ====
section
/-! SUPPORT. What each update of the state does to each of its fields, and what reads answer after writes. -/

namespace Sys2Proof.Machine

open Sys2Proof

/-! State.setReg -/

@[simp] theorem State.setReg_pending (s : State) (a : Nat) (v : Word) : (s.setReg a v).pending = s.pending := rfl
@[simp] theorem State.setReg_out (s : State) (a : Nat) (v : Word) : (s.setReg a v).out = s.out := rfl
@[simp] theorem State.setReg_draws (s : State) (a : Nat) (v : Word) : (s.setReg a v).draws = s.draws := rfl
@[simp] theorem State.setReg_now (s : State) (a : Nat) (v : Word) : (s.setReg a v).now = s.now := rfl
@[simp] theorem State.setReg_regs (s : State) (a : Nat) (v : Word) : (s.setReg a v).regs = tabPut (regDefault a) a v s.regs := rfl
@[simp] theorem State.setReg_live (s : State) (a : Nat) (v : Word) : (s.setReg a v).live = s.live := rfl
@[simp] theorem State.setReg_rig (s : State) (a : Nat) (v : Word) : (s.setReg a v).rig = s.rig := rfl
@[simp] theorem State.setReg_strand (s : State) (a : Nat) (v : Word) : (s.setReg a v).strand = s.strand := rfl
@[simp] theorem State.setReg_wire (s : State) (a : Nat) (v : Word) : (s.setReg a v).wire = s.wire := rfl
@[simp] theorem State.setReg_spl (s : State) (a : Nat) (v : Word) : (s.setReg a v).spl = s.spl := rfl
@[simp] theorem State.setReg_eng (s : State) (a : Nat) (v : Word) : (s.setReg a v).eng = s.eng := rfl
@[simp] theorem State.setReg_store (s : State) (a : Nat) (v : Word) : (s.setReg a v).store = s.store := rfl
@[simp] theorem State.setReg_aud (s : State) (a : Nat) (v : Word) : (s.setReg a v).aud = s.aud := rfl
@[simp] theorem State.setReg_tim (s : State) (a : Nat) (v : Word) : (s.setReg a v).tim = s.tim := rfl
@[simp] theorem State.setReg_fid (s : State) (a : Nat) (v : Word) : (s.setReg a v).fid = s.fid := rfl
@[simp] theorem State.setReg_rst (s : State) (a : Nat) (v : Word) : (s.setReg a v).rst = s.rst := rfl
@[simp] theorem State.setReg_key (s : State) (a : Nat) (v : Word) : (s.setReg a v).key = s.key := rfl
@[simp] theorem State.setReg_pwr (s : State) (a : Nat) (v : Word) : (s.setReg a v).pwr = s.pwr := rfl
@[simp] theorem State.setReg_host (s : State) (a : Nat) (v : Word) : (s.setReg a v).host = s.host := rfl
@[simp] theorem State.setReg_fab (s : State) (a : Nat) (v : Word) : (s.setReg a v).fab = s.fab := rfl

/-! State.setLive -/

@[simp] theorem State.setLive_pending (s : State) (a : Nat) (v : Word) : (s.setLive a v).pending = s.pending := rfl
@[simp] theorem State.setLive_out (s : State) (a : Nat) (v : Word) : (s.setLive a v).out = s.out := rfl
@[simp] theorem State.setLive_draws (s : State) (a : Nat) (v : Word) : (s.setLive a v).draws = s.draws := rfl
@[simp] theorem State.setLive_now (s : State) (a : Nat) (v : Word) : (s.setLive a v).now = s.now := rfl
@[simp] theorem State.setLive_regs (s : State) (a : Nat) (v : Word) : (s.setLive a v).regs = s.regs := rfl
@[simp] theorem State.setLive_live (s : State) (a : Nat) (v : Word) : (s.setLive a v).live = tabPut (regDefault a) a v s.live := rfl
@[simp] theorem State.setLive_rig (s : State) (a : Nat) (v : Word) : (s.setLive a v).rig = s.rig := rfl
@[simp] theorem State.setLive_strand (s : State) (a : Nat) (v : Word) : (s.setLive a v).strand = s.strand := rfl
@[simp] theorem State.setLive_wire (s : State) (a : Nat) (v : Word) : (s.setLive a v).wire = s.wire := rfl
@[simp] theorem State.setLive_spl (s : State) (a : Nat) (v : Word) : (s.setLive a v).spl = s.spl := rfl
@[simp] theorem State.setLive_eng (s : State) (a : Nat) (v : Word) : (s.setLive a v).eng = s.eng := rfl
@[simp] theorem State.setLive_store (s : State) (a : Nat) (v : Word) : (s.setLive a v).store = s.store := rfl
@[simp] theorem State.setLive_aud (s : State) (a : Nat) (v : Word) : (s.setLive a v).aud = s.aud := rfl
@[simp] theorem State.setLive_tim (s : State) (a : Nat) (v : Word) : (s.setLive a v).tim = s.tim := rfl
@[simp] theorem State.setLive_fid (s : State) (a : Nat) (v : Word) : (s.setLive a v).fid = s.fid := rfl
@[simp] theorem State.setLive_rst (s : State) (a : Nat) (v : Word) : (s.setLive a v).rst = s.rst := rfl
@[simp] theorem State.setLive_key (s : State) (a : Nat) (v : Word) : (s.setLive a v).key = s.key := rfl
@[simp] theorem State.setLive_pwr (s : State) (a : Nat) (v : Word) : (s.setLive a v).pwr = s.pwr := rfl
@[simp] theorem State.setLive_host (s : State) (a : Nat) (v : Word) : (s.setLive a v).host = s.host := rfl
@[simp] theorem State.setLive_fab (s : State) (a : Nat) (v : Word) : (s.setLive a v).fab = s.fab := rfl

/-! State.setF -/

@[simp] theorem State.setF_pending (s : State) (a hi lo v : Nat) : (s.setF a hi lo v).pending = s.pending := rfl
@[simp] theorem State.setF_out (s : State) (a hi lo v : Nat) : (s.setF a hi lo v).out = s.out := rfl
@[simp] theorem State.setF_draws (s : State) (a hi lo v : Nat) : (s.setF a hi lo v).draws = s.draws := rfl
@[simp] theorem State.setF_now (s : State) (a hi lo v : Nat) : (s.setF a hi lo v).now = s.now := rfl
@[simp] theorem State.setF_regs (s : State) (a hi lo v : Nat) : (s.setF a hi lo v).regs = tabPut (regDefault a) a (setFld (s.reg a) hi lo v) s.regs := rfl
@[simp] theorem State.setF_live (s : State) (a hi lo v : Nat) : (s.setF a hi lo v).live = s.live := rfl
@[simp] theorem State.setF_rig (s : State) (a hi lo v : Nat) : (s.setF a hi lo v).rig = s.rig := rfl
@[simp] theorem State.setF_strand (s : State) (a hi lo v : Nat) : (s.setF a hi lo v).strand = s.strand := rfl
@[simp] theorem State.setF_wire (s : State) (a hi lo v : Nat) : (s.setF a hi lo v).wire = s.wire := rfl
@[simp] theorem State.setF_spl (s : State) (a hi lo v : Nat) : (s.setF a hi lo v).spl = s.spl := rfl
@[simp] theorem State.setF_eng (s : State) (a hi lo v : Nat) : (s.setF a hi lo v).eng = s.eng := rfl
@[simp] theorem State.setF_store (s : State) (a hi lo v : Nat) : (s.setF a hi lo v).store = s.store := rfl
@[simp] theorem State.setF_aud (s : State) (a hi lo v : Nat) : (s.setF a hi lo v).aud = s.aud := rfl
@[simp] theorem State.setF_tim (s : State) (a hi lo v : Nat) : (s.setF a hi lo v).tim = s.tim := rfl
@[simp] theorem State.setF_fid (s : State) (a hi lo v : Nat) : (s.setF a hi lo v).fid = s.fid := rfl
@[simp] theorem State.setF_rst (s : State) (a hi lo v : Nat) : (s.setF a hi lo v).rst = s.rst := rfl
@[simp] theorem State.setF_key (s : State) (a hi lo v : Nat) : (s.setF a hi lo v).key = s.key := rfl
@[simp] theorem State.setF_pwr (s : State) (a hi lo v : Nat) : (s.setF a hi lo v).pwr = s.pwr := rfl
@[simp] theorem State.setF_host (s : State) (a hi lo v : Nat) : (s.setF a hi lo v).host = s.host := rfl
@[simp] theorem State.setF_fab (s : State) (a hi lo v : Nat) : (s.setF a hi lo v).fab = s.fab := rfl

/-! State.setBit -/

@[simp] theorem State.setBit_pending (s : State) (a b : Nat) (v : Bool) : (s.setBit a b v).pending = s.pending := rfl
@[simp] theorem State.setBit_out (s : State) (a b : Nat) (v : Bool) : (s.setBit a b v).out = s.out := rfl
@[simp] theorem State.setBit_draws (s : State) (a b : Nat) (v : Bool) : (s.setBit a b v).draws = s.draws := rfl
@[simp] theorem State.setBit_now (s : State) (a b : Nat) (v : Bool) : (s.setBit a b v).now = s.now := rfl
@[simp] theorem State.setBit_regs (s : State) (a b : Nat) (v : Bool) : (s.setBit a b v).regs = tabPut (regDefault a) a (setFld (s.reg a) b b (b2n v)) s.regs := rfl
@[simp] theorem State.setBit_live (s : State) (a b : Nat) (v : Bool) : (s.setBit a b v).live = s.live := rfl
@[simp] theorem State.setBit_rig (s : State) (a b : Nat) (v : Bool) : (s.setBit a b v).rig = s.rig := rfl
@[simp] theorem State.setBit_strand (s : State) (a b : Nat) (v : Bool) : (s.setBit a b v).strand = s.strand := rfl
@[simp] theorem State.setBit_wire (s : State) (a b : Nat) (v : Bool) : (s.setBit a b v).wire = s.wire := rfl
@[simp] theorem State.setBit_spl (s : State) (a b : Nat) (v : Bool) : (s.setBit a b v).spl = s.spl := rfl
@[simp] theorem State.setBit_eng (s : State) (a b : Nat) (v : Bool) : (s.setBit a b v).eng = s.eng := rfl
@[simp] theorem State.setBit_store (s : State) (a b : Nat) (v : Bool) : (s.setBit a b v).store = s.store := rfl
@[simp] theorem State.setBit_aud (s : State) (a b : Nat) (v : Bool) : (s.setBit a b v).aud = s.aud := rfl
@[simp] theorem State.setBit_tim (s : State) (a b : Nat) (v : Bool) : (s.setBit a b v).tim = s.tim := rfl
@[simp] theorem State.setBit_fid (s : State) (a b : Nat) (v : Bool) : (s.setBit a b v).fid = s.fid := rfl
@[simp] theorem State.setBit_rst (s : State) (a b : Nat) (v : Bool) : (s.setBit a b v).rst = s.rst := rfl
@[simp] theorem State.setBit_key (s : State) (a b : Nat) (v : Bool) : (s.setBit a b v).key = s.key := rfl
@[simp] theorem State.setBit_pwr (s : State) (a b : Nat) (v : Bool) : (s.setBit a b v).pwr = s.pwr := rfl
@[simp] theorem State.setBit_host (s : State) (a b : Nat) (v : Bool) : (s.setBit a b v).host = s.host := rfl
@[simp] theorem State.setBit_fab (s : State) (a b : Nat) (v : Bool) : (s.setBit a b v).fab = s.fab := rfl

/-! State.bump -/

@[simp] theorem State.bump_pending (s : State) (a n : Nat) : (s.bump a n).pending = s.pending := rfl
@[simp] theorem State.bump_out (s : State) (a n : Nat) : (s.bump a n).out = s.out := rfl
@[simp] theorem State.bump_draws (s : State) (a n : Nat) : (s.bump a n).draws = s.draws := rfl
@[simp] theorem State.bump_now (s : State) (a n : Nat) : (s.bump a n).now = s.now := rfl
@[simp] theorem State.bump_regs (s : State) (a n : Nat) : (s.bump a n).regs = tabPut (regDefault a) a (wd (min 0xFFFFFFFF ((s.reg a).toNat + n))) s.regs := rfl
@[simp] theorem State.bump_live (s : State) (a n : Nat) : (s.bump a n).live = s.live := rfl
@[simp] theorem State.bump_rig (s : State) (a n : Nat) : (s.bump a n).rig = s.rig := rfl
@[simp] theorem State.bump_strand (s : State) (a n : Nat) : (s.bump a n).strand = s.strand := rfl
@[simp] theorem State.bump_wire (s : State) (a n : Nat) : (s.bump a n).wire = s.wire := rfl
@[simp] theorem State.bump_spl (s : State) (a n : Nat) : (s.bump a n).spl = s.spl := rfl
@[simp] theorem State.bump_eng (s : State) (a n : Nat) : (s.bump a n).eng = s.eng := rfl
@[simp] theorem State.bump_store (s : State) (a n : Nat) : (s.bump a n).store = s.store := rfl
@[simp] theorem State.bump_aud (s : State) (a n : Nat) : (s.bump a n).aud = s.aud := rfl
@[simp] theorem State.bump_tim (s : State) (a n : Nat) : (s.bump a n).tim = s.tim := rfl
@[simp] theorem State.bump_fid (s : State) (a n : Nat) : (s.bump a n).fid = s.fid := rfl
@[simp] theorem State.bump_rst (s : State) (a n : Nat) : (s.bump a n).rst = s.rst := rfl
@[simp] theorem State.bump_key (s : State) (a n : Nat) : (s.bump a n).key = s.key := rfl
@[simp] theorem State.bump_pwr (s : State) (a n : Nat) : (s.bump a n).pwr = s.pwr := rfl
@[simp] theorem State.bump_host (s : State) (a n : Nat) : (s.bump a n).host = s.host := rfl
@[simp] theorem State.bump_fab (s : State) (a n : Nat) : (s.bump a n).fab = s.fab := rfl

/-! State.draw -/

@[simp] theorem State.draw_pending (s : State) : (s.draw).pending = s.pending := rfl
@[simp] theorem State.draw_out (s : State) : (s.draw).out = s.out := rfl
@[simp] theorem State.draw_draws (s : State) : (s.draw).draws = s.draws + 1 := rfl
@[simp] theorem State.draw_now (s : State) : (s.draw).now = s.now := rfl
@[simp] theorem State.draw_regs (s : State) : (s.draw).regs = s.regs := rfl
@[simp] theorem State.draw_live (s : State) : (s.draw).live = s.live := rfl
@[simp] theorem State.draw_rig (s : State) : (s.draw).rig = s.rig := rfl
@[simp] theorem State.draw_strand (s : State) : (s.draw).strand = s.strand := rfl
@[simp] theorem State.draw_wire (s : State) : (s.draw).wire = s.wire := rfl
@[simp] theorem State.draw_spl (s : State) : (s.draw).spl = s.spl := rfl
@[simp] theorem State.draw_eng (s : State) : (s.draw).eng = s.eng := rfl
@[simp] theorem State.draw_store (s : State) : (s.draw).store = s.store := rfl
@[simp] theorem State.draw_aud (s : State) : (s.draw).aud = s.aud := rfl
@[simp] theorem State.draw_tim (s : State) : (s.draw).tim = s.tim := rfl
@[simp] theorem State.draw_fid (s : State) : (s.draw).fid = s.fid := rfl
@[simp] theorem State.draw_rst (s : State) : (s.draw).rst = s.rst := rfl
@[simp] theorem State.draw_key (s : State) : (s.draw).key = s.key := rfl
@[simp] theorem State.draw_pwr (s : State) : (s.draw).pwr = s.pwr := rfl
@[simp] theorem State.draw_host (s : State) : (s.draw).host = s.host := rfl
@[simp] theorem State.draw_fab (s : State) : (s.draw).fab = s.fab := rfl

/-! State.emit -/

@[simp] theorem State.emit_pending (s : State) (o : Output) : (s.emit o).pending = s.pending := rfl
@[simp] theorem State.emit_out (s : State) (o : Output) : (s.emit o).out = s.out ++ [o] := rfl
@[simp] theorem State.emit_draws (s : State) (o : Output) : (s.emit o).draws = s.draws := rfl
@[simp] theorem State.emit_now (s : State) (o : Output) : (s.emit o).now = s.now := rfl
@[simp] theorem State.emit_regs (s : State) (o : Output) : (s.emit o).regs = s.regs := rfl
@[simp] theorem State.emit_live (s : State) (o : Output) : (s.emit o).live = s.live := rfl
@[simp] theorem State.emit_rig (s : State) (o : Output) : (s.emit o).rig = s.rig := rfl
@[simp] theorem State.emit_strand (s : State) (o : Output) : (s.emit o).strand = s.strand := rfl
@[simp] theorem State.emit_wire (s : State) (o : Output) : (s.emit o).wire = s.wire := rfl
@[simp] theorem State.emit_spl (s : State) (o : Output) : (s.emit o).spl = s.spl := rfl
@[simp] theorem State.emit_eng (s : State) (o : Output) : (s.emit o).eng = s.eng := rfl
@[simp] theorem State.emit_store (s : State) (o : Output) : (s.emit o).store = s.store := rfl
@[simp] theorem State.emit_aud (s : State) (o : Output) : (s.emit o).aud = s.aud := rfl
@[simp] theorem State.emit_tim (s : State) (o : Output) : (s.emit o).tim = s.tim := rfl
@[simp] theorem State.emit_fid (s : State) (o : Output) : (s.emit o).fid = s.fid := rfl
@[simp] theorem State.emit_rst (s : State) (o : Output) : (s.emit o).rst = s.rst := rfl
@[simp] theorem State.emit_key (s : State) (o : Output) : (s.emit o).key = s.key := rfl
@[simp] theorem State.emit_pwr (s : State) (o : Output) : (s.emit o).pwr = s.pwr := rfl
@[simp] theorem State.emit_host (s : State) (o : Output) : (s.emit o).host = s.host := rfl
@[simp] theorem State.emit_fab (s : State) (o : Output) : (s.emit o).fab = s.fab := rfl

/-! State.begin -/

@[simp] theorem State.begin_pending (s : State) : (s.begin).pending = s.pending := rfl
@[simp] theorem State.begin_out (s : State) : (s.begin).out = [] := rfl
@[simp] theorem State.begin_draws (s : State) : (s.begin).draws = s.draws := rfl
@[simp] theorem State.begin_now (s : State) : (s.begin).now = s.now := rfl
@[simp] theorem State.begin_regs (s : State) : (s.begin).regs = s.regs := rfl
@[simp] theorem State.begin_live (s : State) : (s.begin).live = s.live := rfl
@[simp] theorem State.begin_rig (s : State) : (s.begin).rig = s.rig := rfl
@[simp] theorem State.begin_strand (s : State) : (s.begin).strand = s.strand := rfl
@[simp] theorem State.begin_wire (s : State) : (s.begin).wire = s.wire := rfl
@[simp] theorem State.begin_spl (s : State) : (s.begin).spl = s.spl := rfl
@[simp] theorem State.begin_eng (s : State) : (s.begin).eng = s.eng := rfl
@[simp] theorem State.begin_store (s : State) : (s.begin).store = s.store := rfl
@[simp] theorem State.begin_aud (s : State) : (s.begin).aud = s.aud := rfl
@[simp] theorem State.begin_tim (s : State) : (s.begin).tim = s.tim := rfl
@[simp] theorem State.begin_fid (s : State) : (s.begin).fid = s.fid := rfl
@[simp] theorem State.begin_rst (s : State) : (s.begin).rst = s.rst := rfl
@[simp] theorem State.begin_key (s : State) : (s.begin).key = s.key := rfl
@[simp] theorem State.begin_pwr (s : State) : (s.begin).pwr = s.pwr := rfl
@[simp] theorem State.begin_host (s : State) : (s.begin).host = s.host := rfl
@[simp] theorem State.begin_fab (s : State) : (s.begin).fab = s.fab := rfl

/-! State.withPending -/

@[simp] theorem State.withPending_pending (s : State) (l : List Instr) : (s.withPending l).pending = l := rfl
@[simp] theorem State.withPending_out (s : State) (l : List Instr) : (s.withPending l).out = s.out := rfl
@[simp] theorem State.withPending_draws (s : State) (l : List Instr) : (s.withPending l).draws = s.draws := rfl
@[simp] theorem State.withPending_now (s : State) (l : List Instr) : (s.withPending l).now = s.now := rfl
@[simp] theorem State.withPending_regs (s : State) (l : List Instr) : (s.withPending l).regs = s.regs := rfl
@[simp] theorem State.withPending_live (s : State) (l : List Instr) : (s.withPending l).live = s.live := rfl
@[simp] theorem State.withPending_rig (s : State) (l : List Instr) : (s.withPending l).rig = s.rig := rfl
@[simp] theorem State.withPending_strand (s : State) (l : List Instr) : (s.withPending l).strand = s.strand := rfl
@[simp] theorem State.withPending_wire (s : State) (l : List Instr) : (s.withPending l).wire = s.wire := rfl
@[simp] theorem State.withPending_spl (s : State) (l : List Instr) : (s.withPending l).spl = s.spl := rfl
@[simp] theorem State.withPending_eng (s : State) (l : List Instr) : (s.withPending l).eng = s.eng := rfl
@[simp] theorem State.withPending_store (s : State) (l : List Instr) : (s.withPending l).store = s.store := rfl
@[simp] theorem State.withPending_aud (s : State) (l : List Instr) : (s.withPending l).aud = s.aud := rfl
@[simp] theorem State.withPending_tim (s : State) (l : List Instr) : (s.withPending l).tim = s.tim := rfl
@[simp] theorem State.withPending_fid (s : State) (l : List Instr) : (s.withPending l).fid = s.fid := rfl
@[simp] theorem State.withPending_rst (s : State) (l : List Instr) : (s.withPending l).rst = s.rst := rfl
@[simp] theorem State.withPending_key (s : State) (l : List Instr) : (s.withPending l).key = s.key := rfl
@[simp] theorem State.withPending_pwr (s : State) (l : List Instr) : (s.withPending l).pwr = s.pwr := rfl
@[simp] theorem State.withPending_host (s : State) (l : List Instr) : (s.withPending l).host = s.host := rfl
@[simp] theorem State.withPending_fab (s : State) (l : List Instr) : (s.withPending l).fab = s.fab := rfl

/-! State.setEvq -/

@[simp] theorem State.setEvq_pending (s : State) (t : Nat) (r : RingState EventEntry) : (s.setEvq t r).pending = s.pending := rfl
@[simp] theorem State.setEvq_out (s : State) (t : Nat) (r : RingState EventEntry) : (s.setEvq t r).out = s.out := rfl
@[simp] theorem State.setEvq_draws (s : State) (t : Nat) (r : RingState EventEntry) : (s.setEvq t r).draws = s.draws := rfl
@[simp] theorem State.setEvq_now (s : State) (t : Nat) (r : RingState EventEntry) : (s.setEvq t r).now = s.now := rfl
@[simp] theorem State.setEvq_regs (s : State) (t : Nat) (r : RingState EventEntry) : (s.setEvq t r).regs = s.regs := rfl
@[simp] theorem State.setEvq_live (s : State) (t : Nat) (r : RingState EventEntry) : (s.setEvq t r).live = s.live := rfl
@[simp] theorem State.setEvq_rig (s : State) (t : Nat) (r : RingState EventEntry) : (s.setEvq t r).rig = s.rig := rfl
@[simp] theorem State.setEvq_strand (s : State) (t : Nat) (r : RingState EventEntry) : (s.setEvq t r).strand = s.strand := rfl
@[simp] theorem State.setEvq_wire (s : State) (t : Nat) (r : RingState EventEntry) : (s.setEvq t r).wire = s.wire := rfl
@[simp] theorem State.setEvq_spl (s : State) (t : Nat) (r : RingState EventEntry) : (s.setEvq t r).spl = s.spl := rfl
@[simp] theorem State.setEvq_eng (s : State) (t : Nat) (r : RingState EventEntry) : (s.setEvq t r).eng = s.eng := rfl
@[simp] theorem State.setEvq_store (s : State) (t : Nat) (r : RingState EventEntry) : (s.setEvq t r).store = s.store := rfl
@[simp] theorem State.setEvq_aud (s : State) (t : Nat) (r : RingState EventEntry) : (s.setEvq t r).aud = s.aud := rfl
@[simp] theorem State.setEvq_tim (s : State) (t : Nat) (r : RingState EventEntry) : (s.setEvq t r).tim = s.tim := rfl
@[simp] theorem State.setEvq_fid (s : State) (t : Nat) (r : RingState EventEntry) : (s.setEvq t r).fid = s.fid := rfl
@[simp] theorem State.setEvq_rst (s : State) (t : Nat) (r : RingState EventEntry) : (s.setEvq t r).rst = s.rst := rfl
@[simp] theorem State.setEvq_key (s : State) (t : Nat) (r : RingState EventEntry) : (s.setEvq t r).key = s.key := rfl
@[simp] theorem State.setEvq_pwr (s : State) (t : Nat) (r : RingState EventEntry) : (s.setEvq t r).pwr = s.pwr := rfl
@[simp] theorem State.setEvq_fab (s : State) (t : Nat) (r : RingState EventEntry) : (s.setEvq t r).fab = s.fab := rfl

/-! State.setCq -/

@[simp] theorem State.setCq_pending (s : State) (t c : Nat) (r : RingState Completion) : (s.setCq t c r).pending = s.pending := rfl
@[simp] theorem State.setCq_out (s : State) (t c : Nat) (r : RingState Completion) : (s.setCq t c r).out = s.out := rfl
@[simp] theorem State.setCq_draws (s : State) (t c : Nat) (r : RingState Completion) : (s.setCq t c r).draws = s.draws := rfl
@[simp] theorem State.setCq_now (s : State) (t c : Nat) (r : RingState Completion) : (s.setCq t c r).now = s.now := rfl
@[simp] theorem State.setCq_regs (s : State) (t c : Nat) (r : RingState Completion) : (s.setCq t c r).regs = s.regs := rfl
@[simp] theorem State.setCq_live (s : State) (t c : Nat) (r : RingState Completion) : (s.setCq t c r).live = s.live := rfl
@[simp] theorem State.setCq_rig (s : State) (t c : Nat) (r : RingState Completion) : (s.setCq t c r).rig = s.rig := rfl
@[simp] theorem State.setCq_strand (s : State) (t c : Nat) (r : RingState Completion) : (s.setCq t c r).strand = s.strand := rfl
@[simp] theorem State.setCq_wire (s : State) (t c : Nat) (r : RingState Completion) : (s.setCq t c r).wire = s.wire := rfl
@[simp] theorem State.setCq_spl (s : State) (t c : Nat) (r : RingState Completion) : (s.setCq t c r).spl = s.spl := rfl
@[simp] theorem State.setCq_eng (s : State) (t c : Nat) (r : RingState Completion) : (s.setCq t c r).eng = s.eng := rfl
@[simp] theorem State.setCq_store (s : State) (t c : Nat) (r : RingState Completion) : (s.setCq t c r).store = s.store := rfl
@[simp] theorem State.setCq_aud (s : State) (t c : Nat) (r : RingState Completion) : (s.setCq t c r).aud = s.aud := rfl
@[simp] theorem State.setCq_tim (s : State) (t c : Nat) (r : RingState Completion) : (s.setCq t c r).tim = s.tim := rfl
@[simp] theorem State.setCq_fid (s : State) (t c : Nat) (r : RingState Completion) : (s.setCq t c r).fid = s.fid := rfl
@[simp] theorem State.setCq_rst (s : State) (t c : Nat) (r : RingState Completion) : (s.setCq t c r).rst = s.rst := rfl
@[simp] theorem State.setCq_key (s : State) (t c : Nat) (r : RingState Completion) : (s.setCq t c r).key = s.key := rfl
@[simp] theorem State.setCq_pwr (s : State) (t c : Nat) (r : RingState Completion) : (s.setCq t c r).pwr = s.pwr := rfl
@[simp] theorem State.setCq_fab (s : State) (t c : Nat) (r : RingState Completion) : (s.setCq t c r).fab = s.fab := rfl

/-! setFence -/

@[simp] theorem setFence_pending (s : State) (t n : Nat) (v : DWord) : (setFence t n v s).pending = s.pending := rfl
@[simp] theorem setFence_out (s : State) (t n : Nat) (v : DWord) : (setFence t n v s).out = s.out := rfl
@[simp] theorem setFence_draws (s : State) (t n : Nat) (v : DWord) : (setFence t n v s).draws = s.draws := rfl
@[simp] theorem setFence_now (s : State) (t n : Nat) (v : DWord) : (setFence t n v s).now = s.now := rfl
@[simp] theorem setFence_regs (s : State) (t n : Nat) (v : DWord) : (setFence t n v s).regs = s.regs := rfl
@[simp] theorem setFence_live (s : State) (t n : Nat) (v : DWord) : (setFence t n v s).live = s.live := rfl
@[simp] theorem setFence_rig (s : State) (t n : Nat) (v : DWord) : (setFence t n v s).rig = s.rig := rfl
@[simp] theorem setFence_strand (s : State) (t n : Nat) (v : DWord) : (setFence t n v s).strand = s.strand := rfl
@[simp] theorem setFence_wire (s : State) (t n : Nat) (v : DWord) : (setFence t n v s).wire = s.wire := rfl
@[simp] theorem setFence_spl (s : State) (t n : Nat) (v : DWord) : (setFence t n v s).spl = s.spl := rfl
@[simp] theorem setFence_eng (s : State) (t n : Nat) (v : DWord) : (setFence t n v s).eng = s.eng := rfl
@[simp] theorem setFence_store (s : State) (t n : Nat) (v : DWord) : (setFence t n v s).store = s.store := rfl
@[simp] theorem setFence_aud (s : State) (t n : Nat) (v : DWord) : (setFence t n v s).aud = s.aud := rfl
@[simp] theorem setFence_tim (s : State) (t n : Nat) (v : DWord) : (setFence t n v s).tim = s.tim := rfl
@[simp] theorem setFence_fid (s : State) (t n : Nat) (v : DWord) : (setFence t n v s).fid = s.fid := rfl
@[simp] theorem setFence_rst (s : State) (t n : Nat) (v : DWord) : (setFence t n v s).rst = s.rst := rfl
@[simp] theorem setFence_key (s : State) (t n : Nat) (v : DWord) : (setFence t n v s).key = s.key := rfl
@[simp] theorem setFence_pwr (s : State) (t n : Nat) (v : DWord) : (setFence t n v s).pwr = s.pwr := rfl
@[simp] theorem setFence_fab (s : State) (t n : Nat) (v : DWord) : (setFence t n v s).fab = s.fab := rfl

/-! alert -/

@[simp] theorem alert_pending (s : State) (b : Nat) : (alert b s).pending = s.pending := rfl
@[simp] theorem alert_out (s : State) (b : Nat) : (alert b s).out = s.out := rfl
@[simp] theorem alert_draws (s : State) (b : Nat) : (alert b s).draws = s.draws := rfl
@[simp] theorem alert_now (s : State) (b : Nat) : (alert b s).now = s.now := rfl
@[simp] theorem alert_regs (s : State) (b : Nat) : (alert b s).regs = s.regs := rfl
@[simp] theorem alert_live (s : State) (b : Nat) : (alert b s).live = s.live := rfl
@[simp] theorem alert_rig (s : State) (b : Nat) : (alert b s).rig = s.rig := rfl
@[simp] theorem alert_strand (s : State) (b : Nat) : (alert b s).strand = s.strand := rfl
@[simp] theorem alert_wire (s : State) (b : Nat) : (alert b s).wire = s.wire := rfl
@[simp] theorem alert_spl (s : State) (b : Nat) : (alert b s).spl = s.spl := rfl
@[simp] theorem alert_eng (s : State) (b : Nat) : (alert b s).eng = s.eng := rfl
@[simp] theorem alert_store (s : State) (b : Nat) : (alert b s).store = s.store := rfl
@[simp] theorem alert_aud (s : State) (b : Nat) : (alert b s).aud = s.aud := rfl
@[simp] theorem alert_tim (s : State) (b : Nat) : (alert b s).tim = s.tim := rfl
@[simp] theorem alert_fid (s : State) (b : Nat) : (alert b s).fid = s.fid := rfl
@[simp] theorem alert_rst (s : State) (b : Nat) : (alert b s).rst = s.rst := rfl
@[simp] theorem alert_key (s : State) (b : Nat) : (alert b s).key = s.key := rfl
@[simp] theorem alert_pwr (s : State) (b : Nat) : (alert b s).pwr = s.pwr := rfl
@[simp] theorem alert_fab (s : State) (b : Nat) : (alert b s).fab = s.fab := rfl

/-! setRig -/

@[simp] theorem setRig_pending (s : State) (x : RigState) : (setRig x s).pending = s.pending := rfl
@[simp] theorem setRig_out (s : State) (x : RigState) : (setRig x s).out = s.out := rfl
@[simp] theorem setRig_draws (s : State) (x : RigState) : (setRig x s).draws = s.draws := rfl
@[simp] theorem setRig_now (s : State) (x : RigState) : (setRig x s).now = s.now := rfl
@[simp] theorem setRig_regs (s : State) (x : RigState) : (setRig x s).regs = s.regs := rfl
@[simp] theorem setRig_live (s : State) (x : RigState) : (setRig x s).live = s.live := rfl
@[simp] theorem setRig_rig (s : State) (x : RigState) : (setRig x s).rig = x := rfl
@[simp] theorem setRig_strand (s : State) (x : RigState) : (setRig x s).strand = s.strand := rfl
@[simp] theorem setRig_wire (s : State) (x : RigState) : (setRig x s).wire = s.wire := rfl
@[simp] theorem setRig_spl (s : State) (x : RigState) : (setRig x s).spl = s.spl := rfl
@[simp] theorem setRig_eng (s : State) (x : RigState) : (setRig x s).eng = s.eng := rfl
@[simp] theorem setRig_store (s : State) (x : RigState) : (setRig x s).store = s.store := rfl
@[simp] theorem setRig_aud (s : State) (x : RigState) : (setRig x s).aud = s.aud := rfl
@[simp] theorem setRig_tim (s : State) (x : RigState) : (setRig x s).tim = s.tim := rfl
@[simp] theorem setRig_fid (s : State) (x : RigState) : (setRig x s).fid = s.fid := rfl
@[simp] theorem setRig_rst (s : State) (x : RigState) : (setRig x s).rst = s.rst := rfl
@[simp] theorem setRig_key (s : State) (x : RigState) : (setRig x s).key = s.key := rfl
@[simp] theorem setRig_pwr (s : State) (x : RigState) : (setRig x s).pwr = s.pwr := rfl
@[simp] theorem setRig_host (s : State) (x : RigState) : (setRig x s).host = s.host := rfl
@[simp] theorem setRig_fab (s : State) (x : RigState) : (setRig x s).fab = s.fab := rfl

/-! setStrand -/

@[simp] theorem setStrand_pending (s : State) (x : StrandState) : (setStrand x s).pending = s.pending := rfl
@[simp] theorem setStrand_out (s : State) (x : StrandState) : (setStrand x s).out = s.out := rfl
@[simp] theorem setStrand_draws (s : State) (x : StrandState) : (setStrand x s).draws = s.draws := rfl
@[simp] theorem setStrand_now (s : State) (x : StrandState) : (setStrand x s).now = s.now := rfl
@[simp] theorem setStrand_regs (s : State) (x : StrandState) : (setStrand x s).regs = s.regs := rfl
@[simp] theorem setStrand_live (s : State) (x : StrandState) : (setStrand x s).live = s.live := rfl
@[simp] theorem setStrand_rig (s : State) (x : StrandState) : (setStrand x s).rig = s.rig := rfl
@[simp] theorem setStrand_strand (s : State) (x : StrandState) : (setStrand x s).strand = x := rfl
@[simp] theorem setStrand_wire (s : State) (x : StrandState) : (setStrand x s).wire = s.wire := rfl
@[simp] theorem setStrand_spl (s : State) (x : StrandState) : (setStrand x s).spl = s.spl := rfl
@[simp] theorem setStrand_eng (s : State) (x : StrandState) : (setStrand x s).eng = s.eng := rfl
@[simp] theorem setStrand_store (s : State) (x : StrandState) : (setStrand x s).store = s.store := rfl
@[simp] theorem setStrand_aud (s : State) (x : StrandState) : (setStrand x s).aud = s.aud := rfl
@[simp] theorem setStrand_tim (s : State) (x : StrandState) : (setStrand x s).tim = s.tim := rfl
@[simp] theorem setStrand_fid (s : State) (x : StrandState) : (setStrand x s).fid = s.fid := rfl
@[simp] theorem setStrand_rst (s : State) (x : StrandState) : (setStrand x s).rst = s.rst := rfl
@[simp] theorem setStrand_key (s : State) (x : StrandState) : (setStrand x s).key = s.key := rfl
@[simp] theorem setStrand_pwr (s : State) (x : StrandState) : (setStrand x s).pwr = s.pwr := rfl
@[simp] theorem setStrand_host (s : State) (x : StrandState) : (setStrand x s).host = s.host := rfl
@[simp] theorem setStrand_fab (s : State) (x : StrandState) : (setStrand x s).fab = s.fab := rfl

/-! setWire -/

@[simp] theorem setWire_pending (s : State) (x : WireState) : (setWire x s).pending = s.pending := rfl
@[simp] theorem setWire_out (s : State) (x : WireState) : (setWire x s).out = s.out := rfl
@[simp] theorem setWire_draws (s : State) (x : WireState) : (setWire x s).draws = s.draws := rfl
@[simp] theorem setWire_now (s : State) (x : WireState) : (setWire x s).now = s.now := rfl
@[simp] theorem setWire_regs (s : State) (x : WireState) : (setWire x s).regs = s.regs := rfl
@[simp] theorem setWire_live (s : State) (x : WireState) : (setWire x s).live = s.live := rfl
@[simp] theorem setWire_rig (s : State) (x : WireState) : (setWire x s).rig = s.rig := rfl
@[simp] theorem setWire_strand (s : State) (x : WireState) : (setWire x s).strand = s.strand := rfl
@[simp] theorem setWire_wire (s : State) (x : WireState) : (setWire x s).wire = x := rfl
@[simp] theorem setWire_spl (s : State) (x : WireState) : (setWire x s).spl = s.spl := rfl
@[simp] theorem setWire_eng (s : State) (x : WireState) : (setWire x s).eng = s.eng := rfl
@[simp] theorem setWire_store (s : State) (x : WireState) : (setWire x s).store = s.store := rfl
@[simp] theorem setWire_aud (s : State) (x : WireState) : (setWire x s).aud = s.aud := rfl
@[simp] theorem setWire_tim (s : State) (x : WireState) : (setWire x s).tim = s.tim := rfl
@[simp] theorem setWire_fid (s : State) (x : WireState) : (setWire x s).fid = s.fid := rfl
@[simp] theorem setWire_rst (s : State) (x : WireState) : (setWire x s).rst = s.rst := rfl
@[simp] theorem setWire_key (s : State) (x : WireState) : (setWire x s).key = s.key := rfl
@[simp] theorem setWire_pwr (s : State) (x : WireState) : (setWire x s).pwr = s.pwr := rfl
@[simp] theorem setWire_host (s : State) (x : WireState) : (setWire x s).host = s.host := rfl
@[simp] theorem setWire_fab (s : State) (x : WireState) : (setWire x s).fab = s.fab := rfl

/-! setStore -/

@[simp] theorem setStore_pending (s : State) (x : StoreState) : (setStore x s).pending = s.pending := rfl
@[simp] theorem setStore_out (s : State) (x : StoreState) : (setStore x s).out = s.out := rfl
@[simp] theorem setStore_draws (s : State) (x : StoreState) : (setStore x s).draws = s.draws := rfl
@[simp] theorem setStore_now (s : State) (x : StoreState) : (setStore x s).now = s.now := rfl
@[simp] theorem setStore_regs (s : State) (x : StoreState) : (setStore x s).regs = s.regs := rfl
@[simp] theorem setStore_live (s : State) (x : StoreState) : (setStore x s).live = s.live := rfl
@[simp] theorem setStore_rig (s : State) (x : StoreState) : (setStore x s).rig = s.rig := rfl
@[simp] theorem setStore_strand (s : State) (x : StoreState) : (setStore x s).strand = s.strand := rfl
@[simp] theorem setStore_wire (s : State) (x : StoreState) : (setStore x s).wire = s.wire := rfl
@[simp] theorem setStore_spl (s : State) (x : StoreState) : (setStore x s).spl = s.spl := rfl
@[simp] theorem setStore_eng (s : State) (x : StoreState) : (setStore x s).eng = s.eng := rfl
@[simp] theorem setStore_store (s : State) (x : StoreState) : (setStore x s).store = x := rfl
@[simp] theorem setStore_aud (s : State) (x : StoreState) : (setStore x s).aud = s.aud := rfl
@[simp] theorem setStore_tim (s : State) (x : StoreState) : (setStore x s).tim = s.tim := rfl
@[simp] theorem setStore_fid (s : State) (x : StoreState) : (setStore x s).fid = s.fid := rfl
@[simp] theorem setStore_rst (s : State) (x : StoreState) : (setStore x s).rst = s.rst := rfl
@[simp] theorem setStore_key (s : State) (x : StoreState) : (setStore x s).key = s.key := rfl
@[simp] theorem setStore_pwr (s : State) (x : StoreState) : (setStore x s).pwr = s.pwr := rfl
@[simp] theorem setStore_host (s : State) (x : StoreState) : (setStore x s).host = s.host := rfl
@[simp] theorem setStore_fab (s : State) (x : StoreState) : (setStore x s).fab = s.fab := rfl

/-! setAud -/

@[simp] theorem setAud_pending (s : State) (x : AudioState) : (setAud x s).pending = s.pending := rfl
@[simp] theorem setAud_out (s : State) (x : AudioState) : (setAud x s).out = s.out := rfl
@[simp] theorem setAud_draws (s : State) (x : AudioState) : (setAud x s).draws = s.draws := rfl
@[simp] theorem setAud_now (s : State) (x : AudioState) : (setAud x s).now = s.now := rfl
@[simp] theorem setAud_regs (s : State) (x : AudioState) : (setAud x s).regs = s.regs := rfl
@[simp] theorem setAud_live (s : State) (x : AudioState) : (setAud x s).live = s.live := rfl
@[simp] theorem setAud_rig (s : State) (x : AudioState) : (setAud x s).rig = s.rig := rfl
@[simp] theorem setAud_strand (s : State) (x : AudioState) : (setAud x s).strand = s.strand := rfl
@[simp] theorem setAud_wire (s : State) (x : AudioState) : (setAud x s).wire = s.wire := rfl
@[simp] theorem setAud_spl (s : State) (x : AudioState) : (setAud x s).spl = s.spl := rfl
@[simp] theorem setAud_eng (s : State) (x : AudioState) : (setAud x s).eng = s.eng := rfl
@[simp] theorem setAud_store (s : State) (x : AudioState) : (setAud x s).store = s.store := rfl
@[simp] theorem setAud_aud (s : State) (x : AudioState) : (setAud x s).aud = x := rfl
@[simp] theorem setAud_tim (s : State) (x : AudioState) : (setAud x s).tim = s.tim := rfl
@[simp] theorem setAud_fid (s : State) (x : AudioState) : (setAud x s).fid = s.fid := rfl
@[simp] theorem setAud_rst (s : State) (x : AudioState) : (setAud x s).rst = s.rst := rfl
@[simp] theorem setAud_key (s : State) (x : AudioState) : (setAud x s).key = s.key := rfl
@[simp] theorem setAud_pwr (s : State) (x : AudioState) : (setAud x s).pwr = s.pwr := rfl
@[simp] theorem setAud_host (s : State) (x : AudioState) : (setAud x s).host = s.host := rfl
@[simp] theorem setAud_fab (s : State) (x : AudioState) : (setAud x s).fab = s.fab := rfl

/-! setTim -/

@[simp] theorem setTim_pending (s : State) (x : TimeState) : (setTim x s).pending = s.pending := rfl
@[simp] theorem setTim_out (s : State) (x : TimeState) : (setTim x s).out = s.out := rfl
@[simp] theorem setTim_draws (s : State) (x : TimeState) : (setTim x s).draws = s.draws := rfl
@[simp] theorem setTim_now (s : State) (x : TimeState) : (setTim x s).now = s.now := rfl
@[simp] theorem setTim_regs (s : State) (x : TimeState) : (setTim x s).regs = s.regs := rfl
@[simp] theorem setTim_live (s : State) (x : TimeState) : (setTim x s).live = s.live := rfl
@[simp] theorem setTim_rig (s : State) (x : TimeState) : (setTim x s).rig = s.rig := rfl
@[simp] theorem setTim_strand (s : State) (x : TimeState) : (setTim x s).strand = s.strand := rfl
@[simp] theorem setTim_wire (s : State) (x : TimeState) : (setTim x s).wire = s.wire := rfl
@[simp] theorem setTim_spl (s : State) (x : TimeState) : (setTim x s).spl = s.spl := rfl
@[simp] theorem setTim_eng (s : State) (x : TimeState) : (setTim x s).eng = s.eng := rfl
@[simp] theorem setTim_store (s : State) (x : TimeState) : (setTim x s).store = s.store := rfl
@[simp] theorem setTim_aud (s : State) (x : TimeState) : (setTim x s).aud = s.aud := rfl
@[simp] theorem setTim_tim (s : State) (x : TimeState) : (setTim x s).tim = x := rfl
@[simp] theorem setTim_fid (s : State) (x : TimeState) : (setTim x s).fid = s.fid := rfl
@[simp] theorem setTim_rst (s : State) (x : TimeState) : (setTim x s).rst = s.rst := rfl
@[simp] theorem setTim_key (s : State) (x : TimeState) : (setTim x s).key = s.key := rfl
@[simp] theorem setTim_pwr (s : State) (x : TimeState) : (setTim x s).pwr = s.pwr := rfl
@[simp] theorem setTim_host (s : State) (x : TimeState) : (setTim x s).host = s.host := rfl
@[simp] theorem setTim_fab (s : State) (x : TimeState) : (setTim x s).fab = s.fab := rfl

/-! setRec -/

@[simp] theorem setRec_pending (s : State) (x : RecordState) : (setRec x s).pending = s.pending := rfl
@[simp] theorem setRec_out (s : State) (x : RecordState) : (setRec x s).out = s.out := rfl
@[simp] theorem setRec_draws (s : State) (x : RecordState) : (setRec x s).draws = s.draws := rfl
@[simp] theorem setRec_now (s : State) (x : RecordState) : (setRec x s).now = s.now := rfl
@[simp] theorem setRec_regs (s : State) (x : RecordState) : (setRec x s).regs = s.regs := rfl
@[simp] theorem setRec_live (s : State) (x : RecordState) : (setRec x s).live = s.live := rfl
@[simp] theorem setRec_rig (s : State) (x : RecordState) : (setRec x s).rig = s.rig := rfl
@[simp] theorem setRec_strand (s : State) (x : RecordState) : (setRec x s).strand = s.strand := rfl
@[simp] theorem setRec_wire (s : State) (x : RecordState) : (setRec x s).wire = s.wire := rfl
@[simp] theorem setRec_spl (s : State) (x : RecordState) : (setRec x s).spl = s.spl := rfl
@[simp] theorem setRec_eng (s : State) (x : RecordState) : (setRec x s).eng = s.eng := rfl
@[simp] theorem setRec_store (s : State) (x : RecordState) : (setRec x s).store = s.store := rfl
@[simp] theorem setRec_aud (s : State) (x : RecordState) : (setRec x s).aud = s.aud := rfl
@[simp] theorem setRec_tim (s : State) (x : RecordState) : (setRec x s).tim = s.tim := rfl
@[simp] theorem setRec_fid (s : State) (x : RecordState) : (setRec x s).fid = s.fid := rfl
@[simp] theorem setRec_rst (s : State) (x : RecordState) : (setRec x s).rst = x := rfl
@[simp] theorem setRec_key (s : State) (x : RecordState) : (setRec x s).key = s.key := rfl
@[simp] theorem setRec_pwr (s : State) (x : RecordState) : (setRec x s).pwr = s.pwr := rfl
@[simp] theorem setRec_host (s : State) (x : RecordState) : (setRec x s).host = s.host := rfl
@[simp] theorem setRec_fab (s : State) (x : RecordState) : (setRec x s).fab = s.fab := rfl

/-! setKey -/

@[simp] theorem setKey_pending (s : State) (x : KeyState) : (setKey x s).pending = s.pending := rfl
@[simp] theorem setKey_out (s : State) (x : KeyState) : (setKey x s).out = s.out := rfl
@[simp] theorem setKey_draws (s : State) (x : KeyState) : (setKey x s).draws = s.draws := rfl
@[simp] theorem setKey_now (s : State) (x : KeyState) : (setKey x s).now = s.now := rfl
@[simp] theorem setKey_regs (s : State) (x : KeyState) : (setKey x s).regs = s.regs := rfl
@[simp] theorem setKey_live (s : State) (x : KeyState) : (setKey x s).live = s.live := rfl
@[simp] theorem setKey_rig (s : State) (x : KeyState) : (setKey x s).rig = s.rig := rfl
@[simp] theorem setKey_strand (s : State) (x : KeyState) : (setKey x s).strand = s.strand := rfl
@[simp] theorem setKey_wire (s : State) (x : KeyState) : (setKey x s).wire = s.wire := rfl
@[simp] theorem setKey_spl (s : State) (x : KeyState) : (setKey x s).spl = s.spl := rfl
@[simp] theorem setKey_eng (s : State) (x : KeyState) : (setKey x s).eng = s.eng := rfl
@[simp] theorem setKey_store (s : State) (x : KeyState) : (setKey x s).store = s.store := rfl
@[simp] theorem setKey_aud (s : State) (x : KeyState) : (setKey x s).aud = s.aud := rfl
@[simp] theorem setKey_tim (s : State) (x : KeyState) : (setKey x s).tim = s.tim := rfl
@[simp] theorem setKey_fid (s : State) (x : KeyState) : (setKey x s).fid = s.fid := rfl
@[simp] theorem setKey_rst (s : State) (x : KeyState) : (setKey x s).rst = s.rst := rfl
@[simp] theorem setKey_key (s : State) (x : KeyState) : (setKey x s).key = x := rfl
@[simp] theorem setKey_pwr (s : State) (x : KeyState) : (setKey x s).pwr = s.pwr := rfl
@[simp] theorem setKey_host (s : State) (x : KeyState) : (setKey x s).host = s.host := rfl
@[simp] theorem setKey_fab (s : State) (x : KeyState) : (setKey x s).fab = s.fab := rfl

/-! setPwr -/

@[simp] theorem setPwr_pending (s : State) (x : PowerState) : (setPwr x s).pending = s.pending := rfl
@[simp] theorem setPwr_out (s : State) (x : PowerState) : (setPwr x s).out = s.out := rfl
@[simp] theorem setPwr_draws (s : State) (x : PowerState) : (setPwr x s).draws = s.draws := rfl
@[simp] theorem setPwr_now (s : State) (x : PowerState) : (setPwr x s).now = s.now := rfl
@[simp] theorem setPwr_regs (s : State) (x : PowerState) : (setPwr x s).regs = s.regs := rfl
@[simp] theorem setPwr_live (s : State) (x : PowerState) : (setPwr x s).live = s.live := rfl
@[simp] theorem setPwr_rig (s : State) (x : PowerState) : (setPwr x s).rig = s.rig := rfl
@[simp] theorem setPwr_strand (s : State) (x : PowerState) : (setPwr x s).strand = s.strand := rfl
@[simp] theorem setPwr_wire (s : State) (x : PowerState) : (setPwr x s).wire = s.wire := rfl
@[simp] theorem setPwr_spl (s : State) (x : PowerState) : (setPwr x s).spl = s.spl := rfl
@[simp] theorem setPwr_eng (s : State) (x : PowerState) : (setPwr x s).eng = s.eng := rfl
@[simp] theorem setPwr_store (s : State) (x : PowerState) : (setPwr x s).store = s.store := rfl
@[simp] theorem setPwr_aud (s : State) (x : PowerState) : (setPwr x s).aud = s.aud := rfl
@[simp] theorem setPwr_tim (s : State) (x : PowerState) : (setPwr x s).tim = s.tim := rfl
@[simp] theorem setPwr_fid (s : State) (x : PowerState) : (setPwr x s).fid = s.fid := rfl
@[simp] theorem setPwr_rst (s : State) (x : PowerState) : (setPwr x s).rst = s.rst := rfl
@[simp] theorem setPwr_key (s : State) (x : PowerState) : (setPwr x s).key = s.key := rfl
@[simp] theorem setPwr_pwr (s : State) (x : PowerState) : (setPwr x s).pwr = x := rfl
@[simp] theorem setPwr_host (s : State) (x : PowerState) : (setPwr x s).host = s.host := rfl
@[simp] theorem setPwr_fab (s : State) (x : PowerState) : (setPwr x s).fab = s.fab := rfl

/-! setHost -/

@[simp] theorem setHost_pending (s : State) (x : HostState) : (setHost x s).pending = s.pending := rfl
@[simp] theorem setHost_out (s : State) (x : HostState) : (setHost x s).out = s.out := rfl
@[simp] theorem setHost_draws (s : State) (x : HostState) : (setHost x s).draws = s.draws := rfl
@[simp] theorem setHost_now (s : State) (x : HostState) : (setHost x s).now = s.now := rfl
@[simp] theorem setHost_regs (s : State) (x : HostState) : (setHost x s).regs = s.regs := rfl
@[simp] theorem setHost_live (s : State) (x : HostState) : (setHost x s).live = s.live := rfl
@[simp] theorem setHost_rig (s : State) (x : HostState) : (setHost x s).rig = s.rig := rfl
@[simp] theorem setHost_strand (s : State) (x : HostState) : (setHost x s).strand = s.strand := rfl
@[simp] theorem setHost_wire (s : State) (x : HostState) : (setHost x s).wire = s.wire := rfl
@[simp] theorem setHost_spl (s : State) (x : HostState) : (setHost x s).spl = s.spl := rfl
@[simp] theorem setHost_eng (s : State) (x : HostState) : (setHost x s).eng = s.eng := rfl
@[simp] theorem setHost_store (s : State) (x : HostState) : (setHost x s).store = s.store := rfl
@[simp] theorem setHost_aud (s : State) (x : HostState) : (setHost x s).aud = s.aud := rfl
@[simp] theorem setHost_tim (s : State) (x : HostState) : (setHost x s).tim = s.tim := rfl
@[simp] theorem setHost_fid (s : State) (x : HostState) : (setHost x s).fid = s.fid := rfl
@[simp] theorem setHost_rst (s : State) (x : HostState) : (setHost x s).rst = s.rst := rfl
@[simp] theorem setHost_key (s : State) (x : HostState) : (setHost x s).key = s.key := rfl
@[simp] theorem setHost_pwr (s : State) (x : HostState) : (setHost x s).pwr = s.pwr := rfl
@[simp] theorem setHost_host (s : State) (x : HostState) : (setHost x s).host = x := rfl
@[simp] theorem setHost_fab (s : State) (x : HostState) : (setHost x s).fab = s.fab := rfl

/-! Reads after writes -/

theorem State.reg_setReg (s : State) (a b : Nat) (v : Word) :
    (s.setReg a v).reg b = if b = a then v else s.reg b := by
  simp only [State.reg, State.setReg]
  exact getD_tabPut regDefault a b v s.regs

theorem State.liveReg_setLive (s : State) (a b : Nat) (v : Word) :
    (s.setLive a v).liveReg b = if b = a then v else s.liveReg b := by
  simp only [State.liveReg, State.setLive]
  exact getD_tabPut regDefault a b v s.live

theorem State.liveReg_setReg (s : State) (a b : Nat) (v : Word) : (s.setReg a v).liveReg b = s.liveReg b := rfl

theorem State.reg_setLive (s : State) (a b : Nat) (v : Word) : (s.setLive a v).reg b = s.reg b := rfl

theorem State.fence_setFence (s : State) (t n u m : Nat) (v : DWord) :
    (setFence t n v s).fence u m = if 256 * u + m = 256 * t + n then v else s.fence u m := by
  simp only [State.fence, setFence]
  exact tabGetD_tabPut 0 _ _ _ _

theorem State.canonical_mem {s : State} (h : s.canonical = true) : Memory.wf s.store.mem = true := by
  simp only [State.canonical, Bool.and_eq_true] at h
  exact h.1.1.2

@[simp] theorem run_eq (f : State → State) (s : State) : run f s = .next (f s.begin) := rfl

end Sys2Proof.Machine
end

