-- ==== Sys2Proof/Laws/Reports.lean ====
section
/-! SUPPORT. What reporting to hosts can do: posting events and completions touches the tenancies' windows and rings, fences, the outputs and nothing else. -/

namespace Sys2Proof.Machine

open Sys2Proof

theorem Reports.refl (l : List Nat) (s : State) : Reports l s s := ⟨rfl, fun _ _ _ => rfl⟩

theorem Reports.trans {l m : List Nat} {s t u : State} (h : Reports l s t) (g : Reports m t u) : Reports (l ++ m) s u := by
  refine ⟨?_, fun a ha hl => ?_⟩
  · obtain ⟨h, _⟩ := h
    obtain ⟨g, _⟩ := g
    rw [g]
    rw [h]
  · rw [List.mem_append, not_or] at hl
    rw [g.2 a ha hl.2, h.2 a ha hl.1]

theorem Reports.mono {l m : List Nat} {s t : State} (h : Reports l s t) (hl : ∀ a ∈ l, a ∈ m) : Reports m s t :=
  ⟨h.1, fun a ha hm => h.2 a ha (fun hc => hm (hl a hc))⟩

/-- Reporting after reporting. -/
theorem Reports.comp {l : List Nat} {s t u : State} (h : Reports l s t) (g : Reports l t u) : Reports l s u :=
  (h.trans g).mono (fun _ ha => by simpa using ha)

/-- Reporting that changes no register outside the tenancies' windows follows any. -/
theorem Reports.then {l : List Nat} {s t u : State} (h : Reports l s t) (g : Reports [] t u) : Reports l s u :=
  (h.trans g).mono (fun _ ha => by simpa using ha)

theorem Reports.setReg (a : Nat) (v : Word) (s : State) : Reports [a] s (s.setReg a v) :=
  ⟨rfl, fun b _ hb => by rw [State.reg_setReg, if_neg (by simpa using hb)]⟩

theorem Reports.setF (a hi lo v : Nat) (s : State) : Reports [a] s (s.setF a hi lo v) := Reports.setReg _ _ _
theorem Reports.setBit (a b : Nat) (v : Bool) (s : State) : Reports [a] s (s.setBit a b v) := Reports.setReg _ _ _
theorem Reports.bump (a n : Nat) (s : State) : Reports [a] s (s.bump a n) := Reports.setReg _ _ _

/-- A write in a tenancy's window. -/
theorem Reports.setRegTen {a : Nat} (h : inTen a = true) (v : Word) (s : State) : Reports [] s (s.setReg a v) :=
  ⟨rfl, fun b hb _ => by rw [State.reg_setReg, if_neg (fun e => by rw [e] at hb; exact Bool.noConfusion (hb.symm.trans h))]⟩

theorem inTen_of {a : Nat} (h1 : 0x10000 ≤ a) (h2 : a < 0x18000) : inTen a = true := by simp [inTen, h1, h2]

theorem inTen_evqCoal {t : Nat} (h : t < 4) : inTen (Reg.tenEvqCoal t) = true := inTen_of (by unfold Reg.tenEvqCoal; omega) (by unfold Reg.tenEvqCoal; omega)
theorem inTen_evtLostCnt {t : Nat} (h : t < 4) : inTen (Reg.tenEvtLostCnt t) = true :=
  inTen_of (by unfold Reg.tenEvtLostCnt; omega) (by unfold Reg.tenEvtLostCnt; omega)
theorem inTen_event {t : Nat} (h : t < 4) : inTen (Reg.tenEvent t) = true := inTen_of (by unfold Reg.tenEvent; omega) (by unfold Reg.tenEvent; omega)
theorem inTen_cqCoal {t c : Nat} (h : t < 4) (hc : c < 64) : inTen (Reg.tenCqCoal t c) = true :=
  inTen_of (by unfold Reg.tenCqCoal; omega) (by unfold Reg.tenCqCoal; omega)
theorem inTen_cmdCnt {t : Nat} (h : t < 4) : inTen (Reg.tenCmdCnt t) = true := inTen_of (by unfold Reg.tenCmdCnt; omega) (by unfold Reg.tenCmdCnt; omega)

theorem Reports.emit (o : Output) (s : State) : Reports [] s (s.emit o) := ⟨rfl, fun _ _ _ => rfl⟩
theorem Reports.setEvq (t : Nat) (r : RingState EventEntry) (s : State) : Reports [] s (s.setEvq t r) := ⟨rfl, fun _ _ _ => rfl⟩
theorem Reports.setCq (t c : Nat) (r : RingState Completion) (s : State) : Reports [] s (s.setCq t c r) := ⟨rfl, fun _ _ _ => rfl⟩
theorem Reports.setFence (t n : Nat) (v : DWord) (s : State) : Reports [] s (Machine.setFence t n v s) := ⟨rfl, fun _ _ _ => rfl⟩
theorem Reports.draw (s : State) : Reports [] s s.draw := ⟨rfl, fun _ _ _ => rfl⟩
theorem Reports.begin (s : State) : Reports [] s s.begin := ⟨rfl, fun _ _ _ => rfl⟩

theorem writeEvent_reports {t : Nat} (ht : t < 4) (e : EventEntry) (s : State) : Reports [] s (writeEvent t e s) :=
  ((Reports.setEvq t _ s).then (Reports.setRegTen (inTen_evqCoal ht) _ _)).then (Reports.emit _ _)

/-- Posting an event (R613, R638, R641). -/
theorem postEvent_reports (t : Nat) (e : EventEntry) (s : State) : Reports [] s (postEvent t e s) := by
  unfold postEvent
  split
  · exact Reports.refl _ _
  · rename_i h
    have ht : t < 4 := by
      simp only [Bool.or_eq_true, decide_eq_true_eq, not_or, Nat.not_le] at h
      exact h.1
    dsimp only
    split
    · exact Reports.setEvq _ _ _
    · split
      · exact ((Reports.setEvq _ _ _).then (Reports.setRegTen (inTen_evtLostCnt ht) _ _)).then
          (Reports.setRegTen (inTen_event ht) _ _)
      · exact writeEvent_reports ht e s

theorem postTo_reports (owner : Option Nat) (type object code : Nat) (data : List Byte) (s : State) :
    Reports [] s (postTo owner type object code data s) := by
  cases owner
  · exact Reports.refl _ _
  · exact postEvent_reports _ _ _

/-- Raising an event bit sets it, and posts where its register says so (R638, R639). -/
theorem raiseBit_reports (owner : Option Nat) (post : Bool) (obj ev b : Nat) (s : State) : Reports [ev] s (raiseBit owner post obj ev b s) := by
  simp only [raiseBit]
  split
  · exact (Reports.setBit _ _ _ _).then (postTo_reports _ _ _ _ _ _)
  · exact Reports.setBit _ _ _ _

theorem raiseEn_reports (owner : Option Nat) (obj ev en b : Nat) (s : State) : Reports [ev] s (raiseEn owner obj ev en b s) :=
  raiseBit_reports _ _ _ _ _ _

theorem raiseTen_reports (t b : Nat) (s : State) : Reports [] s (raiseTen t b s) := by
  unfold raiseTen
  split
  · exact Reports.refl _ _
  · rename_i h
    have h := raiseEn_reports (some t) (objTenancy t) (Reg.tenEvent t) (Reg.tenEventEn t) b s
    refine ⟨h.1, fun a ha _ => h.2 a ha (fun hc => ?_)⟩
    rw [List.mem_singleton] at hc
    rw [hc, inTen_event (by omega)] at ha
    exact Bool.noConfusion ha

theorem tenancyEvent_reports (t code : Nat) (s : State) : Reports [] s (tenancyEvent t code s) := postTo_reports _ _ _ _ _ _

theorem raiseRig_reports (b : Nat) (s : State) : Reports [Reg.sysRigEvent] s (raiseRig b s) := raiseBit_reports _ _ _ _ _ _

theorem raiseFab_reports (b : Nat) (s : State) : Reports [Reg.fabEvent] s (raiseFab b s) := raiseEn_reports _ _ _ _ _ _

/-- The event register holds its bit after the event is raised, outside the tenancies' windows. -/
theorem raiseBit_reg {ev : Nat} (hev : inTen ev = false) (owner : Option Nat) (post : Bool) (obj b : Nat) (s : State) :
    (raiseBit owner post obj ev b s).reg ev = setFld (s.reg ev) b b 1 := by
  have h : (s.setBit ev b true).reg ev = setFld (s.reg ev) b b 1 := by simp [State.setBit, State.setF, State.reg_setReg, b2n]
  simp only [raiseBit]
  split
  · rw [(postTo_reports _ _ _ _ _ _).2 ev hev (by simp), h]
  · exact h

theorem postCompletion_reports (t c : Nat) (e : Completion) (s : State) : Reports [] s (postCompletion t c e s) := by
  unfold postCompletion
  split
  · exact Reports.refl _ _
  · rename_i h
    have ht : t < 4 ∧ c < 64 := by omega
    dsimp only
    split
    · split
      · exact Reports.refl _ _
      · exact Reports.setCq _ _ _ _
    split
    · exact (Reports.setCq _ _ _ _).then (raiseTen_reports _ _ _)
    · split
      · exact Reports.setCq _ _ _ _
      · exact (((Reports.setCq _ _ _ _).then (Reports.setRegTen (inTen_cqCoal ht.1 ht.2) _ _)).then
          (Reports.setRegTen (inTen_cmdCnt ht.1) _ _)).then (Reports.emit _ _)

/-- Completing a command (R627, R642). -/
theorem completeWith_reports (o : Origin) (st obj result : Nat) (poisoned : Bool) (s : State) :
    Reports [] s (completeWith o st obj result poisoned s) := by
  unfold completeWith
  split
  · exact Reports.refl _ _
  · dsimp only
    split
    · exact (Reports.setFence _ _ _ _).then (postCompletion_reports _ _ _ _)
    · exact postCompletion_reports _ _ _ _

theorem complete_reports (o : Origin) (st : Status) (obj : Nat) (s : State) : Reports [] s (complete o st obj s) :=
  completeWith_reports _ _ _ _ _ _

theorem completeOk_reports (o : Origin) (s : State) : Reports [] s (completeOk o s) := completeWith_reports _ _ _ _ _ _

theorem completeAll_reports (os : List Origin) (st obj : Nat) (s : State) : Reports [] s (completeAll os st obj s) := by
  induction os generalizing s with
  | nil => exact Reports.refl _ _
  | cons o os ih => exact (completeWith_reports o st obj 0 false s).then (ih _)

/-- The parts of the state that reporting leaves alone. -/
theorem Reports.parts {l : List Nat} {s t : State} (h : Reports l s t) :
    t.rig = s.rig ∧ t.strand = s.strand ∧ t.wire = s.wire ∧ t.spl = s.spl ∧ t.eng = s.eng ∧ t.store = s.store ∧ t.aud = s.aud ∧ t.tim = s.tim ∧
    t.fid = s.fid ∧ t.rst = s.rst ∧ t.key = s.key ∧ t.pwr = s.pwr ∧ t.fab = s.fab ∧ t.live = s.live ∧ t.now = s.now ∧ t.pending = s.pending := by
  rw [h.1]
  exact ⟨rfl, rfl, rfl, rfl, rfl, rfl, rfl, rfl, rfl, rfl, rfl, rfl, rfl, rfl, rfl, rfl⟩

end Sys2Proof.Machine
end

