-- ==== Sys2Proof/Laws/Fids.lean ====
section
/-! SUPPORT. Threads of the fids: what replacing one leaves, what setting a register of one answers, and that a thread about to issue an instruction issues it. -/

namespace Sys2Proof.Machine

open Sys2Proof

theorem fidOf_setFid (f g : Nat) (v : Fid) (s : State) : (setFid f v s).fidOf g = if g = f then v else s.fidOf g := by
  simp [State.fidOf, setFid, tabGetD_tabSet]

theorem thread_setThread (f : Nat) (hook : Bool) (t : Thread) (s : State) (g : Nat) (h : Bool) :
    (setThread f hook t s).thread g h = if g = f ∧ h = hook then t else s.thread g h := by
  unfold setThread State.thread
  rw [fidOf_setFid]
  by_cases hg : g = f
  · subst hg; cases hook <;> cases h <;> simp
  · simp [hg]

/-- Replacing a thread changes nothing else. -/
theorem onlyThread_setThread (f : Nat) (hook : Bool) (t : Thread) (s : State) : OnlyThread f hook s (setThread f hook t s) := by
  refine ⟨rfl, ?_, ?_⟩
  · intro g; unfold setThread; rw [fidOf_setFid]
    by_cases hg : g = f
    · subst hg; cases hook
      · exact ⟨t, (s.fidOf g).hook, by simp⟩
      · exact ⟨(s.fidOf g).sys, t, by simp⟩
    · exact ⟨(s.fidOf g).sys, (s.fidOf g).hook, by simp [hg]⟩
  · intro g h hh; rw [thread_setThread, if_neg]; rintro ⟨rfl, rfl⟩; simp at hh

/-- A register of a thread after one is written. -/
theorem Thread.g_put (t : Thread) (r q : Nat) (v : Word) : (t.put r v).g q = if q = r ∧ q ≠ 0 then v else t.g q := by
  unfold Thread.put Thread.g
  by_cases hr : r = 0
  · subst hr; by_cases hq : q = 0 <;> simp [hq]
  · by_cases hq : q = 0
    · simp [hq]
    · simp only [hr, hq, if_false, ne_eq, not_false_eq_true, and_true, tabGetD_tabPut]
      by_cases h : q = r
      · subst h; simp [wd]
      · simp [h]

@[simp] theorem Thread.put_pc (t : Thread) (r : Nat) (v : Word) : (t.put r v).pc = t.pc := by unfold Thread.put; split <;> rfl
@[simp] theorem Thread.put_wbuf (t : Thread) (r : Nat) (v : Word) : (t.put r v).wbuf = t.wbuf := by unfold Thread.put; split <;> rfl
@[simp] theorem Thread.put_set (t : Thread) (r : Nat) (v : Word) : (t.put r v).set = t.set := by unfold Thread.put; split <;> rfl

/-- The registers of a thread do not depend on its program counter, buffer or SET. -/
theorem Thread.g_congr {t u : Thread} (h : u.regs = t.regs) (q : Nat) : u.g q = t.g q := by unfold Thread.g; rw [h]

/-- A thread about to issue an instruction issues it. -/
theorem issueIf_eq {s : State} {f : Nat} {hook : Bool} {w : Word} (h : Issues s f hook w) (op : Nat → Bool) (eff : Word → State → State)
    (hop : op (fld w 31 26) = true) : issueIf f hook op eff s.begin = eff w s.begin := by
  obtain ⟨h1, h2, h3⟩ := h
  have e : w = wd (s.begin.fidWord f (s.begin.thread f hook).pc) := h3
  have h1' : s.begin.threadReady f hook = true := h1
  have h2' : s.begin.mayFetch f hook (s.begin.thread f hook).pc = true := h2
  unfold issueIf
  simp only [h1', h2', Bool.not_true, Bool.false_eq_true, if_false]
  rw [← e, opOf, hop, if_pos rfl]

theorem issue_eq {s : State} {f : Nat} {hook : Bool} {w : Word} (h : Issues s f hook w) (op : Nat) (eff : Word → State → State)
    (hop : fld w 31 26 = op) : issue f hook op eff s.begin = eff w s.begin := issueIf_eq h _ eff (by simp [hop])

/-- An outcome that replaces the thread alone by one that goes on at `next` with gA set. -/
theorem sets_setThread (f : Nat) (hook : Bool) (s : State) (r : Nat) (v : Word) (next : Nat) :
    Sets f hook s r v next (.next (setThread f hook { (s.thread f hook).put r v with pc := next } s.begin)) := by
  refine ⟨_, rfl, ?_, ?_, ?_, ?_, ?_⟩
  · exact onlyThread_setThread f hook _ s.begin
  all_goals simp only [thread_setThread, and_self, if_true]
  · exact Thread.put_wbuf _ _ _
  · exact Thread.put_set _ _ _
  · intro q; rw [← Thread.g_put]; exact Thread.g_congr rfl q

theorem sets_setA (f : Nat) (hook : Bool) (s : State) (r : Nat) (v : Word) :
    Sets f hook s r v ((s.thread f hook).pc + 4) (.next (setA f hook r v s.begin)) := sets_setThread f hook s r v _

theorem goes_stepOn (f : Nat) (hook : Bool) (s : State) : Goes f hook s ((s.thread f hook).pc + 4) (.next (stepOn f hook s.begin)) :=
  sets_setThread f hook s 0 0 _

/-- A jump to an address in the thread's code. -/
theorem sets_goTo (f : Nat) (hook : Bool) (s : State) (r dst : Nat) (target : Int) (ht : target = dst) (h : s.mayFetch f hook dst = true) :
    Sets f hook s r (wd ((s.thread f hook).pc + 4)) dst (.next (goTo f hook r target s.begin)) := by
  subst ht
  have h' : s.begin.mayFetch f hook dst = true := h
  have e : goTo f hook r dst s.begin = setThread f hook { (s.thread f hook).put r (wd ((s.thread f hook).pc + 4)) with pc := dst } s.begin := by
    unfold goTo
    simp [h']
    rfl
  rw [e]
  exact sets_setThread f hook s r _ dst

/-- The sign-extended immediate as an integer (R582). -/
theorem sx_ofLt (n v : Nat) (h : v < 2 ^ n) : sx n v = if v < 2 ^ (n - 1) then (v : Int) else (v : Int) - 2 ^ n := by
  unfold sx
  rw [Nat.mod_eq_of_lt h]
  split <;> simp_all

end Sys2Proof.Machine
end

