-- ==== Sys2Proof/Laws/KeepsOps.lean ====
section
/-! SUPPORT. What every operation of these files keeps: the named operations, records, lanes, timing, engines, charges and the belay. -/

set_option linter.unreachableTactic false
set_option linter.unusedTactic false
set_option linter.unusedVariables false

namespace Sys2Proof.Machine

open Sys2Proof

/-- What every operation on the state does beside its own effect: the queue of commands stays, free values are only drawn, tables
stay canonical, the owner lock page only grows (R702) and an antifuse stays programmed (R703, R708). -/
structure Keeps (s t : State) : Prop where
  pending : t.pending = s.pending
  draws : s.draws ≤ t.draws
  canon : s.canonical = true → t.canonical = true
  page : s.rst.lockPage <+: t.rst.lockPage
  locked : s.rst.locked = true → t.rst.locked = true
  rooted : s.key.rooted = true → t.key.rooted = true

theorem Keeps.refl (s : State) : Keeps s s := ⟨rfl, le_refl _, id, List.prefix_refl _, id, id⟩

theorem Keeps.trans {s t u : State} (h : Keeps s t) (g : Keeps t u) : Keeps s u :=
  ⟨g.pending.trans h.pending, h.draws.trans g.draws, g.canon ∘ h.canon, h.page.trans g.page, g.locked ∘ h.locked, g.rooted ∘ h.rooted⟩

/-- An update of fields that `Keeps` does not speak of. -/
theorem Keeps.upd {s0 s : State} {out : List Output} {now : Nat} {rig : RigState} {strand : StrandState} {wire : WireState}
    {spl : SpliceState} {eng : EngineState} {store : StoreState} {aud : AudioState} {tim : TimeState} {fid : FidState}
    {rst : RecordState} {key : KeyState} {pwr : PowerState} {host : HostState} {fab : FabricState} (h : Keeps s0 s)
    (hm : store.mem = s.store.mem) (hf : fid.mem = s.fid.mem) (hs : fab.sram = s.fab.sram)
    (hk : rst.lockPage = s.rst.lockPage) (ho : rst.locked = s.rst.locked) (ht : key.rooted = s.key.rooted) :
    Keeps s0 ⟨s.pending, out, s.draws, now, s.regs, s.live, rig, strand, wire, spl, eng, store, aud, tim, fid, rst, key, pwr, host, fab⟩ :=
  ⟨h.pending, h.draws, fun c => by
      have := h.canon c
      simp only [State.canonical] at this ⊢
      rw [hm, hf, hs]; exact this,
    hk ▸ h.page, fun c => by rw [ho]; exact h.locked c, fun c => by rw [ht]; exact h.rooted c⟩

theorem State.draw_keeps {s0 : State} (s : State) (h : Keeps s0 s) : Keeps s0 (State.draw s) :=
  ⟨h.pending, h.draws.trans (Nat.le_succ _), h.canon, h.page, h.locked, h.rooted⟩

theorem State.setReg_keeps {s0 : State} (s : State) (a : Nat) (v : Word) (h : Keeps s0 s) : Keeps s0 (State.setReg s a v) :=
  ⟨h.pending, h.draws, fun c => by
      have := h.canon c
      simp only [State.canonical, State.setReg, Bool.and_eq_true] at this ⊢
      exact ⟨⟨⟨⟨tabCanon_tabPut this.1.1.1.1, this.1.1.1.2⟩, this.1.1.2⟩, this.1.2⟩, this.2⟩,
    h.page, h.locked, h.rooted⟩

theorem State.setLive_keeps {s0 : State} (s : State) (a : Nat) (v : Word) (h : Keeps s0 s) : Keeps s0 (State.setLive s a v) :=
  ⟨h.pending, h.draws, fun c => by
      have := h.canon c
      simp only [State.canonical, State.setLive, Bool.and_eq_true] at this ⊢
      exact ⟨⟨⟨⟨this.1.1.1.1, tabCanon_tabPut this.1.1.1.2⟩, this.1.1.2⟩, this.1.2⟩, this.2⟩,
    h.page, h.locked, h.rooted⟩

theorem Keeps.ite {s0 a b : State} {c : Prop} [Decidable c] (ha : Keeps s0 a) (hb : Keeps s0 b) : Keeps s0 (if c then a else b) := by
  split <;> assumption

theorem foldl_keeps {α : Type} {s0 s : State} {f : State → α → State} (l : List α) (h : Keeps s0 s)
    (hf : ∀ x a, Keeps s0 x → Keeps s0 (f x a)) : Keeps s0 (l.foldl f s) := by
  induction l generalizing s with
  | nil => exact h
  | cons a l ih => exact ih (hf _ _ h)

theorem foldl_pair_keeps {α β : Type} {s0 : State} {f : State × β → α → State × β} {p : State × β} (l : List α) (h : Keeps s0 p.1)
    (hf : ∀ q a, Keeps s0 q.1 → Keeps s0 (f q a).1) : Keeps s0 (l.foldl f p).1 := by
  induction l generalizing p with
  | nil => exact h
  | cons a l ih => exact ih (hf _ _ h)

/-! Ops -/

theorem setBothF_keeps {s0 : State} (a hi lo v : Nat) (s : State) (hK : Keeps s0 s) :
    Keeps s0 (setBothF a hi lo v s) := by
  unfold setBothF
  repeat' first
    | with_reducible assumption | with_reducible apply State.setReg_keeps | with_reducible apply State.setLive_keeps

theorem State.setF_keeps {s0 : State} (s : State) (a hi lo v : Nat) (hK : Keeps s0 s) :
    Keeps s0 (State.setF s a hi lo v) := by
  unfold State.setF
  repeat' first
    | with_reducible assumption | with_reducible apply State.setReg_keeps

theorem State.setBit_keeps {s0 : State} (s : State) (a b : Nat) (v : Bool) (hK : Keeps s0 s) :
    Keeps s0 (State.setBit s a b v) := by
  unfold State.setBit
  repeat' first
    | with_reducible assumption | with_reducible apply State.setF_keeps

theorem State.bump_keeps {s0 : State} (s : State) (a n : Nat) (hK : Keeps s0 s) :
    Keeps s0 (State.bump s a n) := by
  unfold State.bump
  repeat' first
    | with_reducible assumption | with_reducible apply State.setReg_keeps

theorem unlessStopped_keeps {s0 : State} (z : Nat) (f : State → State) (s : State) (hK : Keeps s0 s) (hf : ∀ (a0 : State), Keeps s0 a0 → Keeps s0 (f a0)) :
    Keeps s0 (unlessStopped z f s) := by
  unfold unlessStopped
  repeat' first
    | with_reducible assumption | with_reducible apply hf | with_reducible apply Keeps.ite | split

theorem State.emit_keeps {s0 : State} (s : State) (o : Output) (hK : Keeps s0 s) :
    Keeps s0 (State.emit s o) := by
  unfold State.emit
  repeat' first
    | with_reducible assumption | (extract_lets +onlyGivenNames x; have h1 : Keeps s0 x := ?_; clear_value x; rotate_left; subst x)
    | (extract_lets +onlyGivenNames x; subst x) | with_reducible refine Keeps.upd ?_ rfl rfl rfl rfl rfl rfl

theorem State.begin_keeps {s0 : State} (s : State) (hK : Keeps s0 s) :
    Keeps s0 (State.begin s) := by
  unfold State.begin
  repeat' first
    | with_reducible assumption | (extract_lets +onlyGivenNames x; have h1 : Keeps s0 x := ?_; clear_value x; rotate_left; subst x)
    | (extract_lets +onlyGivenNames x; subst x) | with_reducible refine Keeps.upd ?_ rfl rfl rfl rfl rfl rfl

theorem State.setEvq_keeps {s0 : State} (s : State) (t : Nat) (r : RingState EventEntry) (hK : Keeps s0 s) :
    Keeps s0 (State.setEvq s t r) := by
  unfold State.setEvq
  repeat' first
    | with_reducible assumption | (extract_lets +onlyGivenNames x; have h1 : Keeps s0 x := ?_; clear_value x; rotate_left; subst x)
    | (extract_lets +onlyGivenNames x; subst x) | with_reducible refine Keeps.upd ?_ rfl rfl rfl rfl rfl rfl

theorem State.setCq_keeps {s0 : State} (s : State) (t c : Nat) (r : RingState Completion) (hK : Keeps s0 s) :
    Keeps s0 (State.setCq s t c r) := by
  unfold State.setCq
  repeat' first
    | with_reducible assumption | (extract_lets +onlyGivenNames x; have h1 : Keeps s0 x := ?_; clear_value x; rotate_left; subst x)
    | (extract_lets +onlyGivenNames x; subst x) | with_reducible refine Keeps.upd ?_ rfl rfl rfl rfl rfl rfl

theorem writeEvent_keeps {s0 : State} (t : Nat) (e : EventEntry) (s : State) (hK : Keeps s0 s) :
    Keeps s0 (writeEvent t e s) := by
  unfold writeEvent
  repeat' first
    | with_reducible assumption | (extract_lets +onlyGivenNames x; have h1 : Keeps s0 x := ?_; clear_value x; rotate_left; subst x)
    | (extract_lets +onlyGivenNames x; subst x) | with_reducible apply State.setF_keeps | with_reducible apply State.emit_keeps
    | with_reducible apply State.setEvq_keeps | with_reducible apply Keeps.ite | split | with_reducible refine Keeps.upd ?_ rfl rfl rfl rfl rfl rfl

theorem postEvent_keeps {s0 : State} (t : Nat) (e : EventEntry) (s : State) (hK : Keeps s0 s) :
    Keeps s0 (postEvent t e s) := by
  unfold postEvent
  repeat' first
    | with_reducible assumption | (extract_lets +onlyGivenNames x; have h1 : Keeps s0 x := ?_; clear_value x; rotate_left; subst x)
    | (extract_lets +onlyGivenNames x; subst x) | with_reducible apply State.setBit_keeps | with_reducible apply State.bump_keeps
    | with_reducible apply State.setEvq_keeps | with_reducible apply writeEvent_keeps | with_reducible apply Keeps.ite | split
    | with_reducible refine Keeps.upd ?_ rfl rfl rfl rfl rfl rfl

theorem postTo_keeps {s0 : State} (owner : Option Nat) (type object code : Nat) (data : List Byte) (s : State) (hK : Keeps s0 s) :
    Keeps s0 (postTo owner type object code data s) := by
  unfold postTo
  repeat' first
    | with_reducible assumption | with_reducible apply postEvent_keeps | with_reducible apply Keeps.ite | split
    | with_reducible refine Keeps.upd ?_ rfl rfl rfl rfl rfl rfl

theorem raiseBit_keeps {s0 : State} (owner : Option Nat) (post : Bool) (obj ev b : Nat) (s : State) (hK : Keeps s0 s) :
    Keeps s0 (raiseBit owner post obj ev b s) := by
  unfold raiseBit
  repeat' first
    | with_reducible assumption | (extract_lets +onlyGivenNames x; have h1 : Keeps s0 x := ?_; clear_value x; rotate_left; subst x)
    | (extract_lets +onlyGivenNames x; subst x) | with_reducible apply State.setBit_keeps | with_reducible apply postTo_keeps
    | with_reducible apply Keeps.ite | split

theorem raiseEn_keeps {s0 : State} (owner : Option Nat) (obj ev en b : Nat) (s : State) (hK : Keeps s0 s) :
    Keeps s0 (raiseEn owner obj ev en b s) := by
  unfold raiseEn
  repeat' first
    | with_reducible assumption | with_reducible apply raiseBit_keeps

theorem raiseTen_keeps {s0 : State} (t b : Nat) (s : State) (hK : Keeps s0 s) :
    Keeps s0 (raiseTen t b s) := by
  unfold raiseTen
  repeat' first
    | with_reducible assumption | with_reducible apply raiseEn_keeps | with_reducible apply Keeps.ite | split

theorem tenancyEvent_keeps {s0 : State} (t code : Nat) (s : State) (hK : Keeps s0 s) :
    Keeps s0 (tenancyEvent t code s) := by
  unfold tenancyEvent
  repeat' first
    | with_reducible assumption | with_reducible apply postTo_keeps

theorem raiseRig_keeps {s0 : State} (b : Nat) (s : State) (hK : Keeps s0 s) :
    Keeps s0 (raiseRig b s) := by
  unfold raiseRig
  repeat' first
    | with_reducible assumption | with_reducible apply raiseBit_keeps

theorem alert_keeps {s0 : State} (b : Nat) (s : State) (hK : Keeps s0 s) :
    Keeps s0 (alert b s) := by
  unfold alert
  repeat' first
    | with_reducible assumption | (extract_lets +onlyGivenNames x; have h1 : Keeps s0 x := ?_; clear_value x; rotate_left; subst x)
    | (extract_lets +onlyGivenNames x; subst x) | with_reducible refine Keeps.upd ?_ rfl rfl rfl rfl rfl rfl

theorem setFence_keeps {s0 : State} (t n : Nat) (v : DWord) (s : State) (hK : Keeps s0 s) :
    Keeps s0 (setFence t n v s) := by
  unfold setFence
  repeat' first
    | with_reducible assumption | (extract_lets +onlyGivenNames x; have h1 : Keeps s0 x := ?_; clear_value x; rotate_left; subst x)
    | (extract_lets +onlyGivenNames x; subst x) | with_reducible refine Keeps.upd ?_ rfl rfl rfl rfl rfl rfl

theorem writeCompletion_keeps {s0 : State} (t c : Nat) (e : Completion) (s : State) (hK : Keeps s0 s) :
    Keeps s0 (writeCompletion t c e s) := by
  unfold writeCompletion
  repeat' first
    | with_reducible assumption | (extract_lets +onlyGivenNames x; have h1 : Keeps s0 x := ?_; clear_value x; rotate_left; subst x)
    | (extract_lets +onlyGivenNames x; subst x) | with_reducible apply State.setF_keeps | with_reducible apply State.bump_keeps
    | with_reducible apply State.emit_keeps | with_reducible apply State.setCq_keeps | with_reducible apply Keeps.ite | split
    | with_reducible refine Keeps.upd ?_ rfl rfl rfl rfl rfl rfl

theorem postCompletion_keeps {s0 : State} (t c : Nat) (e : Completion) (s : State) (hK : Keeps s0 s) :
    Keeps s0 (postCompletion t c e s) := by
  unfold postCompletion
  repeat' first
    | with_reducible assumption | (extract_lets +onlyGivenNames x; have h1 : Keeps s0 x := ?_; clear_value x; rotate_left; subst x)
    | (extract_lets +onlyGivenNames x; subst x) | with_reducible apply State.setCq_keeps | with_reducible apply raiseTen_keeps
    | with_reducible apply writeCompletion_keeps | with_reducible apply Keeps.ite | split | with_reducible refine Keeps.upd ?_ rfl rfl rfl rfl rfl rfl

theorem completeWith_keeps {s0 : State} (o : Origin) (st obj result : Nat) (poisoned : Bool) (s : State) (hK : Keeps s0 s) :
    Keeps s0 (completeWith o st obj result poisoned s) := by
  unfold completeWith
  repeat' first
    | with_reducible assumption | (extract_lets +onlyGivenNames x; have h1 : Keeps s0 x := ?_; clear_value x; rotate_left; subst x)
    | (extract_lets +onlyGivenNames x; subst x) | with_reducible apply setFence_keeps | with_reducible apply postCompletion_keeps
    | with_reducible apply Keeps.ite | split

theorem complete_keeps {s0 : State} (o : Origin) (st : Status) (obj : Nat) (s : State) (hK : Keeps s0 s) :
    Keeps s0 (complete o st obj s) := by
  unfold complete
  repeat' first
    | with_reducible assumption | with_reducible apply completeWith_keeps

theorem completeOk_keeps {s0 : State} (o : Origin) (s : State) (hK : Keeps s0 s) :
    Keeps s0 (completeOk o s) := by
  unfold completeOk
  repeat' first
    | with_reducible assumption | with_reducible apply complete_keeps

theorem completeAll_keeps {s0 : State} (os : List Origin) (st obj : Nat) (s : State) (hK : Keeps s0 s) :
    Keeps s0 (completeAll os st obj s) := by
  unfold completeAll
  repeat' first
    | with_reducible assumption | intro _ | with_reducible apply completeWith_keeps | with_reducible apply foldl_keeps

theorem foreign_keeps {s0 : State} (t : Nat) (s : State) (hK : Keeps s0 s) :
    Keeps s0 (foreign t s) := by
  unfold foreign
  repeat' first
    | with_reducible assumption | with_reducible apply State.bump_keeps

theorem dropWrite_keeps {s0 : State} (s : State) (hK : Keeps s0 s) :
    Keeps s0 (dropWrite s) := by
  unfold dropWrite
  repeat' first
    | with_reducible assumption | with_reducible apply State.setF_keeps

theorem gatedWrite_keeps {s0 : State} (m : Master) (a : Nat) (f : Loc → State → State) (s : State) (hK : Keeps s0 s) (hf : ∀ (a0 : Loc) (a1 : State), Keeps s0 a1 → Keeps s0 (f a0 a1)) :
    Keeps s0 (gatedWrite m a f s) := by
  unfold gatedWrite
  repeat' first
    | with_reducible assumption | with_reducible apply hf | with_reducible apply foreign_keeps | with_reducible apply dropWrite_keeps
    | with_reducible apply Keeps.ite | split | with_reducible refine Keeps.upd ?_ rfl rfl rfl rfl rfl rfl

theorem gatedRead_keeps {s0 : State} (m : Master) (a : Nat) (f : Loc → State → State) (s : State) (hK : Keeps s0 s) (hf : ∀ (a0 : Loc) (a1 : State), Keeps s0 a1 → Keeps s0 (f a0 a1)) :
    Keeps s0 (gatedRead m a f s) := by
  unfold gatedRead
  repeat' first
    | with_reducible assumption | with_reducible apply hf | with_reducible apply State.emit_keeps | with_reducible apply foreign_keeps
    | with_reducible apply Keeps.ite | split | with_reducible refine Keeps.upd ?_ rfl rfl rfl rfl rfl rfl

theorem plainWrite_keeps {s0 : State} (l : Loc) (a : Nat) (v : Word) (s : State) (hK : Keeps s0 s) :
    Keeps s0 (plainWrite l a v s) := by
  unfold plainWrite
  repeat' first
    | with_reducible assumption | with_reducible apply State.setReg_keeps | with_reducible apply Keeps.ite | split
    | with_reducible refine Keeps.upd ?_ rfl rfl rfl rfl rfl rfl

theorem raiseFab_keeps {s0 : State} (b : Nat) (s : State) (hK : Keeps s0 s) :
    Keeps s0 (raiseFab b s) := by
  unfold raiseFab
  repeat' first
    | with_reducible assumption | with_reducible apply raiseEn_keeps

theorem unlockFabric_keeps {s0 : State} (s : State) (hK : Keeps s0 s) :
    Keeps s0 (unlockFabric s) := by
  unfold unlockFabric
  repeat' first
    | with_reducible assumption | (extract_lets +onlyGivenNames x; have h1 : Keeps s0 x := ?_; clear_value x; rotate_left; subst x)
    | (extract_lets +onlyGivenNames x; subst x) | with_reducible apply State.setReg_keeps | with_reducible refine Keeps.upd ?_ rfl rfl rfl rfl rfl rfl

theorem masterReset_keeps {s0 : State} (m : Master) (discarded : Nat) (s : State) (hK : Keeps s0 s) :
    Keeps s0 (masterReset m discarded s) := by
  unfold masterReset
  repeat' first
    | with_reducible assumption | (extract_lets +onlyGivenNames x; have h1 : Keeps s0 x := ?_; clear_value x; rotate_left; subst x)
    | (extract_lets +onlyGivenNames x; subst x) | with_reducible apply State.bump_keeps | with_reducible apply raiseFab_keeps
    | with_reducible apply unlockFabric_keeps | with_reducible apply Keeps.ite | split | with_reducible refine Keeps.upd ?_ rfl rfl rfl rfl rfl rfl


/-! Records -/

theorem setRec_keeps {s0 : State} (r : RecordState) (s : State) (h : Keeps s0 s) (hk : r.lockPage = s.rst.lockPage) (ho : r.locked = s.rst.locked) :
    Keeps s0 (setRec r s) := Keeps.upd h rfl rfl rfl hk ho rfl

theorem setRing_keeps {s0 : State} (c : Nat) (l : List RecCopy) (s : State) (hK : Keeps s0 s) :
    Keeps s0 (setRing c l s) := by
  unfold setRing
  repeat' first
    | with_reducible assumption | ((with_reducible refine Eq.symm ?_); rfl)
    | (extract_lets +onlyGivenNames x; have h1 : Keeps s0 x := ?_; clear_value x; rotate_left; subst x) | (extract_lets +onlyGivenNames x; subst x)
    | with_reducible refine setRec_keeps _ _ ?_ ?_ ?_ | with_reducible refine Keeps.upd ?_ rfl rfl rfl rfl rfl rfl

theorem refreshRing_keeps {s0 : State} (c : Nat) (s : State) (hK : Keeps s0 s) :
    Keeps s0 (refreshRing c s) := by
  unfold refreshRing
  repeat' first
    | with_reducible assumption | intro _ | (extract_lets +onlyGivenNames x; have h1 : Keeps s0 x := ?_; clear_value x; rotate_left; subst x)
    | (extract_lets +onlyGivenNames x; subst x) | with_reducible apply State.setReg_keeps | with_reducible apply foldl_keeps

theorem placeCopy_keeps {s0 : State} (c : Nat) (x : RecCopy) (s : State) (hK : Keeps s0 s) :
    Keeps s0 (placeCopy c x s) := by
  unfold placeCopy
  repeat' first
    | with_reducible assumption | ((with_reducible refine Eq.symm ?_); rfl)
    | (extract_lets +onlyGivenNames x; have h1 : Keeps s0 x := ?_; clear_value x; rotate_left; subst x) | (extract_lets +onlyGivenNames x; subst x)
    | with_reducible refine setRec_keeps _ _ ?_ ?_ ?_ | with_reducible apply setRing_keeps | with_reducible apply Keeps.ite | split
    | with_reducible refine Keeps.upd ?_ rfl rfl rfl rfl rfl rfl

theorem setWrites_keeps {s0 : State} (l : List RecWrite) (s : State) (hK : Keeps s0 s) :
    Keeps s0 (setWrites l s) := by
  unfold setWrites
  repeat' first
    | with_reducible assumption | ((with_reducible refine Eq.symm ?_); rfl)
    | (extract_lets +onlyGivenNames x; have h1 : Keeps s0 x := ?_; clear_value x; rotate_left; subst x) | (extract_lets +onlyGivenNames x; subst x)
    | with_reducible refine setRec_keeps _ _ ?_ ?_ ?_ | with_reducible refine Keeps.upd ?_ rfl rfl rfl rfl rfl rfl

theorem writeRecord_keeps {s0 : State} (c index : Nat) (payload : List Byte) (why : RecWhy) (s : State) (hK : Keeps s0 s) :
    Keeps s0 (writeRecord c index payload why s) := by
  unfold writeRecord
  repeat' first
    | with_reducible assumption | ((with_reducible refine Eq.symm ?_); rfl)
    | (extract_lets +onlyGivenNames x; have h1 : Keeps s0 x := ?_; clear_value x; rotate_left; subst x) | (extract_lets +onlyGivenNames x; subst x)
    | with_reducible refine setRec_keeps _ _ ?_ ?_ ?_ | with_reducible apply setWrites_keeps
    | with_reducible refine Keeps.upd ?_ rfl rfl rfl rfl rfl rfl

theorem repairRecord_keeps {s0 : State} (c : Nat) (x : RecCopy) (s : State) (hK : Keeps s0 s) :
    Keeps s0 (repairRecord c x s) := by
  unfold repairRecord
  repeat' first
    | with_reducible assumption | with_reducible apply setWrites_keeps | with_reducible apply Keeps.ite | split

theorem raiseRecords_keeps {s0 : State} (b : Nat) (s : State) (hK : Keeps s0 s) :
    Keeps s0 (raiseRecords b s) := by
  unfold raiseRecords
  repeat' first
    | with_reducible assumption | with_reducible apply raiseEn_keeps

theorem deviceLog_keeps {s0 : State} (e : EventEntry) (s : State) (hK : Keeps s0 s) :
    Keeps s0 (deviceLog e s) := by
  unfold deviceLog
  repeat' first
    | with_reducible assumption | with_reducible apply writeRecord_keeps

theorem logBit_keeps {s0 : State} (obj ev b : Nat) (s : State) (hK : Keeps s0 s) :
    Keeps s0 (logBit obj ev b s) := by
  unfold logBit
  repeat' first
    | with_reducible assumption | with_reducible apply deviceLog_keeps

theorem refreshOwner_keeps {s0 : State} (s : State) (hK : Keeps s0 s) :
    Keeps s0 (refreshOwner s) := by
  unfold refreshOwner
  repeat' first
    | with_reducible assumption | intro _ | (extract_lets +onlyGivenNames x; have h1 : Keeps s0 x := ?_; clear_value x; rotate_left; subst x)
    | (extract_lets +onlyGivenNames x; subst x) | with_reducible apply State.setReg_keeps | with_reducible apply State.setF_keeps
    | with_reducible apply State.setBit_keeps | with_reducible apply foldl_keeps


/-! Lanes -/

theorem setStrand_keeps {s0 : State} (t : StrandState) (s : State) (hK : Keeps s0 s) :
    Keeps s0 (setStrand t s) := by
  unfold setStrand
  repeat' first
    | with_reducible assumption | (extract_lets +onlyGivenNames x; have h1 : Keeps s0 x := ?_; clear_value x; rotate_left; subst x)
    | (extract_lets +onlyGivenNames x; subst x) | with_reducible refine Keeps.upd ?_ rfl rfl rfl rfl rfl rfl

theorem setRx_keeps {s0 : State} (n : Nat) (r : Rx) (s : State) (hK : Keeps s0 s) :
    Keeps s0 (setRx n r s) := by
  unfold setRx
  repeat' first
    | with_reducible assumption | with_reducible apply State.setF_keeps

theorem bightRefresh_keeps {s0 : State} (k : Nat) (s : State) (hK : Keeps s0 s) :
    Keeps s0 (bightRefresh k s) := by
  unfold bightRefresh
  repeat' first
    | with_reducible assumption | (extract_lets +onlyGivenNames x; have h1 : Keeps s0 x := ?_; clear_value x; rotate_left; subst x)
    | (extract_lets +onlyGivenNames x; subst x) | with_reducible apply State.setF_keeps | with_reducible apply State.setBit_keeps
    | with_reducible apply Keeps.ite | split

theorem bightAtPoint_keeps {s0 : State} (k : Nat) (s : State) (hK : Keeps s0 s) :
    Keeps s0 (bightAtPoint k s) := by
  unfold bightAtPoint
  repeat' first
    | with_reducible assumption | (extract_lets +onlyGivenNames x; have h1 : Keeps s0 x := ?_; clear_value x; rotate_left; subst x)
    | (extract_lets +onlyGivenNames x; subst x) | with_reducible apply State.setF_keeps | with_reducible apply State.setBit_keeps
    | with_reducible apply Keeps.ite | split

theorem txRefresh_keeps {s0 : State} (n : Nat) (s : State) (hK : Keeps s0 s) :
    Keeps s0 (txRefresh n s) := by
  unfold txRefresh
  repeat' first
    | with_reducible assumption | (extract_lets +onlyGivenNames x; have h1 : Keeps s0 x := ?_; clear_value x; rotate_left; subst x)
    | (extract_lets +onlyGivenNames x; subst x) | with_reducible apply State.setF_keeps | with_reducible apply State.setBit_keeps
    | with_reducible apply bightRefresh_keeps | with_reducible apply Keeps.ite | split

theorem txRefreshAll_keeps {s0 : State} (ns : List Nat) (s : State) (hK : Keeps s0 s) :
    Keeps s0 (txRefreshAll ns s) := by
  unfold txRefreshAll
  repeat' first
    | with_reducible assumption | intro _ | with_reducible apply txRefresh_keeps | with_reducible apply foldl_keeps

theorem lanesRefresh_keeps {s0 : State} (s : State) (hK : Keeps s0 s) :
    Keeps s0 (lanesRefresh s) := by
  unfold lanesRefresh
  repeat' first
    | with_reducible assumption | intro _ | with_reducible apply bightRefresh_keeps | with_reducible apply txRefreshAll_keeps
    | with_reducible apply foldl_keeps

theorem raiseStrand_keeps {s0 : State} (n b : Nat) (s : State) (hK : Keeps s0 s) :
    Keeps s0 (raiseStrand n b s) := by
  unfold raiseStrand
  repeat' first
    | with_reducible assumption | with_reducible apply raiseEn_keeps


/-! Timing -/

theorem setLock_keeps {s0 : State} (tg v : Nat) (s : State) (hK : Keeps s0 s) :
    Keeps s0 (setLock tg v s) := by
  unfold setLock
  repeat' first
    | with_reducible assumption | with_reducible apply State.setF_keeps

theorem raiseGen_keeps {s0 : State} (tg b : Nat) (s : State) (hK : Keeps s0 s) :
    Keeps s0 (raiseGen tg b s) := by
  unfold raiseGen
  repeat' first
    | with_reducible assumption | with_reducible apply raiseEn_keeps


/-! Engines -/

theorem setLayerSt_keeps {s0 : State} (n : Nat) (v : LayerSt) (s : State) (hK : Keeps s0 s) :
    Keeps s0 (setLayerSt n v s) := by
  unfold setLayerSt
  repeat' first
    | with_reducible assumption | (extract_lets +onlyGivenNames x; have h1 : Keeps s0 x := ?_; clear_value x; rotate_left; subst x)
    | (extract_lets +onlyGivenNames x; subst x) | with_reducible refine Keeps.upd ?_ rfl rfl rfl rfl rfl rfl

theorem setSheetSt_keeps {s0 : State} (n : Nat) (v : SheetSt) (s : State) (hK : Keeps s0 s) :
    Keeps s0 (setSheetSt n v s) := by
  unfold setSheetSt
  repeat' first
    | with_reducible assumption | (extract_lets +onlyGivenNames x; have h1 : Keeps s0 x := ?_; clear_value x; rotate_left; subst x)
    | (extract_lets +onlyGivenNames x; subst x) | with_reducible refine Keeps.upd ?_ rfl rfl rfl rfl rfl rfl

theorem setGenSt_keeps {s0 : State} (n : Nat) (v : GenSt) (s : State) (hK : Keeps s0 s) :
    Keeps s0 (setGenSt n v s) := by
  unfold setGenSt
  repeat' first
    | with_reducible assumption | (extract_lets +onlyGivenNames x; have h1 : Keeps s0 x := ?_; clear_value x; rotate_left; subst x)
    | (extract_lets +onlyGivenNames x; subst x) | with_reducible refine Keeps.upd ?_ rfl rfl rfl rfl rfl rfl

theorem setRecSt_keeps {s0 : State} (n : Nat) (v : RecSt) (s : State) (hK : Keeps s0 s) :
    Keeps s0 (setRecSt n v s) := by
  unfold setRecSt
  repeat' first
    | with_reducible assumption | (extract_lets +onlyGivenNames x; have h1 : Keeps s0 x := ?_; clear_value x; rotate_left; subst x)
    | (extract_lets +onlyGivenNames x; subst x) | with_reducible refine Keeps.upd ?_ rfl rfl rfl rfl rfl rfl

theorem setPlySt_keeps {s0 : State} (n : Nat) (v : PlySt) (s : State) (hK : Keeps s0 s) :
    Keeps s0 (setPlySt n v s) := by
  unfold setPlySt
  repeat' first
    | with_reducible assumption | (extract_lets +onlyGivenNames x; have h1 : Keeps s0 x := ?_; clear_value x; rotate_left; subst x)
    | (extract_lets +onlyGivenNames x; subst x) | with_reducible refine Keeps.upd ?_ rfl rfl rfl rfl rfl rfl

theorem raiseSb_keeps {s0 : State} (n b : Nat) (s : State) (hK : Keeps s0 s) :
    Keeps s0 (raiseSb n b s) := by
  unfold raiseSb
  repeat' first
    | with_reducible assumption | with_reducible apply raiseEn_keeps

theorem raiseCp_keeps {s0 : State} (n b : Nat) (s : State) (hK : Keeps s0 s) :
    Keeps s0 (raiseCp n b s) := by
  unfold raiseCp
  repeat' first
    | with_reducible assumption | with_reducible apply raiseEn_keeps

theorem raiseLayer_keeps {s0 : State} (cp l b : Nat) (s : State) (hK : Keeps s0 s) :
    Keeps s0 (raiseLayer cp l b s) := by
  unfold raiseLayer
  repeat' first
    | with_reducible assumption | with_reducible apply raiseEn_keeps

theorem raiseRec_keeps {s0 : State} (r b : Nat) (s : State) (hK : Keeps s0 s) :
    Keeps s0 (raiseRec r b s) := by
  unfold raiseRec
  repeat' first
    | with_reducible assumption | with_reducible apply raiseEn_keeps

theorem raisePly_keeps {s0 : State} (p b : Nat) (s : State) (hK : Keeps s0 s) :
    Keeps s0 (raisePly p b s) := by
  unfold raisePly
  repeat' first
    | with_reducible assumption | with_reducible apply raiseEn_keeps

theorem raiseDest_keeps {s0 : State} (d b : Nat) (s : State) (hK : Keeps s0 s) :
    Keeps s0 (raiseDest d b s) := by
  unfold raiseDest
  repeat' first
    | with_reducible assumption | with_reducible apply raiseEn_keeps

theorem setCtx_keeps {s0 : State} (e v : Nat) (s : State) (hK : Keeps s0 s) :
    Keeps s0 (setCtx e v s) := by
  unfold setCtx
  repeat' first
    | with_reducible assumption | with_reducible apply State.setReg_keeps | with_reducible apply State.setF_keeps | with_reducible apply Keeps.ite
    | split

theorem holdCtx_keeps {s0 : State} (e v holder : Nat) (s : State) (hK : Keeps s0 s) :
    Keeps s0 (holdCtx e v holder s) := by
  unfold holdCtx
  repeat' first
    | with_reducible assumption | with_reducible apply State.setF_keeps | with_reducible apply State.setBit_keeps

theorem ignoreWr_keeps {s0 : State} (e : Nat) (s : State) (hK : Keeps s0 s) :
    Keeps s0 (ignoreWr e s) := by
  unfold ignoreWr
  repeat' first
    | with_reducible assumption | with_reducible apply State.setF_keeps

theorem swapIn_keeps {s0 : State} (e : Nat) (s : State) (hK : Keeps s0 s) :
    Keeps s0 (swapIn e s) := by
  unfold swapIn
  repeat' first
    | with_reducible assumption | intro _ | with_reducible apply State.setLive_keeps | with_reducible apply foldl_keeps

theorem reloadShadow_keeps {s0 : State} (e : Nat) (s : State) (hK : Keeps s0 s) :
    Keeps s0 (reloadShadow e s) := by
  unfold reloadShadow
  repeat' first
    | with_reducible assumption | intro _ | with_reducible apply State.setReg_keeps | with_reducible apply foldl_keeps


/-! Charge -/

theorem setCharge_keeps {s0 : State} (c v : Nat) (s : State) (hK : Keeps s0 s) :
    Keeps s0 (setCharge c v s) := by
  unfold setCharge
  repeat' first
    | with_reducible assumption | (extract_lets +onlyGivenNames x; have h1 : Keeps s0 x := ?_; clear_value x; rotate_left; subst x)
    | (extract_lets +onlyGivenNames x; subst x) | with_reducible refine Keeps.upd ?_ rfl rfl rfl rfl rfl rfl

theorem refuseBw_keeps {s0 : State} (t : Nat) (s : State) (hK : Keeps s0 s) :
    Keeps s0 (refuseBw t s) := by
  unfold refuseBw
  repeat' first
    | with_reducible assumption | with_reducible apply State.bump_keeps

theorem takeDev_keeps {s0 : State} (t : Nat) (bytes : Nat) (s : State) (hK : Keeps s0 s) :
    Keeps s0 (takeDev t bytes s) := by
  unfold takeDev
  repeat' first
    | with_reducible assumption | (extract_lets +onlyGivenNames x; have h1 : Keeps s0 x := ?_; clear_value x; rotate_left; subst x)
    | (extract_lets +onlyGivenNames x; subst x) | with_reducible refine Keeps.upd ?_ rfl rfl rfl rfl rfl rfl

theorem giveDev_keeps {s0 : State} (t : Nat) (bytes : Nat) (s : State) (hK : Keeps s0 s) :
    Keeps s0 (giveDev t bytes s) := by
  unfold giveDev
  repeat' first
    | with_reducible assumption | (extract_lets +onlyGivenNames x; have h1 : Keeps s0 x := ?_; clear_value x; rotate_left; subst x)
    | (extract_lets +onlyGivenNames x; subst x) | with_reducible refine Keeps.upd ?_ rfl rfl rfl rfl rfl rfl

theorem setHold_keeps {s0 : State} (eo bytes : Nat) (s : State) (hK : Keeps s0 s) :
    Keeps s0 (setHold eo bytes s) := by
  unfold setHold
  repeat' first
    | with_reducible assumption | (extract_lets +onlyGivenNames x; have h1 : Keeps s0 x := ?_; clear_value x; rotate_left; subst x)
    | (extract_lets +onlyGivenNames x; subst x) | with_reducible refine Keeps.upd ?_ rfl rfl rfl rfl rfl rfl

theorem recharge_keeps {s0 : State} (c new : Nat) (s : State) (hK : Keeps s0 s) :
    Keeps s0 (recharge c new s).1 := by
  unfold recharge
  repeat' first
    | with_reducible assumption | (extract_lets +onlyGivenNames x; have h1 : Keeps s0 x := ?_; clear_value x; rotate_left; subst x)
    | (extract_lets +onlyGivenNames x; subst x) | with_reducible apply setCharge_keeps | with_reducible apply refuseBw_keeps
    | with_reducible apply Keeps.ite | split | with_reducible refine Keeps.upd ?_ rfl rfl rfl rfl rfl rfl | dsimp only

theorem rechargeHold_keeps {s0 : State} (v : View) (eo : Nat) (s : State) (hK : Keeps s0 s) :
    Keeps s0 (rechargeHold v eo s).1 := by
  unfold rechargeHold
  repeat' first
    | with_reducible assumption | (extract_lets +onlyGivenNames x; have h1 : Keeps s0 x := ?_; clear_value x; rotate_left; subst x)
    | (extract_lets +onlyGivenNames x; subst x) | with_reducible apply setHold_keeps | with_reducible apply recharge_keeps
    | with_reducible apply Keeps.ite | split | dsimp only

theorem keepLayer_keeps {s0 : State} (cp l bytes : Nat) (s : State) (hK : Keeps s0 s) :
    Keeps s0 (keepLayer cp l bytes s) := by
  unfold keepLayer
  repeat' first
    | with_reducible assumption | with_reducible apply setHold_keeps | with_reducible apply Keeps.ite | split
    | with_reducible refine Keeps.upd ?_ rfl rfl rfl rfl rfl rfl

theorem keepLayers_keeps {s0 : State} (v : View) (cp : Nat) (ok : Bool) (s : State) (hK : Keeps s0 s) : Keeps s0 (keepLayers v cp ok s).1 := by
  unfold keepLayers
  refine foldl_pair_keeps _ hK fun q l h => ?_
  dsimp only
  split
  · exact h
  · split
    · exact setHold_keeps _ _ _ h
    · exact h


/-! Belay -/

theorem setPwr_keeps {s0 : State} (p : PowerState) (s : State) (hK : Keeps s0 s) :
    Keeps s0 (setPwr p s) := by
  unfold setPwr
  repeat' first
    | with_reducible assumption | (extract_lets +onlyGivenNames x; have h1 : Keeps s0 x := ?_; clear_value x; rotate_left; subst x)
    | (extract_lets +onlyGivenNames x; subst x) | with_reducible refine Keeps.upd ?_ rfl rfl rfl rfl rfl rfl

theorem setDom_keeps {s0 : State} (d : Nat) (v : Bool) (s : State) (hK : Keeps s0 s) :
    Keeps s0 (setDom d v s) := by
  unfold setDom
  repeat' first
    | with_reducible assumption | with_reducible apply State.setBit_keeps

theorem wakeDomain_keeps {s0 : State} (prio deadline : Nat) (set : Option Nat) (d : Nat) (s : State) (hK : Keeps s0 s) :
    Keeps s0 (wakeDomain prio deadline set d s) := by
  unfold wakeDomain
  repeat' first
    | with_reducible assumption | intro _ | (extract_lets +onlyGivenNames x; have h1 : Keeps s0 x := ?_; clear_value x; rotate_left; subst x)
    | (extract_lets +onlyGivenNames x; subst x) | with_reducible apply setPwr_keeps | with_reducible apply Keeps.ite | split
    | with_reducible refine Keeps.upd ?_ rfl rfl rfl rfl rfl rfl

theorem wakeUsed_keeps {s0 : State} (s : State) (hK : Keeps s0 s) :
    Keeps s0 (wakeUsed s) := by
  unfold wakeUsed
  repeat' first
    | with_reducible assumption | intro _ | (extract_lets +onlyGivenNames x; have h1 : Keeps s0 x := ?_; clear_value x; rotate_left; subst x)
    | (extract_lets +onlyGivenNames x; subst x) | with_reducible apply wakeDomain_keeps | with_reducible apply foldl_keeps
    | with_reducible apply Keeps.ite | split

theorem dropReqs_keeps {s0 : State} (id : Nat) (s : State) (hK : Keeps s0 s) :
    Keeps s0 (dropReqs id s) := by
  unfold dropReqs
  repeat' first
    | with_reducible assumption | intro _ | (extract_lets +onlyGivenNames x; have h1 : Keeps s0 x := ?_; clear_value x; rotate_left; subst x)
    | (extract_lets +onlyGivenNames x; subst x) | with_reducible apply setPwr_keeps | with_reducible refine Keeps.upd ?_ rfl rfl rfl rfl rfl rfl

theorem grantReq_keeps {s0 : State} (r : BelayReq) (s : State) (hK : Keeps s0 s) :
    Keeps s0 (grantReq r s) := by
  unfold grantReq
  repeat' first
    | with_reducible assumption | intro _ | (extract_lets +onlyGivenNames x; have h1 : Keeps s0 x := ?_; clear_value x; rotate_left; subst x)
    | (extract_lets +onlyGivenNames x; subst x) | with_reducible apply State.setReg_keeps | with_reducible apply setPwr_keeps
    | with_reducible apply setDom_keeps | with_reducible apply Keeps.ite | split | with_reducible refine Keeps.upd ?_ rfl rfl rfl rfl rfl rfl

theorem doBelayGrant_keeps {s0 : State} (s : State) (hK : Keeps s0 s) :
    Keeps s0 (doBelayGrant s) := by
  unfold doBelayGrant
  repeat' first
    | with_reducible assumption | intro _ | (extract_lets +onlyGivenNames x; have h1 : Keeps s0 x := ?_; clear_value x; rotate_left; subst x)
    | (extract_lets +onlyGivenNames x; subst x) | with_reducible apply setPwr_keeps | with_reducible apply grantReq_keeps
    | with_reducible apply Keeps.ite | split | with_reducible refine Keeps.upd ?_ rfl rfl rfl rfl rfl rfl

theorem doIdleHoldExpiry_keeps {s0 : State} (d : Nat) (s : State) (hK : Keeps s0 s) :
    Keeps s0 (doIdleHoldExpiry d s) := by
  unfold doIdleHoldExpiry
  repeat' first
    | with_reducible assumption | intro _ | (extract_lets +onlyGivenNames x; have h1 : Keeps s0 x := ?_; clear_value x; rotate_left; subst x)
    | (extract_lets +onlyGivenNames x; subst x) | with_reducible apply setPwr_keeps | with_reducible apply Keeps.ite | split
    | with_reducible refine Keeps.upd ?_ rfl rfl rfl rfl rfl rfl


end Sys2Proof.Machine
end

