-- ==== Sys2Proof/Laws/KeepsSets.lean ====
section
/-! SUPPORT. What every operation of these files keeps: change sets, hooks, sound, flows, swaps, batches, splices, preroll and staged writes. -/

set_option linter.unreachableTactic false
set_option linter.unusedTactic false
set_option linter.unusedVariables false

namespace Sys2Proof.Machine

open Sys2Proof

/-! Changes -/

theorem setSets_keeps {s0 : State} (l : List ChangeSet) (s : State) (hK : Keeps s0 s) :
    Keeps s0 (setSets l s) := by
  unfold setSets
  repeat' first
    | with_reducible assumption | (extract_lets +onlyGivenNames x; have h1 : Keeps s0 x := ?_; clear_value x; rotate_left; subst x)
    | (extract_lets +onlyGivenNames x; subst x) | with_reducible refine Keeps.upd ?_ rfl rfl rfl rfl rfl rfl

theorem updSet_keeps {s0 : State} (id : Nat) (f : ChangeSet → ChangeSet) (s : State) (hK : Keeps s0 s) :
    Keeps s0 (updSet id f s) := by
  unfold updSet
  repeat' first
    | with_reducible assumption | intro _ | with_reducible apply setSets_keeps | with_reducible apply Keeps.ite | split

theorem setDestState_keeps {s0 : State} (d v : Nat) (s : State) (hK : Keeps s0 s) :
    Keeps s0 (setDestState d v s) := by
  unfold setDestState
  repeat' first
    | with_reducible assumption | with_reducible apply State.setF_keeps

theorem setResult_keeps {s0 : State} (d : Nat) (st : Status) (s : State) (hK : Keeps s0 s) :
    Keeps s0 (setResult d st s) := by
  unfold setResult
  repeat' first
    | with_reducible assumption | with_reducible apply State.setF_keeps

theorem refreshGroup_keeps {s0 : State} (t g : Nat) (s : State) (hK : Keeps s0 s) :
    Keeps s0 (refreshGroup t g s) := by
  unfold refreshGroup
  repeat' first
    | with_reducible assumption | with_reducible apply State.setReg_keeps | with_reducible apply Keeps.ite | split
    | with_reducible refine Keeps.upd ?_ rfl rfl rfl rfl rfl rfl

theorem releaseReserve_keeps {s0 : State} (t : Nat) (r : Option (Nat × Nat)) (s : State) (hK : Keeps s0 s) :
    Keeps s0 (releaseReserve t r s) := by
  unfold releaseReserve
  repeat' first
    | with_reducible assumption | with_reducible apply State.setBit_keeps | with_reducible apply giveDev_keeps | with_reducible apply Keeps.ite
    | split | with_reducible refine Keeps.upd ?_ rfl rfl rfl rfl rfl rfl

theorem passEngine_keeps {s0 : State} (e : Nat) (s : State) (hK : Keeps s0 s) :
    Keeps s0 (passEngine e s) := by
  unfold passEngine
  repeat' first
    | with_reducible assumption | with_reducible apply setCtx_keeps | with_reducible apply holdCtx_keeps | with_reducible apply Keeps.ite | split
    | with_reducible refine Keeps.upd ?_ rfl rfl rfl rfl rfl rfl

theorem dropOp_keeps {s0 : State} (op : PendOp) (s : State) (hK : Keeps s0 s) :
    Keeps s0 (dropOp op s) := by
  unfold dropOp
  repeat' first
    | with_reducible assumption | with_reducible apply State.setReg_keeps | with_reducible apply Keeps.ite | split
    | with_reducible refine Keeps.upd ?_ rfl rfl rfl rfl rfl rfl

theorem rollArm_keeps {s0 : State} (owner : Nat) (st : Status) (a : Arm) (s : State) (hK : Keeps s0 s) :
    Keeps s0 (rollArm owner st a s) := by
  unfold rollArm
  repeat' first
    | with_reducible assumption | intro _ | with_reducible apply State.setF_keeps | with_reducible apply State.bump_keeps
    | with_reducible apply raiseDest_keeps | with_reducible apply setDestState_keeps | with_reducible apply setResult_keeps
    | with_reducible apply releaseReserve_keeps | with_reducible apply Keeps.ite | split

theorem rollback_keeps {s0 : State} (c : ChangeSet) (reason : Nat) (st : Status) (obj : Nat) (s : State) (hK : Keeps s0 s) :
    Keeps s0 (rollback c reason st obj s) := by
  unfold rollback
  repeat' first
    | with_reducible assumption | intro _ | (extract_lets +onlyGivenNames x; have h1 : Keeps s0 x := ?_; clear_value x; rotate_left; subst x)
    | (extract_lets +onlyGivenNames x; subst x) | with_reducible apply State.setReg_keeps | with_reducible apply State.bump_keeps
    | with_reducible apply completeAll_keeps | with_reducible apply reloadShadow_keeps | with_reducible apply dropReqs_keeps
    | with_reducible apply setSets_keeps | with_reducible apply refreshGroup_keeps | with_reducible apply passEngine_keeps
    | with_reducible apply dropOp_keeps | with_reducible apply rollArm_keeps | with_reducible apply foldl_keeps | with_reducible apply Keeps.ite
    | split

theorem rollbackFor_keeps {s0 : State} (c : ChangeSet) (reason obj : Nat) (s : State) (hK : Keeps s0 s) :
    Keeps s0 (rollbackFor c reason obj s) := by
  unfold rollbackFor
  repeat' first
    | with_reducible assumption | with_reducible apply rollback_keeps

theorem endSets_keeps {s0 : State} (p : ChangeSet → Bool) (reason : Nat) (obj : ChangeSet → Nat) (s : State) (hK : Keeps s0 s) :
    Keeps s0 (endSets p reason obj s) := by
  unfold endSets
  repeat' first
    | with_reducible assumption | intro _ | with_reducible apply rollbackFor_keeps | with_reducible apply foldl_keeps | with_reducible apply Keeps.ite
    | split

theorem refreshFanout_keeps {s0 : State} (ei : Nat) (s : State) (hK : Keeps s0 s) :
    Keeps s0 (refreshFanout ei s) := by
  unfold refreshFanout
  repeat' first
    | with_reducible assumption | with_reducible apply State.setF_keeps

theorem setSrc_keeps {s0 : State} (d : Nat) (src : Option Nat) (s : State) (hK : Keeps s0 s) :
    Keeps s0 (setSrc d src s) := by
  unfold setSrc
  repeat' first
    | with_reducible assumption | (extract_lets +onlyGivenNames x; have h1 : Keeps s0 x := ?_; clear_value x; rotate_left; subst x)
    | (extract_lets +onlyGivenNames x; subst x) | with_reducible apply State.setF_keeps | with_reducible apply State.setBit_keeps
    | with_reducible apply refreshFanout_keeps | with_reducible apply Keeps.ite | split | with_reducible refine Keeps.upd ?_ rfl rfl rfl rfl rfl rfl

theorem endPromotion_keeps {s0 : State} (n : Nat) (s : State) (hK : Keeps s0 s) :
    Keeps s0 (endPromotion n s) := by
  unfold endPromotion
  repeat' first
    | with_reducible assumption | intro _ | (extract_lets +onlyGivenNames x; have h1 : Keeps s0 x := ?_; clear_value x; rotate_left; subst x)
    | (extract_lets +onlyGivenNames x; subst x) | with_reducible apply State.setBit_keeps | with_reducible apply setCharge_keeps
    | with_reducible apply releaseReserve_keeps | with_reducible apply foldl_keeps | with_reducible apply Keeps.ite | split
    | with_reducible refine Keeps.upd ?_ rfl rfl rfl rfl rfl rfl

theorem bindDest_keeps {s0 : State} (d : Nat) (src : Option Nat) (s : State) (hK : Keeps s0 s) :
    Keeps s0 (bindDest d src s) := by
  unfold bindDest
  repeat' first
    | with_reducible assumption | intro _ | (extract_lets +onlyGivenNames x; have h1 : Keeps s0 x := ?_; clear_value x; rotate_left; subst x)
    | (extract_lets +onlyGivenNames x; subst x) | with_reducible apply txRefreshAll_keeps | with_reducible apply setSrc_keeps
    | with_reducible apply endPromotion_keeps | with_reducible apply foldl_keeps | with_reducible apply Keeps.ite | split
    | with_reducible refine Keeps.upd ?_ rfl rfl rfl rfl rfl rfl

theorem setLosses_keeps {s0 : State} (t : Tab Loss) (s : State) (hK : Keeps s0 s) :
    Keeps s0 (setLosses t s) := by
  unfold setLosses
  repeat' first
    | with_reducible assumption | (extract_lets +onlyGivenNames x; have h1 : Keeps s0 x := ?_; clear_value x; rotate_left; subst x)
    | (extract_lets +onlyGivenNames x; subst x) | with_reducible refine Keeps.upd ?_ rfl rfl rfl rfl rfl rfl

theorem setLossEff_keeps {s0 : State} (t : Tab Bool) (s : State) (hK : Keeps s0 s) :
    Keeps s0 (setLossEff t s) := by
  unfold setLossEff
  repeat' first
    | with_reducible assumption | (extract_lets +onlyGivenNames x; have h1 : Keeps s0 x := ?_; clear_value x; rotate_left; subst x)
    | (extract_lets +onlyGivenNames x; subst x) | with_reducible refine Keeps.upd ?_ rfl rfl rfl rfl rfl rfl

theorem startLoss_keeps {s0 : State} (eo : Nat) (why : LossWhy) (lost hold : Bool) (s : State) (hK : Keeps s0 s) :
    Keeps s0 (startLoss eo why lost hold s) := by
  unfold startLoss
  repeat' first
    | with_reducible assumption | (extract_lets +onlyGivenNames x; have h1 : Keeps s0 x := ?_; clear_value x; rotate_left; subst x)
    | (extract_lets +onlyGivenNames x; subst x) | with_reducible apply State.setBit_keeps | with_reducible apply State.bump_keeps
    | with_reducible apply raiseDest_keeps | with_reducible apply setLosses_keeps | with_reducible apply Keeps.ite | split

theorem endLoss_keeps {s0 : State} (eo : Nat) (s : State) (hK : Keeps s0 s) :
    Keeps s0 (endLoss eo s) := by
  unfold endLoss
  repeat' first
    | with_reducible assumption | with_reducible apply State.setBit_keeps | with_reducible apply setLosses_keeps

theorem layerLate_keeps {s0 : State} (cp l : Nat) (s : State) (hK : Keeps s0 s) :
    Keeps s0 (layerLate cp l s) := by
  unfold layerLate
  repeat' first
    | with_reducible assumption | (extract_lets +onlyGivenNames x; have h1 : Keeps s0 x := ?_; clear_value x; rotate_left; subst x)
    | (extract_lets +onlyGivenNames x; subst x) | with_reducible apply State.setF_keeps | with_reducible apply State.setBit_keeps
    | with_reducible apply State.bump_keeps | with_reducible apply raiseLayer_keeps | with_reducible apply Keeps.ite | split

theorem layerLost_keeps {s0 : State} (cp l eo : Nat) (absent : Bool) (s : State) (hK : Keeps s0 s) :
    Keeps s0 (layerLost cp l eo absent s) := by
  unfold layerLost
  repeat' first
    | with_reducible assumption | (extract_lets +onlyGivenNames x; have h1 : Keeps s0 x := ?_; clear_value x; rotate_left; subst x)
    | (extract_lets +onlyGivenNames x; subst x) | with_reducible apply setLayerSt_keeps | with_reducible apply raiseLayer_keeps
    | with_reducible apply raiseDest_keeps | with_reducible apply layerLate_keeps | with_reducible apply Keeps.ite | split
    | with_reducible refine Keeps.upd ?_ rfl rfl rfl rfl rfl rfl

theorem setFilling_keeps {s0 : State} (n : Nat) (b : Bool) (s : State) (hK : Keeps s0 s) :
    Keeps s0 (setFilling n b s) := by
  unfold setFilling
  repeat' first
    | with_reducible assumption | intro _ | with_reducible apply State.setBit_keeps | with_reducible apply foldl_keeps

theorem sheetLoss_keeps {s0 : State} (n : Nat) (lost : Bool) (s : State) (hK : Keeps s0 s) :
    Keeps s0 (sheetLoss n lost s) := by
  unfold sheetLoss
  repeat' first
    | with_reducible assumption | (extract_lets +onlyGivenNames x; have h1 : Keeps s0 x := ?_; clear_value x; rotate_left; subst x)
    | (extract_lets +onlyGivenNames x; subst x) | with_reducible apply setSheetSt_keeps | with_reducible apply raiseSb_keeps
    | with_reducible apply setFilling_keeps | with_reducible apply Keeps.ite | split | with_reducible refine Keeps.upd ?_ rfl rfl rfl rfl rfl rfl

theorem loseEi_keeps {s0 : State} (b0 : Nat) (b1 : Nat) (b2 : State) (hK : Keeps s0 b2) :
    Keeps s0 (loseEi b0 b1 b2) := by
  induction b0 generalizing b1 b2 with
  | zero => unfold loseEi; with_reducible assumption
  | succ _ ih =>
  unfold loseEi
  repeat' first
    | with_reducible assumption | intro _ | (extract_lets +onlyGivenNames x; have h1 : Keeps s0 x := ?_; clear_value x; rotate_left; subst x)
    | (extract_lets +onlyGivenNames x; subst x) | with_reducible apply ih | with_reducible apply State.setBit_keeps
    | with_reducible apply setRecSt_keeps | with_reducible apply raiseRec_keeps | with_reducible apply endSets_keeps
    | with_reducible apply startLoss_keeps | with_reducible apply layerLost_keeps | with_reducible apply sheetLoss_keeps
    | with_reducible apply foldl_keeps | with_reducible apply Keeps.ite | split | with_reducible refine Keeps.upd ?_ rfl rfl rfl rfl rfl rfl

theorem sheetUnfit_keeps {s0 : State} (n : Nat) (st : Status) (s : State) (hK : Keeps s0 s) :
    Keeps s0 (sheetUnfit n st s) := by
  unfold sheetUnfit
  repeat' first
    | with_reducible assumption | intro _ | (extract_lets +onlyGivenNames x; have h1 : Keeps s0 x := ?_; clear_value x; rotate_left; subst x)
    | (extract_lets +onlyGivenNames x; subst x) | with_reducible apply State.setF_keeps | with_reducible apply State.setBit_keeps
    | with_reducible apply raiseSb_keeps | with_reducible apply sheetLoss_keeps | with_reducible apply loseEi_keeps | with_reducible apply foldl_keeps
    | with_reducible apply Keeps.ite | split

theorem showTaps_keeps {s0 : State} (n : Nat) (s : State) (hK : Keeps s0 s) :
    Keeps s0 (showTaps n s) := by
  unfold showTaps
  repeat' first
    | with_reducible assumption | (extract_lets +onlyGivenNames x; have h1 : Keeps s0 x := ?_; clear_value x; rotate_left; subst x)
    | (extract_lets +onlyGivenNames x; subst x) | with_reducible apply State.setF_keeps | with_reducible apply raiseSb_keeps
    | with_reducible apply Keeps.ite | split | with_reducible refine Keeps.upd ?_ rfl rfl rfl rfl rfl rfl

theorem refit_keeps {s0 : State} (eo : Nat) (s : State) (hK : Keeps s0 s) :
    Keeps s0 (refit eo s) := by
  unfold refit
  repeat' first
    | with_reducible assumption | intro _ | (extract_lets +onlyGivenNames x; have h1 : Keeps s0 x := ?_; clear_value x; rotate_left; subst x)
    | (extract_lets +onlyGivenNames x; subst x) | with_reducible apply State.setReg_keeps | with_reducible apply State.setF_keeps
    | with_reducible apply State.setBit_keeps | with_reducible apply setRecSt_keeps | with_reducible apply raiseLayer_keeps
    | with_reducible apply recharge_keeps | with_reducible apply rechargeHold_keeps | with_reducible apply keepLayers_keeps
    | with_reducible apply setResult_keeps | with_reducible apply setLossEff_keeps | with_reducible apply sheetUnfit_keeps
    | with_reducible apply showTaps_keeps | with_reducible apply foldl_keeps | with_reducible apply Keeps.ite | split
    | with_reducible refine Keeps.upd ?_ rfl rfl rfl rfl rfl rfl

theorem gainEi_keeps {s0 : State} (b0 : Nat) (b1 : Nat) (b2 : State) (hK : Keeps s0 b2) :
    Keeps s0 (gainEi b0 b1 b2) := by
  induction b0 generalizing b1 b2 with
  | zero => unfold gainEi; with_reducible assumption
  | succ _ ih =>
  unfold gainEi
  repeat' first
    | with_reducible assumption | intro _ | (extract_lets +onlyGivenNames x; have h1 : Keeps s0 x := ?_; clear_value x; rotate_left; subst x)
    | (extract_lets +onlyGivenNames x; subst x) | with_reducible apply ih | with_reducible apply State.setBit_keeps
    | with_reducible apply setRecSt_keeps | with_reducible apply raiseRec_keeps | with_reducible apply refit_keeps | with_reducible apply foldl_keeps
    | with_reducible apply Keeps.ite | split | with_reducible refine Keeps.upd ?_ rfl rfl rfl rfl rfl rfl

theorem setPresent_keeps {s0 : State} (ei : Nat) (p : Bool) (s : State) (hK : Keeps s0 s) :
    Keeps s0 (setPresent ei p s) := by
  unfold setPresent
  repeat' first
    | with_reducible assumption | with_reducible apply loseEi_keeps | with_reducible apply gainEi_keeps | with_reducible apply Keeps.ite | split

theorem refreshEngine_keeps {s0 : State} (ei : Nat) (p : Producer) (s : State) (hK : Keeps s0 s) :
    Keeps s0 (refreshEngine ei p s) := by
  unfold refreshEngine
  repeat' first
    | with_reducible assumption | intro _ | (extract_lets +onlyGivenNames x; have h1 : Keeps s0 x := ?_; clear_value x; rotate_left; subst x)
    | (extract_lets +onlyGivenNames x; subst x) | with_reducible apply State.setReg_keeps | with_reducible apply State.setF_keeps
    | with_reducible apply State.setBit_keeps | with_reducible apply recharge_keeps | with_reducible apply keepLayer_keeps
    | with_reducible apply keepLayers_keeps | with_reducible apply setPresent_keeps | with_reducible apply foldl_keeps
    | with_reducible apply Keeps.ite | split | with_reducible refine Keeps.upd ?_ rfl rfl rfl rfl rfl rfl

theorem enginesRefresh_keeps {s0 : State} (s : State) (hK : Keeps s0 s) :
    Keeps s0 (enginesRefresh s) := by
  unfold enginesRefresh
  repeat' first
    | with_reducible assumption | intro _ | with_reducible apply wakeUsed_keeps | with_reducible apply refreshEngine_keeps
    | with_reducible apply foldl_keeps

theorem holdEnginesAs_keeps {s0 : State} (st id : Nat) (es : List Nat) (s : State) (hK : Keeps s0 s) :
    Keeps s0 (holdEnginesAs st id es s) := by
  unfold holdEnginesAs
  repeat' first
    | with_reducible assumption | intro _ | (extract_lets +onlyGivenNames x; have h1 : Keeps s0 x := ?_; clear_value x; rotate_left; subst x)
    | (extract_lets +onlyGivenNames x; subst x) | with_reducible apply holdCtx_keeps | with_reducible apply setSets_keeps
    | with_reducible apply updSet_keeps | with_reducible apply foldl_keeps | with_reducible apply Keeps.ite | split
    | with_reducible refine Keeps.upd ?_ rfl rfl rfl rfl rfl rfl

theorem holdEngines_keeps {s0 : State} (id : Nat) (es : List Nat) (s : State) (hK : Keeps s0 s) :
    Keeps s0 (holdEngines id es s) := by
  unfold holdEngines
  repeat' first
    | with_reducible assumption | with_reducible apply holdEnginesAs_keeps

theorem openSet_keeps {s0 : State} (kind : SetKind) (owner group leader mode time : Nat) (s : State) (hK : Keeps s0 s) :
    Keeps s0 (openSet kind owner group leader mode time s).1 := by
  unfold openSet
  repeat' first
    | with_reducible assumption | (extract_lets +onlyGivenNames x; have h1 : Keeps s0 x := ?_; clear_value x; rotate_left; subst x)
    | (extract_lets +onlyGivenNames x; subst x) | with_reducible refine Keeps.upd ?_ rfl rfl rfl rfl rfl rfl | dsimp only

theorem takeReserve_keeps {s0 : State} (t : Nat) (r : Option (Nat × Nat)) (s : State) (hK : Keeps s0 s) :
    Keeps s0 (takeReserve t r s) := by
  unfold takeReserve
  repeat' first
    | with_reducible assumption | with_reducible apply State.setBit_keeps | with_reducible apply takeDev_keeps | with_reducible apply Keeps.ite
    | split | with_reducible refine Keeps.upd ?_ rfl rfl rfl rfl rfl rfl

theorem joinArm_keeps {s0 : State} (id t d : Nat) (o : Option Origin) (src : Option Nat) (absent noPromote : Bool) (s : State) (hK : Keeps s0 s) :
    Keeps s0 (joinArm id t d o src absent noPromote s) := by
  unfold joinArm
  repeat' first
    | with_reducible assumption | intro _ | (extract_lets +onlyGivenNames x; have h1 : Keeps s0 x := ?_; clear_value x; rotate_left; subst x)
    | (extract_lets +onlyGivenNames x; subst x) | with_reducible apply State.setBit_keeps | with_reducible apply updSet_keeps
    | with_reducible apply setDestState_keeps | with_reducible apply releaseReserve_keeps | with_reducible apply holdEngines_keeps
    | with_reducible apply takeReserve_keeps | with_reducible apply Keeps.ite | split | with_reducible refine Keeps.upd ?_ rfl rfl rfl rfl rfl rfl

theorem endArm_keeps {s0 : State} (c : ChangeSet) (d : Nat) (s : State) (hK : Keeps s0 s) :
    Keeps s0 (endArm c d s) := by
  unfold endArm
  repeat' first
    | with_reducible assumption | intro _ | (extract_lets +onlyGivenNames x; have h1 : Keeps s0 x := ?_; clear_value x; rotate_left; subst x)
    | (extract_lets +onlyGivenNames x; subst x) | with_reducible apply completeAll_keeps | with_reducible apply updSet_keeps
    | with_reducible apply rollArm_keeps | with_reducible apply Keeps.ite | split | with_reducible refine Keeps.upd ?_ rfl rfl rfl rfl rfl rfl

theorem acceptArm_keeps {s0 : State} (o : Option Origin) (t d : Nat) (src : Option Nat) (mode group time : Nat) (absent noPromote : Bool) (s : State) (hK : Keeps s0 s) :
    Keeps s0 (acceptArm o t d src mode group time absent noPromote s) := by
  unfold acceptArm
  repeat' first
    | with_reducible assumption | (extract_lets +onlyGivenNames x; have h1 : Keeps s0 x := ?_; clear_value x; rotate_left; subst x)
    | (extract_lets +onlyGivenNames x; subst x) | with_reducible apply refreshGroup_keeps | with_reducible apply rollbackFor_keeps
    | with_reducible apply openSet_keeps | with_reducible apply joinArm_keeps | with_reducible apply endArm_keeps | with_reducible apply Keeps.ite
    | split | with_reducible refine Keeps.upd ?_ rfl rfl rfl rfl rfl rfl

theorem afterBind_keeps {s0 : State} (d : Nat) (s : State) (hK : Keeps s0 s) :
    Keeps s0 (afterBind d s) := by
  unfold afterBind
  repeat' first
    | with_reducible assumption | (extract_lets +onlyGivenNames x; have h1 : Keeps s0 x := ?_; clear_value x; rotate_left; subst x)
    | (extract_lets +onlyGivenNames x; subst x) | with_reducible apply State.setBit_keeps | with_reducible apply setRecSt_keeps
    | with_reducible apply startLoss_keeps | with_reducible apply endLoss_keeps | with_reducible apply refit_keeps | with_reducible apply Keeps.ite
    | split | with_reducible refine Keeps.upd ?_ rfl rfl rfl rfl rfl rfl

theorem bindNow_keeps {s0 : State} (d : Nat) (src : Option Nat) (s : State) (hK : Keeps s0 s) :
    Keeps s0 (bindNow d src s) := by
  unfold bindNow
  repeat' first
    | with_reducible assumption | with_reducible apply bindDest_keeps | with_reducible apply enginesRefresh_keeps
    | with_reducible apply afterBind_keeps


/-! Hooks -/

theorem setFid_keeps {s0 : State} (f : Nat) (v : Fid) (s : State) (hK : Keeps s0 s) :
    Keeps s0 (setFid f v s) := by
  unfold setFid
  repeat' first
    | with_reducible assumption | (extract_lets +onlyGivenNames x; have h1 : Keeps s0 x := ?_; clear_value x; rotate_left; subst x)
    | (extract_lets +onlyGivenNames x; subst x) | with_reducible refine Keeps.upd ?_ rfl rfl rfl rfl rfl rfl

theorem setFidWord_keeps {s0 : State} (f a v : Nat) (s : State) (hK : Keeps s0 s) : Keeps s0 (setFidWord f a v s) :=
  ⟨hK.pending, hK.draws, fun c => by
      have := hK.canon c
      simp only [State.canonical, setFidWord, wordsCanon, Bool.and_eq_true] at this ⊢
      exact ⟨⟨this.1.1, tabCanon_tabPut (d := fun _ => 0) this.1.2⟩, this.2⟩,
    hK.page, hK.locked, hK.rooted⟩

theorem setFidWords_keeps {s0 : State} (f a : Nat) (ws : List Nat) (s : State) (hK : Keeps s0 s) :
    Keeps s0 (setFidWords f a ws s) := by
  unfold setFidWords
  repeat' first
    | with_reducible assumption | intro _ | with_reducible apply setFidWord_keeps | with_reducible apply foldl_keeps

theorem zeroFidWords_keeps {s0 : State} (f lo hi : Nat) (s : State) (hK : Keeps s0 s) : Keeps s0 (zeroFidWords f lo hi s) :=
  ⟨hK.pending, hK.draws, fun c => by
      have := hK.canon c
      simp only [State.canonical, zeroFidWords, wordsCanon, Bool.and_eq_true] at this ⊢
      exact ⟨⟨this.1.1, tabCanon_tabKeep this.1.2⟩, this.2⟩,
    hK.page, hK.locked, hK.rooted⟩

theorem fidEvent_keeps {s0 : State} (f bit : Nat) (s : State) (hK : Keeps s0 s) :
    Keeps s0 (fidEvent f bit s) := by
  unfold fidEvent
  repeat' first
    | with_reducible assumption | (extract_lets +onlyGivenNames x; have h1 : Keeps s0 x := ?_; clear_value x; rotate_left; subst x)
    | (extract_lets +onlyGivenNames x; subst x) | with_reducible apply State.setF_keeps | with_reducible apply setFid_keeps
    | with_reducible apply Keeps.ite | split | with_reducible refine Keeps.upd ?_ rfl rfl rfl rfl rfl rfl

theorem mailbox_keeps {s0 : State} (f : Nat) (s : State) (hK : Keeps s0 s) :
    Keeps s0 (mailbox f s) := by
  unfold mailbox
  repeat' first
    | with_reducible assumption | with_reducible apply fidEvent_keeps

theorem fidEventSet_keeps {s0 : State} (c : ChangeSet) (bit : Nat) (s : State) (hK : Keeps s0 s) :
    Keeps s0 (fidEventSet c bit s) := by
  unfold fidEventSet
  repeat' first
    | with_reducible assumption | intro _ | with_reducible apply fidEvent_keeps | with_reducible apply foldl_keeps

theorem refreshHookStatus_keeps {s0 : State} (f : Nat) (s : State) (hK : Keeps s0 s) :
    Keeps s0 (refreshHookStatus f s) := by
  unfold refreshHookStatus
  repeat' first
    | with_reducible assumption | intro _ | (extract_lets +onlyGivenNames x; have h1 : Keeps s0 x := ?_; clear_value x; rotate_left; subst x)
    | (extract_lets +onlyGivenNames x; subst x) | with_reducible apply State.setF_keeps | with_reducible apply State.setBit_keeps

theorem startRun_keeps {s0 : State} (f : Nat) (r : HookRun) (s : State) (hK : Keeps s0 s) :
    Keeps s0 (startRun f r s) := by
  unfold startRun
  repeat' first
    | with_reducible assumption | intro _ | (extract_lets +onlyGivenNames x; have h1 : Keeps s0 x := ?_; clear_value x; rotate_left; subst x)
    | (extract_lets +onlyGivenNames x; subst x) | with_reducible apply State.setF_keeps | with_reducible apply setFid_keeps
    | with_reducible apply setFidWords_keeps | with_reducible apply refreshHookStatus_keeps | with_reducible apply Keeps.ite | split
    | with_reducible refine Keeps.upd ?_ rfl rfl rfl rfl rfl rfl

theorem nextRun_keeps {s0 : State} (f : Nat) (s : State) (hK : Keeps s0 s) :
    Keeps s0 (nextRun f s) := by
  unfold nextRun
  repeat' first
    | with_reducible assumption | (extract_lets +onlyGivenNames x; have h1 : Keeps s0 x := ?_; clear_value x; rotate_left; subst x)
    | (extract_lets +onlyGivenNames x; subst x) | with_reducible apply setFid_keeps | with_reducible apply refreshHookStatus_keeps
    | with_reducible apply startRun_keeps | with_reducible apply Keeps.ite | split | with_reducible refine Keeps.upd ?_ rfl rfl rfl rfl rfl rfl

theorem queueRun_keeps {s0 : State} (f : Nat) (r : HookRun) (s : State) (hK : Keeps s0 s) :
    Keeps s0 (queueRun f r s) := by
  unfold queueRun
  repeat' first
    | with_reducible assumption | (extract_lets +onlyGivenNames x; have h1 : Keeps s0 x := ?_; clear_value x; rotate_left; subst x)
    | (extract_lets +onlyGivenNames x; subst x) | with_reducible apply State.setF_keeps | with_reducible apply setFid_keeps
    | with_reducible apply nextRun_keeps | with_reducible refine Keeps.upd ?_ rfl rfl rfl rfl rfl rfl

theorem queueSplice_keeps {s0 : State} (c : ChangeSet) (s : State) (hK : Keeps s0 s) :
    Keeps s0 (queueSplice c s) := by
  unfold queueSplice
  repeat' first
    | with_reducible assumption | intro _ | with_reducible apply queueRun_keeps | with_reducible apply foldl_keeps

theorem applyHookRegs_keeps {s0 : State} (f t ctrl mask : Nat) (s : State) (hK : Keeps s0 s) :
    Keeps s0 (applyHookRegs f t ctrl mask s) := by
  unfold applyHookRegs
  repeat' first
    | with_reducible assumption | (extract_lets +onlyGivenNames x; have h1 : Keeps s0 x := ?_; clear_value x; rotate_left; subst x)
    | (extract_lets +onlyGivenNames x; subst x) | with_reducible apply State.setReg_keeps | with_reducible apply State.setF_keeps
    | with_reducible apply Keeps.ite | split | with_reducible refine Keeps.upd ?_ rfl rfl rfl rfl rfl rfl

theorem releaseHookRegs_keeps {s0 : State} (f t : Nat) (s : State) (hK : Keeps s0 s) :
    Keeps s0 (releaseHookRegs f t s) := by
  unfold releaseHookRegs
  repeat' first
    | with_reducible assumption | (extract_lets +onlyGivenNames x; have h1 : Keeps s0 x := ?_; clear_value x; rotate_left; subst x)
    | (extract_lets +onlyGivenNames x; subst x) | with_reducible apply applyHookRegs_keeps | with_reducible apply Keeps.ite | split
    | with_reducible refine Keeps.upd ?_ rfl rfl rfl rfl rfl rfl

theorem endRun_keeps {s0 : State} (f : Nat) (st : Status) (s : State) (hK : Keeps s0 s) :
    Keeps s0 (endRun f st s) := by
  unfold endRun
  repeat' first
    | with_reducible assumption | intro _ | (extract_lets +onlyGivenNames x; have h1 : Keeps s0 x := ?_; clear_value x; rotate_left; subst x)
    | (extract_lets +onlyGivenNames x; subst x) | with_reducible apply State.setReg_keeps | with_reducible apply State.setF_keeps
    | with_reducible apply State.bump_keeps | with_reducible apply setFid_keeps | with_reducible apply fidEvent_keeps
    | with_reducible apply nextRun_keeps | with_reducible apply releaseHookRegs_keeps | with_reducible apply Keeps.ite | split
    | with_reducible refine Keeps.upd ?_ rfl rfl rfl rfl rfl rfl

theorem raiseHook_keeps {s0 : State} (f : Nat) (r : HookRun) (b : Nat) (s : State) (hK : Keeps s0 s) :
    Keeps s0 (raiseHook f r b s) := by
  unfold raiseHook
  repeat' first
    | with_reducible assumption | intro _ | (extract_lets +onlyGivenNames x; have h1 : Keeps s0 x := ?_; clear_value x; rotate_left; subst x)
    | (extract_lets +onlyGivenNames x; subst x) | with_reducible apply raiseEn_keeps | with_reducible apply updSet_keeps
    | with_reducible apply Keeps.ite | split | with_reducible refine Keeps.upd ?_ rfl rfl rfl rfl rfl rfl

theorem abortHooks_keeps {s0 : State} (id : Nat) (s : State) (hK : Keeps s0 s) :
    Keeps s0 (abortHooks id s) := by
  unfold abortHooks
  repeat' first
    | with_reducible assumption | intro _ | (extract_lets +onlyGivenNames x; have h1 : Keeps s0 x := ?_; clear_value x; rotate_left; subst x)
    | (extract_lets +onlyGivenNames x; subst x) | with_reducible apply setFid_keeps | with_reducible apply refreshHookStatus_keeps
    | with_reducible apply endRun_keeps | with_reducible apply foldl_keeps | with_reducible apply Keeps.ite | split
    | with_reducible refine Keeps.upd ?_ rfl rfl rfl rfl rfl rfl

theorem sweepHooks_keeps {s0 : State} (s : State) (hK : Keeps s0 s) :
    Keeps s0 (sweepHooks s) := by
  unfold sweepHooks
  repeat' first
    | with_reducible assumption | intro _ | (extract_lets +onlyGivenNames x; have h1 : Keeps s0 x := ?_; clear_value x; rotate_left; subst x)
    | (extract_lets +onlyGivenNames x; subst x) | with_reducible apply abortHooks_keeps | with_reducible apply foldl_keeps
    | with_reducible apply Keeps.ite | split


/-! Sound -/

theorem setAud_keeps {s0 : State} (a : AudioState) (s : State) (hK : Keeps s0 s) :
    Keeps s0 (setAud a s) := by
  unfold setAud
  repeat' first
    | with_reducible assumption | (extract_lets +onlyGivenNames x; have h1 : Keeps s0 x := ?_; clear_value x; rotate_left; subst x)
    | (extract_lets +onlyGivenNames x; subst x) | with_reducible refine Keeps.upd ?_ rfl rfl rfl rfl rfl rfl

theorem setAmiStatus_keeps {s0 : State} (ami : Nat) (block : List Byte) (s : State) (hK : Keeps s0 s) :
    Keeps s0 (setAmiStatus ami block s) := by
  unfold setAmiStatus
  repeat' first
    | with_reducible assumption | (extract_lets +onlyGivenNames x; have h1 : Keeps s0 x := ?_; clear_value x; rotate_left; subst x)
    | (extract_lets +onlyGivenNames x; subst x) | with_reducible apply State.setBit_keeps | with_reducible apply setAud_keeps
    | with_reducible refine Keeps.upd ?_ rfl rfl rfl rfl rfl rfl

theorem setAmoLine_keeps {s0 : State} (amo : Nat) (l : AmoLine) (s : State) (hK : Keeps s0 s) :
    Keeps s0 (setAmoLine amo l s) := by
  unfold setAmoLine
  repeat' first
    | with_reducible assumption | (extract_lets +onlyGivenNames x; have h1 : Keeps s0 x := ?_; clear_value x; rotate_left; subst x)
    | (extract_lets +onlyGivenNames x; subst x) | with_reducible apply setAud_keeps | with_reducible refine Keeps.upd ?_ rfl rfl rfl rfl rfl rfl

theorem refreshAmi_keeps {s0 : State} (n : Nat) (s : State) (hK : Keeps s0 s) :
    Keeps s0 (refreshAmi n s) := by
  unfold refreshAmi
  repeat' first
    | with_reducible assumption | with_reducible apply State.setF_keeps

theorem audioEvent_keeps {s0 : State} (n : Nat) (s : State) (hK : Keeps s0 s) :
    Keeps s0 (audioEvent n s) := by
  unfold audioEvent
  repeat' first
    | with_reducible assumption | with_reducible apply fidEvent_keeps

theorem raiseAmo_keeps {s0 : State} (n b : Nat) (s : State) (hK : Keeps s0 s) :
    Keeps s0 (raiseAmo n b s) := by
  unfold raiseAmo
  repeat' first
    | with_reducible assumption | (extract_lets +onlyGivenNames x; have h1 : Keeps s0 x := ?_; clear_value x; rotate_left; subst x)
    | (extract_lets +onlyGivenNames x; subst x) | with_reducible apply State.setBit_keeps | with_reducible apply raiseEn_keeps
    | with_reducible apply audioEvent_keeps | with_reducible apply Keeps.ite | split | with_reducible refine Keeps.upd ?_ rfl rfl rfl rfl rfl rfl

theorem setSilent_keeps {s0 : State} (n : Nat) (v : Bool) (s : State) (hK : Keeps s0 s) :
    Keeps s0 (setSilent n v s) := by
  unfold setSilent
  repeat' first
    | with_reducible assumption | intro _ | (extract_lets +onlyGivenNames x; have h1 : Keeps s0 x := ?_; clear_value x; rotate_left; subst x)
    | (extract_lets +onlyGivenNames x; subst x) | with_reducible apply State.setBit_keeps | with_reducible apply setAud_keeps
    | with_reducible apply Keeps.ite | split | with_reducible refine Keeps.upd ?_ rfl rfl rfl rfl rfl rfl

theorem refreshAgroup_keeps {s0 : State} (g : Nat) (s : State) (hK : Keeps s0 s) :
    Keeps s0 (refreshAgroup g s) := by
  unfold refreshAgroup
  repeat' first
    | with_reducible assumption | intro _ | (extract_lets +onlyGivenNames x; have h1 : Keeps s0 x := ?_; clear_value x; rotate_left; subst x)
    | (extract_lets +onlyGivenNames x; subst x) | with_reducible apply State.setF_keeps | with_reducible apply State.setBit_keeps
    | with_reducible apply Keeps.ite | split | with_reducible refine Keeps.upd ?_ rfl rfl rfl rfl rfl rfl

theorem raiseAgroup_keeps {s0 : State} (g b : Nat) (s : State) (hK : Keeps s0 s) :
    Keeps s0 (raiseAgroup g b s) := by
  unfold raiseAgroup
  repeat' first
    | with_reducible assumption | intro _ | (extract_lets +onlyGivenNames x; have h1 : Keeps s0 x := ?_; clear_value x; rotate_left; subst x)
    | (extract_lets +onlyGivenNames x; subst x) | with_reducible apply raiseEn_keeps | with_reducible apply fidEvent_keeps
    | with_reducible apply foldl_keeps

theorem amoFault_keeps {s0 : State} (n bit : Nat) (s : State) (hK : Keeps s0 s) :
    Keeps s0 (amoFault n bit s) := by
  unfold amoFault
  repeat' first
    | with_reducible assumption | intro _ | (extract_lets +onlyGivenNames x; have h1 : Keeps s0 x := ?_; clear_value x; rotate_left; subst x)
    | (extract_lets +onlyGivenNames x; subst x) | with_reducible apply State.bump_keeps | with_reducible apply setAud_keeps
    | with_reducible apply raiseAmo_keeps | with_reducible apply setSilent_keeps | with_reducible apply refreshAgroup_keeps
    | with_reducible apply raiseAgroup_keeps | with_reducible apply foldl_keeps | with_reducible apply Keeps.ite | split
    | with_reducible refine Keeps.upd ?_ rfl rfl rfl rfl rfl rfl

theorem amoStarve_keeps {s0 : State} (n : Nat) (s : State) (hK : Keeps s0 s) :
    Keeps s0 (amoStarve n s) := by
  unfold amoStarve
  repeat' first
    | with_reducible assumption | (extract_lets +onlyGivenNames x; have h1 : Keeps s0 x := ?_; clear_value x; rotate_left; subst x)
    | (extract_lets +onlyGivenNames x; subst x) | with_reducible apply setAmoLine_keeps | with_reducible apply amoFault_keeps
    | with_reducible apply Keeps.ite | split | with_reducible refine Keeps.upd ?_ rfl rfl rfl rfl rfl rfl

theorem amoResume_keeps {s0 : State} (n : Nat) (s : State) (hK : Keeps s0 s) :
    Keeps s0 (amoResume n s) := by
  unfold amoResume
  repeat' first
    | with_reducible assumption | with_reducible apply raiseAmo_keeps | with_reducible apply setSilent_keeps
    | with_reducible apply refreshAgroup_keeps | with_reducible apply raiseAgroup_keeps | with_reducible apply Keeps.ite | split
    | with_reducible refine Keeps.upd ?_ rfl rfl rfl rfl rfl rfl

theorem groupResume_keeps {s0 : State} (ready : Nat → Bool) (g : Nat) (s : State) (hK : Keeps s0 s) :
    Keeps s0 (groupResume ready g s) := by
  unfold groupResume
  repeat' first
    | with_reducible assumption | intro _ | (extract_lets +onlyGivenNames x; have h1 : Keeps s0 x := ?_; clear_value x; rotate_left; subst x)
    | (extract_lets +onlyGivenNames x; subst x) | with_reducible apply setAud_keeps | with_reducible apply raiseAmo_keeps
    | with_reducible apply setSilent_keeps | with_reducible apply refreshAgroup_keeps | with_reducible apply raiseAgroup_keeps
    | with_reducible apply foldl_keeps | with_reducible apply Keeps.ite | split | with_reducible refine Keeps.upd ?_ rfl rfl rfl rfl rfl rfl

theorem raiseSrc_keeps {s0 : State} (c b : Nat) (s : State) (hK : Keeps s0 s) :
    Keeps s0 (raiseSrc c b s) := by
  unfold raiseSrc
  repeat' first
    | with_reducible assumption | with_reducible apply raiseEn_keeps

theorem amiPresentF_keeps {s0 : State} (b0 : Nat) (b1 : Nat) (b2 : Bool) (b3 : State) (hK : Keeps s0 b3) :
    Keeps s0 (amiPresentF b0 b1 b2 b3) := by
  induction b0 generalizing b1 b2 b3 with
  | zero => unfold amiPresentF; with_reducible assumption
  | succ _ ih =>
  unfold amiPresentF
  repeat' first
    | with_reducible assumption | intro _ | (extract_lets +onlyGivenNames x; have h1 : Keeps s0 x := ?_; clear_value x; rotate_left; subst x)
    | (extract_lets +onlyGivenNames x; subst x) | with_reducible apply ih | with_reducible apply State.setBit_keeps
    | with_reducible apply amoFault_keeps | with_reducible apply amoResume_keeps | with_reducible apply raiseSrc_keeps
    | with_reducible apply foldl_keeps | with_reducible apply Keeps.ite | split | with_reducible refine Keeps.upd ?_ rfl rfl rfl rfl rfl rfl

theorem setAmiPresent_keeps {s0 : State} (n : Nat) (v : Bool) (s : State) (hK : Keeps s0 s) :
    Keeps s0 (setAmiPresent n v s) := by
  unfold setAmiPresent
  repeat' first
    | with_reducible assumption | with_reducible apply amiPresentF_keeps

theorem refreshSrc_keeps {s0 : State} (c : Nat) (s : State) (hK : Keeps s0 s) :
    Keeps s0 (refreshSrc c s) := by
  unfold refreshSrc
  repeat' first
    | with_reducible assumption | (extract_lets +onlyGivenNames x; have h1 : Keeps s0 x := ?_; clear_value x; rotate_left; subst x)
    | (extract_lets +onlyGivenNames x; subst x) | with_reducible apply State.setBit_keeps | with_reducible apply raiseSrc_keeps
    | with_reducible apply setAmiPresent_keeps | with_reducible apply Keeps.ite | split

theorem refreshDomain_keeps {s0 : State} (d : Nat) (s : State) (hK : Keeps s0 s) :
    Keeps s0 (refreshDomain d s) := by
  unfold refreshDomain
  repeat' first
    | with_reducible assumption | intro _ | (extract_lets +onlyGivenNames x; have h1 : Keeps s0 x := ?_; clear_value x; rotate_left; subst x)
    | (extract_lets +onlyGivenNames x; subst x) | with_reducible apply State.setBit_keeps | with_reducible apply setAmiPresent_keeps
    | with_reducible apply refreshSrc_keeps | with_reducible apply foldl_keeps | with_reducible apply Keeps.ite | split
    | with_reducible refine Keeps.upd ?_ rfl rfl rfl rfl rfl rfl

theorem bindAudio_keeps {s0 : State} (amo : Nat) (ami : Option Nat) (s : State) (hK : Keeps s0 s) :
    Keeps s0 (bindAudio amo ami s) := by
  unfold bindAudio
  repeat' first
    | with_reducible assumption | (extract_lets +onlyGivenNames x; have h1 : Keeps s0 x := ?_; clear_value x; rotate_left; subst x)
    | (extract_lets +onlyGivenNames x; subst x) | with_reducible apply State.setF_keeps | with_reducible apply State.setBit_keeps
    | with_reducible apply setAmoLine_keeps | with_reducible apply refreshAmi_keeps | with_reducible apply setSilent_keeps
    | with_reducible apply amoFault_keeps | with_reducible apply refreshSrc_keeps | with_reducible apply Keeps.ite | split
    | with_reducible refine Keeps.upd ?_ rfl rfl rfl rfl rfl rfl


/-! Flows -/

theorem setFlow_keeps {s0 : State} (key : Nat) (f : Flow) (s : State) (hK : Keeps s0 s) :
    Keeps s0 (setFlow key f s) := by
  unfold setFlow
  repeat' first
    | with_reducible assumption | (extract_lets +onlyGivenNames x; have h1 : Keeps s0 x := ?_; clear_value x; rotate_left; subst x)
    | (extract_lets +onlyGivenNames x; subst x) | with_reducible refine Keeps.upd ?_ rfl rfl rfl rfl rfl rfl

theorem refreshLoad_keeps {s0 : State} (ifc : Nat) (s : State) (hK : Keeps s0 s) :
    Keeps s0 (refreshLoad ifc s) := by
  unfold refreshLoad
  repeat' first
    | with_reducible assumption | with_reducible apply State.setReg_keeps

theorem raisePnLimit_keeps {s0 : State} (n : Nat) (s : State) (hK : Keeps s0 s) :
    Keeps s0 (raisePnLimit n s) := by
  unfold raisePnLimit
  repeat' first
    | with_reducible assumption | with_reducible apply State.setBit_keeps

theorem stepPn_keeps {s0 : State} (n k : Nat) (a : Sa) (s : State) (hK : Keeps s0 s) :
    Keeps s0 (stepPn n k a s) := by
  unfold stepPn
  repeat' first
    | with_reducible assumption | (extract_lets +onlyGivenNames x; have h1 : Keeps s0 x := ?_; clear_value x; rotate_left; subst x)
    | (extract_lets +onlyGivenNames x; subst x) | with_reducible apply raisePnLimit_keeps | with_reducible apply Keeps.ite | split
    | with_reducible refine Keeps.upd ?_ rfl rfl rfl rfl rfl rfl

theorem sendFrame_keeps {s0 : State} (n kind : Nat) (frame : List Nat) (s : State) (hK : Keeps s0 s) :
    Keeps s0 (sendFrame n kind frame s) := by
  unfold sendFrame
  repeat' first
    | with_reducible assumption | (extract_lets +onlyGivenNames x; have h1 : Keeps s0 x := ?_; clear_value x; rotate_left; subst x)
    | (extract_lets +onlyGivenNames x; subst x) | with_reducible apply State.bump_keeps | with_reducible apply State.emit_keeps
    | with_reducible apply stepPn_keeps | with_reducible apply Keeps.ite | split | with_reducible refine Keeps.upd ?_ rfl rfl rfl rfl rfl rfl

theorem sendIp_keeps {s0 : State} (n kind tci dscp src dst proto : Nat) (options payload : List Nat) (s : State) (hK : Keeps s0 s) :
    Keeps s0 (sendIp n kind tci dscp src dst proto options payload s) := by
  unfold sendIp
  repeat' first
    | with_reducible assumption | (extract_lets +onlyGivenNames x; have h1 : Keeps s0 x := ?_; clear_value x; rotate_left; subst x)
    | (extract_lets +onlyGivenNames x; subst x) | with_reducible apply sendFrame_keeps | with_reducible apply Keeps.ite | split

theorem reportFlow_keeps {s0 : State} (only : Option Nat) (d : FlowDesc) (s : State) (hK : Keeps s0 s) :
    Keeps s0 (reportFlow only d s) := by
  unfold reportFlow
  repeat' first
    | with_reducible assumption | intro _ | with_reducible apply State.draw_keeps | with_reducible apply sendIp_keeps
    | with_reducible apply foldl_keeps | with_reducible apply Keeps.ite | split

theorem reportAll_keeps {s0 : State} (n : Nat) (s : State) (hK : Keeps s0 s) :
    Keeps s0 (reportAll n s) := by
  unfold reportAll
  repeat' first
    | with_reducible assumption | intro _ | with_reducible apply reportFlow_keeps | with_reducible apply foldl_keeps

theorem reportReturn_keeps {s0 : State} (was : State) (d : Nat) (s : State) (hK : Keeps s0 s) :
    Keeps s0 (reportReturn was d s) := by
  unfold reportReturn
  repeat' first
    | with_reducible assumption | (extract_lets +onlyGivenNames x; have h1 : Keeps s0 x := ?_; clear_value x; rotate_left; subst x)
    | (extract_lets +onlyGivenNames x; subst x) | with_reducible apply reportAll_keeps | with_reducible apply Keeps.ite | split

theorem setFlowPresent_keeps {s0 : State} (key : Nat) (d : FlowDesc) (v : Bool) (s : State) (hK : Keeps s0 s) :
    Keeps s0 (setFlowPresent key d v s) := by
  unfold setFlowPresent
  repeat' first
    | with_reducible assumption | intro _ | (extract_lets +onlyGivenNames x; have h1 : Keeps s0 x := ?_; clear_value x; rotate_left; subst x)
    | (extract_lets +onlyGivenNames x; subst x) | with_reducible apply State.setBit_keeps | with_reducible apply setPresent_keeps
    | with_reducible apply setAmiPresent_keeps | with_reducible apply foldl_keeps | with_reducible apply Keeps.ite | split
    | with_reducible refine Keeps.upd ?_ rfl rfl rfl rfl rfl rfl

theorem queuePkts_keeps {s0 : State} (key : Nat) (ps : List OutPkt) (s : State) (hK : Keeps s0 s) :
    Keeps s0 (queuePkts key ps s) := by
  unfold queuePkts
  repeat' first
    | with_reducible assumption | with_reducible apply setFlow_keeps | with_reducible apply Keeps.ite | split
    | with_reducible refine Keeps.upd ?_ rfl rfl rfl rfl rfl rfl

theorem queueRow_keeps {s0 : State} (eo : Nat) (field2 : Bool) (line lines : Nat) (row : List Px) (s : State) (hK : Keeps s0 s) :
    Keeps s0 (queueRow eo field2 line lines row s) := by
  unfold queueRow
  repeat' first
    | with_reducible assumption | intro _ | with_reducible apply queuePkts_keeps | with_reducible apply foldl_keeps

theorem stampFrame_keeps {s0 : State} (eo : Nat) (s : State) (hK : Keeps s0 s) :
    Keeps s0 (stampFrame eo s) := by
  unfold stampFrame
  repeat' first
    | with_reducible assumption | intro _ | (extract_lets +onlyGivenNames x; have h1 : Keeps s0 x := ?_; clear_value x; rotate_left; subst x)
    | (extract_lets +onlyGivenNames x; subst x) | with_reducible apply setFlow_keeps | with_reducible apply foldl_keeps
    | with_reducible apply Keeps.ite | split | with_reducible refine Keeps.upd ?_ rfl rfl rfl rfl rfl rfl

theorem queueAnc_keeps {s0 : State} (eo : Nat) (ps : List AncPacket) (s : State) (hK : Keeps s0 s) :
    Keeps s0 (queueAnc eo ps s) := by
  unfold queueAnc
  repeat' first
    | with_reducible assumption | intro _ | with_reducible apply setFlow_keeps | with_reducible apply foldl_keeps
    | with_reducible refine Keeps.upd ?_ rfl rfl rfl rfl rfl rfl

theorem queueAudio_keeps {s0 : State} (amo : Nat) (samples : List (Int × Bool)) (s : State) (hK : Keeps s0 s) :
    Keeps s0 (queueAudio amo samples s) := by
  unfold queueAudio
  repeat' first
    | with_reducible assumption | intro _ | (extract_lets +onlyGivenNames x; have h1 : Keeps s0 x := ?_; clear_value x; rotate_left; subst x)
    | (extract_lets +onlyGivenNames x; subst x) | with_reducible apply setFlow_keeps | with_reducible apply foldl_keeps
    | with_reducible apply Keeps.ite | split | with_reducible refine Keeps.upd ?_ rfl rfl rfl rfl rfl rfl

theorem applyFlow_start_keeps {s0 : State} (key : Nat) (d : FlowDesc) (s : State) (old : FlowDesc) (hK : Keeps s0 s) : Keeps s0 (applyFlow.start key d s old) := by
  unfold applyFlow.start
  repeat' first
    | with_reducible assumption | intro _
    | (extract_lets +onlyGivenNames x; have h1 : Keeps s0 x := ?_; clear_value x; rotate_left; subst x)
    | (extract_lets +onlyGivenNames x; subst x) | with_reducible apply State.setReg_keeps
    | with_reducible apply setFlowPresent_keeps | with_reducible apply setFlow_keeps | with_reducible apply txRefreshAll_keeps
    | with_reducible apply refreshLoad_keeps | with_reducible apply reportFlow_keeps | with_reducible apply wakeUsed_keeps
    | with_reducible apply foldl_keeps | with_reducible apply Keeps.ite | split

theorem applyFlow_keeps {s0 : State} (key : Nat) (d : FlowDesc) (s : State) (hK : Keeps s0 s) : Keeps s0 (applyFlow key d s) := by
  unfold applyFlow
  split
  · split
    · exact hK
    · exact applyFlow_start_keeps _ _ _ _ hK
  · exact applyFlow_start_keeps _ _ _ _ hK


/-! Swap -/

theorem setEngResult_keeps {s0 : State} (e : Nat) (st : Status) (s : State) (hK : Keeps s0 s) :
    Keeps s0 (setEngResult e st s) := by
  unfold setEngResult
  repeat' first
    | with_reducible assumption | (extract_lets +onlyGivenNames x; have h1 : Keeps s0 x := ?_; clear_value x; rotate_left; subst x)
    | (extract_lets +onlyGivenNames x; subst x) | with_reducible apply State.setF_keeps | with_reducible apply setResult_keeps
    | with_reducible apply Keeps.ite | split | with_reducible refine Keeps.upd ?_ rfl rfl rfl rfl rfl rfl

theorem genLocked_keeps {s0 : State} (tg : Nat) (s : State) (hK : Keeps s0 s) :
    Keeps s0 (genLocked tg s) := by
  unfold genLocked
  repeat' first
    | with_reducible assumption | intro _ | (extract_lets +onlyGivenNames x; have h1 : Keeps s0 x := ?_; clear_value x; rotate_left; subst x)
    | (extract_lets +onlyGivenNames x; subst x) | with_reducible apply State.setBit_keeps | with_reducible apply setLock_keeps
    | with_reducible apply raiseGen_keeps | with_reducible apply setGenSt_keeps | with_reducible apply foldl_keeps | with_reducible apply Keeps.ite
    | split | with_reducible refine Keeps.upd ?_ rfl rfl rfl rfl rfl rfl

theorem genUnlock_keeps {s0 : State} (tg v : Nat) (s : State) (hK : Keeps s0 s) :
    Keeps s0 (genUnlock tg v s) := by
  unfold genUnlock
  repeat' first
    | with_reducible assumption | (extract_lets +onlyGivenNames x; have h1 : Keeps s0 x := ?_; clear_value x; rotate_left; subst x)
    | (extract_lets +onlyGivenNames x; subst x) | with_reducible apply setLock_keeps | with_reducible apply raiseGen_keeps
    | with_reducible apply Keeps.ite | split

theorem genEnter_keeps {s0 : State} (tg : Nat) (inPhase : Bool) (s : State) (hK : Keeps s0 s) :
    Keeps s0 (genEnter tg inPhase s) := by
  unfold genEnter
  repeat' first
    | with_reducible assumption | with_reducible apply setLock_keeps | with_reducible apply setEngResult_keeps | with_reducible apply genLocked_keeps
    | with_reducible apply Keeps.ite | split | with_reducible refine Keeps.upd ?_ rfl rfl rfl rfl rfl rfl

theorem genMatch_keeps {s0 : State} (tg : Nat) (s : State) (hK : Keeps s0 s) :
    Keeps s0 (genMatch tg s) := by
  unfold genMatch
  repeat' first
    | with_reducible assumption | (extract_lets +onlyGivenNames x; have h1 : Keeps s0 x := ?_; clear_value x; rotate_left; subst x)
    | (extract_lets +onlyGivenNames x; subst x) | with_reducible apply State.setF_keeps | with_reducible apply State.setBit_keeps
    | with_reducible apply Keeps.ite | split | with_reducible refine Keeps.upd ?_ rfl rfl rfl rfl rfl rfl

theorem retuneStrands_keeps {s0 : State} (ns : List Nat) (code custom : Nat) (s : State) (hK : Keeps s0 s) :
    Keeps s0 (retuneStrands ns code custom s) := by
  unfold retuneStrands
  repeat' first
    | with_reducible assumption | intro _ | (extract_lets +onlyGivenNames x; have h1 : Keeps s0 x := ?_; clear_value x; rotate_left; subst x)
    | (extract_lets +onlyGivenNames x; subst x) | with_reducible apply State.setReg_keeps | with_reducible apply State.setF_keeps
    | with_reducible apply setStrand_keeps | with_reducible apply txRefreshAll_keeps | with_reducible apply foldl_keeps
    | with_reducible apply Keeps.ite | split | with_reducible refine Keeps.upd ?_ rfl rfl rfl rfl rfl rfl

theorem retuneEo_keeps {s0 : State} (t : Timing) (eo : Nat) (s : State) (hK : Keeps s0 s) :
    Keeps s0 (retuneEo t eo s) := by
  unfold retuneEo
  repeat' first
    | with_reducible assumption | intro _ | (extract_lets +onlyGivenNames x; have h1 : Keeps s0 x := ?_; clear_value x; rotate_left; subst x)
    | (extract_lets +onlyGivenNames x; subst x) | with_reducible apply State.setF_keeps | with_reducible apply retuneStrands_keeps
    | with_reducible apply foldl_keeps | with_reducible apply Keeps.ite | split | with_reducible refine Keeps.upd ?_ rfl rfl rfl rfl rfl rfl

theorem retune_keeps {s0 : State} (tg : Nat) (s : State) (hK : Keeps s0 s) :
    Keeps s0 (retune tg s) := by
  unfold retune
  repeat' first
    | with_reducible assumption | intro _ | with_reducible apply retuneEo_keeps | with_reducible apply foldl_keeps

theorem genSwapped_keeps {s0 : State} (tg : Nat) (oldRun : Bool) (oldT : Timing) (oldSrc : Nat) (s : State) (hK : Keeps s0 s) :
    Keeps s0 (genSwapped tg oldRun oldT oldSrc s) := by
  unfold genSwapped
  repeat' first
    | with_reducible assumption | (extract_lets +onlyGivenNames x; have h1 : Keeps s0 x := ?_; clear_value x; rotate_left; subst x)
    | (extract_lets +onlyGivenNames x; subst x) | with_reducible apply State.setBit_keeps | with_reducible apply State.draw_keeps
    | with_reducible apply setLock_keeps | with_reducible apply raiseGen_keeps | with_reducible apply setGenSt_keeps
    | with_reducible apply genUnlock_keeps | with_reducible apply genEnter_keeps | with_reducible apply genMatch_keeps
    | with_reducible apply retune_keeps | with_reducible apply Keeps.ite | split | with_reducible refine Keeps.upd ?_ rfl rfl rfl rfl rfl rfl

theorem setCur_keeps {s0 : State} (cp l : Nat) (h : Option Nat) (s : State) (hK : Keeps s0 s) :
    Keeps s0 (setCur cp l h s) := by
  unfold setCur
  repeat' first
    | with_reducible assumption | with_reducible apply State.setF_keeps | with_reducible apply State.setBit_keeps | with_reducible apply Keeps.ite
    | split | with_reducible refine Keeps.upd ?_ rfl rfl rfl rfl rfl rfl

theorem setPend_keeps {s0 : State} (cp l : Nat) (h : Option Nat) (s : State) (hK : Keeps s0 s) :
    Keeps s0 (setPend cp l h s) := by
  unfold setPend
  repeat' first
    | with_reducible assumption | with_reducible apply State.setF_keeps | with_reducible apply State.setBit_keeps | with_reducible apply Keeps.ite
    | split | with_reducible refine Keeps.upd ?_ rfl rfl rfl rfl rfl rfl

theorem setFlips_keeps {s0 : State} (t : Tab Flip) (s : State) (hK : Keeps s0 s) :
    Keeps s0 (setFlips t s) := by
  unfold setFlips
  repeat' first
    | with_reducible assumption | (extract_lets +onlyGivenNames x; have h1 : Keeps s0 x := ?_; clear_value x; rotate_left; subst x)
    | (extract_lets +onlyGivenNames x; subst x) | with_reducible refine Keeps.upd ?_ rfl rfl rfl rfl rfl rfl

theorem retire_keeps {s0 : State} (n h : Nat) (never : Bool) (s : State) (hK : Keeps s0 s) :
    Keeps s0 (retire n h never s) := by
  unfold retire
  repeat' first
    | with_reducible assumption | intro _ | with_reducible apply postTo_keeps

theorem abortFlip_keeps {s0 : State} (n : Nat) (s : State) (hK : Keeps s0 s) :
    Keeps s0 (abortFlip n s) := by
  unfold abortFlip
  repeat' first
    | with_reducible assumption | (extract_lets +onlyGivenNames x; have h1 : Keeps s0 x := ?_; clear_value x; rotate_left; subst x)
    | (extract_lets +onlyGivenNames x; subst x) | with_reducible apply State.setBit_keeps | with_reducible apply complete_keeps
    | with_reducible apply setPend_keeps | with_reducible apply setFlips_keeps | with_reducible apply retire_keeps | with_reducible apply Keeps.ite
    | split | with_reducible refine Keeps.upd ?_ rfl rfl rfl rfl rfl rfl

theorem layerReady_keeps {s0 : State} (cp l : Nat) (v : Bool) (s : State) (hK : Keeps s0 s) :
    Keeps s0 (layerReady cp l v s) := by
  unfold layerReady
  repeat' first
    | with_reducible assumption | with_reducible apply State.setF_keeps | with_reducible apply Keeps.ite | split

theorem layerSwapped_keeps {s0 : State} (cp l : Nat) (oldCtrl oldSource : Word) (s : State) (hK : Keeps s0 s) :
    Keeps s0 (layerSwapped cp l oldCtrl oldSource s) := by
  unfold layerSwapped
  repeat' first
    | with_reducible assumption | (extract_lets +onlyGivenNames x; have h1 : Keeps s0 x := ?_; clear_value x; rotate_left; subst x)
    | (extract_lets +onlyGivenNames x; subst x) | with_reducible apply setLayerSt_keeps | with_reducible apply setCur_keeps
    | with_reducible apply retire_keeps | with_reducible apply abortFlip_keeps | with_reducible apply Keeps.ite | split
    | with_reducible refine Keeps.upd ?_ rfl rfl rfl rfl rfl rfl

theorem clearDirty_keeps {s0 : State} (cp l : Nat) (s : State) (hK : Keeps s0 s) :
    Keeps s0 (clearDirty cp l s) := by
  unfold clearDirty
  repeat' first
    | with_reducible assumption | with_reducible apply State.setReg_keeps | with_reducible apply State.setLive_keeps

theorem refreshLayer_keeps {s0 : State} (cp l : Nat) (s : State) (hK : Keeps s0 s) :
    Keeps s0 (refreshLayer cp l s) := by
  unfold refreshLayer
  repeat' first
    | with_reducible assumption | intro _ | (extract_lets +onlyGivenNames x; have h1 : Keeps s0 x := ?_; clear_value x; rotate_left; subst x)
    | (extract_lets +onlyGivenNames x; subst x) | with_reducible apply State.setReg_keeps | with_reducible apply State.setBit_keeps
    | with_reducible apply Keeps.ite | split | with_reducible refine Keeps.upd ?_ rfl rfl rfl rfl rfl rfl

theorem dropCoil_keeps {s0 : State} (cp : Nat) (s : State) (hK : Keeps s0 s) :
    Keeps s0 (dropCoil cp s) := by
  unfold dropCoil
  repeat' first
    | with_reducible assumption | intro _ | (extract_lets +onlyGivenNames x; have h1 : Keeps s0 x := ?_; clear_value x; rotate_left; subst x)
    | (extract_lets +onlyGivenNames x; subst x) | with_reducible apply State.setF_keeps | with_reducible apply State.setBit_keeps
    | with_reducible apply State.bump_keeps | with_reducible apply raiseCp_keeps | with_reducible apply foldl_keeps | with_reducible apply Keeps.ite
    | split | with_reducible refine Keeps.upd ?_ rfl rfl rfl rfl rfl rfl

theorem cpSwapped_keeps {s0 : State} (cp : Nat) (old : State) (s : State) (hK : Keeps s0 s) :
    Keeps s0 (cpSwapped cp old s) := by
  unfold cpSwapped
  repeat' first
    | with_reducible assumption | intro _ | (extract_lets +onlyGivenNames x; have h1 : Keeps s0 x := ?_; clear_value x; rotate_left; subst x)
    | (extract_lets +onlyGivenNames x; subst x) | with_reducible apply setLayerSt_keeps | with_reducible apply layerSwapped_keeps
    | with_reducible apply clearDirty_keeps | with_reducible apply refreshLayer_keeps | with_reducible apply dropCoil_keeps
    | with_reducible apply foldl_keeps | with_reducible apply Keeps.ite | split | with_reducible refine Keeps.upd ?_ rfl rfl rfl rfl rfl rfl

theorem switchEngine_keeps {s0 : State} (e : Nat) (s : State) (hK : Keeps s0 s) :
    Keeps s0 (switchEngine e s) := by
  unfold switchEngine
  repeat' first
    | with_reducible assumption | intro _ | (extract_lets +onlyGivenNames x; have h1 : Keeps s0 x := ?_; clear_value x; rotate_left; subst x)
    | (extract_lets +onlyGivenNames x; subst x) | with_reducible apply State.setF_keeps | with_reducible apply swapIn_keeps
    | with_reducible apply refit_keeps | with_reducible apply genSwapped_keeps | with_reducible apply cpSwapped_keeps
    | with_reducible apply foldl_keeps | with_reducible apply Keeps.ite | split | with_reducible refine Keeps.upd ?_ rfl rfl rfl rfl rfl rfl

theorem newRecording_keeps {s0 : State} (r : Nat) (s : State) (hK : Keeps s0 s) :
    Keeps s0 (newRecording r s) := by
  unfold newRecording
  repeat' first
    | with_reducible assumption | (extract_lets +onlyGivenNames x; have h1 : Keeps s0 x := ?_; clear_value x; rotate_left; subst x)
    | (extract_lets +onlyGivenNames x; subst x) | with_reducible apply State.setReg_keeps | with_reducible apply State.setF_keeps
    | with_reducible apply setRecSt_keeps | with_reducible refine Keeps.upd ?_ rfl rfl rfl rfl rfl rfl

theorem playerStop_keeps {s0 : State} (p : Nat) (lost : Bool) (s : State) (hK : Keeps s0 s) :
    Keeps s0 (playerStop p lost s) := by
  unfold playerStop
  repeat' first
    | with_reducible assumption | (extract_lets +onlyGivenNames x; have h1 : Keeps s0 x := ?_; clear_value x; rotate_left; subst x)
    | (extract_lets +onlyGivenNames x; subst x) | with_reducible apply State.setBit_keeps | with_reducible apply setPlySt_keeps
    | with_reducible apply raisePly_keeps | with_reducible apply setPresent_keeps | with_reducible apply Keeps.ite | split
    | with_reducible refine Keeps.upd ?_ rfl rfl rfl rfl rfl rfl

theorem objApplied_keeps {s0 : State} (a : Nat) (old new : Word) (s : State) (hK : Keeps s0 s) :
    Keeps s0 (objApplied a old new s) := by
  unfold objApplied
  repeat' first
    | with_reducible assumption | (extract_lets +onlyGivenNames x; have h1 : Keeps s0 x := ?_; clear_value x; rotate_left; subst x)
    | (extract_lets +onlyGivenNames x; subst x) | with_reducible apply State.setBit_keeps | with_reducible apply setRecSt_keeps
    | with_reducible apply setPlySt_keeps | with_reducible apply afterBind_keeps | with_reducible apply newRecording_keeps
    | with_reducible apply playerStop_keeps | with_reducible apply Keeps.ite | split | with_reducible refine Keeps.upd ?_ rfl rfl rfl rfl rfl rfl

theorem applyReg_keeps {s0 : State} (a : Nat) (v : Word) (s : State) (hK : Keeps s0 s) :
    Keeps s0 (applyReg a v s) := by
  unfold applyReg
  repeat' first
    | with_reducible assumption | (extract_lets +onlyGivenNames x; have h1 : Keeps s0 x := ?_; clear_value x; rotate_left; subst x)
    | (extract_lets +onlyGivenNames x; subst x) | with_reducible apply State.setReg_keeps | with_reducible apply State.setLive_keeps
    | with_reducible apply objApplied_keeps

theorem applyOp_keeps {s0 : State} (op : PendOp) (s : State) (hK : Keeps s0 s) :
    Keeps s0 (applyOp op s) := by
  unfold applyOp
  repeat' first
    | with_reducible assumption | with_reducible apply bindDest_keeps | with_reducible apply bindAudio_keeps | with_reducible apply reportReturn_keeps
    | with_reducible apply applyFlow_keeps | with_reducible apply applyReg_keeps | with_reducible apply Keeps.ite | split
    | with_reducible refine Keeps.upd ?_ rfl rfl rfl rfl rfl rfl


/-! Batches -/

theorem batchBit_keeps {s0 : State} (t q : Nat) (v : Bool) (s : State) (hK : Keeps s0 s) :
    Keeps s0 (batchBit t q v s) := by
  unfold batchBit
  repeat' first
    | with_reducible assumption | with_reducible apply State.setBit_keeps | with_reducible apply Keeps.ite | split

theorem setBatch_keeps {s0 : State} (t q : Nat) (b : Batch) (s : State) (hK : Keeps s0 s) :
    Keeps s0 (setBatch t q b s) := by
  unfold setBatch
  repeat' first
    | with_reducible assumption | (extract_lets +onlyGivenNames x; have h1 : Keeps s0 x := ?_; clear_value x; rotate_left; subst x)
    | (extract_lets +onlyGivenNames x; subst x) | with_reducible apply batchBit_keeps | with_reducible refine Keeps.upd ?_ rfl rfl rfl rfl rfl rfl

theorem dropBatch_keeps {s0 : State} (t q : Nat) (s : State) (hK : Keeps s0 s) :
    Keeps s0 (dropBatch t q s) := by
  unfold dropBatch
  repeat' first
    | with_reducible assumption | (extract_lets +onlyGivenNames x; have h1 : Keeps s0 x := ?_; clear_value x; rotate_left; subst x)
    | (extract_lets +onlyGivenNames x; subst x) | with_reducible apply batchBit_keeps | with_reducible refine Keeps.upd ?_ rfl rfl rfl rfl rfl rfl

theorem undoBatch_keeps {s0 : State} (t q : Nat) (b : Batch) (c : ChangeSet) (st : Status) (obj : Nat) (s : State) (hK : Keeps s0 s) :
    Keeps s0 (undoBatch t q b c st obj s) := by
  unfold undoBatch
  repeat' first
    | with_reducible assumption | (extract_lets +onlyGivenNames x; have h1 : Keeps s0 x := ?_; clear_value x; rotate_left; subst x)
    | (extract_lets +onlyGivenNames x; subst x) | with_reducible apply State.setReg_keeps | with_reducible apply rollback_keeps
    | with_reducible apply setBatch_keeps | with_reducible refine Keeps.upd ?_ rfl rfl rfl rfl rfl rfl

theorem hostCommand_keeps {s0 : State} (o : Origin) (batchable : Bool) (place : Place) (check : Option ChangeSet → State → Refuse) (alone : State → State) (inBatch : Nat → State → State) (s : State) (hK : Keeps s0 s) (halone : ∀ (a0 : State), Keeps s0 a0 → Keeps s0 (alone a0)) (hinBatch : ∀ (a0 : Nat) (a1 : State), Keeps s0 a1 → Keeps s0 (inBatch a0 a1)) :
    Keeps s0 (hostCommand o batchable place check alone inBatch s) := by
  unfold hostCommand
  repeat' first
    | with_reducible assumption | intro _ | (extract_lets +onlyGivenNames x; have h1 : Keeps s0 x := ?_; clear_value x; rotate_left; subst x)
    | (extract_lets +onlyGivenNames x; subst x) | with_reducible apply halone | with_reducible apply hinBatch | with_reducible apply complete_keeps
    | with_reducible apply updSet_keeps | with_reducible apply setBatch_keeps | with_reducible apply undoBatch_keeps | with_reducible apply Keeps.ite
    | split | with_reducible refine Keeps.upd ?_ rfl rfl rfl rfl rfl rfl

theorem loneCommand_keeps {s0 : State} (o : Origin) (place : Place) (check : State → Refuse) (alone : State → State) (s : State) (hK : Keeps s0 s) (halone : ∀ (a0 : State), Keeps s0 a0 → Keeps s0 (alone a0)) :
    Keeps s0 (loneCommand o place check alone s) := by
  unfold loneCommand
  repeat' first
    | with_reducible assumption | intro _ | with_reducible apply halone | with_reducible apply hostCommand_keeps

theorem addOp_keeps {s0 : State} (id : Nat) (op : PendOp) (s : State) (hK : Keeps s0 s) :
    Keeps s0 (addOp id op s) := by
  unfold addOp
  repeat' first
    | with_reducible assumption | intro _ | with_reducible apply updSet_keeps | with_reducible refine Keeps.upd ?_ rfl rfl rfl rfl rfl rfl

theorem doNop_keeps {s0 : State} (o : Origin) (s : State) (hK : Keeps s0 s) :
    Keeps s0 (doNop o s) := by
  unfold doNop
  repeat' first
    | with_reducible assumption | intro _ | with_reducible apply completeOk_keeps | with_reducible apply hostCommand_keeps

theorem batchOpenEffect_keeps {s0 : State} (o : Origin) (group : Nat) (s : State) (hK : Keeps s0 s) :
    Keeps s0 (batchOpenEffect o group s) := by
  unfold batchOpenEffect
  repeat' first
    | with_reducible assumption | intro _ | (extract_lets +onlyGivenNames x; have h1 : Keeps s0 x := ?_; clear_value x; rotate_left; subst x)
    | (extract_lets +onlyGivenNames x; subst x) | with_reducible apply completeOk_keeps | with_reducible apply updSet_keeps
    | with_reducible apply refreshGroup_keeps | with_reducible apply openSet_keeps | with_reducible apply setBatch_keeps
    | with_reducible refine Keeps.upd ?_ rfl rfl rfl rfl rfl rfl

theorem doBatchOpen_keeps {s0 : State} (o : Origin) (group : Nat) (s : State) (hK : Keeps s0 s) :
    Keeps s0 (doBatchOpen o group s) := by
  unfold doBatchOpen
  repeat' first
    | with_reducible assumption | intro _ | with_reducible apply complete_keeps | with_reducible apply setBatch_keeps
    | with_reducible apply loneCommand_keeps | with_reducible apply batchOpenEffect_keeps | with_reducible apply Keeps.ite | split
    | with_reducible refine Keeps.upd ?_ rfl rfl rfl rfl rfl rfl

theorem finishSet_keeps {s0 : State} (c : ChangeSet) (s : State) (hK : Keeps s0 s) :
    Keeps s0 (finishSet c s) := by
  unfold finishSet
  repeat' first
    | with_reducible assumption | intro _ | (extract_lets +onlyGivenNames x; have h1 : Keeps s0 x := ?_; clear_value x; rotate_left; subst x)
    | (extract_lets +onlyGivenNames x; subst x) | with_reducible apply State.bump_keeps | with_reducible apply completeAll_keeps
    | with_reducible apply setSets_keeps | with_reducible apply refreshGroup_keeps

theorem commitNow_keeps {s0 : State} (id : Nat) (s : State) (hK : Keeps s0 s) :
    Keeps s0 (commitNow id s) := by
  unfold commitNow
  repeat' first
    | with_reducible assumption | intro _ | (extract_lets +onlyGivenNames x; have h1 : Keeps s0 x := ?_; clear_value x; rotate_left; subst x)
    | (extract_lets +onlyGivenNames x; subst x) | with_reducible apply updSet_keeps | with_reducible apply passEngine_keeps
    | with_reducible apply enginesRefresh_keeps | with_reducible apply afterBind_keeps | with_reducible apply switchEngine_keeps
    | with_reducible apply applyOp_keeps | with_reducible apply finishSet_keeps | with_reducible apply foldl_keeps | with_reducible apply Keeps.ite
    | split | with_reducible refine Keeps.upd ?_ rfl rfl rfl rfl rfl rfl

theorem displace_keeps {s0 : State} (c : ChangeSet) (s : State) (hK : Keeps s0 s) :
    Keeps s0 (displace c s) := by
  unfold displace
  repeat' first
    | with_reducible assumption | intro _ | with_reducible apply rollbackFor_keeps | with_reducible apply foldl_keeps | with_reducible apply Keeps.ite
    | split | with_reducible refine Keeps.upd ?_ rfl rfl rfl rfl rfl rfl

theorem batchCloseEffect_keeps {s0 : State} (o : Origin) (b : Batch) (c : ChangeSet) (mode time : Nat) (s : State) (hK : Keeps s0 s) :
    Keeps s0 (batchCloseEffect o b c mode time s) := by
  unfold batchCloseEffect
  repeat' first
    | with_reducible assumption | intro _ | (extract_lets +onlyGivenNames x; have h1 : Keeps s0 x := ?_; clear_value x; rotate_left; subst x)
    | (extract_lets +onlyGivenNames x; subst x) | with_reducible apply updSet_keeps | with_reducible apply refreshGroup_keeps
    | with_reducible apply dropBatch_keeps | with_reducible apply commitNow_keeps | with_reducible apply displace_keeps
    | with_reducible apply Keeps.ite | split | with_reducible refine Keeps.upd ?_ rfl rfl rfl rfl rfl rfl

theorem doBatchClose_keeps {s0 : State} (o : Origin) (mode time : Nat) (s : State) (hK : Keeps s0 s) :
    Keeps s0 (doBatchClose o mode time s) := by
  unfold doBatchClose
  repeat' first
    | with_reducible assumption | with_reducible apply completeWith_keeps | with_reducible apply complete_keeps | with_reducible apply dropBatch_keeps
    | with_reducible apply undoBatch_keeps | with_reducible apply batchCloseEffect_keeps | with_reducible apply Keeps.ite | split
    | with_reducible refine Keeps.upd ?_ rfl rfl rfl rfl rfl rfl

theorem doBatchTimeout_keeps {s0 : State} (t q : Nat) (s : State) (hK : Keeps s0 s) :
    Keeps s0 (doBatchTimeout t q s) := by
  unfold doBatchTimeout
  repeat' first
    | with_reducible assumption | with_reducible apply rollbackFor_keeps | with_reducible apply setBatch_keeps | with_reducible apply Keeps.ite
    | split | with_reducible refine Keeps.upd ?_ rfl rfl rfl rfl rfl rfl


/-! Splice -/

theorem serve_keeps {s0 : State} (d : Nat) (s : State) (hK : Keeps s0 s) :
    Keeps s0 (serve d s) := by
  unfold serve
  repeat' first
    | with_reducible assumption | with_reducible apply mailbox_keeps | with_reducible apply Keeps.ite | split

theorem hitchEffect_keeps {s0 : State} (o : Origin) (d : Nat) (src : Option Nat) (s : State) (hK : Keeps s0 s) :
    Keeps s0 (hitchEffect o d src s) := by
  unfold hitchEffect
  repeat' first
    | with_reducible assumption | with_reducible apply completeOk_keeps | with_reducible apply acceptArm_keeps | with_reducible apply bindNow_keeps
    | with_reducible apply reportReturn_keeps | with_reducible apply serve_keeps | with_reducible apply Keeps.ite | split

theorem hitchBatch_keeps {s0 : State} (o : Origin) (d : Nat) (src : Option Nat) (id : Nat) (s : State) (hK : Keeps s0 s) :
    Keeps s0 (hitchBatch o d src id s) := by
  unfold hitchBatch
  repeat' first
    | with_reducible assumption | with_reducible apply joinArm_keeps | with_reducible apply addOp_keeps | with_reducible apply serve_keeps
    | with_reducible apply Keeps.ite | split

theorem doHitch_keeps {s0 : State} (o : Origin) (d src : Nat) (s : State) (hK : Keeps s0 s) :
    Keeps s0 (doHitch o d src s) := by
  unfold doHitch
  repeat' first
    | with_reducible assumption | intro _ | with_reducible apply hostCommand_keeps | with_reducible apply hitchEffect_keeps
    | with_reducible apply hitchBatch_keeps

theorem doUnhitch_keeps {s0 : State} (o : Origin) (d : Nat) (s : State) (hK : Keeps s0 s) :
    Keeps s0 (doUnhitch o d s) := by
  unfold doUnhitch
  repeat' first
    | with_reducible assumption | intro _ | with_reducible apply hostCommand_keeps | with_reducible apply hitchEffect_keeps
    | with_reducible apply hitchBatch_keeps

theorem doArmSplice_keeps {s0 : State} (o : Origin) (d src mode group : Nat) (absent noPromote unhitch : Bool) (time : Nat) (s : State) (hK : Keeps s0 s) :
    Keeps s0 (doArmSplice o d src mode group absent noPromote unhitch time s) := by
  unfold doArmSplice
  repeat' first
    | with_reducible assumption | intro _ | with_reducible apply acceptArm_keeps | with_reducible apply loneCommand_keeps
    | with_reducible apply serve_keeps

theorem takeSet_keeps {s0 : State} (c : ChangeSet) (s : State) (hK : Keeps s0 s) :
    Keeps s0 (takeSet c s) := by
  unfold takeSet
  repeat' first
    | with_reducible assumption | intro _ | with_reducible apply updSet_keeps | with_reducible refine Keeps.upd ?_ rfl rfl rfl rfl rfl rfl

theorem cancelSet_keeps {s0 : State} (c : ChangeSet) (s : State) (hK : Keeps s0 s) :
    Keeps s0 (cancelSet c s) := by
  unfold cancelSet
  repeat' first
    | with_reducible assumption | with_reducible apply rollbackFor_keeps

theorem serveSet_keeps {s0 : State} (c : ChangeSet) (s : State) (hK : Keeps s0 s) :
    Keeps s0 (serveSet c s) := by
  unfold serveSet
  repeat' first
    | with_reducible assumption | with_reducible apply fidEventSet_keeps

theorem doTake_keeps {s0 : State} (o : Origin) (group d : Nat) (s : State) (hK : Keeps s0 s) :
    Keeps s0 (doTake o group d s) := by
  unfold doTake
  repeat' first
    | with_reducible assumption | intro _ | with_reducible apply completeOk_keeps | with_reducible apply loneCommand_keeps
    | with_reducible apply takeSet_keeps | with_reducible apply serveSet_keeps | with_reducible apply Keeps.ite | split
    | with_reducible refine Keeps.upd ?_ rfl rfl rfl rfl rfl rfl

theorem doCancelSplice_keeps {s0 : State} (o : Origin) (group d : Nat) (s : State) (hK : Keeps s0 s) :
    Keeps s0 (doCancelSplice o group d s) := by
  unfold doCancelSplice
  repeat' first
    | with_reducible assumption | intro _ | with_reducible apply completeOk_keeps | with_reducible apply loneCommand_keeps
    | with_reducible apply cancelSet_keeps | with_reducible apply serveSet_keeps | with_reducible apply Keeps.ite | split
    | with_reducible refine Keeps.upd ?_ rfl rfl rfl rfl rfl rfl

theorem armFromRegs_keeps {s0 : State} (m : Master) (d : Nat) (v : Word) (s : State) (hK : Keeps s0 s) :
    Keeps s0 (armFromRegs m d v s) := by
  unfold armFromRegs
  repeat' first
    | with_reducible assumption | (extract_lets +onlyGivenNames x; have h1 : Keeps s0 x := ?_; clear_value x; rotate_left; subst x)
    | (extract_lets +onlyGivenNames x; subst x) | with_reducible apply State.setReg_keeps | with_reducible apply setResult_keeps
    | with_reducible apply acceptArm_keeps | with_reducible apply Keeps.ite | split | with_reducible refine Keeps.upd ?_ rfl rfl rfl rfl rfl rfl

theorem armWrite_keeps {s0 : State} (m : Master) (d : Nat) (v : Word) (s : State) (hK : Keeps s0 s) :
    Keeps s0 (armWrite m d v s) := by
  unfold armWrite
  repeat' first
    | with_reducible assumption | with_reducible apply setResult_keeps | with_reducible apply armFromRegs_keeps | with_reducible apply Keeps.ite
    | split

theorem cancelWrite_keeps {s0 : State} (d : Nat) (s : State) (hK : Keeps s0 s) :
    Keeps s0 (cancelWrite d s) := by
  unfold cancelWrite
  repeat' first
    | with_reducible assumption | with_reducible apply setResult_keeps | with_reducible apply cancelSet_keeps | with_reducible apply Keeps.ite | split
    | with_reducible refine Keeps.upd ?_ rfl rfl rfl rfl rfl rfl

theorem armCtrlStore_keeps {s0 : State} (d : Nat) (v : Word) (s : State) (hK : Keeps s0 s) :
    Keeps s0 (armCtrlStore d v s) := by
  unfold armCtrlStore
  repeat' first
    | with_reducible assumption | with_reducible apply State.setReg_keeps | with_reducible apply setResult_keeps | with_reducible apply Keeps.ite
    | split

theorem armCtrlWrite_keeps {s0 : State} (m : Master) (d : Nat) (v : Word) (s : State) (hK : Keeps s0 s) :
    Keeps s0 (armCtrlWrite m d v s) := by
  unfold armCtrlWrite
  repeat' first
    | with_reducible assumption | with_reducible apply armWrite_keeps | with_reducible apply cancelWrite_keeps
    | with_reducible apply armCtrlStore_keeps | with_reducible apply Keeps.ite | split

theorem doArm_keeps {s0 : State} (m : Master) (d : Nat) (v : Word) (s : State) (hK : Keeps s0 s) :
    Keeps s0 (doArm m d v s) := by
  unfold doArm
  repeat' first
    | with_reducible assumption | intro _ | with_reducible apply gatedWrite_keeps | with_reducible apply armCtrlWrite_keeps

theorem doCancel_keeps {s0 : State} (m : Master) (d : Nat) (v : Word) (s : State) (hK : Keeps s0 s) :
    Keeps s0 (doCancel m d v s) := by
  unfold doCancel
  repeat' first
    | with_reducible assumption | intro _ | with_reducible apply gatedWrite_keeps | with_reducible apply armCtrlWrite_keeps

theorem doSplTake_keeps {s0 : State} (m : Master) (v : Word) (s : State) (hK : Keeps s0 s) :
    Keeps s0 (doSplTake m v s) := by
  unfold doSplTake
  repeat' first
    | with_reducible assumption | intro _ | with_reducible apply gatedWrite_keeps | with_reducible apply takeSet_keeps
    | with_reducible apply Keeps.ite | split | with_reducible refine Keeps.upd ?_ rfl rfl rfl rfl rfl rfl

theorem doSplCancel_keeps {s0 : State} (m : Master) (v : Word) (s : State) (hK : Keeps s0 s) :
    Keeps s0 (doSplCancel m v s) := by
  unfold doSplCancel
  repeat' first
    | with_reducible assumption | intro _ | with_reducible apply gatedWrite_keeps | with_reducible apply cancelSet_keeps
    | with_reducible apply Keeps.ite | split | with_reducible refine Keeps.upd ?_ rfl rfl rfl rfl rfl rfl


/-! Preroll -/

theorem askPower_keeps {s0 : State} (c : ChangeSet) (point : Nat) (s : State) (hK : Keeps s0 s) :
    Keeps s0 (askPower c point s) := by
  unfold askPower
  repeat' first
    | with_reducible assumption | intro _ | (extract_lets +onlyGivenNames x; have h1 : Keeps s0 x := ?_; clear_value x; rotate_left; subst x)
    | (extract_lets +onlyGivenNames x; subst x) | with_reducible apply wakeDomain_keeps | with_reducible apply foldl_keeps
    | with_reducible apply Keeps.ite | split | with_reducible refine Keeps.upd ?_ rfl rfl rfl rfl rfl rfl

theorem entryChecks_keeps {s0 : State} (id : Nat) (s : State) (hK : Keeps s0 s) :
    Keeps s0 (entryChecks id s) := by
  unfold entryChecks
  repeat' first
    | with_reducible assumption | intro _ | (extract_lets +onlyGivenNames x; have h1 : Keeps s0 x := ?_; clear_value x; rotate_left; subst x)
    | (extract_lets +onlyGivenNames x; subst x) | with_reducible apply refuseBw_keeps | with_reducible apply updSet_keeps
    | with_reducible apply rollbackFor_keeps | with_reducible apply askPower_keeps | with_reducible apply Keeps.ite | split
    | with_reducible refine Keeps.upd ?_ rfl rfl rfl rfl rfl rfl

theorem settleHooks_keeps {s0 : State} (s : State) (hK : Keeps s0 s) :
    Keeps s0 (settleHooks s) := by
  unfold settleHooks
  repeat' first
    | with_reducible assumption | intro _ | with_reducible apply entryChecks_keeps | with_reducible apply foldl_keeps | with_reducible apply Keeps.ite
    | split

theorem enterPreroll_keeps {s0 : State} (c : ChangeSet) (obs : EntryObs) (s : State) (hK : Keeps s0 s) :
    Keeps s0 (enterPreroll c obs s) := by
  unfold enterPreroll
  repeat' first
    | with_reducible assumption | intro _ | (extract_lets +onlyGivenNames x; have h1 : Keeps s0 x := ?_; clear_value x; rotate_left; subst x)
    | (extract_lets +onlyGivenNames x; subst x) | with_reducible apply State.setF_keeps | with_reducible apply updSet_keeps
    | with_reducible apply setDestState_keeps | with_reducible apply refreshGroup_keeps | with_reducible apply fidEventSet_keeps
    | with_reducible apply foldl_keeps | with_reducible refine Keeps.upd ?_ rfl rfl rfl rfl rfl rfl

theorem doPrerollEntry_keeps {s0 : State} (set : Nat) (obs : EntryObs) (s : State) (hK : Keeps s0 s) :
    Keeps s0 (doPrerollEntry set obs s) := by
  unfold doPrerollEntry
  repeat' first
    | with_reducible assumption | (extract_lets +onlyGivenNames x; have h1 : Keeps s0 x := ?_; clear_value x; rotate_left; subst x)
    | (extract_lets +onlyGivenNames x; subst x) | with_reducible apply queueSplice_keeps | with_reducible apply askPower_keeps
    | with_reducible apply entryChecks_keeps | with_reducible apply enterPreroll_keeps | with_reducible apply Keeps.ite | split
    | with_reducible refine Keeps.upd ?_ rfl rfl rfl rfl rfl rfl

theorem deferArm_keeps {s0 : State} (a : Arm) (s : State) (hK : Keeps s0 s) :
    Keeps s0 (deferArm a s) := by
  unfold deferArm
  repeat' first
    | with_reducible assumption | (extract_lets +onlyGivenNames x; have h1 : Keeps s0 x := ?_; clear_value x; rotate_left; subst x)
    | (extract_lets +onlyGivenNames x; subst x) | with_reducible apply State.setF_keeps | with_reducible apply setDestState_keeps
    | with_reducible apply setResult_keeps

theorem belayLate_keeps {s0 : State} (s : State) (hK : Keeps s0 s) :
    Keeps s0 (belayLate s) := by
  unfold belayLate
  repeat' first
    | with_reducible assumption | with_reducible apply State.bump_keeps | with_reducible apply raiseEn_keeps

theorem deferSet_keeps {s0 : State} (c : ChangeSet) (s : State) (hK : Keeps s0 s) :
    Keeps s0 (deferSet c s) := by
  unfold deferSet
  repeat' first
    | with_reducible assumption | intro _ | (extract_lets +onlyGivenNames x; have h1 : Keeps s0 x := ?_; clear_value x; rotate_left; subst x)
    | (extract_lets +onlyGivenNames x; subst x) | with_reducible apply State.setF_keeps | with_reducible apply State.bump_keeps
    | with_reducible apply updSet_keeps | with_reducible apply refreshGroup_keeps | with_reducible apply rollbackFor_keeps
    | with_reducible apply deferArm_keeps | with_reducible apply belayLate_keeps | with_reducible apply foldl_keeps | with_reducible apply Keeps.ite
    | split | with_reducible refine Keeps.upd ?_ rfl rfl rfl rfl rfl rfl

theorem doDeferredPower_keeps {s0 : State} (set : Nat) (s : State) (hK : Keeps s0 s) :
    Keeps s0 (doDeferredPower set s) := by
  unfold doDeferredPower
  repeat' first
    | with_reducible assumption | with_reducible apply deferSet_keeps | with_reducible apply Keeps.ite | split
    | with_reducible refine Keeps.upd ?_ rfl rfl rfl rfl rfl rfl


/-! Staged -/

theorem writeShadow_keeps {s0 : State} (a : Nat) (v : Word) (s : State) (hK : Keeps s0 s) :
    Keeps s0 (writeShadow a v s) := by
  unfold writeShadow
  repeat' first
    | with_reducible assumption | intro _ | with_reducible apply State.setReg_keeps | with_reducible apply foldl_keeps
    | with_reducible apply Keeps.ite | split | with_reducible refine Keeps.upd ?_ rfl rfl rfl rfl rfl rfl

theorem writeShadows_keeps {s0 : State} (ws : List (Nat × Word)) (s : State) (hK : Keeps s0 s) :
    Keeps s0 (writeShadows ws s) := by
  unfold writeShadows
  repeat' first
    | with_reducible assumption | intro _ | with_reducible apply writeShadow_keeps | with_reducible apply foldl_keeps

theorem completeOpt_keeps {s0 : State} (o : Option Origin) (st : Status) (obj : Nat) (s : State) (hK : Keeps s0 s) :
    Keeps s0 (completeOpt o st obj s) := by
  unfold completeOpt
  repeat' first
    | with_reducible assumption | with_reducible apply complete_keeps | with_reducible apply Keeps.ite | split
    | with_reducible refine Keeps.upd ?_ rfl rfl rfl rfl rfl rfl

theorem idleTaps_keeps {s0 : State} (e : Nat) (s : State) (hK : Keeps s0 s) :
    Keeps s0 (idleTaps e s) := by
  unfold idleTaps
  repeat' first
    | with_reducible assumption | intro _ | with_reducible apply raiseLayer_keeps | with_reducible apply showTaps_keeps
    | with_reducible apply foldl_keeps | with_reducible apply Keeps.ite | split | with_reducible refine Keeps.upd ?_ rfl rfl rfl rfl rfl rfl

theorem applyIdle_keeps {s0 : State} (e : Nat) (o : Option Origin) (s : State) (hK : Keeps s0 s) :
    Keeps s0 (applyIdle e o s) := by
  unfold applyIdle
  repeat' first
    | with_reducible assumption | with_reducible apply holdCtx_keeps | with_reducible apply reloadShadow_keeps | with_reducible apply passEngine_keeps
    | with_reducible apply enginesRefresh_keeps | with_reducible apply setEngResult_keeps | with_reducible apply switchEngine_keeps
    | with_reducible apply completeOpt_keeps | with_reducible apply idleTaps_keeps | with_reducible apply Keeps.ite | split
    | with_reducible refine Keeps.upd ?_ rfl rfl rfl rfl rfl rfl

theorem stageEngine_keeps {s0 : State} (e t : Nat) (o : Option Origin) (s : State) (hK : Keeps s0 s) :
    Keeps s0 (stageEngine e t o s) := by
  unfold stageEngine
  repeat' first
    | with_reducible assumption | intro _ | (extract_lets +onlyGivenNames x; have h1 : Keeps s0 x := ?_; clear_value x; rotate_left; subst x)
    | (extract_lets +onlyGivenNames x; subst x) | with_reducible apply updSet_keeps | with_reducible apply holdEnginesAs_keeps
    | with_reducible apply openSet_keeps | with_reducible apply applyIdle_keeps | with_reducible apply Keeps.ite | split
    | with_reducible refine Keeps.upd ?_ rfl rfl rfl rfl rfl rfl

theorem addRegOps_keeps {s0 : State} (id : Nat) (ws : List (Nat × Word)) (s : State) (hK : Keeps s0 s) :
    Keeps s0 (addRegOps id ws s) := by
  unfold addRegOps
  repeat' first
    | with_reducible assumption | intro _ | with_reducible apply updSet_keeps | with_reducible apply writeShadows_keeps
    | with_reducible refine Keeps.upd ?_ rfl rfl rfl rfl rfl rfl

theorem stageObject_keeps {s0 : State} (obj t : Nat) (ws : List (Nat × Word)) (o : Option Origin) (s : State) (hK : Keeps s0 s) :
    Keeps s0 (stageObject obj t ws o s) := by
  unfold stageObject
  repeat' first
    | with_reducible assumption | intro _ | (extract_lets +onlyGivenNames x; have h1 : Keeps s0 x := ?_; clear_value x; rotate_left; subst x)
    | (extract_lets +onlyGivenNames x; subst x) | with_reducible apply updSet_keeps | with_reducible apply enginesRefresh_keeps
    | with_reducible apply openSet_keeps | with_reducible apply applyReg_keeps | with_reducible apply completeOpt_keeps
    | with_reducible apply addRegOps_keeps | with_reducible apply foldl_keeps | with_reducible apply Keeps.ite | split
    | with_reducible refine Keeps.upd ?_ rfl rfl rfl rfl rfl rfl

theorem holdWrite_keeps {s0 : State} (e a : Nat) (v : Word) (s : State) (hK : Keeps s0 s) :
    Keeps s0 (holdWrite e a v s) := by
  unfold holdWrite
  repeat' first
    | with_reducible assumption | (extract_lets +onlyGivenNames x; have h1 : Keeps s0 x := ?_; clear_value x; rotate_left; subst x)
    | (extract_lets +onlyGivenNames x; subst x) | with_reducible refine Keeps.upd ?_ rfl rfl rfl rfl rfl rfl

theorem rwsWrite_keeps {s0 : State} (t : Nat) (set : Option Nat) (a : Nat) (v : Word) (l : Loc) (s : State) (hK : Keeps s0 s) :
    Keeps s0 (rwsWrite t set a v l s) := by
  unfold rwsWrite
  repeat' first
    | with_reducible assumption | intro _ | (extract_lets +onlyGivenNames x; have h1 : Keeps s0 x := ?_; clear_value x; rotate_left; subst x)
    | (extract_lets +onlyGivenNames x; subst x) | with_reducible apply State.setReg_keeps | with_reducible apply State.setF_keeps
    | with_reducible apply ignoreWr_keeps | with_reducible apply setEngResult_keeps | with_reducible apply writeShadow_keeps
    | with_reducible apply stageEngine_keeps | with_reducible apply addRegOps_keeps | with_reducible apply stageObject_keeps
    | with_reducible apply holdWrite_keeps | with_reducible apply Keeps.ite | split | with_reducible refine Keeps.upd ?_ rfl rfl rfl rfl rfl rfl

theorem doStagedWrite_keeps {s0 : State} (m : Master) (a : Nat) (v : Word) (s : State) (hK : Keeps s0 s) :
    Keeps s0 (doStagedWrite m a v s) := by
  unfold doStagedWrite
  repeat' first
    | with_reducible assumption | intro _ | with_reducible apply gatedWrite_keeps | with_reducible apply rwsWrite_keeps
    | with_reducible apply Keeps.ite | split

theorem regFormEffect_keeps {s0 : State} (o : Origin) (obj : Nat) (engine : Bool) (mask : Nat) (regs : List Nat) (block : Option (List Word)) (s : State) (hK : Keeps s0 s) :
    Keeps s0 (regFormEffect o obj engine mask regs block s) := by
  unfold regFormEffect
  repeat' first
    | with_reducible assumption | (extract_lets +onlyGivenNames x; have h1 : Keeps s0 x := ?_; clear_value x; rotate_left; subst x)
    | (extract_lets +onlyGivenNames x; subst x) | with_reducible apply writeShadows_keeps | with_reducible apply stageEngine_keeps
    | with_reducible apply stageObject_keeps | with_reducible apply Keeps.ite | split

theorem regFormBatch_keeps {s0 : State} (obj : Nat) (engine : Bool) (mask : Nat) (regs : List Nat) (block : Option (List Word)) (id : Nat) (s : State) (hK : Keeps s0 s) :
    Keeps s0 (regFormBatch obj engine mask regs block id s) := by
  unfold regFormBatch
  repeat' first
    | with_reducible assumption | intro _ | (extract_lets +onlyGivenNames x; have h1 : Keeps s0 x := ?_; clear_value x; rotate_left; subst x)
    | (extract_lets +onlyGivenNames x; subst x) | with_reducible apply setSets_keeps | with_reducible apply updSet_keeps
    | with_reducible apply holdEngines_keeps | with_reducible apply writeShadows_keeps | with_reducible apply addRegOps_keeps
    | with_reducible apply Keeps.ite | split | with_reducible refine Keeps.upd ?_ rfl rfl rfl rfl rfl rfl

theorem regForm_keeps {s0 : State} (o : Origin) (inRange : Bool) (own : Nat) (engine : Bool) (mask : Nat) (regs : List Nat) (block : Option (List Word)) (s : State) (hK : Keeps s0 s) :
    Keeps s0 (regForm o inRange own engine mask regs block s) := by
  unfold regForm
  repeat' first
    | with_reducible assumption | intro _ | with_reducible apply hostCommand_keeps | with_reducible apply regFormEffect_keeps
    | with_reducible apply regFormBatch_keeps


end Sys2Proof.Machine
end

