-- ==== Sys2Proof/Laws/KeepsEngines.lean ====
section
/-! SUPPORT. What every operation of these files keeps: sheet bends, compositors, scan-out, the frame store, its readers, what encoders carry, lines and decisions. -/

set_option linter.unreachableTactic false
set_option linter.unusedTactic false
set_option linter.unusedVariables false

namespace Sys2Proof.Machine

open Sys2Proof

/-! SheetBend -/

theorem doSbdSet_keeps {s0 : State} (o : Origin) (n mask : Nat) (block : Option (List Word)) (s : State) (hK : Keeps s0 s) :
    Keeps s0 (doSbdSet o n mask block s) := by
  unfold doSbdSet
  repeat' first
    | with_reducible assumption | with_reducible apply regForm_keeps

theorem setSbdWord_keeps {s0 : State} (n table word v : Nat) (s : State) (hK : Keeps s0 s) :
    Keeps s0 (setSbdWord n table word v s) := by
  unfold setSbdWord
  repeat' first
    | with_reducible assumption | (extract_lets +onlyGivenNames x; have h1 : Keeps s0 x := ?_; clear_value x; rotate_left; subst x)
    | (extract_lets +onlyGivenNames x; subst x) | with_reducible apply Keeps.ite | split | with_reducible refine Keeps.upd ?_ rfl rfl rfl rfl rfl rfl

theorem setSbdTable_keeps {s0 : State} (n table : Nat) (ws : List Nat) (s : State) (hK : Keeps s0 s) :
    Keeps s0 (setSbdTable n table ws s) := by
  unfold setSbdTable
  repeat' first
    | with_reducible assumption | intro _ | with_reducible apply setSbdWord_keeps | with_reducible apply foldl_keeps

theorem doSbdTableLoad_keeps {s0 : State} (o : Origin) (n table source : Nat) (words : Option (List Word)) (s : State) (hK : Keeps s0 s) :
    Keeps s0 (doSbdTableLoad o n table source words s) := by
  unfold doSbdTableLoad
  repeat' first
    | with_reducible assumption | intro _ | with_reducible apply State.draw_keeps | with_reducible apply completeOk_keeps
    | with_reducible apply loneCommand_keeps | with_reducible apply setSbdTable_keeps | with_reducible apply foldl_keeps

theorem tblLoadWrite_keeps {s0 : State} (n : Nat) (v : Word) (s : State) (hK : Keeps s0 s) :
    Keeps s0 (tblLoadWrite n v s) := by
  unfold tblLoadWrite
  repeat' first
    | with_reducible assumption | (extract_lets +onlyGivenNames x; have h1 : Keeps s0 x := ?_; clear_value x; rotate_left; subst x)
    | (extract_lets +onlyGivenNames x; subst x) | with_reducible apply State.bump_keeps | with_reducible apply State.draw_keeps
    | with_reducible apply setSbdTable_keeps | with_reducible apply Keeps.ite | split

theorem doSbdTblLoad_keeps {s0 : State} (m : Master) (n : Nat) (v : Word) (s : State) (hK : Keeps s0 s) :
    Keeps s0 (doSbdTblLoad m n v s) := by
  unfold doSbdTblLoad
  repeat' first
    | with_reducible assumption | intro _ | with_reducible apply gatedWrite_keeps | with_reducible apply tblLoadWrite_keeps

theorem sbdAdvance_keeps {s0 : State} (n : Nat) (s : State) (hK : Keeps s0 s) :
    Keeps s0 (sbdAdvance n s) := by
  unfold sbdAdvance
  repeat' first
    | with_reducible assumption | with_reducible apply State.setF_keeps

theorem tblDataWrite_keeps {s0 : State} (n : Nat) (v : Word) (s : State) (hK : Keeps s0 s) :
    Keeps s0 (tblDataWrite n v s) := by
  unfold tblDataWrite
  repeat' first
    | with_reducible assumption | (extract_lets +onlyGivenNames x; have h1 : Keeps s0 x := ?_; clear_value x; rotate_left; subst x)
    | (extract_lets +onlyGivenNames x; subst x) | with_reducible apply State.bump_keeps | with_reducible apply setSbdWord_keeps
    | with_reducible apply sbdAdvance_keeps | with_reducible apply Keeps.ite | split

theorem tblDataRead_keeps {s0 : State} (n : Nat) (s : State) (hK : Keeps s0 s) :
    Keeps s0 (tblDataRead n s) := by
  unfold tblDataRead
  repeat' first
    | with_reducible assumption | with_reducible apply State.emit_keeps | with_reducible apply sbdAdvance_keeps

theorem doSbdTblData_keeps {s0 : State} (m : Master) (n : Nat) (v : Option Word) (s : State) (hK : Keeps s0 s) :
    Keeps s0 (doSbdTblData m n v s) := by
  unfold doSbdTblData
  repeat' first
    | with_reducible assumption | intro _ | with_reducible apply gatedWrite_keeps | with_reducible apply gatedRead_keeps
    | with_reducible apply tblDataWrite_keeps | with_reducible apply tblDataRead_keeps | with_reducible apply Keeps.ite | split
    | with_reducible refine Keeps.upd ?_ rfl rfl rfl rfl rfl rfl


/-! Compositor -/

theorem doCompSet_keeps {s0 : State} (o : Origin) (n mask : Nat) (block : Option (List Word)) (s : State) (hK : Keeps s0 s) :
    Keeps s0 (doCompSet o n mask block s) := by
  unfold doCompSet
  repeat' first
    | with_reducible assumption | with_reducible apply regForm_keeps

theorem doLayerSet_keeps {s0 : State} (o : Origin) (n mask : Nat) (block : Option (List Word)) (s : State) (hK : Keeps s0 s) :
    Keeps s0 (doLayerSet o n mask block s) := by
  unfold doLayerSet
  repeat' first
    | with_reducible assumption | with_reducible apply regForm_keeps

theorem setHandles_keeps {s0 : State} (t : Tab Handle) (s : State) (hK : Keeps s0 s) :
    Keeps s0 (setHandles t s) := by
  unfold setHandles
  repeat' first
    | with_reducible assumption | (extract_lets +onlyGivenNames x; have h1 : Keeps s0 x := ?_; clear_value x; rotate_left; subst x)
    | (extract_lets +onlyGivenNames x; subst x) | with_reducible refine Keeps.upd ?_ rfl rfl rfl rfl rfl rfl

theorem registerEffect_keeps {s0 : State} (o : Origin) (offset format width height pitch colour range : Nat) (s : State) (hK : Keeps s0 s) :
    Keeps s0 (registerEffect o offset format width height pitch colour range s) := by
  unfold registerEffect
  repeat' first
    | with_reducible assumption | (extract_lets +onlyGivenNames x; have h1 : Keeps s0 x := ?_; clear_value x; rotate_left; subst x)
    | (extract_lets +onlyGivenNames x; subst x) | with_reducible apply State.draw_keeps | with_reducible apply completeWith_keeps
    | with_reducible apply setHandles_keeps

theorem doRegisterBuffer_keeps {s0 : State} (o : Origin) (offset format width height pitch colour range : Nat) (s : State) (hK : Keeps s0 s) :
    Keeps s0 (doRegisterBuffer o offset format width height pitch colour range s) := by
  unfold doRegisterBuffer
  repeat' first
    | with_reducible assumption | intro _ | with_reducible apply loneCommand_keeps | with_reducible apply registerEffect_keeps

theorem doReleaseBuffer_keeps {s0 : State} (o : Origin) (h : Nat) (s : State) (hK : Keeps s0 s) :
    Keeps s0 (doReleaseBuffer o h s) := by
  unfold doReleaseBuffer
  repeat' first
    | with_reducible assumption | intro _ | with_reducible apply completeOk_keeps | with_reducible apply loneCommand_keeps
    | with_reducible apply setHandles_keeps

theorem setPending_keeps {s0 : State} (n h fence : Nat) (value : DWord) (target : Nat) (o : Option Origin) (s : State) (hK : Keeps s0 s) :
    Keeps s0 (setPending n h fence value target o s) := by
  unfold setPending
  repeat' first
    | with_reducible assumption | (extract_lets +onlyGivenNames x; have h1 : Keeps s0 x := ?_; clear_value x; rotate_left; subst x)
    | (extract_lets +onlyGivenNames x; subst x) | with_reducible apply setPend_keeps | with_reducible apply setFlips_keeps
    | with_reducible apply abortFlip_keeps

theorem doFlip_keeps {s0 : State} (o : Origin) (n h fence : Nat) (value : DWord) (target : Nat) (s : State) (hK : Keeps s0 s) :
    Keeps s0 (doFlip o n h fence value target s) := by
  unfold doFlip
  repeat' first
    | with_reducible assumption | intro _ | with_reducible apply loneCommand_keeps | with_reducible apply setPending_keeps

theorem flipWrite_keeps {s0 : State} (t n : Nat) (v : Word) (s : State) (hK : Keeps s0 s) :
    Keeps s0 (flipWrite t n v s) := by
  unfold flipWrite
  repeat' first
    | with_reducible assumption | with_reducible apply setEngResult_keeps | with_reducible apply setPending_keeps | with_reducible apply Keeps.ite
    | split | with_reducible refine Keeps.upd ?_ rfl rfl rfl rfl rfl rfl

theorem doCmpLFlip_keeps {s0 : State} (m : Master) (n : Nat) (v : Word) (s : State) (hK : Keeps s0 s) :
    Keeps s0 (doCmpLFlip m n v s) := by
  unfold doCmpLFlip
  repeat' first
    | with_reducible assumption | intro _ | with_reducible apply gatedWrite_keeps | with_reducible apply flipWrite_keeps

theorem setCpWord_keeps {s0 : State} (cp bank word v : Nat) (s : State) (hK : Keeps s0 s) :
    Keeps s0 (setCpWord cp bank word v s) := by
  unfold setCpWord
  repeat' first
    | with_reducible assumption | (extract_lets +onlyGivenNames x; have h1 : Keeps s0 x := ?_; clear_value x; rotate_left; subst x)
    | (extract_lets +onlyGivenNames x; subst x) | with_reducible apply Keeps.ite | split | with_reducible refine Keeps.upd ?_ rfl rfl rfl rfl rfl rfl

theorem setCpBank_keeps {s0 : State} (cp bank : Nat) (ws : List Nat) (s : State) (hK : Keeps s0 s) :
    Keeps s0 (setCpBank cp bank ws s) := by
  unfold setCpBank
  repeat' first
    | with_reducible assumption | intro _ | with_reducible apply setCpWord_keeps | with_reducible apply foldl_keeps

theorem doCompTableLoad_keeps {s0 : State} (o : Origin) (n bank : Nat) (words : Option (List Word)) (s : State) (hK : Keeps s0 s) :
    Keeps s0 (doCompTableLoad o n bank words s) := by
  unfold doCompTableLoad
  repeat' first
    | with_reducible assumption | intro _ | with_reducible apply completeOk_keeps | with_reducible apply loneCommand_keeps
    | with_reducible apply setCpBank_keeps

theorem cpAdvance_keeps {s0 : State} (n : Nat) (s : State) (hK : Keeps s0 s) :
    Keeps s0 (cpAdvance n s) := by
  unfold cpAdvance
  repeat' first
    | with_reducible assumption | with_reducible apply State.setF_keeps

theorem cpDataWrite_keeps {s0 : State} (n : Nat) (v : Word) (s : State) (hK : Keeps s0 s) :
    Keeps s0 (cpDataWrite n v s) := by
  unfold cpDataWrite
  repeat' first
    | with_reducible assumption | (extract_lets +onlyGivenNames x; have h1 : Keeps s0 x := ?_; clear_value x; rotate_left; subst x)
    | (extract_lets +onlyGivenNames x; subst x) | with_reducible apply State.bump_keeps | with_reducible apply setCpWord_keeps
    | with_reducible apply cpAdvance_keeps | with_reducible apply Keeps.ite | split

theorem cpDataRead_keeps {s0 : State} (n : Nat) (s : State) (hK : Keeps s0 s) :
    Keeps s0 (cpDataRead n s) := by
  unfold cpDataRead
  repeat' first
    | with_reducible assumption | with_reducible apply State.emit_keeps | with_reducible apply cpAdvance_keeps

theorem doCmpTblData_keeps {s0 : State} (m : Master) (n : Nat) (v : Option Word) (s : State) (hK : Keeps s0 s) :
    Keeps s0 (doCmpTblData m n v s) := by
  unfold doCmpTblData
  repeat' first
    | with_reducible assumption | intro _ | with_reducible apply gatedWrite_keeps | with_reducible apply gatedRead_keeps
    | with_reducible apply cpDataWrite_keeps | with_reducible apply cpDataRead_keeps | with_reducible apply Keeps.ite | split
    | with_reducible refine Keeps.upd ?_ rfl rfl rfl rfl rfl rfl


/-! Scan -/

theorem doTimingSet_keeps {s0 : State} (o : Origin) (n mask : Nat) (block : Option (List Word)) (s : State) (hK : Keeps s0 s) :
    Keeps s0 (doTimingSet o n mask block s) := by
  unfold doTimingSet
  repeat' first
    | with_reducible assumption | with_reducible apply regForm_keeps

theorem doPaceSet_keeps {s0 : State} (o : Origin) (n mask : Nat) (block : Option (List Word)) (s : State) (hK : Keeps s0 s) :
    Keeps s0 (doPaceSet o n mask block s) := by
  unfold doPaceSet
  repeat' first
    | with_reducible assumption | with_reducible apply regForm_keeps

theorem doCrcSet_keeps {s0 : State} (o : Origin) (n mask : Nat) (block : Option (List Word)) (s : State) (hK : Keeps s0 s) :
    Keeps s0 (doCrcSet o n mask block s) := by
  unfold doCrcSet
  repeat' first
    | with_reducible assumption | with_reducible apply regForm_keeps

theorem tableLoadWrite_keeps {s0 : State} (t : Nat) (set : Option Nat) (tg : Nat) (v : Word) (s : State) (hK : Keeps s0 s) :
    Keeps s0 (tableLoadWrite t set tg v s) := by
  unfold tableLoadWrite
  repeat' first
    | with_reducible assumption | intro _ | (extract_lets +onlyGivenNames x; have h1 : Keeps s0 x := ?_; clear_value x; rotate_left; subst x)
    | (extract_lets +onlyGivenNames x; subst x) | with_reducible apply ignoreWr_keeps | with_reducible apply setEngResult_keeps
    | with_reducible apply writeShadows_keeps | with_reducible apply stageEngine_keeps | with_reducible apply holdWrite_keeps
    | with_reducible apply foldl_keeps | with_reducible apply Keeps.ite | split | with_reducible refine Keeps.upd ?_ rfl rfl rfl rfl rfl rfl

theorem doScnTableLoad_keeps {s0 : State} (m : Master) (tg : Nat) (v : Word) (s : State) (hK : Keeps s0 s) :
    Keeps s0 (doScnTableLoad m tg v s) := by
  unfold doScnTableLoad
  repeat' first
    | with_reducible assumption | intro _ | with_reducible apply gatedWrite_keeps | with_reducible apply tableLoadWrite_keeps

theorem doLockStepEnd_keeps {s0 : State} (tg : Nat) (s : State) (hK : Keeps s0 s) :
    Keeps s0 (doLockStepEnd tg s) := by
  unfold doLockStepEnd
  repeat' first
    | with_reducible assumption | (extract_lets +onlyGivenNames x; have h1 : Keeps s0 x := ?_; clear_value x; rotate_left; subst x)
    | (extract_lets +onlyGivenNames x; subst x) | with_reducible apply State.setBit_keeps | with_reducible apply setGenSt_keeps
    | with_reducible apply genLocked_keeps | with_reducible apply Keeps.ite | split | with_reducible refine Keeps.upd ?_ rfl rfl rfl rfl rfl rfl

theorem fillTillLocked_keeps {s0 : State} (tg : Nat) (s : State) (hK : Keeps s0 s) :
    Keeps s0 (fillTillLocked tg s) := by
  unfold fillTillLocked
  repeat' first
    | with_reducible assumption | intro _ | (extract_lets +onlyGivenNames x; have h1 : Keeps s0 x := ?_; clear_value x; rotate_left; subst x)
    | (extract_lets +onlyGivenNames x; subst x) | with_reducible apply State.setBit_keeps | with_reducible apply setGenSt_keeps
    | with_reducible apply raiseDest_keeps | with_reducible apply foldl_keeps | with_reducible refine Keeps.upd ?_ rfl rfl rfl rfl rfl rfl

theorem newTiming_keeps {s0 : State} (tg : Nat) (inPhase : Bool) (s : State) (hK : Keeps s0 s) :
    Keeps s0 (newTiming tg inPhase s) := by
  unfold newTiming
  repeat' first
    | with_reducible assumption | with_reducible apply setLock_keeps | with_reducible apply setEngResult_keeps | with_reducible apply genLocked_keeps
    | with_reducible apply genUnlock_keeps | with_reducible apply fillTillLocked_keeps | with_reducible apply Keeps.ite | split
    | with_reducible refine Keeps.upd ?_ rfl rfl rfl rfl rfl rfl

theorem doGapEnd_keeps {s0 : State} (tg : Nat) (s : State) (hK : Keeps s0 s) :
    Keeps s0 (doGapEnd tg s) := by
  unfold doGapEnd
  repeat' first
    | with_reducible assumption | (extract_lets +onlyGivenNames x; have h1 : Keeps s0 x := ?_; clear_value x; rotate_left; subst x)
    | (extract_lets +onlyGivenNames x; subst x) | with_reducible apply State.setReg_keeps | with_reducible apply State.setBit_keeps
    | with_reducible apply setGenSt_keeps | with_reducible apply newTiming_keeps | with_reducible apply Keeps.ite | split
    | with_reducible refine Keeps.upd ?_ rfl rfl rfl rfl rfl rfl


/-! Store -/

theorem setStore_keeps {s0 : State} (r : StoreState) (s : State) (h : Keeps s0 s) (hk : r.mem = s.store.mem) :
    Keeps s0 (setStore r s) := Keeps.upd h hk rfl rfl rfl rfl rfl

theorem setChState_keeps {s0 : State} (m v : Nat) (s : State) (hK : Keeps s0 s) :
    Keeps s0 (setChState m v s) := by
  unfold setChState
  repeat' first
    | with_reducible assumption | with_reducible apply State.setF_keeps

theorem raiseCh_keeps {s0 : State} (m b : Nat) (s : State) (hK : Keeps s0 s) :
    Keeps s0 (raiseCh m b s) := by
  unfold raiseCh
  repeat' first
    | with_reducible assumption | with_reducible apply raiseEn_keeps

theorem setLane_keeps {s0 : State} (x k v : Nat) (s : State) (hK : Keeps s0 s) :
    Keeps s0 (setLane x k v s) := by
  unfold setLane
  repeat' first
    | with_reducible assumption | ((with_reducible refine Eq.symm ?_); rfl)
    | (extract_lets +onlyGivenNames x; have h1 : Keeps s0 x := ?_; clear_value x; rotate_left; subst x) | (extract_lets +onlyGivenNames x; subst x)
    | with_reducible refine setStore_keeps _ _ ?_ ?_ | with_reducible refine Keeps.upd ?_ rfl rfl rfl rfl rfl rfl

theorem setSpares_keeps {s0 : State} (m : Nat) (l : List Nat) (s : State) (hK : Keeps s0 s) :
    Keeps s0 (setSpares m l s) := by
  unfold setSpares
  repeat' first
    | with_reducible assumption | ((with_reducible refine Eq.symm ?_); rfl)
    | (extract_lets +onlyGivenNames x; have h1 : Keeps s0 x := ?_; clear_value x; rotate_left; subst x) | (extract_lets +onlyGivenNames x; subst x)
    | with_reducible apply State.setF_keeps | with_reducible refine setStore_keeps _ _ ?_ ?_
    | with_reducible refine Keeps.upd ?_ rfl rfl rfl rfl rfl rfl

theorem freePiece_keeps {s0 : State} (v : Nat) (s : State) (hK : Keeps s0 s) :
    Keeps s0 (freePiece v s) := by
  unfold freePiece
  repeat' first
    | with_reducible assumption | with_reducible apply setSpares_keeps

theorem takePiece_keeps {s0 : State} (v : Nat) (s : State) (hK : Keeps s0 s) :
    Keeps s0 (takePiece v s) := by
  unfold takePiece
  repeat' first
    | with_reducible assumption | intro _ | with_reducible apply setSpares_keeps

theorem refreshLanes_keeps {s0 : State} (m : Nat) (s : State) (hK : Keeps s0 s) :
    Keeps s0 (refreshLanes m s) := by
  unfold refreshLanes
  repeat' first
    | with_reducible assumption | (extract_lets +onlyGivenNames x; have h1 : Keeps s0 x := ?_; clear_value x; rotate_left; subst x)
    | (extract_lets +onlyGivenNames x; subst x) | with_reducible apply State.setReg_keeps | with_reducible apply Keeps.ite | split
    | with_reducible refine Keeps.upd ?_ rfl rfl rfl rfl rfl rfl

theorem refreshAllLanes_keeps {s0 : State} (s : State) (hK : Keeps s0 s) :
    Keeps s0 (refreshAllLanes s) := by
  unfold refreshAllLanes
  repeat' first
    | with_reducible assumption | intro _ | with_reducible apply refreshLanes_keeps | with_reducible apply foldl_keeps

theorem setPoison_keeps {s0 : State} (burst : Nat) (v : Bool) (s : State) (hK : Keeps s0 s) :
    Keeps s0 (setPoison burst v s) := by
  unfold setPoison
  repeat' first
    | with_reducible assumption | ((with_reducible refine Eq.symm ?_); rfl) | intro _
    | (extract_lets +onlyGivenNames x; have h1 : Keeps s0 x := ?_; clear_value x; rotate_left; subst x) | (extract_lets +onlyGivenNames x; subst x)
    | with_reducible refine setStore_keeps _ _ ?_ ?_ | with_reducible apply Keeps.ite | split
    | with_reducible refine Keeps.upd ?_ rfl rfl rfl rfl rfl rfl

theorem writeByte_keeps {s0 : State} (a : Nat) (b : Byte) (s : State) (hK : Keeps s0 s) : Keeps s0 (writeByte a b s) := by
  unfold writeByte
  split
  · exact hK
  · exact ⟨hK.pending, hK.draws, fun c => by
      have := hK.canon c
      simp only [State.canonical, setStore, Memory.wf, Bool.and_eq_true] at this ⊢
      exact ⟨⟨⟨this.1.1.1, tabCanon_tabPut (d := fun _ => (0 : Byte)) this.1.1.2⟩, this.1.2⟩, this.2⟩,
      hK.page, hK.locked, hK.rooted⟩

theorem writeBytes_keeps {s0 : State} (a : Nat) (l : List Byte) (s : State) (hK : Keeps s0 s) :
    Keeps s0 (writeBytes a l s) := by
  unfold writeBytes
  repeat' first
    | with_reducible assumption | intro _ | (extract_lets +onlyGivenNames x; have h1 : Keeps s0 x := ?_; clear_value x; rotate_left; subst x)
    | (extract_lets +onlyGivenNames x; subst x) | with_reducible apply setPoison_keeps | with_reducible apply writeByte_keeps
    | with_reducible apply foldl_keeps | with_reducible apply Keeps.ite | split

theorem writePart_keeps {s0 : State} (t p : Nat) (l : List Byte) (s : State) (hK : Keeps s0 s) :
    Keeps s0 (writePart t p l s) := by
  unfold writePart
  repeat' first
    | with_reducible assumption | with_reducible apply writeBytes_keeps

theorem readCorrected_keeps {s0 : State} (m : Nat) (s : State) (hK : Keeps s0 s) :
    Keeps s0 (readCorrected m s) := by
  unfold readCorrected
  repeat' first
    | with_reducible assumption | ((with_reducible refine Eq.symm ?_); rfl)
    | (extract_lets +onlyGivenNames x; have h1 : Keeps s0 x := ?_; clear_value x; rotate_left; subst x) | (extract_lets +onlyGivenNames x; subst x)
    | with_reducible apply State.bump_keeps | with_reducible refine setStore_keeps _ _ ?_ ?_ | with_reducible apply raiseCh_keeps
    | with_reducible apply Keeps.ite | split | with_reducible refine Keeps.upd ?_ rfl rfl rfl rfl rfl rfl

theorem readUncorrectable_keeps {s0 : State} (m a : Nat) (s : State) (hK : Keeps s0 s) :
    Keeps s0 (readUncorrectable m a s) := by
  unfold readUncorrectable
  repeat' first
    | with_reducible assumption | (extract_lets +onlyGivenNames x; have h1 : Keeps s0 x := ?_; clear_value x; rotate_left; subst x)
    | (extract_lets +onlyGivenNames x; subst x) | with_reducible apply State.setReg_keeps | with_reducible apply State.bump_keeps
    | with_reducible apply raiseCh_keeps | with_reducible apply setPoison_keeps

theorem storeRead_keeps {s0 : State} (m a : Nat) (uncorrectable : Bool) (s : State) (hK : Keeps s0 s) :
    Keeps s0 (storeRead m a uncorrectable s) := by
  unfold storeRead
  repeat' first
    | with_reducible assumption | with_reducible apply readCorrected_keeps | with_reducible apply readUncorrectable_keeps
    | with_reducible apply Keeps.ite | split

theorem channelFail_keeps {s0 : State} (m reason : Nat) (s : State) (hK : Keeps s0 s) :
    Keeps s0 (channelFail m reason s) := by
  unfold channelFail
  repeat' first
    | with_reducible assumption | ((with_reducible refine Eq.symm ?_); rfl) | intro _
    | (extract_lets +onlyGivenNames x; have h1 : Keeps s0 x := ?_; clear_value x; rotate_left; subst x) | (extract_lets +onlyGivenNames x; subst x)
    | with_reducible apply State.setF_keeps | with_reducible apply alert_keeps | with_reducible apply complete_keeps
    | with_reducible apply logBit_keeps | with_reducible refine setStore_keeps _ _ ?_ ?_ | with_reducible apply setChState_keeps
    | with_reducible apply raiseCh_keeps | with_reducible apply Keeps.ite | split | with_reducible refine Keeps.upd ?_ rfl rfl rfl rfl rfl rfl

theorem doChannelTrained_keeps {s0 : State} (m : Nat) (r : TrainResult) (s : State) (hK : Keeps s0 s) :
    Keeps s0 (doChannelTrained m r s) := by
  unfold doChannelTrained
  repeat' first
    | with_reducible assumption | (extract_lets +onlyGivenNames x; have h1 : Keeps s0 x := ?_; clear_value x; rotate_left; subst x)
    | (extract_lets +onlyGivenNames x; subst x) | with_reducible apply State.setReg_keeps | with_reducible apply State.setF_keeps
    | with_reducible apply State.setBit_keeps | with_reducible apply setChState_keeps | with_reducible apply channelFail_keeps
    | with_reducible apply Keeps.ite | split | with_reducible refine Keeps.upd ?_ rfl rfl rfl rfl rfl rfl

theorem placeLanes_keeps {s0 : State} (m : Nat) (s : State) (hK : Keeps s0 s) :
    Keeps s0 (placeLanes m s) := by
  unfold placeLanes
  repeat' first
    | with_reducible assumption | ((with_reducible refine Eq.symm ?_); rfl) | intro _
    | (extract_lets +onlyGivenNames x; have h1 : Keeps s0 x := ?_; clear_value x; rotate_left; subst x) | (extract_lets +onlyGivenNames x; subst x)
    | with_reducible refine setStore_keeps _ _ ?_ ?_ | with_reducible apply setLane_keeps | with_reducible apply takePiece_keeps
    | with_reducible apply foldl_keeps | with_reducible apply Keeps.ite | split | with_reducible refine Keeps.upd ?_ rfl rfl rfl rfl rfl rfl

theorem enterService_keeps {s0 : State} (failed : List Nat) (s : State) (hK : Keeps s0 s) :
    Keeps s0 (enterService failed s) := by
  unfold enterService
  repeat' first
    | with_reducible assumption | ((with_reducible refine Eq.symm ?_); rfl) | intro _
    | (extract_lets +onlyGivenNames x; have h1 : Keeps s0 x := ?_; clear_value x; rotate_left; subst x) | (extract_lets +onlyGivenNames x; subst x)
    | with_reducible apply State.setReg_keeps | with_reducible apply State.setBit_keeps | with_reducible apply enginesRefresh_keeps
    | with_reducible refine setStore_keeps _ _ ?_ ?_ | with_reducible apply setSpares_keeps | with_reducible apply refreshAllLanes_keeps
    | with_reducible apply placeLanes_keeps | with_reducible apply foldl_keeps | with_reducible apply Keeps.ite | split
    | with_reducible refine Keeps.upd ?_ rfl rfl rfl rfl rfl rfl

theorem storeInService_keeps {s0 : State} (s : State) (hK : Keeps s0 s) :
    Keeps s0 (storeInService s) := by
  unfold storeInService
  repeat' first
    | with_reducible assumption | intro _ | (extract_lets +onlyGivenNames x; have h1 : Keeps s0 x := ?_; clear_value x; rotate_left; subst x)
    | (extract_lets +onlyGivenNames x; subst x) | with_reducible apply State.setF_keeps | with_reducible apply enterService_keeps
    | with_reducible apply Keeps.ite | split

theorem refreshReady_keeps {s0 : State} (s : State) (hK : Keeps s0 s) :
    Keeps s0 (refreshReady s) := by
  unfold refreshReady
  repeat' first
    | with_reducible assumption | intro _ | (extract_lets +onlyGivenNames x; have h1 : Keeps s0 x := ?_; clear_value x; rotate_left; subst x)
    | (extract_lets +onlyGivenNames x; subst x) | with_reducible apply State.setReg_keeps | with_reducible apply foldl_keeps

theorem doExtentReady_keeps {s0 : State} (s : State) (hK : Keeps s0 s) :
    Keeps s0 (doExtentReady s) := by
  unfold doExtentReady
  repeat' first
    | with_reducible assumption | (extract_lets +onlyGivenNames x; have h1 : Keeps s0 x := ?_; clear_value x; rotate_left; subst x)
    | (extract_lets +onlyGivenNames x; subst x) | with_reducible apply State.setF_keeps | with_reducible apply refreshReady_keeps
    | with_reducible apply Keeps.ite | split

theorem fillEnds_keeps {s0 : State} (s : State) (hK : Keeps s0 s) :
    Keeps s0 (fillEnds s) := by
  unfold fillEnds
  repeat' first
    | with_reducible assumption | ((with_reducible refine Eq.symm ?_); rfl) | intro _
    | (extract_lets +onlyGivenNames x; have h1 : Keeps s0 x := ?_; clear_value x; rotate_left; subst x) | (extract_lets +onlyGivenNames x; subst x)
    | with_reducible apply State.setF_keeps | with_reducible apply State.setBit_keeps | with_reducible refine setStore_keeps _ _ ?_ ?_
    | with_reducible apply refreshReady_keeps | with_reducible apply Keeps.ite | split | with_reducible refine Keeps.upd ?_ rfl rfl rfl rfl rfl rfl

theorem doChannelFilled_keeps {s0 : State} (m : Nat) (s : State) (hK : Keeps s0 s) :
    Keeps s0 (doChannelFilled m s) := by
  unfold doChannelFilled
  repeat' first
    | with_reducible assumption | ((with_reducible refine Eq.symm ?_); rfl) | intro _
    | (extract_lets +onlyGivenNames x; have h1 : Keeps s0 x := ?_; clear_value x; rotate_left; subst x) | (extract_lets +onlyGivenNames x; subst x)
    | with_reducible apply completeOk_keeps | with_reducible refine setStore_keeps _ _ ?_ ?_ | with_reducible apply setChState_keeps
    | with_reducible apply setSpares_keeps | with_reducible apply fillEnds_keeps | with_reducible apply Keeps.ite | split
    | with_reducible refine Keeps.upd ?_ rfl rfl rfl rfl rfl rfl

theorem endCopy_keeps {s0 : State} (s : State) (hK : Keeps s0 s) :
    Keeps s0 (endCopy s) := by
  unfold endCopy
  repeat' first
    | with_reducible assumption | ((with_reducible refine Eq.symm ?_); rfl)
    | (extract_lets +onlyGivenNames x; have h1 : Keeps s0 x := ?_; clear_value x; rotate_left; subst x) | (extract_lets +onlyGivenNames x; subst x)
    | with_reducible apply State.setBit_keeps | with_reducible refine setStore_keeps _ _ ?_ ?_ | with_reducible apply refreshAllLanes_keeps
    | with_reducible refine Keeps.upd ?_ rfl rfl rfl rfl rfl rfl

theorem copyDone_keeps {s0 : State} (j : CopyJob) (s : State) (hK : Keeps s0 s) :
    Keeps s0 (copyDone j s) := by
  unfold copyDone
  repeat' first
    | with_reducible assumption | ((with_reducible refine Eq.symm ?_); rfl) | intro _
    | (extract_lets +onlyGivenNames x; have h1 : Keeps s0 x := ?_; clear_value x; rotate_left; subst x) | (extract_lets +onlyGivenNames x; subst x)
    | with_reducible apply completeOk_keeps | with_reducible refine setStore_keeps _ _ ?_ ?_ | with_reducible apply setChState_keeps
    | with_reducible apply raiseCh_keeps | with_reducible apply endCopy_keeps | with_reducible apply Keeps.ite | split
    | with_reducible refine Keeps.upd ?_ rfl rfl rfl rfl rfl rfl

theorem startCopy_keeps {s0 : State} (j : CopyJob) (s : State) (hK : Keeps s0 s) :
    Keeps s0 (startCopy j s) := by
  unfold startCopy
  repeat' first
    | with_reducible assumption | ((with_reducible refine Eq.symm ?_); rfl) | intro _
    | (extract_lets +onlyGivenNames x; have h1 : Keeps s0 x := ?_; clear_value x; rotate_left; subst x) | (extract_lets +onlyGivenNames x; subst x)
    | with_reducible apply State.setBit_keeps | with_reducible refine setStore_keeps _ _ ?_ ?_ | with_reducible apply refreshLanes_keeps
    | with_reducible apply copyDone_keeps | with_reducible apply Keeps.ite | split | with_reducible refine Keeps.upd ?_ rfl rfl rfl rfl rfl rfl

theorem doEvacuateChannel_keeps {s0 : State} (o : Origin) (m : Nat) (s : State) (hK : Keeps s0 s) :
    Keeps s0 (doEvacuateChannel o m s) := by
  unfold doEvacuateChannel
  repeat' first
    | with_reducible assumption | intro _ | with_reducible apply loneCommand_keeps | with_reducible apply setChState_keeps
    | with_reducible apply startCopy_keeps | with_reducible apply Keeps.ite | split

theorem doRebalance_keeps {s0 : State} (o : Origin) (m : Nat) (s : State) (hK : Keeps s0 s) :
    Keeps s0 (doRebalance o m s) := by
  unfold doRebalance
  repeat' first
    | with_reducible assumption | intro _ | with_reducible apply loneCommand_keeps | with_reducible apply setChState_keeps
    | with_reducible apply startCopy_keeps

theorem abortCopy_keeps {s0 : State} (j : CopyJob) (s : State) (hK : Keeps s0 s) :
    Keeps s0 (abortCopy j s) := by
  unfold abortCopy
  repeat' first
    | with_reducible assumption | with_reducible apply complete_keeps | with_reducible apply endCopy_keeps

theorem movePiece_keeps {s0 : State} (x k dest : Nat) (s : State) (hK : Keeps s0 s) :
    Keeps s0 (movePiece x k dest s) := by
  unfold movePiece
  repeat' first
    | with_reducible assumption | ((with_reducible refine Eq.symm ?_); rfl) | intro _
    | (extract_lets +onlyGivenNames x; have h1 : Keeps s0 x := ?_; clear_value x; rotate_left; subst x) | (extract_lets +onlyGivenNames x; subst x)
    | with_reducible refine setStore_keeps _ _ ?_ ?_ | with_reducible apply setLane_keeps | with_reducible apply freePiece_keeps
    | with_reducible apply takePiece_keeps | with_reducible apply Keeps.ite | split | with_reducible refine Keeps.upd ?_ rfl rfl rfl rfl rfl rfl

theorem doPieceCopied_keeps {s0 : State} (s : State) (hK : Keeps s0 s) :
    Keeps s0 (doPieceCopied s) := by
  unfold doPieceCopied
  repeat' first
    | with_reducible assumption | ((with_reducible refine Eq.symm ?_); rfl)
    | (extract_lets +onlyGivenNames x; have h1 : Keeps s0 x := ?_; clear_value x; rotate_left; subst x) | (extract_lets +onlyGivenNames x; subst x)
    | with_reducible refine setStore_keeps _ _ ?_ ?_ | with_reducible apply refreshLanes_keeps | with_reducible apply copyDone_keeps
    | with_reducible apply abortCopy_keeps | with_reducible apply movePiece_keeps | with_reducible apply Keeps.ite | split
    | with_reducible refine Keeps.upd ?_ rfl rfl rfl rfl rfl rfl

theorem stopCopy_keeps {s0 : State} (s : State) (hK : Keeps s0 s) :
    Keeps s0 (stopCopy s) := by
  unfold stopCopy
  repeat' first
    | with_reducible assumption | ((with_reducible refine Eq.symm ?_); rfl)
    | (extract_lets +onlyGivenNames x; have h1 : Keeps s0 x := ?_; clear_value x; rotate_left; subst x) | (extract_lets +onlyGivenNames x; subst x)
    | with_reducible refine setStore_keeps _ _ ?_ ?_ | with_reducible apply Keeps.ite | split
    | with_reducible refine Keeps.upd ?_ rfl rfl rfl rfl rfl rfl

theorem setMemPwr_keeps {s0 : State} (m : Nat) (v : Bool) (s : State) (hK : Keeps s0 s) :
    Keeps s0 (setMemPwr m v s) := by
  unfold setMemPwr
  repeat' first
    | with_reducible assumption | ((with_reducible refine Eq.symm ?_); rfl)
    | (extract_lets +onlyGivenNames x; have h1 : Keeps s0 x := ?_; clear_value x; rotate_left; subst x) | (extract_lets +onlyGivenNames x; subst x)
    | with_reducible refine setStore_keeps _ _ ?_ ?_ | with_reducible apply Keeps.ite | split
    | with_reducible refine Keeps.upd ?_ rfl rfl rfl rfl rfl rfl

theorem channelPowerEffect_keeps {s0 : State} (o : Origin) (m : Nat) (on : Bool) (s : State) (hK : Keeps s0 s) :
    Keeps s0 (channelPowerEffect o m on s) := by
  unfold channelPowerEffect
  repeat' first
    | with_reducible assumption | ((with_reducible refine Eq.symm ?_); rfl)
    | (extract_lets +onlyGivenNames x; have h1 : Keeps s0 x := ?_; clear_value x; rotate_left; subst x) | (extract_lets +onlyGivenNames x; subst x)
    | with_reducible apply State.setF_keeps | with_reducible refine setStore_keeps _ _ ?_ ?_ | with_reducible apply setChState_keeps
    | with_reducible apply setMemPwr_keeps | with_reducible apply Keeps.ite | split | with_reducible refine Keeps.upd ?_ rfl rfl rfl rfl rfl rfl

theorem doChannelPower_keeps {s0 : State} (o : Origin) (m : Nat) (on : Bool) (s : State) (hK : Keeps s0 s) :
    Keeps s0 (doChannelPower o m on s) := by
  unfold doChannelPower
  repeat' first
    | with_reducible assumption | intro _ | with_reducible apply loneCommand_keeps | with_reducible apply channelPowerEffect_keeps

theorem doPowerOffSafe_keeps {s0 : State} (m : Nat) (s : State) (hK : Keeps s0 s) :
    Keeps s0 (doPowerOffSafe m s) := by
  unfold doPowerOffSafe
  repeat' first
    | with_reducible assumption | ((with_reducible refine Eq.symm ?_); rfl)
    | (extract_lets +onlyGivenNames x; have h1 : Keeps s0 x := ?_; clear_value x; rotate_left; subst x) | (extract_lets +onlyGivenNames x; subst x)
    | with_reducible apply completeOk_keeps | with_reducible refine setStore_keeps _ _ ?_ ?_ | with_reducible apply setChState_keeps
    | with_reducible apply raiseCh_keeps | with_reducible apply setSpares_keeps | with_reducible apply Keeps.ite | split
    | with_reducible refine Keeps.upd ?_ rfl rfl rfl rfl rfl rfl

theorem doFailed_keeps {s0 : State} (m : Nat) (s : State) (hK : Keeps s0 s) :
    Keeps s0 (doFailed m s) := by
  unfold doFailed
  repeat' first
    | with_reducible assumption | intro _ | (extract_lets +onlyGivenNames x; have h1 : Keeps s0 x := ?_; clear_value x; rotate_left; subst x)
    | (extract_lets +onlyGivenNames x; subst x) | with_reducible apply channelFail_keeps | with_reducible apply fillEnds_keeps
    | with_reducible apply abortCopy_keeps | with_reducible apply Keeps.ite | split | with_reducible refine Keeps.upd ?_ rfl rfl rfl rfl rfl rfl

theorem doPatrolScrub_keeps {s0 : State} (reads : List (Nat × Nat × Bool)) (pass : Bool) (s : State) (hK : Keeps s0 s) :
    Keeps s0 (doPatrolScrub reads pass s) := by
  unfold doPatrolScrub
  repeat' first
    | with_reducible assumption | ((with_reducible refine Eq.symm ?_); rfl) | intro _
    | (extract_lets +onlyGivenNames x; have h1 : Keeps s0 x := ?_; clear_value x; rotate_left; subst x) | (extract_lets +onlyGivenNames x; subst x)
    | with_reducible refine setStore_keeps _ _ ?_ ?_ | with_reducible apply storeRead_keeps | with_reducible apply foldl_keeps
    | with_reducible apply Keeps.ite | split | with_reducible refine Keeps.upd ?_ rfl rfl rfl rfl rfl rfl

theorem intoRefresh_keeps {s0 : State} (m : Nat) (s : State) (hK : Keeps s0 s) :
    Keeps s0 (intoRefresh m s) := by
  unfold intoRefresh
  repeat' first
    | with_reducible assumption | ((with_reducible refine Eq.symm ?_); rfl)
    | (extract_lets +onlyGivenNames x; have h1 : Keeps s0 x := ?_; clear_value x; rotate_left; subst x) | (extract_lets +onlyGivenNames x; subst x)
    | with_reducible refine setStore_keeps _ _ ?_ ?_ | with_reducible refine Keeps.upd ?_ rfl rfl rfl rfl rfl rfl

theorem outOfRefresh_keeps {s0 : State} (m : Nat) (s : State) (hK : Keeps s0 s) :
    Keeps s0 (outOfRefresh m s) := by
  unfold outOfRefresh
  repeat' first
    | with_reducible assumption | ((with_reducible refine Eq.symm ?_); rfl)
    | (extract_lets +onlyGivenNames x; have h1 : Keeps s0 x := ?_; clear_value x; rotate_left; subst x) | (extract_lets +onlyGivenNames x; subst x)
    | with_reducible apply State.bump_keeps | with_reducible refine setStore_keeps _ _ ?_ ?_ | with_reducible apply Keeps.ite | split
    | with_reducible refine Keeps.upd ?_ rfl rfl rfl rfl rfl rfl

theorem doSelfRefreshEntry_keeps {s0 : State} (m : Nat) (s : State) (hK : Keeps s0 s) :
    Keeps s0 (doSelfRefreshEntry m s) := by
  unfold doSelfRefreshEntry
  repeat' first
    | with_reducible assumption | with_reducible apply intoRefresh_keeps | with_reducible apply Keeps.ite | split

theorem doSelfRefreshExit_keeps {s0 : State} (m : Nat) (host : Bool) (s : State) (hK : Keeps s0 s) :
    Keeps s0 (doSelfRefreshExit m host s) := by
  unfold doSelfRefreshExit
  repeat' first
    | with_reducible assumption | with_reducible apply outOfRefresh_keeps | with_reducible apply Keeps.ite | split
    | with_reducible refine Keeps.upd ?_ rfl rfl rfl rfl rfl rfl

theorem wakeChannels_keeps {s0 : State} (t p n : Nat) (s : State) (hK : Keeps s0 s) :
    Keeps s0 (wakeChannels t p n s) := by
  unfold wakeChannels
  repeat' first
    | with_reducible assumption | intro _ | with_reducible apply outOfRefresh_keeps | with_reducible apply foldl_keeps

theorem bar2Oor_keeps {s0 : State} (t p n : Nat) (s : State) (hK : Keeps s0 s) :
    Keeps s0 (bar2Oor t p n s) := by
  unfold bar2Oor
  repeat' first
    | with_reducible assumption | with_reducible apply State.bump_keeps | with_reducible apply Keeps.ite | split

theorem doBar2Access_keeps {s0 : State} (t : Nat) (q : Bar2) (s : State) (hK : Keeps s0 s) :
    Keeps s0 (doBar2Access t q s) := by
  unfold doBar2Access
  repeat' first
    | with_reducible assumption | intro _ | (extract_lets +onlyGivenNames x; have h1 : Keeps s0 x := ?_; clear_value x; rotate_left; subst x)
    | (extract_lets +onlyGivenNames x; subst x) | with_reducible apply State.draw_keeps | with_reducible apply State.emit_keeps
    | with_reducible apply writePart_keeps | with_reducible apply wakeChannels_keeps | with_reducible apply bar2Oor_keeps
    | with_reducible apply Keeps.ite | split | with_reducible refine Keeps.upd ?_ rfl rfl rfl rfl rfl rfl

theorem fstResult_keeps {s0 : State} (st : Status) (s : State) (hK : Keeps s0 s) :
    Keeps s0 (fstResult st s) := by
  unfold fstResult
  repeat' first
    | with_reducible assumption | with_reducible apply State.setF_keeps

theorem budgetWrite_keeps {s0 : State} (v : Nat) (s : State) (hK : Keeps s0 s) :
    Keeps s0 (budgetWrite v s) := by
  unfold budgetWrite
  repeat' first
    | with_reducible assumption | with_reducible apply State.setF_keeps | with_reducible apply fstResult_keeps | with_reducible apply Keeps.ite
    | split

theorem fstWrite_keeps {s0 : State} (l : Loc) (a : Nat) (v : Word) (s : State) (hK : Keeps s0 s) :
    Keeps s0 (fstWrite l a v s) := by
  unfold fstWrite
  repeat' first
    | with_reducible assumption | with_reducible apply plainWrite_keeps | with_reducible apply budgetWrite_keeps | with_reducible apply Keeps.ite
    | split

theorem doRecorderSet_keeps {s0 : State} (o : Origin) (n mask : Nat) (block : Option (List Word)) (s : State) (hK : Keeps s0 s) :
    Keeps s0 (doRecorderSet o n mask block s) := by
  unfold doRecorderSet
  repeat' first
    | with_reducible assumption | with_reducible apply regForm_keeps

theorem doPlayerSet_keeps {s0 : State} (o : Origin) (n mask : Nat) (block : Option (List Word)) (s : State) (hK : Keeps s0 s) :
    Keeps s0 (doPlayerSet o n mask block s) := by
  unfold doPlayerSet
  repeat' first
    | with_reducible assumption | with_reducible apply regForm_keeps

theorem doPlayerCue_keeps {s0 : State} (o : Origin) (n time : Nat) (s : State) (hK : Keeps s0 s) :
    Keeps s0 (doPlayerCue o n time s) := by
  unfold doPlayerCue
  repeat' first
    | with_reducible assumption | intro _ | (extract_lets +onlyGivenNames x; have h1 : Keeps s0 x := ?_; clear_value x; rotate_left; subst x)
    | (extract_lets +onlyGivenNames x; subst x) | with_reducible apply loneCommand_keeps | with_reducible apply stageObject_keeps

theorem putHead_keeps {s0 : State} (r slot : Nat) (h : SlotHead) (s : State) (hK : Keeps s0 s) :
    Keeps s0 (putHead r slot h s) := by
  unfold putHead
  repeat' first
    | with_reducible assumption | (extract_lets +onlyGivenNames x; have h1 : Keeps s0 x := ?_; clear_value x; rotate_left; subst x)
    | (extract_lets +onlyGivenNames x; subst x) | with_reducible apply setRecSt_keeps | with_reducible apply writePart_keeps
    | with_reducible apply Keeps.ite | split | with_reducible refine Keeps.upd ?_ rfl rfl rfl rfl rfl rfl

theorem startSlot_keeps {s0 : State} (r time : Nat) (f : Format) (s : State) (hK : Keeps s0 s) :
    Keeps s0 (startSlot r time f s) := by
  unfold startSlot
  repeat' first
    | with_reducible assumption | (extract_lets +onlyGivenNames x; have h1 : Keeps s0 x := ?_; clear_value x; rotate_left; subst x)
    | (extract_lets +onlyGivenNames x; subst x) | with_reducible apply State.bump_keeps | with_reducible apply setRecSt_keeps
    | with_reducible apply raiseRec_keeps | with_reducible apply putHead_keeps | with_reducible apply Keeps.ite | split
    | with_reducible refine Keeps.upd ?_ rfl rfl rfl rfl rfl rfl

theorem refreshRec_keeps {s0 : State} (r : Nat) (s : State) (hK : Keeps s0 s) :
    Keeps s0 (refreshRec r s) := by
  unfold refreshRec
  repeat' first
    | with_reducible assumption | intro _ | (extract_lets +onlyGivenNames x; have h1 : Keeps s0 x := ?_; clear_value x; rotate_left; subst x)
    | (extract_lets +onlyGivenNames x; subst x) | with_reducible apply State.setReg_keeps | with_reducible apply State.setF_keeps
    | with_reducible apply Keeps.ite | split | with_reducible refine Keeps.upd ?_ rfl rfl rfl rfl rfl rfl

theorem writeRows_keeps {s0 : State} (t at_ : Nat) (f : Format) (rows : List (List Px)) (s : State) (hK : Keeps s0 s) :
    Keeps s0 (writeRows t at_ f rows s) := by
  unfold writeRows
  repeat' first
    | with_reducible assumption | intro _ | with_reducible apply writePart_keeps | with_reducible apply foldl_keeps

theorem finishSlot_keeps {s0 : State} (r : Nat) (absent : Bool) (rows : List (List Px)) (f : Format) (s : State) (hK : Keeps s0 s) :
    Keeps s0 (finishSlot r absent rows f s) := by
  unfold finishSlot
  repeat' first
    | with_reducible assumption | intro _ | (extract_lets +onlyGivenNames x; have h1 : Keeps s0 x := ?_; clear_value x; rotate_left; subst x)
    | (extract_lets +onlyGivenNames x; subst x) | with_reducible apply setRecSt_keeps | with_reducible apply raiseRec_keeps
    | with_reducible apply putHead_keeps | with_reducible apply refreshRec_keeps | with_reducible apply writeRows_keeps
    | with_reducible apply Keeps.ite | split | with_reducible refine Keeps.upd ?_ rfl rfl rfl rfl rfl rfl

theorem recorderFrame_keeps {s0 : State} (r : Nat) (absent : Bool) (time next : Nat) (rows : List (List Px)) (s : State) (hK : Keeps s0 s) :
    Keeps s0 (recorderFrame r absent time next rows s) := by
  unfold recorderFrame
  repeat' first
    | with_reducible assumption | (extract_lets +onlyGivenNames x; have h1 : Keeps s0 x := ?_; clear_value x; rotate_left; subst x)
    | (extract_lets +onlyGivenNames x; subst x) | with_reducible apply startSlot_keeps | with_reducible apply finishSlot_keeps
    | with_reducible apply Keeps.ite | split | with_reducible refine Keeps.upd ?_ rfl rfl rfl rfl rfl rfl

theorem cadenceStep_keeps {s0 : State} (n d k : Nat) (s : State) (hK : Keeps s0 s) :
    Keeps s0 (cadenceStep n d k s) := by
  unfold cadenceStep
  repeat' first
    | with_reducible assumption | intro _ | (extract_lets +onlyGivenNames x; have h1 : Keeps s0 x := ?_; clear_value x; rotate_left; subst x)
    | (extract_lets +onlyGivenNames x; subst x) | with_reducible apply State.setF_keeps | with_reducible apply setSheetSt_keeps
    | with_reducible apply raiseSb_keeps | with_reducible apply Keeps.ite | split | with_reducible refine Keeps.upd ?_ rfl rfl rfl rfl rfl rfl

theorem keepFrame_keeps {s0 : State} (n start : Nat) (second : Bool) (s : State) (hK : Keeps s0 s) :
    Keeps s0 (keepFrame n start second s) := by
  unfold keepFrame
  repeat' first
    | with_reducible assumption | (extract_lets +onlyGivenNames x; have h1 : Keeps s0 x := ?_; clear_value x; rotate_left; subst x)
    | (extract_lets +onlyGivenNames x; subst x) | with_reducible apply setSheetSt_keeps | with_reducible refine Keeps.upd ?_ rfl rfl rfl rfl rfl rfl

theorem doFrameComplete_keeps {s0 : State} (w : FrameWriter) (s : State) (hK : Keeps s0 s) :
    Keeps s0 (doFrameComplete w s) := by
  unfold doFrameComplete
  repeat' first
    | with_reducible assumption | with_reducible apply recorderFrame_keeps | with_reducible apply cadenceStep_keeps
    | with_reducible apply keepFrame_keeps | with_reducible apply Keeps.ite | split | with_reducible refine Keeps.upd ?_ rfl rfl rfl rfl rfl rfl


/-! Readers -/

theorem setHoldBuf_keeps {s0 : State} (eo : Nat) (b : HoldBuf) (s : State) (hK : Keeps s0 s) :
    Keeps s0 (setHoldBuf eo b s) := by
  unfold setHoldBuf
  repeat' first
    | with_reducible assumption | (extract_lets +onlyGivenNames x; have h1 : Keeps s0 x := ?_; clear_value x; rotate_left; subst x)
    | (extract_lets +onlyGivenNames x; subst x) | with_reducible refine Keeps.upd ?_ rfl rfl rfl rfl rfl rfl

theorem keepLine_keeps {s0 : State} (eo height : Nat) (x : SrcLine) (s : State) (hK : Keeps s0 s) :
    Keeps s0 (keepLine eo height x s) := by
  unfold keepLine
  repeat' first
    | with_reducible assumption | intro _ | (extract_lets +onlyGivenNames x; have h1 : Keeps s0 x := ?_; clear_value x; rotate_left; subst x)
    | (extract_lets +onlyGivenNames x; subst x) | with_reducible apply setHoldBuf_keeps | with_reducible apply Keeps.ite | split
    | with_reducible refine Keeps.upd ?_ rfl rfl rfl rfl rfl rfl

theorem freshHold_keeps {s0 : State} (eo : Nat) (s : State) (hK : Keeps s0 s) :
    Keeps s0 (freshHold eo s) := by
  unfold freshHold
  repeat' first
    | with_reducible assumption | (extract_lets +onlyGivenNames x; have h1 : Keeps s0 x := ?_; clear_value x; rotate_left; subst x)
    | (extract_lets +onlyGivenNames x; subst x) | with_reducible apply setHoldBuf_keeps | with_reducible apply Keeps.ite | split
    | with_reducible refine Keeps.upd ?_ rfl rfl rfl rfl rfl rfl

theorem layerOnce_keeps {s0 : State} (cp l b : Nat) (done : Bool) (s : State) (hK : Keeps s0 s) :
    Keeps s0 (layerOnce cp l b done s) := by
  unfold layerOnce
  repeat' first
    | with_reducible assumption | with_reducible apply raiseLayer_keeps | with_reducible apply Keeps.ite | split

theorem bufferPolicy_keeps {s0 : State} (cp l : Nat) (s : State) (hK : Keeps s0 s) :
    Keeps s0 (bufferPolicy cp l s) := by
  unfold bufferPolicy
  repeat' first
    | with_reducible assumption | (extract_lets +onlyGivenNames x; have h1 : Keeps s0 x := ?_; clear_value x; rotate_left; subst x)
    | (extract_lets +onlyGivenNames x; subst x) | with_reducible apply State.setF_keeps | with_reducible apply raiseLayer_keeps
    | with_reducible apply Keeps.ite | split

theorem fetchFault_keeps {s0 : State} (cp l : Nat) (s : State) (hK : Keeps s0 s) :
    Keeps s0 (fetchFault cp l s) := by
  unfold fetchFault
  repeat' first
    | with_reducible assumption | (extract_lets +onlyGivenNames x; have h1 : Keeps s0 x := ?_; clear_value x; rotate_left; subst x)
    | (extract_lets +onlyGivenNames x; subst x) | with_reducible apply State.bump_keeps | with_reducible apply setLayerSt_keeps
    | with_reducible apply layerOnce_keeps | with_reducible refine Keeps.upd ?_ rfl rfl rfl rfl rfl rfl

theorem fetchPoison_keeps {s0 : State} (cp l : Nat) (s : State) (hK : Keeps s0 s) :
    Keeps s0 (fetchPoison cp l s) := by
  unfold fetchPoison
  repeat' first
    | with_reducible assumption | (extract_lets +onlyGivenNames x; have h1 : Keeps s0 x := ?_; clear_value x; rotate_left; subst x)
    | (extract_lets +onlyGivenNames x; subst x) | with_reducible apply State.bump_keeps | with_reducible apply setLayerSt_keeps
    | with_reducible apply layerOnce_keeps | with_reducible apply bufferPolicy_keeps | with_reducible apply Keeps.ite | split
    | with_reducible refine Keeps.upd ?_ rfl rfl rfl rfl rfl rfl

theorem fetchLayer_keeps {s0 : State} (cp y l : Nat) (late : Bool) (s : State) (hK : Keeps s0 s) :
    Keeps s0 (fetchLayer cp y l late s).1 := by
  unfold fetchLayer
  repeat' first
    | with_reducible assumption | intro _ | (extract_lets +onlyGivenNames x; have h1 : Keeps s0 x := ?_; clear_value x; rotate_left; subst x)
    | (extract_lets +onlyGivenNames x; subst x) | with_reducible apply State.bump_keeps | with_reducible apply raiseLayer_keeps
    | with_reducible apply fetchFault_keeps | with_reducible apply fetchPoison_keeps | with_reducible apply Keeps.ite | split
    | with_reducible refine Keeps.upd ?_ rfl rfl rfl rfl rfl rfl | dsimp only

theorem liveLayer_keeps {s0 : State} (cp l : Nat) (lines : SrcLines) (late : Bool) (s : State) (hK : Keeps s0 s) :
    Keeps s0 (liveLayer cp l lines late s).1 := by
  unfold liveLayer
  repeat' first
    | with_reducible assumption | intro _ | (extract_lets +onlyGivenNames x; have h1 : Keeps s0 x := ?_; clear_value x; rotate_left; subst x)
    | (extract_lets +onlyGivenNames x; subst x) | with_reducible apply layerLost_keeps | with_reducible apply keepLine_keeps
    | with_reducible apply foldl_keeps | with_reducible apply Keeps.ite | split | with_reducible refine Keeps.upd ?_ rfl rfl rfl rfl rfl rfl
    | dsimp only

theorem layerInput_keeps {s0 : State} (cp y : Nat) (live : List (Nat × SrcLines)) (late : List Nat) (l : Nat) (s : State) (hK : Keeps s0 s) :
    Keeps s0 (layerInput cp y live late l s).1 := by
  unfold layerInput
  repeat' first
    | with_reducible assumption | intro _ | (extract_lets +onlyGivenNames x; have h1 : Keeps s0 x := ?_; clear_value x; rotate_left; subst x)
    | (extract_lets +onlyGivenNames x; subst x) | with_reducible apply fetchLayer_keeps | with_reducible apply liveLayer_keeps
    | with_reducible apply Keeps.ite | split | with_reducible refine Keeps.upd ?_ rfl rfl rfl rfl rfl rfl | dsimp only

theorem composeOut_keeps {s0 : State} (cp y : Nat) (live : List (Nat × SrcLines)) (late : List Nat) (s : State) (hK : Keeps s0 s) :
    Keeps s0 (composeOut cp y live late s) := by
  unfold composeOut
  refine State.emit_keeps _ _ ?_
  have h := foldl_pair_keeps (f := fun (r : State × List LayerIn) l => ((layerInput cp y live late l r.1).1, r.2 ++ [(layerInput cp y live late l r.1).2]))
    (p := (s, [])) (List.range (s.cpLayers cp)) hK fun q l h => layerInput_keeps _ _ _ _ _ _ h
  split
  · exact Keeps.upd h rfl rfl rfl rfl rfl rfl
  · exact h

theorem playerPoisoned_keeps {s0 : State} (p : Nat) (s : State) (hK : Keeps s0 s) :
    Keeps s0 (playerPoisoned p s) := by
  unfold playerPoisoned
  repeat' first
    | with_reducible assumption | intro _ | (extract_lets +onlyGivenNames x; have h1 : Keeps s0 x := ?_; clear_value x; rotate_left; subst x)
    | (extract_lets +onlyGivenNames x; subst x) | with_reducible apply State.bump_keeps | with_reducible apply setPlySt_keeps
    | with_reducible apply raisePly_keeps | with_reducible apply putHead_keeps | with_reducible apply Keeps.ite | split
    | with_reducible refine Keeps.upd ?_ rfl rfl rfl rfl rfl rfl

theorem playerLine_keeps {s0 : State} (p y : Nat) (s : State) (hK : Keeps s0 s) :
    Keeps s0 (playerLine p y s) := by
  unfold playerLine
  repeat' first
    | with_reducible assumption | intro _ | (extract_lets +onlyGivenNames x; have h1 : Keeps s0 x := ?_; clear_value x; rotate_left; subst x)
    | (extract_lets +onlyGivenNames x; subst x) | with_reducible apply State.emit_keeps | with_reducible apply playerPoisoned_keeps
    | with_reducible apply Keeps.ite | split | with_reducible refine Keeps.upd ?_ rfl rfl rfl rfl rfl rfl

theorem countSlip_keeps {s0 : State} (n reps drops : Nat) (s : State) (hK : Keeps s0 s) :
    Keeps s0 (countSlip n reps drops s) := by
  unfold countSlip
  repeat' first
    | with_reducible assumption | (extract_lets +onlyGivenNames x; have h1 : Keeps s0 x := ?_; clear_value x; rotate_left; subst x)
    | (extract_lets +onlyGivenNames x; subst x) | with_reducible apply State.bump_keeps | with_reducible apply raiseSb_keeps
    | with_reducible apply Keeps.ite | split

theorem sheetHold_keeps {s0 : State} (n : Nat) (s : State) (hK : Keeps s0 s) : Keeps s0 (sheetFrame.sheetHold n s) := by
  unfold sheetFrame.sheetHold
  dsimp only
  split
  · exact raiseSb_keeps _ _ _ (setFilling_keeps _ _ _ (setSheetSt_keeps _ _ _ hK))
  · exact setSheetSt_keeps _ _ _ hK

theorem sheetFrame_keeps {s0 : State} (n tg line : Nat) (early : Option Nat) (s : State) (hK : Keeps s0 s) :
    Keeps s0 (sheetFrame n tg line early s) := by
  unfold sheetFrame
  repeat' first
    | with_reducible assumption | intro _ | (extract_lets +onlyGivenNames x; have h1 : Keeps s0 x := ?_; clear_value x; rotate_left; subst x)
    | (extract_lets +onlyGivenNames x; subst x) | with_reducible apply sheetHold_keeps | with_reducible apply setSheetSt_keeps
    | with_reducible apply raiseSb_keeps | with_reducible apply setFilling_keeps | with_reducible apply countSlip_keeps
    | with_reducible apply foldl_keeps | with_reducible apply Keeps.ite | split | with_reducible refine Keeps.upd ?_ rfl rfl rfl rfl rfl rfl

theorem sheetOut_keeps {s0 : State} (n y : Nat) (cur prev next other : SrcLines) (s : State) (hK : Keeps s0 s) :
    Keeps s0 (sheetOut n y cur prev next other s) := by
  unfold sheetOut
  repeat' first
    | with_reducible assumption | (extract_lets +onlyGivenNames x; have h1 : Keeps s0 x := ?_; clear_value x; rotate_left; subst x)
    | (extract_lets +onlyGivenNames x; subst x) | with_reducible apply State.emit_keeps | with_reducible apply setSheetSt_keeps
    | with_reducible apply Keeps.ite | split | with_reducible refine Keeps.upd ?_ rfl rfl rfl rfl rfl rfl

theorem sheetPoison_keeps {s0 : State} (n : Nat) (s : State) (hK : Keeps s0 s) :
    Keeps s0 (sheetPoison n s) := by
  unfold sheetPoison
  repeat' first
    | with_reducible assumption | intro _ | (extract_lets +onlyGivenNames x; have h1 : Keeps s0 x := ?_; clear_value x; rotate_left; subst x)
    | (extract_lets +onlyGivenNames x; subst x) | with_reducible apply setSheetSt_keeps | with_reducible apply raiseSb_keeps
    | with_reducible apply foldl_keeps | with_reducible refine Keeps.upd ?_ rfl rfl rfl rfl rfl rfl


/-! Carriage -/

theorem placeAnc_keeps {s0 : State} (tg eo n now : Nat) (s : State) (p : AncPacket) (hK : Keeps s0 s) :
    Keeps s0 (placeAnc tg eo n now s p) := by
  unfold placeAnc
  repeat' first
    | with_reducible assumption | (extract_lets +onlyGivenNames x; have h1 : Keeps s0 x := ?_; clear_value x; rotate_left; subst x)
    | (extract_lets +onlyGivenNames x; subst x) | with_reducible apply State.bump_keeps | with_reducible apply Keeps.ite | split
    | with_reducible refine Keeps.upd ?_ rfl rfl rfl rfl rfl rfl

theorem frameAnc_keeps {s0 : State} (tg line eo ei : Nat) (ps : List AncPacket) (s : State) (hK : Keeps s0 s) :
    Keeps s0 (frameAnc tg line eo ei ps s) := by
  unfold frameAnc
  repeat' first
    | with_reducible assumption | intro _ | (extract_lets +onlyGivenNames x; have h1 : Keeps s0 x := ?_; clear_value x; rotate_left; subst x)
    | (extract_lets +onlyGivenNames x; subst x) | with_reducible apply queueAnc_keeps | with_reducible apply placeAnc_keeps
    | with_reducible apply foldl_keeps | with_reducible apply Keeps.ite | split | with_reducible refine Keeps.upd ?_ rfl rfl rfl rfl rfl rfl

theorem sendAnc_keeps {s0 : State} (tg line eo : Nat) (s : State) (hK : Keeps s0 s) :
    Keeps s0 (sendAnc tg line eo s) := by
  unfold sendAnc
  repeat' first
    | with_reducible assumption | (extract_lets +onlyGivenNames x; have h1 : Keeps s0 x := ?_; clear_value x; rotate_left; subst x)
    | (extract_lets +onlyGivenNames x; subst x) | with_reducible apply State.draw_keeps | with_reducible apply State.emit_keeps
    | with_reducible apply Keeps.ite | split | with_reducible refine Keeps.upd ?_ rfl rfl rfl rfl rfl rfl

theorem takeSamples_keeps {s0 : State} (count : Nat) (acc : List (List Nat) × State) (amo : Nat) (hK : Keeps s0 acc.2) :
    Keeps s0 (takeSamples count acc amo).2 := setAud_keeps _ _ hK

theorem embedAudio_keeps {s0 : State} (tg line eo : Nat) (s : State) (hK : Keeps s0 s) : Keeps s0 (embedAudio tg line eo s) := by
  unfold embedAudio
  split
  · exact hK
  · dsimp only
    split
    · exact hK
    · have h (l : List Nat) (n : Nat) (p : List (List Nat) × State) (hp : Keeps s0 p.2) : Keeps s0 (l.foldl (takeSamples n) p).2 := by
        induction l generalizing p with
        | nil => exact hp
        | cons a l ih => exact ih _ (takeSamples_keeps _ _ _ hp)
      refine State.emit_keeps _ _ ?_
      split
      · exact setAud_keeps _ _ (h _ _ _ hK)
      · exact h _ _ _ hK

theorem sendInfo_keeps {s0 : State} (tg eo : Nat) (f : Format) (s : State) (hK : Keeps s0 s) :
    Keeps s0 (sendInfo tg eo f s) := by
  unfold sendInfo
  repeat' first
    | with_reducible assumption | (extract_lets +onlyGivenNames x; have h1 : Keeps s0 x := ?_; clear_value x; rotate_left; subst x)
    | (extract_lets +onlyGivenNames x; subst x) | with_reducible apply State.emit_keeps | with_reducible apply Keeps.ite | split
    | with_reducible refine Keeps.upd ?_ rfl rfl rfl rfl rfl rfl


/-! Lines -/

theorem alignPoint_keeps {s0 : State} (tg since : Nat) (s : State) (hK : Keeps s0 s) :
    Keeps s0 (alignPoint tg since s) := by
  unfold alignPoint
  repeat' first
    | with_reducible assumption | (extract_lets +onlyGivenNames x; have h1 : Keeps s0 x := ?_; clear_value x; rotate_left; subst x)
    | (extract_lets +onlyGivenNames x; subst x) | with_reducible apply State.setReg_keeps | with_reducible apply State.draw_keeps
    | with_reducible apply setGenSt_keeps | with_reducible apply setEngResult_keeps | with_reducible apply genLocked_keeps
    | with_reducible apply genUnlock_keeps | with_reducible apply Keeps.ite | split | with_reducible refine Keeps.upd ?_ rfl rfl rfl rfl rfl rfl

theorem reportSlack_keeps {s0 : State} (tg : Nat) (least : Option Nat) (s : State) (hK : Keeps s0 s) :
    Keeps s0 (reportSlack tg least s) := by
  unfold reportSlack
  repeat' first
    | with_reducible assumption | (extract_lets +onlyGivenNames x; have h1 : Keeps s0 x := ?_; clear_value x; rotate_left; subst x)
    | (extract_lets +onlyGivenNames x; subst x) | with_reducible apply State.setReg_keeps | with_reducible apply Keeps.ite | split
    | with_reducible refine Keeps.upd ?_ rfl rfl rfl rfl rfl rfl

theorem sourceSlips_keeps {s0 : State} (d : Nat) (lead : Int) (s : State) (hK : Keeps s0 s) :
    Keeps s0 (sourceSlips d lead s) := by
  unfold sourceSlips
  repeat' first
    | with_reducible assumption | (extract_lets +onlyGivenNames x; have h1 : Keeps s0 x := ?_; clear_value x; rotate_left; subst x)
    | (extract_lets +onlyGivenNames x; subst x) | with_reducible apply State.setF_keeps | with_reducible apply State.setBit_keeps
    | with_reducible apply State.bump_keeps | with_reducible apply raiseDest_keeps | with_reducible apply startLoss_keeps
    | with_reducible apply layerLost_keeps | with_reducible apply Keeps.ite | split | with_reducible refine Keeps.upd ?_ rfl rfl rfl rfl rfl rfl

theorem latchRect_keeps {s0 : State} (tg r c : Nat) (s : State) (hK : Keeps s0 s) :
    Keeps s0 (latchRect tg r c s) := by
  unfold latchRect
  repeat' first
    | with_reducible assumption | (extract_lets +onlyGivenNames x; have h1 : Keeps s0 x := ?_; clear_value x; rotate_left; subst x)
    | (extract_lets +onlyGivenNames x; subst x) | with_reducible apply State.setReg_keeps | with_reducible apply State.setBit_keeps
    | with_reducible apply raiseEn_keeps | with_reducible apply setGenSt_keeps | with_reducible apply Keeps.ite | split
    | with_reducible refine Keeps.upd ?_ rfl rfl rfl rfl rfl rfl

theorem feedRect_keeps {s0 : State} (tg r i : Nat) (words : Nat → Nat → List Nat) (s : State) (hK : Keeps s0 s) :
    Keeps s0 (feedRect tg r i words s) := by
  unfold feedRect
  repeat' first
    | with_reducible assumption | (extract_lets +onlyGivenNames x; have h1 : Keeps s0 x := ?_; clear_value x; rotate_left; subst x)
    | (extract_lets +onlyGivenNames x; subst x) | with_reducible apply setGenSt_keeps | with_reducible apply latchRect_keeps
    | with_reducible apply Keeps.ite | split | with_reducible refine Keeps.upd ?_ rfl rfl rfl rfl rfl rfl

theorem feedCrc_keeps {s0 : State} (tg eo field i : Nat) (row : List Px) (s : State) (hK : Keeps s0 s) :
    Keeps s0 (feedCrc tg eo field i row s) := by
  unfold feedCrc
  repeat' first
    | with_reducible assumption | intro _ | (extract_lets +onlyGivenNames x; have h1 : Keeps s0 x := ?_; clear_value x; rotate_left; subst x)
    | (extract_lets +onlyGivenNames x; subst x) | with_reducible apply State.setReg_keeps | with_reducible apply State.bump_keeps
    | with_reducible apply setGenSt_keeps | with_reducible apply feedRect_keeps | with_reducible apply foldl_keeps | with_reducible apply Keeps.ite
    | split | with_reducible refine Keeps.upd ?_ rfl rfl rfl rfl rfl rfl

theorem encoderLine_keeps {s0 : State} (tg line eo : Nat) (lines : SrcLines) (s : State) (hK : Keeps s0 s) :
    Keeps s0 (encoderLine tg line eo lines s) := by
  unfold encoderLine
  repeat' first
    | with_reducible assumption | intro _ | (extract_lets +onlyGivenNames x; have h1 : Keeps s0 x := ?_; clear_value x; rotate_left; subst x)
    | (extract_lets +onlyGivenNames x; subst x) | with_reducible apply State.emit_keeps | with_reducible apply queueRow_keeps
    | with_reducible apply keepLine_keeps | with_reducible apply feedCrc_keeps | with_reducible apply Keeps.ite | split
    | with_reducible refine Keeps.upd ?_ rfl rfl rfl rfl rfl rfl

theorem lineObs_keeps {s0 : State} (tg line : Nat) (s : State) (o : LineObs) (hK : Keeps s0 s) :
    Keeps s0 (lineObs tg line s o) := by
  unfold lineObs
  repeat' first
    | with_reducible assumption | ((with_reducible refine Eq.symm ?_); rfl)
    | (extract_lets +onlyGivenNames x; have h1 : Keeps s0 x := ?_; clear_value x; rotate_left; subst x) | (extract_lets +onlyGivenNames x; subst x)
    | with_reducible apply State.bump_keeps | with_reducible refine setStore_keeps _ _ ?_ ?_ | with_reducible apply storeRead_keeps
    | with_reducible apply setHoldBuf_keeps | with_reducible apply composeOut_keeps | with_reducible apply playerLine_keeps
    | with_reducible apply sheetFrame_keeps | with_reducible apply sheetOut_keeps | with_reducible apply sheetPoison_keeps
    | with_reducible apply frameAnc_keeps | with_reducible apply alignPoint_keeps | with_reducible apply sourceSlips_keeps
    | with_reducible apply encoderLine_keeps | with_reducible apply Keeps.ite | split | with_reducible refine Keeps.upd ?_ rfl rfl rfl rfl rfl rfl

theorem setPos_keeps {s0 : State} (tg line : Nat) (s : State) (hK : Keeps s0 s) :
    Keeps s0 (setPos tg line s) := by
  unfold setPos
  repeat' first
    | with_reducible assumption | (extract_lets +onlyGivenNames x; have h1 : Keeps s0 x := ?_; clear_value x; rotate_left; subst x)
    | (extract_lets +onlyGivenNames x; subst x) | with_reducible apply State.setReg_keeps | with_reducible apply setGenSt_keeps
    | with_reducible refine Keeps.upd ?_ rfl rfl rfl rfl rfl rfl

theorem encodersBegin_keeps {s0 : State} (tg line : Nat) (s : State) (hK : Keeps s0 s) :
    Keeps s0 (encodersBegin tg line s) := by
  unfold encodersBegin
  repeat' first
    | with_reducible assumption | intro _ | (extract_lets +onlyGivenNames x; have h1 : Keeps s0 x := ?_; clear_value x; rotate_left; subst x)
    | (extract_lets +onlyGivenNames x; subst x) | with_reducible apply stampFrame_keeps | with_reducible apply freshHold_keeps
    | with_reducible apply embedAudio_keeps | with_reducible apply sendInfo_keeps | with_reducible apply foldl_keeps | with_reducible apply Keeps.ite
    | split

theorem encodersEnd_keeps {s0 : State} (tg line : Nat) (s : State) (hK : Keeps s0 s) :
    Keeps s0 (encodersEnd tg line s) := by
  unfold encodersEnd
  repeat' first
    | with_reducible assumption | intro _ | with_reducible apply sendAnc_keeps | with_reducible apply foldl_keeps

theorem doLineStart_keeps {s0 : State} (tg line : Nat) (obs : List LineObs) (s : State) (hK : Keeps s0 s) :
    Keeps s0 (doLineStart tg line obs s) := by
  unfold doLineStart
  repeat' first
    | with_reducible assumption | intro _ | (extract_lets +onlyGivenNames x; have h1 : Keeps s0 x := ?_; clear_value x; rotate_left; subst x)
    | (extract_lets +onlyGivenNames x; subst x) | with_reducible apply reportSlack_keeps | with_reducible apply lineObs_keeps
    | with_reducible apply setPos_keeps | with_reducible apply encodersBegin_keeps | with_reducible apply encodersEnd_keeps
    | with_reducible apply foldl_keeps | with_reducible apply Keeps.ite | split


/-! Decision -/

theorem layerHeld_keeps {s0 : State} (cp l : Nat) (s : State) (hK : Keeps s0 s) :
    Keeps s0 (layerHeld cp l s) := by
  unfold layerHeld
  repeat' first
    | with_reducible assumption | (extract_lets +onlyGivenNames x; have h1 : Keeps s0 x := ?_; clear_value x; rotate_left; subst x)
    | (extract_lets +onlyGivenNames x; subst x) | with_reducible apply State.setF_keeps | with_reducible apply setLayerSt_keeps
    | with_reducible apply layerLate_keeps | with_reducible refine Keeps.upd ?_ rfl rfl rfl rfl rfl rfl

theorem layerBack_keeps {s0 : State} (cp l : Nat) (s : State) (hK : Keeps s0 s) :
    Keeps s0 (layerBack cp l s) := by
  unfold layerBack
  repeat' first
    | with_reducible assumption | (extract_lets +onlyGivenNames x; have h1 : Keeps s0 x := ?_; clear_value x; rotate_left; subst x)
    | (extract_lets +onlyGivenNames x; subst x) | with_reducible apply State.setF_keeps | with_reducible apply setLayerSt_keeps
    | with_reducible apply raiseLayer_keeps | with_reducible apply raiseDest_keeps | with_reducible apply Keeps.ite | split
    | with_reducible refine Keeps.upd ?_ rfl rfl rfl rfl rfl rfl

theorem takeFlip_keeps {s0 : State} (n : Nat) (f : Flip) (s : State) (hK : Keeps s0 s) :
    Keeps s0 (takeFlip n f s) := by
  unfold takeFlip
  repeat' first
    | with_reducible assumption | (extract_lets +onlyGivenNames x; have h1 : Keeps s0 x := ?_; clear_value x; rotate_left; subst x)
    | (extract_lets +onlyGivenNames x; subst x) | with_reducible apply State.setBit_keeps | with_reducible apply setCur_keeps
    | with_reducible apply setPend_keeps | with_reducible apply setFlips_keeps | with_reducible apply layerBack_keeps
    | with_reducible refine Keeps.upd ?_ rfl rfl rfl rfl rfl rfl

theorem bufferDecision_keeps {s0 : State} (n point : Nat) (s : State) (hK : Keeps s0 s) :
    Keeps s0 (bufferDecision n point s) := by
  unfold bufferDecision
  repeat' first
    | with_reducible assumption | (extract_lets +onlyGivenNames x; have h1 : Keeps s0 x := ?_; clear_value x; rotate_left; subst x)
    | (extract_lets +onlyGivenNames x; subst x) | with_reducible apply State.setBit_keeps | with_reducible apply refuseBw_keeps
    | with_reducible apply recharge_keeps | with_reducible apply dropCoil_keeps | with_reducible apply layerHeld_keeps
    | with_reducible apply takeFlip_keeps | with_reducible apply Keeps.ite | split | with_reducible refine Keeps.upd ?_ rfl rfl rfl rfl rfl rfl

theorem delayFit_keeps {s0 : State} (cp l : Nat) (s : State) (hK : Keeps s0 s) :
    Keeps s0 (delayFit cp l s) := by
  unfold delayFit
  repeat' first
    | with_reducible assumption | (extract_lets +onlyGivenNames x; have h1 : Keeps s0 x := ?_; clear_value x; rotate_left; subst x)
    | (extract_lets +onlyGivenNames x; subst x) | with_reducible apply State.setF_keeps | with_reducible apply State.setBit_keeps
    | with_reducible apply raiseLayer_keeps | with_reducible apply Keeps.ite | split | with_reducible refine Keeps.upd ?_ rfl rfl rfl rfl rfl rfl

theorem delayDecision_keeps {s0 : State} (n point : Nat) (s : State) (hK : Keeps s0 s) :
    Keeps s0 (delayDecision n point s) := by
  unfold delayDecision
  repeat' first
    | with_reducible assumption | (extract_lets +onlyGivenNames x; have h1 : Keeps s0 x := ?_; clear_value x; rotate_left; subst x)
    | (extract_lets +onlyGivenNames x; subst x) | with_reducible apply setLayerSt_keeps | with_reducible apply raiseLayer_keeps
    | with_reducible apply layerHeld_keeps | with_reducible apply layerBack_keeps | with_reducible apply delayFit_keeps
    | with_reducible apply Keeps.ite | split | with_reducible refine Keeps.upd ?_ rfl rfl rfl rfl rfl rfl

theorem liveDecision_keeps {s0 : State} (n : Nat) (timed : Bool) (s : State) (hK : Keeps s0 s) :
    Keeps s0 (liveDecision n timed s) := by
  unfold liveDecision
  repeat' first
    | with_reducible assumption | (extract_lets +onlyGivenNames x; have h1 : Keeps s0 x := ?_; clear_value x; rotate_left; subst x)
    | (extract_lets +onlyGivenNames x; subst x) | with_reducible apply layerLost_keeps | with_reducible apply layerHeld_keeps
    | with_reducible apply layerBack_keeps | with_reducible apply Keeps.ite | split | with_reducible refine Keeps.upd ?_ rfl rfl rfl rfl rfl rfl

theorem layerDecision_keeps {s0 : State} (n point : Nat) (timed : Bool) (s : State) (hK : Keeps s0 s) :
    Keeps s0 (layerDecision n point timed s) := by
  unfold layerDecision
  repeat' first
    | with_reducible assumption | (extract_lets +onlyGivenNames x; have h1 : Keeps s0 x := ?_; clear_value x; rotate_left; subst x)
    | (extract_lets +onlyGivenNames x; subst x) | with_reducible apply State.setF_keeps | with_reducible apply setLayerSt_keeps
    | with_reducible apply freshHold_keeps | with_reducible apply layerBack_keeps | with_reducible apply bufferDecision_keeps
    | with_reducible apply delayDecision_keeps | with_reducible apply liveDecision_keeps | with_reducible apply Keeps.ite | split
    | with_reducible refine Keeps.upd ?_ rfl rfl rfl rfl rfl rfl

theorem cpDecision_keeps {s0 : State} (cp : Nat) (obs : DecisionObs) (s : State) (hK : Keeps s0 s) :
    Keeps s0 (cpDecision cp obs s) := by
  unfold cpDecision
  repeat' first
    | with_reducible assumption | intro _ | (extract_lets +onlyGivenNames x; have h1 : Keeps s0 x := ?_; clear_value x; rotate_left; subst x)
    | (extract_lets +onlyGivenNames x; subst x) | with_reducible apply layerDecision_keeps | with_reducible apply foldl_keeps

theorem playerDecision_keeps {s0 : State} (p point : Nat) (s : State) (hK : Keeps s0 s) :
    Keeps s0 (playerDecision p point s) := by
  unfold playerDecision
  repeat' first
    | with_reducible assumption | intro _ | (extract_lets +onlyGivenNames x; have h1 : Keeps s0 x := ?_; clear_value x; rotate_left; subst x)
    | (extract_lets +onlyGivenNames x; subst x) | with_reducible apply State.setReg_keeps | with_reducible apply State.setBit_keeps
    | with_reducible apply setPlySt_keeps | with_reducible apply raisePly_keeps | with_reducible apply recharge_keeps
    | with_reducible apply setPresent_keeps | with_reducible apply playerStop_keeps | with_reducible apply Keeps.ite | split
    | with_reducible refine Keeps.upd ?_ rfl rfl rfl rfl rfl rfl

theorem promoteDest_keeps {s0 : State} (a : Arm) (s : State) (hK : Keeps s0 s) :
    Keeps s0 (promoteDest a s) := by
  unfold promoteDest
  repeat' first
    | with_reducible assumption | intro _ | (extract_lets +onlyGivenNames x; have h1 : Keeps s0 x := ?_; clear_value x; rotate_left; subst x)
    | (extract_lets +onlyGivenNames x; subst x) | with_reducible apply State.setBit_keeps | with_reducible apply State.bump_keeps
    | with_reducible apply State.emit_keeps | with_reducible apply txRefreshAll_keeps | with_reducible apply raiseDest_keeps
    | with_reducible apply setCharge_keeps | with_reducible apply foldl_keeps | with_reducible apply Keeps.ite | split
    | with_reducible refine Keeps.upd ?_ rfl rfl rfl rfl rfl rfl

theorem blockFault_keeps {s0 : State} (n : Nat) (s : State) (hK : Keeps s0 s) :
    Keeps s0 (blockFault n s) := by
  unfold blockFault
  repeat' first
    | with_reducible assumption | (extract_lets +onlyGivenNames x; have h1 : Keeps s0 x := ?_; clear_value x; rotate_left; subst x)
    | (extract_lets +onlyGivenNames x; subst x) | with_reducible apply txRefreshAll_keeps | with_reducible refine Keeps.upd ?_ rfl rfl rfl rfl rfl rfl

theorem switchDest_keeps {s0 : State} (c : ChangeSet) (a : Arm) (s : State) (hK : Keeps s0 s) :
    Keeps s0 (switchDest c a s) := by
  unfold switchDest
  repeat' first
    | with_reducible assumption | (extract_lets +onlyGivenNames x; have h1 : Keeps s0 x := ?_; clear_value x; rotate_left; subst x)
    | (extract_lets +onlyGivenNames x; subst x) | with_reducible apply State.setF_keeps | with_reducible apply State.bump_keeps
    | with_reducible apply raiseDest_keeps | with_reducible apply setDestState_keeps | with_reducible apply setResult_keeps
    | with_reducible apply releaseReserve_keeps | with_reducible apply bindDest_keeps | with_reducible apply afterBind_keeps
    | with_reducible apply reportReturn_keeps | with_reducible apply promoteDest_keeps | with_reducible apply blockFault_keeps
    | with_reducible apply Keeps.ite | split

theorem unreserve_keeps {s0 : State} (id obj : Nat) (s : State) (hK : Keeps s0 s) :
    Keeps s0 (unreserve id obj s) := by
  unfold unreserve
  repeat' first
    | with_reducible assumption | intro _ | with_reducible apply updSet_keeps | with_reducible refine Keeps.upd ?_ rfl rfl rfl rfl rfl rfl

theorem switchArm_keeps {s0 : State} (c : ChangeSet) (a : Arm) (s : State) (hK : Keeps s0 s) :
    Keeps s0 (switchArm c a s) := by
  unfold switchArm
  repeat' first
    | with_reducible assumption | intro _ | (extract_lets +onlyGivenNames x; have h1 : Keeps s0 x := ?_; clear_value x; rotate_left; subst x)
    | (extract_lets +onlyGivenNames x; subst x) | with_reducible apply updSet_keeps | with_reducible apply switchDest_keeps
    | with_reducible apply unreserve_keeps | with_reducible apply Keeps.ite | split | with_reducible refine Keeps.upd ?_ rfl rfl rfl rfl rfl rfl

theorem postHeld_keeps {s0 : State} (h : Held) (s : State) (hK : Keeps s0 s) :
    Keeps s0 (postHeld h s) := by
  unfold postHeld
  repeat' first
    | with_reducible assumption | with_reducible apply postTo_keeps | with_reducible apply raiseEn_keeps | with_reducible apply raiseSb_keeps
    | with_reducible apply raiseLayer_keeps | with_reducible apply Keeps.ite | split | with_reducible refine Keeps.upd ?_ rfl rfl rfl rfl rfl rfl

theorem switchMember_keeps {s0 : State} (c : ChangeSet) (e : Nat) (s : State) (hK : Keeps s0 s) :
    Keeps s0 (switchMember c e s) := by
  unfold switchMember
  repeat' first
    | with_reducible assumption | intro _ | (extract_lets +onlyGivenNames x; have h1 : Keeps s0 x := ?_; clear_value x; rotate_left; subst x)
    | (extract_lets +onlyGivenNames x; subst x) | with_reducible apply setCharge_keeps | with_reducible apply keepLayers_keeps
    | with_reducible apply updSet_keeps | with_reducible apply passEngine_keeps | with_reducible apply switchEngine_keeps
    | with_reducible apply unreserve_keeps | with_reducible apply Keeps.ite | split | with_reducible refine Keeps.upd ?_ rfl rfl rfl rfl rfl rfl

theorem leaderSwitch_keeps {s0 : State} (c : ChangeSet) (s : State) (hK : Keeps s0 s) :
    Keeps s0 (leaderSwitch c s) := by
  unfold leaderSwitch
  repeat' first
    | with_reducible assumption | intro _ | (extract_lets +onlyGivenNames x; have h1 : Keeps s0 x := ?_; clear_value x; rotate_left; subst x)
    | (extract_lets +onlyGivenNames x; subst x) | with_reducible apply updSet_keeps | with_reducible apply applyOp_keeps
    | with_reducible apply unreserve_keeps | with_reducible apply postHeld_keeps | with_reducible apply foldl_keeps
    | with_reducible refine Keeps.upd ?_ rfl rfl rfl rfl rfl rfl

theorem settleSet_keeps {s0 : State} (id : Nat) (s : State) (hK : Keeps s0 s) :
    Keeps s0 (settleSet id s) := by
  unfold settleSet
  repeat' first
    | with_reducible assumption | intro _ | with_reducible apply dropReqs_keeps | with_reducible apply refreshGroup_keeps
    | with_reducible apply enginesRefresh_keeps | with_reducible apply finishSet_keeps | with_reducible apply Keeps.ite | split
    | with_reducible refine Keeps.upd ?_ rfl rfl rfl rfl rfl rfl

theorem cutsFollow_keeps {s0 : State} (c : ChangeSet) (s : State) (hK : Keeps s0 s) :
    Keeps s0 (cutsFollow c s) := by
  unfold cutsFollow
  repeat' first
    | with_reducible assumption | intro _ | with_reducible apply switchArm_keeps | with_reducible apply foldl_keeps

theorem doSwitch_keeps {s0 : State} (set member : Nat) (obs : SwitchObs) (s : State) (hK : Keeps s0 s) :
    Keeps s0 (doSwitch set member obs s) := by
  unfold doSwitch
  repeat' first
    | with_reducible assumption | intro _ | (extract_lets +onlyGivenNames x; have h1 : Keeps s0 x := ?_; clear_value x; rotate_left; subst x)
    | (extract_lets +onlyGivenNames x; subst x) | with_reducible apply fidEventSet_keeps | with_reducible apply switchArm_keeps
    | with_reducible apply switchMember_keeps | with_reducible apply leaderSwitch_keeps | with_reducible apply settleSet_keeps
    | with_reducible apply cutsFollow_keeps | with_reducible apply foldl_keeps | with_reducible apply Keeps.ite | split
    | with_reducible refine Keeps.upd ?_ rfl rfl rfl rfl rfl rfl

theorem decideSet_keeps {s0 : State} (c : ChangeSet) (obs : DecisionObs) (s : State) (hK : Keeps s0 s) :
    Keeps s0 (decideSet c obs s) := by
  unfold decideSet
  repeat' first
    | with_reducible assumption | intro _ | (extract_lets +onlyGivenNames x; have h1 : Keeps s0 x := ?_; clear_value x; rotate_left; subst x)
    | (extract_lets +onlyGivenNames x; subst x) | with_reducible apply State.setF_keeps | with_reducible apply State.setBit_keeps
    | with_reducible apply updSet_keeps | with_reducible apply setDestState_keeps | with_reducible apply refreshGroup_keeps
    | with_reducible apply fidEventSet_keeps | with_reducible apply foldl_keeps | with_reducible apply Keeps.ite | split
    | with_reducible refine Keeps.upd ?_ rfl rfl rfl rfl rfl rfl

theorem setDecision_keeps {s0 : State} (id : Nat) (obs : DecisionObs) (s : State) (hK : Keeps s0 s) :
    Keeps s0 (setDecision id obs s) := by
  unfold setDecision
  repeat' first
    | with_reducible assumption | intro _ | (extract_lets +onlyGivenNames x; have h1 : Keeps s0 x := ?_; clear_value x; rotate_left; subst x)
    | (extract_lets +onlyGivenNames x; subst x) | with_reducible apply rollbackFor_keeps | with_reducible apply deferSet_keeps
    | with_reducible apply switchArm_keeps | with_reducible apply leaderSwitch_keeps | with_reducible apply settleSet_keeps
    | with_reducible apply decideSet_keeps | with_reducible apply foldl_keeps | with_reducible apply Keeps.ite | split
    | with_reducible refine Keeps.upd ?_ rfl rfl rfl rfl rfl rfl

theorem doDecision_keeps {s0 : State} (tg set : Option Nat) (obs : DecisionObs) (s : State) (hK : Keeps s0 s) :
    Keeps s0 (doDecision tg set obs s) := by
  unfold doDecision
  repeat' first
    | with_reducible assumption | intro _ | (extract_lets +onlyGivenNames x; have h1 : Keeps s0 x := ?_; clear_value x; rotate_left; subst x)
    | (extract_lets +onlyGivenNames x; subst x) | with_reducible apply cpDecision_keeps | with_reducible apply playerDecision_keeps
    | with_reducible apply setDecision_keeps | with_reducible apply foldl_keeps | with_reducible apply Keeps.ite | split
    | with_reducible refine Keeps.upd ?_ rfl rfl rfl rfl rfl rfl

theorem setFrameHeld_keeps {s0 : State} (eo : Nat) (v : Bool) (s : State) (hK : Keeps s0 s) :
    Keeps s0 (setFrameHeld eo v s) := by
  unfold setFrameHeld
  repeat' first
    | with_reducible assumption | (extract_lets +onlyGivenNames x; have h1 : Keeps s0 x := ?_; clear_value x; rotate_left; subst x)
    | (extract_lets +onlyGivenNames x; subst x) | with_reducible apply complete_keeps | with_reducible refine Keeps.upd ?_ rfl rfl rfl rfl rfl rfl

theorem lossSetting_keeps {s0 : State} (eo : Nat) (s : State) (hK : Keeps s0 s) :
    Keeps s0 (lossSetting eo s) := by
  unfold lossSetting
  repeat' first
    | with_reducible assumption | (extract_lets +onlyGivenNames x; have h1 : Keeps s0 x := ?_; clear_value x; rotate_left; subst x)
    | (extract_lets +onlyGivenNames x; subst x) | with_reducible apply State.setBit_keeps | with_reducible apply setCharge_keeps
    | with_reducible apply setHold_keeps | with_reducible apply rechargeHold_keeps | with_reducible apply setResult_keeps
    | with_reducible apply setLossEff_keeps | with_reducible apply setFrameHeld_keeps | with_reducible apply Keeps.ite | split

theorem holdFrame_keeps {s0 : State} (eo : Nat) (l : Loss) (s : State) (hK : Keeps s0 s) :
    Keeps s0 (holdFrame eo l s) := by
  unfold holdFrame
  repeat' first
    | with_reducible assumption | intro _ | with_reducible apply setLosses_keeps | with_reducible refine Keeps.upd ?_ rfl rfl rfl rfl rfl rfl

theorem encoderHold_keeps {s0 : State} (eo : Nat) (why : LossWhy) (h : Bool) (s : State) (hK : Keeps s0 s) :
    Keeps s0 (encoderHold eo why h s) := by
  unfold encoderHold
  repeat' first
    | with_reducible assumption | (extract_lets +onlyGivenNames x; have h1 : Keeps s0 x := ?_; clear_value x; rotate_left; subst x)
    | (extract_lets +onlyGivenNames x; subst x) | with_reducible apply State.setBit_keeps | with_reducible apply raiseDest_keeps
    | with_reducible apply setLosses_keeps | with_reducible apply Keeps.ite | split

theorem encoderDrain_keeps {s0 : State} (eo : Nat) (s : State) (hK : Keeps s0 s) :
    Keeps s0 (encoderDrain eo s) := by
  unfold encoderDrain
  repeat' first
    | with_reducible assumption | with_reducible apply encoderHold_keeps | with_reducible apply Keeps.ite | split
    | with_reducible refine Keeps.upd ?_ rfl rfl rfl rfl rfl rfl

theorem encoderCut_keeps {s0 : State} (eo : Nat) (s : State) (hK : Keeps s0 s) :
    Keeps s0 (encoderCut eo s) := by
  unfold encoderCut
  repeat' first
    | with_reducible assumption | with_reducible apply encoderHold_keeps | with_reducible apply Keeps.ite | split
    | with_reducible refine Keeps.upd ?_ rfl rfl rfl rfl rfl rfl

theorem encoderPoint_keeps {s0 : State} (eo : Nat) (obs : SpliceObs) (s : State) (hK : Keeps s0 s) :
    Keeps s0 (encoderPoint eo obs s) := by
  unfold encoderPoint
  repeat' first
    | with_reducible assumption | (extract_lets +onlyGivenNames x; have h1 : Keeps s0 x := ?_; clear_value x; rotate_left; subst x)
    | (extract_lets +onlyGivenNames x; subst x) | with_reducible apply State.setF_keeps | with_reducible apply State.setBit_keeps
    | with_reducible apply raiseDest_keeps | with_reducible apply endLoss_keeps | with_reducible apply setFrameHeld_keeps
    | with_reducible apply lossSetting_keeps | with_reducible apply holdFrame_keeps | with_reducible apply encoderDrain_keeps
    | with_reducible apply encoderCut_keeps | with_reducible apply Keeps.ite | split | with_reducible refine Keeps.upd ?_ rfl rfl rfl rfl rfl rfl

theorem promotedPoint_keeps {s0 : State} (n : Nat) (p : Promo) (obs : SpliceObs) (s : State) (hK : Keeps s0 s) :
    Keeps s0 (promotedPoint n p obs s) := by
  unfold promotedPoint
  repeat' first
    | with_reducible assumption | (extract_lets +onlyGivenNames x; have h1 : Keeps s0 x := ?_; clear_value x; rotate_left; subst x)
    | (extract_lets +onlyGivenNames x; subst x) | with_reducible apply State.bump_keeps | with_reducible apply State.emit_keeps
    | with_reducible apply txRefreshAll_keeps | with_reducible apply raiseDest_keeps | with_reducible apply endPromotion_keeps
    | with_reducible apply Keeps.ite | split | with_reducible refine Keeps.upd ?_ rfl rfl rfl rfl rfl rfl

theorem restoreTaut_keeps {s0 : State} (n : Nat) (s : State) (hK : Keeps s0 s) :
    Keeps s0 (restoreTaut n s) := by
  unfold restoreTaut
  repeat' first
    | with_reducible assumption | intro _ | (extract_lets +onlyGivenNames x; have h1 : Keeps s0 x := ?_; clear_value x; rotate_left; subst x)
    | (extract_lets +onlyGivenNames x; subst x) | with_reducible apply setStrand_keeps | with_reducible apply txRefreshAll_keeps
    | with_reducible apply raiseStrand_keeps | with_reducible apply Keeps.ite | split | with_reducible refine Keeps.upd ?_ rfl rfl rfl rfl rfl rfl

theorem strandPoint_keeps {s0 : State} (n : Nat) (obs : SpliceObs) (s : State) (hK : Keeps s0 s) :
    Keeps s0 (strandPoint n obs s) := by
  unfold strandPoint
  repeat' first
    | with_reducible assumption | intro _ | (extract_lets +onlyGivenNames x; have h1 : Keeps s0 x := ?_; clear_value x; rotate_left; subst x)
    | (extract_lets +onlyGivenNames x; subst x) | with_reducible apply State.setReg_keeps | with_reducible apply promotedPoint_keeps
    | with_reducible apply restoreTaut_keeps | with_reducible apply Keeps.ite | split | with_reducible refine Keeps.upd ?_ rfl rfl rfl rfl rfl rfl

theorem destPoint_keeps {s0 : State} (d : Nat) (obs : SpliceObs) (s : State) (hK : Keeps s0 s) :
    Keeps s0 (destPoint d obs s) := by
  unfold destPoint
  repeat' first
    | with_reducible assumption | intro _ | (extract_lets +onlyGivenNames x; have h1 : Keeps s0 x := ?_; clear_value x; rotate_left; subst x)
    | (extract_lets +onlyGivenNames x; subst x) | with_reducible apply bightAtPoint_keeps | with_reducible apply encoderPoint_keeps
    | with_reducible apply strandPoint_keeps | with_reducible apply foldl_keeps | with_reducible apply Keeps.ite | split
    | with_reducible refine Keeps.upd ?_ rfl rfl rfl rfl rfl rfl

theorem formCoil_keeps {s0 : State} (cp : Nat) (s : State) (hK : Keeps s0 s) :
    Keeps s0 (formCoil cp s) := by
  unfold formCoil
  repeat' first
    | with_reducible assumption | intro _ | (extract_lets +onlyGivenNames x; have h1 : Keeps s0 x := ?_; clear_value x; rotate_left; subst x)
    | (extract_lets +onlyGivenNames x; subst x) | with_reducible apply State.setReg_keeps | with_reducible apply State.setF_keeps
    | with_reducible apply State.setBit_keeps | with_reducible apply State.bump_keeps | with_reducible apply raiseCp_keeps
    | with_reducible apply refuseBw_keeps | with_reducible apply recharge_keeps | with_reducible apply foldl_keeps | with_reducible apply Keeps.ite
    | split | with_reducible refine Keeps.upd ?_ rfl rfl rfl rfl rfl rfl

theorem flipDone_keeps {s0 : State} (k : Taken) (s : State) (hK : Keeps s0 s) :
    Keeps s0 (flipDone k s) := by
  unfold flipDone
  repeat' first
    | with_reducible assumption | (extract_lets +onlyGivenNames x; have h1 : Keeps s0 x := ?_; clear_value x; rotate_left; subst x)
    | (extract_lets +onlyGivenNames x; subst x) | with_reducible apply complete_keeps | with_reducible apply retire_keeps
    | with_reducible apply Keeps.ite | split | with_reducible refine Keeps.upd ?_ rfl rfl rfl rfl rfl rfl

theorem countStatic_keeps {s0 : State} (cp l : Nat) (flipped : Bool) (s : State) (hK : Keeps s0 s) :
    Keeps s0 (countStatic cp l flipped s) := by
  unfold countStatic
  repeat' first
    | with_reducible assumption | (extract_lets +onlyGivenNames x; have h1 : Keeps s0 x := ?_; clear_value x; rotate_left; subst x)
    | (extract_lets +onlyGivenNames x; subst x) | with_reducible apply setLayerSt_keeps | with_reducible apply Keeps.ite | split
    | with_reducible refine Keeps.upd ?_ rfl rfl rfl rfl rfl rfl

theorem cpFrameEnds_keeps {s0 : State} (cp : Nat) (s : State) (hK : Keeps s0 s) :
    Keeps s0 (cpFrameEnds cp s) := by
  unfold cpFrameEnds
  repeat' first
    | with_reducible assumption | (extract_lets +onlyGivenNames x; have h1 : Keeps s0 x := ?_; clear_value x; rotate_left; subst x)
    | (extract_lets +onlyGivenNames x; subst x) | with_reducible apply State.setReg_keeps | with_reducible apply Keeps.ite | split
    | with_reducible refine Keeps.upd ?_ rfl rfl rfl rfl rfl rfl

theorem cpPoint_keeps {s0 : State} (cp : Nat) (s : State) (hK : Keeps s0 s) :
    Keeps s0 (cpPoint cp s) := by
  unfold cpPoint
  repeat' first
    | with_reducible assumption | intro _ | (extract_lets +onlyGivenNames x; have h1 : Keeps s0 x := ?_; clear_value x; rotate_left; subst x)
    | (extract_lets +onlyGivenNames x; subst x) | with_reducible apply dropCoil_keeps | with_reducible apply formCoil_keeps
    | with_reducible apply flipDone_keeps | with_reducible apply countStatic_keeps | with_reducible apply cpFrameEnds_keeps
    | with_reducible apply foldl_keeps | with_reducible apply Keeps.ite | split | with_reducible refine Keeps.upd ?_ rfl rfl rfl rfl rfl rfl

theorem genPoint_keeps {s0 : State} (tg : Nat) (s : State) (hK : Keeps s0 s) :
    Keeps s0 (genPoint tg s) := by
  unfold genPoint
  repeat' first
    | with_reducible assumption | (extract_lets +onlyGivenNames x; have h1 : Keeps s0 x := ?_; clear_value x; rotate_left; subst x)
    | (extract_lets +onlyGivenNames x; subst x) | with_reducible apply State.setReg_keeps | with_reducible apply State.setBit_keeps
    | with_reducible apply State.bump_keeps | with_reducible apply State.draw_keeps | with_reducible apply raiseGen_keeps
    | with_reducible apply setGenSt_keeps | with_reducible apply Keeps.ite | split | with_reducible refine Keeps.upd ?_ rfl rfl rfl rfl rfl rfl

theorem haltOutput_keeps {s0 : State} (d : Nat) (s : State) (hK : Keeps s0 s) :
    Keeps s0 (haltOutput d s) := by
  unfold haltOutput
  repeat' first
    | with_reducible assumption | (extract_lets +onlyGivenNames x; have h1 : Keeps s0 x := ?_; clear_value x; rotate_left; subst x)
    | (extract_lets +onlyGivenNames x; subst x) | with_reducible apply txRefreshAll_keeps | with_reducible apply setPwr_keeps
    | with_reducible apply Keeps.ite | split | with_reducible refine Keeps.upd ?_ rfl rfl rfl rfl rfl rfl

theorem doSplicePoint_keeps {s0 : State} (p : PointOf) (obs : SpliceObs) (s : State) (hK : Keeps s0 s) :
    Keeps s0 (doSplicePoint p obs s) := by
  unfold doSplicePoint
  repeat' first
    | with_reducible assumption | with_reducible apply destPoint_keeps | with_reducible apply cpPoint_keeps | with_reducible apply genPoint_keeps
    | with_reducible apply haltOutput_keeps | with_reducible apply Keeps.ite | split | with_reducible refine Keeps.upd ?_ rfl rfl rfl rfl rfl rfl

theorem doShadowReload_keeps {s0 : State} (e : Nat) (s : State) (hK : Keeps s0 s) :
    Keeps s0 (doShadowReload e s) := by
  unfold doShadowReload
  repeat' first
    | with_reducible assumption | intro _ | (extract_lets +onlyGivenNames x; have h1 : Keeps s0 x := ?_; clear_value x; rotate_left; subst x)
    | (extract_lets +onlyGivenNames x; subst x) | with_reducible apply reloadShadow_keeps | with_reducible apply rwsWrite_keeps
    | with_reducible apply foldl_keeps | with_reducible apply Keeps.ite | split | with_reducible refine Keeps.upd ?_ rfl rfl rfl rfl rfl rfl

theorem doEthBlockReturn_keeps {s0 : State} (n : Nat) (s : State) (hK : Keeps s0 s) :
    Keeps s0 (doEthBlockReturn n s) := by
  unfold doEthBlockReturn
  repeat' first
    | with_reducible assumption | (extract_lets +onlyGivenNames x; have h1 : Keeps s0 x := ?_; clear_value x; rotate_left; subst x)
    | (extract_lets +onlyGivenNames x; subst x) | with_reducible apply txRefreshAll_keeps | with_reducible apply Keeps.ite | split
    | with_reducible refine Keeps.upd ?_ rfl rfl rfl rfl rfl rfl

theorem doHoldLimitExpiry_keeps {s0 : State} (obj : Nat) (s : State) (hK : Keeps s0 s) :
    Keeps s0 (doHoldLimitExpiry obj s) := by
  unfold doHoldLimitExpiry
  repeat' first
    | with_reducible assumption | (extract_lets +onlyGivenNames x; have h1 : Keeps s0 x := ?_; clear_value x; rotate_left; subst x)
    | (extract_lets +onlyGivenNames x; subst x) | with_reducible apply raiseDest_keeps | with_reducible apply setLosses_keeps
    | with_reducible apply Keeps.ite | split | with_reducible refine Keeps.upd ?_ rfl rfl rfl rfl rfl rfl


end Sys2Proof.Machine
end

