-- ==== Sys2Proof/Laws/KeepsSystem.lean ====
section
/-! SUPPORT. What every operation of these files keeps: keys, records, the timebase, strands, wires, fids, audio and hosts. -/

set_option linter.unreachableTactic false
set_option linter.unusedTactic false
set_option linter.unusedVariables false

namespace Sys2Proof.Machine

open Sys2Proof

/-! Keys -/

theorem setKey_keeps {s0 : State} (r : KeyState) (s : State) (h : Keeps s0 s) (hk : r.rooted = s.key.rooted) :
    Keeps s0 (setKey r s) := Keeps.upd h rfl rfl rfl rfl rfl hk

theorem deriveKeys_keeps {s0 : State} (s : State) (hK : Keeps s0 s) :
    Keeps s0 (deriveKeys s) := by
  unfold deriveKeys
  repeat' first
    | with_reducible assumption | ((with_reducible refine Eq.symm ?_); rfl)
    | (extract_lets +onlyGivenNames x; have h1 : Keeps s0 x := ?_; clear_value x; rotate_left; subst x) | (extract_lets +onlyGivenNames x; subst x)
    | with_reducible refine setKey_keeps _ _ ?_ ?_ | with_reducible apply Keeps.ite | split
    | with_reducible refine Keeps.upd ?_ rfl rfl rfl rfl rfl rfl

theorem refreshSlot_keeps {s0 : State} (k : Nat) (s : State) (hK : Keeps s0 s) :
    Keeps s0 (refreshSlot k s) := by
  unfold refreshSlot
  repeat' first
    | with_reducible assumption | intro _ | (extract_lets +onlyGivenNames x; have h1 : Keeps s0 x := ?_; clear_value x; rotate_left; subst x)
    | (extract_lets +onlyGivenNames x; subst x) | with_reducible apply State.setReg_keeps | with_reducible apply Keeps.ite | split
    | with_reducible refine Keeps.upd ?_ rfl rfl rfl rfl rfl rfl

theorem setSlot_keeps {s0 : State} (k : Nat) (v : KeySlot) (s : State) (hK : Keeps s0 s) :
    Keeps s0 (setSlot k v s) := by
  unfold setSlot
  repeat' first
    | with_reducible assumption | ((with_reducible refine Eq.symm ?_); rfl)
    | (extract_lets +onlyGivenNames x; have h1 : Keeps s0 x := ?_; clear_value x; rotate_left; subst x) | (extract_lets +onlyGivenNames x; subst x)
    | with_reducible refine setKey_keeps _ _ ?_ ?_ | with_reducible apply refreshSlot_keeps
    | with_reducible refine Keeps.upd ?_ rfl rfl rfl rfl rfl rfl

theorem invalidateSas_keeps {s0 : State} (k : Nat) (s : State) (hK : Keeps s0 s) :
    Keeps s0 (invalidateSas k s) := by
  unfold invalidateSas
  repeat' first
    | with_reducible assumption | intro _ | (extract_lets +onlyGivenNames x; have h1 : Keeps s0 x := ?_; clear_value x; rotate_left; subst x)
    | (extract_lets +onlyGivenNames x; subst x) | with_reducible apply Keeps.ite | split | with_reducible refine Keeps.upd ?_ rfl rfl rfl rfl rfl rfl

theorem zeroSlot_keeps {s0 : State} (k : Nat) (s : State) (hK : Keeps s0 s) :
    Keeps s0 (zeroSlot k s) := by
  unfold zeroSlot
  repeat' first
    | with_reducible assumption | with_reducible apply setSlot_keeps | with_reducible apply invalidateSas_keeps

theorem zeroSlots_keeps {s0 : State} (s : State) (hK : Keeps s0 s) :
    Keeps s0 (zeroSlots s) := by
  unfold zeroSlots
  repeat' first
    | with_reducible assumption | intro _ | with_reducible apply zeroSlot_keeps | with_reducible apply foldl_keeps

theorem zeroKeys_keeps {s0 : State} (s : State) (hK : Keeps s0 s) :
    Keeps s0 (zeroKeys s) := by
  unfold zeroKeys
  repeat' first
    | with_reducible assumption | ((with_reducible refine Eq.symm ?_); rfl)
    | (extract_lets +onlyGivenNames x; have h1 : Keeps s0 x := ?_; clear_value x; rotate_left; subst x) | (extract_lets +onlyGivenNames x; subst x)
    | with_reducible refine setKey_keeps _ _ ?_ ?_ | with_reducible apply zeroSlots_keeps | with_reducible refine Keeps.upd ?_ rfl rfl rfl rfl rfl rfl

theorem keyDone_keeps {s0 : State} (o : Origin) (st : Status) (obj : Nat) (s : State) (hK : Keeps s0 s) :
    Keeps s0 (keyDone o st obj s) := by
  unfold keyDone
  repeat' first
    | with_reducible assumption | with_reducible apply State.setF_keeps | with_reducible apply complete_keeps

theorem keyCommand_keeps {s0 : State} (o : Origin) (check : State → Refuse) (effect : State → State) (s : State) (hK : Keeps s0 s) (heffect : ∀ (a0 : State), Keeps s0 a0 → Keeps s0 (effect a0)) :
    Keeps s0 (keyCommand o check effect s) := by
  unfold keyCommand
  repeat' first
    | with_reducible assumption | intro _ | (extract_lets +onlyGivenNames x; have h1 : Keeps s0 x := ?_; clear_value x; rotate_left; subst x)
    | (extract_lets +onlyGivenNames x; subst x) | with_reducible apply heffect | with_reducible apply State.setF_keeps
    | with_reducible apply loneCommand_keeps | with_reducible apply Keeps.ite | split | with_reducible refine Keeps.upd ?_ rfl rfl rfl rfl rfl rfl

theorem keyWriteEffect_keeps {s0 : State} (o : Origin) (slot attr wrap : Nat) (data : Option (List Byte)) (s : State) (hK : Keeps s0 s) :
    Keeps s0 (keyWriteEffect o slot attr wrap data s) := by
  unfold keyWriteEffect
  repeat' first
    | with_reducible assumption | with_reducible apply setSlot_keeps | with_reducible apply keyDone_keeps | with_reducible apply Keeps.ite | split
    | with_reducible refine Keeps.upd ?_ rfl rfl rfl rfl rfl rfl

theorem doKeyWrite_keeps {s0 : State} (o : Origin) (slot attr wrap : Nat) (data : Option (List Byte)) (s : State) (hK : Keeps s0 s) :
    Keeps s0 (doKeyWrite o slot attr wrap data s) := by
  unfold doKeyWrite
  repeat' first
    | with_reducible assumption | intro _ | with_reducible apply keyCommand_keeps | with_reducible apply keyWriteEffect_keeps

theorem doKeyZero_keeps {s0 : State} (o : Origin) (slot : Nat) (s : State) (hK : Keeps s0 s) :
    Keeps s0 (doKeyZero o slot s) := by
  unfold doKeyZero
  repeat' first
    | with_reducible assumption | intro _ | with_reducible apply zeroSlot_keeps | with_reducible apply zeroSlots_keeps
    | with_reducible apply keyDone_keeps | with_reducible apply keyCommand_keeps | with_reducible apply Keeps.ite | split

theorem keyDeriveEffect_keeps {s0 : State} (o : Origin) (source target attr addr : Nat) (data : Option (List Byte)) (s : State) (hK : Keeps s0 s) :
    Keeps s0 (keyDeriveEffect o source target attr addr data s) := by
  unfold keyDeriveEffect
  repeat' first
    | with_reducible assumption | (extract_lets +onlyGivenNames x; have h1 : Keeps s0 x := ?_; clear_value x; rotate_left; subst x)
    | (extract_lets +onlyGivenNames x; subst x) | with_reducible apply State.emit_keeps | with_reducible apply setSlot_keeps
    | with_reducible apply keyDone_keeps | with_reducible apply Keeps.ite | split

theorem doKeyDerive_keeps {s0 : State} (o : Origin) (source target attr addr : Nat) (data : Option (List Byte)) (s : State) (hK : Keeps s0 s) :
    Keeps s0 (doKeyDerive o source target attr addr data s) := by
  unfold doKeyDerive
  repeat' first
    | with_reducible assumption | intro _ | with_reducible apply keyCommand_keeps | with_reducible apply keyDeriveEffect_keeps

theorem keyStoreEffect_keeps {s0 : State} (o : Origin) (slot : Nat) (s : State) (hK : Keeps s0 s) :
    Keeps s0 (keyStoreEffect o slot s) := by
  unfold keyStoreEffect
  repeat' first
    | with_reducible assumption | (extract_lets +onlyGivenNames x; have h1 : Keeps s0 x := ?_; clear_value x; rotate_left; subst x)
    | (extract_lets +onlyGivenNames x; subst x) | with_reducible apply State.setBit_keeps | with_reducible apply writeRecord_keeps
    | with_reducible apply mailbox_keeps

theorem doKeyStore_keeps {s0 : State} (o : Origin) (slot : Nat) (s : State) (hK : Keeps s0 s) :
    Keeps s0 (doKeyStore o slot s) := by
  unfold doKeyStore
  repeat' first
    | with_reducible assumption | intro _ | with_reducible apply keyCommand_keeps | with_reducible apply keyStoreEffect_keeps

theorem recomputeDigest_keeps {s0 : State} (s : State) (hK : Keeps s0 s) :
    Keeps s0 (recomputeDigest s) := by
  unfold recomputeDigest
  repeat' first
    | with_reducible assumption | ((with_reducible refine Eq.symm ?_); rfl) | intro _
    | (extract_lets +onlyGivenNames x; have h1 : Keeps s0 x := ?_; clear_value x; rotate_left; subst x) | (extract_lets +onlyGivenNames x; subst x)
    | with_reducible apply State.setReg_keeps | with_reducible refine setKey_keeps _ _ ?_ ?_ | with_reducible apply foldl_keeps
    | with_reducible refine Keeps.upd ?_ rfl rfl rfl rfl rfl rfl

theorem doDigestRecompute_keeps {s0 : State} (s : State) (hK : Keeps s0 s) :
    Keeps s0 (doDigestRecompute s) := by
  unfold doDigestRecompute
  repeat' first
    | with_reducible assumption | with_reducible apply recomputeDigest_keeps

theorem attestEffect_keeps {s0 : State} (o : Origin) (slot addr : Nat) (challenge : List Byte) (s : State) (hK : Keeps s0 s) :
    Keeps s0 (attestEffect o slot addr challenge s) := by
  unfold attestEffect
  repeat' first
    | with_reducible assumption | (extract_lets +onlyGivenNames x; have h1 : Keeps s0 x := ?_; clear_value x; rotate_left; subst x)
    | (extract_lets +onlyGivenNames x; subst x) | with_reducible apply State.emit_keeps | with_reducible apply keyDone_keeps
    | with_reducible apply recomputeDigest_keeps | with_reducible apply Keeps.ite | split

theorem doAttest_keeps {s0 : State} (o : Origin) (slot addr : Nat) (challenge : List Byte) (s : State) (hK : Keeps s0 s) :
    Keeps s0 (doAttest o slot addr challenge s) := by
  unfold doAttest
  repeat' first
    | with_reducible assumption | intro _ | with_reducible apply keyCommand_keeps | with_reducible apply attestEffect_keeps

theorem digestChanged_keeps {s0 : State} (s : State) (hK : Keeps s0 s) :
    Keeps s0 (digestChanged s) := by
  unfold digestChanged
  repeat' first
    | with_reducible assumption | ((with_reducible refine Eq.symm ?_); rfl)
    | (extract_lets +onlyGivenNames x; have h1 : Keeps s0 x := ?_; clear_value x; rotate_left; subst x) | (extract_lets +onlyGivenNames x; subst x)
    | with_reducible refine setKey_keeps _ _ ?_ ?_ | with_reducible refine Keeps.upd ?_ rfl rfl rfl rfl rfl rfl

theorem loadSlot_keeps {s0 : State} (k : Nat) (s : State) (hK : Keeps s0 s) :
    Keeps s0 (loadSlot k s) := by
  unfold loadSlot
  repeat' first
    | with_reducible assumption | intro _ | with_reducible apply setSlot_keeps | with_reducible apply Keeps.ite | split
    | with_reducible refine Keeps.upd ?_ rfl rfl rfl rfl rfl rfl

theorem keyRollback_keeps {s0 : State} (k loaded : Nat) (s : State) (hK : Keeps s0 s) :
    Keeps s0 (keyRollback k loaded s) := by
  unfold keyRollback
  repeat' first
    | with_reducible assumption | (extract_lets +onlyGivenNames x; have h1 : Keeps s0 x := ?_; clear_value x; rotate_left; subst x)
    | (extract_lets +onlyGivenNames x; subst x) | with_reducible apply State.setReg_keeps | with_reducible apply State.bump_keeps
    | with_reducible apply raiseEn_keeps | with_reducible apply logBit_keeps

theorem loadKeys_keeps {s0 : State} (s : State) (hK : Keeps s0 s) :
    Keeps s0 (loadKeys s) := by
  unfold loadKeys
  repeat' first
    | with_reducible assumption | intro _ | (extract_lets +onlyGivenNames x; have h1 : Keeps s0 x := ?_; clear_value x; rotate_left; subst x)
    | (extract_lets +onlyGivenNames x; subst x) | with_reducible apply State.setBit_keeps | with_reducible apply raiseEn_keeps
    | with_reducible apply loadSlot_keeps | with_reducible apply keyRollback_keeps | with_reducible apply foldl_keeps | with_reducible apply Keeps.ite
    | split


/-! RecordSteps -/

theorem refreshSelector_keeps {s0 : State} (s : State) (hK : Keeps s0 s) :
    Keeps s0 (refreshSelector s) := by
  unfold refreshSelector
  repeat' first
    | with_reducible assumption | intro _ | (extract_lets +onlyGivenNames x; have h1 : Keeps s0 x := ?_; clear_value x; rotate_left; subst x)
    | (extract_lets +onlyGivenNames x; subst x) | with_reducible apply State.setReg_keeps | with_reducible apply Keeps.ite | split

theorem setImage_keeps {s0 : State} (k : Slot) (i : Option RigImage) (s : State) (hK : Keeps s0 s) :
    Keeps s0 (setImage k i s) := by
  unfold setImage
  repeat' first
    | with_reducible assumption | (extract_lets +onlyGivenNames x; have h1 : Keeps s0 x := ?_; clear_value x; rotate_left; subst x)
    | (extract_lets +onlyGivenNames x; subst x) | with_reducible apply refreshSelector_keeps | with_reducible apply Keeps.ite | split
    | with_reducible refine Keeps.upd ?_ rfl rfl rfl rfl rfl rfl

theorem eraseSlots_keeps {s0 : State} (s : State) (hK : Keeps s0 s) :
    Keeps s0 (eraseSlots s) := by
  unfold eraseSlots
  repeat' first
    | with_reducible assumption | intro _ | (extract_lets +onlyGivenNames x; have h1 : Keeps s0 x := ?_; clear_value x; rotate_left; subst x)
    | (extract_lets +onlyGivenNames x; subst x) | with_reducible apply setImage_keeps | with_reducible apply foldl_keeps
    | with_reducible apply Keeps.ite | split | with_reducible refine Keeps.upd ?_ rfl rfl rfl rfl rfl rfl

theorem applySelector_keeps {s0 : State} (payload : List Byte) (s : State) (hK : Keeps s0 s) :
    Keeps s0 (applySelector payload s) := by
  unfold applySelector
  repeat' first
    | with_reducible assumption | (extract_lets +onlyGivenNames x; have h1 : Keeps s0 x := ?_; clear_value x; rotate_left; subst x)
    | (extract_lets +onlyGivenNames x; subst x) | with_reducible apply digestChanged_keeps | with_reducible apply refreshSelector_keeps
    | with_reducible apply eraseSlots_keeps | with_reducible refine Keeps.upd ?_ rfl rfl rfl rfl rfl rfl

theorem tamperPosted_keeps {s0 : State} (payload : List Byte) (s : State) (hK : Keeps s0 s) :
    Keeps s0 (tamperPosted payload s) := by
  unfold tamperPosted
  repeat' first
    | with_reducible assumption | (extract_lets +onlyGivenNames x; have h1 : Keeps s0 x := ?_; clear_value x; rotate_left; subst x)
    | (extract_lets +onlyGivenNames x; subst x) | with_reducible apply State.setReg_keeps | with_reducible apply State.setBit_keeps
    | with_reducible apply postEvent_keeps | with_reducible apply Keeps.ite | split | with_reducible refine Keeps.upd ?_ rfl rfl rfl rfl rfl rfl

theorem recordCommitted_keeps {s0 : State} (w : RecWrite) (s : State) (hK : Keeps s0 s) :
    Keeps s0 (recordCommitted w s) := by
  unfold recordCommitted
  repeat' first
    | with_reducible assumption | with_reducible apply refreshSlot_keeps | with_reducible apply applySelector_keeps
    | with_reducible apply tamperPosted_keeps | with_reducible apply Keeps.ite | split | with_reducible refine Keeps.upd ?_ rfl rfl rfl rfl rfl rfl

theorem recordComplete_keeps {s0 : State} (w : RecWrite) (s : State) (hK : Keeps s0 s) :
    Keeps s0 (recordComplete w s) := by
  unfold recordComplete
  repeat' first
    | with_reducible assumption | (extract_lets +onlyGivenNames x; have h1 : Keeps s0 x := ?_; clear_value x; rotate_left; subst x)
    | (extract_lets +onlyGivenNames x; subst x) | with_reducible apply State.setReg_keeps | with_reducible apply State.setF_keeps
    | with_reducible apply State.setBit_keeps | with_reducible apply raiseEn_keeps | with_reducible apply raiseRig_keeps
    | with_reducible apply completeOk_keeps | with_reducible apply logBit_keeps | with_reducible apply keyDone_keeps | with_reducible apply Keeps.ite
    | split | with_reducible refine Keeps.upd ?_ rfl rfl rfl rfl rfl rfl

theorem doRecordCommitted_keeps {s0 : State} (cls bank : Nat) (flips : List (Nat × Nat)) (s : State) (hK : Keeps s0 s) :
    Keeps s0 (doRecordCommitted cls bank flips s) := by
  unfold doRecordCommitted
  repeat' first
    | with_reducible assumption | intro _ | (extract_lets +onlyGivenNames x; have h1 : Keeps s0 x := ?_; clear_value x; rotate_left; subst x)
    | (extract_lets +onlyGivenNames x; subst x) | with_reducible apply State.bump_keeps | with_reducible apply refreshRing_keeps
    | with_reducible apply placeCopy_keeps | with_reducible apply setWrites_keeps | with_reducible apply raiseRecords_keeps
    | with_reducible apply fidEvent_keeps | with_reducible apply recordCommitted_keeps | with_reducible apply recordComplete_keeps
    | with_reducible apply Keeps.ite | split | with_reducible refine Keeps.upd ?_ rfl rfl rfl rfl rfl rfl

theorem doSectorErased_keeps {s0 : State} (cls bank : Nat) (s : State) (hK : Keeps s0 s) :
    Keeps s0 (doSectorErased cls bank s) := by
  unfold doSectorErased
  repeat' first
    | with_reducible assumption | ((with_reducible refine Eq.symm ?_); rfl) | intro _
    | (extract_lets +onlyGivenNames x; have h1 : Keeps s0 x := ?_; clear_value x; rotate_left; subst x) | (extract_lets +onlyGivenNames x; subst x)
    | with_reducible refine setRec_keeps _ _ ?_ ?_ ?_ | with_reducible apply setRing_keeps | with_reducible apply refreshRing_keeps
    | with_reducible apply placeCopy_keeps | with_reducible apply fidEvent_keeps | with_reducible apply foldl_keeps | with_reducible apply Keeps.ite
    | split | with_reducible refine Keeps.upd ?_ rfl rfl rfl rfl rfl rfl

theorem tearWrites_keeps {s0 : State} (s : State) (hK : Keeps s0 s) :
    Keeps s0 (tearWrites s) := by
  unfold tearWrites
  repeat' first
    | with_reducible assumption | intro _ | (extract_lets +onlyGivenNames x; have h1 : Keeps s0 x := ?_; clear_value x; rotate_left; subst x)
    | (extract_lets +onlyGivenNames x; subst x) | with_reducible apply State.draw_keeps | with_reducible apply placeCopy_keeps
    | with_reducible apply setWrites_keeps | with_reducible apply foldl_keeps | with_reducible apply Keeps.ite | split
    | with_reducible refine Keeps.upd ?_ rfl rfl rfl rfl rfl rfl

theorem bootWrite_keeps {s0 : State} (cls index : Nat) (payload : List Byte) (s : State) (hK : Keeps s0 s) :
    Keeps s0 (bootWrite cls index payload s) := by
  unfold bootWrite
  repeat' first
    | with_reducible assumption | ((with_reducible refine Eq.symm ?_); rfl) | intro _
    | (extract_lets +onlyGivenNames x; have h1 : Keeps s0 x := ?_; clear_value x; rotate_left; subst x) | (extract_lets +onlyGivenNames x; subst x)
    | with_reducible refine setRec_keeps _ _ ?_ ?_ ?_ | with_reducible apply refreshRing_keeps | with_reducible apply placeCopy_keeps
    | with_reducible apply foldl_keeps | with_reducible refine Keeps.upd ?_ rfl rfl rfl rfl rfl rfl

theorem markTwins_keeps {s0 : State} (cls : Nat) (s : State) (hK : Keeps s0 s) :
    Keeps s0 (markTwins cls s) := by
  unfold markTwins
  repeat' first
    | with_reducible assumption | intro _ | (extract_lets +onlyGivenNames x; have h1 : Keeps s0 x := ?_; clear_value x; rotate_left; subst x)
    | (extract_lets +onlyGivenNames x; subst x) | with_reducible apply State.bump_keeps | with_reducible apply setRing_keeps
    | with_reducible apply raiseRecords_keeps | with_reducible apply logBit_keeps | with_reducible apply foldl_keeps | with_reducible apply Keeps.ite
    | split | with_reducible refine Keeps.upd ?_ rfl rfl rfl rfl rfl rfl

theorem countTorn_keeps {s0 : State} (cls : Nat) (s : State) (hK : Keeps s0 s) :
    Keeps s0 (countTorn cls s) := by
  unfold countTorn
  repeat' first
    | with_reducible assumption | intro _ | with_reducible apply State.bump_keeps | with_reducible apply raiseRecords_keeps
    | with_reducible apply logBit_keeps | with_reducible apply foldl_keeps | with_reducible apply Keeps.ite | split

theorem repairRing_keeps {s0 : State} (cls : Nat) (s : State) (hK : Keeps s0 s) :
    Keeps s0 (repairRing cls s) := by
  unfold repairRing
  repeat' first
    | with_reducible assumption | intro _ | (extract_lets +onlyGivenNames x; have h1 : Keeps s0 x := ?_; clear_value x; rotate_left; subst x)
    | (extract_lets +onlyGivenNames x; subst x) | with_reducible apply repairRecord_keeps | with_reducible apply foldl_keeps
    | with_reducible apply Keeps.ite | split | with_reducible refine Keeps.upd ?_ rfl rfl rfl rfl rfl rfl

theorem countRead_keeps {s0 : State} (ks : List Nat) (x : RecCopy) (s : State) (hK : Keeps s0 s) :
    Keeps s0 (countRead ks x s) := by
  unfold countRead
  repeat' first
    | with_reducible assumption | intro _ | (extract_lets +onlyGivenNames x; have h1 : Keeps s0 x := ?_; clear_value x; rotate_left; subst x)
    | (extract_lets +onlyGivenNames x; subst x) | with_reducible apply State.bump_keeps | with_reducible apply raiseRecords_keeps
    | with_reducible apply Keeps.ite | split

theorem scanRing_keeps {s0 : State} (c : Nat) (s : State) (hK : Keeps s0 s) :
    Keeps s0 (scanRing c s) := by
  unfold scanRing
  repeat' first
    | with_reducible assumption | intro _ | with_reducible apply countRead_keeps | with_reducible apply foldl_keeps

theorem scanRings_keeps {s0 : State} (s : State) (hK : Keeps s0 s) :
    Keeps s0 (scanRings s) := by
  unfold scanRings
  repeat' first
    | with_reducible assumption | ((with_reducible refine Eq.symm ?_); rfl) | intro _
    | (extract_lets +onlyGivenNames x; have h1 : Keeps s0 x := ?_; clear_value x; rotate_left; subst x) | (extract_lets +onlyGivenNames x; subst x)
    | with_reducible apply State.setReg_keeps | with_reducible apply State.setBit_keeps | with_reducible refine setRec_keeps _ _ ?_ ?_ ?_
    | with_reducible apply refreshRing_keeps | with_reducible apply refreshOwner_keeps | with_reducible apply bootWrite_keeps
    | with_reducible apply markTwins_keeps | with_reducible apply countTorn_keeps | with_reducible apply repairRing_keeps
    | with_reducible apply scanRing_keeps | with_reducible apply foldl_keeps | with_reducible refine Keeps.upd ?_ rfl rfl rfl rfl rfl rfl

theorem recResult_keeps {s0 : State} (st : Status) (s : State) (hK : Keeps s0 s) :
    Keeps s0 (recResult st s) := by
  unfold recResult
  repeat' first
    | with_reducible assumption | with_reducible apply State.setF_keeps

theorem lockPage_append_keeps {s0 : State} (e : Option (List Byte)) (s : State) (hK : Keeps s0 s) :
    Keeps s0 (setRec { s.rst with lockPage := s.rst.lockPage ++ [e] } s) :=
  ⟨hK.pending, hK.draws, hK.canon, hK.page.trans (List.prefix_append _ _), hK.locked, hK.rooted⟩

theorem programHash_keeps {s0 : State} (v : Word) (s : State) (hK : Keeps s0 s) : Keeps s0 (programHash v s) := by
  unfold programHash
  split
  · exact recResult_keeps _ _ hK
  · exact digestChanged_keeps _ (recResult_keeps _ _ (raiseRecords_keeps _ _ (refreshOwner_keeps _ (lockPage_append_keeps _ _ hK))))

theorem lockPage_keeps {s0 : State} (v : Word) (s : State) (hK : Keeps s0 s) : Keeps s0 (lockPage v s) := by
  unfold lockPage
  split
  · exact recResult_keeps _ _ hK
  · exact digestChanged_keeps _ (recResult_keeps _ _ (refreshOwner_keeps _ ⟨hK.pending, hK.draws, hK.canon, hK.page, fun _ => rfl, hK.rooted⟩))

theorem ownerCtrlWrite_keeps {s0 : State} (v : Word) (s : State) (hK : Keeps s0 s) :
    Keeps s0 (ownerCtrlWrite v s) := by
  unfold ownerCtrlWrite
  repeat' first
    | with_reducible assumption | (extract_lets +onlyGivenNames x; have h1 : Keeps s0 x := ?_; clear_value x; rotate_left; subst x)
    | (extract_lets +onlyGivenNames x; subst x) | with_reducible apply programHash_keeps | with_reducible apply lockPage_keeps
    | with_reducible apply Keeps.ite | split

theorem doProgram_keeps {s0 : State} (m : Master) (v : Word) (s : State) (hK : Keeps s0 s) :
    Keeps s0 (doProgram m v s) := by
  unfold doProgram
  repeat' first
    | with_reducible assumption | intro _ | with_reducible apply gatedWrite_keeps | with_reducible apply ownerCtrlWrite_keeps

theorem doLock_keeps {s0 : State} (m : Master) (v : Word) (s : State) (hK : Keeps s0 s) :
    Keeps s0 (doLock m v s) := by
  unfold doLock
  repeat' first
    | with_reducible assumption | intro _ | with_reducible apply gatedWrite_keeps | with_reducible apply ownerCtrlWrite_keeps

theorem recReadEffect_keeps {s0 : State} (o : Origin) (cls index length seq addr : Nat) (s : State) (hK : Keeps s0 s) :
    Keeps s0 (recReadEffect o cls index length seq addr s) := by
  unfold recReadEffect
  repeat' first
    | with_reducible assumption | intro _ | (extract_lets +onlyGivenNames x; have h1 : Keeps s0 x := ?_; clear_value x; rotate_left; subst x)
    | (extract_lets +onlyGivenNames x; subst x) | with_reducible apply State.emit_keeps | with_reducible apply complete_keeps
    | with_reducible apply completeOk_keeps | with_reducible apply mailbox_keeps | with_reducible apply markTwins_keeps
    | with_reducible apply countRead_keeps | with_reducible apply Keeps.ite | split | with_reducible refine Keeps.upd ?_ rfl rfl rfl rfl rfl rfl

theorem doRecRead_keeps {s0 : State} (o : Origin) (cls index length seq addr : Nat) (s : State) (hK : Keeps s0 s) :
    Keeps s0 (doRecRead o cls index length seq addr s) := by
  unfold doRecRead
  repeat' first
    | with_reducible assumption | intro _ | with_reducible apply loneCommand_keeps | with_reducible apply recReadEffect_keeps


/-! Timebase -/

theorem setTim_keeps {s0 : State} (t : TimeState) (s : State) (hK : Keeps s0 s) :
    Keeps s0 (setTim t s) := by
  unfold setTim
  repeat' first
    | with_reducible assumption | (extract_lets +onlyGivenNames x; have h1 : Keeps s0 x := ?_; clear_value x; rotate_left; subst x)
    | (extract_lets +onlyGivenNames x; subst x) | with_reducible refine Keeps.upd ?_ rfl rfl rfl rfl rfl rfl

theorem raiseTmb_keeps {s0 : State} (b : Nat) (s : State) (hK : Keeps s0 s) :
    Keeps s0 (raiseTmb b s) := by
  unfold raiseTmb
  repeat' first
    | with_reducible assumption | with_reducible apply raiseEn_keeps

theorem raiseCal_keeps {s0 : State} (b : Nat) (s : State) (hK : Keeps s0 s) :
    Keeps s0 (raiseCal b s) := by
  unfold raiseCal
  repeat' first
    | with_reducible assumption | with_reducible apply raiseEn_keeps

theorem tmbResult_keeps {s0 : State} (st : Status) (s : State) (hK : Keeps s0 s) :
    Keeps s0 (tmbResult st s) := by
  unfold tmbResult
  repeat' first
    | with_reducible assumption | with_reducible apply State.setF_keeps

theorem calResult_keeps {s0 : State} (st : Status) (s : State) (hK : Keeps s0 s) :
    Keeps s0 (calResult st s) := by
  unfold calResult
  repeat' first
    | with_reducible assumption | with_reducible apply State.setF_keeps

theorem setRef_keeps {s0 : State} (r v : Nat) (s : State) (hK : Keeps s0 s) :
    Keeps s0 (setRef r v s) := by
  unfold setRef
  repeat' first
    | with_reducible assumption | (extract_lets +onlyGivenNames x; have h1 : Keeps s0 x := ?_; clear_value x; rotate_left; subst x)
    | (extract_lets +onlyGivenNames x; subst x) | with_reducible apply State.setF_keeps | with_reducible apply setTim_keeps
    | with_reducible apply Keeps.ite | split | with_reducible refine Keeps.upd ?_ rfl rfl rfl rfl rfl rfl

theorem setTb_keeps {s0 : State} (v : Nat) (s : State) (hK : Keeps s0 s) :
    Keeps s0 (setTb v s) := by
  unfold setTb
  repeat' first
    | with_reducible assumption | with_reducible apply State.setF_keeps

theorem stepCounter_keeps {s0 : State} (d : Int) (s : State) (hK : Keeps s0 s) :
    Keeps s0 (stepCounter d s) := by
  unfold stepCounter
  repeat' first
    | with_reducible assumption | intro _ | (extract_lets +onlyGivenNames x; have h1 : Keeps s0 x := ?_; clear_value x; rotate_left; subst x)
    | (extract_lets +onlyGivenNames x; subst x) | with_reducible apply State.setReg_keeps | with_reducible apply amoStarve_keeps
    | with_reducible apply genUnlock_keeps | with_reducible apply raiseTmb_keeps | with_reducible apply foldl_keeps | with_reducible apply Keeps.ite
    | split | with_reducible refine Keeps.upd ?_ rfl rfl rfl rfl rfl rfl

theorem setUser_keeps {s0 : State} (item w : Nat) (v : Word) (s : State) (hK : Keeps s0 s) :
    Keeps s0 (setUser item w v s) := by
  unfold setUser
  repeat' first
    | with_reducible assumption | with_reducible apply State.setReg_keeps

theorem setBinValid_keeps {s0 : State} (b : Nat) (v : Bool) (s : State) (hK : Keeps s0 s) :
    Keeps s0 (setBinValid b v s) := by
  unfold setBinValid
  repeat' first
    | with_reducible assumption | with_reducible apply State.setBit_keeps

theorem refreshHoldCal_keeps {s0 : State} (s : State) (hK : Keeps s0 s) :
    Keeps s0 (refreshHoldCal s) := by
  unfold refreshHoldCal
  repeat' first
    | with_reducible assumption | (extract_lets +onlyGivenNames x; have h1 : Keeps s0 x := ?_; clear_value x; rotate_left; subst x)
    | (extract_lets +onlyGivenNames x; subst x) | with_reducible apply State.setBit_keeps

theorem freeRate_keeps {s0 : State} (s : State) (hK : Keeps s0 s) :
    Keeps s0 (freeRate s) := by
  unfold freeRate
  repeat' first
    | with_reducible assumption | with_reducible apply State.setReg_keeps

theorem refreshCal_keeps {s0 : State} (s : State) (hK : Keeps s0 s) :
    Keeps s0 (refreshCal s) := by
  unfold refreshCal
  repeat' first
    | with_reducible assumption | with_reducible apply State.setBit_keeps

theorem endCal_keeps {s0 : State} (r : CalRun) (st : Status) (s : State) (hK : Keeps s0 s) :
    Keeps s0 (endCal r st s) := by
  unfold endCal
  repeat' first
    | with_reducible assumption | intro _ | (extract_lets +onlyGivenNames x; have h1 : Keeps s0 x := ?_; clear_value x; rotate_left; subst x)
    | (extract_lets +onlyGivenNames x; subst x) | with_reducible apply State.setF_keeps | with_reducible apply State.bump_keeps
    | with_reducible apply complete_keeps | with_reducible apply setTim_keeps | with_reducible apply raiseCal_keeps
    | with_reducible apply calResult_keeps | with_reducible apply refreshCal_keeps | with_reducible apply Keeps.ite | split
    | with_reducible refine Keeps.upd ?_ rfl rfl rfl rfl rfl rfl

theorem disturbCal_keeps {s0 : State} (p : CalRun → Bool) (s : State) (hK : Keeps s0 s) :
    Keeps s0 (disturbCal p s) := by
  unfold disturbCal
  repeat' first
    | with_reducible assumption | intro _ | with_reducible apply endCal_keeps | with_reducible apply foldl_keeps

theorem abortCal_keeps {s0 : State} (s : State) (hK : Keeps s0 s) :
    Keeps s0 (abortCal s) := by
  unfold abortCal
  repeat' first
    | with_reducible assumption | intro _ | (extract_lets +onlyGivenNames x; have h1 : Keeps s0 x := ?_; clear_value x; rotate_left; subst x)
    | (extract_lets +onlyGivenNames x; subst x) | with_reducible apply complete_keeps | with_reducible apply setTim_keeps
    | with_reducible apply refreshCal_keeps | with_reducible apply foldl_keeps | with_reducible apply Keeps.ite | split
    | with_reducible refine Keeps.upd ?_ rfl rfl rfl rfl rfl rfl

theorem selectRef_keeps {s0 : State} (r : Nat) (s : State) (hK : Keeps s0 s) :
    Keeps s0 (selectRef r s) := by
  unfold selectRef
  repeat' first
    | with_reducible assumption | intro _ | (extract_lets +onlyGivenNames x; have h1 : Keeps s0 x := ?_; clear_value x; rotate_left; subst x)
    | (extract_lets +onlyGivenNames x; subst x) | with_reducible apply State.setF_keeps | with_reducible apply setTim_keeps
    | with_reducible apply raiseTmb_keeps | with_reducible apply setRef_keeps | with_reducible apply setTb_keeps
    | with_reducible apply refreshHoldCal_keeps | with_reducible apply disturbCal_keeps | with_reducible apply Keeps.ite | split
    | with_reducible refine Keeps.upd ?_ rfl rfl rfl rfl rfl rfl

theorem setRate_keeps {s0 : State} (v : Word) (s : State) (hK : Keeps s0 s) :
    Keeps s0 (setRate v s) := by
  unfold setRate
  repeat' first
    | with_reducible assumption | intro _ | (extract_lets +onlyGivenNames x; have h1 : Keeps s0 x := ?_; clear_value x; rotate_left; subst x)
    | (extract_lets +onlyGivenNames x; subst x) | with_reducible apply State.setReg_keeps | with_reducible apply setTim_keeps
    | with_reducible apply Keeps.ite | split | with_reducible refine Keeps.upd ?_ rfl rfl rfl rfl rfl rfl

theorem enterHoldover_keeps {s0 : State} (s : State) (hK : Keeps s0 s) :
    Keeps s0 (enterHoldover s) := by
  unfold enterHoldover
  repeat' first
    | with_reducible assumption | (extract_lets +onlyGivenNames x; have h1 : Keeps s0 x := ?_; clear_value x; rotate_left; subst x)
    | (extract_lets +onlyGivenNames x; subst x) | with_reducible apply State.setReg_keeps | with_reducible apply State.setF_keeps
    | with_reducible apply State.setBit_keeps | with_reducible apply alert_keeps | with_reducible apply setTim_keeps
    | with_reducible apply raiseTmb_keeps | with_reducible apply setTb_keeps | with_reducible refine Keeps.upd ?_ rfl rfl rfl rfl rfl rfl

theorem reselect_keeps {s0 : State} (s : State) (hK : Keeps s0 s) :
    Keeps s0 (reselect s) := by
  unfold reselect
  repeat' first
    | with_reducible assumption | intro _ | with_reducible apply State.setF_keeps | with_reducible apply disturbCal_keeps
    | with_reducible apply selectRef_keeps | with_reducible apply enterHoldover_keeps | with_reducible apply Keeps.ite | split
    | with_reducible refine Keeps.upd ?_ rfl rfl rfl rfl rfl rfl

theorem refGone_keeps {s0 : State} (r v : Nat) (s : State) (hK : Keeps s0 s) :
    Keeps s0 (refGone r v s) := by
  unfold refGone
  repeat' first
    | with_reducible assumption | (extract_lets +onlyGivenNames x; have h1 : Keeps s0 x := ?_; clear_value x; rotate_left; subst x)
    | (extract_lets +onlyGivenNames x; subst x) | with_reducible apply raiseTmb_keeps | with_reducible apply setRef_keeps
    | with_reducible apply reselect_keeps | with_reducible apply Keeps.ite | split

theorem doRefLost_keeps {s0 : State} (r : Nat) (s : State) (hK : Keeps s0 s) :
    Keeps s0 (doRefLost r s) := by
  unfold doRefLost
  repeat' first
    | with_reducible assumption | (extract_lets +onlyGivenNames x; have h1 : Keeps s0 x := ?_; clear_value x; rotate_left; subst x)
    | (extract_lets +onlyGivenNames x; subst x) | with_reducible apply State.setBit_keeps | with_reducible apply setTim_keeps
    | with_reducible apply refGone_keeps | with_reducible apply Keeps.ite | split | with_reducible refine Keeps.upd ?_ rfl rfl rfl rfl rfl rfl

theorem doRefReady_keeps {s0 : State} (r : Nat) (s : State) (hK : Keeps s0 s) :
    Keeps s0 (doRefReady r s) := by
  unfold doRefReady
  repeat' first
    | with_reducible assumption | (extract_lets +onlyGivenNames x; have h1 : Keeps s0 x := ?_; clear_value x; rotate_left; subst x)
    | (extract_lets +onlyGivenNames x; subst x) | with_reducible apply raiseTmb_keeps | with_reducible apply setRef_keeps
    | with_reducible apply selectRef_keeps | with_reducible apply Keeps.ite | split

theorem doHoldoffExpiry_keeps {s0 : State} (r : Nat) (s : State) (hK : Keeps s0 s) :
    Keeps s0 (doHoldoffExpiry r s) := by
  unfold doHoldoffExpiry
  repeat' first
    | with_reducible assumption | with_reducible apply selectRef_keeps | with_reducible apply Keeps.ite | split

theorem refSeen_keeps {s0 : State} (r : Nat) (rateOk : Bool) (s : State) (hK : Keeps s0 s) :
    Keeps s0 (refSeen r rateOk s) := by
  unfold refSeen
  repeat' first
    | with_reducible assumption | with_reducible apply setRef_keeps | with_reducible apply Keeps.ite | split
    | with_reducible refine Keeps.upd ?_ rfl rfl rfl rfl rfl rfl

theorem lockCount_keeps {s0 : State} (off : Int) (first : Bool) (s : State) (hK : Keeps s0 s) :
    Keeps s0 (lockCount off first s) := by
  unfold lockCount
  repeat' first
    | with_reducible assumption | (extract_lets +onlyGivenNames x; have h1 : Keeps s0 x := ?_; clear_value x; rotate_left; subst x)
    | (extract_lets +onlyGivenNames x; subst x) | with_reducible apply setTim_keeps | with_reducible apply raiseTmb_keeps
    | with_reducible apply setTb_keeps | with_reducible apply Keeps.ite | split | with_reducible refine Keeps.upd ?_ rfl rfl rfl rfl rfl rfl

theorem removeOffset_keeps {s0 : State} (off : Int) (first : Bool) (s : State) (hK : Keeps s0 s) :
    Keeps s0 (removeOffset off first s) := by
  unfold removeOffset
  repeat' first
    | with_reducible assumption | (extract_lets +onlyGivenNames x; have h1 : Keeps s0 x := ?_; clear_value x; rotate_left; subst x)
    | (extract_lets +onlyGivenNames x; subst x) | with_reducible apply State.setBit_keeps | with_reducible apply State.draw_keeps
    | with_reducible apply setTim_keeps | with_reducible apply stepCounter_keeps | with_reducible apply setRate_keeps | with_reducible apply Keeps.ite
    | split | with_reducible refine Keeps.upd ?_ rfl rfl rfl rfl rfl rfl

theorem measure_keeps {s0 : State} (r : Nat) (raw : Int) (rateOk : Bool) (s : State) (hK : Keeps s0 s) :
    Keeps s0 (measure r raw rateOk s) := by
  unfold measure
  repeat' first
    | with_reducible assumption | (extract_lets +onlyGivenNames x; have h1 : Keeps s0 x := ?_; clear_value x; rotate_left; subst x)
    | (extract_lets +onlyGivenNames x; subst x) | with_reducible apply State.setReg_keeps | with_reducible apply refSeen_keeps
    | with_reducible apply lockCount_keeps | with_reducible apply removeOffset_keeps | with_reducible apply Keeps.ite | split

theorem applyTod_keeps {s0 : State} (v : Nat) (s : State) (hK : Keeps s0 s) :
    Keeps s0 (applyTod v s) := by
  unfold applyTod
  repeat' first
    | with_reducible assumption | with_reducible apply State.setBit_keeps | with_reducible apply stepCounter_keeps

theorem todCtrlWrite_keeps {s0 : State} (v : Word) (s : State) (hK : Keeps s0 s) :
    Keeps s0 (todCtrlWrite v s) := by
  unfold todCtrlWrite
  repeat' first
    | with_reducible assumption | (extract_lets +onlyGivenNames x; have h1 : Keeps s0 x := ?_; clear_value x; rotate_left; subst x)
    | (extract_lets +onlyGivenNames x; subst x) | with_reducible apply State.setBit_keeps | with_reducible apply tmbResult_keeps
    | with_reducible apply applyTod_keeps | with_reducible apply Keeps.ite | split

theorem doTodArm_keeps {s0 : State} (m : Master) (v : Word) (s : State) (hK : Keeps s0 s) :
    Keeps s0 (doTodArm m v s) := by
  unfold doTodArm
  repeat' first
    | with_reducible assumption | intro _ | with_reducible apply gatedWrite_keeps | with_reducible apply todCtrlWrite_keeps

theorem doPpsEdge_keeps {s0 : State} (obs : RefObs) (s : State) (hK : Keeps s0 s) :
    Keeps s0 (doPpsEdge obs s) := by
  unfold doPpsEdge
  repeat' first
    | with_reducible assumption | (extract_lets +onlyGivenNames x; have h1 : Keeps s0 x := ?_; clear_value x; rotate_left; subst x)
    | (extract_lets +onlyGivenNames x; subst x) | with_reducible apply measure_keeps | with_reducible apply applyTod_keeps
    | with_reducible apply Keeps.ite | split

theorem doRefSyncFrame_keeps {s0 : State} (entry rate : Nat) (blackBurst : Bool) (obs : RefObs) (s : State) (hK : Keeps s0 s) :
    Keeps s0 (doRefSyncFrame entry rate blackBurst obs s) := by
  unfold doRefSyncFrame
  repeat' first
    | with_reducible assumption | (extract_lets +onlyGivenNames x; have h1 : Keeps s0 x := ?_; clear_value x; rotate_left; subst x)
    | (extract_lets +onlyGivenNames x; subst x) | with_reducible apply State.setReg_keeps | with_reducible apply refGone_keeps
    | with_reducible apply measure_keeps | with_reducible apply applyTod_keeps | with_reducible apply Keeps.ite | split

theorem newParent_keeps {s0 : State} (n : Nat) (s : State) (hK : Keeps s0 s) :
    Keeps s0 (newParent n s) := by
  unfold newParent
  repeat' first
    | with_reducible assumption | intro _ | (extract_lets +onlyGivenNames x; have h1 : Keeps s0 x := ?_; clear_value x; rotate_left; subst x)
    | (extract_lets +onlyGivenNames x; subst x) | with_reducible apply setTim_keeps | with_reducible apply raiseTmb_keeps
    | with_reducible apply disturbCal_keeps | with_reducible apply Keeps.ite | split | with_reducible refine Keeps.upd ?_ rfl rfl rfl rfl rfl rfl

theorem doPtpMessageRx_keeps {s0 : State} (n : Nat) (msg : PtpMessage) (s : State) (hK : Keeps s0 s) :
    Keeps s0 (doPtpMessageRx n msg s) := by
  unfold doPtpMessageRx
  repeat' first
    | with_reducible assumption | (extract_lets +onlyGivenNames x; have h1 : Keeps s0 x := ?_; clear_value x; rotate_left; subst x)
    | (extract_lets +onlyGivenNames x; subst x) | with_reducible apply setTim_keeps | with_reducible apply measure_keeps
    | with_reducible apply newParent_keeps | with_reducible apply Keeps.ite | split | with_reducible refine Keeps.upd ?_ rfl rfl rfl rfl rfl rfl

theorem doDelayReq_keeps {s0 : State} (n : Nat) (s : State) (hK : Keeps s0 s) :
    Keeps s0 (doDelayReq n s) := by
  unfold doDelayReq
  repeat' first
    | with_reducible assumption | (extract_lets +onlyGivenNames x; have h1 : Keeps s0 x := ?_; clear_value x; rotate_left; subst x)
    | (extract_lets +onlyGivenNames x; subst x) | with_reducible apply State.draw_keeps | with_reducible apply sendIp_keeps
    | with_reducible apply setTim_keeps | with_reducible apply Keeps.ite | split | with_reducible refine Keeps.upd ?_ rfl rfl rfl rfl rfl rfl

theorem newBin_keeps {s0 : State} (b : Nat) (s : State) (hK : Keeps s0 s) :
    Keeps s0 (newBin b s) := by
  unfold newBin
  repeat' first
    | with_reducible assumption | intro _ | (extract_lets +onlyGivenNames x; have h1 : Keeps s0 x := ?_; clear_value x; rotate_left; subst x)
    | (extract_lets +onlyGivenNames x; subst x) | with_reducible apply State.setReg_keeps | with_reducible apply fidEvent_keeps
    | with_reducible apply setTim_keeps | with_reducible apply refreshHoldCal_keeps | with_reducible apply freeRate_keeps
    | with_reducible apply disturbCal_keeps | with_reducible apply Keeps.ite | split | with_reducible refine Keeps.upd ?_ rfl rfl rfl rfl rfl rfl

theorem overTemp_keeps {s0 : State} (tenths : Int) (s : State) (hK : Keeps s0 s) :
    Keeps s0 (overTemp tenths s) := by
  unfold overTemp
  repeat' first
    | with_reducible assumption | (extract_lets +onlyGivenNames x; have h1 : Keeps s0 x := ?_; clear_value x; rotate_left; subst x)
    | (extract_lets +onlyGivenNames x; subst x) | with_reducible apply raiseEn_keeps | with_reducible apply alert_keeps
    | with_reducible apply setPwr_keeps | with_reducible apply Keeps.ite | split | with_reducible refine Keeps.upd ?_ rfl rfl rfl rfl rfl rfl

theorem doTempSample_keeps {s0 : State} (tenths : Int) (s : State) (hK : Keeps s0 s) :
    Keeps s0 (doTempSample tenths s) := by
  unfold doTempSample
  repeat' first
    | with_reducible assumption | (extract_lets +onlyGivenNames x; have h1 : Keeps s0 x := ?_; clear_value x; rotate_left; subst x)
    | (extract_lets +onlyGivenNames x; subst x) | with_reducible apply State.setReg_keeps | with_reducible apply newBin_keeps
    | with_reducible apply overTemp_keeps | with_reducible apply Keeps.ite | split

theorem startCal_keeps {s0 : State} (r : CalRun) (vcalOk : Bool) (s : State) (hK : Keeps s0 s) :
    Keeps s0 (startCal r vcalOk s) := by
  unfold startCal
  repeat' first
    | with_reducible assumption | (extract_lets +onlyGivenNames x; have h1 : Keeps s0 x := ?_; clear_value x; rotate_left; subst x)
    | (extract_lets +onlyGivenNames x; subst x) | with_reducible apply setTim_keeps | with_reducible apply refreshCal_keeps
    | with_reducible apply endCal_keeps | with_reducible apply Keeps.ite | split | with_reducible refine Keeps.upd ?_ rfl rfl rfl rfl rfl rfl

theorem doCalRun_keeps {s0 : State} (o : Origin) (item strand : Nat) (vcalOk : Bool) (s : State) (hK : Keeps s0 s) :
    Keeps s0 (doCalRun o item strand vcalOk s) := by
  unfold doCalRun
  repeat' first
    | with_reducible assumption | intro _ | with_reducible apply mailbox_keeps | with_reducible apply loneCommand_keeps
    | with_reducible apply startCal_keeps

theorem doBgCalStart_keeps {s0 : State} (item index : Nat) (vcalOk : Bool) (s : State) (hK : Keeps s0 s) :
    Keeps s0 (doBgCalStart item index vcalOk s) := by
  unfold doBgCalStart
  repeat' first
    | with_reducible assumption | (extract_lets +onlyGivenNames x; have h1 : Keeps s0 x := ?_; clear_value x; rotate_left; subst x)
    | (extract_lets +onlyGivenNames x; subst x) | with_reducible apply setTim_keeps | with_reducible apply startCal_keeps
    | with_reducible apply Keeps.ite | split | with_reducible refine Keeps.upd ?_ rfl rfl rfl rfl rfl rfl

theorem calWritten_keeps {s0 : State} (r : CalRun) (v : Word) (s : State) (hK : Keeps s0 s) :
    Keeps s0 (calWritten r v s) := by
  unfold calWritten
  repeat' first
    | with_reducible assumption | (extract_lets +onlyGivenNames x; have h1 : Keeps s0 x := ?_; clear_value x; rotate_left; subst x)
    | (extract_lets +onlyGivenNames x; subst x) | with_reducible apply setTim_keeps | with_reducible apply setUser_keeps
    | with_reducible apply setBinValid_keeps | with_reducible apply refreshHoldCal_keeps | with_reducible apply endCal_keeps
    | with_reducible apply Keeps.ite | split | with_reducible refine Keeps.upd ?_ rfl rfl rfl rfl rfl rfl

theorem doCalDone_keeps {s0 : State} (item index : Nat) (obs : CalObs) (s : State) (hK : Keeps s0 s) :
    Keeps s0 (doCalDone item index obs s) := by
  unfold doCalDone
  repeat' first
    | with_reducible assumption | with_reducible apply State.draw_keeps | with_reducible apply endCal_keeps | with_reducible apply calWritten_keeps
    | with_reducible apply Keeps.ite | split | with_reducible refine Keeps.upd ?_ rfl rfl rfl rfl rfl rfl

theorem doCalStore_keeps {s0 : State} (o : Origin) (s : State) (hK : Keeps s0 s) :
    Keeps s0 (doCalStore o s) := by
  unfold doCalStore
  repeat' first
    | with_reducible assumption | intro _ | with_reducible apply writeRecord_keeps | with_reducible apply mailbox_keeps
    | with_reducible apply loneCommand_keeps

theorem doAutoStore_keeps {s0 : State} (s : State) (hK : Keeps s0 s) :
    Keeps s0 (doAutoStore s) := by
  unfold doAutoStore
  repeat' first
    | with_reducible assumption | (extract_lets +onlyGivenNames x; have h1 : Keeps s0 x := ?_; clear_value x; rotate_left; subst x)
    | (extract_lets +onlyGivenNames x; subst x) | with_reducible apply writeRecord_keeps | with_reducible apply setTim_keeps
    | with_reducible apply Keeps.ite | split | with_reducible refine Keeps.upd ?_ rfl rfl rfl rfl rfl rfl

theorem applyCal_keeps {s0 : State} (x : RecCopy) (s : State) (hK : Keeps s0 s) :
    Keeps s0 (applyCal x s) := by
  unfold applyCal
  repeat' first
    | with_reducible assumption | intro _ | (extract_lets +onlyGivenNames x; have h1 : Keeps s0 x := ?_; clear_value x; rotate_left; subst x)
    | (extract_lets +onlyGivenNames x; subst x) | with_reducible apply State.setReg_keeps | with_reducible apply setUser_keeps
    | with_reducible apply setBinValid_keeps | with_reducible apply foldl_keeps

theorem loadCal_keeps {s0 : State} (s : State) (hK : Keeps s0 s) :
    Keeps s0 (loadCal s) := by
  unfold loadCal
  repeat' first
    | with_reducible assumption | (extract_lets +onlyGivenNames x; have h1 : Keeps s0 x := ?_; clear_value x; rotate_left; subst x)
    | (extract_lets +onlyGivenNames x; subst x) | with_reducible apply State.setBit_keeps | with_reducible apply logBit_keeps
    | with_reducible apply setTim_keeps | with_reducible apply raiseCal_keeps | with_reducible apply refreshHoldCal_keeps
    | with_reducible apply freeRate_keeps | with_reducible apply applyCal_keeps | with_reducible apply Keeps.ite | split
    | with_reducible refine Keeps.upd ?_ rfl rfl rfl rfl rfl rfl

theorem timeSleep_keeps {s0 : State} (s : State) (hK : Keeps s0 s) :
    Keeps s0 (timeSleep s) := by
  unfold timeSleep
  repeat' first
    | with_reducible assumption | (extract_lets +onlyGivenNames x; have h1 : Keeps s0 x := ?_; clear_value x; rotate_left; subst x)
    | (extract_lets +onlyGivenNames x; subst x) | with_reducible apply State.draw_keeps | with_reducible apply setTim_keeps
    | with_reducible refine Keeps.upd ?_ rfl rfl rfl rfl rfl rfl

theorem timeWake_keeps {s0 : State} (s : State) (hK : Keeps s0 s) :
    Keeps s0 (timeWake s) := by
  unfold timeWake
  repeat' first
    | with_reducible assumption | intro _ | (extract_lets +onlyGivenNames x; have h1 : Keeps s0 x := ?_; clear_value x; rotate_left; subst x)
    | (extract_lets +onlyGivenNames x; subst x) | with_reducible apply State.setF_keeps | with_reducible apply State.setBit_keeps
    | with_reducible apply alert_keeps | with_reducible apply setTim_keeps | with_reducible apply raiseTmb_keeps | with_reducible apply setRef_keeps
    | with_reducible apply setTb_keeps | with_reducible apply foldl_keeps | with_reducible apply Keeps.ite | split
    | with_reducible refine Keeps.upd ?_ rfl rfl rfl rfl rfl rfl

theorem prioChanged_keeps {s0 : State} (s : State) (hK : Keeps s0 s) :
    Keeps s0 (prioChanged s) := by
  unfold prioChanged
  repeat' first
    | with_reducible assumption | intro _ | with_reducible apply setRef_keeps | with_reducible apply refGone_keeps | with_reducible apply foldl_keeps
    | with_reducible apply Keeps.ite | split

theorem tmbWrite_keeps {s0 : State} (l : Loc) (a : Nat) (v : Word) (s : State) (hK : Keeps s0 s) :
    Keeps s0 (tmbWrite l a v s) := by
  unfold tmbWrite
  repeat' first
    | with_reducible assumption | (extract_lets +onlyGivenNames x; have h1 : Keeps s0 x := ?_; clear_value x; rotate_left; subst x)
    | (extract_lets +onlyGivenNames x; subst x) | with_reducible apply State.setReg_keeps | with_reducible apply plainWrite_keeps
    | with_reducible apply tmbResult_keeps | with_reducible apply calResult_keeps | with_reducible apply todCtrlWrite_keeps
    | with_reducible apply prioChanged_keeps | with_reducible apply Keeps.ite | split

theorem userWrite_keeps {s0 : State} (item index w : Nat) (v : Word) (s : State) (hK : Keeps s0 s) :
    Keeps s0 (userWrite item index w v s) := by
  unfold userWrite
  repeat' first
    | with_reducible assumption | intro _ | (extract_lets +onlyGivenNames x; have h1 : Keeps s0 x := ?_; clear_value x; rotate_left; subst x)
    | (extract_lets +onlyGivenNames x; subst x) | with_reducible apply tmbResult_keeps | with_reducible apply calResult_keeps
    | with_reducible apply setUser_keeps | with_reducible apply freeRate_keeps | with_reducible apply Keeps.ite | split


/-! Strand -/

theorem applyStrandCfg_keeps {s0 : State} (c : StrandEntry) (s : State) (hK : Keeps s0 s) :
    Keeps s0 (applyStrandCfg c s) := by
  unfold applyStrandCfg
  repeat' first
    | with_reducible assumption | intro _ | (extract_lets +onlyGivenNames x; have h1 : Keeps s0 x := ?_; clear_value x; rotate_left; subst x)
    | (extract_lets +onlyGivenNames x; subst x) | with_reducible apply State.setReg_keeps | with_reducible apply State.setF_keeps
    | with_reducible apply foldl_keeps

theorem dpForget_keeps {s0 : State} (c : StrandEntry) (s : State) (hK : Keeps s0 s) :
    Keeps s0 (dpForget c s) := by
  unfold dpForget
  repeat' first
    | with_reducible assumption | intro _ | (extract_lets +onlyGivenNames x; have h1 : Keeps s0 x := ?_; clear_value x; rotate_left; subst x)
    | (extract_lets +onlyGivenNames x; subst x) | with_reducible apply setStrand_keeps | with_reducible apply Keeps.ite | split
    | with_reducible refine Keeps.upd ?_ rfl rfl rfl rfl rfl rfl

theorem dropFormat_keeps {s0 : State} (k : Nat) (s : State) (hK : Keeps s0 s) :
    Keeps s0 (dropFormat k s) := by
  unfold dropFormat
  repeat' first
    | with_reducible assumption | (extract_lets +onlyGivenNames x; have h1 : Keeps s0 x := ?_; clear_value x; rotate_left; subst x)
    | (extract_lets +onlyGivenNames x; subst x) | with_reducible refine Keeps.upd ?_ rfl rfl rfl rfl rfl rfl

theorem putFormat_keeps {s0 : State} (k : Nat) (f : Format) (s : State) (hK : Keeps s0 s) :
    Keeps s0 (putFormat k f s) := by
  unfold putFormat
  repeat' first
    | with_reducible assumption | (extract_lets +onlyGivenNames x; have h1 : Keeps s0 x := ?_; clear_value x; rotate_left; subst x)
    | (extract_lets +onlyGivenNames x; subst x) | with_reducible refine Keeps.upd ?_ rfl rfl rfl rfl rfl rfl

theorem loseDecoder_keeps {s0 : State} (l : Nat) (s : State) (hK : Keeps s0 s) :
    Keeps s0 (loseDecoder l s) := by
  unfold loseDecoder
  repeat' first
    | with_reducible assumption | intro _ | (extract_lets +onlyGivenNames x; have h1 : Keeps s0 x := ?_; clear_value x; rotate_left; subst x)
    | (extract_lets +onlyGivenNames x; subst x) | with_reducible apply State.setReg_keeps | with_reducible apply State.setBit_keeps
    | with_reducible apply setPresent_keeps | with_reducible apply setAmiPresent_keeps | with_reducible apply dropFormat_keeps
    | with_reducible apply foldl_keeps | with_reducible refine Keeps.upd ?_ rfl rfl rfl rfl rfl rfl

theorem tautRefresh_keeps {s0 : State} (n : Nat) (s : State) (hK : Keeps s0 s) :
    Keeps s0 (tautRefresh n s) := by
  unfold tautRefresh
  repeat' first
    | with_reducible assumption | intro _ | with_reducible apply State.setBit_keeps | with_reducible apply txRefresh_keeps
    | with_reducible apply foldl_keeps

theorem stopFeed_keeps {s0 : State} (n : Nat) (s : State) (hK : Keeps s0 s) :
    Keeps s0 (stopFeed n s) := by
  unfold stopFeed
  repeat' first
    | with_reducible assumption | intro _ | (extract_lets +onlyGivenNames x; have h1 : Keeps s0 x := ?_; clear_value x; rotate_left; subst x)
    | (extract_lets +onlyGivenNames x; subst x) | with_reducible apply setStrand_keeps | with_reducible apply endSets_keeps
    | with_reducible apply tautRefresh_keeps | with_reducible apply Keeps.ite | split | with_reducible refine Keeps.upd ?_ rfl rfl rfl rfl rfl rfl

theorem eyeAbort_keeps {s0 : State} (n : Nat) (s : State) (hK : Keeps s0 s) :
    Keeps s0 (eyeAbort n s) := by
  unfold eyeAbort
  repeat' first
    | with_reducible assumption | (extract_lets +onlyGivenNames x; have h1 : Keeps s0 x := ?_; clear_value x; rotate_left; subst x)
    | (extract_lets +onlyGivenNames x; subst x) | with_reducible apply State.setReg_keeps | with_reducible apply State.draw_keeps
    | with_reducible apply setStrand_keeps | with_reducible apply raiseStrand_keeps | with_reducible apply Keeps.ite | split
    | with_reducible refine Keeps.upd ?_ rfl rfl rfl rfl rfl rfl

theorem enterSync_keeps {s0 : State} (n : Nat) (s : State) (hK : Keeps s0 s) :
    Keeps s0 (enterSync n s) := by
  unfold enterSync
  repeat' first
    | with_reducible assumption | (extract_lets +onlyGivenNames x; have h1 : Keeps s0 x := ?_; clear_value x; rotate_left; subst x)
    | (extract_lets +onlyGivenNames x; subst x) | with_reducible apply setStrand_keeps | with_reducible apply setRx_keeps
    | with_reducible refine Keeps.upd ?_ rfl rfl rfl rfl rfl rfl

theorem leaveUp_keeps {s0 : State} (n : Nat) (r : Rx) (s : State) (hK : Keeps s0 s) :
    Keeps s0 (leaveUp n r s) := by
  unfold leaveUp
  repeat' first
    | with_reducible assumption | intro _ | (extract_lets +onlyGivenNames x; have h1 : Keeps s0 x := ?_; clear_value x; rotate_left; subst x)
    | (extract_lets +onlyGivenNames x; subst x) | with_reducible apply State.setBit_keeps | with_reducible apply setRx_keeps
    | with_reducible apply raiseStrand_keeps | with_reducible apply loseDecoder_keeps | with_reducible apply eyeAbort_keeps
    | with_reducible apply enterSync_keeps | with_reducible apply foldl_keeps | with_reducible apply Keeps.ite | split

theorem stopRx_keeps {s0 : State} (n : Nat) (s : State) (hK : Keeps s0 s) :
    Keeps s0 (stopRx n s) := by
  unfold stopRx
  repeat' first
    | with_reducible assumption | (extract_lets +onlyGivenNames x; have h1 : Keeps s0 x := ?_; clear_value x; rotate_left; subst x)
    | (extract_lets +onlyGivenNames x; subst x) | with_reducible apply State.setBit_keeps | with_reducible apply setRx_keeps
    | with_reducible apply stopFeed_keeps | with_reducible apply leaveUp_keeps | with_reducible apply Keeps.ite | split

theorem startRx_keeps {s0 : State} (n : Nat) (s : State) (hK : Keeps s0 s) :
    Keeps s0 (startRx n s) := by
  unfold startRx
  repeat' first
    | with_reducible assumption | with_reducible apply setRx_keeps | with_reducible apply Keeps.ite | split

theorem releaseStrand_keeps {s0 : State} (n : Nat) (s : State) (hK : Keeps s0 s) :
    Keeps s0 (releaseStrand n s) := by
  unfold releaseStrand
  repeat' first
    | with_reducible assumption | (extract_lets +onlyGivenNames x; have h1 : Keeps s0 x := ?_; clear_value x; rotate_left; subst x)
    | (extract_lets +onlyGivenNames x; subst x) | with_reducible apply State.setBit_keeps | with_reducible apply setStrand_keeps
    | with_reducible apply bightRefresh_keeps | with_reducible apply Keeps.ite | split | with_reducible refine Keeps.upd ?_ rfl rfl rfl rfl rfl rfl

theorem releaseAll_keeps {s0 : State} (s : State) (hK : Keeps s0 s) :
    Keeps s0 (releaseAll s) := by
  unfold releaseAll
  repeat' first
    | with_reducible assumption | intro _ | with_reducible apply releaseStrand_keeps | with_reducible apply foldl_keeps

theorem earlyCheck_keeps {s0 : State} (s : State) (hK : Keeps s0 s) :
    Keeps s0 (earlyCheck s) := by
  unfold earlyCheck
  repeat' first
    | with_reducible assumption | intro _ | (extract_lets +onlyGivenNames x; have h1 : Keeps s0 x := ?_; clear_value x; rotate_left; subst x)
    | (extract_lets +onlyGivenNames x; subst x) | with_reducible apply State.setReg_keeps | with_reducible apply raiseEn_keeps
    | with_reducible apply setPwr_keeps | with_reducible apply Keeps.ite | split | with_reducible refine Keeps.upd ?_ rfl rfl rfl rfl rfl rfl

theorem eqInForce_keeps {s0 : State} (n : Nat) (s : State) (hK : Keeps s0 s) :
    Keeps s0 (eqInForce n s) := by
  unfold eqInForce
  repeat' first
    | with_reducible assumption | (extract_lets +onlyGivenNames x; have h1 : Keeps s0 x := ?_; clear_value x; rotate_left; subst x)
    | (extract_lets +onlyGivenNames x; subst x) | with_reducible apply State.setReg_keeps | with_reducible apply State.setF_keeps
    | with_reducible apply State.draw_keeps | with_reducible apply setStrand_keeps | with_reducible apply Keeps.ite | split
    | with_reducible refine Keeps.upd ?_ rfl rfl rfl rfl rfl rfl

theorem earlyMake_keeps {s0 : State} (s : State) (hK : Keeps s0 s) :
    Keeps s0 (earlyMake s) := by
  unfold earlyMake
  repeat' first
    | with_reducible assumption | intro _ | (extract_lets +onlyGivenNames x; have h1 : Keeps s0 x := ?_; clear_value x; rotate_left; subst x)
    | (extract_lets +onlyGivenNames x; subst x) | with_reducible apply setStrand_keeps | with_reducible apply bindNow_keeps
    | with_reducible apply foldl_keeps | with_reducible apply Keeps.ite | split | with_reducible refine Keeps.upd ?_ rfl rfl rfl rfl rfl rfl

theorem startPrbs_keeps {s0 : State} (n : Nat) (s : State) (hK : Keeps s0 s) :
    Keeps s0 (startPrbs n s) := by
  unfold startPrbs
  repeat' first
    | with_reducible assumption | (extract_lets +onlyGivenNames x; have h1 : Keeps s0 x := ?_; clear_value x; rotate_left; subst x)
    | (extract_lets +onlyGivenNames x; subst x) | with_reducible apply setStrand_keeps | with_reducible apply Keeps.ite | split
    | with_reducible refine Keeps.upd ?_ rfl rfl rfl rfl rfl rfl

theorem startErrors_keeps {s0 : State} (n : Nat) (s : State) (hK : Keeps s0 s) :
    Keeps s0 (startErrors n s) := by
  unfold startErrors
  repeat' first
    | with_reducible assumption | (extract_lets +onlyGivenNames x; have h1 : Keeps s0 x := ?_; clear_value x; rotate_left; subst x)
    | (extract_lets +onlyGivenNames x; subst x) | with_reducible apply setStrand_keeps | with_reducible apply Keeps.ite | split
    | with_reducible refine Keeps.upd ?_ rfl rfl rfl rfl rfl rfl

theorem enterUp_keeps {s0 : State} (n : Nat) (s : State) (hK : Keeps s0 s) :
    Keeps s0 (enterUp n s) := by
  unfold enterUp
  repeat' first
    | with_reducible assumption | intro _ | (extract_lets +onlyGivenNames x; have h1 : Keeps s0 x := ?_; clear_value x; rotate_left; subst x)
    | (extract_lets +onlyGivenNames x; subst x) | with_reducible apply State.setReg_keeps | with_reducible apply setStrand_keeps
    | with_reducible apply setRx_keeps | with_reducible apply raiseStrand_keeps | with_reducible apply tautRefresh_keeps
    | with_reducible apply releaseStrand_keeps | with_reducible apply earlyCheck_keeps | with_reducible apply eqInForce_keeps
    | with_reducible apply earlyMake_keeps | with_reducible apply startPrbs_keeps | with_reducible apply startErrors_keeps
    | with_reducible apply Keeps.ite | split | with_reducible refine Keeps.upd ?_ rfl rfl rfl rfl rfl rfl

theorem doSignalDetected_keeps {s0 : State} (n : Nat) (s : State) (hK : Keeps s0 s) :
    Keeps s0 (doSignalDetected n s) := by
  unfold doSignalDetected
  repeat' first
    | with_reducible assumption | (extract_lets +onlyGivenNames x; have h1 : Keeps s0 x := ?_; clear_value x; rotate_left; subst x)
    | (extract_lets +onlyGivenNames x; subst x) | with_reducible apply State.setBit_keeps | with_reducible apply setStrand_keeps
    | with_reducible apply setRx_keeps | with_reducible apply Keeps.ite | split | with_reducible refine Keeps.upd ?_ rfl rfl rfl rfl rfl rfl

theorem doClockLocked_keeps {s0 : State} (n kbps : Nat) (s : State) (hK : Keeps s0 s) :
    Keeps s0 (doClockLocked n kbps s) := by
  unfold doClockLocked
  repeat' first
    | with_reducible assumption | (extract_lets +onlyGivenNames x; have h1 : Keeps s0 x := ?_; clear_value x; rotate_left; subst x)
    | (extract_lets +onlyGivenNames x; subst x) | with_reducible apply State.setF_keeps | with_reducible apply setRx_keeps
    | with_reducible apply Keeps.ite | split

theorem doAdaptConverged_keeps {s0 : State} (n ctle dfe : Nat) (s : State) (hK : Keeps s0 s) :
    Keeps s0 (doAdaptConverged n ctle dfe s) := by
  unfold doAdaptConverged
  repeat' first
    | with_reducible assumption | (extract_lets +onlyGivenNames x; have h1 : Keeps s0 x := ?_; clear_value x; rotate_left; subst x)
    | (extract_lets +onlyGivenNames x; subst x) | with_reducible apply State.setReg_keeps | with_reducible apply enterSync_keeps
    | with_reducible apply eqInForce_keeps | with_reducible apply enterUp_keeps | with_reducible apply Keeps.ite | split

theorem doAdaptFail_keeps {s0 : State} (n : Nat) (s : State) (hK : Keeps s0 s) :
    Keeps s0 (doAdaptFail n s) := by
  unfold doAdaptFail
  repeat' first
    | with_reducible assumption | with_reducible apply State.bump_keeps | with_reducible apply setRx_keeps | with_reducible apply raiseStrand_keeps
    | with_reducible apply eqInForce_keeps | with_reducible apply Keeps.ite | split

theorem doProtoAligned_keeps {s0 : State} (n : Nat) (skew : Int) (s : State) (hK : Keeps s0 s) :
    Keeps s0 (doProtoAligned n skew s) := by
  unfold doProtoAligned
  repeat' first
    | with_reducible assumption | with_reducible apply State.setReg_keeps | with_reducible apply enterUp_keeps | with_reducible apply Keeps.ite
    | split

theorem doSyncFail_keeps {s0 : State} (n : Nat) (s : State) (hK : Keeps s0 s) :
    Keeps s0 (doSyncFail n s) := by
  unfold doSyncFail
  repeat' first
    | with_reducible assumption | (extract_lets +onlyGivenNames x; have h1 : Keeps s0 x := ?_; clear_value x; rotate_left; subst x)
    | (extract_lets +onlyGivenNames x; subst x) | with_reducible apply setStrand_keeps | with_reducible apply raiseStrand_keeps
    | with_reducible apply Keeps.ite | split | with_reducible refine Keeps.upd ?_ rfl rfl rfl rfl rfl rfl

theorem doLos_keeps {s0 : State} (n : Nat) (s : State) (hK : Keeps s0 s) :
    Keeps s0 (doLos n s) := by
  unfold doLos
  repeat' first
    | with_reducible assumption | (extract_lets +onlyGivenNames x; have h1 : Keeps s0 x := ?_; clear_value x; rotate_left; subst x)
    | (extract_lets +onlyGivenNames x; subst x) | with_reducible apply State.setBit_keeps | with_reducible apply State.bump_keeps
    | with_reducible apply setRx_keeps | with_reducible apply raiseStrand_keeps | with_reducible apply stopFeed_keeps
    | with_reducible apply leaveUp_keeps | with_reducible apply Keeps.ite | split | with_reducible refine Keeps.upd ?_ rfl rfl rfl rfl rfl rfl

theorem doProtoLost_keeps {s0 : State} (n : Nat) (s : State) (hK : Keeps s0 s) :
    Keeps s0 (doProtoLost n s) := by
  unfold doProtoLost
  repeat' first
    | with_reducible assumption | (extract_lets +onlyGivenNames x; have h1 : Keeps s0 x := ?_; clear_value x; rotate_left; subst x)
    | (extract_lets +onlyGivenNames x; subst x) | with_reducible apply raiseStrand_keeps | with_reducible apply leaveUp_keeps
    | with_reducible apply Keeps.ite | split

theorem doBraidSkew_keeps {s0 : State} (n : Nat) (s : State) (hK : Keeps s0 s) :
    Keeps s0 (doBraidSkew n s) := by
  unfold doBraidSkew
  repeat' first
    | with_reducible assumption | intro _ | (extract_lets +onlyGivenNames x; have h1 : Keeps s0 x := ?_; clear_value x; rotate_left; subst x)
    | (extract_lets +onlyGivenNames x; subst x) | with_reducible apply raiseStrand_keeps | with_reducible apply leaveUp_keeps
    | with_reducible apply Keeps.ite | split | with_reducible refine Keeps.upd ?_ rfl rfl rfl rfl rfl rfl

theorem doTxPllLocked_keeps {s0 : State} (n : Nat) (s : State) (hK : Keeps s0 s) :
    Keeps s0 (doTxPllLocked n s) := by
  unfold doTxPllLocked
  repeat' first
    | with_reducible assumption | (extract_lets +onlyGivenNames x; have h1 : Keeps s0 x := ?_; clear_value x; rotate_left; subst x)
    | (extract_lets +onlyGivenNames x; subst x) | with_reducible apply setStrand_keeps | with_reducible apply txRefresh_keeps
    | with_reducible apply earlyCheck_keeps | with_reducible apply Keeps.ite | split | with_reducible refine Keeps.upd ?_ rfl rfl rfl rfl rfl rfl

theorem doBightChange_keeps {s0 : State} (k : Nat) (s : State) (hK : Keeps s0 s) :
    Keeps s0 (doBightChange k s) := by
  unfold doBightChange
  repeat' first
    | with_reducible assumption | (extract_lets +onlyGivenNames x; have h1 : Keeps s0 x := ?_; clear_value x; rotate_left; subst x)
    | (extract_lets +onlyGivenNames x; subst x) | with_reducible apply State.setF_keeps | with_reducible apply State.bump_keeps
    | with_reducible apply bightRefresh_keeps | with_reducible apply raiseStrand_keeps | with_reducible apply Keeps.ite | split

theorem bightCtrlWrite_keeps {s0 : State} (k : Nat) (v : Word) (s : State) (hK : Keeps s0 s) :
    Keeps s0 (bightCtrlWrite k v s) := by
  unfold bightCtrlWrite
  repeat' first
    | with_reducible assumption | with_reducible apply State.setBit_keeps | with_reducible apply bightRefresh_keeps

theorem doOpenReq_keeps {s0 : State} (m : Master) (k : Nat) (v : Word) (s : State) (hK : Keeps s0 s) :
    Keeps s0 (doOpenReq m k v s) := by
  unfold doOpenReq
  repeat' first
    | with_reducible assumption | intro _ | with_reducible apply gatedWrite_keeps | with_reducible apply bightCtrlWrite_keeps

theorem prbsCtrlWrite_keeps {s0 : State} (n : Nat) (v : Word) (s : State) (hK : Keeps s0 s) :
    Keeps s0 (prbsCtrlWrite n v s) := by
  unfold prbsCtrlWrite
  repeat' first
    | with_reducible assumption | (extract_lets +onlyGivenNames x; have h1 : Keeps s0 x := ?_; clear_value x; rotate_left; subst x)
    | (extract_lets +onlyGivenNames x; subst x) | with_reducible apply State.setF_keeps | with_reducible apply State.setBit_keeps
    | with_reducible apply txRefresh_keeps | with_reducible apply startPrbs_keeps | with_reducible apply Keeps.ite | split

theorem doInject_keeps {s0 : State} (m : Master) (n : Nat) (v : Word) (s : State) (hK : Keeps s0 s) :
    Keeps s0 (doInject m n v s) := by
  unfold doInject
  repeat' first
    | with_reducible assumption | intro _ | with_reducible apply gatedWrite_keeps | with_reducible apply prbsCtrlWrite_keeps

theorem prbsErrBody_keeps {s0 : State} (n errors bits : Nat) (s : State) (hK : Keeps s0 s) :
    Keeps s0 (prbsErrBody n errors bits s) := by
  unfold prbsErrBody
  repeat' first
    | with_reducible assumption | (extract_lets +onlyGivenNames x; have h1 : Keeps s0 x := ?_; clear_value x; rotate_left; subst x)
    | (extract_lets +onlyGivenNames x; subst x) | with_reducible apply State.setReg_keeps | with_reducible apply State.emit_keeps
    | with_reducible apply setStrand_keeps | with_reducible apply Keeps.ite | split | with_reducible refine Keeps.upd ?_ rfl rfl rfl rfl rfl rfl

theorem doStrPrbsErrRead_keeps {s0 : State} (m : Master) (n errors bits : Nat) (s : State) (hK : Keeps s0 s) :
    Keeps s0 (doStrPrbsErrRead m n errors bits s) := by
  unfold doStrPrbsErrRead
  repeat' first
    | with_reducible assumption | intro _ | with_reducible apply gatedRead_keeps | with_reducible apply prbsErrBody_keeps

theorem eyeCtrlWrite_keeps {s0 : State} (n : Nat) (v : Word) (s : State) (hK : Keeps s0 s) :
    Keeps s0 (eyeCtrlWrite n v s) := by
  unfold eyeCtrlWrite
  repeat' first
    | with_reducible assumption | (extract_lets +onlyGivenNames x; have h1 : Keeps s0 x := ?_; clear_value x; rotate_left; subst x)
    | (extract_lets +onlyGivenNames x; subst x) | with_reducible apply State.setReg_keeps | with_reducible apply setStrand_keeps
    | with_reducible apply Keeps.ite | split | with_reducible refine Keeps.upd ?_ rfl rfl rfl rfl rfl rfl

theorem doStart_keeps {s0 : State} (m : Master) (n : Nat) (v : Word) (s : State) (hK : Keeps s0 s) :
    Keeps s0 (doStart m n v s) := by
  unfold doStart
  repeat' first
    | with_reducible assumption | intro _ | with_reducible apply gatedWrite_keeps | with_reducible apply eyeCtrlWrite_keeps

theorem doEyeDone_keeps {s0 : State} (n errors : Nat) (s : State) (hK : Keeps s0 s) :
    Keeps s0 (doEyeDone n errors s) := by
  unfold doEyeDone
  repeat' first
    | with_reducible assumption | (extract_lets +onlyGivenNames x; have h1 : Keeps s0 x := ?_; clear_value x; rotate_left; subst x)
    | (extract_lets +onlyGivenNames x; subst x) | with_reducible apply State.setReg_keeps | with_reducible apply setStrand_keeps
    | with_reducible apply raiseStrand_keeps | with_reducible apply Keeps.ite | split | with_reducible refine Keeps.upd ?_ rfl rfl rfl rfl rfl rfl

theorem strandWrite_keeps {s0 : State} (l : Loc) (a : Nat) (v : Word) (s : State) (hK : Keeps s0 s) :
    Keeps s0 (strandWrite l a v s) := by
  unfold strandWrite
  repeat' first
    | with_reducible assumption | (extract_lets +onlyGivenNames x; have h1 : Keeps s0 x := ?_; clear_value x; rotate_left; subst x)
    | (extract_lets +onlyGivenNames x; subst x) | with_reducible apply State.setReg_keeps | with_reducible apply plainWrite_keeps
    | with_reducible apply eqInForce_keeps | with_reducible apply prbsCtrlWrite_keeps | with_reducible apply eyeCtrlWrite_keeps
    | with_reducible apply Keeps.ite | split

theorem raiseDp_keeps {s0 : State} (dp b : Nat) (s : State) (hK : Keeps s0 s) :
    Keeps s0 (raiseDp dp b s) := by
  unfold raiseDp
  repeat' first
    | with_reducible assumption | with_reducible apply State.setBit_keeps

theorem edidStart_keeps {s0 : State} (dp why : Nat) (s : State) (hK : Keeps s0 s) :
    Keeps s0 (edidStart dp why s) := by
  unfold edidStart
  repeat' first
    | with_reducible assumption | (extract_lets +onlyGivenNames x; have h1 : Keeps s0 x := ?_; clear_value x; rotate_left; subst x)
    | (extract_lets +onlyGivenNames x; subst x) | with_reducible apply State.emit_keeps | with_reducible apply setStrand_keeps
    | with_reducible apply Keeps.ite | split | with_reducible refine Keeps.upd ?_ rfl rfl rfl rfl rfl rfl

theorem dpCtrlWrite_keeps {s0 : State} (dp : Nat) (v : Word) (s : State) (hK : Keeps s0 s) :
    Keeps s0 (dpCtrlWrite dp v s) := by
  unfold dpCtrlWrite
  repeat' first
    | with_reducible assumption | (extract_lets +onlyGivenNames x; have h1 : Keeps s0 x := ?_; clear_value x; rotate_left; subst x)
    | (extract_lets +onlyGivenNames x; subst x) | with_reducible apply State.setBit_keeps | with_reducible apply State.emit_keeps
    | with_reducible apply edidStart_keeps | with_reducible apply Keeps.ite | split

theorem doHpd_keeps {s0 : State} (m : Master) (dp : Nat) (v : Word) (s : State) (hK : Keeps s0 s) :
    Keeps s0 (doHpd m dp v s) := by
  unfold doHpd
  repeat' first
    | with_reducible assumption | intro _ | with_reducible apply gatedWrite_keeps | with_reducible apply dpCtrlWrite_keeps

theorem doIrqHpdPulse_keeps {s0 : State} (m : Master) (dp : Nat) (v : Word) (s : State) (hK : Keeps s0 s) :
    Keeps s0 (doIrqHpdPulse m dp v s) := by
  unfold doIrqHpdPulse
  repeat' first
    | with_reducible assumption | intro _ | with_reducible apply gatedWrite_keeps | with_reducible apply dpCtrlWrite_keeps

theorem doEdidReload_keeps {s0 : State} (m : Master) (dp : Nat) (v : Word) (s : State) (hK : Keeps s0 s) :
    Keeps s0 (doEdidReload m dp v s) := by
  unfold doEdidReload
  repeat' first
    | with_reducible assumption | intro _ | with_reducible apply gatedWrite_keeps | with_reducible apply dpCtrlWrite_keeps

theorem edidWrite_keeps {s0 : State} (l : Loc) (a : Nat) (v : Word) (s : State) (hK : Keeps s0 s) :
    Keeps s0 (edidWrite l a v s) := by
  unfold edidWrite
  repeat' first
    | with_reducible assumption | with_reducible apply State.setReg_keeps | with_reducible apply Keeps.ite | split

theorem dpcdWrite_keeps {s0 : State} (dp addr : Nat) (l : List Byte) (s : State) (hK : Keeps s0 s) : Keeps s0 (dpcdWrite dp addr l s) := by
  induction l generalizing addr s with
  | nil => exact hK
  | cons b l ih => exact ih _ _ (setStrand_keeps _ _ hK)

theorem doAuxTransaction_keeps {s0 : State} (dp : Nat) (req : AuxRequest) (s : State) (hK : Keeps s0 s) :
    Keeps s0 (doAuxTransaction dp req s) := by
  unfold doAuxTransaction
  repeat' first
    | with_reducible assumption | intro _ | with_reducible apply State.emit_keeps | with_reducible apply dpcdWrite_keeps
    | with_reducible apply Keeps.ite | split | with_reducible refine Keeps.upd ?_ rfl rfl rfl rfl rfl rfl

theorem doDdcTransaction_keeps {s0 : State} (dp : Nat) (req : DdcRequest) (s : State) (hK : Keeps s0 s) :
    Keeps s0 (doDdcTransaction dp req s) := by
  unfold doDdcTransaction
  repeat' first
    | with_reducible assumption | (extract_lets +onlyGivenNames x; have h1 : Keeps s0 x := ?_; clear_value x; rotate_left; subst x)
    | (extract_lets +onlyGivenNames x; subst x) | with_reducible apply State.emit_keeps | with_reducible apply setStrand_keeps
    | with_reducible apply Keeps.ite | split | with_reducible refine Keeps.upd ?_ rfl rfl rfl rfl rfl rfl

theorem doHpdAssert_keeps {s0 : State} (dp : Nat) (s : State) (hK : Keeps s0 s) :
    Keeps s0 (doHpdAssert dp s) := by
  unfold doHpdAssert
  repeat' first
    | with_reducible assumption | with_reducible apply State.setBit_keeps | with_reducible apply raiseDp_keeps | with_reducible apply edidStart_keeps
    | with_reducible apply Keeps.ite | split

theorem doHpdDeassert_keeps {s0 : State} (dp : Nat) (s : State) (hK : Keeps s0 s) :
    Keeps s0 (doHpdDeassert dp s) := by
  unfold doHpdDeassert
  repeat' first
    | with_reducible assumption | (extract_lets +onlyGivenNames x; have h1 : Keeps s0 x := ?_; clear_value x; rotate_left; subst x)
    | (extract_lets +onlyGivenNames x; subst x) | with_reducible apply State.setBit_keeps | with_reducible apply setStrand_keeps
    | with_reducible apply raiseDp_keeps | with_reducible apply Keeps.ite | split | with_reducible refine Keeps.upd ?_ rfl rfl rfl rfl rfl rfl

theorem doIrqHpd_keeps {s0 : State} (dp : Nat) (s : State) (hK : Keeps s0 s) :
    Keeps s0 (doIrqHpd dp s) := by
  unfold doIrqHpd
  repeat' first
    | with_reducible assumption | with_reducible apply raiseDp_keeps | with_reducible apply Keeps.ite | split

theorem trainStart_keeps {s0 : State} (dp : Nat) (s : State) (hK : Keeps s0 s) :
    Keeps s0 (trainStart dp s) := by
  unfold trainStart
  repeat' first
    | with_reducible assumption | (extract_lets +onlyGivenNames x; have h1 : Keeps s0 x := ?_; clear_value x; rotate_left; subst x)
    | (extract_lets +onlyGivenNames x; subst x) | with_reducible apply State.emit_keeps | with_reducible apply setStrand_keeps
    | with_reducible apply Keeps.ite | split | with_reducible refine Keeps.upd ?_ rfl rfl rfl rfl rfl rfl

theorem doEdidReady_keeps {s0 : State} (dp : Nat) (data : List Word) (s : State) (hK : Keeps s0 s) :
    Keeps s0 (doEdidReady dp data s) := by
  unfold doEdidReady
  repeat' first
    | with_reducible assumption | intro _ | (extract_lets +onlyGivenNames x; have h1 : Keeps s0 x := ?_; clear_value x; rotate_left; subst x)
    | (extract_lets +onlyGivenNames x; subst x) | with_reducible apply State.setReg_keeps | with_reducible apply setStrand_keeps
    | with_reducible apply raiseDp_keeps | with_reducible apply trainStart_keeps | with_reducible apply foldl_keeps | with_reducible apply Keeps.ite
    | split | with_reducible refine Keeps.upd ?_ rfl rfl rfl rfl rfl rfl

theorem doTrainDone_keeps {s0 : State} (dp lanes rate : Nat) (s : State) (hK : Keeps s0 s) :
    Keeps s0 (doTrainDone dp lanes rate s) := by
  unfold doTrainDone
  repeat' first
    | with_reducible assumption | intro _ | (extract_lets +onlyGivenNames x; have h1 : Keeps s0 x := ?_; clear_value x; rotate_left; subst x)
    | (extract_lets +onlyGivenNames x; subst x) | with_reducible apply State.setF_keeps | with_reducible apply State.setBit_keeps
    | with_reducible apply setStrand_keeps | with_reducible apply txRefreshAll_keeps | with_reducible apply stopRx_keeps
    | with_reducible apply startRx_keeps | with_reducible apply raiseDp_keeps | with_reducible apply foldl_keeps | with_reducible apply Keeps.ite
    | split | with_reducible refine Keeps.upd ?_ rfl rfl rfl rfl rfl rfl

theorem doTrainFail_keeps {s0 : State} (dp : Nat) (s : State) (hK : Keeps s0 s) :
    Keeps s0 (doTrainFail dp s) := by
  unfold doTrainFail
  repeat' first
    | with_reducible assumption | (extract_lets +onlyGivenNames x; have h1 : Keeps s0 x := ?_; clear_value x; rotate_left; subst x)
    | (extract_lets +onlyGivenNames x; subst x) | with_reducible apply State.setBit_keeps | with_reducible apply setStrand_keeps
    | with_reducible apply raiseDp_keeps | with_reducible apply Keeps.ite | split | with_reducible refine Keeps.upd ?_ rfl rfl rfl rfl rfl rfl

theorem strandConfigEffect_keeps {s0 : State} (o : Origin) (c : StrandEntry) (s : State) (hK : Keeps s0 s) :
    Keeps s0 (strandConfigEffect o c s) := by
  unfold strandConfigEffect
  repeat' first
    | with_reducible assumption | intro _ | (extract_lets +onlyGivenNames x; have h1 : Keeps s0 x := ?_; clear_value x; rotate_left; subst x)
    | (extract_lets +onlyGivenNames x; subst x) | with_reducible apply State.setBit_keeps | with_reducible apply completeOk_keeps
    | with_reducible apply setStrand_keeps | with_reducible apply txRefreshAll_keeps | with_reducible apply stopRx_keeps
    | with_reducible apply foldl_keeps | with_reducible apply Keeps.ite | split | with_reducible refine Keeps.upd ?_ rfl rfl rfl rfl rfl rfl

theorem doStrandConfig_keeps {s0 : State} (o : Origin) (c : StrandEntry) (s : State) (hK : Keeps s0 s) :
    Keeps s0 (doStrandConfig o c s) := by
  unfold doStrandConfig
  repeat' first
    | with_reducible assumption | intro _ | with_reducible apply loneCommand_keeps | with_reducible apply strandConfigEffect_keeps

theorem resetWir_keeps {s0 : State} (n : Nat) (s : State) (hK : Keeps s0 s) : Keeps s0 (resetWir n s) :=
  ⟨hK.pending, hK.draws, fun c => by
      have := hK.canon c
      simp only [State.canonical, resetWir, Bool.and_eq_true] at this ⊢
      exact ⟨⟨⟨⟨tabCanon_tabKeep this.1.1.1.1, this.1.1.1.2⟩, this.1.1.2⟩, this.1.2⟩, this.2⟩,
    hK.page, hK.locked, hK.rooted⟩

theorem doStrandConfigDone_keeps {s0 : State} (l : Nat) (s : State) (hK : Keeps s0 s) :
    Keeps s0 (doStrandConfigDone l s) := by
  unfold doStrandConfigDone
  repeat' first
    | with_reducible assumption | intro _ | (extract_lets +onlyGivenNames x; have h1 : Keeps s0 x := ?_; clear_value x; rotate_left; subst x)
    | (extract_lets +onlyGivenNames x; subst x) | with_reducible apply State.setBit_keeps | with_reducible apply completeOk_keeps
    | with_reducible apply setStrand_keeps | with_reducible apply txRefreshAll_keeps | with_reducible apply wakeUsed_keeps
    | with_reducible apply applyStrandCfg_keeps | with_reducible apply dpForget_keeps | with_reducible apply startRx_keeps
    | with_reducible apply resetWir_keeps | with_reducible apply foldl_keeps | with_reducible apply Keeps.ite | split
    | with_reducible refine Keeps.upd ?_ rfl rfl rfl rfl rfl rfl


/-! Wire -/

theorem setWire_keeps {s0 : State} (w : WireState) (s : State) (hK : Keeps s0 s) :
    Keeps s0 (setWire w s) := by
  unfold setWire
  repeat' first
    | with_reducible assumption | (extract_lets +onlyGivenNames x; have h1 : Keeps s0 x := ?_; clear_value x; rotate_left; subst x)
    | (extract_lets +onlyGivenNames x; subst x) | with_reducible refine Keeps.upd ?_ rfl rfl rfl rfl rfl rfl

theorem raiseWir_keeps {s0 : State} (n b : Nat) (s : State) (hK : Keeps s0 s) :
    Keeps s0 (raiseWir n b s) := by
  unfold raiseWir
  repeat' first
    | with_reducible assumption | with_reducible apply raiseEn_keeps

theorem tautFormats_keeps {s0 : State} (n : Nat) (f : Format) (s : State) (hK : Keeps s0 s) :
    Keeps s0 (tautFormats n f s) := by
  unfold tautFormats
  repeat' first
    | with_reducible assumption | intro _ | (extract_lets +onlyGivenNames x; have h1 : Keeps s0 x := ?_; clear_value x; rotate_left; subst x)
    | (extract_lets +onlyGivenNames x; subst x) | with_reducible apply setStrand_keeps | with_reducible apply foldl_keeps
    | with_reducible refine Keeps.upd ?_ rfl rfl rfl rfl rfl rfl

theorem tautChange_keeps {s0 : State} (n : Nat) (f : Option Format) (s : State) (hK : Keeps s0 s) :
    Keeps s0 (tautChange n f s) := by
  unfold tautChange
  repeat' first
    | with_reducible assumption | intro _ | with_reducible apply endSets_keeps

theorem unknownFormat_keeps {s0 : State} (n : Nat) (s : State) (hK : Keeps s0 s) :
    Keeps s0 (unknownFormat n s) := by
  unfold unknownFormat
  repeat' first
    | with_reducible assumption | with_reducible apply loseDecoder_keeps | with_reducible apply raiseWir_keeps

theorem noteMetadata_keeps {s0 : State} (n : Nat) (info : List (Nat × List Byte)) (audio : WireAudio) (s : State) (hK : Keeps s0 s) :
    Keeps s0 (noteMetadata n info audio s) := by
  unfold noteMetadata
  repeat' first
    | with_reducible assumption | intro _ | (extract_lets +onlyGivenNames x; have h1 : Keeps s0 x := ?_; clear_value x; rotate_left; subst x)
    | (extract_lets +onlyGivenNames x; subst x) | with_reducible apply State.setBit_keeps | with_reducible apply setWire_keeps
    | with_reducible apply foldl_keeps | with_reducible apply Keeps.ite | split | with_reducible refine Keeps.upd ?_ rfl rfl rfl rfl rfl rfl

theorem doFormatLocked_keeps {s0 : State} (n : Nat) (obs : LockObs) (s : State) (hK : Keeps s0 s) :
    Keeps s0 (doFormatLocked n obs s) := by
  unfold doFormatLocked
  repeat' first
    | with_reducible assumption | intro _ | (extract_lets +onlyGivenNames x; have h1 : Keeps s0 x := ?_; clear_value x; rotate_left; subst x)
    | (extract_lets +onlyGivenNames x; subst x) | with_reducible apply State.setReg_keeps | with_reducible apply State.setBit_keeps
    | with_reducible apply setPresent_keeps | with_reducible apply enginesRefresh_keeps | with_reducible apply refreshDomain_keeps
    | with_reducible apply putFormat_keeps | with_reducible apply loseDecoder_keeps | with_reducible apply raiseWir_keeps
    | with_reducible apply tautFormats_keeps | with_reducible apply tautChange_keeps | with_reducible apply unknownFormat_keeps
    | with_reducible apply noteMetadata_keeps | with_reducible apply foldl_keeps | with_reducible apply Keeps.ite | split

theorem doFormatChange_keeps {s0 : State} (n : Nat) (s : State) (hK : Keeps s0 s) :
    Keeps s0 (doFormatChange n s) := by
  unfold doFormatChange
  repeat' first
    | with_reducible assumption | with_reducible apply loseDecoder_keeps | with_reducible apply raiseWir_keeps | with_reducible apply tautChange_keeps
    | with_reducible apply Keeps.ite | split

theorem doFormatUnknown_keeps {s0 : State} (n : Nat) (s : State) (hK : Keeps s0 s) :
    Keeps s0 (doFormatUnknown n s) := by
  unfold doFormatUnknown
  repeat' first
    | with_reducible assumption | with_reducible apply unknownFormat_keeps | with_reducible apply Keeps.ite | split

theorem doAncOverflow_keeps {s0 : State} (n packets : Nat) (s : State) (hK : Keeps s0 s) :
    Keeps s0 (doAncOverflow n packets s) := by
  unfold doAncOverflow
  repeat' first
    | with_reducible assumption | with_reducible apply State.bump_keeps | with_reducible apply raiseWir_keeps | with_reducible apply Keeps.ite | split

theorem wirWrite_keeps {s0 : State} (l : Loc) (a : Nat) (v : Word) (s : State) (hK : Keeps s0 s) :
    Keeps s0 (wirWrite l a v s) := by
  unfold wirWrite
  repeat' first
    | with_reducible assumption | with_reducible apply plainWrite_keeps | with_reducible apply Keeps.ite | split

theorem dropRx_keeps {s0 : State} (n : Nat) (s : State) (hK : Keeps s0 s) :
    Keeps s0 (dropRx n s) := by
  unfold dropRx
  repeat' first
    | with_reducible assumption | with_reducible apply State.bump_keeps

theorem macsecOpen_keeps {s0 : State} (n : Nat) (frame : List Nat) (s : State) (r : List Nat × State) (h : macsecOpen n frame s = some r) (hK : Keeps s0 s) :
    Keeps s0 r.2 := by
  unfold macsecOpen at h
  split at h
  · cases h; exact hK
  · split at h
    · split at h <;> cases h
      exact hK
    · split at h
      · cases h
      · dsimp only at h
        split at h
        · cases h
        · split at h
          · cases h
          · obtain ⟨_, _, rfl⟩ := Option.map_eq_some_iff.mp h
            exact setWire_keeps _ _ hK

theorem deliverIp_keeps {s0 : State} (n : Nat) (f : EthFrame) (p : Ipv4) (s : State) (hK : Keeps s0 s) :
    Keeps s0 (deliverIp n f p s) := by
  unfold deliverIp
  repeat' first
    | with_reducible assumption | (extract_lets +onlyGivenNames x; have h1 : Keeps s0 x := ?_; clear_value x; rotate_left; subst x)
    | (extract_lets +onlyGivenNames x; subst x) | with_reducible apply State.draw_keeps | with_reducible apply sendFrame_keeps
    | with_reducible apply reportAll_keeps | with_reducible apply dropRx_keeps | with_reducible apply Keeps.ite | split
    | with_reducible refine Keeps.upd ?_ rfl rfl rfl rfl rfl rfl

theorem deliverFrame_keeps {s0 : State} (n : Nat) (frame : List Nat) (s : State) (hK : Keeps s0 s) :
    Keeps s0 (deliverFrame n frame s) := by
  unfold deliverFrame
  repeat' first
    | with_reducible assumption | with_reducible apply sendFrame_keeps | with_reducible apply dropRx_keeps | with_reducible apply deliverIp_keeps
    | with_reducible apply Keeps.ite | split | with_reducible refine Keeps.upd ?_ rfl rfl rfl rfl rfl rfl

theorem queueFrame_keeps {s0 : State} (t n : Nat) (frame : List Byte) (s : State) (hK : Keeps s0 s) :
    Keeps s0 (queueFrame t n frame s) := by
  unfold queueFrame
  repeat' first
    | with_reducible assumption | intro _ | (extract_lets +onlyGivenNames x; have h1 : Keeps s0 x := ?_; clear_value x; rotate_left; subst x)
    | (extract_lets +onlyGivenNames x; subst x) | with_reducible apply postEvent_keeps | with_reducible apply dropRx_keeps
    | with_reducible apply foldl_keeps | with_reducible apply Keeps.ite | split

theorem mgmtFrame_keeps {s0 : State} (n etherType : Nat) (frame : List Byte) (s : State) (hK : Keeps s0 s) :
    Keeps s0 (mgmtFrame n etherType frame s) := by
  unfold mgmtFrame
  repeat' first
    | with_reducible assumption | with_reducible apply dropRx_keeps | with_reducible apply queueFrame_keeps | with_reducible apply Keeps.ite | split
    | with_reducible refine Keeps.upd ?_ rfl rfl rfl rfl rfl rfl

theorem doEthFrameRx_keeps {s0 : State} (n : Nat) (f : RxFrame) (s : State) (hK : Keeps s0 s) :
    Keeps s0 (doEthFrameRx n f s) := by
  unfold doEthFrameRx
  repeat' first
    | with_reducible assumption | intro _ | (extract_lets +onlyGivenNames x; have h1 : Keeps s0 x := ?_; clear_value x; rotate_left; subst x)
    | (extract_lets +onlyGivenNames x; subst x) | with_reducible apply State.bump_keeps | with_reducible apply macsecOpen_keeps
    | with_reducible apply deliverFrame_keeps | with_reducible apply mgmtFrame_keeps | with_reducible apply Keeps.ite | split
    | with_reducible refine Keeps.upd ?_ rfl rfl rfl rfl rfl rfl

theorem doMgmtRx_keeps {s0 : State} (n etherType : Nat) (frame : List Byte) (s : State) (hK : Keeps s0 s) :
    Keeps s0 (doMgmtRx n etherType frame s) := by
  unfold doMgmtRx
  repeat' first
    | with_reducible assumption | with_reducible apply mgmtFrame_keeps | with_reducible apply Keeps.ite | split

theorem doIgmpQuery_keeps {s0 : State} (n : Nat) (s : State) (hK : Keeps s0 s) :
    Keeps s0 (doIgmpQuery n s) := by
  unfold doIgmpQuery
  repeat' first
    | with_reducible assumption | with_reducible apply reportAll_keeps

theorem raiseFlow_keeps {s0 : State} (key b : Nat) (s : State) (hK : Keeps s0 s) :
    Keeps s0 (raiseFlow key b s) := by
  unfold raiseFlow
  repeat' first
    | with_reducible assumption | with_reducible apply State.setBit_keeps

theorem pathSeen_keeps {s0 : State} (key path : Nat) (f : Flow) (s : State) (hK : Keeps s0 s) :
    Keeps s0 (pathSeen key path f s) := by
  unfold pathSeen
  repeat' first
    | with_reducible assumption | (extract_lets +onlyGivenNames x; have h1 : Keeps s0 x := ?_; clear_value x; rotate_left; subst x)
    | (extract_lets +onlyGivenNames x; subst x) | with_reducible apply State.setBit_keeps | with_reducible apply State.bump_keeps
    | with_reducible apply raiseFlow_keeps | with_reducible apply Keeps.ite | split

theorem expireAnc_keeps {s0 : State} (key : Nat) (s : State) (hK : Keeps s0 s) :
    Keeps s0 (expireAnc key s) := by
  unfold expireAnc
  repeat' first
    | with_reducible assumption | intro _ | (extract_lets +onlyGivenNames x; have h1 : Keeps s0 x := ?_; clear_value x; rotate_left; subst x)
    | (extract_lets +onlyGivenNames x; subst x) | with_reducible apply State.bump_keeps | with_reducible apply setFlow_keeps
    | with_reducible apply Keeps.ite | split | with_reducible refine Keeps.upd ?_ rfl rfl rfl rfl rfl rfl

theorem attachAnc_keeps {s0 : State} (ei ts : Nat) (s : State) (hK : Keeps s0 s) :
    Keeps s0 (attachAnc ei ts s) := by
  unfold attachAnc
  repeat' first
    | with_reducible assumption | intro _ | (extract_lets +onlyGivenNames x; have h1 : Keeps s0 x := ?_; clear_value x; rotate_left; subst x)
    | (extract_lets +onlyGivenNames x; subst x) | with_reducible apply State.emit_keeps | with_reducible apply setFlow_keeps
    | with_reducible apply expireAnc_keeps | with_reducible apply foldl_keeps | with_reducible apply Keeps.ite | split
    | with_reducible refine Keeps.upd ?_ rfl rfl rfl rfl rfl rfl

theorem newPkt_keeps {s0 : State} (key path q : Nat) (f : Flow) (p : FlowPacket) (s : State) (hK : Keeps s0 s) :
    Keeps s0 (newPkt key path q f p s) := by
  unfold newPkt
  repeat' first
    | with_reducible assumption | (extract_lets +onlyGivenNames x; have h1 : Keeps s0 x := ?_; clear_value x; rotate_left; subst x)
    | (extract_lets +onlyGivenNames x; subst x) | with_reducible apply State.bump_keeps | with_reducible apply setFlow_keeps
    | with_reducible apply setFlowPresent_keeps | with_reducible apply raiseFlow_keeps | with_reducible apply expireAnc_keeps
    | with_reducible apply Keeps.ite | split | with_reducible refine Keeps.upd ?_ rfl rfl rfl rfl rfl rfl

theorem twinPkt_keeps {s0 : State} (key q : Nat) (f : Flow) (x : SeenPkt) (p : FlowPacket) (s : State) (hK : Keeps s0 s) :
    Keeps s0 (twinPkt key q f x p s) := by
  unfold twinPkt
  repeat' first
    | with_reducible assumption | intro _ | (extract_lets +onlyGivenNames x; have h1 : Keeps s0 x := ?_; clear_value x; rotate_left; subst x)
    | (extract_lets +onlyGivenNames x; subst x) | with_reducible apply State.bump_keeps | with_reducible apply setFlow_keeps
    | with_reducible apply Keeps.ite | split | with_reducible refine Keeps.upd ?_ rfl rfl rfl rfl rfl rfl

theorem doFlowPacketRx_keeps {s0 : State} (key : Nat) (p : FlowPacket) (s : State) (hK : Keeps s0 s) :
    Keeps s0 (doFlowPacketRx key p s) := by
  unfold doFlowPacketRx
  repeat' first
    | with_reducible assumption | intro _ | (extract_lets +onlyGivenNames x; have h1 : Keeps s0 x := ?_; clear_value x; rotate_left; subst x)
    | (extract_lets +onlyGivenNames x; subst x) | with_reducible apply setFlow_keeps | with_reducible apply dropRx_keeps
    | with_reducible apply pathSeen_keeps | with_reducible apply newPkt_keeps | with_reducible apply twinPkt_keeps | with_reducible apply Keeps.ite
    | split | with_reducible refine Keeps.upd ?_ rfl rfl rfl rfl rfl rfl

theorem setBds_keeps {s0 : State} (d : FlowDesc) (f : Option Format) (v : Bool) (s : State) (hK : Keeps s0 s) :
    Keeps s0 (setBds d f v s) := by
  unfold setBds
  repeat' first
    | with_reducible assumption | with_reducible apply setPresent_keeps | with_reducible apply Keeps.ite | split
    | with_reducible refine Keeps.upd ?_ rfl rfl rfl rfl rfl rfl

theorem accountPkts_keeps {s0 : State} (key ts : Nat) (f : Flow) (es : List SeenPkt) (s : State) (hK : Keeps s0 s) :
    Keeps s0 (accountPkts key ts f es s).1 := by
  unfold accountPkts
  repeat' first
    | with_reducible assumption | intro _ | (extract_lets +onlyGivenNames x; have h1 : Keeps s0 x := ?_; clear_value x; rotate_left; subst x)
    | (extract_lets +onlyGivenNames x; subst x) | with_reducible apply State.bump_keeps | with_reducible apply foldl_keeps
    | with_reducible apply Keeps.ite | split | with_reducible refine Keeps.upd ?_ rfl rfl rfl rfl rfl rfl | dsimp only

theorem releaseFrame_keeps {s0 : State} (key ts : Nat) (f : Flow) (es : List SeenPkt) (s : State) (hK : Keeps s0 s) :
    Keeps s0 (releaseFrame key ts f es s) := by
  unfold releaseFrame
  repeat' first
    | with_reducible assumption | intro _ | (extract_lets +onlyGivenNames x; have h1 : Keeps s0 x := ?_; clear_value x; rotate_left; subst x)
    | (extract_lets +onlyGivenNames x; subst x) | with_reducible apply State.draw_keeps | with_reducible apply State.emit_keeps
    | with_reducible apply setFlow_keeps | with_reducible apply setFlowPresent_keeps | with_reducible apply attachAnc_keeps
    | with_reducible apply foldl_keeps | with_reducible apply Keeps.ite | split | with_reducible refine Keeps.upd ?_ rfl rfl rfl rfl rfl rfl

theorem releaseChannel_keeps {s0 : State} (key c gap : Nat) (l : List Nat) (s : State) (hK : Keeps s0 s) :
    Keeps s0 (releaseChannel key c gap l s) := by
  unfold releaseChannel
  repeat' first
    | with_reducible assumption | intro _ | (extract_lets +onlyGivenNames x; have h1 : Keeps s0 x := ?_; clear_value x; rotate_left; subst x)
    | (extract_lets +onlyGivenNames x; subst x) | with_reducible apply State.emit_keeps | with_reducible apply setAud_keeps
    | with_reducible apply setAmiStatus_keeps | with_reducible apply setFlow_keeps | with_reducible apply Keeps.ite | split
    | with_reducible refine Keeps.upd ?_ rfl rfl rfl rfl rfl rfl

theorem releaseBlock_keeps {s0 : State} (key ts : Nat) (before : Option Nat) (f : Flow) (es : List SeenPkt) (s : State) (hK : Keeps s0 s) :
    Keeps s0 (releaseBlock key ts before f es s) := by
  unfold releaseBlock
  repeat' first
    | with_reducible assumption | intro _ | (extract_lets +onlyGivenNames x; have h1 : Keeps s0 x := ?_; clear_value x; rotate_left; subst x)
    | (extract_lets +onlyGivenNames x; subst x) | with_reducible apply setFlow_keeps | with_reducible apply setFlowPresent_keeps
    | with_reducible apply releaseChannel_keeps | with_reducible apply foldl_keeps | with_reducible apply Keeps.ite | split
    | with_reducible refine Keeps.upd ?_ rfl rfl rfl rfl rfl rfl

theorem release2022_keeps {s0 : State} (key : Nat) (fmt : Option Format) (f : Flow) (s : State) (hK : Keeps s0 s) :
    Keeps s0 (release2022 key fmt f s) := by
  unfold release2022
  repeat' first
    | with_reducible assumption | intro _ | (extract_lets +onlyGivenNames x; have h1 : Keeps s0 x := ?_; clear_value x; rotate_left; subst x)
    | (extract_lets +onlyGivenNames x; subst x) | with_reducible apply setFlow_keeps | with_reducible apply setFlowPresent_keeps
    | with_reducible apply dropFormat_keeps | with_reducible apply putFormat_keeps | with_reducible apply setBds_keeps
    | with_reducible apply Keeps.ite | split | with_reducible refine Keeps.upd ?_ rfl rfl rfl rfl rfl rfl

theorem doFlowRelease_keeps {s0 : State} (key ts : Nat) (fmt : Option Format) (s : State) (hK : Keeps s0 s) :
    Keeps s0 (doFlowRelease key ts fmt s) := by
  unfold doFlowRelease
  split
  · exact hK
  · split
    · exact hK
    · split
      · exact expireAnc_keeps _ _ hK
      · refine Keeps.ite hK ?_
        split
        rename_i q f' e
        have h : Keeps s0 (q, f').1 := e ▸ accountPkts_keeps _ _ _ _ _ hK
        split
        · exact releaseFrame_keeps _ _ _ _ _ h
        · exact release2022_keeps _ _ _ _ h
        · exact releaseBlock_keeps _ _ _ _ _ _ h

theorem doFlowLost_keeps {s0 : State} (key : Nat) (s : State) (hK : Keeps s0 s) :
    Keeps s0 (doFlowLost key s) := by
  unfold doFlowLost
  repeat' first
    | with_reducible assumption | (extract_lets +onlyGivenNames x; have h1 : Keeps s0 x := ?_; clear_value x; rotate_left; subst x)
    | (extract_lets +onlyGivenNames x; subst x) | with_reducible apply setFlow_keeps | with_reducible apply setFlowPresent_keeps
    | with_reducible apply raiseFlow_keeps | with_reducible apply setBds_keeps | with_reducible apply Keeps.ite | split
    | with_reducible refine Keeps.upd ?_ rfl rfl rfl rfl rfl rfl

theorem doPathLost_keeps {s0 : State} (key path : Nat) (s : State) (hK : Keeps s0 s) :
    Keeps s0 (doPathLost key path s) := by
  unfold doPathLost
  repeat' first
    | with_reducible assumption | with_reducible apply State.setBit_keeps | with_reducible apply raiseFlow_keeps | with_reducible apply Keeps.ite
    | split

theorem doFlowPacketTx_keeps {s0 : State} (key : Nat) (s : State) (hK : Keeps s0 s) :
    Keeps s0 (doFlowPacketTx key s) := by
  unfold doFlowPacketTx
  repeat' first
    | with_reducible assumption | intro _ | (extract_lets +onlyGivenNames x; have h1 : Keeps s0 x := ?_; clear_value x; rotate_left; subst x)
    | (extract_lets +onlyGivenNames x; subst x) | with_reducible apply State.bump_keeps | with_reducible apply State.draw_keeps
    | with_reducible apply setFlow_keeps | with_reducible apply sendIp_keeps | with_reducible apply foldl_keeps | with_reducible apply Keeps.ite
    | split | with_reducible refine Keeps.upd ?_ rfl rfl rfl rfl rfl rfl

theorem State.withFlows_keeps {s0 : State} (s : State) (set : Option ChangeSet) (hK : Keeps s0 s) :
    Keeps s0 (State.withFlows s set) := by
  unfold State.withFlows
  repeat' first
    | with_reducible assumption | intro _ | with_reducible apply setFlow_keeps | with_reducible apply foldl_keeps | with_reducible apply Keeps.ite
    | split | with_reducible refine Keeps.upd ?_ rfl rfl rfl rfl rfl rfl

theorem flowSetEffect_keeps {s0 : State} (o : Origin) (descriptor : Option (List Byte)) (s : State) (hK : Keeps s0 s) :
    Keeps s0 (flowSetEffect o descriptor s) := by
  unfold flowSetEffect
  repeat' first
    | with_reducible assumption | with_reducible apply completeOk_keeps | with_reducible apply applyFlow_keeps | with_reducible apply Keeps.ite
    | split | with_reducible refine Keeps.upd ?_ rfl rfl rfl rfl rfl rfl

theorem doFlowSet_keeps {s0 : State} (o : Origin) (descriptor : Option (List Byte)) (s : State) (hK : Keeps s0 s) :
    Keeps s0 (doFlowSet o descriptor s) := by
  unfold doFlowSet
  repeat' first
    | with_reducible assumption | intro _ | with_reducible apply hostCommand_keeps | with_reducible apply addOp_keeps
    | with_reducible apply flowSetEffect_keeps | with_reducible apply Keeps.ite | split | with_reducible refine Keeps.upd ?_ rfl rfl rfl rfl rfl rfl

theorem ethSendFrameEffect_keeps {s0 : State} (o : Origin) (n len : Nat) (frame : Option (List Byte)) (s : State) (hK : Keeps s0 s) :
    Keeps s0 (ethSendFrameEffect o n len frame s) := by
  unfold ethSendFrameEffect
  repeat' first
    | with_reducible assumption | (extract_lets +onlyGivenNames x; have h1 : Keeps s0 x := ?_; clear_value x; rotate_left; subst x)
    | (extract_lets +onlyGivenNames x; subst x) | with_reducible apply sendFrame_keeps | with_reducible apply setWire_keeps
    | with_reducible refine Keeps.upd ?_ rfl rfl rfl rfl rfl rfl

theorem doEthSendFrame_keeps {s0 : State} (o : Origin) (n len : Nat) (frame : Option (List Byte)) (s : State) (hK : Keeps s0 s) :
    Keeps s0 (doEthSendFrame o n len frame s) := by
  unfold doEthSendFrame
  repeat' first
    | with_reducible assumption | intro _ | with_reducible apply loneCommand_keeps | with_reducible apply ethSendFrameEffect_keeps

theorem doFrameSent_keeps {s0 : State} (n : Nat) (s : State) (hK : Keeps s0 s) :
    Keeps s0 (doFrameSent n s) := by
  unfold doFrameSent
  repeat' first
    | with_reducible assumption | (extract_lets +onlyGivenNames x; have h1 : Keeps s0 x := ?_; clear_value x; rotate_left; subst x)
    | (extract_lets +onlyGivenNames x; subst x) | with_reducible apply completeOk_keeps | with_reducible apply setWire_keeps
    | with_reducible apply Keeps.ite | split | with_reducible refine Keeps.upd ?_ rfl rfl rfl rfl rfl rfl

theorem macsecSaSetEffect_keeps {s0 : State} (o : Origin) (n : Nat) (receive : Bool) (channel an key : Nat) (pn : DWord) (ssci : Word) (salt : Nat) (s : State) (hK : Keeps s0 s) :
    Keeps s0 (macsecSaSetEffect o n receive channel an key pn ssci salt s) := by
  unfold macsecSaSetEffect
  repeat' first
    | with_reducible assumption | (extract_lets +onlyGivenNames x; have h1 : Keeps s0 x := ?_; clear_value x; rotate_left; subst x)
    | (extract_lets +onlyGivenNames x; subst x) | with_reducible apply completeOk_keeps | with_reducible apply raisePnLimit_keeps
    | with_reducible apply refreshSlot_keeps | with_reducible apply setWire_keeps | with_reducible apply Keeps.ite | split
    | with_reducible refine Keeps.upd ?_ rfl rfl rfl rfl rfl rfl

theorem doMacsecSaSet_keeps {s0 : State} (o : Origin) (n : Nat) (receive : Bool) (channel an key : Nat) (pn : DWord) (ssci : Word) (salt : Nat) (s : State) (hK : Keeps s0 s) :
    Keeps s0 (doMacsecSaSet o n receive channel an key pn ssci salt s) := by
  unfold doMacsecSaSet
  repeat' first
    | with_reducible assumption | intro _ | with_reducible apply loneCommand_keeps | with_reducible apply macsecSaSetEffect_keeps

theorem ethIfWrite_keeps {s0 : State} (l : Loc) (a : Nat) (v : Word) (s : State) (hK : Keeps s0 s) :
    Keeps s0 (ethIfWrite l a v s) := by
  unfold ethIfWrite
  repeat' first
    | with_reducible assumption | with_reducible apply plainWrite_keeps | with_reducible apply refreshLoad_keeps | with_reducible apply Keeps.ite
    | split

theorem pnThreshWritten_keeps {s0 : State} (n old : Nat) (s : State) (hK : Keeps s0 s) :
    Keeps s0 (pnThreshWritten n old s) := by
  unfold pnThreshWritten
  repeat' first
    | with_reducible assumption | intro _ | (extract_lets +onlyGivenNames x; have h1 : Keeps s0 x := ?_; clear_value x; rotate_left; subst x)
    | (extract_lets +onlyGivenNames x; subst x) | with_reducible apply raisePnLimit_keeps | with_reducible apply Keeps.ite | split

theorem mscWrite_keeps {s0 : State} (l : Loc) (a : Nat) (v : Word) (s : State) (hK : Keeps s0 s) :
    Keeps s0 (mscWrite l a v s) := by
  unfold mscWrite
  repeat' first
    | with_reducible assumption | with_reducible apply plainWrite_keeps | with_reducible apply pnThreshWritten_keeps | with_reducible apply Keeps.ite
    | split


/-! Fids -/

theorem raiseFid_keeps {s0 : State} (f b : Nat) (s : State) (hK : Keeps s0 s) :
    Keeps s0 (raiseFid f b s) := by
  unfold raiseFid
  repeat' first
    | with_reducible assumption | with_reducible apply raiseEn_keeps | with_reducible apply fidEvent_keeps

theorem coldStart_keeps {s0 : State} (f : Nat) (i : FidImage) (s : State) (hK : Keeps s0 s) :
    Keeps s0 (coldStart f i s) := by
  unfold coldStart
  repeat' first
    | with_reducible assumption | intro _ | (extract_lets +onlyGivenNames x; have h1 : Keeps s0 x := ?_; clear_value x; rotate_left; subst x)
    | (extract_lets +onlyGivenNames x; subst x) | with_reducible apply State.setReg_keeps | with_reducible apply State.setF_keeps
    | with_reducible apply masterReset_keeps | with_reducible apply setFid_keeps | with_reducible apply setFidWords_keeps
    | with_reducible apply zeroFidWords_keeps | with_reducible apply digestChanged_keeps | with_reducible apply foldl_keeps
    | with_reducible apply Keeps.ite | split | with_reducible refine Keeps.upd ?_ rfl rfl rfl rfl rfl rfl

theorem abortRun_keeps {s0 : State} (f : Nat) (st : Status) (ev : Nat) (s : State) (hK : Keeps s0 s) :
    Keeps s0 (abortRun f st ev s) := by
  unfold abortRun
  repeat' first
    | with_reducible assumption | with_reducible apply endRun_keeps | with_reducible apply raiseHook_keeps | with_reducible apply Keeps.ite | split
    | with_reducible refine Keeps.upd ?_ rfl rfl rfl rfl rfl rfl

theorem trap_keeps {s0 : State} (f : Nat) (hook : Bool) (pc cause : Nat) (s : State) (hK : Keeps s0 s) :
    Keeps s0 (trap f hook pc cause s) := by
  unfold trap
  repeat' first
    | with_reducible assumption | intro _ | (extract_lets +onlyGivenNames x; have h1 : Keeps s0 x := ?_; clear_value x; rotate_left; subst x)
    | (extract_lets +onlyGivenNames x; subst x) | with_reducible apply State.setReg_keeps | with_reducible apply State.setF_keeps
    | with_reducible apply logBit_keeps | with_reducible apply endSets_keeps | with_reducible apply setFid_keeps | with_reducible apply fidEvent_keeps
    | with_reducible apply raiseFid_keeps | with_reducible apply abortRun_keeps | with_reducible apply Keeps.ite | split
    | with_reducible refine Keeps.upd ?_ rfl rfl rfl rfl rfl rfl

theorem hookLoadEffect_keeps {s0 : State} (o : Origin) (f len : Nat) (data : Option (List Byte)) (s : State) (hK : Keeps s0 s) :
    Keeps s0 (hookLoadEffect o f len data s) := by
  unfold hookLoadEffect
  repeat' first
    | with_reducible assumption | (extract_lets +onlyGivenNames x; have h1 : Keeps s0 x := ?_; clear_value x; rotate_left; subst x)
    | (extract_lets +onlyGivenNames x; subst x) | with_reducible apply State.setBit_keeps | with_reducible apply completeOk_keeps
    | with_reducible apply setFidWords_keeps | with_reducible apply zeroFidWords_keeps

theorem doHookLoad_keeps {s0 : State} (o : Origin) (f len : Nat) (data : Option (List Byte)) (s : State) (hK : Keeps s0 s) :
    Keeps s0 (doHookLoad o f len data s) := by
  unfold doHookLoad
  repeat' first
    | with_reducible assumption | intro _ | with_reducible apply loneCommand_keeps | with_reducible apply hookLoadEffect_keeps

theorem writeHookRegs_keeps {s0 : State} (f t ctrl mask : Nat) (s : State) (hK : Keeps s0 s) :
    Keeps s0 (writeHookRegs f t ctrl mask s) := by
  unfold writeHookRegs
  repeat' first
    | with_reducible assumption | (extract_lets +onlyGivenNames x; have h1 : Keeps s0 x := ?_; clear_value x; rotate_left; subst x)
    | (extract_lets +onlyGivenNames x; subst x) | with_reducible apply applyHookRegs_keeps | with_reducible apply Keeps.ite | split
    | with_reducible refine Keeps.upd ?_ rfl rfl rfl rfl rfl rfl

theorem doHookSet_keeps {s0 : State} (o : Origin) (f : Nat) (splice : Bool) (period : Nat) (mask : Word) (s : State) (hK : Keeps s0 s) :
    Keeps s0 (doHookSet o f splice period mask s) := by
  unfold doHookSet
  repeat' first
    | with_reducible assumption | intro _ | with_reducible apply completeOk_keeps | with_reducible apply loneCommand_keeps
    | with_reducible apply writeHookRegs_keeps

theorem hookWinWrite_keeps {s0 : State} (h t : Nat) (a : Nat) (v : Word) (s : State) (hK : Keeps s0 s) :
    Keeps s0 (hookWinWrite h t a v s) := by
  unfold hookWinWrite
  repeat' first
    | with_reducible assumption | (extract_lets +onlyGivenNames x; have h1 : Keeps s0 x := ?_; clear_value x; rotate_left; subst x)
    | (extract_lets +onlyGivenNames x; subst x) | with_reducible apply State.setF_keeps | with_reducible apply writeHookRegs_keeps
    | with_reducible apply Keeps.ite | split

theorem doHookTimeout_keeps {s0 : State} (f : Nat) (s : State) (hK : Keeps s0 s) :
    Keeps s0 (doHookTimeout f s) := by
  unfold doHookTimeout
  repeat' first
    | with_reducible assumption | with_reducible apply State.bump_keeps | with_reducible apply abortRun_keeps | with_reducible apply Keeps.ite | split
    | with_reducible refine Keeps.upd ?_ rfl rfl rfl rfl rfl rfl

theorem doHookSkipped_keeps {s0 : State} (f set t : Nat) (s : State) (hK : Keeps s0 s) :
    Keeps s0 (doHookSkipped f set t s) := by
  unfold doHookSkipped
  repeat' first
    | with_reducible assumption | intro _ | (extract_lets +onlyGivenNames x; have h1 : Keeps s0 x := ?_; clear_value x; rotate_left; subst x)
    | (extract_lets +onlyGivenNames x; subst x) | with_reducible apply State.setF_keeps | with_reducible apply State.bump_keeps
    | with_reducible apply setFid_keeps | with_reducible apply refreshHookStatus_keeps | with_reducible apply releaseHookRegs_keeps
    | with_reducible apply raiseHook_keeps | with_reducible apply Keeps.ite | split | with_reducible refine Keeps.upd ?_ rfl rfl rfl rfl rfl rfl

theorem tickHook_keeps {s0 : State} (f t : Nat) (s : State) (hK : Keeps s0 s) :
    Keeps s0 (tickHook f t s) := by
  unfold tickHook
  repeat' first
    | with_reducible assumption | intro _ | (extract_lets +onlyGivenNames x; have h1 : Keeps s0 x := ?_; clear_value x; rotate_left; subst x)
    | (extract_lets +onlyGivenNames x; subst x) | with_reducible apply State.bump_keeps | with_reducible apply queueRun_keeps
    | with_reducible apply Keeps.ite | split | with_reducible refine Keeps.upd ?_ rfl rfl rfl rfl rfl rfl

theorem tickFids_keeps {s0 : State} (s : State) (hK : Keeps s0 s) :
    Keeps s0 (tickFids s) := by
  unfold tickFids
  repeat' first
    | with_reducible assumption | intro _ | (extract_lets +onlyGivenNames x; have h1 : Keeps s0 x := ?_; clear_value x; rotate_left; subst x)
    | (extract_lets +onlyGivenNames x; subst x) | with_reducible apply fidEvent_keeps | with_reducible apply tickHook_keeps
    | with_reducible apply foldl_keeps | with_reducible apply Keeps.ite | split

theorem fidUpdateEffect_keeps {s0 : State} (o : Origin) (f : Nat) (image : Option (List Byte)) (s : State) (hK : Keeps s0 s) :
    Keeps s0 (fidUpdateEffect o f image s) := by
  unfold fidUpdateEffect
  repeat' first
    | with_reducible assumption | (extract_lets +onlyGivenNames x; have h1 : Keeps s0 x := ?_; clear_value x; rotate_left; subst x)
    | (extract_lets +onlyGivenNames x; subst x) | with_reducible apply State.setBit_keeps | with_reducible apply setFid_keeps
    | with_reducible apply setFidWords_keeps | with_reducible apply Keeps.ite | split | with_reducible refine Keeps.upd ?_ rfl rfl rfl rfl rfl rfl

theorem doFidUpdate_keeps {s0 : State} (o : Origin) (f len : Nat) (image : Option (List Byte)) (s : State) (hK : Keeps s0 s) :
    Keeps s0 (doFidUpdate o f len image s) := by
  unfold doFidUpdate
  repeat' first
    | with_reducible assumption | intro _ | with_reducible apply loneCommand_keeps | with_reducible apply fidUpdateEffect_keeps

theorem endUpdate_keeps {s0 : State} (f : Nat) (u : FidUpd) (st : Status) (s : State) (hK : Keeps s0 s) :
    Keeps s0 (endUpdate f u st s) := by
  unfold endUpdate
  repeat' first
    | with_reducible assumption | (extract_lets +onlyGivenNames x; have h1 : Keeps s0 x := ?_; clear_value x; rotate_left; subst x)
    | (extract_lets +onlyGivenNames x; subst x) | with_reducible apply State.setF_keeps | with_reducible apply State.setBit_keeps
    | with_reducible apply complete_keeps | with_reducible apply setFid_keeps | with_reducible apply Keeps.ite | split
    | with_reducible refine Keeps.upd ?_ rfl rfl rfl rfl rfl rfl

theorem doFidUpdated_keeps {s0 : State} (f : Nat) (s : State) (hK : Keeps s0 s) :
    Keeps s0 (doFidUpdated f s) := by
  unfold doFidUpdated
  repeat' first
    | with_reducible assumption | (extract_lets +onlyGivenNames x; have h1 : Keeps s0 x := ?_; clear_value x; rotate_left; subst x)
    | (extract_lets +onlyGivenNames x; subst x) | with_reducible apply State.setReg_keeps | with_reducible apply State.setF_keeps
    | with_reducible apply State.setBit_keeps | with_reducible apply masterReset_keeps | with_reducible apply setFid_keeps
    | with_reducible apply digestChanged_keeps | with_reducible apply raiseFid_keeps | with_reducible apply endUpdate_keeps
    | with_reducible apply Keeps.ite | split | with_reducible refine Keeps.upd ?_ rfl rfl rfl rfl rfl rfl

theorem doFidUpdateTimeout_keeps {s0 : State} (f : Nat) (s : State) (hK : Keeps s0 s) :
    Keeps s0 (doFidUpdateTimeout f s) := by
  unfold doFidUpdateTimeout
  repeat' first
    | with_reducible assumption | with_reducible apply endUpdate_keeps | with_reducible apply Keeps.ite | split
    | with_reducible refine Keeps.upd ?_ rfl rfl rfl rfl rfl rfl

theorem fidRestartEffect_keeps {s0 : State} (o : Origin) (f : Nat) (s : State) (hK : Keeps s0 s) :
    Keeps s0 (fidRestartEffect o f s) := by
  unfold fidRestartEffect
  repeat' first
    | with_reducible assumption | (extract_lets +onlyGivenNames x; have h1 : Keeps s0 x := ?_; clear_value x; rotate_left; subst x)
    | (extract_lets +onlyGivenNames x; subst x) | with_reducible apply State.setF_keeps | with_reducible apply completeOk_keeps
    | with_reducible apply masterReset_keeps | with_reducible apply setFid_keeps | with_reducible refine Keeps.upd ?_ rfl rfl rfl rfl rfl rfl

theorem doFidRestart_keeps {s0 : State} (o : Origin) (f : Nat) (s : State) (hK : Keeps s0 s) :
    Keeps s0 (doFidRestart o f s) := by
  unfold doFidRestart
  repeat' first
    | with_reducible assumption | intro _ | with_reducible apply loneCommand_keeps | with_reducible apply fidRestartEffect_keeps


/-! Audio -/

theorem setTracker_keeps {s0 : State} (d : Nat) (t : Tracker) (s : State) (hK : Keeps s0 s) :
    Keeps s0 (setTracker d t s) := by
  unfold setTracker
  repeat' first
    | with_reducible assumption | (extract_lets +onlyGivenNames x; have h1 : Keeps s0 x := ?_; clear_value x; rotate_left; subst x)
    | (extract_lets +onlyGivenNames x; subst x) | with_reducible apply setAud_keeps | with_reducible refine Keeps.upd ?_ rfl rfl rfl rfl rfl rfl

theorem raiseDom_keeps {s0 : State} (d b : Nat) (s : State) (hK : Keeps s0 s) :
    Keeps s0 (raiseDom d b s) := by
  unfold raiseDom
  repeat' first
    | with_reducible assumption | (extract_lets +onlyGivenNames x; have h1 : Keeps s0 x := ?_; clear_value x; rotate_left; subst x)
    | (extract_lets +onlyGivenNames x; subst x) | with_reducible apply raiseEn_keeps | with_reducible apply fidEvent_keeps
    | with_reducible apply Keeps.ite | split | with_reducible refine Keeps.upd ?_ rfl rfl rfl rfl rfl rfl

theorem setDomState_keeps {s0 : State} (d st : Nat) (s : State) (hK : Keeps s0 s) :
    Keeps s0 (setDomState d st s) := by
  unfold setDomState
  repeat' first
    | with_reducible assumption | (extract_lets +onlyGivenNames x; have h1 : Keeps s0 x := ?_; clear_value x; rotate_left; subst x)
    | (extract_lets +onlyGivenNames x; subst x) | with_reducible apply State.setF_keeps | with_reducible apply refreshDomain_keeps
    | with_reducible apply setTracker_keeps | with_reducible apply Keeps.ite | split | with_reducible refine Keeps.upd ?_ rfl rfl rfl rfl rfl rfl

theorem domIdle_keeps {s0 : State} (d : Nat) (s : State) (hK : Keeps s0 s) :
    Keeps s0 (domIdle d s) := by
  unfold domIdle
  repeat' first
    | with_reducible assumption | (extract_lets +onlyGivenNames x; have h1 : Keeps s0 x := ?_; clear_value x; rotate_left; subst x)
    | (extract_lets +onlyGivenNames x; subst x) | with_reducible apply State.setBit_keeps | with_reducible apply setAud_keeps
    | with_reducible apply setDomState_keeps | with_reducible apply Keeps.ite | split | with_reducible refine Keeps.upd ?_ rfl rfl rfl rfl rfl rfl

theorem instant_keeps {s0 : State} (d time : Nat) (s : State) (hK : Keeps s0 s) :
    Keeps s0 (instant d time s) := by
  unfold instant
  repeat' first
    | with_reducible assumption | (extract_lets +onlyGivenNames x; have h1 : Keeps s0 x := ?_; clear_value x; rotate_left; subst x)
    | (extract_lets +onlyGivenNames x; subst x) | with_reducible apply State.bump_keeps | with_reducible apply setTracker_keeps
    | with_reducible apply raiseDom_keeps | with_reducible apply setDomState_keeps | with_reducible apply Keeps.ite | split
    | with_reducible refine Keeps.upd ?_ rfl rfl rfl rfl rfl rfl

theorem estimate_keeps {s0 : State} (d m : Nat) (s : State) (hK : Keeps s0 s) :
    Keeps s0 (estimate d m s) := by
  unfold estimate
  repeat' first
    | with_reducible assumption | (extract_lets +onlyGivenNames x; have h1 : Keeps s0 x := ?_; clear_value x; rotate_left; subst x)
    | (extract_lets +onlyGivenNames x; subst x) | with_reducible apply State.setReg_keeps | with_reducible apply State.setBit_keeps
    | with_reducible apply setTracker_keeps | with_reducible apply raiseDom_keeps | with_reducible apply setDomState_keeps
    | with_reducible apply Keeps.ite | split | with_reducible refine Keeps.upd ?_ rfl rfl rfl rfl rfl rfl

theorem slip_keeps {s0 : State} (d bit : Nat) (s : State) (hK : Keeps s0 s) :
    Keeps s0 (slip d bit s) := by
  unfold slip
  repeat' first
    | with_reducible assumption | intro _ | (extract_lets +onlyGivenNames x; have h1 : Keeps s0 x := ?_; clear_value x; rotate_left; subst x)
    | (extract_lets +onlyGivenNames x; subst x) | with_reducible apply State.bump_keeps | with_reducible apply setAud_keeps
    | with_reducible apply amoFault_keeps | with_reducible apply raiseDom_keeps | with_reducible apply foldl_keeps | with_reducible apply Keeps.ite
    | split | with_reducible refine Keeps.upd ?_ rfl rfl rfl rfl rfl rfl

theorem houseBlock_keeps {s0 : State} (d : Nat) (s : State) (hK : Keeps s0 s) :
    Keeps s0 (houseBlock d s) := by
  unfold houseBlock
  repeat' first
    | with_reducible assumption | (extract_lets +onlyGivenNames x; have h1 : Keeps s0 x := ?_; clear_value x; rotate_left; subst x)
    | (extract_lets +onlyGivenNames x; subst x) | with_reducible apply setTracker_keeps | with_reducible apply estimate_keeps
    | with_reducible apply slip_keeps | with_reducible apply Keeps.ite | split | with_reducible refine Keeps.upd ?_ rfl rfl rfl rfl rfl rfl

theorem doSampleInstant_keeps {s0 : State} (d time : Nat) (bclkOk : Bool) (s : State) (hK : Keeps s0 s) :
    Keeps s0 (doSampleInstant d time bclkOk s) := by
  unfold doSampleInstant
  repeat' first
    | with_reducible assumption | (extract_lets +onlyGivenNames x; have h1 : Keeps s0 x := ?_; clear_value x; rotate_left; subst x)
    | (extract_lets +onlyGivenNames x; subst x) | with_reducible apply State.setBit_keeps | with_reducible apply State.bump_keeps
    | with_reducible apply raiseEn_keeps | with_reducible apply setAud_keeps | with_reducible apply instant_keeps | with_reducible apply Keeps.ite
    | split | with_reducible refine Keeps.upd ?_ rfl rfl rfl rfl rfl rfl

theorem doClkLost_keeps {s0 : State} (d : Nat) (s : State) (hK : Keeps s0 s) :
    Keeps s0 (doClkLost d s) := by
  unfold doClkLost
  repeat' first
    | with_reducible assumption | (extract_lets +onlyGivenNames x; have h1 : Keeps s0 x := ?_; clear_value x; rotate_left; subst x)
    | (extract_lets +onlyGivenNames x; subst x) | with_reducible apply State.bump_keeps | with_reducible apply raiseDom_keeps
    | with_reducible apply setDomState_keeps | with_reducible apply Keeps.ite | split

theorem inputBlock_keeps {s0 : State} (o : AudioObs) (s : State) (hK : Keeps s0 s) :
    Keeps s0 (inputBlock o s).2 := by
  unfold inputBlock
  repeat' first
    | with_reducible assumption | intro _ | (extract_lets +onlyGivenNames x; have h1 : Keeps s0 x := ?_; clear_value x; rotate_left; subst x)
    | (extract_lets +onlyGivenNames x; subst x) | with_reducible apply setAud_keeps | with_reducible apply Keeps.ite | split
    | with_reducible refine Keeps.upd ?_ rfl rfl rfl rfl rfl rfl | dsimp only

theorem inputBlocks_keeps {s0 : State} (obs : List AudioObs) (s : State) (hK : Keeps s0 s) : Keeps s0 (inputBlocks obs s).2 := by
  unfold inputBlocks
  suffices h : ∀ (f : Tab (List (Option (Int × Bool))) × State → AudioObs → Tab (List (Option (Int × Bool))) × State)
      (_ : ∀ p o, Keeps s0 p.2 → Keeps s0 (f p o).2) p, Keeps s0 p.2 → Keeps s0 (obs.foldl f p).2 by
    refine h _ (fun p o hp => ?_) _ hK
    dsimp only
    refine inputBlock_keeps _ _ ?_
    split
    · exact setAmiStatus_keeps _ _ _ hp
    · exact hp
  intro f hf
  induction obs with
  | nil => exact fun _ hp => hp
  | cons o l ih => exact fun p hp => ih _ (hf _ _ hp)

theorem convert_keeps {s0 : State} (d : Nat) (blocks : Tab (List (Option (Int × Bool)))) (s : State) (hK : Keeps s0 s) :
    Keeps s0 (convert d blocks s).2 := by
  unfold convert
  repeat' first
    | with_reducible assumption | intro _ | (extract_lets +onlyGivenNames x; have h1 : Keeps s0 x := ?_; clear_value x; rotate_left; subst x)
    | (extract_lets +onlyGivenNames x; subst x) | with_reducible apply setAud_keeps | with_reducible apply foldl_keeps
    | with_reducible apply Keeps.ite | split | with_reducible refine Keeps.upd ?_ rfl rfl rfl rfl rfl rfl | dsimp only

theorem deliverAudio_keeps {s0 : State} (amo : Nat) (out : List (Int × Bool)) (s : State) (hK : Keeps s0 s) :
    Keeps s0 (deliverAudio amo out s) := by
  unfold deliverAudio
  repeat' first
    | with_reducible assumption | intro _ | (extract_lets +onlyGivenNames x; have h1 : Keeps s0 x := ?_; clear_value x; rotate_left; subst x)
    | (extract_lets +onlyGivenNames x; subst x) | with_reducible apply State.emit_keeps | with_reducible apply setAud_keeps
    | with_reducible apply setAmoLine_keeps | with_reducible apply queueAudio_keeps | with_reducible apply Keeps.ite | split
    | with_reducible refine Keeps.upd ?_ rfl rfl rfl rfl rfl rfl

theorem amoBlock_keeps {s0 : State} (d : Nat) (blocks : Tab (List (Option (Int × Bool)))) (gap : Option Nat) (amo : Nat) (s : State) (hK : Keeps s0 s) :
    Keeps s0 (amoBlock d blocks gap amo s) := by
  unfold amoBlock
  repeat' first
    | with_reducible assumption | intro _ | (extract_lets +onlyGivenNames x; have h1 : Keeps s0 x := ?_; clear_value x; rotate_left; subst x)
    | (extract_lets +onlyGivenNames x; subst x) | with_reducible apply setAmoLine_keeps | with_reducible apply amoFault_keeps
    | with_reducible apply amoResume_keeps | with_reducible apply slip_keeps | with_reducible apply deliverAudio_keeps
    | with_reducible apply foldl_keeps | with_reducible apply Keeps.ite | split | with_reducible refine Keeps.upd ?_ rfl rfl rfl rfl rfl rfl

theorem sapSend_keeps {s0 : State} (p : Nat) (s : State) (hK : Keeps s0 s) :
    Keeps s0 (sapSend p s) := by
  unfold sapSend
  repeat' first
    | with_reducible assumption | intro _ | (extract_lets +onlyGivenNames x; have h1 : Keeps s0 x := ?_; clear_value x; rotate_left; subst x)
    | (extract_lets +onlyGivenNames x; subst x) | with_reducible apply State.emit_keeps | with_reducible apply Keeps.ite | split

theorem sapSends_keeps {s0 : State} (d : Nat) (s : State) (hK : Keeps s0 s) :
    Keeps s0 (sapSends d s) := by
  unfold sapSends
  repeat' first
    | with_reducible assumption | intro _ | with_reducible apply sapSend_keeps | with_reducible apply foldl_keeps | with_reducible apply Keeps.ite
    | split

theorem amoBlocks_keeps {s0 : State} (d : Nat) (obs : List AudioObs) (s : State) (hK : Keeps s0 s) :
    Keeps s0 (amoBlocks d obs s) := by
  unfold amoBlocks
  repeat' first
    | with_reducible assumption | intro _ | (extract_lets +onlyGivenNames x; have h1 : Keeps s0 x := ?_; clear_value x; rotate_left; subst x)
    | (extract_lets +onlyGivenNames x; subst x) | with_reducible apply setAud_keeps | with_reducible apply groupResume_keeps
    | with_reducible apply inputBlocks_keeps | with_reducible apply convert_keeps | with_reducible apply amoBlock_keeps
    | with_reducible apply sapSends_keeps | with_reducible apply foldl_keeps | with_reducible apply Keeps.ite | split
    | with_reducible refine Keeps.upd ?_ rfl rfl rfl rfl rfl rfl

theorem applyArms_keeps {s0 : State} (d : Nat) (s : State) (hK : Keeps s0 s) :
    Keeps s0 (applyArms d s) := by
  unfold applyArms
  repeat' first
    | with_reducible assumption | intro _ | (extract_lets +onlyGivenNames x; have h1 : Keeps s0 x := ?_; clear_value x; rotate_left; subst x)
    | (extract_lets +onlyGivenNames x; subst x) | with_reducible apply completeOk_keeps | with_reducible apply wakeUsed_keeps
    | with_reducible apply setAud_keeps | with_reducible apply bindAudio_keeps | with_reducible apply foldl_keeps | with_reducible apply Keeps.ite
    | split | with_reducible refine Keeps.upd ?_ rfl rfl rfl rfl rfl rfl

theorem startMasters_keeps {s0 : State} (s : State) (hK : Keeps s0 s) :
    Keeps s0 (startMasters s) := by
  unfold startMasters
  repeat' first
    | with_reducible assumption | intro _ | (extract_lets +onlyGivenNames x; have h1 : Keeps s0 x := ?_; clear_value x; rotate_left; subst x)
    | (extract_lets +onlyGivenNames x; subst x) | with_reducible apply State.setBit_keeps | with_reducible apply setAud_keeps
    | with_reducible apply foldl_keeps | with_reducible refine Keeps.upd ?_ rfl rfl rfl rfl rfl rfl

theorem doBlockBoundary_keeps {s0 : State} (d : Nat) (obs : List AudioObs) (s : State) (hK : Keeps s0 s) :
    Keeps s0 (doBlockBoundary d obs s) := by
  unfold doBlockBoundary
  repeat' first
    | with_reducible assumption | intro _ | (extract_lets +onlyGivenNames x; have h1 : Keeps s0 x := ?_; clear_value x; rotate_left; subst x)
    | (extract_lets +onlyGivenNames x; subst x) | with_reducible apply tickFids_keeps | with_reducible apply houseBlock_keeps
    | with_reducible apply amoBlocks_keeps | with_reducible apply applyArms_keeps | with_reducible apply startMasters_keeps
    | with_reducible apply foldl_keeps | with_reducible apply Keeps.ite | split

theorem tenLast_keeps {s0 : State} (t : Nat) (st : Status) (s : State) (hK : Keeps s0 s) :
    Keeps s0 (tenLast t st s) := by
  unfold tenLast
  repeat' first
    | with_reducible assumption | with_reducible apply State.setF_keeps

theorem audioHitchEffect_keeps {s0 : State} (o : Origin) (amo : Nat) (ami : Option Nat) (group : Nat) (s : State) (hK : Keeps s0 s) :
    Keeps s0 (audioHitchEffect o amo ami group s) := by
  unfold audioHitchEffect
  repeat' first
    | with_reducible assumption | intro _ | (extract_lets +onlyGivenNames x; have h1 : Keeps s0 x := ?_; clear_value x; rotate_left; subst x)
    | (extract_lets +onlyGivenNames x; subst x) | with_reducible apply complete_keeps | with_reducible apply updSet_keeps
    | with_reducible apply setAud_keeps | with_reducible apply addOp_keeps | with_reducible apply foldl_keeps | with_reducible apply Keeps.ite | split
    | with_reducible refine Keeps.upd ?_ rfl rfl rfl rfl rfl rfl

theorem doAudioHitch_keeps {s0 : State} (o : Origin) (amo ami group : Nat) (s : State) (hK : Keeps s0 s) :
    Keeps s0 (doAudioHitch o amo ami group s) := by
  unfold doAudioHitch
  repeat' first
    | with_reducible assumption | intro _ | with_reducible apply mailbox_keeps | with_reducible apply hostCommand_keeps
    | with_reducible apply addOp_keeps | with_reducible apply audioHitchEffect_keeps

theorem doAudioUnhitch_keeps {s0 : State} (o : Origin) (amo group : Nat) (s : State) (hK : Keeps s0 s) :
    Keeps s0 (doAudioUnhitch o amo group s) := by
  unfold doAudioUnhitch
  repeat' first
    | with_reducible assumption | intro _ | with_reducible apply mailbox_keeps | with_reducible apply hostCommand_keeps
    | with_reducible apply addOp_keeps | with_reducible apply audioHitchEffect_keeps

theorem setAmoCfg_keeps {s0 : State} (amo fade agroup : Nat) (s : State) (hK : Keeps s0 s) :
    Keeps s0 (setAmoCfg amo fade agroup s) := by
  unfold setAmoCfg
  repeat' first
    | with_reducible assumption | (extract_lets +onlyGivenNames x; have h1 : Keeps s0 x := ?_; clear_value x; rotate_left; subst x)
    | (extract_lets +onlyGivenNames x; subst x) | with_reducible apply State.setF_keeps | with_reducible apply setAud_keeps
    | with_reducible apply refreshAgroup_keeps | with_reducible apply Keeps.ite | split | with_reducible refine Keeps.upd ?_ rfl rfl rfl rfl rfl rfl

theorem doAudioPortSet_keeps {s0 : State} (o : Origin) (amo count fade agroup : Nat) (s : State) (hK : Keeps s0 s) :
    Keeps s0 (doAudioPortSet o amo count fade agroup s) := by
  unfold doAudioPortSet
  repeat' first
    | with_reducible assumption | intro _ | with_reducible apply completeOk_keeps | with_reducible apply mailbox_keeps
    | with_reducible apply loneCommand_keeps | with_reducible apply setAmoCfg_keeps | with_reducible apply foldl_keeps

theorem amoWrite_keeps {s0 : State} (t n : Nat) (l : Loc) (a : Nat) (v : Word) (s : State) (hK : Keeps s0 s) :
    Keeps s0 (amoWrite t n l a v s) := by
  unfold amoWrite
  repeat' first
    | with_reducible assumption | (extract_lets +onlyGivenNames x; have h1 : Keeps s0 x := ?_; clear_value x; rotate_left; subst x)
    | (extract_lets +onlyGivenNames x; subst x) | with_reducible apply plainWrite_keeps | with_reducible apply tenLast_keeps
    | with_reducible apply setAmoCfg_keeps | with_reducible apply Keeps.ite | split | with_reducible refine Keeps.upd ?_ rfl rfl rfl rfl rfl rfl

theorem setDomMode_keeps {s0 : State} (d mode : Nat) (s : State) (hK : Keeps s0 s) :
    Keeps s0 (setDomMode d mode s) := by
  unfold setDomMode
  repeat' first
    | with_reducible assumption | (extract_lets +onlyGivenNames x; have h1 : Keeps s0 x := ?_; clear_value x; rotate_left; subst x)
    | (extract_lets +onlyGivenNames x; subst x) | with_reducible apply State.setF_keeps | with_reducible apply setTracker_keeps
    | with_reducible apply Keeps.ite | split | with_reducible refine Keeps.upd ?_ rfl rfl rfl rfl rfl rfl

theorem doAudioDomainSet_keeps {s0 : State} (o : Origin) (d mode : Nat) (s : State) (hK : Keeps s0 s) :
    Keeps s0 (doAudioDomainSet o d mode s) := by
  unfold doAudioDomainSet
  repeat' first
    | with_reducible assumption | intro _ | with_reducible apply completeOk_keeps | with_reducible apply loneCommand_keeps
    | with_reducible apply setDomMode_keeps

theorem domWrite_keeps {s0 : State} (t d : Nat) (l : Loc) (a : Nat) (v : Word) (s : State) (hK : Keeps s0 s) :
    Keeps s0 (domWrite t d l a v s) := by
  unfold domWrite
  repeat' first
    | with_reducible assumption | with_reducible apply plainWrite_keeps | with_reducible apply tenLast_keeps | with_reducible apply setDomMode_keeps
    | with_reducible apply Keeps.ite | split | with_reducible refine Keeps.upd ?_ rfl rfl rfl rfl rfl rfl

theorem setGroupSlip_keeps {s0 : State} (g slip : Nat) (s : State) (hK : Keeps s0 s) :
    Keeps s0 (setGroupSlip g slip s) := by
  unfold setGroupSlip
  repeat' first
    | with_reducible assumption | with_reducible apply State.setF_keeps | with_reducible apply slip_keeps

theorem doAgroupSet_keeps {s0 : State} (o : Origin) (g slip : Nat) (s : State) (hK : Keeps s0 s) :
    Keeps s0 (doAgroupSet o g slip s) := by
  unfold doAgroupSet
  repeat' first
    | with_reducible assumption | intro _ | with_reducible apply completeOk_keeps | with_reducible apply loneCommand_keeps
    | with_reducible apply slip_keeps | with_reducible apply setGroupSlip_keeps

theorem agrpWrite_keeps {s0 : State} (t g : Nat) (l : Loc) (a : Nat) (v : Word) (s : State) (hK : Keeps s0 s) :
    Keeps s0 (agrpWrite t g l a v s) := by
  unfold agrpWrite
  repeat' first
    | with_reducible assumption | with_reducible apply plainWrite_keeps | with_reducible apply tenLast_keeps | with_reducible apply setGroupSlip_keeps
    | with_reducible apply Keeps.ite | split

theorem setSap_keeps {s0 : State} (n : Nat) (tx : Bool) (v mask : Word) (s : State) (hK : Keeps s0 s) :
    Keeps s0 (setSap n tx v mask s) := by
  unfold setSap
  repeat' first
    | with_reducible assumption | (extract_lets +onlyGivenNames x; have h1 : Keeps s0 x := ?_; clear_value x; rotate_left; subst x)
    | (extract_lets +onlyGivenNames x; subst x) | with_reducible apply State.setReg_keeps | with_reducible apply State.setBit_keeps
    | with_reducible apply setAud_keeps | with_reducible apply refreshDomain_keeps | with_reducible apply domIdle_keeps
    | with_reducible apply Keeps.ite | split | with_reducible refine Keeps.upd ?_ rfl rfl rfl rfl rfl rfl

theorem sapLast_keeps {s0 : State} (n : Nat) (st : Status) (s : State) (hK : Keeps s0 s) :
    Keeps s0 (sapLast n st s) := by
  unfold sapLast
  repeat' first
    | with_reducible assumption | with_reducible apply State.setF_keeps

theorem sapDirWrite_keeps {s0 : State} (n : Nat) (tx : Bool) (v mask : Word) (s : State) (hK : Keeps s0 s) :
    Keeps s0 (sapDirWrite n tx v mask s) := by
  unfold sapDirWrite
  repeat' first
    | with_reducible assumption | with_reducible apply setSap_keeps | with_reducible apply sapLast_keeps | with_reducible apply Keeps.ite | split
    | with_reducible refine Keeps.upd ?_ rfl rfl rfl rfl rfl rfl

theorem doSapEnable_keeps {s0 : State} (m : Master) (n : Nat) (tx : Bool) (v : Word) (s : State) (hK : Keeps s0 s) :
    Keeps s0 (doSapEnable m n tx v s) := by
  unfold doSapEnable
  repeat' first
    | with_reducible assumption | intro _ | with_reducible apply gatedWrite_keeps | with_reducible apply sapDirWrite_keeps

theorem sapSetEffect_keeps {s0 : State} (o : Origin) (n mask : Nat) (block : Option (List Word)) (s : State) (hK : Keeps s0 s) :
    Keeps s0 (sapSetEffect o n mask block s) := by
  unfold sapSetEffect
  repeat' first
    | with_reducible assumption | (extract_lets +onlyGivenNames x; have h1 : Keeps s0 x := ?_; clear_value x; rotate_left; subst x)
    | (extract_lets +onlyGivenNames x; subst x) | with_reducible apply completeOk_keeps | with_reducible apply setSap_keeps
    | with_reducible apply Keeps.ite | split

theorem doSapSet_keeps {s0 : State} (o : Origin) (n mask : Nat) (block : Option (List Word)) (s : State) (hK : Keeps s0 s) :
    Keeps s0 (doSapSet o n mask block s) := by
  unfold doSapSet
  repeat' first
    | with_reducible assumption | intro _ | with_reducible apply loneCommand_keeps | with_reducible apply sapSetEffect_keeps

theorem setTap_keeps {s0 : State} (n : Nat) (ctrl : Word) (base size : Nat) (s : State) (hK : Keeps s0 s) :
    Keeps s0 (setTap n ctrl base size s) := by
  unfold setTap
  repeat' first
    | with_reducible assumption | (extract_lets +onlyGivenNames x; have h1 : Keeps s0 x := ?_; clear_value x; rotate_left; subst x)
    | (extract_lets +onlyGivenNames x; subst x) | with_reducible apply State.setReg_keeps | with_reducible apply setAud_keeps
    | with_reducible apply Keeps.ite | split | with_reducible refine Keeps.upd ?_ rfl rfl rfl rfl rfl rfl

theorem doAudioTapSet_keeps {s0 : State} (o : Origin) (n : Nat) (ctrl : Word) (base size : Nat) (s : State) (hK : Keeps s0 s) :
    Keeps s0 (doAudioTapSet o n ctrl base size s) := by
  unfold doAudioTapSet
  repeat' first
    | with_reducible assumption | intro _ | with_reducible apply completeOk_keeps | with_reducible apply loneCommand_keeps
    | with_reducible apply setTap_keeps

theorem sapWrite_keeps {s0 : State} (n : Nat) (l : Loc) (a : Nat) (v : Word) (s : State) (hK : Keeps s0 s) :
    Keeps s0 (sapWrite n l a v s) := by
  unfold sapWrite
  repeat' first
    | with_reducible assumption | (extract_lets +onlyGivenNames x; have h1 : Keeps s0 x := ?_; clear_value x; rotate_left; subst x)
    | (extract_lets +onlyGivenNames x; subst x) | with_reducible apply State.setReg_keeps | with_reducible apply plainWrite_keeps
    | with_reducible apply sapLast_keeps | with_reducible apply sapDirWrite_keeps | with_reducible apply setTap_keeps | with_reducible apply Keeps.ite
    | split | with_reducible refine Keeps.upd ?_ rfl rfl rfl rfl rfl rfl

theorem doTapRecord_keeps {s0 : State} (n time : Nat) (frames : List (List Int)) (s : State) (hK : Keeps s0 s) :
    Keeps s0 (doTapRecord n time frames s) := by
  unfold doTapRecord
  repeat' first
    | with_reducible assumption | intro _ | (extract_lets +onlyGivenNames x; have h1 : Keeps s0 x := ?_; clear_value x; rotate_left; subst x)
    | (extract_lets +onlyGivenNames x; subst x) | with_reducible apply State.setReg_keeps | with_reducible apply State.bump_keeps
    | with_reducible apply State.emit_keeps | with_reducible apply raiseEn_keeps | with_reducible apply setAud_keeps | with_reducible apply Keeps.ite
    | split | with_reducible refine Keeps.upd ?_ rfl rfl rfl rfl rfl rfl

theorem raiseAi_keeps {s0 : State} (n b : Nat) (s : State) (hK : Keeps s0 s) :
    Keeps s0 (raiseAi n b s) := by
  unfold raiseAi
  repeat' first
    | with_reducible assumption | with_reducible apply raiseEn_keeps

theorem aesSubframe_keeps {s0 : State} (n : Nat) (sub : Bool) (bytes : List Byte) (s : State) (hK : Keeps s0 s) :
    Keeps s0 (aesSubframe n sub bytes s) := by
  unfold aesSubframe
  repeat' first
    | with_reducible assumption | intro _ | (extract_lets +onlyGivenNames x; have h1 : Keeps s0 x := ?_; clear_value x; rotate_left; subst x)
    | (extract_lets +onlyGivenNames x; subst x) | with_reducible apply State.setReg_keeps | with_reducible apply State.setBit_keeps
    | with_reducible apply State.bump_keeps | with_reducible apply setAud_keeps | with_reducible apply setAmiStatus_keeps
    | with_reducible apply raiseAi_keeps | with_reducible apply foldl_keeps | with_reducible apply Keeps.ite | split
    | with_reducible refine Keeps.upd ?_ rfl rfl rfl rfl rfl rfl

theorem restartBlocks_keeps {s0 : State} (n : Nat) (s : State) (hK : Keeps s0 s) :
    Keeps s0 (restartBlocks n s) := by
  unfold restartBlocks
  repeat' first
    | with_reducible assumption | intro _ | (extract_lets +onlyGivenNames x; have h1 : Keeps s0 x := ?_; clear_value x; rotate_left; subst x)
    | (extract_lets +onlyGivenNames x; subst x) | with_reducible apply setAmoLine_keeps | with_reducible apply foldl_keeps
    | with_reducible refine Keeps.upd ?_ rfl rfl rfl rfl rfl rfl

theorem doAes3Block_keeps {s0 : State} (n : Nat) (a b : List Byte) (s : State) (hK : Keeps s0 s) :
    Keeps s0 (doAes3Block n a b s) := by
  unfold doAes3Block
  repeat' first
    | with_reducible assumption | with_reducible apply State.setBit_keeps | with_reducible apply aesSubframe_keeps
    | with_reducible apply restartBlocks_keeps | with_reducible apply Keeps.ite | split

theorem doBlockSyncLost_keeps {s0 : State} (n : Nat) (s : State) (hK : Keeps s0 s) :
    Keeps s0 (doBlockSyncLost n s) := by
  unfold doBlockSyncLost
  repeat' first
    | with_reducible assumption | with_reducible apply State.setBit_keeps | with_reducible apply raiseAi_keeps | with_reducible apply Keeps.ite
    | split

theorem doParityErr_keeps {s0 : State} (n : Nat) (sub : Bool) (position : Nat) (s : State) (hK : Keeps s0 s) :
    Keeps s0 (doParityErr n sub position s) := by
  unfold doParityErr
  repeat' first
    | with_reducible assumption | (extract_lets +onlyGivenNames x; have h1 : Keeps s0 x := ?_; clear_value x; rotate_left; subst x)
    | (extract_lets +onlyGivenNames x; subst x) | with_reducible apply State.bump_keeps | with_reducible apply setAud_keeps
    | with_reducible apply raiseAi_keeps | with_reducible apply Keeps.ite | split | with_reducible refine Keeps.upd ?_ rfl rfl rfl rfl rfl rfl

theorem setAi_keeps {s0 : State} (n : Nat) (v : Word) (s : State) (hK : Keeps s0 s) :
    Keeps s0 (setAi n v s) := by
  unfold setAi
  repeat' first
    | with_reducible assumption | (extract_lets +onlyGivenNames x; have h1 : Keeps s0 x := ?_; clear_value x; rotate_left; subst x)
    | (extract_lets +onlyGivenNames x; subst x) | with_reducible apply State.setReg_keeps | with_reducible apply State.setBit_keeps
    | with_reducible apply refreshDomain_keeps | with_reducible apply domIdle_keeps | with_reducible apply Keeps.ite | split

theorem setAo_keeps {s0 : State} (n : Nat) (v : Word) (s : State) (hK : Keeps s0 s) :
    Keeps s0 (setAo n v s) := by
  unfold setAo
  repeat' first
    | with_reducible assumption | with_reducible apply State.setReg_keeps | with_reducible apply State.setBit_keeps

theorem setAoCs_keeps {s0 : State} (n : Nat) (sub : Bool) (l : List Byte) (s : State) (hK : Keeps s0 s) :
    Keeps s0 (setAoCs n sub l s) := by
  unfold setAoCs
  repeat' first
    | with_reducible assumption | intro _ | (extract_lets +onlyGivenNames x; have h1 : Keeps s0 x := ?_; clear_value x; rotate_left; subst x)
    | (extract_lets +onlyGivenNames x; subst x) | with_reducible apply State.setReg_keeps | with_reducible apply foldl_keeps

theorem aesSetEffect_keeps {s0 : State} (o : Origin) (port : Nat) (cfg : Word) (cs : Option (List Byte)) (s : State) (hK : Keeps s0 s) :
    Keeps s0 (aesSetEffect o port cfg cs s) := by
  unfold aesSetEffect
  repeat' first
    | with_reducible assumption | with_reducible apply completeOk_keeps | with_reducible apply setAi_keeps | with_reducible apply setAo_keeps
    | with_reducible apply setAoCs_keeps | with_reducible apply Keeps.ite | split

theorem doAesSet_keeps {s0 : State} (o : Origin) (port : Nat) (cfg : Word) (cs : Option (List Byte)) (s : State) (hK : Keeps s0 s) :
    Keeps s0 (doAesSet o port cfg cs s) := by
  unfold doAesSet
  repeat' first
    | with_reducible assumption | intro _ | with_reducible apply loneCommand_keeps | with_reducible apply aesSetEffect_keeps

theorem aiWrite_keeps {s0 : State} (n : Nat) (l : Loc) (a : Nat) (v : Word) (s : State) (hK : Keeps s0 s) :
    Keeps s0 (aiWrite n l a v s) := by
  unfold aiWrite
  repeat' first
    | with_reducible assumption | (extract_lets +onlyGivenNames x; have h1 : Keeps s0 x := ?_; clear_value x; rotate_left; subst x)
    | (extract_lets +onlyGivenNames x; subst x) | with_reducible apply State.setF_keeps | with_reducible apply plainWrite_keeps
    | with_reducible apply setAi_keeps | with_reducible apply Keeps.ite | split | with_reducible refine Keeps.upd ?_ rfl rfl rfl rfl rfl rfl

theorem aoWrite_keeps {s0 : State} (n : Nat) (l : Loc) (a : Nat) (v : Word) (s : State) (hK : Keeps s0 s) :
    Keeps s0 (aoWrite n l a v s) := by
  unfold aoWrite
  repeat' first
    | with_reducible assumption | (extract_lets +onlyGivenNames x; have h1 : Keeps s0 x := ?_; clear_value x; rotate_left; subst x)
    | (extract_lets +onlyGivenNames x; subst x) | with_reducible apply State.setReg_keeps | with_reducible apply State.setF_keeps
    | with_reducible apply setAo_keeps | with_reducible apply setAoCs_keeps | with_reducible apply Keeps.ite | split
    | with_reducible refine Keeps.upd ?_ rfl rfl rfl rfl rfl rfl

theorem setSrcCfg_keeps {s0 : State} (c : Nat) (enable : Bool) (domain : Nat) (s : State) (hK : Keeps s0 s) :
    Keeps s0 (setSrcCfg c enable domain s) := by
  unfold setSrcCfg
  repeat' first
    | with_reducible assumption | with_reducible apply State.setReg_keeps | with_reducible apply refreshAmi_keeps
    | with_reducible apply refreshSrc_keeps

theorem doSrcSet_keeps {s0 : State} (o : Origin) (first count : Nat) (enable : Bool) (domain : Nat) (s : State) (hK : Keeps s0 s) :
    Keeps s0 (doSrcSet o first count enable domain s) := by
  unfold doSrcSet
  repeat' first
    | with_reducible assumption | intro _ | with_reducible apply completeOk_keeps | with_reducible apply loneCommand_keeps
    | with_reducible apply setSrcCfg_keeps | with_reducible apply foldl_keeps

theorem srcWrite_keeps {s0 : State} (c : Nat) (l : Loc) (a : Nat) (v : Word) (s : State) (hK : Keeps s0 s) :
    Keeps s0 (srcWrite c l a v s) := by
  unfold srcWrite
  repeat' first
    | with_reducible assumption | (extract_lets +onlyGivenNames x; have h1 : Keeps s0 x := ?_; clear_value x; rotate_left; subst x)
    | (extract_lets +onlyGivenNames x; subst x) | with_reducible apply State.setF_keeps | with_reducible apply plainWrite_keeps
    | with_reducible apply setSrcCfg_keeps | with_reducible apply Keeps.ite | split | with_reducible refine Keeps.upd ?_ rfl rfl rfl rfl rfl rfl


/-! Host -/

theorem setHost_keeps {s0 : State} (h : HostState) (s : State) (hK : Keeps s0 s) :
    Keeps s0 (setHost h s) := by
  unfold setHost
  repeat' first
    | with_reducible assumption | (extract_lets +onlyGivenNames x; have h1 : Keeps s0 x := ?_; clear_value x; rotate_left; subst x)
    | (extract_lets +onlyGivenNames x; subst x) | with_reducible refine Keeps.upd ?_ rfl rfl rfl rfl rfl rfl

theorem tenResult_keeps {s0 : State} (t : Nat) (st : Status) (s : State) (hK : Keeps s0 s) :
    Keeps s0 (tenResult t st s) := by
  unfold tenResult
  repeat' first
    | with_reducible assumption | with_reducible apply State.setF_keeps

theorem drainEvq_keeps {s0 : State} (t : Nat) (s : State) (hK : Keeps s0 s) :
    Keeps s0 (drainEvq t s) := by
  unfold drainEvq
  repeat' first
    | with_reducible assumption | intro _ | (extract_lets +onlyGivenNames x; have h1 : Keeps s0 x := ?_; clear_value x; rotate_left; subst x)
    | (extract_lets +onlyGivenNames x; subst x) | with_reducible apply State.setEvq_keeps | with_reducible apply writeEvent_keeps
    | with_reducible apply postEvent_keeps | with_reducible apply foldl_keeps | with_reducible apply Keeps.ite | split
    | with_reducible refine Keeps.upd ?_ rfl rfl rfl rfl rfl rfl

theorem drainCqF_keeps {s0 : State} (t c : Nat) (b0 : Nat) (b1 : State) (hK : Keeps s0 b1) :
    Keeps s0 (drainCqF t c b0 b1) := by
  induction b0 generalizing b1 with
  | zero => unfold drainCqF; with_reducible assumption
  | succ _ ih =>
  unfold drainCqF
  repeat' first
    | with_reducible assumption | (extract_lets +onlyGivenNames x; have h1 : Keeps s0 x := ?_; clear_value x; rotate_left; subst x)
    | (extract_lets +onlyGivenNames x; subst x) | with_reducible apply ih | with_reducible apply State.setCq_keeps
    | with_reducible apply raiseTen_keeps | with_reducible apply writeCompletion_keeps | with_reducible apply Keeps.ite | split
    | with_reducible refine Keeps.upd ?_ rfl rfl rfl rfl rfl rfl

theorem drainCq_keeps {s0 : State} (t c : Nat) (s : State) (hK : Keeps s0 s) :
    Keeps s0 (drainCq t c s) := by
  unfold drainCq
  repeat' first
    | with_reducible assumption | with_reducible apply drainCqF_keeps | with_reducible apply Keeps.ite | split

theorem doorbellError_keeps {s0 : State} (t : Nat) (s : State) (hK : Keeps s0 s) :
    Keeps s0 (doorbellError t s) := by
  unfold doorbellError
  repeat' first
    | with_reducible assumption | with_reducible apply State.bump_keeps | with_reducible apply raiseTen_keeps

theorem sqTail_keeps {s0 : State} (t q : Nat) (v : Word) (s : State) (hK : Keeps s0 s) :
    Keeps s0 (sqTail t q v s) := by
  unfold sqTail
  repeat' first
    | with_reducible assumption | with_reducible apply State.setF_keeps | with_reducible apply doorbellError_keeps | with_reducible apply Keeps.ite
    | split

theorem cqHead_keeps {s0 : State} (t c : Nat) (v : Word) (s : State) (hK : Keeps s0 s) :
    Keeps s0 (cqHead t c v s) := by
  unfold cqHead
  repeat' first
    | with_reducible assumption | (extract_lets +onlyGivenNames x; have h1 : Keeps s0 x := ?_; clear_value x; rotate_left; subst x)
    | (extract_lets +onlyGivenNames x; subst x) | with_reducible apply State.setCq_keeps | with_reducible apply drainCq_keeps
    | with_reducible apply doorbellError_keeps | with_reducible apply Keeps.ite | split | with_reducible refine Keeps.upd ?_ rfl rfl rfl rfl rfl rfl

theorem evqHead_keeps {s0 : State} (t : Nat) (v : Word) (s : State) (hK : Keeps s0 s) :
    Keeps s0 (evqHead t v s) := by
  unfold evqHead
  repeat' first
    | with_reducible assumption | (extract_lets +onlyGivenNames x; have h1 : Keeps s0 x := ?_; clear_value x; rotate_left; subst x)
    | (extract_lets +onlyGivenNames x; subst x) | with_reducible apply State.setEvq_keeps | with_reducible apply drainEvq_keeps
    | with_reducible apply doorbellError_keeps | with_reducible apply Keeps.ite | split | with_reducible refine Keeps.upd ?_ rfl rfl rfl rfl rfl rfl

theorem setPendingBit_keeps {s0 : State} (t v : Nat) (b : Bool) (s : State) (hK : Keeps s0 s) :
    Keeps s0 (setPendingBit t v b s) := by
  unfold setPendingBit
  repeat' first
    | with_reducible assumption | (extract_lets +onlyGivenNames x; have h1 : Keeps s0 x := ?_; clear_value x; rotate_left; subst x)
    | (extract_lets +onlyGivenNames x; subst x) | with_reducible apply setHost_keeps | with_reducible refine Keeps.upd ?_ rfl rfl rfl rfl rfl rfl

theorem sendMessage_keeps {s0 : State} (t v : Nat) (s : State) (hK : Keeps s0 s) :
    Keeps s0 (sendMessage t v s) := by
  unfold sendMessage
  repeat' first
    | with_reducible assumption | with_reducible apply State.emit_keeps | with_reducible apply setPendingBit_keeps | with_reducible apply Keeps.ite
    | split

theorem msixWrite_keeps {s0 : State} (t w : Nat) (v : Word) (s : State) (hK : Keeps s0 s) :
    Keeps s0 (msixWrite t w v s) := by
  unfold msixWrite
  repeat' first
    | with_reducible assumption | (extract_lets +onlyGivenNames x; have h1 : Keeps s0 x := ?_; clear_value x; rotate_left; subst x)
    | (extract_lets +onlyGivenNames x; subst x) | with_reducible apply State.emit_keeps | with_reducible apply setHost_keeps
    | with_reducible apply setPendingBit_keeps | with_reducible apply Keeps.ite | split | with_reducible refine Keeps.upd ?_ rfl rfl rfl rfl rfl rfl

theorem doMsixMessage_keeps {s0 : State} (t ring : Nat) (s : State) (hK : Keeps s0 s) :
    Keeps s0 (doMsixMessage t ring s) := by
  unfold doMsixMessage
  repeat' first
    | with_reducible assumption | (extract_lets +onlyGivenNames x; have h1 : Keeps s0 x := ?_; clear_value x; rotate_left; subst x)
    | (extract_lets +onlyGivenNames x; subst x) | with_reducible apply State.setEvq_keeps | with_reducible apply State.setCq_keeps
    | with_reducible apply sendMessage_keeps | with_reducible apply Keeps.ite | split | with_reducible refine Keeps.upd ?_ rfl rfl rfl rfl rfl rfl

theorem queueCfg_keeps {s0 : State} (t a : Nat) (lo cfg old : Word) (least : Nat) (mayEnable mayDisable : Bool) (on off : State → State) (s : State) (hK : Keeps s0 s) (hon : ∀ (a0 : State), Keeps s0 a0 → Keeps s0 (on a0)) (hoff : ∀ (a0 : State), Keeps s0 a0 → Keeps s0 (off a0)) :
    Keeps s0 (queueCfg t a lo cfg old least mayEnable mayDisable on off s) := by
  unfold queueCfg
  repeat' first
    | with_reducible assumption | with_reducible apply hon | with_reducible apply hoff | with_reducible apply State.setReg_keeps
    | with_reducible apply tenResult_keeps | with_reducible apply Keeps.ite | split

theorem sqOff_keeps {s0 : State} (t q : Nat) (s : State) (hK : Keeps s0 s) :
    Keeps s0 (sqOff t q s) := by
  unfold sqOff
  repeat' first
    | with_reducible assumption | with_reducible apply rollback_keeps | with_reducible apply dropBatch_keeps | with_reducible apply Keeps.ite | split
    | with_reducible refine Keeps.upd ?_ rfl rfl rfl rfl rfl rfl

theorem sqWrite_keeps {s0 : State} (t q k a : Nat) (v : Word) (s : State) (hK : Keeps s0 s) :
    Keeps s0 (sqWrite t q k a v s) := by
  unfold sqWrite
  repeat' first
    | with_reducible assumption | intro _ | (extract_lets +onlyGivenNames x; have h1 : Keeps s0 x := ?_; clear_value x; rotate_left; subst x)
    | (extract_lets +onlyGivenNames x; subst x) | with_reducible apply State.setReg_keeps | with_reducible apply State.setBit_keeps
    | with_reducible apply tenResult_keeps | with_reducible apply queueCfg_keeps | with_reducible apply sqOff_keeps | with_reducible apply Keeps.ite
    | split

theorem cqWrite_keeps {s0 : State} (t c k a : Nat) (v : Word) (s : State) (hK : Keeps s0 s) :
    Keeps s0 (cqWrite t c k a v s) := by
  unfold cqWrite
  repeat' first
    | with_reducible assumption | intro _ | (extract_lets +onlyGivenNames x; have h1 : Keeps s0 x := ?_; clear_value x; rotate_left; subst x)
    | (extract_lets +onlyGivenNames x; subst x) | with_reducible apply State.setReg_keeps | with_reducible apply State.setF_keeps
    | with_reducible apply State.setCq_keeps | with_reducible apply tenResult_keeps | with_reducible apply drainCq_keeps
    | with_reducible apply queueCfg_keeps | with_reducible apply Keeps.ite | split | with_reducible refine Keeps.upd ?_ rfl rfl rfl rfl rfl rfl

theorem evqWrite_keeps {s0 : State} (t k a : Nat) (v : Word) (s : State) (hK : Keeps s0 s) :
    Keeps s0 (evqWrite t k a v s) := by
  unfold evqWrite
  repeat' first
    | with_reducible assumption | intro _ | (extract_lets +onlyGivenNames x; have h1 : Keeps s0 x := ?_; clear_value x; rotate_left; subst x)
    | (extract_lets +onlyGivenNames x; subst x) | with_reducible apply State.setReg_keeps | with_reducible apply State.setF_keeps
    | with_reducible apply State.setEvq_keeps | with_reducible apply tenResult_keeps | with_reducible apply queueCfg_keeps
    | with_reducible apply Keeps.ite | split

theorem setFenceHeld_keeps {s0 : State} (t n : Nat) (v : Option Word) (s : State) (hK : Keeps s0 s) :
    Keeps s0 (setFenceHeld t n v s) := by
  unfold setFenceHeld
  repeat' first
    | with_reducible assumption | (extract_lets +onlyGivenNames x; have h1 : Keeps s0 x := ?_; clear_value x; rotate_left; subst x)
    | (extract_lets +onlyGivenNames x; subst x) | with_reducible apply setHost_keeps | with_reducible apply Keeps.ite | split
    | with_reducible refine Keeps.upd ?_ rfl rfl rfl rfl rfl rfl

theorem fenceLo_keeps {s0 : State} (t n : Nat) (v : Word) (s : State) (hK : Keeps s0 s) :
    Keeps s0 (fenceLo t n v s) := by
  unfold fenceLo
  repeat' first
    | with_reducible assumption | with_reducible apply setFenceHeld_keeps

theorem fenceHi_keeps {s0 : State} (t n : Nat) (v : Word) (s : State) (hK : Keeps s0 s) :
    Keeps s0 (fenceHi t n v s) := by
  unfold fenceHi
  repeat' first
    | with_reducible assumption | (extract_lets +onlyGivenNames x; have h1 : Keeps s0 x := ?_; clear_value x; rotate_left; subst x)
    | (extract_lets +onlyGivenNames x; subst x) | with_reducible apply setFence_keeps | with_reducible apply setFenceHeld_keeps
    | with_reducible apply Keeps.ite | split | with_reducible refine Keeps.upd ?_ rfl rfl rfl rfl rfl rfl

theorem doTenFenceLo_keeps {s0 : State} (m : Master) (t n : Nat) (v : Word) (s : State) (hK : Keeps s0 s) :
    Keeps s0 (doTenFenceLo m t n v s) := by
  unfold doTenFenceLo
  repeat' first
    | with_reducible assumption | intro _ | with_reducible apply gatedWrite_keeps | with_reducible apply fenceLo_keeps
    | with_reducible apply Keeps.ite | split

theorem doTenFenceHi_keeps {s0 : State} (m : Master) (t n : Nat) (v : Word) (s : State) (hK : Keeps s0 s) :
    Keeps s0 (doTenFenceHi m t n v s) := by
  unfold doTenFenceHi
  repeat' first
    | with_reducible assumption | intro _ | with_reducible apply gatedWrite_keeps | with_reducible apply fenceHi_keeps
    | with_reducible apply Keeps.ite | split

theorem doFenceSignal_keeps {s0 : State} (o : Origin) (n : Nat) (v : DWord) (s : State) (hK : Keeps s0 s) :
    Keeps s0 (doFenceSignal o n v s) := by
  unfold doFenceSignal
  repeat' first
    | with_reducible assumption | intro _ | with_reducible apply setFence_keeps | with_reducible apply completeOk_keeps
    | with_reducible apply loneCommand_keeps

theorem setDmaQueue_keeps {s0 : State} (d : Nat) (l : List DmaJob) (s : State) (hK : Keeps s0 s) :
    Keeps s0 (setDmaQueue d l s) := by
  unfold setDmaQueue
  repeat' first
    | with_reducible assumption | (extract_lets +onlyGivenNames x; have h1 : Keeps s0 x := ?_; clear_value x; rotate_left; subst x)
    | (extract_lets +onlyGivenNames x; subst x) | with_reducible apply setHost_keeps | with_reducible apply Keeps.ite | split
    | with_reducible refine Keeps.upd ?_ rfl rfl rfl rfl rfl rfl

theorem doDmaCopy_keeps {s0 : State} (o : Origin) (r : DmaRequest) (s : State) (hK : Keeps s0 s) :
    Keeps s0 (doDmaCopy o r s) := by
  unfold doDmaCopy
  repeat' first
    | with_reducible assumption | intro _ | with_reducible apply complete_keeps | with_reducible apply loneCommand_keeps
    | with_reducible apply wakeChannels_keeps | with_reducible apply setDmaQueue_keeps | with_reducible apply foldl_keeps
    | with_reducible apply Keeps.ite | split | with_reducible refine Keeps.upd ?_ rfl rfl rfl rfl rfl rfl

theorem dmaLine_keeps {s0 : State} (t : Nat) (r : DmaRequest) (data : List Byte) (i k : Nat) (s : State) (hK : Keeps s0 s) :
    Keeps s0 (dmaLine t r data i k s) := by
  unfold dmaLine
  repeat' first
    | with_reducible assumption | intro _ | (extract_lets +onlyGivenNames x; have h1 : Keeps s0 x := ?_; clear_value x; rotate_left; subst x)
    | (extract_lets +onlyGivenNames x; subst x) | with_reducible apply State.draw_keeps | with_reducible apply State.emit_keeps
    | with_reducible apply writePart_keeps | with_reducible apply Keeps.ite | split

theorem dmaMove_keeps {s0 : State} (t : Nat) (r : DmaRequest) (data : List Byte) (n : Nat) (s : State) (hK : Keeps s0 s) :
    Keeps s0 (dmaMove t r data n s) := by
  unfold dmaMove
  repeat' first
    | with_reducible assumption | intro _ | with_reducible apply dmaLine_keeps | with_reducible apply foldl_keeps

theorem doDmaDone_keeps {s0 : State} (d : Nat) (x : DmaResult) (s : State) (hK : Keeps s0 s) :
    Keeps s0 (doDmaDone d x s) := by
  unfold doDmaDone
  repeat' first
    | with_reducible assumption | (extract_lets +onlyGivenNames x; have h1 : Keeps s0 x := ?_; clear_value x; rotate_left; subst x)
    | (extract_lets +onlyGivenNames x; subst x) | with_reducible apply completeWith_keeps | with_reducible apply fetchFault_keeps
    | with_reducible apply setHost_keeps | with_reducible apply setDmaQueue_keeps | with_reducible apply dmaMove_keeps
    | with_reducible apply Keeps.ite | split | with_reducible refine Keeps.upd ?_ rfl rfl rfl rfl rfl rfl

theorem setLanyard_keeps {s0 : State} (t v : Nat) (s : State) (hK : Keeps s0 s) :
    Keeps s0 (setLanyard t v s) := by
  unfold setLanyard
  repeat' first
    | with_reducible assumption | with_reducible apply State.setF_keeps

theorem stampLanyard_keeps {s0 : State} (t : Nat) (s : State) (hK : Keeps s0 s) :
    Keeps s0 (stampLanyard t s) := by
  unfold stampLanyard
  repeat' first
    | with_reducible assumption | (extract_lets +onlyGivenNames x; have h1 : Keeps s0 x := ?_; clear_value x; rotate_left; subst x)
    | (extract_lets +onlyGivenNames x; subst x) | with_reducible apply setHost_keeps | with_reducible refine Keeps.upd ?_ rfl rfl rfl rfl rfl rfl

theorem undoBatches_keeps {s0 : State} (t : Nat) (s : State) (hK : Keeps s0 s) :
    Keeps s0 (undoBatches t s) := by
  unfold undoBatches
  repeat' first
    | with_reducible assumption | intro _ | (extract_lets +onlyGivenNames x; have h1 : Keeps s0 x := ?_; clear_value x; rotate_left; subst x)
    | (extract_lets +onlyGivenNames x; subst x) | with_reducible apply rollback_keeps | with_reducible apply setBatch_keeps
    | with_reducible apply foldl_keeps | with_reducible apply Keeps.ite | split | with_reducible refine Keeps.upd ?_ rfl rfl rfl rfl rfl rfl

theorem goAdrift_keeps {s0 : State} (t : Nat) (s : State) (hK : Keeps s0 s) :
    Keeps s0 (goAdrift t s) := by
  unfold goAdrift
  repeat' first
    | with_reducible assumption | intro _ | (extract_lets +onlyGivenNames x; have h1 : Keeps s0 x := ?_; clear_value x; rotate_left; subst x)
    | (extract_lets +onlyGivenNames x; subst x) | with_reducible apply raiseTen_keeps | with_reducible apply tenancyEvent_keeps
    | with_reducible apply alert_keeps | with_reducible apply logBit_keeps | with_reducible apply endSets_keeps
    | with_reducible apply setLanyard_keeps | with_reducible apply undoBatches_keeps | with_reducible apply Keeps.ite | split

theorem lanyardWrite_keeps {s0 : State} (t : Nat) (s : State) (hK : Keeps s0 s) :
    Keeps s0 (lanyardWrite t s) := by
  unfold lanyardWrite
  repeat' first
    | with_reducible assumption | (extract_lets +onlyGivenNames x; have h1 : Keeps s0 x := ?_; clear_value x; rotate_left; subst x)
    | (extract_lets +onlyGivenNames x; subst x) | with_reducible apply raiseTen_keeps | with_reducible apply tenancyEvent_keeps
    | with_reducible apply setLanyard_keeps | with_reducible apply stampLanyard_keeps | with_reducible apply Keeps.ite | split

theorem doTenLanyard_keeps {s0 : State} (m : Master) (t : Nat) (_v : Word) (s : State) (hK : Keeps s0 s) :
    Keeps s0 (doTenLanyard m t _v s) := by
  unfold doTenLanyard
  repeat' first
    | with_reducible assumption | intro _ | with_reducible apply gatedWrite_keeps | with_reducible apply lanyardWrite_keeps
    | with_reducible apply Keeps.ite | split

theorem lanyardCfg_keeps {s0 : State} (t : Nat) (v : Word) (s : State) (hK : Keeps s0 s) :
    Keeps s0 (lanyardCfg t v s) := by
  unfold lanyardCfg
  repeat' first
    | with_reducible assumption | with_reducible apply State.setReg_keeps | with_reducible apply State.setF_keeps
    | with_reducible apply tenResult_keeps | with_reducible apply Keeps.ite | split

theorem doTenLanyardCfg_keeps {s0 : State} (m : Master) (t : Nat) (v : Word) (s : State) (hK : Keeps s0 s) :
    Keeps s0 (doTenLanyardCfg m t v s) := by
  unfold doTenLanyardCfg
  repeat' first
    | with_reducible assumption | intro _ | with_reducible apply gatedWrite_keeps | with_reducible apply lanyardCfg_keeps
    | with_reducible apply Keeps.ite | split

theorem doLanyardLapse_keeps {s0 : State} (t : Nat) (s : State) (hK : Keeps s0 s) :
    Keeps s0 (doLanyardLapse t s) := by
  unfold doLanyardLapse
  repeat' first
    | with_reducible assumption | with_reducible apply goAdrift_keeps | with_reducible apply Keeps.ite | split

theorem doTenancyAdrift_keeps {s0 : State} (o : Origin) (t : Nat) (s : State) (hK : Keeps s0 s) :
    Keeps s0 (doTenancyAdrift o t s) := by
  unfold doTenancyAdrift
  repeat' first
    | with_reducible assumption | intro _ | with_reducible apply completeOk_keeps | with_reducible apply loneCommand_keeps
    | with_reducible apply goAdrift_keeps | with_reducible apply Keeps.ite | split

theorem decodeError_keeps {s0 : State} (m : Master) (a : Nat) (s : State) (hK : Keeps s0 s) :
    Keeps s0 (decodeError m a s) := by
  unfold decodeError
  repeat' first
    | with_reducible assumption | with_reducible apply State.setReg_keeps | with_reducible apply raiseFab_keeps

theorem doTapReset_keeps {s0 : State} (accepted : Nat) (s : State) (hK : Keeps s0 s) :
    Keeps s0 (doTapReset accepted s) := by
  unfold doTapReset
  repeat' first
    | with_reducible assumption | with_reducible apply masterReset_keeps

theorem doLockBreak_keeps {s0 : State} (s : State) (hK : Keeps s0 s) :
    Keeps s0 (doLockBreak s) := by
  unfold doLockBreak
  repeat' first
    | with_reducible assumption | with_reducible apply State.bump_keeps | with_reducible apply raiseFab_keeps
    | with_reducible apply unlockFabric_keeps

theorem sysCtrlWrite_keeps {s0 : State} (m : Master) (v : Word) (s : State) (hK : Keeps s0 s) :
    Keeps s0 (sysCtrlWrite m v s) := by
  unfold sysCtrlWrite
  repeat' first
    | with_reducible assumption | with_reducible apply State.setReg_keeps | with_reducible apply foreign_keeps | with_reducible apply Keeps.ite
    | split | with_reducible refine Keeps.upd ?_ rfl rfl rfl rfl rfl rfl

theorem keepRegs_keeps {s0 : State} (p : Nat → Word → Bool) (s : State) (hK : Keeps s0 s) : Keeps s0 { s with regs := tabKeep p s.regs } :=
  ⟨hK.pending, hK.draws, fun c => by
      have := hK.canon c
      simp only [State.canonical, Bool.and_eq_true] at this ⊢
      exact ⟨⟨⟨⟨tabCanon_tabKeep this.1.1.1.1, this.1.1.1.2⟩, this.1.1.2⟩, this.1.2⟩, this.2⟩,
    hK.page, hK.locked, hK.rooted⟩

theorem doFunctionReset_keeps {s0 : State} (t accepted : Nat) (moved : List (Nat × DmaResult)) (s : State) (hK : Keeps s0 s) :
    Keeps s0 (doFunctionReset t accepted moved s) := by
  unfold doFunctionReset
  repeat' first
    | with_reducible assumption | intro _ | (extract_lets +onlyGivenNames x; have h1 : Keeps s0 x := ?_; clear_value x; rotate_left; subst x)
    | (extract_lets +onlyGivenNames x; subst x) | with_reducible apply keepRegs_keeps | with_reducible apply State.setReg_keeps
    | with_reducible apply State.setBit_keeps | with_reducible apply raiseTen_keeps | with_reducible apply tenancyEvent_keeps
    | with_reducible apply masterReset_keeps | with_reducible apply dropBatch_keeps | with_reducible apply setHost_keeps
    | with_reducible apply setDmaQueue_keeps | with_reducible apply dmaMove_keeps | with_reducible apply undoBatches_keeps
    | with_reducible apply goAdrift_keeps | with_reducible apply foldl_keeps | with_reducible apply Keeps.ite | split
    | with_reducible refine Keeps.upd ?_ rfl rfl rfl rfl rfl rfl

theorem doBusMasterEnable_keeps {s0 : State} (t : Nat) (s : State) (hK : Keeps s0 s) :
    Keeps s0 (doBusMasterEnable t s) := by
  unfold doBusMasterEnable
  repeat' first
    | with_reducible assumption | intro _ | (extract_lets +onlyGivenNames x; have h1 : Keeps s0 x := ?_; clear_value x; rotate_left; subst x)
    | (extract_lets +onlyGivenNames x; subst x) | with_reducible apply State.setBit_keeps | with_reducible apply drainEvq_keeps
    | with_reducible apply drainCq_keeps | with_reducible apply foldl_keeps | with_reducible apply Keeps.ite | split

theorem doEcrcError_keeps {s0 : State} (_link : Nat) (s : State) (hK : Keeps s0 s) :
    Keeps s0 (doEcrcError _link s) := by
  unfold doEcrcError
  repeat' first
    | with_reducible assumption | (extract_lets +onlyGivenNames x; have h1 : Keeps s0 x := ?_; clear_value x; rotate_left; subst x)
    | (extract_lets +onlyGivenNames x; subst x) | with_reducible apply setHost_keeps | with_reducible refine Keeps.upd ?_ rfl rfl rfl rfl rfl rfl

theorem doLockedRead_keeps {s0 : State} (_t : Nat) (s : State) (hK : Keeps s0 s) :
    Keeps s0 (doLockedRead _t s) := by
  unfold doLockedRead
  repeat' first
    | with_reducible assumption | with_reducible apply State.emit_keeps

theorem doLinkDetectTimeout_keeps {s0 : State} (s : State) (hK : Keeps s0 s) :
    Keeps s0 (doLinkDetectTimeout s) := by
  unfold doLinkDetectTimeout
  repeat' first
    | with_reducible assumption | (extract_lets +onlyGivenNames x; have h1 : Keeps s0 x := ?_; clear_value x; rotate_left; subst x)
    | (extract_lets +onlyGivenNames x; subst x) | with_reducible apply State.emit_keeps | with_reducible apply setHost_keeps
    | with_reducible apply Keeps.ite | split | with_reducible refine Keeps.upd ?_ rfl rfl rfl rfl rfl rfl

theorem tenWrite_keeps {s0 : State} (l : Loc) (a : Nat) (v : Word) (s : State) (hK : Keeps s0 s) :
    Keeps s0 (tenWrite l a v s) := by
  unfold tenWrite
  repeat' first
    | with_reducible assumption | (extract_lets +onlyGivenNames x; have h1 : Keeps s0 x := ?_; clear_value x; rotate_left; subst x)
    | (extract_lets +onlyGivenNames x; subst x) | with_reducible apply plainWrite_keeps | with_reducible apply sqWrite_keeps
    | with_reducible apply cqWrite_keeps | with_reducible apply evqWrite_keeps | with_reducible apply fenceLo_keeps
    | with_reducible apply fenceHi_keeps | with_reducible apply lanyardWrite_keeps | with_reducible apply lanyardCfg_keeps
    | with_reducible apply Keeps.ite | split


end Sys2Proof.Machine
end

