-- ==== Sys2Proof/Laws/KeepsModes.lean ====
section
/-! SUPPORT. What every operation of these files keeps: loading, Lockdown, boot, re-rig, modes, the fabric, fid instructions and fetched commands. -/

set_option linter.unreachableTactic false
set_option linter.unusedTactic false
set_option linter.unusedVariables false

namespace Sys2Proof.Machine

open Sys2Proof

/-! Load -/

theorem setRig_keeps {s0 : State} (r : RigState) (s : State) (hK : Keeps s0 s) :
    Keeps s0 (setRig r s) := by
  unfold setRig
  repeat' first
    | with_reducible assumption | (extract_lets +onlyGivenNames x; have h1 : Keeps s0 x := ?_; clear_value x; rotate_left; subst x)
    | (extract_lets +onlyGivenNames x; subst x) | with_reducible refine Keeps.upd ?_ rfl rfl rfl rfl rfl rfl

theorem showLoad_keeps {s0 : State} (slot : Option Slot) (f : LoadFail) (s : State) (hK : Keeps s0 s) :
    Keeps s0 (showLoad slot f s) := by
  unfold showLoad
  repeat' first
    | with_reducible assumption | (extract_lets +onlyGivenNames x; have h1 : Keeps s0 x := ?_; clear_value x; rotate_left; subst x)
    | (extract_lets +onlyGivenNames x; subst x) | with_reducible apply State.setReg_keeps

theorem applyStrand_keeps {s0 : State} (c : StrandEntry) (s : State) (hK : Keeps s0 s) :
    Keeps s0 (applyStrand c s) := by
  unfold applyStrand
  repeat' first
    | with_reducible assumption | intro _ | (extract_lets +onlyGivenNames x; have h1 : Keeps s0 x := ?_; clear_value x; rotate_left; subst x)
    | (extract_lets +onlyGivenNames x; subst x) | with_reducible apply setStrand_keeps | with_reducible apply txRefreshAll_keeps
    | with_reducible apply applyStrandCfg_keeps | with_reducible apply dpForget_keeps | with_reducible apply stopRx_keeps
    | with_reducible apply startRx_keeps | with_reducible apply resetWir_keeps | with_reducible apply foldl_keeps | with_reducible apply Keeps.ite
    | split | with_reducible refine Keeps.upd ?_ rfl rfl rfl rfl rfl rfl

theorem applyBight_keeps {s0 : State} (b : BightEntry) (s : State) (hK : Keeps s0 s) :
    Keeps s0 (applyBight b s) := by
  unfold applyBight
  repeat' first
    | with_reducible assumption | (extract_lets +onlyGivenNames x; have h1 : Keeps s0 x := ?_; clear_value x; rotate_left; subst x)
    | (extract_lets +onlyGivenNames x; subst x) | with_reducible apply State.setBit_keeps | with_reducible apply setStrand_keeps
    | with_reducible apply bightRefresh_keeps | with_reducible refine Keeps.upd ?_ rfl rfl rfl rfl rfl rfl

theorem setBifurcation_keeps {s0 : State} (b : Nat) (s : State) (hK : Keeps s0 s) :
    Keeps s0 (setBifurcation b s) := by
  unfold setBifurcation
  repeat' first
    | with_reducible assumption | (extract_lets +onlyGivenNames x; have h1 : Keeps s0 x := ?_; clear_value x; rotate_left; subst x)
    | (extract_lets +onlyGivenNames x; subst x) | with_reducible apply State.emit_keeps | with_reducible apply setHost_keeps
    | with_reducible apply Keeps.ite | split | with_reducible refine Keeps.upd ?_ rfl rfl rfl rfl rfl rfl

theorem setEarly_keeps {s0 : State} (m : EarlyMap) (s : State) (hK : Keeps s0 s) :
    Keeps s0 (setEarly m s) := by
  unfold setEarly
  repeat' first
    | with_reducible assumption | intro _ | (extract_lets +onlyGivenNames x; have h1 : Keeps s0 x := ?_; clear_value x; rotate_left; subst x)
    | (extract_lets +onlyGivenNames x; subst x) | with_reducible apply setStrand_keeps | with_reducible apply foldl_keeps
    | with_reducible refine Keeps.upd ?_ rfl rfl rfl rfl rfl rfl

theorem applyEarly_keeps {s0 : State} (i : RigImage) (s : State) (hK : Keeps s0 s) :
    Keeps s0 (applyEarly i s) := by
  unfold applyEarly
  repeat' first
    | with_reducible assumption | intro _ | (extract_lets +onlyGivenNames x; have h1 : Keeps s0 x := ?_; clear_value x; rotate_left; subst x)
    | (extract_lets +onlyGivenNames x; subst x) | with_reducible apply wakeUsed_keeps | with_reducible apply setRig_keeps
    | with_reducible apply applyStrand_keeps | with_reducible apply applyBight_keeps | with_reducible apply setBifurcation_keeps
    | with_reducible apply setEarly_keeps | with_reducible apply foldl_keeps | with_reducible refine Keeps.upd ?_ rfl rfl rfl rfl rfl rfl

theorem dropEarly_keeps {s0 : State} (n : Nat) (s : State) (hK : Keeps s0 s) :
    Keeps s0 (dropEarly n s) := by
  unfold dropEarly
  repeat' first
    | with_reducible assumption | intro _ | (extract_lets +onlyGivenNames x; have h1 : Keeps s0 x := ?_; clear_value x; rotate_left; subst x)
    | (extract_lets +onlyGivenNames x; subst x) | with_reducible apply State.setF_keeps | with_reducible apply setStrand_keeps
    | with_reducible apply txRefresh_keeps | with_reducible apply bindNow_keeps | with_reducible apply stopRx_keeps | with_reducible apply foldl_keeps
    | with_reducible apply Keeps.ite | split | with_reducible refine Keeps.upd ?_ rfl rfl rfl rfl rfl rfl

theorem changeEarly_keeps {s0 : State} (i : RigImage) (s : State) (hK : Keeps s0 s) :
    Keeps s0 (changeEarly i s) := by
  unfold changeEarly
  repeat' first
    | with_reducible assumption | intro _ | (extract_lets +onlyGivenNames x; have h1 : Keeps s0 x := ?_; clear_value x; rotate_left; subst x)
    | (extract_lets +onlyGivenNames x; subst x) | with_reducible apply setRig_keeps | with_reducible apply applyBight_keeps
    | with_reducible apply setBifurcation_keeps | with_reducible apply setEarly_keeps | with_reducible apply dropEarly_keeps
    | with_reducible apply foldl_keeps | with_reducible apply Keeps.ite | split | with_reducible refine Keeps.upd ?_ rfl rfl rfl rfl rfl rfl

theorem bindEi_keeps {s0 : State} (e : Nat × Producer) (s : State) (hK : Keeps s0 s) :
    Keeps s0 (bindEi e s) := by
  unfold bindEi
  repeat' first
    | with_reducible assumption | (extract_lets +onlyGivenNames x; have h1 : Keeps s0 x := ?_; clear_value x; rotate_left; subst x)
    | (extract_lets +onlyGivenNames x; subst x) | with_reducible apply State.setF_keeps | with_reducible apply State.setBit_keeps
    | with_reducible apply Keeps.ite | split | with_reducible refine Keeps.upd ?_ rfl rfl rfl rfl rfl rfl

theorem bindEo_keeps {s0 : State} (e : Nat × Consumer) (s : State) (hK : Keeps s0 s) :
    Keeps s0 (bindEo e s) := by
  unfold bindEo
  repeat' first
    | with_reducible assumption | (extract_lets +onlyGivenNames x; have h1 : Keeps s0 x := ?_; clear_value x; rotate_left; subst x)
    | (extract_lets +onlyGivenNames x; subst x) | with_reducible apply State.setF_keeps | with_reducible apply Keeps.ite | split
    | with_reducible refine Keeps.upd ?_ rfl rfl rfl rfl rfl rfl

theorem bindAmi_keeps {s0 : State} (e : Nat × AudioEnd) (s : State) (hK : Keeps s0 s) :
    Keeps s0 (bindAmi e s) := by
  unfold bindAmi
  repeat' first
    | with_reducible assumption | (extract_lets +onlyGivenNames x; have h1 : Keeps s0 x := ?_; clear_value x; rotate_left; subst x)
    | (extract_lets +onlyGivenNames x; subst x) | with_reducible apply State.setF_keeps | with_reducible apply State.setBit_keeps
    | with_reducible apply Keeps.ite | split | with_reducible refine Keeps.upd ?_ rfl rfl rfl rfl rfl rfl

theorem bindAmo_keeps {s0 : State} (e : Nat × AudioEnd) (s : State) (hK : Keeps s0 s) :
    Keeps s0 (bindAmo e s) := by
  unfold bindAmo
  repeat' first
    | with_reducible assumption | with_reducible apply State.setF_keeps | with_reducible apply Keeps.ite | split
    | with_reducible refine Keeps.upd ?_ rfl rfl rfl rfl rfl rfl

theorem chargeDevice_keeps {s0 : State} (take : Bool) (z : ZonePlan) (s : State) (hK : Keeps s0 s) :
    Keeps s0 (chargeDevice take z s) := by
  unfold chargeDevice
  repeat' first
    | with_reducible assumption | intro _ | with_reducible apply takeDev_keeps | with_reducible apply giveDev_keeps | with_reducible apply foldl_keeps
    | with_reducible apply Keeps.ite | split

theorem clearZone_keeps {s0 : State} (k : Nat) (s : State) (hK : Keeps s0 s) :
    Keeps s0 (clearZone k s) := by
  unfold clearZone
  repeat' first
    | with_reducible assumption | ((with_reducible refine Eq.symm ?_); rfl) | intro _
    | (extract_lets +onlyGivenNames x; have h1 : Keeps s0 x := ?_; clear_value x; rotate_left; subst x) | (extract_lets +onlyGivenNames x; subst x)
    | with_reducible apply State.setReg_keeps | with_reducible apply State.setF_keeps | with_reducible apply State.setBit_keeps
    | with_reducible apply setAud_keeps | with_reducible refine setStore_keeps _ _ ?_ ?_ | with_reducible apply foldl_keeps
    | with_reducible apply Keeps.ite | split | with_reducible refine Keeps.upd ?_ rfl rfl rfl rfl rfl rfl

theorem applyPlan_keeps {s0 : State} (k : Nat) (z : ZonePlan) (s : State) (hK : Keeps s0 s) :
    Keeps s0 (applyPlan k z s) := by
  unfold applyPlan
  repeat' first
    | with_reducible assumption | ((with_reducible refine Eq.symm ?_); rfl) | intro _
    | (extract_lets +onlyGivenNames x; have h1 : Keeps s0 x := ?_; clear_value x; rotate_left; subst x) | (extract_lets +onlyGivenNames x; subst x)
    | with_reducible apply State.setReg_keeps | with_reducible apply setBothF_keeps | with_reducible apply State.setF_keeps
    | with_reducible apply State.setBit_keeps | with_reducible apply setAud_keeps | with_reducible apply refreshAmi_keeps
    | with_reducible refine setStore_keeps _ _ ?_ ?_ | with_reducible apply applyBight_keeps | with_reducible apply bindEi_keeps
    | with_reducible apply bindEo_keeps | with_reducible apply bindAmi_keeps | with_reducible apply bindAmo_keeps
    | with_reducible apply chargeDevice_keeps | with_reducible apply clearZone_keeps | with_reducible apply foldl_keeps
    | with_reducible apply Keeps.ite | split | with_reducible refine Keeps.upd ?_ rfl rfl rfl rfl rfl rfl

theorem applyZone_keeps {s0 : State} (k : Nat) (z : ZonePlan) (s : State) (hK : Keeps s0 s) :
    Keeps s0 (applyZone k z s) := by
  unfold applyZone
  repeat' first
    | with_reducible assumption | intro _ | with_reducible apply applyStrand_keeps | with_reducible apply applyPlan_keeps
    | with_reducible apply foldl_keeps

theorem applyTenancy_keeps {s0 : State} (p : TenancyPlan) (b t : Nat) (e : TenancyEntry) (s : State) (hK : Keeps s0 s) :
    Keeps s0 (applyTenancy p b t e s) := by
  unfold applyTenancy
  repeat' first
    | with_reducible assumption | ((with_reducible refine Eq.symm ?_); rfl) | intro _
    | (extract_lets +onlyGivenNames x; have h1 : Keeps s0 x := ?_; clear_value x; rotate_left; subst x) | (extract_lets +onlyGivenNames x; subst x)
    | with_reducible apply State.setReg_keeps | with_reducible apply State.setF_keeps | with_reducible refine setStore_keeps _ _ ?_ ?_
    | with_reducible apply setHost_keeps | with_reducible apply foldl_keeps | with_reducible refine Keeps.upd ?_ rfl rfl rfl rfl rfl rfl

theorem applyTenancies_keeps {s0 : State} (i : RigImage) (s : State) (hK : Keeps s0 s) :
    Keeps s0 (applyTenancies i s) := by
  unfold applyTenancies
  repeat' first
    | with_reducible assumption | intro _ | (extract_lets +onlyGivenNames x; have h1 : Keeps s0 x := ?_; clear_value x; rotate_left; subst x)
    | (extract_lets +onlyGivenNames x; subst x) | with_reducible apply State.setReg_keeps | with_reducible apply setHost_keeps
    | with_reducible apply applyTenancy_keeps | with_reducible apply foldl_keeps | with_reducible apply Keeps.ite | split
    | with_reducible refine Keeps.upd ?_ rfl rfl rfl rfl rfl rfl

theorem applyStorePlan_keeps {s0 : State} (p : StorePlan) (s : State) (hK : Keeps s0 s) :
    Keeps s0 (applyStorePlan p s) := by
  unfold applyStorePlan
  repeat' first
    | with_reducible assumption | ((with_reducible refine Eq.symm ?_); rfl) | intro _
    | (extract_lets +onlyGivenNames x; have h1 : Keeps s0 x := ?_; clear_value x; rotate_left; subst x) | (extract_lets +onlyGivenNames x; subst x)
    | with_reducible apply State.setReg_keeps | with_reducible refine setStore_keeps _ _ ?_ ?_ | with_reducible apply setChState_keeps
    | with_reducible apply foldl_keeps | with_reducible apply Keeps.ite | split | with_reducible refine Keeps.upd ?_ rfl rfl rfl rfl rfl rfl

theorem showImage_keeps {s0 : State} (slot : Slot) (trial : Bool) (i : RigImage) (s : State) (hK : Keeps s0 s) :
    Keeps s0 (showImage slot trial i s) := by
  unfold showImage
  repeat' first
    | with_reducible assumption | intro _ | (extract_lets +onlyGivenNames x; have h1 : Keeps s0 x := ?_; clear_value x; rotate_left; subst x)
    | (extract_lets +onlyGivenNames x; subst x) | with_reducible apply State.setReg_keeps | with_reducible apply foldl_keeps

theorem loadImage_keeps {s0 : State} (slot : Slot) (trial : Bool) (i : RigImage) (s : State) (hK : Keeps s0 s) :
    Keeps s0 (loadImage slot trial i s) := by
  unfold loadImage
  repeat' first
    | with_reducible assumption | intro _ | (extract_lets +onlyGivenNames x; have h1 : Keeps s0 x := ?_; clear_value x; rotate_left; subst x)
    | (extract_lets +onlyGivenNames x; subst x) | with_reducible apply State.setReg_keeps | with_reducible apply wakeUsed_keeps
    | with_reducible apply enginesRefresh_keeps | with_reducible apply digestChanged_keeps | with_reducible apply coldStart_keeps
    | with_reducible apply setRig_keeps | with_reducible apply showLoad_keeps | with_reducible apply changeEarly_keeps
    | with_reducible apply applyZone_keeps | with_reducible apply applyTenancies_keeps | with_reducible apply applyStorePlan_keeps
    | with_reducible apply showImage_keeps | with_reducible apply foldl_keeps | with_reducible refine Keeps.upd ?_ rfl rfl rfl rfl rfl rfl

theorem enterBare_keeps {s0 : State} (s : State) (hK : Keeps s0 s) :
    Keeps s0 (enterBare s) := by
  unfold enterBare
  repeat' first
    | with_reducible assumption | (extract_lets +onlyGivenNames x; have h1 : Keeps s0 x := ?_; clear_value x; rotate_left; subst x)
    | (extract_lets +onlyGivenNames x; subst x) | with_reducible apply State.setReg_keeps | with_reducible apply digestChanged_keeps
    | with_reducible apply setHost_keeps | with_reducible apply setRig_keeps | with_reducible apply setBifurcation_keeps
    | with_reducible apply Keeps.ite | split | with_reducible refine Keeps.upd ?_ rfl rfl rfl rfl rfl rfl

theorem rigEvent_keeps {s0 : State} (b : Nat) (s : State) (hK : Keeps s0 s) :
    Keeps s0 (rigEvent b s) := by
  unfold rigEvent
  repeat' first
    | with_reducible assumption | with_reducible apply raiseRig_keeps | with_reducible apply logBit_keeps


/-! Lockdown -/

theorem setMode_keeps {s0 : State} (c : Mode) (s : State) (hK : Keeps s0 s) :
    Keeps s0 (setMode c s) := by
  unfold setMode
  repeat' first
    | with_reducible assumption | (extract_lets +onlyGivenNames x; have h1 : Keeps s0 x := ?_; clear_value x; rotate_left; subst x)
    | (extract_lets +onlyGivenNames x; subst x) | with_reducible apply State.setF_keeps | with_reducible apply raiseEn_keeps

theorem showMode_keeps {s0 : State} (st : Status) (s : State) (hK : Keeps s0 s) :
    Keeps s0 (showMode st s) := by
  unfold showMode
  repeat' first
    | with_reducible assumption | with_reducible apply State.setF_keeps

theorem endJobs_keeps {s0 : State} (st : Status) (s : State) (hK : Keeps s0 s) :
    Keeps s0 (endJobs st s) := by
  unfold endJobs
  repeat' first
    | with_reducible assumption | ((with_reducible refine Eq.symm ?_); rfl) | intro _
    | (extract_lets +onlyGivenNames x; have h1 : Keeps s0 x := ?_; clear_value x; rotate_left; subst x) | (extract_lets +onlyGivenNames x; subst x)
    | with_reducible apply complete_keeps | with_reducible apply setStrand_keeps | with_reducible apply setFid_keeps
    | with_reducible apply endRun_keeps | with_reducible apply setAud_keeps | with_reducible apply abortFlip_keeps
    | with_reducible refine setStore_keeps _ _ ?_ ?_ | with_reducible apply abortCal_keeps | with_reducible apply setWire_keeps
    | with_reducible apply endUpdate_keeps | with_reducible apply setDmaQueue_keeps | with_reducible apply foldl_keeps
    | with_reducible apply Keeps.ite | split | with_reducible refine Keeps.upd ?_ rfl rfl rfl rfl rfl rfl

theorem endAllSets_keeps {s0 : State} (s : State) (hK : Keeps s0 s) :
    Keeps s0 (endAllSets s) := by
  unfold endAllSets
  repeat' first
    | with_reducible assumption | intro _ | (extract_lets +onlyGivenNames x; have h1 : Keeps s0 x := ?_; clear_value x; rotate_left; subst x)
    | (extract_lets +onlyGivenNames x; subst x) | with_reducible apply rollbackFor_keeps | with_reducible apply undoBatches_keeps
    | with_reducible apply foldl_keeps | with_reducible apply Keeps.ite | split

theorem stopStrands_keeps {s0 : State} (s : State) (hK : Keeps s0 s) :
    Keeps s0 (stopStrands s) := by
  unfold stopStrands
  repeat' first
    | with_reducible assumption | intro _ | (extract_lets +onlyGivenNames x; have h1 : Keeps s0 x := ?_; clear_value x; rotate_left; subst x)
    | (extract_lets +onlyGivenNames x; subst x) | with_reducible apply txRefreshAll_keeps | with_reducible apply stopRx_keeps
    | with_reducible apply foldl_keeps | with_reducible apply Keeps.ite | split

theorem stopEngines_keeps {s0 : State} (s : State) (hK : Keeps s0 s) :
    Keeps s0 (stopEngines s) := by
  unfold stopEngines
  repeat' first
    | with_reducible assumption | intro _ | (extract_lets +onlyGivenNames x; have h1 : Keeps s0 x := ?_; clear_value x; rotate_left; subst x)
    | (extract_lets +onlyGivenNames x; subst x) | with_reducible apply State.setLive_keeps | with_reducible apply State.setBit_keeps
    | with_reducible apply setLock_keeps | with_reducible apply setGenSt_keeps | with_reducible apply setRecSt_keeps
    | with_reducible apply setPresent_keeps | with_reducible apply setAmiPresent_keeps | with_reducible apply setFlowPresent_keeps
    | with_reducible apply genMatch_keeps | with_reducible apply playerStop_keeps | with_reducible apply setWire_keeps
    | with_reducible apply setSap_keeps | with_reducible apply setAi_keeps | with_reducible apply setAo_keeps | with_reducible apply setSrcCfg_keeps
    | with_reducible apply foldl_keeps | with_reducible apply Keeps.ite | split | with_reducible refine Keeps.upd ?_ rfl rfl rfl rfl rfl rfl

theorem selfRefreshAll_keeps {s0 : State} (s : State) (hK : Keeps s0 s) :
    Keeps s0 (selfRefreshAll s) := by
  unfold selfRefreshAll
  repeat' first
    | with_reducible assumption | intro _ | with_reducible apply intoRefresh_keeps | with_reducible apply foldl_keeps | with_reducible apply Keeps.ite
    | split

theorem stopRigWork_keeps {s0 : State} (tampered : Bool) (s : State) (hK : Keeps s0 s) :
    Keeps s0 (stopRigWork tampered s) := by
  unfold stopRigWork
  repeat' first
    | with_reducible assumption | intro _ | (extract_lets +onlyGivenNames x; have h1 : Keeps s0 x := ?_; clear_value x; rotate_left; subst x)
    | (extract_lets +onlyGivenNames x; subst x) | with_reducible apply State.setF_keeps | with_reducible apply State.setBit_keeps
    | with_reducible apply complete_keeps | with_reducible apply setRig_keeps | with_reducible apply showLoad_keeps | with_reducible apply foldl_keeps
    | with_reducible apply Keeps.ite | split | with_reducible refine Keeps.upd ?_ rfl rfl rfl rfl rfl rfl

theorem dropSas_keeps {s0 : State} (s : State) (hK : Keeps s0 s) :
    Keeps s0 (dropSas s) := by
  unfold dropSas
  repeat' first
    | with_reducible assumption | intro _ | (extract_lets +onlyGivenNames x; have h1 : Keeps s0 x := ?_; clear_value x; rotate_left; subst x)
    | (extract_lets +onlyGivenNames x; subst x) | with_reducible apply setWire_keeps | with_reducible refine Keeps.upd ?_ rfl rfl rfl rfl rfl rfl

theorem endChange_keeps {s0 : State} (s : State) (hK : Keeps s0 s) :
    Keeps s0 (endChange s) := by
  unfold endChange
  repeat' first
    | with_reducible assumption | intro _ | (extract_lets +onlyGivenNames x; have h1 : Keeps s0 x := ?_; clear_value x; rotate_left; subst x)
    | (extract_lets +onlyGivenNames x; subst x) | with_reducible apply State.setBit_keeps | with_reducible apply complete_keeps
    | with_reducible apply bightRefresh_keeps | with_reducible apply setPwr_keeps | with_reducible apply showMode_keeps
    | with_reducible apply foldl_keeps | with_reducible apply Keeps.ite | split | with_reducible refine Keeps.upd ?_ rfl rfl rfl rfl rfl rfl

theorem enterLockdown_keeps {s0 : State} (tampered : Bool) (s : State) (hK : Keeps s0 s) :
    Keeps s0 (enterLockdown tampered s) := by
  unfold enterLockdown
  repeat' first
    | with_reducible assumption | with_reducible apply stopCopy_keeps | with_reducible apply zeroKeys_keeps | with_reducible apply digestChanged_keeps
    | with_reducible apply setMode_keeps | with_reducible apply endJobs_keeps | with_reducible apply endAllSets_keeps
    | with_reducible apply stopStrands_keeps | with_reducible apply stopEngines_keeps | with_reducible apply selfRefreshAll_keeps
    | with_reducible apply stopRigWork_keeps | with_reducible apply dropSas_keeps | with_reducible apply endChange_keeps

theorem writeTamper_keeps {s0 : State} (s : State) (hK : Keeps s0 s) :
    Keeps s0 (writeTamper s) := by
  unfold writeTamper
  repeat' first
    | with_reducible assumption | with_reducible apply writeRecord_keeps

theorem latchAlarm_keeps {s0 : State} (code : Nat) (s : State) (hK : Keeps s0 s) :
    Keeps s0 (latchAlarm code s) := by
  unfold latchAlarm
  repeat' first
    | with_reducible assumption | (extract_lets +onlyGivenNames x; have h1 : Keeps s0 x := ?_; clear_value x; rotate_left; subst x)
    | (extract_lets +onlyGivenNames x; subst x) | with_reducible apply State.setF_keeps | with_reducible apply State.setBit_keeps
    | with_reducible apply alert_keeps | with_reducible apply setPwr_keeps | with_reducible apply digestChanged_keeps | with_reducible apply Keeps.ite
    | split | with_reducible refine Keeps.upd ?_ rfl rfl rfl rfl rfl rfl

theorem haltBoot_keeps {s0 : State} (s : State) (hK : Keeps s0 s) :
    Keeps s0 (haltBoot s) := by
  unfold haltBoot
  repeat' first
    | with_reducible assumption | (extract_lets +onlyGivenNames x; have h1 : Keeps s0 x := ?_; clear_value x; rotate_left; subst x)
    | (extract_lets +onlyGivenNames x; subst x) | with_reducible apply setStrand_keeps | with_reducible apply setRig_keeps
    | with_reducible apply showLoad_keeps | with_reducible apply Keeps.ite | split | with_reducible refine Keeps.upd ?_ rfl rfl rfl rfl rfl rfl

theorem stopKeyStore_keeps {s0 : State} (s : State) (hK : Keeps s0 s) :
    Keeps s0 (stopKeyStore s) := by
  unfold stopKeyStore
  repeat' first
    | with_reducible assumption | intro _ | (extract_lets +onlyGivenNames x; have h1 : Keeps s0 x := ?_; clear_value x; rotate_left; subst x)
    | (extract_lets +onlyGivenNames x; subst x) | with_reducible apply State.setBit_keeps | with_reducible apply setWrites_keeps
    | with_reducible apply keyDone_keeps | with_reducible apply Keeps.ite | split | with_reducible refine Keeps.upd ?_ rfl rfl rfl rfl rfl rfl

theorem tamperResponse_keeps {s0 : State} (s : State) (hK : Keeps s0 s) :
    Keeps s0 (tamperResponse s) := by
  unfold tamperResponse
  repeat' first
    | with_reducible assumption | with_reducible apply State.setBit_keeps | with_reducible apply zeroKeys_keeps
    | with_reducible apply enterLockdown_keeps | with_reducible apply writeTamper_keeps | with_reducible apply haltBoot_keeps
    | with_reducible apply stopKeyStore_keeps | with_reducible apply Keeps.ite | split | with_reducible refine Keeps.upd ?_ rfl rfl rfl rfl rfl rfl

theorem doTamperAlarm_keeps {s0 : State} (code : Nat) (s : State) (hK : Keeps s0 s) :
    Keeps s0 (doTamperAlarm code s) := by
  unfold doTamperAlarm
  repeat' first
    | with_reducible assumption | with_reducible apply latchAlarm_keeps | with_reducible apply tamperResponse_keeps | with_reducible apply Keeps.ite
    | split


/-! Boot -/

theorem commitTamper_keeps {s0 : State} (s : State) (hK : Keeps s0 s) :
    Keeps s0 (commitTamper s) := by
  unfold commitTamper
  repeat' first
    | with_reducible assumption | intro _ | (extract_lets +onlyGivenNames x; have h1 : Keeps s0 x := ?_; clear_value x; rotate_left; subst x)
    | (extract_lets +onlyGivenNames x; subst x) | with_reducible apply placeCopy_keeps | with_reducible apply setWrites_keeps
    | with_reducible apply recordCommitted_keeps | with_reducible apply writeTamper_keeps | with_reducible apply foldl_keeps
    | with_reducible apply Keeps.ite | split | with_reducible refine Keeps.upd ?_ rfl rfl rfl rfl rfl rfl

theorem afterReset_keeps {s0 : State} (aon : Bool) (s : State) (hK : Keeps s0 s) : Keeps s0 (afterReset aon s) := by
  refine ⟨hK.pending, hK.draws, fun _ => ?_, hK.page, hK.locked, hK.rooted⟩
  have h : (afterReset aon s).store.mem = [] := by cases aon <;> rfl
  simp only [State.canonical, h]
  rfl

theorem enterReset_keeps {s0 : State} (cause : Nat) (aon : Bool) (s : State) (hK : Keeps s0 s) :
    Keeps s0 (enterReset cause aon s) := by
  unfold enterReset
  repeat' first
    | with_reducible assumption | (extract_lets +onlyGivenNames x; have h1 : Keeps s0 x := ?_; clear_value x; rotate_left; subst x)
    | (extract_lets +onlyGivenNames x; subst x) | with_reducible apply State.setReg_keeps | with_reducible apply setPwr_keeps
    | with_reducible apply tearWrites_keeps | with_reducible apply commitTamper_keeps | with_reducible apply afterReset_keeps
    | with_reducible apply Keeps.ite | split | with_reducible refine Keeps.upd ?_ rfl rfl rfl rfl rfl rfl

theorem doPowerOn_keeps {s0 : State} (s : State) (hK : Keeps s0 s) :
    Keeps s0 (doPowerOn s) := by
  unfold doPowerOn
  repeat' first
    | with_reducible assumption | with_reducible apply enterReset_keeps

theorem warmReset_keeps {s0 : State} (cause : Nat) (s : State) (hK : Keeps s0 s) :
    Keeps s0 (warmReset cause s) := by
  unfold warmReset
  repeat' first
    | with_reducible assumption | with_reducible apply enterReset_keeps | with_reducible apply Keeps.ite | split

theorem doPin_keeps {s0 : State} (s : State) (hK : Keeps s0 s) :
    Keeps s0 (doPin s) := by
  unfold doPin
  repeat' first
    | with_reducible assumption | with_reducible apply warmReset_keeps

theorem doSupply_keeps {s0 : State} (s : State) (hK : Keeps s0 s) :
    Keeps s0 (doSupply s) := by
  unfold doSupply
  repeat' first
    | with_reducible assumption | with_reducible apply warmReset_keeps

theorem doThermal_keeps {s0 : State} (s : State) (hK : Keeps s0 s) :
    Keeps s0 (doThermal s) := by
  unfold doThermal
  repeat' first
    | with_reducible assumption | with_reducible apply warmReset_keeps

theorem doVddAonLost_keeps {s0 : State} (s : State) (hK : Keeps s0 s) :
    Keeps s0 (doVddAonLost s) := by
  unfold doVddAonLost
  repeat' first
    | with_reducible assumption | with_reducible apply State.setReg_keeps | with_reducible apply tearWrites_keeps
    | with_reducible apply commitTamper_keeps | with_reducible apply afterReset_keeps | with_reducible apply Keeps.ite | split

theorem doDbgReq_keeps {s0 : State} (s : State) (hK : Keeps s0 s) :
    Keeps s0 (doDbgReq s) := by
  unfold doDbgReq
  repeat' first
    | with_reducible assumption | (extract_lets +onlyGivenNames x; have h1 : Keeps s0 x := ?_; clear_value x; rotate_left; subst x)
    | (extract_lets +onlyGivenNames x; subst x) | with_reducible apply setPwr_keeps | with_reducible apply Keeps.ite | split
    | with_reducible refine Keeps.upd ?_ rfl rfl rfl rfl rfl rfl

theorem bootSelector_keeps {s0 : State} (x : Selector) (s : State) (hK : Keeps s0 s) :
    Keeps s0 (bootSelector x s) := by
  unfold bootSelector
  repeat' first
    | with_reducible assumption | (extract_lets +onlyGivenNames x; have h1 : Keeps s0 x := ?_; clear_value x; rotate_left; subst x)
    | (extract_lets +onlyGivenNames x; subst x) | with_reducible apply refreshSelector_keeps | with_reducible apply bootWrite_keeps
    | with_reducible apply setRig_keeps | with_reducible refine Keeps.upd ?_ rfl rfl rfl rfl rfl rfl

theorem tryFailed_keeps {s0 : State} (e : Slot × Try) (f : LoadFail) (s : State) (hK : Keeps s0 s) :
    Keeps s0 (tryFailed e f s) := by
  unfold tryFailed
  repeat' first
    | with_reducible assumption | (extract_lets +onlyGivenNames x; have h1 : Keeps s0 x := ?_; clear_value x; rotate_left; subst x)
    | (extract_lets +onlyGivenNames x; subst x) | with_reducible apply showLoad_keeps | with_reducible apply rigEvent_keeps
    | with_reducible apply Keeps.ite | split

theorem bootBare_keeps {s0 : State} (s : State) (hK : Keeps s0 s) :
    Keeps s0 (bootBare s) := by
  unfold bootBare
  repeat' first
    | with_reducible assumption | with_reducible apply alert_keeps | with_reducible apply enterBare_keeps | with_reducible apply rigEvent_keeps

theorem bootTry_keeps {s0 : State} (l : List (Slot × Try)) (s : State) (hK : Keeps s0 s) : Keeps s0 (bootTry l s) := by
  induction l generalizing s with
  | nil => exact bootBare_keeps _ hK
  | cons e l ih =>
    unfold bootTry
    split
    · exact ih _ (tryFailed_keeps _ _ _ hK)
    · split
      · exact ih _ (tryFailed_keeps _ _ _ hK)
      · exact applyStorePlan_keeps _ _ (applyEarly_keeps _ _ (setRig_keeps _ _ hK))

theorem bootSelect_keeps {s0 : State} (s : State) (hK : Keeps s0 s) :
    Keeps s0 (bootSelect s) := by
  unfold bootSelect
  repeat' first
    | with_reducible assumption | (extract_lets +onlyGivenNames x; have h1 : Keeps s0 x := ?_; clear_value x; rotate_left; subst x)
    | (extract_lets +onlyGivenNames x; subst x) | with_reducible apply bootSelector_keeps | with_reducible apply bootTry_keeps
    | with_reducible apply Keeps.ite | split | with_reducible refine Keeps.upd ?_ rfl rfl rfl rfl rfl rfl

theorem bootLoaded_keeps {s0 : State} (e : Slot × Try) (i : RigImage) (s : State) (hK : Keeps s0 s) :
    Keeps s0 (bootLoaded e i s) := by
  unfold bootLoaded
  repeat' first
    | with_reducible assumption | (extract_lets +onlyGivenNames x; have h1 : Keeps s0 x := ?_; clear_value x; rotate_left; subst x)
    | (extract_lets +onlyGivenNames x; subst x) | with_reducible apply alert_keeps | with_reducible apply loadImage_keeps
    | with_reducible apply rigEvent_keeps | with_reducible apply bootSelector_keeps | with_reducible apply Keeps.ite | split
    | with_reducible refine Keeps.upd ?_ rfl rfl rfl rfl rfl rfl

theorem bootWhole_keeps {s0 : State} (l : List (Slot × Try)) (s : State) (hK : Keeps s0 s) : Keeps s0 (bootWhole l s) := by
  induction l generalizing s with
  | nil => exact bootBare_keeps _ hK
  | cons e l ih =>
    unfold bootWhole
    split
    · exact bootLoaded_keeps _ _ _ hK
    · exact ih _ (tryFailed_keeps _ _ _ hK)

theorem doSectionsChecked_keeps {s0 : State} (s : State) (hK : Keeps s0 s) :
    Keeps s0 (doSectionsChecked s) := by
  unfold doSectionsChecked
  repeat' first
    | with_reducible assumption | (extract_lets +onlyGivenNames x; have h1 : Keeps s0 x := ?_; clear_value x; rotate_left; subst x)
    | (extract_lets +onlyGivenNames x; subst x) | with_reducible apply bootWhole_keeps | with_reducible apply Keeps.ite | split
    | with_reducible refine Keeps.upd ?_ rfl rfl rfl rfl rfl rfl

theorem latchAtReset_keeps {s0 : State} (alarms : Nat) (s : State) (hK : Keeps s0 s) :
    Keeps s0 (latchAtReset alarms s) := by
  unfold latchAtReset
  repeat' first
    | with_reducible assumption | (extract_lets +onlyGivenNames x; have h1 : Keeps s0 x := ?_; clear_value x; rotate_left; subst x)
    | (extract_lets +onlyGivenNames x; subst x) | with_reducible apply State.setReg_keeps | with_reducible apply setPwr_keeps
    | with_reducible apply Keeps.ite | split | with_reducible refine Keeps.upd ?_ rfl rfl rfl rfl rfl rfl

theorem rootAtBoot_keeps {s0 : State} (ok : Bool) (s : State) (hK : Keeps s0 s) : Keeps s0 (rootAtBoot ok s) := by
  unfold rootAtBoot
  exact State.setReg_keeps _ _ _ ⟨hK.pending, hK.draws, hK.canon, hK.page, hK.locked, fun _ => rfl⟩

theorem bootRecords_keeps {s0 : State} (s : State) (hK : Keeps s0 s) :
    Keeps s0 (bootRecords s) := by
  unfold bootRecords
  repeat' first
    | with_reducible assumption | (extract_lets +onlyGivenNames x; have h1 : Keeps s0 x := ?_; clear_value x; rotate_left; subst x)
    | (extract_lets +onlyGivenNames x; subst x) | with_reducible apply refreshSelector_keeps | with_reducible apply scanRings_keeps
    | with_reducible apply loadCal_keeps | with_reducible apply setRig_keeps | with_reducible apply Keeps.ite | split
    | with_reducible refine Keeps.upd ?_ rfl rfl rfl rfl rfl rfl

theorem alarmsAtBoot_keeps {s0 : State} (alarms : Nat) (s : State) (hK : Keeps s0 s) :
    Keeps s0 (alarmsAtBoot alarms s) := by
  unfold alarmsAtBoot
  repeat' first
    | with_reducible assumption | intro _ | with_reducible apply doTamperAlarm_keeps | with_reducible apply foldl_keeps
    | with_reducible apply Keeps.ite | split

theorem bringUp_keeps {s0 : State} (copy : Nat) (obs : ReleaseObs) (s : State) (hK : Keeps s0 s) :
    Keeps s0 (bringUp copy obs s) := by
  unfold bringUp
  repeat' first
    | with_reducible assumption | ((with_reducible refine Eq.symm ?_); rfl)
    | (extract_lets +onlyGivenNames x; have h1 : Keeps s0 x := ?_; clear_value x; rotate_left; subst x) | (extract_lets +onlyGivenNames x; subst x)
    | with_reducible apply State.setReg_keeps | with_reducible apply setPwr_keeps | with_reducible refine setKey_keeps _ _ ?_ ?_
    | with_reducible apply deriveKeys_keeps | with_reducible apply loadKeys_keeps | with_reducible apply enterLockdown_keeps
    | with_reducible apply bootSelect_keeps | with_reducible apply latchAtReset_keeps | with_reducible apply rootAtBoot_keeps
    | with_reducible apply bootRecords_keeps | with_reducible apply alarmsAtBoot_keeps | with_reducible apply Keeps.ite | split
    | with_reducible refine Keeps.upd ?_ rfl rfl rfl rfl rfl rfl

theorem doResetRelease_keeps {s0 : State} (obs : ReleaseObs) (s : State) (hK : Keeps s0 s) :
    Keeps s0 (doResetRelease obs s) := by
  unfold doResetRelease
  repeat' first
    | with_reducible assumption | (extract_lets +onlyGivenNames x; have h1 : Keeps s0 x := ?_; clear_value x; rotate_left; subst x)
    | (extract_lets +onlyGivenNames x; subst x) | with_reducible apply State.setF_keeps | with_reducible apply setPwr_keeps
    | with_reducible apply bringUp_keeps | with_reducible apply Keeps.ite | split | with_reducible refine Keeps.upd ?_ rfl rfl rfl rfl rfl rfl

theorem fullService_keeps {s0 : State} (s : State) (hK : Keeps s0 s) :
    Keeps s0 (fullService s) := by
  unfold fullService
  repeat' first
    | with_reducible assumption | (extract_lets +onlyGivenNames x; have h1 : Keeps s0 x := ?_; clear_value x; rotate_left; subst x)
    | (extract_lets +onlyGivenNames x; subst x) | with_reducible apply State.setReg_keeps | with_reducible apply raiseEn_keeps
    | with_reducible apply lanesRefresh_keeps | with_reducible apply wakeUsed_keeps | with_reducible apply enginesRefresh_keeps
    | with_reducible apply releaseAll_keeps | with_reducible apply setMode_keeps | with_reducible apply Keeps.ite | split

theorem doInService_keeps {s0 : State} (s : State) (hK : Keeps s0 s) :
    Keeps s0 (doInService s) := by
  unfold doInService
  repeat' first
    | with_reducible assumption | (extract_lets +onlyGivenNames x; have h1 : Keeps s0 x := ?_; clear_value x; rotate_left; subst x)
    | (extract_lets +onlyGivenNames x; subst x) | with_reducible apply storeInService_keeps | with_reducible apply bringUp_keeps
    | with_reducible apply fullService_keeps | with_reducible apply Keeps.ite | split

theorem avsSend_keeps {s0 : State} (mv : Nat) (ack : Bool) (s : State) (hK : Keeps s0 s) :
    Keeps s0 (avsSend mv ack s) := by
  unfold avsSend
  repeat' first
    | with_reducible assumption | (extract_lets +onlyGivenNames x; have h1 : Keeps s0 x := ?_; clear_value x; rotate_left; subst x)
    | (extract_lets +onlyGivenNames x; subst x) | with_reducible apply State.emit_keeps | with_reducible apply setPwr_keeps
    | with_reducible apply Keeps.ite | split | with_reducible refine Keeps.upd ?_ rfl rfl rfl rfl rfl rfl

theorem doAvsRequest_keeps {s0 : State} (mv : Nat) (ack : Bool) (s : State) (hK : Keeps s0 s) :
    Keeps s0 (doAvsRequest mv ack s) := by
  unfold doAvsRequest
  repeat' first
    | with_reducible assumption | (extract_lets +onlyGivenNames x; have h1 : Keeps s0 x := ?_; clear_value x; rotate_left; subst x)
    | (extract_lets +onlyGivenNames x; subst x) | with_reducible apply avsSend_keeps | with_reducible apply Keeps.ite | split

theorem doAvsRetry_keeps {s0 : State} (ack : Bool) (s : State) (hK : Keeps s0 s) :
    Keeps s0 (doAvsRetry ack s) := by
  unfold doAvsRetry
  repeat' first
    | with_reducible assumption | with_reducible apply avsSend_keeps | with_reducible apply Keeps.ite | split


/-! Rerig -/

theorem writeSelector_keeps {s0 : State} (x : Selector) (why : RecWhy) (s : State) (hK : Keeps s0 s) :
    Keeps s0 (writeSelector x why s) := by
  unfold writeSelector
  repeat' first
    | with_reducible assumption | with_reducible apply writeRecord_keeps

theorem rigWriteSlotEffect_keeps {s0 : State} (o : Origin) (slot offset length : Nat) (data : Option (List Byte)) (plans : Option Plans) (s : State) (hK : Keeps s0 s) :
    Keeps s0 (rigWriteSlotEffect o slot offset length data plans s) := by
  unfold rigWriteSlotEffect
  repeat' first
    | with_reducible assumption | (extract_lets +onlyGivenNames x; have h1 : Keeps s0 x := ?_; clear_value x; rotate_left; subst x)
    | (extract_lets +onlyGivenNames x; subst x) | with_reducible apply mailbox_keeps | with_reducible apply setRig_keeps
    | with_reducible apply writeSelector_keeps | with_reducible apply Keeps.ite | split | with_reducible refine Keeps.upd ?_ rfl rfl rfl rfl rfl rfl

theorem doRigWriteSlot_keeps {s0 : State} (o : Origin) (slot offset length : Nat) (data : Option (List Byte)) (plans : Option Plans) (s : State) (hK : Keeps s0 s) :
    Keeps s0 (doRigWriteSlot o slot offset length data plans s) := by
  unfold doRigWriteSlot
  repeat' first
    | with_reducible assumption | intro _ | with_reducible apply loneCommand_keeps | with_reducible apply rigWriteSlotEffect_keeps

theorem doRigWriteSlotDone_keeps {s0 : State} (slot : Nat) (s : State) (hK : Keeps s0 s) :
    Keeps s0 (doRigWriteSlotDone slot s) := by
  unfold doRigWriteSlotDone
  repeat' first
    | with_reducible assumption | intro _ | (extract_lets +onlyGivenNames x; have h1 : Keeps s0 x := ?_; clear_value x; rotate_left; subst x)
    | (extract_lets +onlyGivenNames x; subst x) | with_reducible apply complete_keeps | with_reducible apply completeOk_keeps
    | with_reducible apply fetchFault_keeps | with_reducible apply setImage_keeps | with_reducible apply setRig_keeps | with_reducible apply Keeps.ite
    | split | with_reducible refine Keeps.upd ?_ rfl rfl rfl rfl rfl rfl

theorem rigVerifySlotEffect_keeps {s0 : State} (o : Origin) (slot : Nat) (s : State) (hK : Keeps s0 s) :
    Keeps s0 (rigVerifySlotEffect o slot s) := by
  unfold rigVerifySlotEffect
  repeat' first
    | with_reducible assumption | (extract_lets +onlyGivenNames x; have h1 : Keeps s0 x := ?_; clear_value x; rotate_left; subst x)
    | (extract_lets +onlyGivenNames x; subst x) | with_reducible apply mailbox_keeps | with_reducible apply setRig_keeps
    | with_reducible apply Keeps.ite | split | with_reducible refine Keeps.upd ?_ rfl rfl rfl rfl rfl rfl

theorem doRigVerifySlot_keeps {s0 : State} (o : Origin) (slot : Nat) (s : State) (hK : Keeps s0 s) :
    Keeps s0 (doRigVerifySlot o slot s) := by
  unfold doRigVerifySlot
  repeat' first
    | with_reducible assumption | intro _ | with_reducible apply loneCommand_keeps | with_reducible apply rigVerifySlotEffect_keeps

theorem doRigVerifySlotDone_keeps {s0 : State} (slot : Nat) (s : State) (hK : Keeps s0 s) :
    Keeps s0 (doRigVerifySlotDone slot s) := by
  unfold doRigVerifySlotDone
  repeat' first
    | with_reducible assumption | intro _ | (extract_lets +onlyGivenNames x; have h1 : Keeps s0 x := ?_; clear_value x; rotate_left; subst x)
    | (extract_lets +onlyGivenNames x; subst x) | with_reducible apply complete_keeps | with_reducible apply setRig_keeps
    | with_reducible apply showLoad_keeps | with_reducible apply writeSelector_keeps | with_reducible apply Keeps.ite | split
    | with_reducible refine Keeps.upd ?_ rfl rfl rfl rfl rfl rfl

theorem rigSelectSlotEffect_keeps {s0 : State} (o : Origin) (slot : Nat) (trial : Bool) (s : State) (hK : Keeps s0 s) :
    Keeps s0 (rigSelectSlotEffect o slot trial s) := by
  unfold rigSelectSlotEffect
  repeat' first
    | with_reducible assumption | (extract_lets +onlyGivenNames x; have h1 : Keeps s0 x := ?_; clear_value x; rotate_left; subst x)
    | (extract_lets +onlyGivenNames x; subst x) | with_reducible apply mailbox_keeps | with_reducible apply writeSelector_keeps
    | with_reducible apply Keeps.ite | split | with_reducible refine Keeps.upd ?_ rfl rfl rfl rfl rfl rfl

theorem doRigSelectSlot_keeps {s0 : State} (o : Origin) (slot : Nat) (trial : Bool) (s : State) (hK : Keeps s0 s) :
    Keeps s0 (doRigSelectSlot o slot trial s) := by
  unfold doRigSelectSlot
  repeat' first
    | with_reducible assumption | intro _ | with_reducible apply loneCommand_keeps | with_reducible apply rigSelectSlotEffect_keeps

theorem rigConfirmEffect_keeps {s0 : State} (o : Origin) (s : State) (hK : Keeps s0 s) :
    Keeps s0 (rigConfirmEffect o s) := by
  unfold rigConfirmEffect
  repeat' first
    | with_reducible assumption | (extract_lets +onlyGivenNames x; have h1 : Keeps s0 x := ?_; clear_value x; rotate_left; subst x)
    | (extract_lets +onlyGivenNames x; subst x) | with_reducible apply State.setBit_keeps | with_reducible apply mailbox_keeps
    | with_reducible apply digestChanged_keeps | with_reducible apply writeSelector_keeps | with_reducible refine Keeps.upd ?_ rfl rfl rfl rfl rfl rfl

theorem doRigConfirm_keeps {s0 : State} (o : Origin) (s : State) (hK : Keeps s0 s) :
    Keeps s0 (doRigConfirm o s) := by
  unfold doRigConfirm
  repeat' first
    | with_reducible assumption | intro _ | with_reducible apply loneCommand_keeps | with_reducible apply rigConfirmEffect_keeps

theorem setZone_keeps {s0 : State} (k v : Nat) (s : State) (hK : Keeps s0 s) :
    Keeps s0 (setZone k v s) := by
  unfold setZone
  repeat' first
    | with_reducible assumption | with_reducible apply State.setF_keeps

theorem setCurrent_keeps {s0 : State} (k : Nat) (s : State) (hK : Keeps s0 s) :
    Keeps s0 (setCurrent k s) := by
  unfold setCurrent
  repeat' first
    | with_reducible assumption | with_reducible apply State.setF_keeps

theorem rigRezoneEffect_keeps {s0 : State} (o : Origin) (slot mask : Nat) (s : State) (hK : Keeps s0 s) :
    Keeps s0 (rigRezoneEffect o slot mask s) := by
  unfold rigRezoneEffect
  repeat' first
    | with_reducible assumption | intro _ | (extract_lets +onlyGivenNames x; have h1 : Keeps s0 x := ?_; clear_value x; rotate_left; subst x)
    | (extract_lets +onlyGivenNames x; subst x) | with_reducible apply State.setReg_keeps | with_reducible apply State.setBit_keeps
    | with_reducible apply setRig_keeps | with_reducible apply setZone_keeps | with_reducible apply foldl_keeps | with_reducible apply Keeps.ite
    | split | with_reducible refine Keeps.upd ?_ rfl rfl rfl rfl rfl rfl

theorem doRigRezone_keeps {s0 : State} (o : Origin) (slot mask : Nat) (s : State) (hK : Keeps s0 s) :
    Keeps s0 (doRigRezone o slot mask s) := by
  unfold doRigRezone
  repeat' first
    | with_reducible assumption | intro _ | with_reducible apply loneCommand_keeps | with_reducible apply rigRezoneEffect_keeps

theorem setRezone_keeps {s0 : State} (r : Option Rezone) (s : State) (hK : Keeps s0 s) :
    Keeps s0 (setRezone r s) := by
  unfold setRezone
  repeat' first
    | with_reducible assumption | (extract_lets +onlyGivenNames x; have h1 : Keeps s0 x := ?_; clear_value x; rotate_left; subst x)
    | (extract_lets +onlyGivenNames x; subst x) | with_reducible apply setRig_keeps | with_reducible refine Keeps.upd ?_ rfl rfl rfl rfl rfl rfl

theorem drainZone_keeps {s0 : State} (k : Nat) (s : State) (hK : Keeps s0 s) :
    Keeps s0 (drainZone k s) := by
  unfold drainZone
  repeat' first
    | with_reducible assumption | intro _ | (extract_lets +onlyGivenNames x; have h1 : Keeps s0 x := ?_; clear_value x; rotate_left; subst x)
    | (extract_lets +onlyGivenNames x; subst x) | with_reducible apply txRefreshAll_keeps | with_reducible apply endSets_keeps
    | with_reducible apply setZone_keeps | with_reducible apply setCurrent_keeps

theorem endRezone_keeps {s0 : State} (s : State) (hK : Keeps s0 s) :
    Keeps s0 (endRezone s) := by
  unfold endRezone
  repeat' first
    | with_reducible assumption | with_reducible apply State.setF_keeps | with_reducible apply State.setBit_keeps
    | with_reducible apply setRezone_keeps

theorem returnNext_keeps {s0 : State} (r : Rezone) (s : State) (hK : Keeps s0 s) :
    Keeps s0 (returnNext r s) := by
  unfold returnNext
  repeat' first
    | with_reducible assumption | with_reducible apply complete_keeps | with_reducible apply setRezone_keeps | with_reducible apply drainZone_keeps
    | with_reducible apply endRezone_keeps | with_reducible apply Keeps.ite | split | with_reducible refine Keeps.upd ?_ rfl rfl rfl rfl rfl rfl

theorem rezoneFails_keeps {s0 : State} (r : Rezone) (f : Nat × Nat) (s : State) (hK : Keeps s0 s) :
    Keeps s0 (rezoneFails r f s) := by
  unfold rezoneFails
  repeat' first
    | with_reducible assumption | intro _ | (extract_lets +onlyGivenNames x; have h1 : Keeps s0 x := ?_; clear_value x; rotate_left; subst x)
    | (extract_lets +onlyGivenNames x; subst x) | with_reducible apply showLoad_keeps | with_reducible apply rigEvent_keeps
    | with_reducible apply setZone_keeps | with_reducible apply returnNext_keeps | with_reducible apply foldl_keeps | with_reducible apply Keeps.ite
    | split | with_reducible refine Keeps.upd ?_ rfl rfl rfl rfl rfl rfl

theorem doZoneVerified_keeps {s0 : State} (read : List (Nat × List Byte)) (s : State) (hK : Keeps s0 s) :
    Keeps s0 (doZoneVerified read s) := by
  unfold doZoneVerified
  repeat' first
    | with_reducible assumption | with_reducible apply showLoad_keeps | with_reducible apply setRezone_keeps | with_reducible apply rezoneFails_keeps
    | with_reducible apply Keeps.ite | split | with_reducible refine Keeps.upd ?_ rfl rfl rfl rfl rfl rfl

theorem doZoneStaged_keeps {s0 : State} (read : List (Nat × List Byte)) (s : State) (hK : Keeps s0 s) :
    Keeps s0 (doZoneStaged read s) := by
  unfold doZoneStaged
  repeat' first
    | with_reducible assumption | intro _ | (extract_lets +onlyGivenNames x; have h1 : Keeps s0 x := ?_; clear_value x; rotate_left; subst x)
    | (extract_lets +onlyGivenNames x; subst x) | with_reducible apply showLoad_keeps | with_reducible apply setRezone_keeps
    | with_reducible apply drainZone_keeps | with_reducible apply rezoneFails_keeps | with_reducible apply Keeps.ite | split
    | with_reducible refine Keeps.upd ?_ rfl rfl rfl rfl rfl rfl

theorem stopZone_keeps {s0 : State} (k : Nat) (s : State) (hK : Keeps s0 s) :
    Keeps s0 (stopZone k s) := by
  unfold stopZone
  repeat' first
    | with_reducible assumption | intro _ | (extract_lets +onlyGivenNames x; have h1 : Keeps s0 x := ?_; clear_value x; rotate_left; subst x)
    | (extract_lets +onlyGivenNames x; subst x) | with_reducible apply setRecSt_keeps | with_reducible apply setPresent_keeps
    | with_reducible apply setFid_keeps | with_reducible apply endRun_keeps | with_reducible apply setAmiPresent_keeps
    | with_reducible apply setFlowPresent_keeps | with_reducible apply playerStop_keeps | with_reducible apply loseDecoder_keeps
    | with_reducible apply tautRefresh_keeps | with_reducible apply foldl_keeps | with_reducible apply Keeps.ite | split
    | with_reducible refine Keeps.upd ?_ rfl rfl rfl rfl rfl rfl

theorem doZoneStopped_keeps {s0 : State} (s : State) (hK : Keeps s0 s) :
    Keeps s0 (doZoneStopped s) := by
  unfold doZoneStopped
  repeat' first
    | with_reducible assumption | with_reducible apply setZone_keeps | with_reducible apply setRezone_keeps | with_reducible apply stopZone_keeps
    | with_reducible apply Keeps.ite | split | with_reducible refine Keeps.upd ?_ rfl rfl rfl rfl rfl rfl

theorem hitchDropped_keeps {s0 : State} (obj : Nat) (owners : List (Option Nat)) (s : State) (hK : Keeps s0 s) :
    Keeps s0 (hitchDropped obj owners s) := by
  unfold hitchDropped
  repeat' first
    | with_reducible assumption | intro _ | (extract_lets +onlyGivenNames x; have h1 : Keeps s0 x := ?_; clear_value x; rotate_left; subst x)
    | (extract_lets +onlyGivenNames x; subst x) | with_reducible apply postTo_keeps | with_reducible apply raiseRig_keeps
    | with_reducible apply foldl_keeps

theorem dropHitch_keeps {s0 : State} (h : Bool × Nat × List (Option Nat)) (s : State) (hK : Keeps s0 s) :
    Keeps s0 (dropHitch h s) := by
  unfold dropHitch
  repeat' first
    | with_reducible assumption | with_reducible apply bindNow_keeps | with_reducible apply bindAudio_keeps | with_reducible apply reportReturn_keeps
    | with_reducible apply hitchDropped_keeps | with_reducible apply Keeps.ite | split

theorem rezoneApply_keeps {s0 : State} (k : Nat) (a b : ZonePlan) (images : Nat → FidImage) (s : State) (hK : Keeps s0 s) :
    Keeps s0 (rezoneApply k a b images s) := by
  unfold rezoneApply
  repeat' first
    | with_reducible assumption | intro _ | (extract_lets +onlyGivenNames x; have h1 : Keeps s0 x := ?_; clear_value x; rotate_left; subst x)
    | (extract_lets +onlyGivenNames x; subst x) | with_reducible apply wakeDomain_keeps | with_reducible apply coldStart_keeps
    | with_reducible apply chargeDevice_keeps | with_reducible apply applyPlan_keeps | with_reducible apply foldl_keeps

theorem rezoneRuns_keeps {s0 : State} (k : Nat) (b : ZonePlan) (drops : List (Bool × Nat × List (Option Nat))) (s : State) (hK : Keeps s0 s) :
    Keeps s0 (rezoneRuns k b drops s) := by
  unfold rezoneRuns
  repeat' first
    | with_reducible assumption | intro _ | (extract_lets +onlyGivenNames x; have h1 : Keeps s0 x := ?_; clear_value x; rotate_left; subst x)
    | (extract_lets +onlyGivenNames x; subst x) | with_reducible apply setStrand_keeps | with_reducible apply lanesRefresh_keeps
    | with_reducible apply enginesRefresh_keeps | with_reducible apply tautRefresh_keeps | with_reducible apply applyStrand_keeps
    | with_reducible apply setZone_keeps | with_reducible apply dropHitch_keeps | with_reducible apply foldl_keeps
    | with_reducible refine Keeps.upd ?_ rfl rfl rfl rfl rfl rfl

theorem stopMax_keeps {s0 : State} (since : Nat) (s : State) (hK : Keeps s0 s) :
    Keeps s0 (stopMax since s) := by
  unfold stopMax
  repeat' first
    | with_reducible assumption | (extract_lets +onlyGivenNames x; have h1 : Keeps s0 x := ?_; clear_value x; rotate_left; subst x)
    | (extract_lets +onlyGivenNames x; subst x) | with_reducible apply State.setF_keeps | with_reducible apply Keeps.ite | split

theorem rezoneDone_keeps {s0 : State} (r : Rezone) (i : RigImage) (s : State) (hK : Keeps s0 s) :
    Keeps s0 (rezoneDone r i s) := by
  unfold rezoneDone
  repeat' first
    | with_reducible assumption | (extract_lets +onlyGivenNames x; have h1 : Keeps s0 x := ?_; clear_value x; rotate_left; subst x)
    | (extract_lets +onlyGivenNames x; subst x) | with_reducible apply State.setBit_keeps | with_reducible apply digestChanged_keeps
    | with_reducible apply setRig_keeps | with_reducible apply showImage_keeps | with_reducible apply writeSelector_keeps
    | with_reducible refine Keeps.upd ?_ rfl rfl rfl rfl rfl rfl

theorem zoneRuns_keeps {s0 : State} (r : Rezone) (k : Nat) (new : RigImage) (plan : ZonePlan) (s : State) (hK : Keeps s0 s) :
    Keeps s0 (zoneRuns r k new plan s) := by
  unfold zoneRuns
  repeat' first
    | with_reducible assumption | intro _ | (extract_lets +onlyGivenNames x; have h1 : Keeps s0 x := ?_; clear_value x; rotate_left; subst x)
    | (extract_lets +onlyGivenNames x; subst x) | with_reducible apply setCurrent_keeps | with_reducible apply setRezone_keeps
    | with_reducible apply returnNext_keeps | with_reducible apply rezoneRuns_keeps | with_reducible apply stopMax_keeps
    | with_reducible apply rezoneDone_keeps | with_reducible apply Keeps.ite | split | with_reducible refine Keeps.upd ?_ rfl rfl rfl rfl rfl rfl

theorem zoneWritten_keeps {s0 : State} (r : Rezone) (k : Nat) (cur : RigImage) (a b : ZonePlan) (s : State) (hK : Keeps s0 s) :
    Keeps s0 (zoneWritten r k cur a b s).1 := by
  unfold zoneWritten
  repeat' first
    | with_reducible assumption | intro _ | (extract_lets +onlyGivenNames x; have h1 : Keeps s0 x := ?_; clear_value x; rotate_left; subst x)
    | (extract_lets +onlyGivenNames x; subst x) | with_reducible apply setRezone_keeps | with_reducible apply rezoneApply_keeps
    | with_reducible apply Keeps.ite | split | with_reducible refine Keeps.upd ?_ rfl rfl rfl rfl rfl rfl | dsimp only

theorem doZoneRunning_keeps {s0 : State} (s : State) (hK : Keeps s0 s) :
    Keeps s0 (doZoneRunning s) := by
  unfold doZoneRunning
  repeat' first
    | with_reducible assumption | (extract_lets +onlyGivenNames x; have h1 : Keeps s0 x := ?_; clear_value x; rotate_left; subst x)
    | (extract_lets +onlyGivenNames x; subst x) | with_reducible apply zoneRuns_keeps | with_reducible apply zoneWritten_keeps
    | with_reducible apply Keeps.ite | split | with_reducible refine Keeps.upd ?_ rfl rfl rfl rfl rfl rfl


/-! Modes -/

theorem setWakeTime_keeps {s0 : State} (t : Nat) (s : State) (hK : Keeps s0 s) :
    Keeps s0 (setWakeTime t s) := by
  unfold setWakeTime
  repeat' first
    | with_reducible assumption | with_reducible apply State.setReg_keeps

theorem beginSleep_keeps {s0 : State} (mode : Nat) (o : Origin) (s : State) (hK : Keeps s0 s) :
    Keeps s0 (beginSleep mode o s) := by
  unfold beginSleep
  repeat' first
    | with_reducible assumption | intro _ | (extract_lets +onlyGivenNames x; have h1 : Keeps s0 x := ?_; clear_value x; rotate_left; subst x)
    | (extract_lets +onlyGivenNames x; subst x) | with_reducible apply State.setBit_keeps | with_reducible apply lanesRefresh_keeps
    | with_reducible apply setPwr_keeps | with_reducible apply endSets_keeps | with_reducible apply stopCopy_keeps
    | with_reducible apply abortCal_keeps | with_reducible apply undoBatches_keeps | with_reducible apply foldl_keeps
    | with_reducible refine Keeps.upd ?_ rfl rfl rfl rfl rfl rfl

theorem modeRequestEffect_keeps {s0 : State} (o : Origin) (mode time : Nat) (s : State) (hK : Keeps s0 s) :
    Keeps s0 (modeRequestEffect o mode time s) := by
  unfold modeRequestEffect
  repeat' first
    | with_reducible assumption | (extract_lets +onlyGivenNames x; have h1 : Keeps s0 x := ?_; clear_value x; rotate_left; subst x)
    | (extract_lets +onlyGivenNames x; subst x) | with_reducible apply completeOk_keeps | with_reducible apply setMode_keeps
    | with_reducible apply showMode_keeps | with_reducible apply enterLockdown_keeps | with_reducible apply setWakeTime_keeps
    | with_reducible apply beginSleep_keeps | with_reducible apply Keeps.ite | split

theorem doModeRequest_keeps {s0 : State} (o : Origin) (mode time : Nat) (s : State) (hK : Keeps s0 s) :
    Keeps s0 (doModeRequest o mode time s) := by
  unfold doModeRequest
  repeat' first
    | with_reducible assumption | intro _ | (extract_lets +onlyGivenNames x; have h1 : Keeps s0 x := ?_; clear_value x; rotate_left; subst x)
    | (extract_lets +onlyGivenNames x; subst x) | with_reducible apply loneCommand_keeps | with_reducible apply showMode_keeps
    | with_reducible apply modeRequestEffect_keeps | with_reducible apply Keeps.ite | split
    | with_reducible refine Keeps.upd ?_ rfl rfl rfl rfl rfl rfl

theorem startWake_keeps {s0 : State} (cause link : Nat) (s : State) (hK : Keeps s0 s) :
    Keeps s0 (startWake cause link s) := by
  unfold startWake
  repeat' first
    | with_reducible assumption | (extract_lets +onlyGivenNames x; have h1 : Keeps s0 x := ?_; clear_value x; rotate_left; subst x)
    | (extract_lets +onlyGivenNames x; subst x) | with_reducible apply State.setReg_keeps | with_reducible apply State.setBit_keeps
    | with_reducible apply setPwr_keeps | with_reducible refine Keeps.upd ?_ rfl rfl rfl rfl rfl rfl

theorem wakeSource_keeps {s0 : State} (cause link : Nat) (s : State) (hK : Keeps s0 s) :
    Keeps s0 (wakeSource cause link s) := by
  unfold wakeSource
  repeat' first
    | with_reducible assumption | (extract_lets +onlyGivenNames x; have h1 : Keeps s0 x := ?_; clear_value x; rotate_left; subst x)
    | (extract_lets +onlyGivenNames x; subst x) | with_reducible apply setPwr_keeps | with_reducible apply startWake_keeps
    | with_reducible apply Keeps.ite | split | with_reducible refine Keeps.upd ?_ rfl rfl rfl rfl rfl rfl

theorem doHostWake_keeps {s0 : State} (link : Nat) (s : State) (hK : Keeps s0 s) :
    Keeps s0 (doHostWake link s) := by
  unfold doHostWake
  repeat' first
    | with_reducible assumption | with_reducible apply wakeSource_keeps

theorem doTimeWake_keeps {s0 : State} (s : State) (hK : Keeps s0 s) :
    Keeps s0 (doTimeWake s) := by
  unfold doTimeWake
  repeat' first
    | with_reducible assumption | with_reducible apply wakeSource_keeps | with_reducible apply Keeps.ite | split

theorem doOutputsStopped_keeps {s0 : State} (s : State) (hK : Keeps s0 s) :
    Keeps s0 (doOutputsStopped s) := by
  unfold doOutputsStopped
  repeat' first
    | with_reducible assumption | intro _ | (extract_lets +onlyGivenNames x; have h1 : Keeps s0 x := ?_; clear_value x; rotate_left; subst x)
    | (extract_lets +onlyGivenNames x; subst x) | with_reducible apply State.setReg_keeps | with_reducible apply State.setBit_keeps
    | with_reducible apply completeOk_keeps | with_reducible apply setPwr_keeps | with_reducible apply timeSleep_keeps
    | with_reducible apply setMode_keeps | with_reducible apply showMode_keeps | with_reducible apply stopStrands_keeps
    | with_reducible apply selfRefreshAll_keeps | with_reducible apply startWake_keeps | with_reducible apply foldl_keeps
    | with_reducible apply Keeps.ite | split | with_reducible refine Keeps.upd ?_ rfl rfl rfl rfl rfl rfl

theorem resume_keeps {s0 : State} (target : Nat) (s : State) (hK : Keeps s0 s) :
    Keeps s0 (resume target s) := by
  unfold resume
  repeat' first
    | with_reducible assumption | intro _ | (extract_lets +onlyGivenNames x; have h1 : Keeps s0 x := ?_; clear_value x; rotate_left; subst x)
    | (extract_lets +onlyGivenNames x; subst x) | with_reducible apply State.draw_keeps | with_reducible apply raiseEn_keeps
    | with_reducible apply lanesRefresh_keeps | with_reducible apply setPwr_keeps | with_reducible apply wakeDomain_keeps
    | with_reducible apply enginesRefresh_keeps | with_reducible apply genEnter_keeps | with_reducible apply startRx_keeps
    | with_reducible apply stampLanyard_keeps | with_reducible apply setMode_keeps | with_reducible apply foldl_keeps | with_reducible apply Keeps.ite
    | split | with_reducible refine Keeps.upd ?_ rfl rfl rfl rfl rfl rfl

theorem leaveSelfRefresh_keeps {s0 : State} (s : State) (hK : Keeps s0 s) :
    Keeps s0 (leaveSelfRefresh s) := by
  unfold leaveSelfRefresh
  repeat' first
    | with_reducible assumption | intro _ | with_reducible apply outOfRefresh_keeps | with_reducible apply foldl_keeps

theorem wakeAlarmed_keeps {s0 : State} (s : State) (hK : Keeps s0 s) :
    Keeps s0 (wakeAlarmed s) := by
  unfold wakeAlarmed
  repeat' first
    | with_reducible assumption | with_reducible apply timeWake_keeps | with_reducible apply enterLockdown_keeps
    | with_reducible apply writeTamper_keeps | with_reducible apply Keeps.ite | split

theorem doWake_keeps {s0 : State} (ticks : Nat) (s : State) (hK : Keeps s0 s) :
    Keeps s0 (doWake ticks s) := by
  unfold doWake
  repeat' first
    | with_reducible assumption | (extract_lets +onlyGivenNames x; have h1 : Keeps s0 x := ?_; clear_value x; rotate_left; subst x)
    | (extract_lets +onlyGivenNames x; subst x) | with_reducible apply setPwr_keeps | with_reducible apply timeWake_keeps
    | with_reducible apply setWakeTime_keeps | with_reducible apply resume_keeps | with_reducible apply leaveSelfRefresh_keeps
    | with_reducible apply wakeAlarmed_keeps | with_reducible apply Keeps.ite | split | with_reducible refine Keeps.upd ?_ rfl rfl rfl rfl rfl rfl

theorem mgmtAnswer_keeps {s0 : State} (st : Nat) (data : List Byte) (s : State) (hK : Keeps s0 s) :
    Keeps s0 (mgmtAnswer st data s) := by
  unfold mgmtAnswer
  repeat' first
    | with_reducible assumption | (extract_lets +onlyGivenNames x; have h1 : Keeps s0 x := ?_; clear_value x; rotate_left; subst x)
    | (extract_lets +onlyGivenNames x; subst x) | with_reducible apply State.emit_keeps | with_reducible apply Keeps.ite | split

theorem mgmtRequest_keeps {s0 : State} (pec asleep locked : Bool) (f : State → State) (s : State) (hK : Keeps s0 s) (hf : ∀ (a0 : State), Keeps s0 a0 → Keeps s0 (f a0)) :
    Keeps s0 (mgmtRequest pec asleep locked f s) := by
  unfold mgmtRequest
  repeat' first
    | with_reducible assumption | with_reducible apply hf | with_reducible apply mgmtAnswer_keeps | with_reducible apply Keeps.ite | split

theorem doIdentify_keeps {s0 : State} (pec : Bool) (s : State) (hK : Keeps s0 s) :
    Keeps s0 (doIdentify pec s) := by
  unfold doIdentify
  repeat' first
    | with_reducible assumption | intro _ | with_reducible apply mgmtAnswer_keeps | with_reducible apply mgmtRequest_keeps

theorem doHealth_keeps {s0 : State} (pec : Bool) (s : State) (hK : Keeps s0 s) :
    Keeps s0 (doHealth pec s) := by
  unfold doHealth
  repeat' first
    | with_reducible assumption | intro _ | with_reducible apply State.draw_keeps | with_reducible apply mgmtAnswer_keeps
    | with_reducible apply mgmtRequest_keeps

theorem doAlertStatus_keeps {s0 : State} (pec : Bool) (s : State) (hK : Keeps s0 s) :
    Keeps s0 (doAlertStatus pec s) := by
  unfold doAlertStatus
  repeat' first
    | with_reducible assumption | intro _ | (extract_lets +onlyGivenNames x; have h1 : Keeps s0 x := ?_; clear_value x; rotate_left; subst x)
    | (extract_lets +onlyGivenNames x; subst x) | with_reducible apply setHost_keeps | with_reducible apply mgmtAnswer_keeps
    | with_reducible apply mgmtRequest_keeps | with_reducible refine Keeps.upd ?_ rfl rfl rfl rfl rfl rfl

theorem doMgmtModeRequest_keeps {s0 : State} (pec : Bool) (mode : Nat) (s : State) (hK : Keeps s0 s) :
    Keeps s0 (doMgmtModeRequest pec mode s) := by
  unfold doMgmtModeRequest
  repeat' first
    | with_reducible assumption | intro _ | with_reducible apply wakeSource_keeps | with_reducible apply mgmtAnswer_keeps
    | with_reducible apply mgmtRequest_keeps | with_reducible apply Keeps.ite | split

theorem doMgmtRecRead_keeps {s0 : State} (pec : Bool) (cls index offset length : Nat) (s : State) (hK : Keeps s0 s) :
    Keeps s0 (doMgmtRecRead pec cls index offset length s) := by
  unfold doMgmtRecRead
  repeat' first
    | with_reducible assumption | intro _ | with_reducible apply mgmtAnswer_keeps | with_reducible apply mgmtRequest_keeps
    | with_reducible apply Keeps.ite | split | with_reducible refine Keeps.upd ?_ rfl rfl rfl rfl rfl rfl

theorem doAttestChallenge_keeps {s0 : State} (pec : Bool) (challenge : List Byte) (s : State) (hK : Keeps s0 s) :
    Keeps s0 (doAttestChallenge pec challenge s) := by
  unfold doAttestChallenge
  repeat' first
    | with_reducible assumption | intro _ | (extract_lets +onlyGivenNames x; have h1 : Keeps s0 x := ?_; clear_value x; rotate_left; subst x)
    | (extract_lets +onlyGivenNames x; subst x) | with_reducible apply setHost_keeps | with_reducible apply mgmtAnswer_keeps
    | with_reducible apply mgmtRequest_keeps | with_reducible refine Keeps.upd ?_ rfl rfl rfl rfl rfl rfl

theorem doAttestResponse_keeps {s0 : State} (pec : Bool) (s : State) (hK : Keeps s0 s) :
    Keeps s0 (doAttestResponse pec s) := by
  unfold doAttestResponse
  repeat' first
    | with_reducible assumption | intro _ | with_reducible apply mgmtAnswer_keeps | with_reducible apply mgmtRequest_keeps
    | with_reducible apply Keeps.ite | split | with_reducible refine Keeps.upd ?_ rfl rfl rfl rfl rfl rfl


/-! Fabric -/

theorem pwrWrite_keeps {s0 : State} (l : Loc) (a : Nat) (v : Word) (s : State) (hK : Keeps s0 s) :
    Keeps s0 (pwrWrite l a v s) := by
  unfold pwrWrite
  repeat' first
    | with_reducible assumption | with_reducible apply State.setF_keeps | with_reducible apply plainWrite_keeps | with_reducible apply Keeps.ite
    | split

theorem destWrite_keeps {s0 : State} (m : Master) (d : Nat) (l : Loc) (a : Nat) (v : Word) (s : State) (hK : Keeps s0 s) :
    Keeps s0 (destWrite m d l a v s) := by
  unfold destWrite
  repeat' first
    | with_reducible assumption | with_reducible apply State.setReg_keeps | with_reducible apply plainWrite_keeps
    | with_reducible apply setResult_keeps | with_reducible apply armCtrlWrite_keeps | with_reducible apply Keeps.ite | split

theorem sysWrite_keeps {s0 : State} (m : Master) (l : Loc) (a : Nat) (v : Word) (s : State) (hK : Keeps s0 s) :
    Keeps s0 (sysWrite m l a v s) := by
  unfold sysWrite
  repeat' first
    | with_reducible assumption | with_reducible apply plainWrite_keeps | with_reducible apply sysCtrlWrite_keeps | with_reducible apply Keeps.ite
    | split

theorem engineWrite_keeps {s0 : State} (t : Nat) (l : Loc) (a : Nat) (v : Word) (s : State) (hK : Keeps s0 s) :
    Keeps s0 (engineWrite t l a v s) := by
  unfold engineWrite
  repeat' first
    | with_reducible assumption | with_reducible apply plainWrite_keeps | with_reducible apply rwsWrite_keeps
    | with_reducible apply tblLoadWrite_keeps | with_reducible apply tblDataWrite_keeps | with_reducible apply flipWrite_keeps
    | with_reducible apply cpDataWrite_keeps | with_reducible apply tableLoadWrite_keeps | with_reducible apply Keeps.ite | split
    | with_reducible refine Keeps.upd ?_ rfl rfl rfl rfl rfl rfl

theorem regWriteBody_keeps {s0 : State} (m : Master) (l : Loc) (a : Nat) (v : Word) (s : State) (hK : Keeps s0 s) :
    Keeps s0 (regWriteBody m l a v s) := by
  unfold regWriteBody
  repeat' first
    | with_reducible assumption | (extract_lets +onlyGivenNames x; have h1 : Keeps s0 x := ?_; clear_value x; rotate_left; subst x)
    | (extract_lets +onlyGivenNames x; subst x) | with_reducible apply plainWrite_keeps | with_reducible apply doSplTake_keeps
    | with_reducible apply doSplCancel_keeps | with_reducible apply fstWrite_keeps | with_reducible apply ownerCtrlWrite_keeps
    | with_reducible apply tmbWrite_keeps | with_reducible apply userWrite_keeps | with_reducible apply bightCtrlWrite_keeps
    | with_reducible apply strandWrite_keeps | with_reducible apply dpCtrlWrite_keeps | with_reducible apply edidWrite_keeps
    | with_reducible apply wirWrite_keeps | with_reducible apply ethIfWrite_keeps | with_reducible apply mscWrite_keeps
    | with_reducible apply hookWinWrite_keeps | with_reducible apply amoWrite_keeps | with_reducible apply domWrite_keeps
    | with_reducible apply agrpWrite_keeps | with_reducible apply sapWrite_keeps | with_reducible apply aiWrite_keeps
    | with_reducible apply aoWrite_keeps | with_reducible apply srcWrite_keeps | with_reducible apply tenWrite_keeps
    | with_reducible apply pwrWrite_keeps | with_reducible apply destWrite_keeps | with_reducible apply sysWrite_keeps
    | with_reducible apply engineWrite_keeps | with_reducible apply Keeps.ite | split | with_reducible refine Keeps.upd ?_ rfl rfl rfl rfl rfl rfl

theorem regWrite_keeps {s0 : State} (m : Master) (a : Nat) (v : Word) (s : State) (hK : Keeps s0 s) :
    Keeps s0 (regWrite m a v s) := by
  unfold regWrite
  repeat' first
    | with_reducible assumption | intro _ | with_reducible apply gatedWrite_keeps | with_reducible apply regWriteBody_keeps

theorem drawTwo_keeps {s0 : State} (s : State) (hK : Keeps s0 s) : Keeps s0 { s with draws := s.draws + 2 } :=
  ⟨hK.pending, hK.draws.trans (Nat.le_add_right _ _), hK.canon, hK.page, hK.locked, hK.rooted⟩

theorem sideRead_keeps {s0 : State} (m : Master) (l : Loc) (a : Nat) (s t : State) (h : sideRead m l a s = some t) (hK : Keeps s0 s) : Keeps s0 t := by
  unfold sideRead at h
  split at h
  · split at h <;> cases h
    exact prbsErrBody_keeps _ _ _ _ (drawTwo_keeps _ hK)
  · split at h <;> cases h
    exact tblDataRead_keeps _ _ hK
  · split at h <;> cases h
    exact cpDataRead_keeps _ _ hK
  · cases h

theorem regReadBody_keeps {s0 : State} (m : Master) (l : Loc) (a : Nat) (s : State) (hK : Keeps s0 s) : Keeps s0 (regReadBody m l a s).2 := by
  unfold regReadBody
  split
  · exact Keeps.upd (sideRead_keeps _ _ _ _ _ ‹_› hK) rfl rfl rfl rfl rfl rfl
  · split
    · exact hK
    · split
      · dsimp only
        split
        · exact setStrand_keeps _ _ (drawTwo_keeps _ hK)
        · exact drawTwo_keeps _ hK
      · dsimp only
        split
        · exact State.setReg_keeps _ _ _ hK
        · split
          · exact Keeps.upd hK rfl rfl rfl rfl rfl rfl
          · exact hK

theorem regRead_keeps {s0 : State} (m : Master) (a : Nat) (s : State) (hK : Keeps s0 s) :
    Keeps s0 (regRead m a s).2 := by
  unfold regRead
  repeat' first
    | with_reducible assumption | with_reducible apply foreign_keeps | with_reducible apply regReadBody_keeps | with_reducible apply Keeps.ite | split
    | with_reducible refine Keeps.upd ?_ rfl rfl rfl rfl rfl rfl | dsimp only

theorem bar0Write_keeps {s0 : State} (t a : Nat) (v : Word) (s : State) (hK : Keeps s0 s) :
    Keeps s0 (bar0Write t a v s) := by
  unfold bar0Write
  repeat' first
    | with_reducible assumption | with_reducible apply sqTail_keeps | with_reducible apply cqHead_keeps | with_reducible apply evqHead_keeps
    | with_reducible apply msixWrite_keeps | with_reducible apply regWrite_keeps | with_reducible apply Keeps.ite | split

theorem bar0Read_keeps {s0 : State} (t a : Nat) (s : State) (hK : Keeps s0 s) :
    Keeps s0 (bar0Read t a s).2 := by
  unfold bar0Read
  repeat' first
    | with_reducible assumption | with_reducible apply regRead_keeps | with_reducible apply Keeps.ite | split | dsimp only

theorem sramWrite_keeps {s0 : State} (o n : Nat) (s : State) (hK : Keeps s0 s) :
    Keeps s0 { s with fab := { s.fab with sram := tabPut 0 o n s.fab.sram } } :=
  ⟨hK.pending, hK.draws, fun c => by
      have := hK.canon c
      simp only [State.canonical, wordsCanon, Bool.and_eq_true] at this ⊢
      exact ⟨this.1, tabCanon_tabPut (d := fun _ => 0) this.2⟩,
    hK.page, hK.locked, hK.rooted⟩

theorem fabricWrite_keeps {s0 : State} (m : Master) (a : Nat) (v : Word) (s : State) (hK : Keeps s0 s) : Keeps s0 (fabricWrite m a v s) := by
  unfold fabricWrite
  dsimp only
  split
  · exact hK
  · exact sramWrite_keeps _ _ _ hK
  · exact regWrite_keeps _ _ _ _ hK
  · exact setFidWord_keeps _ _ _ _ hK
  · exact writeBytes_keeps _ _ _ hK
  · exact decodeError_keeps _ _ _ hK

theorem fabricRead_keeps {s0 : State} (m : Master) (a : Nat) (s : State) (hK : Keeps s0 s) :
    Keeps s0 (fabricRead m a s).2 := by
  unfold fabricRead
  repeat' first
    | with_reducible assumption | (extract_lets +onlyGivenNames x; have h1 : Keeps s0 x := ?_; clear_value x; rotate_left; subst x)
    | (extract_lets +onlyGivenNames x; subst x) | with_reducible apply decodeError_keeps | with_reducible apply regRead_keeps
    | with_reducible apply Keeps.ite | split | with_reducible refine Keeps.upd ?_ rfl rfl rfl rfl rfl rfl | dsimp only

theorem wordWrite_keeps {s0 : State} (m : Master) (a : Nat) (v : Word) (s : State) (hK : Keeps s0 s) :
    Keeps s0 (wordWrite m a v s) := by
  unfold wordWrite
  repeat' first
    | with_reducible assumption | with_reducible apply bar0Write_keeps | with_reducible apply fabricWrite_keeps | with_reducible apply Keeps.ite
    | split | with_reducible refine Keeps.upd ?_ rfl rfl rfl rfl rfl rfl

theorem wordRead_keeps {s0 : State} (m : Master) (a : Nat) (s : State) (hK : Keeps s0 s) :
    Keeps s0 (wordRead m a s).2 := by
  unfold wordRead
  repeat' first
    | with_reducible assumption | with_reducible apply bar0Read_keeps | with_reducible apply fabricRead_keeps | with_reducible apply Keeps.ite | split
    | with_reducible refine Keeps.upd ?_ rfl rfl rfl rfl rfl rfl | dsimp only

theorem emitRead_keeps {s0 : State} (m : Master) (a : Nat) (s : State) (hK : Keeps s0 s) :
    Keeps s0 (emitRead m a s) := by
  unfold emitRead
  repeat' first
    | with_reducible assumption | (extract_lets +onlyGivenNames x; have h1 : Keeps s0 x := ?_; clear_value x; rotate_left; subst x)
    | (extract_lets +onlyGivenNames x; subst x) | with_reducible apply State.emit_keeps | with_reducible apply wordRead_keeps

theorem doRegWrite_keeps {s0 : State} (m : Master) (addr size : Nat) (v : DWord) (s : State) (hK : Keeps s0 s) :
    Keeps s0 (doRegWrite m addr size v s) := by
  unfold doRegWrite
  repeat' first
    | with_reducible assumption | with_reducible apply tenResult_keeps | with_reducible apply wordWrite_keeps | with_reducible apply Keeps.ite | split
    | with_reducible refine Keeps.upd ?_ rfl rfl rfl rfl rfl rfl

theorem doRegRead_keeps {s0 : State} (m : Master) (addr size : Nat) (s : State) (hK : Keeps s0 s) :
    Keeps s0 (doRegRead m addr size s) := by
  unfold doRegRead
  repeat' first
    | with_reducible assumption | with_reducible apply emitRead_keeps | with_reducible apply Keeps.ite | split


/-! Program -/

theorem setThread_keeps {s0 : State} (f : Nat) (hook : Bool) (t : Thread) (s : State) (hK : Keeps s0 s) :
    Keeps s0 (setThread f hook t s) := by
  unfold setThread
  repeat' first
    | with_reducible assumption | (extract_lets +onlyGivenNames x; have h1 : Keeps s0 x := ?_; clear_value x; rotate_left; subst x)
    | (extract_lets +onlyGivenNames x; subst x) | with_reducible apply setFid_keeps | with_reducible apply Keeps.ite | split
    | with_reducible refine Keeps.upd ?_ rfl rfl rfl rfl rfl rfl

theorem issueIf_keeps {s0 : State} (f : Nat) (hook : Bool) (op : Nat → Bool) (eff : Word → State → State) (s : State) (hK : Keeps s0 s) (heff : ∀ (a0 : Word) (a1 : State), Keeps s0 a1 → Keeps s0 (eff a0 a1)) :
    Keeps s0 (issueIf f hook op eff s) := by
  unfold issueIf
  repeat' first
    | with_reducible assumption | (extract_lets +onlyGivenNames x; have h1 : Keeps s0 x := ?_; clear_value x; rotate_left; subst x)
    | (extract_lets +onlyGivenNames x; subst x) | with_reducible apply heff | with_reducible apply trap_keeps | with_reducible apply Keeps.ite | split

theorem issue_keeps {s0 : State} (f : Nat) (hook : Bool) (op : Nat) (eff : Word → State → State) (s : State) (hK : Keeps s0 s) (heff : ∀ (a0 : Word) (a1 : State), Keeps s0 a1 → Keeps s0 (eff a0 a1)) :
    Keeps s0 (issue f hook op eff s) := by
  unfold issue
  repeat' first
    | with_reducible assumption | intro _ | with_reducible apply heff | with_reducible apply issueIf_keeps

theorem trapHere_keeps {s0 : State} (f : Nat) (hook : Bool) (cause : Nat) (s : State) (hK : Keeps s0 s) :
    Keeps s0 (trapHere f hook cause s) := by
  unfold trapHere
  repeat' first
    | with_reducible assumption | with_reducible apply trap_keeps

theorem stepOn_keeps {s0 : State} (f : Nat) (hook : Bool) (s : State) (hK : Keeps s0 s) :
    Keeps s0 (stepOn f hook s) := by
  unfold stepOn
  repeat' first
    | with_reducible assumption | (extract_lets +onlyGivenNames x; have h1 : Keeps s0 x := ?_; clear_value x; rotate_left; subst x)
    | (extract_lets +onlyGivenNames x; subst x) | with_reducible apply setThread_keeps | with_reducible refine Keeps.upd ?_ rfl rfl rfl rfl rfl rfl

theorem setA_keeps {s0 : State} (f : Nat) (hook : Bool) (r : Nat) (v : Word) (s : State) (hK : Keeps s0 s) :
    Keeps s0 (setA f hook r v s) := by
  unfold setA
  repeat' first
    | with_reducible assumption | (extract_lets +onlyGivenNames x; have h1 : Keeps s0 x := ?_; clear_value x; rotate_left; subst x)
    | (extract_lets +onlyGivenNames x; subst x) | with_reducible apply setThread_keeps | with_reducible refine Keeps.upd ?_ rfl rfl rfl rfl rfl rfl

theorem goTo_keeps {s0 : State} (f : Nat) (hook : Bool) (link : Nat) (target : Int) (s : State) (hK : Keeps s0 s) :
    Keeps s0 (goTo f hook link target s) := by
  unfold goTo
  repeat' first
    | with_reducible assumption | (extract_lets +onlyGivenNames x; have h1 : Keeps s0 x := ?_; clear_value x; rotate_left; subst x)
    | (extract_lets +onlyGivenNames x; subst x) | with_reducible apply trap_keeps | with_reducible apply setThread_keeps
    | with_reducible apply Keeps.ite | split | with_reducible refine Keeps.upd ?_ rfl rfl rfl rfl rfl rfl

theorem immOp_keeps {s0 : State} (f : Nat) (hook : Bool) (op : Nat) (g : Word → Word → Word) (imm : Word → Word) (s : State) (hK : Keeps s0 s) :
    Keeps s0 (immOp f hook op g imm s) := by
  unfold immOp
  repeat' first
    | with_reducible assumption | intro _ | with_reducible apply issue_keeps | with_reducible apply setA_keeps

theorem branchOp_keeps {s0 : State} (f : Nat) (hook : Bool) (op : Nat) (c : Word → Word → Bool) (s : State) (hK : Keeps s0 s) :
    Keeps s0 (branchOp f hook op c s) := by
  unfold branchOp
  repeat' first
    | with_reducible assumption | intro _ | (extract_lets +onlyGivenNames x; have h1 : Keeps s0 x := ?_; clear_value x; rotate_left; subst x)
    | (extract_lets +onlyGivenNames x; subst x) | with_reducible apply issue_keeps | with_reducible apply stepOn_keeps
    | with_reducible apply goTo_keeps | with_reducible apply Keeps.ite | split

theorem setResultA_keeps {s0 : State} (f : Nat) (hook : Bool) (r : Nat) (v : Option Word) (s : State) (hK : Keeps s0 s) :
    Keeps s0 (setResultA f hook r v s) := by
  unfold setResultA
  repeat' first
    | with_reducible assumption | with_reducible apply State.draw_keeps | with_reducible apply setA_keeps | with_reducible apply Keeps.ite | split
    | with_reducible refine Keeps.upd ?_ rfl rfl rfl rfl rfl rfl

theorem doAlu_keeps {s0 : State} (f : Nat) (hook : Bool) (s : State) (hK : Keeps s0 s) :
    Keeps s0 (doAlu f hook s) := by
  unfold doAlu
  repeat' first
    | with_reducible assumption | intro _ | (extract_lets +onlyGivenNames x; have h1 : Keeps s0 x := ?_; clear_value x; rotate_left; subst x)
    | (extract_lets +onlyGivenNames x; subst x) | with_reducible apply issue_keeps | with_reducible apply setResultA_keeps

theorem doAddi_keeps {s0 : State} (f : Nat) (hook : Bool) (s : State) (hK : Keeps s0 s) :
    Keeps s0 (doAddi f hook s) := by
  unfold doAddi
  repeat' first
    | with_reducible assumption | intro _ | with_reducible apply immOp_keeps

theorem doAndi_keeps {s0 : State} (f : Nat) (hook : Bool) (s : State) (hK : Keeps s0 s) :
    Keeps s0 (doAndi f hook s) := by
  unfold doAndi
  repeat' first
    | with_reducible assumption | intro _ | with_reducible apply immOp_keeps

theorem doOri_keeps {s0 : State} (f : Nat) (hook : Bool) (s : State) (hK : Keeps s0 s) :
    Keeps s0 (doOri f hook s) := by
  unfold doOri
  repeat' first
    | with_reducible assumption | intro _ | with_reducible apply immOp_keeps

theorem doXori_keeps {s0 : State} (f : Nat) (hook : Bool) (s : State) (hK : Keeps s0 s) :
    Keeps s0 (doXori f hook s) := by
  unfold doXori
  repeat' first
    | with_reducible assumption | intro _ | with_reducible apply immOp_keeps

theorem doShi_keeps {s0 : State} (f : Nat) (hook : Bool) (s : State) (hK : Keeps s0 s) :
    Keeps s0 (doShi f hook s) := by
  unfold doShi
  repeat' first
    | with_reducible assumption | intro _ | with_reducible apply issue_keeps | with_reducible apply setResultA_keeps

theorem doLui_keeps {s0 : State} (f : Nat) (hook : Bool) (s : State) (hK : Keeps s0 s) :
    Keeps s0 (doLui f hook s) := by
  unfold doLui
  repeat' first
    | with_reducible assumption | intro _ | with_reducible apply issue_keeps | with_reducible apply setA_keeps

theorem doSlti_keeps {s0 : State} (f : Nat) (hook : Bool) (s : State) (hK : Keeps s0 s) :
    Keeps s0 (doSlti f hook s) := by
  unfold doSlti
  repeat' first
    | with_reducible assumption | intro _ | with_reducible apply immOp_keeps

theorem doLd_keeps {s0 : State} (f : Nat) (hook : Bool) (s : State) (hK : Keeps s0 s) :
    Keeps s0 (doLd f hook s) := by
  unfold doLd
  repeat' first
    | with_reducible assumption | intro _ | (extract_lets +onlyGivenNames x; have h1 : Keeps s0 x := ?_; clear_value x; rotate_left; subst x)
    | (extract_lets +onlyGivenNames x; subst x) | with_reducible apply issue_keeps | with_reducible apply trapHere_keeps
    | with_reducible apply setA_keeps | with_reducible apply Keeps.ite | split

theorem doSt_keeps {s0 : State} (f : Nat) (hook : Bool) (s : State) (hK : Keeps s0 s) :
    Keeps s0 (doSt f hook s) := by
  unfold doSt
  repeat' first
    | with_reducible assumption | intro _ | (extract_lets +onlyGivenNames x; have h1 : Keeps s0 x := ?_; clear_value x; rotate_left; subst x)
    | (extract_lets +onlyGivenNames x; subst x) | with_reducible apply setFidWord_keeps | with_reducible apply issue_keeps
    | with_reducible apply trapHere_keeps | with_reducible apply stepOn_keeps | with_reducible apply Keeps.ite | split

theorem denied_keeps {s0 : State} (f t : Nat) (s : State) (hK : Keeps s0 s) :
    Keeps s0 (denied f t s) := by
  unfold denied
  repeat' first
    | with_reducible assumption | with_reducible apply State.bump_keeps

theorem doRgr_keeps {s0 : State} (f : Nat) (hook : Bool) (s : State) (hK : Keeps s0 s) :
    Keeps s0 (doRgr f hook s) := by
  unfold doRgr
  repeat' first
    | with_reducible assumption | intro _ | (extract_lets +onlyGivenNames x; have h1 : Keeps s0 x := ?_; clear_value x; rotate_left; subst x)
    | (extract_lets +onlyGivenNames x; subst x) | with_reducible apply regRead_keeps | with_reducible apply issue_keeps
    | with_reducible apply trapHere_keeps | with_reducible apply setA_keeps | with_reducible apply Keeps.ite | split

theorem doRgw_keeps {s0 : State} (f : Nat) (hook : Bool) (s : State) (hK : Keeps s0 s) :
    Keeps s0 (doRgw f hook s) := by
  unfold doRgw
  repeat' first
    | with_reducible assumption | intro _ | (extract_lets +onlyGivenNames x; have h1 : Keeps s0 x := ?_; clear_value x; rotate_left; subst x)
    | (extract_lets +onlyGivenNames x; subst x) | with_reducible apply regWrite_keeps | with_reducible apply issue_keeps
    | with_reducible apply trapHere_keeps | with_reducible apply stepOn_keeps | with_reducible apply denied_keeps | with_reducible apply Keeps.ite
    | split

theorem doShw_keeps {s0 : State} (f : Nat) (hook : Bool) (s : State) (hK : Keeps s0 s) :
    Keeps s0 (doShw f hook s) := by
  unfold doShw
  repeat' first
    | with_reducible assumption | intro _ | (extract_lets +onlyGivenNames x; have h1 : Keeps s0 x := ?_; clear_value x; rotate_left; subst x)
    | (extract_lets +onlyGivenNames x; subst x) | with_reducible apply setThread_keeps | with_reducible apply issue_keeps
    | with_reducible apply trapHere_keeps | with_reducible apply Keeps.ite | split | with_reducible refine Keeps.upd ?_ rfl rfl rfl rfl rfl rfl

theorem unitWrite_keeps {s0 : State} (m : Master) (set : Option Nat) (a : Nat) (v : Word) (l : Loc) (s : State) (hK : Keeps s0 s) :
    Keeps s0 (unitWrite m set a v l s) := by
  unfold unitWrite
  repeat' first
    | with_reducible assumption | with_reducible apply rwsWrite_keeps | with_reducible apply destWrite_keeps | with_reducible apply Keeps.ite | split
    | with_reducible refine Keeps.upd ?_ rfl rfl rfl rfl rfl rfl

theorem applyShadow_keeps {s0 : State} (f : Nat) (hook : Bool) (set : Option Nat) (x : Nat × Word) (s : State) (hK : Keeps s0 s) :
    Keeps s0 (applyShadow f hook set x s) := by
  unfold applyShadow
  repeat' first
    | with_reducible assumption | intro _ | (extract_lets +onlyGivenNames x; have h1 : Keeps s0 x := ?_; clear_value x; rotate_left; subst x)
    | (extract_lets +onlyGivenNames x; subst x) | with_reducible apply gatedWrite_keeps | with_reducible apply denied_keeps
    | with_reducible apply unitWrite_keeps | with_reducible apply Keeps.ite | split | with_reducible refine Keeps.upd ?_ rfl rfl rfl rfl rfl rfl

theorem commitUnit_keeps {s0 : State} (f : Nat) (hook : Bool) (s : State) (hK : Keeps s0 s) :
    Keeps s0 (commitUnit f hook s).1 := by
  unfold commitUnit
  repeat' first
    | with_reducible assumption | intro _ | (extract_lets +onlyGivenNames x; have h1 : Keeps s0 x := ?_; clear_value x; rotate_left; subst x)
    | (extract_lets +onlyGivenNames x; subst x) | with_reducible apply setThread_keeps | with_reducible apply applyShadow_keeps
    | with_reducible apply foldl_keeps | with_reducible apply Keeps.ite | split | with_reducible refine Keeps.upd ?_ rfl rfl rfl rfl rfl rfl
    | dsimp only

theorem doCmt_keeps {s0 : State} (f : Nat) (hook : Bool) (s : State) (hK : Keeps s0 s) :
    Keeps s0 (doCmt f hook s) := by
  unfold doCmt
  repeat' first
    | with_reducible assumption | intro _ | (extract_lets +onlyGivenNames x; have h1 : Keeps s0 x := ?_; clear_value x; rotate_left; subst x)
    | (extract_lets +onlyGivenNames x; subst x) | with_reducible apply issue_keeps | with_reducible apply setA_keeps
    | with_reducible apply commitUnit_keeps | with_reducible apply Keeps.ite | split

theorem fetchA_keeps {s0 : State} (f : Nat) (hook : Bool) (r a : Nat) (s : State) (hK : Keeps s0 s) :
    Keeps s0 (fetchA f hook r a s) := by
  unfold fetchA
  repeat' first
    | with_reducible assumption | (extract_lets +onlyGivenNames x; have h1 : Keeps s0 x := ?_; clear_value x; rotate_left; subst x)
    | (extract_lets +onlyGivenNames x; subst x) | with_reducible apply fabricRead_keeps | with_reducible apply setA_keeps

theorem doXld_keeps {s0 : State} (f : Nat) (hook : Bool) (s : State) (hK : Keeps s0 s) :
    Keeps s0 (doXld f hook s) := by
  unfold doXld
  repeat' first
    | with_reducible assumption | intro _ | (extract_lets +onlyGivenNames x; have h1 : Keeps s0 x := ?_; clear_value x; rotate_left; subst x)
    | (extract_lets +onlyGivenNames x; subst x) | with_reducible apply issue_keeps | with_reducible apply trapHere_keeps
    | with_reducible apply fetchA_keeps | with_reducible apply Keeps.ite | split

theorem doXst_keeps {s0 : State} (f : Nat) (hook : Bool) (s : State) (hK : Keeps s0 s) :
    Keeps s0 (doXst f hook s) := by
  unfold doXst
  repeat' first
    | with_reducible assumption | intro _ | (extract_lets +onlyGivenNames x; have h1 : Keeps s0 x := ?_; clear_value x; rotate_left; subst x)
    | (extract_lets +onlyGivenNames x; subst x) | with_reducible apply fabricWrite_keeps | with_reducible apply issue_keeps
    | with_reducible apply trapHere_keeps | with_reducible apply stepOn_keeps | with_reducible apply Keeps.ite | split

theorem doBeq_keeps {s0 : State} (f : Nat) (hook : Bool) (s : State) (hK : Keeps s0 s) :
    Keeps s0 (doBeq f hook s) := by
  unfold doBeq
  repeat' first
    | with_reducible assumption | intro _ | with_reducible apply branchOp_keeps

theorem doBne_keeps {s0 : State} (f : Nat) (hook : Bool) (s : State) (hK : Keeps s0 s) :
    Keeps s0 (doBne f hook s) := by
  unfold doBne
  repeat' first
    | with_reducible assumption | intro _ | with_reducible apply branchOp_keeps

theorem doBlt_keeps {s0 : State} (f : Nat) (hook : Bool) (s : State) (hK : Keeps s0 s) :
    Keeps s0 (doBlt f hook s) := by
  unfold doBlt
  repeat' first
    | with_reducible assumption | intro _ | with_reducible apply branchOp_keeps

theorem doBge_keeps {s0 : State} (f : Nat) (hook : Bool) (s : State) (hK : Keeps s0 s) :
    Keeps s0 (doBge f hook s) := by
  unfold doBge
  repeat' first
    | with_reducible assumption | intro _ | with_reducible apply branchOp_keeps

theorem doBltu_keeps {s0 : State} (f : Nat) (hook : Bool) (s : State) (hK : Keeps s0 s) :
    Keeps s0 (doBltu f hook s) := by
  unfold doBltu
  repeat' first
    | with_reducible assumption | intro _ | with_reducible apply branchOp_keeps

theorem doBgeu_keeps {s0 : State} (f : Nat) (hook : Bool) (s : State) (hK : Keeps s0 s) :
    Keeps s0 (doBgeu f hook s) := by
  unfold doBgeu
  repeat' first
    | with_reducible assumption | intro _ | with_reducible apply branchOp_keeps

theorem doJal_keeps {s0 : State} (f : Nat) (hook : Bool) (s : State) (hK : Keeps s0 s) :
    Keeps s0 (doJal f hook s) := by
  unfold doJal
  repeat' first
    | with_reducible assumption | intro _ | with_reducible apply issue_keeps | with_reducible apply goTo_keeps

theorem doJr_keeps {s0 : State} (f : Nat) (hook : Bool) (s : State) (hK : Keeps s0 s) :
    Keeps s0 (doJr f hook s) := by
  unfold doJr
  repeat' first
    | with_reducible assumption | intro _ | with_reducible apply issue_keeps | with_reducible apply goTo_keeps

theorem doTime_keeps {s0 : State} (f : Nat) (hook : Bool) (s : State) (hK : Keeps s0 s) :
    Keeps s0 (doTime f hook s) := by
  unfold doTime
  repeat' first
    | with_reducible assumption | intro _ | (extract_lets +onlyGivenNames x; have h1 : Keeps s0 x := ?_; clear_value x; rotate_left; subst x)
    | (extract_lets +onlyGivenNames x; subst x) | with_reducible apply setThread_keeps | with_reducible apply issue_keeps
    | with_reducible refine Keeps.upd ?_ rfl rfl rfl rfl rfl rfl

theorem waitFor_keeps {s0 : State} (f r mask : Nat) (s : State) (hK : Keeps s0 s) :
    Keeps s0 (waitFor f r mask s) := by
  unfold waitFor
  repeat' first
    | with_reducible assumption | (extract_lets +onlyGivenNames x; have h1 : Keeps s0 x := ?_; clear_value x; rotate_left; subst x)
    | (extract_lets +onlyGivenNames x; subst x) | with_reducible apply State.setF_keeps | with_reducible apply setFid_keeps
    | with_reducible apply stepOn_keeps | with_reducible apply setA_keeps | with_reducible apply Keeps.ite | split
    | with_reducible refine Keeps.upd ?_ rfl rfl rfl rfl rfl rfl

theorem doWait_keeps {s0 : State} (f : Nat) (hook : Bool) (s : State) (hK : Keeps s0 s) :
    Keeps s0 (doWait f hook s) := by
  unfold doWait
  repeat' first
    | with_reducible assumption | intro _ | with_reducible apply issue_keeps | with_reducible apply trapHere_keeps
    | with_reducible apply waitFor_keeps | with_reducible apply Keeps.ite | split

theorem hookNote_keeps {s0 : State} (f code a b : Nat) (s : State) (hK : Keeps s0 s) :
    Keeps s0 (hookNote f code a b s) := by
  unfold hookNote
  repeat' first
    | with_reducible assumption | intro _ | (extract_lets +onlyGivenNames x; have h1 : Keeps s0 x := ?_; clear_value x; rotate_left; subst x)
    | (extract_lets +onlyGivenNames x; subst x) | with_reducible apply postTo_keeps | with_reducible apply updSet_keeps
    | with_reducible apply setFid_keeps | with_reducible apply denied_keeps | with_reducible apply Keeps.ite | split
    | with_reducible refine Keeps.upd ?_ rfl rfl rfl rfl rfl rfl

theorem doEvt_keeps {s0 : State} (f : Nat) (hook : Bool) (s : State) (hK : Keeps s0 s) :
    Keeps s0 (doEvt f hook s) := by
  unfold doEvt
  repeat' first
    | with_reducible assumption | intro _ | (extract_lets +onlyGivenNames x; have h1 : Keeps s0 x := ?_; clear_value x; rotate_left; subst x)
    | (extract_lets +onlyGivenNames x; subst x) | with_reducible apply postTo_keeps | with_reducible apply issue_keeps
    | with_reducible apply stepOn_keeps | with_reducible apply hookNote_keeps | with_reducible apply Keeps.ite | split

theorem doCsrr_keeps {s0 : State} (f : Nat) (hook : Bool) (s : State) (hK : Keeps s0 s) :
    Keeps s0 (doCsrr f hook s) := by
  unfold doCsrr
  repeat' first
    | with_reducible assumption | intro _ | with_reducible apply issue_keeps | with_reducible apply setA_keeps

theorem doCsrw_keeps {s0 : State} (f : Nat) (hook : Bool) (s : State) (hK : Keeps s0 s) :
    Keeps s0 (doCsrw f hook s) := by
  unfold doCsrw
  repeat' first
    | with_reducible assumption | intro _ | (extract_lets +onlyGivenNames x; have h1 : Keeps s0 x := ?_; clear_value x; rotate_left; subst x)
    | (extract_lets +onlyGivenNames x; subst x) | with_reducible apply setThread_keeps | with_reducible apply issue_keeps
    | with_reducible apply stepOn_keeps | with_reducible apply Keeps.ite | split | with_reducible refine Keeps.upd ?_ rfl rfl rfl rfl rfl rfl

theorem toEntry_keeps {s0 : State} (f : Nat) (s : State) (hK : Keeps s0 s) :
    Keeps s0 (toEntry f s) := by
  unfold toEntry
  repeat' first
    | with_reducible assumption | (extract_lets +onlyGivenNames x; have h1 : Keeps s0 x := ?_; clear_value x; rotate_left; subst x)
    | (extract_lets +onlyGivenNames x; subst x) | with_reducible apply setThread_keeps | with_reducible refine Keeps.upd ?_ rfl rfl rfl rfl rfl rfl

theorem doDone_keeps {s0 : State} (f : Nat) (hook : Bool) (s : State) (hK : Keeps s0 s) :
    Keeps s0 (doDone f hook s) := by
  unfold doDone
  repeat' first
    | with_reducible assumption | intro _ | (extract_lets +onlyGivenNames x; have h1 : Keeps s0 x := ?_; clear_value x; rotate_left; subst x)
    | (extract_lets +onlyGivenNames x; subst x) | with_reducible apply endRun_keeps | with_reducible apply issue_keeps
    | with_reducible apply commitUnit_keeps | with_reducible apply toEntry_keeps | with_reducible apply Keeps.ite | split

theorem doBrk_keeps {s0 : State} (f : Nat) (hook : Bool) (s : State) (hK : Keeps s0 s) :
    Keeps s0 (doBrk f hook s) := by
  unfold doBrk
  repeat' first
    | with_reducible assumption | intro _ | with_reducible apply issueIf_keeps | with_reducible apply trapHere_keeps | with_reducible apply Keeps.ite
    | split


/-! Fetch -/

/-- What an opcode does keeps what every operation keeps. -/
def Shape.Good (x : Option Shape) : Prop := ∀ y, x = some y → ∀ o s0 s, Keeps s0 s → Keeps s0 (y.act o s)

theorem Shape.good_none : Shape.Good none := fun _ h => by cases h

theorem Shape.good_placed (fs : List (Nat × Nat)) (f : Origin → State → State) (hf : ∀ o s0 s, Keeps s0 s → Keeps s0 (f o s)) :
    Shape.Good (placed fs f) := fun y h => by cases h; exact hf

theorem Shape.good_packed (zs gs : List Nat) (l : List Byte) (f : (Nat → Nat) → Origin → State → State)
    (hf : ∀ p o s0 s, Keeps s0 s → Keeps s0 (f p o s)) : Shape.Good (packed zs gs l f) := fun y h => by cases h; exact hf _

theorem Shape.good_reg (e : FetchEntry) (f : Origin → Nat → Nat → Option (List Word) → State → State)
    (hf : ∀ o a b c s0 s, Keeps s0 s → Keeps s0 (f o a b c s)) : Shape.Good (regShape e f) :=
  Shape.good_placed _ _ (fun _ _ _ h => hf _ _ _ _ _ _ h)

theorem shapeBase_good (op : Nat) (e : FetchEntry) : Shape.Good (shapeBase op e) := by
  unfold shapeBase
  dsimp only
  split
  all_goals
    repeat' first
      | with_reducible assumption | exact Shape.good_none
      | with_reducible apply Shape.good_reg | with_reducible apply Shape.good_placed | with_reducible apply Shape.good_packed
      | with_reducible apply doBatchClose_keeps | with_reducible apply doBatchOpen_keeps | with_reducible apply doDmaCopy_keeps
      | with_reducible apply doFenceSignal_keeps | with_reducible apply doModeRequest_keeps | with_reducible apply doNop_keeps
      | with_reducible apply doRecRead_keeps | with_reducible apply doTenancyAdrift_keeps
      | intro _ | dsimp only

theorem shapeSplice_good (op : Nat) (e : FetchEntry) : Shape.Good (shapeSplice op e) := by
  unfold shapeSplice
  dsimp only
  split
  all_goals
    repeat' first
      | with_reducible assumption | exact Shape.good_none
      | with_reducible apply Shape.good_reg | with_reducible apply Shape.good_placed | with_reducible apply Shape.good_packed
      | with_reducible apply doArmSplice_keeps | with_reducible apply doCancelSplice_keeps | with_reducible apply doEthSendFrame_keeps
      | with_reducible apply doFlowSet_keeps | with_reducible apply doHitch_keeps | with_reducible apply doMacsecSaSet_keeps
      | with_reducible apply doStrandConfig_keeps | with_reducible apply doTake_keeps | with_reducible apply doUnhitch_keeps
      | intro _ | dsimp only

theorem shapeEngine_good (op : Nat) (e : FetchEntry) : Shape.Good (shapeEngine op e) := by
  unfold shapeEngine
  dsimp only
  split
  all_goals
    repeat' first
      | with_reducible assumption | exact Shape.good_none
      | with_reducible apply Shape.good_reg | with_reducible apply Shape.good_placed | with_reducible apply Shape.good_packed
      | with_reducible apply doCompSet_keeps | with_reducible apply doCompTableLoad_keeps | with_reducible apply doCrcSet_keeps
      | with_reducible apply doFlip_keeps | with_reducible apply doLayerSet_keeps | with_reducible apply doPaceSet_keeps
      | with_reducible apply doRegisterBuffer_keeps | with_reducible apply doReleaseBuffer_keeps | with_reducible apply doSbdSet_keeps
      | with_reducible apply doSbdTableLoad_keeps | with_reducible apply doTimingSet_keeps
      | intro _ | dsimp only

theorem shapeStore_good (op : Nat) (e : FetchEntry) : Shape.Good (shapeStore op e) := by
  unfold shapeStore
  dsimp only
  split
  all_goals
    repeat' first
      | with_reducible assumption | exact Shape.good_none
      | with_reducible apply Shape.good_reg | with_reducible apply Shape.good_placed | with_reducible apply Shape.good_packed
      | with_reducible apply doAesSet_keeps | with_reducible apply doAgroupSet_keeps | with_reducible apply doAudioDomainSet_keeps
      | with_reducible apply doAudioHitch_keeps | with_reducible apply doAudioPortSet_keeps | with_reducible apply doAudioTapSet_keeps
      | with_reducible apply doAudioUnhitch_keeps | with_reducible apply doChannelPower_keeps
      | with_reducible apply doEvacuateChannel_keeps | with_reducible apply doPlayerCue_keeps | with_reducible apply doPlayerSet_keeps
      | with_reducible apply doRebalance_keeps | with_reducible apply doRecorderSet_keeps | with_reducible apply doSapSet_keeps
      | with_reducible apply doSrcSet_keeps
      | intro _ | dsimp only

theorem shapeSystem_good (op : Nat) (e : FetchEntry) : Shape.Good (shapeSystem op e) := by
  unfold shapeSystem
  dsimp only
  split
  all_goals
    repeat' first
      | with_reducible assumption | exact Shape.good_none
      | with_reducible apply Shape.good_reg | with_reducible apply Shape.good_placed | with_reducible apply Shape.good_packed
      | with_reducible apply doAttest_keeps | with_reducible apply doCalRun_keeps | with_reducible apply doCalStore_keeps
      | with_reducible apply doFidRestart_keeps | with_reducible apply doFidUpdate_keeps | with_reducible apply doHookLoad_keeps
      | with_reducible apply doHookSet_keeps | with_reducible apply doKeyDerive_keeps | with_reducible apply doKeyStore_keeps
      | with_reducible apply doKeyWrite_keeps | with_reducible apply doKeyZero_keeps | with_reducible apply doRigConfirm_keeps
      | with_reducible apply doRigRezone_keeps | with_reducible apply doRigSelectSlot_keeps | with_reducible apply doRigVerifySlot_keeps
      | with_reducible apply doRigWriteSlot_keeps | with_reducible apply State.draw_keeps
      | intro _ | dsimp only

theorem orElse_good {a b : Option Shape} (ha : Shape.Good a) (hb : Shape.Good b) : Shape.Good (a.orElse fun _ => b) := by
  cases a with
  | none => exact hb
  | some _ => exact ha

theorem shapeOf_good (e : FetchEntry) : Shape.Good (shapeOf e) :=
  orElse_good (shapeBase_good _ e) (orElse_good (shapeSplice_good _ e) (orElse_good (shapeEngine_good _ e)
    (orElse_good (shapeStore_good _ e) (shapeSystem_good _ e))))

theorem dispatchCmd_keeps {s0 : State} (t q : Nat) (e : FetchEntry) (s : State) (hK : Keeps s0 s) : Keeps s0 (dispatchCmd t q e s) := by
  unfold dispatchCmd
  dsimp only
  split
  · exact shapeOf_good e _ ‹_› _ _ _ hK
  · exact loneCommand_keeps _ _ _ _ _ hK (fun _ h => h)

theorem doCommandFetch_keeps {s0 : State} (t q : Nat) (entries : List FetchEntry) (failed : Bool) (s : State) (hK : Keeps s0 s) :
    Keeps s0 (doCommandFetch t q entries failed s) := by
  unfold doCommandFetch
  repeat' first
    | with_reducible assumption | intro _ | (extract_lets +onlyGivenNames x; have h1 : Keeps s0 x := ?_; clear_value x; rotate_left; subst x)
    | (extract_lets +onlyGivenNames x; subst x) | with_reducible apply State.setF_keeps | with_reducible apply State.setBit_keeps
    | with_reducible apply raiseTen_keeps | with_reducible apply mailbox_keeps | with_reducible apply dispatchCmd_keeps
    | with_reducible apply foldl_keeps | with_reducible apply Keeps.ite | split


end Sys2Proof.Machine
end

