-- ==== Sys2Proof/Laws/PerInstr.lean ====
section
/-! SUPPORT. Lemmas made per command. Family SenderOk: a well-formed command has a sender that exists. -/

namespace Sys2Proof.Laws

/-- A well-formed command has a sender that exists. -/
def SenderOk.Statement (i : Instr) : Prop := i.wellFormed = true → i.sender.ok = true

theorem senderOk (i : Instr) : SenderOk.Statement i := by
  intro h
  cases i <;> simp only [Instr.wellFormed, Bool.and_eq_true] at h <;> simp only [Instr.sender, Sender.ok] <;> tauto

theorem SenderOk.regWrite (x0 : Master) (x1 : Nat) (x2 : Nat) (x3 : DWord) : SenderOk.Statement (.regWrite x0 x1 x2 x3) := senderOk _

theorem SenderOk.stagedWrite (x0 : Master) (x1 : Nat) (x2 : Word) : SenderOk.Statement (.stagedWrite x0 x1 x2) := senderOk _

theorem SenderOk.powerOn : SenderOk.Statement (.powerOn) := senderOk _

theorem SenderOk.pin : SenderOk.Statement (.pin) := senderOk _

theorem SenderOk.supply : SenderOk.Statement (.supply) := senderOk _

theorem SenderOk.thermal : SenderOk.Statement (.thermal) := senderOk _

theorem SenderOk.vddAonLost : SenderOk.Statement (.vddAonLost) := senderOk _

theorem SenderOk.resetRelease (x0 : ReleaseObs) : SenderOk.Statement (.resetRelease x0) := senderOk _

theorem SenderOk.sectionsChecked : SenderOk.Statement (.sectionsChecked) := senderOk _

theorem SenderOk.linkDetectTimeout : SenderOk.Statement (.linkDetectTimeout) := senderOk _

theorem SenderOk.channelTrained (x0 : Nat) (x1 : TrainResult) : SenderOk.Statement (.channelTrained x0 x1) := senderOk _

theorem SenderOk.inService : SenderOk.Statement (.inService) := senderOk _

theorem SenderOk.extentReady : SenderOk.Statement (.extentReady) := senderOk _

theorem SenderOk.avsRetry (x0 : Bool) : SenderOk.Statement (.avsRetry x0) := senderOk _

theorem SenderOk.tamperAlarm (x0 : Nat) : SenderOk.Statement (.tamperAlarm x0) := senderOk _

theorem SenderOk.dbgReq : SenderOk.Statement (.dbgReq) := senderOk _

theorem SenderOk.tapReset (x0 : Nat) : SenderOk.Statement (.tapReset x0) := senderOk _

theorem SenderOk.signalDetected (x0 : Nat) : SenderOk.Statement (.signalDetected x0) := senderOk _

theorem SenderOk.clockLocked (x0 : ClockObs) : SenderOk.Statement (.clockLocked x0) := senderOk _

theorem SenderOk.adaptConverged (x0 : Nat) (x1 : Nat) (x2 : Nat) : SenderOk.Statement (.adaptConverged x0 x1 x2) := senderOk _

theorem SenderOk.adaptFail (x0 : Nat) : SenderOk.Statement (.adaptFail x0) := senderOk _

theorem SenderOk.protoAligned (x0 : Nat) (x1 : Int) : SenderOk.Statement (.protoAligned x0 x1) := senderOk _

theorem SenderOk.syncFail (x0 : Nat) : SenderOk.Statement (.syncFail x0) := senderOk _

theorem SenderOk.los (x0 : Nat) : SenderOk.Statement (.los x0) := senderOk _

theorem SenderOk.protoLost (x0 : Nat) : SenderOk.Statement (.protoLost x0) := senderOk _

theorem SenderOk.braidSkew (x0 : Nat) : SenderOk.Statement (.braidSkew x0) := senderOk _

theorem SenderOk.txPllLocked (x0 : Nat) : SenderOk.Statement (.txPllLocked x0) := senderOk _

theorem SenderOk.bightChange (x0 : Nat) : SenderOk.Statement (.bightChange x0) := senderOk _

theorem SenderOk.openReq (x0 : Master) (x1 : Nat) (x2 : Word) : SenderOk.Statement (.openReq x0 x1 x2) := senderOk _

theorem SenderOk.inject (x0 : Master) (x1 : Nat) (x2 : Word) : SenderOk.Statement (.inject x0 x1 x2) := senderOk _

theorem SenderOk.strPrbsErrRead (x0 : Master) (x1 : Nat) (x2 : Nat) (x3 : Nat) : SenderOk.Statement (.strPrbsErrRead x0 x1 x2 x3) := senderOk _

theorem SenderOk.start (x0 : Master) (x1 : Nat) (x2 : Word) : SenderOk.Statement (.start x0 x1 x2) := senderOk _

theorem SenderOk.eyeDone (x0 : Nat) (x1 : Nat) : SenderOk.Statement (.eyeDone x0 x1) := senderOk _

theorem SenderOk.hpd (x0 : Master) (x1 : Nat) (x2 : Word) : SenderOk.Statement (.hpd x0 x1 x2) := senderOk _

theorem SenderOk.irqHpdPulse (x0 : Master) (x1 : Nat) (x2 : Word) : SenderOk.Statement (.irqHpdPulse x0 x1 x2) := senderOk _

theorem SenderOk.auxTransaction (x0 : Nat) (x1 : AuxRequest) : SenderOk.Statement (.auxTransaction x0 x1) := senderOk _

theorem SenderOk.ddcTransaction (x0 : Nat) (x1 : DdcRequest) : SenderOk.Statement (.ddcTransaction x0 x1) := senderOk _

theorem SenderOk.hpdAssert (x0 : Nat) : SenderOk.Statement (.hpdAssert x0) := senderOk _

theorem SenderOk.hpdDeassert (x0 : Nat) : SenderOk.Statement (.hpdDeassert x0) := senderOk _

theorem SenderOk.irqHpd (x0 : Nat) : SenderOk.Statement (.irqHpd x0) := senderOk _

theorem SenderOk.edidReload (x0 : Master) (x1 : Nat) (x2 : Word) : SenderOk.Statement (.edidReload x0 x1 x2) := senderOk _

theorem SenderOk.edidReady (x0 : Nat) (x1 : List Word) : SenderOk.Statement (.edidReady x0 x1) := senderOk _

theorem SenderOk.trainDone (x0 : Nat) (x1 : Nat) (x2 : Nat) : SenderOk.Statement (.trainDone x0 x1 x2) := senderOk _

theorem SenderOk.trainFail (x0 : Nat) : SenderOk.Statement (.trainFail x0) := senderOk _

theorem SenderOk.strandConfig (x0 : Origin) (x1 : StrandEntry) : SenderOk.Statement (.strandConfig x0 x1) := senderOk _

theorem SenderOk.strandConfigDone (x0 : Nat) : SenderOk.Statement (.strandConfigDone x0) := senderOk _

theorem SenderOk.formatLocked (x0 : Nat) (x1 : LockObs) : SenderOk.Statement (.formatLocked x0 x1) := senderOk _

theorem SenderOk.formatChange (x0 : Nat) : SenderOk.Statement (.formatChange x0) := senderOk _

theorem SenderOk.formatUnknown (x0 : Nat) : SenderOk.Statement (.formatUnknown x0) := senderOk _

theorem SenderOk.ancOverflow (x0 : Nat) (x1 : Nat) : SenderOk.Statement (.ancOverflow x0 x1) := senderOk _

theorem SenderOk.ethFrameRx (x0 : Nat) (x1 : RxFrame) : SenderOk.Statement (.ethFrameRx x0 x1) := senderOk _

theorem SenderOk.mgmtRx (x0 : Nat) (x1 : Nat) (x2 : List Byte) : SenderOk.Statement (.mgmtRx x0 x1 x2) := senderOk _

theorem SenderOk.igmpQuery (x0 : Nat) : SenderOk.Statement (.igmpQuery x0) := senderOk _

theorem SenderOk.flowPacketRx (x0 : Nat) (x1 : FlowPacket) : SenderOk.Statement (.flowPacketRx x0 x1) := senderOk _

theorem SenderOk.flowRelease (x0 : Nat) (x1 : Nat) (x2 : Nat) (x3 : Option Format) : SenderOk.Statement (.flowRelease x0 x1 x2 x3) := senderOk _

theorem SenderOk.flowLost (x0 : Nat) : SenderOk.Statement (.flowLost x0) := senderOk _

theorem SenderOk.pathLost (x0 : Nat) (x1 : Nat) : SenderOk.Statement (.pathLost x0 x1) := senderOk _

theorem SenderOk.flowPacketTx (x0 : Nat) : SenderOk.Statement (.flowPacketTx x0) := senderOk _

theorem SenderOk.ptpMessageRx (x0 : Nat) (x1 : PtpMessage) : SenderOk.Statement (.ptpMessageRx x0 x1) := senderOk _

theorem SenderOk.frameSent (x0 : Nat) : SenderOk.Statement (.frameSent x0) := senderOk _

theorem SenderOk.hitch (x0 : Origin) (x1 : Nat) (x2 : Nat) : SenderOk.Statement (.hitch x0 x1 x2) := senderOk _

theorem SenderOk.unhitch (x0 : Origin) (x1 : Nat) : SenderOk.Statement (.unhitch x0 x1) := senderOk _

theorem SenderOk.armSplice (x0 : Origin) (x1 : Nat) (x2 : Nat) (x3 : Nat) (x4 : Nat) (x5 : Bool) (x6 : Bool) (x7 : Bool) (x8 : Nat) : SenderOk.Statement (.armSplice x0 x1 x2 x3 x4 x5 x6 x7 x8) := senderOk _

theorem SenderOk.take (x0 : Origin) (x1 : Nat) (x2 : Nat) : SenderOk.Statement (.take x0 x1 x2) := senderOk _

theorem SenderOk.cancelSplice (x0 : Origin) (x1 : Nat) (x2 : Nat) : SenderOk.Statement (.cancelSplice x0 x1 x2) := senderOk _

theorem SenderOk.arm (x0 : Master) (x1 : Nat) (x2 : Word) : SenderOk.Statement (.arm x0 x1 x2) := senderOk _

theorem SenderOk.cancel (x0 : Master) (x1 : Nat) (x2 : Word) : SenderOk.Statement (.cancel x0 x1 x2) := senderOk _

theorem SenderOk.splTake (x0 : Master) (x1 : Word) : SenderOk.Statement (.splTake x0 x1) := senderOk _

theorem SenderOk.splCancel (x0 : Master) (x1 : Word) : SenderOk.Statement (.splCancel x0 x1) := senderOk _

theorem SenderOk.lineStart (x0 : Nat) (x1 : Nat) (x2 : List LineObs) : SenderOk.Statement (.lineStart x0 x1 x2) := senderOk _

theorem SenderOk.splicePoint (x0 : PointOf) (x1 : SpliceObs) : SenderOk.Statement (.splicePoint x0 x1) := senderOk _

theorem SenderOk.lockStepEnd (x0 : Nat) : SenderOk.Statement (.lockStepEnd x0) := senderOk _

theorem SenderOk.gapEnd (x0 : Nat) : SenderOk.Statement (.gapEnd x0) := senderOk _

theorem SenderOk.holdLimitExpiry (x0 : Nat) : SenderOk.Statement (.holdLimitExpiry x0) := senderOk _

theorem SenderOk.prerollEntry (x0 : Nat) (x1 : EntryObs) : SenderOk.Statement (.prerollEntry x0 x1) := senderOk _

theorem SenderOk.decision (x0 : Option Nat) (x1 : Option Nat) (x2 : DecisionObs) : SenderOk.Statement (.decision x0 x1 x2) := senderOk _

theorem SenderOk.switch (x0 : Nat) (x1 : Nat) (x2 : SwitchObs) : SenderOk.Statement (.switch x0 x1 x2) := senderOk _

theorem SenderOk.shadowReload (x0 : Nat) : SenderOk.Statement (.shadowReload x0) := senderOk _

theorem SenderOk.ethBlockReturn (x0 : Nat) : SenderOk.Statement (.ethBlockReturn x0) := senderOk _

theorem SenderOk.deferredPower (x0 : Nat) : SenderOk.Statement (.deferredPower x0) := senderOk _

theorem SenderOk.batchTimeout (x0 : Nat) (x1 : Nat) : SenderOk.Statement (.batchTimeout x0 x1) := senderOk _

theorem SenderOk.batchOpen (x0 : Origin) (x1 : Nat) : SenderOk.Statement (.batchOpen x0 x1) := senderOk _

theorem SenderOk.batchClose (x0 : Origin) (x1 : Nat) (x2 : Nat) : SenderOk.Statement (.batchClose x0 x1 x2) := senderOk _

theorem SenderOk.frameComplete (x0 : FrameWriter) : SenderOk.Statement (.frameComplete x0) := senderOk _

theorem SenderOk.sbdSet (x0 : Origin) (x1 : Nat) (x2 : Nat) (x3 : Option (List Word)) : SenderOk.Statement (.sbdSet x0 x1 x2 x3) := senderOk _

theorem SenderOk.sbdTableLoad (x0 : Origin) (x1 : Nat) (x2 : Nat) (x3 : Nat) (x4 : Option (List Word)) : SenderOk.Statement (.sbdTableLoad x0 x1 x2 x3 x4) := senderOk _

theorem SenderOk.sbdTblLoad (x0 : Master) (x1 : Nat) (x2 : Word) : SenderOk.Statement (.sbdTblLoad x0 x1 x2) := senderOk _

theorem SenderOk.sbdTblData (x0 : Master) (x1 : Nat) (x2 : Option Word) : SenderOk.Statement (.sbdTblData x0 x1 x2) := senderOk _

theorem SenderOk.compSet (x0 : Origin) (x1 : Nat) (x2 : Nat) (x3 : Option (List Word)) : SenderOk.Statement (.compSet x0 x1 x2 x3) := senderOk _

theorem SenderOk.layerSet (x0 : Origin) (x1 : Nat) (x2 : Nat) (x3 : Option (List Word)) : SenderOk.Statement (.layerSet x0 x1 x2 x3) := senderOk _

theorem SenderOk.registerBuffer (x0 : Origin) (x1 : Nat) (x2 : Nat) (x3 : Nat) (x4 : Nat) (x5 : Nat) (x6 : Nat) (x7 : Nat) : SenderOk.Statement (.registerBuffer x0 x1 x2 x3 x4 x5 x6 x7) := senderOk _

theorem SenderOk.releaseBuffer (x0 : Origin) (x1 : Nat) : SenderOk.Statement (.releaseBuffer x0 x1) := senderOk _

theorem SenderOk.flip (x0 : Origin) (x1 : Nat) (x2 : Nat) (x3 : Nat) (x4 : DWord) (x5 : Nat) : SenderOk.Statement (.flip x0 x1 x2 x3 x4 x5) := senderOk _

theorem SenderOk.cmpLFlip (x0 : Master) (x1 : Nat) (x2 : Word) : SenderOk.Statement (.cmpLFlip x0 x1 x2) := senderOk _

theorem SenderOk.compTableLoad (x0 : Origin) (x1 : Nat) (x2 : Nat) (x3 : Option (List Word)) : SenderOk.Statement (.compTableLoad x0 x1 x2 x3) := senderOk _

theorem SenderOk.cmpTblData (x0 : Master) (x1 : Nat) (x2 : Option Word) : SenderOk.Statement (.cmpTblData x0 x1 x2) := senderOk _

theorem SenderOk.timingSet (x0 : Origin) (x1 : Nat) (x2 : Nat) (x3 : Option (List Word)) : SenderOk.Statement (.timingSet x0 x1 x2 x3) := senderOk _

theorem SenderOk.paceSet (x0 : Origin) (x1 : Nat) (x2 : Nat) (x3 : Option (List Word)) : SenderOk.Statement (.paceSet x0 x1 x2 x3) := senderOk _

theorem SenderOk.crcSet (x0 : Origin) (x1 : Nat) (x2 : Nat) (x3 : Option (List Word)) : SenderOk.Statement (.crcSet x0 x1 x2 x3) := senderOk _

theorem SenderOk.scnTableLoad (x0 : Master) (x1 : Nat) (x2 : Word) : SenderOk.Statement (.scnTableLoad x0 x1 x2) := senderOk _

theorem SenderOk.recorderSet (x0 : Origin) (x1 : Nat) (x2 : Nat) (x3 : Option (List Word)) : SenderOk.Statement (.recorderSet x0 x1 x2 x3) := senderOk _

theorem SenderOk.playerSet (x0 : Origin) (x1 : Nat) (x2 : Nat) (x3 : Option (List Word)) : SenderOk.Statement (.playerSet x0 x1 x2 x3) := senderOk _

theorem SenderOk.playerCue (x0 : Origin) (x1 : Nat) (x2 : Nat) : SenderOk.Statement (.playerCue x0 x1 x2) := senderOk _

theorem SenderOk.evacuateChannel (x0 : Origin) (x1 : Nat) : SenderOk.Statement (.evacuateChannel x0 x1) := senderOk _

theorem SenderOk.channelPower (x0 : Origin) (x1 : Nat) (x2 : Bool) : SenderOk.Statement (.channelPower x0 x1 x2) := senderOk _

theorem SenderOk.rebalance (x0 : Origin) (x1 : Nat) : SenderOk.Statement (.rebalance x0 x1) := senderOk _

theorem SenderOk.pieceCopied : SenderOk.Statement (.pieceCopied) := senderOk _

theorem SenderOk.powerOffSafe (x0 : Nat) : SenderOk.Statement (.powerOffSafe x0) := senderOk _

theorem SenderOk.failed (x0 : Nat) : SenderOk.Statement (.failed x0) := senderOk _

theorem SenderOk.patrolScrub (x0 : List (Nat × Nat × Bool)) (x1 : Bool) : SenderOk.Statement (.patrolScrub x0 x1) := senderOk _

theorem SenderOk.selfRefreshEntry (x0 : Nat) : SenderOk.Statement (.selfRefreshEntry x0) := senderOk _

theorem SenderOk.selfRefreshExit (x0 : Nat) (x1 : Bool) : SenderOk.Statement (.selfRefreshExit x0 x1) := senderOk _

theorem SenderOk.bar2Access (x0 : Nat) (x1 : Bar2) : SenderOk.Statement (.bar2Access x0 x1) := senderOk _

theorem SenderOk.blockBoundary (x0 : Nat) (x1 : List AudioObs) : SenderOk.Statement (.blockBoundary x0 x1) := senderOk _

theorem SenderOk.sampleInstant (x0 : Nat) (x1 : Nat) (x2 : Bool) : SenderOk.Statement (.sampleInstant x0 x1 x2) := senderOk _

theorem SenderOk.clkLost (x0 : Nat) : SenderOk.Statement (.clkLost x0) := senderOk _

theorem SenderOk.sapEnable (x0 : Master) (x1 : Nat) (x2 : Bool) (x3 : Word) : SenderOk.Statement (.sapEnable x0 x1 x2 x3) := senderOk _

theorem SenderOk.tapRecord (x0 : Nat) (x1 : Nat) (x2 : List (List Int)) : SenderOk.Statement (.tapRecord x0 x1 x2) := senderOk _

theorem SenderOk.aes3Block (x0 : Nat) (x1 : List Byte) (x2 : List Byte) : SenderOk.Statement (.aes3Block x0 x1 x2) := senderOk _

theorem SenderOk.blockSyncLost (x0 : Nat) : SenderOk.Statement (.blockSyncLost x0) := senderOk _

theorem SenderOk.parityErr (x0 : ParityObs) : SenderOk.Statement (.parityErr x0) := senderOk _

theorem SenderOk.audioHitch (x0 : Origin) (x1 : Nat) (x2 : Nat) (x3 : Nat) : SenderOk.Statement (.audioHitch x0 x1 x2 x3) := senderOk _

theorem SenderOk.audioUnhitch (x0 : Origin) (x1 : Nat) (x2 : Nat) : SenderOk.Statement (.audioUnhitch x0 x1 x2) := senderOk _

theorem SenderOk.audioPortSet (x0 : Origin) (x1 : Nat) (x2 : Nat) (x3 : Nat) (x4 : Nat) : SenderOk.Statement (.audioPortSet x0 x1 x2 x3 x4) := senderOk _

theorem SenderOk.audioDomainSet (x0 : Origin) (x1 : Nat) (x2 : Nat) : SenderOk.Statement (.audioDomainSet x0 x1 x2) := senderOk _

theorem SenderOk.agroupSet (x0 : Origin) (x1 : Nat) (x2 : Nat) : SenderOk.Statement (.agroupSet x0 x1 x2) := senderOk _

theorem SenderOk.sapSet (x0 : Origin) (x1 : Nat) (x2 : Nat) (x3 : Option (List Word)) : SenderOk.Statement (.sapSet x0 x1 x2 x3) := senderOk _

theorem SenderOk.audioTapSet (x0 : Origin) (x1 : Nat) (x2 : Word) (x3 : Nat) (x4 : Nat) : SenderOk.Statement (.audioTapSet x0 x1 x2 x3 x4) := senderOk _

theorem SenderOk.aesSet (x0 : Origin) (x1 : Nat) (x2 : Word) (x3 : Option (List Byte)) : SenderOk.Statement (.aesSet x0 x1 x2 x3) := senderOk _

theorem SenderOk.srcSet (x0 : Origin) (x1 : Nat) (x2 : Nat) (x3 : Bool) (x4 : Nat) : SenderOk.Statement (.srcSet x0 x1 x2 x3 x4) := senderOk _

theorem SenderOk.ppsEdge (x0 : RefObs) : SenderOk.Statement (.ppsEdge x0) := senderOk _

theorem SenderOk.refSyncFrame (x0 : Nat) (x1 : Nat) (x2 : Bool) (x3 : RefObs) : SenderOk.Statement (.refSyncFrame x0 x1 x2 x3) := senderOk _

theorem SenderOk.refLost (x0 : Nat) : SenderOk.Statement (.refLost x0) := senderOk _

theorem SenderOk.refReady (x0 : Nat) : SenderOk.Statement (.refReady x0) := senderOk _

theorem SenderOk.holdoffExpiry (x0 : Nat) : SenderOk.Statement (.holdoffExpiry x0) := senderOk _

theorem SenderOk.todArm (x0 : Master) (x1 : Word) : SenderOk.Statement (.todArm x0 x1) := senderOk _

theorem SenderOk.tempSample (x0 : Int) : SenderOk.Statement (.tempSample x0) := senderOk _

theorem SenderOk.calRun (x0 : Origin) (x1 : Nat) (x2 : Nat) (x3 : Bool) : SenderOk.Statement (.calRun x0 x1 x2 x3) := senderOk _

theorem SenderOk.bgCalStart (x0 : Nat) (x1 : Nat) (x2 : Bool) : SenderOk.Statement (.bgCalStart x0 x1 x2) := senderOk _

theorem SenderOk.calDone (x0 : Nat) (x1 : Nat) (x2 : CalObs) : SenderOk.Statement (.calDone x0 x1 x2) := senderOk _

theorem SenderOk.calStore (x0 : Origin) : SenderOk.Statement (.calStore x0) := senderOk _

theorem SenderOk.autoStore : SenderOk.Statement (.autoStore) := senderOk _

theorem SenderOk.recordCommitted (x0 : Nat) (x1 : Nat) (x2 : List (Nat × Nat)) (x3 : List (Nat × Nat)) : SenderOk.Statement (.recordCommitted x0 x1 x2 x3) := senderOk _

theorem SenderOk.sectorErased (x0 : Nat) (x1 : Nat) : SenderOk.Statement (.sectorErased x0 x1) := senderOk _

theorem SenderOk.program (x0 : Master) (x1 : Word) : SenderOk.Statement (.program x0 x1) := senderOk _

theorem SenderOk.lock (x0 : Master) (x1 : Word) : SenderOk.Statement (.lock x0 x1) := senderOk _

theorem SenderOk.recRead (x0 : Origin) (x1 : Nat) (x2 : Nat) (x3 : Nat) (x4 : Nat) (x5 : Nat) : SenderOk.Statement (.recRead x0 x1 x2 x3 x4 x5) := senderOk _

theorem SenderOk.keyWrite (x0 : Origin) (x1 : Nat) (x2 : Nat) (x3 : Nat) (x4 : Option (List Byte)) : SenderOk.Statement (.keyWrite x0 x1 x2 x3 x4) := senderOk _

theorem SenderOk.keyZero (x0 : Origin) (x1 : Nat) : SenderOk.Statement (.keyZero x0 x1) := senderOk _

theorem SenderOk.keyDerive (x0 : Origin) (x1 : Nat) (x2 : Nat) (x3 : Nat) (x4 : Nat) (x5 : Option (List Byte)) : SenderOk.Statement (.keyDerive x0 x1 x2 x3 x4 x5) := senderOk _

theorem SenderOk.keyStore (x0 : Origin) (x1 : Nat) : SenderOk.Statement (.keyStore x0 x1) := senderOk _

theorem SenderOk.attest (x0 : Origin) (x1 : Nat) (x2 : Nat) (x3 : List Byte) : SenderOk.Statement (.attest x0 x1 x2 x3) := senderOk _

theorem SenderOk.digestRecompute : SenderOk.Statement (.digestRecompute) := senderOk _

theorem SenderOk.rigWriteSlot (x0 : Origin) (x1 : Nat) (x2 : Nat) (x3 : Nat) (x4 : SlotData) : SenderOk.Statement (.rigWriteSlot x0 x1 x2 x3 x4) := senderOk _

theorem SenderOk.rigWriteSlotDone (x0 : Nat) : SenderOk.Statement (.rigWriteSlotDone x0) := senderOk _

theorem SenderOk.rigVerifySlot (x0 : Origin) (x1 : Nat) : SenderOk.Statement (.rigVerifySlot x0 x1) := senderOk _

theorem SenderOk.rigVerifySlotDone (x0 : Nat) : SenderOk.Statement (.rigVerifySlotDone x0) := senderOk _

theorem SenderOk.rigSelectSlot (x0 : Origin) (x1 : Nat) (x2 : Bool) : SenderOk.Statement (.rigSelectSlot x0 x1 x2) := senderOk _

theorem SenderOk.rigConfirm (x0 : Origin) : SenderOk.Statement (.rigConfirm x0) := senderOk _

theorem SenderOk.rigRezone (x0 : Origin) (x1 : Nat) (x2 : Nat) : SenderOk.Statement (.rigRezone x0 x1 x2) := senderOk _

theorem SenderOk.zoneVerified (x0 : List (Nat × List Byte)) : SenderOk.Statement (.zoneVerified x0) := senderOk _

theorem SenderOk.zoneStaged (x0 : List (Nat × List Byte)) : SenderOk.Statement (.zoneStaged x0) := senderOk _

theorem SenderOk.zoneStopped : SenderOk.Statement (.zoneStopped) := senderOk _

theorem SenderOk.zoneRunning : SenderOk.Statement (.zoneRunning) := senderOk _

theorem SenderOk.nop (x0 : Origin) : SenderOk.Statement (.nop x0) := senderOk _

theorem SenderOk.fenceSignal (x0 : Origin) (x1 : Nat) (x2 : DWord) : SenderOk.Statement (.fenceSignal x0 x1 x2) := senderOk _

theorem SenderOk.dmaCopy (x0 : Origin) (x1 : DmaRequest) : SenderOk.Statement (.dmaCopy x0 x1) := senderOk _

theorem SenderOk.dmaDone (x0 : Nat) (x1 : DmaResult) : SenderOk.Statement (.dmaDone x0 x1) := senderOk _

theorem SenderOk.modeRequest (x0 : Origin) (x1 : Nat) (x2 : Nat) : SenderOk.Statement (.modeRequest x0 x1 x2) := senderOk _

theorem SenderOk.outputsStopped : SenderOk.Statement (.outputsStopped) := senderOk _

theorem SenderOk.tenancyAdrift (x0 : Origin) (x1 : Nat) : SenderOk.Statement (.tenancyAdrift x0 x1) := senderOk _

theorem SenderOk.flowSet (x0 : Origin) (x1 : Option (List Byte)) : SenderOk.Statement (.flowSet x0 x1) := senderOk _

theorem SenderOk.ethSendFrame (x0 : Origin) (x1 : Nat) (x2 : Nat) (x3 : Option (List Byte)) : SenderOk.Statement (.ethSendFrame x0 x1 x2 x3) := senderOk _

theorem SenderOk.macsecSaSet (x0 : Origin) (x1 : Nat) (x2 : Bool) (x3 : Nat) (x4 : Nat) (x5 : Nat) (x6 : DWord) (x7 : Word) (x8 : Nat) : SenderOk.Statement (.macsecSaSet x0 x1 x2 x3 x4 x5 x6 x7 x8) := senderOk _

theorem SenderOk.hookLoad (x0 : Origin) (x1 : Nat) (x2 : Nat) (x3 : Option (List Byte)) : SenderOk.Statement (.hookLoad x0 x1 x2 x3) := senderOk _

theorem SenderOk.hookSet (x0 : Origin) (x1 : Nat) (x2 : Bool) (x3 : Nat) (x4 : Word) : SenderOk.Statement (.hookSet x0 x1 x2 x3 x4) := senderOk _

theorem SenderOk.fidUpdate (x0 : Origin) (x1 : Nat) (x2 : Nat) (x3 : Option (List Byte)) : SenderOk.Statement (.fidUpdate x0 x1 x2 x3) := senderOk _

theorem SenderOk.fidUpdated (x0 : Nat) : SenderOk.Statement (.fidUpdated x0) := senderOk _

theorem SenderOk.fidUpdateTimeout (x0 : Nat) : SenderOk.Statement (.fidUpdateTimeout x0) := senderOk _

theorem SenderOk.fidRestart (x0 : Origin) (x1 : Nat) : SenderOk.Statement (.fidRestart x0 x1) := senderOk _

theorem SenderOk.hookTimeout (x0 : Nat) : SenderOk.Statement (.hookTimeout x0) := senderOk _

theorem SenderOk.hookSkipped (x0 : Nat) (x1 : Nat) (x2 : Nat) : SenderOk.Statement (.hookSkipped x0 x1 x2) := senderOk _

theorem SenderOk.alu (x0 : Nat) (x1 : Bool) : SenderOk.Statement (.alu x0 x1) := senderOk _

theorem SenderOk.addi (x0 : Nat) (x1 : Bool) : SenderOk.Statement (.addi x0 x1) := senderOk _

theorem SenderOk.andi (x0 : Nat) (x1 : Bool) : SenderOk.Statement (.andi x0 x1) := senderOk _

theorem SenderOk.ori (x0 : Nat) (x1 : Bool) : SenderOk.Statement (.ori x0 x1) := senderOk _

theorem SenderOk.xori (x0 : Nat) (x1 : Bool) : SenderOk.Statement (.xori x0 x1) := senderOk _

theorem SenderOk.shi (x0 : Nat) (x1 : Bool) : SenderOk.Statement (.shi x0 x1) := senderOk _

theorem SenderOk.lui (x0 : Nat) (x1 : Bool) : SenderOk.Statement (.lui x0 x1) := senderOk _

theorem SenderOk.slti (x0 : Nat) (x1 : Bool) : SenderOk.Statement (.slti x0 x1) := senderOk _

theorem SenderOk.ld (x0 : Nat) (x1 : Bool) : SenderOk.Statement (.ld x0 x1) := senderOk _

theorem SenderOk.st (x0 : Nat) (x1 : Bool) : SenderOk.Statement (.st x0 x1) := senderOk _

theorem SenderOk.rgr (x0 : Nat) (x1 : Bool) : SenderOk.Statement (.rgr x0 x1) := senderOk _

theorem SenderOk.rgw (x0 : Nat) (x1 : Bool) : SenderOk.Statement (.rgw x0 x1) := senderOk _

theorem SenderOk.shw (x0 : Nat) (x1 : Bool) : SenderOk.Statement (.shw x0 x1) := senderOk _

theorem SenderOk.cmt (x0 : Nat) (x1 : Bool) : SenderOk.Statement (.cmt x0 x1) := senderOk _

theorem SenderOk.xld (x0 : Nat) (x1 : Bool) : SenderOk.Statement (.xld x0 x1) := senderOk _

theorem SenderOk.xst (x0 : Nat) (x1 : Bool) : SenderOk.Statement (.xst x0 x1) := senderOk _

theorem SenderOk.beq (x0 : Nat) (x1 : Bool) : SenderOk.Statement (.beq x0 x1) := senderOk _

theorem SenderOk.bne (x0 : Nat) (x1 : Bool) : SenderOk.Statement (.bne x0 x1) := senderOk _

theorem SenderOk.blt (x0 : Nat) (x1 : Bool) : SenderOk.Statement (.blt x0 x1) := senderOk _

theorem SenderOk.bge (x0 : Nat) (x1 : Bool) : SenderOk.Statement (.bge x0 x1) := senderOk _

theorem SenderOk.bltu (x0 : Nat) (x1 : Bool) : SenderOk.Statement (.bltu x0 x1) := senderOk _

theorem SenderOk.bgeu (x0 : Nat) (x1 : Bool) : SenderOk.Statement (.bgeu x0 x1) := senderOk _

theorem SenderOk.jal (x0 : Nat) (x1 : Bool) : SenderOk.Statement (.jal x0 x1) := senderOk _

theorem SenderOk.jr (x0 : Nat) (x1 : Bool) : SenderOk.Statement (.jr x0 x1) := senderOk _

theorem SenderOk.time (x0 : Nat) (x1 : Bool) : SenderOk.Statement (.time x0 x1) := senderOk _

theorem SenderOk.wait (x0 : Nat) (x1 : Bool) : SenderOk.Statement (.wait x0 x1) := senderOk _

theorem SenderOk.evt (x0 : Nat) (x1 : Bool) : SenderOk.Statement (.evt x0 x1) := senderOk _

theorem SenderOk.csrr (x0 : Nat) (x1 : Bool) : SenderOk.Statement (.csrr x0 x1) := senderOk _

theorem SenderOk.csrw (x0 : Nat) (x1 : Bool) : SenderOk.Statement (.csrw x0 x1) := senderOk _

theorem SenderOk.done (x0 : Nat) (x1 : Bool) : SenderOk.Statement (.done x0 x1) := senderOk _

theorem SenderOk.brk (x0 : Nat) (x1 : Bool) : SenderOk.Statement (.brk x0 x1) := senderOk _

theorem SenderOk.lockBreak : SenderOk.Statement (.lockBreak) := senderOk _

theorem SenderOk.remap (x0 : Master) (x1 : Word) : SenderOk.Statement (.remap x0 x1) := senderOk _

theorem SenderOk.sysCtrlLock (x0 : Master) (x1 : Word) : SenderOk.Statement (.sysCtrlLock x0 x1) := senderOk _

theorem SenderOk.sqTail (x0 : Nat) (x1 : Nat) (x2 : Word) : SenderOk.Statement (.sqTail x0 x1 x2) := senderOk _

theorem SenderOk.cqHead (x0 : Nat) (x1 : Nat) (x2 : Word) : SenderOk.Statement (.cqHead x0 x1 x2) := senderOk _

theorem SenderOk.evqHead (x0 : Nat) (x1 : Word) : SenderOk.Statement (.evqHead x0 x1) := senderOk _

theorem SenderOk.commandFetch (x0 : Nat) (x1 : Nat) (x2 : List FetchEntry) (x3 : Bool) : SenderOk.Statement (.commandFetch x0 x1 x2 x3) := senderOk _

theorem SenderOk.msixMessage (x0 : Nat) (x1 : Nat) : SenderOk.Statement (.msixMessage x0 x1) := senderOk _

theorem SenderOk.tenLanyard (x0 : Master) (x1 : Nat) (x2 : Word) : SenderOk.Statement (.tenLanyard x0 x1 x2) := senderOk _

theorem SenderOk.tenLanyardCfg (x0 : Master) (x1 : Nat) (x2 : Word) : SenderOk.Statement (.tenLanyardCfg x0 x1 x2) := senderOk _

theorem SenderOk.lanyardLapse (x0 : Nat) : SenderOk.Statement (.lanyardLapse x0) := senderOk _

theorem SenderOk.tenFenceLo (x0 : Master) (x1 : Nat) (x2 : Nat) (x3 : Word) : SenderOk.Statement (.tenFenceLo x0 x1 x2 x3) := senderOk _

theorem SenderOk.tenFenceHi (x0 : Master) (x1 : Nat) (x2 : Nat) (x3 : Word) : SenderOk.Statement (.tenFenceHi x0 x1 x2 x3) := senderOk _

theorem SenderOk.functionReset (x0 : Nat) (x1 : Nat) (x2 : List (Nat × DmaResult)) : SenderOk.Statement (.functionReset x0 x1 x2) := senderOk _

theorem SenderOk.busMasterEnable (x0 : Nat) : SenderOk.Statement (.busMasterEnable x0) := senderOk _

theorem SenderOk.ecrcError (x0 : Nat) : SenderOk.Statement (.ecrcError x0) := senderOk _

theorem SenderOk.lockedRead (x0 : Nat) : SenderOk.Statement (.lockedRead x0) := senderOk _

theorem SenderOk.identify (x0 : Bool) : SenderOk.Statement (.identify x0) := senderOk _

theorem SenderOk.health (x0 : Bool) : SenderOk.Statement (.health x0) := senderOk _

theorem SenderOk.alertStatus (x0 : Bool) : SenderOk.Statement (.alertStatus x0) := senderOk _

theorem SenderOk.mgmtModeRequest (x0 : Bool) (x1 : Nat) : SenderOk.Statement (.mgmtModeRequest x0 x1) := senderOk _

theorem SenderOk.mgmtRecRead (x0 : Bool) (x1 : Nat) (x2 : Nat) (x3 : Nat) (x4 : Nat) : SenderOk.Statement (.mgmtRecRead x0 x1 x2 x3 x4) := senderOk _

theorem SenderOk.attestChallenge (x0 : Bool) (x1 : List Byte) : SenderOk.Statement (.attestChallenge x0 x1) := senderOk _

theorem SenderOk.attestResponse (x0 : Bool) : SenderOk.Statement (.attestResponse x0) := senderOk _

theorem SenderOk.hostWake (x0 : Nat) : SenderOk.Statement (.hostWake x0) := senderOk _

theorem SenderOk.wake (x0 : Nat) : SenderOk.Statement (.wake x0) := senderOk _

theorem SenderOk.idleHoldExpiry (x0 : Nat) : SenderOk.Statement (.idleHoldExpiry x0) := senderOk _

theorem SenderOk.regRead (x0 : Master) (x1 : Nat) (x2 : Nat) : SenderOk.Statement (.regRead x0 x1 x2) := senderOk _

theorem SenderOk.channelFilled (x0 : Nat) : SenderOk.Statement (.channelFilled x0) := senderOk _

theorem SenderOk.delayReq (x0 : Nat) : SenderOk.Statement (.delayReq x0) := senderOk _

theorem SenderOk.avsRequest (x0 : Nat) (x1 : Bool) : SenderOk.Statement (.avsRequest x0 x1) := senderOk _

theorem SenderOk.timeWake : SenderOk.Statement (.timeWake) := senderOk _

theorem SenderOk.belayGrant : SenderOk.Statement (.belayGrant) := senderOk _

end Sys2Proof.Laws
end

