-- ==== Sys2Proof/Machine/Flags.lean ====
section
/-! DEFINITION. Flags: the part has no condition codes; what it flags, it flags in W1C event registers with an enable beside them (R14, R639).
These read the flags of one event register. -/

namespace Sys2Proof.Machine

open Sys2Proof

/-- Bit `b` of an event register is set. -/
def State.flagged (s : State) (ev b : Nat) : Bool := s.bit ev b

/-- Bit `b` of an event register posts to the owner's event ring. -/
def State.flagPosts (s : State) (en b : Nat) : Bool := s.bit en b

end Sys2Proof.Machine
end

