-- ==== Sys2Proof/Machine/Package.lean ====
section
/-! DEFINITION. What the part shows at its balls: the ball map (R768 to R774), the levels of its output pins as its state gives them (R433, R658, R736,
R780), the instructions of its JTAG port (R788) and the configuration of its PCI Express functions (R611). No command reads these; they are views of the
state and of the package. -/

namespace Sys2Proof.Machine

open Sys2Proof

/-! The ball map -/

/-- The letters that name rows (R768). -/
def rowLetters : List String := ["A", "B", "C", "D", "E", "F", "G", "H", "J", "K", "L", "M", "N", "P", "T", "U", "V", "W", "Y"]

/-- The name of the row of an index from 1 to 74 (R768). -/
def rowName (i : Nat) : String :=
  let k := i - 1
  ["", "A", "B", "C"].getD (k / 19) "" ++ rowLetters.getD (k % 19) ""

/-- The name of a ball by row index and column (R768). -/
def ballName (r c : Nat) : String := rowName r ++ toString c

/-- What a ball carries. The numbers of `channel`, `audio` and `corner` count in the order of R772's list, of R773's list and of R774's table. -/
inductive Ball where
  | vss
  | vddCore
  | vddSram
  | vddSda
  | vddSdh
  | vddqDdr
  | vddAon
  | vddIo
  | vddFlash
  | vddCoreSense
  | vssCoreSense
  | strand (n : Nat) (transmit negative : Bool)
  | sideband (dp k : Nat)
  | pcieLane (lane : Nat) (transmit negative : Bool)
  | pcieRefclk (negative : Bool)
  | perstN (k : Nat)
  | channel (m k : Nat)
  | audio (k : Nat)
  | corner (k : Nat)
  deriving DecidableEq, Repr

/-- The signals of one subchannel of a frame-store channel, `x` its letter (R772). -/
def subchannelBalls (x : String) : List String :=
  (List.range 40).map (fun k => "DQ" ++ x ++ toString k) ++
  ((List.range 10).map (fun k => ["DQS" ++ x ++ "_T" ++ toString k, "DQS" ++ x ++ "_C" ++ toString k])).flatten ++
  (List.range 7).map (fun k => "CA" ++ x ++ toString k) ++ ["PAR" ++ x, "CS" ++ x ++ "_N0", "CS" ++ x ++ "_N1", "CK" ++ x ++ "_T", "CK" ++ x ++ "_C"]

/-- The 149 balls of a channel, without their prefix, in the order of their fill (R772). -/
def channelBalls : List String := subchannelBalls "A" ++ subchannelBalls "B" ++ ["ALERT_N", "DRST_N", "HSCL", "HSDA", "MEM_PWR_EN"]

/-- The 112 audio balls in the order of their fill (R773). -/
def audioBalls : List String :=
  ((List.range 16).map (fun s => ["RX_BCLK", "RX_FS", "RX_DATA", "TX_BCLK", "TX_FS", "TX_DATA"].map (fun x => "SAP" ++ toString s ++ "_" ++ x))).flatten ++
  (List.range 8).map (fun k => "AI" ++ toString k) ++ (List.range 8).map (fun k => "AO" ++ toString k)

/-- The signals of the corners with their row indices and columns (R774). -/
def cornerBalls : List (Nat × Nat × String) :=
  [(1, 1, "REFCLK_156P"), (1, 2, "REFCLK_156N"), (3, 1, "XT_IN"), (3, 2, "XT_OUT"), (4, 1, "REF_10M"), (4, 2, "PPS_IN"), (5, 1, "REF_SYNC"),
   (5, 2, "REF_SYNC_LOOP"), (6, 1, "VCAL"), (6, 2, "SD_RCAL"), (1, 74, "TCK"), (1, 73, "TMS"), (2, 74, "TDI"), (2, 73, "TDO"), (3, 74, "TRST_N"),
   (3, 73, "MGMT_SCL"), (4, 74, "MGMT_SDA"), (4, 73, "MGMT_ALERT_N"), (5, 74, "RESET_N"), (5, 73, "TAMPER_N"), (6, 74, "CORE_PWR_EN"), (6, 73, "VHOLD"),
   (7, 74, "AVS_CLK"), (7, 73, "AVS_MDATA"), (8, 74, "AVS_SDATA")]

/-- Rows 1 to 8 of the columns 1 to 5 and 70 to 74 (R774). -/
def cornerAt (r c : Nat) : Ball :=
  if (r = 7 ∨ r = 8) ∧ c ≤ 2 then .vddAon
  else if r ≤ 2 ∧ (c = 4 ∨ c = 5 ∨ c = 70 ∨ c = 71) then .vddIo
  else if (r = 4 ∨ r = 5) ∧ (c = 70 ∨ c = 71) then .vddFlash
  else
    match cornerBalls.findIdx? (fun b => decide (b.1 = r ∧ b.2.1 = c)) with
    | some k => .corner k
    | none => .vss

/-- Rows 1 to 8 and 67 to 74 of the columns 6 to 69: `a` is the row counted from the edge of the array, `first` the first strand of the half (R770). -/
def strandAt (first a c : Nat) : Ball :=
  let k := (c - 6) % 4
  if k ≤ 1 then .strand (first + 16 * ((a - 1) / 2) + (c - 6) / 4) (decide (a % 2 = 0)) (decide (k = 1)) else .vss

/-- Rows 67 to 74 of the columns 1 to 5 and 70 to 74 (R771). -/
def sidebandAt (r c : Nat) : Ball :=
  if c ≤ 3 then .sideband (74 - r) (c - 1) else if 72 ≤ c then .sideband (82 - r) (c - 72) else .vss

/-- Row `r` of the PCIe block at column `c` (R771). -/
def pcieAt (r c : Nat) : Ball :=
  if r = 15 then (if c ≤ 26 then .pcieRefclk (decide (c = 26)) else if c ≤ 30 then .perstN (c - 27) else .vss)
  else
    let k := c - 27
    if c < 27 ∨ 24 ≤ k ∨ k % 3 = 2 then .vss
    else .pcieLane (k / 3 + (if r = 12 ∨ r = 14 then 8 else 0)) (decide (13 ≤ r)) (decide (k % 3 = 1))

/-- Row `i` (from 0) and block column `j` (from 1) of the block of channel `m` (R772). -/
def channelAt (m i j : Nat) : Ball :=
  if j % 8 = 4 then .vss
  else if j % 8 = 0 then .vddqDdr
  else
    let k := 18 * i + (j - 1) - j / 4
    if k < 149 then .channel m k else .vss

/-- What the ball at a row index and column carries (R769). -/
def ballAt (r c : Nat) : Ball :=
  if r ≤ 8 then (if c ≤ 5 ∨ 70 ≤ c then cornerAt r c else strandAt 0 r c)
  else if 67 ≤ r then (if c ≤ 5 ∨ 70 ≤ c then sidebandAt r c else strandAt 64 (75 - r) c)
  else if r = 9 ∨ r = 66 then .vddSda
  else if r = 10 ∨ r = 65 then (if c % 2 = 1 then .vddSdh else .vss)
  else if c ≤ 24 then channelAt ((r - 11) / 9) ((r - 11) % 9) c
  else if 51 ≤ c then channelAt ((r - 11) / 9 + 6) ((r - 11) % 9) (75 - c)
  else if r ≤ 15 then pcieAt r c
  else if r ≤ 17 ∨ (58 ≤ r ∧ r ≤ 59) then (if c % 2 = 0 then .vddSram else .vss)
  else if r ≤ 57 then
    if r = 37 ∧ c = 37 then .vddCoreSense else if r = 37 ∧ c = 38 then .vssCoreSense else if (r + c) % 2 = 0 then .vddCore else .vss
  else if 60 ≤ r then (let k := 26 * (r - 60) + (c - 25); if k < 112 then .audio k else .vss)
  else .vss

/-! Output pins -/

/-- What an output pin does. `bypass` is a strand whose pins a closed bight pair joins to its partner's, `moving` one whose pair's switches move (R125, R127). -/
inductive Drive where
  | undriven
  | electricalIdle
  | low
  | high
  | active
  | bypass
  | moving
  deriving DecidableEq, Repr

/-- What a strand's transmitter sends (R100, R112 to R115, R208). -/
inductive Signal where
  /-- Electrical idle: zero differential. -/
  | none
  /-- The retimed bits of an ingress strand. -/
  | matrix (src : Nat)
  /-- The content of the strand's own encoder, or interface. -/
  | encoder
  /-- Black of an SDI format, with TRS, line numbers and line CRCs, and no ancillary. -/
  | sdiBlack (f : Format)
  /-- The words of `sdiConstant` in turn, scrambled, without TRS. -/
  | sdiWords
  /-- Local Fault ordered sets. -/
  | localFault (fec : Bool)
  /-- Idle control blocks of Ethernet. -/
  | ethIdle (fec : Bool)
  /-- The DisplayPort idle pattern. -/
  | dpIdle
  /-- HDMI gap characters. -/
  | hdmiGap
  /-- A PRBS pattern by its code (R115). -/
  | prbs (pattern : Nat)
  deriving DecidableEq, Repr

/-- The two words of the constant SDI pattern (R112). -/
def sdiConstant : List Nat := [0x200, 0x040]

/-- What RAW sends when IDLE: electrical idle, or PRBS31 in the strand's modulation under RAW_IDLE (R112). -/
def State.rawIdle (s : State) (n : Nat) : Signal := if s.bit (Reg.strTxCtrl n) 1 then .prbs (if s.pam4 n then 6 else 4) else .none

/-- What an IDLE transmitter sends: with a taut hitch by the table of R112, without one by R114. -/
def State.idleSignal (s : State) (n : Nat) : Signal :=
  match s.proto n with
  | 1 => if s.tautHeld n then (match tabGet n s.strand.tautFormat with | some f => .sdiBlack f | none => .sdiWords) else .sdiWords
  | 2 => if s.tautHeld n then .localFault (s.hasFec n) else .ethIdle (s.hasFec n)
  | 3 => if s.bit (Reg.strCfg n) 6 then .hdmiGap else .dpIdle
  | _ => s.rawIdle n

/-- What the transmitter of a strand sends. -/
def State.txSignal (s : State) (n : Nat) : Signal :=
  match s.tx n with
  | 1 => s.idleSignal n
  | 2 =>
    if s.txMatrix n then (match s.hitch (destStrand n) with | some src => .matrix src | none => .none)
    else if (tabGet (s.leader n) s.spl.blockReturns).isSome then .localFault (s.hasFec n)
    else if s.prbsDrives n then .prbs (s.f (Reg.strPrbsCtrl n) 3 0)
    else .encoder
  | _ => .none

/-- A level as a drive. -/
def levelOf (b : Bool) : Drive := if b then .high else .low

/-- State of the bight pair of a strand, for the two strands of a pair (R127). -/
def State.pairState (s : State) (n : Nat) : Option Nat := if n % 16 ≤ 1 then some (s.f (Reg.strBightStatus (n / 16)) 1 0) else none

/-- A strand's transmitter pins (R125, R780): on the bypass while its pair is CLOSED, where the die drives the internal load; else idle in Reset, Lockdown and while the transmitter
sends nothing, undriven in Deep sleep. -/
def State.strandPins (s : State) (n : Nat) : Drive :=
  match s.pairState n with
  | some 0 => .bypass
  | some 1 => .moving
  | some 3 => .moving
  | _ =>
    match s.mode with
    | .off => .undriven
    | .deepSleep => .undriven
    | .reset => .electricalIdle
    | .lockdown => .electricalIdle
    | _ => if s.txSignal n = .none then .electricalIdle else .active

/-- CORE_PWR_EN (R736, R780): high in every mode but Off and Deep sleep; a wake raises it first (R748). -/
def State.corePwrEn (s : State) : Drive :=
  match s.mode with
  | .off => .undriven
  | _ => levelOf (s.bit Reg.pwrStatus 0)

/-- MEM_PWR_EN of a channel (R433, R460, R780). -/
def State.memPwrEn (s : State) (m : Nat) : Drive :=
  match s.mode with
  | .off => .undriven
  | .reset => .low
  | _ => levelOf (s.store.memPwrEn.testBit m)

/-- The hot-plug pin of a SINK port (R121, R780). -/
def State.hpdPin (s : State) (dp : Nat) : Drive :=
  match s.mode with
  | .off => .undriven
  | .reset => .low
  | .deepSleep => .low
  | .lockdown => .low
  | _ => levelOf (s.bit (Reg.strDpSbCtrl dp) 0)

/-- The data line of a serial audio transmitter while it does not run (R518, R780): low, or at high impedance under TRISTATE or in Reset. -/
def State.sapDataIdle (s : State) (p : Nat) : Drive :=
  match s.mode with
  | .off => .undriven
  | .reset => .undriven
  | _ => if s.bit (Reg.audSapTxCfg p) 19 then .undriven else .low

/-- MGMT_ALERT_N, open-drain (R658, R682, R780): low while an alert bit is set or no boot copy verifies, else released. -/
def State.alertPin (s : State) : Drive :=
  match s.mode with
  | .off => .undriven
  | _ => if s.mgmtAlertN then .undriven else .low

/-! The JTAG port (R788) -/

/-- The instructions of the JTAG port. -/
inductive Jtag where
  | extest
  | idcode
  | samplePreload
  | extestPulse
  | extestTrain
  | dbgReq
  | bypass
  deriving DecidableEq, Repr

/-- The instruction a value of the instruction register selects; every value not listed acts as BYPASS (R788). -/
def jtagOf (v : Byte) : Jtag :=
  match v.toNat with
  | 0x00 => .extest
  | 0x01 => .idcode
  | 0x02 => .samplePreload
  | 0x0A => .extestPulse
  | 0x0B => .extestTrain
  | 0x3C => .dbgReq
  | _ => .bypass

/-- IDCODE (R788). -/
def jtagIdcode : Word := wd 0x20128A8D

/-! PCI Express functions (R610, R611) -/

/-- What a physical function presents (R611). -/
structure FunctionConfig where
  vendor : Nat
  device : Nat
  revision : Nat
  classCode : Nat
  subsysVendor : Nat
  subsys : Nat
  bar0Bytes : Nat
  bar2Bytes : Nat
  msixVectors : Nat
  maxPayload : Nat
  maxRead : Nat
  tagBits : Nat
  serial : DWord
  deriving DecidableEq, Repr

/-- The function of a tenancy's link; none where no tenancy has it. Until the tenancy plan is applied, configuration requests answer Retry (R612). -/
def State.functionConfig (s : State) (t : Nat) : Option FunctionConfig :=
  if fld (s.reg (Reg.tenId 0)) 4 3 < t ∨ s.links ≤ t then none
  else some
    { vendor := 0x1F6B, device := 0x0128, revision := 0xB0, classCode := 0x040000
      subsysVendor := s.host.subsys.1, subsys := s.host.subsys.2
      bar0Bytes := 16 * 2 ^ 20, bar2Bytes := 4 * 2 ^ 30, msixVectors := 256, maxPayload := 512, maxRead := 4096, tagBits := 10
      serial := Config.deviceSerial }

/-- The first PCIe lane and the width of link `k` under a bifurcation (R609). -/
def linkLanes (bifurcation k : Nat) : Option (Nat × Nat) :=
  match bifurcation with
  | 0 => if k = 0 then some (0, 16) else none
  | 1 => if k < 2 then some (8 * k, 8) else none
  | _ => if k < 4 then some (4 * k, 4) else none

end Sys2Proof.Machine
end

