-- ==== Sys2Proof/Tests/Slice0.lean ====
section
/-! SUPPORT. Small tests: the checks of `wellFormed`, the encoding of the fids' instructions, and for every statement with hypotheses a concrete state and operands
that meet them, clause by clause. -/

namespace Sys2Proof.Tests

open Sys2Proof Sys2Proof.Machine

/-- A command of tenancy 0 on queue 0 with CID 1. -/
def o0 : Origin := ⟨0, 0, 1, false, 0, 0, false⟩

/-- A state with registers over those of another. -/
def regs (l : List (Nat × Word)) (s : State) : State := l.foldl (fun s p => s.setReg p.1 p.2) s

/-- The state after reset in another mode, with registers given. -/
def inMode (m : Mode) (l : List (Nat × Word)) : State := regs l (State.reset.setF Reg.sysMode 2 0 (modeCode m))

/-- Service. -/
def svc (l : List (Nat × Word)) : State := inMode .service l

/-- Tenancy 0 owns objects. -/
def owns (l : List Nat) (s : State) : State := { s with spl := { s.spl with owners := l.foldl (fun t c => tabSet c 0 t) s.spl.owners } }

/-- A fid whose thread stands before an instruction: its system thread at 0x7FFC, the last word of its code, or its hook thread, of tenancy 3, at the start of its area. -/
def fidAt (f : Nat) (hook : Bool) (w : Word) (g : List (Nat × Nat)) : State :=
  let pc := if hook then hookArea 3 else 0x7FFC
  let t : Thread := ⟨pc, g, [], 0xFFFE⟩
  setFidWord f pc w.toNat (setFid f { fidInitial with sys := t, hook := t, run := if hook then some ⟨3, 0, none, 0, 0, 0, 0⟩ else none }
    ((svc []).setF (Reg.fidStatus f) 1 0 1))

/-- An instruction word by opcode, gA, gB and imm18 (R582). -/
def enc (op a b imm : Nat) : Word := wd (op * 0x4000000 + a * 0x400000 + b * 0x40000 + imm)

/-- A register of a zone that is not STOPPED, which the debug port may therefore read and write. -/
def opens (s : State) (a : Nat) : Bool := decide ((locate a).map (fun l => zoneStopped l s) = some false)

theorem opens_may (s : State) (a : Nat) (h : opens s a = true) : MayWrite .debug a s ∧ MayRead .debug a s := by
  have h1 : (locate a).map (fun l => zoneStopped l s) = some false := of_decide_eq_true h
  constructor <;> intro l hl <;> rw [hl] at h1 <;> exact ⟨fun t e => by simp at e, by simpa using h1⟩

/-! Each check of `wellFormed`: a term that fails it alone is refused, and the term at the end of its ranges is not (ranges of R2 to R8, R577, R610, R628, R661). -/

theorem test_ill_formed_refused_0 : ([.regWrite (.tenancy 4) 17592186044415 0 0,
   .regWrite (.dma 15) 0x100000000000 0 0,
   .stagedWrite (.tenancy 4) 4194303 0,
   .stagedWrite (.dma 15) 0x400000 0,
   .channelTrained 12 ⟨none, none, true, true, 0, 0, 0⟩,
   .tamperAlarm 16,
   .signalDetected 128,
   .clockLocked ⟨128, 0⟩,
   .adaptConverged 128 0 0,
   .adaptFail 128,
   .protoAligned 128 0,
   .syncFail 128,
   .los 128,
   .protoLost 128,
   .braidSkew 128,
   .txPllLocked 128,
   .bightChange 8,
   .openReq (.tenancy 4) 7 0,
   .openReq (.dma 15) 8 0,
   .inject (.tenancy 4) 127 0,
   .inject (.dma 15) 128 0,
   .strPrbsErrRead (.tenancy 4) 127 0 0,
   .strPrbsErrRead (.dma 15) 128 0 0,
   .start (.tenancy 4) 127 0] : List Instr).all (fun i => !i.wellFormed) = true := by decide

theorem test_ill_formed_refused_1 : ([.start (.dma 15) 128 0,
   .eyeDone 128 0,
   .hpd (.tenancy 4) 15 0,
   .hpd (.dma 15) 16 0,
   .irqHpdPulse (.tenancy 4) 15 0,
   .irqHpdPulse (.dma 15) 16 0,
   .auxTransaction 16 (.dpcdRead 0 0),
   .ddcTransaction 16 (.scdcRead 0),
   .hpdAssert 16,
   .hpdDeassert 16,
   .irqHpd 16,
   .edidReload (.tenancy 4) 15 0,
   .edidReload (.dma 15) 16 0,
   .edidReady 16 [],
   .trainDone 16 0 0,
   .trainFail 16,
   .strandConfig ⟨4, 0, 0, false, 0, 0, false⟩ ⟨0, 0, 0, 0, 0, true, true, true⟩,
   .strandConfigDone 128,
   .formatLocked 128 ⟨⟨0, 0, 0, 0, 0, 0, 0, 0, true, 0, 0, true, 0⟩, [], .none⟩,
   .formatChange 128,
   .formatUnknown 128,
   .ancOverflow 128 0,
   .ethFrameRx 128 ⟨true, 0, 0, []⟩,
   .mgmtRx 128 0 []] : List Instr).all (fun i => !i.wellFormed) = true := by decide

theorem test_ill_formed_refused_2 : ([.igmpQuery 128,
   .ptpMessageRx 128 (.delayResp 0 0),
   .frameSent 128,
   .hitch ⟨4, 0, 0, false, 0, 0, false⟩ 65535 65535,
   .hitch ⟨3, 63, 65535, true, 65535, 0, false⟩ 0x10000 65535,
   .hitch ⟨3, 63, 65535, true, 65535, 0, false⟩ 65535 0x10000,
   .unhitch ⟨4, 0, 0, false, 0, 0, false⟩ 65535,
   .unhitch ⟨3, 63, 65535, true, 65535, 0, false⟩ 0x10000,
   .armSplice ⟨4, 0, 0, false, 0, 0, false⟩ 65535 65535 255 255 true true true 18446744073709551615,
   .armSplice ⟨3, 63, 65535, true, 65535, 0, false⟩ 0x10000 65535 255 255 true true true 18446744073709551615,
   .armSplice ⟨3, 63, 65535, true, 65535, 0, false⟩ 65535 0x10000 255 255 true true true 18446744073709551615,
   .armSplice ⟨3, 63, 65535, true, 65535, 0, false⟩ 65535 65535 0x100 255 true true true 18446744073709551615,
   .armSplice ⟨3, 63, 65535, true, 65535, 0, false⟩ 65535 65535 255 0x100 true true true 18446744073709551615,
   .armSplice ⟨3, 63, 65535, true, 65535, 0, false⟩ 65535 65535 255 255 true true true 0x10000000000000000,
   .take ⟨4, 0, 0, false, 0, 0, false⟩ 255 65535,
   .take ⟨3, 63, 65535, true, 65535, 0, false⟩ 0x100 65535,
   .take ⟨3, 63, 65535, true, 65535, 0, false⟩ 255 0x10000,
   .cancelSplice ⟨4, 0, 0, false, 0, 0, false⟩ 255 65535,
   .cancelSplice ⟨3, 63, 65535, true, 65535, 0, false⟩ 0x100 65535,
   .cancelSplice ⟨3, 63, 65535, true, 65535, 0, false⟩ 255 0x10000,
   .arm (.tenancy 4) 0x807F 0,
   .arm (.dma 15) 0x8080 0,
   .cancel (.tenancy 4) 0x807F 0,
   .cancel (.dma 15) 0x8080 0] : List Instr).all (fun i => !i.wellFormed) = true := by decide

theorem test_ill_formed_refused_3 : ([.splTake (.tenancy 4) 0,
   .splCancel (.tenancy 4) 0,
   .lineStart 256 0 [],
   .lockStepEnd 256,
   .gapEnd 256,
   .ethBlockReturn 128,
   .batchTimeout 4 63,
   .batchTimeout 3 64,
   .batchOpen ⟨4, 0, 0, false, 0, 0, false⟩ 255,
   .batchOpen ⟨3, 63, 65535, true, 65535, 0, false⟩ 0x100,
   .batchClose ⟨4, 0, 0, false, 0, 0, false⟩ 255 18446744073709551615,
   .batchClose ⟨3, 63, 65535, true, 65535, 0, false⟩ 0x100 18446744073709551615,
   .batchClose ⟨3, 63, 65535, true, 65535, 0, false⟩ 255 0x10000000000000000,
   .sbdSet ⟨4, 0, 0, false, 0, 0, false⟩ 65535 4294967295 none,
   .sbdSet ⟨3, 63, 65535, true, 65535, 0, false⟩ 0x10000 4294967295 none,
   .sbdSet ⟨3, 63, 65535, true, 65535, 0, false⟩ 65535 0x100000000 none,
   .sbdTableLoad ⟨4, 0, 0, false, 0, 0, false⟩ 65535 255 65535 none,
   .sbdTableLoad ⟨3, 63, 65535, true, 65535, 0, false⟩ 0x10000 255 65535 none,
   .sbdTableLoad ⟨3, 63, 65535, true, 65535, 0, false⟩ 65535 0x100 65535 none,
   .sbdTableLoad ⟨3, 63, 65535, true, 65535, 0, false⟩ 65535 255 0x10000 none,
   .sbdTblLoad (.tenancy 4) 95 0,
   .sbdTblLoad (.dma 15) 96 0,
   .sbdTblData (.tenancy 4) 95 none,
   .sbdTblData (.dma 15) 96 none] : List Instr).all (fun i => !i.wellFormed) = true := by decide

theorem test_ill_formed_refused_4 : ([.compSet ⟨4, 0, 0, false, 0, 0, false⟩ 65535 4294967295 none,
   .compSet ⟨3, 63, 65535, true, 65535, 0, false⟩ 0x10000 4294967295 none,
   .compSet ⟨3, 63, 65535, true, 65535, 0, false⟩ 65535 0x100000000 none,
   .layerSet ⟨4, 0, 0, false, 0, 0, false⟩ 65535 4294967295 none,
   .layerSet ⟨3, 63, 65535, true, 65535, 0, false⟩ 0x10000 4294967295 none,
   .layerSet ⟨3, 63, 65535, true, 65535, 0, false⟩ 65535 0x100000000 none,
   .registerBuffer ⟨4, 0, 0, false, 0, 0, false⟩ 18446744073709551615 255 4294967295 4294967295 4294967295 255 255,
   .registerBuffer ⟨3, 63, 65535, true, 65535, 0, false⟩ 0x10000000000000000 255 4294967295 4294967295 4294967295 255 255,
   .registerBuffer ⟨3, 63, 65535, true, 65535, 0, false⟩ 18446744073709551615 0x100 4294967295 4294967295 4294967295 255 255,
   .registerBuffer ⟨3, 63, 65535, true, 65535, 0, false⟩ 18446744073709551615 255 0x100000000 4294967295 4294967295 255 255,
   .registerBuffer ⟨3, 63, 65535, true, 65535, 0, false⟩ 18446744073709551615 255 4294967295 0x100000000 4294967295 255 255,
   .registerBuffer ⟨3, 63, 65535, true, 65535, 0, false⟩ 18446744073709551615 255 4294967295 4294967295 0x100000000 255 255,
   .registerBuffer ⟨3, 63, 65535, true, 65535, 0, false⟩ 18446744073709551615 255 4294967295 4294967295 4294967295 0x100 255,
   .registerBuffer ⟨3, 63, 65535, true, 65535, 0, false⟩ 18446744073709551615 255 4294967295 4294967295 4294967295 255 0x100,
   .releaseBuffer ⟨4, 0, 0, false, 0, 0, false⟩ 65535,
   .releaseBuffer ⟨3, 63, 65535, true, 65535, 0, false⟩ 0x10000,
   .flip ⟨4, 0, 0, false, 0, 0, false⟩ 65535 65535 65535 0 18446744073709551615,
   .flip ⟨3, 63, 65535, true, 65535, 0, false⟩ 0x10000 65535 65535 0 18446744073709551615,
   .flip ⟨3, 63, 65535, true, 65535, 0, false⟩ 65535 0x10000 65535 0 18446744073709551615,
   .flip ⟨3, 63, 65535, true, 65535, 0, false⟩ 65535 65535 0x10000 0 18446744073709551615,
   .flip ⟨3, 63, 65535, true, 65535, 0, false⟩ 65535 65535 65535 0 0x10000000000000000,
   .cmpLFlip (.tenancy 4) 255 0,
   .cmpLFlip (.dma 15) 256 0,
   .compTableLoad ⟨4, 0, 0, false, 0, 0, false⟩ 65535 255 none] : List Instr).all (fun i => !i.wellFormed) = true := by decide

theorem test_ill_formed_refused_5 : ([.compTableLoad ⟨3, 63, 65535, true, 65535, 0, false⟩ 0x10000 255 none,
   .compTableLoad ⟨3, 63, 65535, true, 65535, 0, false⟩ 65535 0x100 none,
   .cmpTblData (.tenancy 4) 31 none,
   .cmpTblData (.dma 15) 32 none,
   .timingSet ⟨4, 0, 0, false, 0, 0, false⟩ 65535 4294967295 none,
   .timingSet ⟨3, 63, 65535, true, 65535, 0, false⟩ 0x10000 4294967295 none,
   .timingSet ⟨3, 63, 65535, true, 65535, 0, false⟩ 65535 0x100000000 none,
   .paceSet ⟨4, 0, 0, false, 0, 0, false⟩ 65535 4294967295 none,
   .paceSet ⟨3, 63, 65535, true, 65535, 0, false⟩ 0x10000 4294967295 none,
   .paceSet ⟨3, 63, 65535, true, 65535, 0, false⟩ 65535 0x100000000 none,
   .crcSet ⟨4, 0, 0, false, 0, 0, false⟩ 65535 4294967295 none,
   .crcSet ⟨3, 63, 65535, true, 65535, 0, false⟩ 0x10000 4294967295 none,
   .crcSet ⟨3, 63, 65535, true, 65535, 0, false⟩ 65535 0x100000000 none,
   .scnTableLoad (.tenancy 4) 255 0,
   .scnTableLoad (.dma 15) 256 0,
   .recorderSet ⟨4, 0, 0, false, 0, 0, false⟩ 65535 4294967295 none,
   .recorderSet ⟨3, 63, 65535, true, 65535, 0, false⟩ 0x10000 4294967295 none,
   .recorderSet ⟨3, 63, 65535, true, 65535, 0, false⟩ 65535 0x100000000 none,
   .playerSet ⟨4, 0, 0, false, 0, 0, false⟩ 65535 4294967295 none,
   .playerSet ⟨3, 63, 65535, true, 65535, 0, false⟩ 0x10000 4294967295 none,
   .playerSet ⟨3, 63, 65535, true, 65535, 0, false⟩ 65535 0x100000000 none,
   .playerCue ⟨4, 0, 0, false, 0, 0, false⟩ 65535 18446744073709551615,
   .playerCue ⟨3, 63, 65535, true, 65535, 0, false⟩ 0x10000 18446744073709551615,
   .playerCue ⟨3, 63, 65535, true, 65535, 0, false⟩ 65535 0x10000000000000000] : List Instr).all (fun i => !i.wellFormed) = true := by decide

theorem test_ill_formed_refused_6 : ([.evacuateChannel ⟨4, 0, 0, false, 0, 0, false⟩ 65535,
   .evacuateChannel ⟨3, 63, 65535, true, 65535, 0, false⟩ 0x10000,
   .channelPower ⟨4, 0, 0, false, 0, 0, false⟩ 65535 true,
   .channelPower ⟨3, 63, 65535, true, 65535, 0, false⟩ 0x10000 true,
   .rebalance ⟨4, 0, 0, false, 0, 0, false⟩ 65535,
   .rebalance ⟨3, 63, 65535, true, 65535, 0, false⟩ 0x10000,
   .powerOffSafe 12,
   .failed 12,
   .selfRefreshEntry 12,
   .selfRefreshExit 12 true,
   .bar2Access 4 (.read 0 0),
   .blockBoundary 192 [],
   .sampleInstant 192 0 true,
   .clkLost 192,
   .sapEnable (.tenancy 4) 15 true 0,
   .sapEnable (.dma 15) 16 true 0,
   .tapRecord 16 0 [],
   .aes3Block 8 (List.replicate 24 0) (List.replicate 24 0),
   .aes3Block 7 (List.replicate 23 0) (List.replicate 24 0),
   .aes3Block 7 (List.replicate 24 0) (List.replicate 23 0),
   .blockSyncLost 8,
   .parityErr ⟨8, true, 0⟩,
   .audioHitch ⟨4, 0, 0, false, 0, 0, false⟩ 65535 65535 255,
   .audioHitch ⟨3, 63, 65535, true, 65535, 0, false⟩ 0x10000 65535 255] : List Instr).all (fun i => !i.wellFormed) = true := by decide

theorem test_ill_formed_refused_7 : ([.audioHitch ⟨3, 63, 65535, true, 65535, 0, false⟩ 65535 0x10000 255,
   .audioHitch ⟨3, 63, 65535, true, 65535, 0, false⟩ 65535 65535 0x100,
   .audioUnhitch ⟨4, 0, 0, false, 0, 0, false⟩ 65535 255,
   .audioUnhitch ⟨3, 63, 65535, true, 65535, 0, false⟩ 0x10000 255,
   .audioUnhitch ⟨3, 63, 65535, true, 65535, 0, false⟩ 65535 0x100,
   .audioPortSet ⟨4, 0, 0, false, 0, 0, false⟩ 65535 255 255 255,
   .audioPortSet ⟨3, 63, 65535, true, 65535, 0, false⟩ 0x10000 255 255 255,
   .audioPortSet ⟨3, 63, 65535, true, 65535, 0, false⟩ 65535 0x100 255 255,
   .audioPortSet ⟨3, 63, 65535, true, 65535, 0, false⟩ 65535 255 0x100 255,
   .audioPortSet ⟨3, 63, 65535, true, 65535, 0, false⟩ 65535 255 255 0x100,
   .audioDomainSet ⟨4, 0, 0, false, 0, 0, false⟩ 255 255,
   .audioDomainSet ⟨3, 63, 65535, true, 65535, 0, false⟩ 0x100 255,
   .audioDomainSet ⟨3, 63, 65535, true, 65535, 0, false⟩ 255 0x100,
   .agroupSet ⟨4, 0, 0, false, 0, 0, false⟩ 255 255,
   .agroupSet ⟨3, 63, 65535, true, 65535, 0, false⟩ 0x100 255,
   .agroupSet ⟨3, 63, 65535, true, 65535, 0, false⟩ 255 0x100,
   .sapSet ⟨4, 0, 0, false, 0, 0, false⟩ 65535 4294967295 none,
   .sapSet ⟨3, 63, 65535, true, 65535, 0, false⟩ 0x10000 4294967295 none,
   .sapSet ⟨3, 63, 65535, true, 65535, 0, false⟩ 65535 0x100000000 none,
   .audioTapSet ⟨4, 0, 0, false, 0, 0, false⟩ 65535 0 18446744073709551615 4294967295,
   .audioTapSet ⟨3, 63, 65535, true, 65535, 0, false⟩ 0x10000 0 18446744073709551615 4294967295,
   .audioTapSet ⟨3, 63, 65535, true, 65535, 0, false⟩ 65535 0 0x10000000000000000 4294967295,
   .audioTapSet ⟨3, 63, 65535, true, 65535, 0, false⟩ 65535 0 18446744073709551615 0x100000000,
   .aesSet ⟨4, 0, 0, false, 0, 0, false⟩ 65535 0 none] : List Instr).all (fun i => !i.wellFormed) = true := by decide

theorem test_ill_formed_refused_8 : ([.aesSet ⟨3, 63, 65535, true, 65535, 0, false⟩ 0x10000 0 none,
   .srcSet ⟨4, 0, 0, false, 0, 0, false⟩ 65535 255 true 255,
   .srcSet ⟨3, 63, 65535, true, 65535, 0, false⟩ 0x10000 255 true 255,
   .srcSet ⟨3, 63, 65535, true, 65535, 0, false⟩ 65535 0x100 true 255,
   .srcSet ⟨3, 63, 65535, true, 65535, 0, false⟩ 65535 255 true 0x100,
   .refLost 8,
   .refReady 8,
   .holdoffExpiry 8,
   .todArm (.tenancy 4) 0,
   .calRun ⟨4, 0, 0, false, 0, 0, false⟩ 255 65535 true,
   .calRun ⟨3, 63, 65535, true, 65535, 0, false⟩ 0x100 65535 true,
   .calRun ⟨3, 63, 65535, true, 65535, 0, false⟩ 255 0x10000 true,
   .bgCalStart 4 0 true,
   .calDone 4 0 ⟨true, (0, 0), (0, 0), (0, 0), (0, 0)⟩,
   .calStore ⟨4, 0, 0, false, 0, 0, false⟩,
   .recordCommitted 256 7 [] [],
   .recordCommitted 255 8 [] [],
   .sectorErased 256 7,
   .sectorErased 255 8,
   .program (.tenancy 4) 0,
   .lock (.tenancy 4) 0,
   .recRead ⟨4, 0, 0, false, 0, 0, false⟩ 255 65535 4294967295 18446744073709551615 18446744073709551615,
   .recRead ⟨3, 63, 65535, true, 65535, 0, false⟩ 0x100 65535 4294967295 18446744073709551615 18446744073709551615,
   .recRead ⟨3, 63, 65535, true, 65535, 0, false⟩ 255 0x10000 4294967295 18446744073709551615 18446744073709551615] : List Instr).all (fun i => !i.wellFormed) = true := by decide

theorem test_ill_formed_refused_9 : ([.recRead ⟨3, 63, 65535, true, 65535, 0, false⟩ 255 65535 0x100000000 18446744073709551615 18446744073709551615,
   .recRead ⟨3, 63, 65535, true, 65535, 0, false⟩ 255 65535 4294967295 0x10000000000000000 18446744073709551615,
   .recRead ⟨3, 63, 65535, true, 65535, 0, false⟩ 255 65535 4294967295 18446744073709551615 0x10000000000000000,
   .keyWrite ⟨4, 0, 0, false, 0, 0, false⟩ 65535 4294967295 65535 none,
   .keyWrite ⟨3, 63, 65535, true, 65535, 0, false⟩ 0x10000 4294967295 65535 none,
   .keyWrite ⟨3, 63, 65535, true, 65535, 0, false⟩ 65535 0x100000000 65535 none,
   .keyWrite ⟨3, 63, 65535, true, 65535, 0, false⟩ 65535 4294967295 0x10000 none,
   .keyZero ⟨4, 0, 0, false, 0, 0, false⟩ 65535,
   .keyZero ⟨3, 63, 65535, true, 65535, 0, false⟩ 0x10000,
   .keyDerive ⟨4, 0, 0, false, 0, 0, false⟩ 65535 18446744073709551615 4294967295 18446744073709551615 none,
   .keyDerive ⟨3, 63, 65535, true, 65535, 0, false⟩ 0x10000 18446744073709551615 4294967295 18446744073709551615 none,
   .keyDerive ⟨3, 63, 65535, true, 65535, 0, false⟩ 65535 0x10000000000000000 4294967295 18446744073709551615 none,
   .keyDerive ⟨3, 63, 65535, true, 65535, 0, false⟩ 65535 18446744073709551615 0x100000000 18446744073709551615 none,
   .keyDerive ⟨3, 63, 65535, true, 65535, 0, false⟩ 65535 18446744073709551615 4294967295 0x10000000000000000 none,
   .keyStore ⟨4, 0, 0, false, 0, 0, false⟩ 65535,
   .keyStore ⟨3, 63, 65535, true, 65535, 0, false⟩ 0x10000,
   .attest ⟨4, 0, 0, false, 0, 0, false⟩ 65535 18446744073709551615 (List.replicate 32 0),
   .attest ⟨3, 63, 65535, true, 65535, 0, false⟩ 0x10000 18446744073709551615 (List.replicate 32 0),
   .attest ⟨3, 63, 65535, true, 65535, 0, false⟩ 65535 0x10000000000000000 (List.replicate 32 0),
   .attest ⟨3, 63, 65535, true, 65535, 0, false⟩ 65535 18446744073709551615 (List.replicate 31 0),
   .rigWriteSlot ⟨4, 0, 0, false, 0, 0, false⟩ 65535 18446744073709551615 4294967295 ⟨none, none⟩,
   .rigWriteSlot ⟨3, 63, 65535, true, 65535, 0, false⟩ 0x10000 18446744073709551615 4294967295 ⟨none, none⟩,
   .rigWriteSlot ⟨3, 63, 65535, true, 65535, 0, false⟩ 65535 0x10000000000000000 4294967295 ⟨none, none⟩,
   .rigWriteSlot ⟨3, 63, 65535, true, 65535, 0, false⟩ 65535 18446744073709551615 0x100000000 ⟨none, none⟩] : List Instr).all (fun i => !i.wellFormed) = true := by decide

theorem test_ill_formed_refused_10 : ([.rigWriteSlotDone 3,
   .rigVerifySlot ⟨4, 0, 0, false, 0, 0, false⟩ 65535,
   .rigVerifySlot ⟨3, 63, 65535, true, 65535, 0, false⟩ 0x10000,
   .rigVerifySlotDone 3,
   .rigSelectSlot ⟨4, 0, 0, false, 0, 0, false⟩ 65535 true,
   .rigSelectSlot ⟨3, 63, 65535, true, 65535, 0, false⟩ 0x10000 true,
   .rigConfirm ⟨4, 0, 0, false, 0, 0, false⟩,
   .rigRezone ⟨4, 0, 0, false, 0, 0, false⟩ 65535 4294967295,
   .rigRezone ⟨3, 63, 65535, true, 65535, 0, false⟩ 0x10000 4294967295,
   .rigRezone ⟨3, 63, 65535, true, 65535, 0, false⟩ 65535 0x100000000,
   .nop ⟨4, 0, 0, false, 0, 0, false⟩,
   .fenceSignal ⟨4, 0, 0, false, 0, 0, false⟩ 65535 0,
   .fenceSignal ⟨3, 63, 65535, true, 65535, 0, false⟩ 0x10000 0,
   .dmaCopy ⟨4, 0, 0, false, 0, 0, false⟩ ⟨0, 0, 0, 0, 0, 0, 0⟩,
   .dmaDone 16 ⟨0, true, []⟩,
   .modeRequest ⟨4, 0, 0, false, 0, 0, false⟩ 255 18446744073709551615,
   .modeRequest ⟨3, 63, 65535, true, 65535, 0, false⟩ 0x100 18446744073709551615,
   .modeRequest ⟨3, 63, 65535, true, 65535, 0, false⟩ 255 0x10000000000000000,
   .tenancyAdrift ⟨4, 0, 0, false, 0, 0, false⟩ 18446744073709551615,
   .tenancyAdrift ⟨3, 63, 65535, true, 65535, 0, false⟩ 0x10000000000000000,
   .flowSet ⟨4, 0, 0, false, 0, 0, false⟩ none,
   .ethSendFrame ⟨4, 0, 0, false, 0, 0, false⟩ 65535 4294967295 none,
   .ethSendFrame ⟨3, 63, 65535, true, 65535, 0, false⟩ 0x10000 4294967295 none,
   .ethSendFrame ⟨3, 63, 65535, true, 65535, 0, false⟩ 65535 0x100000000 none] : List Instr).all (fun i => !i.wellFormed) = true := by decide

theorem test_ill_formed_refused_11 : ([.macsecSaSet ⟨4, 0, 0, false, 0, 0, false⟩ 65535 true 255 255 65535 0 0 79228162514264337593543950335,
   .macsecSaSet ⟨3, 63, 65535, true, 65535, 0, false⟩ 0x10000 true 255 255 65535 0 0 79228162514264337593543950335,
   .macsecSaSet ⟨3, 63, 65535, true, 65535, 0, false⟩ 65535 true 0x100 255 65535 0 0 79228162514264337593543950335,
   .macsecSaSet ⟨3, 63, 65535, true, 65535, 0, false⟩ 65535 true 255 0x100 65535 0 0 79228162514264337593543950335,
   .macsecSaSet ⟨3, 63, 65535, true, 65535, 0, false⟩ 65535 true 255 255 0x10000 0 0 79228162514264337593543950335,
   .macsecSaSet ⟨3, 63, 65535, true, 65535, 0, false⟩ 65535 true 255 255 65535 0 0 0x1000000000000000000000000,
   .hookLoad ⟨4, 0, 0, false, 0, 0, false⟩ 65535 4294967295 none,
   .hookLoad ⟨3, 63, 65535, true, 65535, 0, false⟩ 0x10000 4294967295 none,
   .hookLoad ⟨3, 63, 65535, true, 65535, 0, false⟩ 65535 0x100000000 none,
   .hookSet ⟨4, 0, 0, false, 0, 0, false⟩ 65535 true 4294967295 0,
   .hookSet ⟨3, 63, 65535, true, 65535, 0, false⟩ 0x10000 true 4294967295 0,
   .hookSet ⟨3, 63, 65535, true, 65535, 0, false⟩ 65535 true 0x100000000 0,
   .fidUpdate ⟨4, 0, 0, false, 0, 0, false⟩ 65535 4294967295 none,
   .fidUpdate ⟨3, 63, 65535, true, 65535, 0, false⟩ 0x10000 4294967295 none,
   .fidUpdate ⟨3, 63, 65535, true, 65535, 0, false⟩ 65535 0x100000000 none,
   .fidUpdated 44,
   .fidUpdateTimeout 44,
   .fidRestart ⟨4, 0, 0, false, 0, 0, false⟩ 65535,
   .fidRestart ⟨3, 63, 65535, true, 65535, 0, false⟩ 0x10000,
   .hookTimeout 44,
   .hookSkipped 44 0 3,
   .hookSkipped 43 0 4,
   .alu 41 true,
   .addi 41 true] : List Instr).all (fun i => !i.wellFormed) = true := by decide

theorem test_ill_formed_refused_12 : ([.andi 41 true,
   .ori 41 true,
   .xori 41 true,
   .shi 41 true,
   .lui 41 true,
   .slti 41 true,
   .ld 41 true,
   .st 41 true,
   .rgr 41 true,
   .rgw 41 true,
   .shw 41 true,
   .cmt 41 true,
   .xld 41 true,
   .xst 41 true,
   .beq 41 true,
   .bne 41 true,
   .blt 41 true,
   .bge 41 true,
   .bltu 41 true,
   .bgeu 41 true,
   .jal 41 true,
   .jr 41 true,
   .time 41 true,
   .wait 41 true] : List Instr).all (fun i => !i.wellFormed) = true := by decide

theorem test_ill_formed_refused_13 : ([.evt 41 true,
   .csrr 41 true,
   .csrw 41 true,
   .done 41 true,
   .brk 41 true,
   .remap (.tenancy 4) 0,
   .sysCtrlLock (.tenancy 4) 0,
   .sqTail 4 63 0,
   .sqTail 3 64 0,
   .cqHead 4 63 0,
   .cqHead 3 64 0,
   .evqHead 4 0,
   .commandFetch 4 63 [⟨List.replicate 64 0, none, none⟩] true,
   .commandFetch 3 64 [⟨List.replicate 64 0, none, none⟩] true,
   .commandFetch 3 63 [⟨[], none, none⟩] true,
   .msixMessage 4 64,
   .msixMessage 3 65,
   .tenLanyard (.tenancy 4) 3 0,
   .tenLanyard (.dma 15) 4 0,
   .tenLanyardCfg (.tenancy 4) 3 0,
   .tenLanyardCfg (.dma 15) 4 0,
   .lanyardLapse 4,
   .tenFenceLo (.tenancy 4) 3 255 0,
   .tenFenceLo (.dma 15) 4 255 0] : List Instr).all (fun i => !i.wellFormed) = true := by decide

theorem test_ill_formed_refused_14 : ([.tenFenceLo (.dma 15) 3 256 0,
   .tenFenceHi (.tenancy 4) 3 255 0,
   .tenFenceHi (.dma 15) 4 255 0,
   .tenFenceHi (.dma 15) 3 256 0,
   .functionReset 4 0 [],
   .busMasterEnable 4,
   .ecrcError 4,
   .lockedRead 4,
   .mgmtModeRequest true 0x100,
   .mgmtRecRead true 0x100 65535 65535 255,
   .mgmtRecRead true 255 0x10000 65535 255,
   .mgmtRecRead true 255 65535 0x10000 255,
   .mgmtRecRead true 255 65535 65535 0x100,
   .attestChallenge true (List.replicate 31 0),
   .hostWake 4,
   .idleHoldExpiry 256,
   .regRead (.tenancy 4) 17592186044415 0,
   .regRead (.dma 15) 0x100000000000 0,
   .channelFilled 12,
   .delayReq 128,
   .nop ⟨0, 64, 0, false, 0, 0, false⟩,
   .nop ⟨0, 0, 65536, false, 0, 0, false⟩,
   .nop ⟨0, 0, 0, false, 65536, 0, false⟩,
   .regWrite (.fid 44) 0 4 0] : List Instr).all (fun i => !i.wellFormed) = true := by decide

theorem test_ill_formed_refused_15 : ([.regWrite (.dma 16) 0 4 0,
   .ld 44 false,
   .ld 0 true] : List Instr).all (fun i => !i.wellFormed) = true := by decide

theorem test_well_formed_at_the_ends_0 : ([.regWrite (.dma 15) 17592186044415 0 0,
   .stagedWrite (.dma 15) 4194303 0,
   .channelTrained 11 ⟨none, none, true, true, 0, 0, 0⟩,
   .tamperAlarm 15,
   .signalDetected 127,
   .clockLocked ⟨127, 0⟩,
   .adaptConverged 127 0 0,
   .adaptFail 127,
   .protoAligned 127 0,
   .syncFail 127,
   .los 127,
   .protoLost 127,
   .braidSkew 127,
   .txPllLocked 127,
   .bightChange 7,
   .openReq (.dma 15) 7 0,
   .inject (.dma 15) 127 0,
   .strPrbsErrRead (.dma 15) 127 0 0,
   .start (.dma 15) 127 0,
   .eyeDone 127 0,
   .hpd (.dma 15) 15 0,
   .irqHpdPulse (.dma 15) 15 0,
   .auxTransaction 15 (.dpcdRead 0 0),
   .ddcTransaction 15 (.scdcRead 0)] : List Instr).all (Instr.wellFormed) = true := by decide

theorem test_well_formed_at_the_ends_1 : ([.hpdAssert 15,
   .hpdDeassert 15,
   .irqHpd 15,
   .edidReload (.dma 15) 15 0,
   .edidReady 15 [],
   .trainDone 15 0 0,
   .trainFail 15,
   .strandConfig ⟨3, 63, 65535, true, 65535, 0, false⟩ ⟨0, 0, 0, 0, 0, true, true, true⟩,
   .strandConfigDone 127,
   .formatLocked 127 ⟨⟨0, 0, 0, 0, 0, 0, 0, 0, true, 0, 0, true, 0⟩, [], .none⟩,
   .formatChange 127,
   .formatUnknown 127,
   .ancOverflow 127 0,
   .ethFrameRx 127 ⟨true, 0, 0, []⟩,
   .mgmtRx 127 0 [],
   .igmpQuery 127,
   .ptpMessageRx 127 (.delayResp 0 0),
   .frameSent 127,
   .hitch ⟨3, 63, 65535, true, 65535, 0, false⟩ 65535 65535,
   .unhitch ⟨3, 63, 65535, true, 65535, 0, false⟩ 65535,
   .armSplice ⟨3, 63, 65535, true, 65535, 0, false⟩ 65535 65535 255 255 true true true 18446744073709551615,
   .take ⟨3, 63, 65535, true, 65535, 0, false⟩ 255 65535,
   .cancelSplice ⟨3, 63, 65535, true, 65535, 0, false⟩ 255 65535,
   .arm (.dma 15) 0x807F 0] : List Instr).all (Instr.wellFormed) = true := by decide

theorem test_well_formed_at_the_ends_2 : ([.cancel (.dma 15) 0x807F 0,
   .splTake (.dma 15) 0,
   .splCancel (.dma 15) 0,
   .lineStart 255 0 [],
   .lockStepEnd 255,
   .gapEnd 255,
   .ethBlockReturn 127,
   .batchTimeout 3 63,
   .batchOpen ⟨3, 63, 65535, true, 65535, 0, false⟩ 255,
   .batchClose ⟨3, 63, 65535, true, 65535, 0, false⟩ 255 18446744073709551615,
   .sbdSet ⟨3, 63, 65535, true, 65535, 0, false⟩ 65535 4294967295 none,
   .sbdTableLoad ⟨3, 63, 65535, true, 65535, 0, false⟩ 65535 255 65535 none,
   .sbdTblLoad (.dma 15) 95 0,
   .sbdTblData (.dma 15) 95 none,
   .compSet ⟨3, 63, 65535, true, 65535, 0, false⟩ 65535 4294967295 none,
   .layerSet ⟨3, 63, 65535, true, 65535, 0, false⟩ 65535 4294967295 none,
   .registerBuffer ⟨3, 63, 65535, true, 65535, 0, false⟩ 18446744073709551615 255 4294967295 4294967295 4294967295 255 255,
   .releaseBuffer ⟨3, 63, 65535, true, 65535, 0, false⟩ 65535,
   .flip ⟨3, 63, 65535, true, 65535, 0, false⟩ 65535 65535 65535 0 18446744073709551615,
   .cmpLFlip (.dma 15) 255 0,
   .compTableLoad ⟨3, 63, 65535, true, 65535, 0, false⟩ 65535 255 none,
   .cmpTblData (.dma 15) 31 none,
   .timingSet ⟨3, 63, 65535, true, 65535, 0, false⟩ 65535 4294967295 none,
   .paceSet ⟨3, 63, 65535, true, 65535, 0, false⟩ 65535 4294967295 none] : List Instr).all (Instr.wellFormed) = true := by decide

theorem test_well_formed_at_the_ends_3 : ([.crcSet ⟨3, 63, 65535, true, 65535, 0, false⟩ 65535 4294967295 none,
   .scnTableLoad (.dma 15) 255 0,
   .recorderSet ⟨3, 63, 65535, true, 65535, 0, false⟩ 65535 4294967295 none,
   .playerSet ⟨3, 63, 65535, true, 65535, 0, false⟩ 65535 4294967295 none,
   .playerCue ⟨3, 63, 65535, true, 65535, 0, false⟩ 65535 18446744073709551615,
   .evacuateChannel ⟨3, 63, 65535, true, 65535, 0, false⟩ 65535,
   .channelPower ⟨3, 63, 65535, true, 65535, 0, false⟩ 65535 true,
   .rebalance ⟨3, 63, 65535, true, 65535, 0, false⟩ 65535,
   .powerOffSafe 11,
   .failed 11,
   .selfRefreshEntry 11,
   .selfRefreshExit 11 true,
   .bar2Access 3 (.read 0 0),
   .blockBoundary 191 [],
   .sampleInstant 191 0 true,
   .clkLost 191,
   .sapEnable (.dma 15) 15 true 0,
   .tapRecord 15 0 [],
   .aes3Block 7 (List.replicate 24 0) (List.replicate 24 0),
   .blockSyncLost 7,
   .parityErr ⟨7, true, 0⟩,
   .audioHitch ⟨3, 63, 65535, true, 65535, 0, false⟩ 65535 65535 255,
   .audioUnhitch ⟨3, 63, 65535, true, 65535, 0, false⟩ 65535 255,
   .audioPortSet ⟨3, 63, 65535, true, 65535, 0, false⟩ 65535 255 255 255] : List Instr).all (Instr.wellFormed) = true := by decide

theorem test_well_formed_at_the_ends_4 : ([.audioDomainSet ⟨3, 63, 65535, true, 65535, 0, false⟩ 255 255,
   .agroupSet ⟨3, 63, 65535, true, 65535, 0, false⟩ 255 255,
   .sapSet ⟨3, 63, 65535, true, 65535, 0, false⟩ 65535 4294967295 none,
   .audioTapSet ⟨3, 63, 65535, true, 65535, 0, false⟩ 65535 0 18446744073709551615 4294967295,
   .aesSet ⟨3, 63, 65535, true, 65535, 0, false⟩ 65535 0 none,
   .srcSet ⟨3, 63, 65535, true, 65535, 0, false⟩ 65535 255 true 255,
   .refLost 7,
   .refReady 7,
   .holdoffExpiry 7,
   .todArm (.dma 15) 0,
   .calRun ⟨3, 63, 65535, true, 65535, 0, false⟩ 255 65535 true,
   .bgCalStart 3 0 true,
   .calDone 3 0 ⟨true, (0, 0), (0, 0), (0, 0), (0, 0)⟩,
   .calStore ⟨3, 63, 65535, true, 65535, 0, false⟩,
   .recordCommitted 255 7 [] [],
   .sectorErased 255 7,
   .program (.dma 15) 0,
   .lock (.dma 15) 0,
   .recRead ⟨3, 63, 65535, true, 65535, 0, false⟩ 255 65535 4294967295 18446744073709551615 18446744073709551615,
   .keyWrite ⟨3, 63, 65535, true, 65535, 0, false⟩ 65535 4294967295 65535 none,
   .keyZero ⟨3, 63, 65535, true, 65535, 0, false⟩ 65535,
   .keyDerive ⟨3, 63, 65535, true, 65535, 0, false⟩ 65535 18446744073709551615 4294967295 18446744073709551615 none,
   .keyStore ⟨3, 63, 65535, true, 65535, 0, false⟩ 65535,
   .attest ⟨3, 63, 65535, true, 65535, 0, false⟩ 65535 18446744073709551615 (List.replicate 32 0)] : List Instr).all (Instr.wellFormed) = true := by decide

theorem test_well_formed_at_the_ends_5 : ([.rigWriteSlot ⟨3, 63, 65535, true, 65535, 0, false⟩ 65535 18446744073709551615 4294967295 ⟨none, none⟩,
   .rigWriteSlotDone 2,
   .rigVerifySlot ⟨3, 63, 65535, true, 65535, 0, false⟩ 65535,
   .rigVerifySlotDone 2,
   .rigSelectSlot ⟨3, 63, 65535, true, 65535, 0, false⟩ 65535 true,
   .rigConfirm ⟨3, 63, 65535, true, 65535, 0, false⟩,
   .rigRezone ⟨3, 63, 65535, true, 65535, 0, false⟩ 65535 4294967295,
   .nop ⟨3, 63, 65535, true, 65535, 0, false⟩,
   .fenceSignal ⟨3, 63, 65535, true, 65535, 0, false⟩ 65535 0,
   .dmaCopy ⟨3, 63, 65535, true, 65535, 0, false⟩ ⟨0, 0, 0, 0, 0, 0, 0⟩,
   .dmaDone 15 ⟨0, true, []⟩,
   .modeRequest ⟨3, 63, 65535, true, 65535, 0, false⟩ 255 18446744073709551615,
   .tenancyAdrift ⟨3, 63, 65535, true, 65535, 0, false⟩ 18446744073709551615,
   .flowSet ⟨3, 63, 65535, true, 65535, 0, false⟩ none,
   .ethSendFrame ⟨3, 63, 65535, true, 65535, 0, false⟩ 65535 4294967295 none,
   .macsecSaSet ⟨3, 63, 65535, true, 65535, 0, false⟩ 65535 true 255 255 65535 0 0 79228162514264337593543950335,
   .hookLoad ⟨3, 63, 65535, true, 65535, 0, false⟩ 65535 4294967295 none,
   .hookSet ⟨3, 63, 65535, true, 65535, 0, false⟩ 65535 true 4294967295 0,
   .fidUpdate ⟨3, 63, 65535, true, 65535, 0, false⟩ 65535 4294967295 none,
   .fidUpdated 43,
   .fidUpdateTimeout 43,
   .fidRestart ⟨3, 63, 65535, true, 65535, 0, false⟩ 65535,
   .hookTimeout 43,
   .hookSkipped 43 0 3] : List Instr).all (Instr.wellFormed) = true := by decide

theorem test_well_formed_at_the_ends_6 : ([.alu 40 true,
   .addi 40 true,
   .andi 40 true,
   .ori 40 true,
   .xori 40 true,
   .shi 40 true,
   .lui 40 true,
   .slti 40 true,
   .ld 40 true,
   .st 40 true,
   .rgr 40 true,
   .rgw 40 true,
   .shw 40 true,
   .cmt 40 true,
   .xld 40 true,
   .xst 40 true,
   .beq 40 true,
   .bne 40 true,
   .blt 40 true,
   .bge 40 true,
   .bltu 40 true,
   .bgeu 40 true,
   .jal 40 true,
   .jr 40 true] : List Instr).all (Instr.wellFormed) = true := by decide

theorem test_well_formed_at_the_ends_7 : ([.time 40 true,
   .wait 40 true,
   .evt 40 true,
   .csrr 40 true,
   .csrw 40 true,
   .done 40 true,
   .brk 40 true,
   .remap (.dma 15) 0,
   .sysCtrlLock (.dma 15) 0,
   .sqTail 3 63 0,
   .cqHead 3 63 0,
   .evqHead 3 0,
   .commandFetch 3 63 [⟨List.replicate 64 0, none, none⟩] true,
   .msixMessage 3 64,
   .tenLanyard (.dma 15) 3 0,
   .tenLanyardCfg (.dma 15) 3 0,
   .lanyardLapse 3,
   .tenFenceLo (.dma 15) 3 255 0,
   .tenFenceHi (.dma 15) 3 255 0,
   .functionReset 3 0 [],
   .busMasterEnable 3,
   .ecrcError 3,
   .lockedRead 3,
   .mgmtModeRequest true 255] : List Instr).all (Instr.wellFormed) = true := by decide

theorem test_well_formed_at_the_ends_8 : ([.mgmtRecRead true 255 65535 65535 255,
   .attestChallenge true (List.replicate 32 0),
   .hostWake 3,
   .idleHoldExpiry 255,
   .regRead (.dma 15) 17592186044415 0,
   .channelFilled 11,
   .delayReq 127] : List Instr).all (Instr.wellFormed) = true := by decide

/-! The ball map -/

/-- The row of R775's table that counts a ball. -/
def groupOf : Ball → Nat
  | .strand .. => 0
  | .sideband .. => 1
  | .pcieLane .. | .pcieRefclk _ | .perstN _ => 2
  | .channel .. => 3
  | .audio _ => 4
  | .corner _ => 5
  | .vddCoreSense | .vssCoreSense => 6
  | .vddCore => 7
  | .vddSram => 8
  | .vddSda => 9
  | .vddSdh => 10
  | .vddqDdr => 11
  | .vddAon | .vddIo | .vddFlash => 12
  | .vss => 13

/-- R775 counts 512 strand balls, 48 sideband, 70 PCIe, 1,788 frame store, 112 audio, 25 corner, 2 sense, 519 VDD_CORE, 52 VDD_SRAM, 148 VDD_SDA, 74 VDD_SDH,
324 VDDQ_DDR, 16 of the other supplies and 1,786 VSS: four decimal digits each, the first lowest. -/
theorem test_ball_counts : (List.range 74).foldl (fun a r => (List.range 74).foldl (fun a c => a + 10000 ^ groupOf (ballAt (r + 1) (c + 1))) a) 0 =
    17860016032400740148005205190002002501121788007000480512 := by decide +kernel

/-- The examples of R768, R770 and R772: CV is row 74; S84 takes CT22, CT23, CP22 and CP23; M0_DQA3 is at L5. -/
theorem test_ball_examples : ballName 74 74 = "CV74" ∧ ballAt 72 22 = .strand 84 false false ∧ ballName 72 22 = "CT22" ∧ ballAt 71 23 = .strand 84 true true ∧
    ballName 71 23 = "CP23" ∧ ballAt 11 5 = .channel 0 3 ∧ ballName 11 5 = "L5" := by decide +kernel
/-! The encoding of R582, by the words the spec works out: opcode, gA, gB and immediate. -/

theorem test_encoding_worked_words :
    [(0x58000002, 0x16, 0, 0, 2), (0x20840008, 0x08, 2, 1, 8), (0x04C40010, 0x01, 3, 1, 16), (0x4080000C, 0x10, 2, 0, 12), (0x048BFFFF, 0x01, 2, 2, 0x3FFFF),
     (0x74000000, 0x1D, 0, 0, 0)].all (fun p => decide (opOf (wd p.1) = p.2.1 ∧ aOf (wd p.1) = p.2.2.1 ∧ bOf (wd p.1) = p.2.2.2.1 ∧ imm18Of (wd p.1) = p.2.2.2.2)) = true := by
  decide

/-! Witnesses -/

theorem witness_machine : State.reset.canonical = true ∧ (svc [(Reg.tmbSlew, 5)]).canonical = true ∧ State.reset.pending = [] ∧
    (∃ t, exec .lockBreak State.reset = .next t) ∧ ∃ t, step (State.reset.withPending [.lockBreak]) = .next t := by
  refine ⟨by decide, by decide, rfl, ⟨_, rfl⟩, ⟨_, rfl⟩⟩

theorem witness_FidImmediate : ∀ op ∈ [0x01, 0x02, 0x03, 0x04, 0x06, 0x07], (Issues (fidAt 43 false (enc op 15 1 0x3FFFF) []) 43 false (enc op 15 1 0x3FFFF) ∧
    Issues (fidAt 40 true (enc op 0 0 0x20000) []) 40 true (enc op 0 0 0x20000)) ∧ fld (enc op 15 1 0x3FFFF) 31 26 = op := by
  unfold Issues; decide

theorem witness_FidAluAndShift : (∀ fn < 15, Issues (fidAt 1 false (enc 0 1 2 (0xC000 + fn)) [(2, 5), (3, 31)]) 1 false (enc 0 1 2 (0xC000 + fn)) ∧
      fld (enc 0 1 2 (0xC000 + fn)) 31 26 = 0 ∧ fld (enc 0 1 2 (0xC000 + fn)) 13 0 = fn) ∧
    ∀ k < 3, Issues (fidAt 1 false (enc 5 1 2 (0x10000 * k + 31)) []) 1 false (enc 5 1 2 (0x10000 * k + 31)) ∧ fld (enc 5 1 2 (0x10000 * k + 31)) 31 26 = 5 ∧
      fld (enc 5 1 2 (0x10000 * k + 31)) 17 16 = k := by
  unfold Issues; decide

theorem witness_FidBranches : ∀ op ∈ [0x10, 0x11, 0x12, 0x13, 0x14, 0x15], Issues (fidAt 0 false (enc op 1 2 0x3FFFF) [(1, 7)]) 0 false (enc op 1 2 0x3FFFF) ∧
    fld (enc op 1 2 0x3FFFF) 31 26 = op ∧ ((0x7FF8 : Nat) : Int) = ((((fidAt 0 false (enc op 1 2 0x3FFFF) [(1, 7)]).thread 0 false).pc : Nat) : Int) + 4 * (0x3FFFF - 0x40000) ∧
    (fidAt 0 false (enc op 1 2 0x3FFFF) [(1, 7)]).mayFetch 0 false 0x7FF8 = true := by
  unfold Issues; decide

theorem witness_FidJumps : (Issues (fidAt 0 false 0x583FFFF5 []) 0 false 0x583FFFF5 ∧ fld (0x583FFFF5 : Word) 31 26 = 0x16 ∧
      ((0x7FD0 : Nat) : Int) = 0x7FFC + 4 * ((fld (0x583FFFF5 : Word) 21 0 : Int) - 0x400000) ∧ (fidAt 0 false 0x583FFFF5 []).mayFetch 0 false 0x7FD0 = true) ∧
    Issues (fidAt 40 true (enc 0x17 1 2 0) [(2, 0xFFFC)]) 40 true (enc 0x17 1 2 0) ∧ fld (enc 0x17 1 2 0) 31 26 = 0x17 ∧
      (fidAt 40 true (enc 0x17 1 2 0) [(2, 0xF7FC)]).mayFetch 40 true 0xF7FC = true := by
  unfold Issues; decide

theorem witness_FidLoadStore : ∀ op ∈ [0x08, 0x09], Issues (fidAt 5 false (enc op 1 2 0x3FFFC) [(2, 0x10000)]) 5 false (enc op 1 2 0x3FFFC) ∧ fld (enc op 1 2 0x3FFFC) 31 26 = op ∧
    (fidAt 5 false (enc op 1 2 0x3FFFC) [(2, 0x10000)]).mayData 5 false 0xFFFC = true ∧
    Issues (fidAt 5 true (enc op 1 2 0) [(2, 0xF800)]) 5 true (enc op 1 2 0) ∧ (fidAt 5 true (enc op 1 2 0) [(2, 0xF800)]).mayData 5 true 0xF800 = true := by
  unfold Issues; decide

theorem witness_FidTraps : (∀ op ∈ [0x08, 0x09, 0x0A, 0x0B, 0x0C, 0x17, 0x1E, 0x1F, 0x3F],
      let s := fidAt 1 false (enc op 1 2 1) [(2, 0x400000)]
      Issues s 1 false (enc op 1 2 1) ∧ s.spl.sets = [] ∧ fld (enc op 1 2 1) 31 26 = op ∧ 0x400001 % 4 ≠ 0 ∧ ((s.thread 1 false).g 2 + 1).toNat = 0x400001) ∧
    ∀ op ∈ [0x08, 0x0E, 0x0F, 0x19, 0x1E, 0x3F],
      let s := fidAt 40 true (enc op 1 2 0) [(2, 0xF7FC)]
      Issues s 40 true (enc op 1 2 0) ∧ (s.fidOf 40).run = some ⟨3, 0, none, 0, 0, 0, 0⟩ ∧ (s.fidOf 40).queue = [] ∧ s.mayData 40 true (s.effAddr 40 true (enc op 1 2 0)) = false := by
  unfold Issues; decide

theorem witness_FidShadowBuffer :
    (let s := fidAt 1 false (enc 0x0C 1 2 0x3FFFC) [(2, 0x400000)]
     Issues s 1 false (enc 0x0C 1 2 0x3FFFC) ∧ offsetOk (s.effAddr 1 false (enc 0x0C 1 2 0x3FFFC)) = true ∧ (s.thread 1 false).wbuf.length < 64) ∧
    (let s := fidAt 1 true (enc 0x0D 1 0 0) []
     Issues s 1 true (enc 0x0D 1 0 0) ∧ s.spliceRun 1 = true) ∧
    (let s := setThread 1 false ⟨0x7FFC, [], [(0x18C000, 1)], 5⟩ (fidAt 1 false (enc 0x0D 1 0 0) [])
     let c : ChangeSet := ⟨1, .splice, 0, 0, 5, 0, 0, false, .decided, [], [], [], [], 0, 0, [], false, false, 0, false, [], []⟩
     Issues s 1 false (enc 0x0D 1 0 0) ∧ (s.thread 1 false).set ≠ 0xFFFE ∧ s.spl.sets = [] ∧
       Issues { s with spl := { s.spl with sets := [c] } } 1 false (enc 0x0D 1 0 0) ∧ c.leader = 5 ∧ c.kind ≠ .staged ∧ c.phase = .decided) ∧
    (let s := fidAt 1 false (enc 0x0D 1 0 0) []
     Issues s 1 false (enc 0x0D 1 0 0) ∧ (s.thread 1 false).set = 0xFFFE ∧ (s.thread 1 false).wbuf = []) := by
  unfold Issues; decide

theorem witness_FidRegisterAccess :
    (let s := fidAt 1 true (enc 0x0A 1 2 0) [(2, 0x3FFFFC)]
     Issues s 1 true (enc 0x0A 1 2 0) ∧ offsetOk (s.effAddr 1 true (enc 0x0A 1 2 0)) = true) ∧
    (let s := fidAt 0 false (enc 0x0B 1 2 0) [(2, Reg.audTenAmoEventEn 0)]
     Issues s 0 false (enc 0x0B 1 2 0) ∧ offsetOk (s.effAddr 0 false (enc 0x0B 1 2 0)) = true ∧
       ((locate (s.effAddr 0 false (enc 0x0B 1 2 0))).map (fun l => (l.plain, zoneStopped l s))) = some (true, false)) ∧
    (let s := regs [(Reg.sysZoneState, 0xC0000000)] (fidAt 0 false (enc 0x0B 1 2 0) [(2, Reg.scnPace 1023)])
     Issues s 0 false (enc 0x0B 1 2 0) ∧ offsetOk (s.effAddr 0 false (enc 0x0B 1 2 0)) = true ∧
       ((locate (s.effAddr 0 false (enc 0x0B 1 2 0))).map (fun l => zoneStopped l s)) = some true) := by
  unfold Issues; decide

theorem witness_FidFabricAccess : ∀ op ∈ [0x0E, 0x0F], Issues (fidAt 0 false (enc op 1 2 0) [(2, 0x103FFFFC)]) 0 false (enc op 1 2 0) ∧
    Issues (fidAt 0 false (enc op 1 2 0) [(2, 0x802BFFFC)]) 0 false (enc op 1 2 0) ∧ fld (enc op 1 2 0) 17 14 = 0 ∧ 0x802BFFFC < 0x80000000 + 44 * 0x10000 := by
  unfold Issues; decide

theorem witness_FidTimeAndCsr : (Issues (fidAt 0 false (enc 0x18 1 2 0) []) 0 false (enc 0x18 1 2 0) ∧ fld (enc 0x18 1 2 0) 31 26 = 0x18) ∧
    (∀ n ∈ [0, 1, 2, 4, 6, 7, 8, 9], Issues (fidAt 43 false (enc 0x1B 1 0 n) []) 43 false (enc 0x1B 1 0 n) ∧ Issues (fidAt 1 true (enc 0x1B 1 0 5) []) 1 true (enc 0x1B 1 0 5) ∧
      fld (enc 0x1B 1 0 n) 17 0 = n) ∧
    ∀ n ∈ [7, 8], Issues (fidAt 1 false (enc 0x1C 1 0 n) [(1, 0x12345)]) 1 false (enc 0x1C 1 0 n) ∧ Issues (fidAt 1 true (enc 0x1C 1 0 n) []) 1 true (enc 0x1C 1 0 n) := by
  unfold Issues; decide

theorem witness_FidWaitAndDone :
    (let s := setFid 0 { (fidAt 0 false (enc 0x19 1 2 0) [(2, 3)]).fidOf 0 with events := 2 } (fidAt 0 false (enc 0x19 1 2 0) [(2, 3)])
     Issues s 0 false (enc 0x19 1 2 0) ∧ (s.fidOf 0).events &&& ((s.thread 0 false).g 2).toNat ≠ 0) ∧
    (let s := fidAt 0 false (enc 0x19 1 2 0) [(2, 3)]
     Issues s 0 false (enc 0x19 1 2 0) ∧ (s.fidOf 0).events &&& ((s.thread 0 false).g 2).toNat = 0) ∧
    (let s := regs [(Reg.tenEvqCfg 0, 0x00010001), (Reg.tenStatus 0, 0x10)] (fidAt 0 false (enc 0x1A 1 2 0x1FFFF) [])
     Issues s 0 false (enc 0x1A 1 2 0x1FFFF) ∧ s.rigOwner = 0 ∧ s.bit (Reg.tenEvqCfg 0) 0 = true ∧ s.bme 0 = true ∧ (s.evq 0).entries.length < s.evqSize 0 - 1) ∧
    Issues (fidAt 0 false (enc 0x1D 0 0 1) []) 0 false (enc 0x1D 0 0 1) ∧
    (let s := fidAt 1 true (enc 0x1D 0 0 1) []
     Issues s 1 true (enc 0x1D 0 0 1) ∧ (s.fidOf 1).run = some ⟨3, 0, none, 0, 0, 0, 0⟩ ∧ (s.fidOf 1).queue = []) := by
  unfold Issues; decide

/-- A signature block (R54) of a test key, with r and s. -/
def testBlock (r s : Nat) : List Nat :=
  4 :: beBytes 48 0xE2A3E46762E3A7C26AD68CC9F5C9DFF95A0F7DE92810453193FA0BB38AF6D831CFA4B406FB9A0B3C5B0883E8AC6B9246 ++
    beBytes 48 0x28CDF962F1AEC10376D173D923911B5574F38291D8AA5013FB72A247C77FE4BEF7C8776D291233A6264B4E4243E5C2C0 ++
    List.replicate 7 0 ++ leNats 48 r ++ leNats 48 s ++ List.replicate 56 0

/-- A fid image (R590): its kind, for any index, version, code and data. -/
def testFid (kind version : Nat) (code data : List Nat) : List Nat :=
  [0x46, 0x49, 0x44, 0x31, kind, 0xFF, 0, 0] ++ leNats 4 version ++ leNats 4 0 ++ leNats 4 (4 * code.length) ++ leNats 4 (4 * data.length) ++ List.replicate 40 0 ++
    code.flatMap (leNats 4) ++ data.flatMap (leNats 4)

/-- The bytes of a section of a test image, and their digest: plans whose meaning is apart, and fids of one word. -/
def testSection (k : Nat) : List Nat := if k < 4 then [] else if k < 20 then List.replicate 20 0 else testFid (fidKind (k - 20)) 0 [0] []
def testDigest (k : Nat) : Nat :=
  if k < 4 then 0x38B060A751AC96384CD9327EB1B1E36A21FDB71114BE07434C0CC7BF63F6E1DA274EDEBFE76F65FBD51AD2F14898B95B
  else if k < 20 then 0xA5A2CB4F3870291DE150E09EE864F3B2B3B342937AC719A149439185AD6A47BB4F23AE83FF20F0C8F0C79A1764244A63
  else match fidKind (k - 20) with
  | 0 => 0xB7C540B8EF6DB183F2561D704E01A0A39E6F7F63E62CCF9C2F01C515128E8CAD69B88A5A8CC91F7BC3236BE6012B59D5
  | 1 => 0xB8FD06DEBB37F68D4A2887DF9CD8F4535ADB02A8B99D14234A93EF0055CF533B8D9E28F98E7AD0136153881E9ED34426
  | 2 => 0xBADCE6118064C370F44D48658632F9BBDD7D3F4FD32DC73119F2BB9B7AD450CAB276B7512EA7587764DBD00EF9CEAD2B
  | 3 => 0x7B21E62AD07386DA8BB9A4C1F07523E6C2D51B512D04A6CCF07CA1E3A026917E2A0CE720521753BF36CA943BAEE17DED
  | _ => 0x886169CEFC530CCBF0E8FAA8EF9EC125D114C95CB9833890B2F7F548EA229A6108A5DA3B2030B3E2D011195DBDB452A2

/-- The header of a test image of version `v` (R44), an entry of its section table (R46), and a section with the zeros after it. -/
def testHead (v : Nat) : List Byte :=
  [0x59, 0x4C, 0x57, 0x44, 1, 0, 0, 0, 0x28, 1, 0, 0, 0xB0, 0, 2, 0, 0, 0x52, 0, 0, 64, 0, 0, 0] ++ (leBytes 4 v ++ (leBytes 4 v ++ List.replicate 224 0))
def testEntry (k : Nat) : List Byte :=
  let n := (testSection k).length
  leBytes 2 (sectionType k).1 ++ (leBytes 1 (sectionType k).2 ++ (0 :: (leBytes 4 (0x1200 + 256 * k) ++ (leBytes 4 n ++ (leBytes 4 n ++ natBytes (beBytes 48 (testDigest k)))))))
def testSpace (k : Nat) : List Byte := natBytes (testSection k) ++ List.replicate (256 - (testSection k).length) 0

/-- `n` pieces from number `k` on, and what follows. -/
def pieces (f : Nat → List Byte) : Nat → Nat → List Byte → List Byte
  | 0, _, l => l
  | n + 1, k, l => f k ++ pieces f n (k + 1) l

/-- What the plan sections of a test image say. -/
def emptyZone : ZonePlan := ⟨[], [], [], [], [], [], [], [], [], [], [], [], [], [], [], [], [], [], [], []⟩
def testPlans : Plans := ⟨⟨0, [], [], []⟩, ⟨[⟨none, none, [], 0, 0, 0, 0, 0⟩], 0, false, 0, none⟩, ⟨0, [], 0, 50⟩, [], List.replicate 16 emptyZone⟩

/-- r and s of the test images of versions 1 and 2. -/
def testSig (v : Nat) : Nat × Nat :=
  if v = 1 then (0x26DD2F39E2C616F14FDE105D4081612081246A04A98F6C234B12747403B4B48B9BF372683F6F7D1E4E9B291276A49B00,
      0xEB8AC3858FE7FCCAC03295D805C4D5831AAF1800B0519E13E11E956A52AE59D054AF00C21A64B20E7317E00ADE8D2E7E)
  else (0xF5AA1D11BD43E54DC475332B5998AD8F282D0BCCE4482D63B259897F153CE889250438802A9A76B27D3CF368F9C464AF,
      0x2AFBDA34ECF5C7EF9F0125D9E4AABA43A72E4B1D38F1406428BBD24EC61D1A0FC2955B488DFD6AA0F1B7C5D5BB383825)

/-- An image that passes every check: version 1 or 2. -/
def rigImg (v : Nat) : RigImage :=
  ⟨[(0, testHead v ++ pieces testEntry 60 0 []), (1, pieces testEntry 4 60 (natBytes (testBlock (testSig v).1 (testSig v).2) ++ pieces testSpace 14 0 [])),
    (2, pieces testSpace 16 14 []), (3, pieces testSpace 16 30 []), (4, pieces testSpace 16 46 []), (5, pieces testSpace 2 62 (List.replicate 3584 0xFF))], testPlans⟩

/-! The test image passes every check -/

theorem img_pieces_append (f : Nat → List Byte) (n k : Nat) (l : List Byte) : pieces f n k l = pieces f n k [] ++ l := by
  induction n generalizing k with
  | zero => rfl
  | succ n ih => simp only [pieces]; rw [ih (k + 1), List.append_assoc]

theorem img_pieces_length (f : Nat → List Byte) (w n k : Nat) (h : ∀ i, i < k + n → (f i).length = w) : (pieces f n k []).length = w * n := by
  induction n generalizing k with
  | zero => rfl
  | succ n ih =>
    simp only [pieces, List.length_append]
    rw [h k (by omega), ih (k + 1) (fun i hi => h i (by omega)), Nat.mul_succ]; omega

theorem img_pieces_field (f : Nat → List Byte) (w m n k j c : Nat) (l : List Byte) (h : ∀ i, i < k + n → (f i).length = w) (hm : m < n) (hj : j + c ≤ w) :
    ((pieces f n k l).drop (w * m + j)).take c = ((f (k + m)).drop j).take c := by
  induction n generalizing k m with
  | zero => omega
  | succ n ih =>
    simp only [pieces]
    have hk := h k (by omega)
    cases m with
    | zero =>
      rw [Nat.mul_zero, Nat.zero_add, List.drop_append_of_le_length (by omega), List.take_append_of_le_length (by rw [List.length_drop]; omega), Nat.add_zero]
    | succ m =>
      have e : w * (m + 1) + j = (f k).length + (w * m + j) := by rw [hk, Nat.mul_succ]; omega
      rw [e, List.drop_length_add_append, ih m (k + 1) (fun i hi => h i (by omega)) (by omega)]
      congr 3; omega

theorem img_entry_length : ∀ k < 64, (testEntry k).length = 64 := by decide +kernel
theorem img_space_length : ∀ k < 64, (testSpace k).length = 256 := by decide +kernel

theorem img_leBytes_length (n v : Nat) : (leBytes n v).length = n := by
  induction n generalizing v with
  | zero => rfl
  | succ n ih => simp only [leBytes, List.length_cons, ih]

theorem img_head_length (v : Nat) : (testHead v).length = 256 := by
  unfold testHead
  simp only [List.length_append, img_leBytes_length, List.length_replicate, List.length_cons, List.length_nil]

/-- A field of the image within a sector. -/
theorem img_in_sector (i : RigImage) (q o n : Nat) (h : o + n ≤ 4096) (ho : o < 4096) : imageBytes i (4096 * q + o) n = ((sectorOf i q).drop o).take n := by
  have h1 : (4096 * q + o) % 4096 = o := by omega
  have h2 : (4096 * q + o) / 4096 = q := by omega
  unfold imageBytes
  rw [h1, h2, if_pos h]

theorem img_entry_field (v k j c : Nat) (hk : k < 64) (hj : j + c ≤ 64) (hc : 0 < c) : imageBytes (rigImg v) (0x100 + 64 * k + j) c = ((testEntry k).drop j).take c := by
  by_cases h : k < 60
  · have e : 0x100 + 64 * k + j = 4096 * 0 + (256 + (64 * k + j)) := by omega
    rw [e, img_in_sector _ _ _ _ (by omega) (by omega)]
    have s : sectorOf (rigImg v) 0 = testHead v ++ pieces testEntry 60 0 [] := rfl
    rw [s, ← img_head_length v, List.drop_length_add_append, img_pieces_field testEntry 64 k 60 0 j c [] (fun i hi => img_entry_length i (by omega)) h hj, Nat.zero_add]
  · have e : 0x100 + 64 * k + j = 4096 * 1 + (64 * (k - 60) + j) := by omega
    rw [e, img_in_sector _ _ _ _ (by omega) (by omega)]
    have s : sectorOf (rigImg v) 1 = pieces testEntry 4 60 (natBytes (testBlock (testSig v).1 (testSig v).2) ++ pieces testSpace 14 0 []) := rfl
    rw [s, img_pieces_field testEntry 64 (k - 60) 4 60 j c _ (fun i hi => img_entry_length i (by omega)) (by omega) hj]
    congr 3; omega

theorem img_block_length (v : Nat) : (natBytes (testBlock (testSig v).1 (testSig v).2)).length = 256 := by
  unfold natBytes testBlock leNats byteNats beBytes
  simp only [List.length_map, List.length_append, List.length_cons, List.length_range, List.length_replicate, img_leBytes_length]

theorem img_space_field (v k j c : Nat) (hk : k < 64) (hj : j + c ≤ 256) (hl : j < 256) : imageBytes (rigImg v) (0x1200 + 256 * k + j) c = ((testSpace k).drop j).take c := by
  have sl : ∀ n m, n + m ≤ 64 → ∀ i, i < n + m → (testSpace i).length = 256 := fun n m h i hi => img_space_length i (by omega)
  have mid : ∀ q b, sectorOf (rigImg v) q = pieces testSpace 16 b [] → b ≤ k → k < b + 16 → b + 16 ≤ 64 → 0x1200 + 256 * b = 4096 * q →
      imageBytes (rigImg v) (0x1200 + 256 * k + j) c = ((testSpace k).drop j).take c := by
    intro q b s h1 h2 h3 h4
    have e : 0x1200 + 256 * k + j = 4096 * q + (256 * (k - b) + j) := by omega
    rw [e, img_in_sector _ _ _ _ (by omega) (by omega), s, img_pieces_field testSpace 256 (k - b) 16 b j c [] (sl b 16 h3) (by omega) hj]
    congr 3; omega
  by_cases h1 : k < 14
  · have e : 0x1200 + 256 * k + j = 4096 * 1 + (256 + (256 + (256 * k + j))) := by omega
    have s : sectorOf (rigImg v) 1 = pieces testEntry 4 60 (natBytes (testBlock (testSig v).1 (testSig v).2) ++ pieces testSpace 14 0 []) := rfl
    have l1 := img_pieces_length testEntry 64 4 60 (fun i hi => img_entry_length i (by omega))
    rw [e, img_in_sector _ _ _ _ (by omega) (by omega), s, img_pieces_append testEntry,
      show 256 + (256 + (256 * k + j)) = (pieces testEntry 4 60 []).length + (256 + (256 * k + j)) by rw [l1], List.drop_length_add_append,
      show 256 + (256 * k + j) = (natBytes (testBlock (testSig v).1 (testSig v).2)).length + (256 * k + j) by rw [img_block_length], List.drop_length_add_append,
      img_pieces_field testSpace 256 k 14 0 j c [] (sl 0 14 (by omega)) h1 hj, Nat.zero_add]
  · by_cases h2 : k < 30
    · exact mid 2 14 rfl (by omega) h2 (by omega) (by omega)
    · by_cases h3 : k < 46
      · exact mid 3 30 rfl (by omega) h3 (by omega) (by omega)
      · by_cases h4 : k < 62
        · exact mid 4 46 rfl (by omega) h4 (by omega) (by omega)
        · have e : 0x1200 + 256 * k + j = 4096 * 5 + (256 * (k - 62) + j) := by omega
          have s : sectorOf (rigImg v) 5 = pieces testSpace 2 62 (List.replicate 3584 0xFF) := rfl
          rw [e, img_in_sector _ _ _ _ (by omega) (by omega), s, img_pieces_field testSpace 256 (k - 62) 2 62 j c _ (sl 62 2 (by omega)) (by omega) hj]
          congr 3; omega

/-- What the section table of a test image says of a section. -/
def testEntrySays (k : Nat) : Section :=
  ⟨(sectionType k).1, (sectionType k).2, 0, 0x1200 + 256 * k, (testSection k).length, (testSection k).length, beBytes 48 (testDigest k)⟩

theorem img_entry_says : ∀ k < 64, (⟨leNat ((testEntry k).take 2), leNat (((testEntry k).drop 2).take 1), leNat (((testEntry k).drop 3).take 1), leNat (((testEntry k).drop 4).take 4),
    leNat (((testEntry k).drop 8).take 4), leNat (((testEntry k).drop 12).take 4), byteNats (((testEntry k).drop 16).take 48)⟩ : Section) = testEntrySays k := by decide +kernel

theorem img_section_says (v k : Nat) (hk : k < 64) : imageSection (rigImg v) k = testEntrySays k := by
  rw [← img_entry_says k hk]
  unfold imageSection imageField
  simp only [Nat.add_assoc 256 (64 * k) _]
  simp only [← Nat.add_assoc]
  simp only [img_entry_field v k 3 1 hk (by omega) (by omega), img_entry_field v k 4 4 hk (by omega) (by omega), img_entry_field v k 8 4 hk (by omega) (by omega),
    img_entry_field v k 12 4 hk (by omega) (by omega), img_entry_field v k 16 48 hk (by omega) (by omega), img_entry_field v k 2 1 hk (by omega) (by omega)]
  have e0 := img_entry_field v k 0 2 hk (by omega) (by omega)
  rw [Nat.add_zero] at e0
  rw [e0, List.drop_zero]

theorem img_space_says : ∀ k < 64, ((testSpace k).take (testSection k).length).map (fun b => b.toNat) = testSection k ∧
    ((testSpace k).drop (testSection k).length).all (fun x => decide (x = 0)) = true ∧ (testSection k).length < 256 := by decide +kernel

theorem img_stored_says (v k : Nat) (hk : k < 64) : byteNats (storedBytes (rigImg v) k) = testSection k := by
  unfold storedBytes
  rw [img_section_says v k hk]
  obtain ⟨h1, -, h3⟩ := img_space_says k hk
  have e := img_space_field v k 0 (testSection k).length hk (by omega) (by omega)
  rw [Nat.add_zero, List.drop_zero] at e
  show byteNats (imageBytes (rigImg v) (0x1200 + 256 * k) (testSection k).length) = _
  rw [e]; exact h1

theorem img_gap_zero (v k : Nat) (hk : k < 64) : zeroBytes (rigImg v) (0x1200 + 256 * k + (testSection k).length) (0x1200 + 256 * (k + 1)) = true := by
  obtain ⟨-, h2, h3⟩ := img_space_says k hk
  unfold zeroBytes
  have n : 0x1200 + 256 * (k + 1) - (0x1200 + 256 * k + (testSection k).length) = 256 - (testSection k).length := by omega
  rw [n, img_space_field v k _ _ hk (by omega) h3, List.take_of_length_le (Nat.le_of_eq (by rw [List.length_drop, img_space_length k hk]))]
  exact h2

theorem img_placed (v n : Nat) (hn : n < 64) :
    placedFrom (rigImg v) 20992 (List.range' (64 - n) n) (0x1200 + 256 * (63 - n) + (testSection (63 - n)).length) = true := by
  induction n with
  | zero => exact img_gap_zero v 63 (by omega)
  | succ n ih =>
    obtain ⟨-, -, h3⟩ := img_space_says (63 - (n + 1)) (by omega)
    obtain ⟨-, -, h4⟩ := img_space_says (63 - n) (by omega)
    have e : 64 - (n + 1) = 63 - n := by omega
    have e2 : 63 - n = 63 - (n + 1) + 1 := by omega
    rw [e, List.range'_succ]
    have x : imageSection (rigImg v) (63 - n) = testEntrySays (63 - n) := img_section_says v _ (by omega)
    unfold placedFrom
    simp only [x, testEntrySays, sectionEncrypted]
    have z := img_gap_zero v (63 - (n + 1)) (by omega)
    rw [← e2] at z
    rw [show 63 - n + 1 = 64 - n by omega, ih (by omega), z]
    simp only [Nat.zero_testBit, Bool.and_true, Bool.false_eq_true, if_false, decide_eq_true_eq]
    omega

/-- A field of the header. -/
theorem img_head_field (v o n : Nat) (h : o + n ≤ 256) : imageBytes (rigImg v) o n = ((testHead v).drop o).take n := by
  have e := img_in_sector (rigImg v) 0 o n (by omega)
  have s : sectorOf (rigImg v) 0 = testHead v ++ pieces testEntry 60 0 [] := rfl
  rw [Nat.mul_zero, Nat.zero_add, s] at e
  rw [e (by omega), List.drop_append_of_le_length (by rw [img_head_length]; omega), List.take_append_of_le_length (by rw [List.length_drop, img_head_length]; omega)]

theorem img_layout_ok (v : Nat) : layoutOk (rigImg v) = true := by
  have hlen : imageLen (rigImg v) = 20992 := by
    unfold imageLen imageField
    rw [img_head_field v _ _ (by omega), show ((testHead v).drop 0x010).take 4 = [0, 0x52, 0, 0] from rfl]; decide
  have hcount : sectionCount (rigImg v) = 64 := by
    unfold sectionCount imageField
    rw [img_head_field v _ _ (by omega), show ((testHead v).drop 0x014).take 2 = [64, 0] from rfl]; decide
  have h := img_placed v 63 (by omega)
  have x := img_section_says v 0 (by omega)
  unfold layoutOk
  simp only [hlen, hcount]
  rw [List.range_eq_range', show (64 : Nat) = 63 + 1 from rfl, List.range'_succ]
  have z : zeroBytes (rigImg v) 0x1200 0x1200 = true := by
    unfold zeroBytes
    rw [Nat.sub_self, show 0x1200 = 4096 * 1 + 512 from rfl, img_in_sector _ _ _ _ (by omega) (by omega), List.take_zero]; rfl
  obtain ⟨-, -, h3⟩ := img_space_says 0 (by omega)
  unfold placedFrom
  simp only [x, testEntrySays, sectionEncrypted, Nat.mul_zero, Nat.add_zero, z, Nat.zero_testBit, Bool.and_true, Bool.false_eq_true, if_false]
  simp only [Nat.sub_self, Nat.mul_zero, Nat.add_zero, Nat.reduceSub] at h
  simp only [h, Bool.and_true, Bool.and_eq_true, decide_eq_true_eq]
  exact ⟨⟨trivial, by decide, by decide, trivial⟩, trivial, by decide, by omega, trivial⟩

theorem img_present_ok (v : Nat) (ks : List Nat) (h : ∀ k ∈ ks, k < 64) : presentCheck (rigImg v) ks = none := by
  unfold presentCheck
  induction ks with
  | nil => rfl
  | cons k ks ih =>
    have x := img_section_says v k (h k List.mem_cons_self)
    simp only [List.map_cons, x, testEntrySays, if_true, firstFail]
    exact ih (fun j hj => h j (List.mem_cons_of_mem _ hj))

theorem img_digest_plan : sha384 [] = beBytes 48 (testDigest 0) ∧ sha384 (List.replicate 20 0) = beBytes 48 (testDigest 4) := by decide +kernel
theorem img_digest_fids : ∀ j < 5, sha384 (testFid j 0 [0] []) = beBytes 48 (match j with
    | 0 => testDigest 20 | 1 => testDigest 21 | 2 => testDigest 53 | 3 => testDigest 61 | _ => testDigest 63) := by decide +kernel
theorem img_digest_of_kind : ∀ k < 64, 20 ≤ k → fidKind (k - 20) < 5 ∧ testDigest k = (match fidKind (k - 20) with
    | 0 => testDigest 20 | 1 => testDigest 21 | 2 => testDigest 53 | 3 => testDigest 61 | _ => testDigest 63) := by decide +kernel

theorem img_digest_says (k : Nat) (hk : k < 64) : sha384 (testSection k) = beBytes 48 (testDigest k) := by
  unfold testSection
  split
  · rw [img_digest_plan.1]; unfold testDigest; rw [if_pos (by omega), if_pos (by omega)]
  · split
    · rw [img_digest_plan.2]; unfold testDigest; simp [*]
    · obtain ⟨h1, h2⟩ := img_digest_of_kind k hk (by omega)
      rw [img_digest_fids _ h1, h2]

theorem img_content_says : ∀ k < 64, (decide ((testEntrySays k).plainLength ≤ 0x10000) &&
    (if k = 0 then earlyMapOk testPlans.earlyMap
     else if k = 1 then tenancyPlanOk testPlans.earlyMap.bifurcation testPlans.tenancyPlan
     else if k = 2 then storePlanOk testPlans.storePlan
     else if k = 3 then slicesOk testPlans.slices
     else if k < 20 then partsFit 5 (testSection k) && (match testPlans.zones[k - 4]? with | some z => zonePlanOk (k - 4) z | none => false)
     else fidImageOk (k - 20) (testSection k))) = true := by decide +kernel

theorem img_section_ok (s : State) (v k : Nat) (hk : k < 64) : s.sectionCheck (rigImg v) [] k = none := by
  have hp : byteNats (storedRead (rigImg v) [] k) = testSection k := img_stored_says v k hk
  have hq : s.plainSection (rigImg v) [] k = testSection k := by
    unfold State.plainSection plainOf sectionEncrypted
    rw [img_section_says v k hk, if_neg (by simp [testEntrySays])]; exact hp
  have hc := img_content_says k hk
  have hx : (testEntrySays k).plainLength = (testSection k).length := rfl
  unfold State.sectionCheck
  have ok : contentOk (rigImg v) k (testSection k) = true := by
    unfold contentOk sectionEncrypted
    rw [img_section_says v k hk]
    simp only [Bool.and_eq_true, decide_eq_true_eq] at hc
    obtain ⟨h1, h2⟩ := hc
    have pl : (rigImg v).plans = testPlans := rfl
    simp only [pl, testEntrySays, Nat.zero_testBit, Bool.not_false, Bool.or_true, Bool.true_and]
    revert h2
    split
    · exact id
    · split
      · exact id
      · split
        · exact id
        · split
          · exact id
          · split
            · intro h2
              simp only [Bool.and_eq_true] at h2 ⊢
              refine ⟨⟨decide_eq_true (by simp only [testEntrySays] at h1; omega), h2.1⟩, h2.2⟩
            · intro h2
              simp only [Bool.and_eq_true]
              exact ⟨decide_eq_true h1, h2⟩
  show (if sha384 (byteNats (storedRead (rigImg v) [] k)) ≠ (imageSection (rigImg v) k).digest then some (11, k) else _) = none
  rw [hp, img_section_says v k hk, img_digest_says k hk, if_neg (by simp [testEntrySays]), hq, ok]
  simp [sectionEncrypted, testEntrySays]

theorem img_body_ok (s : State) (v : Nat) (ks : List Nat) (h : ∀ k ∈ ks, k < 64) : s.bodyCheck (rigImg v) [] ks = none := by
  have e : ks.map (s.sectionCheck (rigImg v) []) = ks.map (fun _ => none) := List.map_congr_left (fun k hk => img_section_ok s v k (h k hk))
  unfold State.bodyCheck
  rw [img_present_ok v ks h, e]
  have f : ∀ p : LoadFail → Bool, p none = false → (ks.map (fun _ => (none : LoadFail))).filter p = [] := by
    intro p hp; rw [List.filter_eq_nil_iff]; intro x hx; obtain ⟨_, -, rfl⟩ := List.mem_map.1 hx; simp [hp]
  simp only [firstFail]
  rw [f _ rfl, f _ rfl, f _ rfl]; rfl

theorem img_signature_ok : blockVerifies (signatureBlock (rigImg 2)) (headerDigest (rigImg 2)) = true := by decide +kernel

theorem img_head_ok (s : State) (hd : s.pwr.debug = false) (hk : s.keyAllowed (blockKeyDigest (signatureBlock (rigImg 2))) = true) (hf : s.rig.selector.floor ≤ 2) :
    s.headCheck (some (rigImg 2)) = none := by
  have w : ∀ o n, o + n ≤ 256 → imageField (rigImg 2) o n = leNat (((testHead 2).drop o).take n) := fun o n h => by unfold imageField; rw [img_head_field 2 o n h]
  have h1 : magicOk (rigImg 2) = true := by unfold magicOk; rw [img_head_field 2 0 4 (by omega)]; decide
  have h2 : fmtMajor (rigImg 2) = 1 := (w 4 2 (by omega)).trans (by decide)
  have h3 : imagePart (rigImg 2) = 0x128 := (w 8 4 (by omega)).trans (by decide)
  have h4 : imageStepping (rigImg 2) = 0xB0 := (w 0xC 2 (by omega)).trans (by decide)
  have h5 : secVersion (rigImg 2) = 2 := (w 0x1C 4 (by omega)).trans (by decide)
  unfold State.headCheck
  simp only [h1, h2, h3, h4, h5, img_layout_ok, hd, hk, img_signature_ok, hf, failUnless, decide_true, Bool.not_false, Bool.true_or, if_true, firstFail]

theorem img_load_ok (s : State) (hd : s.pwr.debug = false) (hk : s.ownerHash = none) (hf : s.rig.selector.floor ≤ 2) : s.loadCheck (some (rigImg 2)) = none := by
  have k : s.keyAllowed (blockKeyDigest (signatureBlock (rigImg 2))) = true := by unfold State.keyAllowed; rw [hk]
  show firstFail [s.headCheck (some (rigImg 2)), s.bodyCheck (rigImg 2) [] allSections] = none
  rw [img_head_ok s hd k hf, img_body_ok s 2 allSections (fun k h => List.mem_range.1 h)]; rfl

theorem witness_ForeignAccess :
    (let s := svc [(Reg.tenPlan, 1)]
     s.masterThere (.tenancy 0) = true ∧ (locate (Reg.strEvent 0)).bind windowObj = some (objStrand 0) ∧ s.owner (objStrand 0) ≠ some 0 ∧ s.mayUse 0 (objStrand 0) = false ∧
       objStrand 0 ≠ objDomain 0) := by decide

theorem witness_RegisterAccess :
    (svc [(Reg.tenPlan, 4)]).masterThere (.tenancy 3) = true ∧ locate 0x3FFFFC = none ∧ (svc []).masterThere .debug = true ∧
    ((locate (Reg.audTenAmoEventEn 3)).map (fun l => (l.plain, zoneStopped l (svc [(Reg.tenPlan, 4)])))) = some (true, false) ∧
    ((locate (Reg.audTenAmoEventEn 3)).map (fun l => decide (writeGate 3 l (svc [(Reg.tenPlan, 4)]) = .pass ∧ readGate 3 l (svc [(Reg.tenPlan, 4)]) = .pass))) = some true ∧
    ((locate (Reg.scnPace 1023)).map (fun l => zoneStopped l (svc [(Reg.sysZoneState, 0xC0000000)]))) = some true ∧
    (match locate (Reg.scnPace 1023) with | some l => decide (l.kind ≠ .fidSys ∧ l.kind ≠ .tenPre ∧ l.kind ≠ .aud) | none => false) = true ∧ (svc []).mode ≠ .lockdown ∧
    (match locate (Reg.fidHookCtrl 0 0) with | some l => decide (l.kind ≠ .fidSys) | none => false) = true ∧
    (match locate (Reg.fstRecEvent 255) with | some l => decide (l.kind = .fstRec ∧ l.row.acc = .w1c) | none => false) = true := by decide

theorem witness_SysCtrl : (svc []).bit Reg.sysCtrl 1 = false ∧ (svc [(Reg.sysCtrl, 3)]).bit Reg.sysCtrl 1 = true := by decide

theorem witness_FabricEvents : ({ svc [] with fab := ⟨some (64, [3]), []⟩ } : State).fab.lock = some (64, [3]) ∧
    ({ svc [] with fab := ⟨some (2, [3]), []⟩ } : State).fab.lock = some (2, [3]) ∧ State.reset.mode = .bringUp ∧ State.reset.rig.earlyApplied = none ∧
    State.reset.host.linksDetect = true ∧ State.reset.pwr.released + 30000000 ≤ ({ State.reset with now := 30000000 } : State).now ∧
    ({ State.reset with now := 29999999 } : State).now < State.reset.pwr.released + 30000000 := by decide

/-- Tenancy 3 with a queue of two entries, a completion queue of two and an event ring of two, as a bus master. -/
def hosted (l : List (Nat × Word)) : State :=
  svc ([(Reg.tenPlan, 4), (Reg.tenStatus 3, 0x10), (Reg.tenSqCfg 3 63, 0x000100FD), (Reg.tenCqCfg 3 63, 0x00010001), (Reg.tenEvqCfg 3, 0x00010001)] ++ l)

/-- A completion and an event as they stand in their rings. -/
def oneDone : RingState Completion := ⟨[⟨0, 0, 0, 63, 1, 0, false, true⟩], true, [], 1, 0, 0, 0⟩
def oneEvent : RingState EventEntry := ⟨[⟨0, false, true, 0, 0, 0, 0, []⟩], true, [], 1, 1, 0, 0⟩

theorem witness_Doorbells :
    (let s := hosted []
     s.doorbells 3 = true ∧ s.bit (Reg.tenSqCfg 3 63) 0 = true ∧ (1 : Word).toNat < s.f (Reg.tenSqCfg 3 63) 31 16 + 1 ∧ ¬ (2 : Word).toNat < s.f (Reg.tenSqCfg 3 63) 31 16 + 1) ∧
    (let s := ((hosted [(Reg.tenCqCoal 3 63, 0x10000), (Reg.tenEvqCoal 3, 0x10000)]).setCq 3 63 oneDone).setEvq 3 oneEvent
     s.bit (Reg.tenCqCfg 3 63) 0 = true ∧ (1 : Word).toNat < s.cqSize 3 63 ∧ (1 + 2 - (1 + 2 - 1) % 2) % 2 ≤ (s.cq 3 63).entries.length ∧ (s.cq 3 63).waiting = [] ∧
     s.bit (Reg.tenEvqCfg 3) 0 = true ∧ (1 : Word).toNat < s.evqSize 3 ∧ (s.evq 3).waiting = [] ∧ (s.evq 3).lost = 0 ∧ ¬ (2 : Word).toNat < s.evqSize 3) := by decide

theorem witness_CompletionPosted :
    (let s := hosted []
     let o : Origin := ⟨3, 63, 65535, true, 255, 7, false⟩
     s.f (Reg.tenSqCfg 3 o.sq) 7 2 = 63 ∧ s.bit (Reg.tenCqCfg 3 63) 0 = true ∧ s.bme 3 = true ∧ (s.cq 3 63).waiting = [] ∧ (s.cq 3 63).entries.length < s.cqSize 3 63 - 1) ∧
    (let s := (hosted []).setCq 3 63 oneDone
     s.cqSize 3 63 - 1 ≤ (s.cq 3 63).entries.length) := by decide

theorem witness_FencesAndNop : Accepted o0 (svc []) ∧ (svc []).mode ≠ .lockdown := by unfold Accepted; decide

theorem witness_CommandFetch : ∀ op ∈ [0x00, 0x01, 0x03, 0x10, 0x43, 0x48, 0x6C, 0x71],
    (hosted [(Reg.tenSqPos 3 63, 0x10000)]).mayFetchFrom 3 63 1 = true ∧ leAt ((BitVec.ofNat 8 op) :: List.replicate 63 0) 0 1 = op := by decide

theorem witness_Lanyard :
    (let s := svc [(Reg.tenPlan, 2), (Reg.tenStatus 1, 1), (Reg.tenLanyardCfg 1, 10)]
     s.mode ≠ .lockdown ∧ s.lanyard 1 = 1 ∧ s.lanyard 1 ≠ 2 ∧ s.period 1 ≠ 0 ∧ s.host.batches = [] ∧ s.spl.sets = [] ∧ s.serving = true ∧
     tabGetD 0 1 s.host.lanyardLast + 1000000 * s.period 1 ≤ ({ s with now := 10000000 } : State).now ∧ s.now < tabGetD 0 1 s.host.lanyardLast + 1000000 * s.period 1 ∧
     Accepted o0 s ∧ 1 ≠ o0.tenancy ∧ 1 < s.tenancies ∧ o0.tenancy = s.rigOwner) ∧
    (svc [(Reg.tenStatus 1, 2)]).lanyard 1 = 2 ∧ fld (wd 0x2EA60) 15 0 = 60000 ∧ fld (wd 0x2EA60) 17 16 ≠ 3 ∧ 10 ≤ fld (wd 10) 15 0 ∧ fld (wd 9) 15 0 < 10 ∧
    60000 < fld (wd 60001) 15 0 := by unfold Accepted; decide

theorem witness_FunctionReset : (svc []).host.batches = [] ∧ (svc []).spl.sets = [] ∧ (∀ c < 64, ((svc []).cq 3 c).waiting = []) ∧ ((svc []).evq 3).waiting = [] ∧ ((svc []).evq 3).lost = 0 ∧
    tabGet 15 ({ hostInit with dmaOwner := [(15, 3)] } : HostState).dmaOwner = some 3 := by decide

/-- A state whose tenancy 0 has a DMA engine and a partition of one extent. -/
def dmaAt (q : List DmaJob) : State :=
  let s := svc [(Reg.tenStatus 0, 0x10), (Reg.fstTenPart 0, 0x10000), (Reg.fstTenReadyExt 0, 1), (Reg.fstExtents, 0x00010001)]
  { s with host := { s.host with dmaOwner := [(15, 0)], dmaQueues := if q.isEmpty then [] else [(15, q)] } }

def aCopy : DmaRequest := ⟨0, 64, 0, 0, 1, 0, 0⟩

theorem witness_DmaCopyMovesBytes : Accepted o0 (dmaAt []) ∧ (dmaAt []).dmaEngine 0 = some 15 ∧ (dmaAt [⟨o0, aCopy⟩]).dmaQueue 15 = [⟨o0, aCopy⟩] ∧ (dmaAt []).bme 0 = true ∧ aCopy.dir = 0 ∧
    aCopy.lines = 1 ∧ aCopy.lineLen ≠ 0 ∧ (List.replicate 64 (7 : Byte)).length = aCopy.lineLen ∧ dmaCopyCheck o0 aCopy (dmaAt []).begin = none := by unfold Accepted; decide

theorem witness_Messages :
    (svc []).bme 3 = false ∧ (hosted []).bme 3 = true ∧
    (let s := ((hosted [(Reg.tenCqCoal 3 63, 0x102), (Reg.tenEvqCoal 3, 0x102)]).setCq 3 63 oneDone).setEvq 3 oneEvent
     (s.cq 3 63).unreported = 1 ∧ fld (s.reg (Reg.tenCqCoal 3 63)) 7 0 = 2 ∧ (s.cq 3 63).since + 1000 * fld (s.reg (Reg.tenCqCoal 3 63)) 15 8 = 1000 ∧
     (s.evq 3).unreported = 1 ∧ fld (s.reg (Reg.tenEvqCoal 3)) 7 0 = 2 ∧ (s.evq 3).since + 1000 * fld (s.reg (Reg.tenEvqCoal 3)) 15 8 = 1000 ∧
     s.now < 1000 ∧ 1000 ≤ ({ s with now := 1000 } : State).now) ∧
    (hosted []).vectorMasked 3 0 = true ∧
    ({ hosted [] with host := { (hosted []).host with msixTable := [(3 * 1024 + 3, 0)] } } : State).vectorMasked 3 0 = false := by decide

/-- A set of tenancy 0 with the number 5, and a batch that collects into it. -/
def aSet (arms : List Arm) : ChangeSet := ⟨5, .batch, 0, 63, 0, 0, 0, false, .collecting, arms, [], [], [], 0, 0, [], false, false, 0, false, [], []⟩
def anArm : Arm := ⟨1023, some 2047, false, false, .essence, none, false, 0, none, false, 0, none⟩
def inBatch (p : BatchPhase) (arms : List Arm) : State :=
  { svc [] with host := { hostInit with batches := [(0, ⟨p, 5, 0, 1023⟩)] }, spl := { splInit with sets := [aSet arms] } }

theorem witness_Batches :
    (Accepted o0 (svc []) ∧ (svc []).setOfGroup 0 63 = none) ∧
    (let s := inBatch .collecting [anArm]
     s.batchOf o0 = some ⟨.collecting, 5, 0, 1023⟩ ∧ s.findSet 5 = some (aSet [anArm]) ∧ (aSet [anArm]).arms.length ≤ 256 ∧ (aSet [anArm]).arms ≠ [] ∧ o0.reserved = false ∧
     o0.signal = false ∧ s.bare = false ∧ s.serving = true ∧ s.now < 0 + 1000000000 ∧ needZones (aSet [anArm]) s = none ∧ s.bdsWhole (aSet [anArm]) = true ∧
     s.otherHolder (aSet [anArm]) 1023 = none) ∧
    (inBatch (.undone 2 0) []).batchOf o0 = some ⟨.undone 2 0, 5, 0, 1023⟩ ∧
    ((inBatch .collecting []).findSet 5 = some (aSet []) ∧ (aSet []).arms = [] ∧ (aSet []).engines = [] ∧ (aSet []).origins = [] ∧
     0 + 1000000000 ≤ ({ inBatch .collecting [] with now := 1000000000 } : State).now) := by unfold Accepted; decide

/-- A fid with a hook run of tenancy 0 active or queued, its system thread waiting, an update, or in FAULT. -/
def fidWith (f : Nat) (d : Fid) (l : List (Nat × Word)) : State := setFid f d (owns [objDest 0] (svc l))
def aRun : HookRun := ⟨0, 0, some 9, 0, 0, 0, 0⟩

/-- The bytes of a signed image for fid 1 (R592). -/
def anImage : List Byte :=
  natBytes (testFid 1 7 [1, 2] [3] ++ testBlock 0xAB5BA2420C19F5DCAD6D68CC92EA5FD8150B717369471A9EA5FBD1C25EA5C0718BDEBA42F8D0BE228C92BD61568D1261
    0xD9E0012FB4B49A6B370D1F2A5BA06DBD1ED01A45AE06362FFD958BD3F79D51A310EE7251C01992598F42DDBE684293CD)
def anUpdate : FidImage := ⟨1, 0xFF, 7, 0, [1, 2], [3]⟩

theorem witness_HookCommands :
    (let s := fidWith 1 fidInitial []
     Accepted o0 s ∧ hookLoadCheck o0 1 4 (some [1, 2, 3, 4]) s.begin = none ∧ hookSetCheck o0 1 true 1000 s.begin = none ∧ s.hookActive 1 0 = false) ∧
    (let s := fidWith 1 { fidInitial with run := some aRun } []
     hookSetCheck o0 1 true 1000 s.begin = none ∧ s.hookActive 1 0 = true ∧ (s.fidOf 1).run = some aRun ∧ (s.fidOf 1).queue = [] ∧ aRun.tenancy = 0 ∧
       ({ s with now := 19999 } : State).now < aRun.start + 20000 ∧ aRun.start + 20000 ≤ ({ s with now := 20000 } : State).now) ∧
    (let s := fidWith 1 { fidInitial with queue := [aRun] } []
     (s.fidOf 1).queue = [aRun] ∧ aRun.kind = 0 ∧ aRun.set = some 9 ∧ aRun.tenancy = 0 ∧ ({ s with now := 39999 } : State).now < aRun.cause + 40000 ∧
       aRun.cause + 40000 ≤ ({ s with now := 40000 } : State).now) := by unfold Accepted; decide

theorem witness_FidCommands :
    (let s := fidWith 1 { fidInitial with upd := some ⟨o0, anUpdate, 0⟩, wait := some (1, 3) } []
     (s.fidOf 1).upd = some ⟨o0, anUpdate, 0⟩ ∧ (s.fidOf 1).wait = some (1, 3) ∧ (s.fidOf 1).run = none ∧ ({ s with now := 9999999 } : State).now < 0 + 10000000 ∧
       0 + 10000000 ≤ ({ s with now := 10000000 } : State).now) ∧
    Accepted o0 (svc [(Reg.fidStatus 43, 3)]) ∧ fidRestartCheck o0 43 (svc [(Reg.fidStatus 43, 3)]).begin = none := by unfold Accepted; decide

set_option maxRecDepth 100000 in
/-- The same for FID_UPDATE, whose image a test key signs. -/
theorem witness_FidCommands_update :
    Accepted o0 (fidWith 1 fidInitial []) ∧ fidUpdateCheck o0 1 anImage.length (some anImage) (fidWith 1 fidInitial []).begin = none := by
  unfold Accepted; decide +kernel

/-- Service with strand 127 single under a protocol and rate, its receiver in a state; SIGNAL reads 1. -/
def strandAt (proto rate rx : Nat) (l : List (Nat × Word)) : State :=
  svc ([(Reg.strCfg 127, wd (proto + 256 * rate + 0x7F0000)), (Reg.strState 127, wd (0x100 + rx))] ++ l)

theorem witness_ReceiverStates : (strandAt 1 3 1 []).rx 127 = .seek ∧ (strandAt 1 3 6 []).rx 127 = .los ∧ (strandAt 1 3 2 []).rx 127 = .cdr ∧
    ((strandAt 1 3 3 []).rx 127 = .adapt ∧ (strandAt 1 3 3 []).proto 127 ≠ 0) ∧
    (let s := strandAt 1 3 4 []
     s.rx 127 = .sync ∧ Single s 127 ∧ Unrouted s ∧ s.mode ≠ .bringUp ∧ s.proto 127 = 1 ∧ tabGetD false 127 s.strand.syncFailed = false) ∧
    (strandAt 0 0x3E 2 []).rate 127 = 0x3E ∧ (strandAt 1 3 1 [(Reg.sysZoneState, 0xC0000000)]).zone (127 / 8) = 3 ∧ (strandAt 1 3 1 []).zone (127 / 8) ≠ 3 ∧
    (strandAt 2 20 4 []).proto 127 = 2 ∧ tabGetD false 127 ({ strandInit with syncFailed := [(127, true)] } : StrandState).syncFailed = true := by
  unfold Single Unrouted; decide

/-- A braid of strands 0 to 3, all UP. -/
def braid : State := svc ((List.range 4).flatMap (fun k => [(Reg.strCfg k, wd (0xC0B09 + 16 * b2n (k == 0) - 0xC0000)), (Reg.strState k, 0x105)]))

theorem witness_ReceiverLosses :
    (let s := strandAt 1 3 5 []
     Unrouted s ∧ s.strand.eyeBusy = [] ∧ s.rx 127 = .up ∧ Single s 127 ∧ s.proto 127 = 1) ∧
    (strandAt 0 3 5 []).proto 127 = 0 ∧ (strandAt 1 3 2 []).rx 127 = .cdr ∧ (strandAt 1 3 3 []).rx 127 = .adapt ∧
    (Unrouted braid ∧ braid.proto 3 = 1 ∧ 1 < (braid.members 3).length ∧ ∀ k ∈ braid.members 3, k < 128 ∧ braid.members k = braid.members 3 ∧ braid.proto k ≠ 3) := by
  unfold Single Unrouted; decide

theorem witness_TransmittersBightsMeasurements :
    ((strandAt 1 3 5 []).rate 127 ≠ 0 ∧ (strandAt 1 3 5 []).strand.earlyHitches = []) ∧
    (svc [(Reg.strBightStatus 7, 1)]).f (Reg.strBightStatus 7) 1 0 = 1 ∧ (svc [(Reg.strBightStatus 7, 2)]).f (Reg.strBightStatus 7) 1 0 = 2 ∧
    (svc [(Reg.strBightStatus 7, 0)]).f (Reg.strBightStatus 7) 1 0 = 0 ∧
    (bitOf (0x80000000 : Word) 31 = true ∧ (strandAt 1 3 5 []).rx 127 = .up ∧ tabGetD false 127 ({ strandInit with eyeBusy := [(127, true)] } : StrandState).eyeBusy = true) ∧
    ([Reg.strBightCtrl 7, Reg.strPrbsErr 127, Reg.strEyeCtrl 127, Reg.strPrbsCtrl 127].all (opens (strandAt 1 3 5 [])) = true ∧
      counted 127 (strandAt 1 3 5 []).now (strandAt 1 3 5 []).strand.prbsSince = false ∧ counted 127 6 [(127, 5)] = true) ∧
    (strandAt 0 3 5 []).prbsGenMay 127 = true ∧ (strandAt 0 3 5 []).prbsCheckMay 127 = true ∧ (strandAt 1 3 5 []).prbsGenMay 127 = false := by decide

/-- Display port 15 as a SINK or SOURCE, DisplayPort or HDMI, its lanes DOWN. -/
def displayAt (source hdmi : Bool) (l : List (Nat × Word)) : State :=
  svc ((List.range 4).map (fun k => (Reg.strCfg (124 + k), wd (0x7C080B + 64 * b2n hdmi + 128 * b2n source))) ++ l)

theorem witness_DisplaySideband :
    ((displayAt false false [(Reg.strDpSbCtrl 15, 9)]).dpOn 15 = true ∧ (displayAt false false [(Reg.strDpSbCtrl 15, 9)]).dpSource 15 = false ∧
     (displayAt false false [(Reg.strDpSbCtrl 15, 9)]).dpHdmi 15 = false ∧ (displayAt false false []).zone (dpLead 15 / 8) ≠ 3 ∧
     opens (displayAt true false []) (Reg.strDpSbCtrl 15) = true ∧ bitOf (6 : Word) 1 = true ∧ bitOf (6 : Word) 2 = true ∧ (displayAt false false [(Reg.strDpSbCtrl 15, 9)]).bit (Reg.strDpSbCtrl 15) 0 = true ∧
     (displayAt true false [(Reg.strDpSbStatus 15, 1)]).bit (Reg.strDpSbStatus 15) 0 = true ∧ tabGet 15 (displayAt true false []).strand.edidWait = none ∧
     tabGet 15 ({ strandInit with edidWait := [(15, 1)] } : StrandState).edidWait = some 1 ∧ tabGet 15 ({ strandInit with edidWait := [(15, 0)] } : StrandState).edidWait = some 0 ∧ (displayAt false false [(Reg.strDpSbCtrl 15, 9)]).bit (Reg.strDpSbCtrl 15) 3 = true ∧
     256 * 1 + 128 + 128 ≤ 512) ∧ (displayAt false true []).dpHdmi 15 = true ∧
    (let s := displayAt true false []
     s.dpOn 15 = true ∧ s.dpSource 15 = true ∧ ∀ k < 4, s.rx (64 + 4 * 15 + k) = .down ∧ s.feeds (64 + 4 * 15 + k) = false ∧
       s.reg (Reg.strCfg (64 + 4 * 15 + k)) = s.reg (Reg.strCfg (64 + 4 * 15))) := by decide

def aStrand : StrandEntry := ⟨127, 1, 1, 3, 0, false, false, false⟩

theorem witness_StrandConfig :
    (let s := owns [objStrand 127] (strandAt 1 3 0 [])
     Accepted o0 s ∧ strandConfigCheck o0 aStrand s.begin = none ∧ s.strandCfgIs aStrand = true) ∧
    (let s := owns [objStrand 127] (strandAt 1 2 0 [])
     strandConfigCheck o0 aStrand s.begin = none ∧ s.strandCfgIs aStrand = false ∧ aStrand.width = 1 ∧ s.rx 127 = .down ∧ s.feeds 127 = false ∧ s.rate 127 ≠ 0) ∧
    (let s := owns [objStrand 127] { strandAt 1 2 0 [] with strand := { strandInit with jobs := [(127, ⟨o0, aStrand⟩)] } }
     tabGet 127 s.strand.jobs = some ⟨o0, aStrand⟩ ∧ aStrand.proto ≠ 3 ∧ s.leader 127 = 127 ∧ s.width 127 = 1 ∧ s.rx 127 = .down) := by unfold Accepted; decide

/-- 1080p50, as a 3G level A link carries it. -/
def a1080p50 : Format := ⟨1920, 1080, 50, 1, 0, 0, 1, 0, false, 0, 1, true, 0⟩

theorem witness_DecoderFormats :
    (let s := strandAt 1 4 5 []
     Unrouted s ∧ s.decoding 127 = true ∧ s.accepts 127 a1080p50 = true ∧ s.bit (Reg.wirFmt 127) 0 = false ∧ s.zone (127 / 8) ≠ 3 ∧ s.proto 127 = 1 ∧ a1080p50.byId = true ∧
     s.accepts 127 (s.reported 127 a1080p50 []) = true) ∧
    (strandAt 1 4 5 [(Reg.wirFmt 127, 1)]).decoding 127 = true ∧ (strandAt 1 4 5 [(Reg.wirFmt 127, 1)]).bit (Reg.wirFmt 127) 0 = true := by unfold Unrouted; decide

/-- A flow of descriptor `d` under a key, and an interface on strand 127 whose transmitter its own frames may use. -/
def ifAt (flows : Tab Flow) (l : List (Nat × Word)) : State :=
  let s := owns [objStrand 127, flowObj (flowKey 2 511), objEi 0] (regs l (strandAt 2 0x0A 5 [(Reg.strState 127, 0x115)]))
  { s with wire := { s.wire with flows := flows } }
def aFlow (send : Bool) : Flow := flowStart { parseFlow [] with flow := 511, kind := 4, send := send, enable := true, ifA := 127, pathA := (0xE0000001, 0, 0, 0), pt := 96, depth := 100 }

/-- A broadcast frame of a type, from the station 02:00:00:00:00:01. -/
def anEth (etherType : Nat) (payload : List Nat) : List Byte := natBytes (List.replicate 6 0xFF ++ [2, 0, 0, 0, 0, 1] ++ beBytes 2 etherType ++ payload)

/-- An ARP request of 10.0.0.1 for 10.0.0.2, and a UDP packet to 224.0.0.1. -/
def anArp : List Byte := anEth 0x0806 ([0, 1, 8, 0, 6, 4, 0, 1, 2, 0, 0, 0, 0, 1, 10, 0, 0, 1] ++ List.replicate 6 0 ++ [10, 0, 0, 2])
def anUdp : List Byte := anEth 0x0800 (ipv4 0 0 1 17 0x0A000001 0xE0000001 [] (udp 0 0 [1, 2]))

set_option maxRecDepth 100000 in
theorem witness_InterfaceReceives :
    (let s := ifAt [(flowKey 2 511, aFlow false)] []
     s.isInterface 127 = true ∧ s.rx 127 = .up ∧ s.hasFec 127 = false ∧ s.bit (Reg.ethIfCtrl 127) 16 = false ∧ s.mayTransmit 127 = true ∧ s.bit (Reg.ethIfCtrl 127) 17 = false ∧
     s.flowOf (flowKey 2 511) = some (aFlow false) ∧ (aFlow false).desc.enable = true ∧ (aFlow false).desc.send = false ∧ s.zone (127 / 8) ≠ 3) ∧
    (let s := ifAt [(flowKey 2 511, aFlow false)] [(Reg.ethIfIpv4 127, 0x0A000002)]
     parseEth (byteNats (List.replicate 13 0)) = none ∧
     (match parseEth (byteNats anArp) with
      | some e => decide (s.frameFor 127 e.dst = true ∧ e.etherType = 0x0806) && (arpReply (s.ifMac 127) (s.ifIp 127) e).isSome
      | none => false) = true ∧
     (match parseEth (byteNats anUdp) with
      | some e => decide (s.frameFor 127 e.dst = true ∧ e.etherType = 0x0800) &&
          (match parseIpv4 e.payload with
           | some p => decide (p.options = false ∧ p.fragment = false ∧ p.proto = 17 ∧ s.flowTakes 127 e.tci p.src p.dst (beNumAt p.payload 2 2) = true)
           | none => false)
      | none => false) = true ∧
     (match parseEth (byteNats (anEth 0x1234 [])) with | some e => decide (e.etherType ≠ 0x0806 ∧ e.etherType ≠ 0x0800 ∧ e.etherType ≠ 0x888E ∧ e.etherType ≠ 0x88CC) | none => false) = true) ∧
    (ifAt [] []).bit (Reg.ethIfCtrl 127) 17 = false ∧
    (let s := ifAt [] [(Reg.ethIfCtrl 127, 0x20000), (Reg.tenEvqCfg 0, 0x00010001), (Reg.tenStatus 0, 0x10)]
     s.bit (Reg.ethIfCtrl 127) 17 = true ∧ s.owner (objStrand 127) = some 0 ∧ s.bit (Reg.tenEvqCfg 0) 0 = true ∧ s.bme 0 = true ∧ (s.evq 0).entries.length < s.evqSize 0 - 1 ∧
     (List.replicate 40 (0 : Byte)).length ≤ 40) := by decide

theorem witness_InterfaceSends :
    (let b : List Byte := List.replicate 12 0 ++ [0x88, 0xCC]
     Accepted o0 (ifAt [] []) ∧ ethSendFrameCheck o0 127 b.length (some b) (ifAt [] []).begin = none) ∧
    tabGet 127 ({ wireInit with sending := [(127, o0)] } : WireState).sending = some o0 ∧
    (let s := { ifAt [] [] with key := { keyInit with slots := [(255, ⟨List.replicate 16 0, 0x111, false⟩)] } }
     macsecSaSetCheck o0 127 false 0 3 255 0xFFFFFFFF s.begin = none) ∧
    (let s := ifAt [] [(Reg.ethIfCtrl 127, 1)]
     s.clocksRun = true ∧ s.bit (Reg.ethIfCtrl 127) 0 = true ∧ s.tim.parent = none ∧ s.tim.parent ≠ some 127 ∧ s.zone (127 / 8) ≠ 3 ∧ s.mayTransmit 127 = true ∧ s.bit (Reg.ethIfCtrl 127) 16 = false) ∧
    tabGet 127 ({ timInit with delayOut := [(127, 5)] } : TimeState).delayOut = some 5 ∧ ({ timInit with parent := some 127 } : TimeState).parent = some 127 := by
  unfold Accepted; decide

/-- The bytes of an ancillary receive descriptor of flow 511. -/
def flowBytes : List Byte := [0xFF, 0x01, 4, 2, 127] ++ List.replicate 27 0 ++ [96] ++ List.replicate 7 0 ++ [100] ++ List.replicate 215 0

set_option maxRecDepth 100000 in
theorem witness_Flows_release :
    let d := { parseFlow [] with kind := 0, enable := true, paired := true, ifA := 127, port := 0, height := 1, bits := 10 }
    let f := { flowStart d with seen := [⟨65537, 0, 0, 0, false, []⟩], lastSeq := some 65534, lastPacket := 1 }
    let k := flowKey 0 511
    let s := { ifAt [(k, f)] [(Reg.splEiStatus 0, 1)] with now := 1000 }
    s.stopped (flowZone k) = false ∧ s.flowOf k = some f ∧ d.enable = true ∧ d.send = false ∧ releasedTs f 0 = false ∧ f.lastPacket ≠ 0 ∧ s.releaseDue d 0 = true ∧
      1 ≤ seqAhead (seqSpan d) 65534 65537 ∧ seqAhead (seqSpan d) 65534 65537 < seqSpan d / 2 ∧ 65534 < seqSpan d ∧ 65537 < seqSpan d ∧ d.kind = 0 ∧ d.quad = 0 ∧ s.eiPresent d.port = true ∧
      ∀ e ∈ s.wire.flows, e.2.desc.kind ≠ 4 := by decide

set_option maxRecDepth 100000 in
theorem witness_Flows :
    (let k := flowKey 2 511
     k % 0x10000 < 512 ∧ k / 0x10000 < 3 ∧ k = flowKey (flowClass (parseFlow flowBytes).kind) (parseFlow flowBytes).flow ∧
     (Accepted o0 (ifAt [] []) ∧ flowSetCheck o0 (parseFlow flowBytes) none (ifAt [] []).begin = none ∧ (ifAt [] []).flowOf k = none) ∧
     flowSetCheck o0 (parseFlow flowBytes) none (ifAt [(k, flowStart (parseFlow flowBytes))] []).begin = none ∧
     (let s := ifAt [(k, aFlow false)] [(flowWin k, 0xE)]
      s.flowOf k = some (aFlow false) ∧ (aFlow false).desc.enable = true ∧ (aFlow false).desc.send = false ∧ (aFlow false).desc.kind = 4 ∧ s.bit (flowWin k) 1 = true ∧
      s.bit (flowWin k) 2 = true ∧ s.bit (flowWin k) 3 = true ∧ ({ aFlow false with lastPacket := 1 } : Flow).lastPacket ≠ 0 ∧ s.stopped (flowZone k) = false ∧ s.stopped (127 / 8) = false ∧
      pktOf (aFlow false).desc 0 ⟨0, 0, 0, 0xE0000001, 0, false, false, 96, 0, 0, 0, []⟩ = true ∧ pktOf (aFlow false).desc 0 ⟨0, 0, 0, 0xE0000001, 0, false, false, 97, 0, 0, 0, []⟩ = false) ∧
     (let s := ifAt [(k, aFlow true)] []
      s.flowOf k = some (aFlow true) ∧ (aFlow true).desc.send = true ∧ (aFlow true).queue = [] ∧ ({ aFlow true with queue := [⟨0, true, []⟩] } : Flow).queue = [⟨0, true, []⟩] ∧ s.stopped (127 / 8) = false ∧ ∀ p ∈ flowPaths (aFlow true).desc, s.mayTransmit p.1 = true ∧ s.bit (Reg.ethIfCtrl p.1) 16 = false)) := by unfold Accepted; decide

/-- A change set of tenancy 0 with one arm. -/
def splSet (id mode : Nat) (ph : SetPhase) (a : Arm) : ChangeSet := ⟨id, .splice, 0, 0, a.dest, mode, 0, false, ph, [a], [], [], [], 0, 0, [], false, false, 0, false, [], []⟩

/-- An arm with source 5. -/
def splArm (d : Nat) : Arm := ⟨d, some 5, true, false, .essence, none, false, 0, none, false, 0, none⟩

/-- Change sets waiting. -/
def withSets (l : List ChangeSet) (s : State) : State := { s with spl := { s.spl with sets := l, nextSet := 9 } }

/-- Tenancy 0 owns egress port 1023, which nothing consumes, and ingress port 5. -/
def splAt (l : List (Nat × Word)) : State := owns [objDest 1023, objEi 5] (svc l)

/-- The same with the egress port the input of SDI encoder 127, paced by generator 240, whose raster matches. -/
def runAt (l : List (Nat × Word)) : State :=
  let s := owns [objDest 1023, objEi 5] (svc ([(Reg.scnStatus 240, 0x20)] ++ l))
  { s with live := [(Reg.scnPace 1023, 0x1F0)], spl := { s.spl with eoBind := [(1023, .sdiEnc 127 0)] } }

set_option maxRecDepth 100000 in
theorem witness_Hitches :
    (let s := { splAt [(Reg.splEiStatus 5, 1)] with pending := [] }
     Accepted o0 s ∧ s.begin.destRuns 1023 = false ∧ hitchCheck 0 1023 (some 5) 0 0 false false 0 none true s.begin = none ∧ hitchCheck 0 1023 none 0 0 false false 0 none true s.begin = none ∧
     s.consumer 1023 = none ∧ s.spl.eiBind = []) ∧
    (let s := runAt [(Reg.splEiStatus 5, 1), (Reg.splArmSrc (destWin 1023), 5)]
     Accepted o0 s ∧ s.begin.destRuns 1023 = true ∧ s.spl.sets = [] ∧ hitchCheck 0 1023 (some 5) 0 0 false false 0 none true s.begin = none ∧
     hitchCheck 0 1023 none 0 0 false false 0 none true s.begin = none ∧ hitchCheck 0 1023 (armSource 5 false) 2 63 true true 0 none true s.begin = none ∧
     hitchCheck 0 1023 (armSource 0 true) 1 63 true true 86400000000000 none true s.begin = none ∧
     (let v : Word := 0xFFD
      opens s (Reg.splArmCtrl (destWin 1023)) = true ∧ s.serving = true ∧ Machine.destOk 1023 = true ∧ s.destHeld 1023 = false ∧ bitOf v 12 = false ∧ s.actsFor .debug (objDest 1023) = 0 ∧ armSource (s.f (Reg.splArmSrc (destWin 1023)) 10 0) (bitOf v 11) = none ∧
      fld v 2 1 = 2 ∧ fld v 8 3 = 63 ∧
      hitchCheck 0 1023 none 2 63 true true 0 none true (s.begin.setReg (Reg.splArmCtrl (destWin 1023)) ((v ||| wd 1) &&& wd 0xFFE)) = none)) := by
  unfold Accepted; decide

set_option maxRecDepth 100000 in
theorem witness_Takes :
    (let c := { splSet 3 2 .armed (splArm 1023) with group := 63, kind := .group }
     let s := withSets [c] (splAt [])
     Accepted o0 s ∧ targetCheck o0 63 0 s.begin = none ∧ s.targetSet 0 63 0 = some c ∧ takeable c = true ∧ cancellable c = true ∧ (splArm 1023).switched = false ∧
     (splArm 1023).reserve = none ∧ Machine.destOk 1023 = true ∧ s.setOfGroup s.rigOwner (fld (0xFFFFFFFF : Word) 5 0) = some c ∧ groupTenancy .debug s = s.rigOwner ∧ s.setOfDest 1023 = some c ∧
     s.serving = true ∧ [Reg.splTake, Reg.splCancel, Reg.splArmCtrl (destWin 1023)].all (opens s) = true) ∧
    (let c := splSet 3 2 .preroll (splArm 1023)
     let s := withSets [c] (splAt [])
     targetCheck o0 0 1023 s.begin = none ∧ s.targetSet 0 0 1023 = some c ∧ takeable c = true ∧ cancellable c = true) := by
  unfold Accepted; decide

/-- Generator 255 on, with 1125 lines of which 1080 are active from line 45. -/
def genAt (status : Word) (g : GenSt) (src : Nat) : State :=
  let s := svc [(Reg.scnStatus 255, status)]
  let l : Tab Word := [(Reg.scnH1 255, wd (1920 + 88 * 0x10000)), (Reg.scnH2 255, wd (44 + 148 * 0x10000)), (Reg.scnV1 255, wd (1080 + 4 * 0x10000)),
    (Reg.scnV2 255, wd (5 + 36 * 0x10000)), (Reg.scnCtrl 255, wd (1 + 2 * src)), (Reg.scnPace 1023, 0x1FF)]
  { s with live := l, eng := { s.eng with gens := [(255, g)] }, spl := { s.spl with eoBind := [(1023, .dispSrc 0)] } }

set_option maxRecDepth 100000 in
theorem witness_Points :
    (let s := regs [(Reg.splSrc (destWin 1023), 0x805)] (genAt 4 genInit 1)
     s.genRuns 255 = true ∧ s.inGap 255 = false ∧ 1124 < (genTiming s.liveReg 255).vTotal ∧ activeLine (genTiming s.liveReg 255) 1124 = some (1, 1079) ∧
     activeLine (genTiming s.liveReg 255) 45 = some (1, 0) ∧ s.pacedBy 1023 = some 255 ∧ s.showsFill 1023 = false ∧ s.showsHeld 1023 = false ∧
     s.sendsHalved 1023 (s.sentFormat 255 1023).sampling = false ∧ (genAt 4 genInit 1).showsFill 1023 = true ∧ s.zone (255 / 16) ≠ 3 ∧ s.genLine 255 = 0 ∧
     (let u := { s with live := s.live.filter (fun e => decide (e.1 ≠ Reg.scnPace 1023)) }
      u.pacedEos 255 = [] ∧ u.genRuns 255 = true ∧ u.inGap 255 = false) ∧ fld (s.liveReg (Reg.scnCrcCtrl 255)) 9 0 ≠ 1023 ∧
     s.lockState 255 = 2) ∧
    (let s := genAt 4 { genInit with stepping := some 7 } 1
     ({ s with now := 6 } : State).now < 7 ∧ 7 ≤ ({ s with now := 7 } : State).now ∧ (s.genSt 255).stepping = some 7 ∧ (s.genSt 255).fillUntilLocked = false ∧ s.lockState 255 = 2) ∧
    (let s := genAt 2 { genInit with gap := some (9, 5, false) } 0
     ({ s with now := 8 } : State).now < 9 ∧ 9 ≤ ({ s with now := 9 } : State).now ∧ (s.genSt 255).gap = some (9, 5, false) ∧ s.lockSrc 255 = 0) ∧
    ((splAt []).zone (127 / 8) ≠ 3 ∧ (splAt []).atPoint (0x8000 + 127) 0 = true ∧ (splAt []).strand.restores = [] ∧ (splAt []).zone (1023 / 64) ≠ 3 ∧ (splAt []).pwr.change = none ∧ tabGet 127 (splAt []).spl.promos = none ∧ ∀ k < 8, (splAt []).bightDest k ≠ some (0x8000 + 127)) ∧
    (tabGet 1023 ({ splInit with losses := [(1023, ⟨.absent, true, some 3⟩)] } : SpliceState).losses = some ⟨.absent, true, some 3⟩) ∧
    (let s := { strandAt 2 20 5 [] with spl := { splInit with blockReturns := [(127, 1)] } }
     tabGet 127 s.spl.blockReturns = some 1 ∧ Single s 127 ∧ s.proto 127 = 2) ∧
    tabGet (objCp 31) ({ splInit with reloading := [(objCp 31, [])] } : SpliceState).reloading = some [] := by unfold Single; decide

set_option maxRecDepth 100000 in
theorem witness_SetPhases :
    (let c := splSet 3 0 .armed (splArm 1023)
     let s := withSets [c] (splAt [])
     s.findSet 3 = some c ∧ c.engines = [] ∧ c.owner < 4 ∧ Machine.destOk 1023 = true ∧ s.mayEnter c ⟨5⟩ = true ∧ c.checked = false ∧ s.spliceRuns c = [] ∧ s.hooksOf c.id = false) ∧
    (let c := { splSet 3 0 .deferred (splArm 1023) with checked := true, deferrals := 1 }
     (withSets [c] (splAt [])).mayEnter c ⟨5⟩ = true) ∧
    (let c := { splSet 3 2 .preroll (splArm 1023) with checked := true, taken := true }
     let s := withSets [c] (splAt [])
     s.powerWaits 3 = false ∧ s.atPoint c.leader 0 = true ∧ c.taken = true ∧ s.begin.decisionUnfit c ⟨[], [], false, true, 5, 7, []⟩ = none) ∧
    (let c := { splSet 3 2 .decided (splArm 1023) with checked := true }
     let s := withSets [c] (splAt [])
     s.findSet 3 = some c ∧ s.atPoint 1023 0 = true ∧ c.leader = 1023 ∧ c.ops = [] ∧ c.held = [] ∧ s.consumer 1023 = none ∧ s.spl.eiBind = []) ∧
    (let c := { splSet 3 2 .preroll (splArm 1023) with checked := true, deferrals := 6 }
     let s := withSets [c] { splAt [] with pwr := { pwrInit with reqs := [⟨255, false, 0, 0, 0, some 3⟩] } }
     s.findSet 3 = some c ∧ s.powerWaits 3 = true ∧ c.deferrals < 7) := by decide

/-- Key slots. -/
def withSlots (l : Tab KeySlot) (s : State) : State := { s with key := { s.key with slots := l } }
def keyOf (attr : Nat) : KeySlot := ⟨List.replicate (lenBytes (attrLen attr)) 7, attr, false⟩

set_option maxRecDepth 100000 in
theorem witness_Keys :
    (let s := withSlots [(0, keyOf 0x213), (1, keyOf 0x214), (254, keyOf 0x215)] (svc [])
     Accepted o0 s ∧ keyWriteCheck o0 255 0x2F1 0xFFFF (some (List.replicate 32 0)) s.begin = none ∧ keyWriteCheck o0 255 0x1F1 0 (some (List.replicate 24 0)) s.begin = none ∧
     keyZeroCheck o0 255 s.begin = none ∧ keyZeroCheck o0 0xFFFF s.begin = none ∧ keyDeriveCheck o0 1 255 0x215 (some (List.replicate 64 0)) s.begin = none ∧
     keyStoreCheck o0 255 s.begin = none ∧ attestCheck o0 254 s.begin = none ∧ s.key.digestDue = false) ∧
    (let s := withSlots [(0, keyOf 0x213)] (inMode .maintenance [])
     Accepted o0 s ∧ keyDeriveCheck o0 0xFFFE 0 0xFFFF none s.begin = none) := by unfold Accepted; decide

/-- A copy of a record. -/
def recCopy (bank slot seq : Nat) (b : Byte) : RecCopy := ⟨bank, slot, 0, seq, 1, List.replicate 32 b, true, true, false, []⟩
def withRec (r : RecordState) (s : State) : State := { s with rst := r }

set_option maxRecDepth 100000 in
theorem witness_Management :
    (let s := withSlots [(255, keyOf 0x215)] (svc [(Reg.keyAttestSlot, 0x1FF)])
     let s := { s with host := { s.host with challenge := some [1] }, rst := { s.rst with rings := [(5, [recCopy 2 0 1 0])] } }
     s.mode ≠ .off ∧ s.mode ≠ .reset ∧ s.asleep = false ∧ s.mode ≠ .lockdown ∧ s.mgmtRecord 5 0 = some (recCopy 2 0 1 0) ∧ s.mgmtSlot = some 255 ∧ s.host.challenge = some [1] ∧
     s.key.digestDue = false) ∧
    (let s := { inMode .deepSleep [] with host := { hostInit with mgmtModes := true } }
     s.asleep = true ∧ s.mode ≠ .off ∧ s.mode ≠ .reset ∧ s.host.mgmtModes = true ∧ s.pwr.waking = none) := by decide

/-- A record being written to both banks. -/
def aWrite (cls : Nat) (left : List Nat) (committed : Bool) (why : RecWhy) : RecWrite := ⟨cls, 255, 9, 3, List.replicate 32 0, left, committed, why⟩

set_option maxRecDepth 100000 in
theorem witness_Records :
    (let s := withRec { rstInit with writes := [aWrite 6 [2, 3] false .log] } (svc [])
     s.writesTo 6 2 = some (aWrite 6 [2, 3] false .log) ∧ s.writesTo 6 3 = some (aWrite 6 [2, 3] false .log)) ∧
    (withRec { rstInit with writes := [aWrite 2 [2, 3] false (.selector (some o0))] } (svc [])).writesTo 2 2 = some (aWrite 2 [2, 3] false (.selector (some o0))) ∧
    (withRec { rstInit with writes := [aWrite 2 [3] true (.selector (some o0))] } (svc [])).writesTo 2 3 = some (aWrite 2 [3] true (.selector (some o0))) ∧
    (withRec { rstInit with writes := [aWrite 4 [3] true (.key 255 (some o0))] } (svc [])).writesTo 4 3 = some (aWrite 4 [3] true (.key 255 (some o0))) ∧
    (let s := withRec { rstInit with ahead := [(halfKey 6 3, 14)], next := [(halfKey 6 3, 16 * 3)], rings := [(6, [recCopy 3 (halfSlots 6 + 17 * 16) 5 0, recCopy 2 0 5 0])] } (svc [])
     s.recordsRun = true ∧ s.ringAhead 6 3 + 1 < (ringShape 6).2.1 ∧
     (s.sectorCopies 6 3 (s.eraseSector 6 3)) = [recCopy 3 (halfSlots 6 + 17 * 16) 5 0] ∧ ∀ x ∈ s.sectorCopies 6 3 (s.eraseSector 6 3), s.keepCopy 6 x = false) ∧
    (let s := withRec { rstInit with lockPage := List.replicate 15 (some (List.replicate 48 1)) } (inMode .maintenance [])
     let v : Word := 0xA501
     let l : Word := 0xA502
     s.mode = .maintenance ∧ (bitOf v 0 = true ∧ bitOf v 1 = false ∧ s.rst.locked = false ∧ s.rst.lockPage.length < 16 ∧ fld v 15 8 = 0xA5) ∧
     (bitOf l 0 = false ∧ bitOf l 1 = true ∧ fld l 15 8 = 0xA5 ∧ s.ownerHash.isSome = true)) ∧
    (withRec { rstInit with locked := true } (inMode .maintenance [])).rst.locked = true ∧
    (let s := withRec { rstInit with rings := [(6, [recCopy 3 0 5 0, recCopy 2 0 5 0])] } (svc [(Reg.recStatus, 0x100)])
     Accepted o0 s ∧ recReadCheck o0 6 0 864 5 s.begin = none ∧ (∀ a ∈ s.ring 6, a.suspect = true ∨ ∀ b ∈ s.ring 6, twins a b = false) ∧
     (s.selectRec 6 0 5).isSome = true) := by unfold Accepted; decide

/-- The same for the copy that a write leaves: intact, with a corrected group; and not intact, with one that reads torn. -/
theorem witness_Records_copy : let p : List Byte := []
    let a := writeCopy 6 2 255 9 3 p (groupCount p) (slotFlips [(0, 0)] [])
    let b := writeCopy 6 2 255 9 3 p (groupCount p) (slotFlips [] [(0, 0)])
    a.intact = true ∧ countGroups 6 p a.pages .bad = 0 ∧ countGroups 6 p a.pages .corrected = 1 ∧ b.intact = false ∧
      groupCount p = 4 := by decide +kernel

/-- A rig: what the slots hold, both VALID, slot A running. -/
def rigged (r : RigState → RigState) (s : State) : State :=
  let sel : Selector := ⟨some .a, true, true, .a, false, 0⟩
  { s with rig := r { rigInit with slotA := some (rigImg 1), slotB := some (rigImg 2), selector := sel, running := some (rigImg 1), runningSlot := some .a } }

set_option maxRecDepth 100000 in
theorem witness_RigSlots :
    (let s := rigged id (svc [(Reg.sysRigStatus, 4)])
     Accepted o0 s ∧ rigWriteSlotCheck o0 (slotCode (some .b)) (12582912 - 4096) 4096 s.begin = none ∧ rigVerifySlotCheck o0 (slotCode (some .b)) s.begin = none ∧
     rigSelectSlotCheck o0 (slotCode (some .b)) s.begin = none ∧ rigConfirmCheck o0 s.begin = none) ∧
    (let w : SlotJob := ⟨.b, o0, 0, 256, some [1], none, true⟩
     [w].find? (fun x => decide (some x.slot = some Slot.b) && x.erased) = some w) ∧
    (let v : Slot × Origin := (.b, o0)
     [v].find? (fun x => decide (some x.1 = some Slot.b)) = some v) := by unfold Accepted; decide

/-- The same for the load checks: slot B holds an image that passes, or nothing. -/
theorem witness_RigSlots_load : (let s := rigged id (svc [])
     s.rig.running = some (rigImg 1) ∧ s.loadCheck (s.image .b) = none) ∧ (svc []).loadCheck ((svc []).image .b) = some (1, 0xFF) :=
  ⟨⟨rfl, img_load_ok _ (by decide) (by decide) (by decide)⟩, rfl⟩

/-- A re-rig to slot B. -/
def rezoning (r : Rezone) (l : List (Nat × Word)) : State := rigged (fun x => { x with rezone := some r }) (svc l)

/-- A re-rig of zones 0 and 15, of which some are done. -/
def aRezone (done : List Nat) (verified applied : Bool) : Rezone := ⟨.b, 0x8001, done, verified, none, o0, [], applied, [], 0⟩

theorem img_same (mask a b : Nat) : sameOutside mask (rigImg a) (rigImg b) = true := by
  unfold sameOutside
  rw [List.all_eq_true]
  intro k h
  have hk : k < 64 := List.mem_range.1 h
  rw [img_section_says a k hk, img_section_says b k hk]; simp

theorem img_torn (s : State) : s.sectionCheck (rigImg 2) [(19, [1])] 19 = some (11, 19) := by
  have h : sha384 [1] ≠ (testEntrySays 19).digest := by decide +kernel
  unfold State.sectionCheck
  rw [img_section_says 2 19 (by omega)]
  exact if_pos h

theorem img_zone_torn (s : State) : s.bodyCheck (rigImg 2) [(19, [1])] ((maskZones 0x8001).flatMap zoneSections) = some (11, 19) := by
  have e : (maskZones 0x8001).flatMap zoneSections = [4, 21, 22, 19, 51, 52] := by decide
  have o : ∀ k, k ≠ 19 → k < 64 → s.sectionCheck (rigImg 2) [(19, [1])] k = none := by
    intro k h hk
    rw [← img_section_ok s 2 k hk]
    have f : storedRead (rigImg 2) [(19, [1])] k = storedRead (rigImg 2) [] k := by
      unfold storedRead; rw [List.find?_cons_of_neg (by simpa using fun h' => h h'.symm)]
    unfold State.sectionCheck State.plainSection; rw [f]
  unfold State.bodyCheck
  rw [e, img_present_ok 2 _ (by decide)]
  simp only [List.map_cons, List.map_nil, o 4 (by omega) (by omega), o 21 (by omega) (by omega), o 22 (by omega) (by omega), o 51 (by omega) (by omega),
    o 52 (by omega) (by omega), img_torn]
  rfl

set_option maxRecDepth 100000 in
theorem witness_LiveRerig :
    (let r := aRezone [] false false
     let s := rezoning r [(Reg.sysZoneState, 0x40000001)]
     s.serving = true ∧ s.zone 0 = 1 ∧ s.zone 15 = 1 ∧ r.failed = none ∧ r.verified = false ∧ r.done = []) ∧
    (let r := aRezone [0] true false
     let s := rezoning r [(Reg.sysZoneState, 0x40000000)]
     s.zoneAtWork r = none ∧ nextZone r = some 15 ∧ Unrouted s) ∧
    (let r := aRezone [0] true false
     let s := rezoning r [(Reg.sysZoneState, 0x80000000)]
     s.zoneAtWork r = some 15 ∧ s.zone 15 = 2 ∧ Unrouted s ∧ s.wire.flows = [] ∧ s.store.recInUse = [] ∧ ∀ p < 256, s.bit (Reg.fstPlyStatus p) 0 = false) ∧
    (let r := aRezone [0] true true
     let s := rezoning r [(Reg.sysZoneState, 0xC0000000)]
     s.zoneAtWork r = some 15 ∧ s.zone 15 = 3 ∧ s.zoneWakes 15 = false ∧
     ({ s with pwr := { s.pwr with reqs := [⟨191, false, 1, 0, 0, none⟩] } } : State).zoneWakes 15 = true ∧ nextZone { r with done := r.done ++ [15] } = none) ∧
    (let r := aRezone [] true true
     nextZone { r with done := r.done ++ [0] } = some 15) := by unfold Unrouted; decide

/-- The same for what is read of the images. -/
theorem witness_LiveRerig_images :
    (let s := rigged id (svc [])
     Accepted o0 s ∧ rigRezoneCheck o0 (slotCode (some .b)) 0xFFFF s.begin = none) ∧
    (let s := rezoning (aRezone [] false false) [(Reg.sysZoneState, 0x40000001)]
     let ks := (maskZones 0x8001).flatMap zoneSections
     s.image .b = some (rigImg 2) ∧ s.rezoneSigned (rigImg 2) = none ∧ s.bodyCheck (rigImg 2) [] ks = none ∧ s.bodyCheck (rigImg 2) [] (zoneSections 15) = none ∧
     firstFail [s.rezoneSigned (rigImg 2), s.bodyCheck (rigImg 2) [(19, [1])] ks] = some (11, 19) ∧ s.rig.running = some (rigImg 1)) ∧
    zonePlan (rigImg 1) 15 = some emptyZone ∧ zonePlan (rigImg 2) 15 = some emptyZone := by
  have g : ∀ r l, (rezoning r l).ownerHash = none → (rezoning r l).rezoneSigned (rigImg 2) = none := by
    intro r l h
    have k : (rezoning r l).keyAllowed (blockKeyDigest (signatureBlock (rigImg 2))) = true := by unfold State.keyAllowed; rw [h]
    unfold State.rezoneSigned; rw [k, img_signature_ok]; rfl
  refine ⟨⟨by unfold Accepted; decide, ?_⟩, ⟨rfl, g _ _ (by decide), img_body_ok _ 2 _ (by decide), img_body_ok _ 2 _ (by decide), ?_, rfl⟩, rfl, rfl⟩
  · have f : (rigged id (svc [])).begin.rezoneFits .b 0xFFFF = true := by
      show (decide _ && _ && sameOutside 0xFFFF (rigImg 2) (rigImg 1)) = true
      rw [img_same]; decide
    have n : needSlot (slotCode (some .b)) (fun k => (rigged id (svc [])).begin.rezoneFits k 0xFFFF) .stateConflict = none := by
      show need ((rigged id (svc [])).begin.rezoneFits .b 0xFFFF) .stateConflict 0 = none
      rw [f]; rfl
    unfold rigRezoneCheck
    rw [n]; decide
  · rw [g _ _ (by decide), img_zone_torn]; rfl

set_option maxRecDepth 100000 in
/-- The same for a zone whose domain wakes once it has its plan. -/
theorem witness_LiveRerig_wakes :
    let r := aRezone [0] true false
    let s := rezoning r [(Reg.sysZoneState, 0xC0000000)]
    let s := { s with pwr := { s.pwr with reqs := [⟨191, false, 1, 0, 0, none⟩] } }
    let staged := fun (f : Nat) => fidImageOf (((r.staged.find? (fun e => decide (e.1 = 20 + f))).map Prod.snd).getD [])
    s.zoneAtWork r = some 15 ∧ s.zone 15 = 3 ∧ r.applied = false ∧ (setRezone (some { r with applied := true, drops := droppedHitches 15 emptyZone emptyZone s.begin })
      (rezoneApply 15 emptyZone emptyZone staged s.begin)).zoneWakes 15 = true := by decide +kernel

theorem witness_Resets : State.reset.rst.writes = [] ∧ State.reset.pwr.tamper = false ∧ (svc []).mode ≠ .off ∧ (inMode .off []).mode = .off := by decide

set_option maxRecDepth 100000 in
theorem witness_BringUp :
    State.reset.mode = .bringUp ∧ State.reset.pwr.booted = false ∧
    (let o : ReleaseObs := ⟨true, true, true, true, 0, some 0, true, 0⟩
     let s := inMode .reset []
     s.mode = .reset ∧ s.mayRelease o = true ∧ s.pwr.tamper = false ∧ s.key.rootFail = false ∧ s.mayRelease { o with refclk := false } = false ∧
     s.mayRelease { o with bootCopy := none } = true) ∧
    (let s := rigged (fun r => { r with loading := some .b }) (inMode .bringUp [])
     s.rig.loading = some .b ∧ s.mode = .bringUp ∧ s.rig.fellBack = false ∧ (svc []).mode ≠ .bringUp) ∧
    (let s := { inMode .bringUp [(Reg.sysRigStatus, 0x20)] with pwr := { pwrInit with booted := true } }
     s.mode = .bringUp ∧ s.pwr.booted = true ∧ s.rig.loading = none ∧ s.bare = true ∧ s.store.plan = none) ∧
    (let s := { svc [] with pwr := { pwrInit with avsTarget := 720 } }
     s.avsMay = true ∧ s.pwr.avsWaiting = none ∧ s.avsSince 100000 = true ∧ 720 ≤ 730 ∧ 730 ≤ s.pwr.avsTarget + 10 ∧ s.pwr.avsTarget ≤ 730 + 10) ∧
    (let s := { svc [] with now := 1000000, pwr := { pwrInit with avsWaiting := some 720, avsSent := some 0 } }
     s.avsMay = true ∧ s.pwr.avsWaiting = some 720 ∧ s.avsSince 1000000 = true) := by decide

/-- The same for the image that is loaded. -/
theorem witness_BringUp_load : (let s := rigged (fun r => { r with loading := some .b }) (inMode .bringUp [])
     s.image .b = some (rigImg 2) ∧ s.loadCheck (some (rigImg 2)) = none) := ⟨rfl, img_load_ok _ (by decide) (by decide) (by decide)⟩

set_option maxRecDepth 100000 in
theorem witness_ModeChanges :
    (let s := svc []
     Accepted o0 s ∧ modeRequestCheck o0 3 0 s.begin = none ∧ modeRequestCheck o0 4 0 s.begin = none ∧ modeRequestCheck o0 6 0 s.begin = none ∧ s.spl.sets = [] ∧
     s.host.batches = [] ∧ s.tim.runs = [] ∧ s.store.copy = none) ∧
    (let s := { svc [] with pwr := { pwrInit with change := some ⟨6, none, 0⟩ } }
     s.pwr.change = some ⟨6, none, 0⟩ ∧ s.rst.writes = [] ∧ s.pwr.wakeHeld = none ∧ Unrouted s ∧ s.asleep = false ∧ ∀ n < 128, s.rx n = .down ∧ s.feeds n = false) ∧
    (let s := inMode .doze [(Reg.pwrWakeTimeLo, 1)]
     s.pwr.waking = none ∧ s.asleep = true ∧ s.reg Reg.pwrWakeTimeLo ≠ 0 ∧ s.pwr.tamper = false) ∧
    (({ pwrInit with waking := some ⟨3, none, 0⟩, tamper := true } : PowerState).waking = some ⟨3, none, 0⟩) ∧
    ((svc []).mode = .service ∧ (svc []).mode ≠ .off ∧ (svc []).rst.writes = [] ∧ (svc []).pwr.tamper = false) ∧
    (let r : BelayReq := ⟨255, false, 0, 0, 0, none⟩
     nextReq [r] = some r ∧ (svc []).stepsNow + domStep 255 ≤ 10 * (svc []).f Reg.pwrBelayCfg 5 0) ∧
    (let s := svc [(Reg.pwrDomOn 7, 0x80000000)]
     s.domOn 255 = true ∧ s.domBusy 255 = false ∧ s.pwr.reqs = []) := by unfold Accepted Unrouted; decide

/-- Sheet bend 95, compositor 31 (8 layers) and generator 255, player 255 and recorder 255 of tenancy 0. With `run`, their output port 5 feeds the running port 1023; the
generator is on and the recorder records. -/
def engAt (run : Bool) (l : List (Nat × Word)) : State :=
  let s := owns [objSb 95, objCp 31, objTg 255, objTg 240, objTg 0, objPly 255, objRec 255, objDest 1023, objEi 5] (runAt ([(Reg.sbdBind 95, 0x50000), (Reg.cmpBind 31, 5), (Reg.cmpId 31, 0x8000),
    (Reg.fstPlyId 255, 0x50000), (Reg.fstRecStatus 255, if run then 1 else 0)] ++ (if run then [(Reg.splSrc (destWin 1023), 0x805)] else []) ++ l))
  if run then { s with live := s.live ++ [(Reg.scnCtrl 255, 1)] } else s

def ones (n : Nat) : List Word := List.replicate n 0x00100010

set_option maxRecDepth 100000 in
theorem witness_StagedValues :
    (∀ run : Bool, let s := engAt run []
     s.spl.sets = [] ∧ s.eng.gangs = [] ∧ Accepted o0 s ∧
     regFormCheck o0 true (objSb 95) (objSb 95) true 0x10 (sbdRegs 95) (some (ones 32)) none s.begin = none ∧
     regFormCheck o0 true (objCp 31) (objCp 31) true 1 (compRegs 31) (some [0x10]) none s.begin = none ∧
     regFormCheck o0 true (objTg 255) (objTg 255) true 2 (crcRegs 255) (some (ones 4)) none s.begin = none ∧
     s.layerThere 255 = true ∧ regFormCheck o0 true (objCp 31) (objCp 31) true 0x20 (layerRegs 31 7) (some (ones 32)) none s.begin = none ∧
     regFormCheck o0 true (objTg 255) (objTg 255) true 2 (scnRegs 255) (some (ones 32)) none s.begin = none ∧
     regFormCheck o0 true (objRec 255) (objRec 255) false 2 [Reg.fstRecCtrl 255, Reg.fstRecBase 255, Reg.fstRecSlot 255, Reg.fstRecDepth 255] (some (ones 4)) none s.begin = none ∧
     regFormCheck o0 true (objPly 255) (objPly 255) false 8 [Reg.fstPlyCtrl 255, Reg.fstPlyTg 255, Reg.fstPlyDelay 255, Reg.fstPlyCueLo 255, Reg.fstPlyCueHi 255] (some (ones 5)) none
       s.begin = none ∧
     (s.engRuns (objSb 95) = run ∧ s.engRuns (objCp 31) = run ∧ s.engRuns (objTg 255) = run ∧ s.objRuns (objRec 255) = run ∧ s.objRuns (objPly 255) = run) ∧
     s.runRefused (objTg 255) = false ∧
     (run = false → ∀ e ∈ [(objSb 95, selected 0x10 (sbdRegs 95) (ones 32)), (objCp 31, selected 1 (compRegs 31) [0x10]), (objCp 31, selected 0x20 (layerRegs 31 7) (ones 32)),
         (objTg 255, selected 2 (scnRegs 255) (ones 32)), (objTg 255, selected 2 (crcRegs 255) (ones 4)), (objSb 95, [(Reg.sbdOutSize 95, 0x00200020)])],
       (writeShadows e.2 s).runRefused e.1 = false ∧ (writeShadows e.2 s.begin).idleShort e.1 = none) ∧
     s.engLead (objSb 95) = objSb 95 ∧ opens s (Reg.scnTableLoad 255) = true ∧ opens s (Reg.sbdOutSize 95) = true ∧ s.serving = true ∧
     (∃ l, locate ((Reg.sbdOutSize 95)) = some l ∧ l.row.acc = .rws ∧ ctxOwner l = some (objSb 95) ∧ (s.begin.setReg ((Reg.sbdOutSize 95)) 0x00200020).badValue 0 l 0x00200020 = none) ∧
     s.reloading (objSb 95) = false ∧ s.ctx (objSb 95) < 2 ∧ s.bit (Reg.scnStatus 255) 14 = false ∧ s.reloading (objTg 255) = false ∧ s.ctx (objTg 255) < 2 ∧
     (tableTiming 0 4).isSome = true ∧ (run = false → bitOf (s.reg (Reg.scnCtrl 255)) 0 = false)) ∧
    (let s := engAt true []
     (regFormCheck o0 true (objDest 1023) (objDest 1023) false 1 [Reg.scnPace 1023] (some [0x1F0]) none s.begin = none ∧ s.objRuns (objDest 1023) = true) ∧
     (let s := { s with live := [] }
      regFormCheck o0 true (objDest 1023) (objDest 1023) false 1 [Reg.scnPace 1023] (some [0]) none s.begin = none ∧ s.objRuns (objDest 1023) = false)) := by unfold Accepted; decide

/-- Handle 4095 of tenancy 0. -/
def withHandle (s : State) : State := { s with eng := { s.eng with handles := [(4095, ⟨0, 0, 2, 64, 64, 256, 0, 0⟩)] } }

/-- A frame store with one ready extent, the partition of tenancy 0, channels in states. -/
def storeAt (l : List (Nat × Word)) (f : StoreState → StoreState) : State :=
  let s := svc ([(Reg.fstStatus, 1), (Reg.fstTenPart 0, 0x10000), (Reg.fstTenReadyExt 0, 1), (Reg.fstExtents, 1), (Reg.fstBudgetPct, 90), (Reg.fstCopyRate, 1)] ++ l)
  { s with store := f { storeInit with plan := some ⟨0, List.replicate 12 [16], 237, 85⟩, counted := [0, 1] } }

set_option maxRecDepth 100000 in
theorem witness_TablesAndBuffers :
    (let s := engAt true []
     [Reg.sbdTblLoad 95, Reg.sbdTblData 95, Reg.cmpTblData 31, Reg.cmpLFlip 31 7].all (opens s) = true ∧ s.eng.gangs = [] ∧ Accepted o0 s ∧ sbdTableCheck o0 95 1 0xFF (some [1]) s.begin = none ∧ sbdTableCheck o0 95 7 4 none s.begin = none ∧
     s.sbdTableUsed 95 5 = false ∧ s.sbdTableUsed 95 4 = true ∧ s.f (Reg.sbdTblAddr 95) 11 0 < sbdTableSize 0 ∧ s.sbdTableUsed 95 (s.f (Reg.sbdTblAddr 95) 18 16) = true ∧
     (regs [(Reg.sbdTblAddr 95, 0x70BFF)] s).sbdTableUsed 95 7 = false ∧ compTableCheck o0 31 3 (some [1]) s.begin = none ∧ s.bankUsed 31 3 = false ∧
     ({ s with live := [(Reg.cmpLCtrl 31 7, 0x1881)] } : State).bankUsed 31 3 = true) ∧
    (let s := withHandle (engAt false [])
     let s := { s with live := [(Reg.cmpLCtrl 31 7, 4)] }
     tabGet 255 s.eng.flips = none ∧ flipCheck 0 255 4095 0xFFFF s.begin = none ∧ flipCheck 0 255 4095 255 s.begin = none ∧
     fld (4095 : Word) 11 0 = 4095 ∧ s.layerThere 255 = true ∧ s.actsFor .debug (objCp 31) = 0) := by unfold Accepted; decide

set_option maxRecDepth 100000 in
theorem witness_TablesAndBuffers_release : releaseCheck o0 4095 (withHandle (svc [])).begin = none := by decide +kernel

set_option maxRecDepth 100000 in
/-- The same for REGISTER_BUFFER: a frame of 64 × 64 at the start of a partition. -/
theorem witness_TablesAndBuffers_register :
    let s := storeAt [] id
    Accepted o0 s ∧ s.eng.gangs = [] ∧ registerCheck o0 0 2 64 64 256 0 0 s.begin = none := by
  have h : ((storeAt [] id).begin.freeHandles).isEmpty = false := by
    have m : 0 ∈ (storeAt [] id).begin.freeHandles := List.mem_filter.2 ⟨List.mem_range.2 (by decide), by decide⟩
    cases e : (storeAt [] id).begin.freeHandles with
    | nil => rw [e] at m; cases m
    | cons => rfl
  refine ⟨by unfold Accepted; decide, by decide, ?_⟩
  unfold registerCheck
  rw [h]
  decide

set_option maxRecDepth 100000 in
theorem witness_StoreChannels :
    ((storeAt [(Reg.fstChStatus 11, 2)] id).chState 11 = 2 ∧ (storeAt [(Reg.fstChStatus 11, 3)] id).chState 11 = 3 ∧
     (let s := storeAt [(Reg.fstChStatus 11, 3)] (fun f => { f with power := [(11, o0)] })
      tabGet 11 s.store.power = some o0) ∧ (storeAt [] id).storeOn = true ∧ tabGet 11 (storeAt [] id).store.kept = none ∧ (storeAt [] id).store.filling = false ∧
     tabGet 11 (storeAt [] id).store.power = none ∧ trainReason (storeAt [] id).store.plan 11 ⟨some 16, none, true, true, 0, 5, 5⟩ = 0 ∧
     trainReason (storeAt [] id).store.plan 11 ⟨some 32, none, true, true, 0, 5, 5⟩ = 1 ∧ trainReason (storeAt [] id).store.plan 11 ⟨some 16, none, true, true, 15, 5, 5⟩ = 15) ∧
    (let s := storeAt [(Reg.fstExtents, 0)] id
     s.f Reg.fstExtents 31 16 < s.extents ∧ s.extents < 65536) ∧
    (let s := storeAt [(Reg.fstChStatus 11, 4), (Reg.fstChStatus 0, 4)] (fun f => { f with spares := [(0, [13])] })
     Accepted o0 s ∧ evacuateCheck o0 11 s.begin = none ∧ s.chState 11 = 4 ∧ s.lanesOn 11 = [(0, 11)]) ∧
    (let s := storeAt [(Reg.fstChStatus 11, 6), (Reg.fstChStatus 0, 4)] (fun f => { f with lanes := [(11, 13)] })
     Accepted o0 s ∧ rebalanceCheck o0 11 s.begin = none ∧ s.lanesHomed 11 = [(0, 11)]) ∧
    (let s := storeAt [(Reg.fstChStatus 11, 1)] id
     Accepted o0 s ∧ channelPowerCheck o0 11 true s.begin = none) ∧
    (let s := regs [(Reg.sysMode, 4)] (storeAt [(Reg.fstChStatus 11, 6)] id)
     Accepted o0 s ∧ channelPowerCheck o0 11 false s.begin = none) ∧
    (let s := storeAt [(Reg.fstChStatus 11, 5), (Reg.fstChStatus 0, 4)] (fun f => { f with spares := [(0, [13])], copy := some ⟨11, false, [(0, 11)], false, o0⟩ })
     s.copyDest ⟨11, false, [(0, 11)], false, o0⟩ = some 13 ∧ 13 < 0xC000 ∧ s.chState 11 = 5) ∧
    (let s := storeAt [(Reg.fstChStatus 11, 6)] (fun f => { f with power := [(11, o0)] })
     tabGet 11 s.store.power = some o0 ∧ s.store.memPwrEn.testBit 11 = false ∧ s.chState 11 ≠ 2 ∧ s.chState 11 ≠ 3) ∧
    (let s := storeAt [(Reg.fstChStatus 11, 7)] id
     3 ≤ s.chState 11 ∧ s.chState 11 ≠ 8 ∧ s.store.copy = none ∧ s.store.filling = false ∧ tabGet 11 s.store.power = none) := by unfold Accepted; decide

/-- A recorder of four slots, writing slot 0, on an input with a format, and a slot header. -/
def head0 (seq flags : Nat) : SlotHead := ⟨seq, 100, 0, 0, 0, 0, flags⟩
def recAt (l : List (Nat × Word)) : State :=
  let s := storeAt ([(Reg.fstRecId 255, 1023 * 0x10000), (Reg.fstRecStatus 255, 1), (Reg.splSrc (destWin 1023), 0x805)] ++ l)
    (fun f => { f with recs := [(255, ⟨8, 3, some 2, [(1, head0 6 1), (2, head0 7 0)], none, false, false⟩)] })
  { s with live := [(Reg.fstRecSlot 255, 0x1000), (Reg.fstRecDepth 255, 4)], spl := { s.spl with eiBind := [(5, .sdiDec 127 0)] },
           wire := { s.wire with formats := [(127, a1080p50)] } }

set_option maxRecDepth 100000 in
theorem witness_StoreUse :
    (let s := storeAt [(Reg.fstTenBar2Base 0, 11)] id
     s.bar2Open = true ∧ 67108864 * 11 + 67108863 + 1 ≤ s.readyBytes 0 ∧ 67108864 * 11 + 67108863 + 1 ≤ s.partBytes 0 ∧
     s.addrFailed (s.storeAddr 0 (67108864 * 11 + 67108863)) = false ∧ 67108864 * 11 + 67108863 + 1 ≤ s.openBytes 0 ∧ s.partPoisoned 0 (67108864 * 11 + 67108863) 1 = false) ∧
    (inMode .lockdown []).bar2Open = false ∧
    (let s := storeAt [(Reg.fstScrubCtrl, 0x10000)] id
     s.bit Reg.fstScrubCtrl 16 = true ∧ s.storeOn = true ∧ s.burstPoisoned 64 = false ∧ 64 < s.extents * extentBytes ∧ s.laneCh (laneOfAddr 64).1 (laneOfAddr 64).2 = 0 ∧
     s.extents * extentBytes ≤ extentBytes) ∧
    (storeAt [] (fun f => { f with poison := [1] })).burstPoisoned 64 = true ∧
    (let s := storeAt [(Reg.fstSrCtrl, 1), (Reg.fstChStatus 11, 4)] id
     s.bit Reg.fstSrCtrl 0 = true ∧ s.chState 11 = 4 ∧ s.quietChannel 11 = true ∧ s.slackAllows 11 = true ∧ tabGet 11 s.store.selfRefresh = none) ∧
    (let s := storeAt [(Reg.fstSrCtrl, 0), (Reg.fstChStatus 11, 4)] (fun f => { f with selfRefresh := [(11, 5)] })
     tabGet 11 s.store.selfRefresh = some 5 ∧ s.asleep = false ∧ s.exitDue 11 = true ∧ 5 + 1000 ≤ ({ s with now := 1005 } : State).now ∧ ({ s with now := 1004 } : State).now < 5 + 1000) ∧
    (let s := engAt true []
     s.zone (sbZone 95) ≠ 3 ∧ s.sbLead 95 = 95 ∧ s.sbRuns 95 = true ∧ sbTiming ({ s with live := s.live ++ [(Reg.sbdCfg 95, 1)] } : State).liveView 95 = 1) ∧
    (let s := recAt []
     let n := (s.recSt 255).nextSlot % (s.recRing 255).2.2
     s.bit (Reg.fstRecStatus 255) 0 = true ∧ (s.hitch (s.recEo 255)).isSome = true ∧ s.eoFormat s.liveReg (s.recEo 255) = some a1080p50 ∧ (s.recSt 255).writing = some 2 ∧
     tabGet 2 (s.recSt 255).heads = some (head0 7 0) ∧ n ≠ 2 ∧ 0 < (s.recRing 255).2.2 ∧ s.slotHeld 255 n = false ∧
     storedFrame a1080p50 ≤ (s.recRing 255).2.1 - 256 ∧ s.bit (Reg.fstRecStatus 255) 2 = false) ∧
    (let s := owns [objPly 255] (recAt [(Reg.fstPlyCtrl 255, 0xFF00)])
     Accepted o0 s ∧ playerCueCheck o0 255 50 s.begin = none ∧ s.cueFrame 255 50 = some 6 ∧ s.objRuns (objPly 255) = false) := by unfold Accepted; decide

/-- Audio of tenancy 0: AMI 8191 on SAP 15, AMO 8191 on AES3 output 15, AMO 8190 into converter 511 whose output is AMI 0; registers as given. -/
def audAt (l : List (Nat × Word)) (f : AudioState → AudioState) : State :=
  let s := owns [objAmi 8191, objAmo 8191, objAmo 8190, objSap 15, objAes 7, objAes 15, objSrc 511, objAmi 0] (svc ([(Reg.audSrcBind 511, 8190), (Reg.audSapRxBind 15, 0x200000), (Reg.audSapTxBind 15, 0x200000)] ++ l))
  { s with aud := f { audInit with amiBind := [(0, .src 511), (8191, .sap 15 31)], amoBind := [(8190, .src 511), (8191, .aes 7 1)] } }

set_option maxRecDepth 100000 in
theorem witness_AudioCommands :
    (let s := audAt [(Reg.audSapRxCfg 15, 2)] id
     Accepted o0 s ∧ audioHitchCheck o0 8191 (some 8191) 0 none s.begin = none ∧ audioHitchCheck o0 8191 none 0 none s.begin = none ∧ s.aud.arms = [] ∧
     audioPortSetCheck o0 8191 1 3 63 s.begin = none ∧ audioPortSetCheck o0 8190 2 0 0 s.begin = none ∧ audioDomainSetCheck o0 0x1F 1 s.begin = none ∧
     agroupSetCheck o0 63 1 s.begin = none ∧ audioTapSetCheck o0 15 1 0x1000 4096 s.begin = none ∧ audioTapSetCheck o0 15 0 0 1 s.begin = none ∧
     aesSetCheck o0 7 5 none s.begin = none ∧ aesSetCheck o0 15 1 (some (List.replicate 64 1)) s.begin = none ∧ srcSetCheck o0 511 1 0x37 s.begin = none) ∧
    (let s := audAt [] (fun a => { a with arms := [⟨8191, some 8191, some o0, 5⟩] })
     s.aud.arms = [⟨8191, some 8191, some o0, 5⟩] ∧ audioHitchCheck o0 8191 none 0 none s.begin = none) ∧
    (let s := audAt [] id
     sapSetCheck o0 15 0xF (some [3, 3, 1, 1]) s.begin = none ∧ sapSetCheck o0 15 0 (some []) s.begin = none) ∧
    (let s := audAt [] id
     s.serving = true ∧ sapRefuse 15 true ((1 : Word) &&& 0xFFFFF) (s.reg (sapRegs 15 true).2.1) s = none ∧
     opens s (sapRegs 15 true).1 = true ∧ opens s (sapRegs 15 false).1 = true ∧ sapRefuse 15 true ((0xC : Word) &&& 0xFFFFF) (s.reg (sapRegs 15 true).2.1) s = some .badField) ∧
    (inMode .lockdown []).serving = false := by unfold Accepted; decide

/-- The same with AMO 8191 the only output, of which something is said. -/
def oneAt (l : List (Nat × Word)) (f : AudioState → AudioState) : State := audAt l (fun a => f { a with amoBind := [(8191, .aes 7 1)] })

/-- How output 8191 turns at a block: false when it fades in, true when it goes silent. -/
def turnsOf (s : State) : List Bool :=
  let n := s.fadeLen 8191
  let l := s.amoLine 8191
  let r := inputBlocks [] { s with out := [] }
  let r := convert 0 r.1 r.2
  let b := r.2.blockOf 0 r.1 8191
  (takeBlock n b.2 b.1 ⟨List.replicate (n - l.held.length) (0, false, n) ++ l.held, l.since, l.running, []⟩).turns

set_option maxRecDepth 100000 in
/-- The same for the block of one output: it goes on, fades in, or goes silent. -/
theorem witness_AudioEvents_blocks :
    (let s := oneAt [] id
     s.aud.arms = [] ∧ s.aud.muted = [] ∧ s.aud.trackers = [] ∧ s.aud.starting = [] ∧ s.amosAt 0 = [8191] ∧ s.amoGroup 8191 = none ∧ s.amoHitch 8191 = none ∧
     turnsOf { s with aud := { s.aud with silent := [8191] } } = [false] ∧ (s.amoLine 8191).cut = none ∧ s.cutUnder 2 (objAmo 8191) = false ∧ s.zone (8191 / 512) < 2) ∧
    turnsOf (oneAt [] (fun a => { a with lines := [(8191, ⟨[], 48, true, none, 0⟩)] })) = [] ∧
    (let s := oneAt [(Reg.audAmoSrc 8191, 0x3FFF), (Reg.audAmiStatus 8191, 1)] (fun a => { a with amiBind := [(8191, .wire 127 15)], lines := [(8191, ⟨[], 48, true, none, 0⟩)] })
     s.amosAt 0 = [8191] ∧ s.amoHitch 8191 = some 8191 ∧ tabGet (s.amiDomain 8191) s.aud.slipped = none ∧ turnsOf s = [true] ∧ 8191 ∉ s.aud.silent ∧ s.amiPresent 8191 = true) ∧
    (let s := oneAt [(Reg.audAmoSrc 8191, 0x3FFF), (Reg.audAmiStatus 8191, 1)] (fun a => { a with amiBind := [(8191, .wire 127 15)] })
     s.amoHitch 8191 = some 8191 ∧ tabGet 8191 s.aud.amiBind = some (.wire 127 15) ∧ s.amiPresent 8191 = true ∧ tabGet (s.amiDomain 8191) s.aud.slipped = none) := by decide +kernel

set_option maxRecDepth 100000 in
theorem witness_AudioEvents :
    (let s := audAt [(Reg.audDomStatus 0x37, 2), (Reg.audAiCfg 7, 1)] (fun a => { a with trackers := [(0x37, ⟨some 5, 0, 0, 0, 0, 0, 0, 0, 0, 0, false, 0⟩)] })
     s.stopped (domZone 0x37) = false ∧ s.stopped 15 = false ∧ s.stopped 7 = false ∧ s.domState 0x37 = 2 ∧ s.domEnabled 0x37 = true ∧ (s.trackerOf 0x37).last = some 5) ∧
    (let s := audAt [(Reg.audAiCfg 7, 1)] id
     s.domEnabled 0x37 = true ∧ s.domState 0x37 = 0 ∧ s.domEnabled 0x36 = false ∧ s.domState 0x36 ≠ 1 ∧ s.domState 0x36 ≠ 2 ∧ s.domState 0x36 ≠ 4) ∧
    (let s := audAt [] id
     s.aud.muted = [] ∧ s.aud.trackers = [] ∧ s.aud.starting = [] ∧ s.aud.arms = [] ∧ s.amoClock 8191 = 0 ∧ (tabGet 8191 s.aud.amoBind).isSome = true ∧ s.amoHitch 8191 = none) ∧
    (let s := audAt [] (fun a => { a with arms := [⟨8191, some 8191, some o0, 5⟩] })
     s.amoClock 8191 = 0 ∧ 5 ≤ ({ s with now := 5 } : State).now ∧
     (bindAudio 8191 (some 8191) { { s with now := 5, out := [] } with aud := { s.aud with arms := [] } }).aud.muted = [] ∧ s.now < 5) ∧
    (let s := audAt [(Reg.audAmoSrc 8191, 0x3FFF), (Reg.audAmiStatus 8191, 1)] id
     s.aud.arms = [] ∧ s.amoClock 8191 = 0 ∧ s.amoHitch 8191 = some 8191 ∧ 8191 ∉ s.aud.silent ∧ s.amiPresent 8191 = true ∧ s.cutUnder 2 (objAmo 8191) = false ∧
     s.zone (8191 / 512) < 2 ∧ s.amoGroup 8191 = none) ∧
    (let tr : Tracker := ⟨some 5, 0, 0, 1000000, 48, 1000000000000000, 0, 0, 0, 0, false, 0⟩
     let s := audAt [(Reg.audDomStatus 0x37, 2)] (fun a => { a with trackers := [(0x37, tr)], amoBind := [] })
     s.amosAt 0 = [] ∧ s.aud.muted = [] ∧ s.aud.arms = [] ∧ s.aud.starting = [] ∧ s.domState 0x37 = 2 ∧ s.domSync 0x37 = false ∧
     ∃ m, blockEstimate (s.domNom 0x37) tr = some m ∧ 1000 * Machine.dist m tr.r ≤ tr.r) ∧
    (let s := audAt [(Reg.audSapTapCtrl 15, 1), (Reg.audSapStatus 15, 1), (Reg.audSapRxMask 15, 1), (Reg.audSapTapSize 15, 1), (Reg.tenStatus 0, 0x10)] id
     s.owner (objSap 15) = some 0 ∧ bitOf (s.reg (Reg.audSapTapCtrl 15)) 0 = true ∧ s.bit (Reg.audSapStatus 15) 0 = true ∧ s.bme 0 = true ∧ ceilDiv (16 + 48 * 1 * packBytes 0) 64 * 64 = 256 ∧
     0 + 256 ≤ 4096 ∧ ringMeets 0 0 0 256 = false) ∧
    (4096 < 3904 + 256 ∧ ringMeets 3840 3904 0 256 = false ∧ ringMeets 3840 3904 3904 64 = false ∧ ringMeets 64 3904 0 256 = true) ∧
    (let s := audAt [(Reg.audAiCfg 7, 1), (Reg.audAiStatus 7, 2)] (fun a => { a with latched := [(7, 3)] })
     s.bit (Reg.audAiCfg 7) 0 = true ∧ s.bit (Reg.audAiStatus 7) 1 = true ∧ (List.replicate 24 (0 : Byte)).length = 24 ∧ ((List.replicate 24 (2 : Byte)).getD 0 0).toNat % 2 = 0 ∧
     tabGetD 0 7 s.aud.latched = 3 ∧ s.reg (Reg.audAiCsA 7 0) ≠ wordOfBytes ((List.replicate 24 (2 : Byte)).drop 0)) := by
  refine ⟨by decide, by decide, by decide, by decide, by decide, ⟨by decide, by decide, by decide, by decide, by decide, by decide, _, rfl, by decide⟩, by decide, by decide, by decide⟩

/-- Registers put above others without a look at their reset values. -/
def withRegs (l : List (Nat × Word)) (s : State) : State := { s with regs := l ++ s.regs }
def refAt (l : List (Nat × Word)) (f : TimeState → TimeState) : State := let s := svc l; { s with tim := f s.tim }

set_option maxRecDepth 100000 in
theorem witness_Timebase :
    opens (svc []) Reg.tmbTodCtrl = true ∧ opens (inMode .lockdown []) Reg.tmbTodCtrl = true ∧ ((inMode .doze []).clocksRun = false ∧ (svc []).clocksRun = true) ∧
    (let s := refAt [(Reg.tmbRefStatus, 0x10)] id
     s.clocksRun = true ∧ s.selRef ≠ 2 ∧ s.refState 2 = 1) ∧
    (let s := refAt [(Reg.tmbRefStatus, 0x40), (Reg.tmbStatus, 0x22), (Reg.tmbLockCfg, 1000)] (fun t => { t with outside := 3 })
     s.selRef = 2 ∧ s.refState 2 = 4 ∧ s.bit Reg.tmbTodCtrl 0 = false ∧ s.tim.fresh = false ∧ s.tim.wakeStep = false ∧ s.tbState = tbLocked ∧
     ((5 : Int) + s.refOff 2).natAbs ≤ s.lockWindow ∧ ¬ ((5000 : Int) + s.refOff 2).natAbs ≤ s.lockWindow ∧ 3 ≤ s.tim.outside) ∧
    (let s := refAt [(Reg.tmbRefStatus, 0x40), (Reg.tmbStatus, 0x21), (Reg.tmbLockCfg, 1000), (Reg.tmbStepThresh, 1)] (fun t => { t with inside := 7 })
     s.tbState = tbAcquiring ∧ ((5 : Int) + s.refOff 2).natAbs ≤ s.stepThresh ∧ 7 ≤ s.tim.inside) ∧
    ((svc []).epochGens = [] ∧ (svc []).aud.amoBind = []) ∧
    (let s := refAt [(Reg.tmbStatus, 0x21)] (fun t => { t with fresh := true })
     s.selRef = 2 ∧ s.tim.fresh = true ∧ s.tim.selectedOnce = false ∧ s.bit Reg.tmbTodCtrl 0 = false) ∧
    (refAt [(Reg.tmbStatus, 0x31), (Reg.tmbTodCtrl, 1)] id).bit Reg.tmbTodCtrl 0 = true ∧ (refAt [(Reg.tmbStatus, 0x31), (Reg.tmbTodCtrl, 1)] id).selRef = 3 ∧
    (refSyncOk 2 0 false = true ∧ refSyncOk 2 0 true = false) ∧
    (let s := refAt [(Reg.tmbRefStatus, 0x200), (Reg.tmbLockCfg, 0x01000000)] (fun t => { t with refSince := [(3, 5)] })
     tabGetD 0 3 s.tim.refSince + s.f Reg.tmbLockCfg 31 24 * 1000000000 = 1000000005 ∧ s.now < 1000000005 ∧ s.refState 3 = 2 ∧ s.selRef = 0 ∧ s.tim.runs = [] ∧ (refAt [(Reg.tmbRefStatus, 0x200), (Reg.tmbStatus, 0x21)] id).selRef ≠ 0) ∧
    (let s := refAt [(Reg.tmbRefStatus, 0x400), (Reg.tmbStatus, 0x32)] id
     s.refState 3 = 4 ∧ s.bestReady = none ∧ s.tbState = tbLocked) ∧
    (let s := refAt [(Reg.tmbRefStatus, 0x430), (Reg.tmbStatus, 0x32)] id
     s.refState 3 = 4 ∧ s.selRef = 3 ∧ s.bestReady = some 2 ∧ 2 ≠ 3) ∧
    (let s := refAt [(Reg.tmbRefStatus, 0x430), (Reg.tmbStatus, 0x32), (Reg.tmbCtrl, 0xE6)] id
     tabGetD 0 2 s.tim.refSince + s.f Reg.tmbLockCfg 23 16 * 1000000000 ≤ ({ s with now := s.f Reg.tmbLockCfg 23 16 * 1000000000 } : State).now ∧
     s.refState 2 = 3 ∧ s.bit Reg.tmbCtrl 1 = true ∧ s.selRef ≠ 0 ∧ s.refBefore 2 s.selRef = true) ∧
    ((svc []).workMode = true ∧ (inMode .lockdown []).workMode = false ∧ bitOf (1 : Word) 0 = true ∧ (svc []).selRef = 0 ∧ (refAt [(Reg.tmbStatus, 0x11)] id).selRef = 1) ∧
    (let s := withRegs [(Reg.pwrTempLimit, 100)] (svc [])
     binOf (-401) = s.tim.bin ∧ binOf 1001 ≠ s.tim.bin ∧ s.tim.runs = [] ∧ s.pwr.hot = false ∧ (-401 : Int) < 10 * s.f Reg.pwrTempLimit 7 0 ∧ s.tbState = tbFree ∧ s.tim.bin < 16) ∧
    (let s := withRegs [(Reg.pwrTempLimit, 100)] (refAt [] (fun t => { t with bin := 14 }))
     binOf 1001 = s.tim.bin ∧ (10 * s.f Reg.pwrTempLimit 7 0 : Int) ≤ 1001) := by decide

set_option maxRecDepth 100000 in
theorem witness_Calibration :
    (let s := svc []
     Accepted o0 s ∧ calRunCheck o0 0 127 s.begin = none ∧ s.calIndex 0 127 = 127 ∧ s.calQuiet 0 127 true = true ∧ s.calQuiet 1 0 true = false ∧ calRunCheck o0 1 0 s.begin = none) ∧
    (let s := refAt [(Reg.tmbCalCtrl, 1)] (fun t => { t with bgAt := [(2, 0)] })
     s.fcFault = false ∧ ({ s with now := 600000000000 } : State).bgDue 2 0 = true ∧ ({ s with now := 599999999999 } : State).bgDue 2 0 = false ∧ s.calQuiet 2 0 true = true) ∧
    (let r : CalRun := ⟨0, 127, some o0, false, 0⟩
     let s := withRegs [(Reg.calFact (calWin 0 127), 0x00640064)] (refAt [] (fun t => { t with runs := [r] }))
     let o : CalObs := ⟨true, (110, 120), (110, 120), (0, 0), (0, 0)⟩
     s.calCurrent (calFid 0) = some r ∧ s.calQuiet 0 127 true = true ∧ calAgrees 0 o = true ∧ calAgrees 0 { o with second := (200, 0) } = false) ∧
    (svc []).calCurrent 1 = none ∧ calStoreCheck o0 (svc []).begin = none ∧ Accepted o0 (svc []) ∧
    (let s := svc [(Reg.tmbCalCtrl, 0x102)]
     s.bit Reg.tmbCalCtrl 1 = true ∧ s.recordsRun = true ∧ s.tim.autoAt + s.f Reg.tmbCalCtrl 15 8 * 3600000000000 = 3600000000000 ∧ s.now < 3600000000000) := by unfold Accepted; decide

set_option maxRecDepth 100000 in
/-- The same: a delta within its bounds and one out of them, wherever a half rounds to. -/
theorem witness_Calibration_delta :
    let s := withRegs [(Reg.calFact (calWin 0 127), 0x00640064)] (svc [])
    let o : CalObs := ⟨true, (110, 120), (110, 120), (0, 0), (0, 0)⟩
    (s.calDelta 0 (calWin 0 127) o).isSome = true ∧ s.calDelta 0 (calWin 0 127) { o with first := (9000, 0), second := (9000, 0) } = none := by
  intro s o
  constructor <;> unfold State.calDelta <;> generalize (decide (Config.freeNat s.draws % 2 = 1)) = up <;> cases up <;> decide

theorem witness_CanonicalKept : State.reset.canonical = true := by decide

theorem witness_OneTimeStorage : ∃ t, step { State.reset with pending := [.powerOn] } = .next t := ⟨_, rfl⟩

end Sys2Proof.Tests
end

section
/-! What a write leaves in a field or a register, and the frame of a command that writes registers alone. -/

namespace Sys2Proof.Machine

open Sys2Proof

/-- A field read back after it is replaced (R10). -/
theorem fld_setFld (w : Word) {hi lo : Nat} (v : Nat) (hlo : lo ≤ hi) (hhi : hi < 32) :
    fld (setFld w hi lo v) hi lo = v % 2 ^ (hi + 1 - lo) := by
  obtain ⟨k, rfl⟩ := Nat.exists_eq_add_of_le hlo
  obtain ⟨r, hr⟩ := Nat.exists_eq_add_of_le (show lo + k + 1 ≤ 32 from hhi)
  have hword : 2 ^ 32 = 2 ^ lo * (2 ^ (k + 1) * 2 ^ r) := by rw [hr, pow_add, Nat.add_assoc, pow_add, mul_assoc]
  have hsum : w.toNat % 2 ^ lo + v % 2 ^ (k + 1) * 2 ^ lo + w.toNat / 2 ^ (lo + k + 1) * 2 ^ (lo + k + 1) =
      w.toNat % 2 ^ lo + 2 ^ lo * (v % 2 ^ (k + 1) + 2 ^ (k + 1) * (w.toNat / 2 ^ (lo + k + 1))) := by
    rw [Nat.add_assoc lo k 1, pow_add]; ring
  have hlow : w.toNat % 2 ^ lo / 2 ^ lo = 0 := Nat.div_eq_of_lt (Nat.mod_lt _ (by positivity))
  have hwidth : lo + k + 1 - lo = k + 1 := by omega
  unfold fld setFld
  rw [hwidth, BitVec.toNat_ofNat, Nat.shiftLeft_eq, Nat.shiftLeft_eq, Nat.shiftRight_eq_div_pow, Nat.shiftRight_eq_div_pow, hsum, hword,
    Nat.mod_mul_right_div_self, Nat.mod_mod_of_dvd _ (Nat.dvd_mul_right _ _), Nat.add_mul_div_left _ _ (by positivity), hlow]
  simp

theorem State.reg_setF (s : State) (a hi lo v b : Nat) :
    (s.setF a hi lo v).reg b = if b = a then setFld (s.reg a) hi lo v else s.reg b := State.reg_setReg s a b _

theorem State.reg_bump (s : State) (a n b : Nat) :
    (s.bump a n).reg b = if b = a then wd (min 0xFFFFFFFF ((s.reg b).toNat + n)) else s.reg b := by
  unfold State.bump
  rw [State.reg_setReg]
  split
  · next h => rw [h]
  · rfl

theorem State.f_setF (s : State) (a : Nat) {hi lo : Nat} (v : Nat) (hlo : lo ≤ hi) (hhi : hi < 32) :
    (s.setF a hi lo v).f a hi lo = v % 2 ^ (hi + 1 - lo) := by
  unfold State.f
  rw [State.reg_setF, if_pos rfl, fld_setFld _ _ hlo hhi]

/-- A command that emits nothing and writes no register but those listed changes nothing else. -/
def OnlyRegs (l : List Nat) (s t : State) : Prop := t = { s with out := [], regs := t.regs } ∧ ∀ b, b ∉ l → t.reg b = s.reg b

theorem onlyRegs_setReg (s : State) (a : Nat) (v : Word) : OnlyRegs [a] s (s.begin.setReg a v) := by
  refine ⟨rfl, fun b hb => ?_⟩
  rw [State.reg_setReg, if_neg (by simpa using hb)]
  rfl

theorem onlyRegs_setF (s : State) (a hi lo v : Nat) : OnlyRegs [a] s (s.begin.setF a hi lo v) := onlyRegs_setReg s a _

end Sys2Proof.Machine
end

section
/-! The path of a register access (R14, R19, R75, R615): from REG_WRITE and REG_READ to the register, through the gate of its block. -/

namespace Sys2Proof.Machine

open Sys2Proof

/-! The address -/

/-- The address at which a master reaches the register at an offset: a BAR0 offset for a tenancy bridge, a fabric address for the others (R13, R614). -/
def regAddr (m : Master) (a : Nat) : Nat :=
  match m with
  | .tenancy _ => a
  | _ => 0x40000000 + a

theorem State.target_register (s : State) {a : Nat} (h : a < 0x400000) : s.target (0x40000000 + a) = .register a := by
  have h1 : ¬ 0x40000000 + a < 0x400000 := by omega
  have h2 : ¬ (0x10000000 ≤ 0x40000000 + a ∧ 0x40000000 + a < 0x10400000) := by omega
  have h3 : ¬ (0x20000000 ≤ 0x40000000 + a ∧ 0x40000000 + a < 0x20010000) := by omega
  have h4 : 0x40000000 ≤ 0x40000000 + a ∧ 0x40000000 + a < 0x40400000 := by omega
  unfold State.target
  rw [if_neg h1, if_neg h2, if_neg h3, if_pos h4, Nat.add_sub_cancel_left]

theorem fabricWrite_register (m : Master) {a : Nat} (ha : a % 4 = 0) (h : a < 0x400000) (v : Word) (s : State) :
    fabricWrite m (0x40000000 + a) v s = regWrite m a v s := by
  have hal : (0x40000000 + a) / 4 * 4 = 0x40000000 + a := by omega
  simp only [fabricWrite, hal, s.target_register h]

theorem fabricRead_register (m : Master) {a : Nat} (ha : a % 4 = 0) (h : a < 0x400000) (s : State) :
    fabricRead m (0x40000000 + a) s = regRead m a s := by
  have hal : (0x40000000 + a) / 4 * 4 = 0x40000000 + a := by omega
  simp only [fabricRead, hal, s.target_register h]

theorem wordWrite_regAddr (m : Master) {a : Nat} (ha : a % 4 = 0) (h : a < 0x400000) (v : Word) (s : State) :
    wordWrite m (regAddr m a) v s = regWrite m a v s := by
  cases m with
  | tenancy t => exact if_pos h
  | fid f => exact fabricWrite_register _ ha h v s
  | dma d => exact fabricWrite_register _ ha h v s
  | debug => exact fabricWrite_register _ ha h v s

theorem wordRead_regAddr (m : Master) {a : Nat} (ha : a % 4 = 0) (h : a < 0x400000) (s : State) :
    wordRead m (regAddr m a) s = regRead m a s := by
  cases m with
  | tenancy t => exact if_pos h
  | fid f => exact fabricRead_register _ ha h s
  | dma d => exact fabricRead_register _ ha h s
  | debug => exact fabricRead_register _ ha h s

theorem regAddr_mod_four (m : Master) (a : Nat) : regAddr m a % 4 = a % 4 := by
  cases m <;> simp only [regAddr] <;> omega

/-- A 32-bit REG_WRITE at a register's address is the write of that register. -/
theorem exec_regWrite_word {s : State} {m : Master} (hm : s.masterThere m = true) {a : Nat} (ha : a % 4 = 0) (h : a < 0x400000) (v : DWord) :
    exec (.regWrite m (regAddr m a) 4 v) s = .next (regWrite m a (wd v.toNat) s.begin) := by
  have hm' : s.begin.masterThere m = true := hm
  have hx : regAddr m a % 4 = 0 := (regAddr_mod_four m a).trans ha
  show Host.Outcome.next (doRegWrite m (regAddr m a) 4 v s.begin) = _
  simp [doRegWrite, hm', hx, wordWrite_regAddr m ha h]

/-- A 32-bit REG_READ at a register's address emits what the read of that register returns. -/
theorem exec_regRead_word {s : State} {m : Master} (hm : s.masterThere m = true) {a : Nat} (ha : a % 4 = 0) (h : a < 0x400000) :
    exec (.regRead m (regAddr m a) 4) s = .next ((regRead m a s.begin).2.emit (.read (regRead m a s.begin).1)) := by
  have hm' : s.begin.masterThere m = true := hm
  have hx : regAddr m a / 4 * 4 = regAddr m a := by have := regAddr_mod_four m a; omega
  show Host.Outcome.next (doRegRead m (regAddr m a) 4 s.begin) = _
  simp [doRegRead, hm', hx, emitRead, wordRead_regAddr m ha h]

/-- A write of fewer than 32 bits by a tenancy only shows BAD_FIELD, outside Lockdown (R615). -/
theorem exec_regWrite_narrow {s : State} {t : Nat} (hm : s.masterThere (.tenancy t) = true) {n : Nat} (hn : n < 4) (hmode : s.mode ≠ .lockdown)
    (a : Nat) (v : DWord) : exec (.regWrite (.tenancy t) a n v) s = .next (tenResult t .badField s.begin) := by
  have hm' : s.begin.masterThere (.tenancy t) = true := hm
  have hmode' : s.begin.mode ≠ .lockdown := hmode
  have h4 : n ≠ 4 := by omega
  have h8 : n ≠ 8 := by omega
  show Host.Outcome.next (doRegWrite (.tenancy t) a n v s.begin) = _
  simp [doRegWrite, hm', hmode', h4, h8]

/-! The gate -/

theorem regWrite_reserved {a : Nat} (h : locate a = none) (m : Master) (v : Word) (s : State) : regWrite m a v s = s := by
  simp [regWrite, gatedWrite, h]

theorem regRead_reserved {a : Nat} (h : locate a = none) (m : Master) (s : State) : regRead m a s = (0, s) := by simp [regRead, h]

/-- A write that passes the gate is done as its block says. -/
theorem regWrite_pass {m : Master} {a : Nat} {l : Loc} {s : State} (h : locate a = some l) (hg : ∀ t, m = .tenancy t → writeGate t l s = .pass)
    (hz : zoneStopped l s = false) (v : Word) : regWrite m a v s = regWriteBody m l a v s := by
  cases m with
  | tenancy t => simp [regWrite, gatedWrite, h, hg t rfl]
  | fid f => simp [regWrite, gatedWrite, h, hz]
  | dma d => simp [regWrite, gatedWrite, h, hz]
  | debug => simp [regWrite, gatedWrite, h, hz]

/-- A read that passes the gate is done as its block says. -/
theorem regRead_pass {m : Master} {a : Nat} {l : Loc} {s : State} (h : locate a = some l) (hg : ∀ t, m = .tenancy t → readGate t l s = .pass)
    (hz : zoneStopped l s = false) : regRead m a s = regReadBody m l a s := by
  cases m with
  | tenancy t => simp [regRead, h, hg t rfl]
  | fid f => simp [regRead, h, hz]
  | dma d => simp [regRead, h, hz]
  | debug => simp [regRead, h, hz]

/-- A write to a STOPPED zone by a master that no ownership filters is dropped and counted (R75). -/
theorem regWrite_stopped {m : Master} {a : Nat} {l : Loc} {s : State} (h : locate a = some l) (hm : ∀ t, m ≠ .tenancy t)
    (hz : zoneStopped l s = true) (v : Word) : regWrite m a v s = dropWrite s := by
  cases m with
  | tenancy t => exact absurd rfl (hm t)
  | fid f => simp [regWrite, gatedWrite, h, hz]
  | dma d => simp [regWrite, gatedWrite, h, hz]
  | debug => simp [regWrite, gatedWrite, h, hz]

/-- A read of a STOPPED zone by a master that no ownership filters returns 0 (R75). -/
theorem regRead_stopped {m : Master} {a : Nat} {l : Loc} {s : State} (h : locate a = some l) (hm : ∀ t, m ≠ .tenancy t)
    (hz : zoneStopped l s = true) : regRead m a s = (0, s) := by
  cases m with
  | tenancy t => exact absurd rfl (hm t)
  | fid f => simp [regRead, h, hz]
  | dma d => simp [regRead, h, hz]
  | debug => simp [regRead, h, hz]

/-! Ownership (R19) -/

/-- Only the owner of a window's object may write its registers. -/
theorem mayWrite_foreign {t c : Nat} {l : Loc} {s : State} (hc : windowObj l = some c) (ho : s.owner c ≠ some t) : mayWrite t l s = false := by
  unfold mayWrite
  rw [hc]
  dsimp only
  split <;> simp [ho]

/-- HOUSE, domain 0, is the one domain of no owner. -/
theorem audDom_ne_house {c : Nat} {l : Loc} (hk : l.kind = .audDom) (hc : windowObj l = some c) (hne : c ≠ objDomain 0) : l.i ≠ 0 := by
  intro hi
  simp only [windowObj, hk, hi, Option.some.injEq] at hc
  exact hne hc.symm

/-- A tenancy that neither owns a window's object nor is granted it may not read its registers, but for those of HOUSE. -/
theorem mayRead_foreign {t c : Nat} {l : Loc} {s : State} (hc : windowObj l = some c) (ho : s.owner c ≠ some t) (hu : s.mayUse t c = false)
    (hne : c ≠ objDomain 0) : mayRead t l s = false := by
  unfold mayRead
  rw [hc]
  dsimp only
  split
  · exact hu
  · exact hu
  · rename_i hk
    simp [audDom_ne_house hk hc hne, ho]
  · simp [ho]

theorem regWrite_foreign {t a : Nat} {l : Loc} {s : State} (h : locate a = some l) (hw : mayWrite t l s = false) (v : Word) :
    regWrite (.tenancy t) a v s = foreign t s := by
  simp [regWrite, gatedWrite, h, writeGate, hw]

theorem regRead_foreign {t a : Nat} {l : Loc} {s : State} (h : locate a = some l) (hr : mayRead t l s = false) :
    regRead (.tenancy t) a s = (0, foreign t s) := by
  simp [regRead, h, readGate, hr]

end Sys2Proof.Machine
end

section
/-! What a register of type RW or W1C that no rule of its block treats apart does on an access (R14, R18). -/

namespace Sys2Proof.Machine

open Sys2Proof

/-! Where a located register lies -/

theorem findRow_mem {off : Nat} {rows : List RegRow} {r : RegRow} {k : Nat} (h : findRow off rows = some (r, k)) : r ∈ rows := by
  induction rows with
  | nil => simp [findRow] at h
  | cons x xs ih =>
    unfold findRow at h
    split at h
    · simp only [Option.some.injEq, Prod.mk.injEq] at h
      exact h.1 ▸ List.mem_cons_self
    · exact List.mem_cons_of_mem _ (ih h)

/-- The address of an offset in a window of a family. -/
theorem inRegion_addr {a : Nat} {r : Region} {i j off : Nat} (h : inRegion a r = some (i, j, off)) :
    a = r.base + i * r.s1 + j * r.s2 + off := by
  have hle : ∀ d s : Nat, (if s = 0 then 0 else d / s) * s ≤ d := by
    intro d s
    split
    · omega
    · exact Nat.div_mul_le_self d s
  simp only [inRegion, Option.ite_none_left_eq_some, Option.ite_none_right_eq_some, Option.some.injEq, Prod.mk.injEq] at h
  obtain ⟨hbase, -, hi, hj, hoff⟩ := h
  have h1 := hle (a - r.base) r.s1
  rw [hi] at h1 hj hoff
  have h2 := hle (a - r.base - i * r.s1) r.s2
  rw [hj] at h2 hoff
  omega

theorem findRegion_spec {a : Nat} {rs : List Region} {kind : RegKind} {p : Nat × Nat × Nat} (h : findRegion a rs = some (kind, p)) :
    ∃ r ∈ rs, r.kind = kind ∧ inRegion a r = some p := by
  induction rs with
  | nil => simp [findRegion] at h
  | cons x xs ih =>
    unfold findRegion at h
    split at h
    · rename_i i j off hx
      simp only [Option.some.injEq, Prod.mk.injEq] at h
      exact ⟨x, List.mem_cons_self, h.1, h.2 ▸ hx⟩
    · obtain ⟨r, hr, hk, hp⟩ := ih h
      exact ⟨r, List.mem_cons_of_mem _ hr, hk, hp⟩

/-- A located register lies in a window of its kind, at an offset that its row holds. -/
theorem locate_spec {a : Nat} {l : Loc} (h : locate a = some l) :
    (∃ r ∈ regions, r.kind = l.kind ∧ inRegion a r = some (l.i, l.j, l.off)) ∧ findRow l.off (rowsOf l.kind) = some (l.row, l.k) := by
  unfold locate at h
  split at h
  · contradiction
  · rename_i kind i j off hr
    split at h
    · contradiction
    · rename_i row k hk
      cases h
      exact ⟨findRegion_spec hr, hk⟩

theorem row_mem_of_locate {a : Nat} {l : Loc} (h : locate a = some l) : l.row ∈ rowsOf l.kind := findRow_mem (locate_spec h).2

/-- A generator's position register is read only. -/
theorem ne_scnPos_of_rw {a : Nat} {l : Loc} (h : locate a = some l) (hk : l.kind = .scn) (hacc : l.row.acc = .rw) : a ≠ Reg.scnPos l.i := by
  intro ha
  obtain ⟨⟨r, hr, hrk, hin⟩, hrow⟩ := locate_spec h
  have hscn : ∀ r ∈ regions, r.kind = .scn → r = ⟨.scn, 0x300000, 0x100, 256, 0x0, 1, 0x100⟩ := by decide
  obtain rfl := hscn r hr (hrk.trans hk)
  have hoff : l.off = 0x34 := by
    have haddr := inRegion_addr hin
    dsimp only at haddr
    simp only [Reg.scnPos] at ha
    omega
  have hro : findRow 0x34 (rowsOf .scn) = some (⟨0x34, 1, 0x4, .ro, 0x0, 0x0⟩, 0) := by decide
  rw [hoff, hk, hro, Option.some.injEq, Prod.mk.injEq] at hrow
  simp [← hrow.1] at hacc

/-! Writes -/

theorem plain_acc {l : Loc} (h : l.plain = true) : l.row.acc = .rw := by
  simp only [Loc.plain, Bool.and_eq_true, decide_eq_true_eq] at h
  exact h.1

theorem plainWrite_rw {l : Loc} (h : l.row.acc = .rw) (a : Nat) (v : Word) (s : State) :
    plainWrite l a v s = s.setReg a (merge l.row.mask (s.reg a) v) := by simp [plainWrite, h]

theorem plainWrite_w1c {l : Loc} (h : l.row.acc = .w1c) (a : Nat) (v : Word) (s : State) :
    plainWrite l a v s = s.setReg a (s.reg a &&& ~~~(v &&& wd l.row.mask)) := by simp [plainWrite, h]

/-- A write of a plain register is that of its row: no rule of its block treats it apart. -/
theorem regWriteBody_plain {l : Loc} (h : l.plain = true) (m : Master) (a : Nat) (v : Word) (s : State) :
    regWriteBody m l a v s = s.setReg a (merge l.row.mask (s.reg a) v) := by
  have hacc := plain_acc h
  rw [← plainWrite_rw hacc]
  cases hk : l.kind <;> simp [Loc.plain, hk, hacc] at h <;> simp [regWriteBody, engineWrite, hk, hacc, h]

/-- A W1C register of a recorder's window clears the bits written 1. -/
theorem regWriteBody_recorder_w1c {l : Loc} (hk : l.kind = .fstRec) (hacc : l.row.acc = .w1c) (m : Master) (a : Nat) (v : Word) (s : State) :
    regWriteBody m l a v s = s.setReg a (s.reg a &&& ~~~(v &&& wd l.row.mask)) := by
  rw [← plainWrite_w1c hacc]
  simp [regWriteBody, engineWrite, hk, hacc]

/-! Reads -/

theorem sideRead_plain {l : Loc} (h : l.plain = true) (m : Master) (a : Nat) (s : State) : sideRead m l a s = none := by
  unfold sideRead
  split <;> simp_all [Loc.plain]

theorem readsFree_plain {l : Loc} (h : l.plain = true) (hf : l.kind ≠ .fidSys) (a : Nat) (s : State) : s.readsFree l a = false := by
  unfold State.readsFree
  split <;> simp_all [Loc.plain]

/-- A plain register reads as it stands, outside the windows in which some word is computed on a read. -/
theorem regView_plain {a : Nat} {l : Loc} (hl : locate a = some l) (h : l.plain = true) (ht : l.kind ≠ .tenPre) (hu : l.kind ≠ .aud) (m : Master)
    (s : State) : s.regView m l a = s.reg a := by
  have hacc := plain_acc h
  have hrow := row_mem_of_locate hl
  have hpace : ∀ r ∈ rows_pace, r.acc ≠ .rw := by decide
  have hgang : ∀ r ∈ rows_gang, r.acc ≠ .rw := by decide
  cases hk : l.kind <;> simp [Loc.plain, hk, hacc] at h
  case scn => simp [State.regView, hk, ne_scnPos_of_rw hl hk hacc]
  case pace => rw [hk] at hrow; exact absurd hacc (hpace _ hrow)
  case gang => rw [hk] at hrow; exact absurd hacc (hgang _ hrow)
  case tenPre => exact absurd hk ht
  case aud => exact absurd hk hu
  all_goals simp [State.regView, hk]

theorem ne_tmbCountLo_of_plain {a : Nat} {l : Loc} (hl : locate a = some l) (h : l.plain = true) : a ≠ Reg.tmbCountLo := by
  rintro rfl
  have hp : (locate Reg.tmbCountLo).map Loc.plain = some false := by decide
  rw [hl, Option.map_some, Option.some.injEq] at hp
  exact Bool.noConfusion (h.symm.trans hp)

theorem regReadBody_plain {a : Nat} {l : Loc} (hl : locate a = some l) (h : l.plain = true) (hf : l.kind ≠ .fidSys) (ht : l.kind ≠ .tenPre)
    (hu : l.kind ≠ .aud) (m : Master) (s : State) : regReadBody m l a s = (s.reg a, s) := by
  simp [regReadBody, sideRead_plain h, readsFree_plain h hf, plain_acc h, regView_plain hl h ht hu, ne_tmbCountLo_of_plain hl h]

end Sys2Proof.Machine
end

section
/-! Resets (R738, R741): what the hold-up ends first, and what enterReset leaves. -/

namespace Sys2Proof.Machine

open Sys2Proof

/-! What a reset leaves -/

/-- The state that a reset or the loss of VDD_AON starts from: the tamper record is completed and the other writes are torn (R737). -/
def heldUp (s : State) : State := tearWrites (commitTamper s)

theorem State.currentWrite_of_noWrites {s : State} (h : s.rst.writes = []) (c : Nat) : s.currentWrite c = none := by
  simp [State.currentWrite, h]

theorem setWrites_of_noWrites {s : State} (h : s.rst.writes = []) : setWrites [] s = s := by
  unfold setWrites setRec
  rw [← h]

/-- With no record being written and no alarm latched the hold-up has nothing to do. -/
theorem heldUp_quiet {s : State} (hw : s.rst.writes = []) (ht : s.pwr.tamper = false) : heldUp s = s := by
  have hcommit : commitTamper s = s := by simp [commitTamper, ht, State.currentWrite_of_noWrites hw]
  simp [heldUp, hcommit, tearWrites, State.currentWrite_of_noWrites hw, setWrites_of_noWrites hw]

theorem reg_setPwr (s : State) (p : PowerState) (a : Nat) : (setPwr p s).reg a = s.reg a := rfl

/-- What a reset for a cause leaves of the state that the hold-up ends in (R738). -/
def resetFrom (cause : Nat) (aon : Bool) (s : State) : State :=
  let t := ((afterReset aon s).setReg Reg.sysMode (wd (1 + 0x10 * modeCode s.mode))).setReg Reg.sysResetCause (wd (2 ^ cause))
  let t := if aon then t.setReg Reg.keyTamperStatus (s.reg Reg.keyTamperStatus) else t
  setPwr { t.pwr with thermal := decide (cause = 3) } t

theorem enterReset_eq (n : Nat) (aon : Bool) (s : State) : enterReset n aon s = resetFrom n aon (heldUp s) := rfl

/-- Outside the registers and THERMAL, a reset leaves what afterReset does. -/
theorem resetFrom_eq (n : Nat) (aon : Bool) (s : State) :
    resetFrom n aon s = { afterReset aon s with
      regs := (resetFrom n aon s).regs, pwr := { (afterReset aon s).pwr with thermal := decide (n = 3) } } := by
  cases aon <;> rfl

/-- Every register after a reset: the tamper status with always-on state, the cause, the mode with PREV, and the rest at their reset values. -/
theorem resetFrom_reg (n : Nat) (aon : Bool) (s : State) (b : Nat) :
    (resetFrom n aon s).reg b =
      if aon = true ∧ b = Reg.keyTamperStatus then s.reg Reg.keyTamperStatus
      else if b = Reg.sysResetCause then wd (2 ^ n)
      else if b = Reg.sysMode then wd (1 + 0x10 * modeCode s.mode)
      else State.reset.reg b := by
  have hafter : (afterReset aon s).reg b = State.reset.reg b := rfl
  cases aon <;> simp [resetFrom, reg_setPwr, State.reg_setReg, hafter]

theorem resetFrom_sysMode (n : Nat) (aon : Bool) (s : State) : (resetFrom n aon s).reg Reg.sysMode = wd (1 + 0x10 * modeCode s.mode) := by
  simp [resetFrom_reg]

theorem resetFrom_mode (n : Nat) (aon : Bool) (s : State) : (resetFrom n aon s).mode = .reset := by
  unfold State.mode State.f
  rw [resetFrom_sysMode]
  cases s.mode <;> rfl

theorem resetFrom_prev (n : Nat) (aon : Bool) (s : State) : (resetFrom n aon s).f Reg.sysMode 6 4 = modeCode s.mode := by
  unfold State.f
  rw [resetFrom_sysMode]
  cases s.mode <;> rfl

theorem resetFrom_cause (n : Nat) (aon : Bool) (s : State) : (resetFrom n aon s).reg Reg.sysResetCause = wd (2 ^ n) := by
  simp [resetFrom_reg]

theorem resetFrom_tamperStatus (n : Nat) (aon : Bool) (s : State) :
    (resetFrom n aon s).reg Reg.keyTamperStatus = if aon = true then s.reg Reg.keyTamperStatus else 0 := by
  have hmode : Reg.keyTamperStatus ≠ Reg.sysMode := by decide
  have hcause : Reg.keyTamperStatus ≠ Reg.sysResetCause := by decide
  have hreset : State.reset.reg Reg.keyTamperStatus = 0 := by decide
  rw [resetFrom_reg, if_neg hcause, if_neg hmode, hreset]
  simp

theorem resetFrom_reg_other (n : Nat) (aon : Bool) (s : State) {b : Nat} (hm : b ≠ Reg.sysMode) (hc : b ≠ Reg.sysResetCause)
    (ht : b ≠ Reg.keyTamperStatus) : (resetFrom n aon s).reg b = State.reset.reg b := by
  rw [resetFrom_reg, if_neg (fun h => ht h.2), if_neg hc, if_neg hm]

/-- What the loss of VDD_AON leaves of the state that the hold-up ends in (R741). -/
def offFrom (s : State) : State := ((afterReset false s).setReg Reg.sysMode 0).setReg Reg.pwrStatus 0

/-- Outside the registers, the loss of VDD_AON leaves what afterReset does. -/
theorem offFrom_eq (s : State) : offFrom s = { afterReset false s with regs := (offFrom s).regs, pwr := (afterReset false s).pwr } := rfl

theorem offFrom_reg (s : State) (b : Nat) :
    (offFrom s).reg b = if b = Reg.pwrStatus then 0 else if b = Reg.sysMode then 0 else State.reset.reg b := by
  have hafter : (afterReset false s).reg b = State.reset.reg b := rfl
  simp only [offFrom, State.reg_setReg, hafter]

theorem offFrom_mode (s : State) : (offFrom s).mode = .off := by
  unfold State.mode State.f
  rw [offFrom_reg]
  rfl

/-! The commands -/

theorem warmReset_on {s : State} (h : s.mode ≠ .off) (n : Nat) : warmReset n s.begin = resetFrom n true (heldUp s.begin) := if_neg h

theorem doVddAonLost_on {s : State} (h : s.mode ≠ .off) : doVddAonLost s.begin = offFrom (heldUp s.begin) := if_neg h

theorem doDbgReq_on {s : State} (h : s.mode ≠ .off) : doDbgReq s.begin = setPwr { s.pwr with debugReq := true } s.begin := if_neg h

/-- In Off a reset that keeps always-on state, the loss of VDD_AON and a debug request change nothing. -/
theorem reset_in_off {s : State} (h : s.mode = .off) {i : Instr} (hi : i ∈ [Instr.pin, .supply, .thermal, .vddAonLost, .dbgReq]) :
    exec i s = .next s.begin := by
  have hwarm : ∀ n, warmReset n s.begin = s.begin := fun n => if_pos h
  have hlost : doVddAonLost s.begin = s.begin := if_pos h
  have hdbg : doDbgReq s.begin = s.begin := if_pos h
  simp only [List.mem_cons, List.not_mem_nil, or_false] at hi
  rcases hi with rfl | rfl | rfl | rfl | rfl
  · exact congrArg Host.Outcome.next (hwarm 1)
  · exact congrArg Host.Outcome.next (hwarm 2)
  · exact congrArg Host.Outcome.next (hwarm 3)
  · exact congrArg Host.Outcome.next hlost
  · exact congrArg Host.Outcome.next hdbg

end Sys2Proof.Machine
end

section
/-! The statements on the front of the queue, register accesses and resets. -/

namespace Sys2Proof.Machine

open Sys2Proof

/-- Settles O1: with a command at the front of the queue a step is that command's exec. -/
theorem stepTakesFront : Obligations.StepTakesFront := fun _ _ _ => rfl

/-- Settles O17: the gate of the access is foreign, as only the owner, or for some reads a tenancy granted the object, passes it. -/
theorem foreignAccess : Obligations.ForeignAccess := by
  intro s t a c l v _ hm ha hlt hl hc ho Counted
  refine ⟨⟨foreign t s.begin, ?_, rfl, State.reg_bump s.begin (Reg.tenForeignCnt t) 1⟩, fun hu hne => ⟨(foreign t s.begin).emit (.read 0), ?_, rfl, State.reg_bump s.begin (Reg.tenForeignCnt t) 1⟩⟩
  · have hw : mayWrite t l s.begin = false := mayWrite_foreign hc ho
    exact (exec_regWrite_word hm ha hlt v).trans (congrArg _ (regWrite_foreign hl hw _))
  · have hr : mayRead t l s.begin = false := mayRead_foreign hc ho hu hne
    exact (exec_regRead_word hm ha hlt).trans (by rw [regRead_foreign hl hr])

/-- Settles O18: each access comes to its register through the gate, and a register that no rule of its block treats apart is written and read as its row says. -/
theorem registerAccess : Obligations.RegisterAccess := by
  intro s m a v hm ha hlt x Only
  have hx : x = regAddr m a := by cases m <;> rfl
  have hwrite := exec_regWrite_word hm ha hlt v
  have hread := exec_regRead_word hm ha hlt
  rw [hx]
  refine ⟨fun hl => ⟨?_, ?_⟩, fun l hl hg hz => ⟨fun hp => ?_, fun hk hacc => ?_⟩, fun l hl hg hz hp hf ht hu => ?_,
    fun l hl hnt hz => ⟨?_, ?_⟩, ?_⟩
  · rw [hwrite, regWrite_reserved hl]; rfl
  · rw [hread, regRead_reserved hl]; rfl
  · refine ⟨s.begin.setReg a (merge l.row.mask (s.reg a) (wd v.toNat)), ?_, ?_, onlyRegs_setReg s a _⟩
    · rw [hwrite, regWrite_pass (s := s.begin) hl hg hz, regWriteBody_plain hp]; rfl
    · rw [State.reg_setReg, if_pos rfl]
  · refine ⟨s.begin.setReg a (s.reg a &&& ~~~(wd v.toNat &&& wd l.row.mask)), ?_, ?_, onlyRegs_setReg s a _⟩
    · rw [hwrite, regWrite_pass (s := s.begin) hl hg hz, regWriteBody_recorder_w1c hk hacc]; rfl
    · rw [State.reg_setReg, if_pos rfl]
  · rw [hread, regRead_pass (s := s.begin) hl hg hz, regReadBody_plain hl hp hf ht hu]; rfl
  · refine ⟨dropWrite s.begin, by rw [hwrite, regWrite_stopped (s := s.begin) hl hnt hz], ?_, onlyRegs_setF s _ _ _ _⟩
    unfold dropWrite
    rw [State.f_setF _ _ _ (by omega) (by omega)]
    exact Nat.mod_eq_of_lt (by omega)
  · rw [hread, regRead_stopped (s := s.begin) hl hnt hz]; rfl
  · rintro t n rfl hn hmode
    refine ⟨tenResult t .badField s.begin, exec_regWrite_narrow hm hn hmode a v, ?_, onlyRegs_setF s _ _ _ _⟩
    unfold tenResult
    rw [State.f_setF _ _ _ (by omega) (by omega)]
    rfl

/-- Settles O50: every cause leaves what `resetFrom` does, and the loss of VDD_AON what `offFrom` does; both keep of the state only what `afterReset` copies. -/
theorem resets : Obligations.Resets := by
  intro s Quiet Fresh Kept Entered
  have hheld : Quiet → heldUp s.begin = s.begin := fun ⟨hw, ht⟩ => heldUp_quiet hw ht
  have hfresh : ∀ aon u regs pwr, Fresh { afterReset aon u with regs := regs, pwr := pwr } := fun _ _ _ _ =>
    ⟨rfl, rfl, rfl, rfl, rfl, rfl, rfl, rfl, rfl, rfl, rfl, rfl, rfl, rfl, rfl, rfl⟩
  have hkept : ∀ aon regs pwr, Quiet → Kept { afterReset aon (heldUp s.begin) with regs := regs, pwr := pwr } := by
    rintro aon regs pwr ⟨hw, ht⟩
    rw [hheld ⟨hw, ht⟩]
    refine ⟨?_, rfl, rfl, rfl, rfl⟩
    show ({ s.rst with writes := [], seqs := [] } : RecordState) = { s.rst with seqs := [] }
    rw [← hw]
  have henter : ∀ n aon, Entered n aon (resetFrom n aon (heldUp s.begin)) := by
    intro n aon
    refine ⟨resetFrom_mode _ _ _, resetFrom_cause _ _ _, ?_, ?_, ?_, fun hq => ⟨?_, ?_, ?_, ?_, ?_, ?_⟩, fun a hm hc ht => resetFrom_reg_other _ _ _ hm hc ht⟩
    · rw [resetFrom_eq]; exact hfresh _ _ _ _
    · rw [resetFrom_eq]; cases aon <;> rfl
    · rw [resetFrom_eq]
    · rw [resetFrom_eq]; exact hkept _ _ _ hq
    · rw [resetFrom_prev, hheld hq]; rfl
    · rw [resetFrom_eq, hheld hq]; cases aon <;> rfl
    · rw [resetFrom_eq, hheld hq]; cases aon <;> rfl
    · rw [resetFrom_eq, hheld hq]; cases aon <;> rfl
    · rw [resetFrom_tamperStatus, hheld hq]; rfl
  refine ⟨⟨_, rfl, henter 0 false⟩, fun hon => ⟨⟨_, ?_, henter 1 true⟩, ⟨_, ?_, henter 2 true⟩, ⟨_, ?_, henter 3 true⟩,
    ⟨offFrom (heldUp s.begin), ?_, offFrom_mode _, ?_, fun hq => ?_, fun a hm hp => ?_⟩, ?_⟩, fun hoff i hi => reset_in_off hoff hi⟩
  · exact congrArg Host.Outcome.next (warmReset_on hon 1)
  · exact congrArg Host.Outcome.next (warmReset_on hon 2)
  · exact congrArg Host.Outcome.next (warmReset_on hon 3)
  · exact congrArg Host.Outcome.next (doVddAonLost_on hon)
  · rw [offFrom_eq]; exact hfresh _ _ _ _
  · rw [offFrom_eq]; exact hkept _ _ _ hq
  · rw [offFrom_reg, if_neg hp, if_neg hm]
  · exact congrArg Host.Outcome.next (doDbgReq_on hon)

end Sys2Proof.Machine
end

section
/-! Bits and fields of a word after one of its fields is replaced (R10). -/

namespace Sys2Proof.Machine

open Sys2Proof

theorem bitOf_setFld (w : Word) {hi lo b : Nat} (v : Nat) (hlo : lo ≤ hi) (hb : b < 32) :
    bitOf (setFld w hi lo v) b = if lo ≤ b ∧ b ≤ hi then v.testBit (b - lo) else bitOf w b := by
  obtain ⟨k, rfl⟩ := Nat.exists_eq_add_of_le hlo
  have hwidth : lo + k + 1 - lo = k + 1 := by omega
  have hsum : w.toNat % 2 ^ lo + v % 2 ^ (k + 1) * 2 ^ lo + w.toNat / 2 ^ (lo + k + 1) * 2 ^ (lo + k + 1) =
      2 ^ lo * (2 ^ (k + 1) * (w.toNat / 2 ^ (lo + k + 1)) + v % 2 ^ (k + 1)) + w.toNat % 2 ^ lo := by
    rw [Nat.add_assoc lo k 1, pow_add]; ring
  unfold bitOf setFld
  rw [hwidth, BitVec.toNat_ofNat, Nat.shiftLeft_eq, Nat.shiftLeft_eq, Nat.shiftRight_eq_div_pow, hsum, Nat.testBit_mod_two_pow,
    Nat.testBit_two_pow_mul_add _ (Nat.mod_lt _ (by positivity)), Nat.testBit_two_pow_mul_add _ (Nat.mod_lt _ (by positivity)),
    Nat.testBit_div_two_pow, Nat.testBit_mod_two_pow, Nat.testBit_mod_two_pow]
  by_cases h1 : b < lo
  · have h2 : ¬ (lo ≤ b ∧ b ≤ lo + k) := by omega
    simp [h1, h2, hb]
  · by_cases h2 : b - lo < k + 1
    · have h3 : lo ≤ b ∧ b ≤ lo + k := by omega
      simp [h1, h2, h3, hb]
    · have h3 : ¬ (lo ≤ b ∧ b ≤ lo + k) := by omega
      have h4 : b - lo - (k + 1) + (lo + k + 1) = b := by omega
      simp [h1, h2, h3, hb, h4]

theorem testBit_fld (w : Word) (hi lo i : Nat) : (fld w hi lo).testBit i = (decide (i < hi + 1 - lo) && bitOf w (lo + i)) := by
  simp [fld, bitOf, Nat.testBit_mod_two_pow, Nat.testBit_shiftRight]

/-- A field that does not meet the one replaced. -/
theorem fld_setFld_other (w : Word) {hi lo hi' lo' : Nat} (v : Nat) (hlo : lo ≤ hi) (hhi : hi' < 32) (h : hi < lo' ∨ hi' < lo) :
    fld (setFld w hi lo v) hi' lo' = fld w hi' lo' := by
  refine Nat.eq_of_testBit_eq fun i => ?_
  rw [testBit_fld, testBit_fld]
  by_cases hi : i < hi' + 1 - lo'
  · rw [bitOf_setFld w v hlo (by omega), if_neg (by omega)]
  · simp [hi]

theorem State.bit_setBit (s : State) (a : Nat) {b c : Nat} (v : Bool) (hc : c < 32) : (s.setBit a b v).bit a c = if c = b then v else s.bit a c := by
  unfold State.bit State.setBit
  rw [State.reg_setF, if_pos rfl, bitOf_setFld _ _ (le_refl b) hc]
  by_cases h : c = b
  · subst h; cases v <;> simp [b2n]
  · have h' : ¬ (b ≤ c ∧ c ≤ b) := by omega
    simp [h, h']

theorem State.reg_setBit (s : State) (a b : Nat) (v : Bool) (c : Nat) :
    (s.setBit a b v).reg c = if c = a then setFld (s.reg a) b b (b2n v) else s.reg c := State.reg_setF s a b b _ c

end Sys2Proof.Machine
end

section
/-! How a host command that meets its checks is carried out, and what the operations shared by the rig commands leave. -/

namespace Sys2Proof.Machine

open Sys2Proof

/-! Taking a command -/

theorem mode_of_serving {s : State} (h : s.serving = true) : s.mode = .service ∨ s.mode = .maintenance := by
  unfold State.serving at h
  cases hm : s.mode <;> simp_all

/-- The checks that precede those of the command itself are met (R65, R629, R634, R642). -/
theorem baseCheck_accepted {o : Origin} {s : State} (h : Accepted o s) (p : Place) : baseCheck o p s.begin = none := by
  obtain ⟨-, hreserved, hfence, hbare, hserving⟩ := h
  have hmode : s.begin.mode ≠ .bringUp ∧ s.begin.mode ≠ .lockdown := by
    have hm : s.begin.mode = .service ∨ s.begin.mode = .maintenance := mode_of_serving hserving
    rcases hm with hm | hm <;> simp [hm]
  have hbare' : s.begin.bare = false := hbare
  have hsignal : (o.signal && decide (256 ≤ o.fence)) = false := by
    cases hs : o.signal
    · rfl
    · simpa using hfence hs
  simp [baseCheck, firstRefusal, need, hreserved, hsignal, hbare', hmode]

/-- A command of no batch that meets its own checks takes effect. -/
theorem loneCommand_accepted {o : Origin} {s : State} (h : Accepted o s) (p : Place) {check : State → Refuse} (hc : check s.begin = none)
    (alone : State → State) : loneCommand o p check alone s.begin = alone s.begin := by
  have hbatch : s.begin.batchOf o = none := h.1
  simp [loneCommand, hostCommand, hbatch, baseCheck_accepted h, hc, firstRefusal]

/-! Events of a fid's system thread (R589) -/

/-- An event input makes the waiting thread of a fid run. -/
def Fid.wakes (d : Fid) (bit : Nat) : Bool :=
  match d.wait with
  | none => false
  | some (_, mask) => decide ((d.events ||| 2 ^ bit) &&& mask ≠ 0)

/-- A fid once an event input is raised: the thread that it wakes takes the inputs it waited for. -/
def Fid.raised (d : Fid) (bit : Nat) : Fid :=
  let ev := d.events ||| 2 ^ bit
  match d.wait with
  | none => { d with events := ev }
  | some (r, mask) =>
    if ev &&& mask = 0 then { d with events := ev }
    else { d with events := ev &&& (0xFFFFFFFF ^^^ mask), wait := none,
                  sys := { d.sys with regs := if r = 0 then d.sys.regs else tabPut 0 r (ev &&& mask) d.sys.regs } }

/-- An event is seen by its fid alone, and by the STATE of a fid that it wakes (R607). -/
theorem fidEvent_eq (f bit : Nat) (s : State) :
    fidEvent f bit s = if (s.fidOf f).wakes bit = true then (setFid f ((s.fidOf f).raised bit) s).setF (Reg.fidStatus f) 1 0 1
      else setFid f ((s.fidOf f).raised bit) s := by
  unfold fidEvent
  generalize s.fidOf f = d
  obtain ⟨sys, hook, run, queue, events, wait, entry, updated, cycle, upd⟩ := d
  rcases wait with _ | ⟨r, mask⟩
  · rfl
  · by_cases hm : (events ||| 2 ^ bit) &&& mask = 0 <;> simp [Fid.wakes, Fid.raised, hm]

theorem fidEvent_reg (f bit : Nat) (s : State) (a : Nat) :
    (fidEvent f bit s).reg a = if (s.fidOf f).wakes bit = true ∧ a = Reg.fidStatus f then setFld (s.reg a) 1 0 1 else s.reg a := by
  rw [fidEvent_eq]
  by_cases hw : (s.fidOf f).wakes bit = true
  · simp only [hw, if_true, true_and, State.reg_setF]
    split
    · next h => rw [h]; rfl
    · rfl
  · rw [if_neg hw, if_neg (fun h => hw h.1)]; rfl

/-- Beside the fids, their STATE is all that an event may change. -/
theorem fidEvent_parts (f bit : Nat) (s : State) :
    fidEvent f bit s = { s with regs := (fidEvent f bit s).regs, fid := { s.fid with fids := tabSet f ((s.fidOf f).raised bit) s.fid.fids } } := by
  rw [fidEvent_eq]
  split <;> rfl

end Sys2Proof.Machine
end

section
/-! The commands on the rig slots (R59, R66 to R69): what each asks of the record store, and what it leaves alone. -/

namespace Sys2Proof.Machine

open Sys2Proof

@[simp] theorem codeSlot_slotCode (k : Slot) : codeSlot (slotCode (some k)) = some k := by cases k <;> rfl

/-! Selector records -/

/-- A selector record is asked for, and what follows its completion (R59, R691). -/
def AsksSelector (s : State) (x : Selector) (why : RecWhy) (t : State) : Prop :=
  ∃ w : RecWrite, t.rst.writes = s.rst.writes ++ [w] ∧ w.cls = 2 ∧ w.payload = selectorBytes x ∧ w.why = why ∧ w.seq = tabGetD 0 2 s.rst.seqs + 1

/-- Nothing differs from `b` but the rig, the keys, the records that wait and the registers listed; the other records are those of `s`. -/
def RigOnly (s b : State) (l : List Nat) (t : State) : Prop :=
  t = { b with regs := t.regs, rst := { s.rst with writes := t.rst.writes, seqs := t.rst.seqs }, rig := t.rig, key := t.key } ∧
    ∀ a, a ∉ l → t.reg a = b.reg a

theorem writeSelector_asks (x : Selector) (why : RecWhy) {s u : State} (h : u.rst = s.rst) : AsksSelector s x why (writeSelector x why u) := by
  refine ⟨⟨2, 0, tabGetD 0 2 u.rst.seqs + 1, u.epoch, selectorBytes x, [2, 3], false, why⟩, ?_, rfl, rfl, rfl, by rw [h]⟩
  rw [← h]; rfl

/-- The selector that the last requested write will leave depends on the writes and on the selector in force. -/
theorem State.selectorDue_congr {s u : State} (hw : u.rst.writes = s.rst.writes) (hx : u.rig.selector = s.rig.selector) :
    u.selectorDue = s.selectorDue := by
  unfold State.selectorDue
  rw [hw, hx]

theorem rigOnly_writeSelector {s b u : State} {l : List Nat} (h : RigOnly s b l u) (x : Selector) (why : RecWhy) :
    RigOnly s b l (writeSelector x why u) := by
  obtain ⟨hu, hreg⟩ := h
  refine ⟨?_, hreg⟩
  rw [hu]; rfl

/-- The commands that tell FN of themselves do so whatever they did to the rig before (R37, R589). -/
theorem rigOnly_mailbox {s b u : State} {l : List Nat} (h : RigOnly s b l u) (f : Nat) : RigOnly s (mailbox f b) l (mailbox f u) := by
  obtain ⟨hu, hreg⟩ := h
  have hfid : u.fid = b.fid := by rw [hu]
  have hof : u.fidOf f = b.fidOf f := by unfold State.fidOf; rw [hfid]
  refine ⟨?_, fun a ha => ?_⟩
  · unfold mailbox
    rw [fidEvent_parts f 0 u, fidEvent_parts f 0 b, hof, hfid, hu]
  · unfold mailbox
    rw [fidEvent_reg, fidEvent_reg, hof, hreg a ha]

theorem rigOnly_setRig (s : State) (r : RigState) : RigOnly s s.begin [] (setRig r s.begin) := ⟨rfl, fun _ _ => rfl⟩

theorem mailbox_rst (f : Nat) (s : State) : (mailbox f s).rst = s.rst := by rw [mailbox, fidEvent_parts]
theorem mailbox_rig (f : Nat) (s : State) : (mailbox f s).rig = s.rig := by rw [mailbox, fidEvent_parts]
theorem mailbox_key (f : Nat) (s : State) : (mailbox f s).key = s.key := by rw [mailbox, fidEvent_parts]

/-! Slots -/

theorem image_setImage (k x : Slot) (i : Option RigImage) (s : State) : (setImage k i s).image x = if x = k then i else s.image x := by
  cases k <;> cases x <;> rfl

theorem setImage_writes (k : Slot) (i : Option RigImage) (s : State) : (setImage k i s).rig.writes = s.rig.writes := by cases k <;> rfl

/-- The registers that show the selector and the versions in the slots (R80). -/
def selectorRegs : List Nat := [Reg.sysRigSecFloor, Reg.sysRigSlotAVer, Reg.sysRigSlotBVer]

theorem refreshSelector_reg (s : State) {a : Nat} (h : a ∉ selectorRegs) : (refreshSelector s).reg a = s.reg a := by
  simp only [selectorRegs, List.mem_cons, List.not_mem_nil, or_false, not_or] at h
  obtain ⟨hfloor, hverA, hverB⟩ := h
  simp only [refreshSelector, State.reg_setReg, if_neg hfloor, if_neg hverA, if_neg hverB]

theorem rigOnly_setImage {s b u : State} {l : List Nat} (h : RigOnly s b l u) (k : Slot) (i : Option RigImage) :
    RigOnly s b (selectorRegs ++ l) (setImage k i u) := by
  obtain ⟨hu, hreg⟩ := h
  refine ⟨?_, fun a ha => ?_⟩
  · cases k <;> (rw [hu]; rfl)
  · rw [List.mem_append, not_or] at ha
    rw [← hreg a ha.2]
    cases k <;> exact refreshSelector_reg _ ha.1

end Sys2Proof.Machine
end

section
/-! The rig slots (O48): one lemma per command and per end of a command. -/

namespace Sys2Proof.Machine

open Sys2Proof

/-- RIG_WRITE_SLOT waits with its data, and asks for a selector with the slot's VALID clear (R66, R69). -/
theorem exec_rigWriteSlot {s : State} {o : Origin} (hacc : Accepted o s) (k : Slot) {offset length : Nat}
    (hcheck : rigWriteSlotCheck o (slotCode (some k)) offset length s.begin = none) (data : Option (List Byte)) (plans : Option Plans) :
    ∃ t, exec (.rigWriteSlot o (slotCode (some k)) offset length ⟨data, plans⟩) s = .next t ∧
      AsksSelector s (s.selectorDue.setValid k false) (.selector none) t ∧
      t.rig = { s.rig with writes := s.rig.writes ++ [⟨k, o, offset, length, data, plans, false⟩] } ∧ RigOnly s (mailbox 43 s.begin) [] t := by
  let u := mailbox 43 (setRig { s.rig with writes := s.rig.writes ++ [⟨k, o, offset, length, data, plans, false⟩] } s.begin)
  have hdue : u.selectorDue = s.selectorDue := State.selectorDue_congr (by rw [mailbox_rst]; rfl) (by rw [mailbox_rig]; rfl)
  refine ⟨writeSelector (u.selectorDue.setValid k false) (.selector none) u, ?_, ?_, mailbox_rig _ _,
    rigOnly_writeSelector (rigOnly_mailbox (rigOnly_setRig s _) 43) _ _⟩
  · refine congrArg Host.Outcome.next ((loneCommand_accepted hacc .bare hcheck _).trans ?_)
    simp only [rigWriteSlotEffect, codeSlot_slotCode]; rfl
  · rw [hdue]
    exact writeSelector_asks _ _ (mailbox_rst _ _)

/-- The job whose end RIG_WRITE_SLOT_DONE or RIG_VERIFY_SLOT_DONE of a slot finds is of that slot. -/
theorem slot_of_find {α : Type} {k : Slot} {l : List α} {slot : α → Slot} {p : α → Bool} {j : α}
    (h : l.find? (fun x => decide (some (slot x) = some k) && p x) = some j) : slot j = k := by
  have hj := List.find?_some h
  simp only [Option.some.injEq, Bool.and_eq_true, decide_eq_true_eq] at hj
  exact hj.1

/-- The end of a slot write programs the erased sectors with the bytes read (R68). -/
theorem exec_rigWriteSlotDone {s : State} {k : Slot} {j : SlotJob}
    (h : s.rig.writes.find? (fun x => decide (some x.slot = some k) && x.erased) = some j) {d : List Byte} (hd : j.data = some d) :
    ∃ t, exec (.rigWriteSlotDone (slotCode (some k))) s = .next (completeOk j.origin t) ∧ t.image k = some (programmed j d (s.image k)) ∧
      (∀ x, x ≠ k → t.image x = s.image x) ∧ t.rig.writes = s.rig.writes.filter (fun x => decide (x.slot ≠ k)) ∧ RigOnly s s.begin selectorRegs t := by
  have hk : j.slot = k := slot_of_find h
  let u := setRig { s.rig with writes := s.rig.writes.filter (fun x => decide (x.slot ≠ k)) } s.begin
  have himg : ∀ x, u.image x = s.image x := fun x => by cases x <;> rfl
  refine ⟨setImage k (some (programmed j d (s.image k))) u, congrArg Host.Outcome.next ?_, ?_, fun x hx => ?_, setImage_writes _ _ _, ?_⟩
  · subst hk
    simp only [doRigWriteSlotDone, codeSlot_slotCode, State.begin_rig, h, hd]
    rw [← himg]
  · rw [image_setImage, if_pos rfl]
  · rw [image_setImage, if_neg hx, himg]
  · exact rigOnly_setImage (rigOnly_setRig s _) k _

/-- A host read that failed leaves the sectors erased (R68). -/
theorem exec_rigWriteSlotDone_failed {s : State} {k : Slot} {j : SlotJob}
    (h : s.rig.writes.find? (fun x => decide (some x.slot = some k) && x.erased) = some j) (hd : j.data = none) :
    ∃ t, exec (.rigWriteSlotDone (slotCode (some k))) s = .next (complete j.origin .fetchFault 0 t) ∧
      t.rig.writes = s.rig.writes.filter (fun x => decide (x.slot ≠ k)) ∧ t.image k = s.image k ∧ RigOnly s s.begin [] t := by
  have hk : j.slot = k := slot_of_find h
  refine ⟨setRig { s.rig with writes := s.rig.writes.filter (fun x => decide (x.slot ≠ k)) } s.begin, congrArg Host.Outcome.next ?_, rfl,
    by cases k <;> rfl, rigOnly_setRig s _⟩
  subst hk
  simp only [doRigWriteSlotDone, codeSlot_slotCode, State.begin_rig, h, hd]

/-- What the end of the load checks shows (R82). -/
def verifyShown (s : State) (j : Slot × Origin) : State :=
  showLoad (some j.1) (s.loadCheck (s.image j.1)) (setRig { s.rig with verifies := s.rig.verifies.filter (fun x => decide (x ≠ j)) } s.begin)

theorem verifyShown_rigOnly (s : State) (j : Slot × Origin) : RigOnly s s.begin [Reg.sysRigLoadStatus] (verifyShown s j) :=
  ⟨rfl, fun a ha => by
    simp only [List.mem_singleton] at ha
    simp only [verifyShown, showLoad, State.reg_setReg, if_neg ha]; rfl⟩

theorem verifyShown_status (s : State) (j : Slot × Origin) :
    (verifyShown s j).reg Reg.sysRigLoadStatus =
      wd (((s.loadCheck (s.image j.1)).getD (0, 0xFF)).1 + 0x100 * slotCode (some j.1) + 0x10000 * ((s.loadCheck (s.image j.1)).getD (0, 0xFF)).2) := by
  simp only [verifyShown, showLoad, State.reg_setReg, if_true]

theorem slot_of_verify {k : Slot} {l : List (Slot × Origin)} {j : Slot × Origin} (h : l.find? (fun x => decide (some x.1 = some k)) = some j) :
    j.1 = k := by
  simpa using List.find?_some h

/-- The end of the load checks (R62, R66). -/
theorem doRigVerifySlotDone_eq {s : State} {k : Slot} {j : Slot × Origin} (h : s.rig.verifies.find? (fun x => decide (some x.1 = some k)) = some j) :
    doRigVerifySlotDone (slotCode (some k)) s.begin =
      match s.loadCheck (s.image j.1) with
      | some (r, _) => complete j.2 (loadStatusOf r) 0 (verifyShown s j)
      | none => writeSelector ((verifyShown s j).selectorDue.setValid j.1 true) (.selector (some j.2)) (verifyShown s j) := by
  have himg : ∀ r, (setRig { s.rig with verifies := r } s.begin).image j.1 = s.image j.1 := fun r => by cases j.1 <;> rfl
  simp only [doRigVerifySlotDone, codeSlot_slotCode, State.begin_rig, h, himg]
  rfl

/-- A slot that fails a load check keeps its VALID flag, and the command completes with the check's status. -/
theorem exec_rigVerifySlotDone_failed {s : State} {k : Slot} {j : Slot × Origin} (h : s.rig.verifies.find? (fun x => decide (some x.1 = some k)) = some j)
    {r x : Nat} (hf : s.loadCheck (s.image k) = some (r, x)) :
    ∃ t, exec (.rigVerifySlotDone (slotCode (some k))) s = .next (complete j.2 (loadStatusOf r) 0 t) ∧
      t.reg Reg.sysRigLoadStatus = wd (r + 0x100 * slotCode (some k) + 0x10000 * x) ∧ t.rst = s.rst ∧ RigOnly s s.begin [Reg.sysRigLoadStatus] t := by
  obtain rfl := slot_of_verify h
  refine ⟨verifyShown s j, congrArg Host.Outcome.next ?_, ?_, rfl, verifyShown_rigOnly s j⟩
  · rw [doRigVerifySlotDone_eq h, hf]
  · rw [verifyShown_status, hf]; rfl

/-- A slot that passes every load check has its VALID flag set by the record asked for. -/
theorem exec_rigVerifySlotDone_passed {s : State} {k : Slot} {j : Slot × Origin} (h : s.rig.verifies.find? (fun x => decide (some x.1 = some k)) = some j)
    (hf : s.loadCheck (s.image k) = none) :
    ∃ t, exec (.rigVerifySlotDone (slotCode (some k))) s = .next t ∧ AsksSelector s (s.selectorDue.setValid k true) (.selector (some j.2)) t ∧
      fld (t.reg Reg.sysRigLoadStatus) 7 0 = 0 ∧ RigOnly s s.begin [Reg.sysRigLoadStatus] t := by
  obtain rfl := slot_of_verify h
  refine ⟨writeSelector ((verifyShown s j).selectorDue.setValid j.1 true) (.selector (some j.2)) (verifyShown s j), congrArg Host.Outcome.next ?_, ?_, ?_,
    rigOnly_writeSelector (verifyShown_rigOnly s j) _ _⟩
  · rw [doRigVerifySlotDone_eq h, hf]
  · rw [State.selectorDue_congr (s := s) rfl rfl]
    exact writeSelector_asks _ _ rfl
  · show fld ((verifyShown s j).reg Reg.sysRigLoadStatus) 7 0 = 0
    rw [verifyShown_status, hf]
    cases j.1 <;> rfl

/-- RIG_SELECT_SLOT asks for a selector with the slot ACTIVE, or as the trial (R60, R66). -/
theorem exec_rigSelectSlot {s : State} {o : Origin} (hacc : Accepted o s) (k : Slot) (trial : Bool)
    (hcheck : rigSelectSlotCheck o (slotCode (some k)) s.begin = none) :
    ∃ t, exec (.rigSelectSlot o (slotCode (some k)) trial) s = .next t ∧
      AsksSelector s (if trial = true then { s.selectorDue with trialSlot := k, trialPending := true } else { s.selectorDue with active := some k })
        (.selector (some o)) t ∧ t.rig = s.rig ∧ RigOnly s (mailbox 43 s.begin) [] t := by
  refine ⟨writeSelector (if trial then { s.selectorDue with trialSlot := k, trialPending := true } else { s.selectorDue with active := some k })
    (.selector (some o)) (mailbox 43 s.begin), ?_, writeSelector_asks _ _ (mailbox_rst _ _), mailbox_rig _ _,
    rigOnly_writeSelector (rigOnly_mailbox (rigOnly_setRig s s.rig) 43) _ _⟩
  refine congrArg Host.Outcome.next ((loneCommand_accepted hacc .bare hcheck _).trans ?_)
  simp only [rigSelectSlotEffect, codeSlot_slotCode]; rfl

/-- RIG_CONFIRM clears TRIAL, and asks for a selector whose ACTIVE is the running slot and whose floor covers its image (R61). -/
theorem exec_rigConfirm {s : State} {o : Origin} (hacc : Accepted o s) (hcheck : rigConfirmCheck o s.begin = none) {i : RigImage}
    (hi : s.rig.running = some i) :
    ∃ t, exec (.rigConfirm o) s = .next t ∧
      AsksSelector s { s.selectorDue with active := s.rig.runningSlot, floor := max s.selectorDue.floor (secVersion i) } (.selector (some o)) t ∧
      t.bit Reg.sysRigStatus 2 = false ∧ t.key.digestDue = true ∧ t.rig = s.rig ∧ RigOnly s (mailbox 43 s.begin) [Reg.sysRigStatus] t := by
  let u := digestChanged (s.begin.setBit Reg.sysRigStatus 2 false)
  have hu : RigOnly s s.begin [Reg.sysRigStatus] u := ⟨rfl, fun a ha => by
    rw [List.mem_singleton] at ha
    show (s.begin.setBit Reg.sysRigStatus 2 false).reg a = s.begin.reg a
    rw [State.reg_setBit, if_neg ha]⟩
  have hstatus : Reg.sysRigStatus ≠ Reg.fidStatus 43 := by decide
  refine ⟨writeSelector { s.selectorDue with active := s.rig.runningSlot, floor := max s.selectorDue.floor (secVersion i) } (.selector (some o))
    (mailbox 43 u), ?_, writeSelector_asks _ _ (mailbox_rst _ _), ?_, ?_, mailbox_rig _ _, rigOnly_writeSelector (rigOnly_mailbox hu 43) _ _⟩
  · refine congrArg Host.Outcome.next ((loneCommand_accepted hacc .working hcheck _).trans ?_)
    simp only [rigConfirmEffect, State.begin_rig, hi]; rfl
  · show bitOf ((mailbox 43 u).reg Reg.sysRigStatus) 2 = false
    rw [mailbox, fidEvent_reg, if_neg (fun h => hstatus h.2)]
    show (s.begin.setBit Reg.sysRigStatus 2 false).bit Reg.sysRigStatus 2 = false
    rw [State.bit_setBit _ _ _ (by decide), if_pos rfl]
  · show (mailbox 43 u).key.digestDue = true
    rw [mailbox_key]; rfl

end Sys2Proof.Machine
end

section
namespace Sys2Proof.Machine

open Sys2Proof

/-- Settles O48: each command asks for the selector record that its lemma names, and each end finds its job and leaves what was said of it. -/
theorem rigSlots : Obligations.RigSlots := by
  intro s k Asked Only told shown
  refine ⟨fun o offset length data plans hacc hcheck => exec_rigWriteSlot hacc k hcheck data plans, fun j hj => ⟨fun d hd => ?_, fun hd => ?_⟩,
    fun o hacc hcheck => ?_, fun j hj => ⟨fun r x hf => exec_rigVerifySlotDone_failed hj hf, fun hf => exec_rigVerifySlotDone_passed hj hf⟩,
    fun o trial hacc hcheck => exec_rigSelectSlot hacc k trial hcheck, fun o i hacc hcheck hi => exec_rigConfirm hacc hcheck hi⟩
  · exact exec_rigWriteSlotDone hj hd
  · exact exec_rigWriteSlotDone_failed hj hd
  · refine congrArg Host.Outcome.next ((loneCommand_accepted hacc .bare hcheck _).trans ?_)
    simp only [rigVerifySlotEffect, codeSlot_slotCode]; rfl

end Sys2Proof.Machine
end


section
/-! Commands and steps that write registers of the SYS block, the zones' states among them, and those that leave the SYS block alone (R73, R80, R83). -/

namespace Sys2Proof.Machine

open Sys2Proof

/-! Writing registers alone -/

/-- Registers are all that differs, and only those of which `p` holds. -/
def Writes (p : Nat → Prop) (s t : State) : Prop := t = { s with regs := t.regs } ∧ ∀ a, ¬ p a → t.reg a = s.reg a

theorem Writes.refl (p : Nat → Prop) (s : State) : Writes p s s := ⟨rfl, fun _ _ => rfl⟩

theorem Writes.trans {p : Nat → Prop} {s t u : State} (h : Writes p s t) (g : Writes p t u) : Writes p s u :=
  ⟨by rw [g.1, h.1], fun a ha => (g.2 a ha).trans (h.2 a ha)⟩

theorem Writes.mono {p q : Nat → Prop} {s t : State} (h : Writes p s t) (hpq : ∀ a, p a → q a) : Writes q s t :=
  ⟨h.1, fun a ha => h.2 a (fun hp => ha (hpq a hp))⟩

theorem Writes.setReg {p : Nat → Prop} {a : Nat} (h : p a) (v : Word) (s : State) : Writes p s (s.setReg a v) :=
  ⟨rfl, fun b hb => by rw [State.reg_setReg, if_neg (by rintro rfl; exact hb h)]⟩

theorem Writes.foldl {α : Type} {p : Nat → Prop} {f : State → α → State} (h : ∀ s x, Writes p s (f s x)) (l : List α) (s : State) :
    Writes p s (l.foldl f s) := by
  induction l generalizing s with
  | nil => exact Writes.refl p s
  | cons x l ih => exact (h s x).trans (ih (f s x))

theorem Writes.ite {p : Nat → Prop} {s t u : State} {c : Prop} [Decidable c] (h : Writes p s t) (g : Writes p s u) :
    Writes p s (if c then t else u) := by
  split
  · exact h
  · exact g

/-! Zones -/

theorem zone_setZone (s : State) {k z : Nat} (v : Nat) (hk : k < 16) (hz : z < 16) :
    (setZone k v s).zone z = if z = k then v % 4 else s.zone z := by
  unfold State.zone setZone State.f
  rw [State.reg_setF, if_pos rfl]
  by_cases h : z = k
  · subst h
    rw [fld_setFld _ _ (by omega) (by omega), if_pos rfl, show 2 * z + 1 + 1 - 2 * z = 2 by omega]; rfl
  · rw [fld_setFld_other _ _ (by omega) (by omega) (by omega), if_neg h]

theorem setZone_writes (k v : Nat) (s : State) : Writes (· = Reg.sysZoneState) s (setZone k v s) := Writes.setReg (p := (· = Reg.sysZoneState)) rfl _ s

/-- The zones of a list whose state meets a condition take a state, one after another. -/
def turnZones (c : Nat → Bool) (v : Nat) (l : List Nat) (s : State) : State := l.foldl (fun s k => if c (s.zone k) then setZone k v s else s) s

theorem zone_turnZones (c : Nat → Bool) {v : Nat} (hv : v < 4) {l : List Nat} (hl : ∀ k ∈ l, k < 16) (s : State) {z : Nat} (hz : z < 16) :
    (turnZones c v l s).zone z = if z ∈ l ∧ c (s.zone z) = true then v else s.zone z := by
  induction l generalizing s with
  | nil => simp [turnZones]
  | cons k l ih =>
    have hstep : (if c (s.zone k) then setZone k v s else s).zone z = if z = k ∧ c (s.zone z) = true then v else s.zone z := by
      by_cases hc : c (s.zone k) = true
      · rw [if_pos hc, zone_setZone s v (hl k List.mem_cons_self) hz, Nat.mod_eq_of_lt hv]
        by_cases h : z = k
        · subst h; simp [hc]
        · simp [h]
      · rw [if_neg hc, if_neg]
        rintro ⟨rfl, h⟩
        exact hc h
    have hfold := ih (fun j hj => hl j (List.mem_cons_of_mem _ hj)) (if c (s.zone k) then setZone k v s else s)
    show (turnZones c v l (if c (s.zone k) then setZone k v s else s)).zone z = _
    rw [hfold, hstep]
    by_cases h : z = k <;> by_cases hc : c (s.zone z) = true <;> by_cases hm : z ∈ l <;> simp_all

theorem turnZones_writes (c : Nat → Bool) (v : Nat) (l : List Nat) (s : State) : Writes (· = Reg.sysZoneState) s (turnZones c v l s) :=
  Writes.foldl (fun s k => (setZone_writes k v s).ite (Writes.refl _ s)) l s

theorem mem_maskZones {mask z : Nat} : z ∈ maskZones mask ↔ z < 16 ∧ mask.testBit z = true := by simp [maskZones]

end Sys2Proof.Machine
end

section
/-! The re-rig's command and its verification pass (R70, R73, R79, R82). -/

namespace Sys2Proof.Machine

open Sys2Proof

@[simp] theorem image_begin (s : State) (k : Slot) : s.begin.image k = s.image k := by cases k <;> rfl

theorem setRezone_reg (r : Option Rezone) (s : State) (a : Nat) : (setRezone r s).reg a = s.reg a := rfl

/-- The re-rig recorded by a command that wrote registers alone. -/
theorem setRezone_onlyRegs {l : List Nat} {s u : State} (h : OnlyRegs l s u) (r : Option Rezone) :
    setRezone r u = { s with out := [], regs := (setRezone r u).regs, rig := { s.rig with rezone := r } } := by
  obtain ⟨hu, -⟩ := h
  rw [hu]; rfl

/-! Checks -/

theorem firstRefusal_none {l : List Refuse} (h : firstRefusal l = none) : ∀ r ∈ l, r = none := by
  induction l with
  | nil => simp
  | cons r l ih =>
    cases r with
    | none => simpa using ih h
    | some r => simp [firstRefusal] at h

theorem need_none {ok : Bool} {st : Status} {obj : Nat} (h : need ok st obj = none) : ok = true := by
  simpa [need] using h

/-- A re-rig names zones of the 16 (R70). -/
theorem rigRezoneCheck_mask {o : Origin} {slot mask : Nat} {s : State} (h : rigRezoneCheck o slot mask s = none) : 0 < mask ∧ mask < 0x10000 := by
  simpa using need_none (firstRefusal_none h _ (List.mem_cons_of_mem _ List.mem_cons_self))

/-! RIG_REZONE -/

/-- The re-rig that an accepted RIG_REZONE begins. -/
def rezoneBegun (o : Origin) (k : Slot) (mask : Nat) : Rezone := ⟨k, mask, [], false, none, o, [], false, [], 0⟩

/-- REZONE_BUSY and the zones of the command are shown. -/
def rezoneShown (o : Origin) (k : Slot) (mask : Nat) (s : State) : State :=
  (setRezone (some (rezoneBegun o k mask)) (s.setBit Reg.sysRigStatus 6 true)).setReg Reg.sysRezoneStatus (wd (mask + 0x10000 * ((maskZones mask).headD 0)))

theorem rigRezoneEffect_eq (o : Origin) (k : Slot) (mask : Nat) (s : State) :
    rigRezoneEffect o (slotCode (some k)) mask s = turnZones (fun _ => true) 1 (maskZones mask) (rezoneShown o k mask s) := by
  simp only [rigRezoneEffect, codeSlot_slotCode, turnZones, if_true]
  rfl

theorem headD_maskZones_lt (mask : Nat) : (maskZones mask).headD 0 < 16 := by
  cases h : maskZones mask with
  | nil => simp
  | cons z l => exact (mem_maskZones.1 (h ▸ List.mem_cons_self : z ∈ maskZones mask)).1

/-- SYS_REZONE_STATUS holds the zones in its low half (R83). -/
theorem fld_rezoneStatus {mask : Nat} (h : mask < 0x10000) : fld (wd (mask + 0x10000 * ((maskZones mask).headD 0))) 15 0 = mask := by
  have hhead := headD_maskZones_lt mask
  simp only [fld, wd, BitVec.toNat_ofNat, Nat.shiftRight_zero]
  omega

/-- RIG_REZONE marks its zones VERIFYING and shows REZONE_BUSY (R70, R73, R83). -/
theorem exec_rigRezone {s : State} {o : Origin} (hacc : Accepted o s) (k : Slot) {mask : Nat}
    (hcheck : rigRezoneCheck o (slotCode (some k)) mask s.begin = none) :
    ∃ t, exec (.rigRezone o (slotCode (some k)) mask) s = .next t ∧
      t.rig.rezone = some (rezoneBegun o k mask) ∧ (∀ z, z < 16 → t.zone z = if mask.testBit z = true then 1 else s.zone z) ∧ t.bit Reg.sysRigStatus 6 = true ∧
      fld (t.reg Reg.sysRezoneStatus) 15 0 = mask ∧ t = { s with out := [], regs := t.regs, rig := { s.rig with rezone := t.rig.rezone } } ∧
      ∀ a, a ∉ [Reg.sysRigStatus, Reg.sysRezoneStatus, Reg.sysZoneState] → t.reg a = s.reg a := by
  have hmask := (rigRezoneCheck_mask hcheck).2
  let u := rezoneShown o k mask s.begin
  have hu : ∀ a, u.reg a = if a = Reg.sysRezoneStatus then wd (mask + 0x10000 * ((maskZones mask).headD 0))
      else (s.begin.setBit Reg.sysRigStatus 6 true).reg a := fun a => State.reg_setReg _ _ _ _
  have hne : Reg.sysZoneState ≠ Reg.sysRezoneStatus ∧ Reg.sysZoneState ≠ Reg.sysRigStatus ∧ Reg.sysRigStatus ≠ Reg.sysRezoneStatus := by decide
  obtain ⟨hparts, hregs⟩ := turnZones_writes (fun _ => true) 1 (maskZones mask) u
  refine ⟨turnZones (fun _ => true) 1 (maskZones mask) u, ?_, ?_, fun z hz => ?_, ?_, ?_, ?_, fun a ha => ?_⟩
  · exact congrArg Host.Outcome.next ((loneCommand_accepted hacc .working hcheck _).trans (rigRezoneEffect_eq o k mask s.begin))
  · rw [hparts]; rfl
  · have huz : u.zone z = s.zone z := by
      unfold State.zone State.f
      rw [hu, if_neg hne.1, State.reg_setBit, if_neg hne.2.1]; rfl
    rw [zone_turnZones _ (by decide) (fun k hk => (mem_maskZones.1 hk).1) u hz, huz]
    simp [mem_maskZones, hz]
  · unfold State.bit
    rw [hregs _ hne.2.1.symm, hu, if_neg hne.2.2]
    exact (State.bit_setBit s.begin _ _ (by decide)).trans (if_pos rfl)
  · rw [hregs _ hne.1.symm, hu, if_pos rfl, fld_rezoneStatus hmask]
  · rw [hparts]; rfl
  · simp only [List.mem_cons, List.not_mem_nil, or_false, not_or] at ha
    obtain ⟨hstatus, hrezone, hzone⟩ := ha
    rw [hregs a hzone, hu, if_neg hrezone, State.reg_setBit, if_neg hstatus]; rfl

/-! ZONE_VERIFIED -/

/-- A verification pass without failure (R73, R82). -/
theorem exec_zoneVerified_passed {s : State} {r : Rezone} {i : RigImage} {read : List (Nat × List Byte)} (hr : s.rig.rezone = some r) (hserving : s.serving = true)
    (hfailed : r.failed = none) (himg : s.image r.slot = some i) (hv : r.verified = false) (hsigned : s.rezoneSigned i = none)
    (hbody : s.bodyCheck i read ((maskZones r.mask).flatMap zoneSections) = none) :
    ∃ t, exec (.zoneVerified read) s = .next t ∧ t = { s with out := [], regs := t.regs, rig := { s.rig with rezone := some { r with verified := true } } } ∧
      ∀ a, t.reg a = if a = Reg.sysRigLoadStatus then wd (0x100 * slotCode (some r.slot) + 0xFF0000) else s.reg a := by
  refine ⟨setRezone (some { r with verified := true }) (showLoad (some r.slot) none s.begin), congrArg Host.Outcome.next ?_, ?_, fun a => ?_⟩
  · have hserving' : s.begin.serving = true := hserving
    have hsigned' : s.begin.rezoneSigned i = none := hsigned
    have hbody' : s.begin.bodyCheck i read ((maskZones r.mask).flatMap zoneSections) = none := hbody
    simp [doZoneVerified, hr, hfailed, hv, hserving', himg, hsigned', hbody', firstFail]
  · exact setRezone_onlyRegs (onlyRegs_setReg s _ _) _
  · rw [setRezone_reg]
    simp only [showLoad, State.reg_setReg, Option.getD_none]
    cases r.slot <;> rfl

/-! A rig event (R84, R700): its bit, its post to the rig owner, and its entry in the device log -/

theorem rigEvent_reg (b : Nat) (s : State) {a : Nat} (ha : inTen a = false) (hne : a ≠ Reg.sysRigEvent) : (rigEvent b s).reg a = s.reg a :=
  (raiseRig_reports b s).2 a ha (by simpa using hne)

theorem rigEvent_bit {b : Nat} (hb : b < 32) (s : State) : (rigEvent b s).bit Reg.sysRigEvent b = true := by
  have hreg : (rigEvent b s).reg Reg.sysRigEvent = setFld (s.reg Reg.sysRigEvent) b b 1 := raiseBit_reg (by decide) _ _ _ b s
  unfold State.bit
  rw [hreg, bitOf_setFld _ _ (le_refl b) hb]
  simp

/-! A failed verification pass (R79) -/

/-- What a failed pass shows: its event, its check, and no zone VERIFYING any more. -/
def verifyFailed (r : Rezone) (f : Nat × Nat) (s : State) : State :=
  turnZones (fun v => decide (v = 1)) 0 (maskZones r.mask) (rigEvent 3 (showLoad (some r.slot) (some f) s))

theorem rezoneFails_eq (r : Rezone) (f : Nat × Nat) (s : State) : rezoneFails r f s = returnNext { r with failed := some f.1 } (verifyFailed r f s) := by
  simp only [rezoneFails, verifyFailed, turnZones, decide_eq_true_eq]

theorem verifyFailed_reg (r : Rezone) (f : Nat × Nat) (s : State) {a : Nat} (hz : a ≠ Reg.sysZoneState) :
    (verifyFailed r f s).reg a = (rigEvent 3 (showLoad (some r.slot) (some f) s)).reg a := (turnZones_writes _ _ _ _).2 a hz

theorem verifyFailed_zone (r : Rezone) (f : Nat × Nat) (s : State) {z : Nat} (hz : z < 16) :
    (verifyFailed r f s).zone z = if r.mask.testBit z = true ∧ s.zone z = 1 then 0 else s.zone z := by
  have hne : Reg.sysZoneState ≠ Reg.sysRigLoadStatus := by decide
  have hsame : (rigEvent 3 (showLoad (some r.slot) (some f) s)).zone z = s.zone z := by
    unfold State.zone State.f
    rw [rigEvent_reg 3 _ (by decide) (by decide), showLoad, State.reg_setReg, if_neg hne]
  unfold verifyFailed
  rw [zone_turnZones _ (by decide) (fun k hk => (mem_maskZones.1 hk).1) _ hz, hsame]
  simp [mem_maskZones, hz]

/-- REASON of the check that failed (R82). -/
theorem verifyFailed_reason (r : Rezone) (f : Nat × Nat) (s : State) : fld ((verifyFailed r f s).reg Reg.sysRigLoadStatus) 7 0 = f.1 % 256 := by
  rw [verifyFailed_reg _ _ _ (by decide), rigEvent_reg 3 _ (by decide) (by decide), showLoad, State.reg_setReg, if_pos rfl]
  simp only [Option.getD_some, fld, wd, BitVec.toNat_ofNat, Nat.shiftRight_zero]
  omega

/-- With no zone re-rigged yet nothing has to return, and the command completes (R79). -/
theorem returnNext_none {r : Rezone} {e : Nat} (hdone : r.done = []) (s : State) :
    returnNext { r with failed := some e } s = complete r.origin (loadStatusOf e) 0 (endRezone s) := by
  have hnext : nextZone { r with failed := some e } = none := by
    rw [nextZone, List.find?_eq_none]
    simp [hdone]
  rw [returnNext, hnext]; rfl

theorem endRezone_reg (s : State) {a : Nat} (h1 : a ≠ Reg.sysRigStatus) (h2 : a ≠ Reg.sysRezoneStatus) : (endRezone s).reg a = s.reg a := by
  rw [endRezone, setRezone_reg, State.reg_setF, if_neg h2, State.reg_setBit, if_neg h1]

theorem endRezone_busy (s : State) : (endRezone s).bit Reg.sysRigStatus 6 = false := by
  have hne : Reg.sysRigStatus ≠ Reg.sysRezoneStatus := by decide
  unfold State.bit
  rw [endRezone, setRezone_reg, State.reg_setF, if_neg hne, State.reg_setBit, if_pos rfl, bitOf_setFld _ _ (le_refl 6) (by decide)]
  rfl

/-- The checks of a verification pass over an image (R62, R73): its key and signature, then the sections of the zones. -/
theorem doZoneVerified_failed {s : State} {r : Rezone} {i : RigImage} {read : List (Nat × List Byte)} {f : Nat × Nat} (hr : s.rig.rezone = some r)
    (hserving : s.serving = true) (hfailed : r.failed = none) (himg : s.image r.slot = some i) (hv : r.verified = false)
    (hf : firstFail [s.rezoneSigned i, s.bodyCheck i read ((maskZones r.mask).flatMap zoneSections)] = some f) :
    doZoneVerified read s.begin = rezoneFails r f s.begin := by
  have hserving' : s.begin.serving = true := hserving
  have hf' : firstFail [s.begin.rezoneSigned i, s.begin.bodyCheck i read ((maskZones r.mask).flatMap zoneSections)] = some f := hf
  simp [doZoneVerified, hr, hfailed, hv, hserving', himg, hf']

/-- A verification pass that fails (R79, R82). -/
theorem exec_zoneVerified_failed {s : State} {r : Rezone} {i : RigImage} {read : List (Nat × List Byte)} {e x : Nat} (hr : s.rig.rezone = some r)
    (hserving : s.serving = true) (hfailed : r.failed = none) (himg : s.image r.slot = some i) (hv : r.verified = false) (hdone : r.done = [])
    (hf : firstFail [s.rezoneSigned i, s.bodyCheck i read ((maskZones r.mask).flatMap zoneSections)] = some (e, x)) :
    ∃ t, exec (.zoneVerified read) s = .next (complete r.origin (loadStatusOf e) 0 t) ∧ t.rig.rezone = none ∧ t.bit Reg.sysRigStatus 6 = false ∧
      fld (t.reg Reg.sysRigLoadStatus) 7 0 = e % 256 ∧ (∀ z, z < 16 → r.mask.testBit z = true → s.zone z = 1 → t.zone z = 0) ∧
      (∀ z, z < 16 → r.mask.testBit z = false → t.zone z = s.zone z) ∧ t.bit Reg.sysRigEvent 3 = true := by
  have hzone : ∀ z, z < 16 → (endRezone (verifyFailed r (e, x) s.begin)).zone z = if r.mask.testBit z = true ∧ s.zone z = 1 then 0 else s.zone z := by
    intro z hz
    unfold State.zone State.f
    rw [endRezone_reg _ (by decide) (by decide)]
    exact verifyFailed_zone r (e, x) s.begin hz
  refine ⟨endRezone (verifyFailed r (e, x) s.begin), congrArg Host.Outcome.next ?_, rfl, endRezone_busy _, ?_, fun z hz hm h1 => ?_, fun z hz hm => ?_, ?_⟩
  · rw [doZoneVerified_failed hr hserving hfailed himg hv hf, rezoneFails_eq, returnNext_none hdone]
  · rw [endRezone_reg _ (by decide) (by decide), verifyFailed_reason]
  · rw [hzone z hz, if_pos ⟨hm, h1⟩]
  · rw [hzone z hz, if_neg (by simp [hm])]
  · unfold State.bit
    rw [endRezone_reg _ (by decide) (by decide), verifyFailed_reg _ _ _ (by decide)]
    exact rigEvent_bit (by decide) _

end Sys2Proof.Machine
end

section
/-! A zone that drains and stops where nothing is routed (R73, R75, R76). -/

namespace Sys2Proof.Machine

open Sys2Proof

/-- Beside registers from the tenancies' windows up, only what the wires carry and the fids differ. -/
def BelowKept (s t : State) : Prop := t = { s with regs := t.regs, wire := t.wire, fid := t.fid } ∧ ∀ a < 0x10000, t.reg a = s.reg a

theorem BelowKept.refl (s : State) : BelowKept s s := ⟨rfl, fun _ _ => rfl⟩

theorem BelowKept.trans {s t u : State} (h : BelowKept s t) (g : BelowKept t u) : BelowKept s u :=
  ⟨by rw [g.1, h.1], fun a ha => (g.2 a ha).trans (h.2 a ha)⟩

theorem BelowKept.setReg {a : Nat} (h : 0x10000 ≤ a) (v : Word) (s : State) : BelowKept s (s.setReg a v) :=
  ⟨rfl, fun b hb => by rw [State.reg_setReg, if_neg (by omega)]⟩

theorem BelowKept.setF {a : Nat} (h : 0x10000 ≤ a) (hi lo v : Nat) (s : State) : BelowKept s (s.setF a hi lo v) := BelowKept.setReg h _ s
theorem BelowKept.setBit {a : Nat} (h : 0x10000 ≤ a) (b : Nat) (v : Bool) (s : State) : BelowKept s (s.setBit a b v) := BelowKept.setReg h _ s
theorem BelowKept.bump {a : Nat} (h : 0x10000 ≤ a) (n : Nat) (s : State) : BelowKept s (s.bump a n) := BelowKept.setReg h _ s
theorem BelowKept.setFid (f : Nat) (d : Fid) (s : State) : BelowKept s (setFid f d s) := ⟨rfl, fun _ _ => rfl⟩

theorem BelowKept.foldl {α : Type} {f : State → α → State} (h : ∀ s x, BelowKept s (f s x)) (l : List α) (s : State) : BelowKept s (l.foldl f s) := by
  induction l generalizing s with
  | nil => exact BelowKept.refl s
  | cons x l ih => exact (h s x).trans (ih (f s x))

theorem BelowKept.ite {s t u : State} {c : Prop} [Decidable c] (h : BelowKept s t) (g : BelowKept s u) : BelowKept s (if c then t else u) := by
  split
  · exact h
  · exact g

theorem BelowKept.zone {s t : State} (h : BelowKept s t) (z : Nat) : t.zone z = s.zone z := by
  unfold State.zone State.f
  rw [h.2 _ (by decide)]

/-! Transmitters and bights -/

theorem bightRefresh_below (k : Nat) (s : State) : BelowKept s (bightRefresh k s) := by
  have ha : 0x10000 ≤ Reg.strBightStatus k := by simp only [Reg.strBightStatus]; omega
  unfold bightRefresh
  have hforce := BelowKept.setF ha 13 8 (bightForce k s) s
  have hbit : ∀ s v, BelowKept s (s.setBit (Reg.strBightStatus k) 17 v) := fun s v => BelowKept.setBit ha _ v s
  have hboth : ∀ s n, BelowKept s ((s.setF (Reg.strBightStatus k) 1 0 n).setBit (Reg.strBightStatus k) 17 false) :=
    fun s n => (BelowKept.setF ha _ _ _ s).trans (hbit _ _)
  exact hforce.trans (((hbit _ _).ite (hboth _ _)).ite (((hbit _ _).ite (hboth _ _)).ite (hbit _ _)))

theorem txRefresh_below (n : Nat) (s : State) : BelowKept s (txRefresh n s) := by
  have ha : 0x10000 ≤ Reg.strState n := by simp only [Reg.strState]; omega
  unfold txRefresh
  have hstate := (BelowKept.setF ha 5 4 (txCode (txWanted n s).1) s).trans (BelowKept.setBit ha 6 (txWanted n s).2 _)
  exact (hstate.trans (bightRefresh_below _ _)).ite hstate

theorem txRefreshAll_below (ns : List Nat) (s : State) : BelowKept s (txRefreshAll ns s) := BelowKept.foldl (fun s n => txRefresh_below n s) ns s

theorem splSrc_destWin_ge (d : Nat) : 0x10000 ≤ Reg.splSrc (destWin d) := by
  simp only [Reg.splSrc, destWin]
  split <;> omega

theorem tautRefresh_below (n : Nat) (s : State) : BelowKept s (tautRefresh n s) :=
  BelowKept.foldl (fun s d => (BelowKept.setBit (splSrc_destWin_ge d) _ _ s).trans (txRefresh_below _ _)) _ s

/-! The hook runs of a fid -/

theorem fidEvent_below (f bit : Nat) (s : State) : BelowKept s (fidEvent f bit s) := by
  have ha : 0x10000 ≤ Reg.fidStatus f := by simp only [Reg.fidStatus]; omega
  rw [fidEvent_eq]
  exact ((BelowKept.setFid f _ s).trans (BelowKept.setF ha _ _ _ _)).ite (BelowKept.setFid f _ s)

theorem setFidWords_below (f a : Nat) (ws : List Nat) (s : State) : BelowKept s (setFidWords f a ws s) :=
  BelowKept.foldl (f := fun s (p : Nat × Nat) => setFidWord f (a + 4 * p.1) p.2 s) (fun _ _ => ⟨rfl, fun _ _ => rfl⟩) _ s

theorem refreshHookStatus_below (f : Nat) (s : State) : BelowKept s (refreshHookStatus f s) := by
  have ha : 0x10000 ≤ Reg.fidStatus f := by simp only [Reg.fidStatus]; omega
  exact (BelowKept.setBit ha _ _ s).trans (BelowKept.setF ha _ _ _ _)

theorem fidHookStatus_ge (h t : Nat) : 0x10000 ≤ Reg.fidHookStatus h t := by simp only [Reg.fidHookStatus]; omega

theorem startRun_below (f : Nat) (r : HookRun) (s : State) : BelowKept s (startRun f r s) :=
  ((((setFidWords_below f _ _ s).trans (BelowKept.setFid f _ _)).trans (BelowKept.setF (fidHookStatus_ge _ _) _ _ _ _)).trans
    (BelowKept.setF (fidHookStatus_ge _ _) _ _ _ _)).trans (refreshHookStatus_below _ _)

theorem nextRun_below (f : Nat) (s : State) : BelowKept s (nextRun f s) := by
  unfold nextRun
  dsimp only
  split
  · exact (BelowKept.setFid f _ s).trans (startRun_below _ _ _)
  · exact refreshHookStatus_below f s

theorem applyHookRegs_below (f t ctrl mask : Nat) (s : State) : BelowKept s (applyHookRegs f t ctrl mask s) := by
  have ha : 0x10000 ≤ Reg.fidHookCtrl (hookNo f) t := by simp only [Reg.fidHookCtrl]; omega
  have hm : 0x10000 ≤ Reg.fidHookMask (hookNo f) t := by simp only [Reg.fidHookMask]; omega
  have hticks : BelowKept s (if s.f (Reg.fidHookCtrl (hookNo f) t) 13 4 = ctrl / 16 % 1024 then s
      else { s with fid := { s.fid with ticks := tabPut 0 (4 * f + t) 0 s.fid.ticks } }) := (BelowKept.refl s).ite ⟨rfl, fun _ _ => rfl⟩
  exact ((hticks.trans (BelowKept.setF ha _ _ _ _)).trans (BelowKept.setF ha _ _ _ _)).trans (BelowKept.setReg hm _ _)

theorem releaseHookRegs_below (f t : Nat) (s : State) : BelowKept s (releaseHookRegs f t s) := by
  unfold releaseHookRegs
  split
  · exact BelowKept.refl s
  · have hdel : ∀ fid, BelowKept s { s with fid := fid } := fun _ => ⟨rfl, fun _ _ => rfl⟩
    exact (BelowKept.refl s).ite ((hdel _).trans (applyHookRegs_below _ _ _ _ _))

theorem endRun_below (f : Nat) (st : Status) (s : State) : BelowKept s (endRun f st s) := by
  unfold endRun
  dsimp only
  split
  · exact BelowKept.refl s
  · next r _ =>
    have hcnt : 0x10000 ≤ Reg.fidHookRunCnt (hookNo f) r.tenancy := by simp only [Reg.fidHookRunCnt]; omega
    have hmax : 0x10000 ≤ Reg.fidHookMaxNs (hookNo f) r.tenancy := by simp only [Reg.fidHookMaxNs]; omega
    have hstatus := ((BelowKept.setF (fidHookStatus_ge (hookNo f) r.tenancy) 15 8 (statusCode st) s).trans
      (BelowKept.setF (fidHookStatus_ge (hookNo f) r.tenancy) 1 0
        (if (s.fidOf f).queue.any (fun x => decide (x.tenancy = r.tenancy)) then 1 else 0) _)).trans (BelowKept.bump hcnt 1 _)
    exact ((((hstatus.trans ((BelowKept.setReg hmax _ _).ite (BelowKept.refl _))).trans (BelowKept.setFid f _ _)).trans (nextRun_below f _)).trans
      (fidEvent_below f 6 _)).trans (releaseHookRegs_below f _ _)

/-! ZONE_STAGED: the next zone drains -/

/-- With no change set nothing is rolled back (R74). -/
theorem endSets_of_noSets {s : State} (h : s.spl.sets = []) (p : ChangeSet → Bool) (reason : Nat) (obj : ChangeSet → Nat) :
    endSets p reason obj s = s := by simp [endSets, h]

theorem drainZone_of_noSets {s : State} (h : s.spl.sets = []) (k : Nat) :
    BelowKept (setCurrent k (setZone k 2 s)) (drainZone k s) := by
  have hsets : (setCurrent k (setZone k 2 s)).spl.sets = [] := h
  unfold drainZone
  dsimp only
  rw [endSets_of_noSets hsets]
  exact txRefreshAll_below _ _

/-- The part once a staging pass has read a zone's sections: they are in work SRAM, and the check's result is shown. -/
def rezoneStaged (r : Rezone) (i : RigImage) (read : List (Nat × List Byte)) (k : Nat) (s : State) : State :=
  setRezone (some { r with staged := (zoneSections k).map (fun (x : Nat) => (x, s.plainSection i read x)) }) (showLoad (some r.slot) none s)

theorem doZoneStaged_passed {s : State} {r : Rezone} {i : RigImage} {read : List (Nat × List Byte)} {k : Nat} (hr : s.rig.rezone = some r)
    (hserving : s.serving = true) (hfailed : r.failed = none) (himg : s.image r.slot = some i) (hv : r.verified = true) (hwork : s.zoneAtWork r = none)
    (hnext : nextZone r = some k) (hbody : s.bodyCheck i read (zoneSections k) = none) :
    doZoneStaged read s = drainZone k (rezoneStaged r i read k s) := by
  simp [doZoneStaged, hr, hv, hfailed, hserving, hwork, himg, hnext, hbody, rezoneStaged]

theorem rezoneStaged_reg (r : Rezone) (i : RigImage) (read : List (Nat × List Byte)) (k : Nat) (s : State) {a : Nat} (h : a ≠ Reg.sysRigLoadStatus) :
    (rezoneStaged r i read k s).reg a = s.reg a := by
  rw [rezoneStaged, setRezone_reg, showLoad, State.reg_setReg, if_neg h]

/-- A staging pass without failure makes the next zone DRAINING (R73, R76). -/
theorem exec_zoneStaged {s : State} {r : Rezone} {i : RigImage} {read : List (Nat × List Byte)} {k : Nat} (hr : s.rig.rezone = some r)
    (hserving : s.serving = true) (hfailed : r.failed = none) (himg : s.image r.slot = some i) (hv : r.verified = true) (hwork : s.zoneAtWork r = none)
    (hnext : nextZone r = some k) (hk : k < 16) (hbody : s.bodyCheck i read (zoneSections k) = none) (hroute : Unrouted s) :
    ∃ t, exec (.zoneStaged read) s = .next t ∧ t.zone k = 2 ∧ (∀ z, z < 16 → z ≠ k → t.zone z = s.zone z) ∧ t.f Reg.sysRezoneStatus 19 16 = k ∧
      t.rig = { s.rig with rezone := some { r with staged := (zoneSections k).map (fun (x : Nat) => (x, s.plainSection i read x)) } } ∧ t.host = s.host := by
  have hne : Reg.sysZoneState ≠ Reg.sysRezoneStatus ∧ Reg.sysZoneState ≠ Reg.sysRigLoadStatus := by decide
  obtain ⟨hparts, hreg⟩ := drainZone_of_noSets (s := rezoneStaged r i read k s.begin) hroute.1 k
  have hzone : ∀ z, z < 16 → (drainZone k (rezoneStaged r i read k s.begin)).zone z = if z = k then 2 else s.zone z := by
    intro z hz
    have hshown : (rezoneStaged r i read k s.begin).zone z = s.zone z := by
      unfold State.zone State.f
      rw [rezoneStaged_reg _ _ _ _ _ hne.2]; rfl
    have hset := zone_setZone (rezoneStaged r i read k s.begin) 2 hk hz
    rw [hshown] at hset
    rw [← hset]
    unfold State.zone State.f
    rw [hreg _ (by decide), setCurrent, State.reg_setF, if_neg hne.1]
  refine ⟨drainZone k (rezoneStaged r i read k s.begin), congrArg Host.Outcome.next ?_, ?_, fun z hz hzk => ?_, ?_, ?_, ?_⟩
  · exact doZoneStaged_passed (s := s.begin) hr hserving hfailed ((image_begin s _).trans himg) hv hwork hnext hbody
  · rw [hzone k hk, if_pos rfl]
  · rw [hzone z hz, if_neg hzk]
  · unfold State.f
    rw [hreg _ (by decide)]
    exact (State.f_setF _ _ _ (by decide) (by decide)).trans (Nat.mod_eq_of_lt hk)
  · rw [hparts]; rfl
  · rw [hparts]; rfl

/-! ZONE_STOPPED -/

theorem decoderEis_of_unbound {s : State} (h : s.spl.eiBind = []) (n : Nat) : s.decoderEis n = [] := by simp [State.decoderEis, h]

theorem wireAmis_of_unbound {s : State} (h : s.aud.amiBind = []) (n : Nat) : s.wireAmis n = [] := by simp [State.wireAmis, h]

/-- A decoder that feeds no port loses its format and what it measured of the wire (R77). -/
theorem loseDecoder_unbound {s : State} (hei : s.spl.eiBind = []) (hami : s.aud.amiBind = []) (n : Nat) :
    loseDecoder n s = dropFormat n (setWire { s.wire with mastering := tabDel n s.wire.mastering, audio := tabDel n s.wire.audio }
      (((s.setReg (Reg.wirFmt n) 0).setReg (Reg.wirFmtSize n) 0).setReg (Reg.wirFmtRate n) 0)) := by
  simp only [loseDecoder, decoderEis_of_unbound (s := ((s.setReg (Reg.wirFmt n) 0).setReg (Reg.wirFmtSize n) 0).setReg (Reg.wirFmtRate n) 0) hei,
    List.foldl_nil, wireAmis_of_unbound (s := ((s.setReg (Reg.wirFmt n) 0).setReg (Reg.wirFmtSize n) 0).setReg (Reg.wirFmtRate n) 0) hami]
  rfl

/-- The formats and measurements of wires, and the format registers that show them (R188), are all that differs. -/
def WireLost (s t : State) : Prop :=
  t = { s with regs := t.regs, wire := { t.wire with flows := s.wire.flows } } ∧ ∀ a, (a < 0x140000 ∨ 0x148000 ≤ a) → t.reg a = s.reg a

theorem loseDecoder_wireLost {s : State} (hei : s.spl.eiBind = []) (hami : s.aud.amiBind = []) {n : Nat} (hn : n < 128) : WireLost s (loseDecoder n s) := by
  have hwrites : Writes (fun a => 0x140000 ≤ a ∧ a < 0x148000) s
      (((s.setReg (Reg.wirFmt n) 0).setReg (Reg.wirFmtSize n) 0).setReg (Reg.wirFmtRate n) 0) :=
    ((Writes.setReg (by simp only [Reg.wirFmt]; omega) _ _).trans (Writes.setReg (by simp only [Reg.wirFmtSize]; omega) _ _)).trans
      (Writes.setReg (by simp only [Reg.wirFmtRate]; omega) _ _)
  rw [loseDecoder_unbound hei hami]
  obtain ⟨hparts, hreg⟩ := hwrites
  refine ⟨?_, fun a ha => hreg a (by omega)⟩
  rw [hparts]; rfl

theorem loseDecoders_wireLost {l : List Nat} (hl : ∀ n ∈ l, n < 128) {s : State} (hei : s.spl.eiBind = []) (hami : s.aud.amiBind = []) :
    WireLost s (l.foldl (fun s n => loseDecoder n s) s) := by
  induction l generalizing s with
  | nil => exact ⟨rfl, fun _ _ => rfl⟩
  | cons n l ih =>
    obtain ⟨hparts, hreg⟩ := loseDecoder_wireLost hei hami (hl n List.mem_cons_self)
    obtain ⟨hparts', hreg'⟩ := ih (s := loseDecoder n s) (fun m hm => hl m (List.mem_cons_of_mem _ hm)) (by rw [hparts]; exact hei) (by rw [hparts]; exact hami)
    refine ⟨?_, fun a ha => (hreg' a ha).trans (hreg a ha)⟩
    rw [List.foldl_cons, hparts', hparts]

/-- A step that nothing of a list asks for. -/
theorem foldl_eq_self {α : Type} {f : State → α → State} {s : State} {l : List α} (h : ∀ x ∈ l, f s x = s) : l.foldl f s = s := by
  induction l with
  | nil => rfl
  | cons x l ih =>
    rw [List.foldl_cons, h x List.mem_cons_self]
    exact ih (fun y hy => h y (List.mem_cons_of_mem _ hy))

/-- With nothing routed, no flow, no recorder in use and no player running, a zone that stops loses its wires' formats, ends its fids' runs and idles its
transmitters (R73, R77). -/
theorem stopZone_unrouted {s : State} {k : Nat} (hk : k < 16) (hei : s.spl.eiBind = []) (hami : s.aud.amiBind = []) (hflows : s.wire.flows = [])
    (hrec : s.store.recInUse = []) (hply : ∀ p, p < 256 → s.bit (Reg.fstPlyStatus p) 0 = false) : BelowKept s (stopZone k s) := by
  have hmap : (List.range 8).foldl (fun s i => loseDecoder (8 * k + i) s) s = ((List.range 8).map (fun i => 8 * k + i)).foldl (fun s n => loseDecoder n s) s := by
    rw [List.foldl_map]
  have hlost := loseDecoders_wireLost (l := (List.range 8).map (fun i => 8 * k + i)) (fun n hn => by simp at hn; omega) hei hami
  unfold stopZone
  dsimp only
  rw [hmap]
  generalize ((List.range 8).map (fun i => 8 * k + i)).foldl (fun s n => loseDecoder n s) s = u at hlost ⊢
  obtain ⟨hparts, hreg⟩ := hlost
  have hu : BelowKept s u := ⟨by rw [hparts], fun a ha => hreg a (.inl (by omega))⟩
  have huflows : u.wire.flows = [] := by rw [hparts]; exact hflows
  have hurec : u.store.recInUse = [] := by rw [hparts]; exact hrec
  have huei : u.spl.eiBind = [] := by rw [hparts]; exact hei
  have huami : u.aud.amiBind = [] := by rw [hparts]; exact hami
  have huply : ∀ p ∈ (List.range 16).map (fun i => 16 * k + i), (if u.bit (Reg.fstPlyStatus p) 0 then playerStop p false u else u) = u := by
    intro p hp
    have hp' : p < 256 := by simp at hp; omega
    have hbit : u.bit (Reg.fstPlyStatus p) 0 = false := by
      unfold State.bit
      rw [hreg _ (by simp only [Reg.fstPlyStatus]; omega)]
      exact hply p hp'
    rw [hbit]; rfl
  simp only [huflows, hurec, List.filter_nil, List.foldl_nil]
  rw [foldl_eq_self (f := fun s p => if s.bit (Reg.fstPlyStatus p) 0 then playerStop p false s else s) huply]
  simp only [huei, huami, List.filter_nil, List.foldl_nil]
  exact (hu.trans (BelowKept.foldl (fun s f => (BelowKept.setFid f _ s).trans (endRun_below f .aborted _)) _ _)).trans
    (BelowKept.foldl (fun s n => tautRefresh_below n s) _ _)

theorem doZoneStopped_draining {s : State} {r : Rezone} {k : Nat} (hr : s.rig.rezone = some r) (hserving : s.serving = true)
    (hwork : s.zoneAtWork r = some k) (hdrain : s.zone k = 2) :
    doZoneStopped s = setRezone (some { r with stoppedAt := s.now }) (stopZone k (setZone k 3 s)) := by
  simp [doZoneStopped, hr, hwork, hdrain, hserving]

/-- The draining zone stops (R73, R80). -/
theorem exec_zoneStopped {s : State} {r : Rezone} {k : Nat} (hr : s.rig.rezone = some r) (hserving : s.serving = true) (hk : k < 16)
    (hwork : s.zoneAtWork r = some k) (hdrain : s.zone k = 2) (hroute : Unrouted s) (hflows : s.wire.flows = []) (hrec : s.store.recInUse = [])
    (hply : ∀ p, p < 256 → s.bit (Reg.fstPlyStatus p) 0 = false) :
    ∃ t, exec .zoneStopped s = .next t ∧ t.zone k = 3 ∧ (∀ z, z < 16 → z ≠ k → t.zone z = s.zone z) ∧
      t.rig = { s.rig with rezone := some { r with stoppedAt := s.now } } := by
  obtain ⟨-, hei, -, hami, -, -, -⟩ := hroute
  have hne : ∀ p, Reg.fstPlyStatus p ≠ Reg.sysZoneState := fun p => by simp only [Reg.fstPlyStatus, Reg.sysZoneState]; omega
  have hstop : BelowKept (setZone k 3 s.begin) (stopZone k (setZone k 3 s.begin)) :=
    stopZone_unrouted (s := setZone k 3 s.begin) hk hei hami hflows hrec (fun p hp => by
      unfold State.bit setZone
      rw [State.reg_setF, if_neg (hne p)]
      exact hply p hp)
  have hrig : (stopZone k (setZone k 3 s.begin)).rig = s.rig := by rw [hstop.1]; rfl
  have hzone : ∀ z, z < 16 → (setRezone (some { r with stoppedAt := s.now }) (stopZone k (setZone k 3 s.begin))).zone z = if z = k then 3 else s.zone z := by
    intro z hz
    unfold State.zone State.f
    rw [setRezone_reg]
    exact (hstop.zone z).trans (zone_setZone s.begin 3 hk hz)
  refine ⟨setRezone (some { r with stoppedAt := s.now }) (stopZone k (setZone k 3 s.begin)), ?_, ?_, fun z hz hzk => ?_, ?_⟩
  · have hexec : exec .zoneStopped s = .next (doZoneStopped s.begin) := rfl
    rw [hexec, doZoneStopped_draining (s := s.begin) hr hserving hwork hdrain]; rfl
  · rw [hzone k hk, if_pos rfl]
  · rw [hzone z hz, if_neg hzk]
  · rw [setRezone, setRig_rig, hrig]

end Sys2Proof.Machine
end

section
/-! A stopped zone takes its new plan and runs, and the re-rig ends after its last zone (R73, R75 to R80, R83). -/

namespace Sys2Proof.Machine

open Sys2Proof

/-! The longest stop (R80) -/

theorem stopMax_writes (since : Nat) (s : State) : Writes (· = Reg.sysZoneStopMax) s (stopMax since s) :=
  (Writes.setReg (p := (· = Reg.sysZoneStopMax)) rfl _ s).ite (Writes.refl _ s)

theorem stopMax_f (since : Nat) (s : State) :
    (stopMax since s).f Reg.sysZoneStopMax 15 0 = max (s.f Reg.sysZoneStopMax 15 0) (min 0xFFFF ((s.now - since) / 1000)) := by
  unfold stopMax
  dsimp only
  split
  · next h =>
    rw [State.f_setF _ _ _ (by decide) (by decide), Nat.max_eq_right h.le, Nat.mod_eq_of_lt]
    exact lt_of_le_of_lt (Nat.min_le_left _ _) (by decide)
  · next h => rw [Nat.max_eq_left (Nat.le_of_not_lt h)]

theorem Writes.rig {p : Nat → Prop} {s t : State} (h : Writes p s t) : t.rig = s.rig := by rw [h.1]

/-! The image that runs (R80) -/

/-- The registers that show the running image's digest. -/
theorem digestRegs_writes (d : List Nat) (s : State) :
    Writes (fun a => Reg.sysRigDigest 0 ≤ a) s
      ((List.range 12).foldl (fun s j => s.setReg (Reg.sysRigDigest j) (wd (leNum ((d.drop (4 * j)).take 4)))) s) :=
  Writes.foldl (fun s j => Writes.setReg (by simp only [Reg.sysRigDigest]; omega) _ s) _ s

theorem showImage_writes (slot : Slot) (trial : Bool) (i : RigImage) (s : State) : Writes (fun _ => True) s (showImage slot trial i s) := by
  unfold showImage
  dsimp only
  refine Writes.trans ?_ ((digestRegs_writes (headerDigest i) _).mono (fun _ _ => trivial))
  exact (Writes.setReg trivial _ s).trans (Writes.setReg trivial _ _)

theorem showImage_version (slot : Slot) (trial : Bool) (i : RigImage) (s : State) :
    (showImage slot trial i s).reg Reg.sysRigImageVer = wd (imageVersion i) := by
  unfold showImage
  dsimp only
  rw [(digestRegs_writes (headerDigest i) _).2 _ (by decide), State.reg_setReg, if_pos rfl]

/-! The last zone -/

/-- ACTIVE of a selector reads back from its record's payload (R690). -/
theorem selectorOf_active (x : Selector) : (selectorOf (selectorBytes x)).active = x.active := by
  obtain ⟨active, validA, validB, trialSlot, trialPending, floor⟩ := x
  rcases active with _ | _ | _ <;> rfl

/-- The record that a selector asks for is the last that waits. -/
theorem writeSelector_last (x : Selector) (why : RecWhy) (s : State) :
    ∃ w, (writeSelector x why s).rst.writes.getLast? = some w ∧ w.cls = 2 ∧ w.why = why ∧ w.payload = selectorBytes x := by
  obtain ⟨w, hw, hcls, hpay, hwhy, -⟩ := writeSelector_asks x why (rfl : s.rst = s.rst)
  exact ⟨w, by rw [hw, List.getLast?_append]; rfl, hcls, hwhy, hpay⟩

/-- The running image's digest is due again, and the selector's record with the new ACTIVE is asked for. -/
def activeAsked (k : Slot) (o : Origin) (s : State) : State := writeSelector { (digestChanged s).selectorDue with active := some k } (.rezone o) (digestChanged s)

theorem activeAsked_rig (k : Slot) (o : Origin) (s : State) : (activeAsked k o s).rig = s.rig := rfl

theorem activeAsked_reg (k : Slot) (o : Origin) (s : State) (a : Nat) : (activeAsked k o s).reg a = s.reg a := rfl

theorem activeAsked_digestDue (k : Slot) (o : Origin) (s : State) : (activeAsked k o s).key.digestDue = true := rfl

theorem activeAsked_last (k : Slot) (o : Origin) (s : State) :
    ∃ w, (activeAsked k o s).rst.writes.getLast? = some w ∧ w.cls = 2 ∧ w.why = .rezone o ∧ (selectorOf w.payload).active = some k := by
  obtain ⟨w, hlast, hcls, hwhy, hpay⟩ := writeSelector_last { (digestChanged s).selectorDue with active := some k } (.rezone o) (digestChanged s)
  exact ⟨w, hlast, hcls, hwhy, by rw [hpay, selectorOf_active]⟩

/-- The image shown as the running one. -/
def imageRuns (r : Rezone) (i : RigImage) (s : State) : State :=
  (showImage r.slot false i (setRig { s.rig with running := some i, runningSlot := some r.slot } s)).setBit Reg.sysRigStatus 6 true

theorem imageRuns_rig (r : Rezone) (i : RigImage) (s : State) : (imageRuns r i s).rig = { s.rig with running := some i, runningSlot := some r.slot } := by
  unfold imageRuns
  generalize hu : setRig { s.rig with running := some i, runningSlot := some r.slot } s = u
  have hshown : ((showImage r.slot false i u).setBit Reg.sysRigStatus 6 true).rig = (showImage r.slot false i u).rig := State.setBit_rig _ _ _ _
  rw [hshown, (showImage_writes r.slot false i u).rig, ← hu]; rfl

theorem imageRuns_version (r : Rezone) (i : RigImage) (s : State) : (imageRuns r i s).reg Reg.sysRigImageVer = wd (imageVersion i) := by
  unfold imageRuns
  rw [State.reg_setBit, if_neg (by decide), showImage_version]

theorem rezoneDone_eq (r : Rezone) (i : RigImage) (s : State) : rezoneDone r i s = activeAsked r.slot r.origin (imageRuns r i s) := by
  unfold rezoneDone activeAsked imageRuns
  rfl

/-- Once every zone runs again the image is the running one, and the record with the new ACTIVE is asked for (R78). -/
theorem rezoneDone_spec (r : Rezone) (i : RigImage) (s : State) :
    (rezoneDone r i s).rig.running = some i ∧ (rezoneDone r i s).rig.runningSlot = some r.slot ∧
      (rezoneDone r i s).reg Reg.sysRigImageVer = wd (imageVersion i) ∧ (rezoneDone r i s).key.digestDue = true ∧
      ∃ w, (rezoneDone r i s).rst.writes.getLast? = some w ∧ w.cls = 2 ∧ w.why = .rezone r.origin ∧ (selectorOf w.payload).active = some r.slot := by
  rw [rezoneDone_eq, activeAsked_rig, activeAsked_reg, imageRuns_rig, imageRuns_version]
  exact ⟨rfl, rfl, rfl, activeAsked_digestDue _ _ _, activeAsked_last _ _ _⟩

/-! ZONE_RUNNING -/

section
variable {s : State} {r : Rezone} {i cur : RigImage} {k : Nat} {a b : ZonePlan}

/-- The stopped zone's step (R76): its content is written where it has none yet, and it runs once no domain of it waits to wake. -/
theorem doZoneRunning_stopped (hr : s.rig.rezone = some r) (hserving : s.serving = true) (hfailed : r.failed = none) (himg : s.image r.slot = some i)
    (hwork : s.zoneAtWork r = some k) (hstop : s.zone k = 3) (hcur : s.rig.running = some cur) (ha : zonePlan cur k = some a) (hb : zonePlan i k = some b) :
    doZoneRunning s = if (zoneWritten r k cur a b s).1.zoneWakes k = true then (zoneWritten r k cur a b s).1
      else zoneRuns (zoneWritten r k cur a b s).2 k i b (zoneWritten r k cur a b s).1 := by
  simp [doZoneRunning, hr, hwork, himg, hcur, hstop, hserving, ha, hb, hfailed]

/-- The zone's new content, from the sections staged (R73). -/
theorem zoneWritten_staged (hfailed : r.failed = none) (happ : r.applied = false) :
    (zoneWritten r k cur a b s).1 = setRezone (some { r with applied := true, drops := droppedHitches k a b s })
      (rezoneApply k a b (fun f => fidImageOf (((r.staged.find? (fun e => decide (e.1 = 20 + f))).map Prod.snd).getD [])) s) := by
  simp [zoneWritten, happ, hfailed]

theorem zoneWritten_applied (happ : r.applied = true) : zoneWritten r k cur a b s = (s, r) := by simp [zoneWritten, happ]

end

/-- The re-rig once a zone is done. -/
def Rezone.zoneDone (r : Rezone) (k : Nat) : Rezone := { r with done := r.done ++ [k], staged := [], applied := false, drops := [] }

/-- The zone runs the new plan, and is done (R76). -/
def zoneRunning (r : Rezone) (k : Nat) (b : ZonePlan) (s : State) : State := setRezone (some (r.zoneDone k)) (rezoneRuns k b r.drops (stopMax r.stoppedAt s))

theorem zoneRuns_next {r : Rezone} (hfailed : r.failed = none) {k z : Nat} (hnext : nextZone (r.zoneDone k) = some z) (i : RigImage) (b : ZonePlan) (s : State) :
    zoneRuns r k i b s = setCurrent z (zoneRunning r k b s) := by
  simp only [Rezone.zoneDone, hfailed] at hnext
  simp only [zoneRuns, zoneRunning, Rezone.zoneDone, hfailed, hnext]

theorem zoneRuns_last {r : Rezone} (hfailed : r.failed = none) {k : Nat} (hlast : nextZone (r.zoneDone k) = none) (i : RigImage) (b : ZonePlan) (s : State) :
    zoneRuns r k i b s = rezoneDone (r.zoneDone k) i (zoneRunning r k b s) := by
  simp only [Rezone.zoneDone, hfailed] at hlast
  simp only [zoneRuns, zoneRunning, Rezone.zoneDone, hfailed, hlast]

end Sys2Proof.Machine
end

section
namespace Sys2Proof.Machine

open Sys2Proof

/-- Settles O49: each command marks its zones as its lemma says; ZONE_RUNNING comes to the plan written, the wait for a domain, or the zone that runs. -/
theorem liveRerig : Obligations.LiveRerig := by
  intro s
  refine ⟨fun o k mask hacc hcheck => exec_rigRezone hacc k hcheck, fun r i read hr hserving hfailed himg => ⟨?_, ?_, ?_, ?_, ?_⟩⟩
  · exact fun hv hsigned hbody => exec_zoneVerified_passed hr hserving hfailed himg hv hsigned hbody
  · exact fun e x hv hdone hf => exec_zoneVerified_failed hr hserving hfailed himg hv hdone hf
  · exact fun k hv hwork hnext hk hbody hroute => exec_zoneStaged hr hserving hfailed himg hv hwork hnext hk hbody hroute
  · exact fun k hk hwork hdrain hroute hflows hrec hply => exec_zoneStopped hr hserving hk hwork hdrain hroute hflows hrec hply
  · intro k cur a b hwork hstop hcur ha hb staged r1 us
    have hexec : exec .zoneRunning s = .next (doZoneRunning s.begin) := rfl
    have hstep := doZoneRunning_stopped (s := s.begin) hr hserving hfailed ((image_begin s _).trans himg) hwork hstop hcur ha hb
    rw [hstep] at hexec
    refine ⟨fun happ w hw hwakes => ?_, fun happ hwakes => ?_, fun happ hwakes => ?_⟩
    · rw [zoneWritten_staged hfailed happ] at hexec
      rw [hexec, if_pos (hw ▸ hwakes), hw]
    · rw [zoneWritten_applied happ] at hexec
      dsimp only at hexec
      have hwakes' : s.begin.zoneWakes k = true := hwakes
      rw [hexec, if_pos hwakes']; rfl
    · have hwakes' : ¬ s.begin.zoneWakes k = true := by rw [show s.begin.zoneWakes k = false from hwakes]; decide
      rw [zoneWritten_applied happ] at hexec
      dsimp only at hexec
      rw [if_neg hwakes'] at hexec
      obtain ⟨hparts, hregs⟩ := stopMax_writes r.stoppedAt s.begin
      refine ⟨stopMax r.stoppedAt s.begin, hparts, stopMax_f r.stoppedAt s.begin, fun x hx => hregs x hx, fun z hz => ?_, fun hnone => ?_⟩
      · rw [hexec, zoneRuns_next hfailed hz]; rfl
      · rw [zoneRuns_last hfailed hnone] at hexec
        exact ⟨_, hexec, rezoneDone_spec _ i _⟩

end Sys2Proof.Machine
end

section
/-! The scan of the records at boot: what it leaves alone, and the epoch it finds (R695 to R698, R574). -/

namespace Sys2Proof.Machine

open Sys2Proof

/-- The registers of the boot that the scan of the records leaves alone once the epoch is set. -/
def bootRegs : List Nat := [Reg.sysMode, Reg.keyStatus, Reg.recEpoch]

/-- The keys, the power state, both slots and the registers of the boot are as they were. -/
def BootKept (s t : State) : Prop :=
  t.key = s.key ∧ t.pwr = s.pwr ∧ t.rig.slotA = s.rig.slotA ∧ t.rig.slotB = s.rig.slotB ∧ ∀ a ∈ bootRegs, t.reg a = s.reg a

theorem not_mem_bootRegs {a : Nat} (hmode : a ≠ 4) (hstatus : a ≠ 0x3F0004) (hepoch : a ≠ 0x3E0010) : a ∉ bootRegs := by
  simp only [bootRegs, Reg.sysMode, Reg.keyStatus, Reg.recEpoch, List.mem_cons, List.not_mem_nil, or_false]
  omega

section
variable {s0 s t : State}

theorem BootKept.refl (s : State) : BootKept s s := ⟨rfl, rfl, rfl, rfl, fun _ _ => rfl⟩

theorem BootKept.setReg {a : Nat} (ha : a ∉ bootRegs) (v : Word) (h : BootKept s0 s) : BootKept s0 (s.setReg a v) := by
  obtain ⟨hkey, hpwr, hslotA, hslotB, hregs⟩ := h
  refine ⟨hkey, hpwr, hslotA, hslotB, fun b hb => ?_⟩
  rw [State.reg_setReg, if_neg (by rintro rfl; exact ha hb), hregs b hb]

theorem BootKept.setRec (r : RecordState) (h : BootKept s0 s) : BootKept s0 (Machine.setRec r s) := h

theorem BootKept.reports {l : List Nat} (hr : Reports l s t) (hl : ∀ a ∈ bootRegs, a ∉ l) (h : BootKept s0 s) : BootKept s0 t := by
  obtain ⟨hkey, hpwr, hslotA, hslotB, hregs⟩ := h
  obtain ⟨hrig, -, -, -, -, -, -, -, -, -, hkey', hpwr', -⟩ := hr.parts
  have hten : ∀ a ∈ bootRegs, inTen a = false := by decide
  exact ⟨hkey'.trans hkey, hpwr'.trans hpwr, by rw [hrig, hslotA], by rw [hrig, hslotB], fun a ha => (hr.2 a (hten a ha) (hl a ha)).trans (hregs a ha)⟩

theorem BootKept.foldl {α : Type} {l : List α} {f : State → α → State} (hf : ∀ s, ∀ x ∈ l, BootKept s0 s → BootKept s0 (f s x)) (h : BootKept s0 s) :
    BootKept s0 (l.foldl f s) := by
  induction l generalizing s with
  | nil => exact h
  | cons x l ih => exact ih (fun s y hy => hf s y (List.mem_cons_of_mem _ hy)) (hf s x List.mem_cons_self h)

/-! Reports of the record store and of the calibration -/

theorem raiseRecords_kept (b : Nat) (h : BootKept s0 s) : BootKept s0 (raiseRecords b s) := h.reports (raiseEn_reports _ _ _ _ _ _) (by decide)

theorem raiseCal_kept (b : Nat) (h : BootKept s0 s) : BootKept s0 (raiseCal b s) := h.reports (raiseEn_reports _ _ _ _ _ _) (by decide)

theorem logBit_kept (obj ev b : Nat) (h : BootKept s0 s) : BootKept s0 (logBit obj ev b s) := h

/-! Rings -/

theorem placeCopy_kept (c : Nat) (x : RecCopy) (h : BootKept s0 s) : BootKept s0 (placeCopy c x s) := by
  unfold placeCopy
  dsimp only
  split <;> split <;> exact h

theorem refreshRing_kept {c : Nat} (hc : c ≤ 6) (h : BootKept s0 s) : BootKept s0 (refreshRing c s) := by
  have hwin : ∀ k, k < 16 → 0x3E0000 + (0x100 + k) + 16 * c ∉ bootRegs := fun k hk => not_mem_bootRegs (by omega) (by omega) (by omega)
  exact (((h.setReg (hwin 0 (by decide)) _).setReg (hwin 4 (by decide)) _).setReg (hwin 8 (by decide)) _).setReg (hwin 12 (by decide)) _

theorem bootWrite_kept {c : Nat} (hc : c ≤ 6) (index : Nat) (payload : List Byte) (h : BootKept s0 s) : BootKept s0 (bootWrite c index payload s) :=
  BootKept.foldl (fun _ _ _ h => refreshRing_kept hc (placeCopy_kept _ _ h)) (h.setRec _)

theorem markTwins_kept (c : Nat) (h : BootKept s0 s) : BootKept s0 (markTwins c s) :=
  BootKept.foldl (fun _ _ _ h => logBit_kept _ _ _ (raiseRecords_kept _ ((h.setRec _).setReg (a := Reg.recTwinCnt) (by decide) _))) h

theorem countTorn_kept (c : Nat) (h : BootKept s0 s) : BootKept s0 (countTorn c s) :=
  BootKept.foldl (fun s x _ h => by
    split
    · exact h
    · exact logBit_kept _ _ _ (raiseRecords_kept _ (h.setReg (a := Reg.recTornCnt) (by decide) _))) h

theorem repairRing_kept (c : Nat) (h : BootKept s0 s) : BootKept s0 (repairRing c s) := by
  unfold repairRing
  dsimp only
  split
  · exact h
  · refine BootKept.foldl (fun s i _ h => ?_) h
    split
    · split <;> exact h
    · exact h

theorem refreshOwner_kept (h : BootKept s0 s) : BootKept s0 (refreshOwner s) := by
  unfold refreshOwner
  dsimp only
  refine (((BootKept.foldl (fun s j hj h => h.setReg ?_ _) h).setReg (a := Reg.recStatus) (by decide) _).setReg (a := Reg.recStatus) (by decide) _).setReg
    (a := Reg.recOwnerCtrl) (by decide) _
  have hj' : j < 12 := List.mem_range.1 hj
  exact not_mem_bootRegs (by simp only [Reg.recOwnerHash]; omega) (by simp only [Reg.recOwnerHash]; omega) (by simp only [Reg.recOwnerHash]; omega)

/-! The selector and the calibration set -/

theorem setSelector_kept (x : Selector) (h : BootKept s0 s) : BootKept s0 (refreshSelector (setRig { s.rig with selector := x } s)) := by
  have hset : BootKept s0 (setRig { s.rig with selector := x } s) := h
  exact ((hset.setReg (a := Reg.sysRigSecFloor) (by decide) _).setReg (a := Reg.sysRigSlotAVer) (by decide) _).setReg (a := Reg.sysRigSlotBVer) (by decide) _

/-- The calibration's windows lie in the TMB block (R566). -/
theorem calWins_lt : ∀ e ∈ calWins, 0x41000 ≤ e.2 ∧ e.2 < 0x44000 := by
  intro e he
  simp only [calWins, List.mem_append, List.mem_map, List.mem_range, List.mem_cons, List.not_mem_nil, or_false] at he
  rcases he with (⟨n, hn, rfl⟩ | ⟨b, hb, rfl⟩) | rfl | rfl
  all_goals simp only [calWin, if_true, one_ne_zero, if_false, Nat.reduceEqDiff]; omega

theorem applyCal_kept (x : RecCopy) (h : BootKept s0 s) : BootKept s0 (applyCal x s) := by
  unfold applyCal
  dsimp only
  have hwins : ∀ s, ∀ e ∈ calWins.zipIdx, BootKept s0 s → BootKept s0 (setUser e.1.1 e.1.2 (wd (leAt x.payload (4 * e.2) 4)) s) := by
    intro s e he h
    obtain ⟨hlo, hhi⟩ := calWins_lt e.1 (List.fst_mem_of_mem_zipIdx he)
    exact (h.setReg (not_mem_bootRegs (by simp only [Reg.calUser]; omega) (by simp only [Reg.calUser]; omega) (by simp only [Reg.calUser]; omega)) _).setReg
      (not_mem_bootRegs (by simp only [Reg.calEff]; omega) (by simp only [Reg.calEff]; omega) (by simp only [Reg.calEff]; omega)) _
  have hbins : ∀ s, ∀ b ∈ List.range 16, BootKept s0 s → BootKept s0 (setBinValid b ((leAt x.payload 600 4).testBit b) s) := by
    intro s b hb h
    have hage : ∀ b ∈ List.range 16, Reg.calAge (calWin 1 b) ∉ bootRegs := by decide
    exact h.setReg (hage b hb) _
  have huser := BootKept.foldl hwins h
  have hoffsets := (((huser.setReg (a := Reg.tmbVcalUv) (by decide) (wd (leAt x.payload 584 4))).setReg (a := Reg.tmbRefOffPtp) (by decide) (wd (leAt x.payload 588 4))).setReg
    (a := Reg.tmbRefOffPps) (by decide) (wd (leAt x.payload 592 4))).setReg (a := Reg.tmbRefOffSync) (by decide) (wd (leAt x.payload 596 4))
  exact (BootKept.foldl hbins hoffsets).setReg (a := Reg.tmbCalSetSeq) (by decide) _

theorem rateShown_kept (h : BootKept s0 s) : BootKept s0 (refreshHoldCal (freeRate s)) :=
  (h.setReg (a := Reg.tmbFreqAdj) (by decide) _).setReg (a := Reg.tmbStatus) (by decide) _

theorem loadCal_kept (h : BootKept s0 s) : BootKept s0 (loadCal s) := by
  unfold loadCal
  dsimp only
  have hset : ∀ t, BootKept s0 t → BootKept s0 (setTim { t.tim with autoAt := t.now } t) := fun _ h => h
  refine rateShown_kept ?_
  split
  · refine logBit_kept _ _ _ (raiseCal_kept _ (BootKept.setReg (a := Reg.tmbCalStatus) (by decide) _ (hset _ ?_)))
    split
    · exact applyCal_kept _ h
    · exact h
  · refine hset _ ?_
    split
    · exact applyCal_kept _ h
    · exact h

/-! The scan -/

/-- Reading the copies counts and raises alone (R685, R707). -/
theorem countRead_reports (ks : List Nat) (x : RecCopy) (s : State) : Reports [Reg.recCorrCnt, Reg.recBadCnt, Reg.recEvent] s (countRead ks x s) := by
  unfold countRead
  dsimp only
  have hcorr : ∀ n, Reports [Reg.recCorrCnt, Reg.recBadCnt, Reg.recEvent] s (s.bump Reg.recCorrCnt n) := fun n => (Reports.bump _ n s).mono (by decide)
  split
  · exact hcorr _
  · exact ((hcorr _).comp ((Reports.bump _ _ _).mono (by decide))).comp ((raiseEn_reports _ _ _ _ _ _).mono (by decide))

theorem reports_foldl {α : Type} {l : List Nat} {f : State → α → State} (hf : ∀ s x, Reports l s (f s x)) (xs : List α) (s : State) : Reports l s (xs.foldl f s) := by
  induction xs generalizing s with
  | nil => exact Reports.refl l s
  | cons x xs ih => exact (hf s x).comp (ih _)

/-- The rings are read. -/
def ringsRead (s : State) : State := [1, 2, 3, 4, 5, 6].foldl (fun s c => scanRing c s) s

theorem ringsRead_reports (s : State) : Reports [Reg.recCorrCnt, Reg.recBadCnt, Reg.recEvent] s (ringsRead s) :=
  reports_foldl (fun s _ => reports_foldl (fun s x => countRead_reports _ x s) _ s) _ s

/-- The intact copies of the rings. -/
def State.intactCopies (s : State) : List RecCopy := ([1, 2, 3, 4, 5, 6].foldr (fun c acc => s.ring c ++ acc) []).filter (fun x => x.intact)

theorem State.mem_intactCopies {s : State} {x : RecCopy} : x ∈ s.intactCopies ↔ (∃ c, 1 ≤ c ∧ c ≤ 6 ∧ x ∈ s.ring c) ∧ x.intact = true := by
  simp only [State.intactCopies, List.foldr_cons, List.foldr_nil, List.mem_filter, List.mem_append, List.append_nil]
  refine and_congr_left fun _ => ⟨?_, ?_⟩
  · rintro (h | h | h | h | h | h)
    exacts [⟨1, by decide, by decide, h⟩, ⟨2, by decide, by decide, h⟩, ⟨3, by decide, by decide, h⟩, ⟨4, by decide, by decide, h⟩, ⟨5, by decide, by decide, h⟩,
      ⟨6, by decide, by decide, h⟩]
  · rintro ⟨c, h1, h6, h⟩
    interval_cases c <;> simp only [h, true_or, or_true]

/-- The epoch that the scan sets: one above the largest of the intact copies (R697). -/
def State.nextEpoch (s : State) : Nat := s.intactCopies.foldl (fun m x => max m x.epoch) 0 + 1

theorem foldl_max_le_iff {α : Type} (f : α → Nat) (l : List α) (m n : Nat) : l.foldl (fun m x => max m (f x)) m ≤ n ↔ m ≤ n ∧ ∀ x ∈ l, f x ≤ n := by
  induction l generalizing m with
  | nil => simp
  | cons x l ih => simp [ih, and_assoc]

theorem State.nextEpoch_above {s : State} {x : RecCopy} (hx : x ∈ s.intactCopies) : x.epoch < s.nextEpoch :=
  Nat.lt_succ_of_le (((foldl_max_le_iff (fun x => x.epoch) s.intactCopies 0 _).1 (le_refl _)).2 x hx)

theorem State.nextEpoch_le {s : State} (h : ∀ x ∈ s.intactCopies, x.epoch < 0xFFFFFFFF) : s.nextEpoch ≤ 0xFFFFFFFF :=
  Nat.succ_le_of_lt (Nat.lt_of_le_pred (by decide) ((foldl_max_le_iff (fun x => x.epoch) s.intactCopies 0 _).2 ⟨Nat.zero_le _, fun x hx => Nat.le_pred_of_lt (h x hx)⟩))

theorem scanRings_kept (s : State) : BootKept ((ringsRead s).setReg Reg.recEpoch (wd (ringsRead s).nextEpoch)) (scanRings s) := by
  unfold scanRings
  dsimp only
  have hle : ∀ c ∈ [1, 2, 3, 4, 5, 6], c ≤ 6 := by decide
  refine refreshOwner_kept (BootKept.setReg (a := Reg.recStatus) (by decide) _ (BootKept.setReg (a := Reg.keyTamperCnt) (by decide) _ ?_))
  refine BootKept.foldl (fun s c _ h => repairRing_kept c (countTorn_kept c (markTwins_kept c h))) (bootWrite_kept (by decide) _ _ ?_)
  exact BootKept.foldl (fun s c hc h => refreshRing_kept (hle c hc) (h.setRec _)) (BootKept.refl _)

theorem bootRecords_kept (s : State) : BootKept ((ringsRead s).setReg Reg.recEpoch (wd (ringsRead s).nextEpoch)) (bootRecords s) := by
  unfold bootRecords
  dsimp only
  refine loadCal_kept ?_
  split
  · exact setSelector_kept _ (scanRings_kept s)
  · exact scanRings_kept s

end
end Sys2Proof.Machine
end

section
/-! The release of reset (R682, R708, R728, R739, R760). -/

namespace Sys2Proof.Machine

open Sys2Proof

section
variable {s : State} {obs : ReleaseObs}

/-- A part in Reset, or as a reset left it, waits for the release. -/
def State.awaitsRelease (s : State) : Prop := s.mode = .reset ∨ s.mode = .bringUp ∧ s.pwr.booted = false

theorem doResetRelease_held (h : s.mayRelease obs = false) : doResetRelease obs s = s := by simp [doResetRelease, h]

/-- The release is not withheld. -/
theorem release_due (hs : s.awaitsRelease) (h : s.mayRelease obs = true) :
    (!(decide (s.mode = .reset) || (decide (s.mode = .bringUp) && !s.pwr.booted)) || !s.mayRelease obs) = false := by
  rcases hs with hmode | ⟨hmode, hbooted⟩
  · simp [hmode, h]
  · simp [hmode, hbooted, h]

theorem doResetRelease_noCopy (hs : s.awaitsRelease) (h : s.mayRelease obs = true) (hcopy : obs.bootCopy = none) :
    doResetRelease obs s = setPwr { s.pwr with bootFail := true } (s.setF Reg.sysMode 2 0 1) := by
  simp only [doResetRelease, release_due hs h, hcopy, Bool.false_eq_true, if_false]

theorem doResetRelease_copy (hs : s.awaitsRelease) (h : s.mayRelease obs = true) {c : Nat} (hcopy : obs.bootCopy = some c) :
    doResetRelease obs s = bringUp (min c 1) obs s := by
  simp only [doResetRelease, release_due hs h, hcopy, Bool.false_eq_true, if_false]

/-- No boot copy verifies: the part stays in Reset (R682). -/
theorem exec_resetRelease_noCopy (hs : s.awaitsRelease) (h : s.mayRelease obs = true) (hcopy : obs.bootCopy = none) :
    ∃ t, exec (.resetRelease obs) s = .next t ∧ t.mode = .reset ∧ t.mgmtAlertN = false ∧
      t = { s with out := [], regs := t.regs, pwr := { s.pwr with bootFail := true } } := by
  refine ⟨setPwr { s.pwr with bootFail := true } (s.begin.setF Reg.sysMode 2 0 1), congrArg Host.Outcome.next (doResetRelease_noCopy (s := s.begin) hs h hcopy), ?_, ?_, rfl⟩
  · exact congrArg modeOf ((State.f_setF s.begin _ _ (by decide) (by decide)).trans rfl)
  · simp [State.mgmtAlertN]

theorem exec_resetRelease_copy (hs : s.awaitsRelease) (h : s.mayRelease obs = true) {c : Nat} (hcopy : obs.bootCopy = some c) :
    exec (.resetRelease obs) s = .next (bringUp (min c 1) obs s.begin) := congrArg Host.Outcome.next (doResetRelease_copy (s := s.begin) hs h hcopy)

end

/-! Bring-up up to the scan of the records -/

/-- The boot up to the scan of the records: the mode, the latch, the times and the root. -/
def bootBegun (copy : Nat) (obs : ReleaseObs) (s : State) : State :=
  let s := latchAtReset obs.alarms (s.setReg Reg.sysMode 2)
  let s := setPwr { s.pwr with booted := true, bootFail := false, thermal := false, released := s.now } s
  rootAtBoot obs.rootOk (setKey { s.key with bootCopy := copy } s)

theorem bringUp_eq (copy : Nat) (obs : ReleaseObs) (s : State) :
    bringUp copy obs s =
      let u := alarmsAtBoot obs.alarms (bootRecords (bootBegun copy obs s))
      if u.mode = .lockdown then u else if u.pwr.tamper || u.key.rootFail then enterLockdown u.pwr.tamper u else loadKeys (bootSelect (deriveKeys u)) := rfl

theorem alarmsAtBoot_none (s : State) : alarmsAtBoot 0 s = s := by simp [alarmsAtBoot]

/-- With no alarm, no latch and a sound root the boot is begun. -/
theorem bootBegun_clear {copy : Nat} {obs : ReleaseObs} {s : State} (halarms : obs.alarms = 0) (htamper : s.pwr.tamper = false) (hroot : obs.rootOk = true)
    (hfail : s.key.rootFail = false) :
    bootBegun copy obs s = (setKey { s.key with bootCopy := copy, rooted := true, rootFail := false }
      (setPwr { s.pwr with tamper := false, booted := true, bootFail := false, thermal := false, released := s.now }
        ((s.setReg Reg.sysMode 2).setReg Reg.keyTamperStatus 0))).setReg Reg.keyStatus (wd (1 + 2 * b2n s.pwr.debug)) := by
  simp [bootBegun, latchAtReset, rootAtBoot, halarms, htamper, hroot, hfail, b2n]
  rfl

/-- What the boot leaves before the scan of the records (R708, R739, R760). -/
theorem bootBegun_spec {copy : Nat} {obs : ReleaseObs} {s : State} (halarms : obs.alarms = 0) (htamper : s.pwr.tamper = false) (hroot : obs.rootOk = true)
    (hfail : s.key.rootFail = false) :
    (bootBegun copy obs s).key = { s.key with bootCopy := copy, rooted := true, rootFail := false } ∧
      (bootBegun copy obs s).pwr = { s.pwr with tamper := false, booted := true, bootFail := false, thermal := false, released := s.now } ∧
      (bootBegun copy obs s).rig = s.rig ∧ (bootBegun copy obs s).rst = s.rst ∧ (bootBegun copy obs s).reg Reg.sysMode = 2 ∧
      (bootBegun copy obs s).reg Reg.keyStatus = wd (1 + 2 * b2n s.pwr.debug) := by
  rw [bootBegun_clear halarms htamper hroot hfail]
  refine ⟨rfl, rfl, rfl, rfl, ?_, ?_⟩
  · rw [State.reg_setReg, if_neg (by decide)]
    have hkept : ((s.setReg Reg.sysMode 2).setReg Reg.keyTamperStatus 0).reg Reg.sysMode = 2 := by
      rw [State.reg_setReg, if_neg (by decide), State.reg_setReg, if_pos rfl]
    exact hkept
  · rw [State.reg_setReg, if_pos rfl]

/-- The state from which the keys are derived. -/
def bootScanned (copy : Nat) (obs : ReleaseObs) (s : State) : State := bootRecords (bootBegun copy obs s)

/-- The scan leaves the boot's state alone but for the epoch. -/
theorem bootRecords_spec (b : State) :
    (bootRecords b).key = b.key ∧ (bootRecords b).pwr = b.pwr ∧ (bootRecords b).rig.slotA = b.rig.slotA ∧ (bootRecords b).rig.slotB = b.rig.slotB ∧
      (bootRecords b).reg Reg.sysMode = b.reg Reg.sysMode ∧ (bootRecords b).reg Reg.keyStatus = b.reg Reg.keyStatus ∧
      (bootRecords b).reg Reg.recEpoch = wd b.nextEpoch := by
  obtain ⟨hkey, hpwr, hslotA, hslotB, hregs⟩ := bootRecords_kept b
  have hread := ringsRead_reports b
  obtain ⟨hrig, -, -, -, -, -, -, -, -, hrst, hkey', hpwr', -⟩ := hread.parts
  have hepoch : (ringsRead b).nextEpoch = b.nextEpoch := by simp only [State.nextEpoch, State.intactCopies, State.ring, hrst]
  have hset : ∀ a ∈ bootRegs, (bootRecords b).reg a = if a = Reg.recEpoch then wd b.nextEpoch else (ringsRead b).reg a := fun a ha => by
    rw [hregs a ha, State.reg_setReg, hepoch]
  rw [State.setReg_key, hkey'] at hkey
  rw [State.setReg_pwr, hpwr'] at hpwr
  rw [State.setReg_rig, hrig] at hslotA hslotB
  refine ⟨hkey, hpwr, hslotA, hslotB, ?_, ?_, ?_⟩
  · rw [hset _ (by decide), if_neg (by decide), hread.2 _ (by decide) (by decide)]
  · rw [hset _ (by decide), if_neg (by decide), hread.2 _ (by decide) (by decide)]
  · rw [hset _ (by decide), if_pos rfl]

/-- The scan's epoch is above every intact copy's (R697). -/
theorem bootScanned_epoch {copy : Nat} {obs : ReleaseObs} {s : State} (hrst : (bootBegun copy obs s).rst = s.rst) {cls : Nat} {x : RecCopy} (h1 : 1 ≤ cls) (h6 : cls ≤ 6)
    (hx : x ∈ s.ring cls) (hintact : x.intact = true) (hall : ∀ d y, 1 ≤ d → d ≤ 6 → y ∈ s.ring d → y.epoch < 0xFFFFFFFF) : x.epoch < (bootScanned copy obs s).epoch := by
  obtain ⟨-, -, -, -, -, -, hepoch⟩ := bootRecords_spec (bootBegun copy obs s)
  have hrings : ∀ c, (bootBegun copy obs s).ring c = s.ring c := fun c => by simp only [State.ring, hrst]
  have habove : x.epoch < (bootBegun copy obs s).nextEpoch := State.nextEpoch_above (State.mem_intactCopies.2 ⟨⟨cls, h1, h6, by rw [hrings]; exact hx⟩, hintact⟩)
  have hle : (bootBegun copy obs s).nextEpoch ≤ 0xFFFFFFFF := State.nextEpoch_le fun y hy => by
    obtain ⟨⟨d, hd1, hd6, hyd⟩, -⟩ := State.mem_intactCopies.1 hy
    exact hall d y hd1 hd6 (hrings d ▸ hyd)
  unfold State.epoch bootScanned
  rw [hepoch]
  simp only [wd, BitVec.toNat_ofNat]
  omega

/-- The boot goes on to the keys (R708, R760). -/
theorem exec_resetRelease_boots {s : State} {obs : ReleaseObs} (hs : s.awaitsRelease) (h : s.mayRelease obs = true) {c : Nat} (hcopy : obs.bootCopy = some c)
    (halarms : obs.alarms = 0) (htamper : s.pwr.tamper = false) (hroot : obs.rootOk = true) (hfail : s.key.rootFail = false) :
    ∃ u, exec (.resetRelease obs) s = .next (loadKeys (bootSelect (deriveKeys u))) ∧ u.mode = .bringUp ∧ u.pwr.booted = true ∧ u.pwr.released = s.now ∧
      u.key.bootCopy = min c 1 ∧ u.key.rooted = true ∧ u.bit Reg.keyStatus 0 = true ∧ u.bit Reg.keyStatus 4 = false ∧ u.bit Reg.keyStatus 1 = s.pwr.debug ∧
      (∀ cls x, 1 ≤ cls → cls ≤ 6 → x ∈ s.ring cls → x.intact = true → x.epoch < 0xFFFFFFFF → (∀ d y, 1 ≤ d → d ≤ 6 → y ∈ s.ring d → y.epoch < 0xFFFFFFFF) → x.epoch < u.epoch) ∧
      u.rig.slotA = s.rig.slotA ∧ u.rig.slotB = s.rig.slotB := by
  obtain ⟨hkey, hpwr, hslotA, hslotB, hmode, hstatus, -⟩ := bootRecords_spec (bootBegun (min c 1) obs s.begin)
  obtain ⟨hkey', hpwr', hrig', hrst', hmode', hstatus'⟩ := bootBegun_spec (copy := min c 1) (s := s.begin) halarms htamper hroot hfail
  rw [← bootScanned] at hkey hpwr hslotA hslotB hmode hstatus
  rw [hkey'] at hkey
  rw [hpwr'] at hpwr
  rw [hrig'] at hslotA hslotB
  have hbringUp : (bootScanned (min c 1) obs s.begin).mode = .bringUp := by
    unfold State.mode State.f
    rw [hmode, hmode']; decide
  have hword : (bootScanned (min c 1) obs s.begin).reg Reg.keyStatus = wd (1 + 2 * b2n s.pwr.debug) := hstatus.trans hstatus'
  refine ⟨bootScanned (min c 1) obs s.begin, ?_, hbringUp, by rw [hpwr], by rw [hpwr]; rfl, by rw [hkey], by rw [hkey], ?_, ?_, ?_, ?_, hslotA, hslotB⟩
  · rw [exec_resetRelease_copy hs h hcopy, bringUp_eq, halarms, alarmsAtBoot_none]
    have hclear : ((bootScanned (min c 1) obs s.begin).pwr.tamper || (bootScanned (min c 1) obs s.begin).key.rootFail) = false := by rw [hpwr, hkey]; rfl
    have hmode0 : ¬ (bootScanned (min c 1) obs s.begin).mode = .lockdown := by rw [hbringUp]; decide
    dsimp only
    rw [← bootScanned, if_neg hmode0, hclear]; rfl
  · unfold State.bit; rw [hword]; cases s.pwr.debug <;> decide
  · unfold State.bit; rw [hword]; cases s.pwr.debug <;> decide
  · unfold State.bit; rw [hword]; cases s.pwr.debug <;> decide
  · exact fun cls x h1 h6 hx hintact _ hall => bootScanned_epoch (s := s.begin) hrst' h1 h6 hx hintact hall

end Sys2Proof.Machine
end

section
/-! Full service (R760 step 11, R762) and the core voltage (R777). -/

namespace Sys2Proof.Machine

open Sys2Proof

theorem raiseEn_reg {ev : Nat} (hev : inTen ev = false) (owner : Option Nat) (obj en b : Nat) (s : State) :
    (raiseEn owner obj ev en b s).reg ev = setFld (s.reg ev) b b 1 := raiseBit_reg hev _ _ _ _ _

/-! A change of mode (R716) -/

theorem setMode_reports (c : Mode) (s : State) : Reports [Reg.sysMode, Reg.sysEvent] s (setMode c s) :=
  (((Reports.setF _ _ _ _ s).mono (by decide)).comp ((Reports.setF _ _ _ _ _).mono (by decide))).comp ((raiseEn_reports _ _ _ _ _ _).mono (by decide))

theorem setMode_mode (c : Mode) (s : State) : (setMode c s).mode = c := by
  have hreg : (setMode c s).reg Reg.sysMode = setFld (setFld (s.reg Reg.sysMode) 2 0 (modeCode c)) 6 4 (modeCode s.mode) := by
    unfold setMode
    dsimp only
    rw [(raiseEn_reports _ _ _ _ _ _).2 Reg.sysMode (by decide) (by decide), State.reg_setF, if_pos rfl, State.reg_setF, if_pos rfl]
  unfold State.mode State.f
  rw [hreg, fld_setFld_other _ _ (by decide) (by decide) (by decide), fld_setFld _ _ (by decide) (by decide)]
  cases c <;> rfl

theorem setMode_sysEvent (c : Mode) (s : State) : (setMode c s).reg Reg.sysEvent = setFld (s.reg Reg.sysEvent) 0 0 1 := by
  unfold setMode
  dsimp only
  rw [raiseEn_reg (by decide), State.reg_setF, if_neg (by decide), State.reg_setF, if_neg (by decide)]

/-! Full service -/

/-- The time since the release (R762). -/
def timeShown (s : State) : State := s.setReg Reg.sysTFull (wd (min 0xFFFFFFFF ((s.now - s.pwr.released) / 1000)))

/-- FULL_SERVICE is raised. -/
def fullRaised (s : State) : State := raiseEn (some s.rigOwner) 0 Reg.sysEvent Reg.sysEventEn 2 s

/-- What bare service shows before every strand is released. -/
def serviceShown (s : State) : State := fullRaised (timeShown (setMode .maintenance s))

theorem fullService_bare {s : State} (hbare : s.bare = true) : fullService s = wakeUsed (enginesRefresh (lanesRefresh (releaseAll (serviceShown s)))) := by
  unfold fullService
  rw [if_pos hbare]; rfl

theorem fullRaised_reports (s : State) : Reports [Reg.sysEvent] s (fullRaised s) := raiseEn_reports _ _ _ _ _ _

theorem timeShown_reports (s : State) : Reports [Reg.sysTFull] s (timeShown s) := Reports.setReg _ _ _

theorem serviceShown_reports (s : State) : Reports [Reg.sysMode, Reg.sysTFull, Reg.sysEvent] s (serviceShown s) :=
  (((setMode_reports .maintenance s).mono (by decide)).comp ((timeShown_reports _).mono (by decide))).comp ((fullRaised_reports _).mono (by decide))

theorem serviceShown_mode (s : State) : (serviceShown s).mode = .maintenance := by
  have hreg : (serviceShown s).reg Reg.sysMode = (setMode .maintenance s).reg Reg.sysMode :=
    ((fullRaised_reports _).2 _ (by decide) (by decide)).trans ((timeShown_reports _).2 _ (by decide) (by decide))
  have hmode := setMode_mode .maintenance s
  unfold State.mode State.f at hmode ⊢
  rw [hreg, hmode]

theorem serviceShown_time (s : State) : (serviceShown s).reg Reg.sysTFull = wd (min 0xFFFFFFFF ((s.now - s.pwr.released) / 1000)) := by
  obtain ⟨-, -, -, -, -, -, -, -, -, -, -, hpwr, -, -, hnow, -⟩ := (setMode_reports .maintenance s).parts
  unfold serviceShown
  rw [(fullRaised_reports _).2 _ (by decide) (by decide), timeShown, State.reg_setReg, if_pos rfl, hpwr, hnow]

/-- MODE_CHANGE and FULL_SERVICE. -/
theorem serviceShown_sysEvent (s : State) : (serviceShown s).reg Reg.sysEvent = setFld (setFld (s.reg Reg.sysEvent) 0 0 1) 2 2 1 := by
  unfold serviceShown fullRaised
  rw [raiseEn_reg (by decide), (timeShown_reports _).2 _ (by decide) (by decide), setMode_sysEvent]

/-- Without a store's plan the store settles at once (R434). -/
theorem storeInService_noPlan {s : State} (h : s.store.plan = none) : storeInService s = s := by simp [storeInService, h]

/-- Bare service is due (R65, R760, R762). -/
theorem exec_inService_bare {s : State} (hmode : s.mode = .bringUp) (hbooted : s.pwr.booted = true) (hload : s.rig.loading = none) (hbare : s.bare = true)
    (hplan : s.store.plan = none) :
    ∃ u, exec .inService s = .next (wakeUsed (enginesRefresh (lanesRefresh (releaseAll u)))) ∧ u.mode = .maintenance ∧
      u.reg Reg.sysTFull = wd (min 0xFFFFFFFF ((s.now - s.pwr.released) / 1000)) ∧ u.bit Reg.sysEvent 0 = true ∧ u.bit Reg.sysEvent 2 = true ∧
      Reports [Reg.sysMode, Reg.sysTFull, Reg.sysEvent] s u := by
  have hdue : doInService s.begin = fullService s.begin := by
    have hmode' : s.begin.mode = .bringUp := hmode
    have hbare' : s.begin.bare = true := hbare
    unfold doInService
    rw [storeInService_noPlan (s := s.begin) hplan]
    simp [hmode', hbooted, hload, hbare', State.storeSettled, hplan]
  refine ⟨serviceShown s.begin, ?_, serviceShown_mode _, serviceShown_time _, ?_, ?_, ((Reports.begin s).mono (by simp)).comp (serviceShown_reports _)⟩
  · exact congrArg Host.Outcome.next (hdue.trans (fullService_bare hbare))
  · unfold State.bit
    rw [serviceShown_sysEvent, bitOf_setFld _ _ (by decide) (by decide), if_neg (by decide), bitOf_setFld _ _ (by decide) (by decide)]; rfl
  · unfold State.bit
    rw [serviceShown_sysEvent, bitOf_setFld _ _ (by decide) (by decide)]; rfl

/-! The core voltage -/

/-- AVS_REQUEST (R777). -/
theorem exec_avsRequest {s : State} {mv : Nat} (ack : Bool) (hmay : s.avsMay = true) (hwait : s.pwr.avsWaiting = none) (hsince : s.avsSince 100000 = true)
    (hlo : 720 ≤ mv) (hhi : mv ≤ 800) (hup : mv ≤ s.pwr.avsTarget + 10) (hdown : s.pwr.avsTarget ≤ mv + 10) :
    exec (.avsRequest mv ack) s =
      .next { s with out := [.avs mv], pwr := { s.pwr with avsTarget := mv, avsWaiting := if ack then none else some mv, avsSent := some s.now } } := by
  refine congrArg Host.Outcome.next (?_ : doAvsRequest mv ack s.begin = avsSend mv ack s.begin)
  have hmay' : s.begin.avsMay = true := hmay
  have hwait' : s.begin.pwr.avsWaiting = none := hwait
  have hsince' : s.begin.avsSince 100000 = true := hsince
  simp only [doAvsRequest, hmay', hwait', hsince', Option.isNone_none, Bool.and_self, Bool.true_and]
  exact if_pos (decide_eq_true ⟨hlo, hhi, hup, hdown⟩)

/-- AVS_RETRY (R777). -/
theorem exec_avsRetry {s : State} {w : Nat} (ack : Bool) (hmay : s.avsMay = true) (hwait : s.pwr.avsWaiting = some w) (hsince : s.avsSince 1000000 = true) :
    exec (.avsRetry ack) s =
      .next { s with out := [.avs 800], pwr := { s.pwr with avsTarget := 800, avsWaiting := if ack then none else some 800, avsSent := some s.now } } := by
  refine congrArg Host.Outcome.next (?_ : doAvsRetry ack s.begin = avsSend 800 ack s.begin)
  have hmay' : s.begin.avsMay = true := hmay
  have hsince' : s.begin.avsSince 1000000 = true := hsince
  simp [doAvsRetry, hmay', hwait, hsince']

end Sys2Proof.Machine
end

section
/-! The load of an image leaves the state of the rig alone but for what it sets of it (R60, R63, R760): each step that it takes keeps that state. -/

namespace Sys2Proof.Machine

open Sys2Proof

theorem foldl_rig {α : Type} {f : State → α → State} (hf : ∀ s x, (f s x).rig = s.rig) (l : List α) (s : State) : (l.foldl f s).rig = s.rig := by
  induction l generalizing s with
  | nil => rfl
  | cons x l ih => exact (ih _).trans (hf s x)

/-- A fold whose state carries a result along. -/
theorem foldl_pair_rig {α β : Type} {f : State × β → α → State × β} (hf : ∀ q x, (f q x).1.rig = q.1.rig) (l : List α) (q : State × β) :
    (l.foldl f q).1.rig = q.1.rig := by
  induction l generalizing q with
  | nil => rfl
  | cons x l ih => exact (ih _).trans (hf q x)

theorem ite_rig {c : Prop} [Decidable c] {s t : State} {r : RigState} (hs : s.rig = r) (ht : t.rig = r) : (if c then s else t).rig = r := by
  split
  · exact hs
  · exact ht

theorem BelowKept.rig {s t : State} (h : BelowKept s t) : t.rig = s.rig := by rw [h.1]

theorem Reports.rig {l : List Nat} {s t : State} (h : Reports l s t) : t.rig = s.rig := h.parts.1

/-! Reports -/

@[simp] theorem raiseEn_rig (owner : Option Nat) (obj ev en b : Nat) (s : State) : (raiseEn owner obj ev en b s).rig = s.rig := (raiseEn_reports _ _ _ _ _ _).rig
@[simp] theorem raiseStrand_rig (n b : Nat) (s : State) : (raiseStrand n b s).rig = s.rig := raiseEn_rig _ _ _ _ _ _
@[simp] theorem raiseSb_rig (n b : Nat) (s : State) : (raiseSb n b s).rig = s.rig := raiseEn_rig _ _ _ _ _ _
@[simp] theorem raiseLayer_rig (cp l b : Nat) (s : State) : (raiseLayer cp l b s).rig = s.rig := raiseEn_rig _ _ _ _ _ _
@[simp] theorem raiseRec_rig (r b : Nat) (s : State) : (raiseRec r b s).rig = s.rig := raiseEn_rig _ _ _ _ _ _
@[simp] theorem raiseDest_rig (d b : Nat) (s : State) : (raiseDest d b s).rig = s.rig := raiseEn_rig _ _ _ _ _ _
@[simp] theorem raiseSrc_rig (c b : Nat) (s : State) : (raiseSrc c b s).rig = s.rig := raiseEn_rig _ _ _ _ _ _
@[simp] theorem raiseFab_rig (b : Nat) (s : State) : (raiseFab b s).rig = s.rig := (raiseFab_reports b s).rig
@[simp] theorem completeAll_rig (os : List Origin) (st obj : Nat) (s : State) : (completeAll os st obj s).rig = s.rig := (completeAll_reports _ _ _ _).rig

/-! Strands and bights -/

@[simp] theorem setRx_rig (n : Nat) (r : Rx) (s : State) : (setRx n r s).rig = s.rig := State.setF_rig _ _ _ _ _
@[simp] theorem bightRefresh_rig (k : Nat) (s : State) : (bightRefresh k s).rig = s.rig := (bightRefresh_below k s).rig
@[simp] theorem txRefresh_rig (n : Nat) (s : State) : (txRefresh n s).rig = s.rig := (txRefresh_below n s).rig
@[simp] theorem txRefreshAll_rig (ns : List Nat) (s : State) : (txRefreshAll ns s).rig = s.rig := (txRefreshAll_below ns s).rig
@[simp] theorem tautRefresh_rig (n : Nat) (s : State) : (tautRefresh n s).rig = s.rig := (tautRefresh_below n s).rig
@[simp] theorem fidEvent_rig (f bit : Nat) (s : State) : (fidEvent f bit s).rig = s.rig := (fidEvent_below f bit s).rig
@[simp] theorem setFidWords_rig (f a : Nat) (ws : List Nat) (s : State) : (setFidWords f a ws s).rig = s.rig := (setFidWords_below f a ws s).rig

/-! Engines, charges and domains -/

@[simp] theorem setLayerSt_rig (n : Nat) (v : LayerSt) (s : State) : (setLayerSt n v s).rig = s.rig := rfl
@[simp] theorem setSheetSt_rig (n : Nat) (v : SheetSt) (s : State) : (setSheetSt n v s).rig = s.rig := rfl
@[simp] theorem setRecSt_rig (n : Nat) (v : RecSt) (s : State) : (setRecSt n v s).rig = s.rig := rfl
@[simp] theorem setCharge_rig (c v : Nat) (s : State) : (setCharge c v s).rig = s.rig := rfl
@[simp] theorem setHold_rig (eo bytes : Nat) (s : State) : (setHold eo bytes s).rig = s.rig := rfl
@[simp] theorem giveDev_rig (t bytes : Nat) (s : State) : (giveDev t bytes s).rig = s.rig := rfl
@[simp] theorem takeDev_rig (t bytes : Nat) (s : State) : (takeDev t bytes s).rig = s.rig := rfl
@[simp] theorem setSets_rig (l : List ChangeSet) (s : State) : (setSets l s).rig = s.rig := rfl
@[simp] theorem dropReqs_rig (id : Nat) (s : State) : (dropReqs id s).rig = s.rig := rfl
@[simp] theorem setCtx_rig (e v : Nat) (s : State) : (setCtx e v s).rig = s.rig := ite_rig (State.setReg_rig _ _ _) (State.setF_rig _ _ _ _ _)
@[simp] theorem holdCtx_rig (e v holder : Nat) (s : State) : (holdCtx e v holder s).rig = s.rig :=
  (State.setF_rig _ _ _ _ _).trans ((State.setBit_rig _ _ _ _).trans (State.setF_rig _ _ _ _ _))
@[simp] theorem reloadShadow_rig (e : Nat) (s : State) : (reloadShadow e s).rig = s.rig := foldl_rig (fun _ _ => State.setReg_rig _ _ _) _ _

@[simp] theorem recharge_rig (c new : Nat) (s : State) : (recharge c new s).1.rig = s.rig := by
  unfold recharge
  dsimp only
  split
  · rfl
  · split
    · rfl
    · split <;> rfl

/-- A charge whose result decides a further step. -/
theorem ite_fst_rig {α : Type} {c : Prop} [Decidable c] {p q : State × α} {r : RigState} (hp : p.1.rig = r) (hq : q.1.rig = r) : (if c then p else q).1.rig = r := by
  split
  · exact hp
  · exact hq

@[simp] theorem rechargeHold_rig (v : View) (eo : Nat) (s : State) : (rechargeHold v eo s).1.rig = s.rig :=
  ite_fst_rig rfl (ite_fst_rig ((setHold_rig _ _ _).trans (recharge_rig _ _ _)) (recharge_rig _ _ _))

@[simp] theorem keepLayer_rig (cp l bytes : Nat) (s : State) : (keepLayer cp l bytes s).rig = s.rig := by
  unfold keepLayer
  split <;> rfl

@[simp] theorem keepLayers_rig (v : View) (cp : Nat) (ok : Bool) (s : State) : (keepLayers v cp ok s).1.rig = s.rig := by
  refine foldl_pair_rig (fun q l => ?_) _ _
  dsimp only
  split
  · rfl
  · split <;> rfl

@[simp] theorem wakeDomain_rig (prio deadline : Nat) (set : Option Nat) (d : Nat) (s : State) : (wakeDomain prio deadline set d s).rig = s.rig := ite_rig rfl (setPwr_rig _ _)

@[simp] theorem wakeUsed_rig (s : State) : (wakeUsed s).rig = s.rig := foldl_rig (fun _ _ => wakeDomain_rig _ _ _ _ _) _ _

/-! Change sets that end -/

@[simp] theorem refreshGroup_rig (t g : Nat) (s : State) : (refreshGroup t g s).rig = s.rig := by
  unfold refreshGroup
  split
  · rfl
  · split <;> exact State.setReg_rig _ _ _

@[simp] theorem releaseReserve_rig (t : Nat) (r : Option (Nat × Nat)) (s : State) : (releaseReserve t r s).rig = s.rig := by
  unfold releaseReserve
  split
  · rfl
  · exact (giveDev_rig _ _ _).trans (State.setBit_rig _ _ _ _)

@[simp] theorem passEngine_rig (e : Nat) (s : State) : (passEngine e s).rig = s.rig := by
  unfold passEngine
  split
  · exact (holdCtx_rig _ _ _ _).trans (setCtx_rig e 0 s)
  · exact setCtx_rig e 0 s

@[simp] theorem dropOp_rig (op : PendOp) (s : State) : (dropOp op s).rig = s.rig := by
  unfold dropOp
  split
  · exact State.setReg_rig _ _ _
  · rfl

@[simp] theorem setResult_rig (d : Nat) (st : Status) (s : State) : (setResult d st s).rig = s.rig := State.setF_rig _ _ _ _ _
@[simp] theorem setDestState_rig (d v : Nat) (s : State) : (setDestState d v s).rig = s.rig := State.setF_rig _ _ _ _ _

@[simp] theorem rollArm_rig (owner : Nat) (st : Status) (a : Arm) (s : State) : (rollArm owner st a s).rig = s.rig :=
  ite_rig rfl ((raiseDest_rig _ _ _).trans ((State.bump_rig _ _ _).trans ((State.setF_rig _ _ _ _ _).trans
    ((setResult_rig _ _ _).trans ((setDestState_rig _ _ _).trans (releaseReserve_rig _ _ _))))))

/-- The set leaves the list, its arms and its operations roll back, and its engines are passed on. -/
@[simp] theorem rollback_rig (c : ChangeSet) (reason : Nat) (st : Status) (obj : Nat) (s : State) : (rollback c reason st obj s).rig = s.rig :=
  (completeAll_rig _ _ _ _).trans ((State.bump_rig _ _ _).trans ((State.setReg_rig _ _ _).trans ((refreshGroup_rig _ _ _).trans
    ((foldl_rig (fun _ _ => ite_rig rfl ((passEngine_rig _ _).trans (reloadShadow_rig _ _))) _ _).trans ((foldl_rig (fun _ op => dropOp_rig op _) _ _).trans
      ((foldl_rig (fun _ a => rollArm_rig _ _ a _) _ _).trans ((dropReqs_rig _ _).trans (setSets_rig _ _))))))))

@[simp] theorem endSets_rig (p : ChangeSet → Bool) (reason : Nat) (obj : ChangeSet → Nat) (s : State) : (endSets p reason obj s).rig = s.rig :=
  foldl_rig (fun _ _ => ite_rig (rollback_rig _ _ _ _ _) rfl) _ _

/-! Hitches -/

@[simp] theorem refreshFanout_rig (ei : Nat) (s : State) : (refreshFanout ei s).rig = s.rig := State.setF_rig _ _ _ _ _

@[simp] theorem setSrc_rig (d : Nat) (src : Option Nat) (s : State) : (setSrc d src s).rig = s.rig := by
  unfold setSrc
  extract_lets old a s1 s2
  have h1 : s1.rig = s.rig := by unfold s1; split <;> simp
  have h2 : s2.rig = s1.rig := by unfold s2; clear_value old s1; split <;> simp
  clear_value s1 s2
  refine ite_rig h1 (Eq.trans ?_ (h2.trans h1))
  split <;> simp

@[simp] theorem endPromotion_rig (n : Nat) (s : State) : (endPromotion n s).rig = s.rig := by
  unfold endPromotion
  split
  · rfl
  · exact (foldl_rig (fun _ _ => State.setBit_rig _ _ _ _) _ _).trans ((releaseReserve_rig _ _ _).trans (setCharge_rig _ _ _))

@[simp] theorem bindDest_rig (d : Nat) (src : Option Nat) (s : State) : (bindDest d src s).rig = s.rig := by
  unfold bindDest
  extract_lets n ks _ s1 s2 _ s3
  have h1 : s1.rig = s.rig := endPromotion_rig _ _
  have h2 : s2.rig = s1.rig := foldl_rig (fun _ _ => setSrc_rig _ _ _) _ _
  have h3 : s3.rig = s2.rig := by
    unfold s3
    clear_value s2
    split
    · rfl
    · split <;> rfl
  exact ite_rig ((txRefreshAll_rig _ _).trans (h3.trans (h2.trans h1))) (setSrc_rig _ _ _)

/-! Losses and presence -/

@[simp] theorem setLosses_rig (t : Tab Loss) (s : State) : (setLosses t s).rig = s.rig := rfl
@[simp] theorem setLossEff_rig (t : Tab Bool) (s : State) : (setLossEff t s).rig = s.rig := rfl
@[simp] theorem endLoss_rig (eo : Nat) (s : State) : (endLoss eo s).rig = s.rig := (State.setBit_rig _ _ _ _).trans (setLosses_rig _ _)
@[simp] theorem setFilling_rig (n : Nat) (b : Bool) (s : State) : (setFilling n b s).rig = s.rig := foldl_rig (fun _ _ => State.setBit_rig _ _ _ _) _ _

@[simp] theorem startLoss_rig (eo : Nat) (why : LossWhy) (lost hold : Bool) (s : State) : (startLoss eo why lost hold s).rig = s.rig :=
  (ite_rig rfl (raiseDest_rig _ _ _)).trans ((State.setBit_rig _ _ _ _).trans ((setLosses_rig _ _).trans
    (ite_rig ((raiseDest_rig _ _ _).trans (State.bump_rig _ _ _)) rfl)))

@[simp] theorem layerLate_rig (cp l : Nat) (s : State) : (layerLate cp l s).rig = s.rig :=
  (ite_rig (raiseLayer_rig _ _ _ _) rfl).trans ((State.setF_rig _ _ _ _ _).trans
    ((ite_rig (raiseLayer_rig _ _ _ _) rfl).trans ((State.setBit_rig _ _ _ _).trans (State.bump_rig _ _ _))))

@[simp] theorem layerLost_rig (cp l eo : Nat) (absent : Bool) (s : State) : (layerLost cp l eo absent s).rig = s.rig :=
  (layerLate_rig _ _ _).trans ((ite_rig ((raiseDest_rig _ _ _).trans (raiseLayer_rig _ _ _ _)) (raiseDest_rig _ _ _)).trans (setLayerSt_rig _ _ _))

@[simp] theorem sheetLoss_rig (n : Nat) (lost : Bool) (s : State) : (sheetLoss n lost s).rig = s.rig :=
  (ite_rig rfl ((raiseSb_rig _ _ _).trans (setFilling_rig _ _ _))).trans ((ite_rig (raiseSb_rig _ _ _) rfl).trans (setSheetSt_rig _ _ _))

/-- A reader of an engine input that loses it. -/
theorem foldl_loseEi_rig {k : Nat} (ih : ∀ ei s, (loseEi k ei s).rig = s.rig) (l : List Nat) (s : State) : (l.foldl (fun s e => loseEi k e s) s).rig = s.rig :=
  foldl_rig (fun s e => ih e s) l s

@[simp] theorem loseEi_rig (k ei : Nat) (s : State) : (loseEi k ei s).rig = s.rig := by
  induction k generalizing ei s with
  | zero => rfl
  | succ k ih =>
    refine ite_rig rfl ((foldl_rig (fun s eo => ?_) _ _).trans ((endSets_rig _ _ _ _).trans (State.setBit_rig _ _ _ _)))
    extract_lets s1
    have h1 : s1.rig = s.rig := (State.setBit_rig _ _ _ _).trans (State.setBit_rig _ _ _ _)
    clear_value s1
    refine Eq.trans ?_ h1
    split
    · rfl
    · refine ite_rig (ite_rig (startLoss_rig _ _ _ _ _) rfl) ?_
      split
      · exact ite_rig (State.setBit_rig _ _ _ _) (ite_rig (ite_rig ((sheetLoss_rig _ _ _).trans (State.setBit_rig _ _ _ _)) (State.setBit_rig _ _ _ _))
          ((foldl_loseEi_rig ih _ _).trans (State.setBit_rig _ _ _ _)))
      · exact ite_rig (layerLost_rig _ _ _ _ _) rfl
      · exact ite_rig ((raiseRec_rig _ _ _).trans ((setRecSt_rig _ _ _).trans (State.setBit_rig _ _ _ _))) (State.setBit_rig _ _ _ _)
      · rfl

@[simp] theorem sheetUnfit_rig (n : Nat) (st : Status) (s : State) : (sheetUnfit n st s).rig = s.rig := by
  unfold sheetUnfit
  extract_lets a s1 s2
  have h1 : s1.rig = s.rig := foldl_rig (fun _ _ => State.setBit_rig _ _ _ _) _ _
  have h2 : s2.rig = s1.rig := (raiseSb_rig _ _ _).trans (State.setF_rig _ _ _ _ _)
  exact (ite_rig (sheetLoss_rig _ _ _) (foldl_rig (fun _ _ => loseEi_rig _ _ _) _ _)).trans (h2.trans h1)

@[simp] theorem showTaps_rig (n : Nat) (s : State) : (showTaps n s).rig = s.rig := by
  unfold showTaps
  split
  · rfl
  · exact (ite_rig rfl (raiseSb_rig _ _ _)).trans (State.setF_rig _ _ _ _ _)

end Sys2Proof.Machine
end

section
/-! The engines, the audio ends and the receivers that an image's load passes through leave the state of the rig alone. -/

namespace Sys2Proof.Machine

open Sys2Proof

/-! A reader that fits again, and presence that comes back -/

@[simp] theorem refit_rig (eo : Nat) (s : State) : (refit eo s).rig = s.rig := by
  unfold refit
  split
  · rfl
  · split
    · dsimp only
      split
      · rfl
      · refine (ite_rig rfl ?_).trans ((State.setReg_rig _ _ _).trans (State.setReg_rig _ _ _))
        split
        · exact sheetUnfit_rig _ _ _
        · exact (ite_rig (foldl_rig (fun _ _ => State.setBit_rig _ _ _ _) _ _) (sheetUnfit_rig _ _ _)).trans
            ((State.setReg_rig _ _ _).trans ((recharge_rig _ _ _).trans (showTaps_rig _ _)))
    · refine ite_rig rfl ?_
      split
      · exact (raiseLayer_rig _ _ _ _).trans ((State.setF_rig _ _ _ _ _).trans (State.setBit_rig _ _ _ _))
      · exact (ite_rig rfl (State.setF_rig _ _ _ _ _)).trans
          ((State.setReg_rig _ _ _).trans ((keepLayers_rig _ _ _ _).trans ((recharge_rig _ _ _).trans (State.setBit_rig _ _ _ _))))
    · refine (State.setBit_rig _ _ _ _).trans ((State.setReg_rig _ _ _).trans ((recharge_rig _ _ _).trans ?_))
      split
      · exact setRecSt_rig _ _ _
      · rfl
    · exact ite_rig ((ite_rig rfl ((setResult_rig _ _ _).trans ((setLossEff_rig _ _).trans (State.setBit_rig _ _ _ _)))).trans (rechargeHold_rig _ _ _)) rfl

@[simp] theorem gainEi_rig (k ei : Nat) (s : State) : (gainEi k ei s).rig = s.rig := by
  induction k generalizing ei s with
  | zero => rfl
  | succ k ih =>
    refine ite_rig rfl ((foldl_rig (fun s eo => ?_) _ _).trans (State.setBit_rig _ _ _ _))
    extract_lets s1
    have h1 : s1.rig = s.rig := (refit_rig _ _).trans (State.setBit_rig _ _ _ _)
    clear_value s1
    refine Eq.trans ?_ h1
    split
    · exact (ite_rig (foldl_rig (fun _ _ => ih _ _) _ _) rfl).trans (State.setBit_rig _ _ _ _)
    · exact (ite_rig ((raiseRec_rig _ _ _).trans (setRecSt_rig _ _ _)) rfl).trans (State.setBit_rig _ _ _ _)
    · rfl

@[simp] theorem setPresent_rig (ei : Nat) (p : Bool) (s : State) : (setPresent ei p s).rig = s.rig :=
  ite_rig (ite_rig rfl (gainEi_rig _ _ _)) (loseEi_rig _ _ _)

@[simp] theorem refreshEngine_rig (ei : Nat) (p : Producer) (s : State) : (refreshEngine ei p s).rig = s.rig := by
  unfold refreshEngine
  extract_lets s1
  have h1 : s1.rig = s.rig := by
    unfold s1
    split
    · exact (State.setReg_rig _ _ _).trans ((ite_rig (keepLayers_rig _ _ _ _) (foldl_rig (fun _ _ => keepLayer_rig _ _ _ _) _ _)).trans
        ((recharge_rig _ _ _).trans (State.setBit_rig _ _ _ _)))
    · exact (State.setReg_rig _ _ _).trans ((State.setBit_rig _ _ _ _).trans ((State.setF_rig _ _ _ _ _).trans ((State.setF_rig _ _ _ _ _).trans (recharge_rig _ _ _))))
    · exact (State.setReg_rig _ _ _).trans (recharge_rig _ _ _)
    · rfl
  clear_value s1
  split
  · exact h1
  · refine (setPresent_rig _ _ _).trans (Eq.trans ?_ h1)
    split
    · exact State.setBit_rig _ _ _ _
    · rfl

@[simp] theorem enginesRefresh_rig (s : State) : (enginesRefresh s).rig = s.rig :=
  (wakeUsed_rig _).trans (foldl_rig (fun _ _ => refreshEngine_rig _ _ _) _ _)

@[simp] theorem afterBind_rig (d : Nat) (s : State) : (afterBind d s).rig = s.rig := by
  refine ite_rig rfl ?_
  split
  · rfl
  · extract_lets s1
    have h1 : s1.rig = s.rig := refit_rig _ _
    clear_value s1
    refine Eq.trans (ite_rig (ite_rig (endLoss_rig _ _) ?_) ?_) h1
    · split
      · exact (startLoss_rig _ _ _ _ _).trans (endLoss_rig _ _)
      · exact ite_rig (endLoss_rig _ _) ((startLoss_rig _ _ _ _ _).trans (endLoss_rig _ _))
    · split
      · exact (ite_rig (setRecSt_rig _ _ _) rfl).trans (State.setBit_rig _ _ _ _)
      · exact State.setBit_rig _ _ _ _
      · rfl

@[simp] theorem bindNow_rig (d : Nat) (src : Option Nat) (s : State) : (bindNow d src s).rig = s.rig :=
  (enginesRefresh_rig _).trans ((afterBind_rig _ _).trans (bindDest_rig _ _ _))

/-! Audio ends -/

@[simp] theorem refreshAmi_rig (n : Nat) (s : State) : (refreshAmi n s).rig = s.rig := (State.setF_rig _ _ _ _ _).trans (State.setF_rig _ _ _ _ _)

@[simp] theorem raiseAmo_rig (n b : Nat) (s : State) : (raiseAmo n b s).rig = s.rig := by
  unfold raiseAmo
  extract_lets s1
  have h1 : s1.rig = s.rig := fidEvent_rig _ _ _
  clear_value s1
  split
  · exact (raiseEn_rig _ _ _ _ _ _).trans h1
  · exact (State.setBit_rig _ _ _ _).trans h1

@[simp] theorem setSilent_rig (n : Nat) (v : Bool) (s : State) : (setSilent n v s).rig = s.rig := (State.setBit_rig _ _ _ _).trans (setAud_rig _ _)

@[simp] theorem refreshAgroup_rig (g : Nat) (s : State) : (refreshAgroup g s).rig = s.rig :=
  (State.setF_rig _ _ _ _ _).trans ((State.setBit_rig _ _ _ _).trans ((State.setF_rig _ _ _ _ _).trans (State.setF_rig _ _ _ _ _)))

@[simp] theorem raiseAgroup_rig (g b : Nat) (s : State) : (raiseAgroup g b s).rig = s.rig :=
  (raiseEn_rig _ _ _ _ _ _).trans (foldl_rig (fun _ _ => fidEvent_rig _ _ _) _ _)

@[simp] theorem amoFault_rig (n bit : Nat) (s : State) : (amoFault n bit s).rig = s.rig := by
  unfold amoFault
  refine ite_rig rfl ?_
  extract_lets s1
  have h1 : s1.rig = s.rig := (setSilent_rig _ _ _).trans ((raiseAmo_rig _ _ _).trans (State.bump_rig _ _ _))
  clear_value s1
  split
  · exact h1
  · exact (ite_rig (ite_rig rfl ((refreshAgroup_rig _ _).trans ((raiseAgroup_rig _ _ _).trans ((setAud_rig _ _).trans
      (foldl_rig (fun _ _ => setSilent_rig _ _ _) _ _))))) ((refreshAgroup_rig _ _).trans ((raiseAgroup_rig _ _ _).trans (State.bump_rig _ _ _)))).trans h1

@[simp] theorem amoResume_rig (n : Nat) (s : State) : (amoResume n s).rig = s.rig := by
  refine ite_rig rfl ?_
  split
  · exact (raiseAmo_rig _ _ _).trans (setSilent_rig _ _ _)
  · exact ite_rig rfl ((refreshAgroup_rig _ _).trans ((raiseAgroup_rig _ _ _).trans ((raiseAmo_rig _ _ _).trans (setSilent_rig _ _ _))))

@[simp] theorem amiPresentF_rig (k n : Nat) (v : Bool) (s : State) : (amiPresentF k n v s).rig = s.rig := by
  induction k generalizing n v s with
  | zero => rfl
  | succ k ih =>
    refine ite_rig rfl ((foldl_rig (fun s m => ?_) _ _).trans (State.setBit_rig _ _ _ _))
    extract_lets s1
    have h1 : s1.rig = s.rig := State.setBit_rig _ _ _ _
    clear_value s1
    refine Eq.trans ?_ h1
    split
    · exact ite_rig rfl ((ih _ _ _).trans ((raiseSrc_rig _ _ _).trans (State.setBit_rig _ _ _ _)))
    · exact ite_rig (amoResume_rig _ _) (amoFault_rig _ _ _)

/-! Receivers -/

@[simp] theorem loseDecoder_rig (l : Nat) (s : State) : (loseDecoder l s).rig = s.rig := by
  unfold loseDecoder
  extract_lets s1 s2 s3
  have h1 : s1.rig = s.rig := (State.setReg_rig _ _ _).trans ((State.setReg_rig _ _ _).trans (State.setReg_rig _ _ _))
  have h2 : s2.rig = s1.rig := foldl_rig (fun _ _ => setPresent_rig _ _ _) _ _
  have h3 : s3.rig = s2.rig := foldl_rig (fun _ _ => (State.setBit_rig _ _ _ _).trans (amiPresentF_rig _ _ _ _)) _ _
  clear_value s3
  exact h3.trans (h2.trans h1)

@[simp] theorem stopFeed_rig (n : Nat) (s : State) : (stopFeed n s).rig = s.rig :=
  ite_rig rfl ((tautRefresh_rig _ _).trans ((endSets_rig _ _ _ _).trans (setStrand_rig _ _)))

@[simp] theorem eyeAbort_rig (n : Nat) (s : State) : (eyeAbort n s).rig = s.rig :=
  ite_rig ((raiseStrand_rig _ _ _).trans ((State.draw_rig _).trans ((State.setReg_rig _ _ _).trans (setStrand_rig _ _)))) rfl

@[simp] theorem enterSync_rig (n : Nat) (s : State) : (enterSync n s).rig = s.rig := (setStrand_rig _ _).trans (setRx_rig _ _ _)

@[simp] theorem leaveUp_rig (n : Nat) (r : Rx) (s : State) : (leaveUp n r s).rig = s.rig := by
  unfold leaveUp
  extract_lets ms l s1 s2 s3 s4
  have h1 : s1.rig = s.rig := (eyeAbort_rig _ _).trans (ite_rig (enterSync_rig _ _) (setRx_rig _ _ _))
  have h2 : s2.rig = s1.rig := foldl_rig (fun _ _ => ite_rig ((eyeAbort_rig _ _).trans (enterSync_rig _ _)) rfl) _ _
  have h3 : s3.rig = s2.rig := ite_rig (raiseStrand_rig _ _ _) rfl
  have h4 : s4.rig = s3.rig := ite_rig (State.setBit_rig _ _ _ _) rfl
  exact (loseDecoder_rig _ _).trans (h4.trans (h3.trans (h2.trans h1)))

@[simp] theorem stopRx_rig (n : Nat) (s : State) : (stopRx n s).rig = s.rig :=
  (stopFeed_rig _ _).trans ((State.setBit_rig _ _ _ _).trans (ite_rig (leaveUp_rig _ _ _) (setRx_rig _ _ _)))

@[simp] theorem startRx_rig (n : Nat) (s : State) : (startRx n s).rig = s.rig := ite_rig (setRx_rig _ _ _) rfl

end Sys2Proof.Machine
end

section
/-! The load of an image (R52, R63, R760): its plans, its zones and its fids leave the state of the rig alone, so that the image loaded is the running one. -/

namespace Sys2Proof.Machine

open Sys2Proof

/-! Strands and bights of a map -/

theorem applyStrandCfg_rig (c : StrandEntry) (s : State) : (applyStrandCfg c s).rig = s.rig :=
  foldl_rig (fun _ _ => (State.setF_rig _ _ _ _ _).trans ((State.setF_rig _ _ _ _ _).trans ((State.setReg_rig _ _ _).trans (State.setReg_rig _ _ _)))) _ _

theorem dpForget_rig (c : StrandEntry) (s : State) : (dpForget c s).rig = s.rig := ite_rig (setStrand_rig _ _) rfl

theorem resetWir_rig (n : Nat) (s : State) : (resetWir n s).rig = s.rig := rfl

theorem applyStrand_rig (c : StrandEntry) (s : State) : (applyStrand c s).rig = s.rig :=
  ite_rig rfl ((txRefreshAll_rig _ _).trans ((foldl_rig (fun _ _ => startRx_rig _ _) _ _).trans ((dpForget_rig _ _).trans ((applyStrandCfg_rig _ _).trans
    ((foldl_rig (fun _ _ => resetWir_rig _ _) _ _).trans (foldl_rig (fun _ _ => (setStrand_rig _ _).trans (stopRx_rig _ _)) _ _))))))

theorem applyBight_rig (b : BightEntry) (s : State) : (applyBight b s).rig = s.rig :=
  (bightRefresh_rig _ _).trans ((State.setBit_rig _ _ _ _).trans (setStrand_rig _ _))

/-! The early map (R63) -/

theorem setBifurcation_rig (b : Nat) (s : State) : (setBifurcation b s).rig = s.rig :=
  (setHost_rig _ _).trans ((State.emit_rig _ _).trans (ite_rig rfl (State.emit_rig _ _)))

theorem setEarly_rig (m : EarlyMap) (s : State) : (setEarly m s).rig = s.rig := setStrand_rig _ _

theorem dropEarly_rig (n : Nat) (s : State) : (dropEarly n s).rig = s.rig :=
  (txRefresh_rig _ _).trans ((setStrand_rig _ _).trans ((stopRx_rig _ _).trans ((State.setF_rig _ _ _ _ _).trans ((State.setF_rig _ _ _ _ _).trans
    ((setStrand_rig _ _).trans (foldl_rig (fun _ _ => ite_rig (bindNow_rig _ _ _) rfl) _ _))))))

/-- The early map in force is all of the rig's state that its change touches. -/
theorem changeEarly_rig (i : RigImage) (s : State) : ∃ d, (changeEarly i s).rig = { s.rig with earlyApplied := d } := by
  by_cases h : s.rig.earlyApplied = some (imageSection i 0).digest
  · exact ⟨s.rig.earlyApplied, by rw [changeEarly, if_pos h]⟩
  · refine ⟨some (imageSection i 0).digest, ?_⟩
    unfold changeEarly
    rw [if_neg h]
    extract_lets m kept s1 s2 _ s3
    have h1 : s1.rig = s.rig := foldl_rig (fun _ _ => ite_rig rfl (dropEarly_rig _ _)) _ _
    have h2 : s2.rig = s1.rig := (setEarly_rig _ _).trans (foldl_rig (fun _ _ => applyBight_rig _ _) _ _)
    have h3 : s3.rig = { s2.rig with earlyApplied := some (imageSection i 0).digest } := setRig_rig _ _
    rw [h2, h1] at h3
    exact (ite_rig rfl (setBifurcation_rig _ _)).trans h3

/-! Zone plans (R52) -/

theorem bindEi_rig (e : Nat × Producer) (s : State) : (bindEi e s).rig = s.rig := by
  unfold bindEi
  split
  · exact (State.setF_rig _ _ _ _ _).trans (State.setBit_rig _ _ _ _)
  · exact (State.setF_rig _ _ _ _ _).trans (State.setBit_rig _ _ _ _)
  · exact (State.setF_rig _ _ _ _ _).trans (State.setBit_rig _ _ _ _)
  · exact State.setBit_rig _ _ _ _

theorem bindEo_rig (e : Nat × Consumer) (s : State) : (bindEo e s).rig = s.rig := by
  unfold bindEo
  split
  · exact State.setF_rig _ _ _ _ _
  · rfl
  · exact State.setF_rig _ _ _ _ _
  · rfl

theorem bindAmi_rig (e : Nat × AudioEnd) (s : State) : (bindAmi e s).rig = s.rig := by
  unfold bindAmi
  split
  · exact (State.setF_rig _ _ _ _ _).trans (State.setBit_rig _ _ _ _)
  · exact (State.setF_rig _ _ _ _ _).trans (State.setBit_rig _ _ _ _)
  · exact State.setBit_rig _ _ _ _

theorem bindAmo_rig (e : Nat × AudioEnd) (s : State) : (bindAmo e s).rig = s.rig := by
  unfold bindAmo
  split
  · exact State.setF_rig _ _ _ _ _
  · exact State.setF_rig _ _ _ _ _
  · rfl

theorem clearZone_rig (k : Nat) (s : State) : (clearZone k s).rig = s.rig :=
  (foldl_rig (fun _ _ => State.setBit_rig _ _ _ _) _ _).trans ((foldl_rig (fun _ _ => State.setBit_rig _ _ _ _) _ _).trans
    ((foldl_rig (fun _ _ => (State.setBit_rig _ _ _ _).trans ((State.setReg_rig _ _ _).trans (State.setF_rig _ _ _ _ _))) _ _).trans
      ((foldl_rig (fun _ _ => ite_rig (State.setBit_rig _ _ _ _) rfl) _ _).trans
        ((foldl_rig (fun _ _ => ite_rig ((State.setF_rig _ _ _ _ _).trans ((State.setReg_rig _ _ _).trans (State.setReg_rig _ _ _))) rfl) _ _).trans
          (setStore_rig _ _)))))

theorem chargeDevice_rig (take : Bool) (z : ZonePlan) (s : State) : (chargeDevice take z s).rig = s.rig :=
  foldl_rig (fun _ _ => ite_rig (takeDev_rig _ _ _) (giveDev_rig _ _ _)) _ _

theorem setBothF_rig (a hi lo v : Nat) (s : State) : (setBothF a hi lo v s).rig = s.rig := (State.setLive_rig _ _ _).trans (State.setReg_rig _ _ _)

theorem applyPlan_rig (k : Nat) (z : ZonePlan) (s : State) : (applyPlan k z s).rig = s.rig := by
  unfold applyPlan
  extract_lets s1 s2 _ s3 _ s4 s5 _ _ s6 s7 s8 s9 _ s10 s11 s12 s13 s14 s15
  have h2 : s2.rig = s.rig := (foldl_rig (fun _ _ => applyBight_rig _ _) _ _).trans (clearZone_rig _ _)
  have h4 : s4.rig = s2.rig := setAud_rig _ _
  have h5 : s5.rig = s4.rig := (foldl_rig (fun _ _ => bindAmo_rig _ _) _ _).trans ((foldl_rig (fun _ _ => bindAmi_rig _ _) _ _).trans
    ((foldl_rig (fun _ _ => bindEo_rig _ _) _ _).trans (foldl_rig (fun _ _ => bindEi_rig _ _) _ _)))
  have h7 : s7.rig = s6.rig := foldl_rig (fun _ _ => (foldl_rig (fun _ _ => State.setF_rig _ _ _ _ _) _ _).trans (State.setBit_rig _ _ _ _)) _ _
  have h9 : s9.rig = s7.rig := (foldl_rig (fun _ _ => setBothF_rig _ _ _ _ _) _ _).trans (foldl_rig (fun _ _ => State.setF_rig _ _ _ _ _) _ _)
  have h11 : s11.rig = s9.rig := (foldl_rig (fun _ _ => State.setReg_rig _ _ _) _ _).trans (setStore_rig _ _)
  have h13 : s13.rig = s11.rig := (foldl_rig (fun _ _ => State.setBit_rig _ _ _ _) _ _).trans (foldl_rig (fun _ _ => State.setReg_rig _ _ _) _ _)
  have h15 : s15.rig = s13.rig := (foldl_rig (fun _ _ => State.setReg_rig _ _ _) _ _).trans (foldl_rig (fun _ _ => State.setReg_rig _ _ _) _ _)
  have hplan : s15.rig = s6.rig := h15.trans (h13.trans (h11.trans (h9.trans h7)))
  have hbound : s6.rig = s.rig := h5.trans (h4.trans h2)
  exact (chargeDevice_rig _ _ _).trans ((foldl_rig (fun _ _ => refreshAmi_rig _ _) _ _).trans (hplan.trans hbound))

theorem applyZone_rig (k : Nat) (z : ZonePlan) (s : State) : (applyZone k z s).rig = s.rig := (foldl_rig (fun _ _ => applyStrand_rig _ _) _ _).trans (applyPlan_rig _ _ _)

/-! Plans beside the zones -/

theorem applyTenancy_rig (p : TenancyPlan) (b t : Nat) (e : TenancyEntry) (s : State) : (applyTenancy p b t e s).rig = s.rig :=
  (setStore_rig _ _).trans ((State.setReg_rig _ _ _).trans ((State.setReg_rig _ _ _).trans ((State.setReg_rig _ _ _).trans ((State.setReg_rig _ _ _).trans
    ((setHost_rig _ _).trans ((State.setF_rig _ _ _ _ _).trans ((State.setReg_rig _ _ _).trans (State.setReg_rig _ _ _))))))))

theorem applyTenancies_rig (i : RigImage) (s : State) : (applyTenancies i s).rig = s.rig :=
  (State.setReg_rig _ _ _).trans ((setHost_rig _ _).trans ((foldl_rig (fun _ _ => applyTenancy_rig _ _ _ _ _) _ _).trans (State.setReg_rig _ _ _)))

theorem setChState_rig (m v : Nat) (s : State) : (setChState m v s).rig = s.rig := State.setF_rig _ _ _ _ _

theorem applyStorePlan_rig (p : StorePlan) (s : State) : (applyStorePlan p s).rig = s.rig :=
  (foldl_rig (fun _ _ => ite_rig (setChState_rig _ _ _) rfl) _ _).trans ((setStore_rig _ _).trans (State.setReg_rig _ _ _))

/-! Fids -/

theorem masterReset_rig (m : Master) (discarded : Nat) (s : State) : (masterReset m discarded s).rig = s.rig := by
  refine (raiseFab_rig _ _).trans ((State.bump_rig _ _ _).trans ?_)
  split
  · exact ite_rig (State.setReg_rig _ _ _) rfl
  · rfl

theorem digestChanged_rig (s : State) : (digestChanged s).rig = s.rig := setKey_rig _ _

theorem digestChanged_due (s : State) : (digestChanged s).key.digestDue = true := rfl

theorem withFid_rig (s : State) (x : FidState) : ({ s with fid := x } : State).rig = s.rig := rfl

theorem setFid_rig (f : Nat) (v : Fid) (s : State) : (setFid f v s).rig = s.rig := rfl

theorem zeroFidWords_rig (f lo hi : Nat) (s : State) : (zeroFidWords f lo hi s).rig = s.rig := rfl

theorem coldStart_rig (f : Nat) (i : FidImage) (s : State) : (coldStart f i s).rig = s.rig :=
  (masterReset_rig _ _ _).trans ((digestChanged_rig _).trans ((State.setReg_rig _ _ _).trans ((State.setReg_rig _ _ _).trans ((setFid_rig _ _ _).trans
    ((ite_rig (foldl_rig (fun _ _ => (withFid_rig _ _).trans ((State.setF_rig _ _ _ _ _).trans (State.setReg_rig _ _ _))) _ _) rfl).trans
      ((setFidWords_rig _ _ _ _).trans ((setFidWords_rig _ _ _ _).trans (zeroFidWords_rig _ _ _ _))))))))

/-! The image loaded -/

/-- The slots, the selector and what waits stay; the image loaded is the running one (R60, R63). -/
theorem loadImage_rig (slot : Slot) (trial : Bool) (i : RigImage) (s : State) :
    ∃ d, (loadImage slot trial i s).rig = { s.rig with running := some i, runningSlot := some slot, loading := none, earlyApplied := d } := by
  unfold loadImage
  extract_lets _ s1 s2 s3 p s4 s5 s6 s7
  have h1 : s1.rig = { s.rig with running := some i, runningSlot := some slot, loading := none } := setRig_rig _ _
  obtain ⟨d, h2⟩ := changeEarly_rig i (showImage slot trial i s1)
  rw [(showImage_writes slot trial i s1).rig, h1] at h2
  have h5 : s5.rig = s2.rig := (State.setReg_rig _ _ _).trans ((applyStorePlan_rig _ _).trans (applyTenancies_rig _ _))
  have h7 : s7.rig = s5.rig := (foldl_rig (fun _ _ => coldStart_rig _ _ _) _ _).trans (foldl_rig (fun _ _ => applyZone_rig _ _ _) _ _)
  exact ⟨d, (digestChanged_rig _).trans ((enginesRefresh_rig _).trans ((wakeUsed_rig _).trans (h7.trans (h5.trans h2))))⟩

theorem loadImage_digestDue (slot : Slot) (trial : Bool) (i : RigImage) (s : State) : (loadImage slot trial i s).key.digestDue = true := digestChanged_due _

/-! SECTIONS_CHECKED -/

section
variable {s : State} {k : Slot} {i : RigImage}

theorem doSectionsChecked_loading (hload : s.rig.loading = some k) :
    doSectionsChecked s = if s.mode ≠ .bringUp then s
      else bootWhole ((k, if s.rig.loadingTrial then .trial else if s.rig.fellBack then .other else .active) :: s.afterLoading) s := by
  simp only [doSectionsChecked, hload]

/-- The first candidate that passes every check is loaded (R63). -/
theorem bootWhole_passed (himg : s.image k = some i) (hcheck : s.loadCheck (some i) = none) {x : Try} (hx : x ≠ .other) (l : List (Slot × Try)) :
    bootWhole ((k, x) :: l) s = loadImage k (decide (x = .trial)) i s := by
  simp [bootWhole, himg, hcheck, bootLoaded, hx]

theorem exec_sectionsChecked_passed (hload : s.rig.loading = some k) (hmode : s.mode = .bringUp) (himg : s.image k = some i) (hcheck : s.loadCheck (some i) = none)
    (hback : s.rig.fellBack = false) :
    ∃ t, exec .sectionsChecked s = .next t ∧ t.rig.running = some i ∧ t.rig.runningSlot = some k ∧ t.rig.loading = none ∧ t.rig.selector = s.rig.selector ∧
      t.key.digestDue = true := by
  have hmode' : ¬ s.begin.mode ≠ .bringUp := fun h => h hmode
  have hx : (if s.begin.rig.loadingTrial then Try.trial else if s.begin.rig.fellBack then .other else .active) ≠ .other := by
    rw [State.begin_rig, hback]; cases s.rig.loadingTrial <;> decide
  have hdo := (doSectionsChecked_loading (s := s.begin) hload).trans (if_neg hmode')
  rw [bootWhole_passed ((image_begin s k).trans himg) hcheck hx] at hdo
  generalize decide ((if s.begin.rig.loadingTrial then Try.trial else if s.begin.rig.fellBack then .other else .active) = .trial) = trial at hdo
  obtain ⟨d, hrig⟩ := loadImage_rig k trial i s.begin
  refine ⟨loadImage k trial i s.begin, congrArg Host.Outcome.next hdo, ?_, ?_, ?_, ?_, loadImage_digestDue _ _ _ _⟩
  all_goals rw [hrig]
  rfl

end

end Sys2Proof.Machine
end

section
namespace Sys2Proof.Machine

open Sys2Proof

/-- Settles O51: the release comes to the scan of the records, whose epoch is above every intact copy's; the load of an image leaves the selector alone; full service and the
core voltage follow from their steps' lemmas. -/
theorem bringUpToFullService : Obligations.BringUp := by
  refine ⟨fun s obs hs => ⟨?_, ?_, ?_, ?_⟩, fun s k i hload => ⟨?_, ?_, ?_⟩, ?_, fun s mv ack hmay => ⟨?_, ?_⟩⟩
  · exact fun hmay => congrArg Host.Outcome.next (doResetRelease_held (s := s.begin) hmay)
  · exact fun hmay hcopy => exec_resetRelease_noCopy hs hmay hcopy
  · exact fun c hmay hcopy => exec_resetRelease_copy hs hmay hcopy
  · exact fun c hmay hcopy halarms htamper hroot hfail => exec_resetRelease_boots hs hmay hcopy halarms htamper hroot hfail
  · exact fun hmode => congrArg Host.Outcome.next ((doSectionsChecked_loading (s := s.begin) hload).trans (if_pos hmode))
  · exact fun hmode => congrArg Host.Outcome.next ((doSectionsChecked_loading (s := s.begin) hload).trans (if_neg (fun h => h hmode)))
  · exact fun hmode himg hcheck hback => exec_sectionsChecked_passed hload hmode himg hcheck hback
  · exact fun s hmode hbooted hload hbare hplan => exec_inService_bare hmode hbooted hload hbare hplan
  · exact fun hwait hsince hlo hhi hup hdown => exec_avsRequest ack hmay hwait hsince hlo hhi hup hdown
  · exact fun w hwait hsince => exec_avsRetry ack hmay hwait hsince

end Sys2Proof.Machine
end

section
/-! Fields of registers that a write leaves alone, and the events of strands: what raising one shows and what else it touches (R10, R136, R638). -/

namespace Sys2Proof.Machine

open Sys2Proof

/-! Fields and bits -/

theorem State.f_of_reg {s t : State} {a : Nat} (h : t.reg a = s.reg a) (hi lo : Nat) : t.f a hi lo = s.f a hi lo := congrArg (fld · hi lo) h

theorem State.bit_of_reg {s t : State} {a : Nat} (h : t.reg a = s.reg a) (b : Nat) : t.bit a b = s.bit a b := congrArg (bitOf · b) h

theorem State.rx_of_reg {s t : State} {n : Nat} (h : t.reg (Reg.strState n) = s.reg (Reg.strState n)) : t.rx n = s.rx n :=
  congrArg rxOf (State.f_of_reg h 2 0)

theorem State.reg_setReg_ne (s : State) {a b : Nat} (h : b ≠ a) (v : Word) : (s.setReg a v).reg b = s.reg b := by
  rw [State.reg_setReg, if_neg h]

/-- A field that does not meet the one written, of any register. -/
theorem State.f_setF_other (s : State) (a b : Nat) {hi lo hi' lo' : Nat} (v : Nat) (hlo : lo ≤ hi) (hhi : hi' < 32) (h : hi < lo' ∨ hi' < lo) :
    (s.setF a hi lo v).f b hi' lo' = s.f b hi' lo' := by
  unfold State.f
  rw [State.reg_setF]
  split
  · next hb => rw [hb, fld_setFld_other _ _ hlo hhi h]
  · rfl

/-- A bit outside the field written, of any register. -/
theorem State.bit_setF_other (s : State) (a b : Nat) {hi lo c : Nat} (v : Nat) (hlo : lo ≤ hi) (hc : c < 32) (h : c < lo ∨ hi < c) :
    (s.setF a hi lo v).bit b c = s.bit b c := by
  unfold State.bit
  rw [State.reg_setF]
  split
  · next hb => rw [hb, bitOf_setFld _ _ hlo hc, if_neg (by omega)]
  · rfl

theorem State.bit_setBit_same (s : State) (a : Nat) {b : Nat} (v : Bool) (hb : b < 32) : (s.setBit a b v).bit a b = v := by
  rw [State.bit_setBit _ _ _ hb, if_pos rfl]

theorem State.bit_setBit_other (s : State) (a b : Nat) {c d : Nat} (v : Bool) (hd : d < 32) (h : d ≠ c) : (s.setBit a c v).bit b d = s.bit b d :=
  State.bit_setF_other s a b _ (le_refl c) hd (by omega)

/-! Events of a strand -/

theorem inTen_above {a : Nat} (h : 0x18000 ≤ a) : inTen a = false := by
  simp only [inTen, decide_eq_false_iff_not]
  omega

theorem raiseStrand_reg (n b : Nat) (s : State) : (raiseStrand n b s).reg (Reg.strEvent n) = setFld (s.reg (Reg.strEvent n)) b b 1 :=
  raiseBit_reg (inTen_above (by simp only [Reg.strEvent]; omega)) _ _ _ _ _

theorem raiseStrand_reports (n b : Nat) (s : State) : Reports [Reg.strEvent n] s (raiseStrand n b s) := raiseEn_reports _ _ _ _ _ _

/-- Beside its own bit an event leaves every event of the strands as it was. -/
theorem raiseStrand_bit (n m : Nat) {b c : Nat} (hc : c < 32) (s : State) :
    (raiseStrand n b s).bit (Reg.strEvent m) c = if m = n ∧ c = b then true else s.bit (Reg.strEvent m) c := by
  unfold State.bit
  by_cases hm : m = n
  · subst hm
    rw [raiseStrand_reg, bitOf_setFld _ _ (le_refl b) hc]
    by_cases hb : c = b
    · simp [hb]
    · rw [if_neg (by omega), if_neg (by omega)]
  · have hne : Reg.strEvent m ∉ [Reg.strEvent n] := by simp only [Reg.strEvent, List.mem_singleton]; omega
    rw [(raiseStrand_reports n b s).2 _ (inTen_above (by simp only [Reg.strEvent]; omega)) hne, if_neg (by omega)]

theorem raiseStrand_bit_same (n : Nat) {b : Nat} (hb : b < 32) (s : State) : (raiseStrand n b s).bit (Reg.strEvent n) b = true := by
  rw [raiseStrand_bit n n hb, if_pos ⟨rfl, rfl⟩]

end Sys2Proof.Machine
end

section
/-! A receiver that loses its signal or its alignment, where nothing is routed and no eye point runs (R97, R104, R111, R112, R797). -/

namespace Sys2Proof.Machine

open Sys2Proof

/-! What such a step touches -/

/-- Beside the registers of which `p` holds and the reports to hosts, the receivers' flags and what the wires carry are all that differs; no register
of the splice matrix or above is written. -/
def ReceiverStep (p : Nat → Prop) (s t : State) : Prop :=
  t = { s with
    out := t.out, regs := t.regs, host := t.host
    strand := { s.strand with syncFailed := t.strand.syncFailed, feeds := t.strand.feeds, wasLost := t.strand.wasLost }
    wire := { s.wire with formats := t.wire.formats, mastering := t.wire.mastering, audio := t.wire.audio } } ∧
  (∀ a, inTen a = false → ¬ p a → t.reg a = s.reg a) ∧ ∀ e ∈ t.regs, e ∈ s.regs ∨ e.1 < 0x182000

section
variable {p q : Nat → Prop} {s t u : State}

theorem ReceiverStep.refl (p : Nat → Prop) (s : State) : ReceiverStep p s s := ⟨rfl, fun _ _ _ => rfl, fun _ he => .inl he⟩

theorem ReceiverStep.trans (h : ReceiverStep p s t) (g : ReceiverStep p t u) : ReceiverStep p s u := by
  obtain ⟨hparts, hreg, hmem⟩ := h
  obtain ⟨gparts, greg, gmem⟩ := g
  refine ⟨by rw [gparts, hparts], fun a ha hp => (greg a ha hp).trans (hreg a ha hp), fun e he => ?_⟩
  rcases gmem e he with he | he
  · exact hmem e he
  · exact .inr he

theorem ReceiverStep.mono (h : ReceiverStep p s t) (hpq : ∀ a, p a → q a) : ReceiverStep q s t := by
  obtain ⟨hparts, hreg, hmem⟩ := h
  exact ⟨hparts, fun a ha hq => hreg a ha (fun hp => hq (hpq a hp)), hmem⟩

theorem ReceiverStep.begin (p : Nat → Prop) (s : State) : ReceiverStep p s s.begin := ⟨rfl, fun _ _ _ => rfl, fun _ he => .inl he⟩

theorem ReceiverStep.reg (h : ReceiverStep p s t) {a : Nat} (ha : 0x18000 ≤ a) (hp : ¬ p a) : t.reg a = s.reg a := h.2.1 a (inTen_above ha) hp

theorem mem_tabPut {α : Type} [DecidableEq α] {d : α} {k : Nat} {v : α} {l : Tab α} {e : Nat × α} (h : e ∈ tabPut d k v l) : e ∈ l ∨ e.1 = k := by
  unfold tabPut at h
  split at h
  · exact .inl (mem_tabDel h)
  · rcases mem_tabSet h with rfl | h
    · exact .inr rfl
    · exact .inl h

theorem ReceiverStep.setReg {a : Nat} (hp : p a ∨ inTen a = true) (ha : a < 0x182000) (v : Word) (s : State) : ReceiverStep p s (s.setReg a v) := by
  refine ⟨rfl, fun b hb hpb => State.reg_setReg_ne s ?_ v, fun e he => ?_⟩
  · rintro rfl
    rcases hp with hp | hp
    · exact hpb hp
    · exact Bool.noConfusion (hb.symm.trans hp)
  · rcases mem_tabPut he with he | he
    · exact .inl he
    · exact .inr (he ▸ ha)

theorem ReceiverStep.emit (p : Nat → Prop) (o : Output) (s : State) : ReceiverStep p s (s.emit o) := ⟨rfl, fun _ _ _ => rfl, fun _ he => .inl he⟩

theorem ReceiverStep.setEvq (p : Nat → Prop) (t : Nat) (r : RingState EventEntry) (s : State) : ReceiverStep p s (s.setEvq t r) :=
  ⟨rfl, fun _ _ _ => rfl, fun _ he => .inl he⟩

/-- Posting an event writes the registers of its tenancy's window alone. -/
theorem postEvent_receiverStep (p : Nat → Prop) (t : Nat) (e : EventEntry) (s : State) : ReceiverStep p s (postEvent t e s) := by
  unfold postEvent
  split
  · exact ReceiverStep.refl p s
  · next h =>
    have ht : t < 4 := by
      simp only [Bool.or_eq_true, decide_eq_true_eq, not_or, Nat.not_le] at h
      exact h.1
    have hcoal : Reg.tenEvqCoal t < 0x182000 := by simp only [Reg.tenEvqCoal]; omega
    have hlost : Reg.tenEvtLostCnt t < 0x182000 := by simp only [Reg.tenEvtLostCnt]; omega
    have hevent : Reg.tenEvent t < 0x182000 := by simp only [Reg.tenEvent]; omega
    dsimp only
    split
    · exact ReceiverStep.setEvq p _ _ s
    · split
      · exact ((ReceiverStep.setEvq p _ _ s).trans (ReceiverStep.setReg (.inr (inTen_evtLostCnt ht)) hlost _ _)).trans
          (ReceiverStep.setReg (.inr (inTen_event ht)) hevent _ _)
      · exact ((ReceiverStep.setEvq p _ _ s).trans (ReceiverStep.setReg (.inr (inTen_evqCoal ht)) hcoal _ _)).trans (ReceiverStep.emit p _ _)

theorem raiseStrand_receiverStep {n : Nat} (hn : n < 128) (hp : p (Reg.strEvent n)) (b : Nat) (s : State) : ReceiverStep p s (raiseStrand n b s) := by
  have hset : ReceiverStep p s (s.setBit (Reg.strEvent n) b true) := ReceiverStep.setReg (.inl hp) (by simp only [Reg.strEvent]; omega) _ s
  unfold raiseStrand raiseEn raiseBit
  dsimp only
  split
  · unfold postTo
    split
    · exact hset
    · exact hset.trans (postEvent_receiverStep p _ _ _)
  · exact hset

theorem setRx_receiverStep {n : Nat} (hn : n < 128) (hp : p (Reg.strState n)) (r : Rx) (s : State) : ReceiverStep p s (setRx n r s) :=
  ReceiverStep.setReg (.inl hp) (by simp only [Reg.strState]; omega) _ s

theorem syncFailed_receiverStep (p : Nat → Prop) (f : Tab Bool) (s : State) : ReceiverStep p s (setStrand { s.strand with syncFailed := f } s) :=
  ⟨rfl, fun _ _ _ => rfl, fun _ he => .inl he⟩

theorem enterSync_receiverStep {n : Nat} (hn : n < 128) (hp : p (Reg.strState n)) (s : State) : ReceiverStep p s (enterSync n s) :=
  (setRx_receiverStep hn hp .sync s).trans (syncFailed_receiverStep p _ _)

end

/-! Where nothing is routed -/

/-- No change set waits, no receiving port is bound, no destination is hitched, and no eye point runs. -/
structure Calm (s : State) : Prop where
  sets : s.spl.sets = []
  eiBind : s.spl.eiBind = []
  amiBind : s.aud.amiBind = []
  hitches : s.hitches = []
  eyeBusy : ∀ k, tabGetD false k s.strand.eyeBusy = false

theorem Unrouted.calm {s : State} (h : Unrouted s) (heye : ∀ k, tabGetD false k s.strand.eyeBusy = false) : Calm s := by
  obtain ⟨hsets, hei, -, hami, -, hhitches, -⟩ := h
  exact ⟨hsets, hei, hami, hhitches, heye⟩

theorem destOfWin_below {a : Nat} (h : a < 0x182000) : destOfWin a = none := by
  unfold destOfWin
  rw [if_neg (by omega), if_neg (by omega)]

/-- No hitch is listed in entries among those of a table without hitches and those below the splice matrix. -/
theorem hitches_of_mem {s t : State} (h : s.hitches = []) (hmem : ∀ e ∈ t.regs, e ∈ s.regs ∨ e.1 < 0x182000) : t.hitches = [] := by
  unfold State.hitches at h ⊢
  rw [List.filterMap_eq_nil_iff] at h ⊢
  intro e he
  rcases hmem e he with he | he
  · exact h e he
  · rw [destOfWin_below he]

theorem ReceiverStep.calm {p : Nat → Prop} {s t : State} (h : ReceiverStep p s t) (hs : Calm s) : Calm t := by
  obtain ⟨hparts, -, hmem⟩ := h
  exact ⟨by rw [hparts]; exact hs.sets, by rw [hparts]; exact hs.eiBind, by rw [hparts]; exact hs.amiBind, hitches_of_mem hs.hitches hmem,
    by rw [hparts]; exact hs.eyeBusy⟩

theorem eyeAbort_calm {s : State} (h : Calm s) (n : Nat) : eyeAbort n s = s := by
  unfold eyeAbort
  rw [h.eyeBusy n]
  rfl

theorem tautRefresh_calm {s : State} (h : Calm s) (n : Nat) : tautRefresh n s = s := by
  simp [tautRefresh, State.fedBy, h.hitches]

/-- A receiver that stops feeding writes no register. -/
theorem stopFeed_calm {p : Nat → Prop} {s : State} (h : Calm s) (n : Nat) :
    ReceiverStep p s (stopFeed n s) ∧ (stopFeed n s).regs = s.regs ∧ (stopFeed n s).feeds n = false := by
  unfold stopFeed
  split
  · next hf =>
    refine ⟨ReceiverStep.refl p s, rfl, ?_⟩
    unfold State.feeds
    rw [Bool.not_eq_true'] at hf
    rw [hf]; rfl
  · dsimp only
    have hs : Calm (setStrand { s.strand with feeds := tabPut false n false s.strand.feeds, wasLost := tabPut false n true s.strand.wasLost } s) :=
      ⟨h.sets, h.eiBind, h.amiBind, h.hitches, h.eyeBusy⟩
    rw [endSets_of_noSets hs.sets, tautRefresh_calm hs]
    refine ⟨⟨rfl, fun _ _ _ => rfl, fun _ he => .inl he⟩, rfl, ?_⟩
    unfold State.feeds
    rw [setStrand_strand, tabGetD_tabPut, if_pos rfl]; rfl

/-- The format and the measurements of a wire are forgotten. -/
def forgetWire (n : Nat) (s : State) : State :=
  dropFormat n (setWire { s.wire with mastering := tabDel n s.wire.mastering, audio := tabDel n s.wire.audio } s)

theorem forgetWire_receiverStep (p : Nat → Prop) (n : Nat) (s : State) : ReceiverStep p s (forgetWire n s) :=
  ⟨rfl, fun _ _ _ => rfl, fun _ he => .inl he⟩

theorem forgetWire_reg (n : Nat) (s : State) (a : Nat) : (forgetWire n s).reg a = s.reg a := rfl

theorem loseDecoder_eq {s : State} (h : Calm s) (n : Nat) :
    loseDecoder n s = forgetWire n (((s.setReg (Reg.wirFmt n) 0).setReg (Reg.wirFmtSize n) 0).setReg (Reg.wirFmtRate n) 0) :=
  loseDecoder_unbound h.eiBind h.amiBind n

theorem loseDecoder_calm {p : Nat → Prop} {s : State} (h : Calm s) {n : Nat} (hn : n < 128) (hfmt : p (Reg.wirFmt n)) (hsize : p (Reg.wirFmtSize n))
    (hrate : p (Reg.wirFmtRate n)) : ReceiverStep p s (loseDecoder n s) ∧ (loseDecoder n s).reg (Reg.wirFmt n) = 0 := by
  have hunlocked := ReceiverStep.setReg (.inl hfmt) (by simp only [Reg.wirFmt]; omega) 0 s
  have hregs := (hunlocked.trans (ReceiverStep.setReg (.inl hsize) (by simp only [Reg.wirFmtSize]; omega) 0 _)).trans
    (ReceiverStep.setReg (.inl hrate) (by simp only [Reg.wirFmtRate]; omega) 0 _)
  have hne : Reg.wirFmt n ≠ Reg.wirFmtRate n ∧ Reg.wirFmt n ≠ Reg.wirFmtSize n := by simp only [Reg.wirFmt, Reg.wirFmtRate, Reg.wirFmtSize]; omega
  rw [loseDecoder_eq h]
  refine ⟨hregs.trans (forgetWire_receiverStep p n _), ?_⟩
  rw [forgetWire_reg, State.reg_setReg_ne _ hne.1, State.reg_setReg_ne _ hne.2, State.reg_setReg, if_pos rfl]

/-! Receivers' states and configurations -/

theorem rxOf_rxCode (r : Rx) : rxOf (rxCode r % 8) = r := by cases r <;> rfl

theorem rx_setRx (n j : Nat) (r : Rx) (s : State) : (setRx n r s).rx j = if j = n then r else s.rx j := by
  by_cases h : j = n
  · subst h
    rw [if_pos rfl]
    unfold State.rx setRx
    rw [State.f_setF _ _ _ (by omega) (by omega)]
    exact rxOf_rxCode r
  · rw [if_neg h]
    exact State.rx_of_reg (State.reg_setReg_ne s (by simp only [Reg.strState]; omega) _)

theorem rx_enterSync (n j : Nat) (s : State) : (enterSync n s).rx j = if j = n then .sync else s.rx j := rx_setRx n j .sync s

theorem leader_lt (s : State) (n : Nat) : s.leader n < 128 := Nat.mod_lt _ (by decide)

theorem members_of_single {s : State} {n : Nat} (h : Single s n) : s.members n = [n] := by
  obtain ⟨hlead, hwidth⟩ := h
  simp [State.members, hlead, hwidth]

/-- Members, leader and protocol of a strand are read from STR_CFG alone (R134). -/
theorem cfg_of_reg {s t : State} (h : ∀ k, k < 128 → t.reg (Reg.strCfg k) = s.reg (Reg.strCfg k)) {n : Nat} (hn : n < 128) :
    t.members n = s.members n ∧ t.leader n = s.leader n ∧ t.proto n = s.proto n := by
  have hlead : t.leader n = s.leader n := State.f_of_reg (h n hn) 22 16
  have hwidth : t.width (s.leader n) = s.width (s.leader n) := congrArg (2 ^ ·) (State.f_of_reg (h _ (leader_lt s n)) 3 2)
  exact ⟨by unfold State.members; rw [hlead, hwidth], hlead, State.f_of_reg (h n hn) 1 0⟩

end Sys2Proof.Machine
end

section
/-! What leaves UP, and the commands that see it (R97, R104, R797). -/

namespace Sys2Proof.Machine

open Sys2Proof

/-! A receiver in no braid and no display port -/

/-- The registers that show where a strand's receiver is and what befell it (R135, R136). -/
def StateOrEvent (a : Nat) : Prop := ∃ k, a = Reg.strState k ∨ a = Reg.strEvent k

theorem strCfg_not_stateOrEvent (n : Nat) : ¬ StateOrEvent (Reg.strCfg n) := by
  rintro ⟨k, h | h⟩
  · simp only [Reg.strCfg, Reg.strState] at h; omega
  · simp only [Reg.strCfg, Reg.strEvent] at h; omega

theorem strState_stateOrEvent (n : Nat) : StateOrEvent (Reg.strState n) := ⟨n, .inl rfl⟩

theorem strEvent_stateOrEvent (n : Nat) : StateOrEvent (Reg.strEvent n) := ⟨n, .inr rfl⟩

/-- What changes STR_STATE and STR_EVENT alone leaves a strand's configuration. -/
theorem ReceiverStep.cfg {s t : State} (h : ReceiverStep StateOrEvent s t) (n : Nat) : t.reg (Reg.strCfg n) = s.reg (Reg.strCfg n) :=
  h.reg (by simp only [Reg.strCfg]; omega) (strCfg_not_stateOrEvent n)

/-- A single receiver leaves UP alone. -/
theorem leaveUp_single {s : State} (hc : Calm s) {n : Nat} (hn : n < 128) (h1 : Single s n) (hp : s.proto n ≠ 3) (r : Rx) :
    leaveUp n r s = loseDecoder n (if r = .sync then enterSync n s else setRx n r s) := by
  have hstep : ReceiverStep StateOrEvent s (if r = .sync then enterSync n s else setRx n r s) := by
    split
    · exact enterSync_receiverStep hn (strState_stateOrEvent n) s
    · exact setRx_receiverStep hn (strState_stateOrEvent n) r s
  generalize hu : (if r = .sync then enterSync n s else setRx n r s) = u at hstep
  have hcfg : u.proto n = s.proto n := State.f_of_reg (hstep.cfg n) 1 0
  unfold leaveUp
  rw [hu, eyeAbort_calm (hstep.calm hc), members_of_single h1, h1.1]
  simp [hcfg, hp]

/-! A receiver of a braid -/

/-- The other members of a braid that are UP return to SYNC, one after another. -/
def othersToSync (n : Nat) (ms : List Nat) (s : State) : State := ms.foldl (fun s k => if k ≠ n ∧ s.rx k = .up then enterSync k s else s) s

theorem othersToSync_receiverStep {p : Nat → Prop} (n : Nat) {ms : List Nat} (hms : ∀ k ∈ ms, k < 128) (hp : ∀ k, p (Reg.strState k)) (s : State) :
    ReceiverStep p s (othersToSync n ms s) := by
  induction ms generalizing s with
  | nil => exact ReceiverStep.refl p s
  | cons k ms ih =>
    have htail := fun u => ih (fun j hj => hms j (List.mem_cons_of_mem _ hj)) u
    refine ReceiverStep.trans ?_ (htail _)
    dsimp only
    split
    · exact enterSync_receiverStep (hms k List.mem_cons_self) (hp k) s
    · exact ReceiverStep.refl p s

theorem rx_othersToSync (n : Nat) (ms : List Nat) (s : State) (j : Nat) :
    (othersToSync n ms s).rx j = if j ∈ ms ∧ j ≠ n ∧ s.rx j = .up then .sync else s.rx j := by
  induction ms generalizing s with
  | nil => simp [othersToSync]
  | cons k ms ih =>
    have hhead : (if k ≠ n ∧ s.rx k = .up then enterSync k s else s).rx j = if j = k ∧ j ≠ n ∧ s.rx j = .up then .sync else s.rx j := by
      by_cases hj : j = k
      · subst hj
        by_cases hup : j ≠ n ∧ s.rx j = .up <;> simp [hup, rx_enterSync]
      · by_cases hup : k ≠ n ∧ s.rx k = .up <;> simp [hup, hj, rx_enterSync]
    show (othersToSync n ms (if k ≠ n ∧ s.rx k = .up then enterSync k s else s)).rx j = _
    rw [ih, hhead]
    by_cases hj : j = k
    · subst hj
      by_cases hup : j ≠ n ∧ s.rx j = .up <;> simp [hup]
    · simp [hj]

/-- Where no eye point runs the members' return to SYNC ends none. -/
theorem othersToSync_calm {n : Nat} {ms : List Nat} (hms : ∀ k ∈ ms, k < 128) {s : State} (hc : Calm s) :
    ms.foldl (fun s k => if k ≠ n ∧ s.rx k = .up then eyeAbort k (enterSync k s) else s) s = othersToSync n ms s := by
  induction ms generalizing s with
  | nil => rfl
  | cons k ms ih =>
    have hsync : Calm (enterSync k s) := (enterSync_receiverStep (p := fun _ => True) (hms k List.mem_cons_self) trivial s).calm hc
    have hhead : Calm (if k ≠ n ∧ s.rx k = .up then enterSync k s else s) := by
      split
      · exact hsync
      · exact hc
    rw [List.foldl_cons, eyeAbort_calm hsync, ih (fun j hj => hms j (List.mem_cons_of_mem _ hj)) hhead]
    rfl

/-- A member of a braid leaves UP for SYNC: PROTO_LOST is raised on the leader, whose decoder loses its format. -/
theorem leaveUp_braid {s : State} (hc : Calm s) {n : Nat} (hn : n < 128) (hp : s.proto n ≠ 3) (hlen : 1 < (s.members n).length)
    (hms : ∀ k ∈ s.members n, k < 128) :
    leaveUp n .sync s = loseDecoder (s.leader n) (raiseStrand (s.leader n) 3 (othersToSync n (s.members n) (enterSync n s))) := by
  have hsync : ReceiverStep StateOrEvent s (enterSync n s) := enterSync_receiverStep hn (strState_stateOrEvent n) s
  have hraise : ReceiverStep StateOrEvent s (raiseStrand (s.leader n) 3 (othersToSync n (s.members n) (enterSync n s))) :=
    (hsync.trans (othersToSync_receiverStep n hms strState_stateOrEvent _)).trans
      (raiseStrand_receiverStep (leader_lt s n) (strEvent_stateOrEvent _) 3 _)
  have hproto : (raiseStrand (s.leader n) 3 (othersToSync n (s.members n) (enterSync n s))).proto n = s.proto n := State.f_of_reg (hraise.cfg n) 1 0
  unfold leaveUp
  dsimp only
  rw [if_pos rfl, eyeAbort_calm (hsync.calm hc), othersToSync_calm (n := n) hms (hsync.calm hc)]
  simp only [hlen, if_true, hproto, hp, if_false]

/-- The receivers of a braid after one of its members has left UP for SYNC, and the events of the strands raised before. -/
theorem leaveUp_braid_spec {s : State} (hc : Calm s) {n : Nat} (hn : n < 128) (hp : s.proto n ≠ 3) (hlen : 1 < (s.members n).length)
    (hms : ∀ k ∈ s.members n, k < 128) :
    (∀ j, j < 128 → (leaveUp n .sync s).rx j = if j = n ∨ (j ∈ s.members n ∧ s.rx j = .up) then .sync else s.rx j) ∧
    ∀ m b, m < 128 → b < 32 → s.bit (Reg.strEvent m) b = true → (leaveUp n .sync s).bit (Reg.strEvent m) b = true := by
  have hl := leader_lt s n
  rw [leaveUp_braid hc hn hp hlen hms]
  have hsync : ReceiverStep (fun a => ∃ k, a = Reg.strState k) s (othersToSync n (s.members n) (enterSync n s)) :=
    (enterSync_receiverStep hn ⟨n, rfl⟩ s).trans (othersToSync_receiverStep n hms (fun k => ⟨k, rfl⟩) _)
  have hrx : ∀ j, (othersToSync n (s.members n) (enterSync n s)).rx j = if j = n ∨ (j ∈ s.members n ∧ s.rx j = .up) then .sync else s.rx j := by
    intro j
    rw [rx_othersToSync, rx_enterSync]
    by_cases hj : j = n <;> simp [hj]
  have hev : ∀ m b, (othersToSync n (s.members n) (enterSync n s)).bit (Reg.strEvent m) b = s.bit (Reg.strEvent m) b := fun m b =>
    State.bit_of_reg (hsync.reg (by simp only [Reg.strEvent]; omega) (by rintro ⟨k, h⟩; simp only [Reg.strEvent, Reg.strState] at h; omega)) b
  generalize othersToSync n (s.members n) (enterSync n s) = u at hsync hrx hev ⊢
  have hraise : ReceiverStep (· = Reg.strEvent (s.leader n)) u (raiseStrand (s.leader n) 3 u) := raiseStrand_receiverStep (p := (· = Reg.strEvent (s.leader n))) hl rfl 3 u
  have hlose := (loseDecoder_calm (p := fun a => 0x140000 ≤ a) (hraise.calm (hsync.calm hc)) hl (by simp only [Reg.wirFmt]; omega)
    (by simp only [Reg.wirFmtSize]; omega) (by simp only [Reg.wirFmtRate]; omega)).1
  have hkept : ∀ a, 0x18000 ≤ a → a < 0x140000 → (loseDecoder (s.leader n) (raiseStrand (s.leader n) 3 u)).reg a = (raiseStrand (s.leader n) 3 u).reg a :=
    fun a h1 h2 => hlose.reg h1 (by omega)
  refine ⟨fun j hj => ?_, fun m b hm hb hset => ?_⟩
  · rw [← hrx j, State.rx_of_reg (hkept _ (by simp only [Reg.strState]; omega) (by simp only [Reg.strState]; omega))]
    exact State.rx_of_reg (hraise.reg (by simp only [Reg.strState]; omega) (by simp only [Reg.strState, Reg.strEvent]; omega))
  · rw [State.bit_of_reg (hkept _ (by simp only [Reg.strEvent]; omega) (by simp only [Reg.strEvent]; omega)), raiseStrand_bit _ _ hb, hev, hset]
    simp

end Sys2Proof.Machine
end

section
/-! LOS, PROTO_LOST and BRAID_SKEW where nothing is routed (R97, R104, R111, R797). -/

namespace Sys2Proof.Machine

open Sys2Proof

/-! What a loss may change -/

/-- Beside the registers listed and the windows of the tenancies, a loss changes only what the receivers, the wires, the hosts and their reports hold. -/
def OnlyLoss (l : List Nat) (s t : State) : Prop :=
  t = { s with
    out := t.out, regs := t.regs, strand := t.strand, host := t.host, pwr := t.pwr, spl := t.spl, fid := t.fid
    wire := { s.wire with formats := t.wire.formats, mastering := t.wire.mastering, audio := t.wire.audio } } ∧
  ∀ a, inTen a = false → a ∉ l → t.reg a = s.reg a

theorem ReceiverStep.onlyLoss {l : List Nat} {s t : State} (h : ReceiverStep (· ∈ l) s t) : OnlyLoss l s t := by
  obtain ⟨hparts, hreg, -⟩ := h
  exact ⟨by rw [hparts], hreg⟩

/-- The registers in which a decoder shows the format it detects (R188). -/
def formatRegs (n : Nat) : List Nat := [Reg.wirFmt n, Reg.wirFmtSize n, Reg.wirFmtRate n]

theorem reg_of_regs {s t : State} (h : t.regs = s.regs) (a : Nat) : t.reg a = s.reg a := congrArg (fun r => (tabGet a r).getD (regDefault a)) h

theorem not_mem_formatRegs {a : Nat} (h : a < 0x140000) (n : Nat) : a ∉ formatRegs n := by
  simp only [formatRegs, Reg.wirFmt, Reg.wirFmtSize, Reg.wirFmtRate, List.mem_cons, List.not_mem_nil, or_false]
  omega

/-- A receiver whose SIGNAL reads 0 and that is in state `r`. -/
def unsignalled (n : Nat) (r : Rx) (s : State) : State := setRx n r (s.setBit (Reg.strState n) 8 false)

theorem unsignalled_rx (n : Nat) (r : Rx) (s : State) : (unsignalled n r s).rx n = r := (rx_setRx n n r _).trans (if_pos rfl)

theorem unsignalled_signal (n : Nat) (r : Rx) (s : State) : (unsignalled n r s).bit (Reg.strState n) 8 = false :=
  (State.bit_setF_other _ _ _ _ (by decide) (by decide) (by decide)).trans (State.bit_setBit_same s _ false (by decide))

section
variable {s : State} {n : Nat}

theorem setBit_strState_receiverStep {p : Nat → Prop} (hn : n < 128) (hp : p (Reg.strState n)) (b : Nat) (v : Bool) (s : State) :
    ReceiverStep p s (s.setBit (Reg.strState n) b v) := ReceiverStep.setReg (.inl hp) (by simp only [Reg.strState]; omega) _ s

theorem unsignalled_receiverStep {p : Nat → Prop} (hn : n < 128) (hp : p (Reg.strState n)) (r : Rx) (s : State) : ReceiverStep p s (unsignalled n r s) :=
  (setBit_strState_receiverStep hn hp 8 false s).trans (setRx_receiverStep hn hp r _)

/-! LOS -/

/-- The receiver once LOS has taken it from UP: it has left UP, and the loss is counted and raised. -/
def losCounted (n : Nat) (s : State) : State := raiseStrand n 0 ((loseDecoder n (unsignalled n .los s)).bump (Reg.strLosCnt n) 1)

theorem doLos_up (hc : Calm s) (hn : n < 128) (hrx : s.rx n = .up) (h1 : Single s n) (hp : s.proto n ≠ 3) : doLos n s = stopFeed n (losCounted n s) := by
  have hcfg : ∀ k, (s.setBit (Reg.strState n) 8 false).reg (Reg.strCfg k) = s.reg (Reg.strCfg k) :=
    (setBit_strState_receiverStep hn (strState_stateOrEvent n) 8 false s).cfg
  obtain ⟨-, hlead, hproto⟩ := cfg_of_reg (fun k _ => hcfg k) hn
  have hcalm : Calm (s.setBit (Reg.strState n) 8 false) := (setBit_strState_receiverStep (p := fun _ => True) hn trivial 8 false s).calm hc
  have hwidth : (s.setBit (Reg.strState n) 8 false).width n = s.width n := congrArg (2 ^ ·) (State.f_of_reg (hcfg n) 3 2)
  simp only [doLos, hrx]
  rw [leaveUp_single hcalm hn ⟨hlead.trans h1.1, hwidth.trans h1.2⟩ (by rw [hproto]; exact hp), if_neg (by decide)]
  rfl

theorem exec_los_up (hc : Calm s) (hn : n < 128) (hrx : s.rx n = .up) (h1 : Single s n) (hp : s.proto n ≠ 3) :
    ∃ t, exec (.los n) s = .next t ∧ t.rx n = .los ∧ t.bit (Reg.strState n) 8 = false ∧ t.bit (Reg.strEvent n) 0 = true ∧
      t.reg (Reg.strLosCnt n) = wd (min 0xFFFFFFFF ((s.reg (Reg.strLosCnt n)).toNat + 1)) ∧ t.feeds n = false ∧ t.reg (Reg.wirFmt n) = 0 ∧
      OnlyLoss (formatRegs n ++ [Reg.strState n, Reg.strLosCnt n, Reg.strEvent n]) s t := by
  have h0 : ReceiverStep (· = Reg.strState n) s (unsignalled n .los s.begin) :=
    (ReceiverStep.begin _ s).trans (unsignalled_receiverStep (p := (· = Reg.strState n)) hn rfl .los s.begin)
  obtain ⟨hlose, hfmt⟩ := loseDecoder_calm (p := (· ∈ formatRegs n)) (h0.calm hc) hn (by simp [formatRegs]) (by simp [formatRegs]) (by simp [formatRegs])
  have hbump : ReceiverStep (· = Reg.strLosCnt n) (loseDecoder n (unsignalled n .los s.begin)) ((loseDecoder n (unsignalled n .los s.begin)).bump (Reg.strLosCnt n) 1) :=
    ReceiverStep.setReg (p := (· = Reg.strLosCnt n)) (a := Reg.strLosCnt n) (.inl rfl) (by simp only [Reg.strLosCnt]; omega) _ _
  have hraise : ReceiverStep (· = Reg.strEvent n) _ (losCounted n s.begin) := raiseStrand_receiverStep (p := (· = Reg.strEvent n)) hn rfl 0 _
  have hall : ReceiverStep (· ∈ formatRegs n ++ [Reg.strState n, Reg.strLosCnt n, Reg.strEvent n]) s (losCounted n s.begin) :=
    (((h0.mono (by simp)).trans (hlose.mono (by simp +contextual))).trans (hbump.mono (by simp))).trans (hraise.mono (by simp))
  obtain ⟨hstop, hregs, hfeeds⟩ := stopFeed_calm (p := (· ∈ formatRegs n ++ [Reg.strState n, Reg.strLosCnt n, Reg.strEvent n])) (hall.calm hc) n
  have hreg := reg_of_regs hregs
  have hstate : (losCounted n s.begin).reg (Reg.strState n) = (unsignalled n .los s.begin).reg (Reg.strState n) := by
    have hge : 0x18000 ≤ Reg.strState n := by simp only [Reg.strState]; omega
    refine (hraise.reg hge ?_).trans ((hbump.reg hge ?_).trans (hlose.reg hge (not_mem_formatRegs ?_ n)))
    all_goals simp only [Reg.strState, Reg.strEvent, Reg.strLosCnt]; omega
  have hcount : (losCounted n s.begin).reg (Reg.strLosCnt n) = wd (min 0xFFFFFFFF ((s.reg (Reg.strLosCnt n)).toNat + 1)) := by
    have hge : 0x18000 ≤ Reg.strLosCnt n := by simp only [Reg.strLosCnt]; omega
    have hold : (loseDecoder n (unsignalled n .los s.begin)).reg (Reg.strLosCnt n) = s.reg (Reg.strLosCnt n) := by
      refine (hlose.reg hge (not_mem_formatRegs ?_ n)).trans (h0.reg hge ?_)
      all_goals simp only [Reg.strState, Reg.strLosCnt]; omega
    refine (hraise.reg hge (by simp only [Reg.strLosCnt, Reg.strEvent]; omega)).trans ?_
    rw [State.reg_bump, if_pos rfl, hold]
  have hshown : (losCounted n s.begin).reg (Reg.wirFmt n) = 0 := by
    have hge : 0x18000 ≤ Reg.wirFmt n := by simp only [Reg.wirFmt]; omega
    refine (hraise.reg hge ?_).trans ((hbump.reg hge ?_).trans hfmt)
    all_goals simp only [Reg.strEvent, Reg.strLosCnt, Reg.wirFmt]; omega
  refine ⟨stopFeed n (losCounted n s.begin), congrArg Host.Outcome.next (doLos_up ((ReceiverStep.begin (fun _ => True) s).calm hc) hn hrx h1 hp), ?_, ?_, ?_, ?_,
    hfeeds, ?_, (hall.trans hstop).onlyLoss⟩
  · rw [State.rx_of_reg (hreg _), State.rx_of_reg hstate, unsignalled_rx]
  · rw [State.bit_of_reg (hreg _), State.bit_of_reg hstate, unsignalled_signal]
  · rw [State.bit_of_reg (hreg _)]
    exact raiseStrand_bit_same n (by decide) _
  · rw [hreg, hcount]
  · rw [hreg, hshown]

theorem doLos_seek (h : s.rx n = .cdr ∨ s.rx n = .adapt) : doLos n s = unsignalled n .seek s := by
  rcases h with h | h <;> simp only [doLos, h] <;> rfl

theorem doLos_sync (h : s.rx n = .sync) : doLos n s = stopFeed n (unsignalled n .seek s) := by
  simp only [doLos, h]
  rfl

/-- Before it is UP a receiver that loses its signal seeks again. -/
theorem exec_los_seek (hc : Calm s) (hn : n < 128) (hrx : s.rx n = .cdr ∨ s.rx n = .adapt ∨ s.rx n = .sync) :
    ∃ t, exec (.los n) s = .next t ∧ t.rx n = .seek ∧ t.bit (Reg.strState n) 8 = false ∧ OnlyLoss [Reg.strState n] s t := by
  have h0 : ReceiverStep (· ∈ [Reg.strState n]) s (unsignalled n .seek s.begin) :=
    (ReceiverStep.begin _ s).trans (unsignalled_receiverStep (p := (· ∈ [Reg.strState n])) hn (by simp) .seek s.begin)
  rcases hrx with h | h | h
  · exact ⟨_, congrArg Host.Outcome.next (doLos_seek (s := s.begin) (.inl h)), unsignalled_rx _ _ _, unsignalled_signal _ _ _, h0.onlyLoss⟩
  · exact ⟨_, congrArg Host.Outcome.next (doLos_seek (s := s.begin) (.inr h)), unsignalled_rx _ _ _, unsignalled_signal _ _ _, h0.onlyLoss⟩
  · obtain ⟨hstop, hregs, -⟩ := stopFeed_calm (p := (· ∈ [Reg.strState n])) (h0.calm hc) n
    have hreg := reg_of_regs hregs (Reg.strState n)
    exact ⟨_, congrArg Host.Outcome.next (doLos_sync (s := s.begin) h), (State.rx_of_reg hreg).trans (unsignalled_rx _ _ _),
      (State.bit_of_reg hreg 8).trans (unsignalled_signal _ _ _), (h0.trans hstop).onlyLoss⟩

/-! PROTO_LOST -/

theorem exec_protoLost (hc : Calm s) (hn : n < 128) (hrx : s.rx n = .up) (h1 : Single s n) (hp : s.proto n = 1 ∨ s.proto n = 2) :
    ∃ t, exec (.protoLost n) s = .next t ∧ t.rx n = .sync ∧ t.bit (Reg.strEvent n) 3 = true ∧ t.reg (Reg.wirFmt n) = 0 ∧
      OnlyLoss (formatRegs n ++ [Reg.strState n, Reg.strEvent n]) s t := by
  have h0 : ReceiverStep (· = Reg.strState n) s (enterSync n s.begin) :=
    (ReceiverStep.begin _ s).trans (enterSync_receiverStep (p := (· = Reg.strState n)) hn rfl s.begin)
  obtain ⟨hlose, hfmt⟩ := loseDecoder_calm (p := (· ∈ formatRegs n)) (h0.calm hc) hn (by simp [formatRegs]) (by simp [formatRegs]) (by simp [formatRegs])
  have hleft : ReceiverStep (· ∈ formatRegs n ++ [Reg.strState n, Reg.strEvent n]) s (loseDecoder n (enterSync n s.begin)) :=
    (h0.mono (by simp)).trans (hlose.mono (by simp +contextual))
  have hcfg : ∀ k, k < 128 → (loseDecoder n (enterSync n s.begin)).reg (Reg.strCfg k) = s.reg (Reg.strCfg k) := by
    intro k hk
    have hge : 0x18000 ≤ Reg.strCfg k := by simp only [Reg.strCfg]; omega
    refine (hlose.reg hge (not_mem_formatRegs ?_ n)).trans (h0.reg hge ?_)
    all_goals simp only [Reg.strState, Reg.strCfg]; omega
  have hmembers : (loseDecoder n (enterSync n s.begin)).members n = [n] := (cfg_of_reg hcfg hn).1.trans (members_of_single h1)
  have hraise : ReceiverStep (· = Reg.strEvent n) (loseDecoder n (enterSync n s.begin)) (raiseStrand n 3 (loseDecoder n (enterSync n s.begin))) :=
    raiseStrand_receiverStep (p := (· = Reg.strEvent n)) hn rfl 3 _
  have hdo : doProtoLost n s.begin = raiseStrand n 3 (loseDecoder n (enterSync n s.begin)) := by
    have hup : s.begin.rx n = .up ∧ s.begin.proto n ≠ 0 := ⟨hrx, by show s.proto n ≠ 0; omega⟩
    unfold doProtoLost
    rw [if_pos hup, leaveUp_single ((ReceiverStep.begin (fun _ => True) s).calm hc) hn h1 (by show s.proto n ≠ 3; omega), if_pos rfl]
    exact if_pos (by rw [hmembers]; exact le_refl 1)
  refine ⟨_, congrArg Host.Outcome.next hdo, ?_, raiseStrand_bit_same n (by decide) _, ?_, (hleft.trans (hraise.mono (by simp))).onlyLoss⟩
  · have hstate : (raiseStrand n 3 (loseDecoder n (enterSync n s.begin))).reg (Reg.strState n) = (enterSync n s.begin).reg (Reg.strState n) := by
      have hge : 0x18000 ≤ Reg.strState n := by simp only [Reg.strState]; omega
      refine (hraise.reg hge ?_).trans (hlose.reg hge (not_mem_formatRegs ?_ n))
      all_goals simp only [Reg.strState, Reg.strEvent]; omega
    rw [State.rx_of_reg hstate, rx_enterSync, if_pos rfl]
  · exact (hraise.reg (by simp only [Reg.wirFmt]; omega) (by simp only [Reg.wirFmt, Reg.strEvent]; omega)).trans hfmt

/-- A RAW receiver has no alignment to lose. -/
theorem exec_protoLost_raw (hp : s.proto n = 0) : exec (.protoLost n) s = .next { s with out := [] } :=
  congrArg Host.Outcome.next (if_neg (fun h => h.2 hp))

/-! BRAID_SKEW -/

theorem exec_braidSkew (hc : Calm s) (hn : n < 128) (hp : s.proto n = 1 ∨ s.proto n = 2) (hlen : 1 < (s.members n).length)
    (hms : ∀ k ∈ s.members n, k < 128 ∧ s.members k = s.members n ∧ s.proto k ≠ 3) :
    ∃ t, exec (.braidSkew n) s = .next t ∧ t.bit (Reg.strEvent (s.leader n)) 5 = true ∧ (∀ k ∈ s.members n, t.rx k ≠ .up) ∧
      ∀ k, k < 128 → k ∉ s.members n → t.rx k = s.rx k := by
  have hl := leader_lt s n
  have hraise : ReceiverStep StateOrEvent s (raiseStrand (s.leader n) 5 s.begin) :=
    (ReceiverStep.begin _ s).trans (raiseStrand_receiverStep hl (strEvent_stateOrEvent _) 5 s.begin)
  have hskew : (raiseStrand (s.leader n) 5 s.begin).bit (Reg.strEvent (s.leader n)) 5 = true := raiseStrand_bit_same _ (by decide) _
  have hrx : ∀ j, (raiseStrand (s.leader n) 5 s.begin).rx j = s.rx j := fun j =>
    State.rx_of_reg ((raiseStrand_reports _ _ _).2 _ (inTen_above (by simp only [Reg.strState]; omega))
      (by simp only [Reg.strState, Reg.strEvent, List.mem_singleton]; omega))
  have hcfg := fun {k : Nat} (hk : k < 128) => cfg_of_reg (fun j _ => hraise.cfg j) hk
  have hdo : ∀ o, (s.members n).find? (fun k => decide (s.rx k = .up)) = o → doBraidSkew n s.begin =
      o.elim (raiseStrand (s.leader n) 5 s.begin) (fun k => leaveUp k .sync (raiseStrand (s.leader n) 5 s.begin)) := by
    intro o ho
    have hcond : (s.begin.proto n = 1 ∨ s.begin.proto n = 2) ∧ 1 < (s.begin.members n).length := ⟨hp, hlen⟩
    unfold doBraidSkew
    dsimp only
    rw [if_pos hcond, show s.begin.leader n = s.leader n from rfl, (hcfg hn).1]
    simp only [hrx, ho]
    cases o <;> rfl
  generalize raiseStrand (s.leader n) 5 s.begin = u at hraise hskew hrx hcfg hdo
  refine ⟨_, congrArg Host.Outcome.next (hdo _ rfl), ?_⟩
  rcases hk : (s.members n).find? (fun k => decide (s.rx k = .up)) with _ | k
  · rw [List.find?_eq_none] at hk
    exact ⟨hskew, fun j hj => by rw [Option.elim_none, hrx]; simpa using hk j hj, fun j _ _ => hrx j⟩
  · rw [Option.elim_some]
    have hmem : k ∈ s.members n := List.mem_of_find?_eq_some hk
    obtain ⟨hk128, hkm, hkp⟩ := hms k hmem
    obtain ⟨hum, -, hup⟩ := hcfg hk128
    rw [hkm] at hum
    obtain ⟨hstates, hevents⟩ := leaveUp_braid_spec (hraise.calm hc) hk128 (by rw [hup]; exact hkp) (by rw [hum]; exact hlen)
      (by rw [hum]; exact fun j hj => (hms j hj).1)
    refine ⟨hevents _ 5 hl (by decide) hskew, fun j hj => ?_, fun j hj hout => ?_⟩
    · rw [hstates j (hms j hj).1, hum, hrx]
      by_cases hj' : j = k ∨ (j ∈ s.members n ∧ s.rx j = .up)
      · rw [if_pos hj']; decide
      · rw [if_neg hj']; exact fun hup => hj' (.inr ⟨hj, hup⟩)
    · rw [hstates j hj, hum, hrx, if_neg]
      rintro (rfl | ⟨h, -⟩)
      · exact hout hmem
      · exact hout h

end

/-- Settles O33: LOS and PROTO_LOST of a single receiver write their own registers and those of its decoder; a skewed braid has no member UP after one has left it. -/
theorem receiverLosses : Obligations.ReceiverLosses := by
  intro s n hn hroute heye st wir Only
  have hc := hroute.calm heye
  exact ⟨fun hrx h1 hp => exec_los_up hc hn hrx h1 hp, fun hrx => exec_los_seek hc hn hrx, fun hrx h1 hp => exec_protoLost hc hn hrx h1 hp,
    fun _ hp => exec_protoLost_raw hp, fun hp hlen hms => exec_braidSkew hc hn hp hlen hms⟩

end Sys2Proof.Machine
end

section
/-! Accesses that pass the gate (R14, R19, R75), and what a transmitter and a bight pair show once they follow their conditions (R100, R127 to R132). -/

namespace Sys2Proof.Machine

open Sys2Proof

/-! The gate of a write and of a read that a command makes -/

theorem gatedWrite_of_mayWrite {m : Master} {a : Nat} {s : State} (hl : (locate a).isSome = true) (h : MayWrite m a s) (g : State → State) :
    gatedWrite m a (fun _ s => g s) s.begin = g s.begin := by
  obtain ⟨l, hl⟩ := Option.isSome_iff_exists.mp hl
  obtain ⟨hgate, hz⟩ := h l hl
  have hz' : zoneStopped l s.begin = false := hz
  unfold gatedWrite
  rw [hl]
  cases m with
  | tenancy t =>
    have hpass : writeGate t l s.begin = .pass := hgate t rfl
    simp [hpass]
  | fid f => simp [hz']
  | dma d => simp [hz']
  | debug => simp [hz']

theorem gatedRead_of_mayRead {m : Master} {a : Nat} {s : State} (hl : (locate a).isSome = true) (h : MayRead m a s) (g : State → State) :
    gatedRead m a (fun _ s => g s) s.begin = g s.begin := by
  obtain ⟨l, hl⟩ := Option.isSome_iff_exists.mp hl
  obtain ⟨hgate, hz⟩ := h l hl
  have hz' : zoneStopped l s.begin = false := hz
  unfold gatedRead
  rw [hl]
  cases m with
  | tenancy t =>
    have hpass : readGate t l s.begin = .pass := hgate t rfl
    simp [hpass]
  | fid f => simp [hz']
  | dma d => simp [hz']
  | debug => simp [hz']

/-! Where the registers that are accessed by name lie (R133, R137) -/

/-- An address below the windows of a family, or past them, lies in none of them. -/
theorem inRegion_none {a : Nat} {r : Region}
    (h : a < r.base ∨ (r.s1 = 0 ∧ r.s2 = 0 ∧ r.base + r.size ≤ a) ∨ (0 < r.s1 ∧ r.base + r.n1 * r.s1 ≤ a)) : inRegion a r = none := by
  unfold inRegion
  split
  · rfl
  · next hbase =>
    dsimp only
    rw [if_neg]
    rintro ⟨hi, -, hoff⟩
    rcases h with h | ⟨hs1, hs2, hpast⟩ | ⟨h, hpast⟩
    · exact hbase h
    · simp [hs1, hs2] at hoff
      omega
    · rw [if_neg (by omega)] at hi
      have hlt := (Nat.div_lt_iff_lt_mul h).mp hi
      omega

theorem findRegion_str {n off : Nat} (hn : n < 128) (hoff : off < 0x800) :
    findRegion (0x80000 + 0x800 * n + off) regions = some (.str, n, 0, off) := by
  have hin : inRegion (0x80000 + 0x800 * n + off) ⟨.str, 0x80000, 0x800, 128, 0x0, 1, 0x800⟩ = some (n, 0, off) := by
    have hbase : ¬ 0x80000 + 0x800 * n + off < 0x80000 := by omega
    have hwindow : (0x80000 + 0x800 * n + off - 0x80000) / 0x800 = n := by omega
    have hrest : 0x80000 + 0x800 * n + off - 0x80000 - n * 0x800 = off := by omega
    simp [inRegion, hbase, hwindow, hrest, hn, hoff]
  simp only [findRegion, regions, List.cons_append, List.nil_append]
  rw [hin]
  repeat rw [inRegion_none (by dsimp only; omega)]

theorem locate_str {n off : Nat} (hn : n < 128) (hoff : off < 0x800) (hrow : (findRow off rows_str).isSome = true) :
    (locate (0x80000 + 0x800 * n + off)).isSome = true := by
  obtain ⟨⟨row, k⟩, hrow⟩ := Option.isSome_iff_exists.mp hrow
  have hrow' : findRow off (rowsOf .str) = some (row, k) := hrow
  simp [locate, findRegion_str hn hoff, hrow']

theorem locate_bightCtrl : ∀ k, k < 8 → (locate (Reg.strBightCtrl k)).isSome = true := by decide

theorem locate_dpSbCtrl : ∀ dp, dp < 16 → (locate (Reg.strDpSbCtrl dp)).isSome = true := by decide

/-! Bight pairs -/

/-- A bight pair whose FORCE reads the conditions that hold (R138). -/
def bightForced (k : Nat) (s : State) : State := s.setF (Reg.strBightStatus k) 13 8 (bightForce k s)

/-- FORCE follows the conditions; then the pair keeps its state, or a CLOSED pair starts to open, or an OPEN one to close. -/
theorem bightRefresh_cases (k : Nat) (s : State) :
    (∃ v, bightRefresh k s = (bightForced k s).setBit (Reg.strBightStatus k) 17 v) ∨
    (s.f (Reg.strBightStatus k) 1 0 = 0 ∧
      bightRefresh k s = ((bightForced k s).setF (Reg.strBightStatus k) 1 0 1).setBit (Reg.strBightStatus k) 17 false) ∨
    (s.f (Reg.strBightStatus k) 1 0 = 2 ∧
      bightRefresh k s = ((bightForced k s).setF (Reg.strBightStatus k) 1 0 3).setBit (Reg.strBightStatus k) 17 false) := by
  have hstate : (bightForced k s).f (Reg.strBightStatus k) 1 0 = s.f (Reg.strBightStatus k) 1 0 :=
    State.f_setF_other _ _ _ _ (by decide) (by decide) (by decide)
  rw [← hstate]
  unfold bightRefresh
  rw [show s.setF (Reg.strBightStatus k) 13 8 (bightForce k s) = bightForced k s from rfl]
  generalize bightForced k s = u
  dsimp only
  split
  · next h0 =>
    split
    · exact .inl ⟨_, rfl⟩
    · exact .inr (.inl ⟨h0.1, rfl⟩)
  · split
    · next h2 =>
      split
      · exact .inl ⟨_, rfl⟩
      · exact .inr (.inr ⟨h2.1, rfl⟩)
    · exact .inl ⟨_, rfl⟩

theorem bightRefresh_writes (k : Nat) (s : State) : Writes (· = Reg.strBightStatus k) s (bightRefresh k s) := by
  have hset : ∀ (v : Word) (u : State), Writes (· = Reg.strBightStatus k) u (u.setReg (Reg.strBightStatus k) v) :=
    fun v u => Writes.setReg (p := (· = Reg.strBightStatus k)) rfl v u
  have hforced : Writes (· = Reg.strBightStatus k) s (bightForced k s) := hset _ s
  rcases bightRefresh_cases k s with ⟨v, h⟩ | ⟨-, h⟩ | ⟨-, h⟩ <;> rw [h]
  · exact hforced.trans (hset _ _)
  · exact (hforced.trans (hset _ _)).trans (hset _ _)
  · exact (hforced.trans (hset _ _)).trans (hset _ _)

theorem bightForce_lt (k : Nat) (s : State) : bightForce k s < 64 := by
  have hb : ∀ b, b2n b ≤ 1 := by decide
  unfold bightForce
  dsimp only
  have h := fun b => hb b
  linarith [h (!(tabGetD false (bightA k) s.strand.released && tabGetD false (bightB k) s.strand.released)), h (decide (2 ≤ s.zone (2 * k))),
    h (decide (s.mode = .lockdown) && s.bit (Reg.strBightStatus k) 16), h (decide (s.mode = .doze ∨ s.mode = .deepSleep) || s.bit Reg.sysMode 8),
    h (!decide (s.mode = .lockdown) && !(decide (s.tx (bightA k) = 2) && decide (s.tx (bightB k) = 2))), h (decide (s.mode = .reset ∨ s.mode = .off))]

theorem bightRefresh_force (k : Nat) (s : State) : (bightRefresh k s).f (Reg.strBightStatus k) 13 8 = bightForce k s := by
  have hforced : (bightForced k s).f (Reg.strBightStatus k) 13 8 = bightForce k s :=
    (State.f_setF _ _ _ (by decide) (by decide)).trans (Nat.mod_eq_of_lt (bightForce_lt k s))
  have hpending : ∀ (u : State) v, (u.setBit (Reg.strBightStatus k) 17 v).f (Reg.strBightStatus k) 13 8 = u.f (Reg.strBightStatus k) 13 8 :=
    fun u v => State.f_setF_other u _ _ _ (by decide) (by decide) (by decide)
  have hstate : ∀ (u : State) v, (u.setF (Reg.strBightStatus k) 1 0 v).f (Reg.strBightStatus k) 13 8 = u.f (Reg.strBightStatus k) 13 8 :=
    fun u v => State.f_setF_other u _ _ _ (by decide) (by decide) (by decide)
  rcases bightRefresh_cases k s with ⟨v, h⟩ | ⟨-, h⟩ | ⟨-, h⟩ <;> rw [h, hpending]
  · exact hforced
  · rw [hstate, hforced]
  · rw [hstate, hforced]

/-- An OPEN pair stays OPEN, or closes. -/
theorem bightRefresh_open {k : Nat} {s : State} (h : s.f (Reg.strBightStatus k) 1 0 = 2) :
    (bightRefresh k s).f (Reg.strBightStatus k) 1 0 = 2 ∨ (bightRefresh k s).f (Reg.strBightStatus k) 1 0 = 3 := by
  have hpending : ∀ (u : State) v, (u.setBit (Reg.strBightStatus k) 17 v).f (Reg.strBightStatus k) 1 0 = u.f (Reg.strBightStatus k) 1 0 :=
    fun u v => State.f_setF_other u _ _ _ (by decide) (by decide) (by decide)
  have hforced : (bightForced k s).f (Reg.strBightStatus k) 1 0 = 2 := (State.f_setF_other _ _ _ _ (by decide) (by decide) (by decide)).trans h
  rcases bightRefresh_cases k s with ⟨v, hr⟩ | ⟨h0, -⟩ | ⟨-, hr⟩
  · exact .inl (by rw [hr, hpending, hforced])
  · exact absurd (h.symm.trans h0) (by decide)
  · exact .inr (by rw [hr, hpending]; exact State.f_setF _ _ _ (by decide) (by decide))

/-! Transmitters -/

/-- A transmitter shown in a state, driven by the strand matrix or not (R135). -/
def txShown (n : Nat) (w : Tx × Bool) (s : State) : State := (s.setF (Reg.strState n) 5 4 (txCode w.1)).setBit (Reg.strState n) 6 w.2

theorem txShown_tx (n : Nat) (w : Tx × Bool) (s : State) : (txShown n w s).tx n = txCode w.1 := by
  have hcode : txCode w.1 % 4 = txCode w.1 := by cases w.1 <;> rfl
  unfold State.tx txShown
  exact (State.f_setF_other _ _ _ _ (by decide) (by decide) (by decide)).trans ((State.f_setF _ _ _ (by decide) (by decide)).trans hcode)

theorem txShown_txMatrix (n : Nat) (w : Tx × Bool) (s : State) : (txShown n w s).txMatrix n = w.2 := State.bit_setBit_same _ _ _ (by decide)

theorem txShown_rx (n : Nat) (w : Tx × Bool) (s : State) : (txShown n w s).rx n = s.rx n :=
  congrArg rxOf ((State.f_setF_other _ _ _ _ (by decide) (by decide) (by decide)).trans (State.f_setF_other _ _ _ _ (by decide) (by decide) (by decide)))

theorem txRefresh_eq (n : Nat) (s : State) :
    txRefresh n s = if n % 16 ≤ 1 then bightRefresh (n / 16) (txShown n (txWanted n s) s) else txShown n (txWanted n s) s := rfl

/-- A transmitter that follows its conditions writes its own state and that of its bight pair. -/
theorem txRefresh_writes (n : Nat) (s : State) : Writes (fun a => a = Reg.strState n ∨ a = Reg.strBightStatus (n / 16)) s (txRefresh n s) := by
  have hshown : Writes (fun a => a = Reg.strState n ∨ a = Reg.strBightStatus (n / 16)) s (txShown n (txWanted n s) s) :=
    (Writes.setReg (a := Reg.strState n) (.inl rfl) _ s).trans (Writes.setReg (a := Reg.strState n) (.inl rfl) _ _)
  rw [txRefresh_eq]
  exact (hshown.trans ((bightRefresh_writes _ _).mono (fun _ h => .inr h))).ite hshown

theorem txRefresh_strState (n : Nat) (s : State) :
    (txRefresh n s).reg (Reg.strState n) = (txShown n (txWanted n s) s).reg (Reg.strState n) := by
  rw [txRefresh_eq]
  split
  · exact (bightRefresh_writes _ _).2 _ (by simp only [Reg.strState, Reg.strBightStatus]; omega)
  · rfl

theorem txRefreshAll_writes {p : Nat → Prop} {ns : List Nat} (h : ∀ n ∈ ns, p (Reg.strState n) ∧ p (Reg.strBightStatus (n / 16))) (s : State) :
    Writes p s (txRefreshAll ns s) := by
  induction ns generalizing s with
  | nil => exact Writes.refl p s
  | cons n ns ih =>
    obtain ⟨hstate, hbight⟩ := h n List.mem_cons_self
    refine ((txRefresh_writes n s).mono ?_).trans (ih (fun m hm => h m (List.mem_cons_of_mem _ hm)) _)
    rintro a (rfl | rfl)
    · exact hstate
    · exact hbight

end Sys2Proof.Machine
end

section
/-! Transmitters, bight pairs, PRBS counts and eye points: one lemma per command (R94, R100, R115, R116, R118, R119, R127 to R132). -/

namespace Sys2Proof.Machine

open Sys2Proof

/-! TX_PLL_LOCKED -/

/-- The transmit PLL of a strand is locked. -/
def pllLocked (n : Nat) (s : State) : State := { s with strand := { s.strand with pllLocked := tabPut false n true s.strand.pllLocked } }

theorem earlyCheck_noHitch {s : State} (h : s.strand.earlyHitches = []) : earlyCheck s = s := by simp [earlyCheck, h]

theorem doTxPllLocked_used {s : State} {n : Nat} (hrate : s.rate n ≠ 0) (hearly : s.strand.earlyHitches = []) :
    doTxPllLocked n s = txRefresh n (pllLocked n s) := by
  have hearly' : (txRefresh n (pllLocked n s)).strand.earlyHitches = [] := by rw [(txRefresh_writes n _).1]; exact hearly
  unfold doTxPllLocked
  rw [if_neg (fun h => hrate h.1)]
  exact earlyCheck_noHitch hearly'

theorem exec_txPllLocked {s : State} {n : Nat} (hrate : s.rate n ≠ 0) (hearly : s.strand.earlyHitches = []) :
    ∃ t, exec (.txPllLocked n) s = .next t ∧ tabGetD false n t.strand.pllLocked = true ∧
      (t.tx n = txCode (txWanted n (pllLocked n s)).1 ∧ t.txMatrix n = (txWanted n (pllLocked n s)).2) ∧ t.rx n = s.rx n ∧
      ∀ a, a ≠ Reg.strState n → a ≠ Reg.strBightStatus (n / 16) → t.reg a = s.reg a := by
  have hwanted : txWanted n (pllLocked n s.begin) = txWanted n (pllLocked n s) := rfl
  have hstate := txRefresh_strState n (pllLocked n s.begin)
  rw [hwanted] at hstate
  obtain ⟨hparts, hregs⟩ := txRefresh_writes n (pllLocked n s.begin)
  refine ⟨_, congrArg Host.Outcome.next (doTxPllLocked_used (s := s.begin) hrate hearly), ?_, ⟨?_, ?_⟩, ?_, fun a ha hb => hregs a (by simp [ha, hb])⟩
  · rw [hparts]
    exact (tabGetD_tabPut false n n true _).trans (if_pos rfl)
  · exact (State.f_of_reg hstate 5 4).trans (txShown_tx _ _ _)
  · exact (State.bit_of_reg hstate 6).trans (txShown_txMatrix _ _ _)
  · exact (State.rx_of_reg hstate).trans (txShown_rx _ _ _)

/-! BIGHT_CHANGE and OPEN_REQ -/

/-- An OPENING pair has opened: it is OPEN, and the change is counted and raised. -/
def bightOpened (k : Nat) (s : State) : State :=
  raiseStrand (bightA k) 7 ((s.setF (Reg.strBightStatus k) 1 0 2).bump (Reg.strBightCnt k) 1)

theorem doBightChange_opening {s : State} {k : Nat} (h : s.f (Reg.strBightStatus k) 1 0 = 1) : doBightChange k s = bightRefresh k (bightOpened k s) := by
  unfold doBightChange
  dsimp only
  rw [if_pos (.inl h), if_pos h]
  rfl

theorem exec_bightChange {s : State} {k : Nat} (h : s.f (Reg.strBightStatus k) 1 0 = 1) :
    ∃ t, exec (.bightChange k) s = .next t ∧ (t.f (Reg.strBightStatus k) 1 0 = 2 ∨ t.f (Reg.strBightStatus k) 1 0 = 3) ∧
      t.reg (Reg.strBightCnt k) = wd (min 0xFFFFFFFF ((s.reg (Reg.strBightCnt k)).toNat + 1)) ∧ t.bit (Reg.strEvent (16 * k)) 7 = true ∧
      Reports [Reg.strBightStatus k, Reg.strBightCnt k, Reg.strEvent (16 * k)] s t := by
  have hstatus : inTen (Reg.strBightStatus k) = false := inTen_above (by simp only [Reg.strBightStatus]; omega)
  have hcnt : inTen (Reg.strBightCnt k) = false := inTen_above (by simp only [Reg.strBightCnt]; omega)
  have hraise := raiseStrand_reports (bightA k) 7 ((s.begin.setF (Reg.strBightStatus k) 1 0 2).bump (Reg.strBightCnt k) 1)
  obtain ⟨hparts, hregs⟩ := bightRefresh_writes k (bightOpened k s.begin)
  have hopen : (bightOpened k s.begin).f (Reg.strBightStatus k) 1 0 = 2 := by
    have hset : ((s.begin.setF (Reg.strBightStatus k) 1 0 2).bump (Reg.strBightCnt k) 1).f (Reg.strBightStatus k) 1 0 = 2 :=
      (State.f_of_reg (State.reg_setReg_ne _ (by simp only [Reg.strBightStatus, Reg.strBightCnt]; omega) _) 1 0).trans
        (State.f_setF _ _ _ (by decide) (by decide))
    exact (State.f_of_reg (hraise.2 _ hstatus (by simp only [Reg.strBightStatus, Reg.strEvent, bightA, List.mem_singleton]; omega)) 1 0).trans hset
  refine ⟨_, congrArg Host.Outcome.next (doBightChange_opening (s := s.begin) h), bightRefresh_open hopen, ?_, ?_, ?_⟩
  · refine (hregs _ (by simp only [Reg.strBightStatus, Reg.strBightCnt]; omega)).trans
      ((hraise.2 _ hcnt (by simp only [Reg.strBightCnt, Reg.strEvent, bightA, List.mem_singleton]; omega)).trans ?_)
    rw [State.reg_bump, if_pos rfl, State.reg_setF, if_neg (by simp only [Reg.strBightStatus, Reg.strBightCnt]; omega)]
    rfl
  · exact (State.bit_of_reg (hregs _ (by simp only [Reg.strBightStatus, Reg.strEvent]; omega)) 7).trans (raiseStrand_bit_same (bightA k) (by decide) _)
  · have hrefresh : Reports [Reg.strBightStatus k] (bightOpened k s.begin) (bightRefresh k (bightOpened k s.begin)) :=
      ⟨by rw [hparts], fun a _ ha => hregs a (by simpa using ha)⟩
    exact ((((Reports.begin s).trans (Reports.setF (Reg.strBightStatus k) 1 0 2 _)).trans (Reports.bump (Reg.strBightCnt k) 1 _)).trans
      (hraise.trans hrefresh)).mono (fun a ha => by simp [bightA] at ha ⊢; omega)

/-- A pair that is CLOSED or OPEN changes by no transition's end. -/
theorem exec_bightChange_still {s : State} {k : Nat} (h : s.f (Reg.strBightStatus k) 1 0 = 0 ∨ s.f (Reg.strBightStatus k) 1 0 = 2) :
    exec (.bightChange k) s = .next { s with out := [] } := by
  have hstill : ¬ (s.begin.f (Reg.strBightStatus k) 1 0 = 1 ∨ s.begin.f (Reg.strBightStatus k) 1 0 = 3) := by
    show ¬ (s.f (Reg.strBightStatus k) 1 0 = 1 ∨ s.f (Reg.strBightStatus k) 1 0 = 3)
    omega
  exact congrArg Host.Outcome.next (if_neg hstill)

/-- The conditions that force a pair are read from the mode, its zone, its transmitters and its own status. -/
theorem bightForce_setReg (k : Nat) (v : Word) (s : State) : bightForce k (s.setReg (Reg.strBightCtrl k) v) = bightForce k s := by
  have hne : ∀ {a : Nat}, a ≠ Reg.strBightCtrl k → (s.setReg (Reg.strBightCtrl k) v).reg a = s.reg a := fun h => State.reg_setReg_ne s h v
  have hsys : Reg.sysMode ≠ Reg.strBightCtrl k ∧ Reg.sysZoneState ≠ Reg.strBightCtrl k := by simp only [Reg.sysMode, Reg.sysZoneState, Reg.strBightCtrl]; omega
  have hmode : (s.setReg (Reg.strBightCtrl k) v).mode = s.mode := congrArg modeOf (State.f_of_reg (hne hsys.1) 2 0)
  have hzone : ∀ z, (s.setReg (Reg.strBightCtrl k) v).zone z = s.zone z := fun z => State.f_of_reg (hne hsys.2) _ _
  have htx : ∀ n, (s.setReg (Reg.strBightCtrl k) v).tx n = s.tx n := fun n => State.f_of_reg (hne (by simp only [Reg.strState, Reg.strBightCtrl]; omega)) 5 4
  have hstatus := State.bit_of_reg (hne (a := Reg.strBightStatus k) (by simp only [Reg.strBightStatus, Reg.strBightCtrl]; omega)) 16
  simp only [bightForce, hmode, hzone, htx, hstatus, State.bit_of_reg (hne hsys.1), State.setReg_strand]

theorem exec_openReq {s : State} {m : Master} {k : Nat} (hk : k < 8) (hmay : MayWrite m (Reg.strBightCtrl k) s) (v : Word) :
    ∃ t, exec (.openReq m k v) s = .next t ∧ t.bit (Reg.strBightCtrl k) 0 = bitOf v 0 ∧ t.f (Reg.strBightStatus k) 13 8 = bightForce k s ∧
      t = { s with out := [], regs := t.regs } ∧ ∀ a, a ≠ Reg.strBightCtrl k → a ≠ Reg.strBightStatus k → t.reg a = s.reg a := by
  have hset : Writes (fun a => a = Reg.strBightCtrl k ∨ a = Reg.strBightStatus k) s.begin (s.begin.setBit (Reg.strBightCtrl k) 0 (bitOf v 0)) :=
    Writes.setReg (a := Reg.strBightCtrl k) (.inl rfl) _ _
  have hopened : (s.begin.setBit (Reg.strBightCtrl k) 0 (bitOf v 0)).bit (Reg.strBightCtrl k) 0 = bitOf v 0 := State.bit_setBit_same _ _ _ (by decide)
  have hforce : bightForce k (s.begin.setBit (Reg.strBightCtrl k) 0 (bitOf v 0)) = bightForce k s := bightForce_setReg k _ s.begin
  have hexec : exec (.openReq m k v) s = .next (bightRefresh k (s.begin.setBit (Reg.strBightCtrl k) 0 (bitOf v 0))) :=
    congrArg Host.Outcome.next (gatedWrite_of_mayWrite (locate_bightCtrl k hk) hmay (bightCtrlWrite k v))
  generalize s.begin.setBit (Reg.strBightCtrl k) 0 (bitOf v 0) = u at hset hopened hforce hexec
  obtain ⟨hparts, hregs⟩ := hset.trans ((bightRefresh_writes k u).mono (fun _ h => .inr h))
  refine ⟨bightRefresh k u, hexec, ?_, (bightRefresh_force k u).trans hforce, hparts, fun a ha hb => hregs a (by simp [ha, hb])⟩
  exact (State.bit_of_reg ((bightRefresh_writes k u).2 _ (by simp only [Reg.strBightStatus, Reg.strBightCtrl]; omega)) 0).trans hopened

/-! STR_PRBS_ERR_READ and INJECT -/

/-- Once read, the checker has counted nothing that was not read. -/
theorem counted_readCount (n now : Nat) (b : Bool) (t : Tab Nat) : counted n now (readCount n now b t) = false := by
  cases b
  · simp [counted, readCount, tabGet_tabDel]
  · simp [counted, readCount, tabGet_tabSet]

theorem exec_strPrbsErrRead {s : State} {m : Master} {n : Nat} (hn : n < 128) (hmay : MayRead m (Reg.strPrbsErr n) s) (errors bits : Nat) :
    ∃ t, exec (.strPrbsErrRead m n errors bits) s = .next t ∧
      t.out = [.read (wd (if counted n s.now s.strand.prbsSince = true then min 0xFFFFFFFF errors else 0))] ∧
      t.reg (Reg.strPrbsBitsLo n) = wd (if counted n s.now s.strand.prbsSince = true then bits % 0x100000000 else 0) ∧
      t.reg (Reg.strPrbsBitsHi n) = wd (if counted n s.now s.strand.prbsSince = true then bits / 0x100000000 else 0) ∧
      t = { s with out := t.out, regs := t.regs, strand := { s.strand with prbsSince := t.strand.prbsSince } } ∧
      counted n t.now t.strand.prbsSince = false ∧ ∀ a, a ≠ Reg.strPrbsBitsLo n → a ≠ Reg.strPrbsBitsHi n → t.reg a = s.reg a := by
  refine ⟨prbsErrBody n errors bits s.begin, congrArg Host.Outcome.next
    (gatedRead_of_mayRead (locate_str hn (by decide) (by decide)) hmay (prbsErrBody n errors bits)), ?_, ?_, ?_, rfl, counted_readCount _ _ _ _, fun a hlo hhi => ?_⟩
  · show [Output.read (wd (min 0xFFFFFFFF (if counted n s.now s.strand.prbsSince = true then errors else 0)))] = _
    split <;> rfl
  · refine (State.reg_setReg_ne _ (by simp only [Reg.strPrbsBitsLo, Reg.strPrbsBitsHi]; omega) _).trans ((State.reg_setReg _ _ _ _).trans ?_)
    rw [if_pos rfl]
    show wd ((if counted n s.now s.strand.prbsSince = true then bits else 0) % 0x100000000) = _
    split <;> rfl
  · refine (State.reg_setReg _ _ _ _).trans ?_
    rw [if_pos rfl]
    show wd ((if counted n s.now s.strand.prbsSince = true then bits else 0) / 0x100000000) = _
    split <;> rfl
  · exact (State.reg_setReg_ne _ hhi _).trans (State.reg_setReg_ne _ hlo _)

/-- STR_PRBS_CTRL with a pattern, GEN and CHECK. -/
def prbsSet (n p : Nat) (gen chk : Bool) (s : State) : State :=
  ((s.setF (Reg.strPrbsCtrl n) 3 0 p).setBit (Reg.strPrbsCtrl n) 4 gen).setBit (Reg.strPrbsCtrl n) 5 chk

theorem startPrbs_regs (n : Nat) (s : State) : (startPrbs n s).regs = s.regs := by
  unfold startPrbs
  split <;> rfl

/-- A write of STR_PRBS_CTRL leaves the register so, and lets the transmitter follow. -/
theorem prbsCtrlWrite_reg (n : Nat) (v : Word) (s : State) {a : Nat} (ha : a ≠ Reg.strState n) (hb : a ≠ Reg.strBightStatus (n / 16)) :
    (prbsCtrlWrite n v s).reg a = (prbsSet n (fld v 3 0) (if bitOf v 4 && !s.prbsGenMay n then s.bit (Reg.strPrbsCtrl n) 4 else bitOf v 4)
      (if bitOf v 5 && !s.prbsCheckMay n then s.bit (Reg.strPrbsCtrl n) 5 else bitOf v 5) s).reg a :=
  ((txRefresh_writes n _).2 a (by simp [ha, hb])).trans (reg_of_regs (startPrbs_regs n _) a)

theorem prbsSet_pattern (n : Nat) {p : Nat} (hp : p < 16) (gen chk : Bool) (s : State) : (prbsSet n p gen chk s).f (Reg.strPrbsCtrl n) 3 0 = p :=
  (State.f_setF_other _ _ _ _ (by decide) (by decide) (by decide)).trans ((State.f_setF_other _ _ _ _ (by decide) (by decide) (by decide)).trans
    ((State.f_setF _ _ _ (by decide) (by decide)).trans (Nat.mod_eq_of_lt hp)))

theorem prbsSet_gen (n p : Nat) (gen chk : Bool) (s : State) : (prbsSet n p gen chk s).bit (Reg.strPrbsCtrl n) 4 = gen :=
  (State.bit_setBit_other _ _ _ _ (by decide) (by decide)).trans (State.bit_setBit_same _ _ _ (by decide))

theorem prbsSet_check (n p : Nat) (gen chk : Bool) (s : State) : (prbsSet n p gen chk s).bit (Reg.strPrbsCtrl n) 5 = chk :=
  State.bit_setBit_same _ _ _ (by decide)

theorem exec_inject {s : State} {m : Master} {n : Nat} (hn : n < 128) (hmay : MayWrite m (Reg.strPrbsCtrl n) s) (v : Word) :
    ∃ t, exec (.inject m n v) s = .next t ∧ t.f (Reg.strPrbsCtrl n) 3 0 = fld v 3 0 ∧
      (s.prbsGenMay n = true → t.bit (Reg.strPrbsCtrl n) 4 = bitOf v 4) ∧ (s.prbsCheckMay n = true → t.bit (Reg.strPrbsCtrl n) 5 = bitOf v 5) ∧
      (bitOf v 4 = true → s.prbsGenMay n = false → t.bit (Reg.strPrbsCtrl n) 4 = s.bit (Reg.strPrbsCtrl n) 4) ∧
      ∀ a, a ≠ Reg.strPrbsCtrl n → a ≠ Reg.strState n → a ≠ Reg.strBightStatus (n / 16) → t.reg a = s.reg a := by
  have hgen : s.begin.prbsGenMay n = s.prbsGenMay n := rfl
  have hchk : s.begin.prbsCheckMay n = s.prbsCheckMay n := rfl
  have hctrl := prbsCtrlWrite_reg n v s.begin (a := Reg.strPrbsCtrl n) (by simp only [Reg.strPrbsCtrl, Reg.strState]; omega)
    (by simp only [Reg.strPrbsCtrl, Reg.strBightStatus]; omega)
  rw [hgen, hchk] at hctrl
  refine ⟨prbsCtrlWrite n v s.begin, congrArg Host.Outcome.next
    (gatedWrite_of_mayWrite (locate_str hn (by decide) (by decide)) hmay (prbsCtrlWrite n v)), ?_, fun h => ?_, fun h => ?_, fun hv h => ?_, fun a ha hs hb => ?_⟩
  · exact (State.f_of_reg hctrl 3 0).trans (prbsSet_pattern n (Nat.mod_lt _ (by decide)) _ _ _)
  · exact (State.bit_of_reg hctrl 4).trans ((prbsSet_gen _ _ _ _ _).trans (by simp [h]))
  · exact (State.bit_of_reg hctrl 5).trans ((prbsSet_check _ _ _ _ _).trans (by simp [h]))
  · exact (State.bit_of_reg hctrl 4).trans ((prbsSet_gen _ _ _ _ _).trans (if_pos (by simp [hv, h])))
  · exact (prbsCtrlWrite_reg n v s.begin hs hb).trans
      ((State.reg_setReg_ne _ ha _).trans ((State.reg_setReg_ne _ ha _).trans (State.reg_setReg_ne _ ha _)))

/-! START and EYE_DONE -/

theorem reg_setStrand (x : StrandState) (s : State) (a : Nat) : (setStrand x s).reg a = s.reg a := rfl

/-- A point of the eye monitor has started: its result is cleared. -/
def eyeStarted (n : Nat) (s : State) : State :=
  setStrand { s.strand with eyeBusy := tabPut false n true s.strand.eyeBusy } (s.setReg (Reg.strEyeResult n) 0)

theorem eyeStarted_reg (n : Nat) (s : State) (a : Nat) : (eyeStarted n s).reg a = if a = Reg.strEyeResult n then 0 else s.reg a := by
  rw [eyeStarted, reg_setStrand, State.reg_setReg]

theorem eyeStarted_busy (n : Nat) (s : State) : tabGetD false n (eyeStarted n s).strand.eyeBusy = true :=
  (tabGetD_tabPut false n n true _).trans (if_pos rfl)

theorem eyeStarted_draws (n : Nat) (s : State) : (eyeStarted n s).draws = s.draws := by
  rw [eyeStarted, setStrand_draws, State.setReg_draws]

theorem eyeCtrlWrite_start {s : State} {n : Nat} {v : Word} (hv : bitOf v 31 = true) (hrx : s.rx n = .up) :
    eyeCtrlWrite n v s = eyeStarted n (s.setReg (Reg.strEyeCtrl n) (v &&& 0x00F37F3F)) := by
  have hup : (s.setReg (Reg.strEyeCtrl n) (v &&& 0x00F37F3F)).rx n = .up :=
    (State.rx_of_reg (State.reg_setReg_ne _ (by simp only [Reg.strState, Reg.strEyeCtrl]; omega) _)).trans hrx
  unfold eyeCtrlWrite
  dsimp only
  rw [hup, hv]
  rfl

theorem exec_start {s : State} {m : Master} {n : Nat} (hn : n < 128) {v : Word} (hv : bitOf v 31 = true) (hrx : s.rx n = .up)
    (hmay : MayWrite m (Reg.strEyeCtrl n) s) :
    ∃ t, exec (.start m n v) s = .next t ∧ t.reg (Reg.strEyeCtrl n) = v &&& 0x00F37F3F ∧ t.reg (Reg.strEyeResult n) = 0 ∧
      tabGetD false n t.strand.eyeBusy = true ∧ t.draws = s.draws ∧ ∀ a, a ≠ Reg.strEyeCtrl n → a ≠ Reg.strEyeResult n → t.reg a = s.reg a := by
  have hgate := gatedWrite_of_mayWrite (locate_str hn (by decide) (by decide)) hmay (eyeCtrlWrite n v)
  have hne : Reg.strEyeCtrl n ≠ Reg.strEyeResult n := by simp only [Reg.strEyeCtrl, Reg.strEyeResult]; omega
  refine ⟨_, congrArg Host.Outcome.next (hgate.trans (eyeCtrlWrite_start (s := s.begin) hv hrx)), ?_, ?_, eyeStarted_busy n _, eyeStarted_draws n _, fun a hc hr => ?_⟩
  · rw [eyeStarted_reg, if_neg hne, State.reg_setReg, if_pos rfl]
  · rw [eyeStarted_reg, if_pos rfl]
  · rw [eyeStarted_reg, if_neg hr, State.reg_setReg_ne _ hc]
    rfl

/-- The eye point of a receiver has ended with its errors. -/
def eyeEnded (n errors : Nat) (s : State) : State :=
  (setStrand { s.strand with eyeBusy := tabPut false n false s.strand.eyeBusy } s).setReg (Reg.strEyeResult n) (wd (0x80000000 + min 0x3FFFFFFF errors))

theorem exec_eyeDone {s : State} {n : Nat} (hbusy : tabGetD false n s.strand.eyeBusy = true) (errors : Nat) :
    ∃ t, exec (.eyeDone n errors) s = .next t ∧ t.reg (Reg.strEyeResult n) = wd (0x80000000 + min 0x3FFFFFFF errors) ∧ t.bit (Reg.strEvent n) 6 = true ∧
      tabGetD false n t.strand.eyeBusy = false ∧ Reports [Reg.strEyeResult n, Reg.strEvent n] { s with strand := t.strand } t := by
  have hraise := raiseStrand_reports n 6 (eyeEnded n errors s.begin)
  have hstrand : (raiseStrand n 6 (eyeEnded n errors s.begin)).strand = (eyeEnded n errors s.begin).strand := hraise.parts.2.1
  refine ⟨raiseStrand n 6 (eyeEnded n errors s.begin), congrArg Host.Outcome.next (if_pos hbusy), ?_, raiseStrand_bit_same n (by decide) _, ?_, ?_⟩
  · refine (hraise.2 _ (inTen_above (by simp only [Reg.strEyeResult]; omega)) (by simp only [Reg.strEyeResult, Reg.strEvent, List.mem_singleton]; omega)).trans ?_
    exact (State.reg_setReg _ _ _ _).trans (if_pos rfl)
  · rw [hstrand]
    exact (tabGetD_tabPut false n n false _).trans (if_pos rfl)
  · have hended : Reports [Reg.strEyeResult n] { s with strand := (eyeEnded n errors s.begin).strand } (eyeEnded n errors s.begin) :=
      (Reports.begin { s with strand := (eyeEnded n errors s.begin).strand }).trans (Reports.setReg _ _ _)
    rw [hstrand]
    exact hended.trans hraise

/-- Settles O34: each command writes the registers that its lemma names; accesses pass their gates, and a transmitter and a bight pair follow their conditions. -/
theorem transmittersBightsMeasurements : Obligations.TransmittersBightsMeasurements := by
  refine ⟨fun s => ⟨fun n _ hrate hearly => exec_txPllLocked hrate hearly, fun k _ h => exec_bightChange h, fun k _ h => exec_bightChange_still h,
    fun m k v hk hmay => exec_openReq hk hmay v⟩, fun s n hn => ⟨fun m errors bits _ hmay => exec_strPrbsErrRead hn hmay errors bits,
    fun m v hv hrx hmay => exec_start hn hv hrx hmay, fun errors hbusy => exec_eyeDone hbusy errors, fun m v hmay => exec_inject hn hmay v⟩⟩

end Sys2Proof.Machine
end

section
/-! The sideband of a display port: its control register, EDID and hot plug (R121 to R123, R137, R139). -/

namespace Sys2Proof.Machine

open Sys2Proof

/-! What the sideband touches -/

/-- Beside the registers listed, a step of a port's sideband changes only its outputs, the EDID reads in progress and the trainings. -/
def OnlySideband (l : List Nat) (s t : State) : Prop :=
  t = { s with out := t.out, regs := t.regs, strand := { s.strand with edidWait := t.strand.edidWait, training := t.strand.training } } ∧
  ∀ a, a ∉ l → t.reg a = s.reg a

section
variable {l : List Nat} {s t u : State}

theorem OnlySideband.begin (l : List Nat) (s : State) : OnlySideband l s s.begin := ⟨rfl, fun _ _ => rfl⟩

theorem OnlySideband.trans (h : OnlySideband l s t) (g : OnlySideband l t u) : OnlySideband l s u := by
  obtain ⟨hparts, hreg⟩ := h
  obtain ⟨gparts, greg⟩ := g
  exact ⟨by rw [gparts, hparts], fun a ha => (greg a ha).trans (hreg a ha)⟩

theorem OnlySideband.setReg {a : Nat} (ha : a ∈ l) (v : Word) (s : State) : OnlySideband l s (s.setReg a v) :=
  ⟨rfl, fun b hb => State.reg_setReg_ne s (by rintro rfl; exact hb ha) v⟩

theorem OnlySideband.emit (l : List Nat) (o : Output) (s : State) : OnlySideband l s (s.emit o) := ⟨rfl, fun _ _ => rfl⟩

theorem OnlySideband.setStrand (l : List Nat) (w : Tab Nat) (r : Tab Bool) (s : State) :
    OnlySideband l s (Machine.setStrand { s.strand with edidWait := w, training := r } s) := ⟨rfl, fun _ _ => rfl⟩

end

/-! Events and EDID reads -/

theorem raiseDp_bit_same (dp : Nat) {b : Nat} (hb : b < 32) (s : State) : (raiseDp dp b s).bit (Reg.strDpSbEvent dp) b = true :=
  State.bit_setBit_same _ _ _ hb

theorem raiseDp_reg (dp b : Nat) (s : State) {a : Nat} (h : a ≠ Reg.strDpSbEvent dp) : (raiseDp dp b s).reg a = s.reg a := State.reg_setReg_ne s h _

theorem raiseDp_sideband {l : List Nat} {dp : Nat} (h : Reg.strDpSbEvent dp ∈ l) (b : Nat) (s : State) : OnlySideband l s (raiseDp dp b s) :=
  OnlySideband.setReg h _ s

theorem raiseDp_out (dp b : Nat) (s : State) : (raiseDp dp b s).out = s.out := State.setBit_out _ _ _ _

theorem raiseDp_strand (dp b : Nat) (s : State) : (raiseDp dp b s).strand = s.strand := State.setBit_strand _ _ _ _

theorem edidStart_regs (dp why : Nat) (s : State) : (edidStart dp why s).regs = s.regs := rfl

theorem edidStart_out (dp why : Nat) (s : State) : (edidStart dp why s).out = s.out ++ [Output.edidRead dp] := by
  rw [edidStart, State.emit_out, setStrand_out]

/-- A read on connect stays one. -/
theorem edidStart_wait (dp why : Nat) (s : State) :
    tabGet dp (edidStart dp why s).strand.edidWait = some (if tabGet dp s.strand.edidWait = some 1 then 1 else why) :=
  (tabGet_tabSet dp dp _ _).trans (if_pos rfl)

theorem edidStart_sideband (l : List Nat) (dp why : Nat) (s : State) : OnlySideband l s (edidStart dp why s) :=
  (OnlySideband.setStrand l _ s.strand.training s).trans (OnlySideband.emit l _ _)

/-! STR_DP_SB_CTRL -/

/-- STR_DP_SB_CTRL with HPD and AUX_EN as written (R139). -/
def dpCtrlSet (dp : Nat) (v : Word) (s : State) : State := (s.setBit (Reg.strDpSbCtrl dp) 0 (bitOf v 0)).setBit (Reg.strDpSbCtrl dp) 3 (bitOf v 3)

theorem dpCtrlSet_sideband (dp : Nat) (v : Word) (s : State) : OnlySideband [Reg.strDpSbCtrl dp] s (dpCtrlSet dp v s) :=
  (OnlySideband.setReg (by simp) _ s).trans (OnlySideband.setReg (by simp) _ _)

theorem dpCtrlSet_hpd (dp : Nat) (v : Word) (s : State) : (dpCtrlSet dp v s).bit (Reg.strDpSbCtrl dp) 0 = bitOf v 0 :=
  (State.bit_setBit_other _ _ _ _ (by decide) (by decide)).trans (State.bit_setBit_same _ _ _ (by decide))

theorem dpCtrlSet_auxEn (dp : Nat) (v : Word) (s : State) : (dpCtrlSet dp v s).bit (Reg.strDpSbCtrl dp) 3 = bitOf v 3 :=
  State.bit_setBit_same _ _ _ (by decide)

theorem dpCtrlSet_out (dp : Nat) (v : Word) (s : State) : (dpCtrlSet dp v s).out = s.out := (State.setBit_out _ _ _ _).trans (State.setBit_out _ _ _ _)

theorem dpCtrlSet_strand (dp : Nat) (v : Word) (s : State) : (dpCtrlSet dp v s).strand = s.strand :=
  (State.setBit_strand _ _ _ _).trans (State.setBit_strand _ _ _ _)

/-- A write with IRQ_HPD in a SINK port whose HPD is 1 (R121). -/
abbrev PulsesHpd (dp : Nat) (v : Word) (s : State) : Prop := bitOf v 1 = true ∧ s.bit (Reg.strDpSbCtrl dp) 0 = true ∧ s.dpSource dp = false

/-- A write with EDID_RELOAD in a SOURCE port with a sink connected (R123). -/
abbrev ReadsEdid (dp : Nat) (v : Word) (s : State) : Prop := bitOf v 2 = true ∧ s.dpSource dp = true ∧ s.bit (Reg.strDpSbStatus dp) 0 = true

theorem PulsesHpd.not_readsEdid {dp : Nat} {v : Word} {s : State} (h : PulsesHpd dp v s) : ¬ ReadsEdid dp v s := by
  obtain ⟨-, -, hsink⟩ := h
  rintro ⟨-, hsource, -⟩
  exact Bool.noConfusion (hsource.symm.trans hsink)

/-- A write of STR_DP_SB_CTRL takes HPD and AUX_EN, and emits a pulse or starts a read. -/
theorem dpCtrlWrite_on {s : State} {dp : Nat} (hon : s.dpOn dp = true) (v : Word) :
    dpCtrlWrite dp v s =
      if PulsesHpd dp v s then (dpCtrlSet dp v s).emit (.hpdPulse dp) else if ReadsEdid dp v s then edidStart dp 2 (dpCtrlSet dp v s) else dpCtrlSet dp v s := by
  obtain ⟨-, hreg⟩ := dpCtrlSet_sideband dp v s
  have hsource : (dpCtrlSet dp v s).dpSource dp = s.dpSource dp :=
    State.bit_of_reg (hreg _ (by simp only [Reg.strCfg, Reg.strDpSbCtrl, dpLead, List.mem_singleton]; omega)) 7
  have hsink : (dpCtrlSet dp v s).bit (Reg.strDpSbStatus dp) 0 = s.bit (Reg.strDpSbStatus dp) 0 :=
    State.bit_of_reg (hreg _ (by simp only [Reg.strDpSbStatus, Reg.strDpSbCtrl, List.mem_singleton]; omega)) 0
  unfold dpCtrlWrite
  dsimp only
  rw [show (s.setBit (Reg.strDpSbCtrl dp) 0 (bitOf v 0)).setBit (Reg.strDpSbCtrl dp) 3 (bitOf v 3) = dpCtrlSet dp v s from rfl, hon, hsource, hsink]
  by_cases hpulse : PulsesHpd dp v s
  · simp [hpulse]
  · have hpulse' : (bitOf v 1 && s.bit (Reg.strDpSbCtrl dp) 0 && !s.dpSource dp) = false := by simpa [and_assoc] using hpulse
    simp [hpulse', hpulse, and_assoc]

theorem exec_dpCtrl {s : State} {dp : Nat} (hdp : dp < 16) (hon : s.dpOn dp = true) {m : Master} (hmay : MayWrite m (Reg.strDpSbCtrl dp) s) (v : Word)
    {o : Result} (ho : o = exec (.hpd m dp v) s ∨ o = exec (.irqHpdPulse m dp v) s ∨ o = exec (.edidReload m dp v) s) :
    ∃ t, o = .next t ∧ t.bit (Reg.strDpSbCtrl dp) 0 = bitOf v 0 ∧ t.bit (Reg.strDpSbCtrl dp) 3 = bitOf v 3 ∧ OnlySideband [Reg.strDpSbCtrl dp] s t ∧
      t.out = (if PulsesHpd dp v s then [.hpdPulse dp] else if ReadsEdid dp v s then [.edidRead dp] else []) ∧
      (ReadsEdid dp v s → (tabGet dp t.strand.edidWait).isSome = true) ∧ (¬ ReadsEdid dp v s → t.strand = s.strand) := by
  have hwrite := gatedWrite_of_mayWrite (locate_dpSbCtrl dp hdp) hmay (dpCtrlWrite dp v)
  have hnext : o = .next (if PulsesHpd dp v s then (dpCtrlSet dp v s.begin).emit (.hpdPulse dp)
      else if ReadsEdid dp v s then edidStart dp 2 (dpCtrlSet dp v s.begin) else dpCtrlSet dp v s.begin) := by
    rcases ho with rfl | rfl | rfl <;> exact congrArg Host.Outcome.next (hwrite.trans (dpCtrlWrite_on (s := s.begin) hon v))
  have hset := (OnlySideband.begin _ s).trans (dpCtrlSet_sideband dp v s.begin)
  have hhpd := dpCtrlSet_hpd dp v s.begin
  have haux := dpCtrlSet_auxEn dp v s.begin
  have hout : (dpCtrlSet dp v s.begin).out = [] := dpCtrlSet_out dp v s.begin
  have hstrand : (dpCtrlSet dp v s.begin).strand = s.strand := dpCtrlSet_strand dp v s.begin
  generalize dpCtrlSet dp v s.begin = u at hnext hset hhpd haux hout hstrand
  refine ⟨_, hnext, ?_⟩
  by_cases hpulse : PulsesHpd dp v s
  · rw [if_pos hpulse, if_pos hpulse]
    refine ⟨hhpd, haux, hset.trans (OnlySideband.emit _ _ _), ?_, fun h => absurd h hpulse.not_readsEdid, fun _ => hstrand⟩
    rw [State.emit_out, hout]
    rfl
  · rw [if_neg hpulse, if_neg hpulse]
    by_cases hreads : ReadsEdid dp v s
    · rw [if_pos hreads, if_pos hreads]
      have hreg := reg_of_regs (edidStart_regs dp 2 u) (Reg.strDpSbCtrl dp)
      refine ⟨(State.bit_of_reg hreg 0).trans hhpd, (State.bit_of_reg hreg 3).trans haux, hset.trans (edidStart_sideband _ _ _ _), ?_, fun _ => ?_,
        fun h => absurd hreads h⟩
      · rw [edidStart_out, hout]
        rfl
      · rw [edidStart_wait]
        rfl
    · rw [if_neg hreads, if_neg hreads]
      exact ⟨hhpd, haux, hset, hout, fun h => absurd h hreads, fun _ => hstrand⟩

/-! EDID reads over AUX and DDC -/

/-- Within the window a read answers its bytes. -/
theorem edidBytes_window (s : State) (dp : Nat) {segment offset len : Nat} (h : 256 * segment + offset + len ≤ 512) :
    s.edidBytes dp segment offset len = (List.range len).map (fun (k : Nat) =>
      BitVec.ofNat 8 ((s.reg (Reg.strDpEdid dp ((256 * segment + offset + k) / 4))).toNat >>> (8 * ((256 * segment + offset + k) % 4)))) := by
  refine List.map_congr_left fun k hk => if_pos ?_
  rw [List.mem_range] at hk
  omega

theorem unlessStopped_runs {s : State} {z : Nat} (h : s.zone z ≠ 3) (f : State → State) : unlessStopped z f s = f s := by
  simp [unlessStopped, State.stopped, h]

section
variable {s : State} {dp : Nat}

theorem exec_auxEdidRead (hon : s.dpOn dp = true) (hzone : s.zone (dpLead dp / 8) ≠ 3) (hsink : s.dpSource dp = false) (hdp : s.dpHdmi dp = false)
    (haux : s.bit (Reg.strDpSbCtrl dp) 3 = true) (segment offset len : Nat) :
    exec (.auxTransaction dp (.edidRead segment offset len)) s = .next (s.begin.emit (.reply (s.edidBytes dp segment offset len))) := by
  have hopen : (s.begin.dpOn dp && !s.begin.dpSource dp && !s.begin.dpHdmi dp && s.begin.bit (Reg.strDpSbCtrl dp) 3) = true := by
    show (s.dpOn dp && !s.dpSource dp && !s.dpHdmi dp && s.bit (Reg.strDpSbCtrl dp) 3) = true
    simp [hon, hsink, hdp, haux]
  exact congrArg Host.Outcome.next ((unlessStopped_runs (s := s.begin) hzone _).trans (if_pos hopen))

theorem exec_ddcEdidRead (hon : s.dpOn dp = true) (hzone : s.zone (dpLead dp / 8) ≠ 3) (hsink : s.dpSource dp = false) (hhdmi : s.dpHdmi dp = true)
    (segment offset len : Nat) :
    exec (.ddcTransaction dp (.edidRead segment offset len)) s = .next (s.begin.emit (.reply (s.edidBytes dp segment offset len))) := by
  have hopen : (s.begin.dpOn dp && !s.begin.dpSource dp && s.begin.dpHdmi dp) = true := by
    show (s.dpOn dp && !s.dpSource dp && s.dpHdmi dp) = true
    simp [hon, hsink, hhdmi]
  exact congrArg Host.Outcome.next ((unlessStopped_runs (s := s.begin) hzone _).trans (if_pos hopen))

/-! Hot plug -/

theorem strDpSbStatus_ne_strDpSbEvent (dp : Nat) : Reg.strDpSbStatus dp ≠ Reg.strDpSbEvent dp := by
  simp only [Reg.strDpSbStatus, Reg.strDpSbEvent]; omega

/-- The commands of a SOURCE port take effect. -/
theorem sourceOn (hon : s.dpOn dp = true) (hsource : s.dpSource dp = true) : (s.begin.dpOn dp && s.begin.dpSource dp) = true := by
  show (s.dpOn dp && s.dpSource dp) = true
  rw [hon, hsource]
  rfl

theorem exec_hpdAssert (hon : s.dpOn dp = true) (hsource : s.dpSource dp = true) :
    ∃ t, exec (.hpdAssert dp) s = .next t ∧ t.bit (Reg.strDpSbStatus dp) 0 = true ∧ t.bit (Reg.strDpSbEvent dp) 0 = true ∧ t.out = [.edidRead dp] ∧
      tabGet dp t.strand.edidWait = some 1 ∧ OnlySideband [Reg.strDpSbStatus dp, Reg.strDpSbEvent dp] s t := by
  have hraise : OnlySideband [Reg.strDpSbStatus dp, Reg.strDpSbEvent dp] s (raiseDp dp 0 (s.begin.setBit (Reg.strDpSbStatus dp) 0 true)) :=
    ((OnlySideband.begin _ s).trans (OnlySideband.setReg (by simp) _ _)).trans (raiseDp_sideband (by simp) 0 _)
  have hsink : (raiseDp dp 0 (s.begin.setBit (Reg.strDpSbStatus dp) 0 true)).bit (Reg.strDpSbStatus dp) 0 = true :=
    (State.bit_of_reg (raiseDp_reg dp 0 _ (strDpSbStatus_ne_strDpSbEvent dp)) 0).trans (State.bit_setBit_same _ _ _ (by decide))
  have hevent := raiseDp_bit_same dp (b := 0) (by decide) (s.begin.setBit (Reg.strDpSbStatus dp) 0 true)
  have hout : (raiseDp dp 0 (s.begin.setBit (Reg.strDpSbStatus dp) 0 true)).out = [] := rfl
  have hexec : exec (.hpdAssert dp) s = .next (edidStart dp 1 (raiseDp dp 0 (s.begin.setBit (Reg.strDpSbStatus dp) 0 true))) :=
    congrArg Host.Outcome.next (if_pos (sourceOn hon hsource))
  generalize raiseDp dp 0 (s.begin.setBit (Reg.strDpSbStatus dp) 0 true) = u at hraise hsink hevent hout hexec
  have hreg := reg_of_regs (edidStart_regs dp 1 u)
  refine ⟨_, hexec, (State.bit_of_reg (hreg _) 0).trans hsink, (State.bit_of_reg (hreg _) 0).trans hevent, ?_, ?_, hraise.trans (edidStart_sideband _ _ _ _)⟩
  · rw [edidStart_out, hout]
    rfl
  · rw [edidStart_wait, ite_self]

/-- What a port's sideband group was doing is over. -/
def dpIdle (dp : Nat) (s : State) : State := setStrand { s.strand with edidWait := tabDel dp s.strand.edidWait, training := tabDel dp s.strand.training } s

theorem exec_hpdDeassert (hon : s.dpOn dp = true) (hsource : s.dpSource dp = true) :
    ∃ t, exec (.hpdDeassert dp) s = .next t ∧ t.bit (Reg.strDpSbStatus dp) 0 = false ∧ t.bit (Reg.strDpSbStatus dp) 1 = false ∧
      t.bit (Reg.strDpSbEvent dp) 1 = true ∧ t.out = [] ∧ tabGet dp t.strand.edidWait = none ∧
      OnlySideband [Reg.strDpSbStatus dp, Reg.strDpSbEvent dp] s t := by
  have hidle : OnlySideband [Reg.strDpSbStatus dp, Reg.strDpSbEvent dp] s (dpIdle dp s.begin) :=
    (OnlySideband.begin _ s).trans (OnlySideband.setStrand _ _ _ _)
  have hwait : tabGet dp (dpIdle dp s.begin).strand.edidWait = none := (tabGet_tabDel dp dp _).trans (if_pos rfl)
  have hout : (dpIdle dp s.begin).out = [] := rfl
  have hexec : exec (.hpdDeassert dp) s = .next (raiseDp dp 1 (((dpIdle dp s.begin).setBit (Reg.strDpSbStatus dp) 0 false).setBit (Reg.strDpSbStatus dp) 1 false)) :=
    congrArg Host.Outcome.next (if_pos (sourceOn hon hsource))
  generalize dpIdle dp s.begin = u at hidle hwait hout hexec
  have hstat := raiseDp_reg dp 1 ((u.setBit (Reg.strDpSbStatus dp) 0 false).setBit (Reg.strDpSbStatus dp) 1 false) (strDpSbStatus_ne_strDpSbEvent dp)
  refine ⟨_, hexec, (State.bit_of_reg hstat 0).trans ?_, (State.bit_of_reg hstat 1).trans (State.bit_setBit_same _ _ _ (by decide)),
    raiseDp_bit_same dp (by decide) _, ?_, ?_, ((hidle.trans (OnlySideband.setReg (by simp) _ _)).trans (OnlySideband.setReg (by simp) _ _)).trans
      (raiseDp_sideband (by simp) 1 _)⟩
  · exact (State.bit_setBit_other _ _ _ _ (by decide) (by decide)).trans (State.bit_setBit_same _ _ _ (by decide))
  · rw [raiseDp_out, State.setBit_out, State.setBit_out, hout]
  · rw [raiseDp_strand, State.setBit_strand, State.setBit_strand, hwait]

theorem exec_irqHpd (hon : s.dpOn dp = true) (hsource : s.dpSource dp = true) :
    ∃ t, exec (.irqHpd dp) s = .next t ∧ t.bit (Reg.strDpSbEvent dp) 2 = true ∧ OnlySideband [Reg.strDpSbEvent dp] s t :=
  ⟨raiseDp dp 2 s.begin, congrArg Host.Outcome.next (if_pos (sourceOn hon hsource)), raiseDp_bit_same dp (by decide) _,
    (OnlySideband.begin _ s).trans (raiseDp_sideband (by simp) 2 _)⟩

end

end Sys2Proof.Machine
end

section
/-! The end of an EDID read and of a training, and the statement on display sidebands (R92, R93, R123). -/

namespace Sys2Proof.Machine

open Sys2Proof

/-! EDID_READY -/

/-- The words of an EDID fill the window from a place on. -/
def edidFilled (dp : Nat) (ps : List (Nat × Word)) (s : State) : State := ps.foldl (fun s p => s.setReg (Reg.strDpEdid dp p.1) p.2) s

theorem edidFilled_writes (dp : Nat) (ps : List (Nat × Word)) (s : State) : Writes (fun _ => True) s (edidFilled dp ps s) := by
  unfold edidFilled
  exact Writes.foldl (p := fun _ => True) (fun s p => Writes.setReg trivial p.2 s) ps s

theorem edidFilled_reg (dp : Nat) (data : List Word) (k m : Nat) (h : data.length ≤ m) (s : State) (a : Nat) :
    (edidFilled dp ((List.range' k m).zip data) s).reg a =
      if Reg.strDpEdid dp k ≤ a ∧ a < Reg.strDpEdid dp k + 4 * data.length ∧ a % 4 = 0 then data.getD ((a - Reg.strDpEdid dp k) / 4) 0 else s.reg a := by
  induction data generalizing k m s with
  | nil =>
    rw [List.zip_nil_right, if_neg (by simp only [List.length_nil]; omega)]
    rfl
  | cons w data ih =>
    obtain ⟨m, rfl⟩ : ∃ m', m = m' + 1 := ⟨m - 1, by simp only [List.length_cons] at h; omega⟩
    have hnext : Reg.strDpEdid dp (k + 1) = Reg.strDpEdid dp k + 4 := by simp only [Reg.strDpEdid]; omega
    have haligned : Reg.strDpEdid dp k % 4 = 0 := by simp only [Reg.strDpEdid]; omega
    have htail := ih (k + 1) m (by simp only [List.length_cons] at h; omega) (s.setReg (Reg.strDpEdid dp k) w)
    rw [hnext, State.reg_setReg] at htail
    refine htail.trans ?_
    generalize Reg.strDpEdid dp k = e at haligned ⊢
    by_cases hfirst : a = e
    · subst hfirst
      rw [if_neg (by omega), if_pos rfl, if_pos (by simp only [List.length_cons]; omega), Nat.sub_self]
      rfl
    · rw [if_neg hfirst]
      by_cases hin : e + 4 ≤ a ∧ a < e + 4 + 4 * data.length ∧ a % 4 = 0
      · obtain ⟨j, hj⟩ : ∃ j, (a - e) / 4 = j + 1 := ⟨(a - e) / 4 - 1, by omega⟩
        have hj' : (a - (e + 4)) / 4 = j := by omega
        rw [if_pos hin, if_pos (by simp only [List.length_cons]; omega), hj, hj']
        rfl
      · rw [if_neg hin, if_neg (by simp only [List.length_cons]; omega)]

theorem trainStart_regs (dp : Nat) (s : State) : (trainStart dp s).regs = s.regs := by
  unfold trainStart
  dsimp only
  split <;> rfl

theorem trainStart_strand (dp : Nat) (s : State) : (trainStart dp s).strand = { s.strand with training := tabSet dp true s.strand.training } := by
  unfold trainStart
  dsimp only
  split <;> rfl

/-- A read of the EDID has ended: its words are in the window, and EDID_READY is raised. -/
def edidEnded (dp : Nat) (data : List Word) (s : State) : State :=
  raiseDp dp 3 (edidFilled dp ((List.range 128).zip data) (setStrand { s.strand with edidWait := tabDel dp s.strand.edidWait } s))

theorem edidEnded_reg (dp : Nat) {data : List Word} (h : data.length ≤ 128) (s : State) {a : Nat} (ha : a ≠ Reg.strDpSbEvent dp) :
    (edidEnded dp data s).reg a = if Reg.strDpEdid dp 0 ≤ a ∧ a < Reg.strDpEdid dp 0 + 4 * data.length ∧ a % 4 = 0
      then data.getD ((a - Reg.strDpEdid dp 0) / 4) 0 else s.reg a := by
  rw [edidEnded, raiseDp_reg dp 3 _ ha, List.range_eq_range', edidFilled_reg dp data 0 128 h, reg_setStrand]

theorem edidEnded_parts (dp : Nat) (data : List Word) (s : State) :
    (edidEnded dp data s).out = s.out ∧ (edidEnded dp data s).strand = { s.strand with edidWait := tabDel dp s.strand.edidWait } := by
  have hfilled := (edidFilled_writes dp ((List.range 128).zip data) (setStrand { s.strand with edidWait := tabDel dp s.strand.edidWait } s)).1
  rw [edidEnded, raiseDp_out, raiseDp_strand, hfilled]
  exact ⟨rfl, rfl⟩

section
variable {s : State} {dp : Nat}

theorem exec_edidReady_idle (h : tabGet dp s.strand.edidWait = none) (data : List Word) : exec (.edidReady dp data) s = .next { s with out := [] } := by
  have hdo : doEdidReady dp data s.begin = s.begin := by
    have hwait : tabGet dp s.begin.strand.edidWait = none := h
    unfold doEdidReady
    rw [hwait]
  exact congrArg Host.Outcome.next hdo

theorem doEdidReady_reading (hon : s.dpOn dp = true) (hsource : s.dpSource dp = true) {why : Nat} (h : tabGet dp s.strand.edidWait = some why) (data : List Word) :
    doEdidReady dp data s = if why = 1 then trainStart dp (edidEnded dp data s) else edidEnded dp data s := by
  unfold doEdidReady
  rw [h, hon, hsource]
  rfl

/-- The end of a read fills the window; after a connect training starts. -/
theorem exec_edidReady (hon : s.dpOn dp = true) (hsource : s.dpSource dp = true) {why : Nat} (h : tabGet dp s.strand.edidWait = some why)
    {data : List Word} (hlen : data.length ≤ 128) :
    ∃ t, exec (.edidReady dp data) s = .next t ∧ t.bit (Reg.strDpSbEvent dp) 3 = true ∧ tabGet dp t.strand.edidWait = none ∧
      (why = 1 → tabGet dp t.strand.training = some true) ∧ (why ≠ 1 → t.out = []) ∧
      ∀ a, a ≠ Reg.strDpSbEvent dp → t.reg a = if Reg.strDpEdid dp 0 ≤ a ∧ a < Reg.strDpEdid dp 0 + 4 * data.length ∧ a % 4 = 0
        then data.getD ((a - Reg.strDpEdid dp 0) / 4) 0 else s.reg a := by
  have hexec : exec (.edidReady dp data) s = .next _ := congrArg Host.Outcome.next (doEdidReady_reading (s := s.begin) hon hsource h data)
  have hreg := fun a ha => edidEnded_reg dp hlen s.begin (a := a) ha
  have hevent : (edidEnded dp data s.begin).bit (Reg.strDpSbEvent dp) 3 = true := raiseDp_bit_same dp (by decide) _
  obtain ⟨hout, hstrand⟩ := edidEnded_parts dp data s.begin
  have hwait : tabGet dp (edidEnded dp data s.begin).strand.edidWait = none := by
    rw [hstrand]
    exact (tabGet_tabDel dp dp _).trans (if_pos rfl)
  generalize edidEnded dp data s.begin = u at hexec hreg hevent hout hwait
  by_cases hwhy : why = 1
  · rw [if_pos hwhy] at hexec
    have hkept := reg_of_regs (trainStart_regs dp u)
    refine ⟨_, hexec, (State.bit_of_reg (hkept _) 3).trans hevent, ?_, fun _ => ?_, fun hne => absurd hwhy hne, fun a ha => (hkept a).trans (hreg a ha)⟩
    · rw [trainStart_strand]
      exact hwait
    · rw [trainStart_strand]
      exact (tabGet_tabSet dp dp _ _).trans (if_pos rfl)
  · rw [if_neg hwhy] at hexec
    exact ⟨_, hexec, hevent, hwait, fun h1 => absurd h1 hwhy, fun _ => hout, hreg⟩

/-! TRAIN_FAIL -/

/-- A training that is over. -/
def untrain (dp : Nat) (s : State) : State := setStrand { s.strand with training := tabDel dp s.strand.training } s

theorem exec_trainFail (hon : s.dpOn dp = true) :
    ∃ t, exec (.trainFail dp) s = .next t ∧ t.bit (Reg.strDpSbStatus dp) 1 = false ∧ t.bit (Reg.strDpSbEvent dp) 5 = true ∧
      OnlySideband [Reg.strDpSbStatus dp, Reg.strDpSbEvent dp] s t := by
  have huntrain : OnlySideband [Reg.strDpSbStatus dp, Reg.strDpSbEvent dp] s (untrain dp s.begin) :=
    (OnlySideband.begin _ s).trans (OnlySideband.setStrand _ s.strand.edidWait _ _)
  have hexec : exec (.trainFail dp) s = .next (raiseDp dp 5 ((untrain dp s.begin).setBit (Reg.strDpSbStatus dp) 1 false)) :=
    congrArg Host.Outcome.next (if_pos hon)
  generalize untrain dp s.begin = u at huntrain hexec
  exact ⟨_, hexec, (State.bit_of_reg (raiseDp_reg dp 5 _ (strDpSbStatus_ne_strDpSbEvent dp)) 1).trans (State.bit_setBit_same _ _ _ (by decide)),
    raiseDp_bit_same dp (by decide) _, (huntrain.trans (OnlySideband.setReg (by simp) _ _)).trans (raiseDp_sideband (by simp) 5 _)⟩

end

/-! TRAIN_DONE of a SOURCE port whose receivers are DOWN -/

/-- The lanes of a SOURCE port, with no receiver in use, none that feeds the strand matrix, and all DOWN. -/
def LanesDown (dp : Nat) (s : State) : Prop :=
  ∀ k, k < 4 → s.rx (dpLead dp + k) = .down ∧ tabGetD false (dpLead dp + k) s.strand.feeds = false ∧ s.rxUsed (dpLead dp + k) = false

/-- The registers of STR_STATE of a port's lanes. -/
def LaneState (dp a : Nat) : Prop := ∃ k, k < 4 ∧ a = Reg.strState (dpLead dp + k)

theorem strCfg_ne_strState (n m : Nat) : Reg.strCfg n ≠ Reg.strState m := by simp only [Reg.strCfg, Reg.strState]; omega

/-- Whether a receiver is in use is read from STR_CFG and from the lanes in use of its port (R88, R93, R94). -/
theorem rxUsed_of_reg {s t : State} {n : Nat} (hreg : t.reg (Reg.strCfg n) = s.reg (Reg.strCfg n)) (hstrand : t.strand = s.strand) :
    t.rxUsed n = s.rxUsed n := by
  have hrate : t.rate n = s.rate n := State.f_of_reg hreg 13 8
  have hproto : t.proto n = s.proto n := State.f_of_reg hreg 1 0
  have hlead : t.leader n = s.leader n := State.f_of_reg hreg 22 16
  simp only [State.rxUsed, State.laneUsed, hrate, hproto, hlead, hstrand, State.bit_of_reg hreg]

/-- A receiver that is DOWN, with SIGNAL 0. -/
def rxStopped (n : Nat) (s : State) : State := (setRx n .down s).setBit (Reg.strState n) 8 false

theorem rxStopped_rx (n j : Nat) (s : State) : (rxStopped n s).rx j = if j = n then .down else s.rx j :=
  (congrArg rxOf (State.f_setF_other _ _ _ _ (by decide) (by decide) (by decide))).trans (rx_setRx n j .down s)

theorem rxStopped_strand (n : Nat) (s : State) : (rxStopped n s).strand = s.strand := by
  rw [rxStopped, State.setBit_strand, setRx, State.setF_strand]

theorem rxStopped_writes (n : Nat) (s : State) : Writes (· = Reg.strState n) s (rxStopped n s) :=
  (Writes.setReg (p := (· = Reg.strState n)) rfl _ s).trans (Writes.setReg (p := (· = Reg.strState n)) rfl _ _)

theorem stopRx_down {s : State} {n : Nat} (hrx : s.rx n = .down) (hfeeds : tabGetD false n s.strand.feeds = false) : stopRx n s = rxStopped n s := by
  have hnotUp : s.rx n ≠ .up := by rw [hrx]; decide
  have hstill : (!tabGetD false n (rxStopped n s).strand.feeds) = true := by
    rw [rxStopped_strand, hfeeds]
    rfl
  unfold stopRx
  rw [if_neg hnotUp]
  exact if_pos hstill

/-- What TRAIN_DONE does to the receiver of a lane, in use or not (R93). -/
def trainLane (dp n k : Nat) (s : State) : State := if k < n then startRx (dpLead dp + k) s else stopRx (dpLead dp + k) s

theorem trainLane_down {dp : Nat} {s : State} (h : LanesDown dp s) (n : Nat) {k : Nat} (hk : k < 4) :
    Writes (LaneState dp) s (trainLane dp n k s) ∧ LanesDown dp (trainLane dp n k s) := by
  obtain ⟨hrx, hfeeds, hused⟩ := h k hk
  unfold trainLane
  split
  · have hstart : startRx (dpLead dp + k) s = s := by simp [startRx, hused]
    rw [hstart]
    exact ⟨Writes.refl _ s, h⟩
  · rw [stopRx_down hrx hfeeds]
    have hwrites := rxStopped_writes (dpLead dp + k) s
    refine ⟨hwrites.mono (fun _ h => ⟨k, hk, h⟩), fun j hj => ?_⟩
    obtain ⟨hrxj, hfeedsj, husedj⟩ := h j hj
    rw [rxStopped_rx, hrxj, ite_self, rxStopped_strand, rxUsed_of_reg (hwrites.2 _ (strCfg_ne_strState _ _)) (rxStopped_strand _ s)]
    exact ⟨rfl, hfeedsj, husedj⟩

theorem trainLanes_writes {dp : Nat} (n : Nat) {ks : List Nat} (hks : ∀ k ∈ ks, k < 4) {s : State} (h : LanesDown dp s) :
    Writes (LaneState dp) s (ks.foldl (fun s k => trainLane dp n k s) s) := by
  induction ks generalizing s with
  | nil => exact Writes.refl _ s
  | cons k ks ih =>
    obtain ⟨hwrites, hdown⟩ := trainLane_down h n (hks k List.mem_cons_self)
    exact hwrites.trans (ih (fun j hj => hks j (List.mem_cons_of_mem _ hj)) hdown)

/-- STR_DP_SB_STATUS of a port that is trained on `n` lanes at a rate (R139), and the lanes in use. -/
def trained (dp n rate : Nat) (s : State) : State :=
  setStrand { s.strand with dpLanes := tabPut 4 dp n s.strand.dpLanes, training := tabDel dp s.strand.training }
    (((s.setBit (Reg.strDpSbStatus dp) 1 true).setF (Reg.strDpSbStatus dp) 4 2 n).setF (Reg.strDpSbStatus dp) 13 8 rate)

theorem trained_reg (dp n rate : Nat) (s : State) {a : Nat} (h : a ≠ Reg.strDpSbStatus dp) : (trained dp n rate s).reg a = s.reg a := by
  unfold trained
  rw [reg_setStrand, State.reg_setF, if_neg h, State.reg_setF, if_neg h, State.reg_setBit, if_neg h]

theorem trained_status (dp : Nat) {n rate : Nat} (hn : n < 8) (hrate : rate < 64) (s : State) :
    (trained dp n rate s).bit (Reg.strDpSbStatus dp) 1 = true ∧ (trained dp n rate s).f (Reg.strDpSbStatus dp) 4 2 = n ∧
    (trained dp n rate s).f (Reg.strDpSbStatus dp) 13 8 = rate := by
  have hreg : (trained dp n rate s).reg (Reg.strDpSbStatus dp) =
      (((s.setBit (Reg.strDpSbStatus dp) 1 true).setF (Reg.strDpSbStatus dp) 4 2 n).setF (Reg.strDpSbStatus dp) 13 8 rate).reg (Reg.strDpSbStatus dp) := by
    rw [trained, reg_setStrand]
  rw [State.bit_of_reg hreg, State.f_of_reg hreg, State.f_of_reg hreg]
  refine ⟨?_, ?_, ?_⟩
  · rw [State.bit_setF_other _ _ _ _ (by decide) (by decide) (by decide), State.bit_setF_other _ _ _ _ (by decide) (by decide) (by decide)]
    exact State.bit_setBit_same _ _ _ (by decide)
  · rw [State.f_setF_other _ _ _ _ (by decide) (by decide) (by decide), State.f_setF _ _ _ (by decide) (by decide)]
    exact Nat.mod_eq_of_lt hn
  · rw [State.f_setF _ _ _ (by decide) (by decide)]
    exact Nat.mod_eq_of_lt hrate

theorem trained_dpLanes (dp n rate : Nat) (s : State) : tabGetD 4 dp (trained dp n rate s).strand.dpLanes = n :=
  (tabGetD_tabPut 4 dp dp n _).trans (if_pos rfl)

/-- A port trained: its status, its lanes' receivers and transmitters, and the event. -/
def trainDone (dp n rate : Nat) (s : State) : State :=
  raiseDp dp 4 (txRefreshAll ((List.range 4).map (fun (k : Nat) => dpLead dp + k))
    ((List.range 4).foldl (fun s k => trainLane dp n k s) (trained dp n rate s)))

theorem doTrainDone_on {s : State} {dp : Nat} (hon : s.dpOn dp = true) {lanes : Nat} (h1 : 1 ≤ lanes) (h4 : lanes ≤ 4) (rate : Nat) :
    doTrainDone dp lanes rate s = trainDone dp lanes rate s := by
  have hlanes : min 4 (max 1 lanes) = lanes := by omega
  unfold doTrainDone
  rw [hlanes, if_pos hon]
  rfl

/-- The receivers of a port's lanes are DOWN and feed nothing, and the lanes are configured alike. -/
def LanesAtRest (dp : Nat) (s : State) : Prop :=
  ∀ k, k < 4 → s.rx (64 + 4 * dp + k) = .down ∧ s.feeds (64 + 4 * dp + k) = false ∧ s.reg (Reg.strCfg (64 + 4 * dp + k)) = s.reg (Reg.strCfg (64 + 4 * dp))

/-- The receivers of a SOURCE port are never in use (R93). -/
theorem lanesDown_of_source {s : State} {dp : Nat} (hon : s.dpOn dp = true) (hzone : s.zone (dpLead dp / 8) ≠ 3)
    (hsource : s.dpSource dp = true) (h : LanesAtRest dp s) :
    LanesDown dp s := by
  intro k hk
  obtain ⟨hrx, hfeeds, hcfg⟩ := h k hk
  have hz : (64 + 4 * dp + k) / 8 = dpLead dp / 8 := by simp only [dpLead]; omega
  have hproto : s.proto (dpLead dp + k) = 3 := (congrArg (fld · 1 0) hcfg).trans (of_decide_eq_true hon)
  have hdir : s.bit (Reg.strCfg (dpLead dp + k)) 7 = true := (congrArg (bitOf · 7) hcfg).trans hsource
  refine ⟨hrx, ?_, by simp [State.rxUsed, hproto, hdir]⟩
  unfold State.feeds at hfeeds
  rw [hz, decide_eq_true hzone, Bool.and_true] at hfeeds
  exact hfeeds

theorem trainDone_source {s : State} {dp : Nat} (hdown : ∀ n rate, LanesDown dp (trained dp n rate s)) {n rate : Nat} (hn : n < 8) (hrate : rate < 64) :
    (trainDone dp n rate s).bit (Reg.strDpSbStatus dp) 1 = true ∧ (trainDone dp n rate s).f (Reg.strDpSbStatus dp) 4 2 = n ∧
    (trainDone dp n rate s).f (Reg.strDpSbStatus dp) 13 8 = rate ∧ (trainDone dp n rate s).bit (Reg.strDpSbEvent dp) 4 = true ∧
    tabGetD 4 dp (trainDone dp n rate s).strand.dpLanes = n ∧
    ∀ a, (∀ k, k < 4 → a ≠ Reg.strState (64 + 4 * dp + k)) → a ≠ Reg.strDpSbStatus dp → a ≠ Reg.strDpSbEvent dp →
      a ≠ Reg.strBightStatus ((64 + 4 * dp) / 16) → (trainDone dp n rate s).reg a = s.reg a := by
  have htx : ∀ u, Writes (fun a => LaneState dp a ∨ a = Reg.strBightStatus ((64 + 4 * dp) / 16)) u
      (txRefreshAll ((List.range 4).map (fun (k : Nat) => dpLead dp + k)) u) := by
    refine txRefreshAll_writes fun m hm => ?_
    simp only [List.mem_map, List.mem_range] at hm
    obtain ⟨k, hk, rfl⟩ := hm
    have hbight : (dpLead dp + k) / 16 = (64 + 4 * dp) / 16 := by simp only [dpLead]; omega
    exact ⟨.inl ⟨k, hk, rfl⟩, .inr (by rw [hbight])⟩
  have hlanes := trainLanes_writes n (fun k hk => List.mem_range.mp hk) (hdown n rate)
  obtain ⟨hparts, hregs⟩ := (hlanes.mono (fun _ h => .inl h)).trans (htx _)
  obtain ⟨hbit, hcount, hcode⟩ := trained_status dp hn hrate s
  have hstatus : (trainDone dp n rate s).reg (Reg.strDpSbStatus dp) = (trained dp n rate s).reg (Reg.strDpSbStatus dp) := by
    refine (raiseDp_reg dp 4 _ (strDpSbStatus_ne_strDpSbEvent dp)).trans (hregs _ ?_)
    rintro (⟨k, -, h⟩ | h)
    · simp only [Reg.strDpSbStatus, Reg.strState, dpLead] at h; omega
    · simp only [Reg.strDpSbStatus, Reg.strBightStatus] at h; omega
  refine ⟨(State.bit_of_reg hstatus 1).trans hbit, (State.f_of_reg hstatus 4 2).trans hcount, (State.f_of_reg hstatus 13 8).trans hcode,
    raiseDp_bit_same dp (by decide) _, ?_, fun a hstate hstat hev hbight => ?_⟩
  · rw [trainDone, raiseDp_strand, hparts]
    exact trained_dpLanes dp n rate s
  · refine (raiseDp_reg dp 4 _ hev).trans ((hregs a ?_).trans (trained_reg dp n rate s hstat))
    rintro (⟨k, hk, h⟩ | h)
    · exact hstate k hk h
    · exact hbight h

/-- The status of a port says nothing of its receivers, and no receiver of a SOURCE port is in use on any number of lanes. -/
theorem lanesDown_trained {s : State} {dp : Nat} (hdp : dp < 16) (hon : s.dpOn dp = true) (hzone : s.zone (dpLead dp / 8) ≠ 3)
    (hsource : s.dpSource dp = true) (h : LanesAtRest dp s) (n rate : Nat) : LanesDown dp (trained dp n rate s) := by
  have hcfg : ∀ m, m < 128 → (trained dp n rate s).reg (Reg.strCfg m) = s.reg (Reg.strCfg m) := fun m _ =>
    trained_reg dp n rate s (by simp only [Reg.strCfg, Reg.strDpSbStatus]; omega)
  have hstate : ∀ m, m < 128 → (trained dp n rate s).reg (Reg.strState m) = s.reg (Reg.strState m) := fun m _ =>
    trained_reg dp n rate s (by simp only [Reg.strState, Reg.strDpSbStatus]; omega)
  have hzones : ∀ z, (trained dp n rate s).zone z = s.zone z := fun z =>
    State.f_of_reg (trained_reg dp n rate s (by simp only [Reg.sysZoneState, Reg.strDpSbStatus]; omega)) _ _
  have hlead : dpLead dp < 128 := by simp only [dpLead]; omega
  refine lanesDown_of_source ?_ (by rw [hzones]; exact hzone) ((State.bit_of_reg (hcfg _ hlead) 7).trans hsource) fun k hk => ?_
  · have hproto : (trained dp n rate s).proto (dpLead dp) = s.proto (dpLead dp) := State.f_of_reg (hcfg _ hlead) 1 0
    unfold State.dpOn
    rw [hproto]
    exact hon
  · obtain ⟨hrx, hfeeds, hlane⟩ := h k hk
    refine ⟨(State.rx_of_reg (hstate _ (by omega))).trans hrx, ?_, (hcfg _ (by omega)).trans (hlane.trans (hcfg _ (by omega)).symm)⟩
    unfold State.feeds
    rw [hzones]
    exact hfeeds

/-- Settles O35: each command leaves its port's sideband registers as its lemma says, and no other. -/
theorem displaySideband : Obligations.DisplaySideband := by
  intro s dp hdp hon hzone ctrl stat ev Only
  refine ⟨fun m v o hmay ho => exec_dpCtrl hdp hon hmay v ho, ?_, fun hsource => ⟨exec_hpdAssert hon hsource, exec_hpdDeassert hon hsource,
    exec_irqHpd hon hsource, fun data hwait => exec_edidReady_idle hwait data, fun data why hlen hwait => exec_edidReady hon hsource hwait hlen⟩,
    exec_trainFail hon, fun lanes rate h1 h4 hrate => ?_⟩
  · intro segment offset len hsink hlen o
    have ho : o = .next (s.begin.emit (.reply (s.edidBytes dp segment offset len))) := by
      rw [edidBytes_window s dp hlen]
      rfl
    exact ⟨fun hdisp haux => (exec_auxEdidRead hon hzone hsink hdisp haux segment offset len).trans ho.symm,
      fun hhdmi => (exec_ddcEdidRead hon hzone hsink hhdmi segment offset len).trans ho.symm⟩
  · exact ⟨_, congrArg Host.Outcome.next (doTrainDone_on (s := s.begin) hon h1 h4 rate), fun hsource hlanes =>
      trainDone_source (lanesDown_trained (s := s.begin) hdp hon hzone hsource hlanes) (by omega) hrate⟩

end Sys2Proof.Machine
end

section
/-! What a decoder shows of the format it detects, and its events (R152 to R156, R186, R188). -/

namespace Sys2Proof.Machine

open Sys2Proof

/-! Events -/

theorem raiseWir_reports (n b : Nat) (s : State) : Reports [Reg.wirEvent n] s (raiseWir n b s) := raiseEn_reports _ _ _ _ _ _

theorem raiseWir_reg_ne (n b : Nat) (s : State) {a : Nat} (ha : 0x18000 ≤ a) (h : a ≠ Reg.wirEvent n) : (raiseWir n b s).reg a = s.reg a :=
  (raiseWir_reports n b s).2 a (inTen_above ha) (by simpa using h)

theorem raiseWir_bit_same (n : Nat) {b : Nat} (hb : b < 32) (s : State) : (raiseWir n b s).bit (Reg.wirEvent n) b = true := by
  have hreg : (raiseWir n b s).reg (Reg.wirEvent n) = setFld (s.reg (Reg.wirEvent n)) b b 1 :=
    raiseBit_reg (inTen_above (by simp only [Reg.wirEvent]; omega)) _ _ _ _ _
  unfold State.bit
  rw [hreg, bitOf_setFld _ _ (le_refl b) hb, if_pos ⟨le_refl b, le_refl b⟩, Nat.sub_self]
  rfl

/-! FORMAT_LOCKED -/

/-- WIR_FMT, with LOCKED, WIR_FMT_SIZE and WIR_FMT_RATE of a format. -/
def formatShown (n : Nat) (f : Format) (s : State) : State :=
  (((s.setReg (Reg.wirFmt n) (fmtWord f)).setBit (Reg.wirFmt n) 0 true).setReg (Reg.wirFmtSize n) (fmtSizeWord f)).setReg (Reg.wirFmtRate n) (fmtRateWord f)

theorem formatShown_regs (n : Nat) (f : Format) (s : State) :
    (formatShown n f s).reg (Reg.wirFmt n) = setFld (fmtWord f) 0 0 1 ∧ (formatShown n f s).reg (Reg.wirFmtSize n) = fmtSizeWord f ∧
    (formatShown n f s).reg (Reg.wirFmtRate n) = fmtRateWord f := by
  have hne : Reg.wirFmt n ≠ Reg.wirFmtRate n ∧ Reg.wirFmt n ≠ Reg.wirFmtSize n ∧ Reg.wirFmtSize n ≠ Reg.wirFmtRate n := by
    simp only [Reg.wirFmt, Reg.wirFmtRate, Reg.wirFmtSize]; omega
  obtain ⟨hfr, hfs, hsr⟩ := hne
  unfold formatShown
  refine ⟨?_, ?_, ?_⟩
  · rw [State.reg_setReg_ne _ hfr, State.reg_setReg_ne _ hfs, State.reg_setBit, if_pos rfl, State.reg_setReg, if_pos rfl]
    rfl
  · rw [State.reg_setReg_ne _ hsr, State.reg_setReg, if_pos rfl]
  · rw [State.reg_setReg, if_pos rfl]

theorem formatShown_writes (n : Nat) (f : Format) (s : State) : Writes (· ∈ formatRegs n) s (formatShown n f s) := by
  have hfmt : Reg.wirFmt n ∈ formatRegs n ∧ Reg.wirFmtSize n ∈ formatRegs n ∧ Reg.wirFmtRate n ∈ formatRegs n := by simp [formatRegs]
  obtain ⟨hf, hs, hr⟩ := hfmt
  exact (((Writes.setReg hf _ s).trans (Writes.setReg hf _ _)).trans (Writes.setReg hs _ _)).trans (Writes.setReg hr _ _)

theorem formatShown_spl (n : Nat) (f : Format) (s : State) : (formatShown n f s).spl = s.spl := by rw [(formatShown_writes n f s).1]

theorem formatShown_aud (n : Nat) (f : Format) (s : State) : (formatShown n f s).aud = s.aud := by rw [(formatShown_writes n f s).1]

theorem putFormat_hitches (k : Nat) (f : Format) (s : State) : (putFormat k f s).hitches = s.hitches := rfl

theorem formatShown_hitches {n : Nat} (hn : n < 128) (f : Format) {s : State} (h : s.hitches = []) : (formatShown n f s).hitches = [] := by
  have hset : ∀ {a : Nat} (v : Word) (u : State), a < 0x182000 → ReceiverStep (fun _ => True) u (u.setReg a v) := fun v u ha =>
    ReceiverStep.setReg (.inl trivial) ha v u
  have hfmt : Reg.wirFmt n < 0x182000 := by simp only [Reg.wirFmt]; omega
  have hall : ReceiverStep (fun _ => True) s (formatShown n f s) :=
    (((hset _ s hfmt).trans (hset _ _ hfmt)).trans (hset _ _ (by simp only [Reg.wirFmtSize]; omega))).trans (hset _ _ (by simp only [Reg.wirFmtRate]; omega))
  obtain ⟨-, -, hmem⟩ := hall
  exact hitches_of_mem h hmem

/-- What is kept of an essence beside the registers: its format, its mastering metadata and its audio (R187, R508). -/
def formatKept (n : Nat) (f : Format) (info : List (Nat × List Byte)) (audio : WireAudio) (s : State) : State :=
  setWire { s.wire with
    formats := tabSet n f s.wire.formats
    mastering := (match tabGet typeDrm info with | some d => tabSet n d s.wire.mastering | none => tabDel n s.wire.mastering)
    audio := tabSet n audio s.wire.audio } s

theorem formatKept_spl (n : Nat) (f : Format) (info : List (Nat × List Byte)) (audio : WireAudio) (s : State) :
    (formatKept n f info audio s).spl = s.spl := rfl

/-- With no set that waits, nothing ends for want of a taut source's format (R210). -/
theorem tautChange_of_noSets {s : State} (h : s.spl.sets = []) (n : Nat) (f : Option Format) : tautChange n f s = s := endSets_of_noSets h _ _ _

theorem tautFormats_of_noHitches {s : State} (h : s.hitches = []) (n : Nat) (f : Format) : tautFormats n f s = s := by
  simp [tautFormats, State.fedBy, h]

/-- A decoder whose wire feeds no audio channel keeps its metadata and shows nothing. -/
theorem noteMetadata_putFormat {s : State} (h : s.aud.amiBind = []) (n : Nat) (f : Format) (info : List (Nat × List Byte)) (audio : WireAudio) :
    noteMetadata n info audio (putFormat n f s) = formatKept n f info audio s := by
  unfold noteMetadata
  dsimp only
  rw [wireAmis_of_unbound]
  · rfl
  · exact h

theorem lockedEis_of_unbound {s : State} (h : s.spl.eiBind = []) (n : Nat) (f : Format) : s.lockedEis n f = [] := by simp [State.lockedEis, h]

theorem doFormatLocked_unrouted {s : State} {n : Nat} (hn : n < 128) (hroute : Unrouted s) (hdec : s.decoding n = true)
    (hunlocked : s.bit (Reg.wirFmt n) 0 = false) {g : Format} {info : List (Nat × List Byte)} (audio : WireAudio)
    (hacc : s.accepts n (s.reported n g info) = true) :
    doFormatLocked n ⟨g, info, audio⟩ s =
      raiseWir n 0 (enginesRefresh (refreshDomain (0x40 + n) (formatKept n (s.reported n g info) info audio (formatShown n (s.reported n g info) s)))) := by
  obtain ⟨hsets, hei, -, hami, -, hhitches, -⟩ := hroute
  have hshown : ∀ f, (((s.setReg (Reg.wirFmt n) (fmtWord f)).setBit (Reg.wirFmt n) 0 true).setReg (Reg.wirFmtSize n) (fmtSizeWord f)).setReg
      (Reg.wirFmtRate n) (fmtRateWord f) = formatShown n f s := fun _ => rfl
  unfold doFormatLocked
  dsimp only
  generalize s.reported n g info = f at hacc ⊢
  rw [if_neg (by simp [hdec]), if_neg (by simp [hacc]), hunlocked, if_neg Bool.false_ne_true, tautChange_of_noSets hsets, hshown,
    tautFormats_of_noHitches ((putFormat_hitches _ _ _).trans (formatShown_hitches hn f hhitches)), noteMetadata_putFormat (by rw [formatShown_aud]; exact hami),
    lockedEis_of_unbound (by rw [formatKept_spl, formatShown_spl]; exact hei)]
  rfl

/-- What a payload identification says stands (R153). -/
theorem reported_byId {s : State} {n : Nat} (hproto : s.proto n = 1) {g : Format} (hid : g.byId = true) (info : List (Nat × List Byte)) :
    s.reported n g info = g := by simp [State.reported, hproto, hid]

theorem exec_formatLocked {s : State} {n : Nat} (hn : n < 128) (hzone : s.zone (n / 8) ≠ 3) (hroute : Unrouted s) (hdec : s.decoding n = true)
    (hunlocked : s.bit (Reg.wirFmt n) 0 = false) {g f : Format} {info : List (Nat × List Byte)} (audio : WireAudio) (hf : s.reported n g info = f)
    (hacc : s.accepts n f = true) :
    ∃ u, exec (.formatLocked n ⟨g, info, audio⟩) s = .next (raiseWir n 0 (enginesRefresh (refreshDomain (0x40 + n) u))) ∧
      u.reg (Reg.wirFmt n) = setFld (fmtWord f) 0 0 1 ∧ u.reg (Reg.wirFmtSize n) = fmtSizeWord f ∧ u.reg (Reg.wirFmtRate n) = fmtRateWord f ∧
      tabGet n u.wire.formats = some f ∧ tabGet n u.wire.audio = some audio ∧
      u = { s with out := [], regs := u.regs, wire := { s.wire with formats := u.wire.formats, mastering := u.wire.mastering, audio := u.wire.audio } } ∧
      ∀ a, a ∉ formatRegs n → u.reg a = s.reg a := by
  subst hf
  have hdo : doFormatLocked n ⟨g, info, audio⟩ s.begin = _ := doFormatLocked_unrouted (s := s.begin) hn hroute hdec hunlocked audio hacc
  have hexec : exec (.formatLocked n ⟨g, info, audio⟩) s = _ := congrArg Host.Outcome.next ((unlessStopped_runs (s := s.begin) hzone _).trans hdo)
  obtain ⟨hfmt, hsize, hrate⟩ := formatShown_regs n (s.begin.reported n g info) s.begin
  obtain ⟨hparts, hother⟩ := formatShown_writes n (s.begin.reported n g info) s.begin
  generalize formatShown n (s.begin.reported n g info) s.begin = u at hexec hfmt hsize hrate hparts hother
  refine ⟨formatKept n (s.begin.reported n g info) info audio u, hexec, hfmt, hsize, hrate, (tabGet_tabSet n n _ _).trans (if_pos rfl),
    (tabGet_tabSet n n _ _).trans (if_pos rfl), ?_, hother⟩
  rw [hparts]
  rfl

/-! FORMAT_CHANGE and FORMAT_UNKNOWN -/

/-- WIR_FMT, WIR_FMT_SIZE and WIR_FMT_RATE of a decoder that is not locked. -/
def formatCleared (n : Nat) (s : State) : State := ((s.setReg (Reg.wirFmt n) 0).setReg (Reg.wirFmtSize n) 0).setReg (Reg.wirFmtRate n) 0

theorem formatCleared_reports (n : Nat) (s : State) : Reports (formatRegs n) s (formatCleared n s) :=
  (((Reports.setReg _ _ s).trans (Reports.setReg _ _ _)).trans (Reports.setReg _ _ _)).mono (by simp [formatRegs])

theorem formatCleared_wirFmt (n : Nat) (s : State) : (formatCleared n s).reg (Reg.wirFmt n) = 0 := by
  have hne : Reg.wirFmt n ≠ Reg.wirFmtRate n ∧ Reg.wirFmt n ≠ Reg.wirFmtSize n := by simp only [Reg.wirFmt, Reg.wirFmtRate, Reg.wirFmtSize]; omega
  rw [formatCleared, State.reg_setReg_ne _ hne.1, State.reg_setReg_ne _ hne.2, State.reg_setReg, if_pos rfl]

theorem loseDecoder_forgetWire {s : State} (hei : s.spl.eiBind = []) (hami : s.aud.amiBind = []) (n : Nat) :
    loseDecoder n s = forgetWire n (formatCleared n s) := loseDecoder_unbound hei hami n

/-- Beside the wire itself, forgetting one changes nothing. -/
theorem Reports.forgetWire {l : List Nat} {s u : State} (h : Reports l s u) (n : Nat) : Reports l { s with wire := (forgetWire n u).wire } (forgetWire n u) := by
  obtain ⟨hparts, hregs⟩ := h
  refine ⟨?_, hregs⟩
  rw [hparts]
  rfl

/-- A decoder that feeds nothing loses its format and raises an event. -/
theorem raiseWir_loseDecoder {s : State} (hei : s.spl.eiBind = []) (hami : s.aud.amiBind = []) (n : Nat) {b : Nat} (hb : b < 32) :
    (raiseWir n b (loseDecoder n s)).reg (Reg.wirFmt n) = 0 ∧ tabGet n (raiseWir n b (loseDecoder n s)).wire.formats = none ∧
    (raiseWir n b (loseDecoder n s)).bit (Reg.wirEvent n) b = true ∧
    Reports (formatRegs n ++ [Reg.wirEvent n]) { s with wire := (raiseWir n b (loseDecoder n s)).wire } (raiseWir n b (loseDecoder n s)) := by
  have hfmt := formatCleared_wirFmt n s
  have hlost := (formatCleared_reports n s).forgetWire n
  rw [loseDecoder_forgetWire hei hami]
  generalize formatCleared n s = u at hfmt hlost
  have hraise := raiseWir_reports n b (forgetWire n u)
  obtain ⟨-, -, hwire, -⟩ := hraise.parts
  refine ⟨?_, ?_, raiseWir_bit_same n hb _, ?_⟩
  · rw [raiseWir_reg_ne n b _ (by simp only [Reg.wirFmt]; omega) (by simp only [Reg.wirFmt, Reg.wirEvent]; omega)]
    exact hfmt
  · rw [hwire]
    exact (tabGet_tabDel n n _).trans (if_pos rfl)
  · rw [hwire]
    exact hlost.trans hraise

theorem exec_formatChange {s : State} {n : Nat} (hzone : s.zone (n / 8) ≠ 3) (hroute : Unrouted s) (hlocked : s.bit (Reg.wirFmt n) 0 = true) :
    ∃ t, exec (.formatChange n) s = .next t ∧ t.reg (Reg.wirFmt n) = 0 ∧ tabGet n t.wire.formats = none ∧ t.bit (Reg.wirEvent n) 1 = true ∧
      Reports (formatRegs n ++ [Reg.wirEvent n]) { s with wire := t.wire } t := by
  obtain ⟨hsets, hei, -, hami, -, -, -⟩ := hroute
  have hdo : doFormatChange n s.begin = raiseWir n 1 (loseDecoder n s.begin) := by
    unfold doFormatChange
    rw [if_pos (show s.begin.bit (Reg.wirFmt n) 0 = true from hlocked), tautChange_of_noSets (s := s.begin) hsets]
  obtain ⟨hfmt, hnone, hevent, hparts, hregs⟩ := raiseWir_loseDecoder (s := s.begin) hei hami n (b := 1) (by decide)
  exact ⟨_, congrArg Host.Outcome.next ((unlessStopped_runs (s := s.begin) hzone _).trans hdo), hfmt, hnone, hevent, hparts, hregs⟩

/-- A decoder that is not locked has no format to lose. -/
theorem exec_formatChange_unlocked {s : State} {n : Nat} (hzone : s.zone (n / 8) ≠ 3) (h : s.bit (Reg.wirFmt n) 0 = false) :
    exec (.formatChange n) s = .next { s with out := [] } :=
  congrArg Host.Outcome.next ((unlessStopped_runs (s := s.begin) hzone _).trans (if_neg (Bool.eq_false_iff.mp h)))

theorem exec_formatUnknown {s : State} {n : Nat} (hzone : s.zone (n / 8) ≠ 3) (hroute : Unrouted s) (hdec : s.decoding n = true) :
    ∃ t, exec (.formatUnknown n) s = .next t ∧ t.reg (Reg.wirFmt n) = 0 ∧ t.bit (Reg.wirEvent n) 3 = true ∧
      Reports (formatRegs n ++ [Reg.wirEvent n]) { s with wire := t.wire } t := by
  obtain ⟨-, hei, -, hami, -, -, -⟩ := hroute
  obtain ⟨hfmt, -, hevent, hparts, hregs⟩ := raiseWir_loseDecoder (s := s.begin) hei hami n (b := 3) (by decide)
  exact ⟨_, congrArg Host.Outcome.next ((unlessStopped_runs (s := s.begin) hzone _).trans (if_pos hdec)), hfmt, hevent, hparts, hregs⟩

/-! ANC_OVERFLOW -/

theorem exec_ancOverflow {s : State} {n : Nat} (hzone : s.zone (n / 8) ≠ 3) (hdec : s.decoding n = true) (hlocked : s.bit (Reg.wirFmt n) 0 = true)
    {d : Nat} (hd : 255 < d) :
    ∃ t, exec (.ancOverflow n d) s = .next t ∧ t.reg (Reg.wirAncOvfCnt n) = wd (min 0xFFFFFFFF ((s.reg (Reg.wirAncOvfCnt n)).toNat + (d - 255))) ∧
      t.bit (Reg.wirEvent n) 2 = true ∧ Reports [Reg.wirAncOvfCnt n, Reg.wirEvent n] s t := by
  have hcond : (s.begin.decoding n && s.begin.bit (Reg.wirFmt n) 0 && decide (ancFieldMax < d)) = true := by
    have h1 : s.begin.decoding n = true := hdec
    have h2 : s.begin.bit (Reg.wirFmt n) 0 = true := hlocked
    simp [h1, h2, ancFieldMax, hd]
  refine ⟨_, congrArg Host.Outcome.next ((unlessStopped_runs (s := s.begin) hzone _).trans (if_pos hcond)), ?_, raiseWir_bit_same n (by decide) _, ?_⟩
  · rw [raiseWir_reg_ne n 2 _ (by simp only [Reg.wirAncOvfCnt]; omega) (by simp only [Reg.wirAncOvfCnt, Reg.wirEvent]; omega), State.reg_bump, if_pos rfl]
    rfl
  · exact ((Reports.begin s).trans (Reports.bump _ _ _)).trans (raiseWir_reports n 2 _)

/-- A field that a decoder carries whole is no overflow. -/
theorem exec_ancOverflow_fits {s : State} {n : Nat} (hzone : s.zone (n / 8) ≠ 3) {d : Nat} (hd : d ≤ 255) :
    exec (.ancOverflow n d) s = .next { s with out := [] } := by
  have hcond : ¬ (s.begin.decoding n && s.begin.bit (Reg.wirFmt n) 0 && decide (ancFieldMax < d)) = true := by
    simp [ancFieldMax, Nat.not_lt.mpr hd]
  exact congrArg Host.Outcome.next ((unlessStopped_runs (s := s.begin) hzone _).trans (if_neg hcond))

/-- Settles O37: each event writes the format registers of its decoder, its counter and its event register, and no other. -/
theorem decoderFormats : Obligations.DecoderFormats := by
  intro s n hn hzone wir
  refine ⟨fun g info audio hroute hdec hunlocked => ?_, exec_formatChange hzone, exec_formatChange_unlocked hzone, exec_formatUnknown hzone,
    fun d hdec hlocked => ⟨exec_ancOverflow hzone hdec hlocked, exec_ancOverflow_fits hzone⟩⟩
  exact ⟨fun hproto hid => reported_byId hproto hid info, exec_formatLocked hn hzone hroute hdec hunlocked audio rfl⟩

end Sys2Proof.Machine
end

section
/-! What an interface sends: frames without MACsec, and what its transmitter depends on (R162, R163, R180). -/

namespace Sys2Proof.Machine

open Sys2Proof

/-! Transmitters -/

/-- An interface that may send is led by a strand. -/
theorem lt_of_mayTransmit {s : State} {n : Nat} (h : s.mayTransmit n = true) : n < 128 := by
  simp only [State.mayTransmit, State.leads, Bool.and_eq_true, decide_eq_true_eq] at h
  obtain ⟨⟨-, hlead⟩, -⟩ := h
  exact hlead ▸ leader_lt s n

theorem members_lt {s : State} {n k : Nat} (hk : k ∈ s.members n) : k < 136 := by
  have hlead := leader_lt s n
  have hfield : s.f (Reg.strCfg (s.leader n)) 3 2 < 4 := Nat.mod_lt _ (by decide)
  have hwidth : s.width (s.leader n) ≤ 2 ^ 3 := Nat.pow_le_pow_right (by decide) (by omega)
  simp only [State.members, List.mem_map, List.mem_range] at hk
  obtain ⟨j, hj, rfl⟩ := hk
  omega

/-- Whether an interface may send is read from the configuration and the state of its strands and from the hitches of the strand matrix (R163). -/
theorem mayTransmit_of_reg {s t : State} {n : Nat} (hn : n < 128)
    (hcfg : ∀ k, k < 136 → t.reg (Reg.strCfg k) = s.reg (Reg.strCfg k)) (hstate : ∀ k, k < 136 → t.reg (Reg.strState k) = s.reg (Reg.strState k))
    (hsrc : ∀ d, t.reg (Reg.splSrc (destWin d)) = s.reg (Reg.splSrc (destWin d))) : t.mayTransmit n = s.mayTransmit n := by
  obtain ⟨hmembers, hlead, hproto⟩ := cfg_of_reg (fun k hk => hcfg k (by omega)) hn
  have hmember : ∀ k ∈ s.members n, (decide (1 ≤ t.tx k) && !t.tautHeld k) = (decide (1 ≤ s.tx k) && !s.tautHeld k) := by
    intro k hk
    have htx : t.tx k = s.tx k := State.f_of_reg (hstate k (members_lt hk)) 5 4
    have hheld : t.tautHeld k = s.tautHeld k := by
      unfold State.tautHeld State.hitch
      rw [State.bit_of_reg (hsrc _), State.f_of_reg (hsrc _)]
    rw [htx, hheld]
  have hall : (s.members n).all (fun k => decide (1 ≤ t.tx k) && !t.tautHeld k) = (s.members n).all (fun k => decide (1 ≤ s.tx k) && !s.tautHeld k) := by
    rw [Bool.eq_iff_iff, List.all_eq_true, List.all_eq_true]
    exact forall₂_congr fun k hk => by rw [hmember k hk]
  unfold State.mayTransmit State.leads
  rw [hproto, hlead, hmembers, hall]

/-! Frames -/

/-- A frame leaves padded and in clear: an EAPOL or LLDP frame always, others without MACsec (R162, R182). -/
theorem sendFrame_clear {s : State} {n kind : Nat} (hmay : s.mayTransmit n = true) (hzone : s.zone (n / 8) ≠ 3)
    (hclear : kind = 0 ∨ s.bit (Reg.ethIfCtrl n) 16 = false) (frame : List Nat) :
    sendFrame n kind frame s = s.emit (.frame n kind (natBytes (padFrame frame))) := by
  have hsends : ¬ (!s.mayTransmit n || s.stopped (n / 8)) = true := by simp [hmay, State.stopped, hzone]
  unfold sendFrame
  rw [if_neg hsends, if_pos (hclear.imp id .inl)]

/-- An IPv4 packet leaves in one frame. -/
theorem sendIp_clear {s : State} {n kind : Nat} (hmay : s.mayTransmit n = true) (hzone : s.zone (n / 8) ≠ 3) (hclear : s.bit (Reg.ethIfCtrl n) 16 = false)
    (tci dscp src dst proto : Nat) (options payload : List Nat) :
    ∃ b, sendIp n kind tci dscp src dst proto options payload s = s.emit (.frame n kind b) :=
  ⟨_, sendFrame_clear hmay hzone (.inr hclear) _⟩

theorem natBytes_byteNats (b : List Byte) : natBytes (byteNats b) = b := by simp [natBytes, byteNats, Function.comp_def]

theorem natBytes_padFrame (b : List Byte) : natBytes (padFrame (byteNats b)) = b ++ List.replicate (60 - b.length) 0 := by
  have hlen : (byteNats b).length = b.length := List.length_map ..
  have hpad : natBytes (List.replicate (60 - b.length) 0) = List.replicate (60 - b.length) 0 := List.map_replicate ..
  have happ : natBytes (padFrame (byteNats b)) = natBytes (byteNats b) ++ natBytes (List.replicate (60 - (byteNats b).length) 0) := List.map_append ..
  rw [happ, hlen, hpad, natBytes_byteNats]

end Sys2Proof.Machine
end

section
/-! ETH_SEND_FRAME, MACSEC_SA_SET and the PTP messages of a port: one lemma per command (R162, R163, R179 to R181, R551). -/

namespace Sys2Proof.Machine

open Sys2Proof

/-! ETH_SEND_FRAME and FRAME_SENT -/

theorem objClass_objCode {c n : Nat} (hn : n < 0x1000000) : objClass (objCode c n) = c ∧ objIndex (objCode c n) = n := by
  simp only [objClass, objIndex, objCode]
  omega

/-- A strand whose zone runs is in a zone that is not STOPPED. -/
theorem zone_of_needZone_strand {s : State} {n : Nat} (hn : n < 128) (h : needZone (objStrand n) s = none) : s.zone (n / 8) ≠ 3 := by
  have hruns := need_none h
  obtain ⟨hclass, hindex⟩ := objClass_objCode (c := 0x1C) (n := n) (by omega)
  have hzone : zoneOfObj (objStrand n) = some (n / 8) := by
    unfold zoneOfObj objStrand
    rw [hclass, hindex]
    rfl
  simp only [State.zoneRuns, hzone, decide_eq_true_eq] at hruns
  omega

theorem exec_ethSendFrame {s : State} {o : Origin} (hacc : Accepted o s) {n : Nat} {b : List Byte}
    (hcheck : ethSendFrameCheck o n b.length (some b) s.begin = none) :
    exec (.ethSendFrame o n b.length (some b)) s =
      .next { s with out := [Output.frame n 0 (b ++ List.replicate (60 - b.length) 0)], wire := { s.wire with sending := tabSet n o s.wire.sending } } := by
  have hall := firstRefusal_none hcheck
  simp only [List.forall_mem_cons] at hall
  obtain ⟨-, -, -, hfree, hzone, -⟩ := hall
  obtain ⟨hmay, -⟩ := Bool.and_eq_true_iff.mp (need_none hfree)
  have hsend := sendFrame_clear (s := setWire { s.wire with sending := tabSet n o s.wire.sending } s.begin) (kind := 0) hmay
    (zone_of_needZone_strand (s := s.begin) (lt_of_mayTransmit hmay) hzone) (.inl rfl) (byteNats (b.take b.length))
  have hexec : exec (.ethSendFrame o n b.length (some b)) s = _ := congrArg Host.Outcome.next ((loneCommand_accepted hacc .early hcheck _).trans hsend)
  rw [hexec, List.take_length, natBytes_padFrame]
  rfl

theorem exec_frameSent {s : State} {n : Nat} {o : Origin} (h : tabGet n s.wire.sending = some o) :
    exec (.frameSent n) s = .next (completeOk o { s with out := [], wire := { s.wire with sending := tabDel n s.wire.sending } }) := by
  have h' : tabGet n s.begin.wire.sending = some o := h
  have hdo : doFrameSent n s.begin = completeOk o (setWire { s.begin.wire with sending := tabDel n s.begin.wire.sending } s.begin) := by
    unfold doFrameSent
    rw [h']
  exact congrArg Host.Outcome.next hdo

/-! MACSEC_SA_SET -/

/-- An association is installed. -/
def saInstalled (k : Nat) (a : Sa) (s : State) : State := setWire { s.wire with sas := tabSet k a s.wire.sas } s

/-- The slots of the association that was replaced and of the new one show that they are in use (R714), and PN_LIMIT is raised at its threshold (R182). -/
theorem macsecSaSetEffect_writes (o : Origin) (n : Nat) (receive : Bool) (channel an key : Nat) (pn : DWord) (ssci : Word) (salt : Nat) (s : State) :
    ∃ t, macsecSaSetEffect o n receive channel an key pn ssci salt s = completeOk o t ∧
      Writes (fun _ => True) (saInstalled (saKey n receive channel an) ⟨key, pn.toNat, ssci, salt, true⟩ s) t := by
  unfold macsecSaSetEffect
  extract_lets k old w s1 s2 s3
  have hslot : ∀ j u, Writes (fun _ => True) u (refreshSlot j u) := fun j u => Writes.setReg trivial _ u
  have h2 : Writes (fun _ => True) s1 s2 := Writes.ite (Writes.setReg trivial _ s1) (Writes.refl _ s1)
  have h3 : Writes (fun _ => True) s2 s3 := by
    unfold s3
    clear_value old s2
    split
    · exact hslot _ s2
    · exact Writes.refl _ s2
  exact ⟨_, rfl, (h2.trans h3).trans (hslot key s3)⟩

theorem exec_macsecSaSet {s : State} {o : Origin} (hacc : Accepted o s) {n : Nat} {receive : Bool} {channel an key : Nat} {pn : DWord} (ssci : Word) (salt : Nat)
    (hcheck : macsecSaSetCheck o n receive channel an key pn s.begin = none) :
    ∃ t, exec (.macsecSaSet o n receive channel an key pn ssci salt) s = .next (completeOk o t) ∧
      (∀ j, tabGet j t.wire.sas = if j = saKey n receive channel an then some ⟨key, pn.toNat, ssci, salt, true⟩ else tabGet j s.wire.sas) ∧
      t.key = s.key ∧ t.wire.flows = s.wire.flows := by
  obtain ⟨t, heffect, hparts, -⟩ := macsecSaSetEffect_writes o n receive channel an key pn ssci salt s.begin
  refine ⟨t, congrArg Host.Outcome.next ((loneCommand_accepted hacc .working hcheck _).trans heffect), fun j => ?_, ?_, ?_⟩
  · rw [hparts]
    exact tabGet_tabSet _ _ _ _
  · rw [hparts]
    rfl
  · rw [hparts]
    rfl

/-! PTP -/

section
variable {s : State} {n d : Nat}

theorem ptpPort_of_ctrl (hclocks : s.clocksRun = true) (hon : s.bit (Reg.ethIfCtrl n) 0 = true) : s.ptpPort n (s.f (Reg.ethIfCtrl n) 15 8) = true := by
  simp [State.ptpPort, hclocks, hon]

theorem exec_announce_first (hport : s.ptpPort n d = true) (hzone : s.zone (n / 8) ≠ 3) (hparent : s.tim.parent = none) :
    exec (.ptpMessageRx n (.announce d true)) s = .next { s with out := [], tim := { s.tim with parent := some n } } := by
  have hnew : newParent n s.begin = setTim { s.begin.tim with parent := some n } s.begin := by
    unfold newParent
    rw [show s.begin.tim.parent = none from hparent]
    rfl
  have hdo : doPtpMessageRx n (.announce d true) s.begin = newParent n s.begin :=
    if_pos (Bool.and_eq_true_iff.mpr ⟨hport, rfl⟩)
  exact congrArg Host.Outcome.next ((unlessStopped_runs (s := s.begin) hzone _).trans (hdo.trans hnew))

/-- A Sync counts at the parent's port alone. -/
theorem exec_sync_other (hzone : s.zone (n / 8) ≠ 3) (hparent : s.tim.parent ≠ some n) (d : Nat) (off : Int) (ok two : Bool) :
    exec (.ptpMessageRx n (.sync d off ok two)) s = .next { s with out := [] } := by
  have hnot : ¬ (s.ptpPort n d && decide (s.tim.parent = some n)) = true := by simp [hparent]
  exact congrArg Host.Outcome.next ((unlessStopped_runs (s := s.begin) hzone _).trans (if_neg hnot))

theorem exec_delayResp (hport : s.ptpPort n d = true) (hzone : s.zone (n / 8) ≠ 3) {x : Nat} (hout : tabGet n s.tim.delayOut = some x)
    (hmay : s.mayTransmit n = true) (mean : Int) :
    ∃ t, exec (.ptpMessageRx n (.delayResp d mean)) s = .next t ∧ tabGet n t.tim.delayOut = none ∧
      tabGet n t.wire.pathDelay = some (mean - (s.rxLatency n + s.txLatency n) / 2) ∧ t.regs = s.regs := by
  have hcond : (s.ptpPort n d && s.mayTransmit n && (tabGet n s.tim.delayOut).isSome) = true := by simp [hport, hmay, hout]
  exact ⟨_, congrArg Host.Outcome.next ((unlessStopped_runs (s := s.begin) hzone _).trans (if_pos hcond)),
    (tabGet_tabDel n n _).trans (if_pos rfl), (tabGet_tabSet n n _ _).trans (if_pos rfl), rfl⟩

/-- A Delay_Req awaits its answer, and the next one has the next number. -/
def delayAsked (n : Nat) (s : State) : State :=
  setTim { s.tim with delayOut := tabSet n s.now s.tim.delayOut }
    { s with wire := { s.wire with ptpSeq := tabSet n ((tabGetD 0 n s.wire.ptpSeq + 1) % 0x10000) s.wire.ptpSeq } }

theorem exec_delayReq (hport : s.ptpPort n (s.f (Reg.ethIfCtrl n) 15 8) = true) (hzone : s.zone (n / 8) ≠ 3) (hparent : s.tim.parent = some n)
    (hmay : s.mayTransmit n = true) (hclear : s.bit (Reg.ethIfCtrl n) 16 = false) :
    ∃ t b, exec (.delayReq n) s = .next t ∧ t.out = [Output.frame n 1 b] ∧ tabGet n t.tim.delayOut = some s.now ∧
      tabGet n t.wire.ptpSeq = some ((tabGetD 0 n s.wire.ptpSeq + 1) % 0x10000) ∧
      t = { s with out := t.out, draws := t.draws, tim := { s.tim with delayOut := t.tim.delayOut }, wire := { s.wire with ptpSeq := t.wire.ptpSeq } } := by
  have hcond : (s.ptpPort n (s.f (Reg.ethIfCtrl n) 15 8) && decide (s.tim.parent = some n) && s.mayTransmit n) = true := by simp [hport, hparent, hmay]
  obtain ⟨b, hsend⟩ := sendIp_clear (s := delayAsked n s.begin) (kind := 1) hmay hzone hclear 0 0 (s.ifIp n) 0xE0000181 17 []
    (udp 319 319 (delayReq (s.ifMac n) (s.f (Reg.ethIfCtrl n) 15 8) (tabGetD 0 n s.wire.ptpSeq)))
  exact ⟨_, b, congrArg Host.Outcome.next ((unlessStopped_runs (s := s.begin) hzone _).trans ((if_pos hcond).trans (congrArg State.draw hsend))), rfl,
    (tabGet_tabSet n n _ _).trans (if_pos rfl), (tabGet_tabSet n n _ _).trans (if_pos rfl), rfl⟩

end

/-- Settles O39: what leaves is one frame in clear, and each command changes only what it keeps of it. -/
theorem interfaceSends : Obligations.InterfaceSends := by
  intro s n
  refine ⟨fun o b hacc hcheck => exec_ethSendFrame hacc hcheck, fun o h => exec_frameSent h,
    fun o receive channel an key pn ssci salt hacc hcheck => exec_macsecSaSet hacc ssci salt hcheck, fun hclocks hon hzone => ?_⟩
  have hport := ptpPort_of_ctrl hclocks hon
  exact ⟨exec_announce_first hport hzone, fun off ok two hparent => exec_sync_other hzone hparent _ off ok two,
    fun mean x hout hmay => exec_delayResp hport hzone hout hmay mean, exec_delayReq hport hzone⟩

end Sys2Proof.Machine
end

section
/-! What an interface makes of a frame that it receives: what is dropped, answered or passed on (R157 to R159, R173). -/

namespace Sys2Proof.Machine

open Sys2Proof

/-! Reception -/

/-- The uncorrectable codewords of a frame are counted (R117). -/
def rxErrors (n : Nat) (f : RxFrame) (s : State) : State := s.bump (Reg.strProtoErr n) f.uncorrectable

theorem rxErrors_reg (n : Nat) (f : RxFrame) (s : State) {a : Nat} (h : a ≠ Reg.strProtoErr n) : (rxErrors n f s).reg a = s.reg a := State.reg_setReg_ne s h _

section
variable {s : State} {n : Nat} {f : RxFrame}

/-- A register of an interface is none of a strand. -/
theorem rxErrors_ethIf (hn : n < 128) (s : State) {a : Nat} (h : 0x128000 ≤ a) : (rxErrors n f s).reg a = s.reg a :=
  rxErrors_reg n f s (by simp only [Reg.strProtoErr]; omega)

theorem rxErrors_ifMac (hn : n < 128) (s : State) : (rxErrors n f s).ifMac n = s.ifMac n := by
  unfold State.ifMac
  rw [rxErrors_ethIf hn s (by simp only [Reg.ethIfMacLo]; omega), State.f_of_reg (rxErrors_ethIf hn s (by simp only [Reg.ethIfMacHi]; omega))]

theorem rxErrors_ifIp (hn : n < 128) (s : State) : (rxErrors n f s).ifIp n = s.ifIp n := by
  unfold State.ifIp
  rw [rxErrors_ethIf hn s (by simp only [Reg.ethIfIpv4]; omega)]

theorem rxErrors_macsec (hn : n < 128) (s : State) : (rxErrors n f s).bit (Reg.ethIfCtrl n) 16 = s.bit (Reg.ethIfCtrl n) 16 :=
  State.bit_of_reg (rxErrors_ethIf hn s (by simp only [Reg.ethIfCtrl]; omega)) 16

theorem rxErrors_frameFor (hn : n < 128) (s : State) (dst : Nat) : (rxErrors n f s).frameFor n dst = s.frameFor n dst := by
  unfold State.frameFor
  rw [rxErrors_ifMac hn]

theorem rxErrors_mayTransmit (hn : n < 128) (s : State) : (rxErrors n f s).mayTransmit n = s.mayTransmit n :=
  mayTransmit_of_reg hn (fun k _ => rxErrors_reg n f s (by simp only [Reg.strCfg, Reg.strProtoErr]; omega))
    (fun k _ => rxErrors_reg n f s (by simp only [Reg.strState, Reg.strProtoErr]; omega))
    (fun d => rxErrors_reg n f s (by simp only [Reg.splSrc, Reg.strProtoErr, destWin]; split <;> omega))

theorem rxErrors_zone (n : Nat) (f : RxFrame) (s : State) (z : Nat) : (rxErrors n f s).zone z = s.zone z :=
  State.f_of_reg (rxErrors_reg n f s (by simp only [Reg.sysZoneState, Reg.strProtoErr]; omega)) _ _

/-! Delivery -/

theorem deliverFrame_unreadable {l : List Nat} (h : parseEth l = none) (n : Nat) (s : State) : deliverFrame n l s = dropRx n s := by
  unfold deliverFrame
  rw [h]

/-- What is not for the interface, or of no kind it knows, is dropped. -/
theorem deliverFrame_unwanted {l : List Nat} {e : EthFrame} (h : parseEth l = some e)
    (hnot : s.frameFor n e.dst = false ∨ e.etherType ≠ 0x0806 ∧ e.etherType ≠ 0x0800) : deliverFrame n l s = dropRx n s := by
  unfold deliverFrame
  rw [h]
  dsimp only
  rcases hnot with hfor | ⟨harp, hip⟩
  · rw [hfor]
    exact if_pos rfl
  · rw [if_neg harp, if_neg hip, ite_self]

theorem deliverFrame_arp {l : List Nat} {e : EthFrame} (h : parseEth l = some e) (hfor : s.frameFor n e.dst = true) (harp : e.etherType = 0x0806)
    {r : List Nat} (hreply : arpReply (s.ifMac n) (s.ifIp n) e = some r) : deliverFrame n l s = sendFrame n 2 r s := by
  have hfor' : ¬ (!s.frameFor n e.dst) = true := by simp [hfor]
  unfold deliverFrame
  rw [h]
  dsimp only
  rw [if_neg hfor', if_pos harp, hreply]

/-- A packet of a flow is passed on, and changes nothing here. -/
theorem deliverIp_flow {e : EthFrame} {p : Ipv4} (hoptions : p.options = false) (hfragment : p.fragment = false) (hudp : p.proto = 17)
    (hflow : s.flowTakes n e.tci p.src p.dst (beNumAt p.payload 2 2) = true) : deliverIp n e p s = s := by
  have hwhole : ¬ (p.options || p.fragment) = true := by simp [hoptions, hfragment]
  have hquery : ¬ (p.options && decide (p.proto = 2) && decide (p.payload.headD 0 = 0x11)) = true := by simp [hoptions]
  unfold deliverIp
  rw [if_neg hquery, if_neg hwhole, hudp]
  exact if_pos (by rw [hflow, Bool.or_true])

theorem deliverFrame_flow {l : List Nat} {e : EthFrame} (h : parseEth l = some e) (hfor : s.frameFor n e.dst = true) (hip : e.etherType = 0x0800)
    {p : Ipv4} (hp : parseIpv4 e.payload = some p) (hoptions : p.options = false) (hfragment : p.fragment = false) (hudp : p.proto = 17)
    (hflow : s.flowTakes n e.tci p.src p.dst (beNumAt p.payload 2 2) = true) : deliverFrame n l s = s := by
  have hfor' : ¬ (!s.frameFor n e.dst) = true := by simp [hfor]
  unfold deliverFrame
  rw [h]
  dsimp only
  rw [if_neg hfor', if_neg (by rw [hip]; decide), if_pos hip, hp]
  exact deliverIp_flow hoptions hfragment hudp hflow

/-! ETH_FRAME_RX of an interface without FEC and MACsec -/

theorem macsecOpen_off (h : s.bit (Reg.ethIfCtrl n) 16 = false) (l : List Nat) : macsecOpen n l s = some (l, s) := by
  unfold macsecOpen
  rw [h]
  rfl

/-- The EtherType of a frame, 0 of one that cannot be read. -/
def typeOfFrame (f : RxFrame) : Nat := ((parseEth (byteNats f.frame)).map (fun e => e.etherType)).getD 0

/-- An interface that receives in clear. -/
structure RxClear (n : Nat) (s : State) : Prop where
  interface : s.isInterface n = true
  up : s.rx n = .up
  noFec : s.hasFec n = false
  noMacsec : s.bit (Reg.ethIfCtrl n) 16 = false

theorem RxClear.lt (h : RxClear n s) : n < 128 := by
  have hinterface := h.interface
  simp only [State.isInterface, Bool.and_eq_true, decide_eq_true_eq] at hinterface
  obtain ⟨⟨hn, -⟩, -⟩ := hinterface
  exact hn

theorem doEthFrameRx_clear (h : RxClear n s) (f : RxFrame) :
    doEthFrameRx n f s = if f.overflow then (rxErrors n f s).bump (Reg.ethIfRxOvfCnt n) 1
      else if typeOfFrame f = 0x888E ∨ typeOfFrame f = 0x88CC then mgmtFrame n (typeOfFrame f) f.frame (rxErrors n f s)
      else deliverFrame n (byteNats f.frame) (rxErrors n f s) := by
  have hup : ¬ (!(s.isInterface n && decide (s.rx n = .up))) = true := by simp [h.interface, h.up]
  have hopen := macsecOpen_off ((rxErrors_macsec (f := f) h.lt s).trans h.noMacsec) (byteNats f.frame)
  unfold rxErrors at hopen
  unfold doEthFrameRx
  dsimp only
  rw [if_neg hup, h.noFec, if_neg Bool.false_ne_true, hopen]
  rfl

/-- What ETH_FRAME_RX does to a frame that fits the receive buffer and is neither EAPOL nor LLDP. -/
theorem exec_ethFrameRx_deliver (h : RxClear n s) (hzone : s.zone (n / 8) ≠ 3) (hfits : f.overflow = false)
    (htype : typeOfFrame f ≠ 0x888E ∧ typeOfFrame f ≠ 0x88CC) :
    exec (.ethFrameRx n f) s = .next (deliverFrame n (byteNats f.frame) (rxErrors n f s.begin)) := by
  have hclear : RxClear n s.begin := ⟨h.interface, h.up, h.noFec, h.noMacsec⟩
  have hdo : doEthFrameRx n f s.begin = deliverFrame n (byteNats f.frame) (rxErrors n f s.begin) := by
    rw [doEthFrameRx_clear hclear, hfits, if_neg Bool.false_ne_true, if_neg (not_or.mpr htype)]
  exact congrArg Host.Outcome.next ((unlessStopped_runs (s := s.begin) hzone _).trans hdo)

/-- STR_PROTO_ERR counts, registers listed may change, and what is sent is given. -/
def OnlyErrors (n : Nat) (f : RxFrame) (out : List Output) (l : List Nat) (s t : State) : Prop :=
  t = { s with out := out, regs := t.regs } ∧ t.reg (Reg.strProtoErr n) = wd (min 0xFFFFFFFF ((s.reg (Reg.strProtoErr n)).toNat + f.uncorrectable)) ∧
  ∀ a, a ≠ Reg.strProtoErr n → a ∉ l → t.reg a = s.reg a

theorem rxErrors_onlyErrors (n : Nat) (f : RxFrame) (s : State) : OnlyErrors n f [] [] s (rxErrors n f s.begin) :=
  ⟨rfl, by rw [rxErrors, State.reg_bump, if_pos rfl]; rfl, fun _ ha _ => rxErrors_reg n f s.begin ha⟩

theorem OnlyErrors.emit {out : List Output} {l : List Nat} {t : State} (h : OnlyErrors n f out l s t) (o : Output) : OnlyErrors n f (out ++ [o]) l s (t.emit o) := by
  obtain ⟨hparts, herr, hother⟩ := h
  refine ⟨?_, herr, hother⟩
  rw [hparts]
  rfl

/-- A frame that only counts, in STR_PROTO_ERR and in one register of the interface. -/
theorem rxErrors_counts (hn : n < 128) {a : Nat} (ha : 0x128000 ≤ a) (f : RxFrame) (s : State) :
    ((rxErrors n f s.begin).bump a 1).reg a = wd (min 0xFFFFFFFF ((s.reg a).toNat + 1)) ∧ OnlyErrors n f [] [a] s ((rxErrors n f s.begin).bump a 1) := by
  obtain ⟨hparts, herr, hother⟩ := rxErrors_onlyErrors n f s
  have hne : Reg.strProtoErr n ≠ a := by simp only [Reg.strProtoErr]; omega
  refine ⟨?_, ?_, ?_, fun b hb hba => ?_⟩
  · rw [State.reg_bump, if_pos rfl, rxErrors_ethIf hn _ ha]
    rfl
  · generalize rxErrors n f s.begin = u at hparts
    rw [hparts]
    rfl
  · rw [State.reg_bump, if_neg hne, herr]
  · rw [State.reg_bump, if_neg (by simpa using hba), hother b hb (List.not_mem_nil)]

theorem exec_ethFrameRx_overflow (h : RxClear n s) (hzone : s.zone (n / 8) ≠ 3) (hovf : f.overflow = true) :
    ∃ t, exec (.ethFrameRx n f) s = .next t ∧ t.reg (Reg.ethIfRxOvfCnt n) = wd (min 0xFFFFFFFF ((s.reg (Reg.ethIfRxOvfCnt n)).toNat + 1)) ∧
      OnlyErrors n f [] [Reg.ethIfRxOvfCnt n] s t := by
  have hclear : RxClear n s.begin := ⟨h.interface, h.up, h.noFec, h.noMacsec⟩
  have hdo : doEthFrameRx n f s.begin = (rxErrors n f s.begin).bump (Reg.ethIfRxOvfCnt n) 1 := by rw [doEthFrameRx_clear hclear, if_pos hovf]
  exact ⟨_, congrArg Host.Outcome.next ((unlessStopped_runs (s := s.begin) hzone _).trans hdo),
    rxErrors_counts h.lt (by simp only [Reg.ethIfRxOvfCnt]; omega) f s⟩

/-- A frame that delivery drops. -/
theorem exec_ethFrameRx_dropped (h : RxClear n s) (hzone : s.zone (n / 8) ≠ 3) (hfits : f.overflow = false)
    (htype : typeOfFrame f ≠ 0x888E ∧ typeOfFrame f ≠ 0x88CC)
    (hdrop : deliverFrame n (byteNats f.frame) (rxErrors n f s.begin) = dropRx n (rxErrors n f s.begin)) :
    ∃ t, exec (.ethFrameRx n f) s = .next t ∧ t.reg (Reg.ethIfRxDropCnt n) = wd (min 0xFFFFFFFF ((s.reg (Reg.ethIfRxDropCnt n)).toNat + 1)) ∧
      OnlyErrors n f [] [Reg.ethIfRxDropCnt n] s t :=
  ⟨_, (exec_ethFrameRx_deliver h hzone hfits htype).trans (congrArg Host.Outcome.next hdrop),
    rxErrors_counts h.lt (by simp only [Reg.ethIfRxDropCnt]; omega) f s⟩

theorem typeOfFrame_unreadable (h : parseEth (byteNats f.frame) = none) : typeOfFrame f = 0 := by rw [typeOfFrame, h]; rfl

theorem typeOfFrame_read {e : EthFrame} (h : parseEth (byteNats f.frame) = some e) : typeOfFrame f = e.etherType := by rw [typeOfFrame, h]; rfl

/-- An ARP request for the interface is answered (R157, R159). -/
theorem exec_ethFrameRx_arp (h : RxClear n s) (hzone : s.zone (n / 8) ≠ 3) (hfits : f.overflow = false) {e : EthFrame} (he : parseEth (byteNats f.frame) = some e)
    (hfor : s.frameFor n e.dst = true) (harp : e.etherType = 0x0806) {r : List Nat} (hreply : arpReply (s.ifMac n) (s.ifIp n) e = some r)
    (hmay : s.mayTransmit n = true) :
    ∃ t, exec (.ethFrameRx n f) s = .next t ∧ OnlyErrors n f [Output.frame n 2 (natBytes (padFrame r))] [] s t := by
  have hreply' : arpReply ((rxErrors n f s.begin).ifMac n) ((rxErrors n f s.begin).ifIp n) e = some r := by
    rw [rxErrors_ifMac h.lt, rxErrors_ifIp h.lt]
    exact hreply
  have hdeliver := deliverFrame_arp he ((rxErrors_frameFor h.lt s.begin e.dst).trans hfor) harp hreply'
  have hmay' : (rxErrors n f s.begin).mayTransmit n = true := (rxErrors_mayTransmit h.lt s.begin).trans hmay
  have hzone' : (rxErrors n f s.begin).zone (n / 8) ≠ 3 := fun hstopped => hzone ((rxErrors_zone n f s.begin _).symm.trans hstopped)
  have hclear' : (rxErrors n f s.begin).bit (Reg.ethIfCtrl n) 16 = false := (rxErrors_macsec h.lt s.begin).trans h.noMacsec
  have hexec := exec_ethFrameRx_deliver h hzone hfits (by rw [typeOfFrame_read he, harp]; decide)
  have honly := rxErrors_onlyErrors n f s
  generalize rxErrors n f s.begin = u at hdeliver hmay' hzone' hclear' hexec honly
  exact ⟨_, hexec.trans (congrArg Host.Outcome.next (hdeliver.trans (sendFrame_clear hmay' hzone' (.inr hclear') r))), honly.emit _⟩

/-- A UDP packet of an enabled receive flow is passed on (R157, R159). -/
theorem exec_ethFrameRx_flow (h : RxClear n s) (hzone : s.zone (n / 8) ≠ 3) (hfits : f.overflow = false) {e : EthFrame} (he : parseEth (byteNats f.frame) = some e)
    (hfor : s.frameFor n e.dst = true) (hip : e.etherType = 0x0800) {p : Ipv4} (hp : parseIpv4 e.payload = some p) (hoptions : p.options = false)
    (hfragment : p.fragment = false) (hudp : p.proto = 17) (hflow : s.flowTakes n e.tci p.src p.dst (beNumAt p.payload 2 2) = true) :
    ∃ t, exec (.ethFrameRx n f) s = .next t ∧ OnlyErrors n f [] [] s t := by
  have hdeliver := deliverFrame_flow (s := rxErrors n f s.begin) he ((rxErrors_frameFor h.lt s.begin e.dst).trans hfor) hip hp hoptions hfragment hudp hflow
  exact ⟨_, (exec_ethFrameRx_deliver h hzone hfits (by rw [typeOfFrame_read he, hip]; decide)).trans (congrArg Host.Outcome.next hdeliver),
    rxErrors_onlyErrors n f s⟩

end

end Sys2Proof.Machine
end

section
/-! EAPOL and LLDP frames, and the answers to an IGMP query (R158, R160, R640). -/

namespace Sys2Proof.Machine

open Sys2Proof

section
variable {s : State} {n : Nat}

/-! MGMT_RX -/

theorem contEntries_nil (fuel k : Nat) : contEntries fuel k [] = [] := by cases fuel <;> rfl

theorem setEvq_evq (t : Nat) (r : RingState EventEntry) (s : State) : (s.setEvq t r).evq t = r := (tabGetD_tabSet _ t t _ _).trans (if_pos rfl)

theorem evq_emit_setF (a hi lo v : Nat) (o : Output) (s : State) : ((s.setF a hi lo v).emit o).evq = s.evq := rfl

/-- An entry written to a ring keeps what it says. -/
theorem writeEvent_entries (t : Nat) (e : EventEntry) (s : State) :
    ∃ phase seq, ((writeEvent t e s).evq t).entries = (s.evq t).entries ++ [{ e with phase := phase, seq := seq }] := by
  unfold writeEvent
  dsimp only
  rw [evq_emit_setF, setEvq_evq]
  exact ⟨_, _, rfl⟩

theorem postEvent_room {t : Nat} (ht : t < 4) (hon : s.bit (Reg.tenEvqCfg t) 0 = true) (hbme : s.bme t = true)
    (hroom : (s.evq t).entries.length < s.evqSize t - 1) (e : EventEntry) : postEvent t e s = writeEvent t e s := by
  have hthere : ¬ (decide (4 ≤ t) || !s.bit (Reg.tenEvqCfg t) 0) = true := by simp [hon, ht]
  unfold postEvent
  dsimp only
  rw [if_neg hthere, hbme, if_neg (by decide), if_neg (by omega)]

/-- A frame of at most 40 bytes takes one entry of a ring that has room (R640). -/
theorem queueFrame_short {t : Nat} (ht : t < 4) (hon : s.bit (Reg.tenEvqCfg t) 0 = true) (hbme : s.bme t = true)
    (hroom : (s.evq t).entries.length < s.evqSize t - 1) (n : Nat) {frame : List Byte} (hlen : frame.length ≤ 40) :
    queueFrame t n frame s = writeEvent t (mkEvent s 3 (objIface n) frame.length frame) s := by
  have hfull : ¬ (s.bme t && decide (s.evqSize t - 1 < (s.evq t).entries.length + [mkEvent s 3 (objIface n) frame.length frame].length)) = true := by
    rw [hbme, Bool.true_and, decide_eq_true_eq, List.length_singleton]
    omega
  unfold queueFrame
  rw [List.take_of_length_le hlen, List.drop_of_length_le hlen, contEntries_nil]
  dsimp only
  rw [hon, if_neg (by decide), if_neg hfull, List.foldl_cons, List.foldl_nil, postEvent_room ht hon hbme hroom]

theorem exec_mgmtRx (hif : s.isInterface n = true) (hup : s.rx n = .up) (hzone : s.zone (n / 8) ≠ 3) (et : Nat) (frame : List Byte) :
    exec (.mgmtRx n et frame) s = .next (mgmtFrame n et frame s.begin) :=
  congrArg Host.Outcome.next ((unlessStopped_runs (s := s.begin) hzone _).trans (if_pos (Bool.and_eq_true_iff.mpr ⟨hif, decide_eq_true hup⟩)))

/-- An interface that queues management frames sends them to its owner's ring (R158). -/
theorem mgmtFrame_owned {et : Nat} (het : et = 0x888E ∨ et = 0x88CC) {frame : List Byte} (hlen : frame.length ≤ 40)
    (hqueues : s.bit (Reg.ethIfCtrl n) 17 = true) {r : Nat} (howner : s.owner (objStrand n) = some r) :
    mgmtFrame n et frame s = queueFrame r n frame s := by
  have hcond : (s.bit (Reg.ethIfCtrl n) 17 && decide (et = 0x888E ∨ et = 0x88CC) && decide (frame.length ≤ 1518)) = true := by
    rw [hqueues, decide_eq_true het, decide_eq_true (by omega)]
    rfl
  unfold mgmtFrame
  rw [if_pos hcond, howner]

theorem mgmtFrame_unqueued (h : s.bit (Reg.ethIfCtrl n) 17 = false) (et : Nat) (frame : List Byte) : mgmtFrame n et frame s = dropRx n s := by
  unfold mgmtFrame
  rw [h]
  rfl

theorem exec_mgmtRx_queued (hif : s.isInterface n = true) (hup : s.rx n = .up) (hzone : s.zone (n / 8) ≠ 3) {et : Nat} (het : et = 0x888E ∨ et = 0x88CC)
    {frame : List Byte} (hlen : frame.length ≤ 40) {r : Nat} (hqueues : s.bit (Reg.ethIfCtrl n) 17 = true) (howner : s.owner (objStrand n) = some r)
    (hr : r < 4) (hon : s.bit (Reg.tenEvqCfg r) 0 = true) (hbme : s.bme r = true) (hroom : (s.evq r).entries.length < s.evqSize r - 1) :
    ∃ t e, exec (.mgmtRx n et frame) s = .next t ∧ (t.evq r).entries = (s.evq r).entries ++ [e] ∧ e.type = 3 ∧ e.object = objIface n ∧
      e.code = frame.length ∧ e.data = frame ∧ Reports [] s t := by
  have hframe : mgmtFrame n et frame s.begin = writeEvent r (mkEvent s.begin 3 (objIface n) frame.length frame) s.begin :=
    (mgmtFrame_owned (s := s.begin) het hlen hqueues howner).trans (queueFrame_short (s := s.begin) hr hon hbme hroom n hlen)
  obtain ⟨phase, seq, hentries⟩ := writeEvent_entries r (mkEvent s.begin 3 (objIface n) frame.length frame) s.begin
  exact ⟨_, _, (exec_mgmtRx hif hup hzone et frame).trans (congrArg Host.Outcome.next hframe), hentries, rfl, rfl, rfl, rfl,
    (Reports.begin s).comp (writeEvent_reports hr _ _)⟩

theorem exec_mgmtRx_unqueued (hif : s.isInterface n = true) (hup : s.rx n = .up) (hzone : s.zone (n / 8) ≠ 3) (h : s.bit (Reg.ethIfCtrl n) 17 = false)
    (et : Nat) (frame : List Byte) :
    ∃ t, exec (.mgmtRx n et frame) s = .next t ∧ t = { s with out := [], regs := t.regs } ∧
      ∀ a, t.reg a = if a = Reg.ethIfRxDropCnt n then wd (min 0xFFFFFFFF ((s.reg a).toNat + 1)) else s.reg a :=
  ⟨_, (exec_mgmtRx hif hup hzone et frame).trans (congrArg Host.Outcome.next (mgmtFrame_unqueued (s := s.begin) h et frame)), rfl, State.reg_bump s.begin _ 1⟩

/-! IGMP_QUERY -/

/-- A number of frames of a kind left an interface, and beside the count of free values nothing else changed. -/
def Emits (n kind k : Nat) (s t : State) : Prop :=
  t = { s with out := t.out, draws := t.draws } ∧ ∃ bs : List (List Byte), bs.length = k ∧ t.out = s.out ++ bs.map (Output.frame n kind)

theorem Emits.refl (n kind : Nat) (s : State) : Emits n kind 0 s s := ⟨rfl, [], rfl, (List.append_nil _).symm⟩

theorem Emits.trans {n kind j k : Nat} {s t u : State} (h : Emits n kind j s t) (g : Emits n kind k t u) : Emits n kind (j + k) s u := by
  obtain ⟨hparts, as, has, hout⟩ := h
  obtain ⟨gparts, bs, hbs, gout⟩ := g
  exact ⟨by rw [gparts, hparts], as ++ bs, by rw [List.length_append, has, hbs], by rw [gout, hout, List.map_append, List.append_assoc]⟩

/-- An interface sends in clear. -/
def SendsClear (n : Nat) (s : State) : Prop := s.mayTransmit n = true ∧ s.zone (n / 8) ≠ 3 ∧ s.bit (Reg.ethIfCtrl n) 16 = false

theorem Emits.sendsClear {kind k : Nat} {t : State} (h : Emits n kind k s t) (hs : SendsClear n s) : SendsClear n t := by
  obtain ⟨hparts, -⟩ := h
  rw [hparts]
  exact hs

theorem emits_sendIp (h : SendsClear n s) (kind tci dscp src dst proto : Nat) (options payload : List Nat) :
    Emits n kind 1 s (sendIp n kind tci dscp src dst proto options payload s.draw) := by
  obtain ⟨hmay, hzone, hclear⟩ := h
  obtain ⟨b, hsend⟩ := sendIp_clear (s := s.draw) (kind := kind) hmay hzone hclear tci dscp src dst proto options payload
  rw [hsend]
  exact ⟨rfl, [b], rfl, rfl⟩

/-- Each of a list makes the interface send as many frames as it calls for. -/
theorem emits_foldl {α β : Type} {kind : Nat} {f : State → α → State} {g : α → List β}
    (h : ∀ x s, SendsClear n s → Emits n kind (g x).length s (f s x)) (l : List α) {s : State} (hs : SendsClear n s) :
    Emits n kind (l.flatMap g).length s (l.foldl f s) := by
  induction l generalizing s with
  | nil => exact Emits.refl n kind s
  | cons x l ih =>
    rw [List.flatMap_cons, List.length_append]
    exact (h x s hs).trans (ih ((h x s hs).sendsClear hs))

/-- The paths of a descriptor on which an interface reports a membership (R160). -/
def reportPaths (n : Nat) (d : FlowDesc) : List (Nat × (Nat × Nat × Nat × Nat)) :=
  if d.enable && !d.send then (flowPaths d).filter (fun p => isMulticast p.2.1 && decide (p.1 = n)) else []

theorem emits_reportFlow (d : FlowDesc) (h : SendsClear n s) : Emits n 4 (reportPaths n d).length s (reportFlow (some n) d s) := by
  unfold reportFlow reportPaths
  by_cases hd : (d.enable && !d.send) = true
  · rw [if_pos hd, if_pos hd, ← List.filterMap_eq_filter, List.filterMap_eq_flatMap_toList]
    refine emits_foldl (fun p s hs => ?_) _ h
    by_cases hp : (isMulticast p.2.1 && decide (p.1 = n)) = true
    · obtain ⟨hgroup, hif⟩ := Bool.and_eq_true_iff.mp hp
      have hn : p.1 = n := of_decide_eq_true hif
      rw [show Option.guard (fun p : Nat × (Nat × Nat × Nat × Nat) => isMulticast p.2.1 && decide (p.1 = n)) p = some p from if_pos hp,
        hgroup, Option.getD_some, hn, decide_eq_true rfl, Bool.and_self, if_pos rfl]
      exact emits_sendIp hs 4 _ _ _ _ _ _ _
    · have hp' : (isMulticast p.2.1 && decide ((some n).getD p.1 = p.1)) = false := by
        rw [Option.getD_some, decide_eq_decide.mpr (eq_comm : n = p.1 ↔ p.1 = n)]
        exact Bool.eq_false_iff.mpr hp
      rw [show Option.guard (fun p : Nat × (Nat × Nat × Nat × Nat) => isMulticast p.2.1 && decide (p.1 = n)) p = none from if_neg hp, hp', if_neg Bool.false_ne_true]
      exact Emits.refl n 4 s
  · rw [if_neg hd, if_neg hd]
    exact Emits.refl n 4 s

theorem exec_igmpQuery (h : SendsClear n s) :
    ∃ t, exec (.igmpQuery n) s = .next t ∧ t = { s with out := t.out, draws := t.draws } ∧
      t.out.length = (s.wire.flows.flatMap (fun e => reportPaths n e.2.desc)).length ∧ ∀ x ∈ t.out, ∃ b, x = .frame n 4 b := by
  obtain ⟨-, hzone, -⟩ := id h
  have hreports : Emits n 4 (s.wire.flows.flatMap (fun e => reportPaths n e.2.desc)).length s.begin (reportAll n s.begin) :=
    emits_foldl (fun e u hu => emits_reportFlow e.2.desc hu) s.wire.flows (s := s.begin) h
  obtain ⟨hparts, bs, hlen, hout⟩ := hreports
  refine ⟨_, congrArg Host.Outcome.next (unlessStopped_runs (s := s.begin) hzone _), hparts, ?_, fun x hx => ?_⟩
  · show (reportAll n s.begin).out.length = _
    rw [hout, ← hlen]
    exact List.length_map _
  · have hx' : x ∈ bs.map (Output.frame n 4) := (congrArg (x ∈ ·) hout).mp hx
    obtain ⟨b, -, hb⟩ := List.mem_map.mp hx'
    exact ⟨b, hb.symm⟩

end

/-- Settles O38: a frame received in clear counts in STR_PROTO_ERR and then is dropped, answered, passed on or queued, as its kind says. -/
theorem interfaceReceives : Obligations.InterfaceReceives := by
  intro s n hif hup hzone
  refine ⟨?_, fun et frame hlen het => ?_, fun hmay hclear => exec_igmpQuery ⟨hmay, hzone, hclear⟩⟩
  · intro f hfec hmacsec err Only Counts
    have h : RxClear n s := ⟨hif, hup, hfec, hmacsec⟩
    refine ⟨exec_ethFrameRx_overflow h hzone, fun hfits hnone => ?_, fun e hfits he heapol hlldp => ⟨fun hnot => ?_, fun r hfor harp hreply hmay => ?_,
      fun p hfor hip hp hoptions hfragment hudp hflow => ?_⟩⟩
    · exact exec_ethFrameRx_dropped h hzone hfits (by rw [typeOfFrame_unreadable hnone]; decide) (deliverFrame_unreadable hnone n _)
    · refine exec_ethFrameRx_dropped h hzone hfits (by rw [typeOfFrame_read he]; exact ⟨heapol, hlldp⟩) (deliverFrame_unwanted he ?_)
      rw [rxErrors_frameFor h.lt]
      exact hnot
    · exact exec_ethFrameRx_arp h hzone hfits he hfor harp hreply hmay
    · exact exec_ethFrameRx_flow h hzone hfits he hfor hip hp hoptions hfragment hudp hflow
  · exact ⟨fun r hqueues howner hr hon hbme hroom => exec_mgmtRx_queued hif hup hzone het hlen hqueues howner hr hon hbme hroom,
      fun hunqueued => exec_mgmtRx_unqueued hif hup hzone hunqueued et frame⟩

end Sys2Proof.Machine
end

section
/-! Presence and the change sets that end leave what the wires carry alone: the losses of an engine input and of an audio channel touch no flow (R164, R168). -/

namespace Sys2Proof.Machine

open Sys2Proof

theorem foldl_wire {α : Type} {f : State → α → State} (hf : ∀ s x, (f s x).wire = s.wire) (l : List α) (s : State) : (l.foldl f s).wire = s.wire := by
  induction l generalizing s with
  | nil => rfl
  | cons x l ih => exact (ih _).trans (hf s x)

theorem ite_wire {c : Prop} [Decidable c] {s t : State} {w : WireState} (hs : s.wire = w) (ht : t.wire = w) : (if c then s else t).wire = w := by
  split
  · exact hs
  · exact ht

theorem Reports.wire {l : List Nat} {s t : State} (h : Reports l s t) : t.wire = s.wire := by
  obtain ⟨-, -, hwire, -⟩ := h.parts
  exact hwire

theorem Writes.wire {p : Nat → Prop} {s t : State} (h : Writes p s t) : t.wire = s.wire := by rw [h.1]

/-! Reports -/

theorem raiseEn_wire (owner : Option Nat) (obj ev en b : Nat) (s : State) : (raiseEn owner obj ev en b s).wire = s.wire := (raiseEn_reports _ _ _ _ _ _).wire
theorem raiseSb_wire (n b : Nat) (s : State) : (raiseSb n b s).wire = s.wire := raiseEn_wire _ _ _ _ _ _
theorem raiseLayer_wire (cp l b : Nat) (s : State) : (raiseLayer cp l b s).wire = s.wire := raiseEn_wire _ _ _ _ _ _
theorem raiseRec_wire (r b : Nat) (s : State) : (raiseRec r b s).wire = s.wire := raiseEn_wire _ _ _ _ _ _
theorem raiseDest_wire (d b : Nat) (s : State) : (raiseDest d b s).wire = s.wire := raiseEn_wire _ _ _ _ _ _
theorem raiseSrc_wire (c b : Nat) (s : State) : (raiseSrc c b s).wire = s.wire := raiseEn_wire _ _ _ _ _ _
theorem completeAll_wire (os : List Origin) (st obj : Nat) (s : State) : (completeAll os st obj s).wire = s.wire := (completeAll_reports _ _ _ _).wire
theorem fidEvent_wire (f bit : Nat) (s : State) : (fidEvent f bit s).wire = s.wire := by rw [fidEvent_parts]

/-! Contexts, domains and states of the engines -/

theorem setLayerSt_wire (n : Nat) (v : LayerSt) (s : State) : (setLayerSt n v s).wire = s.wire := rfl
theorem setSheetSt_wire (n : Nat) (v : SheetSt) (s : State) : (setSheetSt n v s).wire = s.wire := rfl
theorem setRecSt_wire (n : Nat) (v : RecSt) (s : State) : (setRecSt n v s).wire = s.wire := rfl
theorem setCtx_wire (e v : Nat) (s : State) : (setCtx e v s).wire = s.wire := ite_wire (State.setReg_wire _ _ _) (State.setF_wire _ _ _ _ _)
theorem holdCtx_wire (e v holder : Nat) (s : State) : (holdCtx e v holder s).wire = s.wire :=
  (State.setF_wire _ _ _ _ _).trans ((State.setBit_wire _ _ _ _).trans (State.setF_wire _ _ _ _ _))
theorem reloadShadow_wire (e : Nat) (s : State) : (reloadShadow e s).wire = s.wire := foldl_wire (fun _ _ => State.setReg_wire _ _ _) _ _
theorem wakeDomain_wire (prio deadline : Nat) (set : Option Nat) (d : Nat) (s : State) : (wakeDomain prio deadline set d s).wire = s.wire := ite_wire rfl (setPwr_wire _ _)
theorem wakeUsed_wire (s : State) : (wakeUsed s).wire = s.wire := foldl_wire (fun _ _ => wakeDomain_wire _ _ _ _ _) _ _

/-! Change sets that end -/

theorem refreshGroup_wire (t g : Nat) (s : State) : (refreshGroup t g s).wire = s.wire := by
  unfold refreshGroup
  split
  · rfl
  · split <;> exact State.setReg_wire _ _ _

theorem giveDev_wire (t bytes : Nat) (s : State) : (giveDev t bytes s).wire = s.wire := rfl

theorem releaseReserve_wire (t : Nat) (r : Option (Nat × Nat)) (s : State) : (releaseReserve t r s).wire = s.wire := by
  unfold releaseReserve
  split
  · rfl
  · exact (giveDev_wire _ _ _).trans (State.setBit_wire _ _ _ _)

theorem passEngine_wire (e : Nat) (s : State) : (passEngine e s).wire = s.wire := by
  unfold passEngine
  split
  · exact (holdCtx_wire _ _ _ _).trans (setCtx_wire e 0 s)
  · exact setCtx_wire e 0 s

theorem dropOp_wire (op : PendOp) (s : State) : (dropOp op s).wire = s.wire := by
  unfold dropOp
  split
  · exact State.setReg_wire _ _ _
  · rfl

theorem setResult_wire (d : Nat) (st : Status) (s : State) : (setResult d st s).wire = s.wire := State.setF_wire _ _ _ _ _
theorem setDestState_wire (d v : Nat) (s : State) : (setDestState d v s).wire = s.wire := State.setF_wire _ _ _ _ _

theorem rollArm_wire (owner : Nat) (st : Status) (a : Arm) (s : State) : (rollArm owner st a s).wire = s.wire :=
  ite_wire rfl ((raiseDest_wire _ _ _).trans ((State.bump_wire _ _ _).trans ((State.setF_wire _ _ _ _ _).trans
    ((setResult_wire _ _ _).trans ((setDestState_wire _ _ _).trans (releaseReserve_wire _ _ _))))))

theorem setSets_wire (l : List ChangeSet) (s : State) : (setSets l s).wire = s.wire := rfl
theorem dropReqs_wire (id : Nat) (s : State) : (dropReqs id s).wire = s.wire := rfl

theorem rollback_wire (c : ChangeSet) (reason : Nat) (st : Status) (obj : Nat) (s : State) : (rollback c reason st obj s).wire = s.wire := by
  unfold rollback
  refine (completeAll_wire _ _ _ _).trans ((State.bump_wire _ _ _).trans ((State.setReg_wire _ _ _).trans ((refreshGroup_wire _ _ _).trans
    ((foldl_wire (fun _ _ => ite_wire rfl ((passEngine_wire _ _).trans (reloadShadow_wire _ _))) _ _).trans ((foldl_wire (fun _ op => dropOp_wire op _) _ _).trans
      ((foldl_wire (fun _ a => rollArm_wire _ _ a _) _ _).trans ((dropReqs_wire _ _).trans (setSets_wire _ _))))))))

theorem endSets_wire (p : ChangeSet → Bool) (reason : Nat) (obj : ChangeSet → Nat) (s : State) : (endSets p reason obj s).wire = s.wire :=
  foldl_wire (fun _ _ => ite_wire (rollback_wire _ _ _ _ _) rfl) _ _

/-! Losses of an engine input -/

theorem setLosses_wire (t : Tab Loss) (s : State) : (setLosses t s).wire = s.wire := rfl
theorem setFilling_wire (n : Nat) (b : Bool) (s : State) : (setFilling n b s).wire = s.wire := foldl_wire (fun _ _ => State.setBit_wire _ _ _ _) _ _

theorem startLoss_wire (eo : Nat) (why : LossWhy) (lost hold : Bool) (s : State) : (startLoss eo why lost hold s).wire = s.wire :=
  (ite_wire rfl (raiseDest_wire _ _ _)).trans ((State.setBit_wire _ _ _ _).trans ((setLosses_wire _ _).trans
    (ite_wire ((raiseDest_wire _ _ _).trans (State.bump_wire _ _ _)) rfl)))

theorem layerLate_wire (cp l : Nat) (s : State) : (layerLate cp l s).wire = s.wire :=
  (ite_wire (raiseLayer_wire _ _ _ _) rfl).trans ((State.setF_wire _ _ _ _ _).trans
    ((ite_wire (raiseLayer_wire _ _ _ _) rfl).trans ((State.setBit_wire _ _ _ _).trans (State.bump_wire _ _ _))))

theorem layerLost_wire (cp l eo : Nat) (absent : Bool) (s : State) : (layerLost cp l eo absent s).wire = s.wire :=
  (layerLate_wire _ _ _).trans ((ite_wire ((raiseDest_wire _ _ _).trans (raiseLayer_wire _ _ _ _)) (raiseDest_wire _ _ _)).trans (setLayerSt_wire _ _ _))

theorem sheetLoss_wire (n : Nat) (lost : Bool) (s : State) : (sheetLoss n lost s).wire = s.wire :=
  (ite_wire rfl ((raiseSb_wire _ _ _).trans (setFilling_wire _ _ _))).trans ((ite_wire (raiseSb_wire _ _ _) rfl).trans (setSheetSt_wire _ _ _))

theorem loseEi_wire (k ei : Nat) (s : State) : (loseEi k ei s).wire = s.wire := by
  induction k generalizing ei s with
  | zero => rfl
  | succ k ih =>
    refine ite_wire rfl ((foldl_wire (fun s eo => ?_) _ _).trans ((endSets_wire _ _ _ _).trans (State.setBit_wire _ _ _ _)))
    extract_lets s1
    have h1 : s1.wire = s.wire := (State.setBit_wire _ _ _ _).trans (State.setBit_wire _ _ _ _)
    clear_value s1
    refine Eq.trans ?_ h1
    split
    · rfl
    · refine ite_wire (ite_wire (startLoss_wire _ _ _ _ _) rfl) ?_
      split
      case h_1 =>
        exact ite_wire (State.setBit_wire _ _ _ _) (ite_wire (ite_wire ((sheetLoss_wire _ _ _).trans (State.setBit_wire _ _ _ _)) (State.setBit_wire _ _ _ _))
          ((foldl_wire (fun s e => ih e s) _ _).trans (State.setBit_wire _ _ _ _)))
      case h_2 => exact ite_wire (layerLost_wire _ _ _ _ _) rfl
      case h_3 => exact ite_wire ((raiseRec_wire _ _ _).trans ((setRecSt_wire _ _ _).trans (State.setBit_wire _ _ _ _))) (State.setBit_wire _ _ _ _)
      case h_4 => rfl

/-! Audio channels -/

theorem raiseAmo_wire (n b : Nat) (s : State) : (raiseAmo n b s).wire = s.wire := by
  unfold raiseAmo
  extract_lets s1
  have h1 : s1.wire = s.wire := fidEvent_wire _ _ _
  clear_value s1
  split
  · exact (raiseEn_wire _ _ _ _ _ _).trans h1
  · exact (State.setBit_wire _ _ _ _).trans h1

theorem setSilent_wire (n : Nat) (v : Bool) (s : State) : (setSilent n v s).wire = s.wire := (State.setBit_wire _ _ _ _).trans (setAud_wire _ _)
theorem refreshAgroup_wire (g : Nat) (s : State) : (refreshAgroup g s).wire = s.wire :=
  (State.setF_wire _ _ _ _ _).trans ((State.setBit_wire _ _ _ _).trans ((State.setF_wire _ _ _ _ _).trans (State.setF_wire _ _ _ _ _)))

theorem raiseAgroup_wire (g b : Nat) (s : State) : (raiseAgroup g b s).wire = s.wire :=
  (raiseEn_wire _ _ _ _ _ _).trans (foldl_wire (fun _ _ => fidEvent_wire _ _ _) _ _)

theorem amoFault_wire (n bit : Nat) (s : State) : (amoFault n bit s).wire = s.wire := by
  unfold amoFault
  refine ite_wire rfl ?_
  extract_lets s1
  have h1 : s1.wire = s.wire := (setSilent_wire _ _ _).trans ((raiseAmo_wire _ _ _).trans (State.bump_wire _ _ _))
  clear_value s1
  split
  · exact h1
  · exact (ite_wire (ite_wire rfl ((refreshAgroup_wire _ _).trans ((raiseAgroup_wire _ _ _).trans ((setAud_wire _ _).trans
      (foldl_wire (fun _ _ => setSilent_wire _ _ _) _ _))))) ((refreshAgroup_wire _ _).trans ((raiseAgroup_wire _ _ _).trans (State.bump_wire _ _ _)))).trans h1

theorem amoResume_wire (n : Nat) (s : State) : (amoResume n s).wire = s.wire := by
  refine ite_wire rfl ?_
  split
  · exact (raiseAmo_wire _ _ _).trans (setSilent_wire _ _ _)
  · exact ite_wire rfl ((refreshAgroup_wire _ _).trans ((raiseAgroup_wire _ _ _).trans ((raiseAmo_wire _ _ _).trans (setSilent_wire _ _ _))))

theorem amiPresentF_wire (k n : Nat) (v : Bool) (s : State) : (amiPresentF k n v s).wire = s.wire := by
  induction k generalizing n v s with
  | zero => rfl
  | succ k ih =>
    refine ite_wire rfl ((foldl_wire (fun s m => ?_) _ _).trans (State.setBit_wire _ _ _ _))
    extract_lets s1
    have h1 : s1.wire = s.wire := State.setBit_wire _ _ _ _
    clear_value s1
    refine Eq.trans ?_ h1
    split
    · exact ite_wire rfl ((ih _ _ _).trans ((raiseSrc_wire _ _ _).trans (State.setBit_wire _ _ _ _)))
    · exact ite_wire (amoResume_wire _ _) (amoFault_wire _ _ _)

/-- A flow that loses its presence leaves what the wires carry alone. -/
theorem setFlowPresent_absent_wire (key : Nat) (d : FlowDesc) (s : State) : (setFlowPresent key d false s).wire = s.wire := by
  unfold setFlowPresent
  extract_lets s1
  have h1 : s1.wire = s.wire := State.setBit_wire _ _ _ _
  clear_value s1
  refine Eq.trans ?_ h1
  split
  · exact loseEi_wire _ _ _
  · exact foldl_wire (fun _ _ => amiPresentF_wire _ _ _ _) _ _
  · rfl

end Sys2Proof.Machine
end

section
/-! FLOW_SET: the descriptor in force changes nothing, another starts its flow over (R164, R167). -/

namespace Sys2Proof.Machine

open Sys2Proof

/-! What sending leaves of the flows -/

theorem foldl_flows {α : Type} {f : State → α → State} (hf : ∀ s x, (f s x).wire.flows = s.wire.flows) (l : List α) (s : State) :
    (l.foldl f s).wire.flows = s.wire.flows := by
  induction l generalizing s with
  | nil => rfl
  | cons x l ih => exact (ih _).trans (hf s x)

theorem raisePnLimit_wire (n : Nat) (s : State) : (raisePnLimit n s).wire = s.wire := State.setBit_wire _ _ _ _

theorem stepPn_flows (n k : Nat) (a : Sa) (s : State) : (stepPn n k a s).wire.flows = s.wire.flows := by
  unfold stepPn
  dsimp only
  split
  · rw [raisePnLimit_wire]
  · rfl

/-- Sending a frame steps an association's packet number at most. -/
theorem sendFrame_flows (n kind : Nat) (frame : List Nat) (s : State) : (sendFrame n kind frame s).wire.flows = s.wire.flows := by
  unfold sendFrame
  split
  · rfl
  · split
    · rfl
    · dsimp only
      split
      · rfl
      · split
        · rfl
        · exact stepPn_flows _ _ _ _

theorem reportFlow_flows (only : Option Nat) (d : FlowDesc) (s : State) : (reportFlow only d s).wire.flows = s.wire.flows := by
  unfold reportFlow
  split
  · refine foldl_flows (fun s p => ?_) _ _
    split
    · exact sendFrame_flows _ _ _ _
    · rfl
  · rfl

theorem txRefreshAll_wire (ns : List Nat) (s : State) : (txRefreshAll ns s).wire = s.wire :=
  (txRefreshAll_writes (p := fun _ => True) (fun _ _ => ⟨trivial, trivial⟩) s).wire

/-! A descriptor takes effect -/

theorem flowOf_setFlow (key : Nat) (f : Flow) (s : State) (k : Nat) : (setFlow key f s).flowOf k = if k = key then some f else s.flowOf k :=
  tabGet_tabSet key k f _

theorem applyFlow_none {s : State} {key : Nat} (h : s.flowOf key = none) (d : FlowDesc) : applyFlow key d s = applyFlow.start key d s d := by
  unfold applyFlow
  rw [h]

theorem applyFlow_same {s : State} {key : Nat} {f : Flow} (h : s.flowOf key = some f) : applyFlow key f.desc s = s := by
  unfold applyFlow
  rw [h]
  exact if_pos rfl

theorem applyFlow_start_flows (key : Nat) (d : FlowDesc) (s : State) (old : FlowDesc) :
    (applyFlow.start key d s old).wire.flows = tabSet key (flowStart d) s.wire.flows := by
  unfold applyFlow.start
  extract_lets s1 s2 s3 ifs s4
  have h1 : s1.wire = s.wire := ite_wire rfl (setFlowPresent_absent_wire _ _ _)
  have h2 : s2.wire.flows = tabSet key (flowStart d) s1.wire.flows := rfl
  have h3 : s3.wire = s2.wire := State.setReg_wire _ _ _
  have h4 : s4.wire = s3.wire := foldl_wire (fun _ _ => (State.setReg_wire _ _ _).trans (txRefreshAll_wire _ _)) _ _
  clear_value s1 s2 s3 s4
  rw [reportFlow_flows, wakeUsed_wire, h4, h3, h2, h1]

/-- A flow that starts over has its new descriptor; no other changes. -/
theorem applyFlow_start_flowOf (key : Nat) (d : FlowDesc) (s : State) (old : FlowDesc) (k : Nat) :
    (applyFlow.start key d s old).flowOf k = if k = key then some (flowStart d) else s.flowOf k := by
  unfold State.flowOf
  rw [applyFlow_start_flows, tabGet_tabSet]

/-! FLOW_SET -/

theorem exec_flowSet {s : State} {o : Origin} {l : List Byte} (hacc : Accepted o s) (hcheck : flowSetCheck o (parseFlow l) none s.begin = none) :
    exec (.flowSet o (some l)) s = .next (completeOk o (applyFlow (flowKey (flowClass (parseFlow l).kind) (parseFlow l).flow) (parseFlow l) s.begin)) := by
  have hbatch : s.begin.batchOf o = none := hacc.1
  have hbase : firstRefusal [baseCheck o .working s.begin, flowSetRefuse o (some l) none s.begin] = none := by
    rw [baseCheck_accepted hacc, show flowSetRefuse o (some l) none s.begin = none from hcheck]
    rfl
  refine congrArg Host.Outcome.next (?_ : doFlowSet o (some l) s.begin = _)
  unfold doFlowSet hostCommand
  rw [hbatch]
  dsimp only
  rw [hbase]
  rfl

theorem exec_flowSet_same {s : State} {o : Origin} {l : List Byte} {key : Nat} (hacc : Accepted o s) (hcheck : flowSetCheck o (parseFlow l) none s.begin = none)
    (hkey : key = flowKey (flowClass (parseFlow l).kind) (parseFlow l).flow) {f : Flow} (hf : s.flowOf key = some f) (hdesc : f.desc = parseFlow l) :
    exec (.flowSet o (some l)) s = .next (completeOk o { s with out := [] }) := by
  rw [exec_flowSet hacc hcheck, ← hkey, ← hdesc, applyFlow_same (s := s.begin) hf]
  rfl

theorem exec_flowSet_new {s : State} {o : Origin} {l : List Byte} {key : Nat} (hacc : Accepted o s) (hcheck : flowSetCheck o (parseFlow l) none s.begin = none)
    (hkey : key = flowKey (flowClass (parseFlow l).kind) (parseFlow l).flow) (hnone : s.flowOf key = none) :
    ∃ t, exec (.flowSet o (some l)) s = .next (completeOk o t) ∧ (t.flowOf key).map (fun f => f.desc) = some (parseFlow l) ∧
      ∀ k, k ≠ key → t.flowOf k = s.flowOf k := by
  refine ⟨applyFlow.start key (parseFlow l) s.begin (parseFlow l), ?_, ?_, fun k hk => ?_⟩
  · rw [exec_flowSet hacc hcheck, ← hkey, applyFlow_none (s := s.begin) hnone]
  · rw [applyFlow_start_flowOf, if_pos rfl]
    rfl
  · rw [applyFlow_start_flowOf, if_neg hk]
    rfl

end Sys2Proof.Machine
end

section
/-! Packets of a receive flow: what its window shows and what its receive buffer keeps (R174 to R177, R190). -/

namespace Sys2Proof.Machine

open Sys2Proof

/-! The window of a flow -/

theorem flowWin_range {key : Nat} (hflow : key % 0x10000 < 512) : 0x100000 ≤ flowWin key ∧ flowWin key + 0x20 ≤ 0x128000 := by
  unfold flowWin
  generalize key % 0x10000 = n at hflow
  split <;> omega

/-- Beside the registers of the flow's window, a step changes the flows and what leaves, and draws values. -/
def FlowStep (key : Nat) (s t : State) : Prop :=
  t = { s with out := t.out, regs := t.regs, draws := t.draws, wire := { s.wire with flows := t.wire.flows } } ∧
    ∀ a, a < flowWin key ∨ flowWin key + 0x20 ≤ a → t.reg a = s.reg a

section
variable {s t u : State} {key : Nat}

theorem FlowStep.refl (key : Nat) (s : State) : FlowStep key s s := ⟨rfl, fun _ _ => rfl⟩

theorem FlowStep.trans (h : FlowStep key s t) (g : FlowStep key t u) : FlowStep key s u := by
  obtain ⟨hparts, hregs⟩ := h
  obtain ⟨gparts, gregs⟩ := g
  exact ⟨by rw [gparts, hparts], fun a ha => (gregs a ha).trans (hregs a ha)⟩

theorem FlowStep.begin (key : Nat) (s : State) : FlowStep key s s.begin := ⟨rfl, fun _ _ => rfl⟩

theorem FlowStep.setReg {a : Nat} (ha : flowWin key ≤ a ∧ a < flowWin key + 0x20) (v : Word) (s : State) : FlowStep key s (s.setReg a v) :=
  ⟨rfl, fun b hb => State.reg_setReg_ne s (by omega) v⟩

theorem FlowStep.bump {a : Nat} (ha : flowWin key ≤ a ∧ a < flowWin key + 0x20) (n : Nat) (s : State) : FlowStep key s (s.bump a n) := FlowStep.setReg ha _ s

theorem FlowStep.setBit {a : Nat} (ha : flowWin key ≤ a ∧ a < flowWin key + 0x20) (b : Nat) (v : Bool) (s : State) : FlowStep key s (s.setBit a b v) :=
  FlowStep.setReg ha _ s

theorem FlowStep.raiseFlow (b : Nat) (s : State) : FlowStep key s (raiseFlow key b s) := FlowStep.setBit (by omega) b true s

theorem FlowStep.setFlow (f : Flow) (s : State) : FlowStep key s (setFlow key f s) := ⟨rfl, fun _ _ => rfl⟩

theorem FlowStep.draw (s : State) : FlowStep key s s.draw := ⟨rfl, fun _ _ => rfl⟩

theorem FlowStep.emit (o : Output) (s : State) : FlowStep key s (s.emit o) := ⟨rfl, fun _ _ => rfl⟩

/-! What a packet does to a flow beside its counters and UP bits -/

/-- A step keeps what has left, the packet counters, the UP bits and every other flow. -/
def KeepsCounts (key : Nat) (s t : State) : Prop :=
  FlowStep key s t ∧ t.out = s.out ∧ (∀ k ≤ 1, t.reg (flowWin key + 8 + 4 * k) = s.reg (flowWin key + 8 + 4 * k)) ∧
    (∀ k ≤ 1, t.bit (flowWin key) (2 + k) = s.bit (flowWin key) (2 + k)) ∧ ∀ j, j ≠ key → t.flowOf j = s.flowOf j

theorem KeepsCounts.refl (key : Nat) (s : State) : KeepsCounts key s s := ⟨FlowStep.refl key s, rfl, fun _ _ => rfl, fun _ _ => rfl, fun _ _ => rfl⟩

theorem KeepsCounts.ite {c : Prop} [Decidable c] (h : KeepsCounts key s t) (g : KeepsCounts key s u) : KeepsCounts key s (if c then t else u) := by
  split
  · exact h
  · exact g

theorem KeepsCounts.trans (h : KeepsCounts key s t) (g : KeepsCounts key t u) : KeepsCounts key s u := by
  obtain ⟨hstep, hout, hcount, hup, hother⟩ := h
  obtain ⟨gstep, gout, gcount, gup, gother⟩ := g
  exact ⟨hstep.trans gstep, gout.trans hout, fun k hk => (gcount k hk).trans (hcount k hk), fun k hk => (gup k hk).trans (hup k hk),
    fun j hj => (gother j hj).trans (hother j hj)⟩

theorem KeepsCounts.setFlow (f : Flow) (s : State) : KeepsCounts key s (setFlow key f s) :=
  ⟨FlowStep.setFlow f s, rfl, fun _ _ => rfl, fun _ _ => rfl, fun j hj => by rw [flowOf_setFlow, if_neg hj]⟩

/-- A register of the window beside the status and the packet counters. -/
theorem KeepsCounts.setReg {i : Nat} (hi : i < 0x20) (h0 : i ≠ 0) (h8 : i ≠ 8) (hC : i ≠ 0xC) (v : Word) (s : State) :
    KeepsCounts key s (s.setReg (flowWin key + i) v) :=
  ⟨FlowStep.setReg (by omega) v s, rfl, fun k hk => State.reg_setReg_ne s (by omega) v,
    fun k hk => State.bit_of_reg (State.reg_setReg_ne s (by omega) v) _, fun _ _ => rfl⟩

theorem KeepsCounts.bump {i : Nat} (hi : i < 0x20) (h0 : i ≠ 0) (h8 : i ≠ 8) (hC : i ≠ 0xC) (n : Nat) (s : State) :
    KeepsCounts key s (s.bump (flowWin key + i) n) := KeepsCounts.setReg hi h0 h8 hC _ s

theorem KeepsCounts.raiseFlow (b : Nat) (s : State) : KeepsCounts key s (raiseFlow key b s) :=
  KeepsCounts.setReg (by decide) (by decide) (by decide) (by decide) _ s

/-- PRESENT is no UP bit. -/
theorem KeepsCounts.setPresent (v : Bool) (s : State) : KeepsCounts key s (s.setBit (flowWin key) 1 v) :=
  ⟨FlowStep.setBit (by omega) 1 v s, rfl, fun k hk => State.reg_setReg_ne s (by omega) _,
    fun k hk => State.bit_setBit_other s _ _ v (by omega) (by omega), fun _ _ => rfl⟩

theorem setFlowPresent_anc {d : FlowDesc} (hkind : d.kind = 4) (v : Bool) (s : State) : setFlowPresent key d v s = s.setBit (flowWin key) 1 v := by
  unfold setFlowPresent
  rw [hkind]
  rfl

theorem expireAnc_keepsCounts (s : State) : KeepsCounts key s (expireAnc key s) := by
  unfold expireAnc
  split
  · exact KeepsCounts.refl key s
  · exact (KeepsCounts.setFlow _ s).trans (KeepsCounts.bump (by decide) (by decide) (by decide) (by decide) _ _)

theorem twinPkt_keepsCounts (q : Nat) (f : Flow) (x : SeenPkt) (p : FlowPacket) (s : State) : KeepsCounts key s (twinPkt key q f x p s) := by
  unfold twinPkt
  split
  · exact KeepsCounts.setFlow f s
  · dsimp only
    split
    · exact (KeepsCounts.setFlow _ s).trans (KeepsCounts.bump (by decide) (by decide) (by decide) (by decide) _ _)
    · exact KeepsCounts.setFlow _ s

theorem newPkt_keepsCounts (path q : Nat) (f : Flow) (p : FlowPacket) (s : State) : KeepsCounts key s (newPkt key path q f p s) := by
  unfold newPkt
  dsimp only
  split
  · have hcount := (KeepsCounts.setFlow (key := key) { f with seen := f.seen ++ [⟨q, p.rtp, s.now, path, false, p.payload⟩], mismatchTs := some p.rtp } s).trans
      (KeepsCounts.bump (i := 0x18) (by decide) (by decide) (by decide) (by decide) 1 _)
    split
    · exact hcount
    · exact hcount.trans (KeepsCounts.raiseFlow 1 _)
  · split
    · exact (KeepsCounts.setFlow _ s).trans (KeepsCounts.bump (by decide) (by decide) (by decide) (by decide) 1 _)
    · split
      case isTrue hkind =>
        rw [setFlowPresent_anc hkind]
        exact (KeepsCounts.setFlow _ s).trans ((KeepsCounts.setPresent true _).trans (expireAnc_keepsCounts _))
      case isFalse => exact KeepsCounts.setFlow _ s

/-! FLOW_PACKET_RX -/

/-- What becomes of an accepted packet once its path has been seen. -/
def bufferPkt (key path : Nat) (f : Flow) (p : FlowPacket) (s : State) : State :=
  let q := pktSeq f.desc p
  match f.seen.find? (fun x => decide (x.seq = q)) with
  | some x => if x.path = path then setFlow key f s else twinPkt key q f x p s
  | none => if accounted f q then setFlow key f s else newPkt key path q f p s

theorem bufferPkt_keepsCounts (path : Nat) (f : Flow) (p : FlowPacket) (s : State) : KeepsCounts key s (bufferPkt key path f p s) := by
  unfold bufferPkt
  dsimp only
  split
  · split
    · exact KeepsCounts.setFlow f s
    · exact twinPkt_keepsCounts _ f _ p s
  · split
    · exact KeepsCounts.setFlow f s
    · exact newPkt_keepsCounts path _ f p s

/-- The flow as an accepted packet of a path finds it. -/
def heard (path : Nat) (f : Flow) (s : State) : Flow :=
  { f with lastPacket := max s.now 1, lastA := if path = 0 then max s.now 1 else f.lastA, lastB := if path = 1 then max s.now 1 else f.lastB, seen := s.keptPkts f }

/-- The path of a flow that a packet names, and the path's interface. -/
def pktPath (f : Flow) (p : FlowPacket) : Nat := if p.path = 1 ∧ f.desc.paired = true then 1 else 0
def pktIf (f : Flow) (p : FlowPacket) : Nat := if pktPath f p = 0 then f.desc.ifA else f.desc.ifB

theorem pktPath_le (f : Flow) (p : FlowPacket) : pktPath f p ≤ 1 := by
  unfold pktPath
  split <;> decide

/-- A receive flow in service. -/
structure Receives (key : Nat) (f : Flow) (s : State) : Prop where
  known : s.flowOf key = some f
  enabled : f.desc.enable = true
  receives : f.desc.send = false

theorem doFlowPacketRx_eq {f : Flow} {p : FlowPacket} (h : Receives key f s) (hzone : s.stopped (pktIf f p / 8) = false) :
    doFlowPacketRx key p s = if p.unsupported || !pktOf f.desc (pktPath f p) p then dropRx (pktIf f p) s
      else bufferPkt key (pktPath f p) (heard (pktPath f p) f (pathSeen key (pktPath f p) f s)) p (pathSeen key (pktPath f p) f s) := by
  have hruns : ¬ ((!f.desc.enable) = true ∨ f.desc.send = true ∨ s.stopped (pktIf f p / 8) = true) := by
    rw [h.enabled, h.receives, hzone]
    decide
  unfold doFlowPacketRx
  rw [h.known]
  exact if_neg hruns

theorem zone_of_stopped {z : Nat} (h : s.stopped z = false) : s.zone z ≠ 3 := of_decide_eq_false h

theorem exec_flowPacketRx (hzone : s.stopped (flowZone key) = false) (p : FlowPacket) : exec (.flowPacketRx key p) s = .next (doFlowPacketRx key p s.begin) :=
  congrArg Host.Outcome.next (unlessStopped_runs (s := s.begin) (zone_of_stopped hzone) _)

/-- An accepted packet counts on its path, which is UP (R177, R190). -/
theorem pathSeen_shows {path : Nat} (hpath : path ≤ 1) (f : Flow) (s : State) :
    FlowStep key s (pathSeen key path f s) ∧
      (pathSeen key path f s).reg (flowWin key + 8 + 4 * path) = wd (min 0xFFFFFFFF ((s.reg (flowWin key + 8 + 4 * path)).toNat + 1)) ∧
      (pathSeen key path f s).bit (flowWin key) (2 + path) = true ∧ (pathSeen key path f s).out = s.out ∧ (pathSeen key path f s).wire = s.wire := by
  have hseen : FlowStep key s ((s.bump (flowWin key + 8 + 4 * path) 1).setBit (flowWin key) (2 + path) true) :=
    (FlowStep.bump (by omega) 1 s).trans (FlowStep.setBit (by omega) _ true _)
  have hcount : ((s.bump (flowWin key + 8 + 4 * path) 1).setBit (flowWin key) (2 + path) true).reg (flowWin key + 8 + 4 * path) =
      wd (min 0xFFFFFFFF ((s.reg (flowWin key + 8 + 4 * path)).toNat + 1)) := by
    rw [State.reg_setBit, if_neg (by omega), State.reg_bump, if_pos rfl]
  have hup := State.bit_setBit_same (s.bump (flowWin key + 8 + 4 * path) 1) (flowWin key) (b := 2 + path) true (by omega)
  have hout : ((s.bump (flowWin key + 8 + 4 * path) 1).setBit (flowWin key) (2 + path) true).out = s.out := rfl
  have hwire : ((s.bump (flowWin key + 8 + 4 * path) 1).setBit (flowWin key) (2 + path) true).wire = s.wire := rfl
  unfold pathSeen
  dsimp only
  generalize (s.bump (flowWin key + 8 + 4 * path) 1).setBit (flowWin key) (2 + path) true = u at hseen hcount hup hout hwire
  generalize (!s.bit (flowWin key) (2 + path) && decide ((if path = 0 then f.lastA else f.lastB) ≠ 0)) = cleared
  obtain ⟨gstep, gout, gcount, gup, -⟩ := KeepsCounts.ite (c := cleared = true) (KeepsCounts.raiseFlow (key := key) 3 u) (KeepsCounts.refl key u)
  exact ⟨hseen.trans gstep, (gcount path hpath).trans hcount, (gup path hpath).trans hup, gout.trans hout, (ite_wire (State.setBit_wire _ _ _ _) rfl).trans hwire⟩

theorem exec_flowPacketRx_accepted {f : Flow} (hzone : s.stopped (flowZone key) = false) (h : Receives key f s) {p : FlowPacket}
    (hif : s.stopped (pktIf f p / 8) = false) (hsupported : p.unsupported = false) (hpkt : pktOf f.desc (pktPath f p) p = true) :
    ∃ t, exec (.flowPacketRx key p) s = .next t ∧
      t.reg (flowWin key + 8 + 4 * pktPath f p) = wd (min 0xFFFFFFFF ((s.reg (flowWin key + 8 + 4 * pktPath f p)).toNat + 1)) ∧
      t.bit (flowWin key) (2 + pktPath f p) = true ∧ (∀ a, a < flowWin key ∨ flowWin key + 0x20 ≤ a → t.reg a = s.reg a) ∧ t.out = [] ∧
      ∀ j, j ≠ key → t.flowOf j = s.flowOf j := by
  have hdo := doFlowPacketRx_eq (s := s.begin) ⟨h.known, h.enabled, h.receives⟩ hif
  rw [hsupported, hpkt, if_neg (by decide)] at hdo
  obtain ⟨hstep, hcount, hup, hout, hwire⟩ := pathSeen_shows (key := key) (pktPath_le f p) f s.begin
  generalize pathSeen key (pktPath f p) f s.begin = u at hdo hstep hcount hup hout hwire
  obtain ⟨gstep, gout, gcount, gup, gother⟩ := bufferPkt_keepsCounts (key := key) (pktPath f p) (heard (pktPath f p) f u) p u
  generalize bufferPkt key (pktPath f p) (heard (pktPath f p) f u) p u = t at hdo gstep gout gcount gup gother
  refine ⟨t, (exec_flowPacketRx hzone p).trans (congrArg Host.Outcome.next hdo), (gcount _ (pktPath_le f p)).trans hcount, (gup _ (pktPath_le f p)).trans hup,
    ((FlowStep.begin key s).trans (hstep.trans gstep)).2, gout.trans hout, fun j hj => (gother j hj).trans ?_⟩
  unfold State.flowOf
  rw [hwire]
  rfl

theorem exec_flowPacketRx_dropped {f : Flow} (hzone : s.stopped (flowZone key) = false) (h : Receives key f s) {p : FlowPacket}
    (hif : s.stopped (pktIf f p / 8) = false) (hnot : p.unsupported = true ∨ pktOf f.desc (pktPath f p) p = false) :
    ∃ t, exec (.flowPacketRx key p) s = .next t ∧ t = { s with out := [], regs := t.regs } ∧
      ∀ a, t.reg a = if a = Reg.ethIfRxDropCnt (pktIf f p) then wd (min 0xFFFFFFFF ((s.reg a).toNat + 1)) else s.reg a := by
  have hdo := doFlowPacketRx_eq (s := s.begin) ⟨h.known, h.enabled, h.receives⟩ hif
  rw [if_pos (by rw [Bool.or_eq_true, Bool.not_eq_true']; exact hnot)] at hdo
  exact ⟨dropRx (pktIf f p) s.begin, (exec_flowPacketRx hzone p).trans (congrArg Host.Outcome.next hdo), rfl, State.reg_bump s.begin _ 1⟩

end

end Sys2Proof.Machine
end

section
/-! What a receive flow releases and loses (R168, R169, R174, R177). -/

namespace Sys2Proof.Machine

open Sys2Proof

section
variable {s : State} {key : Nat}

/-! The packets of a release -/

/-- A release counts what no path brought, and of a paired flow what one path alone brought (R174). -/
def countLosses (key lost : Nat) (paired : Bool) (recovered : Nat) (s : State) : State :=
  if paired then (s.bump (flowWin key + 0x10) lost).bump (flowWin key + 0x14) recovered else s.bump (flowWin key + 0x10) lost

theorem countLosses_step (lost : Nat) (paired : Bool) (recovered : Nat) (s : State) : FlowStep key s (countLosses key lost paired recovered s) := by
  have hlost : FlowStep key s (s.bump (flowWin key + 0x10) lost) := FlowStep.bump (by omega) lost s
  unfold countLosses
  split
  · exact hlost.trans (FlowStep.bump (by omega) recovered _)
  · exact hlost

theorem countLosses_lost (lost : Nat) (paired : Bool) (recovered : Nat) (s : State) :
    (countLosses key lost paired recovered s).reg (flowWin key + 0x10) = wd (min 0xFFFFFFFF ((s.reg (flowWin key + 0x10)).toNat + lost)) := by
  unfold countLosses
  split
  · rw [State.reg_bump, if_neg (by omega), State.reg_bump, if_pos rfl]
  · rw [State.reg_bump, if_pos rfl]

theorem countLosses_recovered (lost : Nat) (paired : Bool) (recovered : Nat) (s : State) :
    (countLosses key lost paired recovered s).reg (flowWin key + 0x14) =
      if paired = true then wd (min 0xFFFFFFFF ((s.reg (flowWin key + 0x14)).toNat + recovered)) else s.reg (flowWin key + 0x14) := by
  unfold countLosses
  split
  · rw [State.reg_bump, if_pos rfl, State.reg_bump, if_neg (by omega)]
  · rw [State.reg_bump, if_neg (by omega)]

theorem countLosses_wire (lost : Nat) (paired : Bool) (recovered : Nat) (s : State) : (countLosses key lost paired recovered s).wire = s.wire :=
  ite_wire rfl rfl

theorem countLosses_out (lost : Nat) (paired : Bool) (recovered : Nat) (s : State) : (countLosses key lost paired recovered s).out = s.out := by
  unfold countLosses
  split <;> rfl

theorem tsLe_self (ts : Nat) : tsLe ts ts = true := by
  unfold tsLe
  rw [Nat.add_sub_cancel_left]
  rfl

/-- The packets that one alone of a pair of paths brought, of one packet. -/
theorem length_filter_single (x : SeenPkt) : (([x] : List SeenPkt).filter (fun y => !y.both)).length = b2n (!x.both) := by
  cases h : x.both <;> simp [h, b2n]

/-- A release of one packet ahead of the last number accounts for the numbers up to it. -/
theorem accountPkts_single {f : Flow} {x : SeenPkt} {l ts : Nat} (hseen : f.seen = [x]) (hts : x.ts = ts) (hlast : f.lastSeq = some l)
    (hahead : 1 ≤ seqAhead (seqSpan f.desc) l x.seq) (hhalf : seqAhead (seqSpan f.desc) l x.seq < seqSpan f.desc / 2) (s : State) :
    ∃ seen, accountPkts key ts f [x] s = (countLosses key (seqAhead (seqSpan f.desc) l x.seq - 1) f.desc.paired (b2n (!x.both)) s,
      { f with lastSeq := some x.seq, released := some ts, seen := seen }) := by
  unfold accountPkts
  extract_lets m seqs first base later hi total got lost counted f'
  have hfirst : first = x.seq := rfl
  have hbase : base = l := by
    unfold base
    rw [hlast, hfirst]
    exact if_pos hhalf
  have hlater : later = [] := by
    unfold later
    rw [hseen, List.filter_cons_of_neg (by rw [hts, tsLe_self]; simp)]
    rfl
  have hhi : hi = x.seq := by
    unfold hi
    rw [hlater, hfirst]
    exact if_neg (lt_irrefl _)
  have htotal : total = seqAhead (seqSpan f.desc) l x.seq := by
    unfold total
    rw [hbase, hhi]
  have hgot : got = [x] := by
    unfold got
    rw [hseen, hbase, htotal]
    exact List.filter_cons_of_pos (decide_eq_true ⟨hahead, le_refl _⟩)
  have hcounted : counted = countLosses key (seqAhead (seqSpan f.desc) l x.seq - 1) f.desc.paired (b2n (!x.both)) s := by
    unfold counted lost
    rw [hgot, htotal, length_filter_single]
    rfl
  have hf' : f' = { f with lastSeq := some x.seq, released := some ts } := by
    unfold f'
    rw [hhi]
  exact ⟨_, by rw [hcounted, hf']⟩

/-! A frame of a video flow -/

theorem length_fieldRows (lay : Nat → List Px → List Px) (k y : Nat) (last : List Px) : (fieldRows lay k y last).length = k := by
  induction k generalizing y last with
  | zero => rfl
  | succ k ih => exact congrArg (· + 1) (ih _ _)

/-- Several things leave. -/
def emitAll (l : List Output) (s : State) : State := { s with out := s.out ++ l }

theorem foldl_emit {α : Type} (g : α → Output) (l : List α) (s : State) : l.foldl (fun s x => s.emit (g x)) s = emitAll (l.map g) s := by
  induction l generalizing s with
  | nil =>
    unfold emitAll
    rw [List.map_nil, List.append_nil]
    rfl
  | cons x l ih =>
    unfold emitAll at ih ⊢
    rw [List.foldl_cons, ih, List.map_cons, List.append_cons]
    rfl

theorem quadMatches_alone {d : FlowDesc} (h : d.quad = 0) (ts : Nat) (s : State) : s.quadMatches d ts = true := if_pos h

/-- Where no flow carries ancillary packets, none go with a frame. -/
theorem attachAnc_none {s : State} (h : ∀ e ∈ s.wire.flows, e.2.desc.kind ≠ 4) (ei ts : Nat) : attachAnc ei ts s = s := by
  refine foldl_eq_self (fun e he => ?_)
  dsimp only
  rw [decide_eq_false (h e he)]
  rfl

/-- The essence of a video flow whose port already is present. -/
theorem setFlowPresent_video {d : FlowDesc} (hkind : d.kind = 0) (hwin : flowWin key < 0x128000) (hport : s.eiPresent d.port = true) :
    setFlowPresent key d true s = s.setBit (flowWin key) 1 true := by
  have hport' : (s.setBit (flowWin key) 1 true).eiPresent d.port = true :=
    (State.bit_of_reg (State.reg_setReg_ne s (by simp only [Reg.splEiStatus]; omega) _) 0).trans hport
  unfold setFlowPresent
  rw [hkind]
  generalize s.setBit (flowWin key) 1 true = u at hport'
  show setPresent d.port true u = u
  unfold setPresent
  rw [if_pos rfl, hport']
  rfl

/-- A frame's lines leave at the flow's port, which shows its essence present. -/
theorem releaseFrame_shows {f : Flow} (hkind : f.desc.kind = 0) (hquad : f.desc.quad = 0) (hwin : flowWin key < 0x128000) (hport : s.eiPresent f.desc.port = true)
    (hanc : ∀ e ∈ s.wire.flows, e.2.desc.kind ≠ 4) (ts : Nat) (es : List SeenPkt) :
    ∃ row lines, lines.length = flowLines f.desc ∧ (∀ y ∈ lines, ∃ a r, y = Output.line (objEi f.desc.port) a r) ∧
      releaseFrame key ts f es s = (emitAll lines (setFlow key { f with lastRow := row } s.draw)).setBit (flowWin key) 1 true := by
  have hmatches : ¬ (!s.quadMatches f.desc ts) = true := by rw [quadMatches_alone hquad]; decide
  unfold releaseFrame
  dsimp only
  rw [if_neg hmatches]
  generalize hrows : fieldRows _ _ _ _ = rows
  have hlength : rows.length = flowLines f.desc := by rw [← hrows, length_fieldRows]
  generalize rows.getLastD _ = row
  rw [foldl_emit]
  generalize hlines : rows.zipIdx.map _ = lines
  have hanc' : ∀ e ∈ (emitAll lines (setFlow key { f with lastRow := row } s.draw)).wire.flows, e.2.desc.kind ≠ 4 := by
    intro e he
    rcases mem_tabSet he with rfl | he
    · rw [hkind]; decide
    · exact hanc e he
  have hport' : (emitAll lines (setFlow key { f with lastRow := row } s.draw)).eiPresent f.desc.port = true := hport
  rw [attachAnc_none hanc', setFlowPresent_video hkind hwin hport']
  refine ⟨row, lines, ?_, fun y hy => ?_, rfl⟩
  · rw [← hlines, List.length_map, List.length_zipIdx, hlength]
  · rw [← hlines] at hy
    obtain ⟨r, -, hr⟩ := List.mem_map.mp hy
    exact ⟨_, _, hr.symm⟩

/-! FLOW_RELEASE -/

theorem flowKey_parts (key : Nat) : flowKey (key / 0x10000) (key % 0x10000) = key := by
  unfold flowKey
  omega

theorem exec_flowRelease (hzone : s.stopped (flowZone key) = false) (ts : Nat) (fmt : Option Format) :
    exec (.flowRelease (key / 0x10000) (key % 0x10000) ts fmt) s = .next (doFlowRelease key ts fmt s.begin) := by
  have hruns := unlessStopped_runs (s := s.begin) (zone_of_stopped hzone) (doFlowRelease key ts fmt)
  refine congrArg Host.Outcome.next (Eq.trans ?_ hruns)
  rw [flowKey_parts]

/-- A frame of one packet that is due (R168). -/
structure FrameDue (f : Flow) (x : SeenPkt) (ts : Nat) (s : State) : Prop where
  video : f.desc.kind = 0
  heard : f.lastPacket ≠ 0
  seen : f.seen = [x]
  stamped : x.ts = ts
  unreleased : releasedTs f ts = false
  due : s.releaseDue f.desc ts = true

theorem doFlowRelease_frame {f : Flow} {x : SeenPkt} {ts : Nat} (h : Receives key f s) (g : FrameDue f x ts s) (fmt : Option Format) :
    doFlowRelease key ts fmt s = releaseFrame key ts (accountPkts key ts f [x] s).2 [x] (accountPkts key ts f [x] s).1 := by
  have hruns : ¬ ((!f.desc.enable) = true ∨ f.desc.send = true ∨ f.lastPacket = 0) := by
    rw [h.enabled, h.receives]
    simpa using g.heard
  have hpackets : f.seen.filter (fun x => if f.desc.kind = 1 then tsLe x.ts ts && !releasedTs f x.ts else decide (x.ts = ts)) = [x] := by
    rw [g.seen]
    simp [g.video, g.stamped]
  have hdue : ¬ (([x] : List SeenPkt).isEmpty || releasedTs f ts || !s.releaseDue f.desc ts) = true := by
    simp [g.unreleased, g.due]
  unfold doFlowRelease
  rw [h.known]
  dsimp only
  rw [if_neg hruns, if_neg (by rw [g.video]; decide), hpackets, if_neg hdue, g.video]
  rfl

/-- The first packet of a frame follows on the last number by less than half the circle (R174). -/
structure InSequence (f : Flow) (x : SeenPkt) (l : Nat) : Prop where
  last : f.lastSeq = some l
  ahead : 1 ≤ seqAhead (seqSpan f.desc) l x.seq
  half : seqAhead (seqSpan f.desc) l x.seq < seqSpan f.desc / 2

/-- The losses that a release of one packet counts. -/
def countRelease (key : Nat) (f : Flow) (x : SeenPkt) (l : Nat) (s : State) : State :=
  countLosses key (seqAhead (seqSpan f.desc) l x.seq - 1) f.desc.paired (b2n (!x.both)) s

/-- What a flow shows when its frame of one packet is released. -/
def frameShown (key : Nat) (f : Flow) (x : SeenPkt) (l : Nat) (lines : List Output) (g : Flow) (s : State) : State :=
  (emitAll lines (setFlow key g (countRelease key f x l s).draw)).setBit (flowWin key) 1 true

theorem doFlowRelease_shows {f : Flow} {x : SeenPkt} {ts l : Nat} (h : Receives key f s) (hdue : FrameDue f x ts s) (hseq : InSequence f x l)
    (hwin : flowWin key + 0x20 ≤ 0x128000) (hquad : f.desc.quad = 0) (hport : s.eiPresent f.desc.port = true) (hanc : ∀ e ∈ s.wire.flows, e.2.desc.kind ≠ 4) (fmt : Option Format) :
    ∃ g lines, (g.desc, g.released, g.lastSeq) = (f.desc, some ts, some x.seq) ∧ lines.length = flowLines f.desc ∧
      (∀ y ∈ lines, ∃ a r, y = Output.line (objEi f.desc.port) a r) ∧ doFlowRelease key ts fmt s = frameShown key f x l lines g s := by
  obtain ⟨seen, haccount⟩ := accountPkts_single (key := key) hdue.seen hdue.stamped hseq.last hseq.ahead hseq.half s
  have hframe := doFlowRelease_frame h hdue fmt
  rw [haccount] at hframe
  have hstep : FlowStep key s (countRelease key f x l s) := countLosses_step _ _ _ s
  have hport' : (countRelease key f x l s).eiPresent f.desc.port = true :=
    (State.bit_of_reg (hstep.2 _ (by simp only [Reg.splEiStatus]; omega)) 0).trans hport
  have hanc' : ∀ e ∈ (countRelease key f x l s).wire.flows, e.2.desc.kind ≠ 4 := by
    rw [countRelease, countLosses_wire]
    exact hanc
  obtain ⟨row, lines, hlength, hlines, hshows⟩ := releaseFrame_shows (key := key) (f := { f with lastSeq := some x.seq, released := some ts, seen := seen })
    hdue.video hquad (by omega) hport' hanc' ts [x]
  exact ⟨_, lines, rfl, hlength, hlines, hframe.trans hshows⟩

theorem frameShown_step (f : Flow) (x : SeenPkt) (l : Nat) (lines : List Output) (g : Flow) (s : State) : FlowStep key s (frameShown key f x l lines g s) := by
  have hstep : FlowStep key s (countRelease key f x l s) := countLosses_step _ _ _ s
  have hlines : FlowStep key (setFlow key g (countRelease key f x l s).draw) (emitAll lines (setFlow key g (countRelease key f x l s).draw)) := ⟨rfl, fun _ _ => rfl⟩
  exact (((hstep.trans (FlowStep.draw _)).trans (FlowStep.setFlow g _)).trans hlines).trans (FlowStep.setBit (by omega) 1 true _)

/-- Showing a frame sets PRESENT, and no register beside the losses. -/
theorem frameShown_reg (f : Flow) (x : SeenPkt) (l : Nat) (lines : List Output) (g : Flow) (s : State) {i : Nat} (hi : i ≠ 0) :
    (frameShown key f x l lines g s).reg (flowWin key + i) = (countRelease key f x l s).reg (flowWin key + i) := State.reg_setReg_ne _ (by omega) _

theorem frameShown_out (f : Flow) (x : SeenPkt) (l : Nat) (lines : List Output) (g : Flow) (s : State) : (frameShown key f x l lines g s).out = s.out ++ lines :=
  congrArg (· ++ lines) (countLosses_out _ _ _ s)

theorem frameShown_flowOf (f : Flow) (x : SeenPkt) (l : Nat) (lines : List Output) (g : Flow) (s : State) : (frameShown key f x l lines g s).flowOf key = some g :=
  (flowOf_setFlow key g _ key).trans (if_pos rfl)

/-- The release of a frame of one packet. -/
theorem exec_flowRelease_frame (hflow : key % 0x10000 < 512) (hzone : s.stopped (flowZone key) = false) {f : Flow} {x : SeenPkt} {ts l : Nat} (h : Receives key f s)
    (hdue : FrameDue f x ts s) (hseq : InSequence f x l) (hquad : f.desc.quad = 0) (hport : s.eiPresent f.desc.port = true)
    (hanc : ∀ e ∈ s.wire.flows, e.2.desc.kind ≠ 4) (fmt : Option Format) :
    ∃ t, exec (.flowRelease (key / 0x10000) (key % 0x10000) ts fmt) s = .next t ∧
      t.reg (flowWin key + 0x10) = wd (min 0xFFFFFFFF ((s.reg (flowWin key + 0x10)).toNat + (seqAhead (seqSpan f.desc) l x.seq - 1))) ∧
      t.reg (flowWin key + 0x14) = (if f.desc.paired = true then wd (min 0xFFFFFFFF ((s.reg (flowWin key + 0x14)).toNat + b2n (!x.both))) else s.reg (flowWin key + 0x14)) ∧
      t.bit (flowWin key) 1 = true ∧ (∀ a, a < flowWin key ∨ flowWin key + 0x20 ≤ a → t.reg a = s.reg a) ∧
      (t.flowOf key).map (fun g => (g.desc, g.released, g.lastSeq)) = some (f.desc, some ts, some x.seq) ∧ t.out.length = flowLines f.desc ∧
      (∀ y ∈ t.out, ∃ a r, y = .line (objEi f.desc.port) a r) ∧
      t = { s with out := t.out, regs := t.regs, draws := t.draws, wire := { s.wire with flows := t.wire.flows } } := by
  obtain ⟨-, hwin⟩ := flowWin_range hflow
  obtain ⟨g, lines, hg, hlength, hlines, hdo⟩ := doFlowRelease_shows (s := s.begin) ⟨h.known, h.enabled, h.receives⟩
    ⟨hdue.video, hdue.heard, hdue.seen, hdue.stamped, hdue.unreleased, hdue.due⟩ hseq hwin hquad hport hanc fmt
  have hout : (frameShown key f x l lines g s.begin).out = lines := frameShown_out f x l lines g s.begin
  obtain ⟨hparts, hregs⟩ := (FlowStep.begin key s).trans (frameShown_step (key := key) f x l lines g s.begin)
  refine ⟨frameShown key f x l lines g s.begin, (exec_flowRelease hzone ts fmt).trans (congrArg Host.Outcome.next hdo), ?_, ?_,
    State.bit_setBit_same _ _ true (by decide), hregs, ?_, ?_, fun y hy => hlines y (hout ▸ hy), hparts⟩
  · exact (frameShown_reg f x l lines g s.begin (by decide)).trans (countLosses_lost _ _ _ s.begin)
  · exact (frameShown_reg f x l lines g s.begin (by decide)).trans (countLosses_recovered _ _ _ s.begin)
  · rw [frameShown_flowOf]
    exact congrArg some hg
  · rw [hout, hlength]

/-! FLOW_LOST and PATH_LOST -/

theorem setBds_other {d : FlowDesc} (h : d.kind ≠ 1) (f : Option Format) (v : Bool) (s : State) : setBds d f v s = s := if_neg h

/-- What was to be released of a flow that is lost is over (R169). -/
def lostFlow (f : Flow) : Flow := { f with released := none, lastSeq := none, seen := [] }

theorem doFlowLost_anc {f : Flow} (h : Receives key f s) (hkind : f.desc.kind = 4) (hpresent : s.bit (flowWin key) 1 = true) :
    doFlowLost key s = raiseFlow key 0 ((setFlow key (lostFlow f) s).setBit (flowWin key) 1 false) := by
  have hlost : (f.desc.enable && !f.desc.send && s.bit (flowWin key) 1) = true := by rw [h.enabled, h.receives, hpresent]; rfl
  unfold doFlowLost
  rw [h.known]
  dsimp only
  rw [if_pos hlost, setFlowPresent_anc hkind, setBds_other (by rw [hkind]; decide)]
  rfl

/-- A flow of ancillary data that is lost is absent (R169). -/
theorem exec_flowLost_anc (hzone : s.stopped (flowZone key) = false) {f : Flow} (h : Receives key f s) (hkind : f.desc.kind = 4) (hpresent : s.bit (flowWin key) 1 = true) :
    ∃ t, exec (.flowLost key) s = .next t ∧ t.bit (flowWin key) 1 = false ∧ t.bit (flowWin key + 4) 0 = true ∧
      (∀ a, a < flowWin key ∨ flowWin key + 0x20 ≤ a → t.reg a = s.reg a) ∧ t = { s with out := [], regs := t.regs, wire := { s.wire with flows := t.wire.flows } } := by
  have hdo := doFlowLost_anc (s := s.begin) ⟨h.known, h.enabled, h.receives⟩ hkind hpresent
  have habsent := State.bit_setBit_same (setFlow key (lostFlow f) s.begin) (flowWin key) (b := 1) false (by decide)
  have hstep : FlowStep key s ((setFlow key (lostFlow f) s.begin).setBit (flowWin key) 1 false) :=
    ((FlowStep.begin key s).trans (FlowStep.setFlow _ _)).trans (FlowStep.setBit (by omega) 1 false _)
  have hreg : (raiseFlow key 0 ((setFlow key (lostFlow f) s.begin).setBit (flowWin key) 1 false)).reg (flowWin key) =
      ((setFlow key (lostFlow f) s.begin).setBit (flowWin key) 1 false).reg (flowWin key) := State.reg_setReg_ne _ (by omega) _
  exact ⟨_, congrArg Host.Outcome.next ((unlessStopped_runs (s := s.begin) (zone_of_stopped hzone) _).trans hdo),
    (State.bit_of_reg hreg 1).trans habsent, State.bit_setBit_same _ _ true (by decide), (hstep.trans (FlowStep.raiseFlow 0 _)).2, rfl⟩

/-- A path of a flow that is lost is down (R177). -/
theorem exec_pathLost (hzone : s.stopped (flowZone key) = false) {path : Nat} (hpath : path ≤ 1) (hup : s.bit (flowWin key) (2 + path) = true) :
    ∃ t, exec (.pathLost key path) s = .next t ∧ t.bit (flowWin key) (2 + path) = false ∧ t.bit (flowWin key + 4) 2 = true ∧
      (∀ a, a < flowWin key ∨ flowWin key + 0x20 ≤ a → t.reg a = s.reg a) ∧ t = { s with out := [], regs := t.regs } := by
  have hdo : doPathLost key path s.begin = raiseFlow key 2 (s.begin.setBit (flowWin key) (2 + path) false) := if_pos ⟨hpath, hup⟩
  have hdown := State.bit_setBit_same s.begin (flowWin key) (b := 2 + path) false (by omega)
  have hreg : (raiseFlow key 2 (s.begin.setBit (flowWin key) (2 + path) false)).reg (flowWin key) = (s.begin.setBit (flowWin key) (2 + path) false).reg (flowWin key) :=
    State.reg_setReg_ne _ (by omega) _
  have hstep : FlowStep key s (raiseFlow key 2 (s.begin.setBit (flowWin key) (2 + path) false)) :=
    ((FlowStep.begin key s).trans (FlowStep.setBit (by omega) _ false _)).trans (FlowStep.raiseFlow 2 _)
  exact ⟨_, congrArg Host.Outcome.next ((unlessStopped_runs (s := s.begin) (zone_of_stopped hzone) _).trans hdo), (State.bit_of_reg hreg _).trans hdown,
    State.bit_setBit_same _ _ true (by decide), hstep.2, rfl⟩

end

end Sys2Proof.Machine
end

section
/-! Packets of a send flow, and what flows do altogether (R164 to R177). -/

namespace Sys2Proof.Machine

open Sys2Proof

section
variable {s t : State} {key n : Nat}

/-! FLOW_PACKET_TX -/

/-- A step of a flow leaves its interfaces able to send. -/
theorem FlowStep.sendsClear (h : FlowStep key s t) (hflow : key % 0x10000 < 512) (hs : SendsClear n s) : SendsClear n t := by
  obtain ⟨hlo, hhi⟩ := flowWin_range hflow
  obtain ⟨-, hregs⟩ := h
  obtain ⟨hmay, hzone, hclear⟩ := hs
  have hn := lt_of_mayTransmit hmay
  refine ⟨?_, fun hstopped => hzone ?_, ?_⟩
  · rw [mayTransmit_of_reg hn (fun k hk => hregs _ (by simp only [Reg.strCfg]; omega)) (fun k hk => hregs _ (by simp only [Reg.strState]; omega))
      (fun d => hregs _ (by simp only [Reg.splSrc, destWin]; split <;> omega))]
    exact hmay
  · exact (State.f_of_reg (hregs _ (by simp only [Reg.sysZoneState]; omega)) _ _).symm.trans hstopped
  · exact (State.bit_of_reg (hregs _ (by simp only [Reg.ethIfCtrl]; omega)) 16).trans hclear

/-- What a send flow does for one path of a packet: it counts and the packet leaves. -/
def sendOn (key : Nat) (f : Flow) (p : OutPkt) (s : State) (e : (Nat × (Nat × Nat × Nat × Nat)) × Nat) : State :=
  (sendIp e.1.1 5 e.1.2.2.2.2 f.desc.dscp e.1.2.2.1 e.1.2.1 17 [] (udp Config.udpSource e.1.2.2.2.1 (flowRtp f.desc f.seqOut p)) (s.bump (flowWin key + 8 + 4 * e.2) 1)).draw

theorem sendOn_clear (hflow : key % 0x10000 < 512) (f : Flow) (p : OutPkt) {q : Nat × (Nat × Nat × Nat × Nat)} (hs : SendsClear q.1 s) {k : Nat} (hk : k ≤ 1) :
    ∃ b, sendOn key f p s (q, k) = ((s.bump (flowWin key + 8 + 4 * k) 1).emit (.frame q.1 5 b)).draw := by
  have hstep : FlowStep key s (s.bump (flowWin key + 8 + 4 * k) 1) := FlowStep.bump (by omega) 1 s
  obtain ⟨hmay, hzone, hclear⟩ := hstep.sendsClear hflow hs
  obtain ⟨b, hsend⟩ := sendIp_clear (kind := 5) hmay hzone hclear q.2.2.2.2 f.desc.dscp q.2.2.1 q.2.1 17 [] (udp Config.udpSource q.2.2.2.1 (flowRtp f.desc f.seqOut p))
  exact ⟨b, congrArg State.draw hsend⟩

/-- The flow after a packet of its pacing buffer has left. -/
def sentFlow (f : Flow) (rest : List OutPkt) : Flow := { f with queue := rest, seqOut := f.seqOut + 1, sentPackets := f.sentPackets + 1 }

/-- A send flow in service. -/
structure Sends (key : Nat) (f : Flow) (s : State) : Prop where
  known : s.flowOf key = some f
  enabled : f.desc.enable = true
  sends : f.desc.send = true

theorem doFlowPacketTx_none {f : Flow} (h : Sends key f s) (hqueue : f.queue = []) : doFlowPacketTx key s = s := by
  unfold doFlowPacketTx
  rw [h.known]
  dsimp only
  rw [hqueue, h.enabled, h.sends]
  rfl

theorem doFlowPacketTx_sends {f : Flow} (h : Sends key f s) {p : OutPkt} {rest : List OutPkt} (hqueue : f.queue = p :: rest) :
    doFlowPacketTx key s = (flowPaths f.desc).zipIdx.foldl (sendOn key f p) (setFlow key (sentFlow f rest) s) := by
  unfold doFlowPacketTx
  rw [h.known]
  dsimp only
  rw [hqueue, h.enabled, h.sends]
  rfl

theorem exec_flowPacketTx (hzone : s.stopped (flowZone key) = false) : exec (.flowPacketTx key) s = .next (doFlowPacketTx key s.begin) :=
  congrArg Host.Outcome.next (unlessStopped_runs (s := s.begin) (zone_of_stopped hzone) _)

/-- A packet left on each path of a list, whose places begin with `k`, and counts there. -/
def LeftOn (key : Nat) (paths : List (Nat × (Nat × Nat × Nat × Nat))) (k : Nat) (s t : State) : Prop :=
  FlowStep key s t ∧ t.wire = s.wire ∧ (∃ l, t.out = s.out ++ l ∧ List.Forall₂ (fun o q => ∃ b, o = Output.frame q.1 5 b) l paths) ∧
    ∀ j, t.reg (flowWin key + 8 + 4 * j) =
      if k ≤ j ∧ j < k + paths.length then wd (min 0xFFFFFFFF ((s.reg (flowWin key + 8 + 4 * j)).toNat + 1)) else s.reg (flowWin key + 8 + 4 * j)

theorem sendOn_left (hflow : key % 0x10000 < 512) (f : Flow) (p : OutPkt) {q : Nat × (Nat × Nat × Nat × Nat)} (hs : SendsClear q.1 s) {k : Nat} (hk : k ≤ 1) :
    LeftOn key [q] k s (sendOn key f p s (q, k)) := by
  obtain ⟨b, hsend⟩ := sendOn_clear hflow f p hs hk
  have hstep : FlowStep key s (s.bump (flowWin key + 8 + 4 * k) 1) := FlowStep.bump (by omega) 1 s
  rw [hsend]
  refine ⟨(hstep.trans (FlowStep.emit _ _)).trans (FlowStep.draw _), rfl, ⟨[.frame q.1 5 b], rfl, .cons ⟨b, rfl⟩ .nil⟩, fun j => ?_⟩
  refine (State.reg_bump s _ 1 _).trans (if_congr ?_ rfl rfl)
  rw [List.length_singleton]
  omega

theorem LeftOn.cons {q : Nat × (Nat × Nat × Nat × Nat)} {paths : List (Nat × (Nat × Nat × Nat × Nat))} {k : Nat} {u : State} (h : LeftOn key [q] k s t)
    (g : LeftOn key paths (k + 1) t u) : LeftOn key (q :: paths) k s u := by
  obtain ⟨hstep, hwire, ⟨l, hout, hl⟩, hcount⟩ := h
  obtain ⟨gstep, gwire, ⟨m, gout, hm⟩, gcount⟩ := g
  refine ⟨hstep.trans gstep, gwire.trans hwire, ⟨l ++ m, by rw [gout, hout, List.append_assoc], List.rel_append hl hm⟩, fun j => ?_⟩
  rw [gcount j, hcount j, List.length_singleton, List.length_cons]
  by_cases hj : j = k
  · rw [if_neg (by omega), if_pos (by omega), if_pos (by omega)]
  · rw [if_neg (c := k ≤ j ∧ j < k + 1) (by omega)]
    exact if_congr (by omega) rfl rfl

/-- A packet leaves on every path. -/
theorem foldl_sendOn_left (hflow : key % 0x10000 < 512) (f : Flow) (p : OutPkt) (paths : List (Nat × (Nat × Nat × Nat × Nat))) {k : Nat} (hk : k + paths.length ≤ 2)
    (hs : ∀ q ∈ paths, SendsClear q.1 s) : LeftOn key paths k s ((paths.zipIdx k).foldl (sendOn key f p) s) := by
  induction paths generalizing k s with
  | nil => exact ⟨FlowStep.refl key s, rfl, ⟨[], (List.append_nil _).symm, .nil⟩, fun j => (if_neg (by rw [List.length_nil]; omega)).symm⟩
  | cons q paths ih =>
    rw [List.length_cons] at hk
    have hfirst := sendOn_left hflow f p (hs q List.mem_cons_self) (k := k) (by omega)
    obtain ⟨hstep, -⟩ := id hfirst
    rw [List.zipIdx_cons, List.foldl_cons]
    exact hfirst.cons (ih (by omega) fun r hr => hstep.sendsClear hflow (hs r (List.mem_cons_of_mem _ hr)))

/-- A flow sends on one path, or on both of a pair. -/
theorem length_flowPaths (d : FlowDesc) : (flowPaths d).length = if d.paired = true then 2 else 1 := by
  unfold flowPaths
  split <;> rfl

/-- The packet at the front of the pacing buffer leaves on each of the flow's paths (R168, R171). -/
theorem exec_flowPacketTx_sends (hflow : key % 0x10000 < 512) (hzone : s.stopped (flowZone key) = false) {f : Flow} (h : Sends key f s) {p : OutPkt} {rest : List OutPkt}
    (hqueue : f.queue = p :: rest) (hpaths : ∀ q ∈ flowPaths f.desc, SendsClear q.1 s) :
    ∃ t, exec (.flowPacketTx key) s = .next t ∧ t.out.length = (flowPaths f.desc).length ∧
      (∀ (k : Nat) (q : Nat × Nat × Nat × Nat × Nat), (flowPaths f.desc)[k]? = some q → ∃ b, t.out[k]? = some (Output.frame q.1 5 b)) ∧
      t.flowOf key = some (sentFlow f rest) ∧ (∀ a, a < flowWin key ∨ flowWin key + 0x20 ≤ a → t.reg a = s.reg a) ∧
      t.reg (flowWin key + 8) = wd (min 0xFFFFFFFF ((s.reg (flowWin key + 8)).toNat + 1)) ∧
      t.reg (flowWin key + 0xC) = (if f.desc.paired = true then wd (min 0xFFFFFFFF ((s.reg (flowWin key + 0xC)).toNat + 1)) else s.reg (flowWin key + 0xC)) ∧
      t = { s with out := t.out, regs := t.regs, draws := t.draws, wire := { s.wire with flows := t.wire.flows } } := by
  have hdo := doFlowPacketTx_sends (s := s.begin) ⟨h.known, h.enabled, h.sends⟩ hqueue
  have hstart : FlowStep key s (setFlow key (sentFlow f rest) s.begin) := (FlowStep.begin key s).trans (FlowStep.setFlow _ _)
  have hlength := length_flowPaths f.desc
  obtain ⟨hstep, hwire, ⟨l, hout, hl⟩, hcount⟩ := foldl_sendOn_left hflow f p (flowPaths f.desc) (k := 0) (by rw [hlength]; split <;> decide)
    fun q hq => hstart.sendsClear hflow (hpaths q hq)
  have hexec := (exec_flowPacketTx hzone).trans (congrArg Host.Outcome.next hdo)
  generalize (flowPaths f.desc).zipIdx.foldl (sendOn key f p) (setFlow key (sentFlow f rest) s.begin) = t at hstep hwire hout hcount hexec
  have hsent : t.out = l := hout
  obtain ⟨hparts, hregs⟩ := hstart.trans hstep
  refine ⟨t, hexec, hsent ▸ hl.length_eq, fun k q hq => ?_, ?_, hregs, (hcount 0).trans ?_, (hcount 1).trans ?_, hparts⟩
  · obtain ⟨hk, rfl⟩ := List.getElem?_eq_some_iff.mp hq
    obtain ⟨b, hb⟩ := hl.get (by rw [hl.length_eq]; exact hk) hk
    exact ⟨b, (congrArg (·[k]?) hsent).trans ((List.getElem?_eq_getElem _).trans (congrArg some hb))⟩
  · unfold State.flowOf
    rw [hwire]
    exact (flowOf_setFlow key _ s.begin key).trans (if_pos rfl)
  · exact if_pos (by rw [hlength]; split <;> decide)
  · rw [hlength]
    cases f.desc.paired <;> rfl

end

/-- Settles O40: descriptors, packets received and sent, releases and losses, each by the lemma of its command. -/
theorem flows : Obligations.Flows := by
  intro s key hflow _ hzone w Win
  refine ⟨fun o l hacc hcheck hkey => ⟨fun f hf hdesc => exec_flowSet_same hacc hcheck hkey hf hdesc, exec_flowSet_new hacc hcheck hkey⟩,
    fun f hf henable hsend => ?_, fun path hpath hup => exec_pathLost hzone hpath hup, fun f hf henable hsend => ?_⟩
  · have h : Receives key f s := ⟨hf, henable, hsend⟩
    refine ⟨?_, ?_, fun hkind hpresent => exec_flowLost_anc hzone h hkind hpresent⟩
    · intro p k i hif
      exact ⟨fun hsupported hpkt => exec_flowPacketRx_accepted hzone h hif hsupported hpkt, fun hnot => exec_flowPacketRx_dropped hzone h hif hnot⟩
    · intro x l ts fmt hseen hts hlast hunreleased hheard hdue m n hahead hhalf _ _ hkind hquad hport hanc
      exact exec_flowRelease_frame hflow hzone h ⟨hkind, hheard, hseen, hts, hunreleased, hdue⟩ ⟨hlast, hahead, hhalf⟩ hquad hport hanc fmt
  · have h : Sends key f s := ⟨hf, henable, hsend⟩
    refine ⟨fun hqueue => ?_, fun p rest hqueue hpaths => ?_⟩
    · rw [exec_flowPacketTx hzone, doFlowPacketTx_none (s := s.begin) ⟨hf, henable, hsend⟩ hqueue]
      rfl
    · refine exec_flowPacketTx_sends hflow hzone h hqueue fun q hq => ?_
      obtain ⟨hmay, hclear, hruns⟩ := hpaths q hq
      exact ⟨hmay, zone_of_stopped hruns, hclear⟩

end Sys2Proof.Machine
end

section
/-! The windows of the destinations (R194, R238) and what stands beside them: an address in a window, and steps that write registers and fids alone. -/

namespace Sys2Proof.Machine

open Sys2Proof

/-! The windows -/

theorem destWin_ge (d : Nat) : 0x182000 ≤ destWin d := by
  unfold destWin
  split <;> omega

/-- The DEST codes in range: 128 egress strands and 1,024 egress ports (R194). -/
theorem destOk_iff (d : Nat) : destOk d = true ↔ (0x8000 ≤ d ∧ d < 0x8080) ∨ d < 0x400 := by
  unfold destOk destIsStrand destNumber
  by_cases h : 0x8000 ≤ d <;> simp [h] <;> omega

theorem destIsStrand_of_port {d : Nat} (h : d < 0x400) : destIsStrand d = false := by
  simp [destIsStrand]
  omega

theorem destWin_of_port {d : Nat} (h : d < 0x400) : destWin d = 0x190000 + 0x40 * d := by
  rw [destWin, destIsStrand_of_port h, if_neg Bool.false_ne_true, destNumber, Nat.mod_eq_of_lt (by omega)]

theorem destWin_of_strand {d : Nat} (h : 0x8000 ≤ d ∧ d < 0x8080) : destWin d = 0x182000 + 0x40 * (d - 0x8000) := by
  have hstrand : destIsStrand d = true := by simp [destIsStrand, h.1]
  have hnumber : destNumber d = d - 0x8000 := by unfold destNumber; omega
  rw [destWin, hstrand, if_pos rfl, hnumber]

/-- A window of a DEST code in range ends before the ports' status registers, and starts at a multiple of its size. -/
theorem destWin_of_ok {d : Nat} (h : destOk d = true) : destWin d + 0x40 ≤ 0x1A0000 ∧ destWin d % 0x40 = 0 := by
  rcases (destOk_iff d).mp h with h | h
  · rw [destWin_of_strand h]; omega
  · rw [destWin_of_port h]; omega

/-- Two DEST codes in range of one window are one. -/
theorem eq_of_destWin_eq {d e : Nat} (hd : destOk d = true) (he : destOk e = true) (h : destWin d = destWin e) : d = e := by
  rcases (destOk_iff d).mp hd with hd | hd <;> rcases (destOk_iff e).mp he with he | he
  · rw [destWin_of_strand hd, destWin_of_strand he] at h; omega
  · rw [destWin_of_strand hd, destWin_of_port he] at h; omega
  · rw [destWin_of_port hd, destWin_of_strand he] at h; omega
  · rw [destWin_of_port hd, destWin_of_port he] at h; omega

/-! Where the registers of a window lie -/

theorem findRegion_splStrand {n off : Nat} (hn : n < 128) (hoff : off < 0x40) :
    findRegion (0x182000 + 0x40 * n + off) regions = some (.splStrand, n, 0, off) := by
  have hin : inRegion (0x182000 + 0x40 * n + off) ⟨.splStrand, 0x182000, 0x40, 128, 0x0, 1, 0x40⟩ = some (n, 0, off) := by
    have hbase : ¬ 0x182000 + 0x40 * n + off < 0x182000 := by omega
    have hwindow : (0x182000 + 0x40 * n + off - 0x182000) / 0x40 = n := by omega
    have hrest : 0x182000 + 0x40 * n + off - 0x182000 - n * 0x40 = off := by omega
    simp [inRegion, hbase, hwindow, hrest, hn, hoff]
  simp only [findRegion, regions, List.cons_append, List.nil_append]
  rw [hin]
  repeat rw [inRegion_none (by dsimp only; omega)]

theorem findRegion_splEo {n off : Nat} (hn : n < 1024) (hoff : off < 0x40) :
    findRegion (0x190000 + 0x40 * n + off) regions = some (.splEo, n, 0, off) := by
  have hin : inRegion (0x190000 + 0x40 * n + off) ⟨.splEo, 0x190000, 0x40, 1024, 0x0, 1, 0x40⟩ = some (n, 0, off) := by
    have hbase : ¬ 0x190000 + 0x40 * n + off < 0x190000 := by omega
    have hwindow : (0x190000 + 0x40 * n + off - 0x190000) / 0x40 = n := by omega
    have hrest : 0x190000 + 0x40 * n + off - 0x190000 - n * 0x40 = off := by omega
    simp [inRegion, hbase, hwindow, hrest, hn, hoff]
  simp only [findRegion, regions, List.cons_append, List.nil_append]
  rw [hin]
  repeat rw [inRegion_none (by dsimp only; omega)]

/-- Every destination has an SPL_ARM_CTRL (R242). -/
theorem locate_splArmCtrl {d : Nat} (h : destOk d = true) : (locate (Reg.splArmCtrl (destWin d))).isSome = true := by
  rcases (destOk_iff d).mp h with h | h
  · have hrow : findRow 0x8 (rowsOf .splStrand) = some (_, _) := rfl
    simp [locate, Reg.splArmCtrl, destWin_of_strand h, findRegion_splStrand (show d - 0x8000 < 128 by omega) (show 0x8 < 0x40 by decide), hrow]
  · have hrow : findRow 0x8 (rowsOf .splEo) = some (_, _) := rfl
    simp [locate, Reg.splArmCtrl, destWin_of_port h, findRegion_splEo h (show 0x8 < 0x40 by decide), hrow]

/-! Steps beside the windows -/

/-- Registers and fids are all that differs, and only the registers of which `p` holds. -/
def RegsFids (p : Nat → Prop) (s t : State) : Prop := t = { s with regs := t.regs, fid := t.fid } ∧ ∀ a, ¬ p a → t.reg a = s.reg a

theorem RegsFids.refl (p : Nat → Prop) (s : State) : RegsFids p s s := ⟨rfl, fun _ _ => rfl⟩

theorem RegsFids.trans {p : Nat → Prop} {s t u : State} (h : RegsFids p s t) (g : RegsFids p t u) : RegsFids p s u :=
  ⟨by rw [g.1, h.1], fun a ha => (g.2 a ha).trans (h.2 a ha)⟩

theorem Writes.regsFids {p : Nat → Prop} {s t : State} (h : Writes p s t) : RegsFids p s t := ⟨by rw [h.1], h.2⟩

theorem RegsFids.foldl {α : Type} {p : Nat → Prop} {f : State → α → State} (h : ∀ s x, RegsFids p s (f s x)) (l : List α) (s : State) :
    RegsFids p s (l.foldl f s) := by
  induction l generalizing s with
  | nil => exact RegsFids.refl p s
  | cons x l ih => exact (h s x).trans (ih (f s x))

theorem RegsFids.live {p : Nat → Prop} {s t : State} (h : RegsFids p s t) : t.live = s.live := by rw [h.1]
theorem RegsFids.host {p : Nat → Prop} {s t : State} (h : RegsFids p s t) : t.host = s.host := by rw [h.1]
theorem RegsFids.spl {p : Nat → Prop} {s t : State} (h : RegsFids p s t) : t.spl = s.spl := by rw [h.1]

/-- The registers past the destinations' windows: those of ports, groups, engines, the store, audio and the fids. -/
def PastWindows (a : Nat) : Prop := 0x1A0000 ≤ a

theorem fidEvent_past (f bit : Nat) (s : State) : RegsFids PastWindows s (fidEvent f bit s) := by
  refine ⟨by rw [fidEvent_parts], fun a ha => ?_⟩
  rw [fidEvent_reg, if_neg]
  rintro ⟨-, rfl⟩
  exact ha (by simp only [PastWindows, Reg.fidStatus]; omega)

theorem fidEventSet_past (c : ChangeSet) (bit : Nat) (s : State) : RegsFids PastWindows s (fidEventSet c bit s) :=
  RegsFids.foldl (fun s f => fidEvent_past f bit s) _ s

theorem serve_past (d : Nat) (s : State) : RegsFids PastWindows s (serve d s) := by
  unfold serve
  split
  · exact RegsFids.refl _ s
  · exact fidEvent_past _ _ s

theorem refreshGroup_past (t g : Nat) (s : State) : Writes PastWindows s (refreshGroup t g s) := by
  have haddr : PastWindows (Reg.splGroupStatus t g) := by simp only [PastWindows, Reg.splGroupStatus]; omega
  unfold refreshGroup
  split
  · exact Writes.refl _ s
  · split
    · exact Writes.setReg haddr _ s
    · exact Writes.setReg haddr _ s

theorem not_pastWindows_of_lt {a : Nat} (h : a < 0x1A0000) : ¬ PastWindows a := Nat.not_le.mpr h

theorem State.destState_of_reg {s t : State} {d : Nat} (h : t.reg (Reg.splSpliceStatus (destWin d)) = s.reg (Reg.splSpliceStatus (destWin d))) :
    t.destState d = s.destState d := State.f_of_reg h 2 0

/-- STATE of a destination stays while registers past the windows are written. -/
theorem RegsFids.destState {s t : State} (h : RegsFids PastWindows s t) {d : Nat} (hd : destOk d = true) : t.destState d = s.destState d := by
  obtain ⟨hend, -⟩ := destWin_of_ok hd
  exact State.destState_of_reg (h.2 _ (not_pastWindows_of_lt (by simp only [Reg.splSpliceStatus]; omega)))

end Sys2Proof.Machine
end

section
/-! SPL_SRC of an egress port (R241): what a hitch that is bound or released at once writes, and what it leaves. -/

namespace Sys2Proof.Machine

open Sys2Proof

/-- Where the hitch of an egress port shows: its SPL_SRC, and the ports' counts of what they feed (R241, R246). -/
def HitchShows (d a : Nat) : Prop := a = Reg.splSrc (destWin d) ∨ PastWindows a

theorem refreshFanout_past (ei : Nat) (s : State) : Writes PastWindows s (refreshFanout ei s) :=
  Writes.setReg (by simp only [PastWindows, Reg.splEiStatus]; omega) _ s

/-- SPL_SRC alone shows the source (R241). -/
def srcShown (d : Nat) (src : Option Nat) (s : State) : State :=
  let a := Reg.splSrc (destWin d)
  match src with
  | some n => (((s.setF a 10 0 n).setBit a 11 true).setBit a 12 (s.srcPresent d n))
  | none => (((s.setF a 10 0 0).setBit a 11 false).setBit a 12 false).setBit a 13 false

theorem srcShown_writes (d : Nat) (src : Option Nat) (s : State) : Writes (· = Reg.splSrc (destWin d)) s (srcShown d src s) := by
  have hw : ∀ (v : Word) (u : State), Writes (· = Reg.splSrc (destWin d)) u (u.setReg (Reg.splSrc (destWin d)) v) := fun v u =>
    Writes.setReg (p := (· = Reg.splSrc (destWin d))) rfl v u
  cases src with
  | some n => exact ((hw _ s).trans (hw _ _)).trans (hw _ _)
  | none => exact (((hw _ s).trans (hw _ _)).trans (hw _ _)).trans (hw _ _)

theorem srcShown_hitch (d : Nat) (src : Option Nat) (s : State) : (srcShown d src s).hitch d = src.map (fun n => n % 2048) := by
  have hfield : ∀ (u : State) (a b : Nat) (v : Bool), 10 < b → (u.setBit a b v).f a 10 0 = u.f a 10 0 := fun u a b v hb =>
    State.f_setF_other u a a (b2n v) le_rfl (by decide) (.inr hb)
  have hvalid : ∀ (u : State) (a b : Nat) (v : Bool), 11 ≠ b → (u.setBit a b v).bit a 11 = u.bit a 11 := fun u a b v hb =>
    State.bit_setBit_other u a a v (by decide) hb
  cases src with
  | some n =>
    simp only [State.hitch, srcShown, hvalid _ _ 12 _ (by decide), State.bit_setBit_same _ _ _ (show 11 < 32 by decide), hfield _ _ 12 _ (by decide),
      hfield _ _ 11 _ (by decide), State.f_setF _ _ _ (show 0 ≤ 10 by decide) (show 10 < 32 by decide)]
    rfl
  | none =>
    simp only [State.hitch, srcShown, hvalid _ _ 13 _ (by decide), hvalid _ _ 12 _ (by decide), State.bit_setBit_same _ _ _ (show 11 < 32 by decide)]
    rfl

/-- The count of what a source feeds is brought up to date, where there is a source. -/
def refanout (o : Option Nat) (s : State) : State :=
  match o with
  | some n => refreshFanout n s
  | none => s

theorem refanout_past (o : Option Nat) (s : State) : Writes PastWindows s (refanout o s) := by
  cases o with
  | some n => exact refreshFanout_past n s
  | none => exact Writes.refl _ s

theorem setSrc_eq {d : Nat} (hd : d < 0x400) (src : Option Nat) (s : State) : setSrc d src s = refanout src (refanout (s.hitch d) (srcShown d src s)) := by
  unfold setSrc srcShown
  rw [destIsStrand_of_port hd]
  cases src <;> rfl

theorem State.hitch_of_reg {s t : State} {d : Nat} (h : t.reg (Reg.splSrc (destWin d)) = s.reg (Reg.splSrc (destWin d))) : t.hitch d = s.hitch d := by
  rw [State.hitch, State.bit_of_reg h, State.f_of_reg h, State.hitch]

theorem setSrc_writes {d : Nat} (hd : d < 0x400) (src : Option Nat) (s : State) : Writes (HitchShows d) s (setSrc d src s) := by
  rw [setSrc_eq hd]
  exact ((srcShown_writes d src s).mono fun a h => .inl h).trans (((refanout_past _ _).trans (refanout_past _ _)).mono fun a h => .inr h)

theorem setSrc_hitch {d : Nat} (hd : d < 0x400) (src : Option Nat) (s : State) : (setSrc d src s).hitch d = src.map (fun n => n % 2048) := by
  rw [setSrc_eq hd, ← srcShown_hitch d src s]
  refine State.hitch_of_reg (((refanout_past _ _).trans (refanout_past _ _)).2 _ (not_pastWindows_of_lt ?_))
  rw [Reg.splSrc, destWin_of_port hd]
  omega

theorem bindDest_port {d : Nat} (hd : d < 0x400) (src : Option Nat) (s : State) : bindDest d src s = setSrc d src s := by
  rw [bindDest, destIsStrand_of_port hd, if_neg Bool.false_ne_true]

theorem afterBind_unused {d : Nat} {s : State} (h : s.consumer d = none) : afterBind d s = s := by
  unfold afterBind
  rw [h]
  split <;> rfl

theorem enginesRefresh_unbound {s : State} (h : s.spl.eiBind = []) : enginesRefresh s = wakeUsed s := by rw [enginesRefresh, h]; rfl

theorem Writes.spl {p : Nat → Prop} {s t : State} (h : Writes p s t) : t.spl = s.spl := by rw [h.1]

/-- An egress port of no consumer is bound or released in SPL_SRC alone (R201, R241). -/
theorem bindNow_unused {d : Nat} (hd : d < 0x400) {s : State} (hc : s.consumer d = none) (he : s.spl.eiBind = []) (src : Option Nat) :
    bindNow d src s = wakeUsed (setSrc d src s) := by
  have hspl := (setSrc_writes hd src s).spl
  have hc' : (setSrc d src s).consumer d = none := by rw [State.consumer, hspl]; exact hc
  rw [bindNow, bindDest_port hd, afterBind_unused hc', enginesRefresh_unbound (by rw [hspl]; exact he)]

/-- The hitches of the other egress ports stay. -/
theorem setSrc_hitch_other {d e : Nat} (hd : d < 0x400) (he : e < 0x400) (hne : e ≠ d) (src : Option Nat) (s : State) : (setSrc d src s).hitch e = s.hitch e := by
  refine State.hitch_of_reg ((setSrc_writes hd src s).2 _ ?_)
  rw [HitchShows, PastWindows, Reg.splSrc, Reg.splSrc, destWin_of_port hd, destWin_of_port he]
  omega

end Sys2Proof.Machine
end

section
/-! The change sets of a state: finding one after it has changed or ended, and the set that a command opens (R205, R227, R248). -/

namespace Sys2Proof.Machine

open Sys2Proof

theorem State.findSet_of_spl {s t : State} (h : t.spl = s.spl) (id : Nat) : t.findSet id = s.findSet id := by rw [State.findSet, h, State.findSet]

theorem State.id_of_findSet {s : State} {id : Nat} {c : ChangeSet} (h : s.findSet id = some c) : c.id = id := by
  simpa using List.find?_some h

/-- A set changed keeps its place among the sets. -/
theorem findSet_updSet {s : State} {id : Nat} {c : ChangeSet} (h : s.findSet id = some c) {f : ChangeSet → ChangeSet} (hf : ∀ x, (f x).id = x.id) :
    (updSet id f s).findSet id = some (f c) := by
  have hid := State.id_of_findSet h
  have hsame : (fun x : ChangeSet => decide (x.id = id)) ∘ (fun x => if x.id = id then f x else x) = fun x => decide (x.id = id) := by
    funext x
    by_cases hx : x.id = id <;> simp [hx, hf]
  unfold State.findSet at h ⊢
  show (s.spl.sets.map _).find? _ = _
  rw [List.find?_map, hsame, h, Option.map_some, if_pos hid]

/-- A set that has ended is not found. -/
theorem findSet_dropped (s : State) (id : Nat) : (setSets (s.spl.sets.filter (fun x => decide (x.id ≠ id))) s).findSet id = none := by
  simp [State.findSet, setSets]

/-! One set alone -/

section
variable {s : State} {c : ChangeSet}

theorem findSet_alone (h : s.spl.sets = [c]) : s.findSet c.id = some c := by simp [State.findSet, h]

theorem updSet_alone (h : s.spl.sets = [c]) (f : ChangeSet → ChangeSet) : (updSet c.id f s).spl.sets = [f c] := by simp [updSet, setSets, h]

end

/-- What hosts see and what is live stay. -/
structure LiveKept (s t : State) : Prop where
  host : t.host = s.host
  live : t.live = s.live

theorem LiveKept.refl (s : State) : LiveKept s s := ⟨rfl, rfl⟩

theorem LiveKept.trans {s t u : State} (h : LiveKept s t) (g : LiveKept t u) : LiveKept s u := ⟨g.host.trans h.host, g.live.trans h.live⟩

theorem Writes.liveKept {p : Nat → Prop} {s t : State} (h : Writes p s t) : LiveKept s t := ⟨by rw [h.1], by rw [h.1]⟩

theorem updSet_liveKept (id : Nat) (f : ChangeSet → ChangeSet) (s : State) : LiveKept s (updSet id f s) := ⟨rfl, rfl⟩

theorem holdCtx_writes (e v holder : Nat) (s : State) : Writes (· = ctxReg e) s (holdCtx e v holder s) := by
  have hw : ∀ (v : Word) (u : State), Writes (· = ctxReg e) u (u.setReg (ctxReg e) v) := fun v u => Writes.setReg (p := (· = ctxReg e)) rfl v u
  exact ((hw _ s).trans (hw _ _)).trans (hw _ _)

/-- A set takes an engine into its branch. -/
def joinEngine (e : Nat) (c : ChangeSet) : ChangeSet := { c with engines := c.engines ++ [e] }

/-- Engines that no staged set holds join the one set there is (R253). -/
theorem holdEngines_alone (es : List Nat) {s : State} {c : ChangeSet} (h : s.spl.sets = [c]) :
    ∃ l, (holdEngines c.id es s).spl.sets = [{ c with engines := l }] ∧ LiveKept s (holdEngines c.id es s) := by
  induction es generalizing s c with
  | nil => exact ⟨c.engines, h, LiveKept.refl s⟩
  | cons e es ih =>
    have hstaged : s.spl.sets.find? (fun x => decide (x.kind = .staged ∧ x.id ≠ c.id) && x.engines.contains e && decide (x.phase = .armed)) = none := by simp [h]
    have hcons : holdEngines c.id (e :: es) s = holdEngines c.id es (holdEngines c.id [e] s) := rfl
    by_cases hhas : c.engines.contains e = true
    · have hone : holdEngines c.id [e] s = s := by simp only [holdEngines, holdEnginesAs, List.foldl_cons, List.foldl_nil, findSet_alone h, hhas, if_true]
      rw [hcons, hone]
      exact ih h
    · have hone : holdEngines c.id [e] s = (if (s.holderOf e).isNone then holdCtx e 2 c.leader (updSet c.id (joinEngine e) s) else updSet c.id (joinEngine e) s) := by
        simp only [holdEngines, holdEnginesAs, List.foldl_cons, List.foldl_nil, findSet_alone h, hhas, hstaged, if_false, Bool.false_eq_true]
        exact ite_congr rfl (fun _ => rfl) (fun _ => rfl)
      have hsets : (holdEngines c.id [e] s).spl.sets = [joinEngine e c] ∧ LiveKept s (holdEngines c.id [e] s) := by
        have hheld := holdCtx_writes e 2 c.leader (updSet c.id (joinEngine e) s)
        have hset := updSet_alone h (joinEngine e)
        rw [hone]
        split
        · exact ⟨by rw [hheld.spl, hset], (updSet_liveKept _ _ s).trans hheld.liveKept⟩
        · exact ⟨hset, updSet_liveKept _ _ s⟩
      obtain ⟨hsets, hkept⟩ := hsets
      obtain ⟨l, hl, hl'⟩ := ih hsets
      rw [hcons]
      exact ⟨l, hl, hkept.trans hl'⟩

end Sys2Proof.Machine
end

section
/-! A splice that is armed where no other set waits (R199, R203, R227): the set it opens, with its one arm, and what it leaves. -/

namespace Sys2Proof.Machine

open Sys2Proof

/-- An arm as a set takes it in (R199, R212). -/
def State.newArm (s : State) (t d : Nat) (o : Option Origin) (src : Option Nat) (absent noPromote : Bool) : Arm :=
  ⟨d, src, absent, noPromote, s.armClass d src, s.armReserve t d src noPromote, false, 0, o, false, s.now,
    if destIsStrand d then src.bind (fun x => s.promoFormat (destNumber d) x) else none⟩

/-- A set without arms takes in its first, which leads it. -/
def ChangeSet.withArm (c : ChangeSet) (a : Arm) (o : Option Origin) : ChangeSet :=
  { c with arms := [a], origins := c.origins ++ o.toList, checked := false, leader := a.dest }

theorem takeDev_kept (t bytes : Nat) (s : State) : (takeDev t bytes s).spl = s.spl ∧ LiveKept s (takeDev t bytes s) := ⟨rfl, rfl, rfl⟩

theorem takeReserve_kept (t : Nat) (r : Option (Nat × Nat)) (s : State) : (takeReserve t r s).spl = s.spl ∧ LiveKept s (takeReserve t r s) := by
  rcases r with _ | ⟨tg, bytes⟩
  · exact ⟨rfl, LiveKept.refl s⟩
  · have hserves : Writes (· = Reg.scnStatus tg) s (s.setBit (Reg.scnStatus tg) 14 true) := Writes.setReg (p := (· = Reg.scnStatus tg)) rfl _ s
    obtain ⟨hspl, hkept⟩ := takeDev_kept t bytes (s.setBit (Reg.scnStatus tg) 14 true)
    exact ⟨hspl.trans hserves.spl, hserves.liveKept.trans hkept⟩

/-- A destination whose arm has joined its set is ARMED, and not LATE (R199, R243). -/
def shownArmed (d : Nat) (s : State) : State := (setDestState d stArmed s).setBit (Reg.splSpliceStatus (destWin d)) 3 false

theorem shownArmed_destState (d : Nat) (s : State) : (shownArmed d s).destState d = 1 :=
  (State.f_setF_other _ _ _ _ le_rfl (by decide) (.inr (by decide))).trans (State.f_setF _ _ _ (by decide) (by decide))

theorem shownArmed_writes (d : Nat) (s : State) : Writes (· = Reg.splSpliceStatus (destWin d)) s (shownArmed d s) :=
  (Writes.setReg (p := (· = Reg.splSpliceStatus (destWin d))) rfl _ s).trans (Writes.setReg (p := (· = Reg.splSpliceStatus (destWin d))) rfl _ _)

section
variable {s : State} {c : ChangeSet}

/-- The first arm of the only set. -/
theorem joinArm_first (h : s.spl.sets = [c]) (harms : c.arms = []) (t d : Nat) (o : Option Origin) (src : Option Nat) (absent noPromote : Bool) :
    ∃ l, (joinArm c.id t d o src absent noPromote s).spl.sets = [{ c.withArm (s.newArm t d o src absent noPromote) o with engines := l }] ∧
      LiveKept s (joinArm c.id t d o src absent noPromote s) ∧ (joinArm c.id t d o src absent noPromote s).destState d = 1 := by
  obtain ⟨hspl, hkept⟩ := takeReserve_kept t (s.armReserve t d src noPromote) s
  generalize hu : takeReserve t (s.armReserve t d src noPromote) s = u at hspl hkept
  have hu1 : u.spl.sets = [c] := by rw [hspl, h]
  let f : ChangeSet → ChangeSet := fun c => { c with arms := c.arms ++ [s.newArm t d o src absent noPromote], origins := c.origins ++ o.toList, checked := false }
  let g : ChangeSet → ChangeSet := fun c => if c.arms.length = 1 then { c with leader := d } else c
  have hv : (updSet c.id f u).spl.sets = [f c] := updSet_alone hu1 f
  have hw : (updSet c.id g (updSet c.id f u)).spl.sets = [c.withArm (s.newArm t d o src absent noPromote) o] := by
    refine (updSet_alone hv g).trans ?_
    simp [g, f, ChangeSet.withArm, harms, State.newArm]
  have hwkept : LiveKept s (updSet c.id g (updSet c.id f u)) := (hkept.trans (updSet_liveKept _ _ _)).trans (updSet_liveKept _ _ _)
  generalize hx : updSet c.id g (updSet c.id f u) = x at hw hwkept
  obtain ⟨l, hl, hlkept⟩ := holdEngines_alone (x.armEngines (s.newArm t d o src absent noPromote)) hw
  have hjoin : joinArm c.id t d o src absent noPromote s = shownArmed d (holdEngines c.id (x.armEngines (s.newArm t d o src absent noPromote)) x) := by
    rw [← hx, ← hu]
    simp only [joinArm, findSet_alone h, Option.bind_some, harms, List.find?_nil]
    rfl
  have hshown := shownArmed_writes d (holdEngines c.id (x.armEngines (s.newArm t d o src absent noPromote)) x)
  rw [hjoin]
  exact ⟨l, by rw [hshown.spl]; exact hl, (hwkept.trans hlkept).trans hshown.liveKept, shownArmed_destState d _⟩

end

/-- A destination is armed in a set of its own that waits with the mode, group and time asked; nothing is completed or made live. -/
def ArmedFor (s : State) (d t : Nat) (src : Option Nat) (mode group time : Nat) (u : State) : Prop :=
  ∃ c, c ∈ u.spl.sets ∧ c.id = s.spl.nextSet ∧ c.owner = t ∧ c.group = group ∧ c.mode = mode ∧ c.time = time ∧ c.phase = .armed ∧ c.leader = d ∧
    c.arms.map (fun a => (a.dest, a.source)) = [(d, src)] ∧ u.destState d = 1 ∧ u.host.cqs = s.host.cqs ∧ u.live = s.live

theorem RegsFids.armedFor {s u v : State} {d t : Nat} {src : Option Nat} {mode group time : Nat} (h : ArmedFor s d t src mode group time u) (hd : destOk d = true)
    (g : RegsFids PastWindows u v) : ArmedFor s d t src mode group time v := by
  obtain ⟨c, hmem, hid, howner, hgroup, hmode, htime, hphase, hleader, harms, hstate, hcqs, hlive⟩ := h
  exact ⟨c, by rw [g.spl]; exact hmem, hid, howner, hgroup, hmode, htime, hphase, hleader, harms, (g.destState hd).trans hstate, by rw [g.host]; exact hcqs,
    g.live.trans hlive⟩

/-- An arm that is accepted where no set waits. -/
theorem acceptArm_first {s : State} (h : s.spl.sets = []) {d : Nat} (hd : destOk d = true) (o : Option Origin) (t : Nat) (src : Option Nat) (mode group time : Nat)
    (absent noPromote : Bool) : ArmedFor s d t src mode group time (acceptArm o t d src mode group time absent noPromote s) := by
  have hdest : s.setOfDest d = none := by simp [State.setOfDest, h]
  have hgroup : s.setOfGroup t group = none := by simp [State.setOfGroup, h]
  have hopen : ∃ c : ChangeSet, (openSet (if group = 0 then .splice else .group) t group d mode time s).1.spl.sets = [c] ∧ c.arms = [] ∧ c.id = s.spl.nextSet ∧
      c.owner = t ∧ c.group = group ∧ c.mode = mode ∧ c.time = time ∧ c.phase = .armed :=
    ⟨_, congrArg (fun l => l ++ [_]) h, rfl, rfl, rfl, rfl, rfl, rfl, rfl⟩
  have heq : acceptArm o t d src mode group time absent noPromote s = refreshGroup t group
      (joinArm s.spl.nextSet t d o src absent noPromote (openSet (if group = 0 then .splice else .group) t group d mode time s).1) := by
    simp only [acceptArm, hdest, hgroup]
    rfl
  have hopened : LiveKept s (openSet (if group = 0 then .splice else .group) t group d mode time s).1 := ⟨rfl, rfl⟩
  generalize (openSet (if group = 0 then .splice else .group) t group d mode time s).1 = u at hopen heq hopened
  obtain ⟨c, hc, harms, hid, howner, hgrp, hmode, htime, hphase⟩ := hopen
  obtain ⟨l, hl, hkept, hstate⟩ := joinArm_first hc harms t d o src absent noPromote
  rw [heq, ← hid]
  have hjoined := hopened.trans hkept
  exact (refreshGroup_past t group _).regsFids.armedFor
    ⟨{ c.withArm (u.newArm t d o src absent noPromote) o with engines := l }, by rw [hl]; exact List.mem_cons_self, hid, howner, hgrp, hmode, htime, hphase, rfl, rfl, hstate,
    by rw [hjoined.host], hjoined.live⟩ hd

end Sys2Proof.Machine
end

section
/-! HITCH, UNHITCH, ARM_SPLICE and SPL_ARM_CTRL (R201, R203, R204): each comes to a binding or to an arm, once its checks are met. -/

namespace Sys2Proof.Machine

open Sys2Proof

/-- A command that a batch may hold, of no batch, takes effect when it meets its checks. -/
theorem hostCommand_accepted {o : Origin} {s : State} (h : Accepted o s) (batchable : Bool) (p : Place) {check : Option ChangeSet → State → Refuse}
    (hc : check none s.begin = none) (alone : State → State) (inBatch : Nat → State → State) :
    hostCommand o batchable p check alone inBatch s.begin = alone s.begin := by
  have hbatch : s.begin.batchOf o = none := h.1
  simp [hostCommand, hbatch, baseCheck_accepted h, hc, firstRefusal]

theorem exec_hitch {o : Origin} {d src : Nat} {s : State} (h : Accepted o s)
    (hc : hitchCheck o.tenancy d (some src) 0 0 false false 0 none (s.begin.destRuns d) s.begin = none) :
    exec (.hitch o d src) s = .next (hitchEffect o d (some src) s.begin) :=
  congrArg Host.Outcome.next (hostCommand_accepted h true .working (check := hitchRefuse o d (some src)) hc _ _)

theorem exec_unhitch {o : Origin} {d : Nat} {s : State} (h : Accepted o s)
    (hc : hitchCheck o.tenancy d none 0 0 false false 0 none (s.begin.destRuns d) s.begin = none) :
    exec (.unhitch o d) s = .next (hitchEffect o d none s.begin) :=
  congrArg Host.Outcome.next (hostCommand_accepted h true .working (check := hitchRefuse o d none) hc _ _)

theorem exec_armSplice {o : Origin} {d src mode group time : Nat} {absent noPromote unhitch : Bool} {s : State} (h : Accepted o s) (hu : unhitch = true → src = 0)
    (hc : hitchCheck o.tenancy d (armSource src unhitch) mode group absent noPromote time none true s.begin = none) :
    exec (.armSplice o d src mode group absent noPromote unhitch time) s =
      .next (serve d (acceptArm (some o) o.tenancy d (armSource src unhitch) mode group time absent noPromote s.begin)) := by
  have hsource : (!unhitch || decide (src = 0)) = true := by
    cases unhitch
    · rfl
    · simpa using hu rfl
  refine congrArg Host.Outcome.next (loneCommand_accepted h .working ?_ _)
  simp only [firstRefusal, need, hsource, hc, if_true]

/-- A destination that a hitch or arm was checked for is one. -/
theorem destOk_of_hitchCheck {t d : Nat} {src : Option Nat} {mode group time : Nat} {absent noPromote arms : Bool} {set : Option ChangeSet} {s : State}
    (h : hitchCheck t d src mode group absent noPromote time set arms s = none) : destOk d = true := by
  cases hd : destOk d
  · simp [hitchCheck, firstRefusal, need, hd] at h
  · rfl

/-- A hitch of a destination that does not run is made at once (R201). -/
theorem hitchEffect_rests {d : Nat} {s : State} (h : s.destRuns d = false) (o : Origin) (src : Option Nat) :
    hitchEffect o d src s = serve d (completeOk o (reportReturn s d (bindNow d src s))) := by rw [hitchEffect, h, if_neg Bool.false_ne_true]

/-- A hitch of a destination that runs is an arm of mode NEXT (R201). -/
theorem hitchEffect_runs {d : Nat} {s : State} (h : s.destRuns d = true) (hs : s.spl.sets = []) (hd : destOk d = true) (o : Origin) (src : Option Nat) :
    ArmedFor s d o.tenancy src 0 0 0 (hitchEffect o d src s) := by
  rw [hitchEffect, h, if_pos rfl]
  exact (serve_past d _).armedFor (acceptArm_first hs hd _ _ _ _ _ _ _ _) hd

theorem bitOf_or (v w : Word) (b : Nat) : bitOf (v ||| w) b = (bitOf v b || bitOf w b) := by simp [bitOf, BitVec.toNat_or]

theorem bitOf_one {b : Nat} (h : 0 < b) : bitOf (wd 1) b = false := by
  simp only [bitOf, wd, BitVec.toNat_ofNat]
  exact Nat.testBit_lt_two_pow (lt_of_lt_of_le (by decide : 1 % 2 ^ 32 < 2 ^ 1) (Nat.pow_le_pow_right (by decide) h))

theorem bitOf_or_one (v : Word) {b : Nat} (h : 0 < b) : bitOf (v ||| wd 1) b = bitOf v b := by rw [bitOf_or, bitOf_one h, Bool.or_false]

/-- ARM itself changes none of the fields above it. -/
theorem fld_or_one (v : Word) {hi lo : Nat} (h : 0 < lo) : fld (v ||| wd 1) hi lo = fld v hi lo := by
  refine Nat.eq_of_testBit_eq fun i => ?_
  rw [testBit_fld, testBit_fld, bitOf_or_one v (by omega)]

/-- A write of SPL_ARM_CTRL with ARM comes to the arm, where CANCEL is not set and the destination is not held (R204, R247). -/
theorem exec_arm {m : Master} {d : Nat} {v : Word} {s : State} (hd : destOk d = true) (hserving : s.serving = true) (hheld : s.destHeld d = false)
    (hcancel : bitOf v 12 = false) (hmay : MayWrite m (Reg.splArmCtrl (destWin d)) s) : exec (.arm m d v) s = .next (armFromRegs m d (v ||| wd 1) s.begin) := by
  have hcancel' : bitOf (v ||| wd 1) 12 = false := by rw [bitOf_or_one v (by decide), hcancel]
  have harm : bitOf (v ||| wd 1) 0 = true := by
    rw [bitOf_or]
    simp [bitOf, wd]
  have hserving' : s.begin.serving = true := hserving
  have hheld' : s.begin.destHeld d = false := hheld
  refine congrArg Host.Outcome.next ((gatedWrite_of_mayWrite (locate_splArmCtrl hd) hmay _).trans ?_)
  simp [armCtrlWrite, armWrite, hcancel', harm, hserving', hheld']

/-- An arm by register whose checks are met, of the fields of what is written beside ARM (R204). -/
theorem armFromRegs_accepted {m : Master} {d : Nat} {v : Word} {s : State}
    (h : hitchCheck (s.actsFor m (objDest d)) d (armSource (s.f (Reg.splArmSrc (destWin d)) 10 0) (bitOf v 11)) (fld v 2 1) (fld v 8 3) (bitOf v 9) (bitOf v 10)
      ((s.reg (Reg.splArmTimeLo (destWin d))).toNat + 0x100000000 * (s.reg (Reg.splArmTimeHi (destWin d))).toNat) none true
      (s.setReg (Reg.splArmCtrl (destWin d)) ((v ||| wd 1) &&& wd 0xFFE)) = none) :
    armFromRegs m d (v ||| wd 1) s = acceptArm none (s.actsFor m (objDest d)) d (armSource (s.f (Reg.splArmSrc (destWin d)) 10 0) (bitOf v 11)) (fld v 2 1) (fld v 8 3)
      ((s.reg (Reg.splArmTimeLo (destWin d))).toNat + 0x100000000 * (s.reg (Reg.splArmTimeHi (destWin d))).toNat) (bitOf v 9) (bitOf v 10)
      (s.setReg (Reg.splArmCtrl (destWin d)) ((v ||| wd 1) &&& wd 0xFFE)) := by
  unfold armFromRegs
  dsimp only
  rw [fld_or_one v (show 0 < 1 by decide), fld_or_one v (show 0 < 3 by decide), bitOf_or_one v (show 0 < 9 by decide), bitOf_or_one v (show 0 < 10 by decide),
    bitOf_or_one v (show 0 < 11 by decide), h]

/-- Settles O41: a destination at rest is bound, and for a port of no consumer SPL_SRC alone is; an accepted arm, however asked for, opens its set. -/
theorem hitches : Obligations.Hitches := by
  intro s o d Armed
  have harmed : ∀ {t src mode group time u r}, r = .next u → ArmedFor s d t src mode group time u → Armed t src mode group time r := by
    rintro t src mode group time u r hr ⟨c, hc⟩
    exact ⟨u, c, hr, hc⟩
  refine ⟨fun src hacc hcheck => ⟨fun hrest => ?_, fun hruns hsets => ?_⟩, fun hacc hcheck => ⟨fun hrest => ?_, fun hruns hsets => ?_⟩,
    fun x hd hconsumer hbind => ?_, fun src mode group absent noPromote unhitch time hacc hsets hun hcheck => ?_,
    fun m v hd hsets hserving hheld hcancel hmay => ?_⟩
  · rw [exec_hitch hacc hcheck, hitchEffect_rests hrest]
  · exact harmed (exec_hitch hacc hcheck) (hitchEffect_runs hruns hsets (destOk_of_hitchCheck hcheck) o _)
  · rw [exec_unhitch hacc hcheck, hitchEffect_rests hrest]
  · exact harmed (exec_unhitch hacc hcheck) (hitchEffect_runs hruns hsets (destOk_of_hitchCheck hcheck) o _)
  · exact ⟨setSrc d x s, bindNow_unused hd hconsumer hbind x, setSrc_hitch hd x s, fun e he hne => setSrc_hitch_other hd he hne x s, (setSrc_writes hd x s).1⟩
  · have hd := destOk_of_hitchCheck hcheck
    exact harmed (exec_armSplice hacc hun hcheck) ((serve_past d _).armedFor (acceptArm_first (s := s.begin) hsets hd _ _ _ _ _ _ _ _) hd)
  · intro w u src time t hcheck
    have heffect := armFromRegs_accepted (s := s.begin) hcheck
    exact harmed (exec_arm hd hserving hheld hcancel hmay) (heffect ▸ acceptArm_first (s := u) hsets hd _ _ _ _ _ _ _ _)

end Sys2Proof.Machine
end

section
/-! CANCEL of a destination that two sets hold. While a batch collects, an earlier arm of one of its destinations still waits (R205, R206); the statement asks for IDLE after the
cancel, and the destination shows the set that still holds it. -/

namespace Sys2Proof.Machine

open Sys2Proof


/-- An arm of egress port 0 to ingress port 5. -/
def armOfPort0 : Arm := ⟨0, some 5, true, false, .essence, none, false, 0, none, false, 0, none⟩

/-- A splice of that arm, which waits. -/
def spliceOfPort0 : ChangeSet := ⟨3, .splice, 0, 0, 0, 0, 0, false, .armed, [armOfPort0], [], [], [], 0, 0, [], false, false, 0, false, [], []⟩

/-- A batch that collects, with an arm of the same port. -/
def batchOfPort0 : ChangeSet := ⟨4, .batch, 0, 1, 0, 0, 0, false, .collecting, [armOfPort0], [], [], [], 0, 0, [], false, false, 0, false, [], []⟩

/-- Service, with both sets. -/
def heldTwice : State :=
  let s := State.reset.setF Reg.sysMode 2 0 (modeCode .service)
  { s with spl := { s.spl with sets := [spliceOfPort0, batchOfPort0] } }

theorem heldTwice_mayWrite : MayWrite .debug (Reg.splArmCtrl (destWin 0)) heldTwice := by
  intro l hl
  have hrun : (locate (Reg.splArmCtrl (destWin 0))).map (fun l => zoneStopped l heldTwice) = some false := by decide
  rw [hl] at hrun
  exact ⟨fun t ht => by simp at ht, by simpa using hrun⟩

/-- The port reads ARMED after the cancel. -/
theorem exec_cancel_heldTwice : ∃ u, exec (.cancel .debug 0 0) heldTwice = .next u ∧ u.destState 0 = 1 := ⟨_, rfl, by decide⟩

/-- Refutes O42: the splice that is cancelled is one of two sets that hold the port, and the batch, which still collects, keeps it ARMED. -/
theorem not_takes : ¬ Obligations.Takes := by
  intro h
  obtain ⟨-, -, hcancel⟩ := h heldTwice spliceOfPort0
  obtain ⟨u, hu, -, hidle, -⟩ := hcancel .debug 0 0 armOfPort0 (by decide) heldTwice_mayWrite (by decide) (by decide) (by decide)
    ⟨rfl, rfl, rfl, by decide, rfl, rfl, by decide⟩
  obtain ⟨t, ht, harmed⟩ := exec_cancel_heldTwice
  have htu : t = u := Host.Outcome.next.inj (ht.symm.trans hu)
  rw [htu] at harmed
  exact absurd (hidle.symm.trans harmed) (by decide)

end Sys2Proof.Machine
end

section
/-! LINE_START of a frame's first line, where the encoder stamps its frame (R407): the format that the row is sent in is read after the stamp, and the statement reads it before. -/

namespace Sys2Proof.Machine

open Sys2Proof

/-- A flow with number 7, that port 1 sends or receives. -/
def flowSeven (send : Bool) (sampling : Nat) : FlowDesc := { parseFlow [] with flow := 7, send := send, enable := true, port := 1, sampling := sampling }

/-- Service. Generator 0 has a raster of one line with no blanking, and paces egress port 1, which shows its fill for the absent receive flow of ingress port 5. Key 7 names that
receive flow and, behind it in the table, the send flow of the egress port. -/
def flowTwice : State :=
  let s := (State.reset.setF Reg.sysMode 2 0 (modeCode .service)).setReg (Reg.splSrc (destWin 1)) 0x805
  { s with live := [(Reg.scnCtrl 0, 1), (Reg.scnH1 0, 1), (Reg.scnV1 0, 1), (Reg.scnPace 1, 0x100)]
           spl := { s.spl with eoBind := [(1, .tx2110 0)], eiBind := [(5, .rx2110 7)], losses := [(1, ⟨.absent, false, none⟩)] }
           wire := { s.wire with flows := [(7, flowStart (flowSeven false 0)), (7, flowStart (flowSeven true 2))] } }

/-- The stamp leaves the descriptor of the send flow under key 7, and the fill is sent in its sampling. -/
theorem exec_lineStart_flowTwice : ∃ u, exec (.lineStart 0 0 [.encoder 1 []]) flowTwice = .next u ∧ u.out = [.line (objDest 1) 0 [(16, 16, 16)]] := ⟨_, rfl, by decide⟩

/-- Refutes O43: the row of the fill is in the format of the flow that the stamp stores, not in that of the flow found under the key before. -/
theorem not_points : ¬ Obligations.Points := by
  intro h
  obtain ⟨hline, -⟩ := h flowTwice
  obtain ⟨-, hencoder⟩ := hline 0 0 (by decide) (by decide) (by decide) (by decide) (by decide)
  obtain ⟨t, row, ht, hrow, hsent⟩ := hencoder 1 [] 1 0 (by decide) (by decide)
  obtain ⟨hfill, -⟩ := hsent (by decide)
  obtain ⟨u, hu, hout⟩ := exec_lineStart_flowTwice
  have hut : u = t := Host.Outcome.next.inj (hu.symm.trans ht)
  rw [← hut, hout, List.mem_singleton] at hrow
  have hshown : row = [(16, 16, 16)] := (Output.line.inj hrow).2.2
  have hclaimed : List.replicate (genTiming flowTwice.liveReg 0).hA (fillFor (flowTwice.reg (Reg.splDestFill (destWin 1))) (flowTwice.sentFormat 0 1)) = [(16, 128, 128)] := by
    decide
  exact absurd (hshown.symm.trans ((hfill (by decide)).trans hclaimed)) (by decide)

end Sys2Proof.Machine
end

section
/-! What the phases of a change set show at its destinations: STATE and LAST_RESULT, written member by member (R243, R257, R264, R276). -/

namespace Sys2Proof.Machine

open Sys2Proof

section
variable {α β : Type} {f : State → α → State} {shown : State → β} {hits : α → Prop} {l : List α}

/-- What no item of a list changes stays. -/
theorem foldl_missed (hmiss : ∀ u, ∀ x ∈ l, shown (f u x) = shown u) (s : State) : shown (l.foldl f s) = shown s := by
  induction l generalizing s with
  | nil => rfl
  | cons x l ih => exact (ih (fun u y hy => hmiss u y (.tail _ hy)) (f s x)).trans (hmiss s x (.head _))

/-- What some items of a list set to one value, and the others leave, has that value in the end. -/
theorem foldl_hit {v : β} (hhit : ∀ u, ∀ x ∈ l, hits x → shown (f u x) = v) (hmiss : ∀ u, ∀ x ∈ l, ¬ hits x → shown (f u x) = shown u) (s : State)
    (hsome : ∃ x ∈ l, hits x) : shown (l.foldl f s) = v := by
  induction l generalizing s with
  | nil => simp at hsome
  | cons x l ih =>
    by_cases hrest : ∃ y ∈ l, hits y
    · exact ih (fun u y hy => hhit u y (.tail _ hy)) (fun u y hy => hmiss u y (.tail _ hy)) _ hrest
    · have hkeep : shown (l.foldl f (f s x)) = shown (f s x) := foldl_missed (fun u y hy => hmiss u y (.tail _ hy) (fun h => hrest ⟨y, hy, h⟩)) _
      have hx : hits x := by
        obtain ⟨y, hy, hy'⟩ := hsome
        rcases List.mem_cons.mp hy with rfl | hy
        · exact hy'
        · exact absurd ⟨y, hy, hy'⟩ hrest
      exact hkeep.trans (hhit s x (.head _) hx)

end

/-! One member -/

/-- The registers of the destinations' windows and past them. -/
def FromWindows (a : Nat) : Prop := 0x182000 ≤ a

theorem fromWindows_status (d : Nat) : FromWindows (Reg.splSpliceStatus (destWin d)) := (destWin_ge d).trans (Nat.le_add_right _ _)

theorem setStatus_from (d hi lo v : Nat) (s : State) : Writes FromWindows s (s.setF (Reg.splSpliceStatus (destWin d)) hi lo v) :=
  Writes.setReg (fromWindows_status d) _ s

theorem setDestState_from (d v : Nat) (s : State) : Writes FromWindows s (setDestState d v s) := setStatus_from d 2 0 v s

theorem deferArm_from (a : Arm) (s : State) : Writes FromWindows s (deferArm a s) :=
  ((setStatus_from _ _ _ _ s).trans (setStatus_from _ _ _ _ _)).trans (setStatus_from _ _ _ _ _)

theorem splSpliceStatus_inj {d e : Nat} (hd : destOk d = true) (he : destOk e = true) (hne : e ≠ d) : Reg.splSpliceStatus (destWin d) ≠ Reg.splSpliceStatus (destWin e) :=
  fun h => hne (eq_of_destWin_eq hd he (Nat.add_right_cancel h)).symm

theorem setDestState_same (d : Nat) {v : Nat} (hv : v < 8) (s : State) : (setDestState d v s).destState d = v :=
  (State.f_setF s _ v (by decide) (by decide)).trans (Nat.mod_eq_of_lt hv)

theorem setDestState_other {d e : Nat} (hd : destOk d = true) (he : destOk e = true) (hne : e ≠ d) (v : Nat) (s : State) :
    (setDestState e v s).destState d = s.destState d :=
  State.destState_of_reg (State.reg_setReg_ne s (splSpliceStatus_inj hd he hne) _)

/-- STATE and LAST_RESULT of a destination. -/
def State.destShown (s : State) (d : Nat) : Nat × Nat := (s.destState d, s.f (Reg.splSpliceStatus (destWin d)) 15 8)

theorem State.destShown_of_reg {s t : State} {d : Nat} (h : t.reg (Reg.splSpliceStatus (destWin d)) = s.reg (Reg.splSpliceStatus (destWin d))) :
    t.destShown d = s.destShown d := Prod.ext (State.destState_of_reg h) (State.f_of_reg h 15 8)

/-- A deferred member reads DEFERRED and DEFERRED_POWER (R276). -/
theorem deferArm_same (a : Arm) (s : State) : (deferArm a s).destShown a.dest = (stDeferred, statusCode .deferredPower) := by
  let counted := (setDestState a.dest stDeferred s).setF (Reg.splSpliceStatus (destWin a.dest)) 7 4 (s.f (Reg.splSpliceStatus (destWin a.dest)) 7 4 + 1)
  have hstate : (deferArm a s).destState a.dest = stDeferred :=
    calc (setResult a.dest .deferredPower counted).destState a.dest = counted.destState a.dest := State.f_setF_other _ _ _ _ (by decide) (by decide) (by decide)
      _ = (setDestState a.dest stDeferred s).destState a.dest := State.f_setF_other _ _ _ _ (by decide) (by decide) (by decide)
      _ = stDeferred := setDestState_same _ (by decide) s
  exact Prod.ext hstate ((State.f_setF counted _ _ (by decide) (by decide)).trans (by decide))

theorem deferArm_other {a : Arm} {d : Nat} (hd : destOk d = true) (ha : destOk a.dest = true) (hne : a.dest ≠ d) (s : State) :
    (deferArm a s).destShown d = s.destShown d := by
  have hreg := splSpliceStatus_inj hd ha hne
  refine State.destShown_of_reg ?_
  rw [deferArm, setResult, setDestState, State.reg_setF, if_neg hreg, State.reg_setF, if_neg hreg, State.reg_setF, if_neg hreg]

/-! All members of a set, then the group and the fids that serve the set -/

/-- The group shows the set, and the fids that serve it are told. -/
theorem tellSet_past (c : ChangeSet) (t g b : Nat) (s : State) : RegsFids PastWindows s (fidEventSet c b (refreshGroup t g s)) :=
  (refreshGroup_past t g s).regsFids.trans (fidEventSet_past c b _)

theorem tellSet_findSet (c : ChangeSet) (t g b id : Nat) (s : State) : (fidEventSet c b (refreshGroup t g s)).findSet id = s.findSet id :=
  State.findSet_of_spl (tellSet_past c t g b s).spl id

theorem RegsFids.liveKept {p : Nat → Prop} {s t : State} (h : RegsFids p s t) : LiveKept s t := ⟨h.host, h.live⟩

/-- A member of a set in preroll (R257). -/
def showPreroll (s : State) (a : Arm) : State := setDestState a.dest stPreroll s

theorem showPreroll_from (s : State) (a : Arm) : Writes FromWindows s (showPreroll s a) := setDestState_from a.dest stPreroll s

section
variable {s : State} {c : ChangeSet} (hfind : s.findSet c.id = some c) (heng : c.engines = []) (hok : ∀ a ∈ c.arms, destOk a.dest = true)
include hfind heng hok

/-- A set in preroll: its members are PREROLL (R257). -/
theorem enterPreroll_shows (obs : EntryObs) :
    ∃ late, (enterPreroll c obs s).findSet c.id = some { c with phase := .preroll, entered := true, point := obs.point, late := late } ∧
      (c.mode ≠ 1 → late = c.late) ∧ (c.late = true → late = true) ∧ (∀ a ∈ c.arms, (enterPreroll c obs s).destState a.dest = 2) ∧
      LiveKept s (enterPreroll c obs s) := by
  let shown := c.arms.foldl showPreroll s
  let late := c.late || decide (c.mode = 1 ∧ c.time < shown.eligibleAt c)
  let entered := updSet c.id (fun c => { c with phase := .preroll, entered := true, point := obs.point, late := late }) shown
  have henter : enterPreroll c obs s = fidEventSet c 2 (refreshGroup c.owner c.group entered) := by rw [enterPreroll, heng]; rfl
  have hshown : Writes FromWindows s shown := Writes.foldl showPreroll_from c.arms s
  have hentered : LiveKept shown entered := updSet_liveKept _ _ shown
  have htold := tellSet_past c c.owner c.group 2 entered
  rw [henter]
  refine ⟨late, ?_, fun hmode => by simp [late, hmode], fun hlate => by simp [late, hlate], fun a ha => ?_,
    (hshown.liveKept.trans hentered).trans htold.liveKept⟩
  · rw [tellSet_findSet]
    exact findSet_updSet ((State.findSet_of_spl hshown.spl _).trans hfind) (fun _ => rfl)
  · rw [htold.destState (hok a ha)]
    exact foldl_hit (shown := fun s => s.destState a.dest) (hits := fun x => x.dest = a.dest) (fun u x _ hx => hx ▸ setDestState_same _ (by decide) u)
      (fun u x hx hne => setDestState_other (hok a ha) (hok x hx) hne _ u) s ⟨a, ha, rfl⟩

end

/-! The decision -/

/-- A member of a decided set: DECIDED unless it leads, and LATE where the set is (R229, R264). -/
def showDecided (c : ChangeSet) (s : State) (a : Arm) : State :=
  let s := if a.dest = c.leader then s else setDestState a.dest stDecided s
  if c.late then s.setBit (Reg.splSpliceStatus (destWin a.dest)) 3 true else s

theorem showLate_destState (c : ChangeSet) (a : Arm) (d : Nat) (s : State) :
    (if c.late then s.setBit (Reg.splSpliceStatus (destWin a.dest)) 3 true else s).destState d = s.destState d := by
  split
  · exact State.f_setF_other _ _ _ _ le_rfl (by decide) (.inr (by decide))
  · rfl

theorem showDecided_from (c : ChangeSet) (s : State) (a : Arm) : Writes FromWindows s (showDecided c s a) := by
  have hstate : Writes FromWindows s (if a.dest = c.leader then s else setDestState a.dest stDecided s) := (Writes.refl _ s).ite (setDestState_from _ _ s)
  exact hstate.trans ((setStatus_from _ _ _ _ _).ite (Writes.refl _ _))

theorem showDecided_member {c : ChangeSet} {a : Arm} (h : a.dest ≠ c.leader) (s : State) : (showDecided c s a).destState a.dest = stDecided := by
  rw [showDecided, showLate_destState, if_neg h, setDestState_same _ (by decide)]

theorem showDecided_other {c : ChangeSet} {a : Arm} {d : Nat} (hd : destOk d = true) (ha : destOk a.dest = true) (hne : d = c.leader ∨ a.dest ≠ d) (s : State) :
    (showDecided c s a).destState d = s.destState d := by
  rw [showDecided, showLate_destState]
  split
  · rfl
  · next hlead => exact setDestState_other hd ha (hne.elim (fun h => h ▸ hlead) id) _ s

theorem decideArm_dest_source (s : State) (a : Arm) (align : Option Int) : ((s.decideArm a align).dest, (s.decideArm a align).source) = (a.dest, a.source) := by
  unfold State.decideArm
  split
  · split <;> rfl
  · rfl

section
variable {s : State} {c : ChangeSet} (hfind : s.findSet c.id = some c) (heng : c.engines = []) (hok : ∀ a ∈ c.arms, destOk a.dest = true)
include hfind heng hok

/-- A decided set: its members but the leader are DECIDED (R264). -/
theorem decideSet_shows (obs : DecisionObs) :
    ∃ c', (decideSet c obs s).findSet c.id = some c' ∧ c'.phase = .decided ∧ c'.arms.map (fun a => (a.dest, a.source)) = c.arms.map (fun a => (a.dest, a.source)) ∧
      (∀ a ∈ c.arms, a.dest ≠ c.leader → (decideSet c obs s).destState a.dest = 3) ∧
      (∀ a ∈ c.arms, a.dest = c.leader → (decideSet c obs s).destState a.dest = s.destState a.dest) ∧ LiveKept s (decideSet c obs s) := by
  let arms := c.arms.zipIdx.map (fun e => s.decideArm e.1 (obs.align.getD e.2 none))
  let marked := updSet c.id (fun c => { c with phase := .decided, arms := arms }) s
  let shown := c.arms.foldl (showDecided c) marked
  have hdecide : decideSet c obs s = fidEventSet c 3 (refreshGroup c.owner c.group shown) := by rw [decideSet, heng]; rfl
  have hshown : Writes FromWindows marked shown := Writes.foldl (showDecided_from c) c.arms marked
  have htold := tellSet_past c c.owner c.group 3 shown
  have harms : arms.map (fun a => (a.dest, a.source)) = c.arms.map (fun a => (a.dest, a.source)) := by
    simp only [arms, List.map_map, Function.comp_def, decideArm_dest_source]
    exact (List.map_map (f := Prod.fst) (g := fun a : Arm => (a.dest, a.source)) (l := c.arms.zipIdx)).symm.trans (by rw [List.zipIdx_map_fst])
  rw [hdecide]
  refine ⟨{ c with phase := .decided, arms := arms }, ?_, rfl, harms, fun a ha hlead => ?_, fun a ha hlead => ?_,
    ((updSet_liveKept _ _ s).trans hshown.liveKept).trans htold.liveKept⟩
  · rw [tellSet_findSet, State.findSet_of_spl hshown.spl]
    exact findSet_updSet hfind (fun _ => rfl)
  · rw [htold.destState (hok a ha)]
    exact foldl_hit (shown := fun s => s.destState a.dest) (hits := fun x => x.dest = a.dest)
      (fun u x _ hx => hx ▸ showDecided_member (hx ▸ hlead) u) (fun u x hx hne => showDecided_other (hok a ha) (hok x hx) (.inr hne) u) marked ⟨a, ha, rfl⟩
  · rw [htold.destState (hok a ha)]
    exact foldl_missed (shown := fun s => s.destState a.dest) (fun u x hx => showDecided_other (hok a ha) (hok x hx) (.inl hlead) u) marked

end

end Sys2Proof.Machine
end

section
/-! A deferral (R276): BELAY_LATE, the members, the tenancy's count. -/

namespace Sys2Proof.Machine

open Sys2Proof

theorem Writes.destShown {p : Nat → Prop} {s t : State} (h : Writes p s t) {d : Nat} (hp : ¬ p (Reg.splSpliceStatus (destWin d))) : t.destShown d = s.destShown d :=
  State.destShown_of_reg (h.2 _ hp)

theorem Reports.live {l : List Nat} {s t : State} (h : Reports l s t) : t.live = s.live := by rw [h.1]

theorem Reports.spl {l : List Nat} {s t : State} (h : Reports l s t) : t.spl = s.spl := by rw [h.1]

theorem bump_writes (a n : Nat) (s : State) : Writes (· = a) s (s.bump a n) := Writes.setReg (p := (· = a)) rfl _ s

theorem belayLate_reports (s : State) : Reports [Reg.pwrBelayLateCnt, Reg.pwrEvent] s (belayLate s) :=
  ((Reports.bump Reg.pwrBelayLateCnt 1 s).mono (by decide)).comp ((raiseEn_reports _ _ _ _ _ _).mono (by decide))

theorem belayLate_count (s : State) : (belayLate s).reg Reg.pwrBelayLateCnt = wd (min 0xFFFFFFFF ((s.reg Reg.pwrBelayLateCnt).toNat + 1)) := by
  rw [belayLate, (raiseEn_reports _ _ _ _ _ _).2 _ (by decide) (by decide), State.reg_bump, if_pos rfl]

theorem belayLate_event (s : State) : (belayLate s).bit Reg.pwrEvent 0 = true := by
  rw [belayLate, State.bit, raiseEn_reg (by decide), bitOf_setFld _ _ le_rfl (by decide)]
  rfl

section
variable {s : State} {c : ChangeSet} (hfind : s.findSet c.id = some c) (heng : c.engines = []) (hok : ∀ a ∈ c.arms, destOk a.dest = true)
  (hten : c.owner < 4) (hfew : c.deferrals < 7)
include hfind heng hok hten hfew

theorem deferSet_shows :
    (∃ c', (deferSet c s).findSet c.id = some c' ∧ c'.phase = .deferred ∧ c'.deferrals = c.deferrals + 1 ∧ c'.arms = c.arms) ∧
      (∀ a ∈ c.arms, (deferSet c s).destShown a.dest = (stDeferred, statusCode .deferredPower)) ∧
      (deferSet c s).bit Reg.pwrEvent 0 = true ∧ (deferSet c s).reg Reg.pwrBelayLateCnt = wd (min 0xFFFFFFFF ((s.reg Reg.pwrBelayLateCnt).toNat + 1)) ∧
      (deferSet c s).reg (Reg.tenDeferCnt c.owner) = wd (min 0xFFFFFFFF ((s.reg (Reg.tenDeferCnt c.owner)).toNat + 1)) ∧ (deferSet c s).live = s.live := by
  let f : ChangeSet → ChangeSet := fun c => { c with phase := .deferred, deferrals := c.deferrals + 1, late := c.late || decide (c.mode = 1) }
  let shown := c.arms.foldl (fun s a => deferArm a s) (belayLate s)
  let marked := updSet c.id f shown
  let counted := marked.bump (Reg.tenDeferCnt c.owner) 1
  have hdefer : deferSet c s = refreshGroup c.owner c.group counted := by
    rw [deferSet, heng]
    exact if_neg (by omega)
  have hlate := belayLate_reports s
  have hshown : Writes FromWindows (belayLate s) shown := Writes.foldl (fun s a => deferArm_from a s) c.arms (belayLate s)
  have hcounted := bump_writes (Reg.tenDeferCnt c.owner) 1 marked
  have htold := refreshGroup_past c.owner c.group counted
  have hbelow : ∀ a, a < 0x182000 → (deferSet c s).reg a = counted.reg a := fun a ha => by
    rw [hdefer]
    exact htold.2 a (not_pastWindows_of_lt (by omega))
  have hpower : ∀ a, a < 0x182000 → 0x20000 ≤ a → (deferSet c s).reg a = (belayLate s).reg a := fun a ha ha' => by
    rw [hbelow a ha, hcounted.2 a (by simp only [Reg.tenDeferCnt]; omega)]
    exact hshown.2 a (Nat.not_le.mpr ha)
  refine ⟨⟨f c, ?_, rfl, rfl, rfl⟩, fun a ha => ?_, ?_, ?_, ?_, ?_⟩
  · rw [hdefer, State.findSet_of_spl htold.spl, State.findSet_of_spl hcounted.spl]
    exact findSet_updSet (by rw [State.findSet_of_spl hshown.spl, State.findSet_of_spl hlate.spl, hfind]) (fun _ => rfl)
  · obtain ⟨hend, -⟩ := destWin_of_ok (hok a ha)
    have hge := destWin_ge a.dest
    rw [hdefer, htold.destShown (not_pastWindows_of_lt (by simp only [Reg.splSpliceStatus]; omega)),
      hcounted.destShown (by simp only [Reg.splSpliceStatus, Reg.tenDeferCnt]; omega)]
    exact foldl_hit (shown := fun s => s.destShown a.dest) (hits := fun x => x.dest = a.dest) (fun u x _ hx => hx ▸ deferArm_same x u)
      (fun u x hx hne => deferArm_other (hok a ha) (hok x hx) hne u) (belayLate s) ⟨a, ha, rfl⟩
  · rw [State.bit_of_reg (hpower Reg.pwrEvent (by decide) (by decide)), belayLate_event]
  · rw [hpower Reg.pwrBelayLateCnt (by decide) (by decide), belayLate_count]
  · have hmarked : marked.reg (Reg.tenDeferCnt c.owner) = s.reg (Reg.tenDeferCnt c.owner) := by
      refine (hshown.2 _ ?_).trans (hlate.2 _ (inTen_above ?_) ?_)
      · simp only [FromWindows, Reg.tenDeferCnt]; omega
      · simp only [Reg.tenDeferCnt]; omega
      · simp only [Reg.tenDeferCnt, Reg.pwrBelayLateCnt, Reg.pwrEvent, List.mem_cons, List.not_mem_nil, or_false]; omega
    rw [hbelow _ (by simp only [Reg.tenDeferCnt]; omega), State.reg_bump, if_pos rfl, hmarked]
  · rw [hdefer, htold.liveKept.live, hcounted.liveKept.live]
    exact hshown.liveKept.live.trans hlate.live

end

end Sys2Proof.Machine
end

section
/-! The switch of a set of one arm to an egress port of no consumer (R264, R267). -/

namespace Sys2Proof.Machine

open Sys2Proof

/-! The port -/

/-- The port's hitch, with IDLE, OK and no deferrals in its STATUS (R243). -/
def portIdle (d : Nat) (src : Option Nat) (s : State) : State :=
  (setResult d .ok (setDestState d stIdle (setSrc d src s))).setF (Reg.splSpliceStatus (destWin d)) 7 4 0

/-- The port as it switches: counted, with SPLICED raised. -/
def portSwitched (d : Nat) (src : Option Nat) (s : State) : State := raiseDest d 0 ((portIdle d src s).bump (Reg.splSpliceCnt (destWin d)) 1)

/-- What the switch of a port writes outside the tenancies' windows: its window, and the ports' counts of what they feed. -/
def PortWrites (d a : Nat) : Prop := (destWin d ≤ a ∧ a < destWin d + 0x40) ∨ PastWindows a

theorem portWrites_window (d : Nat) {k : Nat} (hk : k < 0x40) : PortWrites d (destWin d + k) := .inl ⟨Nat.le_add_right _ _, Nat.add_lt_add_left hk _⟩

section
variable {d : Nat} (src : Option Nat) (s : State)

theorem portIdle_writes (hd : d < 0x400) : Writes (PortWrites d) s (portIdle d src s) := by
  have hstatus : PortWrites d (Reg.splSpliceStatus (destWin d)) := portWrites_window d (by decide)
  have hsrc : Writes (PortWrites d) s (setSrc d src s) :=
    (setSrc_writes hd src s).mono fun a h => h.imp (fun (h : a = destWin d) => h ▸ ⟨le_rfl, Nat.lt_add_of_pos_right (by decide)⟩) id
  exact ((hsrc.trans (Writes.setReg hstatus _ _)).trans (Writes.setReg hstatus _ _)).trans (Writes.setReg hstatus _ _)

/-- Only STATUS moves after the hitch. -/
theorem portIdle_other {a : Nat} (ha : a ≠ Reg.splSpliceStatus (destWin d)) : (portIdle d src s).reg a = (setSrc d src s).reg a := by
  rw [portIdle, State.reg_setF, if_neg ha, setResult, State.reg_setF, if_neg ha, setDestState, State.reg_setF, if_neg ha]

theorem portIdle_shown : (portIdle d src s).destShown d = (0, 0) := by
  have hstate : (portIdle d src s).destState d = stIdle :=
    calc (portIdle d src s).destState d = (setResult d .ok (setDestState d stIdle (setSrc d src s))).destState d := State.f_setF_other _ _ _ _ (by decide) (by decide) (by decide)
      _ = (setDestState d stIdle (setSrc d src s)).destState d := State.f_setF_other _ _ _ _ (by decide) (by decide) (by decide)
      _ = stIdle := setDestState_same d (by decide) _
  have hresult : (portIdle d src s).f (Reg.splSpliceStatus (destWin d)) 15 8 = statusCode .ok :=
    (State.f_setF_other _ _ _ _ (by decide) (by decide) (by decide)).trans (State.f_setF _ _ _ (by decide) (by decide))
  exact Prod.ext hstate hresult

theorem raiseDest_reports (b : Nat) : Reports [Reg.splDestEvent (destWin d)] s (raiseDest d b s) := raiseEn_reports _ _ _ _ _ _

theorem portSwitched_spl (hd : d < 0x400) : (portSwitched d src s).spl = s.spl :=
  (raiseDest_reports _ 0).spl.trans ((bump_writes _ 1 _).spl.trans (portIdle_writes src s hd).spl)

/-- The count of splices and the events are all that moves after STATUS. -/
theorem portSwitched_other {a : Nat} (hten : 0x18000 ≤ a) (hcnt : a ≠ Reg.splSpliceCnt (destWin d)) (hev : a ≠ Reg.splDestEvent (destWin d)) :
    (portSwitched d src s).reg a = (portIdle d src s).reg a :=
  ((raiseDest_reports _ 0).2 a (inTen_above hten) (by simpa using hev)).trans ((bump_writes _ 1 _).2 a hcnt)

theorem portSwitched_outside (hd : d < 0x400) {a : Nat} (hten : 0x18000 ≤ a) (ha : ¬ PortWrites d a) : (portSwitched d src s).reg a = s.reg a := by
  have hcnt : a ≠ Reg.splSpliceCnt (destWin d) := fun h => ha (h ▸ portWrites_window d (by decide))
  have hev : a ≠ Reg.splDestEvent (destWin d) := fun h => ha (h ▸ portWrites_window d (by decide))
  rw [portSwitched_other src s hten hcnt hev, (portIdle_writes src s hd).2 a ha]

theorem portSwitched_hitch (hd : d < 0x400) : (portSwitched d src s).hitch d = src.map (fun n => n % 2048) := by
  have hge := destWin_ge d
  rw [← setSrc_hitch hd src s]
  refine State.hitch_of_reg ((portSwitched_other src s ?_ ?_ ?_).trans (portIdle_other src s ?_))
  all_goals simp only [Reg.splSrc, Reg.splSpliceCnt, Reg.splDestEvent, Reg.splSpliceStatus]; omega

theorem portSwitched_shown : (portSwitched d src s).destShown d = (0, 0) := by
  have hge := destWin_ge d
  rw [← portIdle_shown src s]
  refine State.destShown_of_reg (portSwitched_other src s ?_ ?_ ?_)
  all_goals simp only [Reg.splSpliceCnt, Reg.splDestEvent, Reg.splSpliceStatus]; omega

theorem portSwitched_count (hd : d < 0x400) :
    (portSwitched d src s).reg (Reg.splSpliceCnt (destWin d)) = wd (min 0xFFFFFFFF ((s.reg (Reg.splSpliceCnt (destWin d))).toNat + 1)) := by
  have hge := destWin_ge d
  have hend : destWin d + 0x40 ≤ 0x1A0000 := by rw [destWin_of_port hd]; omega
  have hevent : (portSwitched d src s).reg (Reg.splSpliceCnt (destWin d)) = ((portIdle d src s).bump (Reg.splSpliceCnt (destWin d)) 1).reg (Reg.splSpliceCnt (destWin d)) :=
    (raiseDest_reports _ 0).2 _ (inTen_above (by simp only [Reg.splSpliceCnt]; omega)) (by simp only [Reg.splSpliceCnt, Reg.splDestEvent, List.mem_singleton]; omega)
  have hbefore : (portIdle d src s).reg (Reg.splSpliceCnt (destWin d)) = s.reg (Reg.splSpliceCnt (destWin d)) := by
    rw [portIdle_other src s (by simp only [Reg.splSpliceCnt, Reg.splSpliceStatus]; omega)]
    refine (setSrc_writes hd src s).2 _ ?_
    simp only [HitchShows, PastWindows, Reg.splSrc, Reg.splSpliceCnt]
    omega
  rw [hevent, State.reg_bump, if_pos rfl, hbefore]

theorem portSwitched_event : (portSwitched d src s).bit (Reg.splDestEvent (destWin d)) 0 = true := by
  have hge := destWin_ge d
  rw [portSwitched, raiseDest, State.bit, raiseEn_reg (inTen_above (by simp only [Reg.splDestEvent]; omega)), bitOf_setFld _ _ le_rfl (by decide)]
  rfl

end

/-- An arm of the class ESSENCE without reserve or promotion switches a port of no consumer alone (R267). -/
theorem switchDest_port {c : ChangeSet} {a : Arm} (hport : a.dest < 0x400) (hpromote : a.promote = false) (hreserve : a.reserve = none) (hcls : a.cls = .essence) {s : State}
    (hunused : s.consumer a.dest = none) : switchDest c a s = portSwitched a.dest a.source s := by
  have hnone : (portSwitched a.dest a.source s).consumer a.dest = none := by rw [State.consumer, portSwitched_spl _ _ hport]; exact hunused
  have hclass : ¬ (a.cls = .ethBlock ∧ a.source.isSome) := by rw [hcls]; exact fun h => absurd h.1 (by decide)
  have hdest : switchDest c a s = reportReturn s a.dest (afterBind a.dest (portSwitched a.dest a.source s)) := by
    rw [switchDest, bindDest_port hport, hpromote, if_neg Bool.false_ne_true, hreserve, releaseReserve, if_neg hclass]
    rfl
  rw [hdest, afterBind_unused hnone, reportReturn, destIsStrand_of_port hport]
  exact if_neg (by simp)

end Sys2Proof.Machine
end

section
/-! What a set waits for reads nothing of what was emitted: where it may enter, and its splice point. Along a chain of engines, by the length of the chain. -/

namespace Sys2Proof.Machine

open Sys2Proof

theorem destRunsF_begin (k : Nat) (s : State) : destRunsF k s.begin = destRunsF k s := by
  induction k with
  | zero => rfl
  | succ k ih => funext d; rw [destRunsF, destRunsF, ih]; rfl

theorem State.destRuns_begin (s : State) : s.begin.destRuns = s.destRuns := destRunsF_begin 160 s

theorem destGenF_begin (k : Nat) (s : State) : destGenF k s.begin = destGenF k s := by
  induction k with
  | zero => rfl
  | succ k ih => funext d; rw [destGenF, destGenF, ih, State.destRuns_begin]; rfl

theorem eiFormatF_begin (k : Nat) (s : State) (rd : Rd) (hitch : Nat → Option Nat) : eiFormatF k s.begin rd hitch = eiFormatF k s rd hitch := by
  induction k with
  | zero => rfl
  | succ k ih => funext ei; rw [eiFormatF, eiFormatF, ih]; rfl

theorem State.destGen_begin (s : State) : s.begin.destGen = s.destGen := destGenF_begin 160 s

theorem State.eoFormat_begin (s : State) (rd : Rd) (eo : Nat) : s.begin.eoFormat rd eo = s.eoFormat rd eo := by
  have hhitch : s.begin.hitch = s.hitch := rfl
  unfold State.eoFormat State.eiFormat
  rw [hhitch, eiFormatF_begin]

theorem State.atPoint_begin (s : State) (d line : Nat) : s.begin.atPoint d line = s.atPoint d line := by
  have hlive : s.begin.liveReg = s.liveReg := rfl
  unfold State.atPoint State.destLine
  rw [State.destGen_begin, State.eoFormat_begin, hlive]
  rfl

theorem State.framePeriod_begin (s : State) (d : Nat) : s.begin.framePeriod d = s.framePeriod d := by
  have hlive : s.begin.liveReg = s.liveReg := rfl
  unfold State.framePeriod State.destRate
  rw [State.destGen_begin, State.eoFormat_begin, hlive]
  rfl

theorem State.mayEnter_begin (s : State) (c : ChangeSet) (obs : EntryObs) : s.begin.mayEnter c obs = s.mayEnter c obs := by
  unfold State.mayEnter State.eligibleAt State.leaderGen
  simp only [State.framePeriod_begin, State.destGen_begin]
  rfl

end Sys2Proof.Machine
end

section
/-! The end of a set (R267), and the phases of O44. -/

namespace Sys2Proof.Machine

open Sys2Proof

theorem tenCommitCnt_below (t : Nat) : t < 4 → Reg.tenCommitCnt t < 0x20000 := fun h => by simp only [Reg.tenCommitCnt]; omega

theorem finishSet_spl (c : ChangeSet) (s : State) : (finishSet c s).spl = { s.spl with sets := s.spl.sets.filter (fun x => decide (x.id ≠ c.id)) } := by
  rw [finishSet, (completeAll_reports _ _ _ _).spl, (bump_writes _ _ _).spl, (refreshGroup_past _ _ _).spl]
  rfl

theorem finishSet_findSet (c : ChangeSet) (s : State) : (finishSet c s).findSet c.id = none :=
  (State.findSet_of_spl (t := finishSet c s) (finishSet_spl c s) c.id).trans (findSet_dropped s c.id)

/-- A set's end writes the count of commits, the group, and what completions write. -/
theorem finishSet_reg (c : ChangeSet) (s : State) {a : Nat} (hten : 0x18000 ≤ a) (hpast : a < 0x1A0000) :
    (finishSet c s).reg a = if a = Reg.tenCommitCnt c.owner then wd (min 0xFFFFFFFF ((s.reg a).toNat + 1)) else s.reg a := by
  rw [finishSet, (completeAll_reports _ _ _ _).2 a (inTen_above hten) (by simp), State.reg_bump, (refreshGroup_past _ _ _).2 a (not_pastWindows_of_lt hpast)]
  rfl

theorem findSet_unreserve {s : State} {id : Nat} {c : ChangeSet} (h : s.findSet id = some c) (obj : Nat) :
    (unreserve id obj s).findSet id = some { c with reserved := c.reserved.filter (fun e => decide (e.1 ≠ obj)) } := findSet_updSet h (fun _ => rfl)

/-- A set of which one arm has switched. -/
def ChangeSet.switchedAt (c : ChangeSet) (d : Nat) : ChangeSet := { c with arms := c.arms.map (fun x => if x.dest = d then { x with switched := true } else x) }

theorem leaderSwitch_nothing {c : ChangeSet} (hops : c.ops = []) (hheld : c.held = []) (s : State) :
    leaderSwitch c s = updSet c.id (fun c => { c with ops := [], held := [] }) s := by rw [leaderSwitch, hops, hheld]; rfl

/-- The leader alone switches; no cut follows it. -/
theorem cutsFollow_alone {c : ChangeSet} {a : Arm} (harms : c.arms = [a]) (hlead : c.leader = a.dest) (s : State) : cutsFollow c s = s := by
  rw [cutsFollow, harms, hlead]
  simp

/-- The member is marked, and what its reservation covered is released. -/
def memberReleased (c : ChangeSet) (a : Arm) (s : State) : State :=
  unreserve c.id (objDest a.dest) (unreserve c.id (objStrand (destNumber a.dest)) (updSet c.id (·.switchedAt a.dest) s))

theorem memberReleased_reg (c : ChangeSet) (a : Arm) (s : State) (b : Nat) : (memberReleased c a s).reg b = s.reg b := rfl

/-- A set of one arm, a port of no consumer, and nothing pending has switched; the fid that serves it is told. -/
def portSetSwitched (c : ChangeSet) (a : Arm) (s : State) : State :=
  fidEventSet c 4 (updSet c.id (fun c => { c with ops := [], held := [] }) (portSwitched a.dest a.source (memberReleased c a s)))

section
variable {s : State} {c : ChangeSet} {a : Arm} (hport : a.dest < 0x400)
include hport

theorem portSetSwitched_eiBind : (portSetSwitched c a s).spl.eiBind = s.spl.eiBind := by
  rw [portSetSwitched, (fidEventSet_past _ _ _).spl]
  show (portSwitched a.dest a.source (memberReleased c a s)).spl.eiBind = _
  rw [portSwitched_spl _ _ hport]
  rfl

omit hport in
theorem portSetSwitched_reg {b : Nat} (hb : b < 0x1A0000) : (portSetSwitched c a s).reg b = (portSwitched a.dest a.source (memberReleased c a s)).reg b :=
  (fidEventSet_past _ _ _).2 b (not_pastWindows_of_lt hb)

variable (hfind : s.findSet c.id = some c) (harms : c.arms = [a])
include hfind harms

/-- Every member of the set has switched, and nothing is pending. -/
theorem portSetSwitched_findSet : ∃ c', (portSetSwitched c a s).findSet c.id = some c' ∧ c'.id = c.id ∧ c'.owner = c.owner ∧ c'.phase = c.phase ∧
    c'.arms = [{ a with switched := true }] ∧ c'.engines = c.engines ∧ c'.ops = [] := by
  have hmarked : (updSet c.id (·.switchedAt a.dest) s).findSet c.id = some (c.switchedAt a.dest) := findSet_updSet hfind (fun _ => rfl)
  have hreleased := findSet_unreserve (findSet_unreserve hmarked (objStrand (destNumber a.dest))) (objDest a.dest)
  have hswitched := (State.findSet_of_spl (portSwitched_spl a.source (memberReleased c a s) hport) c.id).trans hreleased
  refine ⟨_, (State.findSet_of_spl (fidEventSet_past _ _ _).spl _).trans (findSet_updSet hswitched (fun _ => rfl)), rfl, rfl, rfl, ?_, rfl, rfl⟩
  simp [ChangeSet.switchedAt, harms]

end

/-- A decided set whose one arm, of the class ESSENCE without reserve or promotion, stands at the splice point of its port of no consumer; nothing else is pending. -/
structure SwitchesPort (s : State) (c : ChangeSet) (a : Arm) (line : Nat) : Prop where
  found : s.findSet c.id = some c
  decided : c.phase = .decided
  arms : c.arms = [a]
  engines : c.engines = []
  ops : c.ops = []
  held : c.held = []
  leader : c.leader = a.dest
  port : a.dest < 0x400
  stays : a.switched = false
  reserve : a.reserve = none
  promote : a.promote = false
  cls : a.cls = .essence
  unused : s.consumer a.dest = none
  unbound : s.spl.eiBind = []
  point : s.atPoint a.dest line = true

section
variable {s : State} {c : ChangeSet} {a : Arm} {obs : SwitchObs} (h : SwitchesPort s c a obs.line)
include h

/-- At its splice point the set's one member switches, and nothing follows its leader. -/
theorem doSwitch_port : doSwitch c.id 0 obs s = settleSet c.id (portSetSwitched c a s) := by
  have hmember : c.arms[0]? = some a := by rw [h.arms]; rfl
  have hmates : s.switchMates c a = [a] := by simp [State.switchMates, h.arms, h.stays]
  have hat : s.switchAt c a obs.line = true := by simp [State.switchAt, h.leader, h.point]
  have hswitch : switchArm c a s = portSwitched a.dest a.source (memberReleased c a s) := switchDest_port h.port h.promote h.reserve h.cls h.unused
  rw [doSwitch, h.found]
  simp only [h.decided, ne_eq, not_true_eq_false, if_false, hmember, h.stays, hat, hmates, List.foldl_cons, List.foldl_nil, List.any_cons, List.any_nil, h.leader,
    decide_true, Bool.not_true, Bool.or_false, Bool.false_eq_true, if_true, hswitch, cutsFollow_alone h.arms h.leader, leaderSwitch_nothing h.ops h.held]
  rfl

/-- The set is finished. -/
theorem doSwitch_finishes : ∃ c', c'.id = c.id ∧ c'.owner = c.owner ∧ doSwitch c.id 0 obs s = wakeUsed (finishSet c' (dropReqs c.id (portSetSwitched c a s))) := by
  obtain ⟨c', hc', hid, howner, hphase, harms, hengines, hops⟩ := portSetSwitched_findSet h.port h.found h.arms
  refine ⟨c', hid, howner, ?_⟩
  rw [doSwitch_port h, settleSet, hc']
  have hdone : c'.phase = .decided ∧ c'.arms.all (fun a => a.switched) ∧ c'.engines.all (fun e => c'.switchedEngines.contains e) ∧ c'.ops.isEmpty := by
    simp [hphase, h.decided, harms, hengines, h.engines, hops]
  refine (if_pos hdone).trans (enginesRefresh_unbound ?_)
  rw [finishSet_spl]
  exact (portSetSwitched_eiBind h.port).trans h.unbound

omit h in
/-- A register of the port's window when the set is finished. -/
theorem finished_window (c c' : ChangeSet) (a : Arm) (hport : a.dest < 0x400) (howner : c'.owner < 4) {k : Nat} (hk : k < 0x40) :
    (finishSet c' (dropReqs c.id (portSetSwitched c a s))).reg (destWin a.dest + k) = (portSwitched a.dest a.source (memberReleased c a s)).reg (destWin a.dest + k) := by
  have hge := destWin_ge a.dest
  have hend : destWin a.dest + 0x40 ≤ 0x1A0000 := by rw [destWin_of_port hport]; omega
  have hcommit := tenCommitCnt_below c'.owner howner
  rw [finishSet_reg _ _ (by omega) (by omega), if_neg (by omega)]
  exact portSetSwitched_reg (by omega)

/-- The switch of a set of one port (R264, R267). -/
theorem doSwitch_shows (howner : c.owner < 4) : ∃ u, doSwitch c.id 0 obs s = wakeUsed u ∧ u.hitch a.dest = a.source.map (fun n => n % 2048) ∧ u.destShown a.dest = (0, 0) ∧
    u.reg (Reg.splSpliceCnt (destWin a.dest)) = wd (min 0xFFFFFFFF ((s.reg (Reg.splSpliceCnt (destWin a.dest))).toNat + 1)) ∧
    u.bit (Reg.splDestEvent (destWin a.dest)) 0 = true ∧ u.findSet c.id = none ∧
    u.reg (Reg.tenCommitCnt c.owner) = wd (min 0xFFFFFFFF ((s.reg (Reg.tenCommitCnt c.owner)).toNat + 1)) := by
  obtain ⟨c', hid, howner', hu⟩ := doSwitch_finishes h
  have hwindow : ∀ k, k < 0x40 → _ := fun k hk => finished_window (s := s) c c' a h.port (howner' ▸ howner) (k := k) hk
  have hfound := finishSet_findSet c' (dropReqs c.id (portSetSwitched c a s))
  have hbelow := tenCommitCnt_below c.owner howner
  have habove : 0x18000 ≤ Reg.tenCommitCnt c.owner := by simp only [Reg.tenCommitCnt]; omega
  have houtside : ¬ PortWrites a.dest (Reg.tenCommitCnt c.owner) := by
    have hge := destWin_ge a.dest
    simp only [PortWrites, PastWindows]
    omega
  have hcommit : (dropReqs c.id (portSetSwitched c a s)).reg (Reg.tenCommitCnt c.owner) = s.reg (Reg.tenCommitCnt c.owner) :=
    (portSetSwitched_reg (by omega)).trans ((portSwitched_outside _ _ h.port habove houtside).trans (memberReleased_reg c a s _))
  refine ⟨_, hu, ?_, ?_, ?_, ?_, hid ▸ hfound, ?_⟩
  · exact (State.hitch_of_reg (hwindow 0 (by decide))).trans (portSwitched_hitch _ _ h.port)
  · exact (State.destShown_of_reg (hwindow 0x14 (by decide))).trans (portSwitched_shown _ _)
  · exact (hwindow 0x28 (by decide)).trans (portSwitched_count _ _ h.port)
  · exact (State.bit_of_reg (hwindow 0x18 (by decide)) 0).trans (portSwitched_event _ _)
  · rw [finishSet_reg _ _ habove (by omega), howner', if_pos rfl, hcommit]

end

/-! The commands -/

section
variable {s : State} {c : ChangeSet} (hfind : s.findSet c.id = some c)
include hfind

theorem exec_prerollEntry {obs : EntryObs} (h : s.mayEnter c obs = true) :
    (c.checked = true → exec (.prerollEntry c.id obs) s = .next (askPower c obs.point (enterPreroll c obs s.begin))) ∧
      (c.checked = false → (enterPreroll c obs s.begin).spliceRuns c = [] → (enterPreroll c obs s.begin).hooksOf c.id = false →
        exec (.prerollEntry c.id obs) s = .next (entryChecks c.id (enterPreroll c obs s.begin))) := by
  have hrun : exec (.prerollEntry c.id obs) s = .next (doPrerollEntry c.id obs s.begin) := rfl
  have hfound : s.begin.findSet c.id = some c := hfind
  have henter : s.begin.mayEnter c obs = true := (State.mayEnter_begin s c obs).trans h
  rw [hrun, doPrerollEntry, hfound]
  simp only [henter, Bool.not_true, Bool.false_eq_true, if_false]
  refine ⟨fun hchecked => by rw [if_pos hchecked], fun hchecked hruns hhooks => ?_⟩
  have hqueue : queueSplice c (enterPreroll c obs s.begin) = enterPreroll c obs s.begin := by rw [queueSplice, hruns]; rfl
  simp [hchecked, hqueue, hhooks]

theorem exec_decision {obs : DecisionObs} (hphase : c.phase = .preroll) (hchecked : c.checked = true) (hpower : s.powerWaits c.id = false)
    (htaken : c.mode ≠ 2 ∨ c.taken = true) (hpoint : s.atPoint c.leader obs.line = true) (hfit : s.begin.decisionUnfit c obs = none) :
    exec (.decision none (some c.id) obs) s = .next (decideSet c obs s.begin) := by
  have hrun : exec (.decision none (some c.id) obs) s = .next (setDecision c.id obs s.begin) := rfl
  have hfound : s.begin.findSet c.id = some c := hfind
  have hcut : cutDue c obs.point = false := by simp [cutDue, hphase]
  have hready : ¬ (c.phase ≠ .preroll ∨ !c.checked ∨ !(if c.leader = 0xFFFE then true else s.begin.atPoint c.leader obs.line)) := by
    have hpoint' : s.begin.atPoint c.leader obs.line = true := (State.atPoint_begin s _ _).trans hpoint
    simp [hphase, hchecked, hpoint']
  have hpower' : s.begin.powerWaits c.id = false := hpower
  have hgo : ¬ (c.mode = 2 ∧ !c.taken) := by
    rcases htaken with h | h <;> simp [h]
  rw [hrun, setDecision, hfound]
  simp only [hcut, Bool.false_eq_true, if_false, hready, hpower', hgo, hfit]

theorem exec_deferredPower (hphase : c.phase = .preroll) (hpower : s.powerWaits c.id = true) : exec (.deferredPower c.id) s = .next (deferSet c s.begin) := by
  have hrun : exec (.deferredPower c.id) s = .next (doDeferredPower c.id s.begin) := rfl
  have hfound : s.begin.findSet c.id = some c := hfind
  rw [hrun, doDeferredPower, hfound]
  exact congrArg _ (if_pos ⟨hphase, hpower⟩)

end

/-- Settles O44, from what each phase shows: the members' STATE by a walk along the arms, the rest by what each step leaves. -/
theorem setPhases : Obligations.SetPhases := by
  intro s c hfind heng howner hok
  have hfound : s.begin.findSet c.id = some c := hfind
  refine ⟨fun obs henter => ?_, fun obs hphase hchecked hpower htaken hpoint hfit => ?_, fun a obs hphase harms hstays hreserve hpromote hcls hport hlead hops hheld hunused
    hunbound hpoint => ?_, fun hphase hpower hfew => ?_⟩
  · obtain ⟨late, hset, hmode, hlate, hstate, hkept⟩ := enterPreroll_shows hfound heng hok obs
    obtain ⟨hasks, hchecks⟩ := exec_prerollEntry hfind henter
    exact ⟨enterPreroll c obs s.begin, late, hset, hmode, hlate, hstate, hkept.live, congrArg HostState.cqs hkept.host, hasks, hchecks⟩
  · obtain ⟨c', hset, hphase', harms, hmembers, hleader, hkept⟩ := decideSet_shows hfound heng hok obs
    exact ⟨decideSet c obs s.begin, c', exec_decision hfind hphase hchecked hpower htaken hpoint hfit, hset, hphase', harms, hmembers, hleader, hkept.live,
      congrArg HostState.cqs hkept.host⟩
  · have h : SwitchesPort s.begin c a obs.line :=
      ⟨hfound, hphase, harms, heng, hops, hheld, hlead, hport, hstays, hreserve, hpromote, hcls, hunused, hunbound, (State.atPoint_begin s _ _).trans hpoint⟩
    obtain ⟨u, hu, hhitch, hshown, hcount, hevent, hgone, hcommit⟩ := doSwitch_shows h howner
    obtain ⟨hstate, hresult⟩ := Prod.ext_iff.mp hshown
    exact ⟨u, congrArg Host.Outcome.next hu, hhitch, hstate, hresult, hcount, hevent, hgone, hcommit⟩
  · obtain ⟨hset, hshown, hevent, hlate, hdefer, hlive⟩ := deferSet_shows hfound heng hok howner hfew
    exact ⟨deferSet c s.begin, exec_deferredPower hfind hphase hpower, hset, fun a ha => Prod.ext_iff.mp (hshown a ha), hevent, hlate, hdefer, hlive⟩

end Sys2Proof.Machine
end

section
/-! Every command keeps what `Keeps` says: the lemmas of the operations, put together over `exec` and `step` (R250, R445). -/

namespace Sys2Proof.Machine

open Sys2Proof

/-- A command that runs an operation ends in a next state that keeps what the operation keeps. -/
theorem run_keeps {s : State} {f : State → State} (h : ∀ x, Keeps s x → Keeps s (f x)) : ∃ t, run f s = .next t ∧ Keeps s t :=
  ⟨f s.begin, rfl, h _ (State.begin_keeps s (Keeps.refl s))⟩

theorem run_unlessStopped_keeps {s : State} {z : Nat} {f : State → State} (h : ∀ x, Keeps s x → Keeps s (f x)) :
    ∃ t, run (unlessStopped z f) s = .next t ∧ Keeps s t :=
  run_keeps fun x hx => unlessStopped_keeps z f x hx h

/-- Every command of the part ends in a next state that keeps the queue, the canonical form and the one-time storage. -/
theorem exec_keeps (c : Instr) (s : State) : ∃ t, exec c s = .next t ∧ Keeps s t :=
  match c with
  | .regWrite m addr size v => run_keeps (doRegWrite_keeps m addr size v)
  | .stagedWrite m a v => run_keeps (doStagedWrite_keeps m a v)
  | .powerOn => run_keeps doPowerOn_keeps
  | .pin => run_keeps doPin_keeps
  | .supply => run_keeps doSupply_keeps
  | .thermal => run_keeps doThermal_keeps
  | .vddAonLost => run_keeps doVddAonLost_keeps
  | .resetRelease obs => run_keeps (doResetRelease_keeps obs)
  | .sectionsChecked => run_keeps doSectionsChecked_keeps
  | .linkDetectTimeout => run_keeps doLinkDetectTimeout_keeps
  | .channelTrained m r => run_keeps (doChannelTrained_keeps m r)
  | .inService => run_keeps doInService_keeps
  | .extentReady => run_keeps doExtentReady_keeps
  | .avsRetry ack => run_keeps (doAvsRetry_keeps ack)
  | .tamperAlarm code => run_keeps (doTamperAlarm_keeps code)
  | .dbgReq => run_keeps doDbgReq_keeps
  | .tapReset accepted => run_keeps (doTapReset_keeps accepted)
  | .signalDetected n => run_keeps (doSignalDetected_keeps n)
  | .clockLocked obs => run_keeps (doClockLocked_keeps obs.strand obs.kbps)
  | .adaptConverged n ctle dfe => run_keeps (doAdaptConverged_keeps n ctle dfe)
  | .adaptFail n => run_keeps (doAdaptFail_keeps n)
  | .protoAligned n skew => run_keeps (doProtoAligned_keeps n skew)
  | .syncFail n => run_keeps (doSyncFail_keeps n)
  | .los n => run_keeps (doLos_keeps n)
  | .protoLost n => run_keeps (doProtoLost_keeps n)
  | .braidSkew n => run_keeps (doBraidSkew_keeps n)
  | .txPllLocked n => run_keeps (doTxPllLocked_keeps n)
  | .bightChange k => run_keeps (doBightChange_keeps k)
  | .openReq m k v => run_keeps (doOpenReq_keeps m k v)
  | .inject m n v => run_keeps (doInject_keeps m n v)
  | .strPrbsErrRead m n errors bits => run_keeps (doStrPrbsErrRead_keeps m n errors bits)
  | .start m n v => run_keeps (doStart_keeps m n v)
  | .eyeDone n errors => run_keeps (doEyeDone_keeps n errors)
  | .hpd m dp v => run_keeps (doHpd_keeps m dp v)
  | .irqHpdPulse m dp v => run_keeps (doIrqHpdPulse_keeps m dp v)
  | .auxTransaction dp req => run_unlessStopped_keeps (doAuxTransaction_keeps dp req)
  | .ddcTransaction dp req => run_unlessStopped_keeps (doDdcTransaction_keeps dp req)
  | .hpdAssert dp => run_keeps (doHpdAssert_keeps dp)
  | .hpdDeassert dp => run_keeps (doHpdDeassert_keeps dp)
  | .irqHpd dp => run_keeps (doIrqHpd_keeps dp)
  | .edidReload m dp v => run_keeps (doEdidReload_keeps m dp v)
  | .edidReady dp data => run_keeps (doEdidReady_keeps dp data)
  | .trainDone dp lanes rate => run_keeps (doTrainDone_keeps dp lanes rate)
  | .trainFail dp => run_keeps (doTrainFail_keeps dp)
  | .strandConfig o c => run_keeps (doStrandConfig_keeps o c)
  | .strandConfigDone l => run_keeps (doStrandConfigDone_keeps l)
  | .formatLocked n obs => run_unlessStopped_keeps (doFormatLocked_keeps n obs)
  | .formatChange n => run_unlessStopped_keeps (doFormatChange_keeps n)
  | .formatUnknown n => run_unlessStopped_keeps (doFormatUnknown_keeps n)
  | .ancOverflow n packets => run_unlessStopped_keeps (doAncOverflow_keeps n packets)
  | .ethFrameRx n f => run_unlessStopped_keeps (doEthFrameRx_keeps n f)
  | .mgmtRx n etherType frame => run_unlessStopped_keeps (doMgmtRx_keeps n etherType frame)
  | .igmpQuery n => run_unlessStopped_keeps (doIgmpQuery_keeps n)
  | .flowPacketRx key p => run_unlessStopped_keeps (doFlowPacketRx_keeps key p)
  | .flowRelease cls flow ts fmt => run_unlessStopped_keeps (doFlowRelease_keeps (flowKey cls flow) ts fmt)
  | .flowLost key => run_unlessStopped_keeps (doFlowLost_keeps key)
  | .pathLost key path => run_unlessStopped_keeps (doPathLost_keeps key path)
  | .flowPacketTx key => run_unlessStopped_keeps (doFlowPacketTx_keeps key)
  | .ptpMessageRx n msg => run_unlessStopped_keeps (doPtpMessageRx_keeps n msg)
  | .frameSent n => run_keeps (doFrameSent_keeps n)
  | .hitch o d src => run_keeps (doHitch_keeps o d src)
  | .unhitch o d => run_keeps (doUnhitch_keeps o d)
  | .armSplice o d src mode group absent noPromote unhitch time => run_keeps (doArmSplice_keeps o d src mode group absent noPromote unhitch time)
  | .take o group d => run_keeps (doTake_keeps o group d)
  | .cancelSplice o group d => run_keeps (doCancelSplice_keeps o group d)
  | .arm m d v => run_keeps (doArm_keeps m d v)
  | .cancel m d v => run_keeps (doCancel_keeps m d v)
  | .splTake m v => run_keeps (doSplTake_keeps m v)
  | .splCancel m v => run_keeps (doSplCancel_keeps m v)
  | .lineStart tg line obs => run_unlessStopped_keeps (doLineStart_keeps tg line obs)
  | .splicePoint p obs => run_keeps (doSplicePoint_keeps p obs)
  | .lockStepEnd tg => run_unlessStopped_keeps (doLockStepEnd_keeps tg)
  | .gapEnd tg => run_unlessStopped_keeps (doGapEnd_keeps tg)
  | .holdLimitExpiry obj => run_unlessStopped_keeps (doHoldLimitExpiry_keeps obj)
  | .prerollEntry set obs => run_keeps (doPrerollEntry_keeps set obs)
  | .decision tg set obs => run_keeps (doDecision_keeps tg set obs)
  | .switch set member obs => run_keeps (doSwitch_keeps set member obs)
  | .shadowReload e => run_keeps (doShadowReload_keeps e)
  | .ethBlockReturn n => run_unlessStopped_keeps (doEthBlockReturn_keeps n)
  | .deferredPower set => run_keeps (doDeferredPower_keeps set)
  | .batchTimeout t q => run_keeps (doBatchTimeout_keeps t q)
  | .batchOpen o group => run_keeps (doBatchOpen_keeps o group)
  | .batchClose o mode time => run_keeps (doBatchClose_keeps o mode time)
  | .frameComplete w => run_unlessStopped_keeps (doFrameComplete_keeps w)
  | .sbdSet o n mask block => run_keeps (doSbdSet_keeps o n mask block)
  | .sbdTableLoad o n table source words => run_keeps (doSbdTableLoad_keeps o n table source words)
  | .sbdTblLoad m n v => run_keeps (doSbdTblLoad_keeps m n v)
  | .sbdTblData m n v => run_keeps (doSbdTblData_keeps m n v)
  | .compSet o n mask block => run_keeps (doCompSet_keeps o n mask block)
  | .layerSet o n mask block => run_keeps (doLayerSet_keeps o n mask block)
  | .registerBuffer o offset format width height pitch colour range => run_keeps (doRegisterBuffer_keeps o offset format width height pitch colour range)
  | .releaseBuffer o h => run_keeps (doReleaseBuffer_keeps o h)
  | .flip o n h fence value target => run_keeps (doFlip_keeps o n h fence value target)
  | .cmpLFlip m n v => run_keeps (doCmpLFlip_keeps m n v)
  | .compTableLoad o n bank words => run_keeps (doCompTableLoad_keeps o n bank words)
  | .cmpTblData m n v => run_keeps (doCmpTblData_keeps m n v)
  | .timingSet o n mask block => run_keeps (doTimingSet_keeps o n mask block)
  | .paceSet o n mask block => run_keeps (doPaceSet_keeps o n mask block)
  | .crcSet o n mask block => run_keeps (doCrcSet_keeps o n mask block)
  | .scnTableLoad m tg v => run_keeps (doScnTableLoad_keeps m tg v)
  | .recorderSet o n mask block => run_keeps (doRecorderSet_keeps o n mask block)
  | .playerSet o n mask block => run_keeps (doPlayerSet_keeps o n mask block)
  | .playerCue o n time => run_keeps (doPlayerCue_keeps o n time)
  | .evacuateChannel o m => run_keeps (doEvacuateChannel_keeps o m)
  | .channelPower o m on => run_keeps (doChannelPower_keeps o m on)
  | .rebalance o m => run_keeps (doRebalance_keeps o m)
  | .pieceCopied => run_keeps doPieceCopied_keeps
  | .powerOffSafe m => run_keeps (doPowerOffSafe_keeps m)
  | .failed m => run_keeps (doFailed_keeps m)
  | .patrolScrub reads pass => run_keeps (doPatrolScrub_keeps reads pass)
  | .selfRefreshEntry m => run_keeps (doSelfRefreshEntry_keeps m)
  | .selfRefreshExit m host => run_keeps (doSelfRefreshExit_keeps m host)
  | .bar2Access t q => run_keeps (doBar2Access_keeps t q)
  | .blockBoundary d obs => run_keeps (doBlockBoundary_keeps d obs)
  | .sampleInstant d time bclkOk => run_unlessStopped_keeps (doSampleInstant_keeps d time bclkOk)
  | .clkLost d => run_keeps (doClkLost_keeps d)
  | .sapEnable m n tx v => run_keeps (doSapEnable_keeps m n tx v)
  | .tapRecord n time frames => run_unlessStopped_keeps (doTapRecord_keeps n time frames)
  | .aes3Block n a b => run_unlessStopped_keeps (doAes3Block_keeps n a b)
  | .blockSyncLost n => run_unlessStopped_keeps (doBlockSyncLost_keeps n)
  | .parityErr obs => run_unlessStopped_keeps (doParityErr_keeps obs.ai obs.sub obs.position)
  | .audioHitch o amo ami group => run_keeps (doAudioHitch_keeps o amo ami group)
  | .audioUnhitch o amo group => run_keeps (doAudioUnhitch_keeps o amo group)
  | .audioPortSet o amo count fade agroup => run_keeps (doAudioPortSet_keeps o amo count fade agroup)
  | .audioDomainSet o d mode => run_keeps (doAudioDomainSet_keeps o d mode)
  | .agroupSet o g slip => run_keeps (doAgroupSet_keeps o g slip)
  | .sapSet o n mask block => run_keeps (doSapSet_keeps o n mask block)
  | .audioTapSet o n ctrl base size => run_keeps (doAudioTapSet_keeps o n ctrl base size)
  | .aesSet o port cfg cs => run_keeps (doAesSet_keeps o port cfg cs)
  | .srcSet o first count enable domain => run_keeps (doSrcSet_keeps o first count enable domain)
  | .ppsEdge obs => run_keeps (doPpsEdge_keeps obs)
  | .refSyncFrame entry rate blackBurst obs => run_keeps (doRefSyncFrame_keeps entry rate blackBurst obs)
  | .refLost r => run_keeps (doRefLost_keeps r)
  | .refReady r => run_keeps (doRefReady_keeps r)
  | .holdoffExpiry r => run_keeps (doHoldoffExpiry_keeps r)
  | .todArm m v => run_keeps (doTodArm_keeps m v)
  | .tempSample tenths => run_keeps (doTempSample_keeps tenths)
  | .calRun o item strand vcalOk => run_keeps (doCalRun_keeps o item strand vcalOk)
  | .bgCalStart item index vcalOk => run_keeps (doBgCalStart_keeps item index vcalOk)
  | .calDone item index obs => run_keeps (doCalDone_keeps item index obs)
  | .calStore o => run_keeps (doCalStore_keeps o)
  | .autoStore => run_keeps doAutoStore_keeps
  | .recordCommitted cls bank flips done => run_keeps (doRecordCommitted_keeps cls bank (slotFlips flips done))
  | .sectorErased cls bank => run_keeps (doSectorErased_keeps cls bank)
  | .program m v => run_keeps (doProgram_keeps m v)
  | .lock m v => run_keeps (doLock_keeps m v)
  | .recRead o cls index length seq addr => run_keeps (doRecRead_keeps o cls index length seq addr)
  | .keyWrite o slot attr wrap data => run_keeps (doKeyWrite_keeps o slot attr wrap data)
  | .keyZero o slot => run_keeps (doKeyZero_keeps o slot)
  | .keyDerive o source target attr addr data => run_keeps (doKeyDerive_keeps o source target attr addr data)
  | .keyStore o slot => run_keeps (doKeyStore_keeps o slot)
  | .attest o slot addr challenge => run_keeps (doAttest_keeps o slot addr challenge)
  | .digestRecompute => run_keeps doDigestRecompute_keeps
  | .rigWriteSlot o slot offset length data => run_keeps (doRigWriteSlot_keeps o slot offset length data.bytes data.plans)
  | .rigWriteSlotDone slot => run_keeps (doRigWriteSlotDone_keeps slot)
  | .rigVerifySlot o slot => run_keeps (doRigVerifySlot_keeps o slot)
  | .rigVerifySlotDone slot => run_keeps (doRigVerifySlotDone_keeps slot)
  | .rigSelectSlot o slot trial => run_keeps (doRigSelectSlot_keeps o slot trial)
  | .rigConfirm o => run_keeps (doRigConfirm_keeps o)
  | .rigRezone o slot mask => run_keeps (doRigRezone_keeps o slot mask)
  | .zoneVerified read => run_keeps (doZoneVerified_keeps read)
  | .zoneStaged read => run_keeps (doZoneStaged_keeps read)
  | .zoneStopped => run_keeps doZoneStopped_keeps
  | .zoneRunning => run_keeps doZoneRunning_keeps
  | .nop o => run_keeps (doNop_keeps o)
  | .fenceSignal o n v => run_keeps (doFenceSignal_keeps o n v)
  | .dmaCopy o r => run_keeps (doDmaCopy_keeps o r)
  | .dmaDone d x => run_keeps (doDmaDone_keeps d x)
  | .modeRequest o mode time => run_keeps (doModeRequest_keeps o mode time)
  | .outputsStopped => run_keeps doOutputsStopped_keeps
  | .tenancyAdrift o t => run_keeps (doTenancyAdrift_keeps o t)
  | .flowSet o descriptor => run_keeps (doFlowSet_keeps o descriptor)
  | .ethSendFrame o n len frame => run_keeps (doEthSendFrame_keeps o n len frame)
  | .macsecSaSet o n receive channel an key pn ssci salt => run_keeps (doMacsecSaSet_keeps o n receive channel an key pn ssci salt)
  | .hookLoad o f len data => run_keeps (doHookLoad_keeps o f len data)
  | .hookSet o f splice period mask => run_keeps (doHookSet_keeps o f splice period mask)
  | .fidUpdate o f len image => run_keeps (doFidUpdate_keeps o f len image)
  | .fidUpdated f => run_keeps (doFidUpdated_keeps f)
  | .fidUpdateTimeout f => run_keeps (doFidUpdateTimeout_keeps f)
  | .fidRestart o f => run_keeps (doFidRestart_keeps o f)
  | .hookTimeout f => run_keeps (doHookTimeout_keeps f)
  | .hookSkipped f set t => run_keeps (doHookSkipped_keeps f set t)
  | .alu f hook => run_keeps (doAlu_keeps f hook)
  | .addi f hook => run_keeps (doAddi_keeps f hook)
  | .andi f hook => run_keeps (doAndi_keeps f hook)
  | .ori f hook => run_keeps (doOri_keeps f hook)
  | .xori f hook => run_keeps (doXori_keeps f hook)
  | .shi f hook => run_keeps (doShi_keeps f hook)
  | .lui f hook => run_keeps (doLui_keeps f hook)
  | .slti f hook => run_keeps (doSlti_keeps f hook)
  | .ld f hook => run_keeps (doLd_keeps f hook)
  | .st f hook => run_keeps (doSt_keeps f hook)
  | .rgr f hook => run_keeps (doRgr_keeps f hook)
  | .rgw f hook => run_keeps (doRgw_keeps f hook)
  | .shw f hook => run_keeps (doShw_keeps f hook)
  | .cmt f hook => run_keeps (doCmt_keeps f hook)
  | .xld f hook => run_keeps (doXld_keeps f hook)
  | .xst f hook => run_keeps (doXst_keeps f hook)
  | .beq f hook => run_keeps (doBeq_keeps f hook)
  | .bne f hook => run_keeps (doBne_keeps f hook)
  | .blt f hook => run_keeps (doBlt_keeps f hook)
  | .bge f hook => run_keeps (doBge_keeps f hook)
  | .bltu f hook => run_keeps (doBltu_keeps f hook)
  | .bgeu f hook => run_keeps (doBgeu_keeps f hook)
  | .jal f hook => run_keeps (doJal_keeps f hook)
  | .jr f hook => run_keeps (doJr_keeps f hook)
  | .time f hook => run_keeps (doTime_keeps f hook)
  | .wait f hook => run_keeps (doWait_keeps f hook)
  | .evt f hook => run_keeps (doEvt_keeps f hook)
  | .csrr f hook => run_keeps (doCsrr_keeps f hook)
  | .csrw f hook => run_keeps (doCsrw_keeps f hook)
  | .done f hook => run_keeps (doDone_keeps f hook)
  | .brk f hook => run_keeps (doBrk_keeps f hook)
  | .lockBreak => run_keeps doLockBreak_keeps
  | .remap m v => run_keeps (sysCtrlWrite_keeps m v)
  | .sysCtrlLock m v => run_keeps (sysCtrlWrite_keeps m v)
  | .sqTail t q v => run_keeps (sqTail_keeps t q v)
  | .cqHead t c v => run_keeps (cqHead_keeps t c v)
  | .evqHead t v => run_keeps (evqHead_keeps t v)
  | .commandFetch t q entries failed => run_keeps (doCommandFetch_keeps t q entries failed)
  | .msixMessage t ring => run_keeps (doMsixMessage_keeps t ring)
  | .tenLanyard m t v => run_keeps (doTenLanyard_keeps m t v)
  | .tenLanyardCfg m t v => run_keeps (doTenLanyardCfg_keeps m t v)
  | .lanyardLapse t => run_keeps (doLanyardLapse_keeps t)
  | .tenFenceLo m t n v => run_keeps (doTenFenceLo_keeps m t n v)
  | .tenFenceHi m t n v => run_keeps (doTenFenceHi_keeps m t n v)
  | .functionReset t accepted moved => run_keeps (doFunctionReset_keeps t accepted moved)
  | .busMasterEnable t => run_keeps (doBusMasterEnable_keeps t)
  | .ecrcError link => run_keeps (doEcrcError_keeps link)
  | .lockedRead t => run_keeps (doLockedRead_keeps t)
  | .identify pec => run_keeps (doIdentify_keeps pec)
  | .health pec => run_keeps (doHealth_keeps pec)
  | .alertStatus pec => run_keeps (doAlertStatus_keeps pec)
  | .mgmtModeRequest pec mode => run_keeps (doMgmtModeRequest_keeps pec mode)
  | .mgmtRecRead pec cls index offset length => run_keeps (doMgmtRecRead_keeps pec cls index offset length)
  | .attestChallenge pec challenge => run_keeps (doAttestChallenge_keeps pec challenge)
  | .attestResponse pec => run_keeps (doAttestResponse_keeps pec)
  | .hostWake link => run_keeps (doHostWake_keeps link)
  | .wake ticks => run_keeps (doWake_keeps ticks)
  | .idleHoldExpiry d => run_keeps (doIdleHoldExpiry_keeps d)
  | .regRead m addr size => run_keeps (doRegRead_keeps m addr size)
  | .channelFilled m => run_keeps (doChannelFilled_keeps m)
  | .delayReq n => run_unlessStopped_keeps (doDelayReq_keeps n)
  | .avsRequest mv ack => run_keeps (doAvsRequest_keeps mv ack)
  | .timeWake => run_keeps doTimeWake_keeps
  | .belayGrant => run_keeps doBelayGrant_keeps

theorem State.withPending_canonical (s : State) (l : List Instr) : (s.withPending l).canonical = s.canonical := rfl

theorem idle_canonical (s : State) : (idle s).canonical = s.canonical := by
  unfold idle
  split <;> rfl

/-- Settles O3: an idle step moves no table and no memory, and every command keeps their form. -/
theorem canonicalKept : Obligations.CanonicalKept := by
  intro s hcanon
  unfold step
  cases s.pending with
  | nil => exact ⟨idle s, rfl, (idle_canonical s).trans hcanon⟩
  | cons c rest =>
    obtain ⟨t, hexec, hkeeps⟩ := exec_keeps c (s.withPending rest)
    exact ⟨t, hexec, hkeeps.canon ((s.withPending_canonical rest).trans hcanon)⟩

end Sys2Proof.Machine
end

section
/-! What bringing the engines into line can move (R255, R263, R303, R341, R401, R455): the registers, the sets and what is shown, the engines, the store's charges, the requests for power
and what hosts are told. The live context stays, and so does everything else. -/

namespace Sys2Proof.Machine

open Sys2Proof

/-- Two states differ at most where `enginesRefresh` may act. -/
def EnginesMove (s t : State) : Prop :=
  t = { s with out := t.out, draws := t.draws, regs := t.regs, spl := t.spl, eng := t.eng, store := t.store, pwr := t.pwr, host := t.host }

namespace EnginesMove

theorem refl (s : State) : EnginesMove s s := rfl

theorem trans {s t u : State} (h : EnginesMove s t) (g : EnginesMove t u) : EnginesMove s u := by
  unfold EnginesMove at h g ⊢
  rw [g, h]

theorem live {s t : State} (h : EnginesMove s t) : t.live = s.live := by
  unfold EnginesMove at h
  rw [h]

theorem ofReports {l : List Nat} {s t : State} (h : Reports l s t) : EnginesMove s t := by
  obtain ⟨h, -⟩ := h
  unfold EnginesMove
  rw [h]

theorem ite {s t u : State} {c : Prop} [Decidable c] (h : EnginesMove s t) (g : EnginesMove s u) : EnginesMove s (if c then t else u) := by
  split
  · exact h
  · exact g

theorem ite_fst {α : Type} {s : State} {p q : State × α} {c : Prop} [Decidable c] (h : EnginesMove s p.1) (g : EnginesMove s q.1) :
    EnginesMove s (if c then p else q).1 := by
  split
  · exact h
  · exact g

theorem foldl {α : Type} {f : State → α → State} (hf : ∀ s x, EnginesMove s (f s x)) (l : List α) (s : State) : EnginesMove s (l.foldl f s) := by
  induction l generalizing s with
  | nil => exact refl s
  | cons x l ih => exact (hf s x).trans (ih _)

theorem foldl_fst {α β : Type} {f : State × β → α → State × β} (hf : ∀ q x, EnginesMove q.1 (f q x).1) (l : List α) (q : State × β) :
    EnginesMove q.1 (l.foldl f q).1 := by
  induction l generalizing q with
  | nil => exact refl _
  | cons x l ih => exact (hf q x).trans (ih _)

theorem setReg (a : Nat) (v : Word) (s : State) : EnginesMove s (s.setReg a v) := rfl
theorem setF (a hi lo v : Nat) (s : State) : EnginesMove s (s.setF a hi lo v) := rfl
theorem setBit (a b : Nat) (v : Bool) (s : State) : EnginesMove s (s.setBit a b v) := rfl
theorem bump (a n : Nat) (s : State) : EnginesMove s (s.bump a n) := rfl

theorem setStore (v : StoreState) (s : State) : EnginesMove s { s with store := v } := rfl
theorem setEng (v : EngineState) (s : State) : EnginesMove s { s with eng := v } := rfl
theorem setSpl (v : SpliceState) (s : State) : EnginesMove s { s with spl := v } := rfl
theorem setPwr (p : PowerState) (s : State) : EnginesMove s (setPwr p s) := rfl

theorem raiseEn (owner : Option Nat) (obj ev en b : Nat) (s : State) : EnginesMove s (raiseEn owner obj ev en b s) := ofReports (raiseEn_reports _ _ _ _ _ _)

/-! Charges and holds -/

theorem recharge (c new : Nat) (s : State) : EnginesMove s (recharge c new s).1 := by
  unfold Machine.recharge
  refine ite_fst (setStore _ s) ?_
  split
  · exact refl s
  · exact ite_fst (setStore _ s) (bump _ _ s)

theorem rechargeHold (v : View) (eo : Nat) (s : State) : EnginesMove s (rechargeHold v eo s).1 :=
  ite_fst (refl s) (ite_fst ((recharge _ _ s).trans (setStore _ _)) (recharge _ _ s))

theorem keepLayer (cp l bytes : Nat) (s : State) : EnginesMove s (keepLayer cp l bytes s) := by
  unfold Machine.keepLayer
  split
  · exact setStore _ s
  · exact refl s

theorem keepLayers (v : View) (cp : Nat) (ok : Bool) (s : State) : EnginesMove s (keepLayers v cp ok s).1 := by
  refine foldl_fst (fun q l => ?_) _ (s, true)
  dsimp only
  split
  · exact refl _
  · exact ite_fst (setStore _ _) (refl _)

theorem wakeUsed (s : State) : EnginesMove s (wakeUsed s) := foldl (fun s _ => ite (refl s) (setPwr _ s)) _ s

/-! Change sets that end -/

theorem refreshGroup (t g : Nat) (s : State) : EnginesMove s (refreshGroup t g s) := by
  refine ite (refl s) ?_
  split <;> exact setReg _ _ s

theorem holdCtx (e v holder : Nat) (s : State) : EnginesMove s (holdCtx e v holder s) := ((setF _ _ _ _ s).trans (setBit _ _ _ _)).trans (setF _ _ _ _ _)

theorem passEngine (e : Nat) (s : State) : EnginesMove s (passEngine e s) := by
  have hclean : EnginesMove s (setCtx e 0 s) := setReg _ _ s
  unfold Machine.passEngine
  split
  · exact hclean.trans (holdCtx _ _ _ _)
  · exact hclean

theorem reloadShadow (e : Nat) (s : State) : EnginesMove s (reloadShadow e s) := foldl (fun s _ => setReg _ _ s) _ s

theorem releaseReserve (t : Nat) (r : Option (Nat × Nat)) (s : State) : EnginesMove s (releaseReserve t r s) := by
  unfold Machine.releaseReserve
  split
  · exact refl s
  · exact (setBit _ _ _ s).trans (setStore _ _)

theorem setDestState (d v : Nat) (s : State) : EnginesMove s (setDestState d v s) := setF _ _ _ _ s
theorem setResult (d : Nat) (st : Status) (s : State) : EnginesMove s (setResult d st s) := setF _ _ _ _ s

theorem rollArm (owner : Nat) (st : Status) (a : Arm) (s : State) : EnginesMove s (rollArm owner st a s) :=
  ite (refl s) ((((((releaseReserve owner a.reserve s).trans (setDestState _ _ _)).trans (setResult _ _ _)).trans (setF _ _ _ _ _)).trans (bump _ _ _)).trans
    (raiseEn _ _ _ _ _ _))

theorem dropOp (op : PendOp) (s : State) : EnginesMove s (dropOp op s) := by
  unfold Machine.dropOp
  split
  · exact setReg _ _ s
  · exact refl s

theorem rollback (c : ChangeSet) (reason : Nat) (st : Status) (obj : Nat) (s : State) : EnginesMove s (rollback c reason st obj s) := by
  unfold Machine.rollback
  extract_lets dropped arms ops engines group reported counted
  have hdropped : EnginesMove s dropped := (setSpl _ s).trans (setPwr _ _)
  have harms : EnginesMove dropped arms := foldl (fun s a => rollArm _ _ a s) _ _
  have hops : EnginesMove arms ops := foldl (fun s op => dropOp op s) _ _
  have hengines : EnginesMove ops engines := foldl (fun s e => ite (refl s) ((reloadShadow e s).trans (passEngine e _))) _ _
  have hgroup : EnginesMove engines group := refreshGroup _ _ _
  have hcounted : EnginesMove group counted := (setReg _ _ group).trans (bump _ _ _)
  exact (((((hdropped.trans harms).trans hops).trans hengines).trans hgroup).trans hcounted).trans (ofReports (completeAll_reports _ _ _ _))

theorem endSets (p : ChangeSet → Bool) (reason : Nat) (obj : ChangeSet → Nat) (s : State) : EnginesMove s (endSets p reason obj s) :=
  foldl (fun s _ => ite (rollback _ _ _ _ s) (refl s)) _ s

/-! An input that is lost -/

theorem startLoss (eo : Nat) (why : LossWhy) (lost hold : Bool) (s : State) : EnginesMove s (startLoss eo why lost hold s) := by
  unfold Machine.startLoss
  extract_lets w counted h marked shown
  have hcounted : EnginesMove s counted := ite ((bump _ _ s).trans (raiseEn _ _ _ _ _ _)) (refl s)
  have hshown : EnginesMove counted shown := (setSpl _ counted).trans (setBit _ _ _ _)
  exact (hcounted.trans hshown).trans (ite (refl _) (raiseEn _ _ _ _ _ _))

theorem layerLate (cp l : Nat) (s : State) : EnginesMove s (layerLate cp l s) := by
  unfold Machine.layerLate
  extract_lets a first sh was counted raised shown
  have hcounted : EnginesMove s counted := (bump _ _ s).trans (setBit _ _ _ _)
  have hraised : EnginesMove counted raised := ite (raiseEn _ _ _ _ _ _) (refl _)
  have hshown : EnginesMove raised shown := setF _ _ _ _ raised
  exact ((hcounted.trans hraised).trans hshown).trans (ite (raiseEn _ _ _ _ _ _) (refl _))

theorem layerLost (cp l eo : Nat) (absent : Bool) (s : State) : EnginesMove s (layerLost cp l eo absent s) := by
  unfold Machine.layerLost
  extract_lets st marked raised
  have hmarked : EnginesMove s marked := setEng _ s
  have hraised : EnginesMove marked raised := ite ((raiseEn _ _ _ _ _ _).trans (raiseEn _ _ _ _ _ _)) (raiseEn _ _ _ _ _ _)
  exact (hmarked.trans hraised).trans (layerLate cp l raised)

theorem sheetLoss (n : Nat) (lost : Bool) (s : State) : EnginesMove s (sheetLoss n lost s) := by
  unfold Machine.sheetLoss
  extract_lets st marked raised hold
  have hmarked : EnginesMove s marked := setEng _ s
  have hraised : EnginesMove marked raised := ite (raiseEn _ _ _ _ _ _) (refl _)
  have hfilling : EnginesMove raised (setFilling n true raised) := foldl (fun s _ => setBit _ _ _ s) _ _
  exact (hmarked.trans hraised).trans (ite (refl _) (hfilling.trans (raiseEn _ _ _ _ _ _)))

theorem loseEi (k ei : Nat) (s : State) : EnginesMove s (loseEi k ei s) := by
  induction k generalizing ei s with
  | zero => exact refl s
  | succ k ih =>
    refine ite (refl s) (((setBit _ _ _ s).trans (endSets _ _ _ _)).trans (foldl (fun s eo => ?_) _ _))
    extract_lets absent
    refine EnginesMove.trans (t := absent) ((setBit _ _ _ s).trans (setBit _ _ _ _)) ?_
    clear_value absent
    split
    · exact refl _
    · refine ite (ite (startLoss _ _ _ _ _) (refl _)) ?_
      split
      case h_1 =>
        exact ite (setBit _ _ _ absent) (ite (ite ((setBit _ _ _ absent).trans (sheetLoss _ _ _)) (setBit _ _ _ absent))
          ((setBit _ _ _ absent).trans (foldl (fun s e => ih e s) _ _)))
      case h_2 => exact ite (layerLost _ _ _ _ _) (refl _)
      case h_3 => exact ite (((setBit _ _ _ absent).trans (setStore _ _)).trans (raiseEn _ _ _ _ _ _)) (setBit _ _ _ absent)
      case h_4 => exact refl _

theorem sheetUnfit (n : Nat) (st : Status) (s : State) : EnginesMove s (sheetUnfit n st s) := by
  unfold Machine.sheetUnfit
  extract_lets a marked raised
  have hmarked : EnginesMove s marked := foldl (fun s _ => setBit _ _ _ s) _ s
  have hraised : EnginesMove marked raised := (setF _ _ _ _ marked).trans (raiseEn _ _ _ _ _ _)
  exact (hmarked.trans hraised).trans (ite (sheetLoss _ _ _) (foldl (fun s e => loseEi _ e s) _ _))

theorem showTaps (n : Nat) (s : State) : EnginesMove s (showTaps n s) := by
  unfold Machine.showTaps
  split
  · exact refl s
  · exact (setF _ _ _ _ s).trans (ite (refl _) (raiseEn _ _ _ _ _ _))

/-! An input that fits again or comes back -/

theorem refit (eo : Nat) (s : State) : EnginesMove s (refit eo s) := by
  unfold Machine.refit
  split
  · exact refl s
  · dsimp only
    split
    case h_1 m _ =>
      split
      · exact refl s
      · have hsteps : ∀ h v : Word, EnginesMove s ((s.setReg (Reg.sbdStepEffH m) h).setReg (Reg.sbdStepEffV m) v) := fun h v => (setReg _ h s).trans (setReg _ v _)
        refine ite (hsteps _ _) ?_
        split
        · exact (hsteps _ _).trans (sheetUnfit _ _ _)
        · exact ((((hsteps _ _).trans (showTaps _ _)).trans (recharge _ _ _)).trans (setReg _ _ _)).trans
            (ite (foldl (fun s _ => setBit _ _ _ s) _ _) (sheetUnfit _ _ _))
    case h_2 =>
      refine ite (refl s) ?_
      split
      · exact ((setBit _ _ _ s).trans (setF _ _ _ _ _)).trans (raiseEn _ _ _ _ _ _)
      · exact ((((setBit _ _ _ s).trans (recharge _ _ _)).trans (keepLayers _ _ _ _)).trans (setReg _ _ _)).trans (ite (refl _) (setF _ _ _ _ _))
    case h_3 =>
      refine EnginesMove.trans ?_ (((recharge _ _ _).trans (setReg _ _ _)).trans (setBit _ _ _ _))
      split
      · exact setStore _ s
      · exact refl s
    case h_4 => exact ite ((rechargeHold _ _ s).trans (ite (refl _) (((setBit _ _ _ _).trans (setSpl _ _)).trans (setResult _ _ _)))) (refl s)

theorem gainEi (k ei : Nat) (s : State) : EnginesMove s (gainEi k ei s) := by
  induction k generalizing ei s with
  | zero => exact refl s
  | succ k ih =>
    refine ite (refl s) ((setBit _ _ _ s).trans (foldl (fun s eo => ?_) _ _))
    extract_lets present
    refine EnginesMove.trans (t := present) ((setBit _ _ _ s).trans (refit _ _)) ?_
    clear_value present
    split
    case h_1 => exact (setBit _ _ _ present).trans (ite (foldl (fun s e => ih e s) _ _) (refl _))
    case h_2 => exact (setBit _ _ _ present).trans (ite ((setStore _ _).trans (raiseEn _ _ _ _ _ _)) (refl _))
    case h_3 => exact refl _

theorem setPresent (ei : Nat) (p : Bool) (s : State) : EnginesMove s (setPresent ei p s) :=
  ite (ite (refl s) (gainEi _ _ s)) (loseEi _ _ s)

theorem refreshEngine (ei : Nat) (p : Producer) (s : State) : EnginesMove s (refreshEngine ei p s) := by
  unfold Machine.refreshEngine
  extract_lets shown
  have hshown : EnginesMove s shown := by
    unfold shown
    split
    case h_1 =>
      exact (((setBit _ _ _ s).trans (recharge _ _ _)).trans (ite (keepLayers _ _ _ _) (foldl (fun s _ => keepLayer _ _ _ s) _ _))).trans (setReg _ _ _)
    case h_2 => exact ((((recharge _ _ s).trans (setF _ _ _ _ _)).trans (setF _ _ _ _ _)).trans (setBit _ _ _ _)).trans (setReg _ _ _)
    case h_3 => exact (recharge _ _ s).trans (setReg _ _ _)
    case h_4 => exact refl s
  refine hshown.trans ?_
  clear_value shown
  split
  · exact refl _
  · refine EnginesMove.trans ?_ (setPresent _ _ _)
    split
    · exact setBit _ _ _ _
    · exact refl _

end EnginesMove

/-- Bringing the engines into line moves nothing else, and no live value (R255). -/
theorem enginesRefresh_moves (s : State) : EnginesMove s (enginesRefresh s) :=
  (EnginesMove.foldl (fun s _ => EnginesMove.refreshEngine _ _ s) _ s).trans (EnginesMove.wakeUsed _)

end Sys2Proof.Machine
end

section
/-! LAYER_SET of CMP_L_DIRTY for a compositor that does not run. The register is one of the values that the command stages, and it reads 0 after the commit that took it (R392); the
statement asks for what was written. -/

namespace Sys2Proof.Machine

open Sys2Proof

/-- Service, with compositor 0, of one layer, of tenancy 0; nothing runs. -/
def restingCompositor : State :=
  let s := (State.reset.setF Reg.sysMode 2 0 (modeCode .service)).setReg (Reg.cmpId 0) 0x1000
  { s with spl := { s.spl with owners := [(objCp 0, 0)] } }

/-- A command of tenancy 0, from its first queue. -/
def layerOrigin : Origin := ⟨0, 0, 1, false, 0, 0, false⟩

/-- The values of a layer, of which DIRTY is the last. -/
def dirtyLayer : List Word := List.replicate 13 0 ++ [1]

theorem selected_dirty : selected 0x2000 (layerRegs 0 0) dirtyLayer = [(Reg.cmpLDirty 0 0, 1)] := by decide

theorem restingCompositor_accepted : Accepted layerOrigin restingCompositor := by
  unfold Accepted
  decide

theorem restingCompositor_check :
    regFormCheck layerOrigin (restingCompositor.layerThere 0) (objCp 0) (objCp 0) true 0x2000 (layerRegs 0 0) (some dirtyLayer) none restingCompositor.begin = none := by decide

/-- DIRTY reads 0 in the live context after the command. -/
theorem exec_layerSet_dirty : ∃ t, exec (.layerSet layerOrigin 0 0x2000 (some dirtyLayer)) restingCompositor = .next t ∧ t.liveReg (Reg.cmpLDirty 0 0) = 0 :=
  ⟨_, rfl, by decide⟩

/-- Refutes O53: DIRTY of a layer, which reads 0 once it is committed, is not live as LAYER_SET wrote it, and what follows the commit moves no live value. -/
theorem not_stagedValues : ¬ Obligations.StagedValues := by
  intro h
  obtain ⟨hset, -⟩ := h restingCompositor rfl
  obtain ⟨-, -, hlayer, -⟩ := hset layerOrigin 0 0x2000 dirtyLayer restingCompositor_accepted
  obtain ⟨-, hidle⟩ := hlayer restingCompositor_check
  obtain ⟨u, hexec, hlive⟩ := hidle (by decide) (by decide) (by decide)
  obtain ⟨hdirty, -⟩ := hlive (Reg.cmpLDirty 0 0, 1) (selected_dirty ▸ List.mem_singleton_self _)
  obtain ⟨t, ht, hclear⟩ := exec_layerSet_dirty
  have htu : t = completeOk layerOrigin (enginesRefresh u) := Host.Outcome.next.inj (ht.symm.trans hexec)
  have hkept : t.live = u.live := by rw [htu, (completeOk_reports _ _).live, (enginesRefresh_moves u).live]
  have hzero : u.liveReg (Reg.cmpLDirty 0 0) = 0 := by rw [← hclear, State.liveReg, State.liveReg, hkept]
  exact absurd (hzero.symm.trans hdirty) (by decide)

end Sys2Proof.Machine
end

section
/-! Tables written word by word from their first word on (R320, R334, R353, R387): what a word reads after a load, and what else the load leaves. -/

namespace Sys2Proof.Machine

open Sys2Proof

/-- Where each step of a fold writes one numbered word, the word read at `j` after a whole list is the list's entry, or past its end what it was. -/
theorem foldl_zip_range_word {σ : Type} {f : σ → Nat × Nat → σ} {r : σ → Nat} {j : Nat} (hf : ∀ s p, r (f s p) = if j = p.1 then p.2 else r s)
    (ws : List Nat) (s : σ) : r (((List.range ws.length).zip ws).foldl f s) = ws.getD j (r s) := by
  induction ws using List.reverseRecOn with
  | nil => rfl
  | append_singleton ws x ih =>
    rw [List.length_append, List.length_singleton, List.range_succ, List.zip_append (List.length_range), List.foldl_append]
    simp only [List.zip_cons_cons, List.zip_nil_right, List.foldl_cons, List.foldl_nil, hf, ih]
    rcases lt_trichotomy j ws.length with h | h | h
    · rw [if_neg (by omega), List.getD_append _ _ _ _ h]
    · rw [if_pos h, h, List.getD_append_right _ _ _ _ (le_refl _), Nat.sub_self]; rfl
    · rw [if_neg (by omega), List.getD_eq_default _ _ (by omega), List.getD_eq_default _ _ (by simp; omega)]

theorem tabGet_tabPut_ne {α : Type} [DecidableEq α] (d : α) {k j : Nat} (h : j ≠ k) (v : α) (t : Tab α) : tabGet j (tabPut d k v t) = tabGet j t := by
  unfold tabPut
  split
  · rw [tabGet_tabDel, if_neg h]
  · rw [tabGet_tabSet, if_neg h]

/-! Tables of a sheet bend -/

theorem sbdTableSize_le (table : Nat) : sbdTableSize table ≤ 0x1000 := by
  unfold sbdTableSize
  split <;> omega

theorem setSbdWord_regs (n table word v : Nat) (s : State) : (setSbdWord n table word v s).regs = s.regs := by
  unfold setSbdWord
  split <;> rfl

theorem setSbdWord_parts (n table word v : Nat) (s : State) :
    setSbdWord n table word v s = { s with eng := { s.eng with sbTable := (setSbdWord n table word v s).eng.sbTable } } := by
  unfold setSbdWord
  split <;> rfl

/-- A word of a table after a write of one: past the table's end a write is lost. -/
theorem sbdWord_setSbdWord (n m table word v : Nat) {j : Nat} (hj : j < sbdTableSize table) (s : State) :
    (setSbdWord n table word v s).sbdWord m table j = if m = n ∧ j = word then v else s.sbdWord m table j := by
  have hsize := sbdTableSize_le table
  unfold setSbdWord
  split
  · next hword => rw [if_neg (by omega)]
  · next hword =>
    have hkey : sbdKey m table j = sbdKey n table word ↔ m = n ∧ j = word := by unfold sbdKey; omega
    simp only [State.sbdWord, tabGetD_tabPut, hkey]

theorem sbdWord_setSbdTable (n m table : Nat) (ws : List Nat) {j : Nat} (hj : j < sbdTableSize table) (s : State) :
    (setSbdTable n table ws s).sbdWord m table j = if m = n then ws.getD j (s.sbdWord m table j) else s.sbdWord m table j := by
  unfold setSbdTable
  split
  · next h =>
    subst h
    refine foldl_zip_range_word (r := fun s : State => s.sbdWord m table j) (fun s p => ?_) ws s
    simp only [sbdWord_setSbdWord m m table _ _ hj, true_and]
  · next h =>
    refine List.foldlRecOn (motive := fun t : State => t.sbdWord m table j = s.sbdWord m table j) _ _ rfl (fun t ht p _ => ?_)
    rw [sbdWord_setSbdWord n m table _ _ hj, if_neg (fun hp => h hp.1), ht]

theorem setSbdTable_parts (n table : Nat) (ws : List Nat) (s : State) :
    setSbdTable n table ws s = { s with eng := { s.eng with sbTable := (setSbdTable n table ws s).eng.sbTable } } := by
  refine List.foldlRecOn (motive := fun t : State => t = { s with eng := { s.eng with sbTable := t.eng.sbTable } }) _ _ rfl (fun t ht p _ => ?_)
  rw [setSbdWord_parts, ht]

/-- The same table loaded into each of several sheet bends (R330). -/
def loadSheets (ns : List Nat) (table : Nat) (ws : List Nat) (s : State) : State := ns.foldl (fun u k => setSbdTable k table ws u) s

theorem loadSheets_singleton (n table : Nat) (ws : List Nat) (s : State) : loadSheets [n] table ws s = setSbdTable n table ws s := rfl

theorem loadSheets_parts (ns : List Nat) (table : Nat) (ws : List Nat) (s : State) :
    loadSheets ns table ws s = { s with eng := { s.eng with sbTable := (loadSheets ns table ws s).eng.sbTable } } := by
  refine List.foldlRecOn (motive := fun t : State => t = { s with eng := { s.eng with sbTable := t.eng.sbTable } }) _ _ rfl (fun t ht k _ => ?_)
  rw [setSbdTable_parts, ht]

theorem sbdWord_loadSheets (ns : List Nat) (m table : Nat) (ws : List Nat) {j : Nat} (hj : j < sbdTableSize table) (s : State) :
    (loadSheets ns table ws s).sbdWord m table j = if m ∈ ns then ws.getD j (s.sbdWord m table j) else s.sbdWord m table j := by
  have hagain : ∀ d, ws.getD j (ws.getD j d) = ws.getD j d := fun d => by simp only [List.getD_eq_getElem?_getD]; cases ws[j]? <;> rfl
  induction ns generalizing s with
  | nil => rfl
  | cons n ns ih =>
    show (loadSheets ns table ws (setSbdTable n table ws s)).sbdWord m table j = _
    rw [ih, sbdWord_setSbdTable n m table ws hj]
    rcases eq_or_ne m n with rfl | hm
    · simp only [List.mem_cons, true_or, if_true, hagain, ite_self]
    · simp only [List.mem_cons, hm, false_or, if_false]

/-! Banks of a compositor -/

theorem setCpWord_regs (cp bank word v : Nat) (s : State) : (setCpWord cp bank word v s).regs = s.regs := by
  unfold setCpWord
  split <;> rfl

theorem setCpWord_parts (cp bank word v : Nat) (s : State) :
    setCpWord cp bank word v s = { s with eng := { s.eng with cpTable := (setCpWord cp bank word v s).eng.cpTable } } := by
  unfold setCpWord
  split <;> rfl

/-- A word of a bank after a write of one: past the bank's end a write is lost. -/
theorem cpWord_setCpWord (cp bank word v : Nat) {j : Nat} (hj : j < 320) (s : State) :
    (setCpWord cp bank word v s).cpWord cp bank j = if j = word then v else s.cpWord cp bank j := by
  unfold setCpWord
  split
  · next hword => rw [if_neg (by omega)]
  · next hword =>
    by_cases h : j = word
    · subst h
      simp only [State.cpWord, tabGetD_tabPut, if_true]
    · have hkey : cpKey cp bank j ≠ cpKey cp bank word := by unfold cpKey; omega
      rw [if_neg h]
      exact congrArg (fun x : Option Nat => x.getD (cpLinear j)) (tabGet_tabPut_ne _ hkey _ _)

theorem cpWord_setCpBank (cp bank : Nat) (ws : List Nat) {j : Nat} (hj : j < 320) (s : State) :
    (setCpBank cp bank ws s).cpWord cp bank j = ws.getD j (s.cpWord cp bank j) :=
  foldl_zip_range_word (r := fun s : State => s.cpWord cp bank j) (fun s _ => cpWord_setCpWord cp bank _ _ hj s) ws s

theorem setCpBank_parts (cp bank : Nat) (ws : List Nat) (s : State) :
    setCpBank cp bank ws s = { s with eng := { s.eng with cpTable := (setCpBank cp bank ws s).eng.cpTable } } := by
  refine List.foldlRecOn (motive := fun t : State => t = { s with eng := { s.eng with cpTable := t.eng.cpTable } }) _ _ rfl (fun t ht p _ => ?_)
  rw [setCpWord_parts, ht]

end Sys2Proof.Machine
end

section
/-! The registers through which tables and flips are written by name (R334, R389, R392): where they lie, and what their counts and addresses do. -/

namespace Sys2Proof.Machine

open Sys2Proof

/-! Windows -/

theorem findRegion_sbd {n off : Nat} (hn : n < 96) (hoff : off < 0x800) :
    findRegion (0x1C0000 + 0x800 * n + off) regions = some (.sbd, n, 0, off) := by
  have hin : inRegion (0x1C0000 + 0x800 * n + off) ⟨.sbd, 0x1C0000, 0x800, 96, 0x0, 1, 0x800⟩ = some (n, 0, off) := by
    have hbase : ¬ 0x1C0000 + 0x800 * n + off < 0x1C0000 := by omega
    have hwindow : (0x1C0000 + 0x800 * n + off - 0x1C0000) / 0x800 = n := by omega
    have hrest : 0x1C0000 + 0x800 * n + off - 0x1C0000 - n * 0x800 = off := by omega
    simp [inRegion, hbase, hwindow, hrest, hn, hoff]
  simp only [findRegion, regions, List.cons_append, List.nil_append]
  rw [hin]
  repeat rw [inRegion_none (by dsimp only; omega)]

theorem locate_sbd {n off : Nat} (hn : n < 96) (hoff : off < 0x800) (hrow : (findRow off (rowsOf .sbd)).isSome = true) :
    (locate (0x1C0000 + 0x800 * n + off)).isSome = true := by
  obtain ⟨⟨row, k⟩, hrow⟩ := Option.isSome_iff_exists.mp hrow
  simp [locate, findRegion_sbd hn hoff, hrow]

theorem locate_cmpTblData : ∀ n, n < 32 → (locate (Reg.cmpTblData n)).isSome = true := by decide

/-- The windows of the layers come first, inside those of their compositors. -/
theorem findRegion_layer {n i off : Nat} (hn : n < 32) (hi : i < 8) (hoff : off < 0x100) :
    findRegion (0x200400 + 0x8000 * n + 0x100 * i + off) regions = some (.layer, n, i, off) := by
  have hin : inRegion (0x200400 + 0x8000 * n + 0x100 * i + off) ⟨.layer, 0x200400, 0x8000, 32, 0x100, 8, 0x100⟩ = some (n, i, off) := by
    have hbase : ¬ 0x200400 + 0x8000 * n + 0x100 * i + off < 0x200400 := by omega
    have hwindow : (0x200400 + 0x8000 * n + 0x100 * i + off - 0x200400) / 0x8000 = n := by omega
    have hlayer : (0x200400 + 0x8000 * n + 0x100 * i + off - 0x200400 - n * 0x8000) / 0x100 = i := by omega
    have hrest : 0x200400 + 0x8000 * n + 0x100 * i + off - 0x200400 - n * 0x8000 - i * 0x100 = off := by omega
    simp [inRegion, hbase, hwindow, hlayer, hrest, hn, hi, hoff]
  simp only [findRegion, regions, List.cons_append, hin]

theorem locate_cmpLFlip {n : Nat} (hn : n < 256) : (locate (Reg.cmpLFlip (n / 8) (n % 8))).isSome = true := by
  have hrow : findRow 0x38 (rowsOf .layer) = some (_, _) := rfl
  have hregion := findRegion_layer (show n / 8 < 32 by omega) (Nat.mod_lt n (show 0 < 8 by decide)) (show 0x38 < 0x100 by decide)
  simp [locate, Reg.cmpLFlip, hregion, hrow]

/-- Beside registers, a command that emits changes nothing but what it emits. -/
theorem Writes.emitted {p : Nat → Prop} {s t : State} {x : Output} (h : Writes p (s.begin.emit x) t) : t = { s with out := t.out, regs := t.regs } := by
  obtain ⟨hparts, -⟩ := h
  rw [hparts]
  rfl

/-! A write that a table in use ignores (R329, R354) -/

/-- A write that moves nothing but its count, which stays at its limit, and the registers listed. -/
def CountsIgnored (cnt : Nat) (moved : List Nat) (s : State) (r : Result) : Prop :=
  ∃ t, r = .next t ∧ t = { s with out := [], regs := t.regs } ∧ t.reg cnt = wd (min 0xFFFFFFFF ((s.reg cnt).toNat + 1)) ∧ ∀ b, b ≠ cnt → b ∉ moved → t.reg b = s.reg b

theorem countsIgnored_bump (cnt : Nat) (s : State) : CountsIgnored cnt [] s (.next (s.begin.bump cnt 1)) :=
  ⟨_, rfl, rfl, (State.reg_bump s.begin cnt 1 cnt).trans (if_pos rfl), fun _ hb _ => State.reg_setReg_ne s.begin hb _⟩

theorem countsIgnored_bump_setF {cnt a : Nat} (h : cnt ≠ a) (hi lo v : Nat) (s : State) :
    CountsIgnored cnt [a] s (.next ((s.begin.bump cnt 1).setF a hi lo v)) := by
  obtain ⟨t, ht, hparts, hcnt, hregs⟩ := countsIgnored_bump cnt s
  obtain rfl := Host.Outcome.next.inj ht
  exact ⟨_, rfl, rfl, (State.reg_setReg_ne _ h _).trans hcnt, fun b hb hm => (State.reg_setReg_ne _ (by simpa using hm) _).trans (hregs b hb (by simp))⟩

end Sys2Proof.Machine
end

section
/-! SBD_TABLE_LOAD, SBD_TBL_LOAD and SBD_TBL_DATA (R328, R329, R330, R334). -/

namespace Sys2Proof.Machine

open Sys2Proof

/-- Each sheet bend listed holds the words in a table; what a list does not reach stays, and so does all but the tables and the count of free values. -/
def SheetsLoaded (s : State) (ns : List Nat) (table : Nat) (ws : List Nat) (t : State) : Prop :=
  (t = { s with out := [], regs := t.regs, draws := t.draws, eng := { s.eng with sbTable := t.eng.sbTable } } ∧
    ∀ n ∈ ns, ∀ k, k < sbdTableSize table → t.sbdWord n table k = ws.getD k (s.sbdWord n table k)) ∧ t.regs = s.regs

theorem sheetsLoaded_draw (ns : List Nat) (table : Nat) (ws : List Nat) (s : State) : SheetsLoaded s ns table ws (loadSheets ns table ws s.begin).draw := by
  have hparts := loadSheets_parts ns table ws s.begin
  refine ⟨⟨?_, fun n hn k hk => ?_⟩, ?_⟩
  · rw [hparts]; rfl
  · exact (sbdWord_loadSheets ns n table ws hk s.begin).trans (if_pos hn)
  · rw [hparts]; rfl

theorem exec_sbdTableLoad {s : State} {o : Origin} (hacc : Accepted o s) {n table source : Nat} {words : Option (List Word)}
    (hcheck : sbdTableCheck o n table source words s.begin = none) :
    ∃ t, exec (.sbdTableLoad o n table source words) s = .next (completeOk o t) ∧ SheetsLoaded s (s.gangOf n) table (loadWords s.draws table source words) t :=
  ⟨_, congrArg Host.Outcome.next (loneCommand_accepted hacc .working hcheck _), sheetsLoaded_draw _ _ _ s⟩

/-! The registers -/

theorem exec_sbdTblLoad {s : State} {m : Master} {n : Nat} (hn : n < 96) (hmay : MayWrite m (Reg.sbdTblLoad n) s) (v : Word) :
    exec (.sbdTblLoad m n v) s = .next (tblLoadWrite n v s.begin) :=
  congrArg Host.Outcome.next (gatedWrite_of_mayWrite (locate_sbd hn (by decide) (by decide)) hmay (tblLoadWrite n v))

theorem exec_sbdTblData_write {s : State} {m : Master} {n : Nat} (hn : n < 96) (hmay : MayWrite m (Reg.sbdTblData n) s) (v : Word) :
    exec (.sbdTblData m n (some v)) s = .next (tblDataWrite n v s.begin) :=
  congrArg Host.Outcome.next (gatedWrite_of_mayWrite (locate_sbd hn (by decide) (by decide)) hmay (tblDataWrite n v))

theorem exec_sbdTblData_read {s : State} {m : Master} {n : Nat} (hn : n < 96) (hmay : MayRead m (Reg.sbdTblData n) s) :
    exec (.sbdTblData m n none) s = .next (tblDataRead n s.begin) :=
  congrArg Host.Outcome.next (gatedRead_of_mayRead (locate_sbd hn (by decide) (by decide)) hmay (tblDataRead n))

theorem tblLoadWrite_free {n : Nat} {v : Word} {s : State} (hlut : 4 ≤ fld v 2 0) (hcurve : fld v 7 4 ≤ 4) (hfree : s.sbdTableUsed n (fld v 2 0) = false) :
    tblLoadWrite n v s = (loadSheets [n] (fld v 2 0) (curveTable s.draws (fld v 2 0) (fld v 7 4)) s).draw := by
  unfold tblLoadWrite
  dsimp only
  rw [if_neg (by omega), if_neg (Bool.eq_false_iff.mp hfree), loadSheets_singleton]

theorem tblLoadWrite_used {n : Nat} {v : Word} {s : State} (hlut : 4 ≤ fld v 2 0) (hcurve : fld v 7 4 ≤ 4) (hused : s.sbdTableUsed n (fld v 2 0) = true) :
    tblLoadWrite n v s = s.bump (Reg.sbdTblIgnored n) 1 :=
  (if_neg (by omega)).trans (if_pos hused)

theorem tblDataWrite_free {n : Nat} {s : State} (hfree : s.sbdTableUsed n (s.f (Reg.sbdTblAddr n) 18 16) = false) (v : Word) :
    tblDataWrite n v s = sbdAdvance n (setSbdWord n (s.f (Reg.sbdTblAddr n) 18 16) (s.f (Reg.sbdTblAddr n) 11 0) (sbdEntry (s.f (Reg.sbdTblAddr n) 18 16) v) s) :=
  if_neg (Bool.eq_false_iff.mp hfree)

theorem tblDataWrite_used {n : Nat} {s : State} (hused : s.sbdTableUsed n (s.f (Reg.sbdTblAddr n) 18 16) = true) (v : Word) :
    tblDataWrite n v s = sbdAdvance n (s.bump (Reg.sbdTblIgnored n) 1) :=
  if_pos hused

theorem sbdAdvance_addr (n : Nat) (s : State) : (sbdAdvance n s).f (Reg.sbdTblAddr n) 11 0 = (s.f (Reg.sbdTblAddr n) 11 0 + 1) % 4096 :=
  State.f_setF s _ _ (by decide) (by decide)

theorem sbdAdvance_sbdWord (n m table j : Nat) (s : State) : (sbdAdvance n s).sbdWord m table j = s.sbdWord m table j := by
  unfold State.sbdWord sbdAdvance
  rw [State.setF_eng]

theorem sbdAdvance_writes (n : Nat) (s : State) : Writes (fun a => a = Reg.sbdTblAddr n) s (sbdAdvance n s) :=
  Writes.setReg (p := fun a => a = Reg.sbdTblAddr n) rfl _ _

theorem sbdAdvance_reg (n : Nat) (s : State) {b : Nat} (hb : b ≠ Reg.sbdTblAddr n) : (sbdAdvance n s).reg b = s.reg b := (sbdAdvance_writes n s).2 b hb

/-- A word written through SBD_TBL_DATA stands at the address, which advances. -/
theorem sbdAdvance_setSbdWord (n : Nat) {table : Nat} (v : Nat) (s : State) (hk : s.f (Reg.sbdTblAddr n) 11 0 < sbdTableSize table) :
    let k := s.f (Reg.sbdTblAddr n) 11 0
    let t := sbdAdvance n (setSbdWord n table k v s.begin)
    t.sbdWord n table k = v ∧ (∀ j, j < sbdTableSize table → j ≠ k → t.sbdWord n table j = s.sbdWord n table j) ∧
      t.f (Reg.sbdTblAddr n) 11 0 = (k + 1) % 4096 ∧ ∀ b, b ≠ Reg.sbdTblAddr n → t.reg b = s.reg b := by
  intro k t
  have hregs := reg_of_regs (setSbdWord_regs n table k v s.begin)
  refine ⟨?_, fun j hj hne => ?_, ?_, fun b hb => (sbdAdvance_reg n _ hb).trans (hregs b)⟩
  · rw [sbdAdvance_sbdWord, sbdWord_setSbdWord n n table k v hk, if_pos ⟨rfl, rfl⟩]
  · rw [sbdAdvance_sbdWord, sbdWord_setSbdWord n n table k v hj, if_neg (fun h => hne h.2)]; rfl
  · rw [sbdAdvance_addr, State.f_of_reg (hregs _)]; rfl

end Sys2Proof.Machine
end

section
/-! COMP_TABLE_LOAD and CMP_TBL_DATA (R354, R387, R389). -/

namespace Sys2Proof.Machine

open Sys2Proof

theorem exec_compTableLoad {s : State} {o : Origin} (hacc : Accepted o s) {n bank : Nat} {ws : List Word}
    (hcheck : compTableCheck o n bank (some ws) s.begin = none) :
    exec (.compTableLoad o n bank (some ws)) s =
      .next (completeOk o (setCpBank n bank ((ws.take 320).map (fun w => (w &&& wd 0x0FFF0FFF).toNat)) s.begin)) :=
  congrArg Host.Outcome.next (loneCommand_accepted hacc .working hcheck _)

theorem exec_cmpTblData_write {s : State} {m : Master} {n : Nat} (hn : n < 32) (hmay : MayWrite m (Reg.cmpTblData n) s) (v : Word) :
    exec (.cmpTblData m n (some v)) s = .next (cpDataWrite n v s.begin) :=
  congrArg Host.Outcome.next (gatedWrite_of_mayWrite (locate_cmpTblData n hn) hmay (cpDataWrite n v))

theorem exec_cmpTblData_read {s : State} {m : Master} {n : Nat} (hn : n < 32) (hmay : MayRead m (Reg.cmpTblData n) s) :
    exec (.cmpTblData m n none) s = .next (cpDataRead n s.begin) :=
  congrArg Host.Outcome.next (gatedRead_of_mayRead (locate_cmpTblData n hn) hmay (cpDataRead n))

theorem cpDataWrite_free {n : Nat} {s : State} (hfree : s.bankUsed n (s.f (Reg.cmpTblAddr n) 17 16) = false) (v : Word) :
    cpDataWrite n v s = cpAdvance n (setCpWord n (s.f (Reg.cmpTblAddr n) 17 16) (s.f (Reg.cmpTblAddr n) 8 0) (v &&& wd 0x0FFF0FFF).toNat s) :=
  if_neg (Bool.eq_false_iff.mp hfree)

theorem cpDataWrite_used {n : Nat} {s : State} (hused : s.bankUsed n (s.f (Reg.cmpTblAddr n) 17 16) = true) (v : Word) :
    cpDataWrite n v s = cpAdvance n (s.bump (Reg.cmpTblIgnored n) 1) :=
  if_pos hused

theorem cpAdvance_addr (n : Nat) (s : State) : (cpAdvance n s).f (Reg.cmpTblAddr n) 8 0 = (s.f (Reg.cmpTblAddr n) 8 0 + 1) % 512 :=
  State.f_setF s _ _ (by decide) (by decide)

theorem cpAdvance_cpWord (n m bank j : Nat) (s : State) : (cpAdvance n s).cpWord m bank j = s.cpWord m bank j := by
  unfold State.cpWord cpAdvance
  rw [State.setF_eng]

theorem cpAdvance_reg (n : Nat) (s : State) {b : Nat} (hb : b ≠ Reg.cmpTblAddr n) : (cpAdvance n s).reg b = s.reg b := State.reg_setReg_ne s hb _

/-- A word written through CMP_TBL_DATA stands at the address, which advances. -/
theorem cpAdvance_setCpWord (n bank v : Nat) (s : State) (hk : s.f (Reg.cmpTblAddr n) 8 0 < 320) :
    let k := s.f (Reg.cmpTblAddr n) 8 0
    let t := cpAdvance n (setCpWord n bank k v s.begin)
    t.cpWord n bank k = v ∧ (∀ j, j < 320 → j ≠ k → t.cpWord n bank j = s.cpWord n bank j) ∧
      t.f (Reg.cmpTblAddr n) 8 0 = (k + 1) % 512 ∧ ∀ b, b ≠ Reg.cmpTblAddr n → t.reg b = s.reg b := by
  intro k t
  have hregs := reg_of_regs (setCpWord_regs n bank k v s.begin)
  refine ⟨?_, fun j hj hne => ?_, ?_, fun b hb => (cpAdvance_reg n _ hb).trans (hregs b)⟩
  · rw [cpAdvance_cpWord, cpWord_setCpWord n bank k v hk, if_pos rfl]
  · rw [cpAdvance_cpWord, cpWord_setCpWord n bank k v hj, if_neg hne]; rfl
  · rw [cpAdvance_addr, State.f_of_reg (hregs _)]; rfl

end Sys2Proof.Machine
end

section
/-! REGISTER_BUFFER, RELEASE_BUFFER and the two forms of a flip (R370, R372, R373, R392). -/

namespace Sys2Proof.Machine

open Sys2Proof

/-! Handles -/

/-- The free handle that REGISTER_BUFFER returns. -/
def State.drawnHandle (s : State) : Nat := s.freeHandles.getD (Config.freeNat s.draws % s.freeHandles.length) 0

theorem mem_freeHandles {s : State} {h : Nat} : h ∈ s.freeHandles ↔ h < 4096 ∧ tabGet h s.eng.handles = none := by
  simp [State.freeHandles]

theorem drawnHandle_mem {s : State} (h : s.freeHandles.isEmpty = false) : s.drawnHandle ∈ s.freeHandles := by
  have hpos : 0 < s.freeHandles.length := List.length_pos_iff.mpr (by simpa using h)
  have hlt := Nat.mod_lt (Config.freeNat s.draws) hpos
  unfold State.drawnHandle
  rw [List.getD_eq_getElem _ _ hlt]
  exact List.getElem_mem hlt

theorem registerCheck_freeHandles {o : Origin} {offset format width height pitch colour range : Nat} {s : State}
    (h : registerCheck o offset format width height pitch colour range s = none) : s.freeHandles.isEmpty = false := by
  have hneed := need_none (firstRefusal_none h (need (!s.freeHandles.isEmpty) .noResource 0) (by simp))
  simpa using hneed

theorem exec_registerBuffer {s : State} {o : Origin} (hacc : Accepted o s) {offset format width height pitch colour range : Nat}
    (hcheck : registerCheck o offset format width height pitch colour range s.begin = none) :
    exec (.registerBuffer o offset format width height pitch colour range) s =
      .next (completeWith o 0 0 s.drawnHandle false
        (setHandles (tabSet s.drawnHandle ⟨o.tenancy, offset, format, width, height, pitch, colour, range⟩ s.eng.handles) s.begin.draw)) :=
  congrArg Host.Outcome.next (loneCommand_accepted hacc .working hcheck _)

theorem exec_releaseBuffer {s : State} {o : Origin} (hacc : Accepted o s) {h : Nat} (hcheck : releaseCheck o h s.begin = none) :
    exec (.releaseBuffer o h) s = .next (completeOk o (setHandles (tabDel h s.eng.handles) s.begin)) :=
  congrArg Host.Outcome.next (loneCommand_accepted hacc .working hcheck _)

/-! Flips -/

theorem abortFlip_none {n : Nat} {s : State} (h : tabGet n s.eng.flips = none) : abortFlip n s = s := by
  unfold abortFlip
  rw [h]

theorem setPend_writes (cp l : Nat) (h : Option Nat) (s : State) : Writes (fun a => a = Reg.cmpLCur cp l) s (setPend cp l h s) := by
  have hset : ∀ v u, Writes (fun a => a = Reg.cmpLCur cp l) u (u.setReg (Reg.cmpLCur cp l) v) :=
    Writes.setReg (p := fun a => a = Reg.cmpLCur cp l) rfl
  cases h <;> exact (hset _ _).trans (hset _ _)

theorem setPend_pendHandle (cp l : Nat) {h : Nat} (hh : h < 4096) (s : State) : (setPend cp l (some h) s).pendHandle cp l = some h := by
  have hvalid : (setPend cp l (some h) s).bit (Reg.cmpLCur cp l) 28 = true := State.bit_setBit_same _ _ _ (by decide)
  have hfield : (setPend cp l (some h) s).f (Reg.cmpLCur cp l) 27 16 = h :=
    (State.f_setF_other _ _ _ _ (by decide) (by decide) (by decide)).trans ((State.f_setF _ _ _ (by decide) (by decide)).trans (Nat.mod_eq_of_lt hh))
  unfold State.pendHandle
  rw [if_pos hvalid, hfield]

theorem setPend_curHandle (cp l h : Nat) (s : State) : (setPend cp l (some h) s).curHandle cp l = s.curHandle cp l := by
  have hvalid : (setPend cp l (some h) s).bit (Reg.cmpLCur cp l) 12 = s.bit (Reg.cmpLCur cp l) 12 :=
    (State.bit_setBit_other _ _ _ _ (by decide) (by decide)).trans (State.bit_setF_other _ _ _ _ (by decide) (by decide) (by decide))
  have hfield : (setPend cp l (some h) s).f (Reg.cmpLCur cp l) 11 0 = s.f (Reg.cmpLCur cp l) 11 0 :=
    (State.f_setF_other _ _ _ _ (by decide) (by decide) (by decide)).trans (State.f_setF_other _ _ _ _ (by decide) (by decide) (by decide))
  unfold State.curHandle
  rw [hvalid, hfield]

/-- Beside registers, replacing the pending flips leaves all else. -/
theorem Writes.flipsReplaced {p : Nat → Prop} {s t : State} {flips : Tab Flip} (h : Writes p (setFlips flips s.begin) t) :
    t = { s with out := [], regs := t.regs, eng := { s.eng with flips := t.eng.flips } } ∧ t.eng.flips = flips := by
  obtain ⟨hparts, -⟩ := h
  constructor <;> (rw [hparts]; rfl)

/-- A flip of layer `n` waits: its handle is the layer's pending one, and nothing else moved. -/
def FlipPends (s : State) (n : Nat) (f : Flip) (r : Result) : Prop :=
  ∃ t, r = .next t ∧ t = { s with out := [], regs := t.regs, eng := { s.eng with flips := t.eng.flips } } ∧
    tabGet n t.eng.flips = some f ∧ t.pendHandle (n / 8) (n % 8) = some f.handle ∧ t.curHandle (n / 8) (n % 8) = s.curHandle (n / 8) (n % 8) ∧
    ∀ a, a ≠ Reg.cmpLCur (n / 8) (n % 8) → t.reg a = s.reg a

theorem flipPends_setPending {s : State} {n h : Nat} (hh : h < 4096) (hnone : tabGet n s.eng.flips = none) (fence : Nat) (value : DWord) (target : Nat)
    (o : Option Origin) : FlipPends s n ⟨h, fence, value, target, o, false⟩ (.next (setPending n h fence value target o s.begin)) := by
  let u := setFlips (tabSet n ⟨h, fence, value, target, o, false⟩ s.eng.flips) s.begin
  have hset : setPending n h fence value target o s.begin = setPend (n / 8) (n % 8) (some h) u := by
    unfold setPending
    rw [abortFlip_none (s := s.begin) hnone]
    rfl
  have hwrites := setPend_writes (n / 8) (n % 8) (some h) u
  obtain ⟨hparts, hflips⟩ := hwrites.flipsReplaced
  refine ⟨_, congrArg _ hset, hparts, ?_, setPend_pendHandle _ _ hh u, setPend_curHandle _ _ h u, hwrites.2⟩
  rw [hflips, tabGet_tabSet, if_pos rfl]

theorem flipWrite_accepted {s : State} {t n : Nat} {v : Word} (hthere : s.layerThere n = true) (hcheck : flipCheck t n (fld v 11 0) 0xFFFF s = none) :
    flipWrite t n v s = setPending n (fld v 11 0) 0xFFFF 0 0 none s := by
  unfold flipWrite
  rw [hthere, hcheck]
  rfl

theorem exec_flip {s : State} {o : Origin} (hacc : Accepted o s) {n h fence : Nat} (hcheck : flipCheck o.tenancy n h fence s.begin = none) (value : DWord)
    (target : Nat) : exec (.flip o n h fence value target) s = .next (setPending n h fence value target (some o) s.begin) :=
  congrArg Host.Outcome.next (loneCommand_accepted hacc .working hcheck _)

theorem exec_cmpLFlip {s : State} {m : Master} {n : Nat} (hn : n < 256) (hmay : MayWrite m (Reg.cmpLFlip (n / 8) (n % 8)) s) {v : Word}
    (hthere : s.layerThere n = true) (hcheck : flipCheck (s.actsFor m (objCp (n / 8))) n (fld v 11 0) 0xFFFF s.begin = none) :
    exec (.cmpLFlip m n v) s = .next (setPending n (fld v 11 0) 0xFFFF 0 0 none s.begin) := by
  have hgate := gatedWrite_of_mayWrite (locate_cmpLFlip hn) hmay (fun s => flipWrite (s.actsFor m (objCp (n / 8))) n v s)
  exact congrArg Host.Outcome.next (hgate.trans (flipWrite_accepted (s := s.begin) hthere hcheck))

end Sys2Proof.Machine
end

section
/-! The statement on tables and buffers. -/

namespace Sys2Proof.Machine

open Sys2Proof

/-- Settles O54: each command writes the words, the handles or the pending flip of its own engine alone, and a write that its table ignores moves a count. -/
theorem tablesAndBuffers : Obligations.TablesAndBuffers := by
  intro s May Words Bank Ignored
  refine ⟨fun o n table ws hacc hcheck => exec_sbdTableLoad hacc hcheck, fun o n table curve words hacc hcurve hcheck => ?_,
    fun m n v hn hload hdata => ?_, fun o n bank ws hacc hcheck => ?_, fun m n v hn hdata => ?_,
    fun o offset format width height pitch colour range hacc hcheck => ?_, fun o h hacc hcheck => ?_, fun n h hn hh hnone => ?_⟩
  · obtain ⟨t, hexec, hloaded⟩ := exec_sbdTableLoad hacc hcheck
    exact ⟨t, hexec, by rwa [loadWords, if_neg (by omega)] at hloaded⟩
  · refine ⟨fun hlut hcurve hfree => ?_, fun hlut hcurve hused => ?_, fun hfree hk => ?_, fun hused => ?_, ?_⟩
    · rw [exec_sbdTblLoad hn hload.1, tblLoadWrite_free (s := s.begin) hlut hcurve hfree]
      exact ⟨_, rfl, sheetsLoaded_draw [n] _ _ s⟩
    · rw [exec_sbdTblLoad hn hload.1, tblLoadWrite_used (s := s.begin) hlut hcurve hused]
      exact countsIgnored_bump _ s
    · rw [exec_sbdTblData_write hn hdata.1, tblDataWrite_free (s := s.begin) hfree]
      exact ⟨_, rfl, sbdAdvance_setSbdWord n _ s hk⟩
    · rw [exec_sbdTblData_write hn hdata.1, tblDataWrite_used (s := s.begin) hused]
      exact countsIgnored_bump_setF (by simp only [Reg.sbdTblIgnored, Reg.sbdTblAddr]; omega) _ _ _ s
    · rw [exec_sbdTblData_read hn hdata.2]
      exact ⟨_, rfl, rfl, sbdAdvance_addr n _, (sbdAdvance_writes n _).emitted, fun b hb => sbdAdvance_reg n _ hb⟩
  · rw [exec_compTableLoad hacc hcheck]
    have hparts := setCpBank_parts n bank ((ws.take 320).map (fun w => (w &&& wd 0x0FFF0FFF).toNat)) s.begin
    exact ⟨_, rfl, ⟨by rw [hparts]; rfl, fun k hk => cpWord_setCpBank n bank _ hk s.begin⟩, by rw [hparts]; rfl⟩
  · refine ⟨fun hfree hk => ?_, fun hused => ?_, ?_⟩
    · rw [exec_cmpTblData_write hn hdata.1, cpDataWrite_free (s := s.begin) hfree]
      exact ⟨_, rfl, cpAdvance_setCpWord n _ _ s hk⟩
    · rw [exec_cmpTblData_write hn hdata.1, cpDataWrite_used (s := s.begin) hused]
      exact countsIgnored_bump_setF (by simp only [Reg.cmpTblIgnored, Reg.cmpTblAddr]; omega) _ _ _ s
    · rw [exec_cmpTblData_read hn hdata.2]
      exact ⟨_, rfl, rfl, cpAdvance_addr n _, fun b hb => cpAdvance_reg n _ hb⟩
  · obtain ⟨hlt, hfree⟩ := mem_freeHandles.mp (drawnHandle_mem (registerCheck_freeHandles hcheck))
    exact ⟨_, _, hfree, hlt, exec_registerBuffer hacc hcheck, (tabGet_tabSet _ _ _ _).trans (if_pos rfl),
      fun k hk => (tabGet_tabSet _ _ _ _).trans (if_neg hk), rfl⟩
  · exact ⟨_, exec_releaseBuffer hacc hcheck, fun k => tabGet_tabDel _ _ _, rfl⟩
  · refine ⟨fun o fence value target hacc hcheck => ?_, fun m v hmay hv hthere hcheck => ?_⟩
    · rw [exec_flip hacc hcheck]
      exact flipPends_setPending hh hnone _ _ _ _
    · subst hv
      rw [exec_cmpLFlip hn hmay.1 hthere hcheck]
      exact flipPends_setPending hh hnone _ _ _ _

end Sys2Proof.Machine
end

section
/-! The state that each channel of the frame store shows, under the writes and events of the others and of its own (R470, R479). -/

namespace Sys2Proof.Machine

open Sys2Proof

theorem State.chState_of_reg {s t : State} {k : Nat} (h : t.reg (Reg.fstChStatus k) = s.reg (Reg.fstChStatus k)) : t.chState k = s.chState k :=
  State.f_of_reg h 3 0

/-- The status registers of the channels stand at the start of their windows. -/
theorem fstChStatus_ne {a : Nat} (ha : a % 0x100 ≠ 0) (k : Nat) : Reg.fstChStatus k ≠ a := by
  simp only [Reg.fstChStatus]
  omega

theorem chState_setReg {a : Nat} (ha : a % 0x100 ≠ 0) (v : Word) (s : State) (k : Nat) : (s.setReg a v).chState k = s.chState k :=
  State.chState_of_reg (State.reg_setReg_ne s (fstChStatus_ne ha k) v)

theorem chState_setChState (m : Nat) {v : Nat} (hv : v < 16) (s : State) (k : Nat) : (setChState m v s).chState k = if k = m then v else s.chState k := by
  split
  · next h =>
    subst h
    exact (State.f_setF s _ v (by decide) (by decide)).trans (Nat.mod_eq_of_lt hv)
  · next h => exact State.chState_of_reg (State.reg_setReg_ne s (by simp only [Reg.fstChStatus]; omega) _)

theorem setChState_store (m v : Nat) (s : State) : (setChState m v s).store = s.store := State.setF_store s _ _ _ _

theorem setStore_reg (x : StoreState) (s : State) (a : Nat) : (setStore x s).reg a = s.reg a := rfl

theorem setStore_f (x : StoreState) (s : State) (a hi lo : Nat) : (setStore x s).f a hi lo = s.f a hi lo := rfl

@[simp] theorem setStore_chState (x : StoreState) (s : State) (k : Nat) : (setStore x s).chState k = s.chState k := rfl

/-- Fields of a status register above the state. -/
theorem chState_setF (a : Nat) {hi lo : Nat} (v : Nat) (hlo : lo ≤ hi) (h : 3 < lo) (s : State) (k : Nat) : (s.setF a hi lo v).chState k = s.chState k :=
  State.f_setF_other s a _ v hlo (by decide) (.inr h)

theorem Reports.chState {l : List Nat} {s t : State} (h : Reports l s t) (hl : ∀ a ∈ l, a % 0x100 ≠ 0) (k : Nat) : t.chState k = s.chState k :=
  State.chState_of_reg (h.2 _ (inTen_above (by simp only [Reg.fstChStatus]; omega)) (fun hm => hl _ hm (by simp only [Reg.fstChStatus]; omega)))

/-! Events of a channel (R479) -/

theorem raiseCh_reports (m b : Nat) (s : State) : Reports [Reg.fstChEvent m] s (raiseCh m b s) := raiseEn_reports _ _ _ _ _ _

theorem raiseCh_reg_other (m b : Nat) (s : State) {a : Nat} (h : 0x18000 ≤ a) (ha : a ≠ Reg.fstChEvent m) : (raiseCh m b s).reg a = s.reg a :=
  (raiseCh_reports m b s).2 a (inTen_above h) (by simpa using ha)

theorem raiseCh_bit (m : Nat) {b : Nat} (hb : b < 32) (s : State) : (raiseCh m b s).bit (Reg.fstChEvent m) b = true := by
  have hreg : (raiseCh m b s).reg (Reg.fstChEvent m) = setFld (s.reg (Reg.fstChEvent m)) b b 1 :=
    raiseBit_reg (inTen_above (by simp only [Reg.fstChEvent]; omega)) _ _ _ _ _
  rw [State.bit, hreg, bitOf_setFld _ _ (le_refl b) hb, if_pos ⟨le_refl b, le_refl b⟩, Nat.sub_self]
  rfl

@[simp] theorem raiseCh_store (m b : Nat) (s : State) : (raiseCh m b s).store = s.store := by
  rw [(raiseCh_reports m b s).1]

@[simp] theorem raiseCh_chState (m b : Nat) (s : State) (k : Nat) : (raiseCh m b s).chState k = s.chState k :=
  (raiseCh_reports m b s).chState (fun a ha => by rw [List.mem_singleton.mp ha]; simp only [Reg.fstChEvent]; omega) k

/-! Free pieces and counts of lanes (R438, R479) -/

@[simp] theorem setSpares_chState (m : Nat) (l : List Nat) (s : State) (k : Nat) : (setSpares m l s).chState k = s.chState k :=
  chState_setReg (by simp only [Reg.fstChCap]; omega) _ _ k

theorem setSpares_store (m : Nat) (l : List Nat) (s : State) : (setSpares m l s).store = { s.store with spares := tabSet m l s.store.spares } := rfl

@[simp] theorem refreshLanes_chState (m : Nat) (s : State) (k : Nat) : (refreshLanes m s).chState k = s.chState k :=
  chState_setReg (by simp only [Reg.fstChLanes]; omega) _ _ k

theorem refreshAllLanes_writes (s : State) : Writes (fun a => ∃ m, a = Reg.fstChLanes m) s (refreshAllLanes s) :=
  Writes.foldl (p := fun a => ∃ m, a = Reg.fstChLanes m) (fun s m => Writes.setReg (p := fun a => ∃ m, a = Reg.fstChLanes m) ⟨m, rfl⟩ _ s) _ s

theorem Writes.store {p : Nat → Prop} {s t : State} (h : Writes p s t) : t.store = s.store := by rw [h.1]

@[simp] theorem refreshAllLanes_chState (s : State) (k : Nat) : (refreshAllLanes s).chState k = s.chState k :=
  State.chState_of_reg ((refreshAllLanes_writes s).2 _ (by rintro ⟨m, hm⟩; simp only [Reg.fstChStatus, Reg.fstChLanes] at hm; omega))

end Sys2Proof.Machine
end

section
/-! CHANNEL_TRAINED, CHANNEL_FILLED and FAILED (R434, R435, R436, R449, R474). -/

namespace Sys2Proof.Machine

open Sys2Proof

/-- A channel with what its training found, before the verdict (R434, R479). -/
def trainingShown (m : Nat) (r : TrainResult) (s : State) : State :=
  let s := (s.setBit (Reg.fstChStatus m) 4 r.moduleA.isSome).setBit (Reg.fstChStatus m) 5 r.moduleB.isSome
  let s := s.setF (Reg.fstChStatus m) 9 8 (match s.store.plan with | some p => p.speed | none => 0)
  let s := (s.setReg (Reg.fstChTrainTime m) (wd r.ms)).setReg (Reg.fstChSrExit m) (wd (min r.srExit 1000))
  s.setF (Reg.fstChCap m) 15 0 (match s.store.plan with | some p => piecesOf p | none => 0)

/-- A channel that enters FILLING, with no reason of a failure left. -/
def trainingPassed (m : Nat) (s : State) : State := (setChState m 3 s).setF (Reg.fstChStatus m) 19 16 0

theorem doChannelTrained_eq {m : Nat} {s : State} (h : s.chState m = 2) (r : TrainResult) :
    doChannelTrained m r s = if trainReason s.store.plan m r = 0 then trainingPassed m (trainingShown m r s)
      else channelFail m (trainReason s.store.plan m r) (trainingShown m r s) := by
  rw [doChannelTrained, if_neg (not_not.mpr h)]
  rfl

/-- The registers of a channel that its training moves. -/
def trainingRegs (m : Nat) : List Nat := [Reg.fstChStatus m, Reg.fstChTrainTime m, Reg.fstChSrExit m, Reg.fstChCap m]

theorem setStatus_writes (m hi lo v : Nat) (s : State) : Writes (· ∈ trainingRegs m) s (s.setF (Reg.fstChStatus m) hi lo v) :=
  Writes.setReg (p := (· ∈ trainingRegs m)) (by simp [trainingRegs]) _ s

theorem trainingShown_writes (m : Nat) (r : TrainResult) (s : State) : Writes (· ∈ trainingRegs m) s (trainingShown m r s) := by
  refine (((((setStatus_writes m 4 4 _ s).trans (setStatus_writes m 5 5 _ _)).trans (setStatus_writes m 9 8 _ _)).trans (Writes.setReg ?_ _ _)).trans (Writes.setReg ?_ _ _)).trans (Writes.setReg ?_ _ _) <;>
    simp [trainingRegs]

theorem trainingPassed_writes (m : Nat) (r : TrainResult) (s : State) : Writes (· ∈ trainingRegs m) s (trainingPassed m (trainingShown m r s)) :=
  ((trainingShown_writes m r s).trans (setStatus_writes m 3 0 3 _)).trans (setStatus_writes m 19 16 0 _)

theorem trainingShown_status (m : Nat) (r : TrainResult) (s : State) :
    ∃ v, (trainingShown m r s).reg (Reg.fstChStatus m) =
      setFld (setFld (setFld (s.reg (Reg.fstChStatus m)) 4 4 (b2n r.moduleA.isSome)) 5 5 (b2n r.moduleB.isSome)) 9 8 v := by
  refine ⟨match s.store.plan with | some p => p.speed | none => 0, ?_⟩
  simp only [trainingShown]
  rw [State.setF, State.reg_setReg_ne _ (fstChStatus_ne (by simp only [Reg.fstChCap]; omega) m),
    State.reg_setReg_ne _ (fstChStatus_ne (by simp only [Reg.fstChSrExit]; omega) m), State.reg_setReg_ne _ (fstChStatus_ne (by simp only [Reg.fstChTrainTime]; omega) m)]
  simp only [State.setBit, State.reg_setF, if_true]
  rfl

theorem trainingShown_times (m : Nat) (r : TrainResult) (s : State) :
    (trainingShown m r s).reg (Reg.fstChTrainTime m) = wd r.ms ∧ (trainingShown m r s).reg (Reg.fstChSrExit m) = wd (min r.srExit 1000) := by
  simp only [trainingShown]
  constructor
  · rw [State.setF, State.reg_setReg_ne _ (by simp only [Reg.fstChTrainTime, Reg.fstChCap]; omega),
      State.reg_setReg_ne _ (by simp only [Reg.fstChTrainTime, Reg.fstChSrExit]; omega), State.reg_setReg, if_pos rfl]
  · rw [State.setF, State.reg_setReg_ne _ (by simp only [Reg.fstChSrExit, Reg.fstChCap]; omega), State.reg_setReg, if_pos rfl]

theorem trainingShown_chState (m : Nat) (r : TrainResult) (s : State) {k : Nat} (h : k ≠ m) : (trainingShown m r s).chState k = s.chState k :=
  State.chState_of_reg ((trainingShown_writes m r s).2 _ (by
    simp only [trainingRegs, Reg.fstChStatus, Reg.fstChTrainTime, Reg.fstChSrExit, Reg.fstChCap, List.mem_cons, List.not_mem_nil, or_false]
    omega))

/-- The status of a channel that passes: FILLING, no reason, and the modules that were found. -/
theorem trainingPassed_status (m : Nat) (r : TrainResult) (s : State) :
    let t := trainingPassed m (trainingShown m r s)
    t.chState m = 3 ∧ t.f (Reg.fstChStatus m) 19 16 = 0 ∧ t.bit (Reg.fstChStatus m) 4 = r.moduleA.isSome ∧ t.bit (Reg.fstChStatus m) 5 = r.moduleB.isSome := by
  intro t
  obtain ⟨v, hv⟩ := trainingShown_status m r s
  have hbit : ∀ b, b = 4 ∨ b = 5 → t.bit (Reg.fstChStatus m) b = (trainingShown m r s).bit (Reg.fstChStatus m) b := fun b hb =>
    (State.bit_setF_other _ _ _ _ (by decide) (by omega) (by omega)).trans (State.bit_setF_other _ _ _ _ (by decide) (by omega) (by omega))
  refine ⟨(chState_setF _ _ (by decide) (by decide) _ m).trans ((chState_setChState m (by decide) _ m).trans (if_pos rfl)),
    State.f_setF _ _ _ (by decide) (by decide), ?_, ?_⟩
  · rw [hbit 4 (.inl rfl), State.bit, hv]
    cases r.moduleA <;> simp [bitOf_setFld, b2n]
  · rw [hbit 5 (.inr rfl), State.bit, hv]
    cases r.moduleB <;> simp [bitOf_setFld, b2n]

/-- What a channel that passes its training leaves. -/
theorem exec_channelTrained_passed {s : State} {m : Nat} {r : TrainResult} (hstate : s.chState m = 2) (hpass : trainReason s.store.plan m r = 0) :
    ∃ t, exec (.channelTrained m r) s = .next t ∧ t.chState m = 3 ∧ t.f (Reg.fstChStatus m) 19 16 = 0 ∧
      t.bit (Reg.fstChStatus m) 4 = r.moduleA.isSome ∧ t.bit (Reg.fstChStatus m) 5 = r.moduleB.isSome ∧
      t.reg (Reg.fstChTrainTime m) = wd r.ms ∧ t.reg (Reg.fstChSrExit m) = wd (min r.srExit 1000) ∧ t = { s with out := [], regs := t.regs } ∧
      ∀ a, a ∉ trainingRegs m → t.reg a = s.reg a := by
  have hexec : exec (.channelTrained m r) s = .next (trainingPassed m (trainingShown m r s.begin)) :=
    congrArg Host.Outcome.next ((doChannelTrained_eq (s := s.begin) hstate r).trans (if_pos hpass))
  obtain ⟨hch, hreason, ha, hb⟩ := trainingPassed_status m r s.begin
  obtain ⟨htime, hexit⟩ := trainingShown_times m r s.begin
  have hother : ∀ a, a ≠ Reg.fstChStatus m → (trainingPassed m (trainingShown m r s.begin)).reg a = (trainingShown m r s.begin).reg a :=
    fun a ha => (State.reg_setReg_ne _ ha _).trans (State.reg_setReg_ne _ ha _)
  obtain ⟨hparts, hregs⟩ := trainingPassed_writes m r s.begin
  refine ⟨_, hexec, hch, hreason, ha, hb, (hother _ ?_).trans htime, (hother _ ?_).trans hexit, hparts, hregs⟩
  · simp only [Reg.fstChTrainTime, Reg.fstChStatus]; omega
  · simp only [Reg.fstChSrExit, Reg.fstChStatus]; omega

/-! A channel that fails (R435, R449, R474) -/

/-- A failed channel shows its reason, raises its event and alerts the management port; no other channel and no byte or lane moves. -/
def ChannelFailed (m reason : Nat) (s t : State) : Prop :=
  t.chState m = 8 ∧ t.f (Reg.fstChStatus m) 19 16 = reason ∧ t.bit (Reg.fstChEvent m) 2 = true ∧ t.host.alerts.testBit 3 = true ∧
    t.store = { s.store with counted := t.store.counted } ∧ ∀ k, k ≠ m → t.chState k = s.chState k

/-- A channel that is FAILED and counts in no budget. -/
def channelDown (m reason : Nat) (s : State) : State :=
  let s := (setChState m 8 s).setF (Reg.fstChStatus m) 19 16 reason
  setStore { s.store with counted := s.store.counted.filter (fun c => decide (c ≠ m)) } s

/-- The failure of a channel reported: its event, its log entry and the alert. -/
def failureReported (m : Nat) (s : State) : State := alert 3 (logBit (objChannel m) (Reg.fstChEvent m) 2 (raiseCh m 2 s))

theorem logBit_store (obj ev b : Nat) (s : State) : (logBit obj ev b s).store = s.store := rfl

theorem failureReported_store (m : Nat) (s : State) : (failureReported m s).store = s.store := by
  rw [failureReported, alert_store, logBit_store, raiseCh_store]

theorem failureReported_reg (m : Nat) (s : State) (a : Nat) : (failureReported m s).reg a = (raiseCh m 2 s).reg a := by
  generalize h : raiseCh m 2 s = u
  rw [failureReported, h]
  rfl

theorem channelDown_power (m reason : Nat) (s : State) : (channelDown m reason s).store.power = s.store.power := rfl

theorem channelFail_eq {m : Nat} {s : State} (reason : Nat) (hpower : tabGet m s.store.power = none) :
    channelFail m reason s = failureReported m (channelDown m reason s) := by
  generalize hd : channelDown m reason s = d
  have hkept : tabGet m (failureReported m d).store.power = none := by rw [failureReported_store, ← hd, channelDown_power, hpower]
  unfold channelFail
  unfold channelDown at hd
  dsimp only at hd ⊢
  rw [hd]
  change (match tabGet m (failureReported m d).store.power with | some _ => _ | none => failureReported m d) = _
  rw [hkept]

theorem channelDown_chState (m reason : Nat) (s : State) (k : Nat) : (channelDown m reason s).chState k = if k = m then 8 else s.chState k := by
  simp only [channelDown]
  rw [setStore_chState, chState_setF _ _ (by decide) (by decide), chState_setChState m (by decide)]

theorem failureReported_chState (m : Nat) (s : State) (k : Nat) : (failureReported m s).chState k = s.chState k :=
  (State.chState_of_reg (failureReported_reg m s _)).trans (raiseCh_chState m 2 s k)

theorem failureReported_alerts (m : Nat) (s : State) : (failureReported m s).host.alerts.testBit 3 = true := by
  generalize h : raiseCh m 2 s = u
  have halerts : (failureReported m s).host.alerts = u.host.alerts ||| 2 ^ 3 := by rw [failureReported, h]; rfl
  rw [halerts, Nat.testBit_or, Nat.testBit_two_pow_self, Bool.or_true]

theorem failureReported_reason (m : Nat) (s : State) : (failureReported m s).f (Reg.fstChStatus m) 19 16 = s.f (Reg.fstChStatus m) 19 16 :=
  State.f_of_reg ((failureReported_reg m s _).trans
    (raiseCh_reg_other m 2 s (by simp only [Reg.fstChStatus]; omega) (by simp only [Reg.fstChStatus, Reg.fstChEvent]; omega))) 19 16

theorem failureReported_event (m : Nat) (s : State) : (failureReported m s).bit (Reg.fstChEvent m) 2 = true :=
  (State.bit_of_reg (failureReported_reg m s _) 2).trans (raiseCh_bit m (by decide) s)

theorem channelFail_failed {m reason : Nat} (hreason : reason < 16) {s : State} (hpower : tabGet m s.store.power = none) :
    ChannelFailed m reason s (channelFail m reason s) := by
  have hshown : (channelDown m reason s).f (Reg.fstChStatus m) 19 16 = reason := by
    simp only [channelDown]
    rw [setStore_f, State.f_setF _ _ _ (by decide) (by decide)]
    exact Nat.mod_eq_of_lt hreason
  rw [channelFail_eq reason hpower]
  refine ⟨?_, (failureReported_reason m _).trans hshown, failureReported_event m _, failureReported_alerts m _, ?_, fun k hk => ?_⟩
  · rw [failureReported_chState, channelDown_chState, if_pos rfl]
  · rw [failureReported_store]
    rfl
  · rw [failureReported_chState, channelDown_chState, if_neg hk]

theorem exec_channelTrained_failed {s : State} {m : Nat} {r : TrainResult} (hstate : s.chState m = 2) (hpos : 0 < trainReason s.store.plan m r)
    (hlt : trainReason s.store.plan m r < 16) (hpower : tabGet m s.store.power = none) :
    ∃ t, exec (.channelTrained m r) s = .next t ∧ ChannelFailed m (trainReason s.store.plan m r) (trainingShown m r s.begin) t :=
  ⟨_, congrArg Host.Outcome.next ((doChannelTrained_eq (s := s.begin) hstate r).trans (if_neg (Nat.pos_iff_ne_zero.mp hpos))),
    channelFail_failed hlt (by rw [(trainingShown_writes m r s.begin).store]; exact hpower)⟩

theorem fillEnds_idle {s : State} (h : s.store.filling = false) : fillEnds s = s := by
  simp [fillEnds, h]

theorem exec_failed {s : State} {m : Nat} (hm : m < 12) (hlow : 3 ≤ s.chState m) (hhigh : s.chState m ≠ 8) (hcopy : s.store.copy = none)
    (hfill : s.store.filling = false) (hpower : tabGet m s.store.power = none) :
    ∃ t, exec (.failed m) s = .next t ∧ ChannelFailed m 3 s t := by
  have hfailed : ChannelFailed m 3 s.begin (channelFail m 3 s.begin) := channelFail_failed (by decide) hpower
  have hstore := hfailed.2.2.2.2.1
  have hdo : doFailed m s.begin = channelFail m 3 s.begin := by
    have hguard : ¬ (12 ≤ m ∨ s.begin.chState m < 3 ∨ s.begin.chState m = 8) := by
      show ¬ (12 ≤ m ∨ s.chState m < 3 ∨ s.chState m = 8)
      omega
    have hcopy' : (channelFail m 3 s.begin).store.copy = none := by rw [hstore]; exact hcopy
    have hfill' : (channelFail m 3 s.begin).store.filling = false := by rw [hstore]; exact hfill
    rw [doFailed, if_neg hguard]
    simp only [hcopy', fillEnds_idle hfill']
  exact ⟨_, congrArg Host.Outcome.next hdo, hfailed⟩

end Sys2Proof.Machine
end

section
/-! CHANNEL_FILLED and EXTENT_READY (R436, R474, R476). -/

namespace Sys2Proof.Machine

open Sys2Proof

/-- A channel that CHANNEL_POWER brought back: EVACUATED, every piece spare, no command left on it (R474). -/
def channelEmptied (m : Nat) (s : State) : State :=
  let t := setSpares m (List.range (s.f (Reg.fstChCap m) 15 0)) (setChState m 6 s)
  setStore { t.store with power := tabDel m t.store.power } t

theorem channelEmptied_chState (m : Nat) (s : State) (k : Nat) : (channelEmptied m s).chState k = if k = m then 6 else s.chState k := by
  simp only [channelEmptied]
  rw [setStore_chState, setSpares_chState, chState_setChState m (by decide)]

theorem channelEmptied_store (m : Nat) (s : State) : (channelEmptied m s).store =
    { s.store with spares := tabSet m (List.range (s.f (Reg.fstChCap m) 15 0)) s.store.spares, power := tabDel m s.store.power } := rfl

theorem exec_channelFilled_powered {s : State} {m : Nat} (hstate : s.chState m = 3) {o : Origin} (hpower : tabGet m s.store.power = some o) :
    exec (.channelFilled m) s = .next (completeOk o (channelEmptied m s.begin)) := by
  have hpower' : tabGet m s.begin.store.power = some o := hpower
  refine congrArg Host.Outcome.next ((if_neg (not_not.mpr (show s.begin.chState m = 3 from hstate))).trans ?_)
  rw [hpower']
  rfl

/-- A channel whose last piece is filled: IN_SERVICE, or the state that a kept lane map gives it (R436, R476). -/
def channelServes (m : Nat) (s : State) : State :=
  let t := setChState m (tabGetD 4 m s.store.kept) s
  setStore { t.store with kept := tabDel m t.store.kept } t

theorem exec_channelFilled_serves {s : State} {m : Nat} (hstate : s.chState m = 3) (hpower : tabGet m s.store.power = none) (hon : s.storeOn = true)
    (hfill : s.store.filling = false) : exec (.channelFilled m) s = .next (channelServes m s.begin) := by
  have hpower' : tabGet m s.begin.store.power = none := hpower
  have hon' : (!s.begin.storeOn) = false := by rw [Bool.not_eq_false']; exact hon
  have hends : fillEnds (channelServes m s.begin) = channelServes m s.begin := fillEnds_idle hfill
  refine congrArg Host.Outcome.next ((if_neg (not_not.mpr (show s.begin.chState m = 3 from hstate))).trans (Eq.trans ?_ hends))
  rw [hpower', hon']
  rfl

/-- The ready extents that a partition shows when the first `r` of the store are (R436). -/
def State.readyShown (s : State) (r k : Nat) : Word := wd (min (r - s.partBase k) (s.partCount k))

theorem readyShown_setReg (s : State) (r k t : Nat) (v : Word) : (s.setReg (Reg.fstTenReadyExt t) v).readyShown r k = s.readyShown r k := by
  have hreg : (s.setReg (Reg.fstTenReadyExt t) v).reg (Reg.fstTenPart k) = s.reg (Reg.fstTenPart k) :=
    State.reg_setReg_ne s (by simp only [Reg.fstTenPart, Reg.fstTenReadyExt]; omega) v
  simp only [State.readyShown, State.partBase, State.partCount, State.f, hreg]

/-- Partitions of a list shown one after another, as the first `r` extents are ready. -/
def showReady (r : Nat) (l : List Nat) (s : State) : State := l.foldl (fun s t => s.setReg (Reg.fstTenReadyExt t) (s.readyShown r t)) s

theorem refreshReady_eq (s : State) : refreshReady s = showReady (s.f Reg.fstExtents 31 16) (List.range 4) s := rfl

theorem showReady_writes (r : Nat) (l : List Nat) (s : State) : Writes (fun a => ∃ t ∈ l, a = Reg.fstTenReadyExt t) s (showReady r l s) := by
  induction l generalizing s with
  | nil => exact Writes.refl _ s
  | cons t l ih =>
    refine (Writes.setReg (p := fun a => ∃ j ∈ t :: l, a = Reg.fstTenReadyExt j) ⟨t, List.mem_cons_self, rfl⟩ _ s).trans ((ih _).mono ?_)
    rintro a ⟨j, hj, ha⟩
    exact ⟨j, List.mem_cons_of_mem _ hj, ha⟩

theorem showReady_reg (r : Nat) {l : List Nat} (hl : l.Nodup) {k : Nat} (hk : k ∈ l) (s : State) :
    (showReady r l s).reg (Reg.fstTenReadyExt k) = s.readyShown r k := by
  induction l generalizing s with
  | nil => exact absurd hk List.not_mem_nil
  | cons t l ih =>
    obtain ⟨ht, hl⟩ := List.nodup_cons.mp hl
    show (showReady r l (s.setReg (Reg.fstTenReadyExt t) (s.readyShown r t))).reg (Reg.fstTenReadyExt k) = s.readyShown r k
    rcases List.mem_cons.mp hk with rfl | hk
    · have hlast : ¬ ∃ j ∈ l, Reg.fstTenReadyExt k = Reg.fstTenReadyExt j := by
        rintro ⟨j, hj, h⟩
        have hkj : k = j := by simp only [Reg.fstTenReadyExt] at h; omega
        exact ht (hkj ▸ hj)
      rw [(showReady_writes r l _).2 _ hlast, State.reg_setReg, if_pos rfl]
    · rw [ih hl hk, readyShown_setReg]

/-- The next extent, in ascending order, is ready (R436). -/
def nextExtent (s : State) : State := s.setF Reg.fstExtents 31 16 (s.f Reg.fstExtents 31 16 + 1)

theorem nextExtent_readyShown (s : State) (r k : Nat) : (nextExtent s).readyShown r k = s.readyShown r k := by
  have hreg : (nextExtent s).reg (Reg.fstTenPart k) = s.reg (Reg.fstTenPart k) := State.reg_setReg_ne s (by simp only [Reg.fstTenPart, Reg.fstExtents]; omega) _
  simp only [State.readyShown, State.partBase, State.partCount, State.f, hreg]

theorem exec_extentReady {s : State} (hon : s.storeOn = true) (hready : s.f Reg.fstExtents 31 16 < s.extents) (hsize : s.extents < 65536) :
    ∃ t, exec .extentReady s = .next t ∧ t.f Reg.fstExtents 31 16 = s.f Reg.fstExtents 31 16 + 1 ∧ t = { s with out := [], regs := t.regs } ∧
      ∀ k, k < 4 → t.reg (Reg.fstTenReadyExt k) = s.readyShown (s.f Reg.fstExtents 31 16 + 1) k := by
  have hnext : (nextExtent s.begin).f Reg.fstExtents 31 16 = s.f Reg.fstExtents 31 16 + 1 :=
    (State.f_setF s.begin _ _ (by decide) (by decide)).trans (Nat.mod_eq_of_lt (show s.f Reg.fstExtents 31 16 + 1 < 65536 by omega))
  have hexec : exec .extentReady s = .next (showReady (s.f Reg.fstExtents 31 16 + 1) (List.range 4) (nextExtent s.begin)) := by
    have hguard : (s.begin.storeOn && decide (s.begin.f Reg.fstExtents 31 16 < s.begin.extents)) = true := by
      rw [Bool.and_eq_true, decide_eq_true_eq]
      exact ⟨hon, hready⟩
    refine congrArg Host.Outcome.next ((if_pos hguard).trans ?_)
    rw [refreshReady_eq]
    exact congrArg (showReady · (List.range 4) (nextExtent s.begin)) hnext
  obtain ⟨hparts, hregs⟩ := showReady_writes (s.f Reg.fstExtents 31 16 + 1) (List.range 4) (nextExtent s.begin)
  refine ⟨_, hexec, (State.f_of_reg (hregs _ ?_) 31 16).trans hnext, hparts, fun k hk => ?_⟩
  · rintro ⟨t, -, h⟩
    simp only [Reg.fstExtents, Reg.fstTenReadyExt] at h
    omega
  · rw [showReady_reg _ List.nodup_range (List.mem_range.mpr hk), nextExtent_readyShown]
    rfl

end Sys2Proof.Machine
end

section
/-! EVACUATE_CHANNEL, REBALANCE and PIECE_COPIED (R472, R473, R475). -/

namespace Sys2Proof.Machine

open Sys2Proof

/-! A copy starts -/

theorem refreshLanes_writes (m : Nat) (s : State) : Writes (· = Reg.fstChLanes m) s (refreshLanes m s) :=
  Writes.setReg (p := (· = Reg.fstChLanes m)) rfl _ s

/-- A copy that runs: it is in the store, whose status says so, and no host hears of it. -/
def CopyStarted (j : CopyJob) (s t : State) : Prop :=
  (∀ k, t.chState k = s.chState k) ∧ t.store = { s.store with copy := some j, counted := t.store.counted } ∧ t.bit Reg.fstStatus 2 = true ∧ t.host = s.host

/-- The store with a copy that runs, its channel in no budget (R472). -/
def copyHeld (j : CopyJob) (s : State) : State :=
  (setStore { s.store with copy := some j, counted := s.store.counted.filter (fun c => decide (c ≠ j.ch)) } s).setBit Reg.fstStatus 2 true

theorem startCopy_started {j : CopyJob} (hleft : j.left ≠ []) (s : State) : CopyStarted j s (startCopy j s) := by
  have hstart : startCopy j s = refreshLanes j.ch (copyHeld j s) := if_neg (by simpa using hleft)
  obtain ⟨hparts, hregs⟩ := refreshLanes_writes j.ch (copyHeld j s)
  rw [hstart]
  refine ⟨fun k => ?_, ?_, ?_, ?_⟩
  · rw [refreshLanes_chState, copyHeld, State.setBit, State.setF, chState_setReg (by decide), setStore_chState]
  · rw [hparts]
    rfl
  · exact (State.bit_of_reg (hregs _ (by simp only [Reg.fstStatus, Reg.fstChLanes]; omega)) 2).trans (State.bit_setBit_same _ _ _ (by decide))
  · rw [hparts]
    rfl

/-- The channel whose lanes are copied takes its state; no lane and no byte moves yet. -/
theorem startCopy_setChState {j : CopyJob} (hleft : j.left ≠ []) {v : Nat} (hv : v < 16) (s : State) :
    let t := startCopy j (setChState j.ch v s)
    t.chState j.ch = v ∧ t.store.copy = some j ∧ t.bit Reg.fstStatus 2 = true ∧ t.store.lanes = s.store.lanes ∧ t.store.mem = s.store.mem ∧ t.host = s.host ∧
      ∀ k, k ≠ j.ch → t.chState k = s.chState k := by
  obtain ⟨hstates, hstore, hbusy, hhost⟩ := startCopy_started hleft (setChState j.ch v s)
  rw [setChState_store] at hstore
  refine ⟨?_, by rw [hstore], hbusy, by rw [hstore], by rw [hstore], hhost, fun k hk => ?_⟩
  · rw [hstates, chState_setChState _ hv, if_pos rfl]
  · rw [hstates, chState_setChState _ hv, if_neg hk]

theorem exec_evacuateChannel {s : State} {o : Origin} (hacc : Accepted o s) {m : Nat} (hcheck : evacuateCheck o m s.begin = none) (hstate : s.chState m = 4) :
    exec (.evacuateChannel o m) s = .next (startCopy ⟨m, false, s.lanesOn m, false, o⟩ (setChState m 5 s.begin)) := by
  have hserves : ¬ s.begin.chState m = 8 := by
    show ¬ s.chState m = 8
    omega
  refine congrArg Host.Outcome.next ((loneCommand_accepted hacc .working hcheck _).trans ?_)
  simp only [if_neg hserves]
  rfl

theorem exec_rebalance {s : State} {o : Origin} (hacc : Accepted o s) {m : Nat} (hcheck : rebalanceCheck o m s.begin = none) :
    exec (.rebalance o m) s = .next (startCopy ⟨m, true, s.lanesHomed m, false, o⟩ (setChState m 7 s.begin)) :=
  congrArg Host.Outcome.next (loneCommand_accepted hacc .working hcheck _)

/-! A piece is copied -/

theorem setSpares_host (m : Nat) (l : List Nat) (s : State) : (setSpares m l s).host = s.host := by
  rw [setSpares, State.setF_host, setStore_host]

theorem freePiece_store (v : Nat) (s : State) : ∃ sp, (freePiece v s).store = { s.store with spares := sp } := ⟨_, setSpares_store _ _ s⟩

theorem takePiece_store (v : Nat) (s : State) : ∃ sp, (takePiece v s).store = { s.store with spares := sp } := ⟨_, setSpares_store _ _ s⟩

theorem setLane_store (x k v : Nat) (s : State) : (setLane x k v s).store = { s.store with lanes := tabPut (s.homeOf x k) (12 * x + k) v s.store.lanes } := rfl

theorem homeOf_of_store {s t : State} (h : t.store.homes = s.store.homes) (x k : Nat) : t.homeOf x k = s.homeOf x k := by
  simp only [State.homeOf, h]

/-- The lane of a piece in its new place, its old piece spare (R473). -/
def laneMoved (x k dest : Nat) (s : State) : State := freePiece (s.laneAt x k) (setLane x k dest (takePiece dest s))

theorem laneMoved_store (x k dest : Nat) (s : State) :
    ∃ sp, (laneMoved x k dest s).store = { s.store with lanes := tabPut (s.homeOf x k) (12 * x + k) dest s.store.lanes, spares := sp } := by
  obtain ⟨sp, htake⟩ := takePiece_store dest s
  obtain ⟨sp', hfree⟩ := freePiece_store (s.laneAt x k) (setLane x k dest (takePiece dest s))
  refine ⟨sp', ?_⟩
  rw [laneMoved, hfree, setLane_store, homeOf_of_store (s := s) (by rw [htake]), htake]

theorem laneMoved_chState (x k dest : Nat) (s : State) (i : Nat) : (laneMoved x k dest s).chState i = s.chState i := by
  rw [laneMoved, freePiece, setSpares_chState, setLane, setStore_chState, takePiece, setSpares_chState]

theorem laneMoved_host (x k dest : Nat) (s : State) : (laneMoved x k dest s).host = s.host := by
  rw [laneMoved, freePiece, setSpares_host, setLane, setStore_host, takePiece, setSpares_host]

/-- A lane copied from a channel that failed reads poisoned, each burst of it (R473). -/
def lanePoisoned (x k : Nat) (s : State) : State :=
  setStore { s.store with
    lanePoison := (12 * x + k) :: s.store.lanePoison.filter (fun l => decide (l ≠ 12 * x + k))
    poison := s.store.poison.filter (fun b => decide (laneOfAddr (64 * b) ≠ (x, k))) } s

theorem movePiece_eq (x k dest : Nat) (s : State) :
    movePiece x k dest s = if decide (s.chState (s.laneAt x k / 0x1000) = 8) then lanePoisoned x k (laneMoved x k dest s) else laneMoved x k dest s := rfl

/-- Beside the lane's place a copied piece moves spare pieces and marks of poison alone (R473). -/
theorem movePiece_store (x k dest : Nat) (s : State) :
    ∃ sp lp po, (movePiece x k dest s).store =
      { s.store with lanes := tabPut (s.homeOf x k) (12 * x + k) dest s.store.lanes, spares := sp, lanePoison := lp, poison := po } := by
  obtain ⟨sp, h⟩ := laneMoved_store x k dest s
  rw [movePiece_eq]
  split
  · exact ⟨sp, _, _, by rw [lanePoisoned, setStore_store, h]⟩
  · exact ⟨sp, _, _, h⟩

theorem movePiece_chState (x k dest : Nat) (s : State) (i : Nat) : (movePiece x k dest s).chState i = s.chState i := by
  rw [movePiece_eq]
  split
  · rw [lanePoisoned, setStore_chState, laneMoved_chState]
  · exact laneMoved_chState x k dest s i

theorem movePiece_host (x k dest : Nat) (s : State) : (movePiece x k dest s).host = s.host := by
  rw [movePiece_eq]
  split
  · rw [lanePoisoned, setStore_host, laneMoved_host]
  · exact laneMoved_host x k dest s

/-- A lane stands in its new place; every other lane, and every byte, where it did. -/
def LaneMoved (x k dest : Nat) (s t : State) : Prop :=
  t.laneAt x k = dest ∧ (∀ y i, i < 12 → (y, i) ≠ (x, k) → t.laneAt y i = s.laneAt y i) ∧ t.store.mem = s.store.mem

theorem State.laneAt_of_store {s t : State} (hlanes : t.store.lanes = s.store.lanes) (hhomes : t.store.homes = s.store.homes) (x k : Nat) :
    t.laneAt x k = s.laneAt x k := by
  simp only [State.laneAt, State.homeOf, hlanes, hhomes]

theorem laneMoved_of_store {x k dest : Nat} (hk : k < 12) {s t : State} (hlanes : t.store.lanes = tabPut (s.homeOf x k) (12 * x + k) dest s.store.lanes)
    (hhomes : t.store.homes = s.store.homes) (hmem : t.store.mem = s.store.mem) : LaneMoved x k dest s t := by
  refine ⟨?_, fun y i hi hne => ?_, hmem⟩
  · simp only [State.laneAt, State.homeOf, hlanes, hhomes, tabGetD_tabPut, if_true]
  · have hkey : 12 * y + i ≠ 12 * x + k := fun h => hne (Prod.ext (by dsimp only; omega) (by dsimp only; omega))
    simp only [State.laneAt, State.homeOf, hlanes, hhomes]
    exact congrArg (fun v : Option Nat => v.getD _) (tabGet_tabPut_ne _ hkey _ _)

/-- The copy after its first piece: the lane moved, the rest left. -/
def pieceDone (j : CopyJob) (x k dest : Nat) (rest : List (Nat × Nat)) (s : State) : State :=
  setStore { (movePiece x k dest s).store with copy := some { j with left := rest } } (movePiece x k dest s)

theorem pieceDone_chState (j : CopyJob) (x k dest : Nat) (rest : List (Nat × Nat)) (s : State) (i : Nat) :
    (pieceDone j x k dest rest s).chState i = s.chState i := by
  rw [pieceDone, setStore_chState, movePiece_chState]

theorem pieceDone_host (j : CopyJob) (x k dest : Nat) (rest : List (Nat × Nat)) (s : State) : (pieceDone j x k dest rest s).host = s.host := by
  rw [pieceDone, setStore_host, movePiece_host]

theorem pieceDone_store (j : CopyJob) (x k dest : Nat) (rest : List (Nat × Nat)) (s : State) :
    ∃ sp lp po, (pieceDone j x k dest rest s).store = { s.store with
      lanes := tabPut (s.homeOf x k) (12 * x + k) dest s.store.lanes, spares := sp, lanePoison := lp, poison := po, copy := some { j with left := rest } } := by
  obtain ⟨sp, lp, po, h⟩ := movePiece_store x k dest s
  exact ⟨sp, lp, po, by rw [pieceDone, setStore_store, h]⟩

theorem doPieceCopied_eq {s : State} {j : CopyJob} {x k dest : Nat} {rest : List (Nat × Nat)} (hcopy : s.store.copy = some j) (hleft : j.left = (x, k) :: rest)
    (hdest : s.copyDest j = some dest) :
    doPieceCopied s =
      if rest.isEmpty then copyDone { j with left := rest } (pieceDone j x k dest rest s)
      else if j.stopping then abortCopy { j with left := rest } (pieceDone j x k dest rest s)
      else refreshLanes (dest / 0x1000) (refreshLanes j.ch (pieceDone j x k dest rest s)) := by
  simp only [doPieceCopied, hcopy, hleft, hdest]
  rfl

theorem endCopy_chState (s : State) (k : Nat) : (endCopy s).chState k = s.chState k := by
  rw [endCopy, refreshAllLanes_chState, State.setBit, State.setF, chState_setReg (by decide), setStore_chState]

theorem endCopy_store (s : State) : (endCopy s).store = { s.store with copy := none } := by
  rw [endCopy, (refreshAllLanes_writes _).store]
  rfl

/-- An evacuation that is over: its channel EVACUATED, and nothing left to copy (R473). -/
def evacuationDone (m : Nat) (s : State) : State := raiseCh m 3 (setChState m 6 (endCopy s))

theorem copyDone_evacuation {j : CopyJob} (hkind : j.rebalance = false) {s : State} (hstate : s.chState j.ch = 5) :
    copyDone j s = completeOk j.origin (evacuationDone j.ch s) := by
  have hstate' : (endCopy s).chState j.ch = 5 := by rw [endCopy_chState, hstate]
  simp only [copyDone, hkind, hstate', if_true]
  rfl

theorem evacuationDone_chState (m : Nat) (s : State) : (evacuationDone m s).chState m = 6 := by
  rw [evacuationDone, raiseCh_chState, chState_setChState m (by decide), if_pos rfl]

theorem evacuationDone_store (m : Nat) (s : State) : (evacuationDone m s).store = { s.store with copy := none } := by
  rw [evacuationDone, raiseCh_store, setChState_store, endCopy_store]

theorem exec_pieceCopied_goesOn {s : State} {j : CopyJob} {x k dest : Nat} {rest : List (Nat × Nat)} (hcopy : s.store.copy = some j)
    (hleft : j.left = (x, k) :: rest) (hdest : s.copyDest j = some dest) (hk : k < 12) (hrest : rest ≠ []) (hstop : j.stopping = false) :
    ∃ t, exec .pieceCopied s = .next t ∧ LaneMoved x k dest s t ∧ t.store.copy = some { j with left := rest } ∧ t.host = s.host := by
  have hnil : ¬ rest.isEmpty = true := by simpa using hrest
  have hstop' : ¬ j.stopping = true := by simp [hstop]
  have hdo := (doPieceCopied_eq (s := s.begin) hcopy hleft hdest).trans ((if_neg hnil).trans (if_neg hstop'))
  obtain ⟨sp, lp, po, hstore⟩ := pieceDone_store j x k dest rest s.begin
  have hshown := (refreshLanes_writes j.ch (pieceDone j x k dest rest s.begin)).store
  have hstore' := ((refreshLanes_writes (dest / 0x1000) (refreshLanes j.ch (pieceDone j x k dest rest s.begin))).store.trans hshown).trans hstore
  refine ⟨_, congrArg Host.Outcome.next hdo, laneMoved_of_store hk ?_ ?_ ?_, ?_, pieceDone_host j x k dest rest s.begin⟩ <;> rw [hstore'] <;> rfl

theorem exec_pieceCopied_last {s : State} {j : CopyJob} {x k dest : Nat} (hcopy : s.store.copy = some j)
    (hleft : j.left = [(x, k)]) (hdest : s.copyDest j = some dest) (hk : k < 12) (hkind : j.rebalance = false) (hstate : s.chState j.ch = 5) :
    ∃ t, exec .pieceCopied s = .next (completeOk j.origin t) ∧ LaneMoved x k dest s t ∧ t.store.copy = none ∧ t.chState j.ch = 6 ∧
      t.bit (Reg.fstChEvent j.ch) 3 = true := by
  have hstate' : (pieceDone j x k dest [] s.begin).chState j.ch = 5 := (pieceDone_chState j x k dest [] s.begin j.ch).trans hstate
  have hdo := (doPieceCopied_eq (s := s.begin) hcopy hleft hdest).trans (copyDone_evacuation (j := { j with left := [] }) hkind hstate')
  obtain ⟨sp, lp, po, hstore⟩ := pieceDone_store j x k dest [] s.begin
  have hstore' := evacuationDone_store j.ch (pieceDone j x k dest [] s.begin)
  rw [hstore] at hstore'
  refine ⟨_, congrArg Host.Outcome.next hdo, laneMoved_of_store hk ?_ ?_ ?_, ?_, evacuationDone_chState _ _, raiseCh_bit _ (by decide) _⟩ <;> rw [hstore'] <;> rfl

end Sys2Proof.Machine
end

section
/-! CHANNEL_POWER and POWER_OFF_SAFE (R474). -/

namespace Sys2Proof.Machine

open Sys2Proof

/-- A number and a power of two that it does not hold. -/
theorem testBit_add_two_pow {p m : Nat} (h : p.testBit m = false) (k : Nat) : (p + 2 ^ m).testBit k = if k = m then true else p.testBit k := by
  have hbit : (p % 2 ^ (m + 1)).testBit m = false := by rw [Nat.testBit_mod_two_pow, h, Bool.and_false]
  have hless : p % 2 ^ (m + 1) < 2 ^ m := by
    refine Nat.lt_pow_two_of_testBit _ fun i hi => ?_
    rcases Nat.eq_or_lt_of_le hi with rfl | hi
    · exact hbit
    · rw [Nat.testBit_mod_two_pow, decide_eq_false (by omega), Bool.false_and]
  have hfit : 2 ^ m + p % 2 ^ (m + 1) < 2 ^ (m + 1) := by rw [pow_succ] at hless ⊢; omega
  have hsum : p + 2 ^ m = 2 ^ (m + 1) * (p / 2 ^ (m + 1)) + (2 ^ m + p % 2 ^ (m + 1)) := by
    have := Nat.div_add_mod p (2 ^ (m + 1))
    omega
  rw [hsum, Nat.testBit_two_pow_mul_add _ hfit]
  rcases lt_trichotomy k m with hk | rfl | hk
  · rw [if_pos (by omega), Nat.testBit_two_pow_add_gt hk, Nat.testBit_mod_two_pow, if_neg (by omega), decide_eq_true (by omega), Bool.true_and]
  · rw [if_pos (by omega), Nat.testBit_two_pow_add_eq, hbit, if_pos rfl, Bool.not_false]
  · rw [if_neg (by omega), if_neg (by omega), Nat.testBit_div_two_pow, Nat.sub_add_cancel hk]

/-- A number less a power of two that it holds. -/
theorem testBit_sub_two_pow {p m : Nat} (h : p.testBit m = true) (k : Nat) : (p - 2 ^ m).testBit k = if k = m then false else p.testBit k := by
  have hflip : ∀ i, (p ^^^ 2 ^ m).testBit i = if i = m then false else p.testBit i := fun i => by
    rw [Nat.testBit_xor, Nat.testBit_two_pow]
    by_cases hi : i = m
    · subst hi; simp [h]
    · simp [hi, Ne.symm hi]
  have hsum : (p ^^^ 2 ^ m) + 2 ^ m = p := Nat.eq_of_testBit_eq fun i => by
    rw [testBit_add_two_pow ((hflip m).trans (if_pos rfl)), hflip]
    by_cases hi : i = m
    · subst hi; simp [h]
    · simp [hi]
  rw [← hflip k, Nat.sub_eq_of_eq_add hsum.symm]

theorem setMemPwr_testBit (m : Nat) (v : Bool) (s : State) (k : Nat) :
    (setMemPwr m v s).store.memPwrEn.testBit k = if k = m then v else s.store.memPwrEn.testBit k := by
  have hpins : (setMemPwr m v s).store.memPwrEn = if s.store.memPwrEn.testBit m = v then s.store.memPwrEn
      else if v then s.store.memPwrEn + 2 ^ m else s.store.memPwrEn - 2 ^ m := rfl
  rw [hpins]
  cases v <;> cases hm : s.store.memPwrEn.testBit m
  · by_cases hk : k = m <;> simp [hk, hm]
  · simp [testBit_sub_two_pow hm]
  · simp [testBit_add_two_pow hm]
  · by_cases hk : k = m <;> simp [hk, hm]

/-- The pin moved for a command that waits. -/
def powerAsked (o : Origin) (m : Nat) (on : Bool) (s : State) : State := setMemPwr m on (setStore { s.store with power := tabSet m o s.store.power } s)

theorem powerAsked_power (o : Origin) (m : Nat) (on : Bool) (s : State) : (powerAsked o m on s).store.power = tabSet m o s.store.power := rfl

theorem powerAsked_chState (o : Origin) (m : Nat) (on : Bool) (s : State) (k : Nat) : (powerAsked o m on s).chState k = s.chState k := by
  rw [powerAsked, setMemPwr, setStore_chState, setStore_chState]

/-- A channel that is switched: its pin, the command that waits for it, and TRAINING where it comes back (R474). -/
def PowerAsked (o : Origin) (m : Nat) (on : Bool) (s t : State) : Prop :=
  tabGet m t.store.power = some o ∧ (∀ k, t.store.memPwrEn.testBit k = if k = m then on else s.store.memPwrEn.testBit k) ∧
    (∀ k, t.chState k = if k = m ∧ on = true then 2 else s.chState k) ∧ t.host = s.host

theorem powerAsked_host (o : Origin) (m : Nat) (on : Bool) (s : State) : (powerAsked o m on s).host = s.host := by
  rw [powerAsked, setMemPwr, setStore_host, setStore_host]

/-- A channel in TRAINING, with no reason of a failure left. -/
def trainingAgain (m : Nat) (s : State) : State := (setChState m 2 s).setF (Reg.fstChStatus m) 19 16 0

theorem channelPowerEffect_eq (o : Origin) (m : Nat) (on : Bool) (s : State) :
    channelPowerEffect o m on s = if on then trainingAgain m (powerAsked o m on s) else powerAsked o m on s := rfl

theorem trainingAgain_parts (m : Nat) (s : State) : (trainingAgain m s).store = s.store ∧ (trainingAgain m s).host = s.host := by
  rw [trainingAgain, State.setF_store, setChState_store, State.setF_host]
  exact ⟨rfl, rfl⟩

theorem trainingAgain_chState (m : Nat) (s : State) (k : Nat) : (trainingAgain m s).chState k = if k = m then 2 else s.chState k := by
  rw [trainingAgain, chState_setF _ _ (by decide) (by decide), chState_setChState m (by decide)]

theorem channelPowerEffect_asked (o : Origin) (m : Nat) (on : Bool) (s : State) : PowerAsked o m on s (channelPowerEffect o m on s) := by
  have hpins := setMemPwr_testBit m on (setStore { s.store with power := tabSet m o s.store.power } s)
  have hpower : tabGet m (powerAsked o m on s).store.power = some o := by rw [powerAsked_power, tabGet_tabSet, if_pos rfl]
  have hhost := powerAsked_host o m on s
  rw [channelPowerEffect_eq]
  cases on with
  | false => exact ⟨hpower, hpins, fun k => (powerAsked_chState o m false s k).trans (if_neg (by simp)).symm, hhost⟩
  | true =>
    obtain ⟨hstore, hhost'⟩ := trainingAgain_parts m (powerAsked o m true s)
    rw [if_pos rfl]
    refine ⟨by rw [hstore, hpower], fun k => by rw [hstore]; exact hpins k, fun k => ?_, hhost'.trans hhost⟩
    rw [trainingAgain_chState, powerAsked_chState]
    simp only [and_true]

theorem exec_channelPower {s : State} {o : Origin} (hacc : Accepted o s) {m : Nat} {on : Bool} (hcheck : channelPowerCheck o m on s.begin = none) :
    ∃ t, exec (.channelPower o m on) s = .next t ∧ PowerAsked o m on s t :=
  ⟨_, congrArg Host.Outcome.next (loneCommand_accepted hacc .working hcheck _), channelPowerEffect_asked o m on s.begin⟩

/-- A channel that is OFF, no piece of it spare and no command left on it (R474). -/
def channelOff (m : Nat) (s : State) : State :=
  raiseCh m 4 (setChState m 1 (setSpares m [] (setStore { s.store with power := tabDel m s.store.power } s)))

theorem channelOff_chState (m : Nat) (s : State) (k : Nat) : (channelOff m s).chState k = if k = m then 1 else s.chState k := by
  rw [channelOff, raiseCh_chState, chState_setChState m (by decide), setSpares_chState, setStore_chState]

theorem channelOff_power (m : Nat) (s : State) : tabGet m (channelOff m s).store.power = none := by
  rw [channelOff, raiseCh_store, setChState_store, setSpares_store]
  exact (tabGet_tabDel _ _ _).trans (if_pos rfl)

theorem exec_powerOffSafe {s : State} {m : Nat} {o : Origin} (hpower : tabGet m s.store.power = some o) (hpin : s.store.memPwrEn.testBit m = false)
    (htraining : s.chState m ≠ 2) (hfilling : s.chState m ≠ 3) : exec (.powerOffSafe m) s = .next (completeOk o (channelOff m s.begin)) := by
  have hpower' : tabGet m s.begin.store.power = some o := hpower
  have hguard : ¬ (s.begin.store.memPwrEn.testBit m || decide (s.begin.chState m = 2 ∨ s.begin.chState m = 3)) = true := by
    show ¬ (s.store.memPwrEn.testBit m || decide (s.chState m = 2 ∨ s.chState m = 3)) = true
    simp [hpin, htraining, hfilling]
  refine congrArg Host.Outcome.next (Eq.trans (b := if _ then s.begin else completeOk o (channelOff m s.begin)) ?_ (if_neg hguard))
  rw [doPowerOffSafe, hpower']
  rfl

end Sys2Proof.Machine
end

section
/-! The statement on the channels of the frame store. -/

namespace Sys2Proof.Machine

open Sys2Proof

/-- Settles O55: each command moves the channel that it names as its lemma says, and what it leaves of the store is read from the store it writes. -/
theorem storeChannels : Obligations.StoreChannels := by
  intro s m hm st ev Others
  refine ⟨fun r hstate => ⟨fun hpass => exec_channelTrained_passed hstate hpass, fun hpos hlt hpower => ?_⟩,
    fun hstate => ⟨fun o hpower => ?_, fun hpower hon hkept hfill => ?_⟩,
    fun hon hready hsize => ?_,
    fun o hacc => ⟨fun hcheck hstate hlanes => ?_, fun hcheck hlanes => ?_, fun on hcheck => ?_⟩,
    fun j x k rest d hcopy hleft hdest hk hch hd => ⟨fun hrest hstop => ?_, fun hrest hkind hstate => ?_⟩,
    fun o hpower hpin htraining hfilling => ?_, fun hlow hhigh hcopy hfill hpower => ?_⟩
  · obtain ⟨t, hexec, hstate', hreason, hevent, halert, -, hothers⟩ := exec_channelTrained_failed hstate hpos hlt hpower
    exact ⟨t, hexec, hstate', hreason, hevent, halert, fun k _ hk => (hothers k hk).trans (trainingShown_chState m r s.begin hk)⟩
  · refine ⟨_, exec_channelFilled_powered hstate hpower, (channelEmptied_chState m s.begin m).trans (if_pos rfl), ?_, ?_,
      fun k _ hk => (channelEmptied_chState m s.begin k).trans (if_neg hk)⟩
    · rw [channelEmptied_store, tabGet_tabDel, if_pos rfl]
    · rw [State.sparesOf, channelEmptied_store, tabGetD_tabSet, if_pos rfl]
      rfl
  · refine ⟨_, exec_channelFilled_serves hstate hpower hon hfill, ?_, ?_, ?_⟩
    · have hserves : tabGetD 4 m s.begin.store.kept = 4 := congrArg (fun v : Option Nat => v.getD 4) hkept
      simp only [channelServes]
      rw [setStore_chState, hserves, chState_setChState m (by decide), if_pos rfl]
    · rfl
    · intro a ha
      exact State.reg_setReg_ne s.begin ha _
  · exact exec_extentReady hon hready hsize
  · obtain ⟨hstate', hcopy, hbusy, hlanes', hmem, hhost, hothers⟩ :=
      startCopy_setChState (j := ⟨m, false, s.lanesOn m, false, o⟩) hlanes (show 5 < 16 by decide) s.begin
    exact ⟨_, exec_evacuateChannel hacc hcheck hstate, hstate', hcopy, hbusy, hlanes', hmem, hhost, fun k _ hk => hothers k hk⟩
  · obtain ⟨hstate', hcopy, -, hlanes', hmem, hhost, hothers⟩ :=
      startCopy_setChState (j := ⟨m, true, s.lanesHomed m, false, o⟩) hlanes (show 7 < 16 by decide) s.begin
    exact ⟨_, exec_rebalance hacc hcheck, hstate', hcopy, hlanes', hmem, hhost, fun k _ hk => hothers k hk⟩
  · obtain ⟨t, hexec, hpower, hpins, hstates, hhost⟩ := exec_channelPower hacc hcheck
    exact ⟨t, hexec, hpower, hpins, by simpa using hstates m, hhost, fun k _ hk => (hstates k).trans (if_neg (fun h => hk h.1))⟩
  · exact exec_pieceCopied_goesOn hcopy hleft hdest hk hrest hstop
  · exact exec_pieceCopied_last hcopy (hrest ▸ hleft) hdest hk hkind hstate
  · refine ⟨_, exec_powerOffSafe hpower hpin htraining hfilling, (channelOff_chState m s.begin m).trans (if_pos rfl), raiseCh_bit m (by decide) _,
      channelOff_power m s.begin, fun k _ hk => (channelOff_chState m s.begin k).trans (if_neg hk)⟩
  · obtain ⟨t, hexec, hstate, hreason, hevent, -, hstore, hothers⟩ := exec_failed hm hlow hhigh hcopy hfill hpower
    exact ⟨t, hexec, hstate, hreason, hevent, by rw [hstore], by rw [hstore], fun k _ hk => hothers k hk⟩

end Sys2Proof.Machine
end

section
/-! What a request to a tenancy's window can move, and what it reads and writes (R436, R437, R442, R459). -/

namespace Sys2Proof.Machine

open Sys2Proof

/-- A request to a window moves bytes and their poison, and channels that it takes out of self-refresh, whose residency counts. -/
def WindowUsed (s u : State) : Prop :=
  u = { s with regs := u.regs, store := { s.store with mem := u.store.mem, poison := u.store.poison, selfRefresh := u.store.selfRefresh } } ∧
    ∀ b, (∀ m, b ≠ Reg.fstChSrRes m) → u.reg b = s.reg b

theorem WindowUsed.refl (s : State) : WindowUsed s s := ⟨rfl, fun _ _ => rfl⟩

theorem WindowUsed.trans {s t u : State} (h : WindowUsed s t) (g : WindowUsed t u) : WindowUsed s u := by
  obtain ⟨hparts, hregs⟩ := h
  obtain ⟨gparts, gregs⟩ := g
  exact ⟨by rw [gparts, hparts], fun b hb => (gregs b hb).trans (hregs b hb)⟩

theorem WindowUsed.foldl {α : Type} {f : State → α → State} (hf : ∀ s x, WindowUsed s (f s x)) (l : List α) (s : State) : WindowUsed s (l.foldl f s) := by
  induction l generalizing s with
  | nil => exact WindowUsed.refl s
  | cons x l ih => exact (hf s x).trans (ih (f s x))

section
variable {s u : State} (h : WindowUsed s u)
include h

/-- The counts of residency stand at one offset of the channels' windows. -/
theorem WindowUsed.reg {b : Nat} (hb : b % 0x100 ≠ 0x10) : u.reg b = s.reg b :=
  h.2 b (fun m => by simp only [Reg.fstChSrRes]; omega)

theorem WindowUsed.lanes : u.store.lanes = s.store.lanes := by rw [h.1]

theorem WindowUsed.homes : u.store.homes = s.store.homes := by rw [h.1]

theorem WindowUsed.lanePoison : u.store.lanePoison = s.store.lanePoison := by rw [h.1]

theorem WindowUsed.partBytes (t : Nat) : u.partBytes t = s.partBytes t := by
  simp only [State.partBytes, State.partCount, State.f, h.reg (b := Reg.fstTenPart t) (by simp only [Reg.fstTenPart]; omega)]

theorem WindowUsed.openBytes (t : Nat) : u.openBytes t = s.openBytes t := by
  simp only [State.openBytes, State.partCount, State.devExtents, State.f, h.reg (b := Reg.fstTenPart t) (by simp only [Reg.fstTenPart]; omega),
    h.reg (b := Reg.fstTenDev t) (by simp only [Reg.fstTenDev]; omega)]

theorem WindowUsed.readyBytes (t : Nat) : u.readyBytes t = s.readyBytes t := by
  simp only [State.readyBytes, h.reg (b := Reg.fstTenReadyExt t) (by simp only [Reg.fstTenReadyExt]; omega)]

theorem WindowUsed.storeAddr (t p : Nat) : u.storeAddr t p = s.storeAddr t p := by
  simp only [State.storeAddr, State.partBase, State.f, h.reg (b := Reg.fstTenPart t) (by simp only [Reg.fstTenPart]; omega)]

theorem WindowUsed.chState (k : Nat) : u.chState k = s.chState k :=
  State.chState_of_reg (h.reg (by simp only [Reg.fstChStatus]; omega))

theorem WindowUsed.laneCh (x k : Nat) : u.laneCh x k = s.laneCh x k := congrArg (· / 0x1000) (State.laneAt_of_store h.lanes h.homes x k)

theorem WindowUsed.addrFailed (a : Nat) : u.addrFailed a = s.addrFailed a :=
  congrArg (fun c => decide (c = 8)) ((congrArg u.chState (h.laneCh _ _)).trans (h.chState _))

end

/-! Channels leave self-refresh -/

theorem outOfRefresh_cases (m : Nat) (s : State) :
    (tabGet m s.store.selfRefresh = none ∧ outOfRefresh m s = s) ∨
    ∃ t, tabGet m s.store.selfRefresh = some t ∧
      outOfRefresh m s = (setStore { s.store with selfRefresh := tabDel m s.store.selfRefresh } s).bump (Reg.fstChSrRes m) ((s.now - t) / 1000) := by
  cases hm : tabGet m s.store.selfRefresh with
  | none => exact .inl ⟨rfl, by simp only [outOfRefresh, hm]⟩
  | some t => exact .inr ⟨t, rfl, by simp only [outOfRefresh, hm]⟩

theorem outOfRefresh_used (m : Nat) (s : State) : WindowUsed s (outOfRefresh m s) := by
  rcases outOfRefresh_cases m s with ⟨-, h⟩ | ⟨t, -, h⟩
  · rw [h]; exact WindowUsed.refl s
  · rw [h]; exact ⟨rfl, fun b hb => State.reg_setReg_ne _ (hb m) _⟩

theorem outOfRefresh_bytes (m : Nat) (s : State) : (outOfRefresh m s).store.mem = s.store.mem ∧ (outOfRefresh m s).store.poison = s.store.poison := by
  rcases outOfRefresh_cases m s with ⟨-, h⟩ | ⟨t, -, h⟩ <;> rw [h] <;> exact ⟨rfl, rfl⟩

theorem wakeChannels_used (t p n : Nat) (s : State) : WindowUsed s (wakeChannels t p n s) := WindowUsed.foldl (fun s m => outOfRefresh_used m s) _ s

theorem wakeChannels_bytes (t p n : Nat) (s : State) :
    (wakeChannels t p n s).store.mem = s.store.mem ∧ (wakeChannels t p n s).store.poison = s.store.poison := by
  refine List.foldlRecOn (motive := fun u : State => u.store.mem = s.store.mem ∧ u.store.poison = s.store.poison) _ _ ⟨rfl, rfl⟩ (fun u hu m _ => ?_)
  obtain ⟨hmem, hpoison⟩ := outOfRefresh_bytes m u
  exact ⟨hmem.trans hu.1, hpoison.trans hu.2⟩

/-! Bytes written -/

theorem writeByte_used (a : Nat) (b : Byte) (s : State) : WindowUsed s (writeByte a b s) := by
  unfold writeByte
  split
  · exact WindowUsed.refl s
  · exact ⟨rfl, fun _ _ => rfl⟩

theorem memByte_writeByte {a : Nat} {s : State} (h : s.addrFailed a = false) (v : Byte) (b : Nat) :
    (writeByte a v s).memByte b = if b = a then v else s.memByte b := by
  rw [writeByte, if_neg (by simp [h])]
  exact tabGetD_tabPut 0 a b v s.store.mem

theorem setPoison_used (b : Nat) (v : Bool) (s : State) : WindowUsed s (setPoison b v s) := ⟨rfl, fun _ _ => rfl⟩

/-- Bytes put from an address up, one after another. -/
def putBytes (a : Nat) (l : List Byte) (s : State) : State := ((List.range l.length).zip l).foldl (fun s p => writeByte (a + p.1) p.2 s) s

/-- The poison of the whole bursts of a range cleared (R447). -/
def cleanBursts (a n : Nat) (s : State) : State :=
  ((List.range (n / 64 + 1)).map (fun i => (a + 63) / 64 + i)).foldl (fun s b => if 64 * b + 64 ≤ a + n ∧ a ≤ 64 * b then setPoison b false s else s) s

theorem writeBytes_eq (a : Nat) (l : List Byte) (s : State) : writeBytes a l s = cleanBursts a l.length (putBytes a l s) := rfl

theorem putBytes_used (a : Nat) (l : List Byte) (s : State) : WindowUsed s (putBytes a l s) := WindowUsed.foldl (fun s _ => writeByte_used _ _ s) _ s

theorem cleanBursts_used (a n : Nat) (s : State) : WindowUsed s (cleanBursts a n s) := by
  refine WindowUsed.foldl (fun s b => ?_) _ s
  split
  · exact setPoison_used b false s
  · exact WindowUsed.refl s

theorem cleanBursts_mem (a n : Nat) (s : State) : (cleanBursts a n s).store.mem = s.store.mem := by
  refine List.foldlRecOn (motive := fun u : State => u.store.mem = s.store.mem) _ _ rfl (fun u hu b _ => ?_)
  split
  · exact hu
  · exact hu

theorem putBytes_append (a : Nat) (l : List Byte) (x : Byte) (s : State) : putBytes a (l ++ [x]) s = writeByte (a + l.length) x (putBytes a l s) := by
  rw [putBytes, List.length_append, List.length_singleton, List.range_succ, List.zip_append (List.length_range), List.foldl_append]
  rfl

theorem memByte_putBytes {a : Nat} {l : List Byte} {s : State} (h : ∀ k, k < l.length → s.addrFailed (a + k) = false) (b : Nat) :
    (putBytes a l s).memByte b = if a ≤ b ∧ b < a + l.length then l.getD (b - a) 0 else s.memByte b := by
  induction l using List.reverseRecOn with
  | nil => exact (if_neg (by simp)).symm
  | append_singleton l x ih =>
    rw [List.length_append, List.length_singleton] at h ⊢
    have hlast : (putBytes a l s).addrFailed (a + l.length) = false := ((putBytes_used a l s).addrFailed _).trans (h _ (by omega))
    rw [putBytes_append, memByte_writeByte hlast, ih (fun k hk => h k (by omega))]
    rcases lt_trichotomy b (a + l.length) with hb | hb | hb
    · rw [if_neg (by omega)]
      by_cases ha : a ≤ b
      · rw [if_pos ⟨ha, hb⟩, if_pos ⟨ha, by omega⟩, List.getD_append _ _ _ _ (by omega)]
      · rw [if_neg (fun hc => ha hc.1), if_neg (fun hc => ha hc.1)]
    · rw [if_pos hb, if_pos ⟨by omega, by omega⟩, List.getD_append_right _ _ _ _ (by omega), show b - a - l.length = 0 by omega]
      rfl
    · rw [if_neg (by omega), if_neg (by omega), if_neg (by omega)]

theorem writeBytes_used (a : Nat) (l : List Byte) (s : State) : WindowUsed s (writeBytes a l s) := by
  rw [writeBytes_eq]
  exact (putBytes_used a l s).trans (cleanBursts_used a l.length _)

theorem memByte_writeBytes {a : Nat} {l : List Byte} {s : State} (h : ∀ k, k < l.length → s.addrFailed (a + k) = false) (b : Nat) :
    (writeBytes a l s).memByte b = if a ≤ b ∧ b < a + l.length then l.getD (b - a) 0 else s.memByte b := by
  rw [writeBytes_eq, State.memByte, cleanBursts_mem]
  exact memByte_putBytes h b

theorem writePart_inside {t p : Nat} {l : List Byte} {s : State} (hready : p + l.length ≤ s.readyBytes t) (hpart : p + l.length ≤ s.partBytes t) :
    writePart t p l s = writeBytes (s.storeAddr t p) l s := by
  rw [writePart, List.take_of_length_le (by omega)]

/-! Requests to the window -/

theorem bar2Oor_inside {t p n : Nat} {s : State} (h : p + n ≤ s.partBytes t) : bar2Oor t p n s = s := if_neg (by omega)

/-- The partition address at which a window's offset lies (R442). -/
def State.windowAddr (s : State) (t off : Nat) : Nat := 67108864 * s.f (Reg.fstTenBar2Base t) 15 0 + off

/-- The state once the channels of a range of a window are awake, before its bytes move (R459). -/
def State.woken (s : State) (t off n : Nat) : State := wakeChannels t (s.windowAddr t off) n s.begin

theorem State.woken_used (s : State) (t off n : Nat) : WindowUsed s.begin (s.woken t off n) := wakeChannels_used t _ n s.begin

theorem State.woken_bytes (s : State) (t off n : Nat) : (s.woken t off n).store.mem = s.store.mem ∧ (s.woken t off n).store.poison = s.store.poison :=
  wakeChannels_bytes t _ n s.begin

theorem exec_bar2Write {s : State} {t off : Nat} {data : List Byte} (hopen : s.bar2Open = true) (hready : s.windowAddr t off + data.length ≤ s.readyBytes t)
    (hpart : s.windowAddr t off + data.length ≤ s.partBytes t)
    (hholds : ∀ k, k < data.length → s.addrFailed (s.storeAddr t (s.windowAddr t off) + k) = false) :
    ∃ u, exec (.bar2Access t (.write off data)) s = .next u ∧ WindowUsed s.begin u ∧
      ∀ b, u.memByte b = if s.storeAddr t (s.windowAddr t off) ≤ b ∧ b < s.storeAddr t (s.windowAddr t off) + data.length
        then data.getD (b - s.storeAddr t (s.windowAddr t off)) 0 else s.memByte b := by
  have hw := s.woken_used t off data.length
  have haddr : (s.woken t off data.length).storeAddr t (s.windowAddr t off) = s.storeAddr t (s.windowAddr t off) := hw.storeAddr t _
  have hput : writePart t (s.windowAddr t off) data (s.woken t off data.length) =
      writeBytes (s.storeAddr t (s.windowAddr t off)) data (s.woken t off data.length) := by
    rw [writePart_inside ((hw.readyBytes t).symm ▸ hready) ((hw.partBytes t).symm ▸ hpart), haddr]
  have hu := hw.trans (writeBytes_used (s.storeAddr t (s.windowAddr t off)) data (s.woken t off data.length))
  have hclosed : ¬ (!s.begin.bar2Open) = true := by
    show ¬ (!s.bar2Open) = true
    simp [hopen]
  have hdo : doBar2Access t (.write off data) s.begin = writeBytes (s.storeAddr t (s.windowAddr t off)) data (s.woken t off data.length) := by
    refine (if_neg hclosed).trans ?_
    show bar2Oor t (s.windowAddr t off) data.length (writePart t (s.windowAddr t off) data (s.woken t off data.length)) = _
    rw [hput, bar2Oor_inside ((hu.partBytes t).symm ▸ hpart)]
  refine ⟨_, congrArg Host.Outcome.next hdo, hu, fun b => ?_⟩
  rw [memByte_writeBytes (fun k hk => (hw.addrFailed _).trans (hholds k hk))]
  exact congrArg (ite _ _) (congrArg (tabGetD 0 b) (s.woken_bytes t off data.length).1)

theorem State.burstPoisoned_of_used {s u : State} (h : WindowUsed s u) (hpoison : u.store.poison = s.store.poison) (a : Nat) :
    u.burstPoisoned a = s.burstPoisoned a := by
  simp only [State.burstPoisoned, h.addrFailed, h.lanePoison, hpoison]

theorem State.partPoisoned_of_used {s u : State} (h : WindowUsed s u) (hpoison : u.store.poison = s.store.poison) (t p n : Nat) :
    u.partPoisoned t p n = s.partPoisoned t p n := by
  simp only [State.partPoisoned, State.rangePoisoned, h.storeAddr, h.readyBytes, h.partBytes, State.burstPoisoned_of_used h hpoison]

theorem State.openBytes_le (s : State) (t : Nat) : s.openBytes t ≤ s.partBytes t := Nat.mul_le_mul_right _ (Nat.sub_le _ _)

/-- Software reads the store itself where its partition is ready and the device keeps nothing (R436, R440). -/
theorem partByte_inside {s : State} {t q : Nat} (hready : q < s.readyBytes t) (hopen : q < s.openBytes t) : s.partByte t q = s.memByte (s.storeAddr t q) := by
  have hpart := s.openBytes_le t
  have hdevice : ¬ s.inDevice t q = true := by
    simp only [State.inDevice, decide_eq_true_eq]
    omega
  rw [State.partByte, if_neg (by omega), if_neg hdevice]

theorem readPart_inside {s : State} {t p n : Nat} (hready : p + n ≤ s.readyBytes t) (hopen : p + n ≤ s.openBytes t) :
    (List.range n).map (fun i => s.partByte t (p + i)) = s.readBytes (s.storeAddr t p) n := by
  refine List.map_congr_left fun i hi => ?_
  have hin := List.mem_range.mp hi
  rw [partByte_inside (by omega) (by omega), State.storeAddr, State.storeAddr, Nat.add_assoc]

theorem exec_bar2Read {s : State} {t off n : Nat} (hopen : s.bar2Open = true) (hready : s.windowAddr t off + n ≤ s.readyBytes t)
    (hfree : s.windowAddr t off + n ≤ s.openBytes t) (hclean : s.partPoisoned t (s.windowAddr t off) n = false) :
    exec (.bar2Access t (.read off n)) s =
      .next ((s.woken t off n).draw.emit (.reply (s.readBytes (s.storeAddr t (s.windowAddr t off)) n))) := by
  have hw := s.woken_used t off n
  obtain ⟨hmem, hpoison⟩ := s.woken_bytes t off n
  have hdata : (List.range n).map (fun i => (s.woken t off n).partByte t (s.windowAddr t off + i)) = s.readBytes (s.storeAddr t (s.windowAddr t off)) n := by
    rw [readPart_inside ((hw.readyBytes t).symm ▸ hready) ((hw.openBytes t).symm ▸ hfree), hw.storeAddr]
    exact List.map_congr_left fun i _ => congrArg (tabGetD 0 _) hmem
  have hbad : (s.woken t off n).partPoisoned t (s.windowAddr t off) n = false := (State.partPoisoned_of_used hw hpoison t _ n).trans hclean
  have hoor : bar2Oor t (s.windowAddr t off) n (s.woken t off n) = s.woken t off n := bar2Oor_inside ((hw.partBytes t).symm ▸ hfree.trans (s.openBytes_le t))
  have hclosed : ¬ (!s.begin.bar2Open) = true := by
    show ¬ (!s.bar2Open) = true
    simp [hopen]
  refine congrArg Host.Outcome.next ((if_neg hclosed).trans ?_)
  show (if (s.woken t off n).partPoisoned t (s.windowAddr t off) n = true then _
    else (bar2Oor t (s.windowAddr t off) n (s.woken t off n)).draw.emit
      (.reply ((List.range n).map (fun i => (s.woken t off n).partByte t (s.windowAddr t off + i))))) = _
  rw [hbad, hoor, hdata]
  rfl

theorem exec_bar2_closed {s : State} (hclosed : s.bar2Open = false) (t off n : Nat) (data : List Byte) :
    exec (.bar2Access t (.read off n)) s = .next { s with out := [.reply (List.replicate n 0)] } ∧
      exec (.bar2Access t (.write off data)) s = .next { s with out := [] } := by
  have hguard : (!s.begin.bar2Open) = true := by
    show (!s.bar2Open) = true
    simp [hclosed]
  exact ⟨congrArg Host.Outcome.next (if_pos hguard), congrArg Host.Outcome.next (if_pos hguard)⟩

end Sys2Proof.Machine
end

section
/-! PATROL_SCRUB, SELF_REFRESH_ENTRY and SELF_REFRESH_EXIT (R444, R445, R448, R458, R459). -/

namespace Sys2Proof.Machine

open Sys2Proof

/-! Reads that were not clean -/

theorem readCorrected_spec (m : Nat) (s : State) :
    (readCorrected m s).reg (Reg.fstChCeCnt m) = wd (min 0xFFFFFFFF ((s.reg (Reg.fstChCeCnt m)).toNat + 1)) ∧
      (readCorrected m s).store.mem = s.store.mem ∧ (readCorrected m s).store.poison = s.store.poison := by
  have hcounted : ∃ hours, ∃ rate : Bool, readCorrected m s =
      if rate then raiseCh m 0 ((setStore { s.store with ceHour := hours } s).bump (Reg.fstChCeCnt m) 1)
      else (setStore { s.store with ceHour := hours } s).bump (Reg.fstChCeCnt m) 1 := ⟨_, _, rfl⟩
  obtain ⟨hours, rate, hread⟩ := hcounted
  have hcount : ((setStore { s.store with ceHour := hours } s).bump (Reg.fstChCeCnt m) 1).reg (Reg.fstChCeCnt m) =
      wd (min 0xFFFFFFFF ((s.reg (Reg.fstChCeCnt m)).toNat + 1)) := by
    rw [State.reg_bump, if_pos rfl, setStore_reg]
  rw [hread]
  cases rate with
  | false => exact ⟨hcount, rfl, rfl⟩
  | true =>
    rw [if_pos rfl, raiseCh_reg_other m 0 _ (by simp only [Reg.fstChCeCnt]; omega) (by simp only [Reg.fstChCeCnt, Reg.fstChEvent]; omega), raiseCh_store]
    exact ⟨hcount, rfl, rfl⟩

/-- A burst and the addresses in it lie in one lane (R437). -/
theorem laneOfAddr_burst (a : Nat) : laneOfAddr (64 * (a / 64)) = laneOfAddr a := by
  simp only [laneOfAddr, extentBytes]
  exact Prod.ext (by dsimp only; omega) (by dsimp only; omega)

theorem setPoison_poison (b : Nat) (v : Bool) (s : State) :
    (setPoison b v s).store.poison.contains b =
      (s.store.lanePoison.contains (12 * (laneOfAddr (64 * b)).1 + (laneOfAddr (64 * b)).2) ^^ v) := by
  have hrest : (s.store.poison.filter (fun c => decide (c ≠ b))).contains b = false := by simp
  have hput : (setPoison b v s).store.poison =
      if (s.store.lanePoison.contains (12 * (laneOfAddr (64 * b)).1 + (laneOfAddr (64 * b)).2) ^^ v) then b :: s.store.poison.filter (fun c => decide (c ≠ b))
      else s.store.poison.filter (fun c => decide (c ≠ b)) := rfl
  rw [hput]
  split
  · next h => rw [h, List.contains_cons, beq_self_eq_true, Bool.true_or]
  · next h => rw [hrest, Bool.eq_false_iff.mpr h]

theorem burstPoisoned_of_marked {s t : State} {a : Nat} (hlane : t.store.lanePoison = s.store.lanePoison)
    (hmarked : t.store.poison = (setPoison (a / 64) true s).store.poison) : t.burstPoisoned a = true := by
  have hpoison := setPoison_poison (a / 64) true s
  rw [← hmarked, laneOfAddr_burst] at hpoison
  have hmark : ∀ x : Bool, (x ^^ (x ^^ true)) = true := by decide
  simp only [State.burstPoisoned]
  rw [hpoison, hlane, hmark, Bool.or_true]

/-- An uncorrectable read counted and its address recorded, before its event (R445). -/
def errorRecorded (m a : Nat) (s : State) : State :=
  (((setPoison (a / 64) true s).bump (Reg.fstChUeCnt m) 1).setReg (Reg.fstChUeAddrLo m) (wd a)).setReg (Reg.fstChUeAddrHi m) (wd (a / 0x100000000))

theorem readUncorrectable_eq (m a : Nat) (s : State) : readUncorrectable m a s = raiseCh m 1 (errorRecorded m a s) := rfl

theorem errorRecorded_store (m a : Nat) (s : State) : (errorRecorded m a s).store = (setPoison (a / 64) true s).store := by
  rw [errorRecorded, State.setReg_store, State.setReg_store, State.bump_store]

theorem errorRecorded_reg (m a : Nat) (s : State) :
    (errorRecorded m a s).reg (Reg.fstChUeCnt m) = wd (min 0xFFFFFFFF ((s.reg (Reg.fstChUeCnt m)).toNat + 1)) ∧
      (errorRecorded m a s).reg (Reg.fstChUeAddrLo m) = wd a ∧ (errorRecorded m a s).reg (Reg.fstChUeAddrHi m) = wd (a / 0x100000000) := by
  refine ⟨?_, ?_, (State.reg_setReg _ _ _ _).trans (if_pos rfl)⟩
  · rw [errorRecorded, State.reg_setReg_ne _ (by simp only [Reg.fstChUeCnt, Reg.fstChUeAddrHi]; omega),
      State.reg_setReg_ne _ (by simp only [Reg.fstChUeCnt, Reg.fstChUeAddrLo]; omega), State.reg_bump, if_pos rfl]
    rfl
  · rw [errorRecorded, State.reg_setReg_ne _ (by simp only [Reg.fstChUeAddrLo, Reg.fstChUeAddrHi]; omega), State.reg_setReg, if_pos rfl]

theorem readUncorrectable_spec (m a : Nat) (s : State) :
    let t := readUncorrectable m a s
    t.burstPoisoned a = true ∧ t.store.mem = s.store.mem ∧ t.reg (Reg.fstChUeCnt m) = wd (min 0xFFFFFFFF ((s.reg (Reg.fstChUeCnt m)).toNat + 1)) ∧
      t.reg (Reg.fstChUeAddrLo m) = wd a ∧ t.reg (Reg.fstChUeAddrHi m) = wd (a / 0x100000000) ∧ t.bit (Reg.fstChEvent m) 1 = true := by
  intro t
  have ht : t = raiseCh m 1 (errorRecorded m a s) := readUncorrectable_eq m a s
  have hstore : t.store = (setPoison (a / 64) true s).store := by rw [ht, raiseCh_store, errorRecorded_store]
  obtain ⟨hcount, hlo, hhi⟩ := errorRecorded_reg m a s
  rw [ht] at hstore ⊢
  refine ⟨burstPoisoned_of_marked (s := s) (by rw [hstore]; rfl) (by rw [hstore]), by rw [hstore]; rfl, Eq.trans (raiseCh_reg_other m 1 _ ?_ ?_) hcount,
    Eq.trans (raiseCh_reg_other m 1 _ ?_ ?_) hlo, Eq.trans (raiseCh_reg_other m 1 _ ?_ ?_) hhi, raiseCh_bit m (by decide) _⟩ <;>
    simp only [Reg.fstChUeCnt, Reg.fstChUeAddrLo, Reg.fstChUeAddrHi, Reg.fstChEvent] <;> omega

section
variable {s : State} (hen : s.bit Reg.fstScrubCtrl 16 = true) (hon : s.storeOn = true)
include hen hon

theorem scrub_runs : ¬ (!s.begin.bit Reg.fstScrubCtrl 16 || !s.begin.storeOn) = true := by
  show ¬ (!s.bit Reg.fstScrubCtrl 16 || !s.storeOn) = true
  simp [hen, hon]

theorem exec_patrolScrub_pass : exec (.patrolScrub [] true) s = .next (setStore { s.begin.store with scrubAt := s.now } s.begin) :=
  congrArg Host.Outcome.next (if_neg (scrub_runs hen hon))

theorem exec_patrolScrub_read (m a : Nat) (ue : Bool) : exec (.patrolScrub [(m, a, ue)] false) s = .next (storeRead m a ue s.begin) := by
  refine congrArg Host.Outcome.next ((if_neg (scrub_runs hen hon)).trans ((if_neg Bool.false_ne_true).trans ?_))
  rw [List.foldl_cons, List.foldl_nil]

end

/-- A read of an address of the store in the channel that holds it (R448). -/
theorem storeRead_held {m a : Nat} {s : State} (hin : a < s.extents * extentBytes) (hheld : s.laneCh (laneOfAddr a).1 (laneOfAddr a).2 = m) (ue : Bool) :
    storeRead m a ue s = if ue then (if s.burstPoisoned a then s else readUncorrectable m a s) else readCorrected m s := by
  rw [storeRead, if_neg (by omega)]

theorem storeRead_ignored {m a : Nat} {s : State} (h : s.burstPoisoned a = true ∨ s.extents * extentBytes ≤ a ∨ s.laneCh (laneOfAddr a).1 (laneOfAddr a).2 ≠ m) :
    storeRead m a true s = s := by
  by_cases hout : s.extents * extentBytes ≤ a ∨ s.laneCh (laneOfAddr a).1 (laneOfAddr a).2 ≠ m
  · rw [storeRead, if_pos hout]
  · rw [storeRead, if_neg hout, if_pos rfl, if_pos (h.resolve_right hout)]

/-! Self-refresh: what holds of a state holds of it once the outputs are forgotten -/

theorem State.sbRuns_begin (s : State) (n : Nat) : s.begin.sbRuns n = s.sbRuns n := by
  rw [State.sbRuns, State.destRuns_begin]
  rfl

theorem State.cpRuns_begin (s : State) (n : Nat) : s.begin.cpRuns n = s.cpRuns n := by
  rw [State.cpRuns, State.destRuns_begin]
  rfl

theorem State.stillPaced_begin (s : State) (obj : Nat) : s.begin.stillPaced obj = s.stillPaced obj := by
  simp only [State.stillPaced, State.sbRuns_begin, State.cpRuns_begin]
  rfl

theorem State.leastDeadline_begin (s : State) : s.begin.leastDeadline = s.leastDeadline := by
  simp only [State.leastDeadline, State.stillPaced_begin]
  rfl

theorem State.slackAllows_begin (s : State) (m : Nat) : s.begin.slackAllows m = s.slackAllows m := by
  rw [State.slackAllows, State.leastDeadline_begin]
  rfl

theorem State.exitDue_begin (s : State) (m : Nat) : s.begin.exitDue m = s.exitDue m := by
  rw [State.exitDue, State.leastDeadline_begin]
  rfl

theorem exec_selfRefreshEntry {s : State} {m : Nat} (hen : s.bit Reg.fstSrCtrl 0 = true) (hstate : s.chState m = 4 ∨ s.chState m = 6)
    (hquiet : s.quietChannel m = true) (hslack : s.slackAllows m = true) (hawake : tabGet m s.store.selfRefresh = none) :
    exec (.selfRefreshEntry m) s = .next (intoRefresh m s.begin) := by
  have hslack' : s.begin.slackAllows m = true := (s.slackAllows_begin m).trans hslack
  have hguard : (s.bit Reg.fstSrCtrl 0 && decide (s.chState m = 4 ∨ s.chState m = 6) && s.quietChannel m && s.begin.slackAllows m && !s.refreshing m) = true := by
    simp [hen, hstate, hquiet, hslack', State.refreshing, hawake]
  exact congrArg Host.Outcome.next (if_pos hguard)

theorem doSelfRefreshExit_eq {s : State} {m b : Nat} (hasleep : tabGet m s.store.selfRefresh = some b) (hmode : s.asleep = false) (host : Bool) :
    doSelfRefreshExit m host s = if s.now < b + 1000 ∨ (host || s.exitDue m) = false then s else outOfRefresh m s := by
  obtain ⟨hdoze, hdeep⟩ : s.mode ≠ .doze ∧ s.mode ≠ .deepSleep := by simpa [State.asleep] using hmode
  simp only [doSelfRefreshExit, hasleep, hdoze, hdeep, false_or]

theorem exec_selfRefreshExit_due {s : State} {m b : Nat} (hasleep : tabGet m s.store.selfRefresh = some b) (hmode : s.asleep = false) {host : Bool}
    (hdue : host = true ∨ s.exitDue m = true) (htime : b + 1000 ≤ s.now) :
    exec (.selfRefreshExit m host) s = .next (outOfRefresh m s.begin) := by
  have hguard : ¬ (s.begin.now < b + 1000 ∨ (host || s.begin.exitDue m) = false) := by
    rw [State.exitDue_begin]
    show ¬ (s.now < b + 1000 ∨ (host || s.exitDue m) = false)
    rcases hdue with hdue | hdue <;> simp [hdue, htime]
  exact congrArg Host.Outcome.next ((doSelfRefreshExit_eq (s := s.begin) hasleep hmode host).trans (if_neg hguard))

theorem exec_selfRefreshExit_stays {s : State} {m b : Nat} (hasleep : tabGet m s.store.selfRefresh = some b) (hmode : s.asleep = false) {host : Bool}
    (hstays : s.now < b + 1000 ∨ host = false ∧ s.exitDue m = false) : exec (.selfRefreshExit m host) s = .next { s with out := [] } := by
  have hguard : s.begin.now < b + 1000 ∨ (host || s.begin.exitDue m) = false := by
    rw [State.exitDue_begin]
    rcases hstays with h | ⟨hhost, hdue⟩
    · exact .inl h
    · exact .inr (by rw [hhost, hdue]; rfl)
  exact congrArg Host.Outcome.next ((doSelfRefreshExit_eq (s := s.begin) hasleep hmode host).trans (if_pos hguard))

/-- A channel that leaves self-refresh, and the time it was there (R459). -/
theorem outOfRefresh_spec {s : State} {m b : Nat} (hasleep : tabGet m s.store.selfRefresh = some b) :
    (∀ k, tabGet k (outOfRefresh m s).store.selfRefresh = if k = m then none else tabGet k s.store.selfRefresh) ∧
      (outOfRefresh m s).reg (Reg.fstChSrRes m) = wd (min 0xFFFFFFFF ((s.reg (Reg.fstChSrRes m)).toNat + (s.now - b) / 1000)) ∧
      ∀ a, a ≠ Reg.fstChSrRes m → (outOfRefresh m s).reg a = s.reg a := by
  have hout : outOfRefresh m s = (setStore { s.store with selfRefresh := tabDel m s.store.selfRefresh } s).bump (Reg.fstChSrRes m) ((s.now - b) / 1000) := by
    simp only [outOfRefresh, hasleep]
  rw [hout]
  refine ⟨fun k => ?_, (State.reg_bump _ _ _ _).trans (if_pos rfl), fun a ha => State.reg_setReg_ne _ ha _⟩
  rw [State.bump_store]
  exact tabGet_tabDel _ _ _

end Sys2Proof.Machine
end

section
/-! FRAME_COMPLETE of a sheet bend (R300, R314, R795). -/

namespace Sys2Proof.Machine

open Sys2Proof

/-- The frames of a sheet bend's ring, their count, the live context and the store stay. -/
def FramesKept (n : Nat) (s t : State) : Prop :=
  (t.sheetSt n).frames = (s.sheetSt n).frames ∧ (t.sheetSt n).count = (s.sheetSt n).count ∧ t.live = s.live ∧ t.store = s.store

theorem FramesKept.trans {n : Nat} {s t u : State} (h : FramesKept n s t) (g : FramesKept n t u) : FramesKept n s u := by
  obtain ⟨hframes, hcount, hlive, hstore⟩ := h
  obtain ⟨gframes, gcount, glive, gstore⟩ := g
  exact ⟨gframes.trans hframes, gcount.trans hcount, glive.trans hlive, gstore.trans hstore⟩

theorem sheetSt_setSheetSt (n : Nat) (v : SheetSt) (s : State) : (setSheetSt n v s).sheetSt n = v := (tabGetD_tabSet _ _ _ _ _).trans (if_pos rfl)

theorem FramesKept.setSheetSt {n : Nat} {v : SheetSt} {s : State} (hframes : v.frames = (s.sheetSt n).frames) (hcount : v.count = (s.sheetSt n).count) :
    FramesKept n s (setSheetSt n v s) := by
  refine ⟨?_, ?_, rfl, rfl⟩
  · rw [sheetSt_setSheetSt, hframes]
  · rw [sheetSt_setSheetSt, hcount]

theorem FramesKept.setF (n a hi lo v : Nat) (s : State) : FramesKept n s (s.setF a hi lo v) := ⟨rfl, rfl, rfl, rfl⟩

theorem FramesKept.raiseSb (n b : Nat) (s : State) : FramesKept n s (raiseSb n b s) := by
  have hparts := (raiseEn_reports (s.owner (objSb n)) (objSb n) (Reg.sbdEvent n) (Reg.sbdEventEn n) b s).parts
  obtain ⟨-, -, -, -, heng, hstore, -, -, -, -, -, -, -, hlive, -, -⟩ := hparts
  have hsheet : (Machine.raiseSb n b s).sheetSt n = s.sheetSt n := congrArg (fun e : EngineState => tabGetD sheetInit n e.sheets) heng
  exact ⟨congrArg SheetSt.frames hsheet, congrArg SheetSt.count hsheet, hlive, hstore⟩

theorem FramesKept.ite {n : Nat} {s t u : State} {c : Prop} [Decidable c] (h : FramesKept n s t) (g : FramesKept n s u) : FramesKept n s (if c then t else u) := by
  split
  · exact h
  · exact g

/-- The history of a cadence is no frame. -/
theorem FramesKept.history (n : Nat) (hd hk : List Bool) (s : State) : FramesKept n s (Machine.setSheetSt n { s.sheetSt n with histD := hd, histK := hk } s) :=
  FramesKept.setSheetSt rfl rfl

/-- The cadence is judged from its history alone (R314, R315). -/
theorem cadenceStep_framesKept (n d k : Nat) (s : State) : FramesKept n s (cadenceStep n d k s) := by
  unfold cadenceStep
  refine FramesKept.ite ((FramesKept.history n [] [] s).trans (FramesKept.setF n _ _ _ _ _)) (FramesKept.ite ?_ (FramesKept.ite ?_ ?_))
  · exact FramesKept.ite (FramesKept.history n _ _ s) ((FramesKept.history n _ _ s).trans ((FramesKept.setF n _ _ _ _ _).trans (FramesKept.raiseSb n 2 _)))
  · exact (FramesKept.history n _ _ s).trans ((FramesKept.setF n _ _ _ _ _).trans (FramesKept.raiseSb n 3 _))
  · exact FramesKept.setSheetSt (by split <;> rfl) (by split <;> rfl)

/-- The newest frame of a ring of 48 is the one just written. -/
theorem keepFrame_sheetSt (n start : Nat) (second : Bool) (s : State) :
    ((keepFrame n start second s).sheetSt n).frames.getLast? = some ⟨(s.sheetSt n).count, start, second⟩ ∧
      ((keepFrame n start second s).sheetSt n).count = (s.sheetSt n).count + 1 := by
  simp only [keepFrame]
  rw [sheetSt_setSheetSt]
  refine ⟨?_, rfl⟩
  rw [List.getLast?_drop, if_neg (by simp only [List.length_append, List.length_singleton]; omega), List.getLast?_concat]

theorem exec_frameComplete {w : FrameWriter} {s : State} (h : s.zone (writerZone w) ≠ 3) : exec (.frameComplete w) s = .next (doFrameComplete w s.begin) :=
  congrArg Host.Outcome.next (unlessStopped_runs (s := s.begin) h _)

theorem exec_frameComplete_sheet {s : State} {n : Nat} (hzone : s.zone (sbZone n) ≠ 3) (hsync : sbTiming s.liveView n = 1) (hlead : s.sbLead n = n)
    (hruns : s.sbRuns n = true) (start : Nat) (second : Bool) (d k : Nat) :
    exec (.frameComplete (.sheet n start second d k)) s = .next (cadenceStep n d k (keepFrame n start second s.begin)) := by
  have hruns' : s.begin.sbRuns n = true := (s.sbRuns_begin n).trans hruns
  have hguard : (decide (sbTiming s.liveView n = 1 ∧ s.sbLead n = n) && s.begin.sbRuns n) = true := by
    rw [hruns', Bool.and_true, decide_eq_true ⟨hsync, hlead⟩]
  exact (exec_frameComplete (w := .sheet n start second d k) hzone).trans (congrArg Host.Outcome.next (if_pos hguard))

end Sys2Proof.Machine
end

section
/-! FRAME_COMPLETE of a recorder: the slot that is final, and the next one (R462, R463, R465, R795). -/

namespace Sys2Proof.Machine

open Sys2Proof

theorem recSt_setRecSt (r : Nat) (v : RecSt) (s : State) : (setRecSt r v s).recSt r = v := (tabGetD_tabSet _ _ _ _ _).trans (if_pos rfl)

/-! What tells which slots readers hold -/

/-- The live context, the players and the engines: what shows which frames readers hold. -/
def ReadersKept (s t : State) : Prop := t.live = s.live ∧ t.store.plys = s.store.plys ∧ t.eng = s.eng

theorem ReadersKept.trans {s t u : State} (h : ReadersKept s t) (g : ReadersKept t u) : ReadersKept s u := by
  obtain ⟨hlive, hplys, heng⟩ := h
  obtain ⟨glive, gplys, geng⟩ := g
  exact ⟨glive.trans hlive, gplys.trans hplys, geng.trans heng⟩

theorem ReadersKept.setRecSt (r : Nat) (v : RecSt) (s : State) : ReadersKept s (setRecSt r v s) := ⟨rfl, rfl, rfl⟩

theorem WindowUsed.readersKept {s u : State} (h : WindowUsed s u) : ReadersKept s u := by
  obtain ⟨hparts, -⟩ := h
  exact ⟨by rw [hparts], by rw [hparts], by rw [hparts]⟩

theorem WindowUsed.recSt {s u : State} (h : WindowUsed s u) (r : Nat) : u.recSt r = s.recSt r := by
  have hrecs : u.store.recs = s.store.recs := by rw [h.1]
  simp only [State.recSt, hrecs]

theorem Writes.readersKept {p : Nat → Prop} {s t : State} (h : Writes p s t) : ReadersKept s t := by
  obtain ⟨hparts, -⟩ := h
  exact ⟨by rw [hparts], by rw [hparts], by rw [hparts]⟩

section
variable {s t : State} (h : ReadersKept s t)
include h

theorem ReadersKept.liveReg : t.liveReg = s.liveReg := by
  funext a
  simp only [State.liveReg, h.1]

theorem ReadersKept.recRing (r : Nat) : t.recRing r = s.recRing r := by
  simp only [State.recRing, State.lf, h.liveReg]

theorem ReadersKept.heldSeqs (r : Nat) : t.heldSeqs r = s.heldSeqs r := by
  obtain ⟨hlive, hplys, heng⟩ := h
  have hreads : t.heldSeqs r = ({ s with live := t.live, eng := t.eng, store := { s.store with plys := t.store.plys } } : State).heldSeqs r := rfl
  rw [hreads, hlive, hplys, heng]

end

theorem slotHeld_of_readersKept {s t : State} (h : ReadersKept s t) {r n : Nat} (hhead : tabGet n (t.recSt r).heads = tabGet n (s.recSt r).heads) :
    t.slotHeld r n = s.slotHeld r n := by
  simp only [State.slotHeld, hhead, h.heldSeqs]

/-! Headers and pixels -/

theorem writePart_used (t p : Nat) (l : List Byte) (s : State) : WindowUsed s (writePart t p l s) := writeBytes_used _ _ s

theorem writeRows_used (t a : Nat) (f : Format) (rows : List (List Px)) (s : State) : WindowUsed s (writeRows t a f rows s) :=
  WindowUsed.foldl (fun s _ => writePart_used _ _ _ s) _ s

/-- A recorder with a header kept for a slot. -/
def headKept (r slot : Nat) (h : SlotHead) (s : State) : State := setRecSt r { s.recSt r with heads := tabSet slot h (s.recSt r).heads } s

theorem putHead_used (r slot : Nat) (h : SlotHead) (s : State) : WindowUsed (headKept r slot h s) (putHead r slot h s) := by
  unfold putHead
  dsimp only
  split
  · exact writePart_used _ _ _ _
  · exact WindowUsed.refl _

theorem putHead_recSt (r slot : Nat) (h : SlotHead) (s : State) :
    (putHead r slot h s).recSt r = { s.recSt r with heads := tabSet slot h (s.recSt r).heads } :=
  ((putHead_used r slot h s).recSt r).trans (recSt_setRecSt r _ s)

theorem putHead_readersKept (r slot : Nat) (h : SlotHead) (s : State) : ReadersKept s (putHead r slot h s) :=
  (ReadersKept.setRecSt r _ s).trans (putHead_used r slot h s).readersKept

theorem refreshRec_writes (r : Nat) (s : State) : Writes (fun _ => True) s (refreshRec r s) := by
  unfold refreshRec
  split
  · exact Writes.refl _ s
  · exact ((Writes.setReg (p := fun _ => True) trivial _ s).trans (Writes.setReg trivial _ _)).trans (Writes.setReg trivial _ _)

/-! The slot that is final -/

/-- The header of a frame that is complete, ABSENT or not (R462). -/
def finalHead (h : SlotHead) (f : Format) (absent : Bool) : SlotHead :=
  ⟨h.seq, h.time, fmtWord f, fmtSizeWord f, fmtRateWord f, storeCode f, 1 + 2 * b2n absent⟩

/-- A slot whose frame is complete: nothing is being written, and its header is final. -/
def slotFinal (r k : Nat) (x : SlotHead) (s : State) : State :=
  let t := putHead r k x s
  refreshRec r (setRecSt r { t.recSt r with writing := none } t)

theorem slotFinal_recSt (r k : Nat) (x : SlotHead) (s : State) :
    (slotFinal r k x s).recSt r = { s.recSt r with heads := tabSet k x (s.recSt r).heads, writing := none } := by
  have hrecs := congrArg StoreState.recs (refreshRec_writes r (setRecSt r { (putHead r k x s).recSt r with writing := none } (putHead r k x s))).store
  refine (congrArg (tabGetD recInit r) hrecs).trans ((recSt_setRecSt r _ _).trans ?_)
  rw [putHead_recSt]

theorem slotFinal_readersKept (r k : Nat) (x : SlotHead) (s : State) : ReadersKept s (slotFinal r k x s) :=
  ((putHead_readersKept r k x s).trans (ReadersKept.setRecSt r _ _)).trans (refreshRec_writes r _).readersKept

/-- The lines of a frame that is there, in the slot after its header (R461). -/
def pixelsWritten (r k : Nat) (absent : Bool) (rows : List (List Px)) (f : Format) (s : State) : State :=
  if absent then s
  else
    match s.owner (objRec r) with
    | some t => writeRows t ((s.recRing r).1 + (s.recRing r).2.1 * k + 256) f (rows.take f.height) s
    | none => s

theorem pixelsWritten_used (r k : Nat) (absent : Bool) (rows : List (List Px)) (f : Format) (s : State) : WindowUsed s (pixelsWritten r k absent rows f s) := by
  unfold pixelsWritten
  split
  · exact WindowUsed.refl s
  · split
    · exact writeRows_used _ _ _ _ s
    · exact WindowUsed.refl s

/-- A frame that was absent, or fits its slot and was not cut short, ends complete (R461, R463). -/
theorem finishSlot_final {r k : Nat} {absent : Bool} {f : Format} {h : SlotHead} {s : State} (hwriting : (s.recSt r).writing = some k)
    (hhead : tabGet k (s.recSt r).heads = some h)
    (hfits : absent = true ∨ storedFrame f ≤ (s.recRing r).2.1 - 256 ∧ s.bit (Reg.fstRecStatus r) 2 = false) (rows : List (List Px)) :
    finishSlot r absent rows f s = slotFinal r k (finalHead h f absent) (pixelsWritten r k absent rows f s) := by
  have hunfit : (!absent && (decide ((s.recRing r).2.1 - 256 < storedFrame f) || s.bit (Reg.fstRecStatus r) 2)) = false := by
    rcases hfits with habsent | ⟨hsize, hcut⟩
    · rw [habsent]; rfl
    · rw [decide_eq_false (by omega), hcut, Bool.or_false, Bool.and_false]
  have hold : tabGet k ((pixelsWritten r k absent rows f s).recSt r).heads = some h := by rw [(pixelsWritten_used r k absent rows f s).recSt, hhead]
  have hfinal : finishSlot r absent rows f s = slotFinal r k
      ⟨((tabGet k ((pixelsWritten r k absent rows f s).recSt r).heads).map (fun h => h.seq)).getD 0,
        ((tabGet k ((pixelsWritten r k absent rows f s).recSt r).heads).map (fun h => h.time)).getD 0,
        fmtWord f, fmtSizeWord f, fmtRateWord f, storeCode f, 1 + 2 * b2n absent + 4 * b2n false⟩ (pixelsWritten r k absent rows f s) := by
    simp only [finishSlot, hwriting, hunfit, Bool.or_false, if_false, Bool.false_eq_true]
    rfl
  rw [hfinal, hold]
  rfl

/-! The next slot -/

/-- The header of a slot that is started (R463). -/
def firstHead (seq time : Nat) (f : Format) : SlotHead := ⟨seq, time, fmtWord f, fmtSizeWord f, fmtRateWord f, storeCode f, 0⟩

/-- The slot that a recorder starts: it is being written, and its header takes the next SEQ (R463). -/
def slotStarted (r k time depth : Nat) (f : Format) (s : State) : State :=
  putHead r k (firstHead (s.recSt r).nextSeq time f)
    (setRecSt r { s.recSt r with nextSeq := (s.recSt r).nextSeq + 1, nextSlot := (k + 1) % depth, writing := some k, skipped := false } s)

theorem freeSlot_next {s : State} {r n depth : Nat} (hn : n < depth) (hfree : s.slotHeld r n = false) : s.freeSlot r n depth = some n := by
  obtain ⟨d, rfl⟩ := Nat.exists_eq_add_of_lt hn
  have hfirst : (n + 0) % max (n + d + 1) 1 = n := by rw [Nat.add_zero, Nat.max_eq_left (by omega), Nat.mod_eq_of_lt hn]
  rw [State.freeSlot, List.range_succ_eq_map, List.map_cons, hfirst, List.find?_cons_of_pos (by simp [hfree])]

theorem startSlot_free {s : State} {r : Nat} (hdepth : 0 < (s.recRing r).2.2)
    (hfree : s.slotHeld r ((s.recSt r).nextSlot % (s.recRing r).2.2) = false) (time : Nat) (f : Format) :
    startSlot r time f s = slotStarted r ((s.recSt r).nextSlot % (s.recRing r).2.2) time (s.recRing r).2.2 f s := by
  have hmax : max (s.recRing r).2.2 1 = (s.recRing r).2.2 := Nat.max_eq_left hdepth
  have hnext := freeSlot_next (Nat.mod_lt _ hdepth) hfree
  simp only [startSlot, hmax, hnext, if_true]
  rfl

theorem slotStarted_recSt (r k time depth : Nat) (f : Format) (s : State) :
    (slotStarted r k time depth f s).recSt r =
      ⟨(s.recSt r).nextSeq + 1, (k + 1) % depth, some k,
        tabSet k (firstHead (s.recSt r).nextSeq time f) (s.recSt r).heads, (s.recSt r).fmt, (s.recSt r).lost, false⟩ := by
  rw [slotStarted, putHead_recSt, recSt_setRecSt]

end Sys2Proof.Machine
end

section
/-! What FRAME_COMPLETE leaves of a recorder whose next slot is free (R463). -/

namespace Sys2Proof.Machine

open Sys2Proof

/-- A recorder that writes a slot ends it and starts the next (R463). -/
theorem exec_frameComplete_recorder {s : State} {r k : Nat} {f : Format} (hzone : s.zone (r / 16) ≠ 3) (hon : s.bit (Reg.fstRecStatus r) 0 = true)
    (hhitch : (s.hitch (s.recEo r)).isSome = true) (hformat : s.eoFormat s.liveReg (s.recEo r) = some f) (hwriting : (s.recSt r).writing = some k)
    (absent : Bool) (time next : Nat) (rows : List (List Px)) :
    exec (.frameComplete (.recorder r absent time next rows)) s = .next (startSlot r next f (finishSlot r absent rows f s.begin)) := by
  have hguard : ¬ (!s.begin.bit (Reg.fstRecStatus r) 0 || (s.begin.hitch (s.begin.recEo r)).isNone) = true := by
    show ¬ (!s.bit (Reg.fstRecStatus r) 0 || (s.hitch (s.recEo r)).isNone) = true
    simp [hon, Option.isNone_eq_false_iff.mpr hhitch]
  have hformat' : s.begin.eoFormat s.begin.liveReg (s.begin.recEo r) = some f := (s.eoFormat_begin _ _).trans hformat
  have hwriting' : (s.begin.recSt r).writing = some k := hwriting
  refine (exec_frameComplete (w := .recorder r absent time next rows) hzone).trans (congrArg Host.Outcome.next ?_)
  show recorderFrame r absent time next rows s.begin = _
  rw [recorderFrame, if_neg hguard]
  simp only [hformat', hwriting', Option.isNone_some, Bool.false_and, Bool.false_eq_true, if_false]

/-- The recorder once its frame is complete and the next slot is started. -/
theorem recorder_nextFrame {s : State} {r k : Nat} {absent : Bool} {f : Format} {h : SlotHead} (hwriting : (s.recSt r).writing = some k)
    (hhead : tabGet k (s.recSt r).heads = some h) (hnext : (s.recSt r).nextSlot % (s.recRing r).2.2 ≠ k) (hdepth : 0 < (s.recRing r).2.2)
    (hfree : s.slotHeld r ((s.recSt r).nextSlot % (s.recRing r).2.2) = false)
    (hfits : absent = true ∨ storedFrame f ≤ (s.recRing r).2.1 - 256 ∧ s.bit (Reg.fstRecStatus r) 2 = false) (next : Nat) (rows : List (List Px)) :
    (startSlot r next f (finishSlot r absent rows f s)).recSt r =
      ⟨(s.recSt r).nextSeq + 1, ((s.recSt r).nextSlot % (s.recRing r).2.2 + 1) % (s.recRing r).2.2, some ((s.recSt r).nextSlot % (s.recRing r).2.2),
        tabSet ((s.recSt r).nextSlot % (s.recRing r).2.2) (firstHead (s.recSt r).nextSeq next f) (tabSet k (finalHead h f absent) (s.recSt r).heads),
        (s.recSt r).fmt, (s.recSt r).lost, false⟩ := by
  have hpixels := pixelsWritten_used r k absent rows f s
  have hrec := slotFinal_recSt r k (finalHead h f absent) (pixelsWritten r k absent rows f s)
  have hreaders := hpixels.readersKept.trans (slotFinal_readersKept r k (finalHead h f absent) (pixelsWritten r k absent rows f s))
  rw [hpixels.recSt] at hrec
  rw [finishSlot_final hwriting hhead hfits]
  generalize slotFinal r k (finalHead h f absent) (pixelsWritten r k absent rows f s) = t at hrec hreaders ⊢
  have hring := hreaders.recRing r
  have hfree' : t.slotHeld r ((t.recSt r).nextSlot % (t.recRing r).2.2) = false := by
    rw [hrec, hring]
    refine (slotHeld_of_readersKept hreaders ?_).trans hfree
    rw [hrec, tabGet_tabSet, if_neg hnext]
  rw [startSlot_free (by rw [hring]; exact hdepth) hfree', slotStarted_recSt, hring, hrec]

end Sys2Proof.Machine
end

section
/-! PLAYER_CUE (R469). -/

namespace Sys2Proof.Machine

open Sys2Proof

theorem findRegion_fstPly {n off : Nat} (hn : n < 256) (hoff : off < 0x40) :
    findRegion (0x348000 + 0x40 * n + off) regions = some (.fstPly, n, 0, off) := by
  have hin : inRegion (0x348000 + 0x40 * n + off) ⟨.fstPly, 0x348000, 0x40, 256, 0x0, 1, 0x40⟩ = some (n, 0, off) := by
    have hbase : ¬ 0x348000 + 0x40 * n + off < 0x348000 := by omega
    have hwindow : (0x348000 + 0x40 * n + off - 0x348000) / 0x40 = n := by omega
    have hrest : 0x348000 + 0x40 * n + off - 0x348000 - n * 0x40 = off := by omega
    simp [inRegion, hbase, hwindow, hrest, hn, hoff]
  simp only [findRegion, regions, List.cons_append, List.nil_append]
  rw [hin]
  repeat rw [inRegion_none (by dsimp only; omega)]

/-- The registers of a cue lie in a player's window. -/
theorem locate_cue {n a : Nat} (hn : n < 256) (ha : a = Reg.fstPlyCueLo n ∨ a = Reg.fstPlyCueHi n) : ∃ l, locate a = some l ∧ l.kind = .fstPly := by
  rcases ha with rfl | rfl
  · have hrow : findRow 0xC (rowsOf .fstPly) = some (_, _) := rfl
    simp [locate, Reg.fstPlyCueLo, findRegion_fstPly hn (show 0xC < 0x40 by decide), hrow]
  · have hrow : findRow 0x10 (rowsOf .fstPly) = some (_, _) := rfl
    simp [locate, Reg.fstPlyCueHi, findRegion_fstPly hn (show 0x10 < 0x40 by decide), hrow]

/-- A cue takes effect with nothing to follow (R467). -/
theorem applyReg_cue {n a : Nat} (hn : n < 256) (ha : a = Reg.fstPlyCueLo n ∨ a = Reg.fstPlyCueHi n) (v : Word) (s : State) :
    applyReg a v s = (s.setLive a v).setReg a v := by
  obtain ⟨l, hl, hkind⟩ := locate_cue hn ha
  have hctrl : a ≠ Reg.fstPlyCtrl l.i := by
    rcases ha with rfl | rfl
    · simp only [Reg.fstPlyCueLo, Reg.fstPlyCtrl]; omega
    · simp only [Reg.fstPlyCueHi, Reg.fstPlyCtrl]; omega
  simp only [applyReg, objApplied, hl, hkind, if_neg hctrl]

theorem State.objRuns_begin (s : State) (obj : Nat) : s.begin.objRuns obj = s.objRuns obj := by
  rw [State.objRuns, State.destRuns_begin]
  rfl

theorem playerCueCheck_lt {o : Origin} {n time : Nat} {s : State} (h : playerCueCheck o n time s = none) : n < 256 := by
  have hneed := need_none (firstRefusal_none h (need (decide (n < 256)) .badField (objPly n)) List.mem_cons_self)
  simpa using hneed

/-- A player's cue in both contexts (R469). -/
def cued (n q : Nat) (s : State) : State :=
  let t := (s.setLive (Reg.fstPlyCueLo n) (wd q)).setReg (Reg.fstPlyCueLo n) (wd q)
  (t.setLive (Reg.fstPlyCueHi n) (wd (q / 0x100000000))).setReg (Reg.fstPlyCueHi n) (wd (q / 0x100000000))

theorem cued_liveReg (n q : Nat) (s : State) :
    (cued n q s).liveReg (Reg.fstPlyCueLo n) = wd q ∧ (cued n q s).liveReg (Reg.fstPlyCueHi n) = wd (q / 0x100000000) := by
  have hne : Reg.fstPlyCueLo n ≠ Reg.fstPlyCueHi n := by simp only [Reg.fstPlyCueLo, Reg.fstPlyCueHi]; omega
  simp only [cued]
  constructor
  · rw [State.liveReg_setReg, State.liveReg_setLive, if_neg hne, State.liveReg_setReg, State.liveReg_setLive, if_pos rfl]
  · rw [State.liveReg_setReg, State.liveReg_setLive, if_pos rfl]

theorem exec_playerCue {s : State} {o : Origin} (hacc : Accepted o s) {n time q : Nat} (hcheck : playerCueCheck o n time s.begin = none)
    (hframe : s.cueFrame n time = some q) (hrests : s.objRuns (objPly n) = false) :
    exec (.playerCue o n time) s = .next (completeOk o (enginesRefresh (cued n q s.begin))) := by
  have hn := playerCueCheck_lt hcheck
  have hframe' : (s.begin.cueFrame n time).getD 0 = q := congrArg (fun x : Option Nat => x.getD 0) hframe
  have hrests' : (!s.begin.objRuns (objPly n)) = true := by rw [State.objRuns_begin, hrests]; rfl
  refine congrArg Host.Outcome.next ((loneCommand_accepted hacc .working hcheck _).trans ?_)
  dsimp only
  rw [hframe', stageObject, if_pos hrests', List.foldl_cons, List.foldl_cons, List.foldl_nil, applyReg_cue hn (.inr rfl), applyReg_cue hn (.inl rfl)]
  rfl

end Sys2Proof.Machine
end

section
/-! The statement on the use of the frame store. -/

namespace Sys2Proof.Machine

open Sys2Proof

/-- Settles O56: what a request to the window moves, what a read that was not clean leaves, and what each of the other commands writes, by the lemma of its command. -/
theorem storeUse : Obligations.StoreUse := by
  intro s
  refine ⟨fun t off ht => ⟨fun data hopen hready hpart hholds => ?_, fun n hopen hready hfree hclean => ?_, fun n data hclosed => exec_bar2_closed hclosed t off n data⟩,
    fun hen hon m a hm => ⟨?_, fun hin hheld => ?_, fun hin hheld hclean => ?_, fun hignored => ?_⟩,
    fun m hm => ⟨fun hen hstate hquiet hslack hawake => ?_, fun b hasleep hmode => ⟨fun host hdue htime => ?_, fun host hstays => ?_⟩⟩,
    fun n start second d k hzone hsync hlead hruns => ?_, fun r absent time next rows f k h => ?_, fun o n time q hacc hcheck hframe hrests => ?_⟩
  · obtain ⟨u, hexec, ⟨hparts, hregs⟩, hbytes⟩ := exec_bar2Write hopen hready hpart hholds
    exact ⟨u, hexec, hregs, hparts, hbytes⟩
  · obtain ⟨hmem, hpoison⟩ := s.woken_bytes t off n
    obtain ⟨hparts, hregs⟩ := s.woken_used t off n
    refine ⟨_, exec_bar2Read hopen hready hfree hclean, ?_, hregs, ?_⟩
    · rw [hparts]
      rfl
    · rw [hparts, hmem, hpoison]
      rfl
  · exact ⟨_, exec_patrolScrub_pass hen hon, rfl⟩
  · have hread := storeRead_held (s := s.begin) hin hheld false
    obtain ⟨hcount, hmem, hpoison⟩ := readCorrected_spec m s.begin
    refine ⟨readCorrected m s.begin, (exec_patrolScrub_read hen hon m a false).trans (congrArg Host.Outcome.next hread), hcount, hmem, hpoison⟩
  · have hread := (storeRead_held (s := s.begin) hin hheld true).trans ((if_pos rfl).trans (if_neg (Bool.eq_false_iff.mp hclean)))
    obtain ⟨hmarked, hmem, hregs⟩ := readUncorrectable_spec m a s.begin
    exact ⟨_, (exec_patrolScrub_read hen hon m a true).trans (congrArg Host.Outcome.next hread), hmarked, hmem, hregs⟩
  · exact (exec_patrolScrub_read hen hon m a true).trans (congrArg Host.Outcome.next (storeRead_ignored (s := s.begin) hignored))
  · exact ⟨_, exec_selfRefreshEntry hen hstate hquiet hslack hawake, rfl, fun k => tabGet_tabSet _ _ _ _⟩
  · exact ⟨_, exec_selfRefreshExit_due hasleep hmode hdue htime, outOfRefresh_spec (s := s.begin) hasleep⟩
  · exact exec_selfRefreshExit_stays hasleep hmode hstays
  · obtain ⟨hnewest, hcount⟩ := keepFrame_sheetSt n start second s.begin
    obtain ⟨hframes, hcount', hlive, hstore⟩ := cadenceStep_framesKept n d k (keepFrame n start second s.begin)
    exact ⟨_, exec_frameComplete_sheet hzone hsync hlead hruns start second d k, (congrArg List.getLast? hframes).trans hnewest, hcount'.trans hcount, hlive, hstore⟩
  · intro n hr hzone hon hhitch hformat hwriting hhead hnext hdepth hfree hfits
    have hrec := recorder_nextFrame (s := s.begin) hwriting hhead hnext hdepth hfree hfits next rows
    refine ⟨_, finalHead h f absent, firstHead (s.recSt r).nextSeq next f,
      exec_frameComplete_recorder hzone hon hhitch hformat hwriting absent time next rows, ?_, rfl, rfl, ?_, ?_, ?_, rfl, rfl, rfl, ?_⟩
    · rw [hrec, tabGet_tabSet]
      exact (if_neg hnext.symm).trans ((tabGet_tabSet _ _ _ _).trans (if_pos rfl))
    · cases absent <;> rfl
    · rw [hrec]; rfl
    · rw [hrec, tabGet_tabSet]; exact if_pos rfl
    · rw [hrec]; rfl
  · obtain ⟨hlo, hhi⟩ := cued_liveReg n q s.begin
    exact ⟨_, exec_playerCue hacc hcheck hframe hrests, hlo, hhi, rfl⟩

end Sys2Proof.Machine
end

section
/-! AUDIO_HITCH, AUDIO_UNHITCH and AUDIO_PORT_SET (R495, R504, R535, R540): the change that waits, and the ports that take FADE and AGROUP. -/

namespace Sys2Proof.Machine

open Sys2Proof

/-! What MAILBOX leaves -/

theorem mailbox_aud (f : Nat) (s : State) : (mailbox f s).aud = s.aud := by
  rw [mailbox, fidEvent_parts]

theorem mailbox_reg (f : Nat) (s : State) {a : Nat} (h : a ≠ Reg.fidStatus f) : (mailbox f s).reg a = s.reg a := by
  rw [mailbox, fidEvent_reg, if_neg (fun hw => h hw.2)]

theorem reg_setAud (x : AudioState) (s : State) (a : Nat) : (setAud x s).reg a = s.reg a := rfl

/-! Hitches -/

/-- Where no change waits for the port, a hitch change outside groups is added to those that wait (R495). -/
theorem audioHitchEffect_waits {s : State} {amo : Nat} (h : ∀ a ∈ s.aud.arms, a.amo ≠ amo) (o : Origin) (ami : Option Nat) :
    audioHitchEffect o amo ami 0 s = setAud { s.aud with arms := s.aud.arms ++ [⟨amo, ami, some o, s.now + 50000⟩] } s := by
  have holds : s.aud.arms.filter (fun a => decide (a.amo = amo)) = [] := List.filter_eq_nil_iff.mpr (by simpa using h)
  have hrest : s.aud.arms.filter (fun a => decide (a.amo ≠ amo)) = s.aud.arms := List.filter_eq_self.mpr (by simpa using h)
  rw [audioHitchEffect, if_pos rfl, holds, hrest]
  rfl

/-- A change that waited for the same port ends with ABORTED (R495). -/
theorem audioHitchEffect_replaces {s : State} {amo due : Nat} {p : Option Nat} {x : Origin} (h : s.aud.arms = [⟨amo, p, some x, due⟩]) (o : Origin)
    (ami : Option Nat) : audioHitchEffect o amo ami 0 s =
      complete x .aborted (objAmo amo) (setAud { s.aud with arms := [⟨amo, ami, some o, s.now + 50000⟩] } s) := by
  simp [audioHitchEffect, h]

theorem exec_audioHitch {o : Origin} {amo ami group : Nat} {s : State} (h : Accepted o s) (hc : audioHitchCheck o amo (some ami) group none s.begin = none) :
    exec (.audioHitch o amo ami group) s = .next (mailbox (faOf amo) (audioHitchEffect o amo (some ami) group s.begin)) :=
  congrArg Host.Outcome.next (hostCommand_accepted h true .working (check := audioHitchCheck o amo (some ami) group) hc _ _)

theorem exec_audioUnhitch {o : Origin} {amo group : Nat} {s : State} (h : Accepted o s) (hc : audioHitchCheck o amo none group none s.begin = none) :
    exec (.audioUnhitch o amo group) s = .next (mailbox (faOf amo) (audioHitchEffect o amo none group s.begin)) :=
  congrArg Host.Outcome.next (hostCommand_accepted h true .working (check := audioHitchCheck o amo none group) hc _ _)

/-! Port configuration -/

theorem setReg_writes (a : Nat) (v : Word) (s : State) : Writes (· = a) s (s.setReg a v) := Writes.setReg (p := (· = a)) rfl v s

theorem refreshAgroup_writes (g : Nat) (s : State) : Writes (· = Reg.audAgrpStatus g) s (refreshAgroup g s) :=
  (((setReg_writes _ _ s).trans (setReg_writes _ _ _)).trans (setReg_writes _ _ _)).trans (setReg_writes _ _ _)

/-- The registers that show the aligned groups' status (R545). -/
def ShowsAgroup (a : Nat) : Prop := ∃ g, g < 256 ∧ a = Reg.audAgrpStatus g

theorem State.amoGroup_lt {s : State} {n g : Nat} (h : s.amoGroup n = some g) : g < 256 := by
  have hlt : s.f (Reg.audAmoCfg n) 15 8 < 256 := Nat.mod_lt _ (by decide)
  unfold State.amoGroup at h
  dsimp only at h
  split at h
  · cases h
  · injection h with h
    omega

/-- The status of a port's group follows, where the port has one. -/
theorem refreshAmoGroup_writes (s u : State) (n : Nat) : Writes ShowsAgroup u (match s.amoGroup n with | some g => refreshAgroup g u | none => u) := by
  cases h : s.amoGroup n with
  | none => exact Writes.refl _ u
  | some g => exact (refreshAgroup_writes g u).mono (fun _ ha => ⟨g, State.amoGroup_lt h, ha⟩)

theorem not_showsAgroup_amoCfg {n : Nat} (hn : n < 8192) : ¬ ShowsAgroup (Reg.audAmoCfg n) := by
  rintro ⟨g, -, hg⟩
  simp only [Reg.audAmoCfg, Reg.audAgrpStatus] at hg
  omega

/-- Registers and delay lines are all that differs. -/
def LinesRegs (s t : State) : Prop := t = { s with regs := t.regs, aud := { s.aud with lines := t.aud.lines } }

theorem LinesRegs.trans {s t u : State} (h : LinesRegs s t) (g : LinesRegs t u) : LinesRegs s u := by
  unfold LinesRegs at h g ⊢
  rw [g, h]

theorem Writes.linesRegs {p : Nat → Prop} {s t : State} (h : Writes p s t) : LinesRegs s t := by
  obtain ⟨h, -⟩ := h
  unfold LinesRegs
  rw [h]

theorem LinesRegs.of_aud {s t : State} {x : AudioState} (h : LinesRegs s t) (hx : s.aud = x) :
    t = { s with regs := t.regs, aud := { x with lines := t.aud.lines } } := by
  subst hx
  exact h

/-- With another FADE the output starts over with nothing held (R540). -/
def lineKept (amo fade : Nat) (s : State) : State :=
  if s.f (Reg.audAmoCfg amo) 1 0 = fade then s else setAud { s.aud with lines := tabDel amo s.aud.lines } s

theorem lineKept_same {amo fade : Nat} {s : State} (h : s.f (Reg.audAmoCfg amo) 1 0 = fade) : lineKept amo fade s = s := if_pos h

theorem lineKept_other {amo fade : Nat} {s : State} (h : s.f (Reg.audAmoCfg amo) 1 0 ≠ fade) :
    lineKept amo fade s = setAud { s.aud with lines := tabDel amo s.aud.lines } s := if_neg h

theorem lineKept_linesRegs (amo fade : Nat) (s : State) : LinesRegs s (lineKept amo fade s) := by
  by_cases h : s.f (Reg.audAmoCfg amo) 1 0 = fade
  · rw [lineKept_same h]
    rfl
  · rw [lineKept_other h]
    rfl

theorem lineKept_reg (amo fade : Nat) (s : State) (a : Nat) : (lineKept amo fade s).reg a = s.reg a := by
  by_cases h : s.f (Reg.audAmoCfg amo) 1 0 = fade
  · rw [lineKept_same h]
  · rw [lineKept_other h, reg_setAud]

/-- A port's AUD_AMO_CFG and delay line as FADE and AGROUP are written, before its groups' status follows (R540). -/
def amoCfgTaken (amo fade agroup : Nat) (s : State) : State :=
  ((lineKept amo fade s).setF (Reg.audAmoCfg amo) 1 0 fade).setF (Reg.audAmoCfg amo) 15 8 agroup

theorem setAmoCfg_writes (amo fade agroup : Nat) (s : State) :
    Writes ShowsAgroup (amoCfgTaken amo fade agroup s) (setAmoCfg amo fade agroup s) :=
  (refreshAmoGroup_writes s _ amo).trans (refreshAmoGroup_writes _ _ amo)

theorem amoCfgTaken_aud (amo fade agroup : Nat) (s : State) : (amoCfgTaken amo fade agroup s).aud = (lineKept amo fade s).aud :=
  (State.setF_aud _ _ _ _ _).trans (State.setF_aud _ _ _ _ _)

theorem amoCfgTaken_linesRegs (amo fade agroup : Nat) (s : State) : LinesRegs s (amoCfgTaken amo fade agroup s) :=
  (lineKept_linesRegs amo fade s).trans ((Writes.setReg (p := fun _ => True) trivial _ _).trans (Writes.setReg trivial _ _)).linesRegs

theorem amoCfgTaken_reg (amo fade agroup : Nat) (s : State) (a : Nat) : (amoCfgTaken amo fade agroup s).reg a =
    if a = Reg.audAmoCfg amo then setFld (setFld (s.reg (Reg.audAmoCfg amo)) 1 0 fade) 15 8 agroup else s.reg a := by
  simp only [amoCfgTaken, State.reg_setF, lineKept_reg, if_true]
  split <;> rfl

theorem State.amoLine_of_aud {s t : State} (h : t.aud = s.aud) (n : Nat) : t.amoLine n = s.amoLine n := 
  congrArg (fun a : AudioState => tabGetD amoLineInit n a.lines) h

theorem amoCfgTaken_amoLine (amo fade agroup : Nat) (s : State) {n : Nat} (h : n ≠ amo ∨ s.f (Reg.audAmoCfg amo) 1 0 = fade) :
    (amoCfgTaken amo fade agroup s).amoLine n = s.amoLine n := by
  refine (State.amoLine_of_aud (amoCfgTaken_aud amo fade agroup s) n).trans ?_
  by_cases hfade : s.f (Reg.audAmoCfg amo) 1 0 = fade
  · rw [lineKept_same hfade]
  · have hne : n ≠ amo := h.resolve_right hfade
    rw [lineKept_other hfade]
    simp only [State.amoLine, setAud_aud, tabGetD, tabGet_tabDel, if_neg hne]

/-- A delay line that another FADE drops holds nothing, and one that holds nothing goes on so. -/
theorem tabGet_lines_amoCfgTaken {amo fade n : Nat} {s : State}
    (h : n = amo ∧ s.f (Reg.audAmoCfg amo) 1 0 ≠ fade ∨ tabGet n s.aud.lines = none) (agroup : Nat) :
    tabGet n (amoCfgTaken amo fade agroup s).aud.lines = none := by
  rw [amoCfgTaken_aud]
  by_cases hfade : s.f (Reg.audAmoCfg amo) 1 0 = fade
  · rw [lineKept_same hfade]
    exact h.resolve_left (fun hc => hc.2 hfade)
  · rw [lineKept_other hfade, setAud_aud, tabGet_tabDel]
    exact ite_eq_left_iff.mpr (fun hne => h.resolve_left (fun hc => hne hc.1))

/-- The ports from `amo` on, `count` of them, have taken FADE and AGROUP, and nothing but the groups' status follows (R535, R540). -/
def PortsSet (amo count fade agroup : Nat) (s t : State) : Prop :=
  LinesRegs s t ∧
  (∀ k, k < count → t.f (Reg.audAmoCfg (amo + k)) 1 0 = fade ∧ t.f (Reg.audAmoCfg (amo + k)) 15 8 = agroup ∧
    (s.f (Reg.audAmoCfg (amo + k)) 1 0 ≠ fade → tabGet (amo + k) t.aud.lines = none) ∧
    (s.f (Reg.audAmoCfg (amo + k)) 1 0 = fade → t.amoLine (amo + k) = s.amoLine (amo + k))) ∧
  (∀ n, n < amo ∨ amo + count ≤ n → t.amoLine n = s.amoLine n) ∧
  ∀ a, (∀ k, k < count → a ≠ Reg.audAmoCfg (amo + k)) → (∀ g, g < 256 → a ≠ Reg.audAgrpStatus g) → t.reg a = s.reg a

theorem portsSet_zero (amo fade agroup : Nat) (s : State) : PortsSet amo 0 fade agroup s s :=
  ⟨by unfold LinesRegs; rfl, fun _ hk => absurd hk (Nat.not_lt_zero _), fun _ _ => rfl, fun _ _ _ => rfl⟩

/-- One port more takes the values. -/
theorem PortsSet.succ {amo count fade agroup : Nat} {s t : State} (h : PortsSet amo count fade agroup s t) (hfade : fade ≤ 3) (hgroup : agroup < 256)
    (hlast : amo + count < 8192) : PortsSet amo (count + 1) fade agroup s (setAmoCfg (amo + count) fade agroup t) := by
  obtain ⟨hparts, hports, hlines, hregs⟩ := h
  have hw := setAmoCfg_writes (amo + count) fade agroup t
  have hparts' := (amoCfgTaken_linesRegs (amo + count) fade agroup t).trans hw.linesRegs
  obtain ⟨hw, hreg⟩ := hw
  generalize setAmoCfg (amo + count) fade agroup t = u at hw hreg hparts' ⊢
  have haud : u.aud = (amoCfgTaken (amo + count) fade agroup t).aud := by rw [hw]
  have hline (n : Nat) : u.amoLine n = (amoCfgTaken (amo + count) fade agroup t).amoLine n := State.amoLine_of_aud haud n
  have hcfg (k : Nat) (hk : k ≤ count) : u.reg (Reg.audAmoCfg (amo + k)) = (amoCfgTaken (amo + count) fade agroup t).reg (Reg.audAmoCfg (amo + k)) :=
    hreg _ (not_showsAgroup_amoCfg (by omega))
  have hold : t.f (Reg.audAmoCfg (amo + count)) 1 0 = s.f (Reg.audAmoCfg (amo + count)) 1 0 := by
    refine State.f_of_reg (hregs _ (fun k hk => ?_) fun g hg heq => not_showsAgroup_amoCfg hlast ⟨g, hg, heq⟩) 1 0
    simp only [Reg.audAmoCfg]
    omega
  refine ⟨hparts.trans hparts', fun k hk => ?_, fun n hn => ?_, fun a ha hg => ?_⟩
  · rcases Nat.lt_succ_iff_lt_or_eq.mp hk with hk | rfl
    · have hne : Reg.audAmoCfg (amo + k) ≠ Reg.audAmoCfg (amo + count) := by simp only [Reg.audAmoCfg]; omega
      have hkept := (hcfg k hk.le).trans ((amoCfgTaken_reg _ _ _ _ _).trans (if_neg hne))
      obtain ⟨hf, hg, hdropped, hheld⟩ := hports k hk
      refine ⟨(State.f_of_reg hkept 1 0).trans hf, (State.f_of_reg hkept 15 8).trans hg, fun hc => ?_, fun hc => ?_⟩
      · rw [haud]
        exact tabGet_lines_amoCfgTaken (.inr (hdropped hc)) agroup
      · rw [hline, amoCfgTaken_amoLine _ _ _ _ (.inl (by omega)), hheld hc]
    · have hset := (hcfg k le_rfl).trans ((amoCfgTaken_reg _ _ _ _ _).trans (if_pos rfl))
      refine ⟨?_, ?_, fun hc => ?_, fun hc => ?_⟩
      · rw [State.f, hset, fld_setFld_other _ _ (by decide) (by decide) (.inr (by decide)), fld_setFld _ _ (by decide) (by decide)]
        exact Nat.mod_eq_of_lt (by omega)
      · rw [State.f, hset, fld_setFld _ _ (by decide) (by decide)]
        exact Nat.mod_eq_of_lt hgroup
      · rw [haud]
        exact tabGet_lines_amoCfgTaken (.inl ⟨rfl, hold ▸ hc⟩) agroup
      · rw [hline, amoCfgTaken_amoLine _ _ _ _ (.inr (hold.trans hc)), hlines _ (.inr le_rfl)]
  · rw [hline, amoCfgTaken_amoLine _ _ _ _ (.inl (by omega)), hlines n (by omega)]
  · rw [hreg a (by rintro ⟨g, hlt, rfl⟩; exact hg g hlt rfl), amoCfgTaken_reg, if_neg (ha count (Nat.lt_succ_self _))]
    exact hregs a (fun k hk => ha k (Nat.lt_succ_of_lt hk)) hg

theorem setAmoCfgs_portsSet {amo fade agroup : Nat} (hfade : fade ≤ 3) (hgroup : agroup < 256) (s : State) :
    ∀ count, amo + count ≤ 8192 → PortsSet amo count fade agroup s ((List.range count).foldl (fun s k => setAmoCfg (amo + k) fade agroup s) s)
  | 0, _ => portsSet_zero amo fade agroup s
  | count + 1, h => by
    rw [List.range_succ, List.foldl_append]
    exact (setAmoCfgs_portsSet hfade hgroup s count (by omega)).succ hfade hgroup h

theorem audioPortSetCheck_fields {o : Origin} {amo count fade agroup : Nat} {s : State} (h : audioPortSetCheck o amo count fade agroup s = none) :
    amo + count ≤ 8192 ∧ fade ≤ 3 ∧ agroup < 256 := by
  obtain ⟨-, -, hports, hfade, hgroup, -⟩ := of_decide_eq_true (need_none (firstRefusal_none h _ List.mem_cons_self))
  exact ⟨hports, hfade, hgroup⟩

/-- What MAILBOX writes lies past the ports' windows. -/
theorem mailbox_f_amoCfg (amo : Nat) {n : Nat} (hn : n < 8192) (s : State) (hi lo : Nat) :
    (mailbox (faOf amo) s).f (Reg.audAmoCfg n) hi lo = s.f (Reg.audAmoCfg n) hi lo :=
  State.f_of_reg (mailbox_reg _ s (by simp only [Reg.audAmoCfg, Reg.fidStatus]; omega)) hi lo

theorem exec_audioPortSet {o : Origin} {amo count fade agroup : Nat} {s : State} (h : Accepted o s)
    (hc : audioPortSetCheck o amo count fade agroup s.begin = none) : exec (.audioPortSet o amo count fade agroup) s =
      .next (completeOk o ((List.range count).foldl (fun s k => setAmoCfg (amo + k) fade agroup s) (mailbox (faOf amo) s.begin))) :=
  congrArg Host.Outcome.next (loneCommand_accepted h .working hc _)

end Sys2Proof.Machine
end

section
/-! AUDIO_DOMAIN_SET, AGROUP_SET, AUDIO_TAP_SET and SRC_SET (R487, R505, R523, R531, R535): the registers each command writes. -/

namespace Sys2Proof.Machine

open Sys2Proof

/-! Domains -/

theorem audioDomainSetCheck_mode {o : Origin} {d mode : Nat} {s : State} (h : audioDomainSetCheck o d mode s = none) : mode < 2 := by
  have hfield : domModeRefuse d mode s ≠ some .badField := of_decide_eq_true (need_none (firstRefusal_none h _ List.mem_cons_self))
  by_contra hmode
  exact hfield (if_pos (.inr (.inl (Nat.not_lt.mp hmode))))

theorem exec_audioDomainSet {o : Origin} {d mode : Nat} {s : State} (h : Accepted o s) (hc : audioDomainSetCheck o d mode s.begin = none) :
    exec (.audioDomainSet o d mode) s = .next (completeOk o (setDomMode d mode s.begin)) :=
  congrArg Host.Outcome.next (loneCommand_accepted h .working hc _)

theorem State.domState_of_reg {s t : State} {d : Nat} (h : t.reg (Reg.audDomStatus d) = s.reg (Reg.audDomStatus d)) : t.domState d = s.domState d := by
  unfold State.domState
  rw [State.f_of_reg h]

/-- MODE lies beside the tracker's state. -/
theorem domState_setMode (d mode : Nat) (s : State) : (s.setF (Reg.audDomCfg d) 0 0 mode).domState d = s.domState d :=
  State.domState_of_reg (State.reg_setReg_ne s (by simp only [Reg.audDomStatus, Reg.audDomCfg]; omega) _)

theorem setDomMode_locked {d : Nat} {s : State} (h : s.domState d = 2) (mode : Nat) : setDomMode d mode s =
    setTracker d { s.trackerOf d with fill := 96 } (s.setF (Reg.audDomCfg d) 0 0 mode) := if_pos ((domState_setMode d mode s).trans h)

theorem setDomMode_unlocked {d : Nat} {s : State} (h : s.domState d ≠ 2) (mode : Nat) : setDomMode d mode s = s.setF (Reg.audDomCfg d) 0 0 mode :=
  if_neg (fun hc => h ((domState_setMode d mode s).symm.trans hc))

theorem setDomMode_reg (d mode : Nat) (s : State) (a : Nat) : (setDomMode d mode s).reg a = (s.setF (Reg.audDomCfg d) 0 0 mode).reg a := by
  by_cases h : s.domState d = 2
  · rw [setDomMode_locked h]; rfl
  · rw [setDomMode_unlocked h]

/-- MODE is all that AUDIO_DOMAIN_SET writes, beside the fill of a locked domain's buffer (R487). -/
theorem setDomMode_frame (d mode : Nat) (s : State) :
    Writes (· ∈ [Reg.audDomCfg d]) { s with aud := (setDomMode d mode s).aud } (setDomMode d mode s) := by
  refine ⟨?_, fun a ha => ?_⟩
  · by_cases h : s.domState d = 2
    · rw [setDomMode_locked h]; rfl
    · rw [setDomMode_unlocked h]; rfl
  · rw [setDomMode_reg]
    exact State.reg_setReg_ne _ (by simpa using ha) _

theorem setDomMode_mode {mode : Nat} (h : mode < 2) (d : Nat) (s : State) : (setDomMode d mode s).f (Reg.audDomCfg d) 0 0 = mode := by
  rw [State.f, setDomMode_reg]
  exact (State.f_setF _ _ _ (by decide) (by decide)).trans (Nat.mod_eq_of_lt h)

/-- The buffer of a locked domain starts at one block (R487). -/
theorem setDomMode_aud (d mode : Nat) (s : State) :
    if s.domState d = 2 then ((setDomMode d mode s).trackerOf d).fill = 96 else (setDomMode d mode s).aud = s.aud := by
  split
  · next h => rw [setDomMode_locked h, setTracker, State.trackerOf, setAud_aud, tabGetD_tabSet, if_pos rfl]
  · next h => rw [setDomMode_unlocked h, State.setF_aud]

/-! Aligned groups -/

theorem agroupSetCheck_slip {o : Origin} {g slip : Nat} {s : State} (h : agroupSetCheck o g slip s = none) : slip ≤ 1 := by
  obtain ⟨-, -, -, hslip⟩ := of_decide_eq_true (need_none (firstRefusal_none h _ List.mem_cons_self))
  exact hslip

theorem exec_agroupSet {o : Origin} {g slip : Nat} {s : State} (h : Accepted o s) (hc : agroupSetCheck o g slip s.begin = none) :
    exec (.agroupSet o g slip) s = .next (completeOk o (setGroupSlip g slip s.begin)) :=
  congrArg Host.Outcome.next (loneCommand_accepted h .working hc _)

/-! Capture taps -/

theorem audioTapSetCheck_ctrl {o : Origin} {n : Nat} {ctrl : Word} {base size : Nat} {s : State} (h : audioTapSetCheck o n ctrl base size s = none) :
    ctrl.toNat < 16 := by
  have hfields := need_none (firstRefusal_none h _ List.mem_cons_self)
  rw [Bool.and_eq_true, Bool.and_eq_true] at hfields
  exact of_decide_eq_true hfields.1.2

theorem exec_audioTapSet {o : Origin} {n : Nat} {ctrl : Word} {base size : Nat} {s : State} (h : Accepted o s)
    (hc : audioTapSetCheck o n ctrl base size s.begin = none) :
    exec (.audioTapSet o n ctrl base size) s = .next (completeOk o (setTap n ctrl base size s.begin)) :=
  congrArg Host.Outcome.next (loneCommand_accepted h .working hc _)

/-- The registers of a tap that AUDIO_TAP_SET may write (R541). -/
def tapRegs (n : Nat) : List Nat :=
  [Reg.audSapTapCtrl n, Reg.audSapTapBaseLo n, Reg.audSapTapBaseHi n, Reg.audSapTapSize n, Reg.audSapTapWr n]

/-- A tap's control, base and size as they are written, before its offset starts over (R523). -/
def tapWritten (n : Nat) (ctrl : Word) (base size : Nat) (s : State) : State :=
  (((s.setReg (Reg.audSapTapCtrl n) (ctrl &&& 0xF)).setReg (Reg.audSapTapBaseLo n) (wd (base % 0x100000000))).setReg (Reg.audSapTapBaseHi n)
    (wd (base / 0x100000000))).setReg (Reg.audSapTapSize n) (wd size)

theorem setTap_on {n : Nat} {ctrl : Word} {s : State} (h : bitOf ctrl 0 = true ∧ s.bit (Reg.audSapTapCtrl n) 0 = false) (base size : Nat) :
    setTap n ctrl base size s = (setAud { s.aud with taps := tabDel n s.aud.taps } (tapWritten n ctrl base size s)).setReg (Reg.audSapTapWr n) 0 := by
  obtain ⟨hctrl, hwas⟩ := h
  exact if_pos (by rw [hctrl, hwas]; rfl)

theorem setTap_not_on {n : Nat} {ctrl : Word} {s : State} (h : ¬ (bitOf ctrl 0 = true ∧ s.bit (Reg.audSapTapCtrl n) 0 = false)) (base size : Nat) :
    setTap n ctrl base size s = tapWritten n ctrl base size s :=
  if_neg (by rwa [Bool.and_eq_true, Bool.not_eq_true'])

/-- The words that a tap holds once it has taken its values. -/
theorem tapWritten_reg (n : Nat) (ctrl : Word) (base size : Nat) (s : State) (a : Nat) : (tapWritten n ctrl base size s).reg a =
    if a = Reg.audSapTapSize n then wd size else if a = Reg.audSapTapBaseHi n then wd (base / 0x100000000)
    else if a = Reg.audSapTapBaseLo n then wd (base % 0x100000000) else if a = Reg.audSapTapCtrl n then ctrl &&& 0xF else s.reg a := by
  simp only [tapWritten, State.reg_setReg]

/-- Beside the offset, what a tap shows is what was written. -/
theorem setTap_reg (n : Nat) (ctrl : Word) (base size : Nat) (s : State) {a : Nat} (h : a ≠ Reg.audSapTapWr n) :
    (setTap n ctrl base size s).reg a = (tapWritten n ctrl base size s).reg a := by
  by_cases hon : bitOf ctrl 0 = true ∧ s.bit (Reg.audSapTapCtrl n) 0 = false
  · rw [setTap_on hon, State.reg_setReg_ne _ h, reg_setAud]
  · rw [setTap_not_on hon]

theorem setTap_values {n : Nat} {ctrl : Word} (hctrl : ctrl.toNat < 16) (base size : Nat) (s : State) :
    (setTap n ctrl base size s).reg (Reg.audSapTapCtrl n) = ctrl ∧ (setTap n ctrl base size s).reg (Reg.audSapTapBaseLo n) = wd (base % 0x100000000) ∧
    (setTap n ctrl base size s).reg (Reg.audSapTapBaseHi n) = wd (base / 0x100000000) ∧ (setTap n ctrl base size s).reg (Reg.audSapTapSize n) = wd size := by
  have hmask : ctrl &&& 0xF = ctrl := by
    refine BitVec.eq_of_toNat_eq ?_
    rw [BitVec.toNat_and, show (0xF : Word).toNat = 2 ^ 4 - 1 from rfl, Nat.and_two_pow_sub_one_eq_mod, Nat.mod_eq_of_lt hctrl]
  refine ⟨?_, ?_, ?_, ?_⟩ <;> rw [setTap_reg _ _ _ _ _ (by simp), tapWritten_reg]
  · rw [hmask]; simp
  all_goals simp

theorem setTap_enabled {n : Nat} {ctrl : Word} {s : State} (h : bitOf ctrl 0 = true ∧ s.bit (Reg.audSapTapCtrl n) 0 = false) (base size : Nat) :
    (setTap n ctrl base size s).reg (Reg.audSapTapWr n) = 0 ∧ tabGet n (setTap n ctrl base size s).aud.taps = none := by
  rw [setTap_on h]
  refine ⟨(State.reg_setReg _ _ _ _).trans (if_pos rfl), ?_⟩
  rw [State.setReg_aud, setAud_aud, tabGet_tabDel, if_pos rfl]

theorem setTap_goes_on {n : Nat} {ctrl : Word} {s : State} (h : ¬ (bitOf ctrl 0 = true ∧ s.bit (Reg.audSapTapCtrl n) 0 = false)) (base size : Nat) :
    (setTap n ctrl base size s).aud = s.aud ∧ (setTap n ctrl base size s).reg (Reg.audSapTapWr n) = s.reg (Reg.audSapTapWr n) := by
  rw [setTap_not_on h]
  exact ⟨by simp only [tapWritten, State.setReg_aud], by rw [tapWritten_reg]; simp⟩

theorem tapWritten_writes (n : Nat) (ctrl : Word) (base size : Nat) (s : State) : Writes (· ∈ tapRegs n) s (tapWritten n ctrl base size s) := by
  have hset {a : Nat} (h : a ∈ tapRegs n) (v : Word) (u : State) : Writes (· ∈ tapRegs n) u (u.setReg a v) := Writes.setReg h v u
  exact (((hset (by simp [tapRegs]) _ _).trans (hset (by simp [tapRegs]) _ _)).trans (hset (by simp [tapRegs]) _ _)).trans (hset (by simp [tapRegs]) _ _)

theorem setTap_frame (n : Nat) (ctrl : Word) (base size : Nat) (s : State) :
    Writes (· ∈ tapRegs n) { s with aud := (setTap n ctrl base size s).aud } (setTap n ctrl base size s) := by
  obtain ⟨hparts, hregs⟩ := tapWritten_writes n ctrl base size s
  by_cases hon : bitOf ctrl 0 = true ∧ s.bit (Reg.audSapTapCtrl n) 0 = false
  · rw [setTap_on hon]
    generalize tapWritten n ctrl base size s = u at hparts hregs
    refine Writes.trans (t := setAud { s.aud with taps := tabDel n s.aud.taps } u) ⟨?_, hregs⟩ (Writes.setReg (by simp [tapRegs]) 0 _)
    rw [hparts]
    rfl
  · rw [setTap_not_on hon]
    generalize tapWritten n ctrl base size s = u at hparts hregs
    refine ⟨?_, hregs⟩
    rw [hparts]

/-! Converters -/

theorem refreshAmi_writes (n : Nat) (s : State) : Writes (· = Reg.audAmiStatus n) s (refreshAmi n s) :=
  (setReg_writes _ _ s).trans (setReg_writes _ _ _)

theorem State.srcOut_lt (s : State) (c : Nat) : s.srcOut c < 8192 := Nat.mod_lt _ (by decide)

/-- A converter's configuration as it is written, with its output's domain and count of consumers shown (R531, R540). -/
def srcCfgTaken (c : Nat) (enable : Bool) (domain : Nat) (s : State) : State :=
  refreshAmi (s.srcOut c) (s.setReg (Reg.audSrcCfg c) (wd (b2n enable + 0x100 * domain)))

theorem srcCfgTaken_cfg {c : Nat} (hc : c < 512) (enable : Bool) (domain : Nat) (s : State) :
    (srcCfgTaken c enable domain s).reg (Reg.audSrcCfg c) = wd (b2n enable + 0x100 * domain) := by
  have hout := s.srcOut_lt c
  rw [srcCfgTaken, (refreshAmi_writes _ _).2 _ (by simp only [Reg.audSrcCfg, Reg.audAmiStatus]; omega), State.reg_setReg, if_pos rfl]

theorem srcCfgTaken_writes (c : Nat) (enable : Bool) (domain : Nat) (s : State) :
    Writes (· ∈ [Reg.audSrcCfg c, Reg.audAmiStatus (s.srcOut c)]) s (srcCfgTaken c enable domain s) :=
  (Writes.setReg List.mem_cons_self _ s).trans
    ((refreshAmi_writes _ _).mono (fun _ ha => List.mem_cons_of_mem _ (List.mem_singleton.mpr ha)))

theorem exec_srcSet {o : Origin} {first count domain : Nat} {enable : Bool} {s : State} (h : Accepted o s)
    (hc : srcSetCheck o first count domain s.begin = none) : exec (.srcSet o first count enable domain) s =
      .next (completeOk o ((List.range count).foldl (fun u k => setSrcCfg (first + k) enable domain u) s.begin)) :=
  congrArg Host.Outcome.next (loneCommand_accepted h .working hc _)

end Sys2Proof.Machine
end

section
/-! SAP_SET and SAP_ENABLE (R519, R520, R535, R546): what a direction of a serial port takes, and when it starts or stops. -/

namespace Sys2Proof.Machine

open Sys2Proof

/-- The domain of a direction's clock, and its number among the directions that start. -/
def sapDomain (n : Nat) (tx : Bool) : Nat := (if tx = true then 0x20 else 0x10) + n
def sapKey (n : Nat) (tx : Bool) : Nat := 2 * n + b2n tx

/-- A direction's configuration and mask as they are written; receive has no TRISTATE. -/
def sapWritten (n : Nat) (tx : Bool) (v mask : Word) (s : State) : State :=
  (s.setReg (sapRegs n tx).1 (if tx = true then v else setFld v 19 19 0)).setReg (sapRegs n tx).2.1 mask

/-- A direction once it has taken its values, before what follows its clock is brought into line: a master's start waits, a stop shows (R519). -/
def sapTaken (n : Nat) (tx : Bool) (v mask : Word) (s : State) : State :=
  let u := sapWritten n tx v mask s
  if bitOf v 0 = true then
    if s.bit (sapRegs n tx).1 0 = false ∧ bitOf v 1 = true then setAud { s.aud with starting := tabSet (sapKey n tx) (s.now + 50000) s.aud.starting } u else u
  else if s.bit (sapRegs n tx).1 0 = true then
    (setAud { s.aud with starting := tabDel (sapKey n tx) s.aud.starting } u).setBit (Reg.audSapStatus n) (b2n tx) false
  else u

theorem setSap_eq (n : Nat) (tx : Bool) (v mask : Word) (s : State) :
    setSap n tx v mask s = refreshDomain (sapDomain n tx) (refreshDomain 0
      (if bitOf v 0 = false ∧ s.bit (sapRegs n tx).1 0 = true then domIdle (sapDomain n tx) (sapTaken n tx v mask s) else sapTaken n tx v mask s)) := by
  by_cases hstops : bitOf v 0 = false ∧ s.bit (sapRegs n tx).1 0 = true
  · rw [if_pos hstops]
    obtain ⟨hen, hwas⟩ := hstops
    simp [setSap, sapTaken, sapWritten, sapDomain, sapKey, hen, hwas]
  · rw [if_neg hstops]
    cases hen : bitOf v 0 with
    | false =>
      have hwas : s.bit (sapRegs n tx).1 0 = false := Bool.eq_false_iff.mpr fun hwas => hstops ⟨hen, hwas⟩
      simp [setSap, sapTaken, sapWritten, sapDomain, hen, hwas]
    | true =>
      simp only [setSap, sapTaken, sapWritten, sapDomain, sapKey, hen]
      cases s.bit (sapRegs n tx).1 0 <;> simp

theorem sapRegs_cfg_ne (n : Nat) (tx : Bool) : (sapRegs n tx).1 ≠ (sapRegs n tx).2.1 ∧ (sapRegs n tx).1 ≠ Reg.audSapStatus n ∧
    (sapRegs n tx).2.1 ≠ Reg.audSapStatus n := by
  cases tx <;> simp [sapRegs]

theorem sapWritten_reg (n : Nat) (tx : Bool) (v mask : Word) (s : State) (a : Nat) : (sapWritten n tx v mask s).reg a =
    if a = (sapRegs n tx).2.1 then mask else if a = (sapRegs n tx).1 then (if tx = true then v else setFld v 19 19 0) else s.reg a := by
  simp only [sapWritten, State.reg_setReg]

/-- Beside the state of the direction, what the port shows is what was written. -/
theorem sapTaken_reg (n : Nat) (tx : Bool) (v mask : Word) (s : State) {a : Nat} (h : a ≠ Reg.audSapStatus n) :
    (sapTaken n tx v mask s).reg a = (sapWritten n tx v mask s).reg a := by
  unfold sapTaken
  extract_lets u
  split
  · split <;> rfl
  · split
    · exact State.reg_setReg_ne _ h _
    · rfl

theorem sapTaken_parts (n : Nat) (tx : Bool) (v mask : Word) (s : State) : sapTaken n tx v mask s =
    { s with regs := (sapTaken n tx v mask s).regs, aud := { s.aud with starting := (sapTaken n tx v mask s).aud.starting } } := by
  unfold sapTaken
  extract_lets u
  split
  · split <;> rfl
  · split <;> rfl

/-- A master that is enabled starts 50 µs later at the earliest (R519). -/
theorem sapTaken_starts {n : Nat} {tx : Bool} {v : Word} {s : State} (hen : bitOf v 0 = true) (hwas : s.bit (sapRegs n tx).1 0 = false)
    (hmaster : bitOf v 1 = true) (mask : Word) : tabGet (sapKey n tx) (sapTaken n tx v mask s).aud.starting = some (s.now + 50000) := by
  rw [sapTaken, if_pos hen, if_pos ⟨hwas, hmaster⟩]
  exact (tabGet_tabSet _ _ _ _).trans (if_pos rfl)

/-- A direction that is disabled no longer runs, nor waits to start (R519). -/
theorem sapTaken_stops {n : Nat} {tx : Bool} {v : Word} {s : State} (hen : bitOf v 0 = false) (hwas : s.bit (sapRegs n tx).1 0 = true) (mask : Word) :
    tabGet (sapKey n tx) (sapTaken n tx v mask s).aud.starting = none ∧ (sapTaken n tx v mask s).bit (Reg.audSapStatus n) (b2n tx) = false := by
  rw [sapTaken, if_neg (Bool.eq_false_iff.mp hen), if_pos hwas]
  exact ⟨(tabGet_tabDel _ _ _).trans (if_pos rfl), State.bit_setBit_same _ _ _ (by cases tx <;> decide)⟩

/-- A direction of a serial port takes a configuration and a mask: `x` is the port once they are written, and what follows its clock is the model's. -/
def TakesDirection (n : Nat) (tx : Bool) (v mask : Word) (u t : State) : Prop := ∃ x,
  let r := sapRegs n tx
  let d := (if tx = true then 0x20 else 0x10) + n
  let k := 2 * n + b2n tx
  t = refreshDomain d (refreshDomain 0 (if bitOf v 0 = false ∧ u.bit r.1 0 = true then domIdle d x else x)) ∧
  x.reg r.1 = (if tx = true then v else setFld v 19 19 0) ∧ x.reg r.2.1 = mask ∧
  (bitOf v 0 = true → u.bit r.1 0 = false → bitOf v 1 = true → tabGet k x.aud.starting = some (u.now + 50000)) ∧
  (bitOf v 0 = false → u.bit r.1 0 = true → tabGet k x.aud.starting = none ∧ x.bit (Reg.audSapStatus n) (b2n tx) = false) ∧
  (∀ a, a ∉ [r.1, r.2.1, Reg.audSapStatus n] → x.reg a = u.reg a) ∧ x = { u with regs := x.regs, aud := { u.aud with starting := x.aud.starting } }

theorem setSap_takesDirection (n : Nat) (tx : Bool) (v mask : Word) (s : State) : TakesDirection n tx v mask s (setSap n tx v mask s) := by
  obtain ⟨hcfg, hcfgStatus, hmaskStatus⟩ := sapRegs_cfg_ne n tx
  refine ⟨sapTaken n tx v mask s, setSap_eq n tx v mask s, ?_, ?_, fun hen hwas hmaster => sapTaken_starts hen hwas hmaster mask,
    fun hen hwas => sapTaken_stops hen hwas mask, fun a ha => ?_, sapTaken_parts n tx v mask s⟩
  · rw [sapTaken_reg _ _ _ _ _ hcfgStatus, sapWritten_reg, if_neg hcfg, if_pos rfl]
  · rw [sapTaken_reg _ _ _ _ _ hmaskStatus, sapWritten_reg, if_pos rfl]
  · simp only [List.mem_cons, List.not_mem_nil, or_false, not_or] at ha
    obtain ⟨hne, hneMask, hneStatus⟩ := ha
    rw [sapTaken_reg _ _ _ _ _ hneStatus, sapWritten_reg, if_neg hneMask, if_neg hne]

/-! SAP_SET -/

theorem exec_sapSet {o : Origin} {n mask : Nat} {ws : List Word} {s : State} (h : Accepted o s) (hc : sapSetCheck o n mask (some ws) s.begin = none) :
    exec (.sapSet o n mask (some ws)) s = .next (sapSetEffect o n mask (some ws) s.begin) :=
  congrArg Host.Outcome.next (loneCommand_accepted h .working hc _)

/-- The directions that MASK names take their values, receive first (R630). -/
theorem sapSetEffect_directions (o : Origin) (n mask : Nat) (ws : List Word) (s : State) :
    let v := sapSetValues n mask ws s
    ∃ u t, (if (mask.testBit 0 || mask.testBit 2) = true then TakesDirection n false v.1.1 v.1.2 s u else u = s) ∧
      (if (mask.testBit 1 || mask.testBit 3) = true then TakesDirection n true v.2.1 v.2.2 u t else t = u) ∧
      sapSetEffect o n mask (some ws) s = completeOk o t := by
  intro v
  have htakes (tx c : Bool) (w m : Word) (u : State) :
      if c = true then TakesDirection n tx w m u (if c = true then setSap n tx w m u else u) else (if c = true then setSap n tx w m u else u) = u := by
    cases c
    · exact rfl
    · exact setSap_takesDirection n tx w m u
  exact ⟨_, _, htakes false _ v.1.1 v.1.2 s, htakes true _ v.2.1 v.2.2 _, rfl⟩

/-! SAP_ENABLE -/

theorem gatedWrite_located {m : Master} {a : Nat} {l : Loc} {s : State} (hl : locate a = some l) (h : MayWrite m a s) (g : Loc → State → State) :
    gatedWrite m a g s.begin = g l s.begin := by
  refine Eq.trans ?_ (gatedWrite_of_mayWrite (Option.isSome_of_eq_some hl) h (g l))
  unfold gatedWrite
  rw [hl]

/-- The writable bits of a direction's configuration register (R541). -/
theorem locate_sapCfg : ∀ n, n < 16 → ∀ tx : Bool, (locate (sapRegs n tx).1).map (fun l => wd l.row.mask) = some (if tx = true then 0xFFFFF else 0x7FFFF) := by
  decide

theorem exec_sapEnable {m : Master} {n : Nat} {tx : Bool} {s : State} (hn : n < 16) (h : MayWrite m (sapRegs n tx).1 s) (v : Word) :
    exec (.sapEnable m n tx v) s =
      .next (sapDirWrite n tx (v &&& (if tx = true then 0xFFFFF else 0x7FFFF)) (s.reg (sapRegs n tx).2.1) s.begin) := by
  obtain ⟨l, hl, hmask⟩ := Option.map_eq_some_iff.mp (locate_sapCfg n hn tx)
  rw [← hmask]
  exact congrArg Host.Outcome.next (gatedWrite_located hl h _)

theorem sapDirWrite_closed {n : Nat} {tx : Bool} {v mask : Word} {s : State} (h : s.serving = false) :
    sapDirWrite n tx v mask s = sapLast n .stateConflict s := if_pos (by rw [h]; rfl)

theorem sapDirWrite_refused {n : Nat} {tx : Bool} {v mask : Word} {s : State} {st : Status} (h : s.serving = true)
    (hr : sapRefuse n tx v mask s = some st) : sapDirWrite n tx v mask s = sapLast n st s := by
  simp [sapDirWrite, h, hr]

theorem sapDirWrite_taken {n : Nat} {tx : Bool} {v mask : Word} {s : State} (h : s.serving = true) (hr : sapRefuse n tx v mask s = none) :
    sapDirWrite n tx v mask s = setSap n tx v mask s := by
  simp [sapDirWrite, h, hr]

theorem statusCode_lt (st : Status) : statusCode st < 256 := by cases st <;> decide

/-- A write refused leaves its status in LAST_RESULT. -/
theorem sapLast_shown (n : Nat) (st : Status) (s : State) : (sapLast n st s).f (Reg.audSapStatus n) 23 16 = statusCode st := by
  rw [sapLast, State.f_setF _ _ _ (by decide) (by decide)]
  exact Nat.mod_eq_of_lt (statusCode_lt st)

theorem sapLast_writes (n : Nat) (st : Status) (s : State) : Writes (· ∈ [Reg.audSapStatus n]) s (sapLast n st s) :=
  Writes.setReg List.mem_cons_self _ s

end Sys2Proof.Machine
end

section
/-! AES_SET (R526, R529, R530, R535): an input's or an output's configuration, and the channel status bytes that an output sends. -/

namespace Sys2Proof.Machine

open Sys2Proof

/-! Words and bytes -/

theorem leBytes_wordOfBytes {a b c d : Byte} (l : List Byte) : leBytes 4 (wordOfBytes (a :: b :: c :: d :: l)).toNat = [a, b, c, d] := by
  have ha := a.isLt
  have hb := b.isLt
  have hc := c.isLt
  have hd := d.isLt
  simp only [wordOfBytes, wd, leBytes, BitVec.toNat_ofNat, List.cons.injEq, and_true]
  refine ⟨?_, ?_, ?_, ?_⟩ <;> refine BitVec.eq_of_toNat_eq ?_ <;> rw [BitVec.toNat_ofNat] <;> omega

/-- The bytes of the words that hold a list are the list. -/
theorem leBytes_wordOfBytes_take {l : List Byte} (h : 4 ≤ l.length) : leBytes 4 (wordOfBytes l).toNat = l.take 4 := by
  match l, h with
  | a :: b :: c :: d :: l, _ => exact leBytes_wordOfBytes l

theorem flatMap_range_chunks {α : Type} (l : List α) (n : Nat) : (List.range n).flatMap (fun j => (l.drop (4 * j)).take 4) = l.take (4 * n) := by
  induction n with
  | zero => simp
  | succ n ih => rw [List.range_succ, List.flatMap_append, ih, List.flatMap_singleton, Nat.mul_succ, List.take_add]

/-- A fold that writes numbered registers leaves each with its word. -/
theorem reg_foldl_setReg {f : Nat → Nat} (hf : Function.Injective f) (g : Nat → Word) (n j : Nat) (s : State) :
    ((List.range n).foldl (fun s j => s.setReg (f j) (g j)) s).reg (f j) = if j < n then g j else s.reg (f j) := by
  induction n with
  | zero => rfl
  | succ n ih =>
    rw [List.range_succ, List.foldl_append, List.foldl_cons, List.foldl_nil, State.reg_setReg]
    simp only [hf.eq_iff, ih, Nat.lt_succ_iff_lt_or_eq]
    by_cases h : j = n <;> simp [h]

theorem foldl_setReg_writes (f : Nat → Nat) (g : Nat → Word) (n : Nat) (s : State) :
    Writes (fun a => ∃ j, j < n ∧ a = f j) s ((List.range n).foldl (fun s j => s.setReg (f j) (g j)) s) := by
  induction n with
  | zero => exact Writes.refl _ s
  | succ n ih =>
    rw [List.range_succ, List.foldl_append]
    exact (ih.mono (fun _ ⟨j, hj, ha⟩ => ⟨j, Nat.lt_succ_of_lt hj, ha⟩)).trans (Writes.setReg ⟨n, Nat.lt_succ_self n, rfl⟩ _ _)

/-! Channel status -/

/-- The 24 bytes that a subframe's registers hold after `l` is written: 23 of them and their CRCC (R529). -/
def csBytes (l : List Byte) : List Byte := natBytes (takePad 23 (byteNats l) ++ [crcc (takePad 23 (byteNats l))])

theorem length_csBytes (l : List Byte) : (csBytes l).length = 24 := by
  simp [csBytes, natBytes, takePad]

theorem takePad_getD (l : List Nat) {n k : Nat} (hk : k < n) : (takePad n l).getD k 0 = l.getD k 0 := by
  rw [takePad, List.getD_eq_getElem?_getD, List.getElem?_take_of_lt hk, ← List.getD_eq_getElem?_getD]
  by_cases h : k < l.length
  · exact List.getD_append _ _ _ _ h
  · have hpast : l.length ≤ k := Nat.le_of_not_lt h
    rw [List.getD_append_right _ _ _ _ hpast, List.getD_eq_default _ _ hpast, List.getD_replicate _ (by omega)]

/-- Of the bytes written all but the last stand as they came. -/
theorem csBytes_getD (l : List Byte) {k : Nat} (hk : k < 23) : (csBytes l).getD k 0 = l.getD k 0 := by
  have hlen : k < (takePad 23 (byteNats l)).length := by simpa [takePad] using hk
  calc (csBytes l).getD k 0
      = BitVec.ofNat 8 ((takePad 23 (byteNats l) ++ [crcc (takePad 23 (byteNats l))]).getD k 0) :=
          List.getD_map _ 0 (BitVec.ofNat 8)
    _ = BitVec.ofNat 8 ((byteNats l).getD k 0) := by rw [List.getD_append _ _ _ _ hlen, takePad_getD _ hk]
    _ = BitVec.ofNat 8 (l.getD k 0).toNat := congrArg (BitVec.ofNat 8) (List.getD_map l 0 BitVec.toNat)
    _ = l.getD k 0 := by simp

theorem setAoCs_eq (n : Nat) (sub : Bool) (l : List Byte) (s : State) : setAoCs n sub l s =
    (List.range 6).foldl (fun s j => s.setReg (aoCsReg n sub j) (wordOfBytes ((csBytes l).drop (4 * j)))) s := by
  unfold setAoCs
  extract_lets x ws
  rw [show (List.range 6).zip ws = (List.range 6).map (fun j => (j, wordOfBytes ((csBytes l).drop (4 * j)))) from List.map_prod_left_eq_zip.symm,
    List.foldl_map]

theorem aoCsReg_injective (n : Nat) (sub : Bool) : Function.Injective (aoCsReg n sub) := by
  intro i j h
  cases sub <;> simpa [aoCsReg] using h

/-- An output's subframe holds the bytes written to it. -/
theorem aoCs_setAoCs (n : Nat) (sub : Bool) (l : List Byte) (s : State) : (setAoCs n sub l s).aoCs n sub = csBytes l := by
  have hword : ∀ j ∈ List.range 6, leBytes 4 ((setAoCs n sub l s).reg (aoCsReg n sub j)).toNat = ((csBytes l).drop (4 * j)).take 4 := by
    intro j hj
    have hj := List.mem_range.mp hj
    rw [setAoCs_eq, reg_foldl_setReg (aoCsReg_injective n sub), if_pos hj]
    exact leBytes_wordOfBytes_take (by rw [List.length_drop, length_csBytes]; omega)
  rw [State.aoCs, List.flatMap_congr hword, flatMap_range_chunks]
  exact List.take_of_length_le (length_csBytes l).le

theorem setAoCs_writes (n : Nat) (sub : Bool) (l : List Byte) (s : State) :
    Writes (fun a => ∃ j, j < 6 ∧ a = aoCsReg n sub j) s (setAoCs n sub l s) := by
  rw [setAoCs_eq]
  exact foldl_setReg_writes _ _ 6 s

theorem State.aoCs_of_reg {s t : State} {n : Nat} {sub : Bool} (h : ∀ j, j < 6 → t.reg (aoCsReg n sub j) = s.reg (aoCsReg n sub j)) :
    t.aoCs n sub = s.aoCs n sub :=
  List.flatMap_congr fun j hj => by rw [h j (List.mem_range.mp hj)]

/-! Outputs -/

/-- An output's registers that AES_SET writes (R543). -/
def AoTaken (n a : Nat) : Prop :=
  a = Reg.audAoCfg n ∨ a = Reg.audAoStatus n ∨ ∃ sub j, j < 6 ∧ a = aoCsReg n sub j

/-- An output once it has taken a configuration and the channel status bytes of both subframes. -/
def aoTaken (n : Nat) (cfg : Word) (data : List Byte) (s : State) : State :=
  setAo n cfg (setAoCs n true (data.drop 24) (setAoCs n false data s))

theorem setAo_reg (n : Nat) (cfg : Word) (s : State) {a : Nat} (h : a ≠ Reg.audAoStatus n) :
    (setAo n cfg s).reg a = if a = Reg.audAoCfg n then cfg &&& 0xF3 else s.reg a := by
  rw [setAo, State.reg_setBit, if_neg h, State.reg_setReg]

theorem setAo_writes (n : Nat) (cfg : Word) (s : State) : Writes (AoTaken n) s (setAo n cfg s) :=
  (Writes.setReg (.inl rfl) _ s).trans (Writes.setReg (.inr (.inl rfl)) _ _)

theorem aoTaken_writes (n : Nat) (cfg : Word) (data : List Byte) (s : State) : Writes (AoTaken n) s (aoTaken n cfg data s) :=
  (((setAoCs_writes n false data s).mono (fun _ ⟨j, hj⟩ => .inr (.inr ⟨false, j, hj⟩))).trans
    ((setAoCs_writes n true _ _).mono (fun _ ⟨j, hj⟩ => .inr (.inr ⟨true, j, hj⟩)))).trans (setAo_writes n cfg _)

theorem aoTaken_cfg {n : Nat} {cfg : Word} (h : cfg &&& 0xF3 = cfg) (data : List Byte) (s : State) :
    (aoTaken n cfg data s).reg (Reg.audAoCfg n) = cfg := by
  rw [aoTaken, setAo_reg _ _ _ (by simp only [Reg.audAoCfg, Reg.audAoStatus]; omega), if_pos rfl, h]

theorem aoTaken_enabled (n : Nat) (cfg : Word) (data : List Byte) (s : State) :
    (aoTaken n cfg data s).bit (Reg.audAoStatus n) 0 = bitOf cfg 0 := State.bit_setBit_same _ _ _ (by decide)

theorem aoCsReg_ge (n : Nat) (sub : Bool) (j : Nat) : Reg.audAoCsA n 0 ≤ aoCsReg n sub j := by
  cases sub
  · show Reg.audAoCsA n 0 ≤ Reg.audAoCsA n j
    simp only [Reg.audAoCsA]; omega
  · show Reg.audAoCsA n 0 ≤ Reg.audAoCsB n j
    simp only [Reg.audAoCsA, Reg.audAoCsB]; omega

theorem aoCsReg_ne (n : Nat) (sub : Bool) (j : Nat) : aoCsReg n sub j ≠ Reg.audAoCfg n ∧ aoCsReg n sub j ≠ Reg.audAoStatus n := by
  have hge := aoCsReg_ge n sub j
  simp only [Reg.audAoCsA, Reg.audAoCfg, Reg.audAoStatus] at hge ⊢
  omega

theorem aoCsReg_subframes_ne (n : Nat) {j : Nat} (hj : j < 6) (i : Nat) : aoCsReg n false j ≠ aoCsReg n true i := by
  show Reg.audAoCsA n j ≠ Reg.audAoCsB n i
  simp only [Reg.audAoCsA, Reg.audAoCsB]
  omega

/-- The channel status words lie beside the configuration and the status. -/
theorem setAo_aoCs (n : Nat) (sub : Bool) (cfg : Word) (s : State) : (setAo n cfg s).aoCs n sub = s.aoCs n sub := by
  refine State.aoCs_of_reg fun j _ => ?_
  obtain ⟨hcfg, hstatus⟩ := aoCsReg_ne n sub j
  rw [setAo_reg _ _ _ hstatus, if_neg hcfg]

theorem aoTaken_aoCs (n : Nat) (cfg : Word) (data : List Byte) (s : State) :
    (aoTaken n cfg data s).aoCs n false = csBytes data ∧ (aoTaken n cfg data s).aoCs n true = csBytes (data.drop 24) := by
  refine ⟨?_, (setAo_aoCs n true cfg _).trans (aoCs_setAoCs n true _ _)⟩
  refine ((setAo_aoCs n false cfg _).trans (State.aoCs_of_reg fun j hj => ?_)).trans (aoCs_setAoCs n false data s)
  exact (setAoCs_writes n true _ _).2 _ fun ⟨i, _, heq⟩ => aoCsReg_subframes_ne n hj i heq

/-! The command -/

theorem aesSetCheck_fields {o : Origin} {port : Nat} {cfg : Word} {cs : Option (List Byte)} {s : State} (h : aesSetCheck o port cfg cs s = none) :
    cfg &&& (if port < 8 then 0xF else 0xF3) = cfg := by
  have hfields := need_none (firstRefusal_none h _ List.mem_cons_self)
  rw [Bool.and_eq_true, Bool.and_eq_true] at hfields
  exact of_decide_eq_true hfields.1.2

theorem exec_aesSet {o : Origin} {port : Nat} {cfg : Word} {cs : Option (List Byte)} {s : State} (h : Accepted o s)
    (hc : aesSetCheck o port cfg cs s.begin = none) : exec (.aesSet o port cfg cs) s = .next (aesSetEffect o port cfg cs s.begin) :=
  congrArg Host.Outcome.next (loneCommand_accepted h .working hc _)

/-- An input's configuration as it is written; one that is disabled has no block sync (R526). -/
def aiTaken (n : Nat) (cfg : Word) (s : State) : State :=
  let u := s.setReg (Reg.audAiCfg n) (cfg &&& 0xF)
  if bitOf cfg 0 = true then u else u.setBit (Reg.audAiStatus n) 1 false

theorem setAi_eq (n : Nat) (cfg : Word) (s : State) : setAi n cfg s =
    refreshDomain (0x30 + n) (if bitOf cfg 0 = true then aiTaken n cfg s else domIdle (0x30 + n) (aiTaken n cfg s)) := by
  unfold setAi aiTaken
  split <;> rfl

theorem aiTaken_cfg {n : Nat} {cfg : Word} (h : cfg &&& 0xF = cfg) (s : State) : (aiTaken n cfg s).reg (Reg.audAiCfg n) = cfg := by
  have hset : (s.setReg (Reg.audAiCfg n) (cfg &&& 0xF)).reg (Reg.audAiCfg n) = cfg := by rw [State.reg_setReg, if_pos rfl, h]
  unfold aiTaken
  dsimp only
  split
  · exact hset
  · rw [State.reg_setBit, if_neg (by simp only [Reg.audAiCfg, Reg.audAiStatus]; omega), hset]

theorem aiTaken_unsynced {n : Nat} {cfg : Word} (h : bitOf cfg 0 = false) (s : State) : (aiTaken n cfg s).bit (Reg.audAiStatus n) 1 = false := by
  rw [aiTaken, if_neg (Bool.eq_false_iff.mp h)]
  exact State.bit_setBit_same _ _ _ (by decide)

theorem aiTaken_writes (n : Nat) (cfg : Word) (s : State) : Writes (· ∈ [Reg.audAiCfg n, Reg.audAiStatus n]) s (aiTaken n cfg s) := by
  have hcfg : Writes (· ∈ [Reg.audAiCfg n, Reg.audAiStatus n]) s (s.setReg (Reg.audAiCfg n) (cfg &&& 0xF)) := Writes.setReg List.mem_cons_self _ s
  exact Writes.ite hcfg (hcfg.trans (Writes.setReg (List.mem_cons_of_mem _ (List.mem_singleton.mpr rfl)) _ _))

end Sys2Proof.Machine
end

section
/-! The statement on the audio commands. -/

namespace Sys2Proof.Machine

open Sys2Proof

/-- Settles O57: what each accepted audio command writes, by the lemma of its command, and what a write of a serial direction's configuration does. -/
theorem audioCommands : Obligations.AudioCommands := by
  intro s
  refine ⟨fun o hacc => ⟨fun amo ami group hgroup harms => ⟨fun hcheck => ?_, fun hcheck => ?_⟩, fun amo x p due harms hcheck => ?_,
    fun amo count fade agroup hcheck => ?_, fun d mode hcheck => ?_, fun g slip hcheck => ?_, fun n mask ws hcheck => ?_,
    fun n ctrl base size hcheck => ?_, fun port cfg cs hcheck => ⟨fun hport => ?_, fun data hport hcs => ?_⟩,
    fun first count enable domain hcheck => exec_srcSet hacc hcheck⟩,
    fun c enable domain hc => ⟨srcCfgTaken c enable domain s, rfl, srcCfgTaken_cfg hc enable domain s, srcCfgTaken_writes c enable domain s⟩,
    fun m n tx v hn hmay => ⟨fun hserving => ?_, fun st hserving hrefuse => ?_, fun hserving hrefuse => ?_⟩⟩
  · subst hgroup
    rw [exec_audioHitch hacc hcheck, audioHitchEffect_waits (s := s.begin) harms]
    rfl
  · subst hgroup
    rw [exec_audioUnhitch hacc hcheck, audioHitchEffect_waits (s := s.begin) harms]
    rfl
  · rw [exec_audioUnhitch hacc hcheck, audioHitchEffect_replaces (s := s.begin) harms]
    rfl
  · obtain ⟨hports, hfade, hagroup⟩ := audioPortSetCheck_fields hcheck
    obtain ⟨hparts, hset, hlines, hregs⟩ := setAmoCfgs_portsSet hfade hagroup (mailbox (faOf amo) s.begin) count hports
    have hheard (n : Nat) : (mailbox (faOf amo) s.begin).amoLine n = s.amoLine n := State.amoLine_of_aud (mailbox_aud _ _) n
    refine ⟨_, exec_audioPortSet hacc hcheck, hparts.of_aud (mailbox_aud _ _), fun k hk => ?_, fun n hn => (hlines n hn).trans (hheard n), hregs⟩
    obtain ⟨hf, hg, hdropped, hheld⟩ := hset k hk
    rw [mailbox_f_amoCfg _ (by omega)] at hdropped hheld
    exact ⟨hf, hg, hdropped, fun hsame => (hheld hsame).trans (hheard _)⟩
  · exact ⟨_, exec_audioDomainSet hacc hcheck, setDomMode_mode (audioDomainSetCheck_mode hcheck) d s.begin, setDomMode_aud d mode s.begin,
      setDomMode_frame d mode s.begin⟩
  · exact ⟨_, exec_agroupSet hacc hcheck,
      (State.f_setF _ _ _ (by decide) (by decide)).trans (Nat.mod_eq_of_lt (Nat.lt_succ_of_le (agroupSetCheck_slip hcheck))),
      Writes.setReg (p := (· ∈ [Reg.audAgrpCfg g])) List.mem_cons_self _ s.begin⟩
  · obtain ⟨u, t, hrx, htx, heffect⟩ := sapSetEffect_directions o n mask ws s.begin
    exact ⟨u, t, hrx, htx, (exec_sapSet hacc hcheck).trans (congrArg Host.Outcome.next heffect)⟩
  · obtain ⟨hctrl, hlo, hhi, hsize⟩ := setTap_values (n := n) (audioTapSetCheck_ctrl hcheck) base size s.begin
    exact ⟨_, exec_audioTapSet hacc hcheck, hctrl, hlo, hhi, hsize, fun hon => setTap_enabled (s := s.begin) hon base size,
      fun hoff => setTap_goes_on (s := s.begin) hoff base size, setTap_frame n ctrl base size s.begin⟩
  · have hmask : cfg &&& 0xF = cfg := by simpa [hport] using aesSetCheck_fields hcheck
    refine ⟨aiTaken port cfg s.begin, aiTaken_cfg hmask _, fun hoff => aiTaken_unsynced hoff _, aiTaken_writes port cfg s.begin, ?_⟩
    rw [exec_aesSet hacc hcheck, aesSetEffect, if_pos hport, setAi_eq]
  · have hmask : cfg &&& 0xF3 = cfg := by simpa [Nat.not_lt.mpr hport] using aesSetCheck_fields hcheck
    obtain ⟨hparts, hregs⟩ := aoTaken_writes (port - 8) cfg data s.begin
    obtain ⟨hfirst, hsecond⟩ := aoTaken_aoCs (port - 8) cfg data s.begin
    refine ⟨aoTaken (port - 8) cfg data s.begin, ?_, aoTaken_cfg hmask _ _, aoTaken_enabled _ _ _ _, fun k hk => ⟨?_, ?_⟩, hparts,
      fun a hcfg hstatus hbytes => hregs a ?_⟩
    · rw [exec_aesSet hacc hcheck, aesSetEffect, if_neg (Nat.not_lt.mpr hport), hcs]
      rfl
    · rw [hfirst, csBytes_getD _ hk]
    · rw [hsecond, csBytes_getD _ hk]
      simp
    · rintro (h | h | ⟨sub, j, hj, h⟩)
      · exact hcfg h
      · exact hstatus h
      · obtain ⟨hA, hB⟩ := hbytes j hj
        cases sub
        · exact hA h
        · exact hB h
  · exact ⟨_, (exec_sapEnable hn hmay v).trans (congrArg Host.Outcome.next (sapDirWrite_closed (s := s.begin) hserving)), sapLast_shown n _ _, sapLast_writes n _ s.begin⟩
  · exact ⟨_, (exec_sapEnable hn hmay v).trans (congrArg Host.Outcome.next (sapDirWrite_refused (s := s.begin) hserving hrefuse)), sapLast_shown n st _,
      sapLast_writes n st s.begin⟩
  · exact ⟨_, (exec_sapEnable hn hmay v).trans (congrArg Host.Outcome.next (sapDirWrite_taken (s := s.begin) hserving hrefuse)),
      setSap_takesDirection n tx _ _ s.begin⟩

end Sys2Proof.Machine
end

section
/-! The statement on the audio events, which fails: CLK_LOST of a port's clock is also AUDIO_EVENT at the audio fid of the port's zone (R589),
and the statement's frame leaves the fids as they were. -/

namespace Sys2Proof.Machine

open Sys2Proof

/-- The part at reset but for the clock that SAP 0 receives, whose tracker is in ACQUIRE. -/
def acquiringClock : State := { State.reset with regs := [(Reg.audDomStatus 0x10, 1)] }

/-- Where no input is bound, a domain that is no AES3 input's has nothing to bring into line. -/
theorem refreshDomain_unbound {d : Nat} {s : State} (h : s.aud.amiBind = []) (hd : d < 0x30) : refreshDomain d s = s := by
  have hinput : ¬ (0x30 ≤ d ∧ d < 0x38) := by omega
  simp [refreshDomain, hinput, h]

/-- The loss of that clock is an event that the audio fid of zone 0 sees; no fid held one before (R493, R589). -/
theorem clkLost_audioEvent : ((doClkLost 0x10 acquiringClock.begin).fidOf 33).events = 2 ^ 5 ∧ (acquiringClock.fidOf 33).events = 0 := by
  decide

/-- Refutes O58: CLK_LOST of a serial receiver in ACQUIRE raises AUDIO_EVENT at the audio fid of its zone, while the statement says that nothing
differs but registers and what is reported to hosts. -/
theorem not_audioEvents : ¬ Obligations.AudioEvents := by
  intro h
  obtain ⟨hlost, -⟩ := h acquiringClock
  obtain ⟨-, hcounts⟩ := hlost 0x10 (by decide)
  obtain ⟨u, hexec, -, -, -, haud, hparts, -⟩ := hcounts (by decide) (.inl (by decide))
  have hbound : u.aud.amiBind = [] := by rw [haud]; rfl
  have hu : doClkLost 0x10 acquiringClock.begin = u :=
    (Host.Outcome.next.inj hexec).trans (refreshDomain_unbound hbound (by decide))
  have hfid : u.fid = acquiringClock.fid := by rw [hparts]
  obtain ⟨hafter, hbefore⟩ := clkLost_audioEvent
  have hsame : (u.fidOf 33).events = (acquiringClock.fidOf 33).events := by rw [State.fidOf, hfid]; rfl
  rw [hu, hsame, hbefore] at hafter
  exact absurd hafter (by decide)

end Sys2Proof.Machine
end
